-- ==== Sys2Proof/Word.lean ====
section
/-! DEFINITION. The words of the SL192: 12-bit words, 24-bit addresses, 36-bit accumulators ("Words, numbers and units",
spec/00_scope.md). -/
namespace Sys2Proof

/-- A word is 12 bits. -/
abbrev Word := BitVec 12
/-- A byte of a transport (R424). -/
abbrev Byte := BitVec 8
/-- A word address, and the contents of an address register X. -/
abbrev Addr := BitVec 24
/-- A lane accumulator. -/
abbrev Acc := BitVec 36

end Sys2Proof
end

