-- ==== Sys2Proof/Syntax.lean ====
section
/-! DEFINITION. The commands of the block: one constructor for each row of spec/opcode_table.json. The operands of a row that is a
write are its requester and what it writes; of a row that a measurement decides, the measured values; of an Evsum-12 instruction,
the core that executes it and the fields of its encoding. -/
namespace Sys2Proof

/-- Who makes an access (R38): core q (engine q div 2, core .a when q is even), DMA descriptor c of cluster k, the host, the debug
port. -/
inductive Requester
  | core (q : Fin 256)
  | dma (k : Fin 8) (c : Fin 32)
  | host
  | debug
  deriving DecidableEq, Repr

/-- R451: a heartbeat of the mirror link: the pair identity that it carries, the sender's device time, role B, device state (the code of PWR_STATE), epoch, SOLO state,
the active aspect of every group that has one and whether a demand holds it (R461), and the channels whose TFLT bit is 1. -/
structure Heartbeat where
  ident   : BitVec 32
  time    : BitVec 48
  roleB   : Bool
  state   : BitVec 3
  epoch   : Word
  solo    : Bool
  aspects : List (Fin 16 × Fin 64 × Bool)
  tflt    : List (Fin 192)
  deriving DecidableEq, Repr

/-- R488: a raw reading of a temperature input: a remote diode's voltage difference in nV and its forward voltage at 10 µA in mV, or an
NTC's ratio in 1/65,536. -/
inductive TempRaw
  | diode (dv v10 : Nat)
  | ntc (rho : BitVec 16)
  deriving DecidableEq, Repr

/-- The commands. Those with operands come first, the instructions of Evsum-12 after the others: Lean's compiler builds data only for
the first 245 constructors of a type that have operands, so that lists of the commands of the block itself compile. -/
inductive Instr

  /-- REGISTER_WRITE (R12): A write to a register word that has no row of its own: it is staged or takes effect, with the reserved-field, RWL and value checks applied. -/
  | registerWrite (r : Requester) (a : Addr) (w : Word)
  /-- MULTIWORD_READ_CAPTURE (R12): A read of the lowest word of a multi-word register captures the upper words for that requester. -/
  | multiwordReadCapture (r : Requester) (a : Addr)
  /-- DIE_LINK_FAILURE (R21): A die-to-die link loses alignment or fails three block checks, and the Safety Net drives that die's safe-state lines. -/
  | dieLinkFailure (d : Fin 4)
  /-- FABRIC_WAIT_EXCEEDED (R24): an engine access waits more than 4,096 fabric cycles and is recorded, then still completed. -/
  | fabricWaitExceeded (q : Fin 256)
  /-- FABRIC_RESPONSE (R318): read data returns from the fabric to a waiting core, and its arrival is agreed between the two cores. -/
  | fabricResponse (q : Fin 256) (differ : Bool)
  /-- CONVERTER_SAMPLE (R56): A channel's current and voltage conversion completes; the sample reaches the rolling mean and dark test, and is streamed to K0 and K1. -/
  | converterSample (n : Fin 192) (i v : Word)
  /-- SPOTLIGHT_SAMPLE (R173): an optical input completes a conversion, and the sample is streamed to K0 and K1. -/
  | spotlightSample (i : Fin 32) (x : BitVec 16) (test : Bool)
  /-- CRYSTAL_LOST (R30): the clock monitor finds the crystal count off by more than 4, and the device enters SAFE. -/
  | crystalLost (count : Nat)
  /-- ALWAYS_ON_CLOCK_LOST (R31): the fabric-clocked monitor declares the always-on clock lost, and the device enters SAFE. -/
  | alwaysOnClockLost (count : Nat)
  /-- RC_WATCHDOG_EXPIRY (R31): A channel die sees no always-on tick for 2 µs and sets all 48 of its safe-state latches. -/
  | rcWatchdogExpiry (d : Fin 4)
  /-- CLUSTER_START_COMPLETE (R32): A started cluster's clock runs, with its PLL locked and any retained state restored and checked against PWR_GEN. -/
  | clusterStartComplete (k : Fin 8) (fails : List (Fin 16 × Fin 64))
  /-- VDRV_FAIL (R53): VDRV at a die falls below 8.6 V, and every gate of the die turns off. -/
  | vdrvFail (d : Fin 4)
  /-- VDRV_RECOVER (R53): VDRV at a die has been good for 1 ms, and its channels resume their highest active source. -/
  | vdrvRecover (d : Fin 4)
  /-- VDRV_GOOD (R52): VDRV rises above 9.0 V, and the active clamps hold the gates low. -/
  | vdrvGood (d : Fin 4)
  /-- BOOTSTRAP_UNDER_VOLTAGE (R54): BST − SW falls below 7.0 V, and HG turns off and is recorded. -/
  | bootstrapUnderVoltage (n : Fin 192)
  /-- BOOTSTRAP_RECOVER (R54): BST − SW exceeds 7.5 V, and HG is released. -/
  | bootstrapRecover (n : Fin 192)
  /-- CHANNEL_ENABLE (R55): A write of CHn_CFG.EN is checked against QG and PER, and an enable sets the period reference. -/
  | channelEnable (r : Requester) (n : Fin 192) (en : Bool)
  /-- TOPO_WRITE (R96): A write of CHn_CFG.TOPO sets the topology and adjusts PER and PHASE to the new range. -/
  | topoWrite (r : Requester) (n : Fin 192) (topo : Fin 4)
  /-- RANGE_CHANGE (R59): A write of a new CHn_SENSE.RANGE starts or restarts an 8 µs range hold. -/
  | rangeChange (r : Requester) (n : Fin 192) (range : Bool)
  /-- RANGE_HOLD_END (R59): A range hold ends, and deferred shadow values apply at the next boundary. -/
  | rangeHoldEnd (n : Fin 192)
  /-- BK_LOOP_UPDATE (R61): the buck regulator computes its error, integral and duty once per switching period. -/
  | bkLoopUpdate (n : Fin 192) (iavg : Int)
  /-- CYCLE_BY_CYCLE_LIMIT (R63): the shunt voltage exceeds the limit in force, and HG turns off for the rest of the period. -/
  | cycleByCycleLimit (n : Fin 192) (mv2 : Nat)
  /-- OVER_CURRENT (R63): limit actions in N consecutive periods latch all of a channel's gates off. -/
  | overCurrent (n : Fin 192)
  /-- DESATURATION (R63): VDS of the conducting FET stays above threshold for 100 ns; soft-off and a latched trip follow. -/
  | desaturation (n : Fin 192) (vds since : Nat)
  /-- RAMP_SHORT (R63): the shunt voltage rises past the ramp-short criterion; soft-off and a latched trip follow. -/
  | rampShort (n : Fin 192) (mv2 rate : Nat)
  /-- ADJRUN (R71): firmware starts the adjacency test of a TRIPPED or zero-duty channel. -/
  | adjrun (r : Requester) (n : Fin 192)
  /-- ADJACENCY_TEST_END (R72): the adjacency test completes, and a short to a neighbour flags and latches both channels. -/
  | adjacencyTestEnd (n : Fin 192) (an a0 a1 dn d0 d1 : Nat)
  /-- FLT_CLEAR (R65): firmware clears CHn_FLT bits, and clearing every latched verdict releases TRIPPED. -/
  | fltClear (r : Requester) (n : Fin 192) (bits : Word)
  /-- INRUSH_WINDOW_END (R68): an inrush window ends, and the normal limit and over-current counting resume. -/
  | inrushWindowEnd (n : Fin 192)
  /-- KICK (R75): A write to CHn_KICK refreshes the lease when it carries the expected key from the owner. -/
  | kick (r : Requester) (n : Fin 192) (key : Word)
  /-- LEASE_EXPIRY (R76): A lease timer reaches zero, and the channel's safe-state latch sets with cause LEASE. -/
  | leaseExpiry (n : Fin 192)
  /-- OWNER_WRITE (R77): A write to CHn_OWNER is accepted or refused; acceptance reloads the lease and ends a freeze. -/
  | ownerWrite (r : Requester) (n : Fin 192) (w : Word)
  /-- LHOLD_WRITE (R78): A write of CHn_LEASE.LHOLD sets or clears expiry suppression; clearing at zero expires the lease. -/
  | lholdWrite (r : Requester) (n : Fin 192) (v : Bool)
  /-- LBUS_FAIL (R86): LBUS stays outside 8.0 V to 60.0 V for 10 µs, and every gate of its die turns off. -/
  | lbusFail (d : Fin 4)
  /-- LBUS_RECOVER (R86): LBUS has stayed in range for 1 ms, and its die's channels resume. -/
  | lbusRecover (d : Fin 4)
  /-- CHANNEL_RESET (R94): CHn_CMD.CRST turns the gates off and returns the channel's RW fields and counters to reset. -/
  | channelReset (r : Requester) (n : Fin 192)
  /-- PER_WRITE (R96): A write of CHn_PER is checked for range, phase and budget, and then waits for the next boundary. -/
  | perWrite (r : Requester) (n : Fin 192) (v : BitVec 24)
  /-- DIM_WRITE (R99): A write of CHn_DIM sets the resolution, which waits for a boundary, and the minimum-pulse mode. -/
  | dimWrite (r : Requester) (n : Fin 192) (w : Word)
  /-- PHASE_WRITE (R116): A write of CHn_PHASE is checked against PER and takes effect at the next boundary. -/
  | phaseWrite (r : Requester) (n : Fin 192) (v : BitVec 24)
  /-- EDGE_TIMING_WRITE (R100): A write of DTR, DTF, MINH or MINL is refused when it breaks the quarter-period budget. -/
  | edgeTimingWrite (r : Requester) (n : Fin 192) (which : Fin 4) (w : Word)
  /-- ALIGN_WRITE (R121): A write of CHn_ALN.ALIGN is accepted only when the frame length is a multiple of PER. -/
  | alignWrite (r : Requester) (n : Fin 192) (align : Bool)
  /-- CODE_WRITE (R115): A write of CHn_CODE sets the spreading code and restarts chip 0 where required. -/
  | codeWrite (r : Requester) (n : Fin 192) (w : Word)
  /-- CIDX_WRITE (R115): A write of CHn_CIDX selects the Gold code and restarts chip 0. -/
  | cidxWrite (r : Requester) (n : Fin 192) (w : Word)
  /-- CAPTURE_POINT (R107): 20 ns before a boundary the generator takes the period's values and computes on-time, residue and chip. -/
  | capturePoint (n : Fin 192)
  /-- PERIOD_BOUNDARY (R97): A new period begins, HG rises where due, and pending PER, RES or PHASE changes take effect. -/
  | periodBoundary (n : Fin 192)
  /-- ON_TIME_END (R97): the period's on-time ends, and HG falls and the falling dead time begins. -/
  | onTimeEnd (n : Fin 192)
  /-- DEAD_TIME_END (R104): A dead time ends, and the complementary gate may rise. -/
  | deadTimeEnd (n : Fin 192)
  /-- CHIP_BOUNDARY (R114): A BK channel's chip period ends, and the next code chip comes into force. -/
  | chipBoundary (n : Fin 192)
  /-- CCLR (R110): CHn_ECMD.CCLR clears the channel's SUPC, STRC, DITC and BLKC counts. -/
  | cclr (r : Requester) (n : Fin 192)
  /-- RCLR (R108): CHn_ECMD.RCLR clears the residue at the next capture point. -/
  | rclr (r : Requester) (n : Fin 192)
  /-- SYNCI_PULSE (R117): A pulse at SYNCI is classified by its width, then accepted, forwarded or rejected. -/
  | synciPulse (rise width : Nat)
  /-- FREEZE_LG_OFF (R124): during a freeze the BK shunt voltage falls below 0 mV, and LG turns off. -/
  | freezeLgOff (n : Fin 192)
  /-- SHADOW_WRITE (R128): A write to CHn_SDUTY, CHn_SREF or CHn_SCTL marks the shadow set pending, subject to the gate-power budget. -/
  | shadowWrite (r : Requester) (n : Fin 192) (which : Fin 3) (v : BitVec 24)
  /-- APPLY (R130): CHn_SCMD.APPLY moves the pending shadow set into the applied values. -/
  | apply (r : Requester) (n : Fin 192)
  /-- DISCARD (R133): CHn_SCMD.DISCARD clears the pending shadow set. -/
  | discard (r : Requester) (n : Fin 192)
  /-- HAND_OVER_STEP (R154): every 10 µs a hand-over moves the applied value one step toward the new controller's value. -/
  | handOverStep (n : Fin 192)
  /-- LOCAL_SYNC_REQUEST (R135): SN_SYNCREQ.LOCAL schedules an internal SYNC broadcast 1 µs later. -/
  | localSyncRequest (r : Requester)
  /-- CHAIN_SYNC_REQUEST (R135): SN_SYNCREQ.CHAIN on a master emits a SYNC broadcast on SYNCO. -/
  | chainSyncRequest (r : Requester)
  /-- TSYNC_ARM (R136): SN_TSCMD.ARM schedules a local tagged broadcast at SN_TSYNC. -/
  | tsyncArm (r : Requester)
  /-- TSYNC (R137): A time-tagged SYNC frame from a broadcast source is scheduled, acted on at once, or discarded. -/
  | tsync (tr : Fin 8) (via : BitVec 128) (frame : List Byte) (agree : Bool)
  /-- ASPECT_REQUEST (R140): A write of SN_AGREQg requests an aspect, which is checked and may replace a pending request. -/
  | aspectRequest (r : Requester) (g : Fin 16) (w : Word)
  /-- GROUP_APPLY (R142): A write of SN_AAPPLY takes the named groups for one action instant. -/
  | groupApply (r : Requester) (mask : BitVec 16)
  /-- SEQUENCER_START (R151): CAR_CTL.START zeroes the tracks and starts the sequencer at ENTRY, within the gate-power budget. -/
  | sequencerStart (r : Requester) (d : Fin 4) (s : Fin 3)
  /-- SEQUENCER_STOP (R151): CAR_CTL.STOP stops the sequencer and zeroes its tracks. -/
  | sequencerStop (r : Requester) (d : Fin 4) (s : Fin 3)
  /-- SYNCST (R151): CAR_CTL.SYNCST arms a sequencer start at the next SYNC action instant. -/
  | syncst (r : Requester) (d : Fin 4) (s : Fin 3)
  /-- LVL (R149): A sequencer sets a track to a level and ends any ramp on it. -/
  | lvl (d : Fin 4) (s : Fin 3)
  /-- RMP (R149): A sequencer starts a ramp of a track toward a target over n units. -/
  | rmp (d : Fin 4) (s : Fin 3)
  /-- RAMP_STEP (R149): at a unit boundary a ramping track takes its next level. -/
  | rampStep (d : Fin 4) (s : Fin 3) (t : Fin 8)
  /-- PATTERN_WAIT (R149): A sequencer waits n time units, or until SYNC when S = 1. -/
  | patternWait (d : Fin 4) (s : Fin 3)
  /-- PATTERN_WAIT_END (R148): A sequencer's WAIT ends at its n-th unit boundary. -/
  | patternWaitEnd (d : Fin 4) (s : Fin 3)
  /-- ROT (R149): A sequencer rotates levels among the tracks set in MASK. -/
  | rot (d : Fin 4) (s : Fin 3)
  /-- PATTERN_LOOP (R149): A sequencer pushes a loop count, or skips the body when n = 0. -/
  | patternLoop (d : Fin 4) (s : Fin 3)
  /-- NEXT (R149): A sequencer decrements the innermost loop count and repeats or pops. -/
  | next (d : Fin 4) (s : Fin 3)
  /-- JMP (R149): A sequencer continues at an address, or halts with H = 1. -/
  | jmp (d : Fin 4) (s : Fin 3)
  /-- APL (R149): A sequencer applies the pending shadow sets of its TRIG = 0b10 channels. -/
  | apl (d : Fin 4) (s : Fin 3)
  /-- ELECTRICAL_VERDICT_POST (R169): A write of CHn_EVER posts an electrical verdict, checked for requester and SEQ. -/
  | electricalVerdictPost (r : Requester) (n : Fin 192) (w : Word)
  /-- OPTICAL_VERDICT_POST (R175): A write of CHn_OVER posts an optical verdict, checked for requester and SEQ. -/
  | opticalVerdictPost (r : Requester) (n : Fin 192) (w : Word)
  /-- ASPECT_ERROR_REPORT (R185): A group that entered ERROR is reported under CL_PROOF within 2 ms. -/
  | aspectErrorReport (g : Fin 16)
  /-- ASPECT_REACTION (R186): within 1 ms of the report the Safety Net applies the failed aspect's REACT. -/
  | aspectReaction (g : Fin 16)
  /-- OPTICAL_DEGRADED (R183): spotlight is declared optical-degraded, and the applied CLOOP is cleared everywhere. -/
  | opticalDegraded (fails : BitVec 32)
  /-- GROUP_DEGRADED_TIMEOUT (R187): A group stays DEGRADED past the degraded-mode duration and goes to ERROR. -/
  | groupDegradedTimeout (g : Fin 16)
  /-- LATCH_RELEASE_REQUEST (R188): A keyed write of SN_LCLR requests release of a channel's safe-state latch at the next tick. -/
  | latchReleaseRequest (r : Requester) (ch : BitVec 8) (key : Word)
  /-- CODE_BALANCE_QUERY (R172): A write of SPT_CBIDX makes SPT_CBAL read n1 − n0 for that index. -/
  | codeBalanceQuery (r : Requester) (w : Word)
  /-- INPUT_RANGE_WRITE (R173): A change of SPT_INCFGi.FS marks that input's samples invalid for 8 µs. -/
  | inputRangeWrite (r : Requester) (i : Fin 32) (w : Word)
  /-- SPOTLIGHT_SATURATION (R174): four samples at or above 0xFC00 saturate an input, which may step up its range. -/
  | spotlightSaturation (i : Fin 32)
  /-- RANGE_STEP_DOWN (R174): after 1 s of low ambient an auto-ranging input steps back down. -/
  | rangeStepDown (i : Fin 32)
  /-- DWELL_START (R199): A receiver starts a dwell on its next slot with a loopback self-check and then the probe. -/
  | dwellStart (r : Fin 24) (pass : Bool)
  /-- DWELL_END (R203): A dwell ends, and its 8-word dwell record is delivered. -/
  | dwellEnd (r : Fin 24)
  /-- SWEEP_START (R207): A sweep window begins for a receiver under the patrol or vigil schedule. -/
  | sweepStart (r : Fin 24)
  /-- SWEEP_WAKE (R209): 100 µs before a cluster's first dwell the scheduler requests its start. -/
  | sweepWake (k : Fin 8) (fails : Bool)
  /-- FINDING_POST (R214): A write of TRP_FPOST posts a harness finding, which is recorded or refused. -/
  | findingPost (r : Requester) (v : BitVec 24)
  /-- MIRROR_ACK (R304): the partner acknowledges mirror writes, which may complete a waiting FENCE.M. -/
  | mirrorAck (q : Fin 256) (n : Nat)
  /-- MIRROR_ACK_TIMEOUT (R307): no acknowledgement within 100 µs completes the fence with MIRFAIL. -/
  | mirrorAckTimeout (q : Fin 256)
  /-- INTERRUPT (R289): at an interrupt point with IE = 1 an enabled pending line is entered. -/
  | interrupt (q : Fin 256)
  /-- TIMER_EXPIRY (R230): TMR steps from 1 to 0 and raises the timer line. -/
  | timerExpiry (q : Fin 256)
  /-- SOFT_INTERRUPT (R288): A write of PWR_ISETq.SOFT sets the SOFT line of a core, as a barrier write. -/
  | softInterrupt (r : Requester) (q : Fin 256) (soft : Bool)
  /-- INTERRUPT_CLEAR (R289): writing 1 to a PWR_IPENDq bit clears a pending line. -/
  | interruptClear (r : Requester) (q : Fin 256) (lines : Word)
  /-- DMA_GO (R296): DCMD.GO starts a MOVE or RING descriptor, or fails it with ERR = 3. -/
  | dmaGo (r : Requester) (k : Fin 8) (c : Fin 32)
  /-- DMA_STOP (R302): DCMD.STOP ends a descriptor after the word or record in progress. -/
  | dmaStop (r : Requester) (k : Fin 8) (c : Fin 32) (moved : List Nat)
  /-- MOVE_DONE (R297): A MOVE finishes its clipped copy and reads DONE or ERROR. -/
  | moveDone (k : Fin 8) (c : Fin 32) (order : List Nat)
  /-- RING_RECORD (R301): A stream record is written into a ring and WIDX advances, or the record is dropped. -/
  | ringRecord (k : Fin 8) (c : Fin 32) (raw : List Int)
  /-- RING_READ_INDEX (R301): firmware writes RIDX to consume ring records. -/
  | ringReadIndex (r : Requester) (k : Fin 8) (c : Fin 32) (v : BitVec 24)
  /-- SCRUB_PASS (R293): the patrol scrubber reads and corrects memory words. -/
  | scrubPass (m : Fin 265) (a : Addr) (err : Fin 3)
  /-- LOCKSTEP_MISMATCH (R314): the comparator finds a difference, and both cores stop. -/
  | lockstepMismatch (e : Fin 128) (g : Fin 64)
  /-- INPUT_FAULT (R320): input samples differ in four consecutive cycles, and the engine stops. -/
  | inputFault (e : Fin 128) (cycles : Nat)
  /-- TWIN_POST (R323): A twin posts a result to SN_TWRAt or SN_TWRBt, opening or closing a round. -/
  | twinPost (r : Requester) (t : Fin 64) (b : Bool) (v : BitVec 24)
  /-- ROUND_TIMEOUT (R324): SKEW elapses and a twin round closes one-posted. -/
  | roundTimeout (t : Fin 64)
  /-- CHECKPOINT_COMMIT (R329): A host engine commits a checkpoint half through PWR_CKCMTe. -/
  | checkpointCommit (r : Requester) (e : Fin 128) (w : Word)
  /-- SPARE_START (R330): the spare begins at PWR_TKVEC with G1 and G2 set. -/
  | spareStart (e : Fin 128)
  /-- TAKEOVER_DONE (R332): the spare writes DONE and becomes a HOST with no spare. -/
  | takeoverDone (r : Requester) (e : Fin 128)
  /-- WAIVE_END (R333): 100 µs after a twin replacement, one-posted rounds count again. -/
  | waiveEnd (t : Fin 64)
  /-- CLUSTER_LOST (R334): A lockstep cluster is declared lost, stopped, and its HOSTs taken over. -/
  | clusterLost (k : Fin 8) (cause : Fin 4)
  /-- SAFETY_INPUT_SAMPLE (R346): every 10 µs the Safety Net samples the SI pins and advances filters and function states. -/
  | safetyInputSample (high low : BitVec 32)
  /-- TEST_PULSE (R349): A TP output pulses low at its slot in the test period. -/
  | testPulse (k : Fin 8) (follows : Bool)
  /-- TEST_PULSE_CHECK (R350): at TPW − 25 µs the inputs fed by the pulse are checked. -/
  | testPulseCheck (k : Fin 8) (level : BitVec 32)
  /-- DISCREPANCY (R352): A pair stays MIXED longer than DISC, and a discrepancy is declared. -/
  | discrepancy (p : Fin 32)
  /-- ENGINE_CHANNEL_STALE (R357): no twin round closes for 2 ms in RUN, and the engine channel is stale. -/
  | engineChannelStale (f : Fin 24)
  /-- CROSS_CHECK_FAULT (R358): the two channels disagree for 20 ms, and the function goes to FAULT. -/
  | crossCheckFault (f : Fin 24)
  /-- TWOHAND_TIMEOUT (R365): the second hand is not actuated within 500 ms, and TWOHAND goes to LOCK. -/
  | twohandTimeout (f : Fin 24)
  /-- LAMP_FAILURE_CLEAR (R367): an aspect's group has been PROVEN for 1 s, and its lamp-failure signal falls. -/
  | lampFailureClear (a : Fin 64)
  /-- FUNCTION_RESET (R369): A keyed write of SN_FNRST puts a function in INIT. -/
  | functionReset (r : Requester) (w : Word)
  /-- OUTPUT_REQUEST (R371): A write of SN_OUTREQ sets the SO and STO requests. -/
  | outputRequest (r : Requester) (w : Word)
  /-- OUTPUT_TEST_PULSE (R372): an energised SO switch is pulsed off, and its readback is tested. -/
  | outputTestPulse (k : Fin 8) (b fell : Bool)
  /-- OUTPUT_READBACK (R372): every 10 ms a de-energised SO's readback is checked. -/
  | outputReadback (k : Fin 8) (high : Bool)
  /-- STO_TEST_PULSE (R374): STOA_N pulses low every 500 ms, and both lines are read back. -/
  | stoTestPulse (a b : Bool)
  /-- ADREQ_HOLD_END (R375): ADREQ's 100 ms minimum high time ends. -/
  | adreqHoldEnd (readback : Bool)
  /-- STOP_TIMEOUT (R376): T1 elapses, and a category 1 stop ends. -/
  | stopTimeout (f : Fin 24)
  /-- DEGRADED_EXPIRY (R382): SN_DGREMf reaches 0, and the function goes to FAULT with FCAUSE expired. -/
  | degradedExpiry (f : Fin 24)
  /-- SWITCH_READ (R384): the seal switches are strobed in four phases, and faults or changes are recorded. -/
  | switchRead (p0 p1 p2 p3 : BitVec 16)
  /-- SEAL_CHECK (R391): SEAL_CMD.CHECK repeats the image checks in MAINT and updates SEAL_CRC and SEAL_CODE. -/
  | sealCheck (r : Requester)
  /-- COLLECTOR_SELF_CHECK_FAIL (R407): the collector's register copies disagree or hold an uncorrectable error, raising S4. -/
  | collectorSelfCheckFail (src : Fin 3)
  /-- TOKEN_REFILL (R410): A token bucket gains a token, which may emit a storm record. -/
  | tokenRefill (c : Fin 12) (src : Word)
  /-- ACKNOWLEDGE (R404): A write of FC_ACK closes the open events of a class. -/
  | acknowledge (r : Requester) (c : Fin 16) (all : Bool) (seq : Word)
  /-- FIRST_FAULT_CLEAR (R403): FC_FCLR.CLR clears FC_FIRST and MAXSEV. -/
  | firstFaultClear (r : Requester)
  /-- ERRN_WRITE (R415): A write of FC_ERRN.FWLOW sets ERR_N's level outside hardware pulses. -/
  | errnWrite (r : Requester) (low : Bool)
  /-- SAFE_OK_KICK (R417): FC_SOK.KICK records a firmware kick. -/
  | safeOkKick (r : Requester)
  /-- RETRY (R420): A write of FC_RETRY counts a rung-1 retry. -/
  | retry (r : Requester) (c : Fin 16) (src : Word)
  /-- DATA (R438): A checked DATA frame updates input slots and restarts the watchdog. -/
  | data (tr : Fin 8) (via : BitVec 128) (frame : List Byte) (agree : Bool)
  /-- JOIN (R441): A JOIN frame is admitted with ACCEPT or refused with REFUSE. -/
  | join (tr : Fin 8) (via : BitVec 128) (frame : List Byte) (agree : Bool)
  /-- ACCEPT (R442): an ACCEPT frame opens the device's own connection. -/
  | accept (tr : Fin 8) (via : BitVec 128) (frame : List Byte) (agree : Bool)
  /-- REFUSE (R442): A REFUSE frame leaves the connection JOINING. -/
  | refuse (tr : Fin 8) (via : BitVec 128) (frame : List Byte) (agree : Bool)
  /-- LEAVE (R443): A LEAVE frame closes its connection and invalidates its slots. -/
  | leave (tr : Fin 8) (via : BitVec 128) (frame : List Byte) (agree : Bool)
  /-- STILL (R376): A standstill report from the STILL source ends a category 1 stop. -/
  | still (tr : Fin 8) (via : BitVec 128) (frame : List Byte) (agree : Bool)
  /-- CONNECTION_WATCHDOG (R435): A connection's TEXP watchdog runs out, and it becomes LOST. -/
  | connectionWatchdog (c : Fin 64)
  /-- DATA_SEND (R437): A periodic DATA frame is sent on a producing connection. -/
  | dataSend (c : Fin 64)
  /-- TX_COMMIT (R437): KSF_TXc.COMMIT takes the payload for the next frame. -/
  | txCommit (r : Requester) (c : Fin 64)
  /-- TX_SEND (R437): KSF_TXc.SEND sends one further frame at once. -/
  | txSend (r : Requester) (c : Fin 64)
  /-- TSYNC_SEND (R439): KSF_TSSEND sends a TSYNC frame on a connection or is refused. -/
  | tsyncSend (r : Requester) (c : Fin 64)
  /-- JOIN_RETRY (R442): every 100 ms an INIT entry resends JOIN. -/
  | joinRetry (e : Fin 32)
  /-- OPEN_COMMAND (R442): KSF_OPEN sends an INIT entry's JOIN at once. -/
  | openCommand (r : Requester) (e : Fin 32)
  /-- CLOSE_COMMAND (R443): KSF_CLOSE sends LEAVE and closes a connection. -/
  | closeCommand (r : Requester) (c : Fin 64)
  /-- BUS_OFF (R429): A CAN FD controller reaches bus-off and later recovers. -/
  | busOff (k : Fin 4)
  /-- ETHERNET_LINK_DOWN (R430): A PHY link is lost and recorded. -/
  | ethernetLinkDown (m : Fin 2)
  /-- TIME_MEASUREMENT (R446): A time-source offset measurement adjusts device time and lock. -/
  | timeMeasurement (ofs : BitVec 24)
  /-- HEARTBEAT (R451): A valid heartbeat is received, and epochs, TFLT and time are updated. -/
  | heartbeat (ok : Bool) (hb : Heartbeat) (delay : Word)
  /-- TFLT_CLEAR (R457): TFLT has been 0 for 100 ms, and DBL clears through a hand-over. -/
  | tfltClear (n : Fin 192)
  /-- MIRROR_WRITE (R450): A mirrored write arrives from the partner and is performed. -/
  | mirrorWrite (a : Addr) (w : Word)
  /-- MIRROR_TRANSFER_BLOCK (R460): A full-transfer block arrives and is checked or requested again. -/
  | mirrorTransferBlock (b : Fin 2048) (data : List Word) (check : BitVec 32) (theirs : Bool)
  /-- REENTER (R461): MIR_CTL.REENTER is checked, and acceptance proposes a re-entry instant. -/
  | reenter (r : Requester)
  /-- ABORT (R460): MIR_CTL.ABORT restarts the full mirror transfer. -/
  | abort (r : Requester)
  /-- REENTRY_CONFIRM (R462): the partner's confirmation of the re-entry instant arrives, or fails to arrive. -/
  | reentryConfirm (t : BitVec 48) (ok : Bool)
  /-- ASPECT_DIFFERENCE (R464): A split group's aspect differs from the partner's for more than 10 ms. -/
  | aspectDifference (g : Fin 16)
  /-- SUPPLY_MONITOR (R469): every 100 µs the monitor converter measures every supply. -/
  | supplyMonitor (v : List Word)
  /-- HAND_OVER_COMMIT (R482): VIO low for 20 µs or VAON low commits the hand-over to backup. -/
  | handOverCommit (vaon : Bool)
  /-- SLEEP_ARM (R471): PWR_CTL.SLPARM arms entry into SLEEP. -/
  | sleepArm (r : Requester) (arm : Bool)
  /-- SLEEP_ENTRY (R472): with all conditions met, the device saves latches and the Sage snapshot and enters SLEEP. -/
  | sleepEntry (wake : BitVec 4) (vhold : Nat)
  /-- SLEEP_REFUSED (R471): 100 ms with a failing condition clear SLPARM and record the refusal. -/
  | sleepRefused (wake : BitVec 4)
  /-- WAKE (R473): an enabled WAKE input active for 100 µs ends SLEEP. -/
  | wake (level : BitVec 4)
  /-- CLUSTER_START (R475): PWR_CCMDk.START starts a cluster. -/
  | clusterStart (r : Requester) (k : Fin 8)
  /-- CLUSTER_IDLE_REQUEST (R477): PWR_CCMDk.IDLE requests idling, which may be refused. -/
  | clusterIdleRequest (r : Requester) (k : Fin 8)
  /-- CLUSTER_IDLE (R476): an idle condition is met, and the cluster enters retention or off. -/
  | clusterIdle (k : Fin 8)
  /-- TEMPERATURE_CONVERSION (R488): each millisecond every enabled temperature input is converted and validated. -/
  | temperatureConversion (raw : List (Fin 49 × TempRaw)) (ds : List Word)
  /-- RECORD_WRITE (R498): the record controller performs a checked write of a record, item or submission. -/
  | recordWrite (vhold : Nat)
  /-- ENERGY_RECHECK (R499): every 100 µs a deferred write's energy check is repeated. -/
  | energyRecheck (vhold : Nat)
  /-- SUBMISSION (R501): REC_SUBCMD.GO submits a block for record MRAM or is refused. -/
  | submission (r : Requester)
  /-- MARGIN_WALK (R507): sage's daily margin walk checks every flash group. -/
  | marginWalk (weak : List (Fin 256))
  /-- FLASH_REFRESH (R508): A due sector is copied to a spare, verified, remapped and erased. -/
  | flashRefresh (sector : Fin 256) (fails : Nat)
  /-- SOFT_RESET (R520): A keyed write of HIF_RST resets the device. -/
  | softReset (r : Requester) (key : Word)
  /-- POWER_CYCLE_REQUEST (R521): A keyed write of HIF_PCYC de-energises the outputs and drives PCYC_N. -/
  | powerCycleRequest (r : Requester) (key : Word)
  /-- START_UP (R523): the boot sequencer runs the start-up sequence to WATCH and RUN. -/
  | startUp (p0 p1 p2 p3 : BitVec 16) (crystal : Nat) (dieBad : BitVec 4) (fcBad snBad sig0 sig1 : Bool) (split : BitVec 8) (proof : List (Fin 128 × Fin 64))
  /-- RAISE (R528): HIF_BOOTCMD.RAISE sets OTP minimum-version bits in MAINT. -/
  | raise (r : Requester) (key : BitVec 7)
  /-- READ (R531): A host READ transaction prefetches and returns words. -/
  | read (a : Addr) (n arrived : Nat) (busy : Bool)
  /-- WRITE (R532): A host WRITE transaction performs words in address order. -/
  | write (a : Addr) (words : List Word) (incomplete busy : Bool)
  /-- HOST_DOORBELL (R533): A write of HIF_HDBm delivers a host mailbox message. -/
  | hostDoorbell (r : Requester) (m : Fin 4) (cnt : BitVec 6)
  /-- DEVICE_DOORBELL (R533): A write of HIF_DDBm delivers a device mailbox message. -/
  | deviceDoorbell (r : Requester) (m : Fin 4) (cnt : BitVec 6)
  /-- MAILBOX_CLEAR (R533): writing 1 to a doorbell's FULL consumes the message. -/
  | mailboxClear (r : Requester) (m : Fin 4) (dev : Bool)
  /-- ERASE (R535): HIF_FLCMD ERASE clears a flash sector in MAINT. -/
  | erase (r : Requester) (key : BitVec 8)
  /-- PROG (R535): HIF_FLCMD PROG writes and reads back flash words in MAINT. -/
  | prog (r : Requester) (key : BitVec 8)
  /-- FLASH_COMMAND_COMPLETE (R535): an erase or program finishes as DONE or FAILED. -/
  | flashCommandComplete (differ : Bool)
  /-- RETRAIN (R537): HIF_KLCTL.RETRAIN takes KL to DOWN and then TRAIN. -/
  | retrain (r : Requester)
  /-- KL_STATE_CHANGE (R537): KL advances through its bring-up states or times out. -/
  | klStateChange (good : Bool)
  /-- KL_LANE_FAIL (R538): one KL lane fails, and the link continues on the other. -/
  | klLaneFail (lane : Fin 2)
  /-- SAMPLE_PRELOAD (R539): JTAG SAMPLE/PRELOAD. -/
  | samplePreload (pins : Nat)
  /-- DBGAUTH (R540): debug unlock by a signed nonce. -/
  | dbgauth (valid : Bool)
  /-- DBGACC (R541): A debug-port read or write access at Update-DR. -/
  | dbgacc (op : Fin 4) (a : Addr) (d : Word)
  /-- DEBUG_REGISTER_WRITE (R544): A write of DBG_RDATA sets a halted engine's register. -/
  | debugRegisterWrite (v : BitVec 36)
  /-- DIE_LINK_REALIGNED (R188): A die-to-die link that had lost alignment regains alignment and passes its link check again. -/
  | dieLinkRealigned (d : Fin 4)
  /-- SO_OVERLOAD_TRIP (R372): the current limit of an energised safety output trips on overload, and the output is held de-energised until device reset. -/
  | soOverloadTrip (k : Fin 8)
  /-- ETHERNET_LINK_UP (R430): A MAC's PHY link comes up and KSF_ETHm.LINK is set. -/
  | ethernetLinkUp (m : Fin 2)
  /-- BUS_OFF_RECOVERY (R429): A bus-off CAN FD controller has seen 128 occurrences of 11 recessive bits, recovers and clears BOFF. -/
  | busOffRecovery (k : Fin 4)
  /-- HOST_UNKNOWN_COMMAND (R529): A host transaction opens with a command byte other than READ, WRITE or STATUS, is ignored until HCS_N rises, and sets HIF_STAT.PROTO. -/
  | hostUnknownCommand (c : BitVec 8)
  /-- CLASS_STORM_EMIT (R411): A class accumulator's REFILL period elapses and it emits a class storm record with source ID 0xFFF. -/
  | classStormEmit (c : Fin 12)
  /-- ILLEGAL (R236): an illegal opcode or encoding raises the ILLEGAL exception. -/
  | illegal (q : Fin 256)
  /-- ADD (R242): adds two registers modulo 4096 and sets the flags. -/
  | add (q : Fin 256) (rd rs1 rs2 : Fin 32)
  /-- ADC (R242): adds two registers and carry. -/
  | adc (q : Fin 256) (rd rs1 rs2 : Fin 32)
  /-- SUB (R242): subtracts with borrow flag. -/
  | sub (q : Fin 256) (rd rs1 rs2 : Fin 32)
  /-- SBC (R242): subtracts with borrow in. -/
  | sbc (q : Fin 256) (rd rs1 rs2 : Fin 32)
  /-- AND (R242): bitwise AND of two registers. -/
  | and (q : Fin 256) (rd rs1 rs2 : Fin 32)
  /-- OR (R242): bitwise OR of two registers. -/
  | or (q : Fin 256) (rd rs1 rs2 : Fin 32)
  /-- XOR (R242): bitwise XOR of two registers. -/
  | xor (q : Fin 256) (rd rs1 rs2 : Fin 32)
  /-- ANDN (R242): AND with the complement of the second operand. -/
  | andn (q : Fin 256) (rd rs1 rs2 : Fin 32)
  /-- ADDS (R242): saturating addition. -/
  | adds (q : Fin 256) (rd rs1 rs2 : Fin 32)
  /-- SUBS (R242): saturating subtraction. -/
  | subs (q : Fin 256) (rd rs1 rs2 : Fin 32)
  /-- NEG (R243): negation with −2048 giving −2048. -/
  | neg (q : Fin 256) (rd rs1 : Fin 32)
  /-- NEGS (R243): saturating negation. -/
  | negs (q : Fin 256) (rd rs1 : Fin 32)
  /-- ABS (R243): absolute value with −2048 giving −2048. -/
  | abs (q : Fin 256) (rd rs1 : Fin 32)
  /-- ABSS (R243): saturating absolute value. -/
  | abss (q : Fin 256) (rd rs1 : Fin 32)
  /-- MIN (R242): signed minimum. -/
  | min (q : Fin 256) (rd rs1 rs2 : Fin 32)
  /-- MAX (R242): signed maximum. -/
  | max (q : Fin 256) (rd rs1 rs2 : Fin 32)
  /-- SLL (R246): logical left shift by a register count. -/
  | sll (q : Fin 256) (rd rs1 rs2 : Fin 32)
  /-- SRL (R246): logical right shift by a register count. -/
  | srl (q : Fin 256) (rd rs1 rs2 : Fin 32)
  /-- SRA (R246): arithmetic right shift by a register count. -/
  | sra (q : Fin 256) (rd rs1 rs2 : Fin 32)
  /-- ROL (R247): rotate left by k mod 12. -/
  | rol (q : Fin 256) (rd rs1 rs2 : Fin 32)
  /-- ROR (R247): rotate right by k mod 12. -/
  | ror (q : Fin 256) (rd rs1 rs2 : Fin 32)
  /-- CLZ (R242): counts leading zero bits. -/
  | clz (q : Fin 256) (rd rs1 : Fin 32)
  /-- POPC (R242): counts one bits. -/
  | popc (q : Fin 256) (rd rs1 : Fin 32)
  /-- SHI_SLL (R246): logical left shift by an immediate count. -/
  | shiSll (q : Fin 256) (rd rs1 : Fin 32) (k : Fin 32)
  /-- SHI_SRL (R246): logical right shift by an immediate count. -/
  | shiSrl (q : Fin 256) (rd rs1 : Fin 32) (k : Fin 32)
  /-- SHI_SRA (R246): arithmetic right shift by an immediate count. -/
  | shiSra (q : Fin 256) (rd rs1 : Fin 32) (k : Fin 32)
  /-- SHI_ROL (R247): rotate left by an immediate count. -/
  | shiRol (q : Fin 256) (rd rs1 : Fin 32) (k : Fin 32)
  /-- SHI_ROR (R247): rotate right by an immediate count. -/
  | shiRor (q : Fin 256) (rd rs1 : Fin 32) (k : Fin 32)
  /-- MUL (R244): low 12 bits of the signed product. -/
  | mul (q : Fin 256) (rd rs1 rs2 : Fin 32)
  /-- MULH (R244): high 12 bits of the signed product. -/
  | mulh (q : Fin 256) (rd rs1 rs2 : Fin 32)
  /-- MULHU (R244): high 12 bits of the unsigned product. -/
  | mulhu (q : Fin 256) (rd rs1 rs2 : Fin 32)
  /-- MULQ (R244): rounded, saturating fractional product. -/
  | mulq (q : Fin 256) (rd rs1 rs2 : Fin 32)
  /-- DIV (R245): signed division toward zero, with divide-by-zero handling. -/
  | div (q : Fin 256) (rd rs1 rs2 : Fin 32)
  /-- DIVS (R245): saturating signed division. -/
  | divs (q : Fin 256) (rd rs1 rs2 : Fin 32)
  /-- DIVU (R245): unsigned division. -/
  | divu (q : Fin 256) (rd rs1 rs2 : Fin 32)
  /-- REM (R245): signed remainder. -/
  | rem (q : Fin 256) (rd rs1 rs2 : Fin 32)
  /-- REMU (R245): unsigned remainder. -/
  | remu (q : Fin 256) (rd rs1 rs2 : Fin 32)
  /-- ADDI (R242): adds a sign-extended immediate. -/
  | addi (q : Fin 256) (rd rs1 : Fin 32) (imm : BitVec 8)
  /-- SUBI (R242): subtracts a sign-extended immediate. -/
  | subi (q : Fin 256) (rd rs1 : Fin 32) (imm : BitVec 8)
  /-- ANDI (R242): AND with a sign-extended immediate. -/
  | andi (q : Fin 256) (rd rs1 : Fin 32) (imm : BitVec 8)
  /-- ORI (R242): OR with a sign-extended immediate. -/
  | ori (q : Fin 256) (rd rs1 : Fin 32) (imm : BitVec 8)
  /-- XORI (R242): XOR with a sign-extended immediate. -/
  | xori (q : Fin 256) (rd rs1 : Fin 32) (imm : BitVec 8)
  /-- ADDSI (R242): saturating add of an immediate. -/
  | addsi (q : Fin 256) (rd rs1 : Fin 32) (imm : BitVec 8)
  /-- MOVI (R242): loads a sign-extended 12-bit immediate. -/
  | movi (q : Fin 256) (rd : Fin 32) (imm : Word)
  /-- LD (R248): loads one word from Xs plus an offset. -/
  | ld (q : Fin 256) (rd : Fin 32) (xs : Fin 8) (off : BitVec 10)
  /-- ST (R248): stores one word to Xs plus an offset. -/
  | st (q : Fin 256) (rs : Fin 32) (xs : Fin 8) (off : BitVec 10)
  /-- LDP (R248): loads one word and post-increments Xs. -/
  | ldp (q : Fin 256) (rd : Fin 32) (xs : Fin 8) (off : BitVec 10)
  /-- STP (R248): stores one word and post-increments Xs. -/
  | stp (q : Fin 256) (rs : Fin 32) (xs : Fin 8) (off : BitVec 10)
  /-- LDX (R249): loads a 24-bit address register from two words. -/
  | ldx (q : Fin 256) (xd xs : Fin 8) (off : BitVec 10)
  /-- STX (R249): stores a 24-bit address register to two words. -/
  | stx (q : Fin 256) (xd xs : Fin 8) (off : BitVec 10)
  /-- VLD (R254): loads 32 lane words into a vector register. -/
  | vld (q : Fin 256) (vd : Fin 16) (p : Bool) (xs : Fin 8) (off : BitVec 10)
  /-- VST (R254): stores 32 lane words from a vector register. -/
  | vst (q : Fin 256) (vs : Fin 16) (p : Bool) (xs : Fin 8) (off : BitVec 10)
  /-- XADDI (R250): adds an immediate to an address register. -/
  | xaddi (q : Fin 256) (xd xs : Fin 8) (imm : Word)
  /-- XADD (R250): adds a sign-extended register to an address register. -/
  | xadd (q : Fin 256) (xd xs : Fin 8) (r : Fin 32)
  /-- XADDU (R250): adds a zero-extended register to an address register. -/
  | xaddu (q : Fin 256) (xd xs : Fin 8) (r : Fin 32)
  /-- XGETL (R250): reads the low half of an address register. -/
  | xgetl (q : Fin 256) (r : Fin 32) (xs : Fin 8)
  /-- XGETH (R250): reads the high half of an address register. -/
  | xgeth (q : Fin 256) (r : Fin 32) (xs : Fin 8)
  /-- XSETL (R250): sets the low half of an address register. -/
  | xsetl (q : Fin 256) (xd : Fin 8) (r : Fin 32)
  /-- XSETH (R250): sets the high half of an address register. -/
  | xseth (q : Fin 256) (xd : Fin 8) (r : Fin 32)
  /-- XCMP (R250): compares two address registers and sets the flags. -/
  | xcmp (q : Fin 256) (xd xs : Fin 8)
  /-- XMOV (R250): copies one address register to another. -/
  | xmov (q : Fin 256) (xd xs : Fin 8)
  /-- BR (R257): conditional branch with a delay slot. -/
  | br (q : Fin 256) (cond : Fin 15) (disp : BitVec 14)
  /-- CALL (R260): relative call that writes X0, with a delay slot. -/
  | call (q : Fin 256) (disp : BitVec 18)
  /-- JMPX (R260): jumps to an address register. -/
  | jmpx (q : Fin 256) (xs : Fin 8)
  /-- CALLX (R260): calls an address register. -/
  | callx (q : Fin 256) (xs : Fin 8)
  /-- RET (R260): returns to X0. -/
  | ret (q : Fin 256)
  /-- RETE (R285): returns from an exception, restoring PS and the window. -/
  | rete (q : Fin 256)
  /-- FRAME (R225): opens a register window frame or raises window overflow. -/
  | frame (q : Fin 256)
  /-- UNFRAME (R225): closes a frame and restores X0 from LK, or raises window underflow. -/
  | unframe (q : Fin 256)
  /-- LCLR (R264): sets the loop count LC to 0. -/
  | lclr (q : Fin 256)
  /-- LOOP (R262): sets up a hardware loop with a register count. -/
  | loop (q : Fin 256) (rs : Fin 32) (disp : BitVec 13)
  /-- LOOPI (R262): sets up a hardware loop with an immediate count. -/
  | loopi (q : Fin 256) (count : Word) (disp : BitVec 6)
  /-- MFS (R268): copies a special register to a register. -/
  | mfs (q : Fin 256) (r : Fin 32) (sr : Fin 64)
  /-- MTS (R268): copies a register to a special register. -/
  | mts (q : Fin 256) (r : Fin 32) (sr : Fin 64)
  /-- SVC (R269): raises the SVC exception. -/
  | svc (q : Fin 256) (imm : BitVec 8)
  /-- BKPT (R269): raises the BKPT exception, or halts under debug. -/
  | bkpt (q : Fin 256) (imm : BitVec 8)
  /-- WAIT (R269): stops fetching until an interrupt is pending or TMR reaches 0. -/
  | wait (q : Fin 256)
  /-- WAIT_WAKE (R269): A pending line or timer ends a WAIT, which then completes. -/
  | waitWake (q : Fin 256)
  /-- MODE_TK (R267): changes to task mode after a one-instruction shadow. -/
  | modeTk (q : Fin 256)
  /-- MODE_SV (R267): MODE SV, which changes nothing in SV and faults in TK. -/
  | modeSv (q : Fin 256)
  /-- FENCE_L (R306): waits until earlier engine-local accesses are performed. -/
  | fenceL (q : Fin 256)
  /-- FENCE_G (R306): waits until earlier class-G accesses are performed. -/
  | fenceG (q : Fin 256)
  /-- FENCE_IO (R306): waits until earlier class-IO accesses are performed. -/
  | fenceIo (q : Fin 256)
  /-- FENCE_M (R307): waits until earlier mirror writes are acknowledged by the partner. -/
  | fenceM (q : Fin 256)
  /-- XCOR (R274): correlates data against a code reference, 32 lags at a time. -/
  | xcor (q : Fin 256) (a : Fin 4) (rs : Fin 32) (clr ref w : Bool) (run : Nat)
  /-- BMOV (R275): copies a block of words in ascending order. -/
  | bmov (q : Fin 256) (rs : Fin 32) (run : Nat)
  /-- KCRC (R276): computes the KSF check value over a block of words. -/
  | kcrc (q : Fin 256) (a : Fin 4) (rs : Fin 32) (run : Nat)
  /-- VADD (R252): lane-wise modular addition. -/
  | vadd (q : Fin 256) (vd vs1 vs2 : Fin 16)
  /-- VSUB (R252): lane-wise modular subtraction. -/
  | vsub (q : Fin 256) (vd vs1 vs2 : Fin 16)
  /-- VADDS (R252): lane-wise saturating addition. -/
  | vadds (q : Fin 256) (vd vs1 vs2 : Fin 16)
  /-- VSUBS (R252): lane-wise saturating subtraction. -/
  | vsubs (q : Fin 256) (vd vs1 vs2 : Fin 16)
  /-- VAND (R252): lane-wise AND. -/
  | vand (q : Fin 256) (vd vs1 vs2 : Fin 16)
  /-- VOR (R252): lane-wise OR. -/
  | vor (q : Fin 256) (vd vs1 vs2 : Fin 16)
  /-- VXOR (R252): lane-wise XOR. -/
  | vxor (q : Fin 256) (vd vs1 vs2 : Fin 16)
  /-- VMIN (R252): lane-wise signed minimum. -/
  | vmin (q : Fin 256) (vd vs1 vs2 : Fin 16)
  /-- VMAX (R252): lane-wise signed maximum. -/
  | vmax (q : Fin 256) (vd vs1 vs2 : Fin 16)
  /-- VABS (R252): lane-wise absolute value. -/
  | vabs (q : Fin 256) (vd vs1 : Fin 16)
  /-- VABSS (R252): lane-wise saturating absolute value. -/
  | vabss (q : Fin 256) (vd vs1 : Fin 16)
  /-- VNEG (R252): lane-wise negation. -/
  | vneg (q : Fin 256) (vd vs1 : Fin 16)
  /-- VNEGS (R252): lane-wise saturating negation. -/
  | vnegs (q : Fin 256) (vd vs1 : Fin 16)
  /-- VMUL (R252): lane-wise low product. -/
  | vmul (q : Fin 256) (vd vs1 vs2 : Fin 16)
  /-- VMULH (R252): lane-wise high product. -/
  | vmulh (q : Fin 256) (vd vs1 vs2 : Fin 16)
  /-- VMULQ (R252): lane-wise fractional product. -/
  | vmulq (q : Fin 256) (vd vs1 vs2 : Fin 16)
  /-- VSLL (R252): lane-wise logical left shift. -/
  | vsll (q : Fin 256) (vd vs1 vs2 : Fin 16)
  /-- VSRL (R252): lane-wise logical right shift. -/
  | vsrl (q : Fin 256) (vd vs1 vs2 : Fin 16)
  /-- VSRA (R252): lane-wise arithmetic right shift. -/
  | vsra (q : Fin 256) (vd vs1 vs2 : Fin 16)
  /-- VMOV (R252): lane-wise copy. -/
  | vmov (q : Fin 256) (vd vs1 : Fin 16)
  /-- VSEL (R252): selects per lane by MASK, whatever LME. -/
  | vsel (q : Fin 256) (vd vs1 vs2 : Fin 16)
  /-- VCEQ (R253): lane-wise equality compare into MASK. -/
  | vceq (q : Fin 256) (vs1 vs2 : Fin 16)
  /-- VCLT (R253): lane-wise signed less-than compare into MASK. -/
  | vclt (q : Fin 256) (vs1 vs2 : Fin 16)
  /-- VCLTU (R253): lane-wise unsigned less-than compare into MASK. -/
  | vcltu (q : Fin 256) (vs1 vs2 : Fin 16)
  /-- ACLR (R255): clears an accumulator. -/
  | aclr (q : Fin 256) (a : Fin 4)
  /-- AMAC (R255): multiply-accumulates into an accumulator. -/
  | amac (q : Fin 256) (a : Fin 4) (vs1 vs2 : Fin 16)
  /-- AMSU (R255): multiply-subtracts from an accumulator. -/
  | amsu (q : Fin 256) (a : Fin 4) (vs1 vs2 : Fin 16)
  /-- AADD (R255): adds a vector to an accumulator. -/
  | aadd (q : Fin 256) (a : Fin 4) (vs1 : Fin 16)
  /-- ARND (R255): rounds and shifts an accumulator into a vector. -/
  | arnd (q : Fin 256) (vd : Fin 16) (a : Fin 4) (sh : Fin 36)
  /-- ASPL (R255): extracts a 12-bit part of an accumulator. -/
  | aspl (q : Fin 256) (vd : Fin 16) (a : Fin 4) (p : Fin 3)
  /-- AJOIN (R255): inserts a 12-bit part into an accumulator. -/
  | ajoin (q : Fin 256) (a : Fin 4) (vs : Fin 16) (p : Fin 3)
  /-- VBCST (R256): broadcasts a scalar to the active lanes. -/
  | vbcst (q : Fin 256) (vd : Fin 16) (r : Fin 32)
  /-- VEXT (R256): extracts one lane to a scalar. -/
  | vext (q : Fin 256) (r : Fin 32) (vs : Fin 16) (lane : Fin 32)
  /-- VINS (R256): inserts a scalar into one lane. -/
  | vins (q : Fin 256) (vd : Fin 16) (r : Fin 32) (lane : Fin 32)
  /-- VSUM (R256): sums the active lanes into a scalar with saturation. -/
  | vsum (q : Fin 256) (r : Fin 32) (vs : Fin 16)
  /-- LXI (R251): loads a 24-bit immediate into an address register. -/
  | lxi (q : Fin 256) (xd : Fin 8) (imm : Addr)
  /-- JMPA (R251): jumps to an absolute address. -/
  | jmpa (q : Fin 256) (imm : Addr)
  /-- CALLA (R251): calls an absolute address. -/
  | calla (q : Fin 256) (imm : Addr)
  /-- LDA (R251): loads a word from an absolute address. -/
  | lda (q : Fin 256) (rd : Fin 32) (imm : Addr)
  /-- STA (R251): stores a word to an absolute address. -/
  | sta (q : Fin 256) (rs : Fin 32) (imm : Addr)
  /-- FIFO_STALL (R33): A clock-domain FIFO writer stalls longer than 1,024 cycles, and the stall is recorded. -/
  | fifoStall
  /-- FLASH_PHASE_CHANGE (R82): device time crosses a FLASH half-period, and FLASH safe states switch phase. -/
  | flashPhaseChange
  /-- DERATING_UPDATE (R87): once per millisecond each channel's DFAC moves toward its derating target. -/
  | deratingUpdate
  /-- FRAME_MARK_EMIT (R118): A master's device time reaches a frame multiple, and it emits a frame mark on SYNCO. -/
  | frameMarkEmit
  /-- FRAME_MARK (R121): at a frame mark's action instant, ALIGN channels correct their period references. -/
  | frameMark
  /-- MARKS_LOST (R122): no frame mark arrives for two frames, and ALIGN channels run on their own references. -/
  | marksLost
  /-- SYNC_BROADCAST (R134): at a SYNC action instant, TRIG channels, TRIG group requests, waiting sequencers and armed starts all act. -/
  | syncBroadcast
  /-- TAG_REACHED (R137): device time reaches a scheduled TAG, and the frame's group requests install and a SYNC broadcast follows. -/
  | tagReached
  /-- ASPECT_SWITCH (R141): at an action instant a group loads its slots, restarts CARSTART sequencers and updates SN_AGACT. -/
  | aspectSwitch
  /-- COARSE_LIT_EVALUATION (R165): every 250 µs the Safety Net judges the lit window of each channel expected lit. -/
  | coarseLitEvaluation
  /-- FUSION_TICK (R180): every 1 ms the Safety Net fuses each channel's evidence into a verdict and forms the group verdicts. -/
  | fusionTick
  /-- MAP_CHANGE (R208): at a 100 ms boundary a new RATE or receiver map takes effect or is refused. -/
  | mapChange
  /-- FAULT_EVENT (R405): an event reaches the collector, which escalates it, records it, notifies and reacts. -/
  | faultEvent
  /-- ERR_N_PULSE_END (R415): 20 µs after the last qualifying event the ERR_N pulse ends. -/
  | errNPulseEnd
  /-- SAFE_OK_TOGGLE (R417): every 500 µs a healthy device changes SAFE_OK's level. -/
  | safeOkToggle
  /-- KICK_MISSED (R417): 100 ms pass without a kick, and SAFE_OK stops. -/
  | kickMissed
  /-- KL_DOWN (R431): the chipset link is lost and recorded. -/
  | klDown
  /-- TIME_SOURCE_LOST (R448): the time source is lost, ALOCK clears and the rate correction holds. -/
  | timeSourceLost
  /-- HEARTBEAT_SEND (R451): every 10 µs a member sends a heartbeat on the mirror link. -/
  | heartbeatSend
  /-- PARTNER_LOST (R452): no valid heartbeat for 20 µs: the member goes SOLO, raises its epoch and doubles. -/
  | partnerLost
  /-- TRANSFER_RESTART (R460): 100 ms after a failed transfer, the full mirror transfer restarts. -/
  | transferRestart
  /-- REENTRY_INSTANT (R462): at T the rejoiner installs the aspects and both members hand their split channels over. -/
  | reentryInstant
  /-- PAIR_TIME_OFFSET (R464): pair time offset stays above 1 µs for 10 ms. -/
  | pairTimeOffset
  /-- VCORE_FAIL (R470): VCORE is no longer good: gates turn off, PWR_GEN increments and SAFE is entered. -/
  | vcoreFail
  /-- VCORE_RETURN (R470): VCORE returns, and the channels show their sealed safe states. -/
  | vcoreReturn
  /-- VANA_FAIL (R467): VANA is no longer good, raising S4. -/
  | vanaFail
  /-- VBAK_FAIL (R467): VBAK stays below 2.4 V, and the backup is unavailable. -/
  | vbakFail
  /-- VIO_DIP (R481): VIO recovers before commitment, and the dip is counted. -/
  | vioDip
  /-- HAND_OVER_COMPLETE (R482): clusters, fabric and links are off, and the device is in SLEEP or SAFE. -/
  | handOverComplete
  /-- STABILITY_WINDOW_END (R484): VIO and VAON have been stable for 2 ms, and a warm start or SAFE return begins. -/
  | stabilityWindowEnd
  /-- COLD_START (R486): both backup sources were spent, and the always-on domain starts from nothing. -/
  | coldStart
  /-- ALARM (R473): device time reaches PWR_ALARM and ends SLEEP. -/
  | alarm
  /-- CHARGE_INHIBIT (R479): TSB leaves its window, and VBAK charging stops. -/
  | chargeInhibit
  /-- CHARGE_RESUME (R479): TSB has been in window for 10 s, and charging resumes. -/
  | chargeResume
  /-- SAGE_UPDATE (R504): every second Sage adds each unit's accelerated stress. -/
  | sageUpdate
  /-- SAGE_SNAPSHOT (R506): hourly Sage writes its snapshot to the system area. -/
  | sageSnapshot
  /-- POWER_UP (R468): the supplies have all been good for 1 ms, and the internal reset is released. -/
  | powerUp
  /-- RESET_PIN (R518): RESET_N low for 1 µs resets the device. -/
  | resetPin
  /-- POWER_CYCLE_TIMEOUT (R521): 1 s without a hand-over releases PCYC_N and resets with cause PCTO. -/
  | powerCycleTimeout
  /-- STATUS (R529): A host STATUS command returns HIF_STAT. -/
  | status
  /-- EXTEST (R539): JTAG EXTEST, allowed only in MAINT with channels disabled. -/
  | extest
  /-- IDCODE (R539): JTAG IDCODE returns 0x1C19_2A55. -/
  | idcode
  /-- CLAMP (R539): JTAG CLAMP, allowed as EXTEST. -/
  | clamp
  /-- HIGHZ (R539): JTAG HIGHZ, allowed as EXTEST. -/
  | highz
  /-- BYPASS (R539): JTAG BYPASS. -/
  | bypass
  /-- DEBUG_HALT (R542): DBG_CMD.HALT halts the selected engine, breaking its lockstep. -/
  | debugHalt
  /-- RESUME (R542): DBG_CMD.RESUME continues a halted engine. -/
  | resume
  /-- STEP (R542): DBG_CMD.STEP executes one instruction or element, then halts. -/
  | step
  /-- OTP_WRITE (R545): DBG_OTPCMD.GO sets OTP bits in MAINT or is refused. -/
  | otpWrite
  /-- VANA_RETURN (R467): VANA rises above its rising threshold and is good again. -/
  | vanaReturn
  /-- VBAK_RETURN (R467): VBAK rises above 2.5 V, is good again, and the backup is available. -/
  | vbakReturn
  deriving DecidableEq, Repr

end Sys2Proof
end

