-- ==== Sys2Proof/Config.lean ====
section
/-! DEFINITION. The free values: constants with no body, for what the spec leaves open. -/
namespace Sys2Proof

/-- A fresh value for each number drawn: what a word of memory holds that the spec leaves open. -/
opaque Config.freeValue : Nat → Word
/-- The copy of a system item (2 × item + copy) to which a word of the system area of record MRAM belongs, whose layout the spec leaves open. -/
opaque Config.sysOwner : Nat → Nat
/-- The split map that a configuration image requests (bit k for Kk), by its CRC: the spec does not say where the image holds it. -/
opaque Config.splitOf : Nat → BitVec 8
/-- R427: the check value that the Safety Net's checker forms for the words of a frame to send, at an always-on time: the spec does not say
when the two checkers disagree. -/
opaque Config.netCheck : Nat → List Nat → BitVec 32
/-- What an erased word of code flash reads as. -/
opaque Config.erasedWord : Word

end Sys2Proof
end

