-- ==== Sys2Proof/Machine/Store.lean ====
section
/-! DEFINITION. Sparse maps in one canonical form (keys strictly rising, no entry equal to what an unlisted key reads as), and the
types of the register map: a field, a register, a row of a register table. -/
namespace Sys2Proof.Machine

/-- A sparse map from numbers: the listed entries. What an unlisted key reads as is given where the map is read. -/
abbrev SMap (α : Type) := List (Nat × α)

namespace SMap

/-- The value at key `k`; `d` where the map lists none. -/
def get {α : Type} (d : α) : SMap α → Nat → α
  | [], _ => d
  | (k', v) :: r, k => if k' = k then v else get d r k

/-- The map without key `k`. -/
def erase {α : Type} : SMap α → Nat → SMap α
  | [], _ => []
  | (k', v) :: r, k => if k' = k then erase r k else (k', v) :: erase r k

/-- The map with the entry put before the first larger key. -/
def insert {α : Type} : SMap α → Nat → α → SMap α
  | [], k, v => [(k, v)]
  | (k', v') :: r, k, v => if k < k' then (k, v) :: (k', v') :: r else (k', v') :: insert r k v

/-- The map with `v` at key `k`: writing what an unlisted key reads as removes the entry. -/
def set {α : Type} [DecidableEq α] (d : α) (m : SMap α) (k : Nat) (v : α) : SMap α :=
  if v = d then erase m k else insert (erase m k) k v

/-- All keys of the map are at least `lo` and strictly rising. -/
def rising {α : Type} : SMap α → Nat → Bool
  | [], _ => true
  | (k, _) :: r, lo => decide (lo ≤ k) && rising r (k + 1)

/-- The canonical form: keys strictly rising, no listed entry equal to the default. -/
def wf {α : Type} [DecidableEq α] (d : α) (m : SMap α) : Bool :=
  rising m 0 && m.all fun e => decide (e.2 ≠ d)

end SMap

/-- R10: the access codes. `rws a` is a field that is RW, and RWL while SN_ASPa.SAFE = 1 (R159, R161, R192). -/
inductive Access
  | ro | rw | wo | w1c | rwh | rwl | rws (asp : Nat)
  deriving DecidableEq, Repr

/-- A register field: the address of its register's lowest word, its lowest bit counted from that word's bit 0, its width,
its access code (R10) and its reset value (R16). -/
structure Fld where
  addr  : Nat
  lo    : Nat
  width : Nat
  acc   : Access
  reset : Nat
  deriving DecidableEq, Repr

/-- The registers of the device, by the names of the register maps. -/
inductive RegName
  | CH_CFG | CH_CMD | CH_STAT | CH_FLT | CH_TCNT | CH_LCNT | CH_BCNT | CH_GDRV | CH_SENSE | CH_IRES | CH_VRES 
  | CH_BKG | CH_ILIM | CH_ILIMI | CH_INRUSH | CH_OCN | CH_DSAT | CH_RSHORT | CH_ADJ0 | CH_ADJ1 | CH_ADJR 
  | CH_LEASE | CH_KICK | CH_OWNER | CH_LREM | CH_SSTAT | CH_DRT | CH_DRTK | CH_DRTE | CH_OTT | CH_DFAC 
  | CH_PER | CH_DIM | CH_DTR | CH_DTF | CH_MINH | CH_MINL | CH_PHASE | CH_ALN | CH_CODE | CH_CIDX | CH_CEPOCH 
  | CH_CPOS | CH_DRES | CH_SUPC | CH_STRC | CH_DITC | CH_BLKC | CH_ECMD | CH_ESTAT | PWR_SYNCCFG | PWR_FRAME 
  | PWR_SYNCCOMP | PWR_SYNCSTAT | PWR_SYNCREJ | PWR_SYNCMISS | CH_SDUTY | CH_SREF | CH_SCTL | CH_SCMD 
  | CH_SHST | CH_APPL | CH_AGRP | CH_CARB | CH_CARS | CH_SLEW | CH_HWIN | CH_STRIM | CH_SLOT | CAR_CTL 
  | CAR_CFG | CAR_STAT | CAR_PC | CAR_TRK | CAR_MEM | SN_ASP | SN_AGREQ | SN_AGACT | SN_AAPPLY | SN_SYNCREQ 
  | SN_TSYNC | SN_TSCMD | SN_TSPEND | CH_PCFG | CH_PCFG2 | CH_EVER | CH_OVER | CH_PVER | CH_OFMIN | CH_OAMB 
  | CH_OTAU | CH_OFLUX | CH_OZ | CH_PFCNT | CW_CFG | CW_INOM | CW_LITLO | CW_LITHI | CW_IDARK | CW_VDARK 
  | CW_CMIN | CW_DSET | CW_CVER | CW_MEAN | SN_APRF | SN_AGVER | SN_LCLR | SN_LCLRST | SPT_INCFG | SPT_STAT 
  | SPT_AMB | SPT_CTL | SPT_ZTH | SPT_XWIN | SPT_CBIDX | SPT_CBAL | SPT_DEG | TRP_CTL | TRP_STAT | TRP_SWCNT 
  | TRP_RXMAP | TRP_FPOST | TRP_FPCNT | TRP_RCFG | TRP_RSTAT | TRP_SLOT | TRP_VF | TRP_SKIP | PWR_VBASE 
  | DCMD | DCFG | DSTAT | DROP | DSRC | DDST | DLEN | DLIM | DWIDX | DRIDX | PWR_IEN | PWR_IPEND | PWR_ISET 
  | PWR_ENGST | PWR_ENGMAP | PWR_XDIS | PWR_CKCMT | PWR_SPLIT | PWR_CLUST | PWR_CKBASE | PWR_TKVEC | SN_TWCFG 
  | SN_TWTOL | SN_TWRA | SN_TWRB | SN_TWVAL | SN_TWST | SN_IPCFG | SN_TPCFG | SN_OTCFG | SN_OUTCFG 
  | SN_OUTREQ | SN_OUTST | SN_SOFLT | SN_FNRST | SN_SIRAW | SN_SIFLT | SN_FNCFG | SN_FNST | SN_DGREM 
  | SEAL_SW | SEAL_SWF | SEAL_STAT | SEAL_CMD | SEAL_CRC | SEAL_CODE | SEAL_SER | SEAL_DEC | SEAL_SS | FC_CFG 
  | FC_STAT | FC_FIRST | FC_FCLR | FC_ACK | FC_SEQ | FC_ERRN | FC_SOK | FC_RETRY | FC_OPEN | FC_ROUTE | FC_TB 
  | FC_RUNG | FC_STORMCNT | FC_PATHOVF | FC_LRIDX | FC_LWIDX | FC_LLOST | FC_LOG | MIR_CTL | MIR_CFG 
  | MIR_STAT | MIR_EPOCH | MIR_LOSTCNT | MIR_XSTAT | MIR_POFS | MIR_LDLY | MIR_SPLIT | KSF_CTL | KSF_STAT 
  | KSF_OWNID | KSF_UDPPORT | KSF_TCFG | KSF_TOFS | KSF_CAN | KSF_ETH | KSF_ALLOW | KSF_CONN | KSF_TX 
  | KSF_TXCMD | KSF_RX | KSF_RXTIME | KSF_RXCNT | KSF_SLOT | KSF_OPEN | KSF_CLOSE | KSF_TSTAG | KSF_TSM 
  | KSF_TSSEND | KSF_TSREQ | PWR_STATE | PWR_CTL | PWR_GEN | PWR_WAKECFG | PWR_WAKECAUSE | PWR_ALARM 
  | PWR_WAKERT | PWR_CLK | PWR_CST | PWR_CCMD | PWR_SUPST | PWR_BSTAT | PWR_BAKCFG | PWR_HCAP | PWR_HOCNT 
  | PWR_VIODIP | PWR_VMON | PWR_GPS | TMP_CFG | TMP_PAR | TMP_T | TMP_ST | TMP_DS | TMP_DSVAL | TMP_CDCFG 
  | TMP_CDIE | TMP_CDMIN | TMP_DIE | REC_STAT | REC_PEND | REC_LOGHEAD | REC_LOGWRAP | REC_DEFCNT | REC_PROT 
  | REC_SUBSRC | REC_SUBDST | REC_SUBLEN | REC_SUBCMD | REC_SUBST | REC_LSEQ | SAGE_LIFE | SAGE_REM 
  | SAGE_WORST | SAGE_ONH | SAGE_OFFH | SAGE_FCFG | SAGE_FSTAT | SAGE_FDUE | SAGE_FCNT | SAGE_CECNT 
  | SAGE_RETMAX | HIF_STAT | HIF_CTL | HIF_PERM | HIF_RSTCAUSE | HIF_RST | HIF_PCYC | HIF_ERRADR | HIF_IEN 
  | HIF_IPEND | HIF_BOOT | HIF_BOOTCMD | HIF_FLCMD | HIF_FLADR | HIF_FLSRC | HIF_FLLEN | HIF_FLST | HIF_KLCTL 
  | HIF_KLSTAT | HIF_MBRT | HIF_HMB | HIF_HDB | HIF_DMB | HIF_DDB | DBG_STAT | DBG_ENGSEL | DBG_CMD 
  | DBG_ESTAT | DBG_CFG | DBG_BP | DBG_RSEL | DBG_RDATA | DBG_OTPCMD | DBG_OTPA | DBG_OTPD 
  deriving DecidableEq, Repr

/-- A register: its name and indices, the address of its lowest word, its words (R11) and its fields. -/
structure Reg where
  name   : RegName
  i      : Nat
  j      : Nat
  k      : Nat
  addr   : Nat
  words  : Nat
  fields : List Fld
  deriving DecidableEq, Repr

/-- A row of a register table: `count` registers, `stride` words apart, from offset `first` of the block, and `oCount` such groups
`oStride` words apart. -/
structure RegRow where
  first   : Nat
  words   : Nat
  stride  : Nat
  count   : Nat
  oStride : Nat
  oCount  : Nat
  reg     : Nat → Nat → Reg

end Sys2Proof.Machine
end

