-- ==== Sys2Proof/Machine/RegMap.lean ====
section
/-! DEFINITION. The register map: one definition for each field and each register of the register maps of spec/ (R93, R126,
R127, R159, R160, R161, R190 to R193, R220, R221, R310, R343, R344, R393, R394, R422, R465, R466, R511 to R514, R547, R548),
with its address, bits, access code (R10) and reset value, and the address decoder over them (R42, R43). -/
namespace Sys2Proof.Machine

/-- R43: the block of channel n. -/
def chAddr (n : Nat) : Nat := 0xC00000 + n / 48 * 0x40000 + n % 48 * 0x400
/-- R43, R191: the Safety Net window block of channel n. -/
def cwAddr (n : Nat) : Nat := 0xC00000 + n / 48 * 0x40000 + 0x30000 + n % 48 * 64
/-- R160: the registers of sequencer q of die d. -/
def carAddr (d q : Nat) : Nat := 0xC00000 + d * 0x40000 + 0x10000 + q * 0x100
/-- R160: the pattern memory of sequencer q of die d. -/
def carMemAddr (d q : Nat) : Nat := 0xC00000 + d * 0x40000 + 0x11000 + q * 0x400
/-- R221: the registers of receiver r. -/
def trrAddr (r : Nat) : Nat := 0xC00000 + r / 6 * 0x40000 + 0x20000 + r % 6 * 0x100
/-- R310: the descriptor block of descriptor c of cluster k. -/
def dmaAddr (k c : Nat) : Nat := 0xD41000 + 0x200 * k + 0x10 * c


/-! spec/02_channel_stage.md, R93 -/

def CH_CFG_TOPO (n : Nat) : Fld := ⟨chAddr n + 0x000, 0, 2, .rwl, 0⟩
def CH_CFG_HBPAIR (n : Nat) : Fld := ⟨chAddr n + 0x000, 2, 1, .rwl, 0⟩
def CH_CFG_LGEN (n : Nat) : Fld := ⟨chAddr n + 0x000, 3, 1, .rwl, 0⟩
def CH_CFG_EN (n : Nat) : Fld := ⟨chAddr n + 0x000, 4, 1, .rw, 0⟩
def CH_CFG_ADJEN (n : Nat) : Fld := ⟨chAddr n + 0x000, 5, 1, .rw, 1⟩
def CH_CFG (n : Nat) : Reg := ⟨.CH_CFG, n, 0, 0, chAddr n + 0x000, 1, [CH_CFG_TOPO n, CH_CFG_HBPAIR n, CH_CFG_LGEN n, CH_CFG_EN n, CH_CFG_ADJEN n]⟩
def CH_CMD_ADJRUN (n : Nat) : Fld := ⟨chAddr n + 0x001, 0, 1, .wo, 0⟩
def CH_CMD_CRST (n : Nat) : Fld := ⟨chAddr n + 0x001, 1, 1, .wo, 0⟩
def CH_CMD (n : Nat) : Reg := ⟨.CH_CMD, n, 0, 0, chAddr n + 0x001, 1, [CH_CMD_ADJRUN n, CH_CMD_CRST n]⟩
def CH_STAT_MODE (n : Nat) : Fld := ⟨chAddr n + 0x002, 0, 3, .ro, 0⟩
def CH_STAT_RHOLD (n : Nat) : Fld := ⟨chAddr n + 0x002, 3, 1, .ro, 0⟩
def CH_STAT_DRT (n : Nat) : Fld := ⟨chAddr n + 0x002, 4, 1, .ro, 0⟩
def CH_STAT_BSTOK (n : Nat) : Fld := ⟨chAddr n + 0x002, 5, 1, .ro, 0⟩
def CH_STAT_VDRVOK (n : Nat) : Fld := ⟨chAddr n + 0x002, 6, 1, .ro, 0⟩
def CH_STAT_LARM (n : Nat) : Fld := ⟨chAddr n + 0x002, 7, 1, .ro, 0⟩
def CH_STAT_FROZEN (n : Nat) : Fld := ⟨chAddr n + 0x002, 8, 1, .ro, 0⟩
def CH_STAT_LBUSOK (n : Nat) : Fld := ⟨chAddr n + 0x002, 9, 1, .ro, 0⟩
def CH_STAT (n : Nat) : Reg := ⟨.CH_STAT, n, 0, 0, chAddr n + 0x002, 1, [CH_STAT_MODE n, CH_STAT_RHOLD n, CH_STAT_DRT n, CH_STAT_BSTOK n, CH_STAT_VDRVOK n, CH_STAT_LARM n, CH_STAT_FROZEN n, CH_STAT_LBUSOK n]⟩
def CH_FLT_DSAT (n : Nat) : Fld := ⟨chAddr n + 0x003, 0, 1, .w1c, 0⟩
def CH_FLT_RSHORT (n : Nat) : Fld := ⟨chAddr n + 0x003, 1, 1, .w1c, 0⟩
def CH_FLT_OC (n : Nat) : Fld := ⟨chAddr n + 0x003, 2, 1, .w1c, 0⟩
def CH_FLT_OT (n : Nat) : Fld := ⟨chAddr n + 0x003, 3, 1, .w1c, 0⟩
def CH_FLT_BSTUV (n : Nat) : Fld := ⟨chAddr n + 0x003, 4, 1, .w1c, 0⟩
def CH_FLT_LEASE (n : Nat) : Fld := ⟨chAddr n + 0x003, 5, 1, .w1c, 0⟩
def CH_FLT_KEY (n : Nat) : Fld := ⟨chAddr n + 0x003, 6, 1, .w1c, 0⟩
def CH_FLT_ADJ (n : Nat) : Fld := ⟨chAddr n + 0x003, 7, 1, .w1c, 0⟩
def CH_FLT_GBUD (n : Nat) : Fld := ⟨chAddr n + 0x003, 8, 1, .w1c, 0⟩
def CH_FLT (n : Nat) : Reg := ⟨.CH_FLT, n, 0, 0, chAddr n + 0x003, 1, [CH_FLT_DSAT n, CH_FLT_RSHORT n, CH_FLT_OC n, CH_FLT_OT n, CH_FLT_BSTUV n, CH_FLT_LEASE n, CH_FLT_KEY n, CH_FLT_ADJ n, CH_FLT_GBUD n]⟩
def CH_TCNT_COUNT (n : Nat) : Fld := ⟨chAddr n + 0x004, 0, 12, .ro, 0⟩
def CH_TCNT (n : Nat) : Reg := ⟨.CH_TCNT, n, 0, 0, chAddr n + 0x004, 1, [CH_TCNT_COUNT n]⟩
def CH_LCNT_COUNT (n : Nat) : Fld := ⟨chAddr n + 0x005, 0, 12, .ro, 0⟩
def CH_LCNT (n : Nat) : Reg := ⟨.CH_LCNT, n, 0, 0, chAddr n + 0x005, 1, [CH_LCNT_COUNT n]⟩
def CH_BCNT_COUNT (n : Nat) : Fld := ⟨chAddr n + 0x006, 0, 12, .ro, 0⟩
def CH_BCNT (n : Nat) : Reg := ⟨.CH_BCNT, n, 0, 0, chAddr n + 0x006, 1, [CH_BCNT_COUNT n]⟩
def CH_GDRV_SRC (n : Nat) : Fld := ⟨chAddr n + 0x008, 0, 2, .rw, 3⟩
def CH_GDRV_SNK (n : Nat) : Fld := ⟨chAddr n + 0x008, 2, 2, .rw, 3⟩
def CH_GDRV_QG (n : Nat) : Fld := ⟨chAddr n + 0x008, 4, 7, .rwl, 0⟩
def CH_GDRV (n : Nat) : Reg := ⟨.CH_GDRV, n, 0, 0, chAddr n + 0x008, 1, [CH_GDRV_SRC n, CH_GDRV_SNK n, CH_GDRV_QG n]⟩
def CH_SENSE_RANGE (n : Nat) : Fld := ⟨chAddr n + 0x009, 0, 1, .rw, 0⟩
def CH_SENSE (n : Nat) : Reg := ⟨.CH_SENSE, n, 0, 0, chAddr n + 0x009, 1, [CH_SENSE_RANGE n]⟩
def CH_IRES_RESULT (n : Nat) : Fld := ⟨chAddr n + 0x00A, 0, 12, .ro, 0x800⟩
def CH_IRES (n : Nat) : Reg := ⟨.CH_IRES, n, 0, 0, chAddr n + 0x00A, 1, [CH_IRES_RESULT n]⟩
def CH_VRES_RESULT (n : Nat) : Fld := ⟨chAddr n + 0x00B, 0, 12, .ro, 0⟩
def CH_VRES (n : Nat) : Reg := ⟨.CH_VRES, n, 0, 0, chAddr n + 0x00B, 1, [CH_VRES_RESULT n]⟩
def CH_BKG_KP (n : Nat) : Fld := ⟨chAddr n + 0x00C, 0, 6, .rw, 12⟩
def CH_BKG_KI (n : Nat) : Fld := ⟨chAddr n + 0x00C, 6, 6, .rw, 4⟩
def CH_BKG (n : Nat) : Reg := ⟨.CH_BKG, n, 0, 0, chAddr n + 0x00C, 1, [CH_BKG_KP n, CH_BKG_KI n]⟩
def CH_ILIM_LIM (n : Nat) : Fld := ⟨chAddr n + 0x010, 0, 9, .rwl, 80⟩
def CH_ILIM (n : Nat) : Reg := ⟨.CH_ILIM, n, 0, 0, chAddr n + 0x010, 1, [CH_ILIM_LIM n]⟩
def CH_ILIMI_LIM (n : Nat) : Fld := ⟨chAddr n + 0x011, 0, 9, .rwl, 80⟩
def CH_ILIMI (n : Nat) : Reg := ⟨.CH_ILIMI, n, 0, 0, chAddr n + 0x011, 1, [CH_ILIMI_LIM n]⟩
def CH_INRUSH_TIME (n : Nat) : Fld := ⟨chAddr n + 0x012, 0, 12, .rwl, 0⟩
def CH_INRUSH (n : Nat) : Reg := ⟨.CH_INRUSH, n, 0, 0, chAddr n + 0x012, 1, [CH_INRUSH_TIME n]⟩
def CH_OCN_N (n : Nat) : Fld := ⟨chAddr n + 0x013, 0, 12, .rwl, 8⟩
def CH_OCN (n : Nat) : Reg := ⟨.CH_OCN, n, 0, 0, chAddr n + 0x013, 1, [CH_OCN_N n]⟩
def CH_DSAT_VTH (n : Nat) : Fld := ⟨chAddr n + 0x014, 0, 4, .rwl, 6⟩
def CH_DSAT_BLANK (n : Nat) : Fld := ⟨chAddr n + 0x014, 4, 4, .rwl, 4⟩
def CH_DSAT (n : Nat) : Reg := ⟨.CH_DSAT, n, 0, 0, chAddr n + 0x014, 1, [CH_DSAT_VTH n, CH_DSAT_BLANK n]⟩
def CH_RSHORT_DIDT (n : Nat) : Fld := ⟨chAddr n + 0x015, 0, 8, .rwl, 0x64⟩
def CH_RSHORT (n : Nat) : Reg := ⟨.CH_RSHORT, n, 0, 0, chAddr n + 0x015, 1, [CH_RSHORT_DIDT n]⟩
def CH_ADJ0_NB (n : Nat) : Fld := ⟨chAddr n + 0x018, 0, 6, .rwl, ((n%48+63)%64)⟩
def CH_ADJ0_NBEN (n : Nat) : Fld := ⟨chAddr n + 0x018, 6, 1, .rwl, (if n%48=0 then 0 else 1)⟩
def CH_ADJ0 (n : Nat) : Reg := ⟨.CH_ADJ0, n, 0, 0, chAddr n + 0x018, 1, [CH_ADJ0_NB n, CH_ADJ0_NBEN n]⟩
def CH_ADJ1_NB (n : Nat) : Fld := ⟨chAddr n + 0x019, 0, 6, .rwl, (n%48+1)⟩
def CH_ADJ1_NBEN (n : Nat) : Fld := ⟨chAddr n + 0x019, 6, 1, .rwl, (if n%48=47 then 0 else 1)⟩
def CH_ADJ1 (n : Nat) : Reg := ⟨.CH_ADJ1, n, 0, 0, chAddr n + 0x019, 1, [CH_ADJ1_NB n, CH_ADJ1_NBEN n]⟩
def CH_ADJR_RES (n : Nat) : Fld := ⟨chAddr n + 0x01A, 0, 2, .ro, 0⟩
def CH_ADJR_BOTH (n : Nat) : Fld := ⟨chAddr n + 0x01A, 2, 1, .ro, 0⟩
def CH_ADJR_BUSY (n : Nat) : Fld := ⟨chAddr n + 0x01A, 3, 1, .ro, 0⟩
def CH_ADJR (n : Nat) : Reg := ⟨.CH_ADJR, n, 0, 0, chAddr n + 0x01A, 1, [CH_ADJR_RES n, CH_ADJR_BOTH n, CH_ADJR_BUSY n]⟩
def CH_LEASE_LEN (n : Nat) : Fld := ⟨chAddr n + 0x020, 0, 7, .rwl, 25⟩
def CH_LEASE_LHOLD (n : Nat) : Fld := ⟨chAddr n + 0x020, 7, 1, .rw, 0⟩
def CH_LEASE (n : Nat) : Reg := ⟨.CH_LEASE, n, 0, 0, chAddr n + 0x020, 1, [CH_LEASE_LEN n, CH_LEASE_LHOLD n]⟩
def CH_KICK_KEY (n : Nat) : Fld := ⟨chAddr n + 0x021, 0, 12, .wo, 0⟩
def CH_KICK (n : Nat) : Reg := ⟨.CH_KICK, n, 0, 0, chAddr n + 0x021, 1, [CH_KICK_KEY n]⟩
def CH_OWNER_ENG (n : Nat) : Fld := ⟨chAddr n + 0x022, 0, 7, .rwh, 0⟩
def CH_OWNER_CORE (n : Nat) : Fld := ⟨chAddr n + 0x022, 7, 1, .rwh, 0⟩
def CH_OWNER_VALID (n : Nat) : Fld := ⟨chAddr n + 0x022, 11, 1, .rwh, 0⟩
def CH_OWNER (n : Nat) : Reg := ⟨.CH_OWNER, n, 0, 0, chAddr n + 0x022, 1, [CH_OWNER_ENG n, CH_OWNER_CORE n, CH_OWNER_VALID n]⟩
def CH_LREM_TICKS (n : Nat) : Fld := ⟨chAddr n + 0x023, 0, 12, .ro, 0⟩
def CH_LREM (n : Nat) : Reg := ⟨.CH_LREM, n, 0, 0, chAddr n + 0x023, 1, [CH_LREM_TICKS n]⟩
def CH_SSTAT_LATCH (n : Nat) : Fld := ⟨chAddr n + 0x024, 0, 1, .ro, 0⟩
def CH_SSTAT_CAUSE (n : Nat) : Fld := ⟨chAddr n + 0x024, 1, 3, .ro, 0⟩
def CH_SSTAT_STATE (n : Nat) : Fld := ⟨chAddr n + 0x024, 4, 2, .ro, 0⟩
def CH_SSTAT (n : Nat) : Reg := ⟨.CH_SSTAT, n, 0, 0, chAddr n + 0x024, 1, [CH_SSTAT_LATCH n, CH_SSTAT_CAUSE n, CH_SSTAT_STATE n]⟩
def CH_DRT_TSRC (n : Nat) : Fld := ⟨chAddr n + 0x028, 0, 6, .rwl, 0⟩
def CH_DRT_TSEL (n : Nat) : Fld := ⟨chAddr n + 0x028, 6, 2, .rwl, 2⟩
def CH_DRT (n : Nat) : Reg := ⟨.CH_DRT, n, 0, 0, chAddr n + 0x028, 1, [CH_DRT_TSRC n, CH_DRT_TSEL n]⟩
def CH_DRTK_KNEE (n : Nat) : Fld := ⟨chAddr n + 0x029, 0, 8, .rwl, 140⟩
def CH_DRTK_FLOOR (n : Nat) : Fld := ⟨chAddr n + 0x029, 8, 4, .rwl, 4⟩
def CH_DRTK (n : Nat) : Reg := ⟨.CH_DRTK, n, 0, 0, chAddr n + 0x029, 1, [CH_DRTK_KNEE n, CH_DRTK_FLOOR n]⟩
def CH_DRTE_END (n : Nat) : Fld := ⟨chAddr n + 0x02A, 0, 8, .rwl, 180⟩
def CH_DRTE_HYST (n : Nat) : Fld := ⟨chAddr n + 0x02A, 8, 4, .rwl, 5⟩
def CH_DRTE (n : Nat) : Reg := ⟨.CH_DRTE, n, 0, 0, chAddr n + 0x02A, 1, [CH_DRTE_END n, CH_DRTE_HYST n]⟩
def CH_OTT_TRIP (n : Nat) : Fld := ⟨chAddr n + 0x02B, 0, 8, .rwl, 205⟩
def CH_OTT (n : Nat) : Reg := ⟨.CH_OTT, n, 0, 0, chAddr n + 0x02B, 1, [CH_OTT_TRIP n]⟩
def CH_DFAC_DFAC (n : Nat) : Fld := ⟨chAddr n + 0x02C, 0, 12, .ro, 0xFFF⟩
def CH_DFAC (n : Nat) : Reg := ⟨.CH_DFAC, n, 0, 0, chAddr n + 0x02C, 1, [CH_DFAC_DFAC n]⟩

/-! spec/03_edge_timing.md, R126 -/

def CH_PER_PER (n : Nat) : Fld := ⟨chAddr n + 0x100, 0, 24, .rw, 16000⟩
def CH_PER (n : Nat) : Reg := ⟨.CH_PER, n, 0, 0, chAddr n + 0x100, 2, [CH_PER_PER n]⟩
def CH_DIM_RES (n : Nat) : Fld := ⟨chAddr n + 0x102, 0, 4, .rw, 4⟩
def CH_DIM_MPM (n : Nat) : Fld := ⟨chAddr n + 0x102, 4, 2, .rw, 2⟩
def CH_DIM (n : Nat) : Reg := ⟨.CH_DIM, n, 0, 0, chAddr n + 0x102, 1, [CH_DIM_RES n, CH_DIM_MPM n]⟩
def CH_DTR_VALUE (n : Nat) : Fld := ⟨chAddr n + 0x103, 0, 12, .rwl, 0x0C0⟩
def CH_DTR (n : Nat) : Reg := ⟨.CH_DTR, n, 0, 0, chAddr n + 0x103, 1, [CH_DTR_VALUE n]⟩
def CH_DTF_VALUE (n : Nat) : Fld := ⟨chAddr n + 0x104, 0, 12, .rwl, 0x0C0⟩
def CH_DTF (n : Nat) : Reg := ⟨.CH_DTF, n, 0, 0, chAddr n + 0x104, 1, [CH_DTF_VALUE n]⟩
def CH_MINH_VALUE (n : Nat) : Fld := ⟨chAddr n + 0x105, 0, 12, .rwl, 0x280⟩
def CH_MINH (n : Nat) : Reg := ⟨.CH_MINH, n, 0, 0, chAddr n + 0x105, 1, [CH_MINH_VALUE n]⟩
def CH_MINL_VALUE (n : Nat) : Fld := ⟨chAddr n + 0x106, 0, 12, .rwl, 0x140⟩
def CH_MINL (n : Nat) : Reg := ⟨.CH_MINL, n, 0, 0, chAddr n + 0x106, 1, [CH_MINL_VALUE n]⟩
def CH_PHASE_PHASE (n : Nat) : Fld := ⟨chAddr n + 0x108, 0, 24, .rw, 0⟩
def CH_PHASE (n : Nat) : Reg := ⟨.CH_PHASE, n, 0, 0, chAddr n + 0x108, 2, [CH_PHASE_PHASE n]⟩
def CH_ALN_ALIGN (n : Nat) : Fld := ⟨chAddr n + 0x10A, 0, 1, .rw, 0⟩
def CH_ALN (n : Nat) : Reg := ⟨.CH_ALN, n, 0, 0, chAddr n + 0x10A, 1, [CH_ALN_ALIGN n]⟩
def CH_CODE_EN (n : Nat) : Fld := ⟨chAddr n + 0x10C, 0, 1, .rwl, 0⟩
def CH_CODE_CHIPR (n : Nat) : Fld := ⟨chAddr n + 0x10C, 1, 2, .rwl, 0⟩
def CH_CODE_DEPTH (n : Nat) : Fld := ⟨chAddr n + 0x10C, 3, 9, .rwl, 20⟩
def CH_CODE (n : Nat) : Reg := ⟨.CH_CODE, n, 0, 0, chAddr n + 0x10C, 1, [CH_CODE_EN n, CH_CODE_CHIPR n, CH_CODE_DEPTH n]⟩
def CH_CIDX_IDX (n : Nat) : Fld := ⟨chAddr n + 0x10D, 0, 11, .rwl, 0⟩
def CH_CIDX (n : Nat) : Reg := ⟨.CH_CIDX, n, 0, 0, chAddr n + 0x10D, 1, [CH_CIDX_IDX n]⟩
def CH_CEPOCH_EPOCH (n : Nat) : Fld := ⟨chAddr n + 0x110, 0, 48, .ro, 0⟩
def CH_CEPOCH (n : Nat) : Reg := ⟨.CH_CEPOCH, n, 0, 0, chAddr n + 0x110, 4, [CH_CEPOCH_EPOCH n]⟩
def CH_CPOS_CPOS (n : Nat) : Fld := ⟨chAddr n + 0x114, 0, 10, .ro, 0⟩
def CH_CPOS (n : Nat) : Reg := ⟨.CH_CPOS, n, 0, 0, chAddr n + 0x114, 1, [CH_CPOS_CPOS n]⟩
def CH_DRES_RESIDUE (n : Nat) : Fld := ⟨chAddr n + 0x118, 0, 36, .ro, 0⟩
def CH_DRES (n : Nat) : Reg := ⟨.CH_DRES, n, 0, 0, chAddr n + 0x118, 3, [CH_DRES_RESIDUE n]⟩
def CH_SUPC_COUNT (n : Nat) : Fld := ⟨chAddr n + 0x11C, 0, 12, .ro, 0⟩
def CH_SUPC (n : Nat) : Reg := ⟨.CH_SUPC, n, 0, 0, chAddr n + 0x11C, 1, [CH_SUPC_COUNT n]⟩
def CH_STRC_COUNT (n : Nat) : Fld := ⟨chAddr n + 0x11D, 0, 12, .ro, 0⟩
def CH_STRC (n : Nat) : Reg := ⟨.CH_STRC, n, 0, 0, chAddr n + 0x11D, 1, [CH_STRC_COUNT n]⟩
def CH_DITC_COUNT (n : Nat) : Fld := ⟨chAddr n + 0x11E, 0, 12, .ro, 0⟩
def CH_DITC (n : Nat) : Reg := ⟨.CH_DITC, n, 0, 0, chAddr n + 0x11E, 1, [CH_DITC_COUNT n]⟩
def CH_BLKC_COUNT (n : Nat) : Fld := ⟨chAddr n + 0x11F, 0, 12, .ro, 0⟩
def CH_BLKC (n : Nat) : Reg := ⟨.CH_BLKC, n, 0, 0, chAddr n + 0x11F, 1, [CH_BLKC_COUNT n]⟩
def CH_ECMD_CCLR (n : Nat) : Fld := ⟨chAddr n + 0x120, 0, 1, .wo, 0⟩
def CH_ECMD_RCLR (n : Nat) : Fld := ⟨chAddr n + 0x120, 1, 1, .wo, 0⟩
def CH_ECMD (n : Nat) : Reg := ⟨.CH_ECMD, n, 0, 0, chAddr n + 0x120, 1, [CH_ECMD_CCLR n, CH_ECMD_RCLR n]⟩
def CH_ESTAT_LOCK (n : Nat) : Fld := ⟨chAddr n + 0x121, 0, 1, .ro, 0⟩
def CH_ESTAT_CEIL (n : Nat) : Fld := ⟨chAddr n + 0x121, 1, 1, .ro, 0⟩
def CH_ESTAT_PEND (n : Nat) : Fld := ⟨chAddr n + 0x121, 2, 1, .ro, 0⟩
def CH_ESTAT (n : Nat) : Reg := ⟨.CH_ESTAT, n, 0, 0, chAddr n + 0x121, 1, [CH_ESTAT_LOCK n, CH_ESTAT_CEIL n, CH_ESTAT_PEND n]⟩

/-! spec/03_edge_timing.md, R127 -/

def PWR_SYNCCFG_MASTER : Fld := ⟨0xD40400, 0, 1, .rwl, 0⟩
def PWR_SYNCCFG_FWD : Fld := ⟨0xD40400, 1, 1, .rwl, 0⟩
def PWR_SYNCCFG : Reg := ⟨.PWR_SYNCCFG, 0, 0, 0, 0xD40400, 1, [PWR_SYNCCFG_MASTER, PWR_SYNCCFG_FWD]⟩
def PWR_FRAME_VALUE : Fld := ⟨0xD40401, 0, 12, .rwl, 100⟩
def PWR_FRAME : Reg := ⟨.PWR_FRAME, 0, 0, 0, 0xD40401, 1, [PWR_FRAME_VALUE]⟩
def PWR_SYNCCOMP_VALUE : Fld := ⟨0xD40402, 0, 12, .rwl, 0⟩
def PWR_SYNCCOMP : Reg := ⟨.PWR_SYNCCOMP, 0, 0, 0, 0xD40402, 1, [PWR_SYNCCOMP_VALUE]⟩
def PWR_SYNCSTAT_MLOST : Fld := ⟨0xD40403, 0, 1, .ro, 0⟩
def PWR_SYNCSTAT_LAST : Fld := ⟨0xD40403, 1, 2, .ro, 0⟩
def PWR_SYNCSTAT : Reg := ⟨.PWR_SYNCSTAT, 0, 0, 0, 0xD40403, 1, [PWR_SYNCSTAT_MLOST, PWR_SYNCSTAT_LAST]⟩
def PWR_SYNCREJ_COUNT : Fld := ⟨0xD40404, 0, 12, .ro, 0⟩
def PWR_SYNCREJ : Reg := ⟨.PWR_SYNCREJ, 0, 0, 0, 0xD40404, 1, [PWR_SYNCREJ_COUNT]⟩
def PWR_SYNCMISS_COUNT : Fld := ⟨0xD40405, 0, 12, .ro, 0⟩
def PWR_SYNCMISS : Reg := ⟨.PWR_SYNCMISS, 0, 0, 0, 0xD40405, 1, [PWR_SYNCMISS_COUNT]⟩

/-! spec/04_aspects_and_patterns.md, R159 -/

def CH_SDUTY_DUTY (n : Nat) : Fld := ⟨chAddr n + 0x200, 0, 16, .rw, 0⟩
def CH_SDUTY (n : Nat) : Reg := ⟨.CH_SDUTY, n, 0, 0, chAddr n + 0x200, 2, [CH_SDUTY_DUTY n]⟩
def CH_SREF_REF (n : Nat) : Fld := ⟨chAddr n + 0x202, 0, 12, .rw, 0⟩
def CH_SREF (n : Nat) : Reg := ⟨.CH_SREF, n, 0, 0, chAddr n + 0x202, 1, [CH_SREF_REF n]⟩
def CH_SCTL_TRIG (n : Nat) : Fld := ⟨chAddr n + 0x203, 0, 2, .rw, 0⟩
def CH_SCTL_SRC (n : Nat) : Fld := ⟨chAddr n + 0x203, 2, 1, .rw, 0⟩
def CH_SCTL_CLOOP (n : Nat) : Fld := ⟨chAddr n + 0x203, 3, 1, .rw, 0⟩
def CH_SCTL (n : Nat) : Reg := ⟨.CH_SCTL, n, 0, 0, chAddr n + 0x203, 1, [CH_SCTL_TRIG n, CH_SCTL_SRC n, CH_SCTL_CLOOP n]⟩
def CH_SCMD_APPLY (n : Nat) : Fld := ⟨chAddr n + 0x204, 0, 1, .wo, 0⟩
def CH_SCMD_DISCARD (n : Nat) : Fld := ⟨chAddr n + 0x204, 1, 1, .wo, 0⟩
def CH_SCMD (n : Nat) : Reg := ⟨.CH_SCMD, n, 0, 0, chAddr n + 0x204, 1, [CH_SCMD_APPLY n, CH_SCMD_DISCARD n]⟩
def CH_SHST_PEND (n : Nat) : Fld := ⟨chAddr n + 0x205, 0, 1, .ro, 0⟩
def CH_SHST_OVR (n : Nat) : Fld := ⟨chAddr n + 0x205, 1, 1, .w1c, 0⟩
def CH_SHST_CLAMP (n : Nat) : Fld := ⟨chAddr n + 0x205, 2, 1, .w1c, 0⟩
def CH_SHST_DIS (n : Nat) : Fld := ⟨chAddr n + 0x205, 3, 1, .w1c, 0⟩
def CH_SHST_HOACT (n : Nat) : Fld := ⟨chAddr n + 0x205, 4, 1, .ro, 0⟩
def CH_SHST_ASRC (n : Nat) : Fld := ⟨chAddr n + 0x205, 5, 1, .ro, 0⟩
def CH_SHST_ACLOOP (n : Nat) : Fld := ⟨chAddr n + 0x205, 6, 1, .ro, 0⟩
def CH_SHST (n : Nat) : Reg := ⟨.CH_SHST, n, 0, 0, chAddr n + 0x205, 1, [CH_SHST_PEND n, CH_SHST_OVR n, CH_SHST_CLAMP n, CH_SHST_DIS n, CH_SHST_HOACT n, CH_SHST_ASRC n, CH_SHST_ACLOOP n]⟩
def CH_APPL_VALUE (n : Nat) : Fld := ⟨chAddr n + 0x206, 0, 16, .ro, 0⟩
def CH_APPL (n : Nat) : Reg := ⟨.CH_APPL, n, 0, 0, chAddr n + 0x206, 2, [CH_APPL_VALUE n]⟩
def CH_AGRP_GRP (n : Nat) : Fld := ⟨chAddr n + 0x208, 0, 4, .rwl, 0⟩
def CH_AGRP_GEN (n : Nat) : Fld := ⟨chAddr n + 0x208, 4, 1, .rwl, 0⟩
def CH_AGRP (n : Nat) : Reg := ⟨.CH_AGRP, n, 0, 0, chAddr n + 0x208, 1, [CH_AGRP_GRP n, CH_AGRP_GEN n]⟩
def CH_CARB_SEQ (n : Nat) : Fld := ⟨chAddr n + 0x209, 0, 2, .rwl, 3⟩
def CH_CARB_TRK (n : Nat) : Fld := ⟨chAddr n + 0x209, 2, 3, .rwl, 0⟩
def CH_CARB (n : Nat) : Reg := ⟨.CH_CARB, n, 0, 0, chAddr n + 0x209, 1, [CH_CARB_SEQ n, CH_CARB_TRK n]⟩
def CH_CARS_VALUE (n : Nat) : Fld := ⟨chAddr n + 0x20A, 0, 12, .rwl, 0xFFF⟩
def CH_CARS (n : Nat) : Reg := ⟨.CH_CARS, n, 0, 0, chAddr n + 0x20A, 1, [CH_CARS_VALUE n]⟩
def CH_SLEW_VALUE (n : Nat) : Fld := ⟨chAddr n + 0x20B, 0, 12, .rw, 0x19A⟩
def CH_SLEW (n : Nat) : Reg := ⟨.CH_SLEW, n, 0, 0, chAddr n + 0x20B, 1, [CH_SLEW_VALUE n]⟩
def CH_HWIN_VALUE (n : Nat) : Fld := ⟨chAddr n + 0x20C, 0, 12, .rw, 0x19A⟩
def CH_HWIN (n : Nat) : Reg := ⟨.CH_HWIN, n, 0, 0, chAddr n + 0x20C, 1, [CH_HWIN_VALUE n]⟩
def CH_STRIM_VALUE (n : Nat) : Fld := ⟨chAddr n + 0x20D, 0, 12, .rwl, 0x0CD⟩
def CH_STRIM (n : Nat) : Reg := ⟨.CH_STRIM, n, 0, 0, chAddr n + 0x20D, 1, [CH_STRIM_VALUE n]⟩
def CH_SLOT_VALUE (n : Nat) (a : Nat) : Fld := ⟨chAddr n + 0x280+2*a, 0, 16, (.rws a), 0⟩
def CH_SLOT_KIND (n : Nat) (a : Nat) : Fld := ⟨chAddr n + 0x280+2*a, 16, 2, (.rws a), 0⟩
def CH_SLOT (n : Nat) (a : Nat) : Reg := ⟨.CH_SLOT, n, a, 0, chAddr n + 0x280+2*a, 2, [CH_SLOT_VALUE n a, CH_SLOT_KIND n a]⟩

/-! spec/04_aspects_and_patterns.md, R160 -/

def CAR_CTL_START (d : Nat) (q : Nat) : Fld := ⟨carAddr d q + 0x00, 0, 1, .wo, 0⟩
def CAR_CTL_STOP (d : Nat) (q : Nat) : Fld := ⟨carAddr d q + 0x00, 1, 1, .wo, 0⟩
def CAR_CTL_SYNCST (d : Nat) (q : Nat) : Fld := ⟨carAddr d q + 0x00, 2, 1, .wo, 0⟩
def CAR_CTL (d : Nat) (q : Nat) : Reg := ⟨.CAR_CTL, d, q, 0, carAddr d q + 0x00, 1, [CAR_CTL_START d q, CAR_CTL_STOP d q, CAR_CTL_SYNCST d q]⟩
def CAR_CFG_ENTRY (d : Nat) (q : Nat) : Fld := ⟨carAddr d q + 0x01, 0, 10, .rwl, 0⟩
def CAR_CFG_TU (d : Nat) (q : Nat) : Fld := ⟨carAddr d q + 0x01, 10, 2, .rwl, 1⟩
def CAR_CFG (d : Nat) (q : Nat) : Reg := ⟨.CAR_CFG, d, q, 0, carAddr d q + 0x01, 1, [CAR_CFG_ENTRY d q, CAR_CFG_TU d q]⟩
def CAR_STAT_STATE (d : Nat) (q : Nat) : Fld := ⟨carAddr d q + 0x02, 0, 2, .ro, 0⟩
def CAR_STAT_ERR (d : Nat) (q : Nat) : Fld := ⟨carAddr d q + 0x02, 2, 3, .ro, 0⟩
def CAR_STAT_DEPTH (d : Nat) (q : Nat) : Fld := ⟨carAddr d q + 0x02, 5, 3, .ro, 0⟩
def CAR_STAT_SYNCW (d : Nat) (q : Nat) : Fld := ⟨carAddr d q + 0x02, 8, 1, .ro, 0⟩
def CAR_STAT (d : Nat) (q : Nat) : Reg := ⟨.CAR_STAT, d, q, 0, carAddr d q + 0x02, 1, [CAR_STAT_STATE d q, CAR_STAT_ERR d q, CAR_STAT_DEPTH d q, CAR_STAT_SYNCW d q]⟩
def CAR_PC_VALUE (d : Nat) (q : Nat) : Fld := ⟨carAddr d q + 0x03, 0, 12, .ro, 0⟩
def CAR_PC (d : Nat) (q : Nat) : Reg := ⟨.CAR_PC, d, q, 0, carAddr d q + 0x03, 1, [CAR_PC_VALUE d q]⟩
def CAR_TRK_VALUE (d : Nat) (q : Nat) (t : Nat) : Fld := ⟨carAddr d q + 0x08+t, 0, 12, .ro, 0⟩
def CAR_TRK (d : Nat) (q : Nat) (t : Nat) : Reg := ⟨.CAR_TRK, d, q, t, carAddr d q + 0x08+t, 1, [CAR_TRK_VALUE d q t]⟩
def CAR_MEM_WORD (d : Nat) (q : Nat) (i : Nat) : Fld := ⟨carMemAddr d q + i, 0, 12, .rwl, 0⟩
def CAR_MEM (d : Nat) (q : Nat) (i : Nat) : Reg := ⟨.CAR_MEM, d, q, i, carMemAddr d q + i, 1, [CAR_MEM_WORD d q i]⟩

/-! spec/04_aspects_and_patterns.md, R161 -/

def SN_ASP_GROUP (a : Nat) : Fld := ⟨0xD12000+2*a, 0, 4, (.rws a), 0⟩
def SN_ASP_SAFE (a : Nat) : Fld := ⟨0xD12000+2*a, 4, 1, .rwl, 0⟩
def SN_ASP_VALID (a : Nat) : Fld := ⟨0xD12000+2*a, 5, 1, (.rws a), 0⟩
def SN_ASP_CARSTART (a : Nat) : Fld := ⟨0xD12000+2*a, 12, 12, (.rws a), 0⟩
def SN_ASP (a : Nat) : Reg := ⟨.SN_ASP, a, 0, 0, 0xD12000+2*a, 2, [SN_ASP_GROUP a, SN_ASP_SAFE a, SN_ASP_VALID a, SN_ASP_CARSTART a]⟩
def SN_AGREQ_ASP (g : Nat) : Fld := ⟨0xD12100+g, 0, 6, .rw, 0⟩
def SN_AGREQ_REQV (g : Nat) : Fld := ⟨0xD12100+g, 6, 1, .rwh, 0⟩
def SN_AGREQ_TRIG (g : Nat) : Fld := ⟨0xD12100+g, 7, 1, .rw, 0⟩
def SN_AGREQ (g : Nat) : Reg := ⟨.SN_AGREQ, g, 0, 0, 0xD12100+g, 1, [SN_AGREQ_ASP g, SN_AGREQ_REQV g, SN_AGREQ_TRIG g]⟩
def SN_AGACT_ASP (g : Nat) : Fld := ⟨0xD12110+g, 0, 6, .ro, 0⟩
def SN_AGACT_VALID (g : Nat) : Fld := ⟨0xD12110+g, 6, 1, .ro, 0⟩
def SN_AGACT_DEMAND (g : Nat) : Fld := ⟨0xD12110+g, 7, 1, .ro, 0⟩
def SN_AGACT_SAFE (g : Nat) : Fld := ⟨0xD12110+g, 8, 1, .ro, 0⟩
def SN_AGACT (g : Nat) : Reg := ⟨.SN_AGACT, g, 0, 0, 0xD12110+g, 1, [SN_AGACT_ASP g, SN_AGACT_VALID g, SN_AGACT_DEMAND g, SN_AGACT_SAFE g]⟩
def SN_AAPPLY_GMASK : Fld := ⟨0xD12120, 0, 16, .wo, 0⟩
def SN_AAPPLY : Reg := ⟨.SN_AAPPLY, 0, 0, 0, 0xD12120, 2, [SN_AAPPLY_GMASK]⟩
def SN_SYNCREQ_LOCAL : Fld := ⟨0xD12122, 0, 1, .wo, 0⟩
def SN_SYNCREQ_CHAIN : Fld := ⟨0xD12122, 1, 1, .wo, 0⟩
def SN_SYNCREQ : Reg := ⟨.SN_SYNCREQ, 0, 0, 0, 0xD12122, 1, [SN_SYNCREQ_LOCAL, SN_SYNCREQ_CHAIN]⟩
def SN_TSYNC_TAG : Fld := ⟨0xD12124, 0, 48, .rw, 0⟩
def SN_TSYNC : Reg := ⟨.SN_TSYNC, 0, 0, 0, 0xD12124, 4, [SN_TSYNC_TAG]⟩
def SN_TSCMD_ARM : Fld := ⟨0xD12128, 0, 1, .wo, 0⟩
def SN_TSCMD : Reg := ⟨.SN_TSCMD, 0, 0, 0, 0xD12128, 1, [SN_TSCMD_ARM]⟩
def SN_TSPEND_COUNT : Fld := ⟨0xD12129, 0, 4, .ro, 0⟩
def SN_TSPEND : Reg := ⟨.SN_TSPEND, 0, 0, 0, 0xD12129, 1, [SN_TSPEND_COUNT]⟩

/-! spec/05_lamp_proof.md, R190 -/

def CH_PCFG_OREQ (n : Nat) : Fld := ⟨chAddr n + 0x300, 0, 1, .rwl, 0⟩
def CH_PCFG_EREQ (n : Nat) : Fld := ⟨chAddr n + 0x300, 1, 1, .rwl, 1⟩
def CH_PCFG_INP (n : Nat) : Fld := ⟨chAddr n + 0x300, 2, 5, .rwl, 0⟩
def CH_PCFG_INS (n : Nat) : Fld := ⟨chAddr n + 0x300, 7, 5, .rwl, 0⟩
def CH_PCFG (n : Nat) : Reg := ⟨.CH_PCFG, n, 0, 0, chAddr n + 0x300, 1, [CH_PCFG_OREQ n, CH_PCFG_EREQ n, CH_PCFG_INP n, CH_PCFG_INS n]⟩
def CH_PCFG2_TRI (n : Nat) : Fld := ⟨chAddr n + 0x301, 0, 5, .rwl, 0⟩
def CH_PCFG2_TEN (n : Nat) : Fld := ⟨chAddr n + 0x301, 5, 1, .rwl, 0⟩
def CH_PCFG2_SEN (n : Nat) : Fld := ⟨chAddr n + 0x301, 6, 1, .rwl, 0⟩
def CH_PCFG2 (n : Nat) : Reg := ⟨.CH_PCFG2, n, 0, 0, chAddr n + 0x301, 1, [CH_PCFG2_TRI n, CH_PCFG2_TEN n, CH_PCFG2_SEN n]⟩
def CH_EVER_VERD (n : Nat) : Fld := ⟨chAddr n + 0x302, 0, 2, .rw, 0⟩
def CH_EVER_SEQ (n : Nat) : Fld := ⟨chAddr n + 0x302, 2, 4, .rw, 0⟩
def CH_EVER_CAUSE (n : Nat) : Fld := ⟨chAddr n + 0x302, 6, 3, .rw, 0⟩
def CH_EVER (n : Nat) : Reg := ⟨.CH_EVER, n, 0, 0, chAddr n + 0x302, 1, [CH_EVER_VERD n, CH_EVER_SEQ n, CH_EVER_CAUSE n]⟩
def CH_OVER_VERD (n : Nat) : Fld := ⟨chAddr n + 0x303, 0, 2, .rw, 0⟩
def CH_OVER_SEQ (n : Nat) : Fld := ⟨chAddr n + 0x303, 2, 4, .rw, 0⟩
def CH_OVER_CAUSE (n : Nat) : Fld := ⟨chAddr n + 0x303, 6, 3, .rw, 0⟩
def CH_OVER (n : Nat) : Reg := ⟨.CH_OVER, n, 0, 0, chAddr n + 0x303, 1, [CH_OVER_VERD n, CH_OVER_SEQ n, CH_OVER_CAUSE n]⟩
def CH_PVER_STATE (n : Nat) : Fld := ⟨chAddr n + 0x304, 0, 3, .ro, 0⟩
def CH_PVER_CFAIL (n : Nat) : Fld := ⟨chAddr n + 0x304, 3, 1, .ro, 0⟩
def CH_PVER_EFAIL (n : Nat) : Fld := ⟨chAddr n + 0x304, 4, 1, .ro, 0⟩
def CH_PVER_OFAIL (n : Nat) : Fld := ⟨chAddr n + 0x304, 5, 1, .ro, 0⟩
def CH_PVER_ESTALE (n : Nat) : Fld := ⟨chAddr n + 0x304, 6, 1, .ro, 0⟩
def CH_PVER_OSTALE (n : Nat) : Fld := ⟨chAddr n + 0x304, 7, 1, .ro, 0⟩
def CH_PVER_EXPLIT (n : Nat) : Fld := ⟨chAddr n + 0x304, 8, 1, .ro, 0⟩
def CH_PVER (n : Nat) : Reg := ⟨.CH_PVER, n, 0, 0, chAddr n + 0x304, 1, [CH_PVER_STATE n, CH_PVER_CFAIL n, CH_PVER_EFAIL n, CH_PVER_OFAIL n, CH_PVER_ESTALE n, CH_PVER_OSTALE n, CH_PVER_EXPLIT n]⟩
def CH_OFMIN_VALUE (n : Nat) : Fld := ⟨chAddr n + 0x305, 0, 12, .rwl, 0⟩
def CH_OFMIN (n : Nat) : Reg := ⟨.CH_OFMIN, n, 0, 0, chAddr n + 0x305, 1, [CH_OFMIN_VALUE n]⟩
def CH_OAMB_VALUE (n : Nat) : Fld := ⟨chAddr n + 0x306, 0, 12, .rwl, 0⟩
def CH_OAMB (n : Nat) : Reg := ⟨.CH_OAMB, n, 0, 0, chAddr n + 0x306, 1, [CH_OAMB_VALUE n]⟩
def CH_OTAU_VALUE (n : Nat) : Fld := ⟨chAddr n + 0x307, 0, 12, .rwl, 0x800⟩
def CH_OTAU (n : Nat) : Reg := ⟨.CH_OTAU, n, 0, 0, chAddr n + 0x307, 1, [CH_OTAU_VALUE n]⟩
def CH_OFLUX_FLUX (n : Nat) : Fld := ⟨chAddr n + 0x308, 0, 24, .rw, 0⟩
def CH_OFLUX (n : Nat) : Reg := ⟨.CH_OFLUX, n, 0, 0, chAddr n + 0x308, 2, [CH_OFLUX_FLUX n]⟩
def CH_OZ_VALUE (n : Nat) : Fld := ⟨chAddr n + 0x30A, 0, 12, .rw, 0⟩
def CH_OZ (n : Nat) : Reg := ⟨.CH_OZ, n, 0, 0, chAddr n + 0x30A, 1, [CH_OZ_VALUE n]⟩
def CH_PFCNT_VALUE (n : Nat) : Fld := ⟨chAddr n + 0x30B, 0, 12, .ro, 0⟩
def CH_PFCNT (n : Nat) : Reg := ⟨.CH_PFCNT, n, 0, 0, chAddr n + 0x30B, 1, [CH_PFCNT_VALUE n]⟩

/-! spec/05_lamp_proof.md, R191 -/

def CW_CFG_CEN (n : Nat) : Fld := ⟨cwAddr n + 0x00, 0, 1, .rwl, 0⟩
def CW_CFG_DEN (n : Nat) : Fld := ⟨cwAddr n + 0x00, 1, 1, .rwl, 0⟩
def CW_CFG (n : Nat) : Reg := ⟨.CW_CFG, n, 0, 0, cwAddr n + 0x00, 1, [CW_CFG_CEN n, CW_CFG_DEN n]⟩
def CW_INOM_INOM (n : Nat) : Fld := ⟨cwAddr n + 0x01, 0, 12, .rwl, 0⟩
def CW_INOM (n : Nat) : Reg := ⟨.CW_INOM, n, 0, 0, cwAddr n + 0x01, 1, [CW_INOM_INOM n]⟩
def CW_LITLO_LITLO (n : Nat) : Fld := ⟨cwAddr n + 0x02, 0, 8, .rwl, 128⟩
def CW_LITLO (n : Nat) : Reg := ⟨.CW_LITLO, n, 0, 0, cwAddr n + 0x02, 1, [CW_LITLO_LITLO n]⟩
def CW_LITHI_LITHI (n : Nat) : Fld := ⟨cwAddr n + 0x03, 0, 10, .rwl, 384⟩
def CW_LITHI (n : Nat) : Reg := ⟨.CW_LITHI, n, 0, 0, cwAddr n + 0x03, 1, [CW_LITHI_LITHI n]⟩
def CW_IDARK_IDARK (n : Nat) : Fld := ⟨cwAddr n + 0x04, 0, 12, .rwl, 0x029⟩
def CW_IDARK (n : Nat) : Reg := ⟨.CW_IDARK, n, 0, 0, cwAddr n + 0x04, 1, [CW_IDARK_IDARK n]⟩
def CW_VDARK_VDARK (n : Nat) : Fld := ⟨cwAddr n + 0x05, 0, 12, .rwl, 0x072⟩
def CW_VDARK (n : Nat) : Reg := ⟨.CW_VDARK, n, 0, 0, cwAddr n + 0x05, 1, [CW_VDARK_VDARK n]⟩
def CW_CMIN_CMIN (n : Nat) : Fld := ⟨cwAddr n + 0x06, 0, 12, .rwl, 0x029⟩
def CW_CMIN (n : Nat) : Reg := ⟨.CW_CMIN, n, 0, 0, cwAddr n + 0x06, 1, [CW_CMIN_CMIN n]⟩
def CW_DSET_DSET (n : Nat) : Fld := ⟨cwAddr n + 0x07, 0, 12, .rwl, 0x00A⟩
def CW_DSET (n : Nat) : Reg := ⟨.CW_DSET, n, 0, 0, cwAddr n + 0x07, 1, [CW_DSET_DSET n]⟩
def CW_CVER_CVER (n : Nat) : Fld := ⟨cwAddr n + 0x08, 0, 3, .ro, 0⟩
def CW_CVER (n : Nat) : Reg := ⟨.CW_CVER, n, 0, 0, cwAddr n + 0x08, 1, [CW_CVER_CVER n]⟩
def CW_MEAN_MEAN (n : Nat) : Fld := ⟨cwAddr n + 0x09, 0, 24, .ro, 0⟩
def CW_MEAN (n : Nat) : Reg := ⟨.CW_MEAN, n, 0, 0, cwAddr n + 0x09, 2, [CW_MEAN_MEAN n]⟩

/-! spec/05_lamp_proof.md, R192 -/

def SN_APRF_REACT (a : Nat) : Fld := ⟨0xD12200+a, 0, 2, (.rws a), 0⟩
def SN_APRF_SUBST (a : Nat) : Fld := ⟨0xD12200+a, 2, 6, (.rws a), 0⟩
def SN_APRF_OPTREQ (a : Nat) : Fld := ⟨0xD12200+a, 8, 1, (.rws a), 0⟩
def SN_APRF (a : Nat) : Reg := ⟨.SN_APRF, a, 0, 0, 0xD12200+a, 1, [SN_APRF_REACT a, SN_APRF_SUBST a, SN_APRF_OPTREQ a]⟩
def SN_AGVER_STATE (g : Nat) : Fld := ⟨0xD12240+2*g, 0, 2, .ro, 0⟩
def SN_AGVER_NFAIL (g : Nat) : Fld := ⟨0xD12240+2*g, 2, 6, .ro, 0⟩
def SN_AGVER_FIRST (g : Nat) : Fld := ⟨0xD12240+2*g, 12, 8, .ro, 0⟩
def SN_AGVER (g : Nat) : Reg := ⟨.SN_AGVER, g, 0, 0, 0xD12240+2*g, 2, [SN_AGVER_STATE g, SN_AGVER_NFAIL g, SN_AGVER_FIRST g]⟩
def SN_LCLR_CH : Fld := ⟨0xD12260, 0, 8, .wo, 0⟩
def SN_LCLR_KEY : Fld := ⟨0xD12260, 12, 12, .wo, 0⟩
def SN_LCLR : Reg := ⟨.SN_LCLR, 0, 0, 0, 0xD12260, 2, [SN_LCLR_CH, SN_LCLR_KEY]⟩
def SN_LCLRST_REF : Fld := ⟨0xD12262, 0, 4, .ro, 0⟩
def SN_LCLRST_PEND : Fld := ⟨0xD12262, 4, 1, .ro, 0⟩
def SN_LCLRST : Reg := ⟨.SN_LCLRST, 0, 0, 0, 0xD12262, 1, [SN_LCLRST_REF, SN_LCLRST_PEND]⟩

/-! spec/05_lamp_proof.md, R193 -/

def SPT_INCFG_FS (i : Nat) : Fld := ⟨0xD20000+i, 0, 2, .rw, 1⟩
def SPT_INCFG_EN (i : Nat) : Fld := ⟨0xD20000+i, 2, 1, .rw, 0⟩
def SPT_INCFG_AUTOR (i : Nat) : Fld := ⟨0xD20000+i, 3, 1, .rw, 1⟩
def SPT_INCFG_FILT (i : Nat) : Fld := ⟨0xD20000+i, 4, 2, .rwl, 0⟩
def SPT_INCFG (i : Nat) : Reg := ⟨.SPT_INCFG, i, 0, 0, 0xD20000+i, 1, [SPT_INCFG_FS i, SPT_INCFG_EN i, SPT_INCFG_AUTOR i, SPT_INCFG_FILT i]⟩
def SPT_STAT_SAT (i : Nat) : Fld := ⟨0xD20020+i, 0, 1, .w1c, 0⟩
def SPT_STAT_RHOLD (i : Nat) : Fld := ⟨0xD20020+i, 1, 1, .ro, 0⟩
def SPT_STAT_INTERF (i : Nat) : Fld := ⟨0xD20020+i, 2, 1, .w1c, 0⟩
def SPT_STAT_FAULT (i : Nat) : Fld := ⟨0xD20020+i, 3, 1, .ro, 0⟩
def SPT_STAT_FSA (i : Nat) : Fld := ⟨0xD20020+i, 4, 2, .ro, 1⟩
def SPT_STAT (i : Nat) : Reg := ⟨.SPT_STAT, i, 0, 0, 0xD20020+i, 1, [SPT_STAT_SAT i, SPT_STAT_RHOLD i, SPT_STAT_INTERF i, SPT_STAT_FAULT i, SPT_STAT_FSA i]⟩
def SPT_AMB_AMB (i : Nat) : Fld := ⟨0xD20040+2*i, 0, 24, .ro, 0⟩
def SPT_AMB (i : Nat) : Reg := ⟨.SPT_AMB, i, 0, 0, 0xD20040+2*i, 2, [SPT_AMB_AMB i]⟩
def SPT_CTL_RUN : Fld := ⟨0xD20080, 0, 1, .rw, 0⟩
def SPT_CTL : Reg := ⟨.SPT_CTL, 0, 0, 0, 0xD20080, 1, [SPT_CTL_RUN]⟩
def SPT_ZTH_ZTH : Fld := ⟨0xD20081, 0, 12, .rwl, 64⟩
def SPT_ZTH : Reg := ⟨.SPT_ZTH, 0, 0, 0, 0xD20081, 1, [SPT_ZTH_ZTH]⟩
def SPT_XWIN_XMAX : Fld := ⟨0xD20082, 0, 2, .rw, 2⟩
def SPT_XWIN : Reg := ⟨.SPT_XWIN, 0, 0, 0, 0xD20082, 1, [SPT_XWIN_XMAX]⟩
def SPT_CBIDX_IDX : Fld := ⟨0xD20083, 0, 11, .rw, 0⟩
def SPT_CBIDX : Reg := ⟨.SPT_CBIDX, 0, 0, 0, 0xD20083, 1, [SPT_CBIDX_IDX]⟩
def SPT_CBAL_BAL : Fld := ⟨0xD20084, 0, 12, .ro, 1⟩
def SPT_CBAL : Reg := ⟨.SPT_CBAL, 0, 0, 0, 0xD20084, 1, [SPT_CBAL_BAL]⟩
def SPT_DEG_OPTDEG : Fld := ⟨0xD20085, 0, 1, .ro, 0⟩
def SPT_DEG : Reg := ⟨.SPT_DEG, 0, 0, 0, 0xD20085, 1, [SPT_DEG_OPTDEG]⟩

/-! spec/06_tightrope.md, R220 -/

def TRP_CTL_RATE : Fld := ⟨0xD30000, 0, 2, .rw, 0⟩
def TRP_CTL_PARK : Fld := ⟨0xD30000, 2, 1, .rw, 0⟩
def TRP_CTL_CLK : Fld := ⟨0xD30000, 3, 3, .rw, 2⟩
def TRP_CTL : Reg := ⟨.TRP_CTL, 0, 0, 0, 0xD30000, 1, [TRP_CTL_RATE, TRP_CTL_PARK, TRP_CTL_CLK]⟩
def TRP_STAT_SWEEP : Fld := ⟨0xD30001, 0, 1, .ro, 0⟩
def TRP_STAT_WIN : Fld := ⟨0xD30001, 1, 4, .ro, 0⟩
def TRP_STAT_MAPERR : Fld := ⟨0xD30001, 5, 1, .w1c, 0⟩
def TRP_STAT : Reg := ⟨.TRP_STAT, 0, 0, 0, 0xD30001, 1, [TRP_STAT_SWEEP, TRP_STAT_WIN, TRP_STAT_MAPERR]⟩
def TRP_SWCNT_COUNT : Fld := ⟨0xD30002, 0, 12, .ro, 0⟩
def TRP_SWCNT : Reg := ⟨.TRP_SWCNT, 0, 0, 0, 0xD30002, 1, [TRP_SWCNT_COUNT]⟩
def TRP_RXMAP_CLU (r : Nat) : Fld := ⟨0xD30010+r, 0, 3, .rw, (r/4+2)⟩
def TRP_RXMAP_WIN (r : Nat) : Fld := ⟨0xD30010+r, 3, 4, .rw, (r/4)⟩
def TRP_RXMAP_EN (r : Nat) : Fld := ⟨0xD30010+r, 7, 1, .rw, 0⟩
def TRP_RXMAP (r : Nat) : Reg := ⟨.TRP_RXMAP, r, 0, 0, 0xD30010+r, 1, [TRP_RXMAP_CLU r, TRP_RXMAP_WIN r, TRP_RXMAP_EN r]⟩
def TRP_FPOST_CH : Fld := ⟨0xD30040, 0, 8, .wo, 0⟩
def TRP_FPOST_CLASS : Fld := ⟨0xD30040, 8, 3, .wo, 0⟩
def TRP_FPOST_DIST : Fld := ⟨0xD30040, 12, 12, .wo, 0⟩
def TRP_FPOST : Reg := ⟨.TRP_FPOST, 0, 0, 0, 0xD30040, 2, [TRP_FPOST_CH, TRP_FPOST_CLASS, TRP_FPOST_DIST]⟩
def TRP_FPCNT_COUNT : Fld := ⟨0xD30042, 0, 12, .ro, 0⟩
def TRP_FPCNT : Reg := ⟨.TRP_FPCNT, 0, 0, 0, 0xD30042, 1, [TRP_FPCNT_COUNT]⟩

/-! spec/06_tightrope.md, R221 -/

def TRP_RCFG_CIDX (r : Nat) : Fld := ⟨trrAddr r + 0x00, 0, 11, .rwl, (1001+r)⟩
def TRP_RCFG (r : Nat) : Reg := ⟨.TRP_RCFG, r, 0, 0, trrAddr r + 0x00, 1, [TRP_RCFG_CIDX r]⟩
def TRP_RSTAT_SLOT (r : Nat) : Fld := ⟨trrAddr r + 0x01, 0, 3, .ro, 0⟩
def TRP_RSTAT_STATE (r : Nat) : Fld := ⟨trrAddr r + 0x01, 3, 2, .ro, 0⟩
def TRP_RSTAT_BUSY (r : Nat) : Fld := ⟨trrAddr r + 0x01, 5, 1, .ro, 0⟩
def TRP_RSTAT_OVR (r : Nat) : Fld := ⟨trrAddr r + 0x01, 6, 1, .w1c, 0⟩
def TRP_RSTAT_FAULT (r : Nat) : Fld := ⟨trrAddr r + 0x01, 7, 1, .ro, 0⟩
def TRP_RSTAT (r : Nat) : Reg := ⟨.TRP_RSTAT, r, 0, 0, trrAddr r + 0x01, 1, [TRP_RSTAT_SLOT r, TRP_RSTAT_STATE r, TRP_RSTAT_BUSY r, TRP_RSTAT_OVR r, TRP_RSTAT_FAULT r]⟩
def TRP_SLOT_EN (r : Nat) (j : Nat) : Fld := ⟨trrAddr r + 0x10+j, 0, 1, .rw, 0⟩
def TRP_SLOT_STSEL (r : Nat) (j : Nat) : Fld := ⟨trrAddr r + 0x10+j, 1, 2, .rw, 0⟩
def TRP_SLOT_AMP (r : Nat) (j : Nat) : Fld := ⟨trrAddr r + 0x10+j, 3, 5, .rw, 12⟩
def TRP_SLOT (r : Nat) (j : Nat) : Reg := ⟨.TRP_SLOT, r, j, 0, trrAddr r + 0x10+j, 1, [TRP_SLOT_EN r j, TRP_SLOT_STSEL r j, TRP_SLOT_AMP r j]⟩
def TRP_VF_VF (r : Nat) (j : Nat) : Fld := ⟨trrAddr r + 0x18+j, 0, 12, .rwl, 2867⟩
def TRP_VF (r : Nat) (j : Nat) : Reg := ⟨.TRP_VF, r, j, 0, trrAddr r + 0x18+j, 1, [TRP_VF_VF r j]⟩
def TRP_SKIP_COUNT (r : Nat) (j : Nat) : Fld := ⟨trrAddr r + 0x20+j, 0, 12, .ro, 0⟩
def TRP_SKIP (r : Nat) (j : Nat) : Reg := ⟨.TRP_SKIP, r, j, 0, trrAddr r + 0x20+j, 1, [TRP_SKIP_COUNT r j]⟩

/-! spec/08_traps_and_ordering.md, R310 -/

def PWR_VBASE_BASE (k : Nat) : Fld := ⟨0xD40800+2*k, 7, 17, .rwl, 0⟩
def PWR_VBASE (k : Nat) : Reg := ⟨.PWR_VBASE, k, 0, 0, 0xD40800+2*k, 2, [PWR_VBASE_BASE k]⟩
def DCMD_GO (k : Nat) (c : Nat) : Fld := ⟨dmaAddr k c + 0x0, 0, 1, .wo, 0⟩
def DCMD_STOP (k : Nat) (c : Nat) : Fld := ⟨dmaAddr k c + 0x0, 1, 1, .wo, 0⟩
def DCMD (k : Nat) (c : Nat) : Reg := ⟨.DCMD, k, c, 0, dmaAddr k c + 0x0, 1, [DCMD_GO k c, DCMD_STOP k c]⟩
def DCFG_KIND (k : Nat) (c : Nat) : Fld := ⟨dmaAddr k c + 0x1, 0, 2, .rw, 0⟩
def DCFG_RT (k : Nat) (c : Nat) : Fld := ⟨dmaAddr k c + 0x1, 2, 1, .rw, 0⟩
def DCFG_IRQ (k : Nat) (c : Nat) : Fld := ⟨dmaAddr k c + 0x1, 3, 1, .rw, 0⟩
def DCFG_ITGT (k : Nat) (c : Nat) : Fld := ⟨dmaAddr k c + 0x1, 4, 5, .rw, 0⟩
def DCFG_WM (k : Nat) (c : Nat) : Fld := ⟨dmaAddr k c + 0x1, 9, 2, .rw, 0⟩
def DCFG_IXEN (k : Nat) (c : Nat) : Fld := ⟨dmaAddr k c + 0x1, 11, 1, .rw, 0⟩
def DCFG (k : Nat) (c : Nat) : Reg := ⟨.DCFG, k, c, 0, dmaAddr k c + 0x1, 1, [DCFG_KIND k c, DCFG_RT k c, DCFG_IRQ k c, DCFG_ITGT k c, DCFG_WM k c, DCFG_IXEN k c]⟩
def DSTAT_STATE (k : Nat) (c : Nat) : Fld := ⟨dmaAddr k c + 0x2, 0, 2, .ro, 0⟩
def DSTAT_ERR (k : Nat) (c : Nat) : Fld := ⟨dmaAddr k c + 0x2, 2, 3, .ro, 0⟩
def DSTAT_CLIP (k : Nat) (c : Nat) : Fld := ⟨dmaAddr k c + 0x2, 5, 1, .w1c, 0⟩
def DSTAT (k : Nat) (c : Nat) : Reg := ⟨.DSTAT, k, c, 0, dmaAddr k c + 0x2, 1, [DSTAT_STATE k c, DSTAT_ERR k c, DSTAT_CLIP k c]⟩
def DROP_COUNT (k : Nat) (c : Nat) : Fld := ⟨dmaAddr k c + 0x3, 0, 12, .ro, 0⟩
def DROP (k : Nat) (c : Nat) : Reg := ⟨.DROP, k, c, 0, dmaAddr k c + 0x3, 1, [DROP_COUNT k c]⟩
def DSRC_SRC (k : Nat) (c : Nat) : Fld := ⟨dmaAddr k c + 0x4, 0, 24, .rw, 0⟩
def DSRC (k : Nat) (c : Nat) : Reg := ⟨.DSRC, k, c, 0, dmaAddr k c + 0x4, 2, [DSRC_SRC k c]⟩
def DDST_DST (k : Nat) (c : Nat) : Fld := ⟨dmaAddr k c + 0x6, 0, 24, .rw, 0⟩
def DDST (k : Nat) (c : Nat) : Reg := ⟨.DDST, k, c, 0, dmaAddr k c + 0x6, 2, [DDST_DST k c]⟩
def DLEN_LEN (k : Nat) (c : Nat) : Fld := ⟨dmaAddr k c + 0x8, 0, 24, .rwh, 0⟩
def DLEN (k : Nat) (c : Nat) : Reg := ⟨.DLEN, k, c, 0, dmaAddr k c + 0x8, 2, [DLEN_LEN k c]⟩
def DLIM_LIM (k : Nat) (c : Nat) : Fld := ⟨dmaAddr k c + 0xA, 0, 24, .rw, 0⟩
def DLIM (k : Nat) (c : Nat) : Reg := ⟨.DLIM, k, c, 0, dmaAddr k c + 0xA, 2, [DLIM_LIM k c]⟩
def DWIDX_WIDX (k : Nat) (c : Nat) : Fld := ⟨dmaAddr k c + 0xC, 0, 24, .ro, 0⟩
def DWIDX (k : Nat) (c : Nat) : Reg := ⟨.DWIDX, k, c, 0, dmaAddr k c + 0xC, 2, [DWIDX_WIDX k c]⟩
def DRIDX_RIDX (k : Nat) (c : Nat) : Fld := ⟨dmaAddr k c + 0xE, 0, 24, .rw, 0⟩
def DRIDX (k : Nat) (c : Nat) : Reg := ⟨.DRIDX, k, c, 0, dmaAddr k c + 0xE, 2, [DRIDX_RIDX k c]⟩
def PWR_IEN_LINES (q : Nat) : Fld := ⟨0xD42000+q, 0, 9, .rw, 0⟩
def PWR_IEN (q : Nat) : Reg := ⟨.PWR_IEN, q, 0, 0, 0xD42000+q, 1, [PWR_IEN_LINES q]⟩
def PWR_IPEND_LINES (q : Nat) : Fld := ⟨0xD42100+q, 0, 9, .w1c, 0⟩
def PWR_IPEND (q : Nat) : Reg := ⟨.PWR_IPEND, q, 0, 0, 0xD42100+q, 1, [PWR_IPEND_LINES q]⟩
def PWR_ISET_SOFT (q : Nat) : Fld := ⟨0xD42200+q, 8, 1, .wo, 0⟩
def PWR_ISET (q : Nat) : Reg := ⟨.PWR_ISET, q, 0, 0, 0xD42200+q, 1, [PWR_ISET_SOFT q]⟩

/-! spec/09_lockstep.md, R343 -/

def PWR_ENGST_STATE (e : Nat) : Fld := ⟨0xD43000+4*e, 0, 3, .ro, 0⟩
def PWR_ENGST_BROKEN (e : Nat) : Fld := ⟨0xD43000+4*e, 3, 1, .ro, 0⟩
def PWR_ENGST_CAUSE (e : Nat) : Fld := ⟨0xD43000+4*e, 4, 3, .ro, 0⟩
def PWR_ENGST_DONE (e : Nat) : Fld := ⟨0xD43000+4*e, 7, 1, .wo, 0⟩
def PWR_ENGST_FROM (e : Nat) : Fld := ⟨0xD43000+4*e, 12, 7, .ro, 0⟩
def PWR_ENGST_FROMV (e : Nat) : Fld := ⟨0xD43000+4*e, 19, 1, .ro, 0⟩
def PWR_ENGST_GROUP (e : Nat) : Fld := ⟨0xD43000+4*e, 24, 6, .ro, 0⟩
def PWR_ENGST (e : Nat) : Reg := ⟨.PWR_ENGST, e, 0, 0, 0xD43000+4*e, 3, [PWR_ENGST_STATE e, PWR_ENGST_BROKEN e, PWR_ENGST_CAUSE e, PWR_ENGST_DONE e, PWR_ENGST_FROM e, PWR_ENGST_FROMV e, PWR_ENGST_GROUP e]⟩
def PWR_ENGMAP_ROLE (e : Nat) : Fld := ⟨0xD43200+e, 0, 2, .rwl, 0⟩
def PWR_ENGMAP_SPARE (e : Nat) : Fld := ⟨0xD43200+e, 2, 7, .rwl, 0⟩
def PWR_ENGMAP (e : Nat) : Reg := ⟨.PWR_ENGMAP, e, 0, 0, 0xD43200+e, 1, [PWR_ENGMAP_ROLE e, PWR_ENGMAP_SPARE e]⟩
def PWR_XDIS_COUNT (e : Nat) : Fld := ⟨0xD43280+e, 0, 12, .ro, 0⟩
def PWR_XDIS (e : Nat) : Reg := ⟨.PWR_XDIS, e, 0, 0, 0xD43280+e, 1, [PWR_XDIS_COUNT e]⟩
def PWR_CKCMT_HALF (e : Nat) : Fld := ⟨0xD43300+e, 0, 1, .rwh, 0⟩
def PWR_CKCMT_SEQ (e : Nat) : Fld := ⟨0xD43300+e, 1, 11, .rwh, 0⟩
def PWR_CKCMT (e : Nat) : Reg := ⟨.PWR_CKCMT, e, 0, 0, 0xD43300+e, 1, [PWR_CKCMT_HALF e, PWR_CKCMT_SEQ e]⟩
def PWR_SPLIT_MAP : Fld := ⟨0xD43380, 0, 6, .ro, 0⟩
def PWR_SPLIT_PERMIT : Fld := ⟨0xD43380, 6, 1, .ro, 0⟩
def PWR_SPLIT_REFUSED : Fld := ⟨0xD43380, 7, 1, .ro, 0⟩
def PWR_SPLIT : Reg := ⟨.PWR_SPLIT, 0, 0, 0, 0xD43380, 1, [PWR_SPLIT_MAP, PWR_SPLIT_PERMIT, PWR_SPLIT_REFUSED]⟩
def PWR_CLUST_LOST : Fld := ⟨0xD43381, 0, 8, .ro, 0⟩
def PWR_CLUST_RSVOK : Fld := ⟨0xD43381, 8, 1, .ro, 0⟩
def PWR_CLUST : Reg := ⟨.PWR_CLUST, 0, 0, 0, 0xD43381, 1, [PWR_CLUST_LOST, PWR_CLUST_RSVOK]⟩
def PWR_CKBASE_BASE : Fld := ⟨0xD43382, 0, 24, .rwl, 0⟩
def PWR_CKBASE : Reg := ⟨.PWR_CKBASE, 0, 0, 0, 0xD43382, 2, [PWR_CKBASE_BASE]⟩
def PWR_TKVEC_VEC : Fld := ⟨0xD43384, 0, 24, .rwl, 0⟩
def PWR_TKVEC : Reg := ⟨.PWR_TKVEC, 0, 0, 0, 0xD43384, 2, [PWR_TKVEC_VEC]⟩

/-! spec/09_lockstep.md, R344 -/

def SN_TWCFG_ENGA (t : Nat) : Fld := ⟨0xD12400+2*t, 0, 7, .rwl, 0⟩
def SN_TWCFG_ENGB (t : Nat) : Fld := ⟨0xD12400+2*t, 7, 7, .rwl, 0⟩
def SN_TWCFG_DIR (t : Nat) : Fld := ⟨0xD12400+2*t, 14, 1, .rwl, 0⟩
def SN_TWCFG_EN (t : Nat) : Fld := ⟨0xD12400+2*t, 15, 1, .rwl, 0⟩
def SN_TWCFG_SKEW (t : Nat) : Fld := ⟨0xD12400+2*t, 16, 8, .rwl, 0⟩
def SN_TWCFG (t : Nat) : Reg := ⟨.SN_TWCFG, t, 0, 0, 0xD12400+2*t, 2, [SN_TWCFG_ENGA t, SN_TWCFG_ENGB t, SN_TWCFG_DIR t, SN_TWCFG_EN t, SN_TWCFG_SKEW t]⟩
def SN_TWTOL_TOL (t : Nat) : Fld := ⟨0xD12480+2*t, 0, 12, .rwl, 0⟩
def SN_TWTOL_SAFEV (t : Nat) : Fld := ⟨0xD12480+2*t, 12, 12, .rwl, 0⟩
def SN_TWTOL (t : Nat) : Reg := ⟨.SN_TWTOL, t, 0, 0, 0xD12480+2*t, 2, [SN_TWTOL_TOL t, SN_TWTOL_SAFEV t]⟩
def SN_TWRA_VALUE (t : Nat) : Fld := ⟨0xD12500+2*t, 0, 12, .rw, 0⟩
def SN_TWRA_SEQ (t : Nat) : Fld := ⟨0xD12500+2*t, 12, 4, .rw, 0⟩
def SN_TWRA (t : Nat) : Reg := ⟨.SN_TWRA, t, 0, 0, 0xD12500+2*t, 2, [SN_TWRA_VALUE t, SN_TWRA_SEQ t]⟩
def SN_TWRB_VALUE (t : Nat) : Fld := ⟨0xD12580+2*t, 0, 12, .rw, 0⟩
def SN_TWRB_SEQ (t : Nat) : Fld := ⟨0xD12580+2*t, 12, 4, .rw, 0⟩
def SN_TWRB (t : Nat) : Reg := ⟨.SN_TWRB, t, 0, 0, 0xD12580+2*t, 2, [SN_TWRB_VALUE t, SN_TWRB_SEQ t]⟩
def SN_TWVAL_VALUE (t : Nat) : Fld := ⟨0xD12600+t, 0, 12, .ro, 0⟩
def SN_TWVAL (t : Nat) : Reg := ⟨.SN_TWVAL, t, 0, 0, 0xD12600+t, 1, [SN_TWVAL_VALUE t]⟩
def SN_TWST_STATE (t : Nat) : Fld := ⟨0xD12640+t, 0, 2, .ro, 0⟩
def SN_TWST_MCNT (t : Nat) : Fld := ⟨0xD12640+t, 2, 2, .ro, 0⟩
def SN_TWST_COLOC (t : Nat) : Fld := ⟨0xD12640+t, 4, 1, .ro, 0⟩
def SN_TWST_WAIVE (t : Nat) : Fld := ⟨0xD12640+t, 5, 1, .ro, 0⟩
def SN_TWST (t : Nat) : Reg := ⟨.SN_TWST, t, 0, 0, 0xD12640+t, 1, [SN_TWST_STATE t, SN_TWST_MCNT t, SN_TWST_COLOC t, SN_TWST_WAIVE t]⟩

/-! spec/10_machine_safety.md, R393 -/

def SN_IPCFG_TYPE (p : Nat) : Fld := ⟨0xD12800+4*p, 0, 3, .rwl, 0⟩
def SN_IPCFG_FILT (p : Nat) : Fld := ⟨0xD12800+4*p, 3, 8, .rwl, 30⟩
def SN_IPCFG_DISC (p : Nat) : Fld := ⟨0xD12800+4*p, 12, 9, .rwl, 100⟩
def SN_IPCFG_TPA (p : Nat) : Fld := ⟨0xD12800+4*p, 24, 4, .rwl, 8⟩
def SN_IPCFG_TPB (p : Nat) : Fld := ⟨0xD12800+4*p, 28, 4, .rwl, 8⟩
def SN_IPCFG_TPTOL (p : Nat) : Fld := ⟨0xD12800+4*p, 36, 5, .rwl, 10⟩
def SN_IPCFG_KSLOT (p : Nat) : Fld := ⟨0xD12800+4*p, 41, 6, .rwl, 0⟩
def SN_IPCFG (p : Nat) : Reg := ⟨.SN_IPCFG, p, 0, 0, 0xD12800+4*p, 4, [SN_IPCFG_TYPE p, SN_IPCFG_FILT p, SN_IPCFG_DISC p, SN_IPCFG_TPA p, SN_IPCFG_TPB p, SN_IPCFG_TPTOL p, SN_IPCFG_KSLOT p]⟩
def SN_TPCFG_TPW : Fld := ⟨0xD12880, 0, 5, .rwl, 4⟩
def SN_TPCFG_TPPER : Fld := ⟨0xD12880, 5, 7, .rwl, 10⟩
def SN_TPCFG : Reg := ⟨.SN_TPCFG, 0, 0, 0, 0xD12880, 1, [SN_TPCFG_TPW, SN_TPCFG_TPPER]⟩
def SN_OTCFG_OTPW : Fld := ⟨0xD12881, 0, 4, .rwl, 4⟩
def SN_OTCFG_OTPER : Fld := ⟨0xD12881, 4, 8, .rwl, 10⟩
def SN_OTCFG : Reg := ⟨.SN_OTCFG, 0, 0, 0, 0xD12881, 1, [SN_OTCFG_OTPW, SN_OTCFG_OTPER]⟩
def SN_OUTCFG_WATCHEN : Fld := ⟨0xD12882, 0, 8, .rwl, 0⟩
def SN_OUTCFG_SAFEAD : Fld := ⟨0xD12882, 8, 1, .rwl, 0⟩
def SN_OUTCFG : Reg := ⟨.SN_OUTCFG, 0, 0, 0, 0xD12882, 1, [SN_OUTCFG_WATCHEN, SN_OUTCFG_SAFEAD]⟩
def SN_OUTREQ_SOREQ : Fld := ⟨0xD12883, 0, 8, .rw, 0⟩
def SN_OUTREQ_STOREQ : Fld := ⟨0xD12883, 8, 1, .rw, 0⟩
def SN_OUTREQ : Reg := ⟨.SN_OUTREQ, 0, 0, 0, 0xD12883, 1, [SN_OUTREQ_SOREQ, SN_OUTREQ_STOREQ]⟩
def SN_OUTST_SOON : Fld := ⟨0xD12884, 0, 8, .ro, 0⟩
def SN_OUTST_TORQUE : Fld := ⟨0xD12884, 8, 1, .ro, 0⟩
def SN_OUTST_AD : Fld := ⟨0xD12884, 9, 1, .ro, 0⟩
def SN_OUTST : Reg := ⟨.SN_OUTST, 0, 0, 0, 0xD12884, 1, [SN_OUTST_SOON, SN_OUTST_TORQUE, SN_OUTST_AD]⟩
def SN_SOFLT_SO : Fld := ⟨0xD12885, 0, 8, .w1c, 0⟩
def SN_SOFLT_STOA : Fld := ⟨0xD12885, 8, 1, .w1c, 0⟩
def SN_SOFLT_STOB : Fld := ⟨0xD12885, 9, 1, .w1c, 0⟩
def SN_SOFLT_AD : Fld := ⟨0xD12885, 10, 1, .w1c, 0⟩
def SN_SOFLT : Reg := ⟨.SN_SOFLT, 0, 0, 0, 0xD12885, 1, [SN_SOFLT_SO, SN_SOFLT_STOA, SN_SOFLT_STOB, SN_SOFLT_AD]⟩
def SN_FNRST_F : Fld := ⟨0xD12886, 0, 5, .wo, 0⟩
def SN_FNRST_KEY : Fld := ⟨0xD12886, 5, 7, .wo, 0⟩
def SN_FNRST : Reg := ⟨.SN_FNRST, 0, 0, 0, 0xD12886, 1, [SN_FNRST_F, SN_FNRST_KEY]⟩
def SN_SIRAW_LEVEL : Fld := ⟨0xD12888, 0, 32, .ro, 0⟩
def SN_SIRAW : Reg := ⟨.SN_SIRAW, 0, 0, 0, 0xD12888, 2, [SN_SIRAW_LEVEL]⟩
def SN_SIFLT_TPF : Fld := ⟨0xD1288A, 0, 32, .w1c, 0⟩
def SN_SIFLT : Reg := ⟨.SN_SIFLT, 0, 0, 0, 0xD1288A, 2, [SN_SIFLT_TPF]⟩
def SN_FNCFG_TYPE (f : Nat) : Fld := ⟨0xD12900+8*f, 0, 3, .rwl, 0⟩
def SN_FNCFG_IPA (f : Nat) : Fld := ⟨0xD12900+8*f, 3, 5, .rwl, 0⟩
def SN_FNCFG_CAT (f : Nat) : Fld := ⟨0xD12900+8*f, 8, 1, .rwl, 0⟩
def SN_FNCFG_MANRST (f : Nat) : Fld := ⟨0xD12900+8*f, 9, 1, .rwl, 0⟩
def SN_FNCFG_DGEN (f : Nat) : Fld := ⟨0xD12900+8*f, 10, 1, .rwl, 0⟩
def SN_FNCFG_IPB (f : Nat) : Fld := ⟨0xD12900+8*f, 12, 5, .rwl, 0⟩
def SN_FNCFG_RST (f : Nat) : Fld := ⟨0xD12900+8*f, 17, 5, .rwl, 0⟩
def SN_FNCFG_RSTEN (f : Nat) : Fld := ⟨0xD12900+8*f, 22, 1, .rwl, 0⟩
def SN_FNCFG_SOMASK (f : Nat) : Fld := ⟨0xD12900+8*f, 24, 8, .rwl, 0⟩
def SN_FNCFG_STO (f : Nat) : Fld := ⟨0xD12900+8*f, 32, 1, .rwl, 0⟩
def SN_FNCFG_AD (f : Nat) : Fld := ⟨0xD12900+8*f, 33, 1, .rwl, 0⟩
def SN_FNCFG_TWEN (f : Nat) : Fld := ⟨0xD12900+8*f, 34, 1, .rwl, 0⟩
def SN_FNCFG_TWIN (f : Nat) : Fld := ⟨0xD12900+8*f, 36, 6, .rwl, 0⟩
def SN_FNCFG_DASP (f : Nat) : Fld := ⟨0xD12900+8*f, 42, 6, .rwl, 0⟩
def SN_FNCFG_T1 (f : Nat) : Fld := ⟨0xD12900+8*f, 48, 10, .rwl, 0⟩
def SN_FNCFG_DAEN (f : Nat) : Fld := ⟨0xD12900+8*f, 58, 1, .rwl, 0⟩
def SN_FNCFG_LASP (f : Nat) : Fld := ⟨0xD12900+8*f, 60, 6, .rwl, 0⟩
def SN_FNCFG (f : Nat) : Reg := ⟨.SN_FNCFG, f, 0, 0, 0xD12900+8*f, 6, [SN_FNCFG_TYPE f, SN_FNCFG_IPA f, SN_FNCFG_CAT f, SN_FNCFG_MANRST f, SN_FNCFG_DGEN f, SN_FNCFG_IPB f, SN_FNCFG_RST f, SN_FNCFG_RSTEN f, SN_FNCFG_SOMASK f, SN_FNCFG_STO f, SN_FNCFG_AD f, SN_FNCFG_TWEN f, SN_FNCFG_TWIN f, SN_FNCFG_DASP f, SN_FNCFG_T1 f, SN_FNCFG_DAEN f, SN_FNCFG_LASP f]⟩
def SN_FNST_STATE (f : Nat) : Fld := ⟨0xD129C0+f, 0, 3, .ro, 0⟩
def SN_FNST_PA (f : Nat) : Fld := ⟨0xD129C0+f, 3, 1, .ro, 0⟩
def SN_FNST_PB (f : Nat) : Fld := ⟨0xD129C0+f, 4, 1, .ro, 0⟩
def SN_FNST_DEG (f : Nat) : Fld := ⟨0xD129C0+f, 5, 2, .ro, 0⟩
def SN_FNST_TESTED (f : Nat) : Fld := ⟨0xD129C0+f, 7, 1, .ro, 0⟩
def SN_FNST_WAITRUN (f : Nat) : Fld := ⟨0xD129C0+f, 8, 1, .ro, 1⟩
def SN_FNST_FCAUSE (f : Nat) : Fld := ⟨0xD129C0+f, 9, 3, .ro, 0⟩
def SN_FNST (f : Nat) : Reg := ⟨.SN_FNST, f, 0, 0, 0xD129C0+f, 1, [SN_FNST_STATE f, SN_FNST_PA f, SN_FNST_PB f, SN_FNST_DEG f, SN_FNST_TESTED f, SN_FNST_WAITRUN f, SN_FNST_FCAUSE f]⟩
def SN_DGREM_TIME (f : Nat) : Fld := ⟨0xD129E0+f, 0, 12, .ro, 0⟩
def SN_DGREM (f : Nat) : Reg := ⟨.SN_DGREM, f, 0, 0, 0xD129E0+f, 1, [SN_DGREM_TIME f]⟩

/-! spec/10_machine_safety.md, R394 -/

def SEAL_SW_SW : Fld := ⟨0xDB0000, 0, 16, .ro, 0⟩
def SEAL_SW : Reg := ⟨.SEAL_SW, 0, 0, 0, 0xDB0000, 2, [SEAL_SW_SW]⟩
def SEAL_SWF_FLT : Fld := ⟨0xDB0002, 0, 16, .ro, 0⟩
def SEAL_SWF : Reg := ⟨.SEAL_SWF, 0, 0, 0, 0xDB0002, 2, [SEAL_SWF_FLT]⟩
def SEAL_STAT_STATE : Fld := ⟨0xDB0004, 0, 2, .ro, 0⟩
def SEAL_STAT_REASON : Fld := ⟨0xDB0004, 2, 5, .ro, 0⟩
def SEAL_STAT_CHKOK : Fld := ⟨0xDB0004, 7, 1, .ro, 0⟩
def SEAL_STAT : Reg := ⟨.SEAL_STAT, 0, 0, 0, 0xDB0004, 1, [SEAL_STAT_STATE, SEAL_STAT_REASON, SEAL_STAT_CHKOK]⟩
def SEAL_CMD_CHECK : Fld := ⟨0xDB0005, 0, 1, .wo, 0⟩
def SEAL_CMD : Reg := ⟨.SEAL_CMD, 0, 0, 0, 0xDB0005, 1, [SEAL_CMD_CHECK]⟩
def SEAL_CRC_CRC : Fld := ⟨0xDB0006, 0, 32, .ro, 0⟩
def SEAL_CRC : Reg := ⟨.SEAL_CRC, 0, 0, 0, 0xDB0006, 3, [SEAL_CRC_CRC]⟩
def SEAL_CODE_CODE : Fld := ⟨0xDB0009, 0, 9, .ro, 0⟩
def SEAL_CODE : Reg := ⟨.SEAL_CODE, 0, 0, 0, 0xDB0009, 1, [SEAL_CODE_CODE]⟩
def SEAL_SER_SERIAL : Fld := ⟨0xDB000A, 0, 48, .ro, 0⟩
def SEAL_SER : Reg := ⟨.SEAL_SER, 0, 0, 0, 0xDB000A, 4, [SEAL_SER_SERIAL]⟩
def SEAL_DEC_DMD : Fld := ⟨0xDB000E, 0, 3, .ro, 0⟩
def SEAL_DEC_PAIREN : Fld := ⟨0xDB000E, 3, 1, .ro, 0⟩
def SEAL_DEC_ROLEB : Fld := ⟨0xDB000E, 4, 1, .ro, 0⟩
def SEAL_DEC_SPLITP : Fld := ⟨0xDB000E, 5, 1, .ro, 0⟩
def SEAL_DEC : Reg := ⟨.SEAL_DEC, 0, 0, 0, 0xDB000E, 1, [SEAL_DEC_DMD, SEAL_DEC_PAIREN, SEAL_DEC_ROLEB, SEAL_DEC_SPLITP]⟩
def SEAL_SS_STATE (n : Nat) : Fld := ⟨0xDB1000+8*n, 0, 2, .rwl, 0⟩
def SEAL_SS_VALUE (n : Nat) : Fld := ⟨0xDB1000+8*n, 12, 16, .rwl, 0⟩
def SEAL_SS_PER (n : Nat) : Fld := ⟨0xDB1000+8*n, 36, 24, .rwl, 16000⟩
def SEAL_SS (n : Nat) : Reg := ⟨.SEAL_SS, n, 0, 0, 0xDB1000+8*n, 5, [SEAL_SS_STATE n, SEAL_SS_VALUE n, SEAL_SS_PER n]⟩

/-! spec/11_fault_collector.md, R422 -/

def FC_CFG_ERRSEV : Fld := ⟨0xD00000, 0, 3, .rw, 2⟩
def FC_CFG_FHCLU : Fld := ⟨0xD00000, 3, 3, .rwl, 0⟩
def FC_CFG_SOKFW : Fld := ⟨0xD00000, 6, 1, .rwl, 0⟩
def FC_CFG : Reg := ⟨.FC_CFG, 0, 0, 0, 0xD00000, 1, [FC_CFG_ERRSEV, FC_CFG_FHCLU, FC_CFG_SOKFW]⟩
def FC_STAT_MAXSEV : Fld := ⟨0xD00001, 0, 3, .ro, 0⟩
def FC_STAT_SELFOK : Fld := ⟨0xD00001, 3, 1, .ro, 1⟩
def FC_STAT_HEALTHY : Fld := ⟨0xD00001, 4, 1, .ro, 0⟩
def FC_STAT_SAFE : Fld := ⟨0xD00001, 5, 1, .ro, 0⟩
def FC_STAT : Reg := ⟨.FC_STAT, 0, 0, 0, 0xD00001, 1, [FC_STAT_MAXSEV, FC_STAT_SELFOK, FC_STAT_HEALTHY, FC_STAT_SAFE]⟩
def FC_FIRST_CLASS : Fld := ⟨0xD00002, 0, 4, .ro, 0⟩
def FC_FIRST_SEV : Fld := ⟨0xD00002, 4, 3, .ro, 0⟩
def FC_FIRST_VALID : Fld := ⟨0xD00002, 7, 1, .ro, 0⟩
def FC_FIRST_ESC : Fld := ⟨0xD00002, 8, 1, .ro, 0⟩
def FC_FIRST_SOURCE : Fld := ⟨0xD00002, 12, 12, .ro, 0⟩
def FC_FIRST_SEQ : Fld := ⟨0xD00002, 24, 12, .ro, 0⟩
def FC_FIRST : Reg := ⟨.FC_FIRST, 0, 0, 0, 0xD00002, 3, [FC_FIRST_CLASS, FC_FIRST_SEV, FC_FIRST_VALID, FC_FIRST_ESC, FC_FIRST_SOURCE, FC_FIRST_SEQ]⟩
def FC_FCLR_CLR : Fld := ⟨0xD00005, 0, 1, .wo, 0⟩
def FC_FCLR : Reg := ⟨.FC_FCLR, 0, 0, 0, 0xD00005, 1, [FC_FCLR_CLR]⟩
def FC_ACK_CLASS : Fld := ⟨0xD00006, 0, 4, .wo, 0⟩
def FC_ACK_ALL : Fld := ⟨0xD00006, 4, 1, .wo, 0⟩
def FC_ACK_SEQ : Fld := ⟨0xD00006, 12, 12, .wo, 0⟩
def FC_ACK : Reg := ⟨.FC_ACK, 0, 0, 0, 0xD00006, 2, [FC_ACK_CLASS, FC_ACK_ALL, FC_ACK_SEQ]⟩
def FC_SEQ_VALUE : Fld := ⟨0xD00008, 0, 12, .ro, 0⟩
def FC_SEQ : Reg := ⟨.FC_SEQ, 0, 0, 0, 0xD00008, 1, [FC_SEQ_VALUE]⟩
def FC_ERRN_FWLOW : Fld := ⟨0xD00009, 0, 1, .rw, 0⟩
def FC_ERRN_HWP : Fld := ⟨0xD00009, 1, 1, .ro, 0⟩
def FC_ERRN_PIN : Fld := ⟨0xD00009, 2, 1, .ro, 1⟩
def FC_ERRN : Reg := ⟨.FC_ERRN, 0, 0, 0, 0xD00009, 1, [FC_ERRN_FWLOW, FC_ERRN_HWP, FC_ERRN_PIN]⟩
def FC_SOK_KICK : Fld := ⟨0xD0000A, 0, 1, .wo, 0⟩
def FC_SOK_KMISS : Fld := ⟨0xD0000A, 1, 1, .w1c, 0⟩
def FC_SOK_LEVEL : Fld := ⟨0xD0000A, 2, 1, .ro, 0⟩
def FC_SOK : Reg := ⟨.FC_SOK, 0, 0, 0, 0xD0000A, 1, [FC_SOK_KICK, FC_SOK_KMISS, FC_SOK_LEVEL]⟩
def FC_RETRY_CLASS : Fld := ⟨0xD0000B, 0, 4, .wo, 0⟩
def FC_RETRY_SOURCE : Fld := ⟨0xD0000B, 12, 12, .wo, 0⟩
def FC_RETRY : Reg := ⟨.FC_RETRY, 0, 0, 0, 0xD0000B, 2, [FC_RETRY_CLASS, FC_RETRY_SOURCE]⟩
def FC_OPEN_COUNT (c : Nat) : Fld := ⟨0xD00010+c, 0, 9, .ro, 0⟩
def FC_OPEN_MAXSEV (c : Nat) : Fld := ⟨0xD00010+c, 9, 3, .ro, 0⟩
def FC_OPEN (c : Nat) : Reg := ⟨.FC_OPEN, c, 0, 0, 0xD00010+c, 1, [FC_OPEN_COUNT c, FC_OPEN_MAXSEV c]⟩
def FC_ROUTE_ENG (c : Nat) : Fld := ⟨0xD00020+c, 0, 7, .rw, 0⟩
def FC_ROUTE_CORE (c : Nat) : Fld := ⟨0xD00020+c, 7, 1, .rw, 0⟩
def FC_ROUTE_MINSEV (c : Nat) : Fld := ⟨0xD00020+c, 8, 3, .rw, 1⟩
def FC_ROUTE_EN (c : Nat) : Fld := ⟨0xD00020+c, 11, 1, .rw, 1⟩
def FC_ROUTE (c : Nat) : Reg := ⟨.FC_ROUTE, c, 0, 0, 0xD00020+c, 1, [FC_ROUTE_ENG c, FC_ROUTE_CORE c, FC_ROUTE_MINSEV c, FC_ROUTE_EN c]⟩
def FC_TB_DEPTH (c : Nat) : Fld := ⟨0xD00030+c, 0, 4, .rwl, 8⟩
def FC_TB_REFILL (c : Nat) : Fld := ⟨0xD00030+c, 4, 8, .rwl, 100⟩
def FC_TB (c : Nat) : Reg := ⟨.FC_TB, c, 0, 0, 0xD00030+c, 1, [FC_TB_DEPTH c, FC_TB_REFILL c]⟩
def FC_RUNG_COUNT (r : Nat) : Fld := ⟨0xD00040+r, 0, 12, .ro, 0⟩
def FC_RUNG (r : Nat) : Reg := ⟨.FC_RUNG, r, 0, 0, 0xD00040+r, 1, [FC_RUNG_COUNT r]⟩
def FC_STORMCNT_VALUE : Fld := ⟨0xD00044, 0, 12, .ro, 0⟩
def FC_STORMCNT : Reg := ⟨.FC_STORMCNT, 0, 0, 0, 0xD00044, 1, [FC_STORMCNT_VALUE]⟩
def FC_PATHOVF_VALUE : Fld := ⟨0xD00045, 0, 12, .ro, 0⟩
def FC_PATHOVF : Reg := ⟨.FC_PATHOVF, 0, 0, 0, 0xD00045, 1, [FC_PATHOVF_VALUE]⟩
def FC_LRIDX_INDEX : Fld := ⟨0xD00050, 0, 9, .rw, 0⟩
def FC_LRIDX : Reg := ⟨.FC_LRIDX, 0, 0, 0, 0xD00050, 1, [FC_LRIDX_INDEX]⟩
def FC_LWIDX_INDEX : Fld := ⟨0xD00051, 0, 9, .ro, 0⟩
def FC_LWIDX : Reg := ⟨.FC_LWIDX, 0, 0, 0, 0xD00051, 1, [FC_LWIDX_INDEX]⟩
def FC_LLOST_VALUE : Fld := ⟨0xD00052, 0, 12, .ro, 0⟩
def FC_LLOST : Reg := ⟨.FC_LLOST, 0, 0, 0, 0xD00052, 1, [FC_LLOST_VALUE]⟩
def FC_LOG_WORD (i : Nat) : Fld := ⟨0xD01000+i, 0, 12, .ro, 0⟩
def FC_LOG (i : Nat) : Reg := ⟨.FC_LOG, i, 0, 0, 0xD01000+i, 1, [FC_LOG_WORD i]⟩

/-! spec/12_safe_links_and_pairs.md, R465 -/

def MIR_CTL_REENTER : Fld := ⟨0xD70000, 0, 1, .wo, 0⟩
def MIR_CTL_ABORT : Fld := ⟨0xD70000, 1, 1, .wo, 0⟩
def MIR_CTL : Reg := ⟨.MIR_CTL, 0, 0, 0, 0xD70000, 1, [MIR_CTL_REENTER, MIR_CTL_ABORT]⟩
def MIR_CFG_ABSENT : Fld := ⟨0xD70001, 0, 6, .rwl, 10⟩
def MIR_CFG : Reg := ⟨.MIR_CFG, 0, 0, 0, 0xD70001, 1, [MIR_CFG_ABSENT]⟩
def MIR_STAT_PSTATE : Fld := ⟨0xD70002, 0, 3, .ro, 0⟩
def MIR_STAT_ROLEB : Fld := ⟨0xD70002, 3, 1, .ro, 0⟩
def MIR_STAT_LINK : Fld := ⟨0xD70002, 4, 1, .ro, 0⟩
def MIR_STAT_PSOLO : Fld := ⟨0xD70002, 5, 1, .ro, 0⟩
def MIR_STAT_ALOCK : Fld := ⟨0xD70002, 6, 1, .ro, 0⟩
def MIR_STAT : Reg := ⟨.MIR_STAT, 0, 0, 0, 0xD70002, 1, [MIR_STAT_PSTATE, MIR_STAT_ROLEB, MIR_STAT_LINK, MIR_STAT_PSOLO, MIR_STAT_ALOCK]⟩
def MIR_EPOCH_EPOCH : Fld := ⟨0xD70003, 0, 12, .ro, 0⟩
def MIR_EPOCH_PEPOCH : Fld := ⟨0xD70003, 12, 12, .ro, 0⟩
def MIR_EPOCH : Reg := ⟨.MIR_EPOCH, 0, 0, 0, 0xD70003, 2, [MIR_EPOCH_EPOCH, MIR_EPOCH_PEPOCH]⟩
def MIR_LOSTCNT_COUNT : Fld := ⟨0xD70005, 0, 12, .ro, 0⟩
def MIR_LOSTCNT : Reg := ⟨.MIR_LOSTCNT, 0, 0, 0, 0xD70005, 1, [MIR_LOSTCNT_COUNT]⟩
def MIR_XSTAT_BLOCKS : Fld := ⟨0xD70006, 0, 12, .ro, 0⟩
def MIR_XSTAT_RETRY : Fld := ⟨0xD70006, 12, 2, .ro, 0⟩
def MIR_XSTAT_DONE : Fld := ⟨0xD70006, 14, 1, .ro, 0⟩
def MIR_XSTAT_FAIL : Fld := ⟨0xD70006, 15, 1, .ro, 0⟩
def MIR_XSTAT_REF : Fld := ⟨0xD70006, 16, 3, .ro, 0⟩
def MIR_XSTAT : Reg := ⟨.MIR_XSTAT, 0, 0, 0, 0xD70006, 2, [MIR_XSTAT_BLOCKS, MIR_XSTAT_RETRY, MIR_XSTAT_DONE, MIR_XSTAT_FAIL, MIR_XSTAT_REF]⟩
def MIR_POFS_OFS : Fld := ⟨0xD70008, 0, 24, .ro, 0⟩
def MIR_POFS : Reg := ⟨.MIR_POFS, 0, 0, 0, 0xD70008, 2, [MIR_POFS_OFS]⟩
def MIR_LDLY_DELAY : Fld := ⟨0xD7000A, 0, 12, .ro, 0⟩
def MIR_LDLY : Reg := ⟨.MIR_LDLY, 0, 0, 0, 0xD7000A, 1, [MIR_LDLY_DELAY]⟩
def MIR_SPLIT_EN (n : Nat) : Fld := ⟨0xD70100+n, 0, 1, .rwl, 0⟩
def MIR_SPLIT_COMP (n : Nat) : Fld := ⟨0xD70100+n, 1, 1, .rwl, 0⟩
def MIR_SPLIT_TWIN (n : Nat) : Fld := ⟨0xD70100+n, 2, 8, .rwl, 0⟩
def MIR_SPLIT_DBL (n : Nat) : Fld := ⟨0xD70100+n, 10, 1, .ro, 0⟩
def MIR_SPLIT_TFLT (n : Nat) : Fld := ⟨0xD70100+n, 11, 1, .ro, 0⟩
def MIR_SPLIT (n : Nat) : Reg := ⟨.MIR_SPLIT, n, 0, 0, 0xD70100+n, 1, [MIR_SPLIT_EN n, MIR_SPLIT_COMP n, MIR_SPLIT_TWIN n, MIR_SPLIT_DBL n, MIR_SPLIT_TFLT n]⟩

/-! spec/12_safe_links_and_pairs.md, R466 -/

def KSF_CTL_CANEN : Fld := ⟨0xD80000, 0, 4, .rw, 0⟩
def KSF_CTL_ETHEN : Fld := ⟨0xD80000, 4, 2, .rw, 0⟩
def KSF_CTL_KLEN : Fld := ⟨0xD80000, 6, 1, .rw, 0⟩
def KSF_CTL : Reg := ⟨.KSF_CTL, 0, 0, 0, 0xD80000, 1, [KSF_CTL_CANEN, KSF_CTL_ETHEN, KSF_CTL_KLEN]⟩
def KSF_STAT_NOPEN : Fld := ⟨0xD80001, 0, 7, .ro, 0⟩
def KSF_STAT_CHKDIS : Fld := ⟨0xD80001, 7, 1, .w1c, 0⟩
def KSF_STAT : Reg := ⟨.KSF_STAT, 0, 0, 0, 0xD80001, 1, [KSF_STAT_NOPEN, KSF_STAT_CHKDIS]⟩
def KSF_OWNID_ID : Fld := ⟨0xD80002, 0, 32, .rwl, 0⟩
def KSF_OWNID : Reg := ⟨.KSF_OWNID, 0, 0, 0, 0xD80002, 3, [KSF_OWNID_ID]⟩
def KSF_UDPPORT_PORT : Fld := ⟨0xD80005, 0, 16, .rwl, 49554⟩
def KSF_UDPPORT : Reg := ⟨.KSF_UDPPORT, 0, 0, 0, 0xD80005, 2, [KSF_UDPPORT_PORT]⟩
def KSF_TCFG_SRC : Fld := ⟨0xD80008, 0, 2, .rwl, 0⟩
def KSF_TCFG_ETH : Fld := ⟨0xD80008, 2, 1, .rwl, 0⟩
def KSF_TCFG_ALOCK : Fld := ⟨0xD80008, 3, 1, .ro, 0⟩
def KSF_TCFG_EVERLOCK : Fld := ⟨0xD80008, 4, 1, .ro, 0⟩
def KSF_TCFG : Reg := ⟨.KSF_TCFG, 0, 0, 0, 0xD80008, 1, [KSF_TCFG_SRC, KSF_TCFG_ETH, KSF_TCFG_ALOCK, KSF_TCFG_EVERLOCK]⟩
def KSF_TOFS_OFS : Fld := ⟨0xD80009, 0, 24, .ro, 0⟩
def KSF_TOFS : Reg := ⟨.KSF_TOFS, 0, 0, 0, 0xD80009, 2, [KSF_TOFS_OFS]⟩
def KSF_CAN_EN (k : Nat) : Fld := ⟨0xD80010+8*k, 0, 1, .rw, 0⟩
def KSF_CAN_BRS (k : Nat) : Fld := ⟨0xD80010+8*k, 1, 1, .rw, 1⟩
def KSF_CAN_LOM (k : Nat) : Fld := ⟨0xD80010+8*k, 2, 1, .rw, 0⟩
def KSF_CAN_TDCEN (k : Nat) : Fld := ⟨0xD80010+8*k, 3, 1, .rw, 1⟩
def KSF_CAN_BOFF (k : Nat) : Fld := ⟨0xD80010+8*k, 4, 1, .ro, 0⟩
def KSF_CAN_NBRP (k : Nat) : Fld := ⟨0xD80010+8*k, 12, 5, .rw, 0⟩
def KSF_CAN_NSJW (k : Nat) : Fld := ⟨0xD80010+8*k, 17, 7, .rw, 31⟩
def KSF_CAN_NTSEG1 (k : Nat) : Fld := ⟨0xD80010+8*k, 24, 8, .rw, 126⟩
def KSF_CAN_NTSEG2 (k : Nat) : Fld := ⟨0xD80010+8*k, 32, 7, .rw, 31⟩
def KSF_CAN_DBRP (k : Nat) : Fld := ⟨0xD80010+8*k, 39, 5, .rw, 0⟩
def KSF_CAN_DSJW (k : Nat) : Fld := ⟨0xD80010+8*k, 44, 4, .rw, 7⟩
def KSF_CAN_DTSEG1 (k : Nat) : Fld := ⟨0xD80010+8*k, 48, 5, .rw, 30⟩
def KSF_CAN_DTSEG2 (k : Nat) : Fld := ⟨0xD80010+8*k, 53, 4, .rw, 7⟩
def KSF_CAN_TDCO (k : Nat) : Fld := ⟨0xD80010+8*k, 60, 7, .rw, 31⟩
def KSF_CAN (k : Nat) : Reg := ⟨.KSF_CAN, k, 0, 0, 0xD80010+8*k, 6, [KSF_CAN_EN k, KSF_CAN_BRS k, KSF_CAN_LOM k, KSF_CAN_TDCEN k, KSF_CAN_BOFF k, KSF_CAN_NBRP k, KSF_CAN_NSJW k, KSF_CAN_NTSEG1 k, KSF_CAN_NTSEG2 k, KSF_CAN_DBRP k, KSF_CAN_DSJW k, KSF_CAN_DTSEG1 k, KSF_CAN_DTSEG2 k, KSF_CAN_TDCO k]⟩
def KSF_ETH_MAC (m : Nat) : Fld := ⟨0xD80040+16*m, 0, 48, .rwl, 0⟩
def KSF_ETH_IPV4 (m : Nat) : Fld := ⟨0xD80040+16*m, 48, 32, .rwl, 0⟩
def KSF_ETH_VID (m : Nat) : Fld := ⟨0xD80040+16*m, 84, 12, .rwl, 0⟩
def KSF_ETH_PCP (m : Nat) : Fld := ⟨0xD80040+16*m, 96, 3, .rwl, 0⟩
def KSF_ETH_VEN (m : Nat) : Fld := ⟨0xD80040+16*m, 99, 1, .rwl, 0⟩
def KSF_ETH_SPD1G (m : Nat) : Fld := ⟨0xD80040+16*m, 100, 1, .rwl, 0⟩
def KSF_ETH_LINK (m : Nat) : Fld := ⟨0xD80040+16*m, 101, 1, .ro, 0⟩
def KSF_ETH (m : Nat) : Reg := ⟨.KSF_ETH, m, 0, 0, 0xD80040+16*m, 9, [KSF_ETH_MAC m, KSF_ETH_IPV4 m, KSF_ETH_VID m, KSF_ETH_PCP m, KSF_ETH_VEN m, KSF_ETH_SPD1G m, KSF_ETH_LINK m]⟩
def KSF_ALLOW_CLASS (e : Nat) : Fld := ⟨0xD80100+16*e, 0, 12, .rwl, 0⟩
def KSF_ALLOW_MAXC (e : Nat) : Fld := ⟨0xD80100+16*e, 12, 6, .rwl, 0⟩
def KSF_ALLOW_DIR (e : Nat) : Fld := ⟨0xD80100+16*e, 18, 2, .rwl, 0⟩
def KSF_ALLOW_TR (e : Nat) : Fld := ⟨0xD80100+16*e, 20, 3, .rwl, 0⟩
def KSF_ALLOW_INIT (e : Nat) : Fld := ⟨0xD80100+16*e, 23, 1, .rwl, 0⟩
def KSF_ALLOW_TEXP (e : Nat) : Fld := ⟨0xD80100+16*e, 24, 10, .rwl, 100⟩
def KSF_ALLOW_LEN (e : Nat) : Fld := ⟨0xD80100+16*e, 34, 6, .rwl, 1⟩
def KSF_ALLOW_TXPER (e : Nat) : Fld := ⟨0xD80100+16*e, 40, 10, .rwl, 50⟩
def KSF_ALLOW_SLOTBASE (e : Nat) : Fld := ⟨0xD80100+16*e, 50, 6, .rwl, 0⟩
def KSF_ALLOW_NSLOT (e : Nat) : Fld := ⟨0xD80100+16*e, 56, 3, .rwl, 0⟩
def KSF_ALLOW_BCAST (e : Nat) : Fld := ⟨0xD80100+16*e, 59, 1, .rwl, 0⟩
def KSF_ALLOW_STILL (e : Nat) : Fld := ⟨0xD80100+16*e, 60, 1, .rwl, 0⟩
def KSF_ALLOW_STOP (e : Nat) : Fld := ⟨0xD80100+16*e, 61, 1, .rwl, 0⟩
def KSF_ALLOW_TRAILER (e : Nat) : Fld := ⟨0xD80100+16*e, 62, 1, .rwl, 0⟩
def KSF_ALLOW_PARTNER (e : Nat) : Fld := ⟨0xD80100+16*e, 63, 1, .rwl, 0⟩
def KSF_ALLOW_CANID (e : Nat) : Fld := ⟨0xD80100+16*e, 64, 29, .rwl, 0⟩
def KSF_ALLOW_WKEEP (e : Nat) : Fld := ⟨0xD80100+16*e, 93, 1, .rwl, 0⟩
def KSF_ALLOW_ITENG (e : Nat) : Fld := ⟨0xD80100+16*e, 96, 7, .rwl, 0⟩
def KSF_ALLOW_ITCORE (e : Nat) : Fld := ⟨0xD80100+16*e, 103, 1, .rwl, 0⟩
def KSF_ALLOW_ITEN (e : Nat) : Fld := ⟨0xD80100+16*e, 104, 1, .rwl, 0⟩
def KSF_ALLOW (e : Nat) : Reg := ⟨.KSF_ALLOW, e, 0, 0, 0xD80100+16*e, 9, [KSF_ALLOW_CLASS e, KSF_ALLOW_MAXC e, KSF_ALLOW_DIR e, KSF_ALLOW_TR e, KSF_ALLOW_INIT e, KSF_ALLOW_TEXP e, KSF_ALLOW_LEN e, KSF_ALLOW_TXPER e, KSF_ALLOW_SLOTBASE e, KSF_ALLOW_NSLOT e, KSF_ALLOW_BCAST e, KSF_ALLOW_STILL e, KSF_ALLOW_STOP e, KSF_ALLOW_TRAILER e, KSF_ALLOW_PARTNER e, KSF_ALLOW_CANID e, KSF_ALLOW_WKEEP e, KSF_ALLOW_ITENG e, KSF_ALLOW_ITCORE e, KSF_ALLOW_ITEN e]⟩
def KSF_CONN_STATE (c : Nat) : Fld := ⟨0xD80400+16*c, 0, 2, .ro, 0⟩
def KSF_CONN_ENTRY (c : Nat) : Fld := ⟨0xD80400+16*c, 2, 5, .ro, 0⟩
def KSF_CONN_INIT (c : Nat) : Fld := ⟨0xD80400+16*c, 7, 1, .ro, 0⟩
def KSF_CONN_ID (c : Nat) : Fld := ⟨0xD80400+16*c, 12, 32, .ro, 0⟩
def KSF_CONN_RXSEQ (c : Nat) : Fld := ⟨0xD80400+16*c, 44, 16, .ro, 0⟩
def KSF_CONN_TXSEQ (c : Nat) : Fld := ⟨0xD80400+16*c, 60, 16, .ro, 0⟩
def KSF_CONN_LOSTF (c : Nat) : Fld := ⟨0xD80400+16*c, 76, 12, .ro, 0⟩
def KSF_CONN_SEQD (c : Nat) : Fld := ⟨0xD80400+16*c, 88, 12, .ro, 0⟩
def KSF_CONN_CHKD (c : Nat) : Fld := ⟨0xD80400+16*c, 100, 12, .ro, 0⟩
def KSF_CONN (c : Nat) : Reg := ⟨.KSF_CONN, c, 0, 0, 0xD80400+16*c, 10, [KSF_CONN_STATE c, KSF_CONN_ENTRY c, KSF_CONN_INIT c, KSF_CONN_ID c, KSF_CONN_RXSEQ c, KSF_CONN_TXSEQ c, KSF_CONN_LOSTF c, KSF_CONN_SEQD c, KSF_CONN_CHKD c]⟩
def KSF_TX_P (c : Nat) (i : Nat) : Fld := ⟨0xD80800+64*c+i, 0, 12, .rw, 0⟩
def KSF_TX (c : Nat) (i : Nat) : Reg := ⟨.KSF_TX, c, i, 0, 0xD80800+64*c+i, 1, [KSF_TX_P c i]⟩
def KSF_TXCMD_COMMIT (c : Nat) : Fld := ⟨0xD80828+64*c, 0, 1, .wo, 0⟩
def KSF_TXCMD_SEND (c : Nat) : Fld := ⟨0xD80828+64*c, 1, 1, .wo, 0⟩
def KSF_TXCMD (c : Nat) : Reg := ⟨.KSF_TXCMD, c, 0, 0, 0xD80828+64*c, 1, [KSF_TXCMD_COMMIT c, KSF_TXCMD_SEND c]⟩
def KSF_RX_P (c : Nat) (i : Nat) : Fld := ⟨0xD81800+64*c+i, 0, 12, .ro, 0⟩
def KSF_RX (c : Nat) (i : Nat) : Reg := ⟨.KSF_RX, c, i, 0, 0xD81800+64*c+i, 1, [KSF_RX_P c i]⟩
def KSF_RXTIME_TIME (c : Nat) : Fld := ⟨0xD81828+64*c, 0, 48, .ro, 0⟩
def KSF_RXTIME (c : Nat) : Reg := ⟨.KSF_RXTIME, c, 0, 0, 0xD81828+64*c, 4, [KSF_RXTIME_TIME c]⟩
def KSF_RXCNT_COUNT (c : Nat) : Fld := ⟨0xD8182C+64*c, 0, 12, .ro, 0⟩
def KSF_RXCNT (c : Nat) : Reg := ⟨.KSF_RXCNT, c, 0, 0, 0xD8182C+64*c, 1, [KSF_RXCNT_COUNT c]⟩
def KSF_SLOT_VAL (s : Nat) : Fld := ⟨0xD82800+s, 0, 2, .ro, 0⟩
def KSF_SLOT_VALID (s : Nat) : Fld := ⟨0xD82800+s, 2, 1, .ro, 0⟩
def KSF_SLOT_CONN (s : Nat) : Fld := ⟨0xD82800+s, 3, 6, .ro, 0⟩
def KSF_SLOT (s : Nat) : Reg := ⟨.KSF_SLOT, s, 0, 0, 0xD82800+s, 1, [KSF_SLOT_VAL s, KSF_SLOT_VALID s, KSF_SLOT_CONN s]⟩
def KSF_OPEN_ENTRY : Fld := ⟨0xD82840, 0, 5, .wo, 0⟩
def KSF_OPEN_GO : Fld := ⟨0xD82840, 5, 1, .wo, 0⟩
def KSF_OPEN : Reg := ⟨.KSF_OPEN, 0, 0, 0, 0xD82840, 1, [KSF_OPEN_ENTRY, KSF_OPEN_GO]⟩
def KSF_CLOSE_CONN : Fld := ⟨0xD82841, 0, 6, .wo, 0⟩
def KSF_CLOSE_GO : Fld := ⟨0xD82841, 6, 1, .wo, 0⟩
def KSF_CLOSE : Reg := ⟨.KSF_CLOSE, 0, 0, 0, 0xD82841, 1, [KSF_CLOSE_CONN, KSF_CLOSE_GO]⟩
def KSF_TSTAG_TAG : Fld := ⟨0xD82848, 0, 48, .rw, 0⟩
def KSF_TSTAG : Reg := ⟨.KSF_TSTAG, 0, 0, 0, 0xD82848, 4, [KSF_TSTAG_TAG]⟩
def KSF_TSM_M : Fld := ⟨0xD8284C, 0, 5, .rw, 0⟩
def KSF_TSM : Reg := ⟨.KSF_TSM, 0, 0, 0, 0xD8284C, 1, [KSF_TSM_M]⟩
def KSF_TSSEND_CONN : Fld := ⟨0xD8284D, 0, 6, .wo, 0⟩
def KSF_TSSEND_GO : Fld := ⟨0xD8284D, 6, 1, .wo, 0⟩
def KSF_TSSEND : Reg := ⟨.KSF_TSSEND, 0, 0, 0, 0xD8284D, 1, [KSF_TSSEND_CONN, KSF_TSSEND_GO]⟩
def KSF_TSREQ_GROUP (j : Nat) : Fld := ⟨0xD82850+j, 0, 4, .rw, 0⟩
def KSF_TSREQ_ASPECT (j : Nat) : Fld := ⟨0xD82850+j, 4, 6, .rw, 0⟩
def KSF_TSREQ (j : Nat) : Reg := ⟨.KSF_TSREQ, j, 0, 0, 0xD82850+j, 1, [KSF_TSREQ_GROUP j, KSF_TSREQ_ASPECT j]⟩

/-! spec/13_power_heat_records.md, R511 -/

def PWR_STATE_STATE : Fld := ⟨0xD40000, 0, 3, .ro, 0⟩
def PWR_STATE : Reg := ⟨.PWR_STATE, 0, 0, 0, 0xD40000, 1, [PWR_STATE_STATE]⟩
def PWR_CTL_SLPARM : Fld := ⟨0xD40001, 0, 1, .rw, 0⟩
def PWR_CTL : Reg := ⟨.PWR_CTL, 0, 0, 0, 0xD40001, 1, [PWR_CTL_SLPARM]⟩
def PWR_GEN_GEN : Fld := ⟨0xD40002, 0, 12, .ro, 1⟩
def PWR_GEN : Reg := ⟨.PWR_GEN, 0, 0, 0, 0xD40002, 1, [PWR_GEN_GEN]⟩
def PWR_WAKECFG_WEN : Fld := ⟨0xD40003, 0, 4, .rw, 0⟩
def PWR_WAKECFG_WPOL : Fld := ⟨0xD40003, 4, 4, .rw, 0⟩
def PWR_WAKECFG_ALEN : Fld := ⟨0xD40003, 8, 1, .rw, 0⟩
def PWR_WAKECFG : Reg := ⟨.PWR_WAKECFG, 0, 0, 0, 0xD40003, 1, [PWR_WAKECFG_WEN, PWR_WAKECFG_WPOL, PWR_WAKECFG_ALEN]⟩
def PWR_WAKECAUSE_WAKE : Fld := ⟨0xD40004, 0, 4, .w1c, 0⟩
def PWR_WAKECAUSE_ALARM : Fld := ⟨0xD40004, 4, 1, .w1c, 0⟩
def PWR_WAKECAUSE_VIORET : Fld := ⟨0xD40004, 5, 1, .w1c, 0⟩
def PWR_WAKECAUSE_COLD : Fld := ⟨0xD40004, 6, 1, .w1c, 1⟩
def PWR_WAKECAUSE : Reg := ⟨.PWR_WAKECAUSE, 0, 0, 0, 0xD40004, 1, [PWR_WAKECAUSE_WAKE, PWR_WAKECAUSE_ALARM, PWR_WAKECAUSE_VIORET, PWR_WAKECAUSE_COLD]⟩
def PWR_ALARM_TIME : Fld := ⟨0xD40008, 0, 48, .rw, 0⟩
def PWR_ALARM : Reg := ⟨.PWR_ALARM, 0, 0, 0, 0xD40008, 4, [PWR_ALARM_TIME]⟩
def PWR_WAKERT_CLU (s : Nat) : Fld := ⟨0xD40010+s, 0, 8, .rw, (if s=0 then 3 else if s=2 then 2 else 1)⟩
def PWR_WAKERT (s : Nat) : Reg := ⟨.PWR_WAKERT, s, 0, 0, 0xD40010+s, 1, [PWR_WAKERT_CLU s]⟩
def PWR_CLK_FREQ (k : Nat) : Fld := ⟨0xD40020+k, 0, 3, .rw, 3⟩
def PWR_CLK_IDLEM (k : Nat) : Fld := ⟨0xD40020+k, 3, 1, .rw, 0⟩
def PWR_CLK (k : Nat) : Reg := ⟨.PWR_CLK, k, 0, 0, 0xD40020+k, 1, [PWR_CLK_FREQ k, PWR_CLK_IDLEM k]⟩
def PWR_CST_STATE (k : Nat) : Fld := ⟨0xD40028+k, 0, 2, .ro, 0⟩
def PWR_CST_FREQA (k : Nat) : Fld := ⟨0xD40028+k, 2, 3, .ro, 0⟩
def PWR_CST_CAUSE (k : Nat) : Fld := ⟨0xD40028+k, 5, 7, .ro, 0⟩
def PWR_CST (k : Nat) : Reg := ⟨.PWR_CST, k, 0, 0, 0xD40028+k, 1, [PWR_CST_STATE k, PWR_CST_FREQA k, PWR_CST_CAUSE k]⟩
def PWR_CCMD_START (k : Nat) : Fld := ⟨0xD40030+k, 0, 1, .wo, 0⟩
def PWR_CCMD_IDLE (k : Nat) : Fld := ⟨0xD40030+k, 1, 1, .wo, 0⟩
def PWR_CCMD (k : Nat) : Reg := ⟨.PWR_CCMD, k, 0, 0, 0xD40030+k, 1, [PWR_CCMD_START k, PWR_CCMD_IDLE k]⟩
def PWR_SUPST_VCORE : Fld := ⟨0xD40040, 0, 1, .ro, 1⟩
def PWR_SUPST_VAON : Fld := ⟨0xD40040, 1, 1, .ro, 1⟩
def PWR_SUPST_VANA : Fld := ⟨0xD40040, 2, 1, .ro, 1⟩
def PWR_SUPST_VIO : Fld := ⟨0xD40040, 3, 1, .ro, 1⟩
def PWR_SUPST_LBUSOK : Fld := ⟨0xD40040, 4, 4, .ro, 0⟩
def PWR_SUPST_VDRVOK : Fld := ⟨0xD40040, 8, 4, .ro, 0⟩
def PWR_SUPST : Reg := ⟨.PWR_SUPST, 0, 0, 0, 0xD40040, 1, [PWR_SUPST_VCORE, PWR_SUPST_VAON, PWR_SUPST_VANA, PWR_SUPST_VIO, PWR_SUPST_LBUSOK, PWR_SUPST_VDRVOK]⟩
def PWR_BSTAT_HOLDOK : Fld := ⟨0xD40041, 0, 1, .ro, 0⟩
def PWR_BSTAT_BAKOK : Fld := ⟨0xD40041, 1, 1, .ro, 0⟩
def PWR_BSTAT_CHG : Fld := ⟨0xD40041, 2, 1, .ro, 0⟩
def PWR_BSTAT_CHGINH : Fld := ⟨0xD40041, 3, 1, .ro, 0⟩
def PWR_BSTAT : Reg := ⟨.PWR_BSTAT, 0, 0, 0, 0xD40041, 1, [PWR_BSTAT_HOLDOK, PWR_BSTAT_BAKOK, PWR_BSTAT_CHG, PWR_BSTAT_CHGINH]⟩
def PWR_BAKCFG_CHEN : Fld := ⟨0xD40042, 0, 1, .rwl, 0⟩
def PWR_BAKCFG_CHI : Fld := ⟨0xD40042, 1, 2, .rwl, 1⟩
def PWR_BAKCFG_VCHG : Fld := ⟨0xD40042, 3, 4, .rwl, 6⟩
def PWR_BAKCFG : Reg := ⟨.PWR_BAKCFG, 0, 0, 0, 0xD40042, 1, [PWR_BAKCFG_CHEN, PWR_BAKCFG_CHI, PWR_BAKCFG_VCHG]⟩
def PWR_HCAP_CAP : Fld := ⟨0xD40043, 0, 12, .rwl, 10⟩
def PWR_HCAP : Reg := ⟨.PWR_HCAP, 0, 0, 0, 0xD40043, 1, [PWR_HCAP_CAP]⟩
def PWR_HOCNT_COUNT : Fld := ⟨0xD40044, 0, 12, .ro, 0⟩
def PWR_HOCNT : Reg := ⟨.PWR_HOCNT, 0, 0, 0, 0xD40044, 1, [PWR_HOCNT_COUNT]⟩
def PWR_VIODIP_COUNT : Fld := ⟨0xD40045, 0, 12, .ro, 0⟩
def PWR_VIODIP : Reg := ⟨.PWR_VIODIP, 0, 0, 0, 0xD40045, 1, [PWR_VIODIP_COUNT]⟩
def PWR_VMON_VALUE (x : Nat) : Fld := ⟨0xD40050+x, 0, 12, .ro, 0⟩
def PWR_VMON (x : Nat) : Reg := ⟨.PWR_VMON, x, 0, 0, 0xD40050+x, 1, [PWR_VMON_VALUE x]⟩
def PWR_GPS_SUM (d : Nat) : Fld := ⟨0xD40060+d, 0, 12, .ro, 0⟩
def PWR_GPS (d : Nat) : Reg := ⟨.PWR_GPS, d, 0, 0, 0xD40060+d, 1, [PWR_GPS_SUM d]⟩

/-! spec/13_power_heat_records.md, R512 -/

def TMP_CFG_TYPE (i : Nat) : Fld := ⟨0xD50000+4*i, 0, 2, .rwl, 0⟩
def TMP_CFG_NB0 (i : Nat) : Fld := ⟨0xD50000+4*i, 2, 6, .rwl, 0⟩
def TMP_CFG_NB0EN (i : Nat) : Fld := ⟨0xD50000+4*i, 8, 1, .rwl, 0⟩
def TMP_CFG_NB1EN (i : Nat) : Fld := ⟨0xD50000+4*i, 9, 1, .rwl, 0⟩
def TMP_CFG_NB1 (i : Nat) : Fld := ⟨0xD50000+4*i, 12, 6, .rwl, 0⟩
def TMP_CFG_XDIF (i : Nat) : Fld := ⟨0xD50000+4*i, 18, 6, .rwl, 10⟩
def TMP_CFG_RATE (i : Nat) : Fld := ⟨0xD50000+4*i, 24, 6, .rwl, 8⟩
def TMP_CFG (i : Nat) : Reg := ⟨.TMP_CFG, i, 0, 0, 0xD50000+4*i, 3, [TMP_CFG_TYPE i, TMP_CFG_NB0 i, TMP_CFG_NB0EN i, TMP_CFG_NB1EN i, TMP_CFG_NB1 i, TMP_CFG_XDIF i, TMP_CFG_RATE i]⟩
def TMP_PAR_NF (i : Nat) : Fld := ⟨0xD50100+2*i, 0, 12, .rwl, 2048⟩
def TMP_PAR_B (i : Nat) : Fld := ⟨0xD50100+2*i, 12, 12, .rwl, 3435⟩
def TMP_PAR (i : Nat) : Reg := ⟨.TMP_PAR, i, 0, 0, 0xD50100+2*i, 2, [TMP_PAR_NF i, TMP_PAR_B i]⟩
def TMP_T_T (i : Nat) : Fld := ⟨0xD50180+i, 0, 12, .ro, 0x800⟩
def TMP_T (i : Nat) : Reg := ⟨.TMP_T, i, 0, 0, 0xD50180+i, 1, [TMP_T_T i]⟩
def TMP_ST_VALID (i : Nat) : Fld := ⟨0xD501C0+i, 0, 1, .ro, 0⟩
def TMP_ST_OPEN (i : Nat) : Fld := ⟨0xD501C0+i, 1, 1, .ro, 0⟩
def TMP_ST_SHORT (i : Nat) : Fld := ⟨0xD501C0+i, 2, 1, .ro, 0⟩
def TMP_ST_RATEF (i : Nat) : Fld := ⟨0xD501C0+i, 3, 1, .ro, 0⟩
def TMP_ST_XFAIL (i : Nat) : Fld := ⟨0xD501C0+i, 4, 1, .ro, 0⟩
def TMP_ST_DISC (i : Nat) : Fld := ⟨0xD501C0+i, 5, 7, .ro, 0⟩
def TMP_ST (i : Nat) : Reg := ⟨.TMP_ST, i, 0, 0, 0xD501C0+i, 1, [TMP_ST_VALID i, TMP_ST_OPEN i, TMP_ST_SHORT i, TMP_ST_RATEF i, TMP_ST_XFAIL i, TMP_ST_DISC i]⟩
def TMP_DS_T (j : Nat) : Fld := ⟨0xD50200+j, 0, 12, .ro, 0x800⟩
def TMP_DS (j : Nat) : Reg := ⟨.TMP_DS, j, 0, 0, 0xD50200+j, 1, [TMP_DS_T j]⟩
def TMP_DSVAL_VALID : Fld := ⟨0xD50210, 0, 16, .ro, 0⟩
def TMP_DSVAL : Reg := ⟨.TMP_DSVAL, 0, 0, 0, 0xD50210, 2, [TMP_DSVAL_VALID]⟩
def TMP_CDCFG_WARN : Fld := ⟨0xD50220, 0, 8, .rwl, 190⟩
def TMP_CDCFG : Reg := ⟨.TMP_CDCFG, 0, 0, 0, 0xD50220, 1, [TMP_CDCFG_WARN]⟩
def TMP_CDIE_T : Fld := ⟨0xD50221, 0, 12, .ro, 0x800⟩
def TMP_CDIE : Reg := ⟨.TMP_CDIE, 0, 0, 0, 0xD50221, 1, [TMP_CDIE_T]⟩
def TMP_CDMIN_T : Fld := ⟨0xD50222, 0, 12, .ro, 0x800⟩
def TMP_CDMIN : Reg := ⟨.TMP_CDMIN, 0, 0, 0, 0xD50222, 1, [TMP_CDMIN_T]⟩
def TMP_DIE_T (d : Nat) : Fld := ⟨0xD50224+d, 0, 12, .ro, 0x800⟩
def TMP_DIE (d : Nat) : Reg := ⟨.TMP_DIE, d, 0, 0, 0xD50224+d, 1, [TMP_DIE_T d]⟩

/-! spec/13_power_heat_records.md, R513 -/

def REC_STAT_STATE : Fld := ⟨0xD60000, 0, 3, .ro, 0⟩
def REC_STAT : Reg := ⟨.REC_STAT, 0, 0, 0, 0xD60000, 1, [REC_STAT_STATE]⟩
def REC_PEND_COUNT : Fld := ⟨0xD60001, 0, 10, .ro, 0⟩
def REC_PEND : Reg := ⟨.REC_PEND, 0, 0, 0, 0xD60001, 1, [REC_PEND_COUNT]⟩
def REC_LOGHEAD_HEAD : Fld := ⟨0xD60002, 0, 15, .ro, 0⟩
def REC_LOGHEAD : Reg := ⟨.REC_LOGHEAD, 0, 0, 0, 0xD60002, 2, [REC_LOGHEAD_HEAD]⟩
def REC_LOGWRAP_COUNT : Fld := ⟨0xD60004, 0, 12, .ro, 0⟩
def REC_LOGWRAP : Reg := ⟨.REC_LOGWRAP, 0, 0, 0, 0xD60004, 1, [REC_LOGWRAP_COUNT]⟩
def REC_DEFCNT_COUNT : Fld := ⟨0xD60005, 0, 12, .ro, 0⟩
def REC_DEFCNT : Reg := ⟨.REC_DEFCNT, 0, 0, 0, 0xD60005, 1, [REC_DEFCNT_COUNT]⟩
def REC_PROT_SEG : Fld := ⟨0xD60006, 0, 9, .rwl, 0⟩
def REC_PROT : Reg := ⟨.REC_PROT, 0, 0, 0, 0xD60006, 1, [REC_PROT_SEG]⟩
def REC_SUBSRC_SRC : Fld := ⟨0xD60010, 0, 24, .rw, 0⟩
def REC_SUBSRC : Reg := ⟨.REC_SUBSRC, 0, 0, 0, 0xD60010, 2, [REC_SUBSRC_SRC]⟩
def REC_SUBDST_DST : Fld := ⟨0xD60012, 0, 24, .rw, 0x870000⟩
def REC_SUBDST : Reg := ⟨.REC_SUBDST, 0, 0, 0, 0xD60012, 2, [REC_SUBDST_DST]⟩
def REC_SUBLEN_LEN : Fld := ⟨0xD60014, 0, 9, .rw, 0⟩
def REC_SUBLEN : Reg := ⟨.REC_SUBLEN, 0, 0, 0, 0xD60014, 1, [REC_SUBLEN_LEN]⟩
def REC_SUBCMD_GO : Fld := ⟨0xD60015, 0, 1, .wo, 0⟩
def REC_SUBCMD : Reg := ⟨.REC_SUBCMD, 0, 0, 0, 0xD60015, 1, [REC_SUBCMD_GO]⟩
def REC_SUBST_STATE : Fld := ⟨0xD60016, 0, 2, .ro, 0⟩
def REC_SUBST_REASON : Fld := ⟨0xD60016, 2, 3, .ro, 0⟩
def REC_SUBST_CLIP : Fld := ⟨0xD60016, 5, 1, .w1c, 0⟩
def REC_SUBST : Reg := ⟨.REC_SUBST, 0, 0, 0, 0xD60016, 1, [REC_SUBST_STATE, REC_SUBST_REASON, REC_SUBST_CLIP]⟩
def REC_LSEQ_SEQ : Fld := ⟨0xD60017, 0, 12, .ro, 0⟩
def REC_LSEQ : Reg := ⟨.REC_LSEQ, 0, 0, 0, 0xD60017, 1, [REC_LSEQ_SEQ]⟩

/-! spec/13_power_heat_records.md, R514 -/

def SAGE_LIFE_LIFE (u : Nat) : Fld := ⟨0xDC0000+2*u, 0, 24, .ro, 0⟩
def SAGE_LIFE (u : Nat) : Reg := ⟨.SAGE_LIFE, u, 0, 0, 0xDC0000+2*u, 2, [SAGE_LIFE_LIFE u]⟩
def SAGE_REM_REM : Fld := ⟨0xDC0010, 0, 10, .ro, 1000⟩
def SAGE_REM : Reg := ⟨.SAGE_REM, 0, 0, 0, 0xDC0010, 1, [SAGE_REM_REM]⟩
def SAGE_WORST_UNIT : Fld := ⟨0xDC0011, 0, 3, .ro, 0⟩
def SAGE_WORST : Reg := ⟨.SAGE_WORST, 0, 0, 0, 0xDC0011, 1, [SAGE_WORST_UNIT]⟩
def SAGE_ONH_HOURS : Fld := ⟨0xDC0012, 0, 24, .ro, 0⟩
def SAGE_ONH : Reg := ⟨.SAGE_ONH, 0, 0, 0, 0xDC0012, 2, [SAGE_ONH_HOURS]⟩
def SAGE_OFFH_HOURS : Fld := ⟨0xDC0014, 0, 24, .ro, 0⟩
def SAGE_OFFH : Reg := ⟨.SAGE_OFFH, 0, 0, 0, 0xDC0014, 2, [SAGE_OFFH_HOURS]⟩
def SAGE_FCFG_REFINT : Fld := ⟨0xDC0020, 0, 8, .rwl, 100⟩
def SAGE_FCFG_CETH : Fld := ⟨0xDC0020, 8, 4, .rwl, 4⟩
def SAGE_FCFG : Reg := ⟨.SAGE_FCFG, 0, 0, 0, 0xDC0020, 1, [SAGE_FCFG_REFINT, SAGE_FCFG_CETH]⟩
def SAGE_FSTAT_BUSY : Fld := ⟨0xDC0021, 0, 1, .ro, 0⟩
def SAGE_FSTAT_SECT : Fld := ⟨0xDC0021, 1, 8, .ro, 0⟩
def SAGE_FSTAT_SPARES : Fld := ⟨0xDC0021, 9, 3, .ro, 4⟩
def SAGE_FSTAT : Reg := ⟨.SAGE_FSTAT, 0, 0, 0, 0xDC0021, 1, [SAGE_FSTAT_BUSY, SAGE_FSTAT_SECT, SAGE_FSTAT_SPARES]⟩
def SAGE_FDUE_COUNT : Fld := ⟨0xDC0022, 0, 9, .ro, 0⟩
def SAGE_FDUE : Reg := ⟨.SAGE_FDUE, 0, 0, 0, 0xDC0022, 1, [SAGE_FDUE_COUNT]⟩
def SAGE_FCNT_COUNT : Fld := ⟨0xDC0023, 0, 12, .ro, 0⟩
def SAGE_FCNT : Reg := ⟨.SAGE_FCNT, 0, 0, 0, 0xDC0023, 1, [SAGE_FCNT_COUNT]⟩
def SAGE_CECNT_COUNT : Fld := ⟨0xDC0024, 0, 12, .ro, 0⟩
def SAGE_CECNT : Reg := ⟨.SAGE_CECNT, 0, 0, 0, 0xDC0024, 1, [SAGE_CECNT_COUNT]⟩
def SAGE_RETMAX_EXP : Fld := ⟨0xDC0025, 0, 24, .ro, 0⟩
def SAGE_RETMAX : Reg := ⟨.SAGE_RETMAX, 0, 0, 0, 0xDC0025, 2, [SAGE_RETMAX_EXP]⟩

/-! spec/14_bringup_host_debug.md, R547 -/

def HIF_STAT_BUSY : Fld := ⟨0xD90000, 0, 1, .ro, 0⟩
def HIF_STAT_ERR : Fld := ⟨0xD90000, 1, 1, .w1c, 0⟩
def HIF_STAT_UE : Fld := ⟨0xD90000, 2, 1, .w1c, 0⟩
def HIF_STAT_LATE : Fld := ⟨0xD90000, 3, 1, .w1c, 0⟩
def HIF_STAT_OVR : Fld := ⟨0xD90000, 4, 1, .w1c, 0⟩
def HIF_STAT_PROTO : Fld := ⟨0xD90000, 5, 1, .w1c, 0⟩
def HIF_STAT_MBOVR : Fld := ⟨0xD90000, 6, 1, .w1c, 0⟩
def HIF_STAT_SAFE : Fld := ⟨0xD90000, 7, 1, .ro, 0⟩
def HIF_STAT : Reg := ⟨.HIF_STAT, 0, 0, 0, 0xD90000, 1, [HIF_STAT_BUSY, HIF_STAT_ERR, HIF_STAT_UE, HIF_STAT_LATE, HIF_STAT_OVR, HIF_STAT_PROTO, HIF_STAT_MBOVR, HIF_STAT_SAFE]⟩
def HIF_CTL_DUMMY : Fld := ⟨0xD90001, 0, 6, .rw, 16⟩
def HIF_CTL_FSEV : Fld := ⟨0xD90001, 6, 3, .rw, 3⟩
def HIF_CTL : Reg := ⟨.HIF_CTL, 0, 0, 0, 0xD90001, 1, [HIF_CTL_DUMMY, HIF_CTL_FSEV]⟩
def HIF_PERM_PERM0 : Fld := ⟨0xD90002, 0, 1, .rwl, 1⟩
def HIF_PERM_PERM2 : Fld := ⟨0xD90002, 2, 9, .rwl, 0x80⟩
def HIF_PERM : Reg := ⟨.HIF_PERM, 0, 0, 0, 0xD90002, 1, [HIF_PERM_PERM0, HIF_PERM_PERM2]⟩
def HIF_RSTCAUSE_CAUSE : Fld := ⟨0xD90003, 0, 2, .ro, 0⟩
def HIF_RSTCAUSE : Reg := ⟨.HIF_RSTCAUSE, 0, 0, 0, 0xD90003, 1, [HIF_RSTCAUSE_CAUSE]⟩
def HIF_RST_KEY : Fld := ⟨0xD90004, 0, 12, .wo, 0⟩
def HIF_RST : Reg := ⟨.HIF_RST, 0, 0, 0, 0xD90004, 1, [HIF_RST_KEY]⟩
def HIF_PCYC_KEY : Fld := ⟨0xD90005, 0, 12, .wo, 0⟩
def HIF_PCYC : Reg := ⟨.HIF_PCYC, 0, 0, 0, 0xD90005, 1, [HIF_PCYC_KEY]⟩
def HIF_ERRADR_ADDR : Fld := ⟨0xD90006, 0, 24, .ro, 0⟩
def HIF_ERRADR : Reg := ⟨.HIF_ERRADR, 0, 0, 0, 0xD90006, 2, [HIF_ERRADR_ADDR]⟩
def HIF_IEN_LINES : Fld := ⟨0xD90008, 0, 12, .rw, 0⟩
def HIF_IEN : Reg := ⟨.HIF_IEN, 0, 0, 0, 0xD90008, 1, [HIF_IEN_LINES]⟩
def HIF_IPEND_LINES : Fld := ⟨0xD90009, 0, 12, .w1c, 0⟩
def HIF_IPEND : Reg := ⟨.HIF_IPEND, 0, 0, 0, 0xD90009, 1, [HIF_IPEND_LINES]⟩
def HIF_BOOT_SLOT : Fld := ⟨0xD9000A, 0, 1, .ro, 0⟩
def HIF_BOOT_NONE : Fld := ⟨0xD9000A, 1, 1, .ro, 0⟩
def HIF_BOOT_FALLBK : Fld := ⟨0xD9000A, 2, 1, .ro, 0⟩
def HIF_BOOT_REAS0 : Fld := ⟨0xD9000A, 3, 3, .ro, 0⟩
def HIF_BOOT_REAS1 : Fld := ⟨0xD9000A, 6, 3, .ro, 0⟩
def HIF_BOOT : Reg := ⟨.HIF_BOOT, 0, 0, 0, 0xD9000A, 1, [HIF_BOOT_SLOT, HIF_BOOT_NONE, HIF_BOOT_FALLBK, HIF_BOOT_REAS0, HIF_BOOT_REAS1]⟩
def HIF_BOOTCMD_RAISE : Fld := ⟨0xD9000B, 0, 1, .wo, 0⟩
def HIF_BOOTCMD_KEY : Fld := ⟨0xD9000B, 5, 7, .wo, 0⟩
def HIF_BOOTCMD : Reg := ⟨.HIF_BOOTCMD, 0, 0, 0, 0xD9000B, 1, [HIF_BOOTCMD_RAISE, HIF_BOOTCMD_KEY]⟩
def HIF_FLCMD_OP : Fld := ⟨0xD90010, 0, 2, .wo, 0⟩
def HIF_FLCMD_KEY : Fld := ⟨0xD90010, 4, 8, .wo, 0⟩
def HIF_FLCMD : Reg := ⟨.HIF_FLCMD, 0, 0, 0, 0xD90010, 1, [HIF_FLCMD_OP, HIF_FLCMD_KEY]⟩
def HIF_FLADR_ADDR : Fld := ⟨0xD90011, 0, 24, .rw, 0x400000⟩
def HIF_FLADR : Reg := ⟨.HIF_FLADR, 0, 0, 0, 0xD90011, 2, [HIF_FLADR_ADDR]⟩
def HIF_FLSRC_SRC : Fld := ⟨0xD90013, 0, 24, .rw, 0x100000⟩
def HIF_FLSRC : Reg := ⟨.HIF_FLSRC, 0, 0, 0, 0xD90013, 2, [HIF_FLSRC_SRC]⟩
def HIF_FLLEN_LEN : Fld := ⟨0xD90015, 0, 12, .rw, 0⟩
def HIF_FLLEN : Reg := ⟨.HIF_FLLEN, 0, 0, 0, 0xD90015, 1, [HIF_FLLEN_LEN]⟩
def HIF_FLST_STATE : Fld := ⟨0xD90016, 0, 3, .ro, 0⟩
def HIF_FLST_REASON : Fld := ⟨0xD90016, 3, 3, .ro, 0⟩
def HIF_FLST : Reg := ⟨.HIF_FLST, 0, 0, 0, 0xD90016, 1, [HIF_FLST_STATE, HIF_FLST_REASON]⟩
def HIF_KLCTL_RETRAIN : Fld := ⟨0xD90018, 0, 1, .wo, 0⟩
def HIF_KLCTL : Reg := ⟨.HIF_KLCTL, 0, 0, 0, 0xD90018, 1, [HIF_KLCTL_RETRAIN]⟩
def HIF_KLSTAT_STATE : Fld := ⟨0xD90019, 0, 2, .ro, 0⟩
def HIF_KLSTAT_LANES : Fld := ⟨0xD90019, 2, 2, .ro, 0⟩
def HIF_KLSTAT_FAILS : Fld := ⟨0xD90019, 4, 8, .ro, 0⟩
def HIF_KLSTAT : Reg := ⟨.HIF_KLSTAT, 0, 0, 0, 0xD90019, 1, [HIF_KLSTAT_STATE, HIF_KLSTAT_LANES, HIF_KLSTAT_FAILS]⟩
def HIF_MBRT_ENG (m : Nat) : Fld := ⟨0xD90020+m, 0, 7, .rwl, 0⟩
def HIF_MBRT_CORE (m : Nat) : Fld := ⟨0xD90020+m, 7, 1, .rwl, 0⟩
def HIF_MBRT (m : Nat) : Reg := ⟨.HIF_MBRT, m, 0, 0, 0xD90020+m, 1, [HIF_MBRT_ENG m, HIF_MBRT_CORE m]⟩
def HIF_HMB_DATA (m : Nat) (i : Nat) : Fld := ⟨0xD90100+0x40*m+i, 0, 12, .rw, 0⟩
def HIF_HMB (m : Nat) (i : Nat) : Reg := ⟨.HIF_HMB, m, i, 0, 0xD90100+0x40*m+i, 1, [HIF_HMB_DATA m i]⟩
def HIF_HDB_CNT (m : Nat) : Fld := ⟨0xD90120+0x40*m, 0, 6, .rw, 0⟩
def HIF_HDB_FULL (m : Nat) : Fld := ⟨0xD90120+0x40*m, 6, 1, .rwh, 0⟩
def HIF_HDB (m : Nat) : Reg := ⟨.HIF_HDB, m, 0, 0, 0xD90120+0x40*m, 1, [HIF_HDB_CNT m, HIF_HDB_FULL m]⟩
def HIF_DMB_DATA (m : Nat) (i : Nat) : Fld := ⟨0xD90200+0x40*m+i, 0, 12, .rw, 0⟩
def HIF_DMB (m : Nat) (i : Nat) : Reg := ⟨.HIF_DMB, m, i, 0, 0xD90200+0x40*m+i, 1, [HIF_DMB_DATA m i]⟩
def HIF_DDB_CNT (m : Nat) : Fld := ⟨0xD90220+0x40*m, 0, 6, .rw, 0⟩
def HIF_DDB_FULL (m : Nat) : Fld := ⟨0xD90220+0x40*m, 6, 1, .rwh, 0⟩
def HIF_DDB (m : Nat) : Reg := ⟨.HIF_DDB, m, 0, 0, 0xD90220+0x40*m, 1, [HIF_DDB_CNT m, HIF_DDB_FULL m]⟩

/-! spec/14_bringup_host_debug.md, R548 -/

def DBG_STAT_UNLOCK : Fld := ⟨0xDA0000, 0, 1, .ro, 0⟩
def DBG_STAT_FAILS : Fld := ⟨0xDA0000, 1, 2, .ro, 0⟩
def DBG_STAT : Reg := ⟨.DBG_STAT, 0, 0, 0, 0xDA0000, 1, [DBG_STAT_UNLOCK, DBG_STAT_FAILS]⟩
def DBG_ENGSEL_ENG : Fld := ⟨0xDA0001, 0, 7, .rw, 0⟩
def DBG_ENGSEL_CORE : Fld := ⟨0xDA0001, 7, 1, .rw, 0⟩
def DBG_ENGSEL : Reg := ⟨.DBG_ENGSEL, 0, 0, 0, 0xDA0001, 1, [DBG_ENGSEL_ENG, DBG_ENGSEL_CORE]⟩
def DBG_CMD_HALT : Fld := ⟨0xDA0002, 0, 1, .wo, 0⟩
def DBG_CMD_RESUME : Fld := ⟨0xDA0002, 1, 1, .wo, 0⟩
def DBG_CMD_STEP : Fld := ⟨0xDA0002, 2, 1, .wo, 0⟩
def DBG_CMD : Reg := ⟨.DBG_CMD, 0, 0, 0, 0xDA0002, 1, [DBG_CMD_HALT, DBG_CMD_RESUME, DBG_CMD_STEP]⟩
def DBG_ESTAT_HALTED : Fld := ⟨0xDA0003, 0, 1, .ro, 0⟩
def DBG_ESTAT_STOPPED : Fld := ⟨0xDA0003, 1, 1, .ro, 0⟩
def DBG_ESTAT_CAUSE : Fld := ⟨0xDA0003, 2, 2, .ro, 0⟩
def DBG_ESTAT_BP : Fld := ⟨0xDA0003, 4, 2, .ro, 0⟩
def DBG_ESTAT : Reg := ⟨.DBG_ESTAT, 0, 0, 0, 0xDA0003, 1, [DBG_ESTAT_HALTED, DBG_ESTAT_STOPPED, DBG_ESTAT_CAUSE, DBG_ESTAT_BP]⟩
def DBG_CFG_BKH : Fld := ⟨0xDA0004, 0, 1, .rw, 0⟩
def DBG_CFG : Reg := ⟨.DBG_CFG, 0, 0, 0, 0xDA0004, 1, [DBG_CFG_BKH]⟩
def DBG_BP_EN (k : Nat) : Fld := ⟨0xDA0008+2*k, 0, 1, .rw, 0⟩
def DBG_BP_ADDR (k : Nat) : Fld := ⟨0xDA0008+2*k, 1, 23, .rw, 0⟩
def DBG_BP (k : Nat) : Reg := ⟨.DBG_BP, k, 0, 0, 0xDA0008+2*k, 2, [DBG_BP_EN k, DBG_BP_ADDR k]⟩
def DBG_RSEL_SEL : Fld := ⟨0xDA0010, 0, 12, .rw, 0⟩
def DBG_RSEL : Reg := ⟨.DBG_RSEL, 0, 0, 0, 0xDA0010, 1, [DBG_RSEL_SEL]⟩
def DBG_RDATA_DATA : Fld := ⟨0xDA0011, 0, 36, .rw, 0⟩
def DBG_RDATA : Reg := ⟨.DBG_RDATA, 0, 0, 0, 0xDA0011, 3, [DBG_RDATA_DATA]⟩
def DBG_OTPCMD_GO : Fld := ⟨0xDA0018, 0, 1, .wo, 0⟩
def DBG_OTPCMD_BUSY : Fld := ⟨0xDA0018, 1, 1, .ro, 0⟩
def DBG_OTPCMD_REF : Fld := ⟨0xDA0018, 2, 1, .w1c, 0⟩
def DBG_OTPCMD : Reg := ⟨.DBG_OTPCMD, 0, 0, 0, 0xDA0018, 1, [DBG_OTPCMD_GO, DBG_OTPCMD_BUSY, DBG_OTPCMD_REF]⟩
def DBG_OTPA_ADDR : Fld := ⟨0xDA0019, 0, 12, .rw, 0⟩
def DBG_OTPA : Reg := ⟨.DBG_OTPA, 0, 0, 0, 0xDA0019, 1, [DBG_OTPA_ADDR]⟩
def DBG_OTPD_DATA : Fld := ⟨0xDA001A, 0, 12, .rw, 0⟩
def DBG_OTPD : Reg := ⟨.DBG_OTPD, 0, 0, 0, 0xDA001A, 1, [DBG_OTPD_DATA]⟩

/-! The rows of the register tables, for the address decoder. -/

def chRows (n : Nat) : List RegRow :=
  [⟨0x000, 1, 1, 1, 65536, 1, fun _ _ => CH_CFG n⟩,
   ⟨0x001, 1, 1, 1, 65536, 1, fun _ _ => CH_CMD n⟩,
   ⟨0x002, 1, 1, 1, 65536, 1, fun _ _ => CH_STAT n⟩,
   ⟨0x003, 1, 1, 1, 65536, 1, fun _ _ => CH_FLT n⟩,
   ⟨0x004, 1, 1, 1, 65536, 1, fun _ _ => CH_TCNT n⟩,
   ⟨0x005, 1, 1, 1, 65536, 1, fun _ _ => CH_LCNT n⟩,
   ⟨0x006, 1, 1, 1, 65536, 1, fun _ _ => CH_BCNT n⟩,
   ⟨0x008, 1, 1, 1, 65536, 1, fun _ _ => CH_GDRV n⟩,
   ⟨0x009, 1, 1, 1, 65536, 1, fun _ _ => CH_SENSE n⟩,
   ⟨0x00A, 1, 1, 1, 65536, 1, fun _ _ => CH_IRES n⟩,
   ⟨0x00B, 1, 1, 1, 65536, 1, fun _ _ => CH_VRES n⟩,
   ⟨0x00C, 1, 1, 1, 65536, 1, fun _ _ => CH_BKG n⟩] ++
  [⟨0x010, 1, 1, 1, 65536, 1, fun _ _ => CH_ILIM n⟩,
   ⟨0x011, 1, 1, 1, 65536, 1, fun _ _ => CH_ILIMI n⟩,
   ⟨0x012, 1, 1, 1, 65536, 1, fun _ _ => CH_INRUSH n⟩,
   ⟨0x013, 1, 1, 1, 65536, 1, fun _ _ => CH_OCN n⟩,
   ⟨0x014, 1, 1, 1, 65536, 1, fun _ _ => CH_DSAT n⟩,
   ⟨0x015, 1, 1, 1, 65536, 1, fun _ _ => CH_RSHORT n⟩,
   ⟨0x018, 1, 1, 1, 65536, 1, fun _ _ => CH_ADJ0 n⟩,
   ⟨0x019, 1, 1, 1, 65536, 1, fun _ _ => CH_ADJ1 n⟩,
   ⟨0x01A, 1, 1, 1, 65536, 1, fun _ _ => CH_ADJR n⟩,
   ⟨0x020, 1, 1, 1, 65536, 1, fun _ _ => CH_LEASE n⟩,
   ⟨0x021, 1, 1, 1, 65536, 1, fun _ _ => CH_KICK n⟩,
   ⟨0x022, 1, 1, 1, 65536, 1, fun _ _ => CH_OWNER n⟩] ++
  [⟨0x023, 1, 1, 1, 65536, 1, fun _ _ => CH_LREM n⟩,
   ⟨0x024, 1, 1, 1, 65536, 1, fun _ _ => CH_SSTAT n⟩,
   ⟨0x028, 1, 1, 1, 65536, 1, fun _ _ => CH_DRT n⟩,
   ⟨0x029, 1, 1, 1, 65536, 1, fun _ _ => CH_DRTK n⟩,
   ⟨0x02A, 1, 1, 1, 65536, 1, fun _ _ => CH_DRTE n⟩,
   ⟨0x02B, 1, 1, 1, 65536, 1, fun _ _ => CH_OTT n⟩,
   ⟨0x02C, 1, 1, 1, 65536, 1, fun _ _ => CH_DFAC n⟩,
   ⟨0x100, 2, 2, 1, 65536, 1, fun _ _ => CH_PER n⟩,
   ⟨0x102, 1, 1, 1, 65536, 1, fun _ _ => CH_DIM n⟩,
   ⟨0x103, 1, 1, 1, 65536, 1, fun _ _ => CH_DTR n⟩,
   ⟨0x104, 1, 1, 1, 65536, 1, fun _ _ => CH_DTF n⟩,
   ⟨0x105, 1, 1, 1, 65536, 1, fun _ _ => CH_MINH n⟩] ++
  [⟨0x106, 1, 1, 1, 65536, 1, fun _ _ => CH_MINL n⟩,
   ⟨0x108, 2, 2, 1, 65536, 1, fun _ _ => CH_PHASE n⟩,
   ⟨0x10A, 1, 1, 1, 65536, 1, fun _ _ => CH_ALN n⟩,
   ⟨0x10C, 1, 1, 1, 65536, 1, fun _ _ => CH_CODE n⟩,
   ⟨0x10D, 1, 1, 1, 65536, 1, fun _ _ => CH_CIDX n⟩,
   ⟨0x110, 4, 4, 1, 65536, 1, fun _ _ => CH_CEPOCH n⟩,
   ⟨0x114, 1, 1, 1, 65536, 1, fun _ _ => CH_CPOS n⟩,
   ⟨0x118, 3, 3, 1, 65536, 1, fun _ _ => CH_DRES n⟩,
   ⟨0x11C, 1, 1, 1, 65536, 1, fun _ _ => CH_SUPC n⟩,
   ⟨0x11D, 1, 1, 1, 65536, 1, fun _ _ => CH_STRC n⟩,
   ⟨0x11E, 1, 1, 1, 65536, 1, fun _ _ => CH_DITC n⟩,
   ⟨0x11F, 1, 1, 1, 65536, 1, fun _ _ => CH_BLKC n⟩] ++
  [⟨0x120, 1, 1, 1, 65536, 1, fun _ _ => CH_ECMD n⟩,
   ⟨0x121, 1, 1, 1, 65536, 1, fun _ _ => CH_ESTAT n⟩,
   ⟨0x200, 2, 2, 1, 65536, 1, fun _ _ => CH_SDUTY n⟩,
   ⟨0x202, 1, 1, 1, 65536, 1, fun _ _ => CH_SREF n⟩,
   ⟨0x203, 1, 1, 1, 65536, 1, fun _ _ => CH_SCTL n⟩,
   ⟨0x204, 1, 1, 1, 65536, 1, fun _ _ => CH_SCMD n⟩,
   ⟨0x205, 1, 1, 1, 65536, 1, fun _ _ => CH_SHST n⟩,
   ⟨0x206, 2, 2, 1, 65536, 1, fun _ _ => CH_APPL n⟩,
   ⟨0x208, 1, 1, 1, 65536, 1, fun _ _ => CH_AGRP n⟩,
   ⟨0x209, 1, 1, 1, 65536, 1, fun _ _ => CH_CARB n⟩,
   ⟨0x20A, 1, 1, 1, 65536, 1, fun _ _ => CH_CARS n⟩,
   ⟨0x20B, 1, 1, 1, 65536, 1, fun _ _ => CH_SLEW n⟩] ++
  [⟨0x20C, 1, 1, 1, 65536, 1, fun _ _ => CH_HWIN n⟩,
   ⟨0x20D, 1, 1, 1, 65536, 1, fun _ _ => CH_STRIM n⟩,
   ⟨0x280, 2, 2, 64, 65536, 1, fun i _ => CH_SLOT n i⟩,
   ⟨0x300, 1, 1, 1, 65536, 1, fun _ _ => CH_PCFG n⟩,
   ⟨0x301, 1, 1, 1, 65536, 1, fun _ _ => CH_PCFG2 n⟩,
   ⟨0x302, 1, 1, 1, 65536, 1, fun _ _ => CH_EVER n⟩,
   ⟨0x303, 1, 1, 1, 65536, 1, fun _ _ => CH_OVER n⟩,
   ⟨0x304, 1, 1, 1, 65536, 1, fun _ _ => CH_PVER n⟩,
   ⟨0x305, 1, 1, 1, 65536, 1, fun _ _ => CH_OFMIN n⟩,
   ⟨0x306, 1, 1, 1, 65536, 1, fun _ _ => CH_OAMB n⟩,
   ⟨0x307, 1, 1, 1, 65536, 1, fun _ _ => CH_OTAU n⟩,
   ⟨0x308, 2, 2, 1, 65536, 1, fun _ _ => CH_OFLUX n⟩] ++
  [⟨0x30A, 1, 1, 1, 65536, 1, fun _ _ => CH_OZ n⟩,
   ⟨0x30B, 1, 1, 1, 65536, 1, fun _ _ => CH_PFCNT n⟩]
def cwRows (n : Nat) : List RegRow :=
  [⟨0x00, 1, 1, 1, 65536, 1, fun _ _ => CW_CFG n⟩,
   ⟨0x01, 1, 1, 1, 65536, 1, fun _ _ => CW_INOM n⟩,
   ⟨0x02, 1, 1, 1, 65536, 1, fun _ _ => CW_LITLO n⟩,
   ⟨0x03, 1, 1, 1, 65536, 1, fun _ _ => CW_LITHI n⟩,
   ⟨0x04, 1, 1, 1, 65536, 1, fun _ _ => CW_IDARK n⟩,
   ⟨0x05, 1, 1, 1, 65536, 1, fun _ _ => CW_VDARK n⟩,
   ⟨0x06, 1, 1, 1, 65536, 1, fun _ _ => CW_CMIN n⟩,
   ⟨0x07, 1, 1, 1, 65536, 1, fun _ _ => CW_DSET n⟩,
   ⟨0x08, 1, 1, 1, 65536, 1, fun _ _ => CW_CVER n⟩,
   ⟨0x09, 2, 2, 1, 65536, 1, fun _ _ => CW_MEAN n⟩]
def carRows (d q : Nat) : List RegRow :=
  [⟨0x00, 1, 1, 1, 65536, 1, fun _ _ => CAR_CTL d q⟩,
   ⟨0x01, 1, 1, 1, 65536, 1, fun _ _ => CAR_CFG d q⟩,
   ⟨0x02, 1, 1, 1, 65536, 1, fun _ _ => CAR_STAT d q⟩,
   ⟨0x03, 1, 1, 1, 65536, 1, fun _ _ => CAR_PC d q⟩,
   ⟨0x08, 1, 1, 8, 65536, 1, fun i _ => CAR_TRK d q i⟩]
def trrRows (r : Nat) : List RegRow :=
  [⟨0x00, 1, 1, 1, 65536, 1, fun _ _ => TRP_RCFG r⟩,
   ⟨0x01, 1, 1, 1, 65536, 1, fun _ _ => TRP_RSTAT r⟩,
   ⟨0x10, 1, 1, 8, 65536, 1, fun i _ => TRP_SLOT r i⟩,
   ⟨0x18, 1, 1, 8, 65536, 1, fun i _ => TRP_VF r i⟩,
   ⟨0x20, 1, 1, 8, 65536, 1, fun i _ => TRP_SKIP r i⟩]
def fcRows : List RegRow :=
  [⟨0x0, 1, 1, 1, 65536, 1, fun _ _ => FC_CFG⟩,
   ⟨0x1, 1, 1, 1, 65536, 1, fun _ _ => FC_STAT⟩,
   ⟨0x2, 3, 3, 1, 65536, 1, fun _ _ => FC_FIRST⟩,
   ⟨0x5, 1, 1, 1, 65536, 1, fun _ _ => FC_FCLR⟩,
   ⟨0x6, 2, 2, 1, 65536, 1, fun _ _ => FC_ACK⟩,
   ⟨0x8, 1, 1, 1, 65536, 1, fun _ _ => FC_SEQ⟩,
   ⟨0x9, 1, 1, 1, 65536, 1, fun _ _ => FC_ERRN⟩,
   ⟨0xa, 1, 1, 1, 65536, 1, fun _ _ => FC_SOK⟩,
   ⟨0xb, 2, 2, 1, 65536, 1, fun _ _ => FC_RETRY⟩,
   ⟨0x10, 1, 1, 12, 65536, 1, fun i _ => FC_OPEN i⟩,
   ⟨0x20, 1, 1, 12, 65536, 1, fun i _ => FC_ROUTE i⟩,
   ⟨0x30, 1, 1, 12, 65536, 1, fun i _ => FC_TB i⟩] ++
  [⟨0x40, 1, 1, 4, 65536, 1, fun i _ => FC_RUNG i⟩,
   ⟨0x44, 1, 1, 1, 65536, 1, fun _ _ => FC_STORMCNT⟩,
   ⟨0x45, 1, 1, 1, 65536, 1, fun _ _ => FC_PATHOVF⟩,
   ⟨0x50, 1, 1, 1, 65536, 1, fun _ _ => FC_LRIDX⟩,
   ⟨0x51, 1, 1, 1, 65536, 1, fun _ _ => FC_LWIDX⟩,
   ⟨0x52, 1, 1, 1, 65536, 1, fun _ _ => FC_LLOST⟩,
   ⟨0x1000, 1, 1, 6144, 65536, 1, fun i _ => FC_LOG i⟩]
def snRows : List RegRow :=
  [⟨0x2000, 2, 2, 64, 65536, 1, fun i _ => SN_ASP i⟩,
   ⟨0x2100, 1, 1, 16, 65536, 1, fun i _ => SN_AGREQ i⟩,
   ⟨0x2110, 1, 1, 16, 65536, 1, fun i _ => SN_AGACT i⟩,
   ⟨0x2120, 2, 2, 1, 65536, 1, fun _ _ => SN_AAPPLY⟩,
   ⟨0x2122, 1, 1, 1, 65536, 1, fun _ _ => SN_SYNCREQ⟩,
   ⟨0x2124, 4, 4, 1, 65536, 1, fun _ _ => SN_TSYNC⟩,
   ⟨0x2128, 1, 1, 1, 65536, 1, fun _ _ => SN_TSCMD⟩,
   ⟨0x2129, 1, 1, 1, 65536, 1, fun _ _ => SN_TSPEND⟩,
   ⟨0x2200, 1, 1, 64, 65536, 1, fun i _ => SN_APRF i⟩,
   ⟨0x2240, 2, 2, 16, 65536, 1, fun i _ => SN_AGVER i⟩,
   ⟨0x2260, 2, 2, 1, 65536, 1, fun _ _ => SN_LCLR⟩,
   ⟨0x2262, 1, 1, 1, 65536, 1, fun _ _ => SN_LCLRST⟩] ++
  [⟨0x2400, 2, 2, 64, 65536, 1, fun i _ => SN_TWCFG i⟩,
   ⟨0x2480, 2, 2, 64, 65536, 1, fun i _ => SN_TWTOL i⟩,
   ⟨0x2500, 2, 2, 64, 65536, 1, fun i _ => SN_TWRA i⟩,
   ⟨0x2580, 2, 2, 64, 65536, 1, fun i _ => SN_TWRB i⟩,
   ⟨0x2600, 1, 1, 64, 65536, 1, fun i _ => SN_TWVAL i⟩,
   ⟨0x2640, 1, 1, 64, 65536, 1, fun i _ => SN_TWST i⟩,
   ⟨0x2800, 4, 4, 32, 65536, 1, fun i _ => SN_IPCFG i⟩,
   ⟨0x2880, 1, 1, 1, 65536, 1, fun _ _ => SN_TPCFG⟩,
   ⟨0x2881, 1, 1, 1, 65536, 1, fun _ _ => SN_OTCFG⟩,
   ⟨0x2882, 1, 1, 1, 65536, 1, fun _ _ => SN_OUTCFG⟩,
   ⟨0x2883, 1, 1, 1, 65536, 1, fun _ _ => SN_OUTREQ⟩,
   ⟨0x2884, 1, 1, 1, 65536, 1, fun _ _ => SN_OUTST⟩] ++
  [⟨0x2885, 1, 1, 1, 65536, 1, fun _ _ => SN_SOFLT⟩,
   ⟨0x2886, 1, 1, 1, 65536, 1, fun _ _ => SN_FNRST⟩,
   ⟨0x2888, 2, 2, 1, 65536, 1, fun _ _ => SN_SIRAW⟩,
   ⟨0x288a, 2, 2, 1, 65536, 1, fun _ _ => SN_SIFLT⟩,
   ⟨0x2900, 6, 8, 24, 65536, 1, fun i _ => SN_FNCFG i⟩,
   ⟨0x29c0, 1, 1, 24, 65536, 1, fun i _ => SN_FNST i⟩,
   ⟨0x29e0, 1, 1, 24, 65536, 1, fun i _ => SN_DGREM i⟩]
def sptRows : List RegRow :=
  [⟨0x0, 1, 1, 32, 65536, 1, fun i _ => SPT_INCFG i⟩,
   ⟨0x20, 1, 1, 32, 65536, 1, fun i _ => SPT_STAT i⟩,
   ⟨0x40, 2, 2, 32, 65536, 1, fun i _ => SPT_AMB i⟩,
   ⟨0x80, 1, 1, 1, 65536, 1, fun _ _ => SPT_CTL⟩,
   ⟨0x81, 1, 1, 1, 65536, 1, fun _ _ => SPT_ZTH⟩,
   ⟨0x82, 1, 1, 1, 65536, 1, fun _ _ => SPT_XWIN⟩,
   ⟨0x83, 1, 1, 1, 65536, 1, fun _ _ => SPT_CBIDX⟩,
   ⟨0x84, 1, 1, 1, 65536, 1, fun _ _ => SPT_CBAL⟩,
   ⟨0x85, 1, 1, 1, 65536, 1, fun _ _ => SPT_DEG⟩]
def trpRows : List RegRow :=
  [⟨0x0, 1, 1, 1, 65536, 1, fun _ _ => TRP_CTL⟩,
   ⟨0x1, 1, 1, 1, 65536, 1, fun _ _ => TRP_STAT⟩,
   ⟨0x2, 1, 1, 1, 65536, 1, fun _ _ => TRP_SWCNT⟩,
   ⟨0x10, 1, 1, 24, 65536, 1, fun i _ => TRP_RXMAP i⟩,
   ⟨0x40, 2, 2, 1, 65536, 1, fun _ _ => TRP_FPOST⟩,
   ⟨0x42, 1, 1, 1, 65536, 1, fun _ _ => TRP_FPCNT⟩]
def pwrRows : List RegRow :=
  [⟨0x400, 1, 1, 1, 65536, 1, fun _ _ => PWR_SYNCCFG⟩,
   ⟨0x401, 1, 1, 1, 65536, 1, fun _ _ => PWR_FRAME⟩,
   ⟨0x402, 1, 1, 1, 65536, 1, fun _ _ => PWR_SYNCCOMP⟩,
   ⟨0x403, 1, 1, 1, 65536, 1, fun _ _ => PWR_SYNCSTAT⟩,
   ⟨0x404, 1, 1, 1, 65536, 1, fun _ _ => PWR_SYNCREJ⟩,
   ⟨0x405, 1, 1, 1, 65536, 1, fun _ _ => PWR_SYNCMISS⟩,
   ⟨0x800, 2, 2, 8, 65536, 1, fun i _ => PWR_VBASE i⟩,
   ⟨0x1000 + 0x0, 1, 0x10, 32, 0x200, 8, fun i j => DCMD j i⟩,
   ⟨0x1000 + 0x1, 1, 0x10, 32, 0x200, 8, fun i j => DCFG j i⟩,
   ⟨0x1000 + 0x2, 1, 0x10, 32, 0x200, 8, fun i j => DSTAT j i⟩,
   ⟨0x1000 + 0x3, 1, 0x10, 32, 0x200, 8, fun i j => DROP j i⟩,
   ⟨0x1000 + 0x4, 2, 0x10, 32, 0x200, 8, fun i j => DSRC j i⟩] ++
  [⟨0x1000 + 0x6, 2, 0x10, 32, 0x200, 8, fun i j => DDST j i⟩,
   ⟨0x1000 + 0x8, 2, 0x10, 32, 0x200, 8, fun i j => DLEN j i⟩,
   ⟨0x1000 + 0xA, 2, 0x10, 32, 0x200, 8, fun i j => DLIM j i⟩,
   ⟨0x1000 + 0xC, 2, 0x10, 32, 0x200, 8, fun i j => DWIDX j i⟩,
   ⟨0x1000 + 0xE, 2, 0x10, 32, 0x200, 8, fun i j => DRIDX j i⟩,
   ⟨0x2000, 1, 1, 256, 65536, 1, fun i _ => PWR_IEN i⟩,
   ⟨0x2100, 1, 1, 256, 65536, 1, fun i _ => PWR_IPEND i⟩,
   ⟨0x2200, 1, 1, 256, 65536, 1, fun i _ => PWR_ISET i⟩,
   ⟨0x3000, 3, 4, 128, 65536, 1, fun i _ => PWR_ENGST i⟩,
   ⟨0x3200, 1, 1, 128, 65536, 1, fun i _ => PWR_ENGMAP i⟩,
   ⟨0x3280, 1, 1, 128, 65536, 1, fun i _ => PWR_XDIS i⟩,
   ⟨0x3300, 1, 1, 128, 65536, 1, fun i _ => PWR_CKCMT i⟩] ++
  [⟨0x3380, 1, 1, 1, 65536, 1, fun _ _ => PWR_SPLIT⟩,
   ⟨0x3381, 1, 1, 1, 65536, 1, fun _ _ => PWR_CLUST⟩,
   ⟨0x3382, 2, 2, 1, 65536, 1, fun _ _ => PWR_CKBASE⟩,
   ⟨0x3384, 2, 2, 1, 65536, 1, fun _ _ => PWR_TKVEC⟩,
   ⟨0x0, 1, 1, 1, 65536, 1, fun _ _ => PWR_STATE⟩,
   ⟨0x1, 1, 1, 1, 65536, 1, fun _ _ => PWR_CTL⟩,
   ⟨0x2, 1, 1, 1, 65536, 1, fun _ _ => PWR_GEN⟩,
   ⟨0x3, 1, 1, 1, 65536, 1, fun _ _ => PWR_WAKECFG⟩,
   ⟨0x4, 1, 1, 1, 65536, 1, fun _ _ => PWR_WAKECAUSE⟩,
   ⟨0x8, 4, 4, 1, 65536, 1, fun _ _ => PWR_ALARM⟩,
   ⟨0x10, 1, 1, 5, 65536, 1, fun i _ => PWR_WAKERT i⟩,
   ⟨0x20, 1, 1, 8, 65536, 1, fun i _ => PWR_CLK i⟩] ++
  [⟨0x28, 1, 1, 8, 65536, 1, fun i _ => PWR_CST i⟩,
   ⟨0x30, 1, 1, 8, 65536, 1, fun i _ => PWR_CCMD i⟩,
   ⟨0x40, 1, 1, 1, 65536, 1, fun _ _ => PWR_SUPST⟩,
   ⟨0x41, 1, 1, 1, 65536, 1, fun _ _ => PWR_BSTAT⟩,
   ⟨0x42, 1, 1, 1, 65536, 1, fun _ _ => PWR_BAKCFG⟩,
   ⟨0x43, 1, 1, 1, 65536, 1, fun _ _ => PWR_HCAP⟩,
   ⟨0x44, 1, 1, 1, 65536, 1, fun _ _ => PWR_HOCNT⟩,
   ⟨0x45, 1, 1, 1, 65536, 1, fun _ _ => PWR_VIODIP⟩,
   ⟨0x50, 1, 1, 11, 65536, 1, fun i _ => PWR_VMON i⟩,
   ⟨0x60, 1, 1, 4, 65536, 1, fun i _ => PWR_GPS i⟩]
def tmpRows : List RegRow :=
  [⟨0x0, 3, 4, 49, 65536, 1, fun i _ => TMP_CFG i⟩,
   ⟨0x100, 2, 2, 49, 65536, 1, fun i _ => TMP_PAR i⟩,
   ⟨0x180, 1, 1, 49, 65536, 1, fun i _ => TMP_T i⟩,
   ⟨0x1c0, 1, 1, 49, 65536, 1, fun i _ => TMP_ST i⟩,
   ⟨0x200, 1, 1, 16, 65536, 1, fun i _ => TMP_DS i⟩,
   ⟨0x210, 2, 2, 1, 65536, 1, fun _ _ => TMP_DSVAL⟩,
   ⟨0x220, 1, 1, 1, 65536, 1, fun _ _ => TMP_CDCFG⟩,
   ⟨0x221, 1, 1, 1, 65536, 1, fun _ _ => TMP_CDIE⟩,
   ⟨0x222, 1, 1, 1, 65536, 1, fun _ _ => TMP_CDMIN⟩,
   ⟨0x224, 1, 1, 4, 65536, 1, fun i _ => TMP_DIE i⟩]
def recRows : List RegRow :=
  [⟨0x0, 1, 1, 1, 65536, 1, fun _ _ => REC_STAT⟩,
   ⟨0x1, 1, 1, 1, 65536, 1, fun _ _ => REC_PEND⟩,
   ⟨0x2, 2, 2, 1, 65536, 1, fun _ _ => REC_LOGHEAD⟩,
   ⟨0x4, 1, 1, 1, 65536, 1, fun _ _ => REC_LOGWRAP⟩,
   ⟨0x5, 1, 1, 1, 65536, 1, fun _ _ => REC_DEFCNT⟩,
   ⟨0x6, 1, 1, 1, 65536, 1, fun _ _ => REC_PROT⟩,
   ⟨0x10, 2, 2, 1, 65536, 1, fun _ _ => REC_SUBSRC⟩,
   ⟨0x12, 2, 2, 1, 65536, 1, fun _ _ => REC_SUBDST⟩,
   ⟨0x14, 1, 1, 1, 65536, 1, fun _ _ => REC_SUBLEN⟩,
   ⟨0x15, 1, 1, 1, 65536, 1, fun _ _ => REC_SUBCMD⟩,
   ⟨0x16, 1, 1, 1, 65536, 1, fun _ _ => REC_SUBST⟩,
   ⟨0x17, 1, 1, 1, 65536, 1, fun _ _ => REC_LSEQ⟩]
def mirRows : List RegRow :=
  [⟨0x0, 1, 1, 1, 65536, 1, fun _ _ => MIR_CTL⟩,
   ⟨0x1, 1, 1, 1, 65536, 1, fun _ _ => MIR_CFG⟩,
   ⟨0x2, 1, 1, 1, 65536, 1, fun _ _ => MIR_STAT⟩,
   ⟨0x3, 2, 2, 1, 65536, 1, fun _ _ => MIR_EPOCH⟩,
   ⟨0x5, 1, 1, 1, 65536, 1, fun _ _ => MIR_LOSTCNT⟩,
   ⟨0x6, 2, 2, 1, 65536, 1, fun _ _ => MIR_XSTAT⟩,
   ⟨0x8, 2, 2, 1, 65536, 1, fun _ _ => MIR_POFS⟩,
   ⟨0xa, 1, 1, 1, 65536, 1, fun _ _ => MIR_LDLY⟩,
   ⟨0x100, 1, 1, 192, 65536, 1, fun i _ => MIR_SPLIT i⟩]
def ksfRows : List RegRow :=
  [⟨0x0, 1, 1, 1, 65536, 1, fun _ _ => KSF_CTL⟩,
   ⟨0x1, 1, 1, 1, 65536, 1, fun _ _ => KSF_STAT⟩,
   ⟨0x2, 3, 3, 1, 65536, 1, fun _ _ => KSF_OWNID⟩,
   ⟨0x5, 2, 2, 1, 65536, 1, fun _ _ => KSF_UDPPORT⟩,
   ⟨0x8, 1, 1, 1, 65536, 1, fun _ _ => KSF_TCFG⟩,
   ⟨0x9, 2, 2, 1, 65536, 1, fun _ _ => KSF_TOFS⟩,
   ⟨0x10, 6, 8, 4, 65536, 1, fun i _ => KSF_CAN i⟩,
   ⟨0x40, 9, 16, 2, 65536, 1, fun i _ => KSF_ETH i⟩,
   ⟨0x100, 9, 16, 32, 65536, 1, fun i _ => KSF_ALLOW i⟩,
   ⟨0x400, 10, 16, 64, 65536, 1, fun i _ => KSF_CONN i⟩,
   ⟨0x800, 1, 1, 38, 0x40, 64, fun i j => KSF_TX j i⟩,
   ⟨0x828, 1, 64, 64, 65536, 1, fun i _ => KSF_TXCMD i⟩] ++
  [⟨0x1800, 1, 1, 40, 0x40, 64, fun i j => KSF_RX j i⟩,
   ⟨0x1828, 4, 64, 64, 65536, 1, fun i _ => KSF_RXTIME i⟩,
   ⟨0x182c, 1, 64, 64, 65536, 1, fun i _ => KSF_RXCNT i⟩,
   ⟨0x2800, 1, 1, 64, 65536, 1, fun i _ => KSF_SLOT i⟩,
   ⟨0x2840, 1, 1, 1, 65536, 1, fun _ _ => KSF_OPEN⟩,
   ⟨0x2841, 1, 1, 1, 65536, 1, fun _ _ => KSF_CLOSE⟩,
   ⟨0x2848, 4, 4, 1, 65536, 1, fun _ _ => KSF_TSTAG⟩,
   ⟨0x284c, 1, 1, 1, 65536, 1, fun _ _ => KSF_TSM⟩,
   ⟨0x284d, 1, 1, 1, 65536, 1, fun _ _ => KSF_TSSEND⟩,
   ⟨0x2850, 1, 1, 16, 65536, 1, fun i _ => KSF_TSREQ i⟩]
def hifRows : List RegRow :=
  [⟨0x0, 1, 1, 1, 65536, 1, fun _ _ => HIF_STAT⟩,
   ⟨0x1, 1, 1, 1, 65536, 1, fun _ _ => HIF_CTL⟩,
   ⟨0x2, 1, 1, 1, 65536, 1, fun _ _ => HIF_PERM⟩,
   ⟨0x3, 1, 1, 1, 65536, 1, fun _ _ => HIF_RSTCAUSE⟩,
   ⟨0x4, 1, 1, 1, 65536, 1, fun _ _ => HIF_RST⟩,
   ⟨0x5, 1, 1, 1, 65536, 1, fun _ _ => HIF_PCYC⟩,
   ⟨0x6, 2, 2, 1, 65536, 1, fun _ _ => HIF_ERRADR⟩,
   ⟨0x8, 1, 1, 1, 65536, 1, fun _ _ => HIF_IEN⟩,
   ⟨0x9, 1, 1, 1, 65536, 1, fun _ _ => HIF_IPEND⟩,
   ⟨0xa, 1, 1, 1, 65536, 1, fun _ _ => HIF_BOOT⟩,
   ⟨0xb, 1, 1, 1, 65536, 1, fun _ _ => HIF_BOOTCMD⟩,
   ⟨0x10, 1, 1, 1, 65536, 1, fun _ _ => HIF_FLCMD⟩] ++
  [⟨0x11, 2, 2, 1, 65536, 1, fun _ _ => HIF_FLADR⟩,
   ⟨0x13, 2, 2, 1, 65536, 1, fun _ _ => HIF_FLSRC⟩,
   ⟨0x15, 1, 1, 1, 65536, 1, fun _ _ => HIF_FLLEN⟩,
   ⟨0x16, 1, 1, 1, 65536, 1, fun _ _ => HIF_FLST⟩,
   ⟨0x18, 1, 1, 1, 65536, 1, fun _ _ => HIF_KLCTL⟩,
   ⟨0x19, 1, 1, 1, 65536, 1, fun _ _ => HIF_KLSTAT⟩,
   ⟨0x20, 1, 1, 4, 65536, 1, fun i _ => HIF_MBRT i⟩,
   ⟨0x100, 1, 1, 32, 0x40, 4, fun i j => HIF_HMB j i⟩,
   ⟨0x120, 1, 64, 4, 65536, 1, fun i _ => HIF_HDB i⟩,
   ⟨0x200, 1, 1, 32, 0x40, 4, fun i j => HIF_DMB j i⟩,
   ⟨0x220, 1, 64, 4, 65536, 1, fun i _ => HIF_DDB i⟩]
def dbgRows : List RegRow :=
  [⟨0x0, 1, 1, 1, 65536, 1, fun _ _ => DBG_STAT⟩,
   ⟨0x1, 1, 1, 1, 65536, 1, fun _ _ => DBG_ENGSEL⟩,
   ⟨0x2, 1, 1, 1, 65536, 1, fun _ _ => DBG_CMD⟩,
   ⟨0x3, 1, 1, 1, 65536, 1, fun _ _ => DBG_ESTAT⟩,
   ⟨0x4, 1, 1, 1, 65536, 1, fun _ _ => DBG_CFG⟩,
   ⟨0x8, 2, 2, 4, 65536, 1, fun i _ => DBG_BP i⟩,
   ⟨0x10, 1, 1, 1, 65536, 1, fun _ _ => DBG_RSEL⟩,
   ⟨0x11, 3, 3, 1, 65536, 1, fun _ _ => DBG_RDATA⟩,
   ⟨0x18, 1, 1, 1, 65536, 1, fun _ _ => DBG_OTPCMD⟩,
   ⟨0x19, 1, 1, 1, 65536, 1, fun _ _ => DBG_OTPA⟩,
   ⟨0x1a, 1, 1, 1, 65536, 1, fun _ _ => DBG_OTPD⟩]
def sealRows : List RegRow :=
  [⟨0x0, 2, 2, 1, 65536, 1, fun _ _ => SEAL_SW⟩,
   ⟨0x2, 2, 2, 1, 65536, 1, fun _ _ => SEAL_SWF⟩,
   ⟨0x4, 1, 1, 1, 65536, 1, fun _ _ => SEAL_STAT⟩,
   ⟨0x5, 1, 1, 1, 65536, 1, fun _ _ => SEAL_CMD⟩,
   ⟨0x6, 3, 3, 1, 65536, 1, fun _ _ => SEAL_CRC⟩,
   ⟨0x9, 1, 1, 1, 65536, 1, fun _ _ => SEAL_CODE⟩,
   ⟨0xa, 4, 4, 1, 65536, 1, fun _ _ => SEAL_SER⟩,
   ⟨0xe, 1, 1, 1, 65536, 1, fun _ _ => SEAL_DEC⟩,
   ⟨0x1000, 5, 8, 192, 65536, 1, fun i _ => SEAL_SS i⟩]
def sageRows : List RegRow :=
  [⟨0x0, 2, 2, 5, 65536, 1, fun i _ => SAGE_LIFE i⟩,
   ⟨0x10, 1, 1, 1, 65536, 1, fun _ _ => SAGE_REM⟩,
   ⟨0x11, 1, 1, 1, 65536, 1, fun _ _ => SAGE_WORST⟩,
   ⟨0x12, 2, 2, 1, 65536, 1, fun _ _ => SAGE_ONH⟩,
   ⟨0x14, 2, 2, 1, 65536, 1, fun _ _ => SAGE_OFFH⟩,
   ⟨0x20, 1, 1, 1, 65536, 1, fun _ _ => SAGE_FCFG⟩,
   ⟨0x21, 1, 1, 1, 65536, 1, fun _ _ => SAGE_FSTAT⟩,
   ⟨0x22, 1, 1, 1, 65536, 1, fun _ _ => SAGE_FDUE⟩,
   ⟨0x23, 1, 1, 1, 65536, 1, fun _ _ => SAGE_FCNT⟩,
   ⟨0x24, 1, 1, 1, 65536, 1, fun _ _ => SAGE_CECNT⟩,
   ⟨0x25, 2, 2, 1, 65536, 1, fun _ _ => SAGE_RETMAX⟩]

/-- The rows of device-register block b (R42). -/
def devRows : Nat → List RegRow
  | 0 => fcRows
  | 1 => snRows
  | 2 => sptRows
  | 3 => trpRows
  | 4 => pwrRows
  | 5 => tmpRows
  | 6 => recRows
  | 7 => mirRows
  | 8 => ksfRows
  | 9 => hifRows
  | 10 => dbgRows
  | 11 => sealRows
  | 12 => sageRows
  | _ => []

/-- The register that a row places at offset `off` of its block, if it places one there. -/
def RegRow.find (row : RegRow) (off : Nat) : Option Reg :=
  if off < row.first then none else
  let o := off - row.first
  let j := o / row.oStride
  let r := o % row.oStride
  let i := r / row.stride
  if j < row.oCount ∧ i < row.count ∧ r % row.stride < row.words then some (row.reg i j) else none

/-- The register at offset `off` of a block whose rows are given. -/
def findRow (rows : List RegRow) (off : Nat) : Option Reg := rows.findSome? (·.find off)

/-- R43: the register at offset `off` of the window of channel die d. -/
def dieReg (d off : Nat) : Option Reg :=
  if off < 0xC000 then findRow (chRows (48 * d + off / 0x400)) (off % 0x400)
  else if off < 0x10000 then none
  else if off < 0x11000 then
    if (off - 0x10000) / 0x100 < 3 then findRow (carRows d ((off - 0x10000) / 0x100)) (off % 0x100) else none
  else if off < 0x11C00 then some (CAR_MEM d ((off - 0x11000) / 0x400) ((off - 0x11000) % 0x400))
  else if off < 0x20000 then none
  else if off < 0x20600 then findRow (trrRows (6 * d + (off - 0x20000) / 0x100)) (off % 0x100)
  else if off < 0x30000 then none
  else if off < 0x30C00 then findRow (cwRows (48 * d + (off - 0x30000) / 64)) (off % 64)
  else none

/-- R38, R42, R43: the register that holds word address `a`; none where the map defines none (a reserved address, R39). -/
def regAt (a : Nat) : Option Reg :=
  if a < 0xC00000 then none
  else if a < 0xD00000 then dieReg ((a - 0xC00000) / 0x40000) ((a - 0xC00000) % 0x40000)
  else if a < 0xE00000 then findRow (devRows ((a - 0xD00000) / 0x10000)) (a % 0x10000)
  else none

end Sys2Proof.Machine
end

