-- ==== Sys2Proof/Machine/State.lean ====
section
/-! DEFINITION. The state of the SL192 as plain data: the device state and time, the register file, the memories, and for each
agent of the device what it holds that no register shows. -/
namespace Sys2Proof.Machine

/-- R4: the device states. -/
inductive DevState
  | sleep | watch | run | safe | maint | rejoin
  deriving DecidableEq, Repr

/-- The phases of a period (R97): before the first boundary, on, falling dead time, low, rising dead time; and the dead time after the
gates were turned off outside that order, in which neither rises (R104). -/
inductive GenPhase
  | idle | on | fall | low | rise | wait
  deriving DecidableEq, Repr

/-- What a Tightrope receiver sees of its channel from an always-on time on (R200): HG, a dead time; whether a gate edge began it. -/
structure GateStep where
  since : Nat
  hg    : Bool
  dead  : Bool
  edge  : Bool
  deriving DecidableEq, Repr

/-- What an edge generator holds beside its registers (R95 to R125). -/
structure Gen where
  /-- gate levels at the generator -/
  hg          : Bool := false
  lg          : Bool := false
  phase       : GenPhase := .idle
  /-- PER, PHASE and RES in force (R99) -/
  perF        : Nat := 16000
  phaseF      : Nat := 0
  resF        : Nat := 4
  /-- the period reference A, and the next boundary, in coarse ticks (R116) -/
  refA        : Int := 0
  nextB       : Int := 0
  /-- on-time of the coming and of the present period in fine steps, after code modulation (R107, R112) -/
  onNext      : Nat := 0
  onCur       : Nat := 0
  /-- the length of the present period in coarse ticks, and the correction of R121 that the capture point gave the coming one -/
  curLen      : Nat := 0
  corrNext    : Int := 0
  /-- fine steps by which the rising dead time outlasts the boundary (R98) -/
  riseDelay   : Nat := 0
  /-- LG is suppressed in the coming period (R105) -/
  supNext     : Bool := false
  supCur      : Bool := false
  /-- duty or reference of the period computed last, for R67 -/
  prevD       : Nat := 0
  chipNext    : Nat := 0
  chipRestart : Bool := false
  rclr        : Bool := false
  /-- remaining correction of R121 in coarse ticks -/
  alignErr    : Int := 0
  /-- a change of PER, PHASE or RES takes effect in this period (R121) -/
  changing    : Bool := false
  /-- the capture point took such a change that its boundary still has to install (R108) -/
  capPend     : Bool := false
  /-- BK loop (R61, R62) -/
  integ       : Nat := 0
  loopDuty    : Nat := 0
  prevRef     : Nat := 0
  /-- a limit action in this period, and in the period before (R63) -/
  limThis     : Bool := false
  limLast     : Bool := false
  limCount    : Nat := 0
  /-- the inrush window ended in this period, which counts no limit action (R68) -/
  limSkip     : Bool := false
  inrush      : Bool := false
  /-- always-on time at which the inrush window opened last (R67) -/
  inrAt       : Nat := 0
  /-- the capture point of the coming period has passed, the on-time that it took before code modulation, and the residue that it found
  (R101, R107, R112, R115) -/
  capt        : Bool := false
  onRaw       : Nat := 0
  capRes      : Int := 0
  /-- always-on time at which the freeze began, and whether the limit has acted in it (R123 to R125) -/
  frzAt       : Option Nat := none
  frzLim      : Bool := false
  /-- the gates through the dwell that runs on the channel, newest first (R200) -/
  trace       : List GateStep := []
  deriving DecidableEq, Repr

/-- A shadow set (R128): duty, reference, source, colour loop. -/
structure Shadow where
  duty  : Nat := 0
  ref   : Nat := 0
  src   : Nat := 0
  cloop : Nat := 0
  /-- it comes from an aspect switch, which is no hand-over (R141, R153) -/
  sw    : Bool := false
  deriving DecidableEq, Repr

/-- What the application, lease and protection stages of a channel hold beside their registers. -/
structure Prot where
  /-- the applied duty and reference before the clamps (R130) -/
  appDuty  : Nat := 0
  appRef   : Nat := 0
  /-- a shadow set applied during a range hold or a freeze, waiting for a boundary (R59, R123) -/
  deferred : Option Shadow := none
  /-- y of R154 -/
  hoY      : Nat := 0
  /-- a clamping interval is open (R145) -/
  clampOn  : Bool := false
  /-- the generator value at the start of the range hold (R59) -/
  rholdVal : Nat := 0
  /-- rank-1 holds: bootstrap (R54), over-temperature (R88) -/
  bstHold  : Bool := false
  otHold   : Bool := false
  /-- the expected key is 0xA5A when true, 0x5A5 when false (R75) -/
  key      : Bool := false
  /-- always-on time of the latest refresh and what it found in CHn_LREM; always-on time of the latest expiry (R76) -/
  kickAt   : Option Nat := none
  kickRem  : Nat := 0
  expAt    : Option Nat := none
  /-- always-on time of the latest write that started or restarted a range hold (R60) -/
  holdAt   : Nat := 0
  /-- a channel reset keeps the channel off until EN is set (R94) -/
  resetOff : Bool := false
  /-- the event that first set the safe-state latch (R188) -/
  latchEv  : Option Nat := none
  /-- the hand-over in progress is one between pair members, which no view clamps (R459, R462) -/
  noClamp  : Bool := false
  /-- the value that a HOLD safe state holds; it had doubled already (R454) -/
  held     : Nat := 0
  heldDbl  : Bool := false
  deriving DecidableEq, Repr

/-- R162: an expectation. -/
inductive Expect
  | none | lit | dark
  deriving DecidableEq, Repr

/-- What the proof of a channel holds beside its registers (R162 to R189). -/
structure Prf where
  samples   : List Int := []
  lastValid : Int := 0
  darkRun   : Nat := 0
  expt      : Expect := .none
  exptAt    : Nat := 0
  /-- always-on time of the latest restart of proof (R163) -/
  restartAt : Nat := 0
  /-- an electrical verdict was accepted since the previous tick, since the restart; the next may carry any SEQ -/
  eNew      : Bool := false
  eAny      : Bool := false
  eFree     : Bool := true
  eStale    : Nat := 0
  oAny      : Bool := false
  oFree     : Bool := true
  oAt       : Option Nat := none
  /-- always-on time of the latest optical verdict posted, whatever the expectation then (R183) -/
  oLast     : Option Nat := none
  noDecAt   : Option Nat := none
  noDecRep  : Bool := false
  failAt    : Option Nat := none
  provenRun : Nat := 0
  darkRunOk : Nat := 0
  /-- a coarse fail was declared and not yet seen by a fusion tick (R168) -/
  cNew      : Bool := false
  /-- the doubling instant, for R168 -/
  dblAt     : Option Nat := none
  deriving DecidableEq, Repr

/-- What a channel die holds: supplies and holds (R21, R53, R86, R92). -/
structure Die where
  vdrvHold : Bool := false
  lbusHold : Bool := false
  otHold   : Bool := false
  /-- the die-to-die link is aligned and checked (R21) -/
  linkOk   : Bool := true
  /-- die-local channels whose conversion belongs to the converter frame that is being filled (R299) -/
  conv     : List Nat := []
  deriving DecidableEq, Repr

/-- A ramp of a track (R149): start level, target, length in units, number of the unit in which it began, the last step taken. -/
structure Ramp where
  start  : Nat
  target : Nat
  n      : Nat
  unit0  : Nat
  step   : Nat := 0
  deriving DecidableEq, Repr

/-- What a Carousel sequencer holds beside its registers: the pattern address, the loop stack (address after the LOOP, remaining
count; innermost first), the ramps by track, the device time at which a WAIT ends, whether it also ends at a SYNC. -/
structure Seqr where
  pc        : Nat := 0
  stack     : List (Nat × Nat) := []
  ramps     : SMap (Option Ramp) := []
  waitUntil : Nat := 0
  waitSync  : Bool := false
  /-- the always-on cycle of the last STOP (R151) -/
  stopAt    : Option Nat := none
  deriving DecidableEq, Repr

/-- What the Safety Net holds for an aspect group (R140 to R146, R184 to R187). -/
structure Group where
  /-- functions that demand an aspect of the group -/
  demandFn    : List Nat := []
  /-- the request in SN_AGREQ is one that a tagged frame installed (R137, R138) -/
  byFrame     : Bool := false
  /-- the event whose acknowledgement ends the demand of a substitution (R146) -/
  demandSub   : Option Nat := none
  /-- entries into ERROR that are not yet reported, oldest first: the aspect, the channel source ID 4n + k of the member that failed
  first (R185) -/
  errNew      : List (Nat × Nat) := []
  /-- the active aspect stands in ERROR since its switch (R185, R186) -/
  erred       : Bool := false
  /-- the group was DEGRADED past its duration and stands in ERROR (R187) -/
  degOver     : Bool := false
  /-- reports that await their reaction, oldest first: the aspect, the event (R186) -/
  react       : List (Nat × Nat) := []
  degSince    : Option Nat := none
  /-- always-on time since which the group is PROVEN (R367) -/
  provenAt    : Option Nat := none
  deriving DecidableEq, Repr

/-- A scheduled tagged broadcast (R136 to R138): TAG; the group requests (group, aspect) of a frame; whether it is of the local form, which
takes its requests from SN_AGREQ; and what arrived after it: requests in SN_AGREQ by their groups, SYNC broadcasts by their action
instants. -/
structure Tagged where
  tag   : Nat
  reqs  : List (Nat × Nat)
  loc   : Bool := false
  past  : List Nat := []
  after : List Nat := []
  deriving DecidableEq, Repr

/-- The instants that the broadcast logic holds (R117 to R122, R134 to R138, R142). -/
structure Bcast where
  /-- coarse ticks of the action instants of SYNC broadcasts and of frame marks -/
  syncDue   : List Nat := []
  markDue   : List Nat := []
  /-- groups taken by SN_AAPPLY writes, oldest first -/
  aapply    : List (List Nat) := []
  tagged    : List Tagged := []
  /-- coarse tick of the rising edge of the latest accepted pulse -/
  lastRise  : Option Nat := none
  lastMark  : Option Nat := none
  /-- always-on time at which the watch of R122 began -/
  watchAt   : Option Nat := none
  /-- the instant, of a mark or of a beginning of the watch, from which the marks were declared lost last -/
  lostFor   : Option Nat := none
  /-- values of SYNCCFG, FRAME and SYNCCOMP in force (R127): MASTER, FWD, FRAME, COMP -/
  master    : Bool := false
  fwd       : Bool := false
  frame     : Nat := 100
  comp      : Nat := 0
  /-- coarse tick before which SYNCO carries a mark (R119) -/
  markOut   : Option Nat := none
  /-- pulses emitted on SYNCO, latest first: coarse tick of the rise, coarse ticks of width (R118, R119) -/
  synco     : List (Nat × Nat) := []
  deriving DecidableEq, Repr

/-- An optical input beside its registers (R173, R174): consecutive saturated samples, latest sample, sample since a low ambient. -/
structure Optic where
  /-- the samples of the frame that is being filled, the latest three at most, oldest first (R299) -/
  frame    : List Nat := []
  high     : Nat := 0
  /-- it is saturated on the full scale in force, and recorded (R174) -/
  sat      : Bool := false
  lowSince : Option Nat := none
  last     : Nat := 0
  /-- always-on time of the latest change of range, and the samples of the last 1 ms with their full scales (R173, R193) -/
  holdAt   : Nat := 0
  recent   : List Nat := []
  deriving DecidableEq, Repr

/-- R395: an event: a number of the model's own to name it by, class, source ID, base severity, detection cycle and its device time, data, path. -/
structure Ev where
  id   : Nat
  cls  : Nat
  src  : Nat
  sev  : Nat
  time : Nat
  dev  : Nat
  data : List Nat
  path : Nat
  deriving DecidableEq, Repr

/-- An open event (R404): its name, class, final severity, the cycle in which the collector took it, the number of the record that
holds it (none while it waits in a storm accumulator), and the accumulator's source (4096 for the class accumulator). -/
structure OpenEv where
  id   : Nat
  cls  : Nat
  sev  : Nat
  cyc  : Nat
  rec' : Option Nat
  acc  : Nat
  deriving DecidableEq, Repr

/-- A token bucket (R410): tokens missing, and the always-on time from which the next refill is timed. -/
structure Bucket where
  missing : Nat := 0
  since   : Nat := 0
  deriving DecidableEq, Repr

/-- A storm accumulator (R410, R411): class, source (4096 for the class accumulator), the always-on time at which it ceased to be empty,
the count, first and last detection cycles, highest final severity, whether an event was escalated. -/
structure Storm where
  cls   : Nat
  src   : Nat
  since : Nat
  count : Nat
  first : Nat
  last  : Nat
  sev   : Nat
  esc   : Bool
  deriving DecidableEq, Repr

/-- The fault collector beside its registers (R395 to R420). -/
structure Coll where
  /-- events waiting on the paths, in order of arrival, and events dropped at a full path (R409) -/
  queue    : List Ev := []
  dropped  : List Ev := []
  opens    : List OpenEv := []
  /-- the latest cycle in which the open state was taken, and the classes open at its start (R406) -/
  cycle    : Option (Nat × List Nat) := none
  /-- token buckets, by 4096 × class + source -/
  buckets  : SMap Bucket := []
  /-- storm accumulators that are not empty -/
  storms   : List Storm := []
  noAcc    : Bool := false
  /-- records made since device reset -/
  records  : Nat := 0
  nextId   : Nat := 1
  /-- severities of the ring records that the record controller has not yet taken, oldest first -/
  ring     : List Nat := []
  /-- R408: the events whose final severity was judged, and whose S3 or S4 reaction was made, in their detection cycle: number, final
  severity, escalated -/
  lined    : List (Nat × Nat × Bool) := []
  /-- the tick in which SAFE_OK changed last (R417) -/
  sokAt    : Option Nat := none
  /-- ring records that firmware's index has not passed (R414), and ring entries that hold a record -/
  unread   : Nat := 0
  held     : Nat := 0
  /-- always-on time of the latest event that pulsed ERR_N -/
  errAt    : Option Nat := none
  /-- always-on time of the latest kick or entry into RUN (R417) -/
  kickAt   : Nat := 0
  /-- the kick whose 100 ms were recorded as missed -/
  missFor  : Option Nat := none
  deriving DecidableEq, Repr

/-- What a Tightrope receiver holds beside its registers (R195 to R206). -/
structure Rx where
  /-- it is sweeping; a dwell runs, on the slot given, since the always-on time given and its device time; a SKIP dwell injects no probe -/
  sweep    : Bool := false
  busy     : Bool := false
  slot     : Nat := 0
  startAt  : Nat := 0
  devAt    : Nat := 0
  skip     : Bool := false
  disrupt  : Bool := false
  /-- the always-on time at which the probe stopped (R201) -/
  stopAt   : Option Nat := none
  selfFail : Bool := false
  /-- state served (R200), code index and amplitude in force -/
  state    : Nat := 0
  cidx     : Nat := 0
  amp      : Nat := 0
  /-- the block of 32 samples of the dwell that comes next, a sample was lost (R203, R205) -/
  block    : Nat := 0
  ovr      : Bool := false
  deriving DecidableEq, Repr

/-- What the sweep scheduler holds beside its registers: RATE and the receiver map in force (cluster, window, enable; none where the
reset map stands), and the number of the period counted last (R207, R208). -/
structure Trp where
  rate  : Nat := 0
  map   : SMap (Option (Nat × Nat × Bool)) := []
  count : Nat := 0
  deriving DecidableEq, Repr

/-- A transfer whose delay slot comes next (R258, R283): its address, where control passes after the slot, whether it is taken. -/
structure Slot where
  owner : Nat
  next  : Nat
  taken : Bool
  deriving DecidableEq, Repr

/-- What a core executes on (R222 to R231, R281 to R285): the core of a lockstep engine stands at its even number. -/
structure Core where
  /-- it fetches instructions; a split core stopped alone; halted by debug -/
  run     : Bool := false
  stopped : Bool := false
  halted  : Bool := false
  /-- register files, by the keys of `gKey`, `lKey`, `oKey`, `lkKey`, `xKey`, `vKey`, `aKey` -/
  file    : SMap Nat := []
  pc      : Nat := 0
  ps      : Nat := 0x100
  eps     : Nat := 0
  ecause  : Nat := 0
  epc     : Nat := 0
  lc      : Nat := 0
  lb      : Nat := 0
  le      : Nat := 0
  wp      : Nat := 0
  wv      : Nat := 1
  mask    : Nat := 0xFFFFFFFF
  tmr     : Nat := 0
  /-- TMR stepped from 1 to 0 and the expiry is not yet taken -/
  tmrDue  : Bool := false
  /-- TMR has reached 0 since the WAIT in progress began (R269) -/
  tmrHit  : Bool := false
  /-- special-register parts staged and captured (R229) -/
  staged  : SMap (Option Nat) := []
  capt    : SMap (Option Nat) := []
  slot    : Option Slot := none
  /-- the shadow of a MODE change comes next (R267) -/
  shadow  : Bool := false
  /-- a micro-routine stands at an element boundary (R273) -/
  mid     : Bool := false
  /-- WAIT has been executed and not ended (R269) -/
  waiting : Bool := false
  /-- always-on time at which the waiting FENCE.M began, and writes of class M not acknowledged (R304, R307) -/
  fence   : Option Nat := none
  mOut    : Nat := 0
  /-- the word of code flash that a load last had to wait for (R284, R295) -/
  loadAt  : Option Nat := none
  /-- debug: one step is due (R542), why it halted (R548), the breakpoint hit -/
  step    : Bool := false
  hcause  : Nat := 0
  hbp     : Nat := 0
  /-- the breakpoint at the PC has been passed (R542); a HALT waits for an interrupt point -/
  bpPass  : Bool := false
  haltDue : Bool := false
  deriving DecidableEq, Repr

/-- What the engine logic holds for an engine beside PWR_ENGSTe (R323, R327, R330, R334): it waits to start at the takeover vector, the
always-on time of its latest stop, it runs without a spare since the reserve check; the HALT that broke its lockstep (R544): its always-on
time and its event. -/
structure Eng where
  tkWait  : Bool := false
  stopAt  : Option Nat := none
  noSpare : Bool := false
  halt    : Option (Nat × Nat) := none
  deriving DecidableEq, Repr

/-- A twin pair's round (R323, R324, R333): posts of the open round, its SEQ and its opening time; whether a side's next post may carry
any SEQ; the end of a waiver. -/
structure Twin where
  postA  : Option Nat := none
  postB  : Option Nat := none
  seq    : Nat := 0
  openAt : Option Nat := none
  freeA  : Bool := true
  freeB  : Bool := true
  waive  : Option Nat := none
  /-- always-on time at which a round closed last (R357) -/
  closed : Option Nat := none
  deriving DecidableEq, Repr

/-- What the Safety Net holds for an input channel: 2p + c for channel c of pair p (R348, R350, R351): its filtered value is CLOSED,
consecutive samples that show the other value, latest unmasked sample, consecutive checks failed and passed, a test-pulse fault. -/
structure Inp where
  closed : Bool := false
  run    : Nat := 0
  lastU  : Bool := false
  fails  : Nat := 0
  passes : Nat := 0
  tpf    : Bool := false
  deriving DecidableEq, Repr

/-- What the Safety Net holds for an input pair (R352, R353, R360): MIXED since, discrepancy, a network pair's slot was valid, BOTH_CLOSED
since. -/
structure IPair where
  mixedAt  : Option Nat := none
  disc     : Bool := false
  netOk    : Bool := false
  closedAt : Option Nat := none
  deriving DecidableEq, Repr

/-- What the Safety Net holds for a safety function beside SN_FNSTf (R357, R358, R365, R369, R376, R382): entry into STOPPING and into
WAIT, the hand that came first, a per-function reset for the next sample, a stale engine channel, ticks of disagreement, ticks of
degraded mode left. -/
structure Fn where
  stopAt   : Option Nat := none
  waitAt   : Nat := 0
  second   : Bool := false
  reset    : Bool := false
  stale    : Bool := false
  xTime    : Nat := 0
  degLeft  : Nat := 0
  deriving DecidableEq, Repr

/-- What the safety outputs and test pulses hold beside their registers (R349, R372, R374, R375), and the lamp-failure signals (R367). -/
structure Sio where
  soHeld   : List Nat := []
  stoHeld  : Bool := false
  adHeld   : Bool := false
  tpFails  : SMap Nat := []
  /-- device time of the falling edge of the latest pulse of each TP output -/
  tpAt     : SMap (Option Nat) := []
  tpBad    : List Nat := []
  rbHigh   : SMap Nat := []
  /-- the latest test pulse of each output: always-on time, switch B; of its latest readback; of the latest STO test pulse -/
  outAt    : SMap (Option (Nat × Bool)) := []
  rbAt     : SMap (Option Nat) := []
  stoAt    : Option Nat := none
  stoFailA : Nat := 0
  stoFailB : Nat := 0
  adAt     : Option Nat := none
  lampFail : List Nat := []
  deriving DecidableEq, Repr

/-- What the KSF block holds for a connection beside KSF_CONNc (R434 to R437, R442). -/
structure Conn where
  /-- transport, the partner's address on Ethernet (R430), always-on time of the latest accepted frame -/
  tr      : Nat := 0
  peer    : Option Nat := none
  heardAt : Nat := 0
  /-- the next accepted frame is the first since admission -/
  fresh   : Bool := false
  /-- always-on times of the latest CHECK discards -/
  checks  : List Nat := []
  /-- committed payload words from P2 onward -/
  payload : List Nat := []
  /-- always-on time of the latest periodic DATA frame, of the latest JOIN -/
  sentAt  : Nat := 0
  joinAt  : Option Nat := none
  deriving DecidableEq, Repr

/-- What time alignment holds (R446, R447): ticks still to be added or dropped, the always-on time of the latest one, consecutive
measurements within the bound of the source in force. -/
structure Clock where
  owed    : Int := 0
  adjAt   : Nat := 0
  lockRun : Nat := 0
  deriving DecidableEq, Repr

/-- What a paired device holds beside its MIR_ registers (R451 to R463). -/
structure Pair where
  /-- the identity of the pair once the partner's is known (R449) -/
  ident    : Option Nat := none
  /-- always-on time of the completion of start-up, of the latest valid heartbeat; this member is SOLO -/
  upAt     : Nat := 0
  heardAt  : Option Nat := none
  solo     : Bool := false
  /-- the partner's latest report: device state (PWR_STATE code), aspects of the groups, groups under demand -/
  pstate   : Nat := 0
  aspects  : SMap (Option Nat) := []
  demands  : List Nat := []
  /-- heartbeats within the bound, in a row (R447) -/
  lockRun  : Nat := 0
  /-- always-on time since which TFLT has been 0, by channel; channels doubled by TFLT, and by the loss of the partner -/
  clearAt  : SMap (Option Nat) := []
  byFault  : List Nat := []
  byLoss   : List Nat := []
  /-- it entered REJOIN from SOLO -/
  rejoiner : Bool := false
  /-- the full transfer: blocks received, repeats by block, its failure, whether the partner has every block of this member -/
  got      : List Nat := []
  repeats  : SMap Nat := []
  failAt   : Option Nat := none
  theirs   : Bool := false
  /-- the next block of the own half to send while a transfer is under way, and the check value of the latest one sent -/
  out      : Option Nat := none
  outCheck : Nat := 0
  /-- the re-entry instant, the time of the request, whether it was confirmed -/
  instant  : Option Nat := none
  askedAt  : Nat := 0
  agreed   : Bool := false
  /-- until when this member defers aspect requests of split groups, and the groups whose request was deferred (R462) -/
  deferTo  : Option Nat := none
  late     : List Nat := []
  /-- groups whose aspect differs from the partner's, since; recorded; pair offset above 1 µs since; recorded -/
  diffAt   : SMap (Option Nat) := []
  diffRep  : List Nat := []
  ofsAt    : Option Nat := none
  ofsRep   : Bool := false
  /-- the latest heartbeat sent, and mirror writes sent to the partner, latest first -/
  beat     : Option Heartbeat := none
  writes   : List (Nat × Nat) := []
  deriving DecidableEq, Repr

/-- A frame that the device sent: transport, the link address it went to (R429, R430; none where the spec gives no address), its bytes
(R424). -/
structure Sent where
  tr    : Nat
  dest  : Option Nat
  /-- on Ethernet the source port (R430), and priority and VID of its 802.1Q tag where it has one (R428) -/
  port  : Option Nat
  tag   : Option (Nat × Nat)
  bytes : List Nat
  deriving DecidableEq, Repr

/-- What the power sequencer holds for a cluster beside its registers (R32, R35, R475 to R477). -/
structure Clu where
  /-- it starts from retention, with the generation it stored -/
  kept    : Option Nat := none
  startAt : Nat := 0
  idleReq : Bool := false
  /-- the comparator proof of its first start has run with the start-up of the device (R316, R523) -/
  proven  : Bool := false
  deriving DecidableEq, Repr


/-- What the always-on domain holds of resets, supplies and SLEEP (R468, R471, R472, R482 to R486, R521): the internal reset has been
released; the rank-1 hold of every gate and the de-energising of the safety outputs; the commitment and the completion of a hand-over;
the SAFE hold; the latches copied on entry into SLEEP (channel, CAUSE, the event where it is not acknowledged); since when SLPARM
is 1; PCYC_N is low, since; the pending power-cycle flag; the coming start is warm; the always-on time of the latest warm start; SLEEP was
requested in the present cycle, with VHOLD in mV (R5). -/
structure Pwr where
  released : Bool := false
  gatesOff : Bool := false
  handAt   : Option Nat := none
  doneAt   : Option Nat := none
  safeHold : Bool := false
  latches  : List (Nat × Nat × Option Nat) := []
  armAt    : Nat := 0
  pcycAt   : Option Nat := none
  pcycFlag : Bool := false
  warm     : Bool := false
  warmAt   : Option Nat := none
  sleepDue : Option Nat := none
  deriving DecidableEq, Repr

/-- A temperature input beside its registers (R489 to R492): consecutive conversions that met the OPEN and the SHORT criterion, that
were discarded, without any condition, that disagreed with each neighbour, that met no case of XFAIL; the last accepted result and
its always-on time; its configuration was written since its last conversion (R512). -/
structure Tin where
  openRun  : Nat := 0
  shortRun : Nat := 0
  discRun  : Nat := 0
  good     : Nat := 0
  dis0     : Nat := 0
  dis1     : Nat := 0
  xOk      : Nat := 0
  last     : Option (Int × Nat) := none
  renew    : Bool := false
  deriving DecidableEq, Repr

/-- What the temperature block holds (R479, R489 to R494): the inputs, the consecutive conversions in which an on-die sensor was more
than 35 K away, since when TSB has read from 2 °C to 58 °C. -/
structure Heat where
  tins  : SMap Tin := []
  dsRun : SMap Nat := []
  tsbAt : Option Nat := none
  /-- the backup cell has charged since charging was last inhibited -/
  chg   : Bool := false
  deriving DecidableEq, Repr

/-- R495: a system item in record MRAM: its two copies, none before the first write, and whether copy b is the newer. -/
structure Copies where
  a    : Option Nat := none
  b    : Option Nat := none
  newB : Bool := false
  deriving DecidableEq, Repr

/-- What the record controller holds beside its registers (R495 to R502): system items that wait (0 the Sage snapshot, 1 the power-cycle
flag, 2 the epoch, 3 and 4 the counts of the rungs), the submission that waits (source key, destination, length), ring records written
since it waits, the deferral in force: since, by temperature, recorded; the temperature lies outside the range of R500; the system items
but the snapshot (2 to 4 as above, 5 the log head, 6 the last stored sequence number); what the latest write is, as REC_STAT.STATE gives it,
and the always-on time by which it is over. -/
structure Recs where
  items : List Nat := []
  sub   : Option (Nat × Nat × Nat) := none
  run   : Nat := 0
  defAt : Option Nat := none
  defT  : Bool := false
  rep   : Bool := false
  hot   : Bool := false
  sys   : SMap Copies := []
  kind  : Nat := 0
  endAt : Nat := 0
  deriving DecidableEq, Repr

/-- The life ledger (R504 to R507): consumed life of each unit in 1/1,000,000 reference second; exposure of the die, and its value when
each sector was last refreshed, in the same unit; seconds outside SLEEP and in SLEEP. -/
structure Life where
  life : SMap Nat := []
  expo : Nat := 0
  base : SMap Nat := []
  onS  : Nat := 0
  offS : Nat := 0
  deriving DecidableEq, Repr

/-- Sage beside its registers (R504 to R509): the ledger, the newer and the older snapshot in record MRAM, whether the newer is copy b, the highest valid reading of each unit in the
present second, correctable errors by sector since its last refresh, sectors found weak by a margin walk, since when the device has
been in SLEEP or on backup, refreshes are suspended, the always-on time by which the latest refresh is over. -/
structure Sage where
  now     : Life := {}
  snap    : Life := {}
  prev    : Life := {}
  snapB   : Bool := false
  top     : SMap (Option Int) := []
  ce      : SMap Nat := []
  weak    : List Nat := []
  sleepAt : Option Nat := none
  noSpare : Bool := false
  refTo   : Nat := 0
  /-- hours of operation, in seconds, at the latest margin walk; none: every sector is due for one -/
  walkAt  : Option Nat := none
  deriving DecidableEq, Repr

/-- What the host and debug ports hold (R529 to R545): the words or bytes that the latest host transaction returned; the JTAG
instruction in force and the value of its data register; the nonce of the latest unlock attempt; the flash command that is busy
(OP, target, source, words). -/
structure Ports where
  out   : List Nat := []
  ir    : Nat := 2
  dr    : Nat := 0
  nonce : Nat := 0
  flash : Option (Nat × Nat × Nat × Nat) := none
  /-- always-on time of the present bring-up step of the chipset link, or of the failure that ended a bring-up (R537) -/
  klAt  : Option Nat := none
  /-- the split map that the image requested at start-up, with the CRC of that image (R336) -/
  split : Option (Nat × Nat) := none
  /-- always-on time at which a reading of the seal switches began to strobe them (R384) -/
  strobeAt : Option Nat := none
  /-- a switch fault was found at reset; switches whose later change has been recorded, as a mask (R386) -/
  swBad  : Bool := false
  swSeen : Nat := 0
  deriving DecidableEq, Repr

/-- Why a command stops the model with a fault. No command of this block does: every row has an effect in the spec. -/
inductive Fault
  /-- raised by no meaning; safe -/
  | none
  deriving DecidableEq, Repr

/-- Why the model gives a command no meaning. -/
inductive Refusal
  /-- the command has no meaning yet; raised by its arm of the dispatch; safe (the model stops) -/
  | notModelled (mnemonic : String)
  deriving DecidableEq, Repr

/-- The state of the SL192. -/
structure State where
  /-- always-on time: cycles of 62.5 ns of the always-on clock, which every duration counts -/
  time     : Nat
  /-- device time (R29, R446) less always-on time; the first device time whose events have not been taken -/
  devOfs   : Int
  devNext  : Nat
  /-- the model's own counter of free values drawn -/
  free     : Nat
  /-- device state (R4), and whether start-up has completed since the latest reset -/
  dev      : DevState
  up       : Bool
  /-- the latest cycle in which a transition was taken, and the device state in which that cycle began (R5) -/
  devAt    : Option (Nat × DevState)
  /-- R34: the domains of RUN are on; the crystal reference is lost, and with it clusters, fabric and links (R44) -/
  wide     : Bool
  xtalLost : Bool
  /-- the always-on clock is lost, and with it all that it times (R31, R44) -/
  aonLost  : Bool
  /-- always-on time of the latest entry into RUN -/
  runAt    : Nat
  /-- register fields, by 256 × address + lowest bit; an unlisted field holds its reset value -/
  regs     : SMap Nat
  /-- R12: values staged and captured, by 2^24 × requester + address -/
  staged   : SMap (Option Nat)
  captured : SMap (Option Nat)
  /-- R15: the bits of W1C and RWH fields that hardware has set or written in the present cycle, as a mask, by the key of the field -/
  hwNow    : SMap Nat
  /-- memory words that are not 0, by the keys of `memKey`; programmed words of code flash; programmed words of OTP; keys of words with an error that their code
  cannot correct (R292) -/
  mem      : SMap Nat
  flash    : SMap Nat
  otp      : SMap Nat
  bad      : List Nat
  /-- channels -/
  gens     : SMap Gen
  prots    : SMap Prot
  prfs     : SMap Prf
  dies     : SMap Die
  seqrs    : SMap Seqr
  groups   : SMap Group
  bcast    : Bcast
  optics   : SMap Optic
  /-- always-on time since which some channel with OREQ = 1 has an expectation (R183) -/
  optSince : Option Nat
  rxs      : SMap Rx
  /-- R25: records on their way to the rings of K0 and K1, oldest first, by 64 × cluster + stream -/
  flight   : SMap (List (List Nat))
  trp      : Trp
  cores    : SMap Core
  engs     : SMap Eng
  twins    : SMap Twin
  inps     : SMap Inp
  ipairs   : SMap IPair
  fns      : SMap Fn
  sio      : Sio
  conns    : SMap Conn
  /-- frames sent, latest first; allow-list entries disabled (R442) -/
  sent     : List Sent
  entryOff : List Nat
  /-- allow-list entries that the image loaded (R440) -/
  entryIn  : List Nat
  clock    : Clock
  pair     : Pair
  clus     : SMap Clu
  pwr      : Pwr
  heat     : Heat
  recs     : Recs
  sage     : Sage
  ports    : Ports
  /-- always-on time of the latest entry into WATCH -/
  watchAt  : Nat
  coll     : Coll
  /-- commands that wait, first in first out -/
  pending  : List Instr
  deriving DecidableEq, Repr

/-- R16: the state after a device reset from power-on. -/
def State.reset : State where
  time     := 0
  devOfs   := 0
  devNext  := 0
  free     := 0
  dev      := .watch
  up       := false
  devAt    := none
  wide     := false
  xtalLost := false
  aonLost  := false
  runAt    := 0
  regs     := []
  staged   := []
  captured := []
  hwNow    := []
  mem      := []
  flash    := []
  otp      := []
  bad      := []
  gens     := []
  prots    := []
  prfs     := []
  dies     := []
  seqrs    := []
  groups   := []
  bcast    := {}
  optics   := []
  optSince := none
  rxs      := []
  flight   := []
  trp      := {}
  cores    := []
  engs     := []
  twins    := []
  inps     := []
  ipairs   := []
  fns      := []
  sio      := {}
  conns    := []
  sent     := []
  entryOff := []
  entryIn := []
  clock    := {}
  pair     := {}
  clus     := []
  pwr      := {}
  heat     := {}
  recs     := {}
  sage     := {}
  ports    := {}
  watchAt  := 0
  coll     := {}
  pending  := []

end Sys2Proof.Machine
end

