-- ==== Sys2Proof/Machine/Ops.lean ====
section
/-! DEFINITION. The named operations over registers, the internal state of channels, dies and groups, and the reporting of events to
the fault collector. -/
namespace Sys2Proof.Machine

/-- The outcome of a command. -/
abbrev Out := Host.Outcome State Fault Refusal

/-- Bits lo to lo + width - 1 of a number. -/
def bits (v lo width : Nat) : Nat := v / 2 ^ lo % 2 ^ width

/-- A number of `width` bits read as two's complement. -/
def sext (width v : Nat) : Int :=
  if v % 2 ^ width < 2 ^ (width - 1) then (v % 2 ^ width : Nat) else ((v % 2 ^ width : Nat) : Int) - 2 ^ width

/-- A whole number as `width` bits of two's complement. -/
def wrap (width : Nat) (v : Int) : Nat := (v % 2 ^ width).toNat

/-- The key of a field in the register file. -/
def Fld.key (f : Fld) : Nat := f.addr * 256 + f.lo

/-- The value of field `f` within the whole value `v` of its register. -/
def Fld.of (f : Fld) (v : Nat) : Nat := bits v f.lo f.width

namespace State

/-- The value that a register field holds, as many bits as the field has. -/
def rd (s : State) (f : Fld) : Nat := s.regs.get f.reset f.key % 2 ^ f.width

/-- A register field as a flag. -/
def on (s : State) (f : Fld) : Bool := s.rd f != 0

/-- A register field takes a value, cut to its width. -/
def wr (s : State) (f : Fld) (v : Nat) : State :=
  { s with regs := s.regs.set f.reset f.key (v % 2 ^ f.width) }

/-- A one-bit field takes a truth value. -/
def put (s : State) (f : Fld) (b : Bool) : State := s.wr f b.toNat

/-- An event count increments, saturating at its all-ones value (R8). -/
def bump (s : State) (f : Fld) : State := s.wr f (min (2 ^ f.width - 1) (s.rd f + 1))

/-- A bit of a field is set or cleared. -/
def putBit (s : State) (f : Fld) (i : Nat) (b : Bool) : State :=
  let v := s.rd f
  s.wr f (if b then (if v.testBit i then v else v + 2 ^ i) else (if v.testBit i then v - 2 ^ i else v))

/-- R15: hardware sets, or writes, the bits of a mask in field `f` in this cycle. -/
def mark (s : State) (f : Fld) (m : Nat) : State := { s with hwNow := s.hwNow.set 0 f.key (s.hwNow.get 0 f.key ||| m) }
/-- R15: the bits of field `f` that hardware has set or written in this cycle. -/
def marked (s : State) (f : Fld) : Nat := s.hwNow.get 0 f.key
/-- R15: hardware sets a one-bit W1C field, or a bit of a W1C field. -/
def raiseFlag (s : State) (f : Fld) : State := (s.put f true).mark f 1
def raiseBit (s : State) (f : Fld) (i : Nat) : State := (s.putBit f i true).mark f (2 ^ i)
/-- R15: hardware writes an RWH field. -/
def hwWrite (s : State) (f : Fld) (v : Nat) : State := (s.wr f v).mark f (2 ^ f.width - 1)
/-- R15: software clears the bits of `v` in a W1C field: hardware wins where it has set one in this cycle. -/
def softClear (s : State) (f : Fld) (v : Nat) : State :=
  let c := s.rd f &&& v
  s.wr f (s.rd f - (c - (c &&& s.marked f)))
/-- R15: software writes an RWH field: what hardware has written in this cycle stands. -/
def softWrite (s : State) (f : Fld) (v : Nat) : State := if s.marked f = 0 then s.wr f v else s

/-- A bit of a field. -/
def bit (s : State) (f : Fld) (i : Nat) : Bool := (s.rd f).testBit i

/-- Every field of a list takes its reset value. -/
def clear (s : State) (fs : List Fld) : State := fs.foldl (fun t f => t.wr f f.reset) s

def gen (s : State) (n : Nat) : Gen := s.gens.get {} n
def setGen (s : State) (n : Nat) (g : Gen) : State := { s with gens := s.gens.set {} n g }
def prot (s : State) (n : Nat) : Prot := s.prots.get {} n
def setProt (s : State) (n : Nat) (p : Prot) : State := { s with prots := s.prots.set {} n p }
def modProt (s : State) (n : Nat) (f : Prot → Prot) : State := s.setProt n (f (s.prot n))
def prf (s : State) (n : Nat) : Prf := s.prfs.get {} n
def setPrf (s : State) (n : Nat) (p : Prf) : State := { s with prfs := s.prfs.set {} n p }
def modPrf (s : State) (n : Nat) (f : Prf → Prf) : State := s.setPrf n (f (s.prf n))
def die (s : State) (d : Nat) : Die := s.dies.get {} d
def modDie (s : State) (d : Nat) (f : Die → Die) : State := { s with dies := s.dies.set {} d (f (s.die d)) }
def seqr (s : State) (q : Nat) : Seqr := s.seqrs.get {} q
def modSeqr (s : State) (q : Nat) (f : Seqr → Seqr) : State := { s with seqrs := s.seqrs.set {} q (f (s.seqr q)) }
def group (s : State) (g : Nat) : Group := s.groups.get {} g
def modGroup (s : State) (g : Nat) (f : Group → Group) : State := { s with groups := s.groups.set {} g (f (s.group g)) }
def optic (s : State) (i : Nat) : Optic := s.optics.get {} i
def modOptic (s : State) (i : Nat) (f : Optic → Optic) : State := { s with optics := s.optics.set {} i (f (s.optic i)) }

def rx (s : State) (r : Nat) : Rx := s.rxs.get {} r
def modRx (s : State) (r : Nat) (f : Rx → Rx) : State := { s with rxs := s.rxs.set {} r (f (s.rx r)) }

/-- R97, R200: a dead time is in progress. -/
def deadTime (g : Gen) : Bool := g.phase == .fall || g.phase == .rise || g.phase == .wait
/-- R200: the gates as the receiver of the channel sees them from now on, where they have changed. -/
def noteGates (now : Nat) (old new : Gen) : Gen :=
  let edge := new.hg != old.hg || new.lg != old.lg
  if edge || deadTime new != deadTime old then { new with trace := ⟨now, new.hg, deadTime new, edge⟩ :: new.trace } else new
/-- A dwell runs on channel n. -/
def dwelling (s : State) (n : Nat) : Bool := (s.rx (n / 8)).busy && (s.rx (n / 8)).slot == n % 8
/-- R200: a new state of the generator of channel n, with the gates noted where a dwell runs on it. -/
def seenGates (s : State) (n : Nat) (new : Gen) : Gen := if s.dwelling n then noteGates s.time (s.gen n) new else new
def modGen (s : State) (n : Nat) (f : Gen → Gen) : State := s.setGen n (s.seenGates n (f (s.gen n)))

def clu (s : State) (k : Nat) : Clu := s.clus.get {} k
def modClu (s : State) (k : Nat) (f : Clu → Clu) : State := { s with clus := s.clus.set {} k (f (s.clu k)) }

/-- R201: an expectation change, a trip, a latch, a change of FLASH phase or an adjacency test on channel n during its dwell flags
DISRUPT. -/
def disrupt (s : State) (n : Nat) : State :=
  if s.dwelling n then s.modRx (n / 8) (fun x => { x with disrupt := true, stopAt := some (x.stopAt.getD s.time) }) else s

/-- R34, R468, R482: only the always-on domain works: in SLEEP, on backup, and while the device holds itself in reset. -/
def allOff (s : State) : Bool := s.dev == .sleep || s.pwr.doneAt.isSome || !s.pwr.released
/-- R34, R44, R467, R482: the clusters, the fabric and the links are off: in SLEEP, on backup, in reset, once the crystal reference is lost,
and without VCORE. -/
def fabricOff (s : State) : Bool := s.allOff || s.xtalLost || !s.on PWR_SUPST_VCORE
/-- R31, R44: what the always-on clock times in the Safety Net happens. -/
def netTimed (s : State) : Bool := !s.allOff && !s.aonLost
/-- R468: the supplies that hold the device in reset are good. -/
def suppliesGood (s : State) : Bool := s.on PWR_SUPST_VCORE && s.on PWR_SUPST_VAON && s.on PWR_SUPST_VANA && s.on PWR_SUPST_VIO
/-- R34: channel die d is powered: VANA, VDRV and its LBUS are good. -/
def diePowered (s : State) (d : Nat) : Bool :=
  !s.allOff && s.on PWR_SUPST_VANA && !(s.die d).vdrvHold && !(s.die d).lbusHold

def modRecs (s : State) (f : Recs → Recs) : State := { s with recs := f s.recs }
/-- R496: a system item waits for its write. -/
def queueItem (s : State) (i : Nat) : State := s.modRecs fun r => { r with items := if r.items.contains i then r.items else r.items ++ [i] }

/-- A fresh free value's number, and the counter advanced. -/
def fresh (s : State) : State := { s with free := s.free + 1 }

/-- An operation on each number of a list, in order. -/
def each (s : State) (l : List Nat) (f : State → Nat → State) : State := l.foldl f s

end State

/-- The channels of die d. -/
def dieChannels (d : Nat) : List Nat := (List.range 48).map (48 * d + ·)
/-- All channels. -/
def channels : List Nat := List.range 192

/-! ### Device time (R29, R446) -/

/-- Device time, without end. -/
def State.devCount (s : State) : Nat := ((s.time : Int) + s.devOfs).toNat
/-- R29: device time: 48 bits of 62.5 ns ticks. -/
def State.devTime (s : State) : Nat := s.devCount % 2 ^ 48
/-- R446: device time is at a value r mod n whose events have not been taken, or has stepped over one. -/
def State.dueOn (s : State) (n r : Nat) : Bool :=
  let k := (s.devTime + n - r % n) % n
  decide (k ≤ s.devTime) && decide (s.devNext + k ≤ s.devCount)
/-- R446: device time steps by an offset; where it steps back, the events taken are not taken again. -/
def State.stepDevice (s : State) (ofs : Int) : State :=
  { s with devOfs := max (-(s.time : Int)) (s.devOfs + ofs), devNext := if ofs < 0 then max s.devNext (s.devCount + 1) else s.devNext }

/-! ### Events (R395, R408, R409) -/

/-- R408: whether a path's queue has an entry for an event of base severity `sev`: 16 entries, four of them for S3 and S4. -/
def Coll.room (c : Coll) (path sev : Nat) : Bool :=
  let q := c.queue.filter (·.path == path)
  decide (q.length < 16) && (decide (3 ≤ sev) || decide ((q.filter (fun e => decide (e.sev < 3))).length < 12))

/-- An event is put on its path (R408), or dropped and counted (R409). -/
def State.report (s : State) (cls src sev path : Nat) (data : List Nat := []) : State :=
  let e : Ev := ⟨s.coll.nextId, cls, src, sev, s.time, s.devTime, data, path⟩
  { s with coll :=
      if s.coll.room path sev then { s.coll with queue := s.coll.queue ++ [e], nextId := s.coll.nextId + 1 }
      else { s.coll with dropped := s.coll.dropped ++ [e], nextId := s.coll.nextId + 1 } }

/-- The number of the event reported last. -/
def State.lastEv (s : State) : Nat := s.coll.nextId - 1

/-- Class codes (R395). -/
def clChan : Nat := 0
def clProof : Nat := 1
def clHarn : Nat := 2
def clEng : Nat := 3
def clMem : Nat := 4
def clClk : Nat := 5
def clPwr : Nat := 6
def clTemp : Nat := 7
def clSin : Nat := 8
def clLink : Nat := 9
def clCfg : Nat := 10
def clFc : Nat := 11

/-- R570: the source ID of a flag on a write at word address `a`: `kind` 0 a reserved field written with 1, 1 an RWL field changed
after seal, 2 any other flag. -/
def flagSrc (a kind : Nat) : Nat :=
  if a < 0xD00000 then
    let d := (a - 0xC00000) / 0x40000
    let off := (a - 0xC00000) % 0x40000
    if off < 0xC000 then 16 * (48 * d + off / 0x400) + 9 else 0xC00 + 16 * d + 9
  else 0xF00 + 16 * kind + (a - 0xD00000) / 0x10000

/-- R408: the path of a flag at word address `a`. -/
def flagPath (a : Nat) : Nat := if a < 0xD00000 then (a - 0xC00000) / 0x40000 else 13

/-- R570: the event data of an event at a word address. -/
def addrData (a : Nat) : List Nat := [a % 4096, a / 4096]
/-- The word address that a whole write of a register reaches last. -/
def Reg.last (reg : Reg) : Nat := reg.addr + reg.words - 1
/-- A flag on a write is recorded under CL_CFG (R570); the event data hold the word address. -/
def State.flag (s : State) (a sev kind : Nat) : State := s.report clCfg (flagSrc a kind) sev (flagPath a) (addrData a)

/-- R96: a refusal under the timing rules; the event data hold the channel number and the register offset. -/
def State.timingRefusal (s : State) (n off : Nat) : State :=
  s.report clCfg (0xC00 + 16 * (n / 48) + 3) 1 (n / 48) [n, off]

/-! ### Sealing and device state -/

/-- Whether the safety configuration is sealed (R14): the image has been accepted, and the device is not in MAINT. -/
def State.sealed (s : State) : Bool := s.rd SEAL_STAT_STATE == 1 && s.dev != .maint

/-- A cluster is split into independent cores (R336). -/
def State.split (s : State) (k : Nat) : Bool := decide (2 ≤ k) && (s.rd PWR_SPLIT_MAP).testBit (k - 2)

/-- R77, R339, R340: engine e may own channel n: any channel in a lockstep cluster; in a split cluster, and once debug has broken its
lockstep, those with a HOLD safe state. -/
def State.mayOwn (s : State) (n e : Nat) : Bool := (!s.split (e / 16) && !s.on (PWR_ENGST_BROKEN e)) || s.rd (SEAL_SS_STATE n) == 3

/-- What MIR_STAT.PSTATE shows (R465); the register itself holds whether the device is paired. -/
def State.pairState (s : State) : Nat :=
  if s.rd MIR_STAT_PSTATE = 0 then 0
  else if s.dev = .rejoin then (if s.pair.instant.isSome then 6 else if s.on MIR_XSTAT_DONE then 5 else 4)
  else if s.pair.solo then (if s.pair.pstate = 5 ∧ s.on MIR_STAT_LINK then 7 else 3)
  else if s.on MIR_STAT_LINK then 2 else 1

/-- R5: the order in which simultaneous transitions are taken. -/
def DevState.rank : DevState → Nat
  | .safe => 0
  | .maint => 1
  | .rejoin => 2
  | .watch => 3
  | .run => 4
  | .sleep => 5

/-- R5: the device state in which the present cycle began. -/
def State.began (s : State) : DevState :=
  match s.devAt with
  | some (c, p) => if c = s.time then p else s.dev
  | none => s.dev

/-- Entry into a device state, with the domains of R34; into WATCH its time is noted; into RUN the time of R417 starts, and WAITRUN of every function (R359). -/
def State.enterState (s : State) (t : DevState) : State :=
  let u := { s with
    dev := t, devAt := some (s.time, s.began), watchAt := if t = .watch ∧ s.dev ≠ .watch then s.time else s.watchAt,
    wide := match t with | .run | .maint => true | .watch => false | _ => s.wide }
  if t = .run ∧ s.dev ≠ .run then
    ({ u with runAt := s.time, coll := { s.coll with kickAt := s.time } }).each (List.range 24) fun u f => u.put (SN_FNST_WAITRUN f) true
  else u

/-- R5: of two requests in one cycle the one that is not taken is recorded. -/
def State.discarded (s : State) : State := s.report clFc 0x010 0 13
/-- R5: a request for SLEEP, the last in the order, is discarded by any other request of its cycle. -/
def State.dropSleep (s : State) : State :=
  if s.pwr.sleepDue.isSome then ({ s with pwr := { s.pwr with sleepDue := none } }).discarded else s

/-- R4, R5, R6: a transition is requested. SAFE is left by a device reset only; of two requests in one cycle the one earlier in R5's
order is taken, and the other is recorded. -/
def State.transition (s : State) (t : DevState) : State :=
  let s := s.dropSleep
  if s.began = s.dev ∨ s.dev = t then (if s.dev = .safe then s else s.enterState t)
  else if s.dev ≠ .safe ∧ t.rank < s.dev.rank then s.discarded.enterState t
  else s.discarded

/-- R4, R5: a cluster start asks for RUN where the device is in WATCH, or was when this cycle began. -/
def State.requestRun (s : State) : State := if (s.began = .watch ∨ s.dev = .watch) ∧ s.dev ≠ .run then s.transition .run else s

/-- R32, R36, R475: a start request for cluster k, with the bit of its cause and its frequency. A running cluster keeps its
frequency, and an entry into IDLE that it has been asked for is given up; a lost cluster starts no more (R334); a request whose RUN this cycle's
SAFE or WATCH discards starts nothing (R5); two requests of one
cycle start it once, at the higher frequency, with both causes. -/
def State.requestStart (s : State) (k cause freq : Nat) : State :=
  if s.fabricOff ∨ s.bit PWR_CLUST_LOST k then s
  else if (s.dev = .safe ∧ k ≠ s.rd FC_CFG_FHCLU) ∨ (s.dev = .watch ∧ s.began ≠ .watch) then s.requestRun
  else if s.rd (PWR_CST_STATE k) < 2 then
    ((((s.wr (PWR_CST_STATE k) 2).wr (PWR_CST_FREQA k) freq).wr (PWR_CST_CAUSE k) (2 ^ cause)).modClu k fun c =>
      { c with startAt := s.time, idleReq := false }).requestRun
  else if s.rd (PWR_CST_STATE k) = 2 ∧ (s.clu k).startAt = s.time then
    (s.putBit (PWR_CST_CAUSE k) cause true).wr (PWR_CST_FREQA k) (min freq (s.rd (PWR_CST_FREQA k)))
  else s.modClu k fun c => { c with idleReq := false }

/-- The frequency at which a cluster starts (R475). -/
def State.startFreq (s : State) (k : Nat) : Nat := if s.rd (PWR_CLK_FREQ k) ≤ 4 then s.rd (PWR_CLK_FREQ k) else 3

/-- R36: a routed source starts the clusters that its PWR_WAKERT names. -/
def State.startRouted (s : State) (src cause : Nat) : State :=
  s.each (List.range 8) fun t k => if t.bit (PWR_WAKERT_CLU src) k then t.requestStart k cause (t.startFreq k) else t

/-- The core number of a requester that is a core. -/
def reqCore : Requester → Option Nat
  | .core q => some q.val
  | _ => none

end Sys2Proof.Machine
end

