-- ==== Sys2Proof/Machine/Mem.lean ====
section
/-! DEFINITION. The memories (R38, R41, R292): their keys, the reading and writing of one word with its error check, the interrupt lines
(R288, R289), and the start and state of clusters and cores. -/
namespace Sys2Proof.Machine

/-! ### Address ranges (R38) -/

/-- R38: the ranges of the address map. -/
inductive Region
  | engine | cluster | global | flash | mram | chan | dev | mirror | debug | reserved
  deriving DecidableEq, Repr

/-- R38: the range of a word address. -/
def region (a : Nat) : Region :=
  if a < 0x008000 then .engine
  else if a < 0x080000 then .reserved
  else if a < 0x0E0000 then .cluster
  else if a < 0x100000 then .reserved
  else if a < 0x300000 then .global
  else if a < 0x400000 then .reserved
  else if a < 0x800000 then .flash
  else if a < 0x900000 then .mram
  else if a < 0xC00000 then .reserved
  else if a < 0xD00000 then .chan
  else if a < 0xE00000 then .dev
  else if a < 0xF00000 then .mirror
  else if a < 0x1000000 then .debug
  else .reserved

/-- R41: the key of word `a` of the memory of cluster k. -/
def clusterKey (k a : Nat) : Nat := (k + 1) * 0x1000000 + a
/-- R292: the key of word `a` of the engine-local memory of core q. -/
def localKey (q a : Nat) : Nat := (q + 16) * 0x1000000 + a
/-- R38, R41: the key of word `a` as cluster k reaches it: its own cluster memory, else the shared memory at `a`. -/
def memKey (k a : Nat) : Nat := if region a = .cluster then clusterKey k a else a

/-- The cluster of a core, and the engine. -/
def coreCluster (q : Nat) : Nat := q / 32
def coreEngine (q : Nat) : Nat := q / 2

/-- R292: the key of the word, or of the group of four words of code flash, that one code protects. -/
def codeKey (key : Nat) : Nat := if region key = .flash then key / 4 * 4 else key

namespace State

/-! ### Words -/

/-- R34: a memory that the device state has off or in retention: no access reaches it. -/
def memOff (s : State) (a : Nat) : Bool := !s.wide && (region a == .global || region a == .flash || region a == .mram)

/-- The word at a key. Code flash holds what was programmed, else what an erased word reads as; every other word that nothing has
written reads 0. -/
def peek (s : State) (key : Nat) : Nat :=
  if region key = .flash then s.flash.get Config.erasedWord.toNat key else s.mem.get 0 key
/-- A word takes a value; an error that stood there is gone (R292). -/
def poke (s : State) (key v : Nat) : State :=
  { s with mem := s.mem.set 0 key (v % 4096), bad := s.bad.filter (· != key) }
/-- A group word of code flash is programmed (R535). -/
def pokeFlash (s : State) (key v : Nat) : State :=
  { s with flash := (s.flash.erase key).insert key (v % 4096), bad := s.bad.filter (· != codeKey key) }
/-- R292: the word holds an error that its code cannot correct; code flash has one code for each group of four words. -/
def isBad (s : State) (key : Nat) : Bool := s.bad.contains (codeKey key)

/-- R294: the source ID of a memory's errors: cluster memory by key, global memory by bank, code flash, record MRAM. -/
def memSrc (key : Nat) : Nat :=
  if 0x10000000 ≤ key then key / 0x1000000 - 16
  else if 0x1000000 ≤ key then 0x100 + (key / 0x1000000 - 1)
  else match region key with
    | .flash => 0x120
    | .mram => 0x121
    | _ => 0x110 + key % 16
/-- R408: the path of a memory's errors. -/
def memPath (key : Nat) : Nat :=
  if 0x10000000 ≤ key then 4 + (key / 0x1000000 - 16) / 32 else if 0x1000000 ≤ key then 4 + (key / 0x1000000 - 1) else 13
/-- R292, R294: an error of a word is reported; the spec gives the mirror window no source ID. -/
def errorEvent (s : State) (key sev : Nat) : State :=
  if region key = .mirror then (s.fresh).report clMem (Config.freeValue s.free).toNat sev (memPath key)
  else s.report clMem (memSrc key) sev (memPath key)
/-- R292: an uncorrectable error met by a read. -/
def eccEvent (s : State) (key : Nat) : State := s.errorEvent key 2
/-- R292: a word takes an error that its code cannot correct. -/
def spoil (s : State) (key : Nat) : State := { s with bad := if s.isBad key then s.bad else codeKey key :: s.bad }

/-! ### Cores, engines, twins -/

def core (s : State) (q : Nat) : Core := s.cores.get {} q
def setCore (s : State) (q : Nat) (c : Core) : State := { s with cores := s.cores.set {} q c }
def modCore (s : State) (q : Nat) (f : Core → Core) : State := s.setCore q (f (s.core q))
def eng (s : State) (e : Nat) : Eng := s.engs.get {} e
def modEng (s : State) (e : Nat) (f : Eng → Eng) : State := { s with engs := s.engs.set {} e (f (s.eng e)) }
def twin (s : State) (t : Nat) : Twin := s.twins.get {} t
def modTwin (s : State) (t : Nat) (f : Twin → Twin) : State := { s with twins := s.twins.set {} t (f (s.twin t)) }

/-- The core that stands for engine e: its number in a split cluster is the core's own; a lockstep engine stands at core .a. -/
def coreOf (s : State) (e c : Nat) : Nat := if s.split (e / 16) then 2 * e + c else 2 * e
/-- The cores that cluster k executes on (R337). -/
def clusterCores (s : State) (k : Nat) : List Nat :=
  if s.split k then (List.range 32).map (32 * k + ·) else (List.range 16).map (32 * k + 2 * ·)
/-- A core number that names no core: the odd number of a lockstep engine. -/
def noCore (s : State) (q : Nat) : Bool := !s.split (q / 32) && q % 2 == 1

/-- R292: a write of engine-local memory: in a lockstep engine each core keeps its own copy, and both take the word. -/
def pokeLocal (s : State) (q a v : Nat) : State :=
  if s.split (q / 32) then s.poke (localKey q a) v else (s.poke (localKey (2 * (q / 2)) a) v).poke (localKey (2 * (q / 2) + 1) a) v
/-- R292: the copy of word `a` of engine-local memory that holds an error which its code cannot correct, as core q reads it. -/
def badLocal (s : State) (q a : Nat) : Option Nat :=
  (if s.split (q / 32) then [localKey q a] else [localKey (2 * (q / 2)) a, localKey (2 * (q / 2) + 1) a]).find? s.isBad

/-- R267: the core executes with SV privilege: PS.MODE = 1, or the shadow of a MODE change. -/
def coreSv (s : State) (q : Nat) : Bool := (s.core q).ps.testBit 8 || (s.core q).shadow
/-- The requester is a core in SV mode. -/
def svMode (s : State) (r : Requester) : Bool := match r with | .core q => s.coreSv q | _ => false

/-- R34: cluster k keeps nothing: its memory and the engine-local memories of its cores are gone. -/
def dropCluster (s : State) (k : Nat) : State :=
  let here := fun (key : Nat) => let h := key / 0x1000000; h == k + 1 || (decide (16 ≤ h) && (h - 16) / 32 == k)
  { s with mem := s.mem.filter fun e => !here e.1
           bad := s.bad.filter fun b => !here b }
/-- Cluster k runs: its clock is on. -/
def cluRuns (s : State) (k : Nat) : Bool := s.rd (PWR_CST_STATE k) == 3
/-- R326: the role in force: 0b11 is FREE. -/
def role (s : State) (e : Nat) : Nat := if s.rd (PWR_ENGMAP_ROLE e) = 3 then 0 else s.rd (PWR_ENGMAP_ROLE e)
/-- PWR_ENGST.STATE (R330, R339, R343): a SPARE that lockstep still guards is in STANDBY, whether or not its cluster runs; another engine of no
special state is OFF or in RUN with its cluster. -/
def engState (s : State) (e : Nat) : Nat :=
  let st := s.rd (PWR_ENGST_STATE e)
  if 2 < st then st
  else if s.role e = 2 ∧ ¬s.split (e / 16) ∧ ¬s.on (PWR_ENGST_BROKEN e) then 2
  else if s.cluRuns (e / 16) then 1
  else 0

/-! ### Interrupt lines (R288, R289) -/

/-- R288: line l of core q is set. -/
def raise (s : State) (q l : Nat) : State := if s.noCore q then s else s.raiseBit (PWR_IPEND_LINES q) l
/-- R288: the PAIR line of the core that the PARTNER entry of the allow-list routes frames to. -/
def raisePair (s : State) : State :=
  match (List.range 32).find? fun e => s.on (KSF_ALLOW_PARTNER e) with
  | some e => if s.on (KSF_ALLOW_ITEN e) then s.raise (s.coreOf (s.rd (KSF_ALLOW_ITENG e)) (s.rd (KSF_ALLOW_ITCORE e))) 5 else s
  | none => s
/-- R288: the SYNC line of every core (line 4). -/
def raiseAll (s : State) (l : Nat) : State := s.each (List.range 256) fun t q => t.raise q l
/-- R289: the lines that are pending and enabled. -/
def linesUp (s : State) (q : Nat) : Nat := s.rd (PWR_IPEND_LINES q) &&& s.rd (PWR_IEN_LINES q)

end State
end Sys2Proof.Machine
end

