-- ==== Sys2Proof/Machine/Frames.lean ====
section
/-! DEFINITION. Kaurn Safe Frames (R423 to R427): the check value, the frame words, and sending a frame. -/
namespace Sys2Proof.Machine

/-- R276: one bit of the check value. -/
def crcBit (crc : Nat) (b : Bool) : Nat :=
  let f := xor (crc.testBit 31) b
  let c := crc * 2 % 2 ^ 32
  if f then Nat.xor c 0x741B8CD7 else c
/-- R276: one word is fed, most significant bit first. -/
def crcWord (crc w : Nat) : Nat := ((List.range 12).reverse).foldl (fun c b => crcBit c (w.testBit b)) crc
/-- R276, R425: the KCRC value over a list of words from a seed. -/
def kcrc (seed : Nat) (l : List Nat) : Nat := l.foldl crcWord seed
/-- A 32-bit check value as the three words C0 to C2. -/
def crcWords (c : Nat) : List Nat := [c % 4096, c / 4096 % 4096, c / 0x1000000]

/-- R423: the header words. -/
def ksfHeader (id seq texp len : Nat) : List Nat :=
  [id % 4096, id / 4096 % 4096, id / 0x1000000 + 256 * (seq % 16), seq / 16, texp, len]
/-- R423, R425: the words of a frame. -/
def ksfFrame (id seq texp : Nat) (payload : List Nat) : List Nat :=
  let l := ksfHeader id seq texp payload.length ++ payload
  l ++ crcWords (kcrc id l)
/-- R424: frame words as bytes: two words as three bytes, the last word of an odd count as two. -/
def packWords : List Nat → List Nat
  | w :: x :: r => w / 16 :: (w % 16 * 16 + x / 256) :: x % 256 :: packWords r
  | [w] => [w / 16, w % 16 * 16]
  | [] => []
/-- R424: the frame words that bytes hold. -/
def unpackWords : List Byte → List Word
  | a :: b :: c :: r => .ofNat 12 (16 * a.toNat + b.toNat / 16) :: .ofNat 12 (b.toNat % 16 * 256 + c.toNat) :: unpackWords r
  | [a, b] => [.ofNat 12 (16 * a.toNat + b.toNat / 16)]
  | _ => []
/-- R424: the bytes of a frame with a payload of n words. -/
def frameBytes (n : Nat) : Nat := 3 * ((n + 9) / 2) + 2 * ((n + 9) % 2)
/-- R429: a CAN FD frame is padded with bytes of 0 to the next length of a data field. -/
def padField (l : List Nat) : List Nat :=
  let n := l.length
  l ++ List.replicate ((([8, 12, 16, 20, 24, 32, 48].find? (n ≤ ·)).getD 64) - n) 0
/-- A payload of a length: the words given, then 0. -/
def padTo (n : Nat) (l : List Nat) : List Nat := (l ++ List.replicate n 0).take n

namespace State

def conn (s : State) (c : Nat) : Conn := s.conns.get {} c
def modConn (s : State) (c : Nat) (f : Conn → Conn) : State := { s with conns := s.conns.set {} c (f (s.conn c)) }
/-- Connection c is OPEN (R432). -/
def openConn (s : State) (c : Nat) : Bool := s.rd (KSF_CONN_STATE c) == 2
/-- The allow-list entry of a connection. -/
def connEntry (s : State) (c : Nat) : Nat := s.rd (KSF_CONN_ENTRY c)

/-- R34, R44: the transport is on: the mirror link and the transports of entries with WKEEP = 1 in WATCH, every transport where the
domains of RUN are on. -/
def trPowered (s : State) (tr : Nat) : Bool :=
  !s.fabricOff && (s.wide || tr == 7 || (List.range 32).any fun e => s.on (KSF_ALLOW_WKEEP e) && s.rd (KSF_ALLOW_TR e) == tr)
/-- R428, R429, R466: the transport carries frames out: its controller is on the bus, not listening only, and KSF is enabled on it. -/
def trUp (s : State) (tr : Nat) : Bool :=
  s.trPowered tr &&
  if tr < 4 then s.bit KSF_CTL_CANEN tr && s.on (KSF_CAN_EN tr) && !s.on (KSF_CAN_BOFF tr) && !s.on (KSF_CAN_LOM tr)
  else if tr < 6 then s.bit KSF_CTL_ETHEN (tr - 4) && s.on (KSF_ETH_LINK (tr - 4))
  else if tr = 6 then s.on KSF_CTL_KLEN && s.rd HIF_KLSTAT_STATE == 3
  else s.on MIR_STAT_LINK

/-- R429, R430: where a frame of entry e goes: on CAN FD to the identifier after the entry's, on Ethernet to the partner's address. -/
def linkAddr (s : State) (e : Nat) (peer : Option Nat) : Option Nat :=
  let tr := s.rd (KSF_ALLOW_TR e)
  if tr < 4 then some ((s.rd (KSF_ALLOW_CANID e) + 1) % 2 ^ 29) else if tr < 6 then peer else none
/-- R427: both checkers form the check value that the words of a frame end in. -/
def checkersAgree (s : State) (words : List Nat) : Bool :=
  crcWords (Config.netCheck s.time (words.take (words.length - 3))).toNat == words.drop (words.length - 3)
/-- R424, R428 to R430: a frame of entry e as it leaves on its transport. -/
def sentFrame (s : State) (e : Nat) (peer : Option Nat) (words : List Nat) : Sent :=
  let tr := s.rd (KSF_ALLOW_TR e)
  let eth := decide (4 ≤ tr) && decide (tr < 6)
  let l := packWords words
  { tr := tr, dest := s.linkAddr e peer, port := if eth then some (s.rd KSF_UDPPORT_PORT) else none,
    tag := if eth && s.on (KSF_ETH_VEN (tr - 4)) then some (s.rd (KSF_ETH_PCP (tr - 4)), s.rd (KSF_ETH_VID (tr - 4))) else none,
    bytes := if tr < 4 then padField l else l }
/-- R427: the checkers disagree on a frame, which is discarded. -/
def checkersDisagree (s : State) : State := (s.raiseFlag KSF_STAT_CHKDIS).report clLink 0x0E2 2 13
/-- R424, R427, R429: a frame of entry e leaves on its transport, where that is up and both checkers form its check value. -/
def transmit (s : State) (e : Nat) (peer : Option Nat) (words : List Nat) : State :=
  if ¬s.trUp (s.rd (KSF_ALLOW_TR e)) then s
  else if s.checkersAgree words then { s with sent := s.sentFrame e peer words :: s.sent }
  else s.checkersDisagree

/-- R437: a frame with a payload leaves on connection c with its next sequence number. -/
def sendOn (s : State) (c : Nat) (payload : List Nat) : State :=
  let q := s.rd (KSF_CONN_TXSEQ c)
  let e := s.connEntry c
  (s.transmit e (s.conn c).peer (ksfFrame (s.rd KSF_OWNID_ID) q (s.rd (KSF_ALLOW_TEXP e)) payload)).wr (KSF_CONN_TXSEQ c) (q + 1)
/-- A frame of the entry's length. -/
def sendKind (s : State) (c : Nat) (l : List Nat) : State := s.sendOn c (padTo (s.rd (KSF_ALLOW_LEN (s.connEntry c))) l)

/-- R376, R426: the stop request of function f goes to every STOP entry. -/
def stopRequest (s : State) (f : Nat) : State :=
  s.each (List.range 64) fun t c =>
    if t.openConn c ∧ t.on (KSF_ALLOW_STOP (t.connEntry c)) then t.sendKind c [7, f, t.rd (SN_FNCFG_T1 f)] else t

end State
end Sys2Proof.Machine
end

