-- ==== Sys2Proof/Machine/Channel.lean ====
section
/-! DEFINITION. The power stage of a channel (spec/02_channel_stage.md) and its applied values (spec/04_aspects_and_patterns.md):
what the generator emits, the lease, the safe-state latch, the protection, the hand-over, the expectation. -/
namespace Sys2Proof.Machine
namespace State

/-! ### Topology, full scale, pairing -/

/-- R48: 0 none, 1 HS, 2 BK, 3 HB. -/
def topo (s : State) (n : Nat) : Nat := s.rd (CH_CFG_TOPO n)
/-- R102: N = 2^RES − 1 of the resolution in force. -/
def dimN (s : State) (n : Nat) : Nat := 2 ^ (8 + (s.gen n).resF) - 1
/-- R87: FULL. -/
def full (s : State) (n : Nat) : Nat := if s.topo n = 2 then 4095 else s.dimN n
/-- R49: the even channel that leads channel n in an H-bridge, n itself outside one. -/
def head (s : State) (n : Nat) : Nat :=
  if n % 2 = 1 ∧ s.rd (CH_CFG_HBPAIR (n - 1)) = 1 ∧ s.topo (n - 1) = 3 ∧ s.topo n = 3 then n - 1 else n
/-- Whether n is the second channel of an H-bridge. -/
def follows (s : State) (n : Nat) : Bool := s.head n != n
/-- Whether n leads an H-bridge. -/
def leads (s : State) (n : Nat) : Bool := decide (n % 2 = 0) && s.head (n + 1) == n

/-! ### Rank 1 (R28) -/

/-- R65: TRIPPED: a latched verdict stands. -/
def tripped (s : State) (n : Nat) : Bool := s.on (CH_FLT_DSAT n) || s.on (CH_FLT_RSHORT n) || s.on (CH_FLT_OC n)
/-- All gates are held off by rank 1: a latched trip, over-temperature, VDRV, LBUS, the die's over-temperature, VCORE (R470), a hand-over
or a power cycle (R482, R521). -/
def heldOff (s : State) (n : Nat) : Bool :=
  s.pwr.gatesOff || !s.on PWR_SUPST_VCORE || s.tripped n || (s.prot n).otHold || (s.die (n / 48)).vdrvHold || (s.die (n / 48)).lbusHold || (s.die (n / 48)).otHold ||
    !s.bit PWR_SUPST_VDRVOK (n / 48) || !s.bit PWR_SUPST_LBUSOK (n / 48)
/-- HG may be on: no rank-1 source holds it. -/
def hgFree (s : State) (n : Nat) : Bool := !s.heldOff n && !(s.prot n).bstHold && !(s.gen n).limThis
/-- Both gates of the channel turn off; until a dead time has passed neither rises (R104). -/
def gatesOff (s : State) (n : Nat) : State :=
  s.modGen n fun g => { g with hg := false, lg := false, phase := if g.phase = .idle then .idle else .wait }
/-- The generator of channel n is enabled: a topology, and EN of the channel or of the one that leads it (R49); after a channel reset it
stays off (R94). -/
def powered (s : State) (n : Nat) : Bool :=
  s.topo n != 0 && !(s.prot n).resetOff && (s.on (CH_CFG_EN n) || (s.follows n && s.on (CH_CFG_EN (n - 1))))

/-! ### Safe state (R81 to R84) -/

/-- The safe-state latch that governs channel n. -/
def latched (s : State) (n : Nat) : Bool := s.on (CH_SSTAT_LATCH n) || s.on (CH_SSTAT_LATCH (s.head n))
/-- R82: the sealed safe state: 0 DARK, 1 LIT, 2 FLASH, 3 HOLD. -/
def safeState (s : State) (n : Nat) : Nat := s.rd (SEAL_SS_STATE (s.head n))
/-- R82: the on-phase of FLASH. -/
def flashOn (s : State) : Bool := decide (s.devTime % 10666667 < 5333333)
/-- R82: the safe state turns all gates off: DARK, and FLASH in its off-phase. -/
def dark (s : State) (n : Nat) : Bool := s.latched n && (s.safeState n == 0 || (s.safeState n == 2 && !s.flashOn))
/-- R571: the sealed period is in force. -/
def sealedPer (s : State) (n : Nat) : Bool := s.latched n && s.safeState n != 3
/-- R454: twice the value while the channel doubles, clamped to FULL. -/
def doubled (s : State) (n v : Nat) : Nat := if s.on (MIR_SPLIT_DBL n) then min (s.full n) (2 * v) else v
/-- The value of the safe-state generator in the present phase (R82, R454): in HOLD the value held, doubled or halved where DBL has changed
since. -/
def safeValue (s : State) (n : Nat) : Nat :=
  let p := s.prot n
  match s.safeState n with
  | 1 => s.doubled n (s.rd (SEAL_SS_VALUE (s.head n)))
  | 2 => if s.flashOn then s.doubled n (s.rd (SEAL_SS_VALUE (s.head n))) else 0
  | 3 => if p.heldDbl then (if s.on (MIR_SPLIT_DBL n) then p.held else (p.held + 1) / 2) else s.doubled n p.held
  | _ => 0
/-- R454: the value of the safe state before a doubling that is still to be made. -/
def safeSingle (s : State) (n : Nat) : Nat :=
  match s.safeState n with
  | 1 | 2 => s.rd (SEAL_SS_VALUE (s.head n))
  | 3 => if (s.prot n).heldDbl then 0 else (s.prot n).held
  | _ => 0
/-- R454: a clamp of a doubled value is flagged and recorded. -/
def clampDouble (s : State) (n x : Nat) : State :=
  if s.on (MIR_SPLIT_DBL n) ∧ s.full n < 2 * x then (s.raiseFlag (CH_SHST_CLAMP n)).report clLink 0x127 0 13 else s
/-- R454: the doubled value of the safe state of channel n, where it is latched. -/
def clampSafe (s : State) (n : Nat) : State := if s.latched n then s.clampDouble n (s.safeSingle n) else s
/-- R571: the period in force: the sealed one in DARK, LIT and FLASH. -/
def perF (s : State) (n : Nat) : Nat :=
  if s.sealedPer n then s.rd (SEAL_SS_PER (s.head n)) else (s.gen n).perF
/-- R50, R98: whether LG conducts in the low interval of a period with on-time `on`; in DARK only the bleed FET does. -/
def lgConducts (s : State) (n on : Nat) : Bool :=
  match s.topo n with
  | 1 => s.on (CH_CFG_LGEN n)
  | 2 => on != 0
  | 3 => !s.dark n
  | _ => false

/-! ### Values (R28, R87, R103) -/

/-- The value that the generator is commanded to, before derating: safe state, then the applied value. -/
def genValue (s : State) (n : Nat) : Nat :=
  if s.latched n then s.safeValue n
  else if s.on (CH_STAT_RHOLD n) then (s.prot n).rholdVal
  else s.rd (CH_APPL_VALUE n)
/-- R87: the derating ceiling. -/
def ceiling (s : State) (n : Nat) : Nat := s.rd (CH_DFAC_DFAC n) * s.full n / 4095
/-- R87: the value after derating. -/
def derate (s : State) (n v : Nat) : Nat := min v (s.ceiling n)

/-- R147: the value that the bound track gives. -/
def trackValue (s : State) (n : Nat) : Nat :=
  let q := s.rd (CH_CARB_SEQ n)
  let l := if q = 3 then 0 else s.rd (CAR_TRK_VALUE (n / 48) q (s.rd (CH_CARB_TRK n)))
  l * s.rd (CH_CARS_VALUE n) / 4095 * s.full n / 4095

/-- R459: a split channel in REJOIN. -/
def rejoining (s : State) (n : Nat) : Bool := s.dev == .rejoin && s.on (MIR_SPLIT_EN n)

/-- The value of the channel's rank-3 controller before the clamps (R130, R147); 0 for a split channel in REJOIN (R459). -/
def ctrlValue (s : State) (n : Nat) : Nat :=
  if s.rejoining n then 0
  else if s.on (CH_SHST_ASRC n) then s.trackValue n
  else if s.topo n = 2 then (s.prot n).appRef else (s.prot n).appDuty

/-! ### Aspects (R139, R145, R158) -/

/-- The active aspect of the channel's group. -/
def activeAspect (s : State) (n : Nat) : Option Nat :=
  let g := s.rd (CH_AGRP_GRP n)
  if s.on (CH_AGRP_GEN n) ∧ s.on (SN_AGACT_VALID g) then some (s.rd (SN_AGACT_ASP g)) else none
/-- R139: the KIND of the channel's slot for an aspect; NONE where the aspect's group is not the channel's. -/
def slotKind (s : State) (n a : Nat) : Nat :=
  if s.on (CH_AGRP_GEN n) ∧ s.rd (SN_ASP_GROUP a) = s.rd (CH_AGRP_GRP n) then s.rd (CH_SLOT_KIND n a) else 0
/-- R139: a member channel of aspect a. -/
def member (s : State) (n a : Nat) : Bool := s.slotKind n a != 0
/-- The KIND of the slot for the active aspect. -/
def activeKind (s : State) (n : Nat) : Nat := match s.activeAspect n with | some a => s.slotKind n a | none => 0

/-- R145, R158: the trim window. -/
def trimWindow (s : State) (n : Nat) : Nat := s.rd (CH_STRIM_VALUE n) * s.full n / 4096
/-- R145, R158: the view and window that clamp a value, where one does; `dbl` gives the view at twice its value where the channel doubles. -/
def viewBy (s : State) (n : Nat) (dbl : Nat → Nat) : Option (Nat × Nat) :=
  match s.activeAspect n with
  | none => none
  | some a =>
    let k := s.slotKind n a
    if s.rejoining n then none
    else if s.on (SN_ASP_SAFE a) then
      match k with
      | 1 => some (0, 0)
      | 2 => some (dbl (s.rd (CH_SLOT_VALUE n a)), s.trimWindow n)
      | 3 => some (dbl (s.trackValue n), s.trimWindow n)
      | _ => none
    else if s.on (CH_SHST_ACLOOP n) ∧ k = 2 then some (dbl (s.rd (CH_SLOT_VALUE n a)), s.trimWindow n)
    else none
/-- R145, R158, R454: the view that clamps the applied value. -/
def view (s : State) (n : Nat) : Option (Nat × Nat) := s.viewBy n (s.doubled n)
/-- R145: the clamp into the view. -/
def clampTo (full : Nat) (v : Option (Nat × Nat)) (x : Nat) : Nat :=
  match v with
  | none => x
  | some (v, w) => min (min full (v + w)) (max (v - w) x)

/-! ### Expectation (R162, R163) -/

/-- R162: LIT from CMIN of full scale on. -/
def judgedLit (s : State) (n v : Nat) : Expect :=
  if s.rd (CW_CMIN_CMIN n) * s.full n / 4096 ≤ v then .lit else .dark
/-- R162: the expectation of a channel and its expected value. -/
def expectation (s : State) (n : Nat) : Expect × Nat :=
  let k := s.activeKind n
  if k = 0 ∨ s.rejoining n then (.none, 0)
  else if s.latched n then
    match s.safeState n with
    | 1 => (.lit, s.derate n (s.safeValue n))
    | 2 => if s.flashOn then (.lit, s.derate n (s.safeValue n)) else (.dark, 0)
    | 3 => let v := s.derate n (s.safeValue n); (s.judgedLit n v, v)
    | _ => (.dark, 0)
  else if k = 1 then (.dark, 0)
  else let v := s.derate n (s.rd (CH_APPL_VALUE n)); (s.judgedLit n v, v)

/-- R163: the proof of a channel restarts: every body of evidence is discarded. -/
def restartProof (s : State) (n : Nat) (x : Expect) : State :=
  let s := s.modPrf n fun p =>
    { p with expt := x, exptAt := s.time, restartAt := s.time, darkRun := 0, eNew := false, eAny := false, eFree := true, eStale := 0,
             oAny := false, oFree := true, oAt := none, noDecAt := none, noDecRep := false, failAt := none, provenRun := 0,
             darkRunOk := 0, cNew := false }
  let s := s.wr (CW_CVER_CVER n) 0
  s.wr (CH_PVER_STATE n) (if x = .none then 0 else 1)

/-- The channels with OREQ = 1 whose expectation is not NONE (R183). -/
def optChannels (s : State) : List Nat := channels.filter fun n => s.on (CH_PCFG_OREQ n) && (s.prf n).expt != .none
/-- R183: the instant at which the set of such channels became non-empty. -/
def updOpt (s : State) : State :=
  { s with optSince := if s.optChannels = [] then none else some (s.optSince.getD s.time) }

/-- The expectation is derived again; a change restarts the proof (R162, R163) and disrupts a dwell (R201). -/
def updExp (s : State) (n : Nat) : State :=
  let x := (s.expectation n).1
  let s := s.put (CH_PVER_EXPLIT n) (x == .lit)
  if x = (s.prf n).expt then s
  else
    let s := (s.restartProof n x).disrupt n
    if s.on (CH_PCFG_OREQ n) then s.updOpt else s

/-! ### Applied value and hand-over (R130, R145, R153 to R155, R158, R454) -/

/-- R158: an applied CLOOP counts only while the active aspect's slot is LIT; elsewhere it is 0, and flagged. -/
def dropCloop (s : State) (n : Nat) : State :=
  if s.on (CH_SHST_ACLOOP n) ∧ s.activeKind n ≠ 2 then (s.wr (CH_SHST_ACLOOP n) 0).flag (chAddr n + 0x203) 0 2 else s

/-- R145: MODE_DISAGREE. -/
def modeDisagree (s : State) (n : Nat) : State := (s.raiseFlag (CH_SHST_DIS n)).report clChan (0xD00 + n) 1 (n / 48)

/-- R62: a reference of 0 in force is noted for the loop of a BK channel, whether the channel is enabled or not. -/
def seeRef (s : State) (n : Nat) : State :=
  if s.topo n = 2 ∧ (s.gen n).prevRef ≠ 0 ∧ s.genValue n = 0 then s.modGen n fun g => { g with prevRef := 0 } else s
/-- A value of the channel's controller, after the hand-over slew, becomes the applied value: doubled (R454), clamped into the
view (R145, R158), shown in CHn_APPL. -/
def setAppl (s : State) (n x : Nat) : State :=
  let s := s.clampDouble n x
  let x := s.doubled n x
  let y := if (s.prot n).noClamp ∧ s.on (CH_SHST_HOACT n) then x else clampTo (s.full n) (s.view n) x
  let s := if y = x then s.modProt n fun p => { p with clampOn := false }
    else if (s.prot n).clampOn then s
    else ((s.modProt n fun p => { p with clampOn := true }).raiseFlag (CH_SHST_CLAMP n)).modeDisagree n
  ((s.wr (CH_APPL_VALUE n) y).seeRef n).updExp n

/-- The controller's value after R145 and R147, before doubling: the target of a hand-over. -/
def ctrlTarget (s : State) (n : Nat) : Nat := clampTo (s.full n) (s.viewBy n id) (s.ctrlValue n)

/-- The value that the channel emits, before doubling: what a hand-over starts from. -/
def emitted (s : State) (n : Nat) : Nat :=
  if s.on (CH_SHST_HOACT n) ∧ ¬s.latched n then (s.prot n).hoY
  else
    let v := if s.latched n then s.safeValue n else s.rd (CH_APPL_VALUE n)
    if s.on (MIR_SPLIT_DBL n) then (v + 1) / 2 else v

/-- R154, R155: a hand-over starts from y0, with its disagreement check. -/
def startHandOver (s : State) (n y0 : Nat) : State :=
  let tgt := s.ctrlTarget n
  let w := s.rd (CH_HWIN_VALUE n) * s.full n / 4096
  let d := (tgt - y0) + (y0 - tgt)
  let s := if s.rd (CH_HWIN_VALUE n) ≠ 0 ∧ w < d then s.modeDisagree n else s
  ((s.modProt n fun p => { p with hoY := y0, noClamp := false }).put (CH_SHST_HOACT n) true).setAppl n y0
/-- R457, R459, R462: a hand-over between pair members, from y0. -/
def pairHandOver (s : State) (n y0 : Nat) : State :=
  ((s.modProt n fun p => { p with hoY := y0, noClamp := true }).put (CH_SHST_HOACT n) true).setAppl n y0

/-- The controller's value, or that of a hand-over that slews, is applied anew: what it passes through has changed. -/
def refreshAppl (s : State) (n : Nat) : State :=
  s.setAppl n (if s.on (CH_SHST_HOACT n) then (s.prot n).hoY else s.ctrlValue n)
/-- R59, R123, R145, R147: what lies between the controller of a channel and its applied value has changed: its view, its scale, its track. In a
freeze and in a range hold the applied value stands, and follows at its end. -/
def reclamp (s : State) (n : Nat) : State :=
  if s.on (CH_STAT_FROZEN n) ∨ s.on (CH_STAT_RHOLD n) then (s.dropCloop n).updExp n else (s.dropCloop n).refreshAppl n

/-! ### Lease (R73 to R78) -/

/-- R73: the lease is armed: enabled, owned, driven by engine shadow values. -/
def leaseArmed (s : State) (n : Nat) : Bool :=
  s.on (CH_CFG_EN n) && s.on (CH_OWNER_VALID n) && !s.on (CH_SHST_ASRC n) && !s.follows n
/-- Arming loads the timer and sets the expected key (R73, R75). -/
def updLease (s : State) (n : Nat) : State :=
  let a := s.leaseArmed n
  if a = s.on (CH_STAT_LARM n) then s
  else
    let s := s.put (CH_STAT_LARM n) a
    if a then (s.wr (CH_LREM_TICKS n) (16 * s.rd (CH_LEASE_LEN n))).modProt n fun p => { p with key := false } else s

/-! ### Freeze (R123, R125) -/

/-- R123: the generator of channel n freezes, or goes on. Frozen time moves its period reference and its next boundary (R125). -/
def freezeGen (s : State) (n : Nat) : State :=
  if s.on (CH_STAT_FROZEN n) then s
  else (s.put (CH_STAT_FROZEN n) true).modGen n fun g => { g with frzAt := some s.time, frzLim := false }
def thawGen (s : State) (n : Nat) : State :=
  let d : Int := 25 * ((s.time - (s.gen n).frzAt.getD s.time : Nat) : Int)
  (s.put (CH_STAT_FROZEN n) false).modGen n fun g =>
    { g with frzAt := none, frzLim := false, refA := g.refA + d, nextB := g.nextB + d }
/-- R49, R123: a generator driven by engine shadow values freezes, with the one that it leads in an H-bridge. -/
def freeze (s : State) (n : Nat) : State :=
  if s.on (CH_CFG_EN n) ∧ ¬s.on (CH_SHST_ASRC n) ∧ ¬s.latched n ∧ ¬s.follows n then
    if s.leads n then (s.freezeGen n).freezeGen (n + 1) else s.freezeGen n
  else s
/-- R125, R145: a freeze ends; what the view, the scale and the track became in it reaches the applied value. -/
def unfreeze (s : State) (n : Nat) : State :=
  let s := if s.on (CH_STAT_FROZEN n) then (s.thawGen n).reclamp n else s
  if s.leads n ∧ s.on (CH_STAT_FROZEN (n + 1)) then (s.thawGen (n + 1)).reclamp (n + 1) else s

/-! ### Safe-state latch (R81, R82, R83, R108, R571) -/

/-- R50, R82, R104: the safe state turns the gates off: HG at once; a bleed FET that is on stays on, another turns on after the falling
dead time; every other LG turns off. -/
def restGates (s : State) (n : Nat) : State :=
  if s.topo n ≠ 1 then (s.gatesOff n).modGen n fun g => { g with onCur := 0, onNext := 0, riseDelay := 0, prevD := 0 }
  else s.modGen n fun g =>
    { g with hg := false, onCur := 0, onNext := 0, riseDelay := 0, prevD := 0, supNext := false, supCur := false
             phase := if g.hg ∨ g.phase = .on then .fall else if g.phase = .rise then .low else g.phase }

/-- The safe-state generator takes channel n over (R82, R83, R571): gates off in DARK and in the off-phase of FLASH; but in HOLD the
residue cleared and a new period reference, at whose first boundary an LG that is on gives way to HG by its own dead time (R98, R104); a
freeze ends. -/
def enterSafeGen (s : State) (n : Nat) : State :=
  let s := s.unfreeze n
  let s := match s.safeState n with
    | 3 => s
    | _ => (s.wr (CH_DRES_RESIDUE n) 0).modGen n fun g =>
        { g with refA := 25 * (s.time : Int) - g.phaseF, nextB := 25 * (s.time : Int), alignErr := 0, corrNext := 0
                 onCur := if g.lg then 0 else g.onCur }
  let s := if s.dark n then s.restGates n else s
  ((s.seeRef n).updExp n).disrupt n

/-- R81: the latch of channel n sets with a cause, by the event named; a set latch keeps its first cause. -/
def setLatch (s : State) (n cause : Nat) (ev : Option Nat) : State :=
  if s.on (CH_SSTAT_LATCH n) then s
  else
    let h := s.genValue n
    let h' := s.genValue (n + 1)
    let two := s.leads n
    let s := s.modProt n fun p => { p with held := h, heldDbl := s.on (MIR_SPLIT_DBL n), latchEv := ev }
    let s := if two then s.modProt (n + 1) fun p => { p with held := h', heldDbl := s.on (MIR_SPLIT_DBL (n + 1)) } else s
    let s := (s.wr (CH_SSTAT_CAUSE n) cause).put (CH_SSTAT_LATCH n) true
    let s := (s.clampSafe n).enterSafeGen n
    if two then (s.clampSafe (n + 1)).enterSafeGen (n + 1) else s

/-- The latches of several channels set. -/
def setLatches (s : State) (l : List Nat) (cause : Nat) (ev : Option Nat) : State := s.each l fun t n => t.setLatch n cause ev

/-- R85, R153, R189, R571: the Safety Net clears the latch: the channel returns to its rank-3 source by a hand-over, keeps the
period reference in force, takes its own PER at the next boundary, as does the channel that it leads in an H-bridge, and its proof restarts. -/
def clearLatch (s : State) (n : Nat) : State :=
  let y0 := s.emitted n
  let per := s.perF n
  let s := (s.put (CH_SSTAT_LATCH n) false).wr (CH_SSTAT_CAUSE n) 0
  let s := s.modProt n fun p => { p with latchEv := none }
  let keep := fun (t : State) (m : Nat) =>
    let t := t.modGen m fun g => { g with perF := per }
    if per = t.rd (CH_PER_PER m) ∨ ¬t.powered m then t else t.put (CH_ESTAT_PEND m) true
  let s := keep s n
  let s := if s.leads n then keep s (n + 1) else s
  let s := s.startHandOver n y0
  let s := s.restartProof n (s.expectation n).1
  s.updLease n

/-! ### Apply events (R128 to R131, R141, R158) -/

/-- A shadow set becomes the applied values: a change of SRC or CLOOP is a hand-over, unless an aspect switch brings it. CLOOP counts
only where the active aspect's slot is LIT now, and is flagged elsewhere (R158). A channel
that follows no sequencer with SRC = Carousel is held at 0 and recorded (R147); the start of a colour loop starts clusters (R36). -/
def installSet (s : State) (n : Nat) (d : Shadow) : State :=
  let bad := d.cloop != 0 && s.activeKind n != 2
  let s := if d.sw then s else s.dropCloop n
  let s := if bad then s.flag (chAddr n + 0x203) 0 2 else s
  let d := if bad then { d with cloop := 0 } else d
  let ho := !d.sw && (d.src != s.rd (CH_SHST_ASRC n) || d.cloop != s.rd (CH_SHST_ACLOOP n))
  let loop := d.cloop != 0 && !s.on (CH_SHST_ACLOOP n)
  let y0 := s.emitted n
  let s := s.modProt n fun p => { p with deferred := none, appDuty := d.duty, appRef := d.ref }
  let s := (s.wr (CH_SHST_ASRC n) d.src).wr (CH_SHST_ACLOOP n) d.cloop
  let s := if d.sw then s.put (CH_SHST_HOACT n) false else s
  let s := if d.src = 1 ∧ s.rd (CH_CARB_SEQ n) = 3 then s.report clCfg (16 * n + 9) 1 (n / 48) [(chAddr n + 0x209) % 4096, (chAddr n + 0x209) / 4096] else s
  let s := if ho then s.startHandOver n y0 else s.refreshAppl n
  let s := if loop then s.startRouted 0 0 else s
  s.updLease n

/-- R59, R123: a shadow set that waited for the end of a range hold or a freeze becomes the applied values. -/
def installDeferred (s : State) (n : Nat) : State :=
  match (s.prot n).deferred with
  | none => s
  | some d => if s.on (CH_STAT_RHOLD n) ∨ s.on (CH_STAT_FROZEN n) then s else s.installSet n d

/-- Applied values do not change during a range hold or a freeze: the set waits for a boundary (R59, R123). -/
def applyOrDefer (s : State) (n : Nat) (d : Shadow) : State :=
  if s.on (CH_STAT_RHOLD n) ∨ s.on (CH_STAT_FROZEN n) then s.modProt n fun p => { p with deferred := some d }
  else s.installSet n d

/-- R130, R158: an apply event moves the pending shadow set into the applied values; CLOOP counts only where the active aspect's slot
is LIT. A HOLD safe state ignores apply events (R82). -/
def applyShadow (s : State) (n : Nat) : State :=
  if ¬s.on (CH_SHST_PEND n) ∨ (s.latched n ∧ s.safeState n = 3) then s
  else
    let cl := s.on (CH_SCTL_CLOOP n)
    let ok := s.activeKind n == 2
    let s := if cl ∧ ¬ok then s.flag (chAddr n + 0x203) 0 2 else s
    (s.put (CH_SHST_PEND n) false).applyOrDefer n ⟨s.rd (CH_SDUTY_DUTY n), s.rd (CH_SREF_REF n), s.rd (CH_SCTL_SRC n), (cl && ok).toNat, false⟩

/-! ### The watch for frame marks (R122) -/

/-- The broadcast state changes. -/
def modBcast (s : State) (f : Bcast → Bcast) : State := { s with bcast := f s.bcast }
/-- R122: an enabled ALIGN channel exists, and PWR_FRAME is not 0. -/
def watching (s : State) : Bool :=
  s.bcast.frame != 0 && channels.any fun n => s.on (CH_CFG_EN n) && s.on (CH_ALN_ALIGN n)
/-- R122: the watch begins when its condition first holds, and again each time it holds anew. -/
def updWatch (s : State) : State :=
  match s.watching, s.bcast.watchAt with
  | true, none => s.modBcast fun b => { b with watchAt := some s.time }
  | false, some _ => s.modBcast fun b => { b with watchAt := none }
  | _, _ => s

/-! ### Device safe state and protection -/

/-- R65, R66: a latched action: the verdict bit, all gates off, the trip count, the event under CL_CHAN at S2. -/
def trip (s : State) (n : Nat) (f : Fld) (d : Nat) : State :=
  let s := ((s.raiseFlag f).gatesOff n).bump (CH_TCNT_COUNT n)
  (s.report clChan (16 * n + d) 2 (n / 48)).disrupt n

/-- A neighbour of the adjacency test (R70): its channel where the field is enabled and names a die-local index. -/
def neighbour (n nb en : Nat) : Option Nat := if en = 1 ∧ nb < 48 then some (48 * (n / 48) + nb) else none
def nb0 (s : State) (n : Nat) : Option Nat := neighbour n (s.rd (CH_ADJ0_NB n)) (s.rd (CH_ADJ0_NBEN n))
def nb1 (s : State) (n : Nat) : Option Nat := neighbour n (s.rd (CH_ADJ1_NB n)) (s.rd (CH_ADJ1_NBEN n))

/-- R71, R72: the adjacency test starts; with both neighbour fields disabled it cannot run and reports RES = 0. -/
def startAdj (s : State) (n : Nat) : State :=
  if s.on (CH_ADJR_BUSY n) then s
  else if (s.nb0 n).isNone ∧ (s.nb1 n).isNone then (s.wr (CH_ADJR_RES n) 0).put (CH_ADJR_BOTH n) false
  else (s.put (CH_ADJR_BUSY n) true).disrupt n

/-- R71: a short verdict starts the test where ADJEN = 1. -/
def shortTrip (s : State) (n : Nat) (f : Fld) (d : Nat) : State :=
  let s := s.trip n f d
  if s.on (CH_CFG_ADJEN n) then s.startAdj n else s

/-- R63, R68: the limit in force, in half millivolts. -/
def limit (s : State) (n : Nat) : Nat :=
  if (s.gen n).inrush then max (s.rd (CH_ILIM_LIM n)) (s.rd (CH_ILIMI_LIM n)) else s.rd (CH_ILIM_LIM n)

/-- CHn_STAT.MODE: the first of OVERTEMP, TRIPPED, ADJTEST, SAFE, LIMITING, INRUSH, RUN and OFF that applies. -/
def mode (s : State) (n : Nat) : Nat :=
  if (s.prot n).otHold then 6
  else if s.tripped n then 4
  else if s.on (CH_ADJR_BUSY n) then 7
  else if s.latched n then 5
  else if (s.gen n).limLast then 3
  else if (s.gen n).inrush then 2
  else if s.on (CH_CFG_EN n) ∨ s.powered n then 1 else 0

end State

/-! ### Gate power (R89, R90, R144) -/

namespace State

/-- R102: N of the resolution that CHn_DIM holds. -/
def setN (s : State) (n : Nat) : Nat := 2 ^ (8 + s.rd (CH_DIM_RES n)) - 1
/-- R89, R113: whether a duty makes the channel switch, at full scale N. -/
def dutySwitches (s : State) (n N v : Nat) : Bool := v != 0 && (decide (v < N) || s.on (CH_CODE_EN n))
/-- R49, R89: whether a value makes the channel switch, at the resolution in force or at the one that waits; the second channel of an
H-bridge takes the complement. -/
def switches (s : State) (n v : Nat) : Bool :=
  match s.topo n with
  | 0 => false
  | 2 => v != 0
  | _ => [s.dimN (s.head n), s.setN (s.head n)].any fun N => s.dutySwitches n N (if s.follows n then N - min v N else v)
/-- The bound sequencer drives its tracks: running, waiting or halted. -/
def seqDrives (s : State) (n : Nat) : Bool :=
  let q := s.rd (CH_CARB_SEQ n)
  q != 3 && s.rd (CAR_STAT_STATE (n / 48) q) != 0
/-- R89: P of channel n in watts at period `per` when it switches: 3 × QG × nFET ÷ PER, QG in half nanocoulombs. -/
def gatePower (s : State) (n per : Nat) : Rat :=
  let nFET := if s.topo n = 1 ∧ ¬s.on (CH_CFG_LGEN n) then 1 else 2
  (3 * s.rd (CH_GDRV_QG n) * nFET : Nat) / (per : Nat)
/-- R90, R144: whether the channel switches at its applied values, as they stand, as they wait for a boundary, or before trim and slew, at its
shadow values or a slot with KIND LIT or PATTERN; the second channel of an H-bridge, at those of the first (R49). -/
def everSwitches (s : State) (n : Nat) : Bool :=
  let h := s.head n
  let eng := fun d r => if s.topo n = 2 then s.switches n r else s.switches n d
  let set := fun src d r => if src = 1 then s.topo n != 0 && s.seqDrives h else eng d r
  s.switches n (s.rd (CH_APPL_VALUE h)) || ((s.prot h).deferred.any fun x => set x.src x.duty x.ref)
  || (if s.on (CH_SHST_ASRC h) then s.topo n != 0 && s.seqDrives h else eng (s.prot h).appDuty (s.prot h).appRef)
  || (if s.on (CH_SCTL_SRC h) then s.topo n != 0 && s.seqDrives h else eng (s.rd (CH_SDUTY_DUTY h)) (s.rd (CH_SREF_REF h)))
  || (s.on (CH_AGRP_GEN h) && (List.range 64).any fun a =>
        match s.slotKind h a with
        | 2 => s.switches n (s.rd (CH_SLOT_VALUE h a))
        | 3 => s.topo n != 0
        | _ => false)
/-- R90: Pmax of a channel, with the sealed safe state at its sealed period. -/
def pMax (s : State) (n : Nat) : Rat :=
  let h := s.head n
  let safe : Rat := match s.rd (SEAL_SS_STATE h) with
    | 1 | 2 => if s.switches n (s.rd (SEAL_SS_VALUE h)) then s.gatePower n (s.rd (SEAL_SS_PER h)) else 0
    | _ => 0
  max safe (if s.everSwitches n then s.gatePower n (s.rd (CH_PER_PER n)) else 0)
/-- R90: the die sum S in watts. -/
def dieSum (s : State) (d : Nat) : Rat := (dieChannels d).foldl (fun a n => a + s.pMax n) 0
/-- R90: the state `t` that a write would give keeps the die sum within 2.0 W. -/
def withinBudget (t : State) (d : Nat) : Bool := decide (t.dieSum d ≤ 2)
/-- R89, R90: a write that gives `t` does not raise the die sum above 2.0 W. -/
def budgetOk (s t : State) (d : Nat) : Bool := t.withinBudget d || decide (t.dieSum d ≤ s.dieSum d)
/-- R90: the refusal of a write for the gate-power budget. -/
def budgetRefusal (s : State) (n : Nat) : State :=
  (s.raiseFlag (CH_FLT_GBUD n)).report clCfg (16 * n + 8) 1 (n / 48)
/-- R90: a write on channel n that would give `t` takes effect, or is refused for the gate-power budget of its die. -/
def budgeted (s : State) (n : Nat) (t : State) : State := if s.budgetOk t (n / 48) then t else s.budgetRefusal n

end State
end Sys2Proof.Machine
end

