-- ==== Sys2Proof/Machine/Carousel.lean ====
section
/-! DEFINITION. The Carousel pattern sequencers (R147 to R152, R160): their tracks, and the meanings of the rows that a sequencer's
program and its time units bring about. -/
namespace Sys2Proof.Machine

/-- The number of sequencer q of die d among the twelve. -/
def seqNo (d q : Nat) : Nat := 3 * d + q

namespace State

/-- R36, R183: a channel of an active aspect becomes lit where it was not, and needs engine evidence: the clusters routed for lit aspects
start. -/
def startLit (s old : State) (n : Nat) : State :=
  if (old.prf n).expt ≠ .lit ∧ (s.prf n).expt = .lit ∧ ¬s.latched n ∧ (s.on (CH_PCFG_EREQ n) ∨ s.on (CH_PCFG_OREQ n)) then s.startRouted 0 0
  else s
/-- R145, R147: the channels that follow track t of sequencer q of die d take its level, and those whose view it is are clamped anew. -/
def trackChanged (s : State) (d q t : Nat) : State :=
  s.each ((dieChannels d).filter fun n =>
      s.rd (CH_CARB_SEQ n) == q && s.rd (CH_CARB_TRK n) == t && (s.on (CH_SHST_ASRC n) || s.activeKind n == 3))
    fun u n => (u.reclamp n).startLit u n
/-- Track t takes a level. -/
def setTrack (s : State) (d q t v : Nat) : State := (s.wr (CAR_TRK_VALUE d q t) v).trackChanged d q t
/-- The pattern address of sequencer q of die d, shown in CAR_PC. -/
def setPc (s : State) (d q pc : Nat) : State := (s.modSeqr (seqNo d q) fun x => { x with pc := pc }).wr (CAR_PC_VALUE d q) (pc % 1024)
/-- The loop stack, with its depth in CAR_STAT. -/
def setStack (s : State) (d q : Nat) (st : List (Nat × Nat)) : State :=
  (s.modSeqr (seqNo d q) fun x => { x with stack := st }).wr (CAR_STAT_DEPTH d q) st.length
/-- A ramp on track t ends. -/
def endRamp (s : State) (d q t : Nat) : State := s.modSeqr (seqNo d q) fun x => { x with ramps := x.ramps.set none t none }
/-- R151: every track takes 0, the loop stack empties, and execution begins at ENTRY; the channels do not take the levels yet. -/
def primeSeq (s : State) (d q : Nat) : State :=
  let s := s.modSeqr (seqNo d q) fun x => { x with ramps := [] }
  let s := ((s.wr (CAR_STAT_STATE d q) 1).wr (CAR_STAT_ERR d q) 0).setStack d q []
  (s.each (List.range 8) fun t k => t.wr (CAR_TRK_VALUE d q k) 0).setPc d q (s.rd (CAR_CFG_ENTRY d q))
/-- The channels take the levels of every track. -/
def tracksChanged (s : State) (d q : Nat) : State := s.each (List.range 8) fun t k => t.trackChanged d q k
/-- R90: a start of the sequencer is refused for the gate-power budget, on the lowest channel bound to it that a start can make switch. -/
def seqRefusal (s : State) (d q : Nat) : State :=
  match (dieChannels d).find? fun n => s.rd (CH_CARB_SEQ n) == q && (s.on (CH_SHST_ASRC n) || s.on (CH_SCTL_SRC n)) with
  | some n => s.budgetRefusal n
  | none => s
/-- R90, R151: the sequencer starts where its die is powered and the gate-power budget allows it; whether it has. -/
def tryPrime (s : State) (d q : Nat) : State × Bool :=
  let t := s.primeSeq d q
  if ¬s.diePowered d then (s, false)
  else if s.budgetOk t d then (t, true) else (s.seqRefusal d q, false)
/-- R90, R151: the sequencer starts, or is refused. -/
def startSeq (s : State) (d q : Nat) : State :=
  let p := s.tryPrime d q
  if p.2 then p.1.tracksChanged d q else p.1
/-- R150, R151: execution stops, with every track at 0. -/
def stopSeq (s : State) (d q : Nat) : State :=
  let s := s.modSeqr (seqNo d q) fun x => { x with ramps := [] }
  let s := ((s.wr (CAR_STAT_STATE d q) 0).wr (CAR_STAT_ERR d q) 0).setStack d q []
  (s.each (List.range 8) fun t k => t.wr (CAR_TRK_VALUE d q k) 0).tracksChanged d q
/-- R151: the sequencers of a die that is no longer powered stop. -/
def stopDie (s : State) (d : Nat) : State := s.each (List.range 3) fun t q => t.stopSeq d q
/-- R150: the sequencer stops in ERROR; its tracks hold their levels, its ramps stop. -/
def seqError (s : State) (d q err : Nat) : State :=
  let s := s.modSeqr (seqNo d q) fun x => { x with ramps := [] }
  ((s.wr (CAR_STAT_STATE d q) 3).wr (CAR_STAT_ERR d q) err).report clCfg (0xC00 + 16 * d + 4 + q) 2 d
/-- R148: the time unit in always-on ticks. -/
def unit (s : State) (d q : Nat) : Nat :=
  match s.rd (CAR_CFG_TU d q) with
  | 0 => 1600
  | 2 => 160000
  | _ => 16000
/-- A word of pattern memory. -/
def pat (s : State) (d q i : Nat) : Nat := s.rd (CAR_MEM_WORD d q i)

/-- The pattern instruction in progress, when it has operation `op`: `body` is its effect given its first word and its address; `len`
its words, `zero` the bits of its first word that must be 0. A sequencer that does not run, or whose instruction has another
operation, does nothing; one at an address beyond the memory stops in ERROR (R149, R150). -/
def pattern (s : State) (d q op len : Nat) (zero : Nat → Bool) (body : State → Nat → Nat → State) : State :=
  if s.rd (CAR_STAT_STATE d q) ≠ 1 then s
  else
    let pc := (s.seqr (seqNo d q)).pc
    if 1023 < pc then s.seqError d q 4
    else
      let w := s.pat d q pc
      if w / 512 ≠ op then s
      else if 1024 < pc + len then s.seqError d q 4
      else if ¬zero w then s.seqError d q 1
      else body s w pc

/-- The tracks set in a mask, in rising order. -/
def maskTracks (m : Nat) : List Nat := (List.range 8).filter fun t => m.testBit t

/-! ### Register writes -/

/-- CAR_CTL (R90, R151, R420): START, STOP, SYNCST; a START and a STOP of one always-on cycle act as STOP. A START of a sequencer in ERROR is a use of
rung 2. -/
def writeCarCtl (s : State) (d q v : Nat) : State :=
  let start := (CAR_CTL_START d q).of v == 1
  let stop := (CAR_CTL_STOP d q).of v == 1
  let s := if (CAR_CTL_SYNCST d q).of v = 1 then s.put (CAR_STAT_SYNCW d q) true else s
  if stop then (s.stopSeq d q).modSeqr (seqNo d q) fun x => { x with stopAt := some s.time }
  else if start ∧ (s.seqr (seqNo d q)).stopAt ≠ some s.time then
    let t := s.startSeq d q
    if (s.tryPrime d q).2 ∧ s.rd (CAR_STAT_STATE d q) = 3 ∧ s.rd (CAR_STAT_ERR d q) ≠ 0 then
      (t.bump (FC_RUNG_COUNT 1)).report clFc 0x022 0 13
    else t
  else s

/-- R152: pattern memory and CAR_CFG are not written while the sequencer runs or waits. -/
def carBusy (s : State) (d q : Nat) : Bool := s.rd (CAR_STAT_STATE d q) == 1 || s.rd (CAR_STAT_STATE d q) == 2
/-- The refusal of R152. -/
def carRefusal (s : State) (d q a : Nat) : State := s.report clCfg (0xC00 + 16 * d + 12 + q) 1 d [a % 4096, a / 4096]
/-- CAR_CFG (R148, R152). -/
def writeCarCfg (s : State) (d q v : Nat) : State :=
  if s.carBusy d q then s.carRefusal d q (carAddr d q + 1)
  else
    let s := (s.wr (CAR_CFG_ENTRY d q) ((CAR_CFG_ENTRY d q).of v)).wr (CAR_CFG_TU d q) ((CAR_CFG_TU d q).of v)
    if (CAR_CFG_TU d q).of v = 3 then s.flag (carAddr d q + 1) 0 2 else s
/-- A word of pattern memory (R152). -/
def writeCarMem (s : State) (d q i v : Nat) : State :=
  if s.carBusy d q then s.carRefusal d q (carMemAddr d q + i) else s.wr (CAR_MEM_WORD d q i) v

/-- R134, R149: a SYNC action instant ends a WAIT with S = 1. -/
def endWait (s : State) (d q : Nat) : State :=
  (s.wr (CAR_STAT_STATE d q) 1).setPc d q ((s.seqr (seqNo d q)).pc + 2)

end State

/-! ### Meanings -/

/-- LVL (R149): the track takes the level; any ramp on it ends. -/
def execLvl (d : Fin 4) (q : Fin 3) (s : State) : Out :=
  .next (s.pattern d q 0 2 (fun w => w % 64 == 0) fun s w pc =>
    let t := bits w 6 3
    ((s.endRamp d q t).setTrack d q t (s.pat d q (pc + 1))).setPc d q (pc + 2))

/-- RMP (R149): a ramp of the track toward the target over n units; n = 0 leaves the track unchanged. -/
def execRmp (d : Fin 4) (q : Fin 3) (s : State) : Out :=
  .next (s.pattern d q 1 3 (fun w => w % 64 == 0) fun s w pc =>
    let t := bits w 6 3
    let n := s.pat d q (pc + 2)
    let s := if n = 0 then s else s.modSeqr (seqNo d q) fun x =>
      { x with ramps := x.ramps.set none t (some ⟨s.rd (CAR_TRK_VALUE d q t), s.pat d q (pc + 1), n, s.devCount / s.unit d q, 0⟩) }
    s.setPc d q (pc + 3))

/-- RAMP_STEP (R148, R149, R446): at the k-th unit boundary after the RMP the track takes L0 + ((target − L0) × k) div n, once. -/
def execRampStep (d : Fin 4) (q : Fin 3) (t : Fin 8) (s : State) : Out :=
  .next (match (s.seqr (seqNo d q)).ramps.get none t with
    | none => s
    | some r =>
      let k := min r.n (s.devCount / s.unit d q - r.unit0)
      if k ≤ r.step then s
      else
        let v : Int := r.start + ((r.target : Int) - r.start) * k / r.n
        let s := (s.setTrack d q t v.toNat).modSeqr (seqNo d q) fun x => { x with ramps := x.ramps.set none t (some { r with step := k }) }
        if k = r.n then s.endRamp d q t else s)

/-- PATTERN_WAIT (R148, R149): the sequencer waits n units, or until a SYNC when S = 1; n = 0 completes at once. -/
def execPatternWait (d : Fin 4) (q : Fin 3) (s : State) : Out :=
  .next (s.pattern d q 2 2 (fun w => bits w 1 8 == 0) fun s w pc =>
    let n := s.pat d q (pc + 1)
    if n = 0 then s.setPc d q (pc + 2)
    else (s.wr (CAR_STAT_STATE d q) 2).modSeqr (seqNo d q) fun x =>
      { x with waitUntil := (s.devCount / s.unit d q + n) * s.unit d q, waitSync := w.testBit 0 })

/-- PATTERN_WAIT_END (R148): the WAIT's n-th unit boundary has come. -/
def execPatternWaitEnd (d : Fin 4) (q : Fin 3) (s : State) : Out :=
  .next (if s.rd (CAR_STAT_STATE d q) = 2 ∧ (s.seqr (seqNo d q)).waitUntil ≤ s.devCount then s.endWait d q else s)

/-- ROT (R149): levels move among the tracks set in MASK, and ramps on them end. -/
def execRot (d : Fin 4) (q : Fin 3) (s : State) : Out :=
  .next (s.pattern d q 3 1 (fun _ => true) fun s w pc =>
    let ts := State.maskTracks (w % 256)
    let lv := ts.map fun t => s.rd (CAR_TRK_VALUE d q t)
    let lv' := if w.testBit 8 then lv.drop 1 ++ lv.take 1 else lv.drop (lv.length - 1) ++ lv.take (lv.length - 1)
    let s := s.each ts fun u t => u.endRamp d q t
    ((ts.zip lv').foldl (fun u p => u.setTrack d q p.1 p.2) s).setPc d q (pc + 1))

/-- PATTERN_LOOP (R149, R150): pushes n; n = 0 skips the body; a fifth count is ERROR 2. -/
def execPatternLoop (d : Fin 4) (q : Fin 3) (s : State) : Out :=
  .next (s.pattern d q 4 2 (fun _ => true) fun s w pc =>
    let n := s.pat d q (pc + 1)
    let st := (s.seqr (seqNo d q)).stack
    if n = 0 then s.setPc d q (pc + 2 + w % 512)
    else if 4 ≤ st.length then s.seqError d q 2
    else (s.setStack d q ((pc + 2, n) :: st)).setPc d q (pc + 2))

/-- NEXT (R149, R150): decrements the innermost count and repeats the body or pops; an empty stack is ERROR 3. -/
def execNext (d : Fin 4) (q : Fin 3) (s : State) : Out :=
  .next (s.pattern d q 5 1 (fun w => w % 512 == 0) fun s _ pc =>
    match (s.seqr (seqNo d q)).stack with
    | [] => s.seqError d q 3
    | (a, n) :: r => if n = 1 then (s.setStack d q r).setPc d q (pc + 1) else (s.setStack d q ((a, n - 1) :: r)).setPc d q a)

/-- JMP (R149): continues at the address; with H = 1 the sequencer halts and its ramps end. -/
def execJmp (d : Fin 4) (q : Fin 3) (s : State) : Out :=
  .next (s.pattern d q 6 2 (fun w => w % 256 == 0) fun s w pc =>
    let a := s.pat d q (pc + 1)
    if 1023 < a then s.seqError d q 1
    else if w.testBit 8 then
      ((s.modSeqr (seqNo d q) fun x => { x with ramps := [] }).wr (CAR_STAT_STATE d q) 3).wr (CAR_STAT_ERR d q) 0
    else s.setPc d q a)

/-- APL (R129, R149): applies the pending shadow sets of the die's channels with TRIG = 0b10 that name this sequencer. -/
def execApl (d : Fin 4) (q : Fin 3) (s : State) : Out :=
  .next (s.pattern d q 7 1 (fun w => w % 512 == 0) fun s _ pc =>
    (s.each ((dieChannels d).filter fun n => s.rd (CH_SCTL_TRIG n) == 2 && s.rd (CH_CARB_SEQ n) == q.val) fun u n =>
      u.applyShadow n).setPc d q (pc + 1))

end Sys2Proof.Machine
end

