-- ==== Sys2Proof/Machine/Aspect.lean ====
section
/-! DEFINITION. Shadow sets, broadcasts and aspects (R128 to R146, R153 to R158): the effect of the writes to their registers, and the
meanings of the rows that are events. -/
namespace Sys2Proof.Machine
namespace State

/-! ### Aspect switching (R139 to R143) -/

/-- The channels of group g. -/
def groupChannels (s : State) (g : Nat) : List Nat := channels.filter fun n => s.on (CH_AGRP_GEN n) && s.rd (CH_AGRP_GRP n) == g
/-- The member channels of aspect a. -/
def members (s : State) (a : Nat) : List Nat := channels.filter fun n => s.member n a

/-- R141, R153: channel n loads its slot for aspect a into its shadow set and applies it, with no hand-over. -/
def loadSlot (s : State) (n a : Nat) : State :=
  let k := s.slotKind n a
  if k = 0 then s.reclamp n
  else
    let s := if s.on (CH_SHST_PEND n) then s.raiseFlag (CH_SHST_OVR n) else s
    let v := s.rd (CH_SLOT_VALUE n a)
    let s := match k with
      | 1 => ((if s.topo n = 2 then s.wr (CH_SREF_REF n) 0 else s.wr (CH_SDUTY_DUTY n) 0).wr (CH_SCTL_SRC n) 0).wr (CH_SCTL_CLOOP n) 0
      | 2 => (if s.topo n = 2 then s.wr (CH_SREF_REF n) v else s.wr (CH_SDUTY_DUTY n) v).wr (CH_SCTL_SRC n) 0
      | _ => (s.wr (CH_SCTL_SRC n) 1).wr (CH_SCTL_CLOOP n) 0
    let s := (s.put (CH_SHST_PEND n) false).put (CH_SHST_HOACT n) false
    (s.applyOrDefer n ⟨s.rd (CH_SDUTY_DUTY n), s.rd (CH_SREF_REF n), s.rd (CH_SCTL_SRC n), s.rd (CH_SCTL_CLOOP n), true⟩).updExp n

/-- R36, R183: an active aspect with a lit member that needs engine evidence starts the clusters routed for lit aspects. -/
def wakeForAspect (s : State) (a : Nat) : State :=
  if (s.members a).any fun n => (s.expectation n).1 == .lit && (s.on (CH_PCFG_EREQ n) || s.on (CH_PCFG_OREQ n)) then s.startRouted 0 0
  else s

/-- R141: sequencers restart at their ENTRY, and the channels of group g load their slots for aspect a. -/
def startAndLoad (s : State) (g a : Nat) (l : List Nat) : State :=
  (s.each l fun t i => t.primeSeq (i / 3) (i % 3)).each (s.groupChannels g) fun t n => t.loadSlot n a
/-- R90, R141: the sequencers of aspect a's CARSTART whose die stays within the gate-power budget, where all of them start. -/
def carStarts (s : State) (g a : Nat) : List Nat × List Nat :=
  let l := (List.range 12).filter fun i => s.bit (SN_ASP_CARSTART a) i && s.diePowered (i / 3)
  if l = [] then ([], [])
  else
    let t := s.startAndLoad g a l
    let ok := (List.range 4).filter (s.budgetOk t)
    (l.filter fun i => ok.contains (i / 3), l.filter fun i => !ok.contains (i / 3))
/-- R141, R186: group g switches to aspect a: SN_AGACT, the sequencers of CARSTART, the slots of its channels. A report or a reaction of
the aspect before it that is still due stays due; the new aspect is proven in its own right. -/
def switchGroup (s : State) (g a : Nat) : State :=
  let s := ((s.wr (SN_AGACT_ASP g) a).put (SN_AGACT_VALID g) true).wr (SN_AGACT_SAFE g) (s.rd (SN_ASP_SAFE a))
  let s := s.modGroup g fun x => { x with erred := false, degOver := false, provenAt := none }
  let c := s.carStarts g a
  let s := (s.startAndLoad g a c.1).each c.2 fun t i => t.seqRefusal (i / 3) (i % 3)
  (s.each c.1 fun t i => t.tracksChanged (i / 3) (i % 3)).wakeForAspect a

/-- Group g contains a split channel (R453). -/
def splitGroup (s : State) (g : Nat) : Bool := (s.groupChannels g).any fun n => s.on (MIR_SPLIT_EN n)
/-- R462: the request of group g waits for the end of the partner's re-entry. -/
def deferring (s : State) (g : Nat) : Bool := (s.pair.deferTo.any fun t => decide (s.devTime < t)) && s.splitGroup g
/-- R462: a re-entry is aborted, or its confirmation is missing. -/
def abortReentry (s : State) : State :=
  (({ s with pair := { s.pair with instant := none, agreed := false, deferTo := none } }.wr MIR_XSTAT_REF 6).report clLink 0x124 1 13).raisePair

/-- The request of group g is taken at an action instant (R141, R142), or deferred (R462). -/
def takeRequest (s : State) (g : Nat) : State :=
  if s.deferring g then { s with pair := { s.pair with late := if s.pair.late.contains g then s.pair.late else s.pair.late ++ [g] } }
  else if s.on (SN_AGREQ_REQV g) then (s.hwWrite (SN_AGREQ_REQV g) 0).switchGroup g (s.rd (SN_AGREQ_ASP g)) else s

/-- R140: the record of a refused (S1) or replaced (S0) request. -/
def reqRecord (s : State) (g sev : Nat) : State := s.report clCfg (0xC70 + g) sev 12
/-- R140, R137, R138: a request for aspect a in group g is checked; it replaces one that is pending. -/
def requestAspect (s : State) (g a : Nat) (trig : Nat) : State :=
  if ¬s.on (SN_ASP_VALID a) ∨ s.rd (SN_ASP_GROUP a) ≠ g ∨ s.on (SN_AGACT_DEMAND g) then
    (((s.wr (SN_AGREQ_ASP g) a).wr (SN_AGREQ_TRIG g) trig).put (SN_AGREQ_REQV g) false).reqRecord g 1
  else
    let s := if s.on (SN_AGREQ_REQV g) then s.reqRecord g 0 else s
    ((s.wr (SN_AGREQ_ASP g) a).wr (SN_AGREQ_TRIG g) trig).put (SN_AGREQ_REQV g) true

/-- R146: a Safety Net demand installs aspect a in its group and applies it; the pending request is cleared. A demand in a split group
aborts a re-entry in progress (R462). -/
def demandAspect (s : State) (a : Nat) : State :=
  let g := s.rd (SN_ASP_GROUP a)
  let s := if s.pair.instant.isSome ∧ s.splitGroup g then s.abortReentry else s
  ((s.put (SN_AGACT_DEMAND g) true).hwWrite (SN_AGREQ_REQV g) 0).switchGroup g a
/-- R146: DEMAND clears when neither a function nor a substitution holds the group. -/
def updDemand (s : State) (g : Nat) : State :=
  if (s.group g).demandFn = [] ∧ (s.group g).demandSub = none then s.put (SN_AGACT_DEMAND g) false else s

/-! ### Broadcasts (R134 to R138) -/

/-- R134, R288: a SYNC action instant: group requests with TRIG = 1, pending shadow sets with TRIG = 0b01, sequencers waiting or armed,
the SYNC line of every core. -/
def syncAction (s : State) : State :=
  let s := s.each (List.range 16) fun t g => if t.on (SN_AGREQ_TRIG g) then t.takeRequest g else t
  let s := (s.each channels fun t n => if t.rd (CH_SCTL_TRIG n) = 1 then t.applyShadow n else t).raiseAll 4
  s.each (List.range 12) fun t i =>
    let d := i / 3
    let q := i % 3
    if t.on (CAR_STAT_SYNCW d q) then (t.put (CAR_STAT_SYNCW d q) false).startSeq d q
    else if t.rd (CAR_STAT_STATE d q) = 2 ∧ (t.seqr i).waitSync then t.endWait d q else t

/-- A SYNC broadcast's action instant is due, in coarse ticks. -/
def dueSync (s : State) (at' : Nat) : State := { s with bcast := { s.bcast with syncDue := s.bcast.syncDue ++ [at'] } }
/-- A SYNC broadcast of the chain or of SN_SYNCREQ is scheduled; the tagged broadcasts that arrived before it know of it (R138). -/
def schedSync (s : State) (at' : Nat) : State :=
  ({ s with bcast := { s.bcast with tagged := s.bcast.tagged.map fun (t : Tagged) => { t with after := at' :: t.after } } }).dueSync at'

/-- SN_TSPEND shows the scheduled tagged broadcasts. -/
def setTagged (s : State) (l : List Tagged) : State := { s with bcast := { s.bcast with tagged := l } }.wr SN_TSPEND_COUNT l.length

/-- R138: group g has a request in SN_AGREQ, of a register write, that acts with a SYNC broadcast other than the tagged broadcast `t` at
its action instant, and that arrived later: the broadcast came after `t` (`later`: the tagged ones that did), or the request did. -/
def outranked (s : State) (t : Tagged) (later : List Tagged) (g : Nat) : Bool :=
  let c := 25 * s.time + 1
  s.on (SN_AGREQ_REQV g) && s.on (SN_AGREQ_TRIG g) && !(s.group g).byFrame &&
    ((later.any fun x => x.tag == t.tag && x.loc) || t.after.contains c || (t.past.contains g && s.bcast.syncDue.contains c))
/-- R137, R138: a tagged broadcast acts: its group requests install with TRIG = 1, but for one that a later request of the same action
instant outranks, and a SYNC broadcast follows at the next coarse tick. -/
def tagAct (s : State) (t : Tagged) (later : List Tagged) : State :=
  let s := t.reqs.foldl (fun (u : State) (p : Nat × Nat) =>
    if u.outranked t later p.1 then u.reqRecord p.1 0
    else ((u.requestAspect p.1 p.2 1).mark (SN_AGREQ_REQV p.1) 1).modGroup p.1 fun x => { x with byFrame := true }) s
  s.dueSync (25 * s.time + 1)

/-- R137: the arrival of a tagged broadcast. -/
def tagArrive (s : State) (t : Tagged) : State :=
  if s.devTime ≤ t.tag then
    if t.tag ≤ s.devTime + 16000000 ∧ s.bcast.tagged.length < 8 then s.setTagged (s.bcast.tagged ++ [t])
    else s.report clLink 0xC43 1 13
  else if s.devTime ≤ t.tag + 16000 then (s.report clLink 0xC42 1 13).tagAct t []
  else s.report clLink 0xC43 1 13

/-! ### Register writes -/

/-- CHn_SDUTY, CHn_SREF, CHn_SCTL (R90, R128, R129): the shadow set becomes pending, under the gate-power budget; TRIG takes effect at
once, 0b11 is flagged. -/
def writeShadow (s : State) (n : Nat) (t : State) : State :=
  let t := t.put (CH_SHST_PEND n) true
  s.budgeted n t
def writeSduty (s : State) (n v : Nat) : State := s.writeShadow n (s.wr (CH_SDUTY_DUTY n) ((CH_SDUTY_DUTY n).of v))
def writeSref (s : State) (n v : Nat) : State := s.writeShadow n (s.wr (CH_SREF_REF n) ((CH_SREF_REF n).of v))
def writeSctl (s : State) (n v : Nat) : State :=
  let t := ((s.wr (CH_SCTL_TRIG n) ((CH_SCTL_TRIG n).of v)).wr (CH_SCTL_SRC n) ((CH_SCTL_SRC n).of v)).wr (CH_SCTL_CLOOP n)
    ((CH_SCTL_CLOOP n).of v)
  let u := s.writeShadow n t
  if (CH_SCTL_TRIG n).of v = 3 then u.flag (chAddr n + 0x203) 0 2 else u

/-- R133: DISCARD clears PEND, and the shadow registers read as the applied values. -/
def discard (s : State) (n : Nat) : State :=
  ((((s.put (CH_SHST_PEND n) false).wr (CH_SDUTY_DUTY n) (s.prot n).appDuty).wr (CH_SREF_REF n) (s.prot n).appRef).wr (CH_SCTL_SRC n)
    (s.rd (CH_SHST_ASRC n))).wr (CH_SCTL_CLOOP n) (s.rd (CH_SHST_ACLOOP n))

/-- CHn_SCMD (R130, R133). -/
def writeScmd (s : State) (n v : Nat) : State :=
  let s := if (CH_SCMD_APPLY n).of v = 1 then s.applyShadow n else s
  if (CH_SCMD_DISCARD n).of v = 1 then s.discard n else s

/-- CHn_AGRP, CHn_CARB, CHn_SLOTa (R139, R144): under the gate-power budget; the view, the expectation and the track's value follow. -/
def writeAgrp (s : State) (n v : Nat) : State :=
  (s.budgeted n ((s.wr (CH_AGRP_GRP n) ((CH_AGRP_GRP n).of v)).wr (CH_AGRP_GEN n) ((CH_AGRP_GEN n).of v))).reclamp n
def writeCarb (s : State) (n v : Nat) : State :=
  let u := s.budgeted n ((s.wr (CH_CARB_SEQ n) ((CH_CARB_SEQ n).of v)).wr (CH_CARB_TRK n) ((CH_CARB_TRK n).of v))
  (if u.on (CH_SHST_ASRC n) ∧ u.rd (CH_CARB_SEQ n) = 3 then u.flag (chAddr n + 0x209) 1 2 else u).reclamp n
def writeSlot (s : State) (n a v : Nat) : State :=
  let x := (CH_SLOT_VALUE n a).of v
  let big := s.topo n == 2 && decide (4095 < x)
  let t := (s.wr (CH_SLOT_VALUE n a) (if big then 4095 else x)).wr (CH_SLOT_KIND n a) ((CH_SLOT_KIND n a).of v)
  let u := s.budgeted n t
  (if big then u.flag (chAddr n + 0x280 + 2 * a) 0 2 else u).reclamp n
/-- SN_ASPa (R139, R144, R145): `t` is the state with the fields stored. A change of GROUP brings slots of its channels in, under the
gate-power budget; the channels of the group before and of the group now follow the view. -/
def writeAsp (s t : State) (a : Nat) : State :=
  let die := if s.rd (SN_ASP_GROUP a) = t.rd (SN_ASP_GROUP a) then none else (List.range 4).find? fun d => !s.budgetOk t d
  match die.bind fun d => (dieChannels d).find? fun n => t.member n a with
  | some n => s.budgetRefusal n
  | none =>
    let t := t.each (List.range 16) fun u g =>
      if u.on (SN_AGACT_VALID g) ∧ u.rd (SN_AGACT_ASP g) = a then u.wr (SN_AGACT_SAFE g) (u.rd (SN_ASP_SAFE a)) else u
    t.each (t.groupChannels (s.rd (SN_ASP_GROUP a)) ++ t.groupChannels (t.rd (SN_ASP_GROUP a))) State.reclamp

/-- SN_AGREQ (R15, R138, R140): the tagged broadcasts before it know of the request; where hardware has written REQV in this cycle the write makes no request. -/
def writeAgreq (s : State) (g v : Nat) : State :=
  let a := (SN_AGREQ_ASP g).of v
  let trig := (SN_AGREQ_TRIG g).of v
  if s.marked (SN_AGREQ_REQV g) ≠ 0 then (s.wr (SN_AGREQ_ASP g) a).wr (SN_AGREQ_TRIG g) trig
  else if (SN_AGREQ_REQV g).of v = 1 then
    let s := { s with bcast := { s.bcast with tagged := s.bcast.tagged.map fun (t : Tagged) => { t with past := g :: t.past } } }
    (s.modGroup g fun x => { x with byFrame := false }).requestAspect g a trig
  else ((s.wr (SN_AGREQ_ASP g) a).wr (SN_AGREQ_TRIG g) trig).put (SN_AGREQ_REQV g) false

/-- SN_AAPPLY (R142): the groups named whose request is valid are taken for one action instant. -/
def writeAapply (s : State) (v : Nat) : State :=
  let gs := (List.range 16).filter fun g => v.testBit g && s.on (SN_AGREQ_REQV g)
  if gs = [] then s else { s with bcast := { s.bcast with aapply := s.bcast.aapply ++ [gs] } }

/-- R118, R119, R135: a master emits a SYNC broadcast on SYNCO, 400 ns after a frame mark due within 400 ns, and acts on it. Its rise may
lie ahead: SYNCO then carries the frame mark first. -/
def chainSync (s : State) : State :=
  let now := 25 * s.time
  let len := s.bcast.frame * 160
  let dueNext := if s.bcast.frame = 0 then none else some (now + 25 * ((len - s.devTime % len) % len))
  let afterMark := match s.bcast.markOut with | some m => if now < m + 160 then m + 160 else now | none => now
  let rise := match dueNext with | some m => if m < afterMark + 160 then m + 160 else afterMark | none => afterMark
  ({ s with bcast := { s.bcast with synco := (rise, 80) :: s.bcast.synco } }).schedSync (rise + 97 + s.bcast.comp)

/-- SN_SYNCREQ (R135). -/
def writeSyncreq (s : State) (v : Nat) : State :=
  let s := if SN_SYNCREQ_LOCAL.of v = 1 then s.schedSync (25 * s.time + 400) else s
  if SN_SYNCREQ_CHAIN.of v = 1 then
    if s.bcast.master then s.chainSync else s.report clLink 0xC44 1 13
  else s

/-- SN_TSCMD (R136, R137): the local form takes its requests from SN_AGREQ. -/
def writeTscmd (s : State) (v : Nat) : State :=
  if SN_TSCMD_ARM.of v = 1 then s.tagArrive { tag := s.rd SN_TSYNC_TAG, reqs := [], loc := true } else s

end State

/-- The `n`-th word of a payload. -/
def pw (p : List Word) (i : Nat) : Nat := (p.getD i 0).toNat

/-- R136: the group requests of a TSYNC payload, where its length and unused bits are right. -/
def tsyncReqs (p : List Word) : Option (List (Nat × Nat)) :=
  let m := pw p 5
  if pw p 0 = 1 ∧ m ≤ 16 ∧ p.length = 6 + m ∧ (List.range m).all fun j => pw p (6 + j) < 1024 then
    some ((List.range m).map fun j => (pw p (6 + j) % 16, pw p (6 + j) / 16))
  else none

/-! ### Meanings -/

/-- HAND_OVER_STEP (R154). In a range hold the applied value stands (R59), and takes the slew's value at its end. -/
def execHandOverStep (n : Fin 192) (s : State) : Out :=
  .next (if s.on (CH_SHST_HOACT n) ∧ ¬s.on (CH_STAT_FROZEN n) then
      let tgt := s.ctrlTarget n
      let rate := s.rd (CH_SLEW_VALUE n)
      let step := max 1 (s.full n * rate / 409600)
      let y := (s.prot n).hoY
      let d := (tgt - y) + (y - tgt)
      let done := decide (rate = 0) || decide (d ≤ step)
      let y' := if done then tgt else if y < tgt then y + step else y - step
      let s := (s.modProt n fun p => { p with hoY := y' }).put (CH_SHST_HOACT n) !done
      if s.on (CH_STAT_RHOLD n) then s else s.setAppl n y'
    else s)

/-- ASPECT_SWITCH (R141, R142): at the action instant of the oldest SN_AAPPLY write its groups switch to their requests. -/
def execAspectSwitch (s : State) : Out :=
  .next (match s.bcast.aapply with
    | [] => s
    | gs :: r => ({ s with bcast := { s.bcast with aapply := r } }).each gs fun t g => t.takeRequest g)

/-- SYNC_BROADCAST (R134, R138): the earliest action instant due; broadcasts due at the same coarse tick act as one. -/
def execSyncBroadcast (s : State) : Out :=
  .next (match s.bcast.syncDue with
    | [] => s
    | x :: r =>
      let m := r.foldl min x
      ({ s with bcast := { s.bcast with syncDue := (x :: r).filter (· != m) } }).syncAction)

/-- R136, R137: the payload of a time-tagged SYNC frame from a broadcast source. -/
def State.tsyncPayload (s : State) (p : List Word) : State :=
  match tsyncReqs p with
  | none => s.report clLink 0xC43 1 13
  | some l => s.tagArrive { tag := pw p 1 + 4096 * (pw p 2 + 4096 * (pw p 3 + 4096 * pw p 4)), reqs := l }

/-- TAG_REACHED (R137): device time reaches the tag of the earliest scheduled broadcast. -/
def execTagReached (s : State) : Out :=
  .next (match s.bcast.tagged.find? (fun t => decide (t.tag ≤ s.devTime)) with
    | none => s
    | some t => (s.setTagged (s.bcast.tagged.erase t)).tagAct t (s.bcast.tagged.erase t))

end Sys2Proof.Machine
end

