-- ==== Sys2Proof/Machine/Edge.lean ====
section
/-! DEFINITION. Edge timing and dimming (spec/03_edge_timing.md): the period, the residue, the spreading code, the period reference,
and the meanings of the rows that the edge generator of a channel brings about. -/
namespace Sys2Proof.Machine

/-! ### Gold codes (R111) -/

/-- One shift of a stage register held as ten bits, bit i stage i + 1, with the feedback stages given. -/
def lfsrStep (taps : List Nat) (r : Nat) : Nat :=
  let fb := taps.foldl (fun a t => a + (r.testBit (t - 1)).toNat) 0 % 2
  (r * 2) % 1024 + fb
/-- The register after j shifts from all ones. -/
def lfsr (taps : List Nat) : Nat → Nat
  | 0 => 1023
  | j + 1 => lfsrStep taps (lfsr taps j)
/-- a_j: stage 10 of sequence a. -/
def goldA (j : Nat) : Bool := (lfsr [3, 10] j).testBit 9
/-- b_j: stage 10 of sequence b. -/
def goldB (j : Nat) : Bool := (lfsr [2, 3, 6, 8, 9, 10] j).testBit 9
/-- R111: chip j of code k. -/
def chip (k j : Nat) : Bool :=
  if k = 1023 then goldA j else if k = 1024 then goldB j else xor (goldA j) (goldB ((j + k) % 1023))
/-- The value c of a chip: +1 or −1. -/
def chipSign (c : Bool) : Int := if c then 1 else -1

/-! ### Timing rules (R96, R99, R100, R116) -/

/-- R96: the accepted range of PER for a topology. -/
def perRange : Nat → Nat × Nat
  | 2 => (667, 2000)
  | 0 => (667, 4000000)
  | _ => (16000, 4000000)
/-- R96: PER lies in the range of a topology. -/
def perOk (topo per : Nat) : Bool := decide ((perRange topo).1 ≤ per) && decide (per ≤ (perRange topo).2)
/-- R100: the quarter-period budget. -/
def quarterOk (per minh dtf minl dtr : Nat) : Bool := decide (4 * (minh + dtf + minl + dtr) ≤ 16 * per)
/-- The first point of the grid A + PHASE + k × PER at or after `from'` (twice the bound where it is a half). -/
def gridFrom (a phase per : Int) (from2 : Int) : Int :=
  if per ≤ 0 then a + phase else a + phase + per * (-((-(from2 - 2 * (a + phase))) / (2 * per)))

namespace State

/-- The coarse tick of the present always-on tick: 400 MHz against 16 MHz. -/
def coarse (s : State) : Nat := 25 * s.time
/-- R116: the enable sets the period reference; the first boundary leaves room for its capture point. -/
def enableGen (s : State) (n : Nat) : State :=
  let per := s.rd (CH_PER_PER n)
  let ph := s.rd (CH_PHASE_PHASE n)
  let a : Int := s.coarse
  s.modGen n fun g =>
    { g with refA := a, perF := per, phaseF := ph, resF := s.rd (CH_DIM_RES n), hg := false, lg := false, phase := .idle,
             nextB := if 8 ≤ ph then a + ph else a + ph + per * (((8 - ph) + per - 1) / per), prevD := 0, changing := false,
             onCur := 0, onNext := 0, curLen := 0, corrNext := 0, riseDelay := 0, alignErr := 0, capPend := false,
             capt := false, onRaw := 0 }

/-- R99, R571: part of the timing that waits takes effect at the coming boundary; PER and PHASE wait while the sealed period is in
force. -/
def timingTaken (s : State) (n : Nat) : Bool :=
  s.on (CH_ESTAT_PEND n) && (!s.sealedPer n || s.rd (CH_DIM_RES n) != (s.gen n).resF)
/-- R115: a change of PER is part of it. -/
def perTaken (s : State) (n : Nat) : Bool :=
  s.on (CH_ESTAT_PEND n) && !s.sealedPer n && s.rd (CH_PER_PER n) != (s.gen n).perF
/-- R87, R99, R147: the timing that waits is in force, and the applied value follows the new resolution. -/
def takeTiming (s : State) (n : Nat) : State :=
  if ¬s.timingTaken n then s
  else
    let g := s.gen n
    let s := if s.sealedPer n then
        (s.put (CH_ESTAT_PEND n) (s.rd (CH_PER_PER n) != g.perF || s.rd (CH_PHASE_PHASE n) != g.phaseF)).modGen n fun g =>
          { g with resF := s.rd (CH_DIM_RES n) }
      else (s.put (CH_ESTAT_PEND n) false).modGen n fun g =>
        { g with perF := s.rd (CH_PER_PER n), phaseF := s.rd (CH_PHASE_PHASE n), resF := s.rd (CH_DIM_RES n) }
    if s.on (CH_STAT_RHOLD n) then s else s.refreshAppl n

/-- R99, R108, R115: a PER, RES or PHASE write on an enabled channel waits for the next boundary; else it is in force at once. -/
def timingPending (s : State) (n : Nat) : State :=
  if s.powered n then s.put (CH_ESTAT_PEND n) true
  else
    let g := s.gen n
    let per := s.rd (CH_PER_PER n) != g.perF
    let s := if per || s.rd (CH_DIM_RES n) != g.resF then s.wr (CH_DRES_RESIDUE n) 0 else s
    (s.modGen n fun g =>
      { g with perF := s.rd (CH_PER_PER n), phaseF := s.rd (CH_PHASE_PHASE n), resF := s.rd (CH_DIM_RES n),
               chipRestart := g.chipRestart || per }).reclamp n

/-- R99: the length in coarse ticks of the coming period of channel n, with the changes that wait for its boundary. -/
def comingLength (s : State) (n : Nat) : Nat :=
  let g := s.gen n
  if s.on (CH_ESTAT_PEND n) ∧ ¬s.sealedPer n then
    let per := s.rd (CH_PER_PER n)
    let ph := s.rd (CH_PHASE_PHASE n)
    if per = g.perF ∧ ph = g.phaseF then per
    else (gridFrom g.refA ph per (2 * g.nextB + per) - g.nextB).toNat
  else s.perF n

/-- R113: tmax of a period of P fine steps. -/
def tMax (s : State) (n P : Nat) : Nat :=
  if s.on (CH_CODE_EN n) ∧ s.topo n ≠ 2 then P - s.rd (CH_MINL_VALUE n) - P * s.rd (CH_CODE_DEPTH n) / 1024 else P

end State

/-- R106, R107: the on-time, the new residue, and the correction made: 0 none, 1 DROP, 2 STRETCH, 3 DITHER. -/
def onTime (mpm D N P tmax minh minl : Nat) (r : Int) : Nat × Int × Nat :=
  if D = 0 then (0, 0, 0)
  else if D = N ∧ tmax = P then (P, 0, 0)
  else
    let want : Int := (D * P : Nat) + r
    let t := min (want / (N : Int)).toNat tmax
    let g := P - t
    let short := decide (0 < t) && decide (t < minh)
    let gap := !short && decide (0 < t) && decide (0 < g) && decide (g < minl)
    let stretch := mpm == 1
    let on := if short then (if stretch then minh else 0) else if gap then (if stretch then P - minl else P) else t
    let r' : Int :=
      if mpm = 2 ∨ mpm = 3 then min (max (want - (on * N : Nat)) (-((minl * N : Nat) : Int))) ((minh * N : Nat) : Int)
      else min (max (want - (t * N : Nat)) 0) ((N : Int) - 1)
    (on, r', if short || gap then (if mpm = 0 then 1 else if stretch then 2 else 3) else 0)

/-- R112: the on-time after code modulation, and whether the chip is blank. -/
def codeOn (c : Bool) (on P depth minh minl : Nat) : Nat × Bool :=
  if on = 0 ∨ on = P then (on, true)
  else
    let d : Int := max 1 (on * depth / 1024 : Nat)
    let e := min d (min ((on : Int) - minh) ((P : Int) - minl - on))
    if e < 1 then (on, true) else (((on : Int) + chipSign c * e).toNat, false)

namespace State

/-- R49, R61, R102: the full scale of the generator's duty; the second channel of an H-bridge takes that of the first, whose duty it
complements (DESIGN CHOICE: its own RES is not used). -/
def dutyN (s : State) (n : Nat) : Nat := if s.topo n = 2 then 4095 else s.dimN (s.head n)
/-- The duty that the generator takes for the coming period (R49, R61, R82, R87, R102, R103). -/
def genDuty (s : State) (n : Nat) : Nat :=
  if s.dark n then 0
  else if s.topo n = 2 then (s.gen n).loopDuty
  else if s.follows n then s.dutyN n - min (s.derate (n - 1) (s.genValue (n - 1))) (s.dutyN n)
  else min (s.derate n (min (s.genValue n) (s.dimN n))) (s.dimN n)

/-- R67: a dark-to-lit transition opens the inrush window. -/
def openInrush (s : State) (n : Nat) : State :=
  if s.rd (CH_INRUSH_TIME n) = 0 then s else s.modGen n fun g => { g with inrush := true, inrAt := s.time, limCount := 0 }

/-- R98: the rising dead time that remains at the boundary after LG, on through a period without a pulse, turns off at the capture point. -/
def riseLate (s : State) (n on : Nat) : Nat :=
  let g := s.gen n
  if g.lg ∧ g.onCur = 0 ∧ on ≠ 0 then s.rd (CH_DTR_VALUE n) - 128 else 0
/-- R98: the on-time emitted where HG rises late; a pulse shorter than MINH is not emitted. -/
def lateOn (s : State) (n on : Nat) : Nat :=
  let d := s.riseLate n on
  if 0 < d ∧ (on : Int) - d < max 1 (s.rd (CH_MINH_VALUE n)) then 0 else on
/-- R105: LG conducts in a period of `len` coarse ticks with on-time `on`, and its low interval is shorter than MINL. -/
def lgShort (s : State) (n on : Nat) (len : Int) : Bool :=
  let dead : Int := if on = 0 then 0 else s.rd (CH_DTF_VALUE n) + s.rd (CH_DTR_VALUE n)
  s.lgConducts n on && decide ((on : Int) < 16 * len) && decide (16 * len - on - dead < s.rd (CH_MINL_VALUE n))
/-- R121: the correction that a period of `len` coarse ticks takes: at most PER ÷ 4, its off-gap no shorter than MINL. -/
def correction (s : State) (n on len : Nat) : Int :=
  let lim : Int := (s.perF n : Int) / 4
  let gap : Int := 16 * (len : Int) - on - s.rd (CH_MINL_VALUE n)
  max (max (-lim) (min lim (s.gen n).alignErr)) (min 0 (-(gap / 16)))

/-- R97, R98, R101 to R113, R121: the capture point of channel n: the on-time of the coming period with its residue, counts and chip, at the
values that its boundary brings into force. LG that is on falls P − DTR into a period with an HG pulse; from a period without one it
falls here, and HG rises DTR later. -/
def capture (s : State) (n : Nat) : State :=
  let s := s.installDeferred n
  let taken := s.timingTaken n
  let t := s.takeTiming n
  let len := s.comingLength n
  let P := 16 * len
  let bk := s.topo n == 2
  let D := t.genDuty n
  let N := t.dutyN n
  let minh := s.rd (CH_MINH_VALUE n)
  let minl := s.rd (CH_MINL_VALUE n)
  let r : Int := if taken || (s.gen n).rclr then 0 else sext 36 (s.rd (CH_DRES_RESIDUE n))
  let tmax := s.tMax n P
  let o := onTime (s.rd (CH_DIM_MPM n)) D N P tmax minh minl r
  let coded := s.on (CH_CODE_EN n)
  let ceil := coded && !bk && decide ((tmax : Int) < ((D * P : Nat) + r) / (N : Int))
  let v := if bk then t.derate n (t.genValue n) else D
  let s := if (s.gen n).prevD = 0 ∧ v ≠ 0 then s.openInrush n else s
  let cpos := if bk ∨ ¬coded then s.rd (CH_CPOS_CPOS n)
    else if (s.gen n).chipRestart ∨ s.perTaken n then 0 else (s.rd (CH_CPOS_CPOS n) + 1) % 1023
  let edge := bk && coded && decide (0 < o.1) && decide (o.1 < P)
  let oc := if coded && !edge then codeOn (chip (s.rd (CH_CIDX_IDX n)) cpos) o.1 P (s.rd (CH_CODE_DEPTH n)) minh minl else (o.1, false)
  let late := s.riseLate n oc.1
  let on' := s.lateOn n oc.1
  let e := if taken then 0 else s.correction n on' len
  let sup := !edge && s.lgShort n on' (len + e)
  let s := if o.2.2 = 1 ∨ sup then s.bump (CH_SUPC_COUNT n) else s
  let s := if o.2.2 = 2 then s.bump (CH_STRC_COUNT n) else s
  let s := if o.2.2 = 3 then s.bump (CH_DITC_COUNT n) else s
  let s := if oc.2 then s.bump (CH_BLKC_COUNT n) else s
  let s := (s.wr (CH_DRES_RESIDUE n) (wrap 36 o.2.1)).put (CH_ESTAT_CEIL n) ceil
  s.modGen n fun g =>
    { g with onNext := on', riseDelay := if on' = 0 then 0 else late, supNext := sup, corrNext := e, capPend := taken, prevD := v,
             chipNext := cpos, rclr := false, capt := true, onRaw := o.1, capRes := r,
             lg := g.lg && (s.rd (CH_DTR_VALUE n) == 0 || (g.onCur == 0 && on' == 0)),
             phase := if g.lg ∧ on' ≠ 0 then .rise else g.phase }

/-- R99, R108, R115: what a boundary brings into force: the timing that waits, with the residue cleared where the capture point had not
seen it, and the chip. -/
def boundaryValues (s : State) (n : Nat) : State :=
  let g := s.gen n
  let restart := g.chipRestart || s.perTaken n
  let cpos := if restart then 0 else g.chipNext
  let chips := restart || (s.topo n != 2 && s.on (CH_CODE_EN n))
  let s := if s.timingTaken n ∧ ¬g.capPend then s.wr (CH_DRES_RESIDUE n) 0 else s
  let s := s.takeTiming n
  let s := if chips then s.wr (CH_CPOS_CPOS n) cpos else s
  if chips ∧ cpos = 0 then s.wr (CH_CEPOCH_EPOCH n) s.devTime else s

/-- R112, R115: a restart of chip 0 that came after the capture point of an HS or HB channel: the coming period takes chip 0. -/
def recode (s : State) (n : Nat) : State :=
  let g := s.gen n
  if s.topo n = 2 ∨ ¬g.chipRestart ∨ ¬g.capt ∨ g.onNext = 0 then s
  else
    let on := if s.on (CH_CODE_EN n) then (codeOn (chip (s.rd (CH_CIDX_IDX n)) 0) g.onRaw (16 * s.comingLength n) (s.rd (CH_CODE_DEPTH n))
      (s.rd (CH_MINH_VALUE n)) (s.rd (CH_MINL_VALUE n))).1 else g.onRaw
    s.modGen n fun g => { g with onNext := on }

/-- R456: a doubling that comes after the capture point of an HS or HB channel: the on-time of the coming period is formed again, from the
residue that the capture point found. -/
def recapture (s : State) (n : Nat) : State :=
  let g := s.gen n
  if s.topo n = 2 ∨ ¬g.capt then s
  else
    let t := s.takeTiming n
    let len := s.comingLength n
    let minh := s.rd (CH_MINH_VALUE n)
    let minl := s.rd (CH_MINL_VALUE n)
    let o := onTime (s.rd (CH_DIM_MPM n)) (t.genDuty n) (t.dutyN n) (16 * len) (s.tMax n (16 * len)) minh minl g.capRes
    let on := if s.on (CH_CODE_EN n) then (codeOn (chip (s.rd (CH_CIDX_IDX n)) g.chipNext) o.1 (16 * len) (s.rd (CH_CODE_DEPTH n)) minh minl).1 else o.1
    let e := if g.capPend then 0 else s.correction n on len
    (s.wr (CH_DRES_RESIDUE n) (wrap 36 o.2.1)).modGen n fun g =>
      { g with onNext := on, onRaw := o.1, corrNext := e, supNext := s.lgShort n on (len + e) }

/-- R97, R98, R99, R103, R104, R115, R116, R121: a period boundary: changes that wait take effect, HG rises where due. A gate whose dead time
still runs, or HG that was on through the whole period, makes the other wait; LG that is still on falls here, and HG rises DTR later, or,
where less than MINH would remain, not at all. -/
def boundary (s : State) (n : Nat) : State :=
  let s := s.recode n
  let taken := s.timingTaken n
  let len : Int := s.comingLength n
  let rise := !s.heldOff n && !(s.prot n).bstHold
  let low := s.lgConducts n 0 && !s.heldOff n
  (s.boundaryValues n).modGen n fun g =>
    let e := if taken then 0 else g.corrNext
    let busy := g.hg || g.phase == .fall || g.phase == .wait
    let late := if g.lg && g.onNext != 0 then s.rd (CH_DTR_VALUE n) else 0
    let on := if late ≠ 0 ∧ (g.onNext : Int) - late < max 1 (s.rd (CH_MINH_VALUE n)) then 0
      else if (g.onNext : Int) = 16 * len then (16 * (len + e)).toNat else g.onNext
    let wait := g.riseDelay != 0 || late != 0 || g.phase == .wait
    { g with onCur := on, capt := false, riseDelay := if on = 0 then 0 else max g.riseDelay late, supCur := g.supNext, curLen := (len + e).toNat, nextB := g.nextB + len + e, refA := g.refA + e,
             alignErr := g.alignErr - e, corrNext := 0, capPend := false, changing := taken, chipRestart := false,
             limLast := g.limThis, limThis := false, limSkip := false,
             limCount := if g.inrush || g.limSkip then 0 else if g.limThis then g.limCount + 1 else 0,
             hg := on != 0 && rise && !wait,
             lg := on == 0 && low && !busy && !g.supNext,
             phase := if on = 0 then (if busy then .fall else .low) else if wait then .rise else .on }

end State

/-! ### Meanings -/

/-- CAPTURE_POINT (R101 to R113). A frozen generator's period does not advance (R123); one that is off has no on-time for a ceiling
to limit (R113). -/
def execCapturePoint (n : Fin 192) (s : State) : Out :=
  .next (if s.on (CH_STAT_FROZEN n) then s
    else if s.powered n then s.capture n
    else (s.put (CH_ESTAT_CEIL n) false).modGen n fun g => { g with prevD := 0, onNext := 0 })

/-- PERIOD_BOUNDARY (R97, R99, R115). -/
def execPeriodBoundary (n : Fin 192) (s : State) : Out :=
  .next (if s.powered n ∧ ¬s.on (CH_STAT_FROZEN n) then s.boundary n else s)

/-- R105, R112, R114: the falling edge of HG of a BK channel with its code enabled: moved by the chip in force at this edge. -/
def State.codeEdge (s : State) (n : Nat) : State :=
  let g := s.gen n
  let oc := codeOn (chip (s.rd (CH_CIDX_IDX n)) (s.rd (CH_CPOS_CPOS n))) g.onCur (16 * g.curLen) (s.rd (CH_CODE_DEPTH n))
    (s.rd (CH_MINH_VALUE n)) (s.rd (CH_MINL_VALUE n))
  let sup := s.lgShort n oc.1 g.curLen
  let s := if oc.2 then s.bump (CH_BLKC_COUNT n) else s
  let s := if sup then s.bump (CH_SUPC_COUNT n) else s
  s.modGen n fun g => { g with onCur := oc.1, supCur := sup }

/-- ON_TIME_END (R97, R114): HG falls, and the falling dead time begins. With t = P HG stays on across the boundary. -/
def execOnTimeEnd (n : Fin 192) (s : State) : Out :=
  let g := s.gen n
  .next (if g.phase = .on ∧ ¬s.on (CH_STAT_FROZEN n) ∧ g.onCur < 16 * g.curLen then
      (if s.topo n = 2 ∧ s.on (CH_CODE_EN n) then s.codeEdge n else s).modGen n fun g => { g with hg := false, phase := .fall }
    else s)

/-- DEAD_TIME_END (R97, R98, R104, R123, R124): after the falling dead time LG rises where it conducts and is not suppressed; in a low interval
that began after the capture point LG falls DTR before the boundary; after the rising dead time, where it outlasts the boundary, HG rises. No gate rises while rank 1 holds the gates off. In a freeze only the falling dead time after the limit ends. -/
def execDeadTimeEnd (n : Fin 192) (s : State) : Out :=
  let g := s.gen n
  let frozen := s.on (CH_STAT_FROZEN n)
  .next (match g.phase with
    | .fall =>
      if frozen ∧ ¬g.frzLim then s
      else s.modGen n fun g =>
        { g with phase := .low, lg := s.powered n && s.lgConducts n g.onCur && !s.heldOff n && (frozen || !g.supCur) }
    | .low =>
      if frozen ∨ ¬(g.capt ∧ g.lg ∧ g.onNext ≠ 0) then s else s.modGen n fun g => { g with lg := false, phase := .rise }
    | .rise =>
      if frozen ∨ g.capt then s
      else s.modGen n fun g => { g with phase := .on, hg := s.hgFree n && g.onCur != 0 && !g.lg, riseDelay := 0 }
    | .wait => if frozen then s else s.modGen n fun g => { g with phase := .idle }
    | _ => s)

/-- CHIP_BOUNDARY (R114, R115): in BK the next code chip comes into force; at chip 0 CHn_CEPOCH takes the device time. -/
def execChipBoundary (n : Fin 192) (s : State) : Out :=
  .next (if s.topo n = 2 ∧ s.on (CH_CODE_EN n) ∧ ¬s.on (CH_STAT_FROZEN n) then
      let c := (s.rd (CH_CPOS_CPOS n) + 1) % 1023
      let s := s.wr (CH_CPOS_CPOS n) c
      if c = 0 then s.wr (CH_CEPOCH_EPOCH n) s.devTime else s
    else s)

/-- BK_LOOP_UPDATE (R61, R62, R114): error, integral and duty of the buck loop, from the measured average current. -/
def execBkLoopUpdate (n : Fin 192) (iavg : Int) (s : State) : Out :=
  .next (if s.topo n = 2 ∧ s.powered n ∧ ¬s.on (CH_STAT_FROZEN n) then
      let ref := s.genValue n
      let c := chipSign (chip (s.rd (CH_CIDX_IDX n)) (s.rd (CH_CPOS_CPOS n)))
      let dref : Int := if s.on (CH_CODE_EN n) then c * (ref * s.rd (CH_CODE_DEPTH n) / 1024 : Nat) else 0
      let eff := s.derate n ((ref : Int) + dref).toNat
      let e : Int := eff - iavg
      let g := s.gen n
      let integ : Int := if g.prevRef = 0 ∧ ref ≠ 0 then 0 else g.integ
      let hold := g.limThis || g.loopDuty == 0 || g.loopDuty == 4095
      let integ := if hold then integ else max 0 (min (2 ^ 20 - 1) (integ + e * s.rd (CH_BKG_KI n)))
      let duty := max 0 (min 4095 ((e * s.rd (CH_BKG_KP n) * 16 + integ) / 256))
      s.modGen n fun g => { g with integ := integ.toNat, loopDuty := duty.toNat, prevRef := ref }
    else s)

/-- INRUSH_WINDOW_END (R67, R68): TIME × 10 µs after the window opened last the normal limit and the over-current counting resume, the count from 0 at the next period. -/
def execInrushWindowEnd (n : Fin 192) (s : State) : Out :=
  .next (if (s.gen n).inrush ∧ (s.gen n).inrAt + 160 * s.rd (CH_INRUSH_TIME n) ≤ s.time then
      s.modGen n fun g => { g with inrush := false, limCount := 0, limSkip := true }
    else s)

/-- FREEZE_LG_OFF (R124): in a freeze, after the limit has turned HG off, LG of a BK channel turns off for the rest of the freeze. -/
def execFreezeLgOff (n : Fin 192) (s : State) : Out :=
  .next (if s.on (CH_STAT_FROZEN n) ∧ s.topo n = 2 ∧ (s.gen n).frzLim then s.modGen n fun g => { g with lg := false } else s)

end Sys2Proof.Machine
end

