-- ==== Sys2Proof/Machine/Proof.lean ====
section
/-! DEFINITION. Lamp proof (spec/05_lamp_proof.md): the coarse windows, the posts of the electrical and optical verdicts, the fusion
tick, the group verdicts and reactions, the release of a latch, and the Spotlight inputs. -/
namespace Sys2Proof.Machine
namespace State

/-! ### Coarse windows (R164 to R168) -/

/-- A current result in units of 24.41 µV of shunt voltage, for the range in force. -/
def sampleUnits (s : State) (n : Nat) (i : Nat) : Int := if s.on (CH_SENSE_RANGE n) then sext 12 i else 4 * sext 12 i

/-- R167: the dark test on one sample. -/
def darkTest (s : State) (n : Nat) (valid : Bool) (x : Int) (v : Nat) : State :=
  let p := s.prf n
  if ¬s.on (CW_CFG_DEN n) ∨ p.expt ≠ .dark ∨ s.time < p.exptAt + 160 * s.rd (CW_DSET_DSET n) ∨ ¬valid then s
  else if (2 * s.rd (CW_IDARK_IDARK n) : Nat) < x.natAbs ∨ s.rd (CW_VDARK_VDARK n) < v then
    let s := s.setPrf n { p with darkRun := p.darkRun + 1 }
    if 8 ≤ p.darkRun + 1 then (s.wr (CW_CVER_CVER n) 4).modPrf n fun p => { p with cNew := true } else s
  else
    let s := s.setPrf n { p with darkRun := 0 }
    if p.cNew then s else s.wr (CW_CVER_CVER n) 1

/-- SN_CWn_CFG (R168): where the test of the present expectation is off, the coarse evidence reads NOT_ASSESSED. -/
def unassess (s : State) (n : Nat) : State :=
  let p := s.prf n
  if (p.expt = .lit ∧ s.on (CW_CFG_CEN n)) ∨ (p.expt = .dark ∧ s.on (CW_CFG_DEN n)) then s
  else (s.wr (CW_CVER_CVER n) 0).setPrf n { p with cNew := false, darkRun := 0 }

/-- The rolling mean of R164 in 48.83 µV, from samples in half that unit. -/
def meanOf (l : List Int) : Int := l.foldl (· + ·) 0 / 500

/-- R56, R57, R59, R164: a conversion of channel n. -/
def convert (s : State) (n i v : Nat) : State :=
  let i := if s.on (CH_STAT_RHOLD n) then 0x800 else i
  let valid := i != 0x800
  let s := (s.wr (CH_IRES_RESULT n) i).wr (CH_VRES_RESULT n) v
  let x := if valid then s.sampleUnits n i else (s.prf n).lastValid
  let m : Int := if s.topo n = 3 then x.natAbs else x
  let l := ((s.prf n).samples ++ [m])
  let l := l.drop (l.length - 250)
  let s := s.modPrf n fun p => { p with samples := l, lastValid := x }
  (s.wr (CW_MEAN_MEAN n) (wrap 24 (meanOf l))).darkTest n valid x v

/-- R164, R168, R454: the expected mean. -/
def expectedMean (s : State) (n : Nat) : Nat :=
  let e := (s.expectation n).2
  if s.topo n = 2 then e else s.rd (CW_INOM_INOM n) * e / s.full n

/-- R165, R168: the lit window of one channel. The mean is compared exactly: 500 times it is the sum of the samples. -/
def litWindow (s : State) (n : Nat) : State :=
  let p := s.prf n
  if ¬s.on (CW_CFG_CEN n) ∨ p.expt ≠ .lit ∨ s.time < p.exptAt + 16000 then s
  else
    let sum := p.samples.foldl (· + ·) 0
    let x := s.expectedMean n
    let low : Int := 500 * (x * s.rd (CW_LITLO_LITLO n) / 256 : Nat)
    let high : Int := 500 * (x * s.rd (CW_LITHI_LITHI n) / 256 : Nat)
    let blank := (s.gen n).inrush || ((p.dblAt).any fun t => decide (s.time < t + 16000))
    if sum < low then (s.wr (CW_CVER_CVER n) 2).modPrf n fun p => { p with cNew := true }
    else if high < sum ∧ ¬blank then (s.wr (CW_CVER_CVER n) 3).modPrf n fun p => { p with cNew := true }
    else if p.cNew then s else s.wr (CW_CVER_CVER n) 1

/-! ### Verdict posts (R169, R170, R175, R176, R338, R339) -/

/-- R169: an engine in SV mode in cluster K0 or K1, not broken. -/
def postRequester (s : State) (r : Requester) (sv : Bool) : Bool :=
  match r with
  | .core q => decide (q.val < 64) && sv && !s.on (PWR_ENGST_BROKEN (q.val / 2))
  | _ => false

/-- The refusal of a post (R169, R570). -/
def postRefusal (s : State) (n : Nat) (reg : Reg) : State := s.report clCfg (16 * n + 10) 1 (n / 48) (addrData reg.last)

/-- CHn_EVER (R169). -/
def postEver (s : State) (r : Requester) (sv : Bool) (n v : Nat) : State :=
  if ¬s.postRequester r sv then s.postRefusal n (CH_EVER n)
  else
    let q := (CH_EVER_SEQ n).of v
    if ¬(s.prf n).eFree ∧ q ≠ (s.rd (CH_EVER_SEQ n) + 1) % 16 then s
    else
      let s := ((s.wr (CH_EVER_VERD n) ((CH_EVER_VERD n).of v)).wr (CH_EVER_SEQ n) q).wr (CH_EVER_CAUSE n) ((CH_EVER_CAUSE n).of v)
      s.modPrf n fun p => { p with eNew := true, eAny := true, eFree := false }

/-- The length of a code period of channel n in always-on ticks, rounded up (R114, R175). -/
def codePeriod (s : State) (n : Nat) : Nat :=
  let ticks := if s.topo n = 2 then 400 * (match s.rd (CH_CODE_CHIPR n) with | 1 => 2 | 2 => 4 | _ => 1) else s.perF n
  (1023 * ticks + 24) / 25

/-- R176: NO_DECISION on channel n for more than 4 code periods is recorded, once. -/
def judgeNoDec (s : State) (n : Nat) : State :=
  if ((s.prf n).noDecAt.any fun t => decide (t + 4 * s.codePeriod n < s.time)) ∧ ¬(s.prf n).noDecRep then
    (s.modPrf n fun p => { p with noDecRep := true }).report clProof (4 * n + 2) 1 12
  else s

/-- CHn_OVER (R169, R175, R176): a NO_DECISION that the post ends is judged. A post whose cause is interference marks the
channel's primary input (R193). -/
def postOver (s : State) (r : Requester) (sv : Bool) (n v : Nat) : State :=
  if ¬s.postRequester r sv then s.postRefusal n (CH_OVER n)
  else
    let q := (CH_OVER_SEQ n).of v
    if ¬(s.prf n).oFree ∧ q ≠ (s.rd (CH_OVER_SEQ n) + 1) % 16 then s
    else
      let verd := (CH_OVER_VERD n).of v
      let s := s.judgeNoDec n
      let s := ((s.wr (CH_OVER_VERD n) verd).wr (CH_OVER_SEQ n) q).wr (CH_OVER_CAUSE n) ((CH_OVER_CAUSE n).of v)
      let s := s.modPrf n fun p =>
        { p with oAny := true, oFree := false, oAt := some s.time, oLast := some s.time,
                 noDecAt := if verd = 0 then some (p.noDecAt.getD s.time) else none, noDecRep := p.noDecRep && verd == 0 }
      if (CH_OVER_CAUSE n).of v = 3 ∧ (verd = 0 ∨ verd = 3) then
        let i := s.rd (CH_PCFG_INP n)
        (s.raiseFlag (SPT_STAT_INTERF i)).report clProof (0x341 + 2 * i) 1 13
      else s

/-! ### Fusion (R180 to R184) -/

/-- R182: the proof deadline in ticks. -/
def deadline (s : State) (n : Nat) : Nat := 32000 + if s.on (CH_PCFG_OREQ n) then 3 * s.codePeriod n else 0

/-- A posted verdict (1 LIT_OK, 2 DARK_OK) agrees with the expectation (R180). -/
def agrees (x : Expect) (v : Nat) : Bool := (x == .lit && v == 1) || (x == .dark && v == 2)

/-- R180: an optical verdict was posted within 2 code periods + 1 ms. -/
def opticFresh (s : State) (n : Nat) : Bool := ((s.prf n).oAt).any fun t => decide (s.time ≤ t + 2 * s.codePeriod n + 16000)
/-- CHn_PVER takes what a fusion tick found: its state, the fails, the stale evidence (R190). -/
def showProof (s : State) (n st : Nat) (cfail efail ofail estale ostale : Bool) : State :=
  (((((s.wr (CH_PVER_STATE n) st).put (CH_PVER_CFAIL n) cfail).put (CH_PVER_EFAIL n) efail).put (CH_PVER_OFAIL n) ofail).put
    (CH_PVER_ESTALE n) estale).put (CH_PVER_OSTALE n) ostale

/-- R170, R180 to R182: the verdict of one channel at a fusion tick; one with no expectation has stale evidence all the same. -/
def fuseChannel (s : State) (n : Nat) : State :=
  let p := s.prf n
  let ereq := s.on (CH_PCFG_EREQ n)
  let estale := !p.eNew
  let stale := if estale && ereq then p.eStale + 1 else 0
  if p.expt = .none then
    (s.showProof n 0 false (decide (2 ≤ stale)) false estale !s.opticFresh n).setPrf n
      { p with failAt := none, provenRun := 0, darkRunOk := 0, eNew := false, cNew := false, eStale := stale }
  else
    let cver := s.rd (CW_CVER_CVER n)
    let cfail := decide (2 ≤ cver)
    let oreq := s.on (CH_PCFG_OREQ n)
    let everd := s.rd (CH_EVER_VERD n)
    let efail := (p.eNew && everd != 0 && !agrees p.expt everd) || decide (2 ≤ stale)
    let eok := p.eNew && agrees p.expt everd
    let ofresh := s.opticFresh n
    let overd := s.rd (CH_OVER_VERD n)
    let ofail := oreq && ofresh && overd != 0 && !agrees p.expt overd
    let ook := ofresh && agrees p.expt overd
    let cAssessed := if p.expt = .lit then s.on (CW_CFG_CEN n) else s.on (CW_CFG_DEN n)
    let cok := cAssessed && cver == 1
    let eBase := (eok && (ereq || cAssessed)) || (!ereq && cok)
    let ePosted := !ereq || (p.eAny && everd != 0)
    let oPosted := !oreq || p.oAny
    let cPosted := ereq || !cAssessed || cver != 0
    let early := decide (s.time < p.restartAt + s.deadline n)
    let st :=
      if cfail || efail || ofail then 4
      else if early && !(ePosted && oPosted && cPosted) then 1
      else if eBase && (ook || !oreq) then 2
      else if eBase && (!ofresh || overd == 0) && s.on SPT_DEG_OPTDEG then 3
      else 4
    let s := s.setPrf n { p with
      eNew := false, cNew := false, eStale := stale,
      failAt := if st = 4 then some (p.failAt.getD s.time) else none,
      provenRun := if st = 2 then p.provenRun + 1 else 0,
      darkRunOk := if p.expt = .dark ∧ cok then p.darkRunOk + 1 else 0 }
    let s := (s.showProof n st cfail efail ofail estale !ofresh).put (CH_PVER_EXPLIT n) (p.expt == .lit)
    if st = 4 then s.bump (CH_PFCNT_VALUE n) else s

/-- R184: the first failing member: earliest FAIL, then lowest number. -/
def firstFail (s : State) (l : List Nat) : Option Nat :=
  l.foldl (fun a n =>
    match (s.prf n).failAt, a with
    | none, _ => a
    | some _, none => some n
    | some t, some m => if t < ((s.prf m).failAt.getD 0) then some n else a) none

/-- The evidence code of R185 for a failing channel: 0 coarse, 1 electrical, 2 optical, 3 UNPROVEN. -/
def failKind (s : State) (n : Nat) : Nat :=
  if s.on (CH_PVER_CFAIL n) then 0 else if s.on (CH_PVER_EFAIL n) then 1 else if s.on (CH_PVER_OFAIL n) then 2 else 3

/-- R184, R185, R187: the verdict of group g. A group DEGRADED past its duration stands in ERROR until it is PROVEN. -/
def fuseGroup (s : State) (g : Nat) : State :=
  if ¬s.on (SN_AGACT_VALID g) then ((s.wr (SN_AGVER_STATE g) 0).wr (SN_AGVER_NFAIL g) 0).wr (SN_AGVER_FIRST g) 0
  else
    let ms := (s.members (s.rd (SN_AGACT_ASP g))).filter fun n => s.rd (CH_AGRP_GRP n) == g
    let st := fun n => s.rd (CH_PVER_STATE n)
    let fails := ms.filter fun n => st n == 4
    let v0 := if fails ≠ [] then 3 else if ms.any (st · == 1) then 0 else if ms.any (st · == 3) then 2 else 1
    let v := if v0 = 2 ∧ (s.group g).degOver then 3 else v0
    let first := (s.firstFail fails).getD 0
    let s := ((s.wr (SN_AGVER_STATE g) v).wr (SN_AGVER_NFAIL g) (min 63 fails.length)).wr (SN_AGVER_FIRST g) first
    s.modGroup g fun x =>
      { x with errNew := if v0 = 3 ∧ ¬x.erred then x.errNew ++ [(s.rd (SN_AGACT_ASP g), 4 * first + s.failKind first)] else x.errNew,
               erred := v == 3,
               degOver := x.degOver && v0 != 1,
               degSince := if v0 = 2 then some (x.degSince.getD s.time) else if v0 = 1 then none else x.degSince,
               provenAt := if v = 1 then some (x.provenAt.getD s.time) else none }

/-! ### Latch release (R188, R189) -/

/-- R404: the event is closed, or was never open: it waits on no path and is not open. -/
def evClosed (s : State) (e : Nat) : Bool :=
  !(s.coll.queue.any (·.id == e)) && !(s.coll.dropped.any (·.id == e)) && !(s.coll.opens.any (·.id == e))

/-- R188: the number of the first condition that fails for the release of channel n, 0 when all hold. -/
def releaseFails (s : State) (n : Nat) : Nat :=
  let p := s.prf n
  let st := s.safeState n
  let wantsLit := st == 1 || st == 2 || (st == 3 && p.expt == .lit)
  if s.rd (CH_SSTAT_CAUSE n) = 4 then 7
  else if s.dev = .safe ∨ (s.on (CH_AGRP_GEN n) ∧ s.on (SN_AGACT_DEMAND (s.rd (CH_AGRP_GRP n)))) then 1
  else if s.tripped n ∨ (s.prot n).otHold ∨ (s.die (n / 48)).otHold then 2
  else if (((s.prot n).latchEv).any fun e => !s.evClosed e) then 3
  else if ¬s.on (CH_OWNER_VALID n) ∨
      ¬(((s.prot n).kickAt).any fun t => decide (s.time ≤ t + 16 * s.rd (CH_LEASE_LEN n))) then 4
  else if (if wantsLit then decide (p.provenRun < 2) else decide (p.darkRunOk < 2)) then 5
  else if s.rd (CH_SSTAT_CAUSE n) = 1 ∧ ¬(s.die (n / 48)).linkOk then 6
  else 0

/-- R188: a pending release is judged at the fusion tick. -/
def judgeRelease (s : State) : State :=
  if ¬s.on SN_LCLRST_PEND then s
  else
    let n := s.rd SN_LCLR_CH
    let s := s.put SN_LCLRST_PEND false
    if ¬s.on (CH_SSTAT_LATCH n) then s
    else
      let f := s.releaseFails n
      let s := s.wr SN_LCLRST_REF f
      if f = 0 then s.clearLatch n else s.report clCfg (16 * n + 11) 1 12 (addrData SN_LCLR.last)

/-- SN_LCLR (R188): the request acts when its second word is written. -/
def writeLclr (s : State) (r : Requester) (sv : Bool) (v : Nat) : State :=
  let ch := SN_LCLR_CH.of v
  let ok := (match r with | .core q => decide (q.val < 64) && sv | _ => false) && SN_LCLR_KEY.of v == 0x3C3 && decide (ch ≤ 191)
  if ¬ok then s.report clCfg 0xE21 1 12
  else if ¬s.on (CH_SSTAT_LATCH ch) then s
  else ((s.wr SN_LCLR_CH ch).wr SN_LCLRST_REF 0).put SN_LCLRST_PEND true

/-! ### Optical degradation (R158, R183) -/

/-- The channels with OREQ = 1, and those of them with an expectation. -/
def oreqChannels (s : State) : List Nat := channels.filter fun n => s.on (CH_PCFG_OREQ n)

/-- R158, R183: Spotlight is declared optical-degraded; the applied CLOOP clears everywhere, by a hand-over to the slot's value. -/
def declareOptDeg (s : State) : State :=
  if s.on SPT_DEG_OPTDEG then s
  else
    let s := (s.put SPT_DEG_OPTDEG true).report clProof 0x380 2 12
    s.each channels fun t n =>
      if t.on (CH_SHST_ACLOOP n) then
        let y0 := t.emitted n
        let v := match t.activeAspect n with | some a => t.rd (CH_SLOT_VALUE n a) | none => t.rd (CH_APPL_VALUE n)
        let t := (t.wr (CH_SHST_ACLOOP n) 0).modProt n fun p =>
          if s.topo n = 2 then { p with appRef := v } else { p with appDuty := v }
        t.startHandOver n y0
      else t

/-- R183: recovery needs a fresh optical verdict on every OREQ channel at a fusion tick. -/
def recoverOpt (s : State) : State :=
  if s.on SPT_DEG_OPTDEG ∧ s.on SPT_CTL_RUN ∧ (s.oreqChannels).all s.opticFresh then
    s.put SPT_DEG_OPTDEG false
  else s

/-! ### Spotlight registers (R172 to R174, R193) -/

/-- The number of ones minus the number of zeros of code k (R172). -/
def codeBalance (k : Nat) : Int := (List.range 1023).foldl (fun a j => a + chipSign (chip k j)) 0

/-- SPT_CBIDX (R172): a larger index is refused. -/
def writeCbidx (s : State) (v : Nat) : State :=
  if 1024 < SPT_CBIDX_IDX.of v then s.flag 0xD20083 1 2
  else (s.wr SPT_CBIDX_IDX (SPT_CBIDX_IDX.of v)).wr SPT_CBAL_BAL (wrap 12 (codeBalance (SPT_CBIDX_IDX.of v)))

/-- SPT_INCFG (R173): a change of FS changes the full scale in force and marks samples invalid. -/
def writeIncfg (s : State) (i v : Nat) : State :=
  let fs := (SPT_INCFG_FS i).of v
  let chg := fs != s.rd (SPT_INCFG_FS i)
  let s := (((s.wr (SPT_INCFG_FS i) fs).wr (SPT_INCFG_EN i) ((SPT_INCFG_EN i).of v)).wr (SPT_INCFG_AUTOR i)
    ((SPT_INCFG_AUTOR i).of v)).wr (SPT_INCFG_FILT i) ((SPT_INCFG_FILT i).of v)
  if chg then ((s.wr (SPT_STAT_FSA i) fs).put (SPT_STAT_RHOLD i) true).modOptic i fun o => { o with holdAt := s.time, high := 0, sat := false } else s

/-- SPT_XWIN (R176, R183). -/
def writeXwin (s : State) (v : Nat) : State :=
  let s := s.wr SPT_XWIN_XMAX (SPT_XWIN_XMAX.of v)
  if SPT_XWIN_XMAX.of v = 3 then s.flag 0xD20082 0 2 else s

/-- R34: the Spotlight front end is on: the domains of RUN are, or an aspect driven by Carousel requires optical proof. -/
def spotlightOn (s : State) : Bool :=
  !s.allOff && (s.wide || channels.any fun n => s.on (CH_PCFG_OREQ n) && s.activeKind n == 3)

/-- The full scale of a range in picoamperes. -/
def fullScale (fs : Nat) : Nat := 250000 * 4 ^ fs

/-- R173, R174, R193: a conversion of optical input i, in its self-test where `test`: the sample as it is streamed, the mean of the last
1 ms, the runs of R174. -/
def opticSample (s : State) (i x : Nat) (test : Bool) : State :=
  let o := s.optic i
  let hold := s.on (SPT_STAT_RHOLD i) && decide (s.time < o.holdAt + 128)
  let x := if hold ∨ test then 0xFFFF else min x 0xFFFE
  let fs := s.rd (SPT_STAT_FSA i)
  let s := if hold then s else s.put (SPT_STAT_RHOLD i) false
  let r := if x = 0xFFFF then o.recent else o.recent ++ [x * fullScale fs]
  let r := r.drop (r.length - 4000)
  let amb := if r = [] then 0 else r.foldl (· + ·) 0 / (65536 * r.length)
  let low := decide (0 < fs) && decide (8 * amb < fullScale (fs - 1))
  (s.modOptic i fun o =>
    { o with frame := (o.frame ++ [x]).drop (o.frame.length - 2), high := if x ≠ 0xFFFF ∧ 0xFC00 ≤ x then o.high + 1 else 0,
             sat := o.sat && decide (0xFC00 ≤ x), last := x, recent := r,
             lowSince := if low then some (o.lowSince.getD s.time) else none }).wr (SPT_AMB_AMB i) amb

end State

/-! ### Meanings -/

/-- COARSE_LIT_EVALUATION (R165): at device times that are multiples of 250 µs. -/
def execCoarseLitEvaluation (s : State) : Out := .next (if s.dueOn 4000 0 then s.each channels fun t n => t.litWindow n else s)

/-- FUSION_TICK (R162, R170, R176, R180 to R184, R188), at device times that are multiples of 1 ms: expectations, channel verdicts, group
verdicts, the pending release, recovery from optical degradation. -/
def execFusionTick (s : State) : Out :=
  .next (if ¬s.dueOn 16000 0 then s
    else
      let s := s.each channels fun t n => t.updExp n
      let s := (s.each channels fun t n => (t.judgeNoDec n).fuseChannel n).updOpt
      let s := s.each (List.range 16) fun t g => t.fuseGroup g
      s.judgeRelease.recoverOpt)

/-- R185: the report that group g stands in ERROR with aspect a: S3 for a safety aspect, else S1, with the channel source ID of the first
failing member. -/
def State.reportError (s : State) (g a src : Nat) : State :=
  let s := s.report clProof (0x300 + a) (if s.on (SN_ASP_SAFE a) then 3 else 1) 12 [src]
  s.modGroup g fun x => { x with react := x.react ++ [(a, s.lastEv)] }

/-- ASPECT_ERROR_REPORT (R185): the oldest entry of the group into ERROR that is not yet reported. -/
def execAspectErrorReport (g : Fin 16) (s : State) : Out :=
  .next (match (s.group g).errNew with
    | x :: r => (s.modGroup g fun y => { y with errNew := r }).reportError g x.1 x.2
    | [] => s)

/-- GROUP_DEGRADED_TIMEOUT (R187, R385): the group is DEGRADED, for longer than the degraded-mode duration: it goes to ERROR and is
reported. No member failed, so the channel source ID of the report is a free value. -/
def State.degradedOver (s : State) (g dmd : Nat) : State :=
  if s.on SPT_DEG_OPTDEG ∧ s.on (SN_APRF_OPTREQ (s.rd (SN_AGACT_ASP g))) ∧ s.on (SN_AGACT_VALID g) ∧ s.rd (SN_AGVER_STATE g) = 2 ∧
      (((s.group g).degSince).any fun t => decide (t + dmd < s.time)) then
    (((s.wr (SN_AGVER_STATE g) 3).modGroup g fun x => { x with degOver := true, erred := true }).fresh).reportError g
      (s.rd (SN_AGACT_ASP g)) (Config.freeValue s.free).toNat
  else s

/-- OPTICAL_DEGRADED (R183, R193): the inputs given failed their self-test, or SPT_CTL.RUN = 0 while a channel has OREQ = 1, or no
optical verdict came for the time of R183. -/
def execOpticalDegraded (fails : BitVec 32) (s : State) : Out :=
  let cs := s.oreqChannels
  let act := s.optChannels
  let slow := act.foldl (fun m n => max m (s.codePeriod n)) 0
  let last := act.foldl (fun m n => max m ((s.prf n).oLast.getD 0)) (max s.runAt (s.optSince.getD 0))
  let s := s.each ((List.range 32).filter fun i => fails.getLsbD i) fun t i => t.put (SPT_STAT_FAULT i) true
  .next (if fails ≠ 0 ∨ (cs ≠ [] ∧ ¬s.on SPT_CTL_RUN) ∨ (act ≠ [] ∧ last + 2 * slow + 16000 ≤ s.time) then s.declareOptDeg else s)

/-- SPOTLIGHT_SATURATION (R174): four consecutive samples at or above 0xFC00; with AUTOR = 1 the next larger full scale. An input that
stays on its full scale stays saturated until a sample is lower. -/
def execSpotlightSaturation (i : Fin 32) (s : State) : Out :=
  .next (if 4 ≤ (s.optic i).high ∧ ¬(s.optic i).sat then
      let s := ((s.raiseFlag (SPT_STAT_SAT i)).report clProof (0x340 + 2 * i) 1 13).modOptic i fun o => { o with sat := true, lowSince := none }
      let fs := s.rd (SPT_STAT_FSA i)
      if s.on (SPT_INCFG_AUTOR i) ∧ fs < 3 then
        ((s.wr (SPT_STAT_FSA i) (fs + 1)).put (SPT_STAT_RHOLD i) true).modOptic i fun o =>
          { o with holdAt := s.time, high := 0, sat := false }
      else s
    else s)

/-- RANGE_STEP_DOWN (R174): after 1 s with the ambient below one eighth of the smaller full scale. -/
def execRangeStepDown (i : Fin 32) (s : State) : Out :=
  let fs := s.rd (SPT_STAT_FSA i)
  .next (if s.on (SPT_INCFG_AUTOR i) ∧ s.rd (SPT_INCFG_FS i) < fs ∧
        (((s.optic i).lowSince).any fun t => decide (t + 16000000 ≤ s.time)) then
      ((s.wr (SPT_STAT_FSA i) (fs - 1)).put (SPT_STAT_RHOLD i) true).modOptic i fun o =>
        { o with lowSince := none, holdAt := s.time, high := 0, sat := false }
    else s)

end Sys2Proof.Machine
end

