-- ==== Sys2Proof/Machine/SafetyNet.lean ====
section
/-! DEFINITION. Machine-safety functions (spec/10_machine_safety.md): inputs and their tests, functions and their two channels, demand
aspects, outputs, degraded mode, and the meanings of their rows; the reaction of a failed aspect (R186). -/
namespace Sys2Proof.Machine
namespace State

def inp (s : State) (c : Nat) : Inp := s.inps.get {} c
def modInp (s : State) (c : Nat) (f : Inp → Inp) : State := { s with inps := s.inps.set {} c (f (s.inp c)) }
def ipair (s : State) (p : Nat) : IPair := s.ipairs.get {} p
def modIpair (s : State) (p : Nat) (f : IPair → IPair) : State := { s with ipairs := s.ipairs.set {} p (f (s.ipair p)) }
def fn (s : State) (f : Nat) : Fn := s.fns.get {} f
def modFn (s : State) (f : Nat) (g : Fn → Fn) : State := { s with fns := s.fns.set {} f (g (s.fn f)) }
def modSio (s : State) (g : Sio → Sio) : State := { s with sio := g s.sio }

/-! ### Inputs (R345 to R353) -/

/-- R350: the TP output that feeds channel c of the inputs; 8 for none. -/
def tpOf (s : State) (c : Nat) : Nat := if c % 2 = 0 then s.rd (SN_IPCFG_TPA (c / 2)) else s.rd (SN_IPCFG_TPB (c / 2))
/-- R349: the period of the test pulses in ticks. -/
def tpPeriod (s : State) : Nat := s.rd SN_TPCFG_TPPER * 160000
/-- R349: ticks of device time since the falling edge of TPk's latest pulse. -/
def tpPhase (s : State) (k : Nat) : Nat := (s.devTime + s.tpPeriod - k * s.tpPeriod / 8) % s.tpPeriod
/-- R349: the width of a pulse in ticks. -/
def tpWidth (s : State) : Nat := s.rd SN_TPCFG_TPW * 800
/-- R349: the level of TPk: low in its pulse, high otherwise. -/
def tpLevel (s : State) (k : Nat) : Bool := s.netTimed && decide (s.tpWidth ≤ s.tpPhase k)
/-- R350: the samples of channel c are masked: from the falling edge of its TP's pulse to 200 µs after the rising edge. -/
def masked (s : State) (c : Nat) : Bool :=
  decide (s.tpOf c < 8) && decide (s.tpPhase (s.tpOf c) < s.tpWidth + 3200)

/-- R347: whether a level counts as CLOSED on channel c. -/
def closedAs (s : State) (c : Nat) (level : Bool) : Bool :=
  if s.rd (SN_IPCFG_TYPE (c / 2)) = 2 ∧ c % 2 = 1 then !level else level
/-- R348, R353: the consecutive samples that change the filtered value from `closed`; on a network pair the received values. -/
def filtLen (s : State) (c : Nat) (closed : Bool) : Nat :=
  if 32 ≤ c then s.rd (SN_IPCFG_FILT (c / 2))
  else if s.rd (SN_IPCFG_TYPE (c / 2)) = 3 then 10 * s.rd (SN_IPCFG_TPTOL (c / 2)) + closed.toNat
  else 10 * s.rd (SN_IPCFG_FILT (c / 2))
/-- R348: one sample passes the filter of channel c. -/
def filter (s : State) (c : Nat) (level : Bool) : State :=
  let x := s.inp c
  let now := s.closedAs c level
  if now = x.closed then s.modInp c fun x => { x with run := 0 }
  else if s.filtLen c x.closed ≤ x.run + 1 then s.modInp c fun x => { x with run := 0, closed := now }
  else s.modInp c fun x => { x with run := x.run + 1 }
/-- The sample of channel c: a pin of the wired pairs. A network pair without its slot is OPEN; it takes values as they arrive (R353). -/
def sampleChannel (s : State) (c : Nat) : State :=
  let p := c / 2
  if s.rd (SN_IPCFG_TYPE p) = 0 then s.modInp c fun x => { x with closed := false, run := 0 }
  else if c < 32 then
    if s.masked c then s
    else
      let l := s.bit SN_SIRAW_LEVEL c
      (s.modInp c fun x => { x with lastU := l }).filter c l
  else
    if s.on (KSF_SLOT_VALID (s.rd (SN_IPCFG_KSLOT p))) then s else s.modInp c fun x => { x with closed := false, run := 0 }
/-- R353, R438: a value arrives in slot k: the network pairs that read it count it. -/
def slotArrives (s : State) (k : Nat) : State :=
  s.each ((List.range 32).drop 16) fun t p =>
    if t.rd (SN_IPCFG_TYPE p) = 0 ∨ t.rd (SN_IPCFG_KSLOT p) ≠ k then t
    else [0, 1].foldl (fun u b => u.filter (2 * p + b) (u.bit (KSF_SLOT_VAL k) b)) t

/-- R347: the pair value. -/
def bothClosed (s : State) (p : Nat) : Bool := (s.inp (2 * p)).closed && (s.inp (2 * p + 1)).closed
def bothOpen (s : State) (p : Nat) : Bool := !(s.inp (2 * p)).closed && !(s.inp (2 * p + 1)).closed

/-- The input pairs of function f. -/
def fnPairs (s : State) (f : Nat) : List Nat :=
  match s.rd (SN_FNCFG_TYPE f) with
  | 1 | 2 | 4 => [s.rd (SN_FNCFG_IPA f)]
  | 3 => [s.rd (SN_FNCFG_IPA f), s.rd (SN_FNCFG_IPB f)]
  | _ => []

/-- R381: some function runs in degraded mode on one channel of pair p. -/
def degradedPair (s : State) (p : Nat) : Bool :=
  (List.range 24).any fun f => (s.rd (SN_FNST_DEG f) == 1 || s.rd (SN_FNST_DEG f) == 2) && (s.fnPairs f).contains p
/-- R352: a discrepancy is declared on pair p. -/
def declareDisc (s : State) (p : Nat) : State :=
  let late := ((s.ipair p).mixedAt).any fun t => decide (t + 16000 * s.rd (SN_IPCFG_DISC p) < s.time)
  if late ∧ ¬(s.ipair p).disc ∧ ¬s.degradedPair p then (s.modIpair p fun x => { x with disc := true }).report clSin (0x040 + p) 2 12 else s
/-- R351: a test-pulse fault clears once two checks have passed and the pair shows BOTH_OPEN. -/
def clearTpf (s : State) (c : Nat) : State :=
  if (s.inp c).tpf ∧ 2 ≤ (s.inp c).passes ∧ s.bothOpen (c / 2) then s.modInp c fun x => { x with tpf := false } else s
/-- The value of pair p after a sample (R351, R352, R353, R360). -/
def samplePair (s : State) (p : Nat) : State :=
  let mixed := !s.bothClosed p && !s.bothOpen p
  let valid := s.on (KSF_SLOT_VALID (s.rd (SN_IPCFG_KSLOT p)))
  let s := if 16 ≤ p ∧ s.rd (SN_IPCFG_TYPE p) ≠ 0 then
      (if (s.ipair p).netOk ∧ ¬valid then s.report clSin (0x120 + p) 1 12 else s).modIpair p fun x => { x with netOk := valid }
    else s
  let s := s.modIpair p fun x =>
    { x with mixedAt := if mixed then some (x.mixedAt.getD s.time) else none, disc := x.disc && !s.bothOpen p }
  ((s.declareDisc p).clearTpf (2 * p)).clearTpf (2 * p + 1)
/-- R360: pair p, a RESET pair, has left BOTH_CLOSED after 50 ms to 3 s: a reset event. -/
def pressEnds (s : State) (p : Nat) : Bool :=
  s.rd (SN_IPCFG_TYPE p) == 4 && !s.bothClosed p &&
    ((s.ipair p).closedAt).any fun t => decide (t + 800000 ≤ s.time) && decide (s.time ≤ t + 48000000)
def trackPress (s : State) (p : Nat) : State :=
  s.modIpair p fun x => { x with closedAt := if s.bothClosed p then some (x.closedAt.getD s.time) else none }

/-! ### Demand aspects (R146, R377) -/

/-- R377: the aspect of the lowest-numbered function that demands group g is installed. -/
def chooseDemand (s : State) (g : Nat) : State :=
  match (s.group g).demandFn with
  | [] => s.updDemand g
  | f :: r =>
    let a := s.rd (SN_FNCFG_DASP (r.foldl min f))
    if s.on (SN_AGACT_DEMAND g) ∧ s.on (SN_AGACT_VALID g) ∧ s.rd (SN_AGACT_ASP g) = a then s else s.demandAspect a
/-- The group of a function's demand aspect. -/
def demandGroup (s : State) (f : Nat) : Nat := s.rd (SN_ASP_GROUP (s.rd (SN_FNCFG_DASP f)))
/-- R377: function f begins or ends its demand. -/
def demandBegin (s : State) (f : Nat) : State :=
  if ¬s.on (SN_FNCFG_DAEN f) then s
  else
    let g := s.demandGroup f
    (s.modGroup g fun x => { x with demandFn := if x.demandFn.contains f then x.demandFn else f :: x.demandFn }).chooseDemand g
def demandEnd (s : State) (f : Nat) : State :=
  let g := s.demandGroup f
  if (s.group g).demandFn.contains f then (s.modGroup g fun x => { x with demandFn := x.demandFn.filter (· != f) }).chooseDemand g else s

/-! ### Permits and outputs (R355, R359, R371 to R375) -/

/-- R355: channel A permits. -/
def permitA (s : State) (f : Nat) : Bool :=
  s.rd (SN_FNCFG_TYPE f) != 0 && (s.rd (SN_FNST_STATE f) == 3 || s.rd (SN_FNST_STATE f) == 4)
/-- R325, R333, R357: the evaluation-channel faults of function f. -/
def evalFault (s : State) (f : Nat) : Bool :=
  let t := s.rd (SN_FNCFG_TWIN f)
  s.on (SN_FNCFG_TWEN f) && (s.rd (SN_TWST_STATE t) == 3 || s.on (SN_TWST_COLOC t) || (s.fn f).stale)
/-- R367, R371: a LAMPF function without twins. -/
def lampAlone (s : State) (f : Nat) : Bool := s.rd (SN_FNCFG_TYPE f) == 5 && !s.on (SN_FNCFG_TWEN f)
/-- R324, R325: the value of twin pair t: SAFEV until its first round closes after a reset, and once it is FAILED. -/
def twinValue (s : State) (t : Nat) : Nat :=
  if (s.twin t).closed = none ∨ s.rd (SN_TWST_STATE t) = 3 then s.rd (SN_TWTOL_SAFEV t) else s.rd (SN_TWVAL_VALUE t)
/-- R355, R359: channel B permits, before R371's substitution. -/
def permitB (s : State) (f : Nat) : Bool :=
  if s.lampAlone f then s.permitA f
  else s.rd (SN_FNCFG_TYPE f) != 0 && s.dev == .run && s.on (SN_FNCFG_TWEN f) && !s.on (SN_FNST_WAITRUN f) &&
    s.twinValue (s.rd (SN_FNCFG_TWIN f)) == 1
/-- R371: PB(f) with its substitution. -/
def gateB (s : State) (f : Nat) : Bool :=
  if s.dev = .watch ∨ s.evalFault f ∨ s.rd (SN_FNST_STATE f) = 4 ∨ s.lampAlone f then s.permitA f else s.permitB f

/-- R372: a test pulse of output k is in progress. -/
def pulsing (s : State) (k : Nat) : Bool := (s.sio.outAt.get none k).any fun x => decide (x.1 ≤ s.time) && decide (s.time < x.1 + 800 * s.rd SN_OTCFG_OTPW)
/-- R371: the request and the device state let output k be energised. -/
def soReady (s : State) (k : Nat) : Bool :=
  s.bit SN_OUTREQ_SOREQ k && (s.dev == .run || (s.dev == .watch && s.bit SN_OUTCFG_WATCHEN k)) && !s.sio.soHeld.contains k && !s.pwr.gatesOff
/-- R371: output k is energised: both its switches are on. -/
def soOn (s : State) (k : Nat) : Bool :=
  s.soReady k && (List.range 24).all fun f => !s.bit (SN_FNCFG_SOMASK f) k || (s.permitA f && s.gateB f)
/-- R373: a line permits torque under a gating. -/
def torqueOn (s : State) (gate : Nat → Bool) : Bool :=
  s.on SN_OUTREQ_STOREQ && s.dev == .run && !s.sio.stoHeld && !s.pwr.gatesOff && (List.range 24).all fun f => !s.on (SN_FNCFG_STO f) || gate f
def torqueA (s : State) : Bool := s.torqueOn s.permitA
def torqueB (s : State) : Bool := s.torqueOn s.gateB
/-- R375: a function demands active discharge. -/
def adDemand (s : State) : Bool :=
  (List.range 24).any fun f => s.rd (SN_FNCFG_TYPE f) != 0 && s.on (SN_FNCFG_AD f) &&
    (s.rd (SN_FNST_STATE f) == 1 || s.rd (SN_FNST_STATE f) == 4 || s.rd (SN_FNST_STATE f) == 7)
/-- R375: ADREQ, and the device time since which it is high. -/
def updAd (s : State) : State :=
  let free := !s.torqueA && !s.torqueB
  let want := if s.dev = .safe then s.on SN_OUTCFG_SAFEAD else free && s.adDemand
  let hold := free && (s.sio.adAt).any fun t => decide (s.time < t + 1600000)
  let ad := !s.sio.adHeld && !s.pwr.gatesOff && (want || hold)
  (s.put SN_OUTST_AD ad).modSio fun x => { x with adAt := if ad then some (x.adAt.getD s.time) else none }
/-- The permits and outputs follow the functions (R371 to R375). -/
def updOutputs (s : State) : State :=
  let s := s.each (List.range 24) fun t f => (t.put (SN_FNST_PA f) (t.permitA f)).put (SN_FNST_PB f) (t.permitB f)
  let so := (List.range 8).foldl (fun a k => if s.soOn k then a + 2 ^ k else a) 0
  ((s.wr SN_OUTST_SOON so).put SN_OUTST_TORQUE (s.torqueA && s.torqueB)).updAd

/-! ### Function states (R360 to R370, R376, R377, R380 to R382) -/

/-- States in which a function demands: DEMAND, STOPPING, FAULT. -/
def demands (st : Nat) : Bool := st == 1 || st == 4 || st == 7

/-- Function f enters a state. -/
def enterFn (s : State) (f st : Nat) : State :=
  let old := s.rd (SN_FNST_STATE f)
  let s := s.wr (SN_FNST_STATE f) st
  let s := if (st = 1 ∨ st = 4) ∧ ¬demands old then s.report clSin (0x0C0 + f) 0 12 else s
  let s := if st = 4 then (s.modFn f fun x => { x with stopAt := some s.time }).stopRequest f else s
  if demands st ∧ st ≠ old then s.demandBegin f else if demands old ∧ ¬demands st then s.demandEnd f else s

/-- R380, R382, R392: function f goes to FAULT. -/
def faultFn (s : State) (f cause : Nat) : State :=
  ((s.wr (SN_FNST_FCAUSE f) cause).report clSin (0x080 + f) 3 12).enterFn f 7

/-- R385: the degraded-mode duration in ticks. -/
def degDuration (s : State) : Nat :=
  match s.rd SEAL_DEC_DMD with
  | 1 => 9600000000
  | 2 => 57600000000
  | 3 => 230400000000
  | 4 => 460800000000
  | _ => 0
/-- R382: SN_DGREM in units of 10 s. -/
def showDeg (s : State) (f : Nat) : State := s.wr (SN_DGREM_TIME f) (((s.fn f).degLeft + 159999999) / 160000000)
/-- R380, R382: function f enters degraded mode, or FAULT where its duration is 0. -/
def enterDegraded (s : State) (f code : Nat) : State :=
  if s.degDuration = 0 then s.faultFn f 3
  else (((s.wr (SN_FNST_DEG f) code).report clSin (0x0A0 + f) 2 12).modFn f fun x => { x with degLeft := s.degDuration }).showDeg f
/-- R382: degraded mode ends. -/
def leaveDegraded (s : State) (f : Nat) : State :=
  ((s.wr (SN_FNST_DEG f) 0).modFn f fun x => { x with degLeft := 0 }).showDeg f

/-- R351, R380: the faulted channels of the pairs of function f: 1 for a channel a, 2 for a channel b. -/
def inputFaults (s : State) (f : Nat) : List Nat :=
  (s.fnPairs f).flatMap fun p => (if (s.inp (2 * p)).tpf then [1] else []) ++ (if (s.inp (2 * p + 1)).tpf then [2] else [])
/-- R352: a discrepancy on a pair of function f. -/
def fnDisc (s : State) (f : Nat) : Bool := (s.fnPairs f).any fun p => (s.ipair p).disc
/-- R370: no fault of function f is present. -/
def noFault (s : State) (f : Nat) : Bool := !s.fnDisc f && s.inputFaults f == [] && !s.evalFault f

/-- The channel values that function f evaluates (R381): in degraded mode the sound channel alone. -/
def fnInputs (s : State) (f : Nat) : Bool × Bool :=
  let p := s.rd (SN_FNCFG_IPA f)
  let a := (s.inp (2 * p)).closed
  let b := (s.inp (2 * p + 1)).closed
  match s.rd (SN_FNST_DEG f) with
  | 1 => (b, b)
  | 2 => (a, a)
  | _ => (a, b)

/-- R365: the next state of a TWOHAND function. -/
def twoHand (s : State) (f : Nat) : State :=
  let pa := s.rd (SN_FNCFG_IPA f)
  let pb := s.rd (SN_FNCFG_IPB f)
  let rel := fun p => s.bothClosed p
  let act := fun p => s.bothOpen p
  let first := if (s.fn f).second then pb else pa
  let other := if (s.fn f).second then pa else pb
  let late := decide ((s.fn f).waitAt + 8000000 < s.time)
  match s.rd (SN_FNST_STATE f) with
  | 0 => if rel pa && rel pb then s.enterFn f 2 else s
  | 2 =>
    if act pa && act pb then s.enterFn f 3
    else if act pa || act pb then (s.modFn f fun x => { x with waitAt := s.time, second := act pb }).enterFn f 5
    else s
  | 5 =>
    if act other && !late then s.enterFn f 3
    else if !act first then s.enterFn f (if rel pa && rel pb then 2 else 6)
    else if late then s.enterFn f 6
    else s
  | 3 => if act pa && act pb then s else s.enterFn f 6
  | 6 => if rel pa && rel pb then s.enterFn f 2 else s
  | _ => s

/-- R376: the end of a category 1 stop. -/
def endStop (s : State) (f : Nat) : State := if s.rd (SN_FNST_STATE f) = 4 then s.enterFn f 1 else s
/-- R376: T1 has elapsed. -/
def stopDue (s : State) (f : Nat) : Bool := ((s.fn f).stopAt).any fun t => decide (t + 160000 * s.rd (SN_FNCFG_T1 f) ≤ s.time)

/-- R361, R363, R366: READY, RUN and STOPPING of ESTOP, GUARD and LCURT. -/
def fnRun (s : State) (f : Nat) (closed ev : Bool) : State :=
  match s.rd (SN_FNST_STATE f) with
  | 2 => if !closed then s.enterFn f 1 else if ev then s.enterFn f 3 else s
  | 3 => if !closed then s.enterFn f (if s.on (SN_FNCFG_CAT f) then 4 else 1) else s
  | 4 => if s.stopDue f then s.endStop f else s
  | _ => s

/-- R361, R363, R365, R366, R367: the table of a function's type; `ev` is a reset event of its RESET pair. -/
def fnTable (s : State) (f : Nat) (ev : Bool) : State :=
  let (ca, cb) := s.fnInputs f
  let closed := ca && cb
  let st := s.rd (SN_FNST_STATE f)
  let man := s.on (SN_FNCFG_MANRST f)
  match s.rd (SN_FNCFG_TYPE f) with
  | 1 =>
    if st = 0 then s.enterFn f (if closed then 2 else 1)
    else if st = 1 then (if closed && !s.fnDisc f then s.enterFn f 2 else s)
    else s.fnRun f closed ev
  | 2 =>
    if st = 0 then (if !ca && !cb then (s.put (SN_FNST_TESTED f) true).enterFn f 1 else s)
    else if st = 1 then (if closed && s.on (SN_FNST_TESTED f) then s.enterFn f (if man then 2 else 3) else s)
    else s.fnRun f closed ev
  | 3 => s.twoHand f
  | 4 =>
    if st = 0 ∨ st = 1 then (if closed then s.enterFn f (if man then 2 else 3) else if st = 0 then s.enterFn f 1 else s)
    else s.fnRun f closed ev
  | 5 =>
    let up := s.sio.lampFail.contains (s.rd (SN_FNCFG_LASP f))
    if up then (if st = 1 then s else s.enterFn f 1)
    else if st = 0 ∨ st = 1 then s.enterFn f (if man then 2 else 3)
    else if st = 2 ∧ ev then s.enterFn f 3
    else s
  | _ => s

/-- R370: function f leaves FAULT by itself where its cause allows it. -/
def leaveFault (s : State) (f : Nat) : State :=
  let c := s.rd (SN_FNST_FCAUSE f)
  if (c = 1 ∨ c = 5) ∧ s.noFault f then
    (s.wr (SN_FNST_FCAUSE f) 0).enterFn f (if s.rd (SN_FNCFG_TYPE f) = 3 then 6 else 1)
  else s

/-- R352, R369, R380, R382: the FAULT entries and the degraded mode of function f, which is not in FAULT; with whether its table still
applies. Degraded mode for an evaluation-channel fault does not end by itself. -/
def fnFaults (s : State) (f : Nat) : State × Bool :=
  let deg := s.rd (SN_FNST_DEG f)
  let ifs := s.inputFaults f
  let ef := s.evalFault f
  let disc := s.fnDisc f && !(deg == 1 || deg == 2)
  let faults := ifs ++ (if ef then [3] else [])
  if deg = 0 then
    if disc then (s.faultFn f 1, false)
    else match faults with
      | [] => (s, true)
      | [code] =>
        if ¬s.on (SN_FNCFG_DGEN f) then (s.faultFn f (if code = 3 then 6 else 5), false)
        else
          let s := s.enterDegraded f code
          (s, s.rd (SN_FNST_STATE f) != 7)
      | code :: _ => (s.faultFn f (if s.on (SN_FNCFG_DGEN f) then 2 else if code = 3 then 6 else 5), false)
  else if (s.fn f).degLeft = 0 then (s.faultFn f 3, false)
  else if disc then (s.faultFn f 2, false)
  else if faults = [] then (if deg = 3 then s else s.leaveDegraded f, true)
  else if faults = [deg] then (s, true)
  else (s.faultFn f 2, false)

/-- R360, R380, R382: function f at a sample: a pending reset, FAULT entries, degraded mode, its table. -/
def stepFn (s : State) (f : Nat) (ev : Bool) : State :=
  if s.rd (SN_FNCFG_TYPE f) = 0 then s
  else if (s.fn f).reset then ((s.modFn f fun x => { x with reset := false }).put (SN_FNST_TESTED f) false).enterFn f 0
  else if s.rd (SN_FNST_STATE f) = 7 then s.leaveFault f
  else
    let r := s.fnFaults f
    if r.2 then r.1.fnTable f ev else r.1
/-- R380: an evaluation-channel fault reaches the functions that pair t feeds. -/
def feedFns (s : State) (t : Nat) : State :=
  (s.each (List.range 24) fun u f =>
    if u.rd (SN_FNCFG_TYPE f) = 0 ∨ ¬u.on (SN_FNCFG_TWEN f) ∨ u.rd (SN_FNCFG_TWIN f) ≠ t ∨ (u.fn f).reset ∨ u.rd (SN_FNST_STATE f) = 7 then u
    else (u.fnFaults f).1).updOutputs

/-- R358: the time for which the channels of function f disagree. -/
def crossTime (s : State) (f dt : Nat) : State :=
  if s.dev ≠ .run ∨ s.permitA f = s.gateB f then s.modFn f fun x => { x with xTime := 0 }
  else if s.on (SN_FNST_WAITRUN f) ∨ s.evalFault f then s
  else s.modFn f fun x => { x with xTime := x.xTime + dt }

/-! ### Register writes (R369, R371, R393) -/

/-- R369, R371: an engine in SV mode in K0 or K1. -/
def safetyWriter (s : State) (r : Requester) : Bool :=
  match r with
  | .core q => decide (q.val < 64) && s.coreSv q
  | _ => false
/-- SN_OUTREQ (R371). -/
def writeOutreq (s : State) (r : Requester) (v : Nat) : State :=
  if ¬s.safetyWriter r then s.report clCfg 0xE21 1 12
  else ((s.wr SN_OUTREQ_SOREQ (SN_OUTREQ_SOREQ.of v)).wr SN_OUTREQ_STOREQ (SN_OUTREQ_STOREQ.of v)).updOutputs
/-- SN_FNRST (R369): the function goes to INIT at the next sample; rung 2 of the recovery ladder is counted (R420). -/
def writeFnrst (s : State) (r : Requester) (v : Nat) : State :=
  let f := SN_FNRST_F.of v
  if ¬s.safetyWriter r ∨ SN_FNRST_KEY.of v ≠ 0x5A ∨ 24 ≤ f then s.report clCfg 0xE21 1 12
  else
    let s := (s.wr (SN_FNST_FCAUSE f) 0).modFn f fun x => { x with reset := true }
    let deg := s.rd (SN_FNST_DEG f)
    let gone : Bool := if deg = 3 then !s.evalFault f else !(s.inputFaults f).contains deg
    let s := if gone then s.leaveDegraded f else s
    ((s.report clSin (0x0C0 + f) 0 12).bump (FC_RUNG_COUNT 1)).report clFc 0x022 0 13
/-- SN_SIFLT (R351): a bit whose fault holds is set again. -/
def writeSiflt (s : State) (v : Nat) : State :=
  s.each (List.range 32) fun t i => if v.testBit i ∧ ¬(t.inp i).tpf then t.softClear SN_SIFLT_TPF (2 ^ i) else t

/-- R372, R374: an output is held de-energised until device reset. -/
def holdSo (s : State) (k src : Nat) : State :=
  (((s.modSio fun x => { x with soHeld := if x.soHeld.contains k then x.soHeld else k :: x.soHeld }).raiseBit SN_SOFLT_SO k).report
    clSin src 3 12).updOutputs

end State

/-! ### Meanings -/

/-- SAFETY_INPUT_SAMPLE (R346 to R348, R352, R353, R358, R360 to R371): the pins above their high and below their low thresholds. -/
def execSafetyInputSample (high low : BitVec 32) (s : State) : Out :=
  .next (if ¬s.netTimed then s
    else
      let raw := (List.range 32).foldl (fun a i =>
        if high.toNat.testBit i || (!low.toNat.testBit i && s.bit SN_SIRAW_LEVEL i) then a + 2 ^ i else a) 0
      let s := s.wr SN_SIRAW_LEVEL raw
      let s := s.each (List.range 64) fun t c => t.sampleChannel c
      let s := s.each (List.range 32) fun t p => t.samplePair p
      let evs := (List.range 32).filter s.pressEnds
      let s := s.each (List.range 32) fun t p => t.trackPress p
      let s := s.each (List.range 24) fun t f => t.stepFn f (t.on (SN_FNCFG_RSTEN f) && evs.contains (t.rd (SN_FNCFG_RST f)))
      let s := s.each (List.range 24) fun t f => t.crossTime f 160
      s.updOutputs)

/-- TEST_PULSE (R349): TPk pulses low, once in its period; `follows`: the pin reached the level it drives. -/
def execTestPulse (k : Fin 8) (follows : Bool) (s : State) : Out :=
  .next (if ¬s.netTimed ∨ s.tpWidth ≤ s.tpPhase k ∨ (s.sio.tpAt.get none k).any (fun t => decide (s.devCount ≤ t + s.tpPhase k)) then s
    else
      let n := if follows then 0 else s.sio.tpFails.get 0 k + 1
      let s := s.modSio fun x =>
        { x with tpAt := x.tpAt.set none k (some (s.devCount - s.tpPhase k)), tpFails := x.tpFails.set 0 k n,
                 tpBad := if 2 ≤ n ∧ ¬x.tpBad.contains k.val then k.val :: x.tpBad
                          else if follows then x.tpBad.filter (· != k.val) else x.tpBad }
      if n = 2 then s.report clSin (0x060 + k) 2 12 else s)

/-- TEST_PULSE_CHECK (R350, R351): TPW − 25 µs after the falling edge, the inputs that TPk feeds are checked against the levels of the
pins. -/
def execTestPulseCheck (k : Fin 8) (level : BitVec 32) (s : State) : Out :=
  .next (if ¬s.netTimed ∨ ¬s.dueOn s.tpPeriod (k * s.tpPeriod / 8 + s.tpWidth - 400) then s else s.each (List.range 32) fun t i =>
    if t.tpOf i ≠ k.val ∨ t.rd (SN_IPCFG_TYPE (i / 2)) = 0 ∨ ¬(t.inp i).lastU then t
    else if level.toNat.testBit i ∨ t.sio.tpBad.contains k.val then
      let t := t.modInp i fun x => { x with fails := x.fails + 1, passes := 0 }
      if 2 ≤ (t.inp i).fails then
        let t := t.raiseBit SN_SIFLT_TPF i
        if (t.inp i).tpf then t else (t.modInp i fun x => { x with tpf := true }).report clSin i 2 12
      else t
    else t.modInp i fun x => { x with fails := 0, passes := x.passes + 1 })

/-- DISCREPANCY (R352). -/
def execDiscrepancy (p : Fin 32) (s : State) : Out := .next (s.declareDisc p)

/-- ENGINE_CHANNEL_STALE (R357): in RUN no round of the pair closed for 2 ms. -/
def execEngineChannelStale (f : Fin 24) (s : State) : Out :=
  let last := max s.runAt (((s.twin (s.rd (SN_FNCFG_TWIN f))).closed).getD 0)
  .next (if s.dev = .run ∧ s.rd (SN_FNCFG_TYPE f) ≠ 0 ∧ s.on (SN_FNCFG_TWEN f) ∧ ¬(s.fn f).stale ∧ last + 32000 ≤ s.time then
      ((s.modFn f fun x => { x with stale := true }).report clSin (0x0E0 + f) 2 12).feedFns (s.rd (SN_FNCFG_TWIN f))
    else s)

/-- CROSS_CHECK_FAULT (R358). -/
def execCrossCheckFault (f : Fin 24) (s : State) : Out :=
  .next (if s.dev = .run ∧ 320000 ≤ (s.fn f).xTime ∧ s.rd (SN_FNST_STATE f) ≠ 7 then (s.faultFn f 4).updOutputs else s)

/-- TWOHAND_TIMEOUT (R365). -/
def execTwohandTimeout (f : Fin 24) (s : State) : Out :=
  .next (if s.rd (SN_FNCFG_TYPE f) = 3 ∧ s.rd (SN_FNST_STATE f) = 5 ∧ (s.fn f).waitAt + 8000000 < s.time then s.enterFn f 6 else s)

/-- LAMP_FAILURE_CLEAR (R367): the aspect is active again and its group PROVEN for 1 s. -/
def execLampFailureClear (a : Fin 64) (s : State) : Out :=
  let g := s.rd (SN_ASP_GROUP a)
  .next (if s.on (SN_AGACT_VALID g) ∧ s.rd (SN_AGACT_ASP g) = a.val ∧ (((s.group g).provenAt).any fun t => decide (t + 16000000 ≤ s.time)) then
      s.modSio fun x => { x with lampFail := x.lampFail.filter (· != a.val) }
    else s)

/-- R372: the test pulses of an output come every half OTPER, of switch A and switch B in turn. -/
def State.pulseDue (s : State) (k : Nat) (b : Bool) : Bool :=
  (s.sio.outAt.get none k).all fun x => x.2 != b && decide (x.1 + 8000000 * s.rd SN_OTCFG_OTPER ≤ s.time)
/-- OUTPUT_TEST_PULSE (R372): one switch of an energised output is pulsed off; `fell`: the readback fell. -/
def execOutputTestPulse (k : Fin 8) (b fell : Bool) (s : State) : Out :=
  .next (if ¬s.soOn k ∨ ¬s.pulseDue k b then s
    else
      let s := s.modSio fun x => { x with outAt := x.outAt.set none k (some (s.time, b)) }
      if fell then s else s.holdSo k ((if b then 0x108 else 0x100) + k))

/-- OUTPUT_READBACK (R372): the readback of a de-energised output, every 10 ms; three high readings in a row hold it off. -/
def execOutputReadback (k : Fin 8) (high : Bool) (s : State) : Out :=
  .next (if (s.sio.rbAt.get none k).any fun t => decide (s.time < t + 160000) then s
    else
      let n := if high ∧ ¬s.soOn k then s.sio.rbHigh.get 0 k + 1 else 0
      let s := s.modSio fun x => { x with rbHigh := x.rbHigh.set 0 k n, rbAt := x.rbAt.set none k (some s.time) }
      if n = 3 then s.holdSo k (0x110 + k) else s)

/-- SO_OVERLOAD_TRIP (R372). -/
def execSoOverloadTrip (k : Fin 8) (s : State) : Out := .next (if s.soOn k then s.holdSo k (0x110 + k) else s)

/-- STO_TEST_PULSE (R374): both lines are read back, `a` and `b`: each followed its drive; while line A permits torque STOA_N pulses low,
once every 500 ms. -/
def execStoTestPulse (a b : Bool) (s : State) : Out :=
  .next (if ¬s.netTimed ∨ (s.torqueA ∧ s.sio.stoAt.any (fun t => decide (s.time < t + 8000000))) then s
    else
      let na := if a then 0 else s.sio.stoFailA + 1
      let nb := if b then 0 else s.sio.stoFailB + 1
      let pulse := if s.torqueA then some s.time else s.sio.stoAt
      let s := s.modSio fun x =>
        { x with stoAt := pulse, stoFailA := na, stoFailB := nb, stoHeld := x.stoHeld || decide (2 ≤ na) || decide (2 ≤ nb) }
      let s := if na = 2 then (s.raiseFlag SN_SOFLT_STOA).report clSin 0x118 3 12 else s
      let s := if nb = 2 then (s.raiseFlag SN_SOFLT_STOB).report clSin 0x119 3 12 else s
      s.updOutputs)

/-- ADREQ_HOLD_END (R375): the hold of 100 ms ends; `readback`: the pin followed its drive. -/
def execAdreqHoldEnd (readback : Bool) (s : State) : Out :=
  let s := if readback then s else (s.raiseFlag SN_SOFLT_AD).report clSin 0x11A 2 12
  .next s.updAd

/-- STOP_TIMEOUT (R376). -/
def execStopTimeout (f : Fin 24) (s : State) : Out :=
  .next (if s.rd (SN_FNST_STATE f) = 4 ∧ s.stopDue f then (s.endStop f).updOutputs else s)

/-- DEGRADED_EXPIRY (R382). -/
def execDegradedExpiry (f : Fin 24) (s : State) : Out :=
  .next (if s.rd (SN_FNST_DEG f) ≠ 0 ∧ (s.fn f).degLeft = 0 ∧ s.rd (SN_FNST_STATE f) ≠ 7 then (s.faultFn f 3).updOutputs else s)

/-- ASPECT_REACTION (R186): the reaction of the aspect of group g whose report is the oldest without one. A SUBST aspect of another
group, which no sealed image has, is not installed. -/
def execAspectReaction (g : Fin 16) (s : State) : Out :=
  .next (match (s.group g).react with
    | [] => s
    | (a, ev) :: r =>
      let s := s.modGroup g fun x => { x with react := r }
      let subst := fun (s : State) =>
        if s.rd (SN_ASP_GROUP (s.rd (SN_APRF_SUBST a))) = g.val then
          (s.modGroup g fun x => { x with demandSub := some ev }).demandAspect (s.rd (SN_APRF_SUBST a))
        else s
      match s.rd (SN_APRF_REACT a) with
      | 1 => subst s
      | 2 => s.setLatches (s.members a) 1 (some ev)
      | 3 => subst (s.modSio fun x => { x with lampFail := if x.lampFail.contains a then x.lampFail else a :: x.lampFail })
      | _ => s)

/-- GROUP_DEGRADED_TIMEOUT (R187). -/
def execGroupDegradedTimeout (g : Fin 16) (s : State) : Out := .next (s.degradedOver g s.degDuration)

end Sys2Proof.Machine
end

