-- ==== Sys2Proof/Machine/Lockstep.lean ====
section
/-! DEFINITION. Lockstep, twins and takeover (spec/09_lockstep.md): stopping an engine, takeover, cluster loss, twin rounds,
checkpoints, the reserve check, and the meanings of their rows. -/
namespace Sys2Proof.Machine

/-! ### Register files of a core (R222 to R231) -/

/-- Keys of a core's registers: G, the L and out banks by window, LK by window, X, V by lane, A by lane. -/
def gKey (i : Nat) : Nat := i
def lKey (w i : Nat) : Nat := 16 + 8 * w + i
def oKey (w i : Nat) : Nat := 80 + 8 * w + i
def lkKey (w : Nat) : Nat := 144 + w
def xKey (i : Nat) : Nat := 152 + i
def vKey (v l : Nat) : Nat := 160 + 32 * v + l
def aKey (a l : Nat) : Nat := 672 + 32 * a + l

/-- R231: a core that starts at an address; its debug halt stands. -/
def Core.start (c : Core) (pc : Nat) : Core := { run := true, pc := pc, halted := c.halted, mOut := 0 }

namespace State

/-! ### Engines (R314, R315, R330) -/

/-- The engine of a requester that is a core. -/
def reqEngine (r : Requester) : Option Nat := (reqCore r).map (· / 2)

/-- R330, R333: the Safety Net replaces engine e by x in every twin pair. -/
def replaceTwin (s : State) (e x : Nat) : State :=
  s.each (List.range 64) fun u t =>
    if ¬u.on (SN_TWCFG_EN t) then u
    else
      let a := u.rd (SN_TWCFG_ENGA t) == e
      let b := u.rd (SN_TWCFG_ENGB t) == e
      if ¬(a ∨ b) then u
      else
        let u := if a then (u.wr (SN_TWCFG_ENGA t) x).modTwin t fun w => { w with freeA := true } else u
        let u := if b then (u.wr (SN_TWCFG_ENGB t) x).modTwin t fun w => { w with freeB := true } else u
        let u := (u.put (SN_TWST_WAIVE t) true).modTwin t fun w => { w with waive := some (u.time + 1600) }
        if u.rd (SN_TWCFG_ENGA t) / 16 = u.rd (SN_TWCFG_ENGB t) / 16 then
          ((u.put (SN_TWST_COLOC t) true).report clEng (0x3C0 + t) 2 12).feedFns t
        else u

/-- R330, R339: the spare x can take over. -/
def spareReady (s : State) (x : Nat) : Bool := s.engState x == 2
/-- R330: the takeover of engine e, which was in the state given; or the record that none starts. -/
def takeover (s : State) (e was : Nat) : State :=
  let x := s.rd (PWR_ENGMAP_SPARE e)
  if s.rd (PWR_ENGMAP_ROLE e) = 1 ∧ was ≠ 6 ∧ ¬(s.eng e).noSpare ∧ s.spareReady x then
    let s := ((s.wr (PWR_ENGST_STATE x) 3).wr (PWR_ENGST_FROM x) e).put (PWR_ENGST_FROMV x) true
    let s := (s.modEng x fun g => { g with tkWait := true }).replaceTwin e x
    if s.cluRuns (x / 16) then s else s.requestStart (x / 16) 2 (s.startFreq (x / 16))
  else s.report clEng (0x280 + e) 3 (4 + e / 16)

/-- R314: both cores of engine e stop; loads in flight are discarded. -/
def haltCores (s : State) (e : Nat) : State :=
  s.each [2 * e, 2 * e + 1] fun t q => t.modCore q fun c => { c with run := false, waiting := false, fence := none, mid := false }
/-- R330: engine e stops with a cause. -/
def stopEngine (s : State) (e cause : Nat) : State :=
  let was := s.rd (PWR_ENGST_STATE e)
  let s := ((s.haltCores e).wr (PWR_ENGST_STATE e) 4).wr (PWR_ENGST_CAUSE e) cause
  (s.modEng e fun g => { g with tkWait := false, stopAt := some s.time }).takeover e was

/-- R282, R292, R338: core q stops with a cause, 3 double trap or 4 engine-local ECC, and its event has been reported. A core of a
lockstep engine stops the engine; a split core stops alone. -/
def stopCore (s : State) (q cause : Nat) : State :=
  if ¬s.split (q / 32) then s.stopEngine (q / 2) cause
  else
    let s := (s.modCore q fun c => { c with run := false, stopped := true, waiting := false, fence := none, mid := false }).wr (PWR_ENGST_CAUSE (q / 2)) cause
    if (s.core (2 * (q / 2))).stopped ∧ (s.core (2 * (q / 2) + 1)).stopped then s.wr (PWR_ENGST_STATE (q / 2)) 4 else s
/-- R282: ENGINE_FATAL. -/
def engineFatal (s : State) (q : Nat) : State := (s.report clEng (0x080 + q / 2) 2 (4 + q / 32)).stopCore q 3
/-- R292: core q read an engine-local word with an uncorrectable error. -/
def localEcc (s : State) (q key : Nat) : State := (s.eccEvent key).stopCore q 4

/-- A lockstep engine that a comparator guards: not split, not broken, not stopped or unusable (R313, R337, R339). -/
def guarded (s : State) (e : Nat) : Bool :=
  !s.split (e / 16) && !s.on (PWR_ENGST_BROKEN e) && s.cluRuns (e / 16) &&
    s.rd (PWR_ENGST_STATE e) != 4 && s.rd (PWR_ENGST_STATE e) != 5

/-- R544: a HALT in force broke the lockstep of engine e in this very cycle; a difference of that cycle is still found. -/
def haltedNow (s : State) (e : Nat) : Bool := (s.core (2 * e)).halted && (s.eng e).halt.any fun h => h.1 == s.time

/-! ### Freezing (R123, R125) -/

/-- R123: the channels that engine e owns, and in a split cluster core c (none: either core). -/
def ownedBy (s : State) (e : Nat) (c : Option Nat) : List Nat :=
  channels.filter fun n => s.on (CH_OWNER_VALID n) && s.rd (CH_OWNER_ENG n) == e &&
    (!s.split (e / 16) || c.all fun i => s.rd (CH_OWNER_CORE n) == i)
/-- R123: the clock of cluster k stops: the channels of its engines freeze. -/
def freezeCluster (s : State) (k : Nat) : State :=
  s.each (channels.filter fun n => s.on (CH_OWNER_VALID n) && s.rd (CH_OWNER_ENG n) / 16 == k) fun t n => t.freeze n
/-- R125: the clock of cluster k runs again: the owners that are not halted resume. -/
def unfreezeCluster (s : State) (k : Nat) : State :=
  s.each (channels.filter fun n => s.on (CH_OWNER_VALID n) && s.rd (CH_OWNER_ENG n) / 16 == k) fun t n =>
    let q := t.coreOf (t.rd (CH_OWNER_ENG n)) (t.rd (CH_OWNER_CORE n))
    if (t.core q).halted then t else t.unfreeze n

/-- R544: the HALT of this cycle is discarded: its event goes, the engine's lockstep is whole and its cores and channels run. -/
def dropHalt (s : State) (e : Nat) : State :=
  let id := (s.eng e).halt.elim 0 (·.2)
  let s := (s.put (PWR_ENGST_BROKEN e) false).modEng e fun g => { g with halt := none }
  let s := { s with coll := { s.coll with queue := s.coll.queue.filter fun v => v.id != id } }
  let s := s.each [2 * e, 2 * e + 1] fun t q => t.modCore q fun c => { c with halted := false }
  s.each (s.ownedBy e none) fun t n => t.unfreeze n
/-- R330, R544: engine e stops with a cause; the stop wins over a HALT of the same cycle, whose own stop has begun the takeover. -/
def stopFirst (s : State) (e cause : Nat) : State :=
  if s.guarded e then s.stopEngine e cause
  else
    let s := s.dropHalt e
    if s.rd (PWR_ENGST_STATE e) = 4 then (s.haltCores e).wr (PWR_ENGST_CAUSE e) cause else s.stopEngine e cause

/-- R334: cluster k is declared lost: all its engines are stopped, and every HOST that had not stopped is taken over. -/
def loseCluster (s : State) (k : Nat) : State :=
  let s := ((s.putBit PWR_CLUST_LOST k true).wr (PWR_CST_STATE k) 0).report clEng (0x380 + k) 3 (4 + k)
  let s := (s.freezeCluster k).dropCluster k
  s.each ((List.range 16).map (16 * k + ·)) fun t e =>
    let was := t.rd (PWR_ENGST_STATE e)
    let t := ((t.haltCores e).wr (PWR_ENGST_STATE e) 4).wr (PWR_ENGST_CAUSE e) 5
    let t := t.modEng e fun g => { g with tkWait := false, stopAt := some t.time }
    if was ≠ 4 ∧ ¬t.split k ∧ t.rd (PWR_ENGMAP_ROLE e) = 1 then t.takeover e was else t

/-! ### Twin rounds (R323 to R325) -/

/-- R324: the value of a round from the two values given. -/
def selVal (dir : Bool) (a b : Int) : Int := if dir then max a b else min a b
/-- R325: pair t becomes FAILED. -/
def failPair (s : State) (t : Nat) : State :=
  ((s.wr (SN_TWST_STATE t) 3).report clEng (0x340 + t) 2 12).feedFns t
/-- R324, R325: the round of pair t closes. -/
def closeRound (s : State) (t : Nat) : State :=
  let w := s.twin t
  let safev := sext 12 (s.rd (SN_TWTOL_SAFEV t))
  let dir := s.on (SN_TWCFG_DIR t)
  let failed := s.rd (SN_TWST_STATE t) == 3
  let s := (s.modTwin t fun w => { w with openAt := none, closed := some s.time }).each (List.range 24) fun u f =>
    if u.rd (SN_FNCFG_TWIN f) = t then u.modFn f fun x => { x with stale := false } else u
  let val : Int × Bool := match w.postA, w.postB with
    | some a, some b =>
      (selVal dir (sext 12 a) (sext 12 b), decide ((sext 12 a - sext 12 b).natAbs ≤ s.rd (SN_TWTOL_TOL t)))
    | some a, none => (selVal dir (sext 12 a) safev, false)
    | none, some b => (selVal dir (sext 12 b) safev, false)
    | none, none => (safev, false)
  let s := s.wr (SN_TWVAL_VALUE t) (wrap 12 val.1)
  if val.2 then
    let s := s.each (List.range 24) fun u f =>
      if u.on (SN_FNCFG_TWEN f) ∧ u.rd (SN_FNCFG_TWIN f) = t ∧ u.dev = .run then u.put (SN_FNST_WAITRUN f) false else u
    (if failed then s else (s.wr (SN_TWST_STATE t) 1).wr (SN_TWST_MCNT t) 0).updOutputs
  else
    let waived := (w.postA.isNone || w.postB.isNone) && s.on (SN_TWST_WAIVE t)
    let s := s.report clEng (0x300 + t) 1 12
    if failed then s.updOutputs
    else
      let m := if waived then s.rd (SN_TWST_MCNT t) else s.rd (SN_TWST_MCNT t) + 1
      let s := (s.wr (SN_TWST_STATE t) 2).wr (SN_TWST_MCNT t) m
      if m < 3 then s.updOutputs
      else s.failPair t

/-- R324: an accepted post of side b (A when false) with a SEQ and a value. -/
def acceptPost (s : State) (t : Nat) (b : Bool) (q v : Nat) : State :=
  let w := s.twin t
  let mine := if b then w.postB else w.postA
  let other := if b then w.postA else w.postB
  let openNew := fun (u : State) => u.modTwin t fun w =>
    { w with seq := q, openAt := some u.time, postA := if b then none else some v, postB := if b then some v else none }
  let add := fun (u : State) => u.modTwin t fun w => if b then { w with postB := some v } else { w with postA := some v }
  if w.openAt.isSome then
    if q = w.seq ∧ mine.isNone then (add s).closeRound t else openNew (s.closeRound t)
  else if q = w.seq ∧ mine.isNone ∧ other.isSome then add s
  else openNew s

/-- R323, R570: a refused post of side b (A when false). -/
def postRefused (s : State) (t : Nat) (b : Bool) : State :=
  s.report clCfg (0xF40 + t) 1 12 (addrData (if b then SN_TWRB t else SN_TWRA t).last)
/-- SN_TWRA, SN_TWRB (R323): a post from the named engine in SV mode, whole lockstep, with the next SEQ; another is no post. -/
def postTwin (s : State) (r : Requester) (t : Nat) (b : Bool) (v : Nat) : State :=
  let e := s.rd (if b then SN_TWCFG_ENGB t else SN_TWCFG_ENGA t)
  let fv := if b then SN_TWRB_VALUE t else SN_TWRA_VALUE t
  let fq := if b then SN_TWRB_SEQ t else SN_TWRA_SEQ t
  let q := fq.of v
  let any := if b then (s.twin t).freeB else (s.twin t).freeA
  if s.on (SN_TWCFG_EN t) ∧ reqEngine r = some e ∧ s.svMode r ∧ ¬s.split (e / 16) ∧ ¬s.on (PWR_ENGST_BROKEN e) ∧
      (any ∨ q = (s.rd fq + 1) % 16) then
    let s := ((s.wr fv (fv.of v)).wr fq q).modTwin t fun w => if b then { w with freeB := false } else { w with freeA := false }
    s.acceptPost t b q (fv.of v)
  else s.postRefused t b

/-! ### Checkpoints and takeover writes (R329, R331, R332) -/

/-- R329, R570: a refused commit. -/
def commitRefused (s : State) (e : Nat) : State := s.report clCfg 0xF24 1 13 (addrData (PWR_CKCMT e).last)
/-- PWR_CKCMT (R329): a commit from engine e in SV mode, or from the engine that took e over. -/
def commitCk (s : State) (r : Requester) (e v : Nat) : State :=
  let ok := match reqEngine r with
    | some x => s.svMode r && (x == e || (s.on (PWR_ENGST_FROMV x) && s.rd (PWR_ENGST_FROM x) == e))
    | none => false
  if ok then (s.softWrite (PWR_CKCMT_HALF e) ((PWR_CKCMT_HALF e).of v)).softWrite (PWR_CKCMT_SEQ e) ((PWR_CKCMT_SEQ e).of v)
  else s.commitRefused e
/-- PWR_ENGST.DONE (R331, R332): accepted from the engine itself while TAKING. -/
def takeoverDone (s : State) (r : Requester) (e : Nat) : State :=
  if reqEngine r = some e ∧ s.rd (PWR_ENGST_STATE e) = 3 then
    ((s.wr (PWR_ENGST_STATE e) 6).wr (PWR_ENGMAP_ROLE e) 1).put PWR_CLUST_RSVOK false
  else s

/-! ### Reserve check (R45, R326, R327) -/

/-- R327: the conditions on engine e. -/
def reserveOk (s : State) (e : Nat) : Bool :=
  s.role e == 0 ||
    (!s.split (e / 16) && s.rd (PWR_ENGST_STATE e) != 5 &&
      (s.role e != 1 ||
        (let x := s.rd (PWR_ENGMAP_SPARE e)
         s.role x == 2 && x / 16 != e / 16 && !s.split (x / 16) && s.rd (PWR_ENGST_STATE x) != 5 &&
          (List.range 128).all fun f => f == e || f / 16 != e / 16 || s.role f != 1 || s.rd (PWR_ENGMAP_SPARE f) != x)))
/-- R327: the reserve check. -/
def reserveCheck (s : State) : Bool := (List.range 128).all s.reserveOk
/-- R327: a HOST whose condition fails: an unusable one is replaced by its spare, another one runs without a spare. -/
def reserveFix (s : State) : State :=
  (s.each ((List.range 128).filter fun e => s.role e == 1 && !s.reserveOk e) fun t e =>
    let x := t.rd (PWR_ENGMAP_SPARE e)
    let t := if t.rd (PWR_ENGST_STATE e) = 5 ∧ t.engState x = 2 then
        ((t.wr (PWR_ENGMAP_ROLE x) 1).wr (PWR_ENGST_STATE x) 6).wr (PWR_ENGMAP_ROLE e) 0
      else t.modEng e fun g => { g with noSpare := true }
    t.report clEng 0x390 2 (4 + e / 16)).put PWR_CLUST_RSVOK false

end State

/-! ### Meanings -/

/-- LOCKSTEP_MISMATCH (R314, R330): `g` is the lowest differing group. -/
def execLockstepMismatch (e : Fin 128) (g : Fin 64) (s : State) : Out :=
  .next (if s.guarded e ∨ s.haltedNow e then
      ((s.wr (PWR_ENGST_GROUP e) g).report clEng e 2 (4 + e / 16)).stopFirst e 1
    else s)

/-- INPUT_FAULT (R319, R320): the samples of one input differed for `cycles` consecutive cycles. -/
def execInputFault (e : Fin 128) (cycles : Nat) (s : State) : Out :=
  .next (if s.guarded e ∨ s.haltedNow e then
      let s := s.wr (PWR_XDIS_COUNT e) (min 4095 (s.rd (PWR_XDIS_COUNT e) + cycles))
      if cycles < 4 then s else (s.report clEng (0x200 + e) 2 (4 + e / 16)).stopFirst e 2
    else s)


/-- ROUND_TIMEOUT (R324): SKEW × 10 µs after the round opened. -/
def execRoundTimeout (t : Fin 64) (s : State) : Out :=
  .next (if ((s.twin t).openAt).any fun o => decide (o + 160 * s.rd (SN_TWCFG_SKEW t) ≤ s.time) then s.closeRound t else s)


/-- SPARE_START (R330): a spare that is TAKING starts at the takeover vector once its cluster runs. -/
def execSpareStart (e : Fin 128) (s : State) : Out :=
  .next (if (s.eng e).tkWait ∧ s.rd (PWR_ENGST_STATE e) = 3 ∧ s.cluRuns (e / 16) then
      let f := s.rd (PWR_ENGST_FROM e)
      (s.modEng e fun g => { g with tkWait := false }).modCore (2 * e) fun c =>
        { c.start (s.rd PWR_TKVEC_VEC) with
          file := SMap.set 0 (SMap.set 0 [] (gKey 1) f) (gKey 2) (s.rd (PWR_ENGST_CAUSE f)) }
    else s)


/-- WAIVE_END (R333). -/
def execWaiveEnd (t : Fin 64) (s : State) : Out :=
  .next (if ((s.twin t).waive).any fun o => decide (o ≤ s.time) then
      (s.put (SN_TWST_WAIVE t) false).modTwin t fun w => { w with waive := none }
    else s)

/-- CLUSTER_LOST (R334, R335): its PLL (cause 0), its power switch (1), its fabric port (2), or two engines that stopped within 10 µs (3).
A cluster in retention or off has only its power switch. -/
def execClusterLost (k : Fin 8) (cause : Fin 4) (s : State) : Out :=
  let stops := ((List.range 16).map (16 * k.val + ·)).filterMap fun e => (s.eng e).stopAt
  let two := (stops.zipIdx).any fun a => (stops.zipIdx).any fun b => a.2 != b.2 && decide (a.1 ≤ b.1) && decide (b.1 ≤ a.1 + 160)
  let st := s.rd (PWR_CST_STATE k)
  .next (if s.bit PWR_CLUST_LOST k ∨ (st < 2 ∧ cause ≠ 1) ∨ (cause = 3 ∧ (s.split k ∨ ¬two)) then s
    else s.loseCluster k)

end Sys2Proof.Machine
end

