-- ==== Sys2Proof/Machine/Dma.lean ====
section
/-! DEFINITION. Descriptor DMA (spec/08_traps_and_ordering.md, R296 to R302, R310): the descriptors, the moves, the rings, and the
meanings of its rows. -/
namespace Sys2Proof.Machine
namespace State

/-! ### Descriptors -/

/-- R294: the CL_MEM source ID of a descriptor, and its CL_CFG source ID (R296, R297). -/
def dmaSrc (k c : Nat) : Nat := 0x200 + 32 * k + c
def dmaCfgSrc (k c : Nat) : Nat := 0xC80 + 32 * k + c
/-- R296: a refused write to a descriptor. -/
def dmaRefused (s : State) (k c : Nat) : State := s.report clCfg (dmaCfgSrc k c) 1 (4 + k)
/-- R310: STATE = ACTIVE. -/
def dmaActive (s : State) (k c : Nat) : Bool := s.rd (DSTAT_STATE k c) == 1
/-- R310: the core that ITGT names. -/
def dmaCore (s : State) (k c : Nat) : Nat :=
  let t := s.rd (DCFG_ITGT k c)
  if s.split k then 32 * k + t else 32 * k + 2 * (t % 16)

/-- R302: a descriptor ends with an error. A MOVE with IRQ = 1 sets its DMA line (R288). -/
def dmaIrq (s : State) (k c : Nat) : State :=
  if s.on (DCFG_IRQ k c) ∧ s.rd (DCFG_KIND k c) = 0 then s.raise (s.dmaCore k c) 2 else s
def dmaError (s : State) (k c err : Nat) : State :=
  let s := (s.wr (DSTAT_STATE k c) 3).wr (DSTAT_ERR k c) err
  (s.report clMem (dmaSrc k c) (if err = 2 then 2 else 1) (4 + k)).dmaIrq k c
def dmaDone (s : State) (k c : Nat) : State := ((s.wr (DSTAT_STATE k c) 2).wr (DSTAT_ERR k c) 0).dmaIrq k c

/-! ### Moves (R297) -/

/-- The last address of the region of a MOVE's address: own cluster memory or global memory. -/
def dmaEnd (a : Nat) : Option Nat :=
  match region a with
  | .cluster => some 0x0DFFFF
  | .global => some 0x2FFFFF
  | _ => none

/-- R297: the clipped length of a MOVE. -/
def dmaLen (s : State) (k c : Nat) : Nat :=
  let src := s.rd (DSRC_SRC k c)
  let dst := s.rd (DDST_DST k c)
  min (min (s.rd (DLEN_LEN k c)) (s.rd (DLIM_LIM k c) + 1 - dst))
    (min ((dmaEnd src).getD 0 + 1 - src) ((dmaEnd dst).getD 0 + 1 - dst))

/-- The words of a MOVE, by their numbers in the order given, until one meets an uncorrectable error (R302): the state, the number
moved, whether an error ended it. A memory that is off gives free values and takes none (R34). -/
def dmaCopy (s : State) (k src dst : Nat) : List Nat → Nat → State × Nat × Bool
  | [], m => (s, m, false)
  | i :: r, m =>
    let key := memKey k (src + i)
    let off := s.memOff (src + i)
    if ¬off ∧ s.isBad key then (s.eccEvent key, m, true)
    else
      let v := if off then (Config.freeValue s.free).toNat else s.peek key
      let s := if off then s.fresh else s
      dmaCopy (if s.memOff (dst + i) then s else s.poke (memKey k (dst + i)) v) k src dst r (m + 1)

/-- The words that an order names, each once, within the length. -/
def dmaOrder (len : Nat) (order : List Nat) : List Nat := (order.filter (· < len)).eraseDups
/-- A MOVE moves the words given and ends: DONE, or ERROR with its code; LEN reads the words moved (R297, R302). -/
def dmaMove (s : State) (k c : Nat) (words : List Nat) (stop : Bool) : State :=
  let r := s.dmaCopy k (s.rd (DSRC_SRC k c)) (s.rd (DDST_DST k c)) words 0
  let s := r.1.hwWrite (DLEN_LEN k c) r.2.1
  if r.2.2 then s.dmaError k c 2 else if stop then s.dmaError k c 4 else s.dmaDone k c

/-! ### Rings (R298 to R301) -/

/-- R298: the record length of a stream; 0 where the stream is reserved. -/
def streamLen (st : Nat) : Nat := if st < 4 then 100 else if st = 4 then 132 else if st < 8 then 0 else if st < 32 then 32 else if st < 56 then 8 else 0
/-- The stream of a descriptor. -/
def dmaStream (s : State) (k c : Nat) : Nat := s.rd (DSRC_SRC k c) % 64
/-- Descriptor c of cluster k is a RING that is active on a stream. -/
def ringOn (s : State) (k st c : Nat) : Bool := s.dmaActive k c && s.rd (DCFG_KIND k c) == 1 && s.dmaStream k c == st

/-- R296 to R301: the fields of a descriptor at GO are right. -/
def dmaFieldsOk (s : State) (k c : Nat) : Bool :=
  let src := s.rd (DSRC_SRC k c)
  let dst := s.rd (DDST_DST k c)
  let len := s.rd (DLEN_LEN k c)
  let ixa := s.rd (DLIM_LIM k c)
  let inOwn := fun a => region a == Region.cluster
  match s.rd (DCFG_KIND k c) with
  | 0 => (dmaEnd src).isSome && (dmaEnd dst).isSome
  | 1 =>
    let l := streamLen (src % 64)
    decide (src < 64) && l != 0 && len != 0 && len % l == 0 && inOwn dst && inOwn (dst + len - 1) &&
      (decide (4 < src) || decide (k < 2)) && !((List.range 32).any (s.ringOn k src)) &&
      ixa % 2 == 0 && inOwn ixa && (decide (ixa + 1 < dst) || decide (dst + len ≤ ixa))
  | _ => false

/-- R296, R297, R420: GO on a descriptor that is not active; in ERROR it is a use of rung 2. -/
def dmaStart (s : State) (k c : Nat) : State :=
  let s := if s.rd (DSTAT_STATE k c) = 3 then (s.bump (FC_RUNG_COUNT 1)).report clFc 0x022 0 13 else s
  let s := (((s.wr (DROP_COUNT k c) 0).wr (DWIDX_WIDX k c) 0).wr (DRIDX_RIDX k c) 0).wr (DSTAT_ERR k c) 0
  if ¬s.dmaFieldsOk k c then s.dmaError k c 3
  else if s.rd (DCFG_KIND k c) = 1 then
    { s.wr (DSTAT_STATE k c) 1 with flight := s.flight.set [] (64 * k + s.dmaStream k c) [] }
  else
    let len := s.rd (DLEN_LEN k c)
    let s := if s.dmaLen k c < len then (s.raiseFlag (DSTAT_CLIP k c)).report clCfg (dmaCfgSrc k c) 1 (4 + k) else s
    if len = 0 then s.dmaDone k c else s.wr (DSTAT_STATE k c) 1

/-- R302: STOP ends an active descriptor; the words of a MOVE moved by then are given. -/
def dmaStop (s : State) (k c : Nat) (moved : List Nat) : State :=
  if ¬s.dmaActive k c then s
  else if s.rd (DCFG_KIND k c) = 1 then s.dmaError k c 4
  else s.dmaMove k c (dmaOrder (s.dmaLen k c) moved) true

/-- DCMD (R296, R302): STOP acts on the transfer in progress; every other write to an active descriptor is refused. -/
def writeDcmd (s : State) (k c v : Nat) (moved : List Nat) : State :=
  let go := (DCMD_GO k c).of v == 1
  let refuse := (go || (DCMD_STOP k c).of v != 1) && s.dmaActive k c
  let s' := if (DCMD_STOP k c).of v = 1 then s.dmaStop k c moved else s
  if refuse then s'.dmaRefused k c else if go then s'.dmaStart k c else s'

/-- R296: a field of a descriptor takes a value while it is not active; a write that carries another is refused. -/
def writeDma (s : State) (k c : Nat) (fs : List Fld) (v : Nat) : State :=
  if s.dmaActive k c then s.dmaRefused k c
  else fs.foldl (fun (t : State) f => if f.acc = .rwh then t.softWrite f (f.of v) else t.wr f (f.of v)) s

/-- RIDX (R301): of a RING, refused where it is no multiple of the record length or not below SIZE. -/
def writeRidx (s : State) (k c v : Nat) : State :=
  if s.rd (DCFG_KIND k c) = 1 ∧ ¬(v < s.rd (DLEN_LEN k c) ∧ v % streamLen (s.dmaStream k c) = 0) then s.dmaRefused k c
  else s.wr (DRIDX_RIDX k c) v

/-- R300: the fill of a ring. -/
def ringFill (s : State) (k c : Nat) : Nat :=
  let size := s.rd (DLEN_LEN k c)
  (s.rd (DWIDX_WIDX k c) + size - s.rd (DRIDX_RIDX k c)) % size

/-- The words of a record at consecutive addresses. -/
def pokes (s : State) (key : Nat) (l : List Nat) : State := (l.zipIdx).foldl (fun t w => t.poke (key + w.2) w.1) s

/-- R205, R300: the ring takes a record of a length: the cluster runs, and it fits. -/
def ringTakes (s : State) (k c len : Nat) : Bool := s.cluRuns k && decide (s.ringFill k c + len ≤ s.rd (DLEN_LEN k c) - 1)
/-- R300, R301: a record arrives at an active RING: it is written whole, or dropped whole. -/
def ringRecord (s : State) (k c : Nat) (rec' : List Nat) : State :=
  let size := s.rd (DLEN_LEN k c)
  let w := s.rd (DWIDX_WIDX k c)
  let fill := s.ringFill k c
  if ¬s.ringTakes k c rec'.length then s.bump (DROP_COUNT k c)
  else
    let s := s.pokes (clusterKey k (s.rd (DDST_DST k c) + w)) rec'
    let w' := (w + rec'.length) % size
    let s := s.wr (DWIDX_WIDX k c) w'
    let s := if s.on (DCFG_IXEN k c) then s.pokes (clusterKey k (s.rd (DLIM_LIM k c))) [w' % 4096, w' / 4096] else s
    let mark := 2 * s.rd (DCFG_WM k c) * size / 8
    if s.rd (DCFG_WM k c) ≠ 0 ∧ fill < mark ∧ mark ≤ fill + rec'.length then s.raise (s.dmaCore k c) 3 else s

/-- A stream's record reaches the RING of a cluster that is active on it, where there is one. -/
def deliver (s : State) (k st : Nat) (rec' : List Nat) : State :=
  match (List.range 32).find? (s.ringOn k st) with
  | some c => s.ringRecord k c rec'
  | none => s

/-- A device time as four words (R299). -/
def timeWords (t : Nat) : List Nat := [t % 4096, t / 0x1000 % 4096, t / 0x1000000 % 4096, t / 0x1000000000 % 4096]

/-- R299: the converter frame of die d. -/
def converterFrame (s : State) (d : Nat) : List Nat :=
  timeWords s.devTime ++ (dieChannels d).flatMap fun n => [s.rd (CH_IRES_RESULT n), s.rd (CH_VRES_RESULT n)]
/-- R299: the three samples of one input in four words. -/
def packSamples (a b c : Nat) : List Nat := [a / 16, a % 16 * 256 + b / 256, b % 256 * 16 + c / 4096, c % 4096]
/-- R299: the Spotlight frame: the first of its samples was taken 8 ticks ago. -/
def spotFrame (s : State) : List Nat :=
  timeWords (s.devTime - 8) ++ (List.range 32).flatMap fun i =>
    match (s.optic i).frame with
    | [a, b, c] => packSamples a b c
    | _ => packSamples 0xFFFF 0xFFFF 0xFFFF
/-- R25: a record of stream `st` is on its way to K0 and to K1, to the RING of each that is active on the stream. -/
def sendStream (s : State) (st : Nat) (rec' : List Nat) : State :=
  s.each [0, 1] fun t k =>
    if (List.range 32).any (t.ringOn k st) then
      { t with flight := t.flight.set [] (64 * k + st) (t.flight.get [] (64 * k + st) ++ [rec']) }
    else t
/-- The oldest record on its way to cluster k arrives at its RING. -/
def arrive (s : State) (k c st : Nat) : State :=
  match s.flight.get [] (64 * k + st) with
  | [] => s
  | x :: r => ({ s with flight := s.flight.set [] (64 * k + st) r }).ringRecord k c x
/-- R56, R299: the conversion of channel n is the last of its die's frame, which is sent, or one before. -/
def frameConverted (s : State) (n : Nat) : State :=
  let d := n / 48
  let l := if (s.die d).conv.contains (n % 48) then (s.die d).conv else n % 48 :: (s.die d).conv
  if l.length < 48 then s.modDie d fun x => { x with conv := l }
  else (s.modDie d fun x => { x with conv := [] }).sendStream d (s.converterFrame d)
/-- R173, R299: the Spotlight frame is sent once every enabled input has its three samples. -/
def frameSpot (s : State) : State :=
  let en := (List.range 32).filter fun i => s.on (SPT_INCFG_EN i)
  if en.all fun i => (s.optic i).frame.length == 3 then
    (s.sendStream 4 s.spotFrame).each (List.range 32) fun t i => t.modOptic i fun o => { o with frame := [] }
  else s

/-- A restart of a cluster stops its descriptors (R310). -/
def dmaIdle (s : State) (k : Nat) : State :=
  s.each (List.range 32) fun t c => (t.wr (DSTAT_STATE k c) 0).wr (DSTAT_ERR k c) 0

end State

/-! ### Meanings -/

/-- MOVE_DONE (R297, R302): the MOVE copies its words, first those that the order names, then the rest in ascending order. -/
def execMoveDone (k : Fin 8) (c : Fin 32) (order : List Nat) (s : State) : Out :=
  let n := s.dmaLen k c
  let o := State.dmaOrder n order
  .next (if s.dmaActive k c ∧ s.rd (DCFG_KIND k c) = 0 then
      s.dmaMove k c (o ++ (List.range n).filter fun i => !o.contains i) false
    else s)

end Sys2Proof.Machine
end

