-- ==== Sys2Proof/Machine/Tightrope.lean ====
section
/-! DEFINITION. Tightrope (spec/06_tightrope.md): the effect of the writes to its registers, the sweeps and dwells, the findings, and
the meanings of its rows. -/
namespace Sys2Proof.Machine
/-- The map of a schedule for receiver r: cluster, window, enable. -/
def Trp.rxMap (p : Trp) (r : Nat) : Nat × Nat × Bool := (p.map.get none r).getD (r / 4 + 2, r / 4, false)
/-- R207: receiver r is due to sweep under a schedule, `lead` ticks from now. -/
def State.sweepDue (s : State) (p : Trp) (r lead : Nat) : Bool :=
  (p.rxMap r).2.2 && (if p.rate = 2 then s.dueOn 160000 (160000 - lead)
    else p.rate == 1 && s.dueOn 1600000 (160000 * (p.rxMap r).2.1 + 1600000 - lead))

namespace State

/-! ### Register writes (R200, R207, R214, R220, R221) -/

/-- TRP_CTL: a RATE of 0b11 and a CLK above 4 are flagged. -/
def writeTrpCtl (s : State) (v : Nat) : State :=
  let s := ((s.wr TRP_CTL_RATE (TRP_CTL_RATE.of v)).wr TRP_CTL_PARK (TRP_CTL_PARK.of v)).wr TRP_CTL_CLK (TRP_CTL_CLK.of v)
  let s := if TRP_CTL_RATE.of v = 3 then s.flag 0xD30000 0 2 else s
  if 4 < TRP_CTL_CLK.of v then s.flag 0xD30000 0 2 else s


/-- TRP_SLOTj: AMP is stored as the nearest bound; STSEL = 0b11 is flagged. -/
def writeTrpSlot (s : State) (r j v : Nat) : State :=
  let a := trrAddr r + 0x10 + j
  let amp := (TRP_SLOT_AMP r j).of v
  let amp' := max 4 (min 20 amp)
  let s := ((s.wr (TRP_SLOT_EN r j) ((TRP_SLOT_EN r j).of v)).wr (TRP_SLOT_STSEL r j) ((TRP_SLOT_STSEL r j).of v)).wr (TRP_SLOT_AMP r j) amp'
  let s := if amp' ≠ amp then s.flag a 0 2 else s
  if (TRP_SLOT_STSEL r j).of v = 3 then s.flag a 0 2 else s


/-- R214: the severity of a finding class. -/
def findingSev (c : Nat) : Nat := if c ≤ 2 then 2 else if c ≤ 4 then 1 else 0
/-- TRP_FPOST (R214, R215): a posting from an engine in SV mode; another, or one whose class or channel is out of range, is refused. -/
def postFinding (s : State) (r : Requester) (v : Nat) : State :=
  let ch := TRP_FPOST_CH.of v
  let c := TRP_FPOST_CLASS.of v
  if ¬s.svMode r ∨ c = 0 ∨ c = 7 ∨ 191 < ch then s.report clCfg 0xE7A 1 13 (addrData TRP_FPOST.last)
  else (s.report clHarn (8 * ch + c) (findingSev c) (ch / 48) [TRP_FPOST_DIST.of v]).bump TRP_FPCNT_COUNT

/-! ### The schedule (R207 to R210) -/

/-- The map in force for receiver r: cluster, window, enable. -/
def rxMap (s : State) (r : Nat) : Nat × Nat × Bool := s.trp.rxMap r
/-- The map as written. -/
def rxMapWritten (s : State) (r : Nat) : Nat × Nat × Bool :=
  (s.rd (TRP_RXMAP_CLU r), s.rd (TRP_RXMAP_WIN r), s.on (TRP_RXMAP_EN r))

/-- R208: under a map and a RATE no cluster receives more than four enabled receivers at once, and every WIN is at most 9. -/
def mapOk (m : List (Nat × Nat × Bool)) (rate : Nat) : Bool :=
  m.all (fun x => decide (x.2.1 ≤ 9)) &&
    (rate == 0 || (List.range 8).all fun k => (List.range 10).all fun w =>
      decide ((m.filter fun x => x.2.2 && x.1 == k && (rate != 1 || x.2.1 == w)).length ≤ 4))

/-- R210: sweeps of a rate may start in the device state. -/
def sweepState (s : State) (rate : Nat) : Bool :=
  match s.dev with
  | .run | .maint => rate == 1 || rate == 2
  | .watch => rate == 1 && s.on TRP_CTL_PARK
  | _ => false
/-- R207, R208: the schedule that the next multiple of 1,600,000 ticks brings: the written RATE and map where they hold the limit; else
the map in force, under the written RATE where it holds the limit. The second result: the written map is taken. -/
def nextTrp (s : State) : Trp × Bool :=
  let rate := if s.rd TRP_CTL_RATE = 3 then 0 else s.rd TRP_CTL_RATE
  if mapOk ((List.range 24).map s.rxMapWritten) rate then
    ({ s.trp with rate := rate, map := (List.range 24).foldl (fun m r => m.set none r (some (s.rxMapWritten r))) [] }, true)
  else ({ s.trp with rate := if mapOk ((List.range 24).map s.rxMap) rate then rate else s.trp.rate }, false)
/-- R209: the schedule that holds at device time t, at most 100 µs from now. -/
def trpAt (s : State) (t : Nat) : Trp := if t % 1600000 < 1600 ∧ s.devTime / 1600000 ≠ t / 1600000 then s.nextTrp.1 else s.trp

/-- TRP_STAT shows the sweeps in progress. -/
def showSweep (s : State) : State :=
  let act := (List.range 24).any fun r => (s.rx r).sweep
  (s.put TRP_STAT_SWEEP act).wr TRP_STAT_WIN (if act ∧ s.trp.rate = 1 then s.devTime % 1600000 / 160000 else 0)

/-- The sweep period that ends with period p of 10 ms is counted, once (R220). -/
def countSweep (s : State) (p : Nat) : State :=
  if s.trp.count = p then s
  else ({ s with trp := { s.trp with count := p } }).wr TRP_SWCNT_COUNT (s.rd TRP_SWCNT_COUNT + 1)

/-! ### Dwells (R199 to R206) -/

/-- R49, R200: the state that a dwell on channel n serves: 1 ON, 2 OFF, 3 BK. -/
def servedState (s : State) (n : Nat) : Nat :=
  if s.topo n = 2 then 3
  else if s.tripped n ∨ ¬s.on (CH_CFG_EN (s.head n)) ∨ (s.latched n ∧ s.safeState n = 0) ∨ (¬s.latched n ∧ s.activeKind (s.head n) = 1) then 2
  else match s.rd (TRP_SLOT_STSEL (n / 8) (n % 8)) with
    | 1 => 1
    | 2 => 2
    | _ => if s.dutyN n ≤ 2 * s.genDuty n then 1 else 2

/-- R206: the loopback self-check of receiver r. -/
def loopback (s : State) (r : Nat) (pass : Bool) : State :=
  let s := s.put (TRP_RSTAT_FAULT r) !pass
  if pass then s else s.report clHarn (0x600 + r) 1 (r / 6)

/-- R199: a dwell starts on the slot that device time gives. -/
def startDwell (s : State) (r : Nat) (pass : Bool) : State :=
  let j := s.devTime % 160000 / 20000
  let n := 8 * r + j
  let skip := !s.on (TRP_SLOT_EN r j) || s.on (CH_ADJR_BUSY n) || !s.diePowered (n / 48)
  let s := s.modGen n fun g => { g with trace := [⟨s.time, g.hg, deadTime g, false⟩] }
  let s := s.modRx r fun x =>
    { x with busy := true, slot := j, startAt := s.time, devAt := s.devTime, skip := skip, disrupt := false, stopAt := none, selfFail := !pass,
             state := s.servedState n, amp := s.rd (TRP_SLOT_AMP r j), block := 0, ovr := false }
  (((s.wr (TRP_RSTAT_SLOT r) j).wr (TRP_RSTAT_STATE r) (s.servedState n)).put (TRP_RSTAT_BUSY r) true).loopback r pass

/-- R199: sample i of a dwell belongs to the code periods. -/
def inProbe (i : Nat) : Bool := decide (8000 ≤ i) && decide (i < 499040)
/-- R195, R199: what receiver r injects into the wire at sample i of its dwell, in millivolts: the chips of its code at the slot's
amplitude, and nothing outside the code periods, in a SKIP dwell, and once DISRUPT is flagged. -/
def injection (s : State) (r i : Nat) : Int :=
  let x := s.rx r
  if x.busy ∧ inProbe i ∧ ¬x.skip ∧ ¬x.disrupt then chipSign (chip x.cidx ((i - 8000) % 1023)) * (5 * x.amp : Nat) else 0
/-- R200: the gates, as they are from step `e` on, let a sample of a dwell that serves state `st` be valid, once the last edge lies 1 µs
back. -/
def serves (st : Nat) (e : GateStep) : Bool := st == 3 || (e.hg == (st == 1) && !e.dead)
/-- The device time from which samples are clear of a gate edge (R200). -/
def clearFrom (st : Nat) (e : GateStep) : Nat := if st ≠ 3 ∧ e.edge then e.since + 16 else 0
/-- R199 to R201: sample i of receiver r's dwell is valid, by what the gates were at its device time. -/
def probed (s : State) (r i : Nat) : Bool :=
  let x := s.rx r
  let t := x.startAt + i / 25
  let past := (s.gen (8 * r + x.slot)).trace.filter fun e => decide (e.since ≤ t)
  inProbe i && !x.skip && (x.stopAt.all fun z => decide (t < z)) && (past.head?.any (serves x.state)) &&
    past.all fun e => decide (clearFrom x.state e ≤ t)
/-- The samples of the code periods of a dwell that began at `start`, from device time a until b. -/
def probeSpan (start a b : Nat) : Nat := min 499040 (25 * (b - start)) - max 8000 (25 * (a - start))
/-- R199 to R201, R203: the valid samples of a dwell, until device time `stop`, that began at `start` and serves state `st`, over the steps
of its gates, oldest first; none before `from'` is clear of an edge. -/
def validSamples (start st stop : Nat) : List GateStep → Nat → Nat
  | [], _ => 0
  | e :: r, from' =>
    let from' := max from' (clearFrom st e)
    let next := match r with | [] => stop | f :: _ => min stop f.since
    (if serves st e then probeSpan start (max e.since from') next else 0) + validSamples start st stop r from'
/-- R203: the number of valid probed samples of receiver r's dwell, those that no ring took among them. -/
def validOf (s : State) (r : Nat) : Nat :=
  let x := s.rx r
  if x.skip then 0
  else validSamples x.startAt x.state (x.stopAt.getD (x.startAt + 20000)) (s.gen (8 * r + x.slot)).trace.reverse 0
/-- R198: the words of block b of receiver r's dwell: what the converter sees, in LSB, held within 0x801 to 0x7FF, or 0x800. -/
def sampleBlock (s : State) (r b : Nat) (raw : List Int) : List Nat :=
  (List.range 32).map fun j => if s.probed r (32 * b + j) then wrap 12 (max (-2047) (min 2047 (raw.getD j 0))) else 0x800
/-- R198, R202, R204, R205: the block of receiver r that is complete now reaches RING descriptor c of the cluster that the map names; the
blocks between it and the one before are lost, and so is one that the ring does not take. -/
def receiverBlock (s : State) (k c r : Nat) (raw : List Int) : State :=
  let x := s.rx r
  let b := (s.time - x.startAt) * 25 / 32
  if ¬x.busy ∨ (s.rxMap r).1 ≠ k ∨ b ≤ x.block ∨ 15625 < b then s
  else
    let ws := s.sampleBlock r (b - 1) raw
    (s.ringRecord k c ws).modRx r fun y =>
      { y with block := b, ovr := y.ovr || x.block + 1 < b || !s.ringTakes k c 32 }

/-- R203: the dwell record, with the number of valid samples. -/
def dwellRecord (x : Rx) (r : Nat) (ovr : Bool) (valid : Nat) : List Nat :=
  [8 * r + x.slot + 256 * x.state,
   x.skip.toNat + 2 * x.disrupt.toNat + 4 * ovr.toNat + 8 * x.selfFail.toNat + 16 * (decide (valid < 441936)).toNat] ++
  timeWords (x.devAt + 320) ++ [valid % 4096, valid / 4096]

/-- R201, R203, R205: the dwell of receiver r ends and its record goes out; a sample that no ring took was lost. -/
def endDwell (s : State) (r : Nat) : State :=
  let x := s.rx r
  let k := (s.rxMap r).1
  let ovr := x.ovr || decide (x.block < 15625)
  let first := ovr && !s.on (TRP_RSTAT_OVR r)
  let s := if ovr then s.raiseFlag (TRP_RSTAT_OVR r) else s
  let s := if first then s.report clHarn (0x640 + r) 0 (r / 6) else s
  let s := if x.skip ∨ x.disrupt ∨ ovr ∨ x.selfFail then s.bump (TRP_SKIP_COUNT r x.slot) else s
  let s := s.deliver k (32 + r) (dwellRecord x r ovr (s.validOf r))
  let s := (s.modGen (8 * r + x.slot) fun g => { g with trace := [] }).modRx r fun x =>
    { x with busy := false, sweep := x.sweep && x.slot != 7 }
  let s := ((s.put (TRP_RSTAT_BUSY r) false).wr (TRP_RSTAT_STATE r) 0).showSweep
  if x.slot = 7 ∧ s.trp.rate = 2 then s.countSweep (x.devAt / 160000 + 1) else s

/-- R210: entry into SAFE stops every probe: the dwells in progress carry DISRUPT, and no sweep goes on. -/
def stopSweeps (s : State) : State :=
  (s.each (List.range 24) fun t r =>
    if (t.rx r).sweep ∨ (t.rx r).busy then
      t.modRx r fun x =>
        { x with sweep := false, disrupt := x.disrupt || x.busy, stopAt := if x.busy then some (x.stopAt.getD s.time) else x.stopAt }
    else t).showSweep

end State

/-! ### Meanings -/

/-- SWEEP_START (R207, R210): a receiver's window begins; its code index comes into force. -/
def execSweepStart (r : Fin 24) (s : State) : Out :=
  .next (if s.sweepDue s.trp r 0 ∧ s.sweepState s.trp.rate ∧ ¬(s.rx r).sweep then
      (s.modRx r fun x => { x with sweep := true, cidx := s.rd (TRP_RCFG_CIDX r) }).showSweep
    else s)

/-- DWELL_START (R199, R200, R206, R210): in a device state without sweeps the sweep ends here. -/
def execDwellStart (r : Fin 24) (pass : Bool) (s : State) : Out :=
  .next (if (s.rx r).sweep ∧ ¬(s.rx r).busy ∧ s.dueOn 20000 0 then
      if s.sweepState s.trp.rate then s.startDwell r pass else (s.modRx r fun x => { x with sweep := false }).showSweep
    else s)

/-- DWELL_END (R199, R201, R203, R205), after 20,000 always-on ticks; a tick that device time gains brings the start of the next dwell, and
so the end of this one, a tick earlier (DESIGN CHOICE). -/
def execDwellEnd (r : Fin 24) (s : State) : Out :=
  .next (if (s.rx r).busy ∧ (s.rx r).startAt + 20000 ≤ s.time ∨ ((s.rx r).busy ∧ (s.rx r).startAt + 19920 ≤ s.time ∧ s.dueOn 20000 0) then s.endDwell r else s)

/-- SWEEP_WAKE (R209, R210, R36): the start of a cluster is requested 100 µs before its first dwell of a sweep; one that cannot start
is recorded for each of its receivers. -/
def execSweepWake (k : Fin 8) (fails : Bool) (s : State) : Out :=
  let p := s.trpAt (s.devTime + 1600)
  let rs := (List.range 24).filter fun r => (p.rxMap r).1 == k && s.sweepDue p r 1600
  .next (if rs = [] ∨ ¬s.sweepState p.rate then s
    else if fails ∨ s.bit PWR_CLUST_LOST k then s.each rs fun t r => t.report clHarn (0x620 + r) 0 (r / 6)
    else s.requestStart k 1 (if s.rd TRP_CTL_CLK ≤ 4 then s.rd TRP_CTL_CLK else 2))

/-- MAP_CHANGE (R207, R208): at a multiple of 1,600,000 ticks the written RATE and map come into force where they hold the limit; else
the map in force stays, under the written RATE where it holds the limit. A patrol period has ended, and a vigil period whose
last dwell ends now. -/
def execMapChange (s : State) : Out :=
  .next (if ¬s.dueOn 1600000 0 then s
    else
      let last := (List.range 24).any fun r => (s.rx r).sweep && (s.rx r).busy && (s.rx r).slot == 7
      let s := if (s.trp.rate = 1 ∧ s.sweepState 1) ∨ (s.trp.rate = 2 ∧ last) then s.countSweep (s.devTime / 160000) else s
      let p := s.nextTrp
      let s := { s with trp := p.1 }
      if p.2 then s else (s.raiseFlag TRP_STAT_MAPERR).report clCfg 0xC48 1 13)


end Sys2Proof.Machine
end

