-- ==== Sys2Proof/Machine/Collector.lean ====
section
/-! DEFINITION. The fault collector (spec/11_fault_collector.md): the scope of an event and its reaction, entry into SAFE, escalation,
token buckets and storms, records, ERR_N and SAFE_OK, acknowledgement, and the meanings of its rows. -/
namespace Sys2Proof.Machine

/-- R398: the scope of an event. -/
inductive Scope
  | chan (n : Nat) | die (d : Nat) | aspect (a : Nat) | optic (i : Nat) | spotlight | none | engine (e cause : Nat) | twin (t : Nat)
  | cluster (k : Nat) | pin (i : Nat) | pair (p : Nat) | tp (k : Nat) | fn (f : Nat) | output (o : Nat) | device
  deriving DecidableEq, Repr

/-- R398: a source ID 0xC00 + 16d + k names a channel die. -/
def dieScope (src : Nat) : Scope := if 0xC00 ≤ src ∧ src < 0xC40 then .die ((src - 0xC00) / 16) else .device
/-- R398 for CL_CHAN, CL_PROOF and CL_SIN. -/
def chanScope (src : Nat) : Scope :=
  if src < 0xC00 then .chan (src / 16) else if 0xD00 ≤ src ∧ src < 0xDC0 then .chan (src - 0xD00) else dieScope src
def proofScope (src : Nat) : Scope :=
  if src < 0x300 then .chan (src / 4) else if src < 0x340 then .aspect (src - 0x300)
  else if src < 0x380 then .optic ((src - 0x340) / 2) else if src = 0x380 then .spotlight else .device
def sinScope (src : Nat) : Scope :=
  if src < 0x20 then .pin src
  else if 0x40 ≤ src ∧ src < 0x60 then .pair (src - 0x40)
  else if 0x60 ≤ src ∧ src < 0x68 then .tp (src - 0x60)
  else if 0x80 ≤ src ∧ src < 0x100 ∧ src % 32 < 24 then .fn (src % 32)
  else if 0x100 ≤ src ∧ src ≤ 0x11A then .output (src - 0x100)
  else if 0x120 ≤ src ∧ src < 0x140 then .pair (src - 0x120)
  else .device
/-- R398 for CL_ENG: an engine with the CAUSE that its event records (R314, R320, R282, R339); 7 keeps the register's value. -/
def engScope (src : Nat) : Scope :=
  if src < 0x80 then .engine src 1
  else if src < 0x100 then .engine (src - 0x80) 3
  else if src < 0x180 then .engine (src - 0x100) 7
  else if src < 0x200 then .engine (src - 0x180) 6
  else if src < 0x280 then .engine (src - 0x200) 2
  else if src < 0x300 then .engine (src - 0x280) 7
  else if src < 0x380 then .twin (src % 64)
  else if src < 0x388 then .cluster (src - 0x380)
  else if 0x3C0 ≤ src ∧ src < 0x400 then .twin (src - 0x3C0)
  else .device
/-- R398 for CL_MEM. -/
def memScope (src : Nat) : Scope :=
  if src < 0x100 then .engine (src / 2) 4
  else if 0x180 ≤ src ∧ src < 0x200 then .engine (src - 0x180) 7
  else if 0x300 ≤ src ∧ src < 0x380 then .engine (src - 0x300) 7
  else .device

/-- R398: the scope of an event by its class and source ID. -/
def scopeOf (cls src : Nat) : Scope :=
  match cls with
  | 0 => chanScope src
  | 1 => proofScope src
  | 2 => .none
  | 3 => engScope src
  | 4 => memScope src
  | 5 => if 4 ≤ src ∧ src < 8 then .die (src - 4) else .device
  | 6 => dieScope src
  | 7 => if src < 0xC00 ∧ src % 16 = 3 then .chan (src / 16) else dieScope src
  | 8 => sinScope src
  | 9 => if 0xC50 ≤ src ∧ src < 0xC54 then .die (src - 0xC50) else .device
  | 10 => if src < 0xC00 then .chan (src / 16) else dieScope src
  | _ => .device

namespace State

def modColl (s : State) (f : Coll → Coll) : State := { s with coll := f s.coll }

/-! ### ERR_N (R415, R416) -/

/-- R415, R416: the level of ERR_N: low in SAFE and during a pulse, else as firmware set it; released in SLEEP. -/
def updErrn (s : State) : State :=
  s.put FC_ERRN_PIN (s.dev = .sleep || !(s.dev == .safe || s.on FC_ERRN_HWP || s.on FC_ERRN_FWLOW))
/-- R415: an event at or above ERRSEV starts or extends the pulse. -/
def pulseErrn (s : State) : State := ((s.modColl fun c => { c with errAt := some s.time }).put FC_ERRN_HWP true).updErrn

/-! ### SAFE (R34, R401) -/

/-- R34, R401: cluster k stops: no core of it executes, its memory is not kept. -/
def stopCluster (s : State) (k : Nat) : State :=
  let s := ((s.wr (PWR_CST_STATE k) 0).dropCluster k).each ((List.range 16).map (16 * k + ·)) fun t e =>
    t.haltCores e
  s.freezeCluster k

/-- R401, R6: the reaction of a final severity of S4, for the event named; a re-entry under way is abandoned. -/
def safeEntry (s : State) (ev : Nat) : State :=
  if s.dev = .safe then s
  else
    let s := s.setLatches channels 3 (some ev)
    let s := s.each (List.range 24) fun t f =>
      if t.rd (SN_FNCFG_TYPE f) = 0 ∨ t.rd (SN_FNST_STATE f) = 7 then t else (t.report clSin (0x080 + f) 3 12).enterFn f 7
    let s := { (s.transition .safe).stopSweeps with pair := { s.pair with instant := none, agreed := false, deferTo := none } }
    let s := s.each ((List.range 8).filter fun k => k != s.rd FC_CFG_FHCLU) fun t k => t.stopCluster k
    ((s.raiseBit HIF_IPEND_LINES 10).updErrn).updOutputs

/-- R397, R401: an event of base severity S4 is reported, and the device enters SAFE at once. -/
def reportS4 (s : State) (cls src path : Nat) (data : List Nat := []) : State :=
  let s := s.report cls src 4 path data
  s.safeEntry s.lastEv

/-! ### Scope reactions (R398) -/

/-- R398: functions go to FAULT with FCAUSE = second fault. -/
def faultFns (s : State) (fs : List Nat) : State :=
  (s.each (fs.filter fun f => s.rd (SN_FNCFG_TYPE f) != 0) fun t f => if t.rd (SN_FNST_STATE f) = 7 then t.wr (SN_FNST_FCAUSE f) 2 else t.faultFn f 2).updOutputs
/-- The functions that read one of the pairs given. -/
def fnsOf (s : State) (ps : List Nat) : List Nat := (List.range 24).filter fun f => (s.fnPairs f).any ps.contains
/-- R398: an output is held de-energised: SO0 to SO7 by 0x100 + k, 0x108 + k and 0x110 + k, the STO lines, ADREQ. -/
def holdOutput (s : State) (o : Nat) : State :=
  (if o < 24 then
    (s.modSio fun x => { x with soHeld := if x.soHeld.contains (o % 8) then x.soHeld else o % 8 :: x.soHeld }).raiseBit SN_SOFLT_SO (o % 8)
  else if o < 26 then (s.modSio fun x => { x with stoHeld := true }).raiseFlag (if o = 24 then SN_SOFLT_STOA else SN_SOFLT_STOB)
  else (s.modSio fun x => { x with adHeld := true }).raiseFlag SN_SOFLT_AD).updOutputs

/-- R397, R398: the S3 reaction of a scope, for the event named. -/
def scopeReact (s : State) (x : Scope) (ev : Nat) : State :=
  match x with
  | .chan n => s.setLatches [n] 3 (some ev)
  | .die d => s.setLatches (dieChannels d) 3 (some ev)
  | .aspect a => s.setLatches (s.members a) 3 (some ev)
  | .optic i => s.setLatches (channels.filter fun n =>
      s.rd (CH_PCFG_INP n) == i || (s.on (CH_PCFG2_SEN n) && s.rd (CH_PCFG_INS n) == i)) 3 (some ev)
  | .spotlight => s.setLatches (channels.filter fun n => s.on (CH_PCFG_OREQ n)) 3 (some ev)
  | .none => s
  | .engine e cause =>
    if s.rd (PWR_ENGST_STATE e) = 4 then s
    else s.stopEngine e (if cause = 7 then s.rd (PWR_ENGST_CAUSE e) else cause)
  | .twin t => if s.rd (SN_TWST_STATE t) = 3 then s else s.failPair t
  | .cluster k => if s.bit PWR_CLUST_LOST k then s else s.loseCluster k
  | .pin i => s.faultFns (s.fnsOf [i / 2])
  | .pair p => s.faultFns (s.fnsOf [p])
  | .tp k => s.faultFns (s.fnsOf ((List.range 16).filter fun p => s.rd (SN_IPCFG_TPA p) == k || s.rd (SN_IPCFG_TPB p) == k))
  | .fn f => s.faultFns [f]
  | .output o => s.holdOutput o
  | .device => s.safeEntry ev

/-! ### Records (R412 to R414) -/

/-- R412: the ring accepts a record of a final severity. -/
def ringAccepts (s : State) (sev : Nat) : Bool :=
  let free := 512 - s.coll.ring.length
  if 3 ≤ sev then decide (1 ≤ free) else decide (16 ≤ free)
/-- The sequence number of the next record (R395). -/
def nextSeq (s : State) : Nat := s.coll.records % 4096
/-- R412 to R414: twelve words enter the ring at FC_LWIDX. -/
def putRecord (s : State) (sev : Nat) (l : List Nat) : State :=
  let w := s.rd FC_LWIDX_INDEX
  let s := (l.zipIdx).foldl (fun t x => t.wr (FC_LOG_WORD (12 * w + x.2)) x.1) s
  let s := if s.coll.unread = 512 then s.bump FC_LLOST_VALUE else s
  let s := (s.wr FC_LWIDX_INDEX (w + 1)).modColl fun c =>
    { c with ring := c.ring ++ [sev], records := c.records + 1, unread := min 512 (c.unread + 1), held := min 512 (c.held + 1) }
  (s.wr FC_SEQ_VALUE s.coll.records).wr FC_STAT_MAXSEV (max (s.rd FC_STAT_MAXSEV) sev)

/-- R413: a storm record. -/
def stormRecord (s : State) (a : Storm) : List Nat :=
  timeWords a.first ++ [a.cls + 16 * a.sev + 128 * a.esc.toNat + (if a.src < 4096 then 1024 else 2048), min a.src 4095, s.nextSeq,
    min 4095 a.count] ++ timeWords a.last
/-- The events that wait in an accumulator are counted in the record made next (R404). -/
def closeAcc (s : State) (a : Storm) : State :=
  s.modColl fun c => { c with opens := c.opens.map fun o =>
    if o.cls = a.cls ∧ o.rec' = none ∧ o.acc = a.src then { o with rec' := some c.records } else o }
def dropAcc (s : State) (cls src : Nat) : State :=
  s.modColl fun c => { c with storms := c.storms.filter (fun a => !(a.cls == cls && a.src == src)), noAcc := c.noAcc && src == 4096 }
def acc (s : State) (cls src : Nat) : Option Storm := s.coll.storms.find? fun a => a.cls == cls && a.src == src

/-- R411, R413: the class accumulator emits a class storm record, where the ring accepts it (R412); events beyond the 4,095 that one record
counts stay in it. -/
def emitClass (s : State) (cls : Nat) : State :=
  match s.acc cls 4096 with
  | none => s
  | some a =>
    if ¬s.ringAccepts a.sev then
      s.modColl fun c => { c with storms := c.storms.map fun b => if b.cls = cls ∧ b.src = 4096 then { b with since := s.time } else b }
    else
      let t := (((s.closeAcc a).putRecord a.sev (s.stormRecord a)).bump FC_STORMCNT_VALUE).dropAcc cls 4096
      if a.count ≤ 4095 then t
      else t.modColl fun c => { c with storms := c.storms ++ [{ a with count := a.count - 4095, since := s.time }] }

/-- R410, R411: an accumulator joins another: the sum of two. -/
def joinStorm (a b : Storm) : Storm :=
  { a with count := a.count + b.count, first := min a.first b.first, last := max a.last b.last, sev := max a.sev b.sev,
           esc := a.esc || b.esc }
/-- An accumulator takes coalesced events. -/
def addStorm (s : State) (b : Storm) : State :=
  if (s.acc b.cls b.src).isSome then
    s.modColl fun c => { c with storms := c.storms.map fun a => if a.cls = b.cls ∧ a.src = b.src then joinStorm a b else a }
  else s.modColl fun c => { c with storms := c.storms ++ [b] }
/-- R409, R411, R412: events go to the class accumulator. -/
def toClass (s : State) (b : Storm) : State :=
  let s := s.addStorm { b with src := 4096, since := s.time }
  if 4095 ≤ ((s.acc b.cls 4096).map Storm.count).getD 0 then s.emitClass b.cls else s

/-- R411: a source accumulator emits its storm record; where the ring refuses it, its events join the class accumulator (R412). -/
def emitSource (s : State) (cls src : Nat) : State :=
  match s.acc cls src with
  | none => s
  | some a =>
    if s.ringAccepts a.sev then
      ((((s.closeAcc a).putRecord a.sev (s.stormRecord a)).bump FC_STORMCNT_VALUE).dropAcc cls src)
    else
      (((s.modColl fun c => { c with opens := c.opens.map fun o =>
        if o.cls = cls ∧ o.rec' = none ∧ o.acc = src then { o with acc := 4096 } else o }).dropAcc cls src).toClass a)

/-! ### Token buckets (R410) -/

def bucket (s : State) (cls src : Nat) : Bucket := s.coll.buckets.get {} (4096 * cls + src)
def setBucket (s : State) (cls src : Nat) (b : Bucket) : State :=
  s.modColl fun c => { c with buckets := c.buckets.set {} (4096 * cls + src) b }
/-- R410: the bucket of a source holds a token. -/
def hasToken (s : State) (cls src : Nat) : Bool := decide ((s.bucket cls src).missing < s.rd (FC_TB_DEPTH cls))
def takeToken (s : State) (cls src : Nat) : State :=
  let b := s.bucket cls src
  s.setBucket cls src ⟨b.missing + 1, if b.missing = 0 then s.time else b.since⟩
/-- FC_TBc.REFILL in ticks. -/
def refillTicks (s : State) (cls : Nat) : Nat := 16000 * s.rd (FC_TB_REFILL cls)

/-- R410, R411: a coalesced event: its source's accumulator, or the class accumulator where all 64 are in use. -/
def coalesce (s : State) (b : Storm) : State × Nat :=
  if (s.acc b.cls b.src).isSome ∨ (s.coll.storms.filter (·.src < 4096)).length < 64 then
    let s := s.addStorm b
    (if ((s.acc b.cls b.src).map Storm.count).getD 0 = 4095 then s.emitSource b.cls b.src else s, b.src)
  else
    let s := if s.coll.noAcc then s else (s.modColl fun c => { c with noAcc := true }).report clFc 0x031 1 13
    (s.toClass b, 4096)

/-! ### Escalation and recording (R402 to R406) -/

/-- A class holds an open event. -/
def classOpen (s : State) (cls : Nat) : Bool := s.coll.opens.any (·.cls == cls)
def openClasses (s : State) : List Nat := (List.range 12).filter s.classOpen
/-- R406: the open state as it stood at the start of the cycle. -/
def cycleOpen (s : State) : State × List Nat :=
  match s.coll.cycle with
  | some (t, l) => if t = s.time then (s, l) else (s.modColl fun c => { c with cycle := some (s.time, s.openClasses) }, s.openClasses)
  | none => (s.modColl fun c => { c with cycle := some (s.time, s.openClasses) }, s.openClasses)
/-- R399, R405: the final severity, and whether the event is escalated. -/
def finalSev (l : List Nat) (e : Ev) : Nat × Bool :=
  if 1 ≤ e.sev ∧ e.sev < 4 ∧ l.contains e.cls then
    (if e.sev = 2 ∧ scopeOf e.cls e.src = .device then 4 else e.sev + 1, true)
  else (e.sev, false)
/-- R408: the final severity of an event, as the dedicated line judged it, or against the open classes given. -/
def judged (s : State) (l : List Nat) (e : Ev) : Nat × Bool :=
  match s.coll.lined.find? (·.1 == e.id) with
  | some x => x.2
  | none => finalSev l e

/-- R404: the open count and highest severity of every class. -/
def showOpen (s : State) : State :=
  s.each (List.range 12) fun t c =>
    let l := t.coll.opens.filter (·.cls == c)
    (t.wr (FC_OPEN_COUNT c) (min 511 l.length)).wr (FC_OPEN_MAXSEV c) ((l.map OpenEv.sev).foldl max 0)

/-- R419: the FAULT line of the core routed for a class. -/
def routeFault (s : State) (cls sev : Nat) : State :=
  if ¬s.on (FC_ROUTE_EN cls) ∨ sev < s.rd (FC_ROUTE_MINSEV cls) then s
  else
    let e := s.rd (FC_ROUTE_ENG cls)
    if s.rd (PWR_ENGST_STATE e) = 4 ∨ s.rd (PWR_ENGST_STATE e) = 5 ∨ s.split (e / 16) then
      match ((List.range 16).map (16 * s.rd FC_CFG_FHCLU + ·)).find? fun x => s.engState x == 1 || s.engState x == 6 with
      | some x => s.raise (2 * x) 0
      | none => s
    else s.raise (2 * e) 0

/-- R397, R398: the collector's reaction to an event raised from S2 to S3, or at S4. -/
def react (s : State) (e : Ev) (sev : Nat) (esc : Bool) : State :=
  if sev = 4 then s.safeEntry e.id
  else if sev = 3 ∧ esc ∧ e.sev = 2 then s.scopeReact (scopeOf e.cls e.src) e.id
  else s

/-- R396, R415, R419, R534: the notifications of a final severity. -/
def notify (s : State) (e : Ev) (sev : Nat) : State :=
  let s := if s.rd FC_CFG_ERRSEV ≤ sev then s.pulseErrn else s
  let s := s.routeFault e.cls sev
  let s := if 1 ≤ sev then s.startRouted 1 2 else s
  if s.rd HIF_CTL_FSEV ≤ sev then s.raiseBit HIF_IPEND_LINES 8 else s

/-- An event is open (R404): in the record given, or in an accumulator. -/
def addOpen (s : State) (e : Ev) (sev : Nat) (rec' : Option Nat) (acc : Nat) : State :=
  if sev = 0 then s else s.modColl fun c => { c with opens := c.opens ++ [⟨e.id, e.cls, sev, s.time, rec', acc⟩] }
def stormOf (s : State) (e : Ev) (sev : Nat) (esc : Bool) : Storm := ⟨e.cls, e.src, s.time, 1, e.dev, e.dev, sev, esc⟩

/-- R403, R413: the record of one event. -/
def recordEvent (s : State) (e : Ev) (sev : Nat) (esc sim : Bool) : State :=
  let first := decide (1 ≤ sev) && !s.on FC_FIRST_VALID
  let q := s.nextSeq
  let s := if first then
      ((((s.wr FC_FIRST_CLASS e.cls).wr FC_FIRST_SEV sev).put FC_FIRST_VALID true).put FC_FIRST_ESC esc |>.wr FC_FIRST_SOURCE e.src).wr FC_FIRST_SEQ q
    else s
  (s.addOpen e sev (some s.coll.records) 0).putRecord sev
    (timeWords e.dev ++ [e.cls + 16 * sev + 128 * e.sev, e.src, q, esc.toNat + 2 * first.toNat + 4 * sim.toNat] ++ padTo 4 e.data)

/-- R404 to R412: one event is recorded, coalesced or, dropped from its path, counted; then it reacts, where the dedicated line has not made
its reaction before (R408). -/
def takeEvent (s : State) (e : Ev) (sev : Nat) (esc sim dropped : Bool) : State :=
  let s :=
    if dropped then ((s.addOpen e sev none 4096).bump FC_PATHOVF_VALUE).toClass (s.stormOf e sev esc)
    else if s.hasToken e.cls e.src then
      let s := s.takeToken e.cls e.src
      if s.ringAccepts sev then s.recordEvent e sev esc sim
      else (s.addOpen e sev none 4096).toClass (s.stormOf e sev esc)
    else
      let full := (s.acc e.cls e.src).isNone && decide (64 ≤ (s.coll.storms.filter (·.src < 4096)).length)
      ((s.addOpen e sev none (if full then 4096 else e.src)).coalesce (s.stormOf e sev esc)).1
  let s := s.notify e sev
  if s.coll.lined.any (·.1 == e.id) then s.modColl fun c => { c with lined := c.lined.filter (·.1 != e.id) } else s.react e sev esc

/-- R402: the order of simultaneous events. -/
def evBefore (a b : Ev × Nat × Bool × Bool) : Bool :=
  decide (b.2.1 < a.2.1) || (a.2.1 == b.2.1 && (decide (a.1.src < b.1.src) || (a.1.src == b.1.src && decide (a.1.cls ≤ b.1.cls))))
def insertEv (x : Ev × Nat × Bool × Bool) : List (Ev × Nat × Bool × Bool) → List (Ev × Nat × Bool × Bool)
  | [] => [x]
  | y :: r => if evBefore x y then x :: y :: r else y :: insertEv x r

/-- R402: the earliest detection cycle among the events that wait. -/
def firstCycle (s : State) : Option Nat := ((s.coll.queue ++ s.coll.dropped).map Ev.time).foldl (fun a t => some (min t (a.getD t))) none
/-- R402, R408: every event of detection cycle `t` has arrived: a path delivers four events in a cycle. -/
def batchIn (s : State) (t : Nat) : Bool :=
  decide (s.time < t) || (decide (t < s.time) && (List.range 14).all fun p =>
    decide ((s.coll.queue.filter fun e => e.path == p && decide (e.time ≤ t)).length ≤ 4 * (s.time - t)))
/-- R402, R405, R406: the events of one detection cycle are taken, in R402's order. -/
def takeBatch (s : State) (t : Nat) : State :=
  let open' := s.cycleOpen
  let s := open'.1
  let mk := fun (d : Bool) (e : Ev) => let f := s.judged open'.2 e; (e, f.1, f.2, d)
  let evs := ((s.coll.queue.filter (·.time == t)).map (mk false)) ++ ((s.coll.dropped.filter (·.time == t)).map (mk true))
  let s := s.modColl fun c => { c with queue := c.queue.filter (·.time != t), dropped := c.dropped.filter (·.time != t) }
  let sim := decide (1 < evs.length)
  ((evs.foldr insertEv []).foldl (fun u x => u.takeEvent x.1 x.2.1 x.2.2.1 sim x.2.2.2) s).showOpen

/-- R406, R408: the dedicated line: the events that were detected in the present cycle are judged, and those of a final severity of S3 or S4
react, before any of them is recorded; what the reactions report is judged after them. -/
def lineReact : Nat → State → State
  | 0, s => s
  | n + 1, s =>
    let evs := (s.coll.queue ++ s.coll.dropped).filter fun e => e.time == s.time && !s.coll.lined.any (·.1 == e.id)
    if evs = [] then s
    else
      let o := s.cycleOpen
      let s := o.1.modColl fun c => { c with lined := c.lined ++ evs.map fun e => (e.id, finalSev o.2 e) }
      lineReact n (evs.foldl (fun t e => t.react e (finalSev o.2 e).1 (finalSev o.2 e).2) s)

/-! ### Acknowledgement (R404, R406, R146) -/

/-- R404: the latest record that carries a sequence number. -/
def recordOfSeq (s : State) (q : Nat) : Option Nat :=
  let n := s.coll.records
  if q < n % 4096 then some (n / 4096 * 4096 + q) else if 4096 ≤ n then some ((n / 4096 - 1) * 4096 + q) else none
/-- R146: a demand of a substitution ends once its event is closed. -/
def endSubstitutions (s : State) : State :=
  s.each (List.range 16) fun t g =>
    match (t.group g).demandSub with
    | some e => if t.evClosed e then (t.modGroup g fun x => { x with demandSub := none }).updDemand g else t
    | none => t
/-- R404, R406, R411: open events of a class close; S4 events, and events of this very cycle, stay. -/
def acknowledge (s : State) (cls : Nat) (all : Bool) (q : Nat) : State :=
  let s := s.cycleOpen.1
  let upTo := s.recordOfSeq q
  let closes := fun (o : OpenEv) => o.cls == cls && o.sev != 4 && o.cyc != s.time &&
    (all || (match o.rec', upTo with | some i, some j => decide (i ≤ j) | _, _ => false))
  let s := s.modColl fun c => { c with opens := c.opens.filter fun o => !closes o }
  let s := if all then
      s.each ((s.coll.storms.filter fun a => a.cls == cls && a.src != 4096).map Storm.src) fun t src => t.emitSource cls src
    else s
  (s.showOpen).endSubstitutions

/-! ### SAFE_OK (R417) -/

/-- R417: the kick condition holds. -/
def kicked (s : State) : Bool := !s.on FC_CFG_SOKFW || s.dev != .run || decide (s.time ≤ s.coll.kickAt + 1600000)
/-- R417: the device is healthy. -/
def healthy (s : State) : Bool :=
  (s.dev == .watch || s.dev == .run) && s.on FC_STAT_SELFOK && !(s.coll.opens.any fun o => decide (3 ≤ o.sev)) && s.kicked

/-! ### Register writes (R420, R422) -/

/-- R422: who may write FC_FCLR, FC_ACK, FC_ERRN, FC_SOK and FC_RETRY; the permission map has been asked before. -/
def fcWriter (s : State) (r : Requester) : Bool :=
  match r with
  | .core q => s.coreSv q && !s.split (q.val / 32)
  | .host => true
  | _ => false
def fcRefused (s : State) : State := s.report clCfg 0xE30 1 13
/-- FC_FCLR (R403). -/
def writeFclr (s : State) (r : Requester) (v : Nat) : State :=
  if ¬s.fcWriter r then s.fcRefused
  else if FC_FCLR_CLR.of v = 1 then s.clear [FC_FIRST_CLASS, FC_FIRST_SEV, FC_FIRST_VALID, FC_FIRST_ESC, FC_FIRST_SOURCE, FC_FIRST_SEQ, FC_STAT_MAXSEV]
  else s
/-- FC_ACK (R404). -/
def writeAck (s : State) (r : Requester) (v : Nat) : State :=
  if ¬s.fcWriter r ∨ 12 ≤ FC_ACK_CLASS.of v then s.fcRefused
  else s.acknowledge (FC_ACK_CLASS.of v) (FC_ACK_ALL.of v == 1) (FC_ACK_SEQ.of v)
/-- FC_ERRN (R415): during a pulse the level stands until the pulse ends, since HWP holds the pin. -/
def writeErrn (s : State) (r : Requester) (v : Nat) : State :=
  if ¬s.fcWriter r then s.fcRefused else (s.wr FC_ERRN_FWLOW (FC_ERRN_FWLOW.of v)).updErrn
/-- FC_SOK (R417). -/
def writeSok (s : State) (r : Requester) (v : Nat) : State :=
  if ¬s.fcWriter r then s.fcRefused
  else
    let s := if FC_SOK_KICK.of v = 1 then s.modColl fun c => { c with kickAt := s.time } else s
    if FC_SOK_KMISS.of v = 1 then s.softClear FC_SOK_KMISS 1 else s
/-- FC_RETRY (R420): rung 1. -/
def writeRetry (s : State) (r : Requester) : State :=
  if ¬s.fcWriter r then s.fcRefused
  else (s.bump (FC_RUNG_COUNT 0)).report clFc 0x021 0 13
/-- FC_LRIDX (R414). -/
def writeLridx (s : State) (v : Nat) : State :=
  let i := FC_LRIDX_INDEX.of v
  (s.wr FC_LRIDX_INDEX i).modColl fun c => { c with unread := (s.rd FC_LWIDX_INDEX + 512 - i) % 512 }

end State

/-! ### Meanings -/

/-- FAULT_EVENT (R395 to R414): the collector takes the events of the earliest detection cycle, once all of them have arrived. -/
def execFaultEvent (s : State) : Out :=
  .next (match s.firstCycle with | some t => if s.batchIn t then s.takeBatch t else s | none => s)

/-- COLLECTOR_SELF_CHECK_FAIL (R407): copies disagree (0), an uncorrectable error (1), a correctable error (2). The S4 reaction does
not depend on the collector; its record is attempted, past paths, buckets and escalation. -/
def execCollectorSelfCheckFail (src : Fin 3) (s : State) : Out :=
  .next (if src = 2 then s.report clFc 0x002 0 13
    else
      let e : Ev := ⟨s.coll.nextId, clFc, src, 4, s.time, s.devTime, [], 13⟩
      let s := ((s.cycleOpen.1).modColl fun c => { c with nextId := c.nextId + 1 }).put FC_STAT_SELFOK false
      let s := if s.ringAccepts 4 then s.recordEvent e 4 false false else s.addOpen e 4 none 4096
      ((s.notify e 4).react e 4 false).showOpen)

/-- TOKEN_REFILL (R410, R411): a token is gained, and carries the storm record of the source where one waits. -/
def execTokenRefill (c : Fin 12) (src : Word) (s : State) : Out :=
  let b := s.bucket c src.toNat
  .next (if b.missing = 0 ∨ s.time < b.since + s.refillTicks c then s
    else if (s.acc c src.toNat).isSome then (s.setBucket c src.toNat { b with since := b.since + s.refillTicks c }).emitSource c src.toNat
    else s.setBucket c src.toNat (if b.missing = 1 then {} else ⟨b.missing - 1, b.since + s.refillTicks c⟩))

/-- CLASS_STORM_EMIT (R411). -/
def execClassStormEmit (c : Fin 12) (s : State) : Out :=
  .next (match s.acc c 4096 with
    | some a => if a.since + s.refillTicks c ≤ s.time then s.emitClass c else s
    | none => s)

/-- ERR_N_PULSE_END (R415): 20 µs after the latest qualifying event. -/
def execErrNPulseEnd (s : State) : Out :=
  .next (if s.on FC_ERRN_HWP ∧ (s.coll.errAt).all fun t => decide (t + 320 ≤ s.time) then (s.put FC_ERRN_HWP false).updErrn else s)

/-- SAFE_OK_TOGGLE (R417): a change instant, one always-on tick in 8,000: the level changes once while the device is healthy. -/
def execSafeOkToggle (s : State) : Out :=
  .next (if s.time % 8000 = 0 ∧ s.coll.sokAt ≠ some s.time ∧ s.healthy then
      (s.modColl fun c => { c with sokAt := some s.time }).put FC_SOK_LEVEL (!s.on FC_SOK_LEVEL)
    else s)

/-- KICK_MISSED (R417). -/
def execKickMissed (s : State) : Out :=
  .next (if ¬s.kicked ∧ s.coll.missFor ≠ some s.coll.kickAt then
      ((s.modColl fun c => { c with missFor := some c.kickAt }).raiseFlag FC_SOK_KMISS).report clFc 0x040 2 13
    else s)

end Sys2Proof.Machine
end

