-- ==== Sys2Proof/Machine/Trap.lean ====
section
/-! DEFINITION. The execution of an Evsum-12 instruction around its own effect (spec/07_evsum12.md, spec/08_traps_and_ordering.md): fetch, what
may stand in a delay slot and at a loop end, delay slots, the loop test, exception entry and return, interrupts, the timer, debug halts. -/
namespace Sys2Proof.Machine

/-! ### Registers of a core (R222 to R229) -/

/-- R223, R224: the key of a scalar register name in window w. -/
def scalarKey (w r : Nat) : Nat :=
  if r < 8 then gKey r else if r < 16 then lKey w (r - 8) else if r < 24 then oKey ((w + 7) % 8) (r - 16) else oKey w (r - 24)

namespace Core

def reg (c : Core) (k : Nat) : Nat := c.file.get 0 k
def setReg (c : Core) (k v : Nat) : Core := { c with file := c.file.set 0 k v }
/-- R223: a scalar register; G0 reads 0, and a write to it is discarded. -/
def r (c : Core) (i : Nat) : Nat := if i = 0 then 0 else c.reg (scalarKey c.wp i)
def setR (c : Core) (i v : Nat) : Core := if i = 0 then c else c.setReg (scalarKey c.wp i) (v % 4096)
/-- R226: an address register. -/
def x (c : Core) (i : Nat) : Nat := c.reg (xKey i)
def setX (c : Core) (i v : Nat) : Core := c.setReg (xKey i) (v % 0x1000000)
def v (c : Core) (i l : Nat) : Nat := c.reg (vKey i l)
def setV (c : Core) (i l v : Nat) : Core := c.setReg (vKey i l) (v % 4096)
def a (c : Core) (i l : Nat) : Nat := c.reg (aKey i l)
def setA (c : Core) (i l v : Nat) : Core := c.setReg (aKey i l) (v % 2 ^ 36)
def lk (c : Core) (w : Nat) : Nat := c.reg (lkKey w)

/-- A bit of PS (R229), and PS with it set or cleared. -/
def psBit (c : Core) (i : Nat) : Bool := c.ps.testBit i
def setPs (c : Core) (i : Nat) (b : Bool) : Core :=
  { c with ps := if c.ps.testBit i = b then c.ps else if b then c.ps + 2 ^ i else c.ps - 2 ^ i }
/-- R225: window w holds a live frame; its bit set or cleared. -/
def live (c : Core) (w : Nat) : Bool := c.wv.testBit (w % 8)
def setLive (c : Core) (w : Nat) (b : Bool) : Core :=
  { c with wv := if c.wv.testBit (w % 8) = b then c.wv else if b then c.wv + 2 ^ (w % 8) else c.wv - 2 ^ (w % 8) }

end Core

/-- The causes (R237, R277). -/
def cIllegal : Nat := 1
def cPrivilege : Nat := 2
def cAlign : Nat := 3
def cAccess : Nat := 4
def cWovf : Nat := 5
def cWunf : Nat := 6
def cDivz : Nat := 7
def cSvc : Nat := 8
def cBkpt : Nat := 9
def cMemerr : Nat := 10
def cInt : Nat := 11
def cMirfail : Nat := 12

/-- What an instruction is to the rules of R232, R259, R261, R265 and R267: its length in words, whether it may stand in a delay slot and
at a loop end, whether it needs SV. -/
structure Kind where
  len  : Nat := 2
  slot : Bool := true
  le   : Bool := true
  sv   : Bool := false

/-- The kinds: an ordinary instruction, a transfer (and LOOP, LCLR), an extended transfer, another extended instruction, a system
instruction (R259, R265). -/
def kPlain : Kind := {}
def kJump : Kind := { slot := false, le := false }
def kJumpExt : Kind := { len := 4, slot := false, le := false }
def kExt : Kind := { len := 4, slot := false, le := false }
def kSys : Kind := { slot := false }

/-- The effect of an instruction: it completes; it completes and continues at an address (RETE, LOOP), with what it leaves in the core after the
completion has ended the state of the instruction before it (MR, the shadow of a MODE change); it is a transfer with its target,
taken or not (R258); it completes and raises a trap (R279); it faults; its engine has stopped; it has not completed. -/
inductive Res
  | done (s : State) (post : Core → Core := id)
  | jump (s : State) (pc : Nat) (post : Core → Core := id)
  | transfer (s : State) (target : Nat) (taken : Bool)
  | trap (s : State) (cause detail : Nat)
  | fault (s : State) (cause detail : Nat)
  | stop (s : State)
  | hold (s : State)

namespace State

/-! ### Exception entry (R281 to R283) -/

/-- R278: the vector of a cause in cluster k. -/
def vector (s : State) (k cause : Nat) : Nat := (128 * s.rd (PWR_VBASE_BASE k) + 8 * cause) % 0x1000000
/-- R281, R282: entry with a return address and the DS bit; without a free window, a double trap. -/
def enter (s : State) (q cause detail epc : Nat) (ds : Bool) : State :=
  let c := s.core q
  if c.live (c.wp + 1) then s.engineFatal q
  else
    let w := (c.wp + 1) % 8
    let d := (((c.setPs 8 true).setPs 9 false).setPs 10 false).setPs 7 false
    s.setCore q { d.setLive w true with
      epc := epc, eps := c.ps + 2048 * ds.toNat, ecause := cause + 16 * detail, wp := w,
      pc := s.vector (q / 32) cause,
      slot := none, shadow := false, mid := false, waiting := false, fence := none, loadAt := none }

/-- R283: a fault: the return address is the instruction, or the transfer that owns the delay slot. -/
def fault (s : State) (q cause detail : Nat) : State :=
  let c := s.core q
  match c.slot with
  | some t => s.enter q cause detail t.owner true
  | none => s.enter q cause detail c.pc false

/-! ### Completion (R258, R263, R272) -/

/-- R258, R263: where control passes after the instruction at the PC, of `len` words, and the loop test. -/
def advance (c : Core) (len : Nat) : Core :=
  let next := (c.pc + len) % 0x1000000
  let d := { c with slot := none, shadow := false, mid := false, waiting := false, fence := none, loadAt := none }.setPs 10 false
  match c.slot with
  | some ⟨_, t, true⟩ => { d with pc := t }
  | _ =>
    if c.pc = c.le ∧ c.lc ≠ 0 then { d with lc := c.lc - 1, pc := if c.lc = 1 then (c.le + 2) % 0x1000000 else c.lb }
    else { d with pc := next }

/-- The instruction at the PC of core q completes. -/
def retire (s : State) (q len : Nat) : State := s.modCore q fun c => advance c len
/-- It completes and continues elsewhere. -/
def retireAt (s : State) (q pc : Nat) : State :=
  s.modCore q fun c =>
    { c with slot := none, shadow := false, mid := false, waiting := false, fence := none, loadAt := none, pc := pc }.setPs 10 false

/-! ### Debug halts (R339, R340, R542, R543) -/

/-- R543: core q halts, with the cause that DBG_ESTAT shows; a lockstep engine breaks its lockstep, and outside MAINT stops. -/
def debugHalt (s : State) (q cause bp : Nat) : State :=
  let e := q / 2
  let s := s.modCore q fun c => { c with halted := true, step := false, hcause := cause, hbp := bp }
  if s.split (q / 32) then
    s.each ((s.ownedBy e (some (q % 2))).filter fun n => s.safeState n == 3) fun t n => t.freeze n
  else
    let s := if s.on (PWR_ENGST_BROKEN e) then s else 
      let t := (s.put (PWR_ENGST_BROKEN e) true).report clEng (0x180 + e) 2 (4 + e / 16)
      t.modEng e fun g => { g with halt := if cause = 0 then some (t.time, t.lastEv) else none }
    let s := s.each (s.ownedBy e none) fun t n => t.freeze n
    let was := s.rd (PWR_ENGST_STATE e)
    if s.dev = .maint ∨ was = 4 then s
    else
      let s := (s.wr (PWR_ENGST_STATE e) 4).wr (PWR_ENGST_CAUSE e) 6
      (s.modEng e fun g => { g with tkWait := false, stopAt := some s.time }).takeover e was

/-- R542: the core that DBG_ENGSEL names. -/
def debugCore (s : State) : Nat := s.coreOf (s.rd DBG_ENGSEL_ENG) (s.rd DBG_ENGSEL_CORE)
/-- R542: the enabled breakpoint that matches the PC of core q. -/
def breakpoint (s : State) (q : Nat) : Option Nat :=
  if s.debugCore = q ∧ ¬(s.core q).bpPass then
    (List.range 4).find? fun k => s.on (DBG_BP_EN k) && 2 * s.rd (DBG_BP_ADDR k) == (s.core q).pc
  else none

/-! ### Issue -/

/-- Core q fetches instructions: it is a core, started, neither stopped nor halted, in a running cluster. -/
def executes (s : State) (q : Nat) : Bool :=
  !s.noCore q && s.cluRuns (q / 32) && (s.core q).run && !(s.core q).stopped && (!(s.core q).halted || (s.core q).step)
/-- It is at an instruction to execute: it waits neither in WAIT nor at a fence. -/
def ready (s : State) (q : Nat) : Bool := s.executes q && !(s.core q).waiting && (s.core q).fence.isNone

/-- R295: word `a` lies where a flash command is programming. -/
def programming (s : State) (a : Nat) : Bool :=
  s.ports.flash.any fun x => x.1 == 2 && decide (x.2.1 ≤ a) && decide (a < x.2.1 + x.2.2.2)
/-- R232, R277, R280, R292, R295: the fetch of the words of an instruction: none, or the fault, stop or wait that it meets. A micro-routine
at an element boundary has been fetched (R273). -/
def fetchFault (s : State) (q len : Nat) : Option Res :=
  let c := s.core q
  if c.mid then none else
  let ws := (List.range len).map fun i => (c.pc + i) % 0x1000000
  let bad := fun a => if region a = .engine then s.badLocal q a else if s.isBad a then some a else none
  if ¬ws.all fun a => region a == .engine || region a == .flash then
    some (.fault (s.report clMem (0x180 + q / 2) 1 (4 + q / 32)) cAccess 2)
  else if ws.any s.programming then some (.hold s)
  else
    match ws.findSome? bad with
    | none => if c.pc % 2 = 1 then some (.fault s cAlign 0) else none
    | some a => some (if region a = .flash then .fault (s.eccEvent a) cMemerr 0x30 else .stop (s.localEcc q a))

/-- R258, R260, R263, R281 to R283: the state that an instruction's effect leaves. A core that its own instruction has stopped or reset
goes no further. -/
def finish (s : State) (q len : Nat) (x : Res) : State :=
  match x with
  | .done t post => if (t.core q).run then (t.retire q len).modCore q post else t
  | .jump t pc post => (t.retireAt q pc).modCore q post
  | .transfer t target taken =>
    if taken ∧ target % 2 = 1 then s.fault q cAlign 0
    else t.modCore q fun c =>
      { c with slot := some ⟨c.pc, if taken then target else (c.pc + len + 2) % 0x1000000, taken⟩,
               pc := (c.pc + len) % 0x1000000, shadow := false, mid := false }.setPs 10 false
  | .trap t cause detail => let u := t.retire q len; u.enter q cause detail (u.core q).pc false
  | .fault t cause detail => t.fault q cause detail
  | .stop t => t
  | .hold t => t

/-- R284, R295: a load of core q waits for code flash that is being programmed. -/
def loadWaits (s : State) (q : Nat) : Bool := (s.core q).loadAt.any s.programming
/-- R284, R542: core q stands where a HALT may stop it. -/
def haltPoint (s : State) (q : Nat) : Bool :=
  let c := s.core q
  c.slot.isNone && (!c.shadow || c.mid) && !c.live (c.wp + 1) && !s.loadWaits q
/-- R542: after a STEP the core halts again; a HALT that waits takes its first interrupt point. -/
def endStep (s : State) (q : Nat) : State :=
  let s := s.modCore q fun c => { c with bpPass := false }
  if (s.core q).stopped then s
  else if (s.core q).step then s.modCore q fun c => { c with step := false, halted := true, hcause := 3 }
  else if (s.core q).haltDue ∧ s.haltPoint q then (s.modCore q fun c => { c with haltDue := false }).debugHalt q 0 0
  else s

/-- R236, R258 to R265, R280: one instruction of core q: breakpoint, fetch, the rules of its kind, its effect. -/
def issue (s : State) (q : Nat) (k : Kind) (body : State → Res) : State :=
  if ¬s.ready q then s
  else match s.breakpoint q with
    | some b => s.debugHalt q 2 b
    | none =>
      let c := s.core q
      let x :=
        match s.fetchFault q k.len with
        | some x => x
        | none =>
          if c.slot.isSome ∧ ¬k.slot then .fault s cIllegal 4
          else if c.pc = c.le ∧ c.lc ≠ 0 ∧ ¬k.le then .fault s cIllegal 6
          else if k.sv ∧ ¬s.coreSv q then .fault s cPrivilege 0xFF
          else body s
      (s.finish q k.len x).endStep q

/-! ### Fences (R304, R307) -/

/-- R307: a FENCE.M that waits completes, with MIRFAIL where a detail is given. -/
def endFence (s : State) (q : Nat) (detail : Option Nat) : State :=
  if (s.core q).fence.isNone then s
  else match detail with
    | none => s.finish q 2 (.done s)
    | some d => s.finish q 2 (.trap s cMirfail d)
/-- R307: every FENCE.M that waits fails. -/
def failFences (s : State) (detail : Nat) : State := s.each (List.range 256) fun t q => t.endFence q (some detail)

/-! ### Interrupts (R284, R289) -/

/-- R273, R284: core q stands at an interrupt point; in a micro-routine that is the shadow of a MODE change, every element boundary is
one. -/
def intPoint (s : State) (q : Nat) : Bool :=
  let c := s.core q
  s.executes q && !c.halted && c.slot.isNone && (!c.shadow || c.mid) && !c.live (c.wp + 1) && !c.waiting && !s.loadWaits q

/-- R289: the lowest line that is pending and enabled. -/
def lowestLine (s : State) (q : Nat) : Option Nat := (List.range 9).find? fun l => (s.linesUp q).testBit l

/-! ### The timer (R230) -/

/-- R36, R230: TMR of core q has stepped from 1 to 0: the TIMER line; a retained cluster starts. -/
def timerExpires (s : State) (q : Nat) : State :=
  let s := (s.modCore q fun c => { c with tmrDue := false }).raise q 1
  if s.rd (PWR_CST_STATE (q / 32)) = 1 then s.requestStart (q / 32) 5 (s.startFreq (q / 32)) else s

end State

/-! ### Meanings -/

/-- INTERRUPT (R283, R284, R289): entry for the lowest line; at an element boundary of a micro-routine EPS.MR = 1. -/
def execInterrupt (q : Fin 256) (s : State) : Out :=
  .next (match s.lowestLine q with
    | none => s
    | some l =>
      if s.intPoint q ∧ (s.core q).psBit 9 then
        let s := if (s.core q).mid then s.modCore q fun c => c.setPs 10 true else s
        s.enter q cInt l (s.core q).pc false
      else s)

/-- TIMER_EXPIRY (R230): the timer of the core has stepped from 1 to 0. -/
def execTimerExpiry (q : Fin 256) (s : State) : Out := .next (if (s.core q).tmrDue then s.timerExpires q else s)

/-- WAIT_WAKE (R269, R290): a line that is pending and enabled, or TMR reaching 0, ends a WAIT, which completes. -/
def execWaitWake (q : Fin 256) (s : State) : Out :=
  .next (if s.executes q ∧ (s.core q).waiting ∧ (s.linesUp q ≠ 0 ∨ (s.core q).tmrHit) then s.finish q 2 (.done s) else s)

/-- MIRROR_ACK (R304, R307): the partner has acknowledged n mirror writes of the core. A fence that has no more to wait for completes; on a
core that does not execute now it waits no longer, and completes when it is executed again. -/
def execMirrorAck (q : Fin 256) (n : Nat) (s : State) : Out :=
  let s := s.modCore q fun c => { c with mOut := c.mOut - n }
  .next (if (s.core q).mOut ≠ 0 then s
    else if s.executes q then s.endFence q none
    else s.modCore q fun c => { c with fence := none })

/-- MIRROR_ACK_TIMEOUT (R307): 100 µs after the fence. -/
def execMirrorAckTimeout (q : Fin 256) (s : State) : Out :=
  .next (if s.executes q ∧ (s.core q).mOut ≠ 0 ∧ (s.core q).fence.any (fun t => decide (t + 1600 ≤ s.time)) then s.endFence q (some 3) else s)

end Sys2Proof.Machine
end

