-- ==== Sys2Proof/Machine/Special.lean ====
section
/-! DEFINITION. The special registers (R228, R229): their numbers, parts, rights, and the reading and writing of one part. -/
namespace Sys2Proof.Machine

/-- R228: the lowest part and the number of parts of the special register that holds number n; none for a reserved number. -/
def srGroup (n : Nat) : Option (Nat × Nat) :=
  if n < 3 ∨ n = 5 ∨ n = 10 ∨ n = 11 ∨ n = 17 then some (n, 1)
  else if n < 5 then some (3, 2)
  else if n < 8 then some (6, 2)
  else if n < 10 then some (8, 2)
  else if n < 15 then some (12, 3)
  else if n < 17 then some (15, 2)
  else if n < 20 then some (18, 2)
  else none
/-- R228: numbers that TK may read, and write. -/
def srReadTk (n : Nat) : Bool := n == 0 || (decide (5 ≤ n) && decide (n < 20))
def srWriteTk (n : Nat) : Bool := n == 0 || (decide (5 ≤ n) && decide (n < 10)) || (decide (12 ≤ n) && decide (n < 15))

/-- R229: EID of core q. -/
def State.eid (s : State) (q : Nat) : Nat :=
  q / 2 + (if s.split (q / 32) then 128 * (q % 2) + 256 else 0) + 512 * (q / 32)

/-- The whole value of the special register whose lowest part is n. -/
def State.srWhole (s : State) (q n : Nat) : Nat :=
  let c := s.core q
  match n with
  | 0 => c.ps
  | 1 => c.eps
  | 2 => c.ecause
  | 3 => c.epc
  | 5 => c.lc
  | 6 => c.lb
  | 8 => c.le
  | 10 => c.wp
  | 11 => c.wv
  | 12 => c.mask
  | 15 => c.tmr
  | 17 => s.eid q
  | 18 => c.lk c.wp
  | _ => 0
/-- The special register whose lowest part is n takes a whole value. -/
def Core.srSet (c : Core) (n v : Nat) : Core :=
  match n with
  | 0 => { c with ps := v % 2048 }
  | 1 => { c with eps := v % 4096 }
  | 2 => { c with ecause := v % 4096 }
  | 3 => { c with epc := v % 0x1000000 }
  | 5 => { c with lc := v % 4096 }
  | 6 => { c with lb := v % 0x1000000 }
  | 8 => { c with le := v % 0x1000000 }
  | 10 => { c with wp := v % 8 }
  | 11 => { c with wv := v % 256 }
  | 12 => { c with mask := v % 2 ^ 32 }
  | 15 => { c with tmr := v % 0x1000000 }
  | 18 => c.setReg (lkKey c.wp) (v % 0x1000000)
  | _ => c

/-- Part i of a whole value. -/
def part (v i : Nat) : Nat := bits v (12 * i) 12
/-- A whole value with part i replaced. -/
def withPart (v i x : Nat) : Nat := v - part v i * 4096 ^ i + x % 4096 * 4096 ^ i

namespace State

/-- R229: MFS of number n: the lowest part captures the upper ones; an upper part returns its capture once. -/
def mfs (s : State) (q n b len : Nat) : State × Nat :=
  let v := s.srWhole q b
  if n = b then
    (s.modCore q fun c => { c with capt := (List.range (len - 1)).foldl (fun m i => m.set none (b + i + 1) (some (part v (i + 1)))) c.capt }, part v 0)
  else match (s.core q).capt.get none n with
    | some x => (s.modCore q fun c => { c with capt := c.capt.set none n none }, x)
    | none => (s, part v (n - b))
/-- R229: the whole value that an MTS of the highest part makes: the lower parts as staged, or present. -/
def mtsWhole (s : State) (q b len x : Nat) : Nat :=
  (List.range (len - 1)).foldl (fun v i => match (s.core q).staged.get none (b + i) with
    | some y => withPart v i y
    | none => v) (withPart (s.srWhole q b) (len - 1) x)
/-- R229: the staged parts are used up. -/
def srUnstage (s : State) (q b len : Nat) : State :=
  s.modCore q fun c => { c with staged := (List.range (len - 1)).foldl (fun m i => m.set none (b + i) none) c.staged }
/-- R229: a lower part is staged. -/
def srStage (s : State) (q n x : Nat) : State := s.modCore q fun c => { c with staged := c.staged.set none n (some x) }

end State
end Sys2Proof.Machine
end

