-- ==== Sys2Proof/Machine/Code.lean ====
section
/-! DEFINITION. The codes of Evsum-12 (R232 to R236): the formats, the codes that decoding refuses, and the rule that a row of the
table acts where its own code stands at the PC. -/
namespace Sys2Proof.Machine

/-! ### Formats (R233): the 24-bit base part of an instruction from its fields -/

def codeR (op rd rs1 rs2 fn : Nat) : Nat := op * 2 ^ 18 + rd * 2 ^ 13 + rs1 * 2 ^ 8 + rs2 * 2 ^ 3 + fn
def codeI (op rd rs1 imm8 : Nat) : Nat := op * 2 ^ 18 + rd * 2 ^ 13 + rs1 * 2 ^ 8 + imm8
def codeM (op rd imm12 : Nat) : Nat := op * 2 ^ 18 + rd * 2 ^ 13 + imm12
def codeL (op r xs off10 : Nat) : Nat := op * 2 ^ 18 + r * 2 ^ 13 + xs * 2 ^ 10 + off10
/-- LDX and STX have xd in the upper three bits of the r field. -/
def codeLX (op xd xs off10 : Nat) : Nat := codeL op (4 * xd) xs off10
def codeLV (op v p xs off10 : Nat) : Nat := op * 2 ^ 18 + v * 2 ^ 14 + p * 2 ^ 13 + xs * 2 ^ 10 + off10
def codeXI (op xd xs imm12 : Nat) : Nat := op * 2 ^ 18 + xd * 2 ^ 15 + xs * 2 ^ 12 + imm12
def codeXR (op xd xs r fn : Nat) : Nat := op * 2 ^ 18 + xd * 2 ^ 15 + xs * 2 ^ 12 + r * 2 ^ 7 + fn
def codeB (op cond disp14 : Nat) : Nat := op * 2 ^ 18 + cond * 2 ^ 14 + disp14
def codeJ (op disp18 : Nat) : Nat := op * 2 ^ 18 + disp18
def codeJR (op xs fn : Nat) : Nat := op * 2 ^ 18 + xs * 2 ^ 15 + fn
def codeY (op imm8 fn : Nat) : Nat := op * 2 ^ 18 + imm8 * 2 ^ 10 + fn
def codeS (op r sr fn : Nat) : Nat := op * 2 ^ 18 + r * 2 ^ 13 + sr * 2 ^ 7 + fn
def codeLP (op rs disp13 : Nat) : Nat := op * 2 ^ 18 + rs * 2 ^ 13 + disp13
def codeLPI (op count12 disp6 : Nat) : Nat := op * 2 ^ 18 + count12 * 2 ^ 6 + disp6
def codeU (op d rs mode : Nat) : Nat := op * 2 ^ 18 + d * 2 ^ 14 + rs * 2 ^ 9 + mode
def codeV (op vd vs1 vs2 fn6 : Nat) : Nat := op * 2 ^ 18 + vd * 2 ^ 14 + vs1 * 2 ^ 10 + vs2 * 2 ^ 6 + fn6
def codeVA (op v a imm6 fn6 : Nat) : Nat := op * 2 ^ 18 + v * 2 ^ 14 + a * 2 ^ 12 + imm6 * 2 ^ 6 + fn6
def codeVS (op v r imm6 fn : Nat) : Nat := op * 2 ^ 18 + v * 2 ^ 14 + r * 2 ^ 9 + imm6 * 2 ^ 3 + fn
def codeE (op r fn : Nat) : Nat := op * 2 ^ 18 + r * 2 ^ 13 + fn * 2 ^ 10

/-! ### Illegal words (R232 to R236) -/

/-- R233 to R236: the detail of a 24-bit instruction code that decoding refuses: 1, 2 or 3; none for a code with a meaning. -/
def illegalDetail (w : Nat) : Option Nat :=
  let f := bits w
  let first := fun (l : List (Bool × Nat)) => (l.find? (·.1)).map (·.2)
  let fn := f 0 3
  let fn6 := f 0 6
  match f 18 6 with
  | 1 => none
  | 2 => first [(decide (2 ≤ fn) && decide (fn ≤ 5) && f 3 5 != 0, 2)]
  | 3 => first [(fn == 7 || (decide (5 ≤ fn) && f 3 5 != 0), 2)]
  | 4 => first [(decide (3 < fn), 2)]
  | 5 => first [(decide (4 < fn), 2)]
  | 8 | 9 | 10 | 11 | 12 | 13 => none
  | 14 => first [(decide (4 < f 5 3), 2)]
  | 15 => first [(f 12 1 != 0, 3)]
  | 16 | 17 | 18 | 19 | 22 | 23 | 24 => none
  | 20 | 21 => first [(f 13 2 != 0, 3)]
  | 25 => first [((fn == 4 || fn == 5) && f 12 3 != 0, 2), (fn == 7 && f 7 5 != 0, 2), (f 3 4 != 0, 3)]
  | 32 => first [(f 14 4 == 15, 2)]
  | 33 | 36 | 37 => none
  | 34 => first [(fn == 3 || decide (4 < fn), 2), (decide (2 ≤ fn) && f 15 3 != 0, 2), (f 3 12 != 0, 3)]
  | 35 => first [(decide (2 < fn) || f 10 8 != 0, 2), (f 3 7 != 0, 3)]
  | 38 => first [(decide (1 < fn) || (srGroup (f 7 6)).isNone, 2), (f 3 4 != 0, 3)]
  | 39 => first [(decide (4 < fn) || (fn == 2 && f 10 8 != 0) || (fn == 3 && decide (1 < f 10 8)) || (fn == 4 && decide (3 < f 10 8)), 2),
      (f 3 7 != 0, 3)]
  | 44 => first [(decide (3 < f 14 4) || f 9 5 == 7 || f 3 6 != 0, 2)]
  | 45 => first [(f 14 4 != 0 || f 9 5 == 7 || f 0 9 != 0, 2)]
  | 46 => first [(decide (3 < f 14 4) || f 9 5 == 7 || f 0 9 != 0, 2)]
  | 48 => first [(decide (23 < fn6) || (((decide (9 ≤ fn6) && decide (fn6 ≤ 12)) || fn6 == 19) && f 6 4 != 0) ||
      (decide (21 ≤ fn6) && f 14 4 != 0), 2)]
  | 49 => first [(decide (6 < fn6) || (decide (fn6 < 4) && decide (3 < f 14 4)) || (fn6 == 0 && f 6 8 != 0) || (fn6 == 3 && f 6 4 != 0) ||
      (fn6 == 4 && decide (35 < f 6 6)) || (decide (5 ≤ fn6) && decide (2 < f 6 6)), 2)]
  | 50 => first [(decide (3 < fn) || ((fn == 0 || fn == 3) && f 3 6 != 0) || decide (31 < f 3 6), 2)]
  | 56 => first [(decide (4 < f 10 3) || (f 10 3 == 0 && f 13 2 != 0) || ((f 10 3 == 1 || f 10 3 == 2) && f 13 5 != 0), 2), (f 0 10 != 0, 3)]
  | _ => some 1

namespace State

/-- The word that a fetch of core q reads at address a. -/
def fetched (s : State) (q a : Nat) : Nat := s.peek (if region a = .engine then localKey q a else a)
/-- R232: the code at the PC of core q, and the immediate of an extended one, as a fetch reads them. -/
def codeAt (s : State) (q : Nat) : Nat :=
  let pc := (s.core q).pc
  s.fetched q pc * 4096 + s.fetched q ((pc + 1) % 0x1000000)
def immAt (s : State) (q : Nat) : Nat :=
  let pc := (s.core q).pc
  s.fetched q ((pc + 2) % 0x1000000) * 4096 + s.fetched q ((pc + 3) % 0x1000000)

/-- R232 to R235: a row acts where its own code stands at the PC; `free` marks the bits of its format that say nothing. Where the fetch
meets a fault, no code is known, and the row meets that fault. -/
def coded (s : State) (q code : Nat) (f : State → State) (free : Nat := 0) : State :=
  if (s.fetchFault q 2).isSome ∨ s.codeAt q ||| free = code ||| free then f s else s
/-- The same of an extended instruction, whose immediate is fetched with words three and four. -/
def codedExt (s : State) (q code imm : Nat) (f : State → State) : State :=
  if (s.fetchFault q 2).isSome ∨ (s.codeAt q = code ∧ ((s.fetchFault q 4).isSome ∨ s.immAt q = imm)) then f s else s

end State

/-! ### The codes of the rows (R232 to R235) -/

/-- The core of an instruction, its code, the bits of its format that say nothing, and the immediate of an extended one; none for a row
that is no instruction. -/
def codeOf : Instr → Option (Nat × Nat × Nat × Option Nat)
  | .add q rd rs1 rs2 => some (q, codeR 1 rd rs1 rs2 0, 0, none)
  | .adc q rd rs1 rs2 => some (q, codeR 1 rd rs1 rs2 1, 0, none)
  | .sub q rd rs1 rs2 => some (q, codeR 1 rd rs1 rs2 2, 0, none)
  | .sbc q rd rs1 rs2 => some (q, codeR 1 rd rs1 rs2 3, 0, none)
  | .and q rd rs1 rs2 => some (q, codeR 1 rd rs1 rs2 4, 0, none)
  | .or q rd rs1 rs2 => some (q, codeR 1 rd rs1 rs2 5, 0, none)
  | .xor q rd rs1 rs2 => some (q, codeR 1 rd rs1 rs2 6, 0, none)
  | .andn q rd rs1 rs2 => some (q, codeR 1 rd rs1 rs2 7, 0, none)
  | .adds q rd rs1 rs2 => some (q, codeR 2 rd rs1 rs2 0, 0, none)
  | .subs q rd rs1 rs2 => some (q, codeR 2 rd rs1 rs2 1, 0, none)
  | .neg q rd rs1 => some (q, codeR 2 rd rs1 0 2, 0, none)
  | .negs q rd rs1 => some (q, codeR 2 rd rs1 0 3, 0, none)
  | .abs q rd rs1 => some (q, codeR 2 rd rs1 0 4, 0, none)
  | .abss q rd rs1 => some (q, codeR 2 rd rs1 0 5, 0, none)
  | .min q rd rs1 rs2 => some (q, codeR 2 rd rs1 rs2 6, 0, none)
  | .max q rd rs1 rs2 => some (q, codeR 2 rd rs1 rs2 7, 0, none)
  | .sll q rd rs1 rs2 => some (q, codeR 3 rd rs1 rs2 0, 0, none)
  | .srl q rd rs1 rs2 => some (q, codeR 3 rd rs1 rs2 1, 0, none)
  | .sra q rd rs1 rs2 => some (q, codeR 3 rd rs1 rs2 2, 0, none)
  | .rol q rd rs1 rs2 => some (q, codeR 3 rd rs1 rs2 3, 0, none)
  | .ror q rd rs1 rs2 => some (q, codeR 3 rd rs1 rs2 4, 0, none)
  | .clz q rd rs1 => some (q, codeR 3 rd rs1 0 5, 0, none)
  | .popc q rd rs1 => some (q, codeR 3 rd rs1 0 6, 0, none)
  | .shiSll q rd rs1 k => some (q, codeI 14 rd rs1 k, 0, none)
  | .shiSrl q rd rs1 k => some (q, codeI 14 rd rs1 (32 + k), 0, none)
  | .shiSra q rd rs1 k => some (q, codeI 14 rd rs1 (64 + k), 0, none)
  | .shiRol q rd rs1 k => some (q, codeI 14 rd rs1 (96 + k), 0, none)
  | .shiRor q rd rs1 k => some (q, codeI 14 rd rs1 (128 + k), 0, none)
  | .mul q rd rs1 rs2 => some (q, codeR 4 rd rs1 rs2 0, 0, none)
  | .mulh q rd rs1 rs2 => some (q, codeR 4 rd rs1 rs2 1, 0, none)
  | .mulhu q rd rs1 rs2 => some (q, codeR 4 rd rs1 rs2 2, 0, none)
  | .mulq q rd rs1 rs2 => some (q, codeR 4 rd rs1 rs2 3, 0, none)
  | .div q rd rs1 rs2 => some (q, codeR 5 rd rs1 rs2 0, 0, none)
  | .divs q rd rs1 rs2 => some (q, codeR 5 rd rs1 rs2 1, 0, none)
  | .divu q rd rs1 rs2 => some (q, codeR 5 rd rs1 rs2 2, 0, none)
  | .rem q rd rs1 rs2 => some (q, codeR 5 rd rs1 rs2 3, 0, none)
  | .remu q rd rs1 rs2 => some (q, codeR 5 rd rs1 rs2 4, 0, none)
  | .addi q rd rs1 imm => some (q, codeI 8 rd rs1 imm.toNat, 0, none)
  | .subi q rd rs1 imm => some (q, codeI 9 rd rs1 imm.toNat, 0, none)
  | .andi q rd rs1 imm => some (q, codeI 10 rd rs1 imm.toNat, 0, none)
  | .ori q rd rs1 imm => some (q, codeI 11 rd rs1 imm.toNat, 0, none)
  | .xori q rd rs1 imm => some (q, codeI 12 rd rs1 imm.toNat, 0, none)
  | .addsi q rd rs1 imm => some (q, codeI 13 rd rs1 imm.toNat, 0, none)
  | .movi q rd imm => some (q, codeM 15 rd imm.toNat, 0, none)
  | .ld q rd xs off => some (q, codeL 16 rd xs off.toNat, 0, none)
  | .st q rs xs off => some (q, codeL 17 rs xs off.toNat, 0, none)
  | .ldp q rd xs off => some (q, codeL 18 rd xs off.toNat, 0, none)
  | .stp q rs xs off => some (q, codeL 19 rs xs off.toNat, 0, none)
  | .ldx q xd xs off => some (q, codeLX 20 xd xs off.toNat, 0, none)
  | .stx q xd xs off => some (q, codeLX 21 xd xs off.toNat, 0, none)
  | .vld q vd p xs off => some (q, codeLV 22 vd p.toNat xs off.toNat, 0, none)
  | .vst q vs p xs off => some (q, codeLV 23 vs p.toNat xs off.toNat, 0, none)
  | .xaddi q xd xs imm => some (q, codeXI 24 xd xs imm.toNat, 0, none)
  | .xadd q xd xs r => some (q, codeXR 25 xd xs r 0, 0, none)
  | .xaddu q xd xs r => some (q, codeXR 25 xd xs r 1, 0, none)
  | .xgetl q r xs => some (q, codeXR 25 0 xs r 2, 0x38000, none)
  | .xgeth q r xs => some (q, codeXR 25 0 xs r 3, 0x38000, none)
  | .xsetl q xd r => some (q, codeXR 25 xd 0 r 4, 0, none)
  | .xseth q xd r => some (q, codeXR 25 xd 0 r 5, 0, none)
  | .xcmp q xd xs => some (q, codeXR 25 xd xs 0 6, 0xF80, none)
  | .xmov q xd xs => some (q, codeXR 25 xd xs 0 7, 0, none)
  | .br q cond disp => some (q, codeB 32 cond disp.toNat, 0, none)
  | .call q disp => some (q, codeJ 33 disp.toNat, 0, none)
  | .jmpx q xs => some (q, codeJR 34 xs 0, 0, none)
  | .callx q xs => some (q, codeJR 34 xs 1, 0, none)
  | .ret q => some (q, codeJR 34 0 2, 0, none)
  | .rete q => some (q, codeJR 34 0 4, 0, none)
  | .frame q => some (q, codeY 35 0 0, 0, none)
  | .unframe q => some (q, codeY 35 0 1, 0, none)
  | .lclr q => some (q, codeY 35 0 2, 0, none)
  | .loop q rs disp => some (q, codeLP 36 rs disp.toNat, 0, none)
  | .loopi q count disp => some (q, codeLPI 37 count.toNat disp.toNat, 0, none)
  | .mfs q r sr => some (q, codeS 38 r sr 0, 0, none)
  | .mts q r sr => some (q, codeS 38 r sr 1, 0, none)
  | .svc q imm => some (q, codeY 39 imm.toNat 0, 0, none)
  | .bkpt q imm => some (q, codeY 39 imm.toNat 1, 0, none)
  | .wait q => some (q, codeY 39 0 2, 0, none)
  | .modeTk q => some (q, codeY 39 0 3, 0, none)
  | .modeSv q => some (q, codeY 39 1 3, 0, none)
  | .fenceL q => some (q, codeY 39 0 4, 0, none)
  | .fenceG q => some (q, codeY 39 1 4, 0, none)
  | .fenceIo q => some (q, codeY 39 2 4, 0, none)
  | .fenceM q => some (q, codeY 39 3 4, 0, none)
  | .xcor q a rs clr ref w _ => some (q, codeU 44 a rs (clr.toNat + 2 * ref.toNat + 4 * w.toNat), 0, none)
  | .bmov q rs _ => some (q, codeU 45 0 rs 0, 0, none)
  | .kcrc q a rs _ => some (q, codeU 46 a rs 0, 0, none)
  | .vadd q vd vs1 vs2 => some (q, codeV 48 vd vs1 vs2 0, 0, none)
  | .vsub q vd vs1 vs2 => some (q, codeV 48 vd vs1 vs2 1, 0, none)
  | .vadds q vd vs1 vs2 => some (q, codeV 48 vd vs1 vs2 2, 0, none)
  | .vsubs q vd vs1 vs2 => some (q, codeV 48 vd vs1 vs2 3, 0, none)
  | .vand q vd vs1 vs2 => some (q, codeV 48 vd vs1 vs2 4, 0, none)
  | .vor q vd vs1 vs2 => some (q, codeV 48 vd vs1 vs2 5, 0, none)
  | .vxor q vd vs1 vs2 => some (q, codeV 48 vd vs1 vs2 6, 0, none)
  | .vmin q vd vs1 vs2 => some (q, codeV 48 vd vs1 vs2 7, 0, none)
  | .vmax q vd vs1 vs2 => some (q, codeV 48 vd vs1 vs2 8, 0, none)
  | .vabs q vd vs1 => some (q, codeV 48 vd vs1 0 9, 0, none)
  | .vabss q vd vs1 => some (q, codeV 48 vd vs1 0 10, 0, none)
  | .vneg q vd vs1 => some (q, codeV 48 vd vs1 0 11, 0, none)
  | .vnegs q vd vs1 => some (q, codeV 48 vd vs1 0 12, 0, none)
  | .vmul q vd vs1 vs2 => some (q, codeV 48 vd vs1 vs2 13, 0, none)
  | .vmulh q vd vs1 vs2 => some (q, codeV 48 vd vs1 vs2 14, 0, none)
  | .vmulq q vd vs1 vs2 => some (q, codeV 48 vd vs1 vs2 15, 0, none)
  | .vsll q vd vs1 vs2 => some (q, codeV 48 vd vs1 vs2 16, 0, none)
  | .vsrl q vd vs1 vs2 => some (q, codeV 48 vd vs1 vs2 17, 0, none)
  | .vsra q vd vs1 vs2 => some (q, codeV 48 vd vs1 vs2 18, 0, none)
  | .vmov q vd vs1 => some (q, codeV 48 vd vs1 0 19, 0, none)
  | .vsel q vd vs1 vs2 => some (q, codeV 48 vd vs1 vs2 20, 0, none)
  | .vceq q vs1 vs2 => some (q, codeV 48 0 vs1 vs2 21, 0, none)
  | .vclt q vs1 vs2 => some (q, codeV 48 0 vs1 vs2 22, 0, none)
  | .vcltu q vs1 vs2 => some (q, codeV 48 0 vs1 vs2 23, 0, none)
  | .aclr q a => some (q, codeV 49 a 0 0 0, 0, none)
  | .amac q a vs1 vs2 => some (q, codeV 49 a vs1 vs2 1, 0, none)
  | .amsu q a vs1 vs2 => some (q, codeV 49 a vs1 vs2 2, 0, none)
  | .aadd q a vs1 => some (q, codeV 49 a vs1 0 3, 0, none)
  | .arnd q vd a sh => some (q, codeVA 49 vd a sh 4, 0, none)
  | .aspl q vd a p => some (q, codeVA 49 vd a p 5, 0, none)
  | .ajoin q a vs p => some (q, codeVA 49 vs a p 6, 0, none)
  | .vbcst q vd r => some (q, codeVS 50 vd r 0 0, 0, none)
  | .vext q r vs lane => some (q, codeVS 50 vs r lane 1, 0, none)
  | .vins q vd r lane => some (q, codeVS 50 vd r lane 2, 0, none)
  | .vsum q r vs => some (q, codeVS 50 vs r 0 3, 0, none)
  | .lxi q xd imm => some (q, codeE 56 (4 * xd) 0, 0, some imm.toNat)
  | .jmpa q imm => some (q, codeE 56 0 1, 0, some imm.toNat)
  | .calla q imm => some (q, codeE 56 0 2, 0, some imm.toNat)
  | .lda q rd imm => some (q, codeE 56 rd 3, 0, some imm.toNat)
  | .sta q rs imm => some (q, codeE 56 rs 4, 0, some imm.toNat)
  | _ => none
end Sys2Proof.Machine
end

