-- ==== Sys2Proof/Machine/Flags.lean ====
section
/-! DEFINITION. Scalar arithmetic of Evsum-12 on 12-bit words with the flags that it sets (R241 to R247, R250, R257). -/
namespace Sys2Proof.Machine

/-- R222: a word as a signed number. -/
def sgn (a : Nat) : Int := sext 12 a
/-- R222: the signed range of a word. -/
def fits (x : Int) : Bool := decide (-2048 ≤ x) && decide (x ≤ 2047)
/-- R222: clamp. -/
def clampTo (lo hi x : Int) : Int := max lo (min hi x)

/-- A result with the flags that go with it: the carry and the overflow (none: unchanged), whether it was clamped, whether it divided by
zero. N and Z follow the result. -/
structure Alu where
  val : Nat
  c   : Option Bool := some false
  v   : Option Bool := some false
  sat : Bool := false
  dz  : Bool := false

namespace Alu

/-- R242: a sum with a carry in, and a difference with a borrow in. -/
def add (a b cin : Nat) : Alu :=
  { val := (a + b + cin) % 4096, c := some (decide (4096 ≤ a + b + cin)), v := some !(fits (sgn a + sgn b + cin)) }
def sub (a b bin : Nat) : Alu :=
  { val := wrap 12 ((a : Int) - b - bin), c := some (decide (a < b + bin)), v := some !(fits (sgn a - sgn b - bin)) }
/-- R242: AND, OR, XOR, ANDN leave C unchanged. -/
def logic (x : Nat) : Alu := { val := x % 4096, c := none }
/-- R242: a clamped result. -/
def clamped (x : Int) : Alu := { val := wrap 12 (clampTo (-2048) 2047 x), sat := !(fits x) }
/-- R242: signed minimum and maximum. -/
def minimum (a b : Nat) : Alu := { val := if sgn a ≤ sgn b then a else b }
def maximum (a b : Nat) : Alu := { val := if sgn a ≤ sgn b then b else a }
/-- R242: leading zero bits, and one bits. -/
def clz (a : Nat) : Alu := { val := ((List.range 12).takeWhile fun i => !a.testBit (11 - i)).length }
def popc (a : Nat) : Alu := { val := ((List.range 12).filter a.testBit).length }

/-- R243. -/
def neg (a : Nat) : Alu := { val := (4096 - a) % 4096, c := some (decide (a ≠ 0)), v := some (decide (a = 0x800)) }
def negs (a : Nat) : Alu := clamped (-sgn a)
def abs (a : Nat) : Alu := { val := if sgn a < 0 then (4096 - a) % 4096 else a, v := some (decide (a = 0x800)) }
def abss (a : Nat) : Alu := clamped (sgn a).natAbs

/-- R244. -/
def mul (a b : Nat) : Alu := { val := wrap 12 (sgn a * sgn b), v := some !(fits (sgn a * sgn b)) }
def mulh (a b : Nat) : Alu := { val := wrap 24 (sgn a * sgn b) / 4096 }
def mulhu (a b : Nat) : Alu := { val := a * b / 4096 }
def mulq (a b : Nat) : Alu := clamped ((sgn a * sgn b + 1024) / 2048)

/-- R245: division by zero. -/
def divZero (val : Nat) : Alu := { val := val, dz := true }
def div (a b : Nat) : Alu :=
  if b = 0 then divZero (if sgn a < 0 then 0x800 else 0x7FF)
  else { val := wrap 12 (Int.tdiv (sgn a) (sgn b)), v := some !(fits (Int.tdiv (sgn a) (sgn b))) }
def divs (a b : Nat) : Alu :=
  if b = 0 then divZero (if sgn a < 0 then 0x800 else 0x7FF) else clamped (Int.tdiv (sgn a) (sgn b))
def divu (a b : Nat) : Alu := if b = 0 then divZero 0xFFF else { val := a / b }
def rem (a b : Nat) : Alu := if b = 0 then divZero a else { val := wrap 12 (Int.tmod (sgn a) (sgn b)) }
def remu (a b : Nat) : Alu := if b = 0 then divZero a else { val := a % b }

/-- R246: shifts by an unsigned count. -/
def sll (a k : Nat) : Alu :=
  { val := if k < 12 then a * 2 ^ k % 4096 else 0, c := some (decide (1 ≤ k) && decide (k ≤ 12) && a.testBit (12 - k)) }
def srl (a k : Nat) : Alu :=
  { val := if k < 12 then a / 2 ^ k else 0, c := some (decide (1 ≤ k) && decide (k ≤ 12) && a.testBit (k - 1)) }
def sra (a k : Nat) : Alu :=
  { val := wrap 12 (sgn a / 2 ^ min k 12), c := some (decide (1 ≤ k) && decide (k ≤ 12) && a.testBit (k - 1)) }
/-- R247: rotations. -/
def rotate (a k : Nat) : Nat := (a * 2 ^ k + a / 2 ^ (12 - k)) % 4096
def rol (a k : Nat) : Alu :=
  let x := rotate a (k % 12)
  { val := x, c := some (decide (k % 12 ≠ 0) && x.testBit 0) }
def ror (a k : Nat) : Alu :=
  let x := rotate a ((12 - k % 12) % 12)
  { val := x, c := some (decide (k % 12 ≠ 0) && x.testBit 11) }

end Alu

namespace Core

/-- R229: the carry of PS as a number. -/
def carry (c : Core) : Nat := (c.psBit 0).toNat
/-- A sticky bit of PS. -/
def stick (c : Core) (i : Nat) (b : Bool) : Core := if b then c.setPs i true else c
/-- R241: N and Z of a result; C and V as given, unchanged for none. -/
def setNZ (c : Core) (n z : Bool) (cf vf : Option Bool) : Core :=
  let c := (c.setPs 3 n).setPs 2 z
  let c := match cf with | some b => c.setPs 0 b | none => c
  match vf with | some b => c.setPs 1 b | none => c
/-- R241, R242: a result with its flags goes to scalar register rd. -/
def put (c : Core) (rd : Nat) (x : Alu) : Core :=
  (((c.setNZ (x.val.testBit 11) (decide (x.val = 0)) x.c x.v).stick 5 x.sat).stick 4 x.dz).setR rd x.val

/-- R257: the condition of a branch. -/
def cond (c : Core) (k : Nat) : Bool :=
  let cf := c.psBit 0
  let v := c.psBit 1
  let z := c.psBit 2
  let n := c.psBit 3
  match k with
  | 0 => true
  | 1 => z
  | 2 => !z
  | 3 => n != v
  | 4 => n == v
  | 5 => z || n != v
  | 6 => !z && n == v
  | 7 => cf
  | 8 => !cf
  | 9 => cf || z
  | 10 => !cf && !z
  | 11 => n
  | 12 => !n
  | 13 => v
  | _ => !v

end Core
end Sys2Proof.Machine
end

