-- ==== Sys2Proof/Machine/Links.lean ====
section
/-! DEFINITION. Safe-frame connections and transports (spec/12_safe_links_and_pairs.md, R428 to R448): the checks of a received frame,
admission, sending, time alignment, and the meanings of their rows. -/
namespace Sys2Proof.Machine

/-! ### Frames received (R423, R433) -/

/-- The fields of a received frame. -/
def frameWord (l : List Word) (i : Nat) : Nat := (l.getD i 0).toNat
def frameId (l : List Word) : Nat := frameWord l 0 + 4096 * frameWord l 1 + 0x1000000 * (frameWord l 2 % 256)
def frameSeq (l : List Word) : Nat := frameWord l 2 / 256 + 16 * frameWord l 3
def frameLen (l : List Word) : Nat := frameWord l 5
def frameKind (l : List Word) : Nat := frameWord l 6
def framePayload (l : List Word) : List Word := (l.drop 6).take (frameLen l)
/-- R433 check 2, of the bytes of a frame: LEN, the zero bits of R423 and R424, enough bytes, padding of zeros on CAN FD (R429). -/
def frameFormat (tr : Nat) (b : List Byte) : Bool :=
  let l := unpackWords b
  let n := frameLen l
  let size := frameBytes n
  decide (6 ≤ l.length) && decide (1 ≤ n) && decide (n ≤ (if tr < 4 then 33 else 40)) && decide (frameWord l 4 < 1024) &&
    decide (size ≤ b.length) && decide (frameWord l (n + 8) < 256) && (n % 2 == 1 || (b.getD (size - 1) 0).toNat % 16 == 0) &&
    (decide (4 ≤ tr) || (b.drop size).all (· == 0))
/-- R136: LEN of a TSYNC frame is 6 + M. -/
def tsyncLen (l : List Word) : Bool := frameLen l == 6 + frameWord l 11 % 32
/-- R425: the check value is right. -/
def frameCheck (l : List Word) : Bool :=
  let n := frameLen l
  kcrc (frameId l) ((l.take (n + 6)).map BitVec.toNat) ==
    frameWord l (n + 6) + 4096 * frameWord l (n + 7) + 0x1000000 * frameWord l (n + 8)

namespace State

/-! ### Allow-list entries (R440, R442) -/

/-- Entry e admits partners: the image loaded it (R440), it is enabled, and no lower entry has its slots (R442). -/
def entryOn (s : State) (e : Nat) : Bool :=
  s.entryIn.contains e && s.rd (KSF_ALLOW_MAXC e) != 0 && s.rd (KSF_ALLOW_DIR e) != 0 && !s.entryOff.contains e
/-- The entry consumes; it produces. -/
def consumes (s : State) (e : Nat) : Bool := s.bit (KSF_ALLOW_DIR e) 0
def produces (s : State) (e : Nat) : Bool := s.bit (KSF_ALLOW_DIR e) 1
/-- R428, R429: a frame that came on a transport by a link address is on entry e's transport, on CAN FD under its identifier. -/
def entryHears (s : State) (e tr via : Nat) : Bool :=
  s.rd (KSF_ALLOW_TR e) == tr && (decide (4 ≤ tr) || s.rd (KSF_ALLOW_CANID e) == via)
/-- The entry on a transport whose class an identity has. -/
def classEntry (s : State) (tr via id : Nat) : Option Nat :=
  (List.range 32).find? fun e => s.entryOn e && s.entryHears e tr via && s.rd (KSF_ALLOW_CLASS e) == id / 0x100000
/-- R429: MAXC, at most one on CAN FD. -/
def entryMax (s : State) (e : Nat) : Nat := if s.rd (KSF_ALLOW_TR e) < 4 then min 1 (s.rd (KSF_ALLOW_MAXC e)) else s.rd (KSF_ALLOW_MAXC e)
/-- R441 condition 1: the entry admits in the present device state. -/
def entryActive (s : State) (e : Nat) : Bool :=
  s.dev == .run || s.dev == .maint || s.dev == .safe || (s.dev == .watch && s.on (KSF_ALLOW_WKEEP e))
/-- R442: the device sends its own JOINs for the entry in the present device state. -/
def joinActive (s : State) (e : Nat) : Bool := s.entryActive e || s.dev == .rejoin

/-! ### Connections (R432, R438) -/

def conns64 : List Nat := List.range 64
/-- KSF_STAT.NOPEN. -/
def showOpenConns (s : State) : State := s.wr KSF_STAT_NOPEN (conns64.filter s.openConn).length
/-- R438: the slots that connection c set last are invalid. -/
def dropSlots (s : State) (c : Nat) : State :=
  s.each (List.range 64) fun t k => if t.rd (KSF_SLOT_CONN k) = c then t.put (KSF_SLOT_VALID k) false else t
/-- Connection c becomes CLOSED (0) or LOST (3). -/
def endConn (s : State) (c st : Nat) : State := ((s.wr (KSF_CONN_STATE c) st).dropSlots c).showOpenConns
/-- R449: the identity of the pair is known once the partner's is. -/
def knowPartner (s : State) (e id : Nat) : State :=
  if s.on (KSF_ALLOW_PARTNER e) then { s with pair := { s.pair with ident := some (min (s.rd KSF_OWNID_ID) id) } } else s
/-- Connection c becomes OPEN on entry e with a partner's identity; TXSEQ is the number of its next frame. -/
def startConn (s : State) (c e via id : Nat) (init : Bool) (txseq : Nat) : State :=
  let s := ((((s.wr (KSF_CONN_STATE c) 2).wr (KSF_CONN_ENTRY c) e).put (KSF_CONN_INIT c) init).wr (KSF_CONN_ID c) id).wr (KSF_CONN_TXSEQ c) txseq
  let s := s.clear [KSF_CONN_LOSTF c, KSF_CONN_SEQD c, KSF_CONN_CHKD c]
  ((s.modConn c fun x =>
    { x with tr := s.rd (KSF_ALLOW_TR e), peer := some via, heardAt := s.time, fresh := true, checks := [], sentAt := s.time }).knowPartner e
      id).showOpenConns
/-- The connection of an identity on a transport: OPEN with that identity, or JOINING for an entry of its class. -/
def connOf (s : State) (tr via id : Nat) : Option Nat :=
  (conns64.find? fun c => s.openConn c && s.rd (KSF_CONN_ID c) == id && s.entryHears (s.connEntry c) tr via).orElse fun _ =>
    conns64.find? fun c => s.rd (KSF_CONN_STATE c) == 1 && s.entryHears (s.connEntry c) tr via &&
      s.rd (KSF_ALLOW_CLASS (s.connEntry c)) == id / 0x100000
/-- A connection free for an identity: a LOST one of the same partner, else a CLOSED one, else a LOST one. -/
def freeConn (s : State) (id : Nat) : Option Nat :=
  ((conns64.find? fun c => s.rd (KSF_CONN_STATE c) == 3 && s.rd (KSF_CONN_ID c) == id).orElse fun _ =>
    conns64.find? fun c => s.rd (KSF_CONN_STATE c) == 0).orElse fun _ => conns64.find? fun c => s.rd (KSF_CONN_STATE c) == 3

/-! ### Sending (R437, R439, R442, R443) -/

/-- A frame for entry e that belongs to no connection: ACCEPT, REFUSE and JOIN carry SEQ 0. -/
def sendEntry (s : State) (e : Nat) (peer : Option Nat) (payload : List Nat) : State :=
  s.transmit e peer (ksfFrame (s.rd KSF_OWNID_ID) 0 (s.rd (KSF_ALLOW_TEXP e)) (padTo (s.rd (KSF_ALLOW_LEN e)) payload))
/-- R437: one DATA frame on connection c. -/
def sendData (s : State) (c : Nat) : State :=
  let l := (s.conn c).payload
  if s.on (KSF_ALLOW_PARTNER (s.connEntry c)) then s.sendKind c ([2, s.pair.solo.toNat, s.rd MIR_EPOCH_EPOCH] ++ l.drop 1)
  else s.sendKind c ([2, 0] ++ l)
/-- R443: LEAVE on connection c, which closes. -/
def leave (s : State) (c : Nat) : State := if s.openConn c then (s.sendKind c [6]).endConn c 0 else s.endConn c 0
/-- R443: on entry into WATCH every connection without WKEEP closes; on entry into SLEEP every one. -/
def leaveAll (s : State) (keep : Bool) : State :=
  s.each (conns64.filter fun c => s.openConn c && !(keep && s.on (KSF_ALLOW_WKEEP (s.connEntry c)))) fun t c => t.leave c
/-- R442: a connection of entry e is OPEN. -/
def entryOpen (s : State) (e : Nat) : Bool := conns64.any fun c => s.openConn c && s.connEntry c == e
/-- R442: the device's own JOIN for entry e, while no connection of the entry is OPEN. -/
def sendJoin (s : State) (e : Nat) : State :=
  if s.entryOpen e then s else
  match (conns64.find? fun c => s.rd (KSF_CONN_STATE c) != 0 && s.on (KSF_CONN_INIT c) && s.connEntry c == e).orElse fun _ =>
      conns64.find? fun c => s.rd (KSF_CONN_STATE c) == 0 with
  | none => s
  | some c =>
    let s := (((s.wr (KSF_CONN_STATE c) 1).wr (KSF_CONN_ENTRY c) e).put (KSF_CONN_INIT c) true).modConn c fun x =>
      { x with tr := s.rd (KSF_ALLOW_TR e), joinAt := some s.time }
    s.sendEntry e (s.conn c).peer [3]

/-! ### Admission (R441, R442) -/

/-- R441: the first condition that fails for a JOIN on entry e from an identity; 0 when all hold. -/
def joinFails (s : State) (e tr id : Nat) : Nat :=
  let used := (conns64.filter fun c => s.rd (KSF_CONN_STATE c) == 1 || s.openConn c).length
  if ¬s.entryActive e then 1
  else if s.entryMax e ≤ (conns64.filter fun c => s.openConn c && s.connEntry c == e).length ∨ 64 ≤ used then 2
  else if conns64.any fun c => s.openConn c && s.rd (KSF_CONN_ID c) == id && (s.conn c).tr != tr then 3
  else 0
/-- R441, R442: a JOIN that passes checks 1 to 6. -/
def letIn (s : State) (e tr via id : Nat) : State :=
  let s := match conns64.find? fun c => s.openConn c && s.rd (KSF_CONN_ID c) == id && (s.conn c).tr == tr with
    | some c => s.endConn c 3
    | none => s
  let own := conns64.find? fun c => s.rd (KSF_CONN_STATE c) == 1 && s.on (KSF_CONN_INIT c) && s.connEntry c == e
  if own.isSome ∧ id < s.rd KSF_OWNID_ID then s
  else
    let s := match own with | some c => s.endConn c 0 | none => s
    let used := (conns64.filter fun c => s.rd (KSF_CONN_STATE c) == 1 || s.openConn c).length
    match s.joinFails e tr id, s.freeConn id with
    | 0, some c => ((s.startConn c e via id false 1).sendEntry e (some via) [4])
    | code, _ =>
      let s := (s.sendEntry e (some via) [5, code]).report clLink (0x0C0 + e) 1 13
      if code = 2 ∧ 64 ≤ used then s.report clLink 0x0E1 1 13 else s

/-! ### Receiving (R433 to R438) -/

/-- The reasons of R433, by number. -/
def rsFormat : Nat := 2
def rsUnknown : Nat := 3
def rsCheck : Nat := 4
def rsParam : Nat := 5
def rsKind : Nat := 6
def rsDup : Nat := 7
def rsOrder : Nat := 8

/-- R433: a frame is discarded, on a connection where one is named; R436: four CHECK discards within 1 s lose the connection, OPEN or JOINING. -/
def discardFrame (s : State) (c : Option Nat) (reason : Nat) : State :=
  match c with
  | none => s.report clLink 0x0E0 0 13 [reason]
  | some c =>
    let s := s.report clLink (0x080 + c) 0 13 [reason]
    if reason = rsDup ∨ reason = rsOrder then s.bump (KSF_CONN_SEQD c)
    else if reason = rsCheck then
      let l := (s.time :: (s.conn c).checks).filter fun t => decide (s.time ≤ t + 16000000)
      let s := (s.bump (KSF_CONN_CHKD c)).modConn c fun x => { x with checks := l }
      if 4 ≤ l.length ∧ (s.openConn c ∨ s.rd (KSF_CONN_STATE c) = 1) then (s.endConn c 3).report clLink (0x040 + c) 1 13 else s
    else s

/-- R426, R433 check 5: TEXP and LEN are the entry's; LEN of TSYNC is 6 + M and at most the entry's. -/
def paramOk (s : State) (e : Nat) (l : List Word) : Bool :=
  frameWord l 4 == s.rd (KSF_ALLOW_TEXP e) &&
    (if frameKind l = 1 then decide (frameLen l ≤ s.rd (KSF_ALLOW_LEN e)) && tsyncLen l
     else frameLen l == s.rd (KSF_ALLOW_LEN e))
/-- R426, R433 check 6: the kind is one that the entry and the connection's state allow. -/
def kindOk (s : State) (c : Option Nat) (e k : Nat) : Bool :=
  let op := c.any s.openConn
  match k with
  | 1 => op && s.on (KSF_ALLOW_BCAST e) && s.consumes e
  | 2 => op && s.consumes e
  | 3 => true
  | 4 | 5 => c.isSome && s.on (KSF_ALLOW_INIT e)
  | 6 => c.isSome
  | 8 => op && s.on (KSF_ALLOW_STILL e) && s.consumes e
  | _ => false

/-- R434: the sequence number of a frame on an OPEN connection: its discard, or the state with RXSEQ moved on. -/
def sequence (s : State) (c q : Nat) : State × Option Nat :=
  if (s.conn c).fresh then ((s.wr (KSF_CONN_RXSEQ c) q).modConn c fun x => { x with fresh := false }, none)
  else
    let d := (q + 65536 - s.rd (KSF_CONN_RXSEQ c)) % 65536
    if d = 0 then (s, some rsDup)
    else if 16 < d then (s, some rsOrder)
    else ((s.wr (KSF_CONN_RXSEQ c) q).wr (KSF_CONN_LOSTF c) (min 4095 (s.rd (KSF_CONN_LOSTF c) + d - 1)), none)

/-- R435, R466: an accepted frame restarts the watchdog, stands in KSF_RXc, raises the FRAME line, and starts its cluster (R36). -/
def acceptFrame (s : State) (c : Nat) (p : List Word) : State :=
  let e := s.connEntry c
  let s := (s.modConn c fun x => { x with heardAt := s.time })
  let s := (padTo 40 (p.map BitVec.toNat)).zipIdx.foldl (fun (t : State) w => t.wr (KSF_RX_P c w.2) w.1) s
  let s := (s.wr (KSF_RXTIME_TIME c) s.devTime).wr (KSF_RXCNT_COUNT c) (s.rd (KSF_RXCNT_COUNT c) + 1)
  if s.on (KSF_ALLOW_ITEN e) then
    let q := s.coreOf (s.rd (KSF_ALLOW_ITENG e)) (s.rd (KSF_ALLOW_ITCORE e))
    (s.raise q 6).startRouted 2 3
  else s

/-- R438: an accepted DATA frame sets the input slots of its entry. -/
def setSlots (s : State) (c p1 : Nat) : State :=
  let e := s.connEntry c
  s.each (List.range (s.rd (KSF_ALLOW_NSLOT e))) fun t i =>
    let k := t.rd (KSF_ALLOW_SLOTBASE e) + i
    if 64 ≤ k then t
    else (((t.wr (KSF_SLOT_VAL k) (bits p1 (2 * i) 2)).put (KSF_SLOT_VALID k) true).wr (KSF_SLOT_CONN k) c).slotArrives k

/-- R376: a standstill report ends every category 1 stop. -/
def standstill (s : State) : State := (s.each (List.range 24) fun t f => t.endStop f).updOutputs

/-! ### Register writes (R437, R439, R442, R443) -/

/-- KSF_TXc at +0x28 (R437): COMMIT takes every payload word; SEND sends one further frame. -/
def writeTxcmd (s : State) (c v : Nat) : State :=
  let s := if (KSF_TXCMD_COMMIT c).of v = 1 then
      s.modConn c fun x => { x with payload := (List.range 38).map fun i => s.rd (KSF_TX_P c i) } else s
  if (KSF_TXCMD_SEND c).of v = 1 ∧ s.openConn c ∧ s.produces (s.connEntry c) then s.sendData c else s
/-- KSF_TSSEND (R439): an engine in SV mode sends a TSYNC frame, or the write is refused. -/
def writeTssend (s : State) (r : Requester) (v : Nat) : State :=
  if KSF_TSSEND_GO.of v = 0 then s
  else
    let c := KSF_TSSEND_CONN.of v
    let e := s.connEntry c
    let m := s.rd KSF_TSM_M
    if s.svMode r ∧ s.openConn c ∧ s.produces e ∧ m ≤ 16 ∧ 6 + m ≤ s.rd (KSF_ALLOW_LEN e) then
      s.sendOn c ([1] ++ timeWords (s.rd KSF_TSTAG_TAG) ++ [m] ++
        (List.range m).map fun j => s.rd (KSF_TSREQ_GROUP j) + 16 * s.rd (KSF_TSREQ_ASPECT j))
    else s.report clLink 0x0E3 1 13
/-- KSF_OPEN (R442). -/
def writeKsfOpen (s : State) (v : Nat) : State :=
  let e := KSF_OPEN_ENTRY.of v
  if KSF_OPEN_GO.of v = 1 ∧ s.on (KSF_ALLOW_INIT e) ∧ s.entryOn e then s.sendJoin e else s
/-- KSF_CLOSE (R443). -/
def writeKsfClose (s : State) (v : Nat) : State :=
  if KSF_CLOSE_GO.of v = 1 then s.leave (KSF_CLOSE_CONN.of v) else s
/-- KSF_CANk (R466): the timing fields are not written while EN = 1; the attempt is flagged. -/
def writeCan (s : State) (k v : Nat) : State :=
  let busy := s.on (KSF_CAN_EN k)
  let timing := [KSF_CAN_NBRP k, KSF_CAN_NSJW k, KSF_CAN_NTSEG1 k, KSF_CAN_NTSEG2 k, KSF_CAN_DBRP k, KSF_CAN_DSJW k, KSF_CAN_DTSEG1 k,
    KSF_CAN_DTSEG2 k, KSF_CAN_TDCO k]
  let change := timing.any fun f => f.of v != s.rd f
  let s := [KSF_CAN_EN k, KSF_CAN_BRS k, KSF_CAN_LOM k, KSF_CAN_TDCEN k].foldl (fun (t : State) f => t.wr f (f.of v)) s
  if busy then (if change then s.flag (0xD80010 + 8 * k) 1 2 else s) else timing.foldl (fun (t : State) f => t.wr f (f.of v)) s

/-! ### Time alignment (R445 to R448) -/

/-- R445: the pair partner is the time source: role B, mirror link up, not SOLO. -/
def partnerTime (s : State) : Bool := s.rd MIR_STAT_PSTATE != 0 && s.on SEAL_DEC_ROLEB && s.on MIR_STAT_LINK && !s.pair.solo
/-- R445: a time source is set: the partner, chipset time or 802.1AS. -/
def timeSet (s : State) : Bool := s.partnerTime || s.rd KSF_TCFG_SRC == 1 || s.rd KSF_TCFG_SRC == 2
/-- R445: the time source that is set can be heard: the partner, chipset time where KL is up, 802.1AS where the MAC that KSF_TCFG.ETH names
has its link. -/
def timeSource (s : State) : Bool :=
  s.partnerTime || (s.rd KSF_TCFG_SRC == 1 && s.rd HIF_KLSTAT_STATE == 3) ||
    (s.rd KSF_TCFG_SRC == 2 && s.on (KSF_ETH_LINK (s.rd KSF_TCFG_ETH)))
/-- R447: the bound of the source in force, in ticks. -/
def timeBound (s : State) : Nat := if ¬s.partnerTime ∧ s.rd KSF_TCFG_SRC = 2 then 16 else 2
/-- R446, R447: one measurement of the source's time minus own time: the first step, the correction owed, the lock. -/
def measure (s : State) (ofs : Int) : State :=
  let s := s.wr KSF_TOFS_OFS (wrap 24 ofs)
  let b := s.timeBound
  let run := if ofs.natAbs ≤ b then s.clock.lockRun + 1 else 0
  let s := if ¬s.on KSF_TCFG_EVERLOCK ∧ 16000 < ofs.natAbs then
      { s.stepDevice ofs with clock := { s.clock with owed := 0, lockRun := run } }
    else { s with clock := { s.clock with owed := ofs, lockRun := run } }
  if 16 ≤ run then (s.put KSF_TCFG_ALOCK true).put KSF_TCFG_EVERLOCK true
  else if 4 * b < ofs.natAbs then s.put KSF_TCFG_ALOCK false else s

end State

/-! ### Meanings -/

/-- CONNECTION_WATCHDOG (R435). -/
def execConnectionWatchdog (c : Fin 64) (s : State) : Out :=
  let e := s.connEntry c
  .next (if s.openConn c ∧ s.consumes e ∧ (s.conn c).heardAt + 16000 * s.rd (KSF_ALLOW_TEXP e) ≤ s.time then
      (s.endConn c 3).report clLink c 1 13
    else s)

/-- DATA_SEND (R437): the periodic DATA frame. -/
def execDataSend (c : Fin 64) (s : State) : Out :=
  let e := s.connEntry c
  let period := 16000 * min (s.rd (KSF_ALLOW_TXPER e)) (s.rd (KSF_ALLOW_TEXP e) / 2)
  .next (if s.openConn c ∧ s.produces e ∧ (s.conn c).sentAt + period ≤ s.time then
      (s.sendData c).modConn c fun x => { x with sentAt := s.time }
    else s)

/-- JOIN_RETRY (R442): at start-up and at entry into RUN the first JOIN, then one every 100 ms. -/
def execJoinRetry (e : Fin 32) (s : State) : Out :=
  let mine := State.conns64.find? fun c => s.rd (KSF_CONN_STATE c) != 0 && s.on (KSF_CONN_INIT c) && s.connEntry c == e.val
  let last := mine.bind fun c => (s.conn c).joinAt
  .next (if s.entryOn e ∧ s.on (KSF_ALLOW_INIT e) ∧ s.joinActive e ∧ ¬s.entryOpen e ∧
      last.all (fun t => decide (t + 1600000 ≤ s.time) || decide (t < s.runAt)) then s.sendJoin e
    else s)

/-- BUS_OFF (R429). -/
def execBusOff (k : Fin 4) (s : State) : Out :=
  .next (if s.on (KSF_CAN_EN k) ∧ ¬s.on (KSF_CAN_BOFF k) then (s.put (KSF_CAN_BOFF k) true).report clLink (0x100 + k) 1 13 else s)
/-- BUS_OFF_RECOVERY (R429). -/
def execBusOffRecovery (k : Fin 4) (s : State) : Out := .next (s.put (KSF_CAN_BOFF k) false)
/-- ETHERNET_LINK_DOWN (R430). -/
def execEthernetLinkDown (m : Fin 2) (s : State) : Out :=
  .next (if s.on (KSF_ETH_LINK m) then (s.put (KSF_ETH_LINK m) false).report clLink (0x104 + m) 1 13 else s)
/-- ETHERNET_LINK_UP (R430). -/
def execEthernetLinkUp (m : Fin 2) (s : State) : Out := .next (s.put (KSF_ETH_LINK m) true)
/-- KL_DOWN (R431, R534, R538). -/
def execKlDown (s : State) : Out :=
  .next (if s.rd HIF_KLSTAT_STATE = 3 then
      (((s.wr HIF_KLSTAT_STATE 0).wr HIF_KLSTAT_LANES 0).raiseBit HIF_IPEND_LINES 11).report clLink 0x106 1 13
    else s)
/-- TIME_MEASUREMENT (R446, R447): the source's time minus own time, signed; the source is KL, 802.1AS or the partner. -/
def execTimeMeasurement (ofs : BitVec 24) (s : State) : Out :=
  .next (if s.timeSource then s.measure ofs.toInt else s)
/-- TIME_SOURCE_LOST (R448). -/
def execTimeSourceLost (s : State) : Out :=
  .next (if s.timeSet then (({ s with clock := { s.clock with lockRun := 0 } }).put KSF_TCFG_ALOCK false).report clLink 0x110 1 13
    else s)

end Sys2Proof.Machine
end

