-- ==== Sys2Proof/Machine/SyncChain.lean ====
section
/-! DEFINITION. The SYNC chain (R117 to R122, R127): its registers and the meanings of its rows. -/
namespace Sys2Proof.Machine
namespace State

/-- R127: the written SYNC configuration comes into force. -/
def installSync (s : State) : State :=
  s.modBcast fun b => { b with master := s.on PWR_SYNCCFG_MASTER, fwd := s.on PWR_SYNCCFG_FWD, frame := s.rd PWR_FRAME_VALUE,
                               comp := s.rd PWR_SYNCCOMP_VALUE }
/-- R127: whether a change takes effect at once: no marks are running. -/
def noMarks (s : State) : Bool :=
  (s.bcast.master && s.bcast.frame == 0) || s.on PWR_SYNCSTAT_MLOST || s.bcast.lastMark.isNone

/-- PWR_SYNCCFG, PWR_FRAME, PWR_SYNCCOMP (R127). -/
def writeSync (s : State) (l : List Fld) (v : Nat) : State :=
  let s := l.foldl (fun (t : State) f => t.wr f (f.of v)) s
  (if s.noMarks then s.installSync else s).updWatch

/-- R117: a rejected pulse. -/
def rejectPulse (s : State) (src : Nat) : State :=
  ((s.bump PWR_SYNCREJ_COUNT).wr PWR_SYNCSTAT_LAST 3).report clLink src 0 13
/-- A pulse leaves on SYNCO: the coarse tick of its rise, its width in coarse ticks. -/
def emitPulse (s : State) (rise w : Nat) : State := s.modBcast fun b => { b with synco := (rise, w) :: b.synco }
/-- R122: a frame mark is accepted. -/
def markAccepted (s : State) : State :=
  (s.modBcast fun b => { b with lastMark := some s.time }).put PWR_SYNCSTAT_MLOST false

/-- R121: the signed difference between the boundary expected at coarse tick m + PHASE and the grid of the period reference. -/
def alignDiff (s : State) (n : Nat) (m : Int) : Int :=
  let per : Int := s.perF n
  let d := (m - (s.gen n).refA) % per
  if per < 2 * d then d - per else d

/-- R121, R571: frame marks act on channel n: enabled, ALIGN = 1, not frozen; while the sealed period is in force, only where the frame is a
multiple of it. -/
def markActs (s : State) (n : Nat) : Bool :=
  s.on (CH_CFG_EN n) && s.on (CH_ALN_ALIGN n) && !s.on (CH_STAT_FROZEN n) &&
    (!s.sealedPer n || s.bcast.frame * 4000 % s.perF n == 0)

/-- R121: a frame mark at coarse tick m. -/
def markChannel (s : State) (n : Nat) (m : Int) : State :=
  if ¬s.markActs n then s
  else if (s.gen n).changing then s.put (CH_ESTAT_LOCK n) false
  else
    let e := s.alignDiff n m
    (s.modGen n fun g => { g with alignErr := e }).put (CH_ESTAT_LOCK n) (decide (-1 ≤ e) && decide (e ≤ 1))

end State

/-! ### Meanings -/

/-- SYNCI_PULSE (R117, R118, R120): the pulse that rose at coarse tick `rise` and was high for `width` coarse ticks. A master rejects
every pulse. -/
def execSynciPulse (rise width : Nat) (s : State) : Out :=
  let b := s.bcast
  .next (if b.master then s.rejectPulse 0xC45
    else if ((b.lastRise).any fun r => decide (rise < r + 160)) then s.rejectPulse 0xC41
    else
      let isMark := decide (16 ≤ width) && decide (width ≤ 24)
      let isSync := decide (64 ≤ width) && decide (width ≤ 96)
      let act := rise + 129 + b.comp
      if isMark ∨ isSync then
        let s := (s.modBcast fun b => { b with lastRise := some rise }).wr PWR_SYNCSTAT_LAST (if isMark then 1 else 2)
        let s := if b.fwd then s.emitPulse (rise + 32) (if isMark then 20 else 80) else s
        if isMark then s.markAccepted.modBcast fun b => { b with markDue := b.markDue ++ [act] } else s.schedSync act
      else
        let s := s.rejectPulse 0xC41
        if b.fwd ∧ 32 ≤ width then s.emitPulse (rise + 32) (if min width 97 - 32 < 40 then 40 else 112) else s)

/-- FRAME_MARK_EMIT (R118, R120, R127): a master at a multiple of the frame length in device time. -/
def execFrameMarkEmit (s : State) : Out :=
  let len := s.bcast.frame * 160
  .next (if s.bcast.master ∧ s.bcast.frame ≠ 0 ∧ s.dueOn len 0 then
      let s := s.installSync.updWatch
      if s.bcast.master ∧ s.bcast.frame ≠ 0 then
        (s.emitPulse (25 * s.time) 20).markAccepted.modBcast fun b =>
          { b with markDue := b.markDue ++ [25 * s.time + 97 + b.comp], markOut := some (25 * s.time) }
      else s
    else s)

/-- FRAME_MARK (R121, R127): the earliest action instant due of a frame mark. -/
def execFrameMark (s : State) : Out :=
  .next (match s.bcast.markDue with
    | [] => s
    | m :: r =>
      let s := s.modBcast fun b => { b with markDue := r }
      let s := if s.bcast.master then s else s.installSync.updWatch
      s.each channels fun t n => t.markChannel n m)

/-- MARKS_LOST (R122, R127): declared once for each mark or beginning of the watch from which the time runs; a change of the SYNC configuration that waits for a mark takes effect. -/
def execMarksLost (s : State) : Out :=
  .next (match s.bcast.watchAt with
    | none => s
    | some w =>
      let from' := match s.bcast.lastMark with | some m => max m w | none => w
      if s.time < from' + 2 * s.bcast.frame * 160 ∨ s.bcast.lostFor = some from' then s
      else
        let s := s.each channels fun t n => if t.on (CH_ALN_ALIGN n) then t.put (CH_ESTAT_LOCK n) false else t
        let s := (((s.modBcast fun b => { b with lostFor := some from' }).put PWR_SYNCSTAT_MLOST true).bump PWR_SYNCMISS_COUNT).report clClk 0xC40 1 13
        s.installSync.updWatch)

end Sys2Proof.Machine
end

