-- ==== Sys2Proof/Machine/Pair.lean ====
section
/-! DEFINITION. The device pair (spec/12_safe_links_and_pairs.md, R449 to R464): heartbeats, doubling, REJOIN, the mirror transfer, re-entry,
and the meanings of their rows. -/
namespace Sys2Proof.Machine

/-- The code that PWR_STATE shows for a device state. -/
def DevState.code : DevState → Nat
  | .sleep => 0
  | .watch => 1
  | .run => 2
  | .safe => 3
  | .maint => 4
  | .rejoin => 5

namespace State

def modPair (s : State) (f : Pair → Pair) : State := { s with pair := f s.pair }

/-- R449: the device is paired: the seal switches name a role, and the requirements held at start-up (State.decidePair). -/
def paired (s : State) : Bool := s.rd MIR_STAT_PSTATE != 0
/-- R450: the words of the mirror window that the device owns; both halves where it is not paired. -/
def ownMirror (s : State) (a : Nat) : Bool :=
  !s.paired || (if s.on SEAL_DEC_ROLEB then decide (0xE80000 ≤ a) else decide (a < 0xE80000))
/-- The split channels (R453). -/
def splitChannels (s : State) : List Nat := channels.filter fun n => s.on (MIR_SPLIT_EN n)
/-! ### Doubling (R454 to R457) -/

/-- R456: the doubled on-time of the pulse in progress, in HS and HB. -/
def stretchPulse (s : State) (n : Nat) : State :=
  let g := s.gen n
  if s.topo n = 2 ∨ g.phase ≠ .on then s
  else
    let P := 16 * g.curLen
    let t := min (s.genDuty n * P / s.dimN n) (if s.on (CH_CODE_EN n) then s.tMax n P else P - s.rd (CH_MINL_VALUE n))
    let past := 25 * (s.time : Int) - (g.nextB - g.curLen)
    if 16 * (past + 1) ≤ t then s.modGen n fun g => { g with onCur := t } else s
/-- R454, R456, R168: channel n doubles. -/
def double (s : State) (n : Nat) : State :=
  if s.on (MIR_SPLIT_DBL n) then s
  else
    let s := (s.put (MIR_SPLIT_DBL n) true).modPrf n fun p => { p with dblAt := some s.time }
    let s := (((s.refreshAppl n).clampSafe n).stretchPulse n).recapture n
    if s.leads n then s.recapture (n + 1) else s
/-- R457, R462: channel n hands over from the doubled value to the single one; `check` applies R155. -/
def undouble (s : State) (n : Nat) (check : Bool) : State :=
  if ¬s.on (MIR_SPLIT_DBL n) then s
  else
    let y := s.rd (CH_APPL_VALUE n)
    let s := s.put (MIR_SPLIT_DBL n) false
    let s := s.modPair fun p => { p with byFault := p.byFault.filter (· != n), byLoss := p.byLoss.filter (· != n) }
    let tgt := s.ctrlTarget n
    let far := s.rd (CH_HWIN_VALUE n) * s.full n / 4096 < (tgt - y) + (y - tgt)
    let s := if check ∧ s.rd (CH_HWIN_VALUE n) ≠ 0 ∧ far then s.modeDisagree n else s
    s.pairHandOver n y

/-- R455: the expectation that the aspect gives channel n without its latch is LIT. -/
def wouldLit (s : State) (n : Nat) : Bool :=
  let k := s.activeKind n
  !s.rejoining n && k != 0 && k != 1 && (s.judgedLit n (s.derate n (s.rd (CH_APPL_VALUE n))) == .lit)
/-- R455: the TFLT bit that the device reports for its split channel n. -/
def faultBit (s : State) (n : Nat) : Bool :=
  s.wouldLit n &&
    (!s.on (CH_CFG_EN n) || s.heldOff n || (s.prot n).bstHold || s.rd (CH_PVER_STATE n) == 4 ||
      (s.latched n && (s.safeState n == 0 || (s.safeState n == 2 && !s.flashOn && !s.on MIR_STAT_ALOCK))))

/-! ### Heartbeats and epochs (R451, R452, R458, R459) -/

/-- R451: the heartbeat that the device sends. -/
def ownBeat (s : State) : Heartbeat where
  ident   := BitVec.ofNat 32 (s.pair.ident.getD (s.rd KSF_OWNID_ID))
  time    := BitVec.ofNat 48 s.devTime
  roleB   := s.on SEAL_DEC_ROLEB
  state   := BitVec.ofNat 3 s.dev.code
  epoch   := BitVec.ofNat 12 (s.rd MIR_EPOCH_EPOCH)
  solo    := s.pair.solo
  aspects := (List.finRange 16).filterMap fun (g : Fin 16) =>
    if s.on (SN_AGACT_VALID g.val) then some (g, Fin.ofNat 64 (s.rd (SN_AGACT_ASP g.val)), s.on (SN_AGACT_DEMAND g.val)) else none
  tflt    := (List.finRange 192).filter fun (n : Fin 192) => s.on (MIR_SPLIT_EN n.val) && s.faultBit n.val

/-- R449, R451: a heartbeat names the opposite role and carries the pair identity: the lower of the two identities, which is the own one or
a lower one of the PARTNER entry's class as long as the partner's is not known. -/
def beatValid (s : State) (hb : Heartbeat) : Bool :=
  let id := hb.ident.toNat
  hb.roleB != s.on SEAL_DEC_ROLEB &&
    match s.pair.ident with
    | some i => id == i
    | none => id == s.rd KSF_OWNID_ID || (decide (id < s.rd KSF_OWNID_ID) &&
        (List.range 32).any fun e => s.on (KSF_ALLOW_PARTNER e) && s.rd (KSF_ALLOW_CLASS e) == id / 0x100000)
/-- R447, R451: the partner's time minus own time, from a heartbeat and the link delay in ns, to the nearest tick. -/
def beatOfs (s : State) (hb : Heartbeat) (delay : Nat) : Int := (hb.time.toNat : Int) + (2 * delay + 62) / 125 - s.devTime

/-- R458: the member with epoch x is behind the one with epoch y. -/
def behind (s : State) (x y : Nat) : Bool :=
  let d := (y + 4096 - x) % 4096
  decide (1 ≤ d) && (decide (d ≤ 2047) || (d == 2048 && s.on SEAL_DEC_ROLEB))

/-- R460: the full mirror transfer starts anew. -/
def startTransfer (s : State) : State :=
  (s.clear [MIR_XSTAT_BLOCKS, MIR_XSTAT_RETRY, MIR_XSTAT_DONE, MIR_XSTAT_FAIL]).modPair fun p =>
    { p with got := [], repeats := [], failAt := none, theirs := false, out := some 0 }

/-- R458, R459: the device enters REJOIN; a member that was SOLO first hands its split channels over down to 0. -/
def enterRejoin (s : State) : State :=
  if ¬(s.began = .run ∨ s.began = .watch) then s
  else
    let vals := s.splitChannels.map fun n => (n, s.emitted n)
    let s := s.transition .rejoin
    if s.dev ≠ .rejoin then s
    else
      let s := (s.report clLink 0x122 1 13).modPair fun p => { p with rejoiner := p.solo, instant := none, agreed := false }
      let s := vals.foldl (fun (t : State) v =>
        if t.pair.rejoiner then t.startHandOver v.1 v.2 else (t.put (CH_SHST_HOACT v.1) false).setAppl v.1 0) s
      (((s.startTransfer).failFences 4).updOutputs).raisePair

/-- R458: the device compares its epoch with the partner's. -/
def compareEpoch (s : State) (e : Nat) : State :=
  let s := s.wr MIR_EPOCH_PEPOCH e
  if s.behind (s.rd MIR_EPOCH_EPOCH) e ∧ s.dev ≠ .rejoin then s.enterRejoin else s
/-- R458: a DATA frame on the PARTNER connection, while the mirror link is down and the device is SOLO: the partner's SOLO state is shown,
and the epochs are compared. -/
def partnerData (s : State) (solo : Bool) (e : Nat) : State :=
  if s.paired ∧ ¬s.on MIR_STAT_LINK ∧ s.pair.solo then (s.put MIR_STAT_PSOLO solo).compareEpoch e else s

/-- R455, R457: the TFLT bits of a heartbeat. -/
def takeTflt (s : State) (hb : Heartbeat) : State :=
  s.each s.splitChannels fun t n =>
    let b := (hb.tflt.map Fin.val).contains (t.rd (MIR_SPLIT_TWIN n))
    let t := t.put (MIR_SPLIT_TFLT n) b
    if b then
      let t := t.modPair fun p => { p with clearAt := p.clearAt.set none n none }
      if t.on (MIR_SPLIT_COMP n) then
        (t.double n).modPair fun p => { p with byFault := if p.byFault.contains n then p.byFault else n :: p.byFault }
      else t
    else t.modPair fun p => { p with clearAt := p.clearAt.set none n (some ((p.clearAt.get none n).getD t.time)) }

/-- R447: the pair lock from one offset measurement. -/
def pairLock (s : State) (ofs : Int) : State :=
  let run := if ofs.natAbs ≤ 2 then s.pair.lockRun + 1 else 0
  let s := s.modPair fun p => { p with lockRun := run }
  if 16 ≤ run then s.put MIR_STAT_ALOCK true else if 8 < ofs.natAbs then s.put MIR_STAT_ALOCK false else s

/-- R464: since when an aspect of a split group differs from the partner's, and the pair offset exceeds 1 µs. -/
def trackDiff (s : State) (ofs : Int) : State :=
  let s := s.each (List.range 16) fun t g =>
    let mine := if t.on (SN_AGACT_VALID g) then some (t.rd (SN_AGACT_ASP g)) else none
    let differs := t.splitGroup g && t.pair.aspects.get none g != mine
    t.modPair fun p => { p with
      diffAt := p.diffAt.set none g (if differs then some ((p.diffAt.get none g).getD t.time) else none),
      diffRep := if differs then p.diffRep else p.diffRep.filter (· != g) }
  s.modPair fun p => { p with ofsAt := if 16 < ofs.natAbs then some (p.ofsAt.getD s.time) else none,
                              ofsRep := p.ofsRep && decide (16 < ofs.natAbs) }

/-- R460: the full transfer starts where the link comes up in REJOIN, and where the partner enters REJOIN. -/
def linkEvent (s : State) (link : Bool) (pstate : Nat) : State :=
  let s := if link then s else s.raisePair
  if (s.dev = .rejoin ∧ ¬link) ∨ (s.pair.pstate = 5 ∧ (pstate ≠ 5 ∨ ¬link)) then s.startTransfer else s
/-- R451, R455, R458: a valid heartbeat, with the measured offset of the partner's time and the link delay. -/
def takeBeat (s : State) (hb : Heartbeat) (ofs : Int) (delay : Nat) : State :=
  let link := s.on MIR_STAT_LINK
  let was := s.pair.pstate
  let s := s.modPair fun p =>
    { p with ident := some hb.ident.toNat, heardAt := some s.time, pstate := hb.state.toNat,
             aspects := hb.aspects.foldl (fun m x => m.set none x.1.val (some x.2.1.val)) [],
             demands := (hb.aspects.filter (·.2.2)).map (·.1.val) }
  let s := (((s.put MIR_STAT_LINK true).put MIR_STAT_PSOLO hb.solo).wr MIR_LDLY_DELAY delay).linkEvent link was
  let s := ((s.wr MIR_POFS_OFS (wrap 24 ofs)).pairLock ofs).takeTflt hb
  let s := (if s.partnerTime then s.measure ofs else s).compareEpoch hb.epoch.toNat
  s.trackDiff ofs

/-- R452, R455, R463: the partner is lost. -/
def losePartner (s : State) : State :=
  let e := s.rd MIR_EPOCH_EPOCH + (if s.on SEAL_DEC_ROLEB then 2 else 1)
  let s := (((s.wr MIR_EPOCH_EPOCH e).queueItem 2).put MIR_STAT_LINK false).put MIR_STAT_ALOCK false
  let s := (s.bump MIR_LOSTCNT_COUNT).report clLink 0x120 1 13
  let s := s.modPair fun p => { p with solo := true, instant := none, agreed := false, deferTo := none, lockRun := 0, diffAt := [], ofsAt := none }
  let s := s.each s.splitChannels fun t n =>
    let t := if (t.prot n).noClamp ∧ t.on (CH_SHST_HOACT n) then
        (t.put (CH_SHST_HOACT n) false).modProt n fun p => { p with noClamp := false } else t
    (t.double n).modPair fun p => { p with byLoss := if p.byLoss.contains n then p.byLoss else n :: p.byLoss }
  ((s.each s.splitChannels fun t n => t.refreshAppl n).failFences 2).raisePair

/-! ### Mirror transfer (R450, R460) -/

/-- The first word of block b of the partner's half. -/
def blockBase (s : State) (b : Nat) : Nat := (if s.on SEAL_DEC_ROLEB then 0xE00000 else 0xE80000) + 256 * b
/-- R460: both transfers are complete and checked. -/
def showTransfer (s : State) : State :=
  let done := s.pair.got.length == 2048 && s.pair.theirs
  let s := if done && !s.on MIR_XSTAT_DONE then (s.modPair fun p => { p with out := none }).raisePair else s
  (s.wr MIR_XSTAT_BLOCKS s.pair.got.length).put MIR_XSTAT_DONE done
/-- R460: the check value of block b. -/
def blockCheck (s : State) (b : Nat) (data : List Nat) : Nat := kcrc (Nat.xor (s.pair.ident.getD 0) b) data
/-- The first word of block b of the own half. -/
def ownBase (s : State) (b : Nat) : Nat := (if s.on SEAL_DEC_ROLEB then 0xE80000 else 0xE00000) + 256 * b
/-- R460: the next block of the own half is sent, with its check value. -/
def sendBlock (s : State) : State :=
  match s.pair.out with
  | some b =>
    if b < 2048 then
      s.modPair fun p => { p with out := some (b + 1), outCheck := s.blockCheck b ((List.range 256).map fun i => s.peek (s.ownBase b + i)) }
    else s
  | none => s
/-- R460: a block arrives, its check good or not. -/
def takeBlock (s : State) (b : Nat) (data : List Nat) (ok : Bool) : State :=
  if ok then
    ((padTo 256 data).zipIdx.foldl (fun (t : State) w => t.poke (t.blockBase b + w.2) w.1) s).modPair fun p =>
      { p with got := if p.got.contains b then p.got else b :: p.got }
  else
    let n := s.pair.repeats.get 0 b + 1
    if n < 4 then
      (s.modPair fun p => { p with repeats := p.repeats.set 0 b n }).wr MIR_XSTAT_RETRY (max (s.rd MIR_XSTAT_RETRY) n)
    else (((s.put MIR_XSTAT_FAIL true).report clLink 0x123 1 13).modPair fun p => { p with failAt := some s.time, out := none }).raisePair

/-! ### Re-entry (R461, R462) -/

/-- R461: the first condition that fails; 0 when all hold. -/
def reenterFails (s : State) : Nat :=
  let groups := (List.range 16).filter s.splitGroup
  if ¬s.on MIR_XSTAT_DONE then 1
  else if ¬s.on MIR_STAT_ALOCK then 2
  else if ¬s.splitChannels.all fun n => s.on (CH_CFG_EN n) && !s.tripped n && !s.latched n &&
      (s.on (CH_OWNER_VALID n) || s.on (CH_SHST_ASRC n)) then 3
  else if ¬((s.pair.pstate = 2 ∨ s.pair.pstate = 3) ∧ s.on MIR_STAT_PSOLO) then 4
  else if groups.any fun g => s.on (SN_AGACT_DEMAND g) || s.pair.demands.contains g then 5
  else 0
/-- MIR_CTL.REENTER (R461, R462). -/
def requestReenter (s : State) : State :=
  if s.dev ≠ .rejoin then s
  else match s.reenterFails with
    | 0 => (s.wr MIR_XSTAT_REF 0).modPair fun p => { p with instant := some (s.devTime + 1600), askedAt := s.time, agreed := false }
    | c => (s.wr MIR_XSTAT_REF c).report clLink 0x124 1 13
/-- MIR_CTL (R460, R461). -/
def writeMirCtl (s : State) (v : Nat) : State :=
  let s := if MIR_CTL_ABORT.of v = 1 then s.startTransfer else s
  if MIR_CTL_REENTER.of v = 1 then s.requestReenter else s

/-- R307, R460: the full transfer has carried every mirror write to the partner. -/
def ackMirror (s : State) : State := s.each (List.range 256) fun t q => t.modCore q fun c => { c with mOut := 0 }
/-- R462: at T the rejoiner installs the partner's aspects, hands its split channels over from 0, and enters RUN. -/
def rejoinerInstant (s : State) : State :=
  let s := ((s.wr MIR_EPOCH_EPOCH (s.rd MIR_EPOCH_PEPOCH)).queueItem 2).transition .run
  let s := s.modPair fun p => { p with solo := false, rejoiner := false, instant := none, agreed := false, byFault := [], byLoss := [] }
  let s := s.each s.splitChannels fun t n => t.put (MIR_SPLIT_DBL n) false
  let s := s.each ((List.range 16).filter s.splitGroup) fun t g =>
    match t.pair.aspects.get none g with
    | some a => t.switchGroup g a
    | none => t
  (((s.each s.splitChannels fun t n => t.pairHandOver n 0).updOutputs).ackMirror).raisePair
/-- R462: at T the partner hands its doubled channels over to the single value. -/
def partnerInstant (s : State) : State :=
  let s := s.each s.splitChannels fun t n => t.undouble n false
  ((s.modPair fun p => { p with solo := false, instant := none, agreed := false }).ackMirror).raisePair
/-- R462: the requests that were deferred are taken once the interval ends. -/
def takeDeferred (s : State) : State :=
  if s.pair.deferTo.all fun t => decide (t ≤ s.devTime) then
    let l := s.pair.late
    (s.modPair fun p => { p with late := [], deferTo := none }).each l fun t g => t.takeRequest g
  else s

end State

/-! ### Meanings -/

/-- HEARTBEAT_SEND (R451): at every aligned device time that is a multiple of 10 µs. -/
def execHeartbeatSend (s : State) : Out :=
  .next (if s.paired ∧ s.trPowered 7 ∧ s.dueOn 160 0 then s.modPair fun p => { p with beat := some s.ownBeat } else s)

/-- HEARTBEAT (R451, R455, R458): a heartbeat, with the measured link delay in ns; `ok`: it passes the link check. -/
def execHeartbeat (ok : Bool) (hb : Heartbeat) (delay : Word) (s : State) : Out :=
  .next (if s.paired ∧ s.trPowered 7 ∧ ok ∧ s.beatValid hb then s.takeBeat hb (s.beatOfs hb delay.toNat) delay.toNat else s)

/-- PARTNER_LOST (R452): no valid heartbeat for 20 µs, or none within ABSENT × 10 ms of start-up. -/
def execPartnerLost (s : State) : Out :=
  let due : Bool := match s.pair.heardAt with
    | some t => decide (t + 320 ≤ s.time)
    | none => decide (s.pair.upAt + 160000 * s.rd MIR_CFG_ABSENT ≤ s.time)
  .next (if s.paired ∧ s.up ∧ due = true ∧ (s.on MIR_STAT_LINK ∨ ¬s.pair.solo) then s.losePartner else s)

/-- TFLT_CLEAR (R457): TFLT of channel n has been 0 for 100 ms. -/
def execTfltClear (n : Fin 192) (s : State) : Out :=
  .next (if s.on MIR_STAT_LINK ∧ s.pair.byFault.contains n.val ∧ ¬s.pair.byLoss.contains n.val ∧
      (s.pair.clearAt.get none n).any (fun t => decide (t + 1600000 ≤ s.time)) then s.undouble n true
    else s)

/-- MIRROR_WRITE (R304, R450): a write of the partner into its own half. -/
def execMirrorWrite (a : Addr) (w : Word) (s : State) : Out :=
  .next (if s.paired ∧ region a.toNat = .mirror ∧ ¬s.ownMirror a.toNat then s.poke a.toNat w.toNat else s)

/-- MIRROR_TRANSFER_BLOCK (R460): a block of the partner's half with its check value, in the time of one own block sent; `theirs`: the
partner has every block of this member. -/
def execMirrorTransferBlock (b : Fin 2048) (data : List Word) (check : BitVec 32) (theirs : Bool) (s : State) : Out :=
  let l := data.map BitVec.toNat
  .next (if s.paired ∧ s.on MIR_STAT_LINK ∧ s.pair.out.isSome then
      ((s.sendBlock.takeBlock b l (s.blockCheck b l == check.toNat)).modPair fun p => { p with theirs := p.theirs || theirs }).showTransfer
    else s)

/-- TRANSFER_RESTART (R460): 100 ms after a failure. -/
def execTransferRestart (s : State) : Out :=
  .next (if s.pair.failAt.any fun t => decide (t + 1600000 ≤ s.time) then s.startTransfer else s)

/-- REENTRY_CONFIRM (R462): in REJOIN the partner's answer to the proposal, good only within 50 µs; on a SOLO member the proposal of T,
which it confirms where `ok`, deferring requests until T + 10 µs. -/
def execReentryConfirm (t : BitVec 48) (ok : Bool) (s : State) : Out :=
  .next (if s.dev = .rejoin then
      (match s.pair.instant with
        | some i =>
          if ok ∧ t.toNat = i ∧ s.time ≤ s.pair.askedAt + 800 then s.modPair fun p => { p with agreed := true }
          else s.abortReentry
        | none => s)
    else if s.paired ∧ s.pair.solo ∧ ok ∧ s.devTime ≤ t.toNat then
      s.modPair fun p => { p with instant := some t.toNat, agreed := true, deferTo := some (t.toNat + 160) }
    else s)

/-- REENTRY_INSTANT (R462): device time reaches T; a proposal without its confirmation is aborted. -/
def execReentryInstant (s : State) : Out :=
  .next (match s.pair.instant with
    | none => s
    | some i =>
      if s.devTime < i then s
      else if ¬s.pair.agreed then s.abortReentry
      else if s.dev = .rejoin then s.rejoinerInstant
      else s.partnerInstant)

/-- ASPECT_DIFFERENCE (R464): for more than 10 ms. -/
def execAspectDifference (g : Fin 16) (s : State) : Out :=
  .next (if (s.pair.diffAt.get none g).any (fun t => decide (t + 160000 < s.time)) ∧ ¬s.pair.diffRep.contains g.val then
      (s.modPair fun p => { p with diffRep := g.val :: p.diffRep }).report clLink 0x125 1 13
    else s)

/-- PAIR_TIME_OFFSET (R464): above 1 µs for more than 10 ms. -/
def execPairTimeOffset (s : State) : Out :=
  .next (if s.pair.ofsAt.any (fun t => decide (t + 160000 < s.time)) ∧ ¬s.pair.ofsRep then
      (s.modPair fun p => { p with ofsRep := true }).report clLink 0x126 1 13
    else s)

end Sys2Proof.Machine
end

