-- ==== Sys2Proof/Machine/Receive.lean ====
section
/-! DEFINITION. The reception of a safe frame (spec/12_safe_links_and_pairs.md, R433 to R443): the order of the checks, the effect of each
kind, and the meanings of the rows that are frames. -/
namespace Sys2Proof.Machine
namespace State

/-- The transport brings frames in: its controller is on the bus or its link up, and KSF is enabled on it. -/
def trHears (s : State) (tr : Nat) : Bool :=
  s.trPowered tr && (if tr < 4 then s.bit KSF_CTL_CANEN tr && s.on (KSF_CAN_EN tr) && !s.on (KSF_CAN_BOFF tr) else s.trUp tr)

/-- R428, R430: a datagram is one for KSF: both ports are KSF_UDPPORT, it is no IPv6, carries no IP options and is no fragment, and it has
the 802.1Q tag with the own VID where KSF_ETHm.VEN requires the tag. -/
def datagramOk (s : State) (m via : Nat) : Bool :=
  bits via 0 16 == s.rd KSF_UDPPORT_PORT && bits via 96 16 == s.rd KSF_UDPPORT_PORT && bits via 112 3 == 0 &&
    (!s.on (KSF_ETH_VEN m) || (via.testBit 115 && bits via 116 12 == s.rd (KSF_ETH_VID m)))
/-- R433 check 1: the transport takes a frame for KSF: on CAN FD under the identifier of an entry's partner (R429), on Ethernet in a
datagram for KSF (R428, R430). -/
def trTakes (s : State) (tr via : Nat) : Bool :=
  if tr < 4 then (List.range 32).any fun e => s.entryOn e && s.entryHears e tr via
  else if tr < 6 then s.datagramOk (tr - 4) via
  else true

/-- The effect of an accepted frame of a kind on connection c (R376, R438, R442, R443, R458). -/
def frameEffect (s : State) (c k : Nat) (p : List Word) : State :=
  let w := fun i => (p.getD i 0).toNat
  match k with
  | 1 => s.tsyncPayload p
  | 2 =>
    let s := s.setSlots c (w 1)
    if s.on (KSF_ALLOW_PARTNER (s.connEntry c)) then s.partnerData ((w 1).testBit 0) (w 2) else s
  | 6 => s.endConn c 0
  | 8 => if w 1 % 2 = 1 then s.standstill else s
  | _ => s

/-- R433 checks 5 to 7 and the effect, for a frame on entry e and connection c, where one is named. A TSYNC of a broadcast source whose
length is not 6 + M is recorded as R136 says, too. -/
def acceptOn (s : State) (tr via : Nat) (c : Option Nat) (e : Nat) (l : List Word) : State :=
  let k := frameKind l
  let p := framePayload l
  if ¬s.paramOk e l then
    let t := s.discardFrame c rsParam
    if k = 1 ∧ s.on (KSF_ALLOW_BCAST e) ∧ ¬tsyncLen l then t.report clLink 0xC43 1 13 else t
  else if ¬s.kindOk c e k then s.discardFrame c rsKind
  else if k = 3 then s.letIn e tr via (frameId l)
  else match c with
    | none => s
    | some c =>
      if s.openConn c then
        let q := s.sequence c (frameSeq l)
        match q.2 with
        | some r => q.1.discardFrame (some c) r
        | none => (q.1.acceptFrame c p).frameEffect c k p
      else if k = 4 then
        (((s.startConn c e via (frameId l) true 1).wr (KSF_CONN_RXSEQ c) (frameSeq l)).modConn c fun x => { x with fresh := false }).acceptFrame c p
      else if k = 5 then s.modConn c fun x => { x with joinAt := some s.time }
      else if k = 6 then s.endConn c 0
      else s.discardFrame (some c) rsKind

/-- R433: the bytes of a frame arrive on a transport by a link address: on CAN FD the identifier (29 bits; a classical or a remote frame
sets a higher bit, R428); on Ethernet, from bit 0, source port, IPv4 address and MAC of the sender, destination port, IPv6, IP options,
fragment, 802.1Q tag, VID. `agree`: the two checkers agree (R427). -/
def receive (s : State) (tr via : Nat) (b : List Byte) (agree : Bool) : State :=
  if ¬s.trHears tr ∨ ¬s.trTakes tr via then s
  else
    let via := via % 2 ^ 96
    let l := unpackWords b
    let id := frameId l
    let c := s.connOf tr via id
    let named := if 3 ≤ l.length then c else none
    if ¬frameFormat tr b then s.discardFrame named rsFormat
    else
      let e := if frameKind l = 3 then s.classEntry tr via id else c.map s.connEntry
      if id = 0 ∨ id = 0xFFFFFFFF then s.discardFrame none rsUnknown
      else match e with
        | none => s.discardFrame none rsUnknown
        | some e =>
          if ¬agree then s.checkersDisagree.discardFrame c rsCheck
          else if ¬frameCheck l then s.discardFrame c rsCheck
          else s.acceptOn tr via c e l

/-- A row is a frame of its kind; a frame with no kind of R426 is discarded whichever row it comes as. -/
def receiveAs (s : State) (k tr via : Nat) (b : List Byte) (agree : Bool) : State :=
  let l := unpackWords b
  if 6 < l.length ∧ frameKind l ≠ k ∧ [1, 2, 3, 4, 5, 6, 8].contains (frameKind l) then s else s.receive tr via b agree

end State

/-! ### Meanings -/

/-- DATA (R426, R433, R438). -/
def execData (tr : Fin 8) (via : BitVec 128) (b : List Byte) (agree : Bool) (s : State) : Out := .next (s.receiveAs 2 tr via.toNat b agree)
/-- JOIN (R441, R442). -/
def execJoin (tr : Fin 8) (via : BitVec 128) (b : List Byte) (agree : Bool) (s : State) : Out := .next (s.receiveAs 3 tr via.toNat b agree)
/-- ACCEPT (R442). -/
def execAccept (tr : Fin 8) (via : BitVec 128) (b : List Byte) (agree : Bool) (s : State) : Out := .next (s.receiveAs 4 tr via.toNat b agree)
/-- REFUSE (R442). -/
def execRefuse (tr : Fin 8) (via : BitVec 128) (b : List Byte) (agree : Bool) (s : State) : Out := .next (s.receiveAs 5 tr via.toNat b agree)
/-- LEAVE (R443). -/
def execLeave (tr : Fin 8) (via : BitVec 128) (b : List Byte) (agree : Bool) (s : State) : Out := .next (s.receiveAs 6 tr via.toNat b agree)
/-- STILL (R376). -/
def execStill (tr : Fin 8) (via : BitVec 128) (b : List Byte) (agree : Bool) (s : State) : Out := .next (s.receiveAs 8 tr via.toNat b agree)
/-- TSYNC (R136, R137). -/
def execTsync (tr : Fin 8) (via : BitVec 128) (b : List Byte) (agree : Bool) (s : State) : Out := .next (s.receiveAs 1 tr via.toNat b agree)

end Sys2Proof.Machine
end

