-- ==== Sys2Proof/Machine/Heat.lean ====
section
/-! DEFINITION. Temperature (spec/13_power_heat_records.md, R479, R488 to R494; R87, R88, R92): the conversion and validation of the inputs,
the on-die sensors, over-temperature and derating, charging of the backup cell, and the meanings of their rows. -/
namespace Sys2Proof.Machine

/-! ### Real functions, in units of 2^-64 -/

/-- One. -/
def fxOne : Int := 18446744073709551616
def fxMul (a b : Int) : Int := a * b / fxOne
/-- exp x: the series for x / 1024, squared ten times. -/
def fxExp (x : Int) : Int :=
  let r := x / 1024
  let t := (List.range 8).foldl (fun a i => fxOne + fxMul r a / (8 - (i : Int))) fxOne
  (List.range 10).foldl (fun a _ => fxMul a a) t
/-- ln of num / den: a power of two, and twice the inverse hyperbolic tangent of what remains. -/
def fxLn (num den : Nat) : Int :=
  let y := num * 2 ^ 128 / den
  let k := Nat.log2 y
  let m : Int := (y : Int) * fxOne / 2 ^ k
  let z := (m - fxOne) * fxOne / (m + fxOne)
  let z2 := fxMul z z
  let t := (List.range 20).foldl (fun a i => fxOne / (2 * (19 - (i : Int)) + 1) + fxMul z2 a) 0
  ((k : Int) - 128) * 12786308645202655660 + 2 * fxMul z t

namespace State

def tin (s : State) (i : Nat) : Tin := s.heat.tins.get {} i
def setTin (s : State) (i : Nat) (t : Tin) : State := { s with heat := { s.heat with tins := s.heat.tins.set {} i t } }

/-! ### Inputs (R488 to R492) -/

/-- R488, R512: the type of input i: TYPE 3, and a diode on TSB, count as off. -/
def tempType (s : State) (i : Nat) : Nat :=
  let t := s.rd (TMP_CFG_TYPE i)
  if t = 3 ∨ (i = 48 ∧ t = 1) then 0 else t
/-- R488: whether a reading is one of the type that TMP_CFGi sets. -/
def ofType (s : State) (i : Nat) : TempRaw → Bool
  | .diode _ _ => s.tempType i == 1
  | .ntc _ => s.tempType i == 2
/-- R488: the temperature in 0.125 °C; none where the formula gives no temperature of the format. -/
def tempOf (s : State) (i : Nat) (x : TempRaw) : Option Int :=
  let t : Option Int := match x with
    | .diode dv _ =>
      let nf := s.rd (TMP_PAR_NF i)
      if nf = 0 then none else some (((163840 * dv : Nat) - (21852 * nf * 198400 : Nat) : Int) / (10 * nf * 198400 : Nat))
    | .ntc rho =>
      let r25 := s.rd (TMP_PAR_NF i)
      let b := s.rd (TMP_PAR_B i)
      if r25 = 0 ∨ b = 0 ∨ rho.toNat = 0 then none
      else
        let inv := fxOne * 100 / 29815 + fxLn (1000 * rho.toNat) ((65536 - rho.toNat) * r25) / b
        if inv ≤ 0 then none else some ((8 * fxOne * fxOne * 20 / inv - 43704 * fxOne) / (20 * fxOne))
  t.bind fun v => if -2048 ≤ v ∧ v ≤ 2047 then some v else none
/-- R489: the OPEN and the SHORT criterion of a reading. -/
def openRead : TempRaw → Bool
  | .diode _ v => decide (950 < v)
  | .ntc rho => decide (98 * 65536 < 100 * rho.toNat)
def shortRead : TempRaw → Bool
  | .diode _ v => decide (v < 250)
  | .ntc rho => decide (100 * rho.toNat < 2 * 65536)

/-- R490: a result is accepted, or discarded; three discards in a row make the input RATE-failed, and its next result is accepted. -/
def rateCheck (s : State) (i : Nat) (x : Int) : State :=
  let t := s.tin i
  let late : Bool := match t.last with
    | some (y, at') => decide (s.rd (TMP_CFG_RATE i) * 4 * (s.time - at') < (x - y).natAbs * 16000)
    | none => false
  if late = true ∧ ¬s.on (TMP_ST_RATEF i) then
    let s := (s.setTin i { t with discRun := t.discRun + 1 }).bump (TMP_ST_DISC i)
    if 3 ≤ t.discRun + 1 then s.put (TMP_ST_RATEF i) true else s
  else (s.setTin i { t with discRun := 0, last := some (x, s.time) }).put (TMP_ST_RATEF i) false

/-- One conversion of input i (R488 to R490). -/
def convertTemp (s : State) (i : Nat) (x : TempRaw) : State :=
  if ¬s.ofType i x then s
  else
    let t := s.tin i
    let o := if openRead x then t.openRun + 1 else 0
    let h := if shortRead x then t.shortRun + 1 else 0
    let s := ((s.setTin i { t with openRun := min 3 o, shortRun := min 3 h }).put (TMP_ST_OPEN i) (decide (3 ≤ o))).put (TMP_ST_SHORT i)
      (decide (3 ≤ h))
    match s.tempOf i x with
    | some v => s.rateCheck i v
    | none => s.fresh.rateCheck i (sext 12 (Config.freeValue s.free).toNat)

/-- R491: the reading of a neighbour, where it counts. -/
def neighbourTemp (s : State) (code en : Nat) : Option Int :=
  if en = 0 then none
  else if 48 ≤ code then some (sext 12 (s.rd (TMP_DS_T (code - 48))))
  else if s.tempType code = 0 ∨ s.on (TMP_ST_OPEN code) ∨ s.on (TMP_ST_SHORT code) ∨ s.on (TMP_ST_RATEF code) then none
  else (s.tin code).last.map Prod.fst
/-- R491: consecutive disagreements with a neighbour, at most 100. -/
def disagree (s : State) (i run : Nat) (nb : Option Int) : Nat :=
  match nb, (s.tin i).last with
  | some y, some (x, _) => if 8 * s.rd (TMP_CFG_XDIF i) < (x - y).natAbs then min 100 (run + 1) else 0
  | _, _ => 0
/-- R491: XFAIL of input i. -/
def crossTemp (s : State) (i : Nat) : State :=
  let t := s.tin i
  let n0 := s.neighbourTemp (s.rd (TMP_CFG_NB0 i)) (s.rd (TMP_CFG_NB0EN i))
  let n1 := s.neighbourTemp (s.rd (TMP_CFG_NB1 i)) (s.rd (TMP_CFG_NB1EN i))
  let d0 := s.disagree i t.dis0 n0
  let d1 := s.disagree i t.dis1 n1
  let lower : Option Int → Bool := fun nb => match nb, t.last with
    | some y, some (x, _) => decide (x < y)
    | _, _ => false
  let fail := match n0.isSome, n1.isSome with
    | true, true => d0 == 100 && d1 == 100
    | true, false => d0 == 100 && lower n0
    | false, true => d1 == 100 && lower n1
    | false, false => false
  let k := if fail then 0 else min 100 (t.xOk + 1)
  (s.setTin i { t with dis0 := d0, dis1 := d1, xOk := k }).put (TMP_ST_XFAIL i) (fail || (s.on (TMP_ST_XFAIL i) && decide (k < 100)))

/-- R488, R492: VALID of input i, and the accepted value that it shows. -/
def judgeTemp (s : State) (i : Nat) : State :=
  let cond := s.rd (TMP_ST_OPEN i) + 2 * s.rd (TMP_ST_SHORT i) + 4 * s.rd (TMP_ST_RATEF i) + 8 * s.rd (TMP_ST_XFAIL i)
  let t := s.tin i
  let s :=
    if cond ≠ 0 then
      let s := s.setTin i { t with good := 0 }
      if s.on (TMP_ST_VALID i) then (s.put (TMP_ST_VALID i) false).report clTemp (0xD00 + i) 1 13 [cond] else s
    else
      let s := s.setTin i { t with good := min 100 (t.good + 1) }
      if 100 ≤ t.good + 1 then s.put (TMP_ST_VALID i) true else s
  match t.last with
  | some (x, _) => if s.on (TMP_ST_VALID i) ∨ s.rd (TMP_T_T i) ≠ 0x800 then s.wr (TMP_T_T i) (wrap 12 x) else s
  | none => s

/-- R512: a write to TMP_CFGi or TMP_PARi takes effect at the next conversion of input i. -/
def renewLater (s : State) (i : Nat) : State := s.setTin i { s.tin i with renew := true }
/-- R512: such a write takes effect: R492 counts anew. -/
def renewTemp (s : State) (i : Nat) : State :=
  (s.setTin i {}).clear [TMP_T_T i, TMP_ST_VALID i, TMP_ST_OPEN i, TMP_ST_SHORT i, TMP_ST_RATEF i, TMP_ST_XFAIL i]

/-! ### On-die sensors (R493, R494) -/

def dsTemp (s : State) (j : Nat) : Int := sext 12 (s.rd (TMP_DS_T j))
def dsValid (s : State) (j : Nat) : Bool := s.bit TMP_DSVAL_VALID j
/-- The sensors of a list that are valid. -/
def validDs (s : State) (l : List Nat) : List Nat := l.filter s.dsValid
def highest (s : State) (l : List Nat) : Option Int := (s.validDs l).foldl (fun a j => some (max (s.dsTemp j) (a.getD (s.dsTemp j)))) none
def lowest (s : State) (l : List Nat) : Option Int := (s.validDs l).foldl (fun a j => some (min (s.dsTemp j) (a.getD (s.dsTemp j)))) none
def controlDs : List Nat := List.range 8
def dieDs (d : Nat) : List Nat := [8 + 2 * d, 9 + 2 * d]

def insertInt (x : Int) : List Int → List Int
  | [] => [x]
  | y :: r => if x ≤ y then x :: y :: r else y :: insertInt x r
/-- The median; the mean of the two middle values of an even number. -/
def medianInt (l : List Int) : Int :=
  let m := l.foldr insertInt []
  let n := m.length
  if n % 2 = 1 then m.getD (n / 2) 0 else (m.getD (n / 2 - 1) 0 + m.getD (n / 2) 0) / 2

/-- R493: sensor j has been far off for one more conversion, or has not; it is invalid at the hundredth. -/
def judgeDs (s : State) (j : Nat) (far : Bool) : State :=
  let k := if far then min 100 (s.heat.dsRun.get 0 j + 1) else 0
  let was := s.dsValid j
  let s := { s with heat := { s.heat with dsRun := s.heat.dsRun.set 0 j k } }.putBit TMP_DSVAL_VALID j (decide (k < 100))
  if k = 100 ∧ was then s.report clTemp (0xD40 + j) 1 13 else s
/-- R493: the sensors of channel die d. -/
def judgeDie (s : State) (d : Nat) : State :=
  let a := s.dsTemp (8 + 2 * d)
  let b := s.dsTemp (9 + 2 * d)
  (s.judgeDs (8 + 2 * d) (decide (280 < (a - b).natAbs) && decide (a < b))).judgeDs (9 + 2 * d)
    (decide (280 < (a - b).natAbs) && decide (b < a))
/-- R493: the sensors of the control die, against the median of the valid ones. -/
def judgeControl (s : State) : State :=
  let v := s.validDs controlDs
  let m := medianInt ((if v = [] then controlDs else v).map s.dsTemp)
  controlDs.foldl (fun t j => t.judgeDs j (decide (280 < (s.dsTemp j - m).natAbs))) s

/-- R494: sensor j, valid now, has reached WARN, or 160 °C. -/
def hotDs (s : State) (j : Nat) (old : Option Int) : State :=
  let x := s.dsTemp j
  let warn : Int := 8 * s.rd TMP_CDCFG_WARN - 320
  let past : Int → Bool := fun y => s.dsValid j && decide (y ≤ x) && old.all fun z => decide (z < y)
  let s := if past warn then s.report clTemp (0xE10 + j) 1 13 else s
  if past 1280 then s.reportS4 clTemp (0xE00 + j) 13 else s

/-- The new readings of the on-die sensors. -/
def takeDs (s : State) (l : List Word) : State :=
  let old := controlDs.map fun j => if s.dsValid j then some (s.dsTemp j) else none
  let s := s.each (List.range 16) fun t j => match l[j]? with | some w => t.wr (TMP_DS_T j) w.toNat | none => t
  let s := (s.judgeControl).each (List.range 4) judgeDie
  let s := s.each controlDs fun t j => t.hotDs j (old.getD j none)
  let enc : Option Int → Nat := fun x => match x with | some v => wrap 12 v | none => 0x800
  let s := (s.wr TMP_CDIE_T (enc (s.highest controlDs))).wr TMP_CDMIN_T (enc (s.lowest controlDs))
  s.each (List.range 4) fun t d => t.wr (TMP_DIE_T d) (enc (t.highest (dieDs d)))

/-- R500: the control-die junction and minimum lie from `lo` to `hi` °C. -/
def controlWithin (s : State) (lo hi : Int) : Bool :=
  ((s.highest controlDs).any fun x => decide (x ≤ 8 * hi)) && ((s.lowest controlDs).any fun x => decide (8 * lo ≤ x))

/-! ### Over-temperature and derating (R87, R88, R92) -/

/-- R87: the sensor that CHn_DRT selects: none where none is selected, its whole degrees where it is valid. -/
def selected (s : State) (n : Nat) : Option (Option Int) :=
  match s.rd (CH_DRT_TSEL n) with
  | 0 =>
    let i := s.rd (CH_DRT_TSRC n)
    some (if i < 48 ∧ s.on (TMP_ST_VALID i) then some (sext 12 (s.rd (TMP_T_T i)) / 8) else none)
  | 1 => some ((s.highest (dieDs (n / 48))).map (· / 8))
  | _ => none

/-- R88: the over-temperature detector of channel n. -/
def overTemp (s : State) (n : Nat) : State :=
  match s.selected n with
  | some (some t) =>
    let trip : Int := (s.rd (CH_OTT_TRIP n) : Int) - 40
    if (s.prot n).otHold then
      if t ≤ trip - 2 * s.rd (CH_DRTE_HYST n) then s.modProt n fun p => { p with otHold := false } else s
    else if trip ≤ t then
      let s := (s.modProt n fun p => { p with otHold := true }).gatesOff n
      ((s.raiseFlag (CH_FLT_OT n)).report clTemp (16 * n + 3) 2 (n / 48)).disrupt n
    else s
  | _ => s
/-- R92, R493: the over-temperature hold of die d. -/
def dieOverTemp (s : State) (d : Nat) : State :=
  match s.highest (dieDs d) with
  | some x =>
    if (s.die d).otHold then if x < 1200 then s.modDie d fun y => { y with otHold := false } else s
    else if 1280 ≤ x then
      let s := (s.modDie d fun y => { y with otHold := true }).each (dieChannels d) State.gatesOff
      s.report clTemp (0xC00 + 16 * d + 2) 3 d
    else s
  | none => s

/-- R87: the derating target of channel n. -/
def derateTarget (s : State) (n : Nat) : Nat :=
  let floor := 256 * s.rd (CH_DRTK_FLOOR n)
  let knee : Int := (s.rd (CH_DRTK_KNEE n) : Int) - 40
  let fin : Int := (s.rd (CH_DRTE_END n) : Int) - 40
  match s.selected n with
  | none => 4095
  | some none => floor
  | some (some t) =>
    if t ≤ knee then 4095
    else if fin ≤ knee then floor
    else (min 4095 (max (floor : Int) ((fin - t) * 4095 / (fin - knee)))).toNat
/-- R87: DFAC moves toward its target by at most 256. -/
def derateStep (s : State) (n : Nat) : State :=
  let d := s.rd (CH_DFAC_DFAC n)
  let g := s.derateTarget n
  let d' := if d < g then min g (d + 256) else max g (d - 256)
  if d' = d then s else (s.wr (CH_DFAC_DFAC n) d').updExp n

/-! ### Charging of the backup cell (R479) -/

/-- TSB is valid and reads from `lo` to `hi` °C. -/
def tsbWithin (s : State) (lo hi : Int) : Bool :=
  s.on (TMP_ST_VALID 48) && decide (8 * lo ≤ sext 12 (s.rd (TMP_T_T 48))) && decide (sext 12 (s.rd (TMP_T_T 48)) ≤ 8 * hi)
/-- R479: VBAK charges, as long as its voltage, in mV as the monitor converter read it last, is below VCHG. -/
def charging (s : State) : Bool :=
  decide (s.rd (PWR_VMON_VALUE 5) < 2800 + 50 * s.rd PWR_BAKCFG_VCHG) && s.on PWR_BAKCFG_CHEN && s.on PWR_SUPST_VIO && s.dev != .sleep && !s.on PWR_BSTAT_CHGINH && s.tsbWithin 0 60
/-- R479: since when TSB has read from 2 °C to 58 °C. -/
def trackTsb (s : State) : State :=
  { s with heat := { s.heat with tsbAt := if s.tsbWithin 2 58 then some (s.heat.tsbAt.getD s.time) else none,
                                 chg := s.heat.chg || s.charging } }

/-- R504: the highest valid reading of each unit in the present second. -/
def trackTop (s : State) : State :=
  s.each (List.range 5) fun t u =>
    match t.highest (if u = 0 then controlDs else dieDs (u - 1)) with
    | some x =>
      { t with sage := { t.sage with top := t.sage.top.set none u (some (max x ((t.sage.top.get none u).getD x))) } }
    | none => t
/-- R500: the range within which the record controller writes, with its hysteresis. -/
def trackHot (s : State) : State :=
  { s with recs := { s.recs with hot := if s.recs.hot then !s.controlWithin (-38) 123 else !s.controlWithin (-40) 125 } }

end State

/-! ### Meanings -/

/-- TEMPERATURE_CONVERSION (R488 to R494): the raw readings of the enabled inputs and the readings of the on-die sensors. -/
def execTemperatureConversion (raw : List (Fin 49 × TempRaw)) (ds : List Word) (s : State) : Out :=
  if s.allOff then .next s
  else
    let s := s.takeDs ds
    let s := s.each ((List.range 49).filter fun i => (s.tin i).renew) State.renewTemp
    let s := raw.foldl (fun (t : State) (x : Fin 49 × TempRaw) => t.convertTemp x.1.val x.2) s
    let en := (List.range 49).filter fun i => s.tempType i != 0 && (raw.map fun x => x.1.val).contains i
    let s := (s.each (en.filter (· < 48)) State.crossTemp).each en State.judgeTemp
    let s := (s.each channels State.overTemp).each (List.range 4) State.dieOverTemp
    .next ((s.trackTsb.trackTop).trackHot)

/-- DERATING_UPDATE (R87). -/
def execDeratingUpdate (s : State) : Out := .next (s.each channels State.derateStep)

/-- CHARGE_INHIBIT (R479): TSB has left its window, or is invalid, while the cell charges. -/
def execChargeInhibit (s : State) : Out :=
  .next (if s.heat.chg ∧ ¬s.on PWR_BSTAT_CHGINH ∧ ¬s.tsbWithin 0 60 then
      ({ s with heat := { s.heat with chg := false } }.put PWR_BSTAT_CHGINH true).report clTemp 0xE21 0 13
    else s)

/-- CHARGE_RESUME (R479): TSB has read from 2 °C to 58 °C for 10 s. -/
def execChargeResume (s : State) : Out :=
  .next (if s.on PWR_BSTAT_CHGINH ∧ (s.heat.tsbAt.any fun t => decide (t + 160000000 ≤ s.time)) then s.put PWR_BSTAT_CHGINH false else s)

end Sys2Proof.Machine
end

