-- ==== Sys2Proof/Machine/Records.lean ====
section
/-! DEFINITION. The record store and the Sage life ledger (spec/13_power_heat_records.md, R495 to R509): the record controller with its
energy and temperature checks, submissions, the ledger, its snapshot, the refresh of code flash, and the meanings of their rows. -/
namespace Sys2Proof.Machine
namespace State

def modSage (s : State) (f : Sage → Sage) : State := { s with sage := f s.sage }

/-! ### The record controller (R496 to R500) -/

/-- R498: the energy check of a write of n words at a VHOLD in mV. -/
def energyOk (s : State) (n vhold : Nat) : Bool := decide (600000 + 450000 * n ≤ s.rd PWR_HCAP_CAP * (vhold * vhold - 12960000))
/-- R500: the temperatures permit a write; in SLEEP and on backup, where nothing is converted, as they were judged last. -/
def writeHeatOk (s : State) : Bool := !s.recs.hot && (s.dev == .sleep || s.pwr.doneAt.isSome || (s.highest controlDs).isSome)

/-- The write that comes next: a system item, a ring record, a submission (R496, R502). -/
inductive RecWrite
  | item (i : Nat) | record | sub (src dst len : Nat)
  deriving DecidableEq, Repr
def nextWrite (s : State) : Option RecWrite :=
  match s.recs.items, s.recs.sub with
  | i :: _, _ => some (.item i)
  | [], some (a, d, n) => if s.coll.ring = [] ∨ 16 ≤ s.recs.run then some (.sub a d n) else some .record
  | [], none => if s.coll.ring = [] then none else some .record
/-- The words of a write (R497); a system item counts as the 16 words of the snapshot. -/
def RecWrite.size : RecWrite → Nat
  | .item _ => 16
  | .record => 12
  | .sub _ _ n => n

/-! ### System items (R495) -/

/-- R495: copy a or b of system item i carries its check value: no word of it holds an error. -/
def sysWord (i : Nat) (b : Bool) (k : Nat) : Bool := region k == .mram && decide (k < 0x801000) && Config.sysOwner k == 2 * i + b.toNat
def copyOk (s : State) (i : Nat) (b : Bool) : Bool := s.bad.all fun k => !sysWord i b k
/-- Copy a or b of system item i is written anew. -/
def freshCopy (s : State) (i : Nat) (b : Bool) : State := { s with bad := s.bad.filter fun k => !sysWord i b k }
/-- R495: system item i is written: the older copy takes the value. -/
def writeCopy (s : State) (i v : Nat) : State :=
  let x := s.recs.sys.get {} i
  let y : Copies := if x.newB then { x with a := some v, newB := false } else { x with b := some v, newB := true }
  (s.freshCopy i y.newB).modRecs fun r => { r with sys := r.sys.set {} i y }
/-- R495: the newer copy of system item i whose check value is correct. -/
def newestCopy (s : State) (i : Nat) : Option Nat :=
  let x := s.recs.sys.get {} i
  let take := fun (b : Bool) => if s.copyOk i b then (if b then x.b else x.a) else none
  (take x.newB).or (take !x.newB)
/-- The fields that system items give, by their numbers. -/
def sysField : Nat → Fld
  | 2 => MIR_EPOCH_EPOCH
  | 3 => FC_RUNG_COUNT 2
  | 4 => FC_RUNG_COUNT 3
  | 5 => REC_LOGHEAD_HEAD
  | _ => REC_LSEQ_SEQ
/-- R495: system item i is loaded into its field; one that was never written leaves the field's reset value, and one of which neither copy is
correct gives a free value. -/
def loadItem (s : State) (i : Nat) : State :=
  match s.newestCopy i with
  | some v => s.wr (sysField i) v
  | none => if s.recs.sys.get {} i = {} then s else (s.fresh).wr (sysField i) (Config.freeValue s.free).toNat
/-- R420, R458, R495, R513: what the device loads from the system area at a start. -/
def loadSystem (s : State) : State := s.each [2, 3, 4, 5, 6] loadItem

/-- R495, R496: the oldest ring record that is not stored goes to the log slot at the head; log head and sequence number go with it. -/
def storeRecord (s : State) : State :=
  let i := (s.rd FC_LWIDX_INDEX + 512 - s.coll.ring.length) % 512
  let h := s.rd REC_LOGHEAD_HEAD
  let s := s.pokes (0x810000 + 12 * h) ((List.range 12).map fun w => s.rd (FC_LOG_WORD (12 * i + w)))
  let s := (s.wr REC_LSEQ_SEQ (s.rd (FC_LOG_WORD (12 * i + 6)))).wr REC_LOGHEAD_HEAD (h + 1)
  let s := if h + 1 = 32768 then s.bump REC_LOGWRAP_COUNT else s
  let s := (s.writeCopy 5 (s.rd REC_LOGHEAD_HEAD)).writeCopy 6 (s.rd REC_LSEQ_SEQ)
  ({ s with coll := { s.coll with ring := s.coll.ring.drop 1 } }).modRecs fun r =>
    { r with run := if r.sub.isSome then r.run + 1 else 0 }
/-- R502: a submitted block is read and written. -/
def storeBlock (s : State) (src dst n : Nat) : State :=
  let s := s.each (List.range n) fun t i =>
    let t := if t.isBad (src + i) then t.eccEvent (src + i) else t
    t.poke (dst + i) (t.peek (src + i))
  (s.wr REC_SUBST_STATE 2).modRecs fun r => { r with sub := none, run := 0 }
/-- A system item is written (R495, R506, R521). -/
def storeItem (s : State) (i : Nat) : State :=
  let s := s.modRecs fun r => { r with items := r.items.filter (· != i) }
  match i with
  | 0 => (s.freshCopy 0 !s.sage.snapB).modSage fun g => { g with snap := g.now, prev := g.snap, snapB := !g.snapB }
  | 1 => { s with pwr := { s.pwr with pcycFlag := true } }
  | _ => s.writeCopy i (s.rd (sysField i))

/-- R513: REC_STAT.STATE while a write is made. -/
def RecWrite.code : RecWrite → Nat
  | .record => 1
  | .sub _ _ _ => 2
  | .item _ => 3

/-- R499, R500: the write is deferred. -/
def deferWrite (s : State) (temp : Bool) : State :=
  let s := s.wr REC_STAT_STATE (if temp then 5 else 4)
  if s.recs.defAt.isSome ∧ s.recs.defT = temp then s
  else (s.modRecs fun r => { r with defAt := some s.time, defT := temp, rep := false }).bump REC_DEFCNT_COUNT
/-- One attempt at the write that comes next, with VHOLD measured; a write is made for as long as R497 lets it take. -/
def tryWrite (s : State) (vhold : Nat) : State :=
  let s := s.put PWR_BSTAT_HOLDOK (s.energyOk 12 vhold)
  match s.nextWrite with
  | none => (s.wr REC_STAT_STATE 0).modRecs fun r => { r with defAt := none, kind := 0 }
  | some w =>
    if ¬s.writeHeatOk then s.deferWrite true
    else if ¬s.energyOk w.size vhold then s.deferWrite false
    else
      let s := (s.wr REC_STAT_STATE 0).modRecs fun r => { r with defAt := none, kind := w.code, endAt := s.time + 32 + 24 * w.size }
      match w with
      | .item i => s.storeItem i
      | .record => s.storeRecord
      | .sub a d n => s.storeBlock a d n

/-- R499, R500: a deferral that has lasted 100 ms with VIO good, or by temperature 1 s, is recorded once. -/
def longDeferral (s : State) : State :=
  match s.recs.defAt with
  | some t =>
    if s.recs.rep then s
    else if s.recs.defT then
      if t + 16000000 ≤ s.time then (s.modRecs fun r => { r with rep := true }).report clTemp 0xE20 1 13 else s
    else if t + 1600000 ≤ s.time ∧ s.on PWR_SUPST_VIO then (s.modRecs fun r => { r with rep := true }).report clPwr 0xE05 1 13 else s
  | none => s

/-! ### Submissions (R501, R503) -/

/-- R501: the key of a submission's source, where it lies in the submitter's cluster memory or in global memory. -/
def subSource (r : Requester) (src len : Nat) : Option Nat :=
  if 0x100000 ≤ src ∧ src + len ≤ 0x300000 then some src
  else if 0x080000 ≤ src ∧ src + len ≤ 0x0E0000 then
    match r with
    | .core q => some (clusterKey (coreCluster q) src)
    | .dma k _ => some (clusterKey k src)
    | _ => none
  else none
/-- R501: REASON of a refusal; 0 for none. -/
def subReason (s : State) (r : Requester) : Nat :=
  let len := s.rd REC_SUBLEN_LEN
  let dst := s.rd REC_SUBDST_DST
  let last := min 0x8FFFFF (dst + len - 1)
  if s.recs.sub.isSome then 1
  else if len = 0 then 0
  else if 256 < len then 2
  else if (subSource r (s.rd REC_SUBSRC_SRC) len).isNone then 3
  else if ¬(0x870000 ≤ dst ∧ dst ≤ 0x8FFFFF) then 4
  else if s.dev ≠ .maint ∧ (s.bit REC_PROT_SEG ((dst - 0x870000) / 0x10000) ∨ s.bit REC_PROT_SEG ((last - 0x870000) / 0x10000)) then 5
  else 0
/-- REC_SUBCMD (R501). -/
def writeSubcmd (s : State) (r : Requester) (v : Nat) : State :=
  if REC_SUBCMD_GO.of v = 0 then s
  else
    let len := s.rd REC_SUBLEN_LEN
    let dst := s.rd REC_SUBDST_DST
    let why := s.subReason r
    if why ≠ 0 then ((s.wr REC_SUBST_STATE 3).wr REC_SUBST_REASON why).report clCfg 0xE60 1 13
    else if len = 0 then (s.wr REC_SUBST_STATE 2).wr REC_SUBST_REASON 0
    else
      match subSource r (s.rd REC_SUBSRC_SRC) len with
      | none => s
      | some key =>
        let n := min len (0x900000 - dst)
        let s := ((s.wr REC_SUBST_STATE 1).wr REC_SUBST_REASON 0).modRecs fun x => { x with sub := some (key, dst, n), run := 0 }
        if n < len then (s.raiseFlag REC_SUBST_CLIP).report clCfg 0xE61 1 13 else s

/-! ### The life ledger (R504 to R506) -/

/-- One reference hour, and the rated life, in 1/1,000,000 reference second. -/
def refHour : Nat := 3600000000
def ratedLife : Nat := 350400 * refHour
/-- exp(k × (1 ÷ 358.15 K − 1 ÷ T)), T in 0.125 °C. -/
def arrhenius (k : Int) (t : Int) : Int := fxExp (k * fxOne * 100 / 35815 - k * fxOne * 80 / (10 * t + 21852))
/-- R504: AFv, VCORE in 0.5 mV. -/
def voltageFactor (v : Nat) : Int := fxExp (12 * ((v : Int) - 1600) * fxOne / 2000)
/-- A factor as millionths. -/
def millionths (x : Int) : Nat := (x * 1000000 / fxOne).toNat

/-- R507: the retention exposure of sector x. -/
def exposure (s : State) (x : Nat) : Nat := s.sage.now.expo - s.sage.now.base.get 0 x
/-- R507: sector x is due for refresh. -/
def dueSector (s : State) (x : Nat) : Bool :=
  decide (s.rd SAGE_FCFG_REFINT * 100 * refHour ≤ s.exposure x) || decide (s.rd SAGE_FCFG_CETH ≤ s.sage.ce.get 0 x) || s.sage.weak.contains x
def dueCount (s : State) : Nat := ((List.range 256).filter s.dueSector).length

/-- The ledger's registers (R505, R506, R507). -/
def showSage (s : State) : State :=
  let l := s.sage.now
  let worst := (List.range 5).foldl (fun a u => if l.life.get 0 a < l.life.get 0 u then u else a) 0
  let s := s.each (List.range 5) fun t u => t.wr (SAGE_LIFE_LIFE u) (min 0xFFFFFF (l.life.get 0 u / (refHour / 10)))
  let s := (s.wr SAGE_WORST_UNIT worst).wr SAGE_REM_REM (1000 * (ratedLife - l.life.get 0 worst) / ratedLife)
  let s := (s.wr SAGE_ONH_HOURS (min 0xFFFFFF (l.onS / 3600))).wr SAGE_OFFH_HOURS (min 0xFFFFFF (l.offS / 3600))
  s.wr SAGE_RETMAX_EXP (min 0xFFFFFF ((List.range 256).foldl (fun a x => max a (s.exposure x / refHour)) 0))

/-- R504, R505: unit u consumes life. -/
def addLife (s : State) (u d : Nat) : State :=
  let old := s.sage.now.life.get 0 u
  let s := s.modSage fun g => { g with now := { g.now with life := g.now.life.set 0 u (old + d) } }
  let s := if 10 * old ≤ 8 * ratedLife ∧ 8 * ratedLife < 10 * (old + d) then s.report clTemp (0xF00 + u) 1 13 else s
  if old ≤ ratedLife ∧ ratedLife < old + d then s.report clTemp (0xF08 + u) 1 13 else s
/-- R504, R507: one second outside SLEEP; on backup exposure accrues as in SLEEP. -/
def sageSecond (s : State) : State :=
  let top := s.sage.top
  let v := voltageFactor (s.rd (PWR_VMON_VALUE 0))
  let s := s.each (List.range 5) fun t u =>
    let af := arrhenius 8123 ((top.get none u).getD 1200)
    t.addLife u (millionths (if u = 0 then fxMul af v else af))
  let d := if s.pwr.doneAt.isSome then 0 else millionths (arrhenius 12765 ((top.get none 0).getD 1200))
  (s.modSage fun g => { g with top := [], now := { g.now with expo := g.now.expo + d, onS := g.now.onS + 1 } }).showSage
/-- R506, R507: the device leaves SLEEP or backup; time on backup in SAFE is no time in SLEEP. -/
def sageWake (s : State) : State :=
  match s.sage.sleepAt with
  | some t =>
    let n := (s.time - t) / 16000000
    (s.modSage fun g => { g with
      sleepAt := none, now := { g.now with expo := g.now.expo + 1000000 * n, offS := g.now.offS + if s.dev = .sleep then n else 0 } }).showSage
  | none => s
/-- R495, R506: the newer snapshot whose check value is correct; free values where neither is. -/
def loadSnap (s : State) : State × Life :=
  if s.copyOk 0 s.sage.snapB then (s, s.sage.snap)
  else if s.copyOk 0 !s.sage.snapB then (s, s.sage.prev)
  else
    let v := fun i => (Config.freeValue (s.free + i)).toNat
    ({ s with free := s.free + 8 },
      { life := (List.range 5).foldl (fun m u => m.set 0 u (v u)) [], expo := v 5, onS := v 6, offS := v 7 })
/-- R506: a cold start: the snapshot, and 33 reference hours for every unit. -/
def sageCold (s : State) : State :=
  let l := s.loadSnap
  let s := l.1.modSage fun g => { g with now := l.2, sleepAt := none, top := [], walkAt := none }
  (s.each (List.range 5) fun t u => t.addLife u (33 * refHour)).showSage

/-- R292, R507: a correctable error of code flash is reported. -/
def correctedFlash (s : State) (a : Nat) : State :=
  let x := (a - 0x400000) / 0x4000
  (s.bump SAGE_CECNT_COUNT).modSage fun g => { g with ce := g.ce.set 0 x (g.ce.get 0 x + 1) }

end State

/-! ### Meanings -/

/-- RECORD_WRITE (R496 to R502): the record controller attempts the write that comes next, with VHOLD in mV measured for its check. -/
def execRecordWrite (vhold : Nat) (s : State) : Out := .next (s.tryWrite vhold)

/-- ENERGY_RECHECK (R499, R500): a deferred write is checked again. -/
def execEnergyRecheck (vhold : Nat) (s : State) : Out :=
  .next (if s.recs.defAt.isSome then (s.tryWrite vhold).longDeferral else s)

/-- SAGE_UPDATE (R504, R507). -/
def execSageUpdate (s : State) : Out := .next (if s.dev = .sleep then s else s.sageSecond)

/-- SAGE_SNAPSHOT (R506): at every full hour of operation. -/
def execSageSnapshot (s : State) : Out :=
  .next (if s.dev ≠ .sleep ∧ s.sage.now.onS % 3600 = 0 ∧ s.sage.now.onS ≠ s.sage.snap.onS then s.queueItem 0 else s)

/-- MARGIN_WALK (R507): once in every 24 h of operation, and at once where a cold start made every sector due: the sectors with a group of
two or more corrected bits. -/
def execMarginWalk (weak : List (Fin 256)) (s : State) : Out :=
  .next (if s.dev = .sleep ∨ s.sage.walkAt.any (fun t => decide (s.sage.now.onS < t + 86400)) then s
    else s.modSage fun g => { g with weak := ((weak.map Fin.val) ++ g.weak).eraseDups, walkAt := some g.now.onS })

/-- FLASH_REFRESH (R508, R509): a due sector is refreshed after `fails` copies that failed verification; it is in progress for the 50 ms
that R508 lets it take. -/
def execFlashRefresh (sector : Fin 256) (fails : Nat) (s : State) : Out :=
  let n := s.rd SAGE_FSTAT_SPARES
  .next (if s.dev = .run ∧ s.controlWithin (-40) 125 ∧ s.dueSector sector ∧ ¬s.sage.noSpare ∧ 0 < n then
      let s := ((s.wr SAGE_FSTAT_SECT sector).wr SAGE_FSTAT_SPARES (n - fails)).modSage fun g => { g with refTo := s.time + 800000 }
      let s := s.each (List.range (min n fails)) fun t _ => t.report clMem 0x122 1 13
      if n ≤ fails then (s.modSage fun g => { g with noSpare := true }).report clMem 0x123 1 13
      else
        ((s.modSage fun g => { g with
          ce := g.ce.set 0 sector 0, weak := g.weak.filter (· != sector.val),
          now := { g.now with base := g.now.base.set 0 sector g.now.expo } }).bump SAGE_FCNT_COUNT).showSage
    else s)

end Sys2Proof.Machine
end

