-- ==== Sys2Proof/Machine/Power.lean ====
section
/-! DEFINITION. Supplies, SLEEP, clusters and hand-over (spec/13_power_heat_records.md, R467 to R487; R32 to R36, R316, R317): what a reset and
SLEEP keep, the start and idling of clusters, and the meanings of their rows. -/
namespace Sys2Proof.Machine
namespace State

def modPwr (s : State) (f : Pwr → Pwr) : State := { s with pwr := f s.pwr }

/-! ### What a reset, SLEEP and a loss of power keep (R16, R472, R473, R486, R518, R422) -/

/-- The field that the flash controller holds through everything: the usable spare sectors. -/
def stored (key : Nat) : Bool := SAGE_FSTAT_SPARES.key == key
/-- The fields that follow the supplies. -/
def supplied (key : Nat) : Bool := key / 256 == 0xD40040 || PWR_BSTAT_BAKOK.key == key || PWR_BSTAT_HOLDOK.key == key
/-- R422, R518: what a device reset keeps: the event ring with FC_LWIDX, PWR_GEN, PWR_WAKECAUSE, the ledger. -/
def keptByReset (key : Nat) : Bool :=
  let a := key / 256
  stored key || supplied key || (decide (0xD01000 ≤ a) && decide (a < 0xD02800)) || a == 0xD00051 ||
    a == 0xD40002 || a == 0xD40004 ||
    (decide (0xDC0000 ≤ a) && decide (a < 0xDC0020)) || a == 0xDC0025 || a == 0xD90003
/-- R16, R511, R473: what SLEEP keeps beside it: the PWR_ registers of this chapter but PWR_CSTk.STATE, as the clusters are off, and the
sums of PWR_GPSd, FC_SEQ; and what lasts until a device reset: DBG_STAT (R540), KSF_TCFG.EVERLOCK (R446). -/
def keptBySleep (key : Nat) : Bool :=
  let a := key / 256
  keptByReset key || a == 0xD00008 || a == 0xDA0000 || KSF_TCFG_EVERLOCK.key == key ||
    (decide (0xD40000 ≤ a) && decide (a < 0xD40060) && !((List.range 8).any fun k => (PWR_CST_STATE k).key == key))

/-- The events that the paths hold are recorded (R400), and those that their reactions report, batch by batch. -/
def drainN : Nat → State → State
  | 0, s => s
  | n + 1, s => match s.firstCycle with
    | some c => drainN n (s.takeBatch c)
    | none => s
def drain (s : State) : State := drainN 1024 s

/-- Every domain but the always-on domain and the non-volatile memories loses its state; the fields named keep theirs. -/
def lose (s : State) (kept : Nat → Bool) (seq : Bool) (opens : List OpenEv) : State :=
  let n := s.coll.held
  let t := { State.reset with
    time := s.time, devOfs := s.devOfs, devNext := s.devNext, free := s.free, dev := s.dev, runAt := s.runAt, watchAt := s.watchAt,
    regs := s.regs.filter fun e => kept e.1,
    mem := s.mem.filter fun e => decide (0x800000 ≤ e.1) && decide (e.1 < 0x900000),
    flash := s.flash, otp := s.otp,
    bad := s.bad.filter fun k => decide (0x400000 ≤ k) && decide (k < 0x900000),
    sent := s.sent, pwr := s.pwr, recs := { s.recs with sub := none, hot := false }, sage := s.sage, pending := s.pending,
    coll := { nextId := s.coll.nextId, sokAt := s.coll.sokAt, ring := s.coll.ring, held := n, unread := n, opens := opens,
              records := if seq then s.coll.records else 0 } }
  let t := t.each (List.range 4) fun u d =>
    u.modDie d fun x => { x with vdrvHold := (s.die d).vdrvHold, lbusHold := (s.die d).lbusHold }
  ((t.loadSystem).wr FC_LRIDX_INDEX (t.rd FC_LWIDX_INDEX + 512 - n)).showOpen

/-- R35: PWR_GEN increments, and passes from 4095 to 1. -/
def nextGen (s : State) : State := s.wr PWR_GEN_GEN (if s.rd PWR_GEN_GEN = 4095 then 1 else s.rd PWR_GEN_GEN + 1)

/-- Every gate turns off as rank-1 protection (R470, R482, R521). -/
def allGatesOff (s : State) : State := s.each channels State.gatesOff

/-! ### Clusters (R32, R35, R231, R316, R317, R475 to R477) -/

/-- R231, R315 to R317, R327: the engines of cluster k begin at the start vector; in a lockstep cluster those that fail their comparator proof are
UNUSABLE, those that have stopped stay so, and a SPARE waits. `proven`: the proof has run at start-up. -/
def startEngines (s : State) (k : Nat) (proven : Bool) (fails : List (Fin 16 × Fin 64)) : State :=
  s.each (List.range 16) fun t i =>
    let e := 16 * k + i
    let pc := t.vector k 0
    if t.split k then
      [2 * e, 2 * e + 1].foldl (fun u q => if (u.core q).stopped then u else u.modCore q fun c => c.start pc) t
    else
      match fails.find? (fun f => !proven && f.1.val == i && t.rd (PWR_ENGST_STATE e) != 4) with
      | some f =>
        ((((t.haltCores e).modEng e fun g => { g with tkWait := false }).wr (PWR_ENGST_STATE e) 5).wr (PWR_ENGST_GROUP e) f.2).report
          clEng (0x100 + e) 2 (4 + k)
      | none =>
        let t := if t.rd (PWR_ENGST_STATE e) = 5 ∧ ¬proven then t.wr (PWR_ENGST_STATE e) 0 else t
        if [3, 4, 5].contains (t.rd (PWR_ENGST_STATE e)) then t
        else if t.role e = 2 then t.modCore (2 * e) fun c => { c with run := false }
        else t.modCore (2 * e) fun c => c.start pc
/-- R315, R334, R338, R341: what only a device reset ends: stopped engines and cores, broken lockstep, lost clusters. -/
def keepEngines (old s : State) : State :=
  let s := s.wr PWR_CLUST_LOST (old.rd PWR_CLUST_LOST)
  let s := s.each (List.range 128) fun t e =>
    let t := t.wr (PWR_ENGST_BROKEN e) (old.rd (PWR_ENGST_BROKEN e))
    if old.rd (PWR_ENGST_STATE e) = 4 then
      ((t.wr (PWR_ENGST_STATE e) 4).wr (PWR_ENGST_CAUSE e) (old.rd (PWR_ENGST_CAUSE e))).wr (PWR_ENGST_GROUP e) (old.rd (PWR_ENGST_GROUP e))
    else t
  s.each (List.range 256) fun t q => if (old.core q).stopped then t.modCore q fun c => { c with stopped := true } else t
/-- R34, R35, R310: cluster k restarts: its memory and the engine-local memories of its cores are cleared, its descriptors idle. -/
def clearCluster (s : State) (k : Nat) : State :=
  (s.dropCluster k).dmaIdle k

/-- R476: cluster k may idle now. -/
def idleReady (s : State) (k : Nat) : Bool :=
  (s.clu k).idleReq && s.cluRuns k &&
    ((s.clusterCores k).all fun q =>
      let st := s.engState (q / 2)
      st == 4 || st == 5 || st == 2 || (s.core q).stopped || (!(s.core q).run && st != 3) || ((s.core q).waiting && s.linesUp q == 0)) &&
    (List.range 32).all fun c => s.rd (DCFG_KIND k c) != 0 || !s.dmaActive k c
/-- R477: clusters that hold an engine named in an enabled twin pair. -/
def twinClusters (s : State) : List Nat :=
  (List.range 8).filter fun k => (List.range 64).any fun t =>
    s.on (SN_TWCFG_EN t) && (s.rd (SN_TWCFG_ENGA t) / 16 == k || s.rd (SN_TWCFG_ENGB t) / 16 == k)
/-- R477: the request of cluster k is refused. -/
def idleRefused (s : State) (k : Nat) : Bool :=
  (channels.any fun n => s.on (CH_STAT_LARM n) && s.rd (CH_OWNER_ENG n) / 16 == k) ||
    (s.bit (PWR_WAKERT_CLU 0) k && channels.any fun n =>
      (s.activeAspect n).isSome && s.activeKind n != 0 && (s.expectation n).1 == .lit && (s.on (CH_PCFG_EREQ n) || s.on (CH_PCFG_OREQ n))) ||
    (s.dev == .safe && s.rd FC_CFG_FHCLU == k)

/-- R35, R476: cluster k enters retention or off. -/
def idleCluster (s : State) (k : Nat) : State :=
  let off := s.on (PWR_CLK_IDLEM k)
  let s := (s.wr (PWR_CST_STATE k) (if off then 0 else 1)).modClu k fun c =>
    { c with idleReq := false, kept := if off then none else some (s.rd PWR_GEN_GEN) }
  let s := s.freezeCluster k
  if off then
    (s.each (List.range 16) fun t i =>
      let e := 16 * k + i
      t.haltCores e).dropCluster k
  else s
/-- R477: when the last running cluster idles, the device passes from RUN to WATCH; connections without WKEEP end (R443). Where this cycle has
left RUN for another state, the request is discarded (R5). -/
def enterWatch (s : State) : State :=
  if ¬(List.range 8).all fun k => s.rd (PWR_CST_STATE k) < 2 then s
  else if s.dev = .run then ((s.leaveAll true).transition .watch).updOutputs
  else if s.began = .run then s.transition .watch
  else s

/-- PWR_CLKk (R475): another frequency counts as 0b011 and is flagged. -/
def writeClk (s : State) (k v : Nat) : State :=
  let s := (s.wr (PWR_CLK_FREQ k) ((PWR_CLK_FREQ k).of v)).wr (PWR_CLK_IDLEM k) ((PWR_CLK_IDLEM k).of v)
  if 4 < (PWR_CLK_FREQ k).of v then s.flag (0xD40020 + k) 0 2 else s
/-- PWR_CCMDk (R476, R477): START; IDLE from an engine of the cluster in SV mode. -/
def writeCcmd (s : State) (r : Requester) (k v : Nat) : State :=
  let s := if v.testBit 0 then s.requestStart k 6 (s.startFreq k) else s
  if v.testBit 1 = false then s
  else if ((reqCore r).any fun q => q / 32 == k) ∧ s.svMode r then
    if s.idleRefused k then s.report clPwr 0xE11 1 13 else s.modClu k fun c => { c with idleReq := true }
  else s

/-! ### SLEEP (R471 to R473) -/

/-- R471: the number of the first condition that fails; 0 for none. -/
def sleepFails (s : State) (wake : BitVec 4) : Nat :=
  if (List.range 16).any fun g => s.on (SN_AGACT_DEMAND g) then 1
  else if (channels.any fun n => s.rd (CH_APPL_VALUE n) != 0 || (s.latched n && (s.safeState n == 1 || s.safeState n == 2))) ∨
      (List.range 12).any fun i => s.carBusy (i / 3) (i % 3) then 2
  else if s.coll.ring ≠ [] ∨ s.recs.sub.isSome then 3
  else if (List.range 4).any fun w => s.bit PWR_WAKECFG_WEN w && s.bit PWR_WAKECFG_WPOL w == wake.getLsbD w then 4
  else 0

/-- R472: the latches, each with its CAUSE and with its event where that is not acknowledged. -/
def copyLatches (s : State) : State :=
  let l := (channels.filter fun n => s.on (CH_SSTAT_LATCH n)).map fun n =>
    (n, s.rd (CH_SSTAT_CAUSE n), (s.prot n).latchEv.bind fun e => if s.evClosed e then none else some e)
  s.modPwr fun p => { p with latches := l }
/-- R34, R472: the domains of SLEEP. The open events that hold a copied latch stay open; the temperatures judged last stand (R500). -/
def domainsOff (s : State) : State :=
  let s := s.copyLatches
  let keep := s.coll.opens.filter fun o => s.pwr.latches.any fun l => l.2.2 == some o.id
  let hot := !s.writeHeatOk
  let s := (keepEngines s ((s.nextGen).lose keptBySleep true keep)).modRecs fun r => { r with hot := hot }
  let s := s.modSage fun g => { g with sleepAt := some s.time }
  ({ s with up := false, pwr := { s.pwr with released := false } }).updErrn
/-- R472: entry into SLEEP from WATCH. An S4 reaction among the events that still wait abandons it (R6). -/
def enterSleep (s : State) (vhold : Nat) : State :=
  let s := s.drain
  if s.pwr.sleepDue.isNone then s
  else
    let s := ((((s.leaveAll false).put PWR_CTL_SLPARM false).queueItem 0).tryWrite vhold).drain
    if s.pwr.sleepDue.isNone then s
    else
      let s := s.domainsOff
      { s with dev := .sleep, devAt := none, pwr := { s.pwr with sleepDue := none } }
/-- R468, R473: a warm start: the device comes out of SLEEP and runs the start-up sequence, once its supplies are good. -/
def warmStart (s : State) : State :=
  let s := s.sageWake
  { s with dev := if s.dev = .safe then .safe else .watch, devAt := none, watchAt := s.time, up := false
           pwr := { s.pwr with released := s.suppliesGood, warm := true, warmAt := some s.time, handAt := none, doneAt := none, gatesOff := false } }
/-- R473, R484: PWR_WAKECAUSE takes the causes present: in SLEEP, while VIO is absent, and in the cycle of the warm start. -/
def waking (s : State) : Bool := s.dev == .sleep || s.pwr.handAt.isSome || s.pwr.warmAt == some s.time
/-- The device sleeps, with VIO present or on backup. -/
def asleep (s : State) : Bool := s.dev == .sleep && s.pwr.doneAt.isNone

/-- PWR_CTL (R471). -/
def writePwrCtl (s : State) (v : Nat) : State :=
  (s.wr PWR_CTL_SLPARM (PWR_CTL_SLPARM.of v)).modPwr fun p => { p with armAt := if s.on PWR_CTL_SLPARM then p.armAt else s.time }

end State

/-! ### Meanings: supplies -/

/-- VCORE_FAIL (R44, R467, R470): in SLEEP and on backup the fault collector is off (R34), and records nothing. -/
def execVcoreFail (s : State) : Out :=
  .next (if ¬s.on PWR_SUPST_VCORE then s
    else
      let s := (s.put PWR_SUPST_VCORE false).nextGen
      if s.allOff then s
      else ((s.allGatesOff).reportS4 clPwr 0xE00 13).each (List.range 8) State.stopCluster)
/-- VCORE_RETURN (R470). -/
def execVcoreReturn (s : State) : Out := .next (s.put PWR_SUPST_VCORE true)
/-- VANA_FAIL (R151, R467); recorded where the fault collector is on. -/
def execVanaFail (s : State) : Out :=
  .next (if ¬s.on PWR_SUPST_VANA then s
    else
      let s := s.put PWR_SUPST_VANA false
      if s.allOff then s else (s.each (List.range 4) State.stopDie).reportS4 clPwr 0xE01 13)
/-- VANA_RETURN (R467). -/
def execVanaReturn (s : State) : Out := .next (s.put PWR_SUPST_VANA true)
/-- VBAK_FAIL (R467). -/
def execVbakFail (s : State) : Out :=
  .next (if s.on PWR_BSTAT_BAKOK then (s.put PWR_BSTAT_BAKOK false).report clPwr 0xE06 1 13 else s)
/-- VBAK_RETURN (R467). -/
def execVbakReturn (s : State) : Out := .next (s.put PWR_BSTAT_BAKOK true)
/-- SUPPLY_MONITOR (R469): the readings of the supplies, in the order of PWR_VMONx. -/
def execSupplyMonitor (v : List Word) (s : State) : Out :=
  .next (if s.allOff then s
    else s.each (List.range 11) fun t x => match v[x]? with | some w => t.wr (PWR_VMON_VALUE x) w.toNat | none => t)

/-! ### Meanings: hand-over to backup -/

/-- VIO_DIP (R481): VIO recovers before commitment. -/
def execVioDip (s : State) : Out :=
  .next (if s.pwr.handAt.isSome then s else (s.bump PWR_VIODIP_COUNT).report clPwr 0xE03 0 13)
/-- HAND_OVER_COMMIT (R481, R482, R485): VIO has been low for 20 µs, or VAON has fallen. In SLEEP only the supply changes. -/
def execHandOverCommit (vaon : Bool) (s : State) : Out :=
  .next (if s.pwr.handAt.isSome then s
    else
      let s := s.put (if vaon then PWR_SUPST_VAON else PWR_SUPST_VIO) false
      if s.dev = .sleep then s.modPwr fun p => { p with handAt := some s.time, doneAt := some s.time }
      else
        let s := if vaon then s.report clPwr 0xE02 1 13 else s
        let s := (s.report clPwr 0xE04 1 13).bump PWR_HOCNT_COUNT
        let s := s.modPwr fun p =>
          { p with handAt := some s.time, gatesOff := true, safeHold := p.safeHold || s.dev == .safe, pcycAt := none }
        ((s.allGatesOff).updOutputs).queueItem 0)
/-- HAND_OVER_COMPLETE (R482, R485): clusters, fabric, links and code flash are off; the device is in SLEEP, or stays in SAFE. -/
def execHandOverComplete (s : State) : Out :=
  .next (if s.pwr.handAt.isSome ∧ s.pwr.doneAt.isNone then
      let s := s.drain
      let safe := s.dev == .safe
      let s := (if safe then s else s.put PWR_CTL_SLPARM false).domainsOff
      { s with dev := if safe then .safe else .sleep, devAt := none
               pwr := { s.pwr with doneAt := some s.time, safeHold := s.pwr.safeHold || safe, sleepDue := none } }
    else s)
/-- STABILITY_WINDOW_END (R483, R484, R485): VIO and VAON have been good for 2 ms. -/
def execStabilityWindowEnd (s : State) : Out :=
  .next (if (s.pwr.doneAt.any fun t => decide (t + 32000 ≤ s.time)) then
      let s := (s.put PWR_SUPST_VIO true).put PWR_SUPST_VAON true
      let s := if s.pwr.safeHold then s.report clPwr 0xE0A 1 13 else (s.raiseFlag PWR_WAKECAUSE_VIORET).report clPwr 0xE08 0 13
      s.warmStart
    else s)
/-- COLD_START (R486, R518): VHOLD and VBAK have both been spent during a backup; the always-on domain starts from nothing. -/
def execColdStart (s : State) : Out :=
  .next (if s.pwr.doneAt.isNone then s
    else
      let s := s.drain
      let seq := s.rd REC_LSEQ_SEQ
      let t := s.lose State.stored false []
      let t := { t with time := 0, devOfs := 0, devNext := 0, runAt := 0, watchAt := 0, dev := .watch, devAt := none, up := false,
                        pwr := { pcycFlag := s.pwr.pcycFlag }, recs := { sys := s.recs.sys }, coll := {} }
      .report ((t.raiseFlag PWR_WAKECAUSE_COLD).sageCold) clPwr 0xE09 1 13 [seq])

/-! ### Meanings: SLEEP -/

/-- SLEEP_ENTRY (R5, R471, R472): with the levels of the WAKE inputs and VHOLD in mV. SLEEP is the last in R5's order: it is taken at the
end of the cycle, unless another transition of the cycle discards it. -/
def execSleepEntry (wake : BitVec 4) (vhold : Nat) (s : State) : Out :=
  .next (if (s.dev = .watch ∨ s.began = .watch) ∧ s.up ∧ s.on PWR_CTL_SLPARM ∧ s.sleepFails wake = 0 then
      if s.began = .watch ∧ s.dev = .watch then s.modPwr fun p => { p with sleepDue := some vhold } else s.discarded
    else s)
/-- SLEEP_REFUSED (R471): 100 ms in WATCH with SLPARM = 1 and a condition that fails. -/
def execSleepRefused (wake : BitVec 4) (s : State) : Out :=
  .next (if s.dev = .watch ∧ s.up ∧ s.on PWR_CTL_SLPARM ∧ s.sleepFails wake ≠ 0 ∧ max s.pwr.armAt s.watchAt + 1600000 ≤ s.time then
      (s.put PWR_CTL_SLPARM false).report clPwr 0xE10 1 13 [s.sleepFails wake]
    else s)
/-- WAKE (R36, R473, R484): the levels that the WAKE inputs have shown for 100 µs. In SLEEP an enabled active input starts the device, on
backup it is only recorded, in WATCH it starts the clusters routed for it. -/
def execWake (level : BitVec 4) (s : State) : Out :=
  let hit := (List.range 4).filter fun w => s.bit PWR_WAKECFG_WEN w && s.bit PWR_WAKECFG_WPOL w == level.getLsbD w
  .next (if hit = [] then s
    else if s.waking then
      let s := s.each hit fun t w => t.raiseBit PWR_WAKECAUSE_WAKE w
      if s.asleep then s.warmStart else s
    else if s.dev = .watch ∧ s.up then s.startRouted 4 6
    else s)
/-- ALARM (R473, R484). -/
def execAlarm (s : State) : Out :=
  .next (if s.waking ∧ s.on PWR_WAKECFG_ALEN ∧ s.rd PWR_ALARM_TIME ≤ s.devTime then
      let s := s.raiseFlag PWR_WAKECAUSE_ALARM
      if s.asleep then s.warmStart else s
    else s)

/-! ### Meanings: clusters -/

/-- CLUSTER_START_COMPLETE (R32, R35, R316, R317): the clock of a starting cluster runs; `fails`: the engines that failed the comparator proof of a
start from off, with the first failing group. -/
def execClusterStartComplete (k : Fin 8) (fails : List (Fin 16 × Fin 64)) (s : State) : Out :=
  .next (if s.rd (PWR_CST_STATE k) ≠ 2 then s
    else
      let kept := (s.clu k).kept
      let proven := (s.clu k).proven
      let s := ((s.wr (PWR_CST_STATE k) 3).modClu k fun c => { c with kept := none, proven := false }).unfreezeCluster k
      match kept with
      | some g =>
        if g = s.rd PWR_GEN_GEN then s
        else ((s.clearCluster k).startEngines k proven fails).report clPwr (0xE18 + k) 0 (4 + k)
      | none => (s.clearCluster k).startEngines k proven fails)
/-- CLUSTER_IDLE (R476, R477): a cluster that holds a twin idles together with every other such cluster. -/
def execClusterIdle (k : Fin 8) (s : State) : Out :=
  let group := if s.twinClusters.contains k.val then s.twinClusters.filter fun j => s.rd (PWR_CST_STATE j) ≥ 2 else [k.val]
  .next (if s.idleReady k ∧ group.all s.idleReady then (s.each group State.idleCluster).enterWatch else s)

end Sys2Proof.Machine
end

