-- ==== Sys2Proof/Machine/Registers.lean ====
section
/-! DEFINITION. What every register write and read is subject to (R10 to R14, R570, and the ranges that the register maps give): reserved
fields, RWL fields after seal, values outside their range, staging and capture, and the fields that are computed when read. -/
namespace Sys2Proof.Machine

/-! ### Ranges of values -/

/-- A rule on the value of a field: the values it accepts, the severity of the flag on any other, and what is then stored: a value, or none
where the write of the field is refused. -/
structure Bound where
  fld : Fld
  ok  : Nat → Bool
  sev : Nat
  fix : Nat → Option Nat

/-- Any other value is stored as the nearest bound, and flagged at S0. -/
def Bound.near (f : Fld) (lo hi : Nat) : Bound :=
  ⟨f, fun v => decide (lo ≤ v) && decide (v ≤ hi), 0, fun v => some (max lo (min hi v))⟩
/-- Any other value is refused, and flagged at S1. -/
def Bound.refuse (f : Fld) (ok : Nat → Bool) : Bound := ⟨f, ok, 1, fun _ => none⟩
/-- Any other value is stored, treated as its rule says, and flagged. -/
def Bound.treat (f : Fld) (sev : Nat) (ok : Nat → Bool) : Bound := ⟨f, ok, sev, some⟩

/-- The rules on the fields of a register that has a whole value `v`. -/
def boundsOf (reg : Reg) (v : Nat) : List Bound :=
  let i := reg.i
  match reg.name with
  | .CH_ILIM => [.near (CH_ILIM_LIM i) 0 400]
  | .CH_ILIMI => [.near (CH_ILIMI_LIM i) 0 400]
  | .CH_LEASE => [.near (CH_LEASE_LEN i) 5 100]
  | .CH_ADJ0 => [.treat (CH_ADJ0_NB i) 0 (· ≤ 47)]
  | .CH_ADJ1 => [.treat (CH_ADJ1_NB i) 0 (· ≤ 47)]
  | .CH_DRT => [.treat (CH_DRT_TSRC i) 0 (· ≤ 47), .treat (CH_DRT_TSEL i) 0 (· ≤ 2)]
  | .CH_CODE => [.treat (CH_CODE_CHIPR i) 0 (· ≤ 2)]
  | .CH_CIDX => [.refuse (CH_CIDX_IDX i) (· ≤ 1024)]
  | .CAR_CFG => [.treat (CAR_CFG_TU i reg.j) 0 (· ≤ 2)]
  | .CH_PCFG2 => [.refuse (CH_PCFG2_TRI i) (· ≤ 29)]
  | .SPT_ZTH => [.near SPT_ZTH_ZTH 48 160]
  | .TRP_RCFG => [.refuse (TRP_RCFG_CIDX i) (· ≤ 1024)]
  | .TRP_VF => [.near (TRP_VF_VF i reg.j) 1638 4055]
  | .PWR_VBASE => [.refuse (PWR_VBASE_BASE i) fun b => region (128 * b) == .flash]
  | .PWR_ENGMAP => [.treat (PWR_ENGMAP_ROLE i) 0 (· ≤ 2)]
  | .PWR_TKVEC => [.refuse PWR_TKVEC_VEC fun x => x % 2 == 0 && region x == .flash]
  | .SN_TPCFG => [.near SN_TPCFG_TPW 2 20, .near SN_TPCFG_TPPER 1 100]
  | .SN_OTCFG => [.near SN_OTCFG_OTPW 2 10, .near SN_OTCFG_OTPER 1 60]
  | .SN_FNCFG => [.refuse (SN_FNCFG_TYPE i) (· ≤ 5)]
  | .FC_CFG => [.near FC_CFG_ERRSEV 0 4, .refuse FC_CFG_FHCLU (· ≤ 1)]
  | .FC_TB => [.near (FC_TB_DEPTH i) 1 15, .near (FC_TB_REFILL i) 1 255]
  | .MIR_CFG => [.near MIR_CFG_ABSENT 1 63]
  | .MIR_SPLIT => [.refuse (MIR_SPLIT_TWIN i) (· ≤ 191)]
  | .KSF_TCFG => [.treat KSF_TCFG_SRC 0 (· ≤ 2)]
  | .KSF_ALLOW => [.near (KSF_ALLOW_TEXP i) 1 1000, .near (KSF_ALLOW_LEN i) 1 (if (KSF_ALLOW_TR i).of v < 4 then 33 else 40),
      .near (KSF_ALLOW_TXPER i) 1 1000, .near (KSF_ALLOW_NSLOT i) 0 6]
  | .PWR_BAKCFG => [.near PWR_BAKCFG_VCHG 0 10]
  | .PWR_HCAP => [.near PWR_HCAP_CAP 10 4095]
  | .TMP_CFG => [.treat (TMP_CFG_TYPE i) 1 fun t => t != 3 && !(i == 48 && t == 1), .near (TMP_CFG_XDIF i) 1 63, .near (TMP_CFG_RATE i) 1 63]
  | .TMP_CDCFG => [.near TMP_CDCFG_WARN 0 199]
  | .SAGE_FCFG => [.near SAGE_FCFG_REFINT 1 255, .near SAGE_FCFG_CETH 1 15]
  | .HIF_CTL => [.near HIF_CTL_DUMMY 8 62]
  | _ => []

/-- The whole value `v` of a register with field `f` replaced by `x`. -/
def Fld.into (f : Fld) (x v : Nat) : Nat := v - f.of v * 2 ^ f.lo + x % 2 ^ f.width * 2 ^ f.lo

/-- The bits of word `w` of a register that belong to a field. -/
def Reg.defined (reg : Reg) (w b : Nat) : Bool :=
  reg.fields.any fun f => decide (f.lo ≤ 12 * w + b) && decide (12 * w + b < f.lo + f.width)
/-- R13: the word value carries a 1 in a reserved field. -/
def Reg.reservedSet (reg : Reg) (w v : Nat) : Bool := (List.range 12).any fun b => v.testBit b && !reg.defined w b

/-- R13: the value of word `i` of a register without its reserved fields. -/
def definedBits (reg : Reg) (i w : Nat) : Nat :=
  (List.range 12).foldl (fun x b => if w.testBit b && reg.defined i b then x + 2 ^ b else x) 0
/-- R14: an RWL field, or one that its aspect's SAFE makes so. -/
def State.lockable (s : State) : Access → Bool
  | .rwl => true
  | .rws a => s.on (SN_ASP_SAFE a)
  | _ => false

namespace State

/-- The value that the fields of a register hold together; WO and W1C fields count as not written. -/
def held (s : State) (reg : Reg) : Nat :=
  reg.fields.foldl (fun a f => if f.acc = .wo ∨ f.acc = .w1c then a else a + s.rd f * 2 ^ f.lo) 0

/-- R14: after seal an RWL field keeps its value; a write that carries another is flagged at its address. -/
def lockFields (s : State) (reg : Reg) (a v : Nat) : State × Nat :=
  let l := reg.fields.filter fun f => s.sealed && s.lockable f.acc && f.of v != s.rd f
  if l = [] then (s, v) else (s.flag a 1 1, l.foldl (fun x f => f.into (s.rd f) x) v)

/-- The rules of `boundsOf` applied to a whole value, with their flags. -/
def boundFields (s : State) (reg : Reg) (a v : Nat) : State × Nat :=
  (boundsOf reg v).foldl (fun p b =>
    if b.ok (b.fld.of v) then p
    else (p.1.flag a b.sev 2, b.fld.into ((b.fix (b.fld.of v)).getD (s.rd b.fld)) p.2)) (s, v)

/-- R10, R15: a whole value reaches the fields of a register by their access codes. -/
def storeFields (s : State) (reg : Reg) (v : Nat) : State :=
  reg.fields.foldl (fun t f =>
    match f.acc with
    | .rw | .rwl | .rws _ => t.wr f (f.of v)
    | .rwh => t.softWrite f (f.of v)
    | .w1c => t.softClear f (f.of v)
    | .ro | .wo => t) s

/-- A write of a register without an effect of its own: its bounds, then its fields. -/
def storeBounded (s : State) (reg : Reg) (a v : Nat) : State :=
  let p := s.boundFields reg a v
  p.1.storeFields reg p.2

/-! ### Reads -/

/-- R4: the code of PWR_STATE. -/
def stateCode (s : State) : Nat :=
  match s.dev with
  | .sleep => 0
  | .watch => 1
  | .run => 2
  | .safe => 3
  | .maint => 4
  | .rejoin => 5

/-- The fields that are formed when they are read, with their values. -/
def computed (s : State) (reg : Reg) : List (Fld × Nat) :=
  let i := reg.i
  match reg.name with
  | .CH_STAT => [(CH_STAT_MODE i, s.mode i), (CH_STAT_DRT i, (decide (s.rd (CH_DFAC_DFAC i) < 4095)).toNat),
      (CH_STAT_VDRVOK i, (s.bit PWR_SUPST_VDRVOK (i / 48)).toNat), (CH_STAT_LBUSOK i, (s.bit PWR_SUPST_LBUSOK (i / 48)).toNat)]
  | .CH_SSTAT => [(CH_SSTAT_STATE i, s.rd (SEAL_SS_STATE i))]
  | .SN_TWVAL => [(SN_TWVAL_VALUE i, s.twinValue i)]
  | .MIR_STAT => [(MIR_STAT_PSTATE, s.pairState)]
  | .PWR_ENGST => [(PWR_ENGST_STATE i, s.engState i)]
  | .PWR_STATE => [(PWR_STATE_STATE, s.stateCode)]
  | .PWR_GPS => [(PWR_GPS_SUM i, min 4095 (s.dieSum i * 1000).floor.toNat)]
  | .PWR_BSTAT => [(PWR_BSTAT_CHG, s.charging.toNat)]
  | .SPT_STAT => [(SPT_STAT_RHOLD i, (s.on (SPT_STAT_RHOLD i) && decide (s.time < (s.optic i).holdAt + 128)).toNat)]
  | .REC_STAT => if s.recs.kind ≠ 0 ∧ s.time < s.recs.endAt then [(REC_STAT_STATE, s.recs.kind)] else []
  | .SAGE_FSTAT => [(SAGE_FSTAT_BUSY, (decide (s.time < s.sage.refTo)).toNat)]
  | .REC_PEND => [(REC_PEND_COUNT, s.coll.ring.length)]
  | .SAGE_FDUE => [(SAGE_FDUE_COUNT, s.dueCount)]
  | .FC_STAT => [(FC_STAT_HEALTHY, s.healthy.toNat), (FC_STAT_SAFE, (s.dev == .safe).toNat)]
  | .HIF_STAT => [(HIF_STAT_SAFE, (s.dev == .safe).toNat)]
  | .DBG_ESTAT =>
    let c := s.core s.debugCore
    let e := s.rd DBG_ENGSEL_ENG
    [(DBG_ESTAT_HALTED, c.halted.toNat), (DBG_ESTAT_STOPPED, (c.stopped || s.rd (PWR_ENGST_STATE e) == 4).toNat),
     (DBG_ESTAT_CAUSE, c.hcause), (DBG_ESTAT_BP, c.hbp)]
  | _ => []

/-- R10: what a read of a field returns: WO fields read 0. -/
def readField (s : State) (over' : List (Fld × Nat)) (f : Fld) : Nat :=
  match over'.find? (·.1 == f) with
  | some x => x.2
  | none => if f.acc == .wo then 0 else s.rd f

/-- What a read of a whole register returns. -/
def readReg (s : State) (reg : Reg) : Nat :=
  let o := s.computed reg
  reg.fields.foldl (fun a f => a + s.readField o f * 2 ^ f.lo) 0

end State

/-- R12: the number that a requester's staged and captured values carry. -/
def reqNo : Requester → Nat
  | .core q => q.val
  | .dma k c => 256 + 32 * k.val + c.val
  | .host => 512
  | .debug => 513
/-- The key of a staged or captured word. -/
def reqKey (r : Requester) (a : Nat) : Nat := 0x1000000 * reqNo r + a

namespace State

/-- R12: the captured word, if the requester holds a capture of it. -/
def capture? (s : State) (r : Requester) (a : Nat) : Option Nat := s.captured.get none (reqKey r a)
def setCapture (s : State) (r : Requester) (a : Nat) (v : Option Nat) : State :=
  { s with captured := s.captured.set none (reqKey r a) v }
def setStaged (s : State) (r : Requester) (a : Nat) (v : Option Nat) : State :=
  { s with staged := s.staged.set none (reqKey r a) v }

/-- R12: a read of word `a` of register `reg`: the lowest word captures the upper words, which a later read uses up. -/
def readWord (s : State) (r : Requester) (reg : Reg) (a : Nat) (v : Nat) : State × Nat :=
  let w := a - reg.addr
  if w = 0 then
    ((List.range (reg.words - 1)).foldl (fun t j => t.setCapture r (reg.addr + j + 1) (some (bits v (12 * (j + 1)) 12))) s, v % 4096)
  else match s.capture? r a with
    | some x => (s.setCapture r a none, x)
    | none => (s, bits v (12 * w) 12)

/-- R12: the words that a whole write of a register carries, by their numbers: those that the requester has staged, and the highest word `w`. -/
def wholeWords (s : State) (r : Requester) (reg : Reg) (w : Nat) : List (Nat × Nat) :=
  (List.range (reg.words - 1)).filterMap (fun j => (s.staged.get none (reqKey r (reg.addr + j))).map fun x => (j, x)) ++ [(reg.words - 1, w)]
/-- R12, R13: the whole value that the words written give, without reserved fields; a word not written is at its present value in `old`. -/
def wholeValue (reg : Reg) (old : Nat) (ws : List (Nat × Nat)) : Nat :=
  (List.range reg.words).foldl (fun a j =>
    a + (match ws.find? (·.1 == j) with | some x => definedBits reg j x.2 | none => bits old (12 * j) 12) * 4096 ^ j) 0
/-- R12: the requester's staged values of a register are used up. -/
def unstage (s : State) (r : Requester) (reg : Reg) : State :=
  (List.range (reg.words - 1)).foldl (fun t j => t.setStaged r (reg.addr + j) none) s

end State
end Sys2Proof.Machine
end

