-- ==== Sys2Proof/Machine/Seal.lean ====
section
/-! DEFINITION. The seal switches and the configuration image (R383 to R391, R91, R166, R172, R181, R186, R321, R328, R336, R442). -/
namespace Sys2Proof.Machine

/-! ### The switches (R384, R385) -/

/-- R384: what four readings of a pin show: its value, or a switch fault. -/
def switchValue (a b c d : Bool) : Option Bool :=
  if a && b && !c && !d then some true else if a && !b && c && !d then some false else none
/-- The pins with a switch fault, as a mask. -/
def switchFaults (p0 p1 p2 p3 : BitVec 16) : Nat :=
  (List.range 16).foldl (fun m k =>
    if (switchValue (p0.getLsbD k) (p1.getLsbD k) (p2.getLsbD k) (p3.getLsbD k)).isNone then m + 2 ^ k else m) 0
/-- The values of the switches, a faulty one counting as 0. -/
def switchValues (p0 p1 p2 p3 : BitVec 16) : Nat :=
  (List.range 16).foldl (fun m k =>
    if switchValue (p0.getLsbD k) (p1.getLsbD k) (p2.getLsbD k) (p3.getLsbD k) = some true then m + 2 ^ k else m) 0
/-- R385: SEAL_DEC.DMD from the code of the switches; 0 where it is invalid. -/
def dmdCode : Nat → Nat
  | 1 => 1
  | 2 => 2
  | 4 => 3
  | 7 => 4
  | _ => 0

/-! ### The image (R388) -/

/-- A record: address, value. -/
abbrev Rec := Nat × Nat

/-- R10: the fields of a register that the image may load. -/
def Reg.sealable (reg : Reg) : List Fld :=
  reg.fields.filter fun f => match f.acc with
    | .rwl | .rws _ => true
    | _ => false
/-- R388, REASON 6: a record addresses a word that holds an RWL field, and its value is 0 in every other bit. -/
def recordOk (x : Rec) : Bool :=
  match regAt x.1 with
  | none => false
  | some reg =>
    let inWord := fun b => reg.sealable.any fun f =>
      let p := 12 * (x.1 - reg.addr) + b
      decide (f.lo ≤ p) && decide (p < f.lo + f.width)
    (List.range 12).any inWord && (List.range 12).all fun b => !x.2.testBit b || inWord b
/-- Some address is written twice (REASON 7). -/
def twice : List Nat → Bool
  | [] => false
  | a :: l => l.contains a || twice l

/-- The address of the configuration area. -/
def cfgArea : Nat := 0x7F0000

namespace State

/-- A word of the configuration area. -/
def cfg (s : State) (i : Nat) : Nat := s.peek (cfgArea + i)
/-- A 24-bit number in two words. -/
def cfg24 (s : State) (i : Nat) : Nat := s.cfg i + 4096 * s.cfg (i + 1)
/-- N. -/
def cfgCount (s : State) : Nat := s.cfg24 2
/-- The records. -/
def cfgRecords (s : State) : List Rec := (List.range s.cfgCount).map fun r => (s.cfg24 (16 + 3 * r), s.cfg (18 + 3 * r))
/-- REASON 3: kind, format, N and words 8 to 15. -/
def cfgFormat (s : State) : Bool :=
  s.cfg 0 == 0x5EA && s.cfg 1 == 1 && decide (1 ≤ s.cfgCount) && decide (s.cfgCount ≤ 21839) && (List.range 8).all fun i => s.cfg (8 + i) == 0
/-- The computed CRC; of a header that is no header, over the 16 words. -/
def cfgCrc (s : State) : Nat :=
  kcrc 0x5EA10192 ((List.range (16 + 3 * (if s.cfgFormat then s.cfgCount else 0))).map s.cfg)
/-- The trailer. -/
def cfgTrailer (s : State) : Nat :=
  let i := 16 + 3 * s.cfgCount
  s.cfg24 i + 0x1000000 * s.cfg (i + 2)
/-- The image serial. -/
def cfgSerial (s : State) : Nat := s.cfg24 4 + 0x1000000 * s.cfg24 6

/-- A record loads the RWL fields of its word. -/
def loadRecord (s : State) (x : Rec) : State :=
  match regAt x.1 with
  | none => s
  | some reg =>
    let w := x.1 - reg.addr
    let v := reg.sealable.foldl (fun a f => a + s.rd f * 2 ^ f.lo) 0
    let v := v - bits v (12 * w) 12 * 4096 ^ w + x.2 * 4096 ^ w
    reg.sealable.foldl (fun t f => t.wr f (f.of v)) s
/-- R391: every RWL field at its reset value, then the records. -/
def trial (s : State) (l : List Rec) : State :=
  let keep := fun (e : Nat × Nat) => match regAt (e.1 / 256) with
    | none => true
    | some reg => reg.sealable.all fun f => f.key != e.1
  l.foldl loadRecord { s with regs := s.regs.filter keep }

/-! ### The checks of R390, on the state that the records give -/

/-- R91: gate power at the sealed safe states. -/
def sealedPower (t : State) (n : Nat) : Rat :=
  match t.rd (SEAL_SS_STATE n) with
  | 1 | 2 => if t.switches n (t.rd (SEAL_SS_VALUE n)) then t.gatePower n (t.rd (SEAL_SS_PER n)) else 0
  | _ => 0
/-- A channel is a member of a safety aspect. -/
def safetyMember (t : State) (n : Nat) : Bool := (List.range 64).any fun a => t.on (SN_ASP_SAFE a) && t.member n a

def okPower (t : State) : Bool := (List.range 4).all fun d => decide ((dieChannels d).foldl (fun a n => a + t.sealedPower n) 0 ≤ 2)
/-- R172. -/
def okCodes (t : State) : Bool :=
  !twice ((channels.filter fun n => t.on (CH_CODE_EN n)).map fun n => t.rd (CH_CIDX_IDX n)) &&
    channels.all fun n => !t.on (CH_PCFG_OREQ n) ||
      (t.on (CH_CODE_EN n) && (!t.safetyMember n || codeBalance (t.rd (CH_CIDX_IDX n)) == 1))
/-- R166, R181. -/
def okProof (t : State) : Bool :=
  channels.all fun n => decide (64 ≤ t.rd (CW_LITLO_LITLO n)) &&
    (!t.safetyMember n || t.on (CH_PCFG_EREQ n) || t.on (CW_CFG_CEN n) || t.on (CW_CFG_DEN n))
/-- R186. -/
def okReact (t : State) : Bool :=
  (List.range 64).all fun a =>
    let x := t.rd (SN_APRF_REACT a)
    let b := t.rd (SN_APRF_SUBST a)
    (!(x == 1 || x == 3) || (t.rd (SN_ASP_GROUP b) == t.rd (SN_ASP_GROUP a) && t.on (SN_ASP_VALID b) && t.on (SN_ASP_SAFE b))) &&
      !(t.on (SN_ASP_SAFE a) && x == 0)
/-- R355: what the pair that a function names must have. -/
def okPair (t : State) (p : Nat) : Bool :=
  t.on (SN_TWCFG_EN p) && !t.on (SN_TWCFG_DIR p) && t.rd (SN_TWTOL_TOL p) == 0 && t.rd (SN_TWTOL_SAFEV p) == 0 &&
    decide (1 ≤ t.rd (SN_TWCFG_SKEW p)) && decide (t.rd (SN_TWCFG_SKEW p) ≤ 100)
/-- R321, R344, R355: twin pairs and their functions. -/
def okTwins (t : State) (map : Nat) : Bool :=
  ((List.range 64).all fun p => !t.on (SN_TWCFG_EN p) ||
    (let a := t.rd (SN_TWCFG_ENGA p)
     let b := t.rd (SN_TWCFG_ENGB p)
     a / 16 != b / 16 && !map.testBit (a / 16) && !map.testBit (b / 16) && t.role a == 1 && t.role b == 1 && t.rd (SN_TWCFG_SKEW p) != 0)) &&
  (List.range 24).all fun f =>
    let ty := t.rd (SN_FNCFG_TYPE f)
    ty == 0 || (if t.on (SN_FNCFG_TWEN f) then t.okPair (t.rd (SN_FNCFG_TWIN f)) else ty == 5)
/-- R328: the checkpoint areas of the HOST engines. -/
def okCheckpoints (t : State) : Bool :=
  (List.range 128).all fun e => t.role e != 1 ||
    (let a := t.rd PWR_CKBASE_BASE + 0x400 * e
     region a == .global && region (a + 0x3FF) == .global)
/-- R326: every HOST names a designated SPARE. -/
def okRoles (t : State) : Bool := (List.range 128).all fun e => t.role e != 1 || t.role (t.rd (PWR_ENGMAP_SPARE e)) == 2
/-- R49, R96, REASON 15. -/
def okSafe (t : State) : Bool :=
  channels.all fun n =>
    (!(t.rd (SEAL_SS_STATE n) == 3) || !t.safetyMember n) &&
    perOk (t.topo n) (t.rd (SEAL_SS_PER n)) && decide (t.rd (SEAL_SS_VALUE n) ≤ t.full n) &&
    (!t.leads n || (t.rd (SEAL_SS_STATE n) == t.rd (SEAL_SS_STATE (n + 1)) && t.rd (SEAL_SS_VALUE n) == t.rd (SEAL_SS_VALUE (n + 1)) &&
      t.rd (SEAL_SS_PER n) == t.rd (SEAL_SS_PER (n + 1))))
/-- REASON 16. -/
def okInputs (t : State) : Bool :=
  (List.range 32).all fun p =>
    let ty := t.rd (SN_IPCFG_TYPE p)
    let wired := decide (p < 16)
    let a := t.rd (SN_IPCFG_TPA p)
    let b := t.rd (SN_IPCFG_TPB p)
    decide (ty ≤ 4) && decide (1 ≤ t.rd (SN_IPCFG_FILT p)) && decide (t.rd (SN_IPCFG_FILT p) ≤ 200) &&
    decide (t.rd (SN_IPCFG_DISC p) ≤ 500) && decide (1 ≤ t.rd (SN_IPCFG_TPTOL p)) && decide (t.rd (SN_IPCFG_TPTOL p) ≤ 20) &&
    !(wired && (ty == 1 || ty == 2) && a == b) &&
    !(wired && (ty == 1 || ty == 2 || ty == 4) && (decide (8 ≤ a) || decide (8 ≤ b)))
/-- R361 to R367, R377, REASON 17. -/
def okFunctions (t : State) : Bool :=
  (List.range 24).all fun f =>
    let ty := t.rd (SN_FNCFG_TYPE f)
    let rst := t.on (SN_FNCFG_RSTEN f)
    let ip := t.rd (SN_IPCFG_TYPE (t.rd (SN_FNCFG_IPA f)))
    let ib := t.rd (SN_IPCFG_TYPE (t.rd (SN_FNCFG_IPB f)))
    ty == 0 ||
      (decide (ty ≤ 5) && (!rst || t.rd (SN_IPCFG_TYPE (t.rd (SN_FNCFG_RST f))) == 4) &&
       (!t.on (SN_FNCFG_MANRST f) || rst) && decide (t.rd (SN_FNCFG_T1 f) ≤ 1000) &&
       (!t.on (SN_FNCFG_DAEN f) || t.on (SN_ASP_VALID (t.rd (SN_FNCFG_DASP f)))) &&
       (match ty with
        | 1 => rst && (ip == 1 || ip == 2)
        | 2 => ip == 1 || ip == 2
        | 3 => !t.on (SN_FNCFG_CAT f) && !t.on (SN_FNCFG_DGEN f) && ip == 2 && ib == 2 &&
            decide (t.rd (SN_FNCFG_IPA f) < 16) && decide (t.rd (SN_FNCFG_IPB f) < 16)
        | 4 => ip == 3
        | _ => true))

/-- R390: the checks in their order, with the requested split map; REASON 5 only where `code` asks for it. The result is the REASON of the first
that fails, 0 for none. -/
def imageReason (s : State) (map : Nat) (code : Bool) : Nat :=
  let sw := s.rd SEAL_SW_SW
  if s.ports.swBad then 1
  else if dmdCode (bits sw 1 3) = 0 ∨ bits sw 4 2 = 1 then 2
  else if ¬s.cfgFormat then 3
  else if s.cfgCrc ≠ s.cfgTrailer then 4
  else if code ∧ bits sw 7 9 ≠ s.cfgCrc % 512 then 5
  else
    let l := s.cfgRecords
    if ¬l.all recordOk then 6
    else if twice (l.map (·.1)) then 7
    else
      let t := s.trial l
      let checks := [(8, t.okPower), (9, t.okCodes), (10, t.okProof), (11, t.okReact), (12, t.okTwins map), (13, t.okCheckpoints && t.okRoles),
        (14, map % 4 == 0), (15, t.okSafe), (16, t.okInputs), (17, t.okFunctions)]
      ((checks.find? fun c => !c.2).map (·.1)).getD 0

/-- SEAL_CRC and SEAL_CODE show the configuration area as last checked. -/
def showCrc (s : State) : State := (s.wr SEAL_CRC_CRC s.cfgCrc).wr SEAL_CODE_CODE (s.cfgCrc % 512)

/-! ### Applying the image (R388, R442) -/

/-- The ranges of a register that records wrote: a value outside is stored or refused as its map says, and flagged. -/
def settle (s old : State) (reg : Reg) : State :=
  (boundsOf reg (s.held reg)).foldl (fun t b =>
    if b.ok (t.rd b.fld) then t
    else (t.wr b.fld ((b.fix (t.rd b.fld)).getD (old.rd b.fld))).flag reg.addr b.sev 2) s
/-- R49, R90, R96: a TOPO record leaves PER and PHASE in range, or is refused where the die sum then exceeds 2.0 W; HBPAIR on a channel whose
partner is not HB is flagged. -/
def settleTopo (s old : State) (n : Nat) : State :=
  let per := s.rd (CH_PER_PER n)
  let r := perRange (s.topo n)
  let per' := max r.1 (min r.2 per)
  let ph := s.rd (CH_PHASE_PHASE n)
  let ph' := if per' ≤ ph then 0 else ph
  let t := (s.wr (CH_PER_PER n) per').wr (CH_PHASE_PHASE n) ph'
  let t := if s.topo n ≠ old.topo n ∧ ¬s.budgetOk t (n / 48) then (s.wr (CH_CFG_TOPO n) (old.topo n)).budgetRefusal n
    else if per' ≠ per ∨ ph' ≠ ph then t.report clCfg (0xC00 + 16 * (n / 48) + 7) 0 (n / 48) [n] else t
  if t.on (CH_CFG_HBPAIR n) ∧ n % 2 = 0 ∧ t.topo (n + 1) ≠ 3 then t.flag (chAddr n) 1 2 else t
/-- R100: a record of CHn_DTR, CHn_DTF, CHn_MINH or CHn_MINL is refused where the times exceed a quarter of the period. -/
def settleEdge (s old : State) (n : Nat) (f : Fld) : State :=
  if quarterOk (s.rd (CH_PER_PER n)) (s.rd (CH_MINH_VALUE n)) (s.rd (CH_DTF_VALUE n)) (s.rd (CH_MINL_VALUE n)) (s.rd (CH_DTR_VALUE n)) then s
  else (s.wr f (old.rd f)).timingRefusal n (f.addr - chAddr n)
/-- R115: a record that enables the code of channel n, or changes its chip rate or index, restarts chip 0. -/
def settleCode (s old : State) (n : Nat) : State :=
  if (s.on (CH_CODE_EN n) ∧ ¬old.on (CH_CODE_EN n)) ∨ s.rd (CH_CODE_CHIPR n) ≠ old.rd (CH_CODE_CHIPR n) ∨
      s.rd (CH_CIDX_IDX n) ≠ old.rd (CH_CIDX_IDX n) then s.modGen n fun g => { g with chipRestart := true }
  else s
/-- R442: the slots of an entry. -/
def entrySlots (s : State) (e : Nat) : List Nat :=
  if s.rd (KSF_ALLOW_MAXC e) = 0 ∨ s.rd (KSF_ALLOW_DIR e) = 0 then []
  else (List.range (s.rd (KSF_ALLOW_NSLOT e))).map (s.rd (KSF_ALLOW_SLOTBASE e) + ·)
/-- R442: an entry whose slots overlap those of a lower-numbered entry is disabled and recorded. -/
def disableEntries (s : State) : State :=
  let off := (List.range 32).filter fun e => (List.range e).any fun f => (s.entrySlots f).any (s.entrySlots e).contains
  ({ s with entryOff := off }).each off fun t e => t.report clCfg (0xE40 + e) 1 13
/-- R388: all records applied as one whole. -/
def applyImage (s : State) : State :=
  let l := s.cfgRecords
  let regs := l.filterMap fun x => regAt x.1
  let t := l.foldl loadRecord s
  let seen : List Reg := regs.foldl (fun (a : List Reg) r => if a.any (fun q => q.addr == r.addr) then a else r :: a) []
  let t := seen.foldl (fun u r => u.settle s r) t
  let t := seen.foldl (fun u r => match r.name with
    | .CH_CFG => u.settleTopo s r.i
    | .CH_CODE | .CH_CIDX => u.settleCode s r.i
    | .TMP_CFG | .TMP_PAR => u.renewLater r.i
    | .CH_SLOT => if 4095 < u.rd (CH_SLOT_VALUE r.i r.j) ∧ u.topo r.i = 2 then (u.wr (CH_SLOT_VALUE r.i r.j) 4095).flag r.addr 0 2 else u
    | _ => u) t
  let t := seen.foldl (fun u r => match r.name with
    | .CH_DTR | .CH_DTF | .CH_MINH | .CH_MINL => r.fields.foldl (fun v f => v.settleEdge s r.i f) u
    | _ => u) t
  let t := { t with entryIn := (List.range 32).filter fun e => regs.any fun (r : Reg) => r.name == RegName.KSF_ALLOW && r.i == e }
  ((if t.noMarks then t.installSync else t).updWatch).disableEntries.wr SEAL_SER_SERIAL s.cfgSerial
/-- R449: the device is paired where the seal switches name a role and exactly one entry has PARTNER = 1, off the mirror link; else it
behaves as unpaired. -/
def decidePair (s : State) : State :=
  let l := (List.range 32).filter fun e => s.on (KSF_ALLOW_PARTNER e)
  if ¬s.on SEAL_DEC_PAIREN then s
  else if l.length = 1 ∧ l.all fun e => s.rd (KSF_ALLOW_TR e) != 7 then
    s.wr MIR_STAT_PSTATE 1
  else s.report clCfg 0xE78 1 13

/-- R386: the switches latched at reset, decoded. -/
def latchSwitches (s : State) (p0 p1 p2 p3 : BitVec 16) : State :=
  let v := switchValues p0 p1 p2 p3
  let f := switchFaults p0 p1 p2 p3
  let s := { (s.wr SEAL_SW_SW v).wr SEAL_SWF_FLT f with ports := { s.ports with swBad := f != 0, swSeen := 0 } }
  let roleB := bits v 4 2 == 3
  ((((s.wr SEAL_DEC_DMD (dmdCode (bits v 1 3))).put SEAL_DEC_PAIREN (decide (2 ≤ bits v 4 2))).put SEAL_DEC_ROLEB roleB).put
    SEAL_DEC_SPLITP (v.testBit 6)).put MIR_STAT_ROLEB roleB

/-- R336: the split map that the image in the configuration area requests: the one that start-up took, where the image is still that one. -/
def splitRequest (s : State) : Nat :=
  match s.ports.split with
  | some (crc, map) => if crc = s.cfgCrc then map else (Config.splitOf s.cfgCrc).toNat
  | none => (Config.splitOf s.cfgCrc).toNat
/-- SEAL_CMD (R391): CHECK repeats the checks, in MAINT only. -/
def writeSealCmd (s : State) (v : Nat) : State :=
  if v % 2 = 0 then s
  else if s.dev ≠ .maint then s.report clCfg 0xE21 1 12
  else
    let r := s.imageReason s.splitRequest false
    (s.put SEAL_STAT_CHKOK (r == 0)).showCrc

end State

/-! ### Meanings -/

/-- SWITCH_READ (R384, R386): a reading after start-up: a switch fault, and a change of a switch, are recorded and have no other effect. -/
def execSwitchRead (p0 p1 p2 p3 : BitVec 16) (s : State) : Out :=
  let f := switchFaults p0 p1 p2 p3
  let new := (List.range 16).filter fun k => f.testBit k && !s.bit SEAL_SWF_FLT k
  let t := (s.wr SEAL_SWF_FLT f).each new fun t k => t.report clCfg (0xE00 + k) 2 12
  let moved := (List.range 16).filter fun k =>
    !f.testBit k && (switchValues p0 p1 p2 p3).testBit k != s.bit SEAL_SW_SW k
  let t := { t with ports := { t.ports with swSeen := moved.foldl (fun m k => m + 2 ^ k) 0, strobeAt := some t.time } }
  .next (if ¬s.up then s
    else if moved.any fun k => !s.ports.swSeen.testBit k then t.report clCfg 0xE20 1 12 else t)

end Sys2Proof.Machine
end

