-- ==== Sys2Proof/Machine/Boot.lean ====
section
/-! DEFINITION. Resets, the power cycle, secure boot and the start-up sequence (R518 to R528, R30, R45, R316, R327, R336, R420, R468, R473, R485). -/
namespace Sys2Proof.Machine
namespace State

/-! ### Resets and the power cycle (R518 to R521) -/

/-- R468, R518, R519: a device reset with a cause, held until the supplies are good; one that arrives while a hand-over is committed is discarded. -/
def deviceReset (s : State) (cause : Nat) : State :=
  if s.pwr.handAt.isSome then s.report clCfg 0xE74 1 13
  else
    let s := if s.dev = .sleep then s.sageWake else s.drain
    let t := (s.nextGen).lose keptByReset false []
    { t.wr HIF_RSTCAUSE_CAUSE cause with
      dev := .watch, devAt := none, up := false, watchAt := s.time
      pwr := { released := s.suppliesGood, pcycFlag := s.pwr.pcycFlag } }

/-- R520: requesters of a device reset and of a power cycle. -/
def mayReset (s : State) : Requester → Bool
  | .host => true
  | .debug => true
  | .core q => decide (q.val / 32 ≤ 1) && !s.split (q / 32) && s.coreSv q
  | .dma _ _ => false
/-- R520, R521, R528: a refused write. -/
def resetRefused (s : State) : State := s.report clCfg 0xE74 1 13

/-- HIF_RST (R520). -/
def writeRst (s : State) (r : Requester) (key : Nat) : State :=
  if key = 0xD5A ∧ s.mayReset r then s.deviceReset 2 else s.resetRefused
/-- HIF_PCYC (R521): gates off, safety outputs de-energised, the flag waits for its record write, PCYC_N is driven low. -/
def writePcyc (s : State) (r : Requester) (key : Nat) : State :=
  if key = 0xC5C ∧ s.mayReset r then
    let s := s.modPwr fun p => { p with gatesOff := true, pcycAt := some (p.pcycAt.getD s.time) }
    ((s.allGatesOff).updOutputs).queueItem 1
  else s.resetRefused

/-! ### OTP (R528) -/

/-- A word of OTP. -/
def otpWord (s : State) (i : Nat) : Nat := s.otp.get 0 i
def setOtp (s : State) (i v : Nat) : State := { s with otp := s.otp.set 0 i (v % 4096) }
/-- Bit i of the minimum-version field, and the number of its 1 bits. -/
def versionBit (s : State) (i : Nat) : Bool := (s.otpWord (0xC0 + i / 12)).testBit (i % 12)
def minVersion (s : State) : Nat := ((List.range 1024).filter s.versionBit).length
/-- The key slot is programmed and not revoked. -/
def keyGood (s : State) (k : Nat) : Bool := ((List.range 44).any fun i => s.otpWord (44 * k + i) != 0) && !(s.otpWord 0xB0).testBit k

/-! ### Secure boot (R524 to R527) -/

def slotBase (i : Nat) : Nat := if i = 0 then 0x400000 else 0x5F8000
def slotWord (s : State) (i j : Nat) : Nat := s.peek (slotBase i + j)
def slot24 (s : State) (i j : Nat) : Nat := s.slotWord i j + 4096 * s.slotWord i (j + 1)
def slotLen (s : State) (i : Nat) : Nat := s.slot24 i 2
def slotVersion (s : State) (i : Nat) : Nat := s.slot24 i 4
def slotVector (s : State) (i k : Nat) : Nat := s.slot24 i (8 + 2 * k)
/-- R526: checks 1 to 3. -/
def slotEarly (s : State) (i : Nat) : Nat :=
  let zero := fun a n => (List.range n).all fun j => s.slotWord i (a + j) == 0
  if ¬(s.slotWord i 0 = 0x1B0 ∧ s.slotWord i 1 = 1 ∧ s.slotWord i 6 < 4 ∧ s.slotWord i 7 = 0 ∧ zero 24 40 ∧ zero 108 20 ∧
      1 ≤ s.slotLen i ∧ s.slotLen i ≤ 2064256) then 1
  else if ¬s.keyGood (s.slotWord i 6) then 2
  else if s.slotVersion i < s.minVersion then 3
  else 0
/-- R526: every check, with the result of the signature verification. -/
def slotReason (s : State) (i : Nat) (sig : Bool) : Nat :=
  let body := slotBase i + 128
  if s.slotEarly i ≠ 0 then s.slotEarly i
  else if ¬(List.range 8).all fun k =>
      let v := s.slotVector i k
      v % 0x80 == 0 && decide (body ≤ v) && decide (v < body + s.slotLen i) then 4
  else if ¬sig then 5
  else 0
/-- R527: a refused slot. -/
def slotRefused (s : State) (i reason : Nat) : State := s.report clCfg 0xE70 1 13 [i, reason]
/-- R278, R525: the slot in use gives the vector bases. -/
def useSlot (s : State) (i : Nat) : State :=
  (s.each (List.range 8) fun t k => t.wr (PWR_VBASE_BASE k) (s.slotVector i k / 0x80)).wr HIF_BOOT_SLOT i
/-- R527: selection and verification; HIF_BOOT reports them. The second result: a slot is in use. -/
def secureBoot (s : State) (sig0 sig1 : Bool) : State × Bool :=
  let e0 := s.slotEarly 0
  let e1 := s.slotEarly 1
  let first := if e0 = 0 ∧ (e1 ≠ 0 ∨ s.slotVersion 1 ≤ s.slotVersion 0) then 0 else 1
  let sig := fun i => if i = 0 then sig0 else sig1
  let other := 1 - first
  let rf := s.slotReason first (sig first)
  let ro := if rf = 0 then s.slotEarly other else s.slotReason other (sig other)
  let reason := fun i => if i = first then rf else ro
  let t := (s.wr HIF_BOOT_REAS0 (reason 0)).wr HIF_BOOT_REAS1 (reason 1)
  let t := [0, 1].foldl (fun (u : State) i => if reason i = 0 then u else u.slotRefused i (reason i)) t
  if rf = 0 then (t.useSlot first, true)
  else if ro = 0 then (((t.useSlot other).put HIF_BOOT_FALLBK true).report clCfg 0xE72 2 13, true)
  else (t.put HIF_BOOT_NONE true, false)

/-- HIF_BOOTCMD (R528): RAISE sets bits of the minimum-version field, in MAINT; none where no slot is in use. -/
def writeBootcmd (s : State) (v : Nat) : State :=
  if v % 2 = 0 then s
  else if s.dev ≠ .maint ∨ HIF_BOOTCMD_KEY.of v ≠ 0x5B then s.resetRefused
  else
    let want := if s.on HIF_BOOT_NONE then 0 else min (s.slotVersion (s.rd HIF_BOOT_SLOT)) 1024 - s.minVersion
    ((List.range 1024).filter fun i => !s.versionBit i).take want |>.foldl (fun (t : State) i =>
      t.setOtp (0xC0 + i / 12) (t.otpWord (0xC0 + i / 12) ||| 2 ^ (i % 12))) s

/-! ### The start-up sequence (R523) -/

/-- R420: rung 3 or 4 used; record MRAM takes the count (R495). -/
def countRung (s : State) (r : Nat) : State := ((s.bump (FC_RUNG_COUNT (r - 1))).queueItem r).report clFc (0x020 + r) 0 13
/-- A device that starts takes a state, and has started at `up`. -/
def starting (s : State) (dev : DevState) : State := { s with dev := dev, devAt := none, wide := dev == .maint }
def started (s : State) : State := { s with up := true, watchAt := s.time }
/-- R521: the power-cycle flag is found and cleared, with the SAFE hold. -/
def foundFlag (s : State) : State :=
  if s.pwr.pcycFlag then
    ((s.countRung 4).modPwr fun p => { p with pcycFlag := false, safeHold := false }).starting
      (if s.pwr.safeHold ∧ s.dev = .safe then .watch else s.dev)
  else s
/-- Step 1 and 3: self-tests; a die that fails has its latches set (R398). The source ID of a failed self-test of the collector or the Safety Net is not stated. -/
def selfTests (s : State) (dieBad : BitVec 4) (fcBad snBad : Bool) : State :=
  let s := s.each ((List.range 4).filter fun d => dieBad.getLsbD d) fun t d =>
    let t := t.report clChan (0xC00 + 16 * d + 8) 3 d
    t.setLatches (dieChannels d) 3 (some t.lastEv)
  [fcBad, snBad].foldl (fun (t : State) bad =>
    if bad then (t.fresh).report clFc (Config.freeValue t.free).toNat 4 13 else t) s
/-- R45, R327, R336: the requested split map (bit k for Kk) is applied, or refused: where the switch does not permit it, and where it makes
the reserve check fail, which needs every HOST and every SPARE in lockstep. -/
def applySplit (s : State) (map : Nat) : State :=
  let m := map / 4
  let s := s.put PWR_SPLIT_PERMIT (s.on SEAL_DEC_SPLITP)
  let t := s.wr PWR_SPLIT_MAP m
  if m = 0 then s
  else if s.on SEAL_DEC_SPLITP ∧ (List.range 128).all fun e => s.role e == 0 || !t.split (e / 16) then t
  else (s.put PWR_SPLIT_REFUSED true).report clCfg 0xE79 1 13 (addrData PWR_SPLIT.last)
/-- R316, R317: the comparator proof of every lockstep engine that has not stopped; `fails`: those that fail, with the first failing group. -/
def compareProof (s : State) (fails : List (Fin 128 × Fin 64)) : State :=
  fails.foldl (fun (t : State) f =>
    let e := f.1.val
    if t.split (e / 16) ∨ t.rd (PWR_ENGST_STATE e) = 5 ∨ t.rd (PWR_ENGST_STATE e) = 4 then t
    else ((t.wr (PWR_ENGST_STATE e) 5).wr (PWR_ENGST_GROUP e) f.2).report clEng (0x100 + e) 2 (4 + e / 16)) s
/-- R327: the reserve check. -/
def checkReserve (s : State) : State := if s.reserveCheck then s.put PWR_CLUST_RSVOK true else s.reserveFix
/-- The split map that the present image requests (R324), which a check of the unchanged image uses again (R391). -/
def noteSplit (s : State) (split : Nat) : State := { s with ports := { s.ports with split := some (s.cfgCrc, split) } }
/-- Step 5: the image is checked and applied (R390, R391). The second result: an S4 refusal. -/
def bootImage (s : State) (split : Nat) : State × Bool :=
  if s.dev = .maint then
    let r := s.imageReason split false
    let s := if r = 0 then s.applyImage else s
    (((s.wr SEAL_STAT_STATE 2).wr SEAL_STAT_REASON r).showCrc, false)
  else
    let r := s.imageReason split true
    if r = 0 then ((((s.applyImage).wr SEAL_STAT_STATE 1).wr SEAL_STAT_REASON 0).showCrc, false)
    else ((((s.wr SEAL_STAT_STATE 3).wr SEAL_STAT_REASON r).showCrc).report clCfg (0xE80 + r) 4 12, true)
/-- Steps 6 and 7. -/
def bootChecks (s : State) (split : Nat) (fails : List (Fin 128 × Fin 64)) : State :=
  (((((s.applySplit split).compareProof fails).checkReserve).decidePair).modPair fun p => { p with upAt := s.time }).updOutputs
/-- R472, R485: a warm start sets the latches copied on entry into SLEEP. -/
def restoreLatches (s : State) : State :=
  (s.pwr.latches.foldl (fun (t : State) l => t.setLatch l.1 l.2.1 l.2.2) s).modPwr fun p => { p with latches := [] }
/-- The latest S4 event that waits. -/
def lastS4 (s : State) : Nat := (((s.coll.queue ++ s.coll.dropped).filter (·.sev == 4)).map Ev.id).foldl max 0
/-- Step 8: start-up is complete; `boot`: a firmware slot is in use. -/
def startComplete (s : State) (warm boot : Bool) : State :=
  let s := (s.started).raiseBit HIF_IPEND_LINES 9
  let s := s.each ((List.range 32).filter fun e => s.entryOn e && s.on (KSF_ALLOW_INIT e) && s.joinActive e) fun t e => t.sendJoin e
  if ¬boot then s
  else
    let s := s.each [0, 1] fun t k => (t.modClu k fun c => { c with proven := true }).requestStart k 6 (t.startFreq k)
    if warm ∧ s.rd PWR_WAKECAUSE_WAKE ≠ 0 then s.startRouted 4 6 else s

end State

/-! ### Meanings -/

/-- POWER_UP (R468, R518): every supply has been good for 1 ms, and the internal reset is released; the cause POWER is the reset value of
HIF_RSTCAUSE, which a device reset before the release has replaced. -/
def execPowerUp (s : State) : Out :=
  .next (if ¬s.pwr.released ∧ s.dev ≠ .sleep ∧ s.pwr.doneAt.isNone ∧ s.on PWR_SUPST_VCORE ∧ s.on PWR_SUPST_VAON ∧ s.on PWR_SUPST_VANA ∧
      s.on PWR_SUPST_VIO then s.modPwr fun p => { p with released := true }
    else s)
/-- RESET_PIN (R518). -/
def execResetPin (s : State) : Out := .next (if s.pwr.released ∨ s.dev = .sleep ∨ s.pwr.handAt.isSome then s.deviceReset 1 else s)
/-- POWER_CYCLE_TIMEOUT (R521): 1 s without a hand-over. -/
def execPowerCycleTimeout (s : State) : Out :=
  .next (if s.pwr.pcycAt.any fun t => decide (t + 16000000 ≤ s.time) then
      let s := (s.report clPwr 0xE12 2 13).modPwr fun p => { p with pcycAt := none, pcycFlag := false }
      ({ s with recs := { s.recs with items := s.recs.items.filter (· != 1) } }).deviceReset 3
    else s)
/-- START_UP (R523): the four readings of the switches, the crystal edges of a window, the dies whose self-test fails, failed self-tests of the
collector and the Safety Net, valid signatures of the two slots, the split map that the image requests, the engines that fail their
comparator proof. -/
def execStartUp (p0 p1 p2 p3 : BitVec 16) (crystal : Nat) (dieBad : BitVec 4) (fcBad snBad sig0 sig1 : Bool) (split : BitVec 8)
    (proof : List (Fin 128 × Fin 64)) (s : State) : Out :=
  .next (if ¬s.pwr.released ∨ s.up ∨ s.dev = .sleep ∨ s.pwr.handAt.isSome then s
    else
      let warm := s.pwr.warm
      let s := (s.foundFlag).modPwr fun p => { p with warm := false }
      let hold := s.pwr.safeHold || s.dev == .safe
      let s := if ¬warm ∧ s.rd HIF_RSTCAUSE_CAUSE ≠ 0 then s.countRung 3 else s
      let s := (s.selfTests dieBad fcBad snBad).latchSwitches p0 p1 p2 p3
      let s := s.starting (if hold then .safe else if s.bit SEAL_SW_SW 0 then .maint else .watch)
      let lost := crystal + 4 < 100 ∨ 104 < crystal
      let s := if lost then ({ s with xtalLost := true }).report clClk 0x000 4 13 else s
      let b := s.secureBoot sig0 sig1
      let dead := ¬b.2 ∧ ¬b.1.bit SEAL_SW_SW 0
      let s := if dead then b.1.report clCfg 0xE71 4 13 else b.1
      let i := (s.noteSplit split.toNat).bootImage split.toNat
      let s := i.1.bootChecks (if i.1.rd SEAL_STAT_REASON = 0 then split.toNat else 0) proof
      if hold then
        let s := (s.modPwr fun p => { p with latches := [] }).setLatches channels 3 none
        let s := ((s.started).updErrn).updOutputs
        if ¬b.2 then s else s.requestStart (s.rd FC_CFG_FHCLU) 6 (s.startFreq (s.rd FC_CFG_FHCLU))
      else if i.2 ∨ lost ∨ dead ∨ fcBad ∨ snBad then
        (s.restoreLatches.started).safeEntry s.lastS4
      else s.restoreLatches.startComplete warm b.2)

end Sys2Proof.Machine
end

