-- ==== Sys2Proof/Machine/Host.lean ====
section
/-! DEFINITION. The host interface: mailboxes (R533), programming code flash (R535, R536), the chipset link (R537, R538). -/
namespace Sys2Proof.Machine
namespace State

/-! ### Mailboxes (R533) -/

/-- A mailbox's doorbell: a write with FULL = 1 clears it, unless the doorbell rang in this very cycle (R15); any other is the doorbell. -/
def doorbell (s : State) (a : Nat) (cnt full : Fld) (v : Nat) (clear ring : State → State) : State :=
  if full.of v = 1 then (if s.on full ∧ s.marked full = 0 then clear (s.put full false) else s)
  else if s.on full then s.raiseFlag HIF_STAT_MBOVR
  else if cnt.of v = 0 ∨ 32 < cnt.of v then s.flag a 0 2
  else ring ((s.wr cnt (cnt.of v)).raiseFlag full)
/-- HIF_HDBm: the doorbell raises the MBOX line and starts the routed clusters; the clear is shown to the host. -/
def writeHdb (s : State) (m v : Nat) : State :=
  s.doorbell (0xD90120 + 0x40 * m) (HIF_HDB_CNT m) (HIF_HDB_FULL m) v (fun t => t.raiseBit HIF_IPEND_LINES (4 + m)) fun t =>
    (t.raise (t.coreOf (t.rd (HIF_MBRT_ENG m)) (t.rd (HIF_MBRT_CORE m))) 7).startRouted 3 4
/-- HIF_DDBm: the doorbell is shown to the host. -/
def writeDdb (s : State) (m v : Nat) : State :=
  s.doorbell (0xD90220 + 0x40 * m) (HIF_DDB_CNT m) (HIF_DDB_FULL m) v id fun t => t.raiseBit HIF_IPEND_LINES m

/-! ### Programming code flash (R535, R536) -/

/-- R524: the firmware slot that holds an address; 2 for the configuration area. -/
def slotOf (a : Nat) : Nat := if a < 0x5F8000 then 0 else if a < 0x7F0000 then 1 else 2
/-- R295: an engine fetches from the slot that holds the target; the configuration area is no slot. -/
def fetchingFrom (s : State) (a : Nat) : Bool :=
  region a == .flash && decide (slotOf a < 2) && (List.range 256).any fun q => s.executes q && region (s.core q).pc == .flash && slotOf (s.core q).pc == slotOf a
/-- R536: REASON 4. -/
def flashForm (s : State) (op adr n : Nat) : Bool :=
  if region adr ≠ .flash then false
  else if op = 1 then adr % 0x4000 == 0
  else op == 2 && adr % 4 == 0 && decide (adr % 0x4000 + n ≤ 0x4000) &&
    s.flash.all fun e => decide (e.1 < adr) || decide (adr + n ≤ e.1)
/-- R536: the REASON for which a command is refused; 0 for none. -/
def flashReason (s : State) (op key adr src n : Nat) : Nat :=
  if s.dev ≠ .maint ∨ key ≠ 0xF1 then 1
  else if s.ports.flash.isSome then 2
  else if s.fetchingFrom adr then 3
  else if ¬s.flashForm op adr n then 4
  else if op = 2 ∧ ¬(region src = .global ∧ region (src + n - 1) = .global) then 5
  else 0
/-- HIF_FLCMD. A command refused because one is busy leaves STATE at busy. -/
def writeFlcmd (s : State) (v : Nat) : State :=
  let op := HIF_FLCMD_OP.of v
  let adr := s.rd HIF_FLADR_ADDR
  let src := s.rd HIF_FLSRC_SRC
  let n := 4 * (s.rd HIF_FLLEN_LEN + 1)
  let r := s.flashReason op (HIF_FLCMD_KEY.of v) adr src n
  if r = 0 then
    { (s.wr HIF_FLST_STATE 1).wr HIF_FLST_REASON 0 with ports := { s.ports with flash := some (op, adr, src, n) } }
  else ((if s.ports.flash.isSome then s else s.wr HIF_FLST_STATE 3).wr HIF_FLST_REASON r).report clCfg 0xE73 1 13
/-- R507, R535: the effect of the flash command in progress. -/
def flashDone (s : State) (op adr src n : Nat) : State :=
  if op = 1 then
    { s with flash := s.flash.filter fun e => decide (e.1 < adr) || decide (adr + 0x4000 ≤ e.1)
             bad := s.bad.filter fun b => decide (b < adr) || decide (adr + 0x4000 ≤ b) }
  else
    ((List.range n).foldl (fun (t : State) i => t.pokeFlash (adr + i) (s.peek (src + i))) s).modSage fun g =>
      { g with now := { g.now with base := g.now.base.set 0 ((adr - 0x400000) / 0x4000) g.now.expo } }

/-! ### The chipset link (R537, R538) -/

/-- The state of KL changes; a bring-up step is timed from here. -/
def klTo (s : State) (st lanes : Nat) : State :=
  let s := { s with ports := { s.ports with klAt := if st = 1 ∨ st = 2 then some s.time else none } }
  ((s.wr HIF_KLSTAT_STATE st).wr HIF_KLSTAT_LANES lanes).raiseBit HIF_IPEND_LINES 11
/-- R537: a bring-up fails; the next attempt waits 10 ms. -/
def klFail (s : State) : State :=
  let s := (s.klTo 0 0).bump HIF_KLSTAT_FAILS
  { s with ports := { s.ports with klAt := some s.time } }
/-- R34, R537: KL is enabled and the links are on. -/
def klOn (s : State) : Bool := s.on KSF_CTL_KLEN && s.trPowered 6
/-- A step of the bring-up that succeeds within 1 ms leads to state `st`; after 1 ms it has failed (R537). -/
def klStep (s : State) (good : Bool) (st lanes : Nat) : State :=
  if s.ports.klAt.any fun t => decide (t + 16000 ≤ s.time) then s.klFail else if good then s.klTo st lanes else s
/-- R431: the link leaves UP. -/
def klLost (s : State) (st : Nat) : State :=
  if s.rd HIF_KLSTAT_STATE = 3 then (s.klTo st 0).report clLink 0x106 1 13 else s.klTo st 0
/-- HIF_KLCTL: RETRAIN takes the link to DOWN and then TRAIN. -/
def writeKlctl (s : State) (v : Nat) : State :=
  if v % 2 = 0 then s else s.klLost (if s.klOn then 1 else 0)
/-- KSF_CTL: with KLEN = 0 the link is DOWN. -/
def writeKsfCtl (s : State) (v : Nat) : State :=
  let s := ((s.wr KSF_CTL_CANEN (KSF_CTL_CANEN.of v)).wr KSF_CTL_ETHEN (KSF_CTL_ETHEN.of v)).wr KSF_CTL_KLEN (KSF_CTL_KLEN.of v)
  if s.on KSF_CTL_KLEN ∨ s.rd HIF_KLSTAT_STATE = 0 then s else s.klLost 0

end State

/-! ### Meanings -/

/-- FLASH_COMMAND_COMPLETE (R535, R536): `differ`: a word read back differs. -/
def execFlashCommandComplete (differ : Bool) (s : State) : Out :=
  .next (match s.ports.flash with
    | none => s
    | some (op, adr, src, n) =>
      let s := s.flashDone op adr src n
      let s := { s with ports := { s.ports with flash := none } }
      if differ ∧ op = 2 then (s.wr HIF_FLST_STATE 4).report clMem 0x124 1 13 else s.wr HIF_FLST_STATE 2)
/-- KL_STATE_CHANGE (R537): `good`: both lanes aligned, or the identities exchanged; in UP, that no eight blocks in a row have failed. A
link that is off is DOWN (R34). -/
def execKlStateChange (good : Bool) (s : State) : Out :=
  .next (if ¬s.klOn then (if s.rd HIF_KLSTAT_STATE = 0 then s else s.klLost 0)
    else match s.rd HIF_KLSTAT_STATE with
    | 0 => if s.ports.klAt.any fun t => decide (s.time < t + 160000) then s else s.klTo 1 0
    | 1 => s.klStep good 2 0
    | 2 => s.klStep good 3 3
    | _ => if good then s else s.klLost 0)
/-- KL_LANE_FAIL (R538): one lane fails in UP; with the other already lost the link goes to DOWN. -/
def execKlLaneFail (lane : Fin 2) (s : State) : Out :=
  .next (if s.rd HIF_KLSTAT_STATE = 3 ∧ s.bit HIF_KLSTAT_LANES lane then
      if s.rd HIF_KLSTAT_LANES = 3 then (s.putBit HIF_KLSTAT_LANES lane false).report clLink 0x107 1 13 else s.klLost 0
    else s)

end Sys2Proof.Machine
end

