-- ==== Sys2Proof/Machine/Debug.lean ====
section
/-! DEFINITION. Engine debug, the test access port, debug unlock and OTP writes (R539 to R545, R548, R339, R340). -/
namespace Sys2Proof.Machine
namespace State

/-! ### Halt, resume, step (R542 to R544) -/

/-- The selected core has started and its engine is not stopped. -/
def dbgLive (s : State) : Bool :=
  let q := s.debugCore
  !s.noCore q && (s.core q).run && !(s.core q).stopped && s.rd (PWR_ENGST_STATE (q / 2)) != 4
/-- DBG_CMD.HALT: at once, or at the next interrupt point. -/
def dbgHalt (s : State) : State :=
  let q := s.debugCore
  if ¬s.dbgLive ∨ (s.core q).halted then s
  else if s.haltPoint q then s.debugHalt q 0 0
  else s.modCore q fun c => { c with haltDue := true }
/-- DBG_CMD.RESUME (R125, R340, R542): outside MAINT a lockstep engine runs on unchecked, with ROLE FREE, and the channels that it may no
longer own, and those of a cluster whose clock has stopped, stay frozen. -/
def dbgResume (s : State) : State :=
  let q := s.debugCore
  if ¬(s.core q).halted then s
  else
    let e := q / 2
    let s := s.modCore q fun c => { c with halted := false, step := false, bpPass := c.hcause == 2 }
    let mine := (s.ownedBy e (if s.split (q / 32) then some (q % 2) else none)).filter fun n =>
      s.cluRuns (e / 16) && (s.dev == .maint || s.mayOwn n e)
    let s := s.each mine fun t n => t.unfreeze n
    if s.rd (PWR_ENGST_STATE e) = 4 ∧ s.rd (PWR_ENGST_CAUSE e) = 6 ∧ ¬s.split (q / 32) then
      ((s.wr (PWR_ENGST_STATE e) 1).wr (PWR_ENGMAP_ROLE e) 0)
    else s
/-- DBG_CMD.STEP: the next instruction, or element, of a halted core is executed. -/
def dbgStep (s : State) : State :=
  let q := s.debugCore
  if (s.core q).halted then s.modCore q fun c => { c with step := true, bpPass := true } else s
/-- DBG_CMD. -/
def writeDbgCmd (s : State) (v : Nat) : State :=
  let s := if v.testBit 0 then s.dbgHalt else s
  let s := if v.testBit 1 then s.dbgResume else s
  if v.testBit 2 then s.dbgStep else s

/-! ### Registers of a halted or stopped engine (R544, R548) -/

/-- R544: what a read gives is stated: the core is halted or its engine STOPPED, and it is not core .b of an engine that a disagreement of the
two cores stopped (R314). -/
def dbgKnown (s : State) : Bool :=
  let q := s.debugCore
  let e := q / 2
  let out := (s.core q).stopped || s.rd (PWR_ENGST_STATE e) == 4
  ((s.core q).halted || out) && !(out && s.on DBG_ENGSEL_CORE && !s.split (q / 32) && s.rd (PWR_ENGST_CAUSE e) == 1)
/-- What DBG_RSEL selects reads; a free value where R544 gives no read. -/
def dbgRead (s : State) : Nat :=
  let q := s.debugCore
  let c := s.core q
  let n := s.rd DBG_RSEL_SEL
  if ¬s.dbgKnown then (List.range 3).foldl (fun a i => a * 4096 + (Config.freeValue (s.free + i)).toNat) 0
  else if n < 0x20 then c.r n
  else if n < 0x28 then c.x (n - 0x20)
  else if n = 0x28 then c.pc
  else if 0x40 ≤ n ∧ n < 0x80 then
    match srGroup (n - 0x40) with
    | some (b, _) => part (s.srWhole q b) (n - 0x40 - b)
    | none => 0
  else if 0x100 ≤ n ∧ n < 0x300 then c.v ((n - 0x100) / 32) ((n - 0x100) % 32)
  else if 0x300 ≤ n ∧ n < 0x380 then c.a ((n - 0x300) / 32) ((n - 0x300) % 32)
  else 0
/-- A write to what DBG_RSEL selects, accepted for a halted core. -/
def dbgWrite (s : State) (v : Nat) : State :=
  let q := s.debugCore
  let n := s.rd DBG_RSEL_SEL
  if ¬(s.core q).halted then s
  else s.modCore q fun c =>
    if n < 0x20 then c.setR n v
    else if n < 0x28 then c.setX (n - 0x20) v
    else if n = 0x28 then { c with pc := v % 0x1000000 }
    else if 0x40 ≤ n ∧ n < 0x80 then
      match srGroup (n - 0x40) with
      | some (b, _) => c.srSet b (withPart (s.srWhole q b) (n - 0x40 - b) v)
      | none => c
    else if 0x100 ≤ n ∧ n < 0x300 then c.setV ((n - 0x100) / 32) ((n - 0x100) % 32) v
    else if 0x300 ≤ n ∧ n < 0x380 then c.setA ((n - 0x300) / 32) ((n - 0x300) % 32) v
    else c

/-! ### OTP (R545) -/

/-- DBG_OTPCMD: GO sets bits of an OTP word, in MAINT; words from 0x300 refuse. -/
def writeOtpcmd (s : State) (v : Nat) : State :=
  let s := if v.testBit 2 then s.softClear DBG_OTPCMD_REF 1 else s
  if v % 2 = 0 then s
  else
    let a := s.rd DBG_OTPA_ADDR
    if s.dev = .maint ∧ a < 0x300 then s.setOtp a (s.otpWord a ||| s.rd DBG_OTPD_DATA)
    else (s.raiseFlag DBG_OTPCMD_REF).report clCfg 0xE77 1 13

/-! ### The test access port (R539, R540) -/

/-- The instruction register and the data register take values. -/
def tap (s : State) (ir dr : Nat) : State := { s with ports := { s.ports with ir := ir, dr := dr } }
/-- R539: EXTEST, CLAMP and HIGHZ act in MAINT with every channel disabled, and as BYPASS otherwise. -/
def scanPins (s : State) (code : Nat) : State :=
  if s.dev = .maint ∧ channels.all fun n => !s.on (CH_CFG_EN n) then s.tap code s.ports.dr
  else (s.tap 0x3F 0).report clCfg 0xE76 1 13
/-- R540: a nonce of 64 bits, drawn anew. -/
def drawNonce (s : State) : State :=
  let n := (List.range 6).foldl (fun a i => a * 4096 + (Config.freeValue (s.free + i)).toNat) 0
  { s with free := s.free + 6, ports := { s.ports with ir := 0x20, nonce := n % 2 ^ 64 } }

end State

/-! ### Meanings -/

/-- EXTEST. -/
def execExtest (s : State) : Out := .next (s.scanPins 0x00)
/-- SAMPLE/PRELOAD: the boundary register samples the pins. -/
def execSamplePreload (pins : Nat) (s : State) : Out := .next (s.tap 0x01 pins)
/-- IDCODE. -/
def execIdcode (s : State) : Out := .next (s.tap 0x02 0x1C192A55)
/-- CLAMP. -/
def execClamp (s : State) : Out := .next (s.scanPins 0x03)
/-- HIGHZ. -/
def execHighz (s : State) : Out := .next (s.scanPins 0x04)
/-- BYPASS. -/
def execBypass (s : State) : Out := .next (s.tap 0x3F 0)
/-- DBGAUTH (R540): an unlock attempt, with the result of the signature's verification. -/
def execDbgauth (valid : Bool) (s : State) : Out :=
  .next (if s.rd DBG_STAT_FAILS = 3 then (s.tap 0x20 s.ports.dr).report clCfg 0xE75 1 13
    else
      let s := s.drawNonce
      if valid then s.put DBG_STAT_UNLOCK true else (s.bump DBG_STAT_FAILS).report clCfg 0xE75 1 13)

end Sys2Proof.Machine
end

