-- ==== Sys2Proof/Machine/PowerStage.lean ====
section
/-! DEFINITION. The channel power stage (spec/02_channel_stage.md): the effect of the writes to its registers, and the meanings of
its rows that are events. -/
namespace Sys2Proof.Machine
namespace State

/-! ### Register writes -/

/-- The writer is the owner of channel n (R75, R77): the engine named, and the core named in a split cluster. -/
def isOwner (s : State) (r : Requester) (n : Nat) : Bool :=
  match r with
  | .core q => s.rd (CH_OWNER_ENG n) == q.val / 2 && (!s.split (q.val / 32) || s.rd (CH_OWNER_CORE n) == q.val % 2)
  | _ => false

/-- What follows for the generator of channel n when its enable, its topology or its pairing may have changed (R48, R49, R73, R116, R122): `was`, it
was enabled. One that is enabled now takes a period reference; one that is no longer turns its gates off. -/
def settleGen (s : State) (n : Nat) (was : Bool) : State :=
  let s := if was && !s.powered n then
      (((s.gatesOff n).unfreeze n).put (CH_ESTAT_CEIL n) false).installDeferred n
    else if !was && s.powered n then s.enableGen n
    else s
  ((s.reclamp n).updLease n).updWatch
/-- The other channel of the die-local pair of channel n. -/
def partnerOf (n : Nat) : Nat := if n % 2 = 0 then n + 1 else n - 1
/-- R49: both channels of the pair of channel n settle; `old` is the state before the change. -/
def settlePair (s old : State) (n : Nat) : State :=
  (s.settleGen n (old.powered n)).settleGen (partnerOf n) (old.powered (partnerOf n))

/-- CHn_CFG (R48, R49, R55, R96, R116): TOPO with its adjustment of PER and PHASE under the budget, the pairing and bleed bits, the
enable with its checks. `v` is the word after the RWL check. -/
def writeCfg (s : State) (n v : Nat) : State :=
  let a := chAddr n
  let die := n / 48
  let t := (CH_CFG_TOPO n).of v
  let lock := s.on (CH_CFG_EN n) && t != s.topo n
  let s0 := if lock then s.flag a 1 2 else s
  let newT := !lock && t != s.topo n
  let per := s0.rd (CH_PER_PER n)
  let per' := if newT then max (perRange t).1 (min (perRange t).2 per) else per
  let ph := s0.rd (CH_PHASE_PHASE n)
  let ph' := if newT && decide (per' ≤ ph) then 0 else ph
  let s1 := ((s0.wr (CH_CFG_HBPAIR n) ((CH_CFG_HBPAIR n).of v)).wr (CH_CFG_LGEN n) ((CH_CFG_LGEN n).of v)).wr (CH_CFG_ADJEN n)
    ((CH_CFG_ADJEN n).of v)
  let s1 := if newT then ((s1.wr (CH_CFG_TOPO n) t).wr (CH_PER_PER n) per').wr (CH_PHASE_PHASE n) ph' else s1
  if ¬s.budgetOk s1 die then s0.budgetRefusal n
  else
    let s1 := if newT then (s1.wr (CH_DRES_RESIDUE n) 0).timingPending n else s1
    let s1 := if per' ≠ per ∨ ph' ≠ ph then s1.report clCfg (0xC00 + 16 * die + 7) 0 die [n] else s1
    let s1 := if (CH_CFG_HBPAIR n).of v = 1 ∧ n % 2 = 0 ∧ s1.topo (n + 1) ≠ 3 then s1.flag a 1 2 else s1
    let qg := s1.rd (CH_GDRV_QG n)
    let s2 := if (CH_CFG_EN n).of v = 0 then s1.wr (CH_CFG_EN n) 0
      else if 80 < qg ∨ (qg = 0 ∧ s1.topo n ≠ 0) then s1.report clCfg (16 * n + 8) 1 die
      else if ¬perOk (s1.topo n) (s1.rd (CH_PER_PER n)) then s1.timingRefusal n 0x000
      else (s1.wr (CH_CFG_EN n) 1).modProt n fun p => { p with resetOff := false }
    s2.settlePair s n

/-- The fields that a channel reset returns to their reset values (R94, R126, R133, R190): the RW fields and the counts, but those of
`clearFaults`. -/
def resetFields (n : Nat) : List Fld :=
  [CH_CFG_EN n, CH_CFG_ADJEN n, CH_LCNT_COUNT n, CH_GDRV_SRC n, CH_GDRV_SNK n, CH_SENSE_RANGE n,
   CH_BKG_KP n, CH_BKG_KI n, CH_LEASE_LHOLD n] ++
  [CH_PER_PER n, CH_DIM_RES n, CH_DIM_MPM n, CH_PHASE_PHASE n, CH_ALN_ALIGN n, CH_DRES_RESIDUE n, CH_SUPC_COUNT n, CH_STRC_COUNT n,
   CH_DITC_COUNT n, CH_BLKC_COUNT n, CH_ESTAT_LOCK n, CH_ESTAT_CEIL n, CH_ESTAT_PEND n] ++
  [CH_SDUTY_DUTY n, CH_SREF_REF n, CH_SCTL_TRIG n, CH_SCTL_SRC n, CH_SCTL_CLOOP n, CH_SHST_PEND n, CH_SHST_OVR n, CH_SHST_CLAMP n,
   CH_SHST_DIS n, CH_SHST_HOACT n, CH_SHST_ASRC n, CH_SHST_ACLOOP n, CH_SLEW_VALUE n, CH_HWIN_VALUE n] ++
  [CH_EVER_VERD n, CH_EVER_SEQ n, CH_EVER_CAUSE n, CH_OVER_VERD n, CH_OVER_SEQ n, CH_OVER_CAUSE n, CH_OFLUX_FLUX n, CH_OZ_VALUE n]

/-- R15, R94: a channel reset clears CHn_FLT, CHn_TCNT and CHn_BCNT; a bit that hardware has set in this cycle stands, and counts. -/
def clearFaults (s : State) (n : Nat) : State :=
  let now := fun (f : Fld) => (s.marked f != 0 && s.on f).toNat
  let trips := now (CH_FLT_DSAT n) + now (CH_FLT_RSHORT n) + now (CH_FLT_OC n)
  let uv := now (CH_FLT_BSTUV n)
  (((CH_FLT n).fields.foldl (fun t f => t.softClear f 1) s).wr (CH_TCNT_COUNT n) trips).wr (CH_BCNT_COUNT n) uv
/-- R94, R133, R190, R420: a channel reset. The channel stays off until EN is set; the applied value follows its controller directly, the
proof restarts, the lease is disarmed, a freeze ends, and rung 2 of the recovery ladder is counted. Rank-1 holds stand, with
CHn_FLT.OT (R54, R88). -/
def channelReset (s : State) (n : Nat) : State :=
  let old := s
  let s := (((s.clearFaults n).clear (resetFields n)).gatesOff n).unfreeze n
  let s := s.modGen n fun g =>
    { g with perF := 16000, phaseF := 0, resF := 4, onNext := 0, onCur := 0, riseDelay := 0, alignErr := 0, corrNext := 0,
             integ := 0, loopDuty := 0, prevRef := 0, prevD := 0, limThis := false, limLast := false, limCount := 0, limSkip := false,
             inrush := false, rclr := false, capPend := false, changing := false, capt := false, onRaw := 0,
             chipRestart := g.chipRestart || g.perF != 16000 }
  let s := s.modProt n fun p => { p with deferred := none, hoY := 0, clampOn := false, appDuty := 0, appRef := 0, resetOff := true }
  let s := if (s.prot n).otHold then s.put (CH_FLT_OT n) true else s
  let s := (s.setAppl n (s.ctrlValue n)).settlePair old n
  let s := s.restartProof n (s.expectation n).1
  (s.bump (FC_RUNG_COUNT 1)).report clFc 0x022 0 13

/-- CHn_CMD (R71, R94). -/
def writeCmd (s : State) (n v : Nat) : State :=
  let s := if (CH_CMD_ADJRUN n).of v = 0 then s
    else if s.on (CH_ADJR_BUSY n) ∨ ¬(s.tripped n ∨ s.rd (CH_APPL_VALUE n) = 0) then s.flag (chAddr n + 1) 0 2
    else s.startAdj n
  if (CH_CMD_CRST n).of v = 0 then s else s.channelReset n

/-- CHn_FLT (R15, R65, R88): writing 1 clears a bit; OT is set again while the condition persists. -/
def writeFlt (s : State) (n v : Nat) : State :=
  let s := (CH_FLT n).fields.foldl (fun t f => t.softClear f (f.of v)) s
  if (s.prot n).otHold then s.raiseFlag (CH_FLT_OT n) else s

/-- CHn_GDRV (R55, R90): the strengths; QG under the gate-power budget. -/
def writeGdrv (s : State) (n v : Nat) : State :=
  let s := (s.wr (CH_GDRV_SRC n) ((CH_GDRV_SRC n).of v)).wr (CH_GDRV_SNK n) ((CH_GDRV_SNK n).of v)
  if (CH_GDRV_QG n).of v = s.rd (CH_GDRV_QG n) then s else s.budgeted n (s.wr (CH_GDRV_QG n) ((CH_GDRV_QG n).of v))

/-- CHn_SENSE (R59, R60): a change starts a range hold, a write during a hold restarts it. -/
def writeSense (s : State) (n v : Nat) : State :=
  let x := (CH_SENSE_RANGE n).of v
  if s.on (CH_STAT_RHOLD n) then (s.wr (CH_SENSE_RANGE n) x).modProt n fun p => { p with holdAt := s.time }
  else if x = s.rd (CH_SENSE_RANGE n) then s
  else
    let h := s.genValue n
    ((s.wr (CH_SENSE_RANGE n) x).modProt n fun p => { p with rholdVal := h, holdAt := s.time }).put (CH_STAT_RHOLD n) true


/-- R76: a refresh of this very cycle. -/
def kickedNow (s : State) (n : Nat) : Bool := (s.prot n).kickAt == some s.time && (s.prot n).expAt != some s.time
/-- R76: the lease of channel n expires: the fault bit, the event at S3, the latch with cause LEASE. A refresh of this very cycle is
discarded. -/
def expireLease (s : State) (n : Nat) : State :=
  let back := s.kickedNow n
  let s := (s.wr (CH_LREM_TICKS n) 0).modProt n fun p => { p with expAt := some s.time, key := if back then !p.key else p.key }
  let s := (s.raiseFlag (CH_FLT_LEASE n)).report clChan (16 * n + 5) 3 (n / 48)
  s.setLatch n 2 (some s.lastEv)

/-- CHn_LEASE (R74, R78). -/
def writeLease (s : State) (n v : Nat) : State :=
  let len := (CH_LEASE_LEN n).of v
  let len' := max 5 (min 100 len)
  let s := s.wr (CH_LEASE_LEN n) len'
  let s := if len' = len then s else s.flag (chAddr n + 0x20) 0 2
  if (CH_LEASE_LHOLD n).of v = 1 then
    if s.dev = .maint then s.wr (CH_LEASE_LHOLD n) 1 else s.flag (chAddr n + 0x20) 1 2
  else
    let was := s.on (CH_LEASE_LHOLD n)
    let s := s.wr (CH_LEASE_LHOLD n) 0
    if was ∧ s.on (CH_STAT_LARM n) ∧ s.rd (CH_LREM_TICKS n) = 0 then s.expireLease n else s

/-- R75, R77: a write to CHn_KICK or CHn_OWNER that is not accepted. -/
def keyFault (s : State) (n : Nat) : State := (s.raiseFlag (CH_FLT_KEY n)).report clChan (16 * n + 6) 1 (n / 48)
/-- CHn_KICK (R75, R76): a refresh in the cycle of the expiry is discarded; the first of a cycle shows whether the timer had run out. -/
def writeKick (s : State) (r : Requester) (n key : Nat) : State :=
  if ¬s.on (CH_STAT_LARM n) then s
  else if s.isOwner r n ∧ (s.dev = .maint ∨ s.mayOwn n (s.rd (CH_OWNER_ENG n))) ∧ key = (if (s.prot n).key then 0xA5A else 0x5A5) then
    if (s.prot n).expAt = some s.time then s
    else
      (s.wr (CH_LREM_TICKS n) (16 * s.rd (CH_LEASE_LEN n))).modProt n fun p =>
        { p with key := !p.key, kickAt := some s.time, kickRem := if p.kickAt = some s.time then p.kickRem else s.rd (CH_LREM_TICKS n) }
  else s.keyFault n

/-- R77, R339, R340: whether a write to CHn_OWNER naming engine e is accepted. -/
def ownerOk (s : State) (r : Requester) (n e : Nat) : Bool :=
  (s.isOwner r n || !s.on (CH_OWNER_VALID n) || s.rd (PWR_ENGST_STATE (s.rd (CH_OWNER_ENG n))) == 4) && s.mayOwn n e

/-- CHn_OWNER (R77, R125, R188): an accepted write reloads the timer, resets the expected key and ends a freeze; a new owner has not yet
refreshed the lease. -/
def writeOwner (s : State) (r : Requester) (n v : Nat) : State :=
  let e := (CH_OWNER_ENG n).of v
  let old := (s.rd (CH_OWNER_ENG n), s.rd (CH_OWNER_CORE n))
  if s.ownerOk r n e then
    let s := ((s.softWrite (CH_OWNER_ENG n) e).softWrite (CH_OWNER_CORE n) ((CH_OWNER_CORE n).of v)).softWrite (CH_OWNER_VALID n)
      ((CH_OWNER_VALID n).of v)
    let new := s.rd (CH_OWNER_ENG n) != old.1 || s.rd (CH_OWNER_CORE n) != old.2
    let s := (s.wr (CH_LREM_TICKS n) (16 * s.rd (CH_LEASE_LEN n))).modProt n fun p =>
      { p with key := false, kickAt := if new then none else p.kickAt }
    (s.unfreeze n).updLease n
  else s.keyFault n


/-! ### Edge-timing register writes (spec/03_edge_timing.md) -/

/-- CHn_PER (R90, R96, R99, R100, R116). -/
def writePer (s : State) (n v : Nat) : State :=
  let per := (CH_PER_PER n).of v
  if perOk (s.topo n) per ∧ (s.gen n).phaseF < per ∧ s.rd (CH_PHASE_PHASE n) < per ∧
      quarterOk per (s.rd (CH_MINH_VALUE n)) (s.rd (CH_DTF_VALUE n)) (s.rd (CH_MINL_VALUE n)) (s.rd (CH_DTR_VALUE n)) then
    let t := s.wr (CH_PER_PER n) per
    if s.budgetOk t (n / 48) then t.timingPending n else s.budgetRefusal n
  else s.timingRefusal n 0x100

/-- CHn_DIM (R90, R96, R99, R106): RES above 8 is refused; MPM 0b11 is stored, treated as DITHER and flagged. -/
def writeDim (s : State) (n v : Nat) : State :=
  let res := (CH_DIM_RES n).of v
  let mpm := (CH_DIM_MPM n).of v
  let s := s.wr (CH_DIM_MPM n) mpm
  let s := if mpm = 3 then s.flag (chAddr n + 0x102) 0 2 else s
  if 8 < res then s.timingRefusal n 0x102
  else if res = s.rd (CH_DIM_RES n) then s
  else
    let t := s.wr (CH_DIM_RES n) res
    if s.budgetOk t (n / 48) then t.timingPending n else s.budgetRefusal n

/-- CHn_PHASE (R116). -/
def writePhase (s : State) (n v : Nat) : State :=
  if (CH_PHASE_PHASE n).of v < s.rd (CH_PER_PER n) then (s.wr (CH_PHASE_PHASE n) ((CH_PHASE_PHASE n).of v)).timingPending n
  else s.timingRefusal n 0x108

/-- CHn_DTR, CHn_DTF, CHn_MINH, CHn_MINL (R100). -/
def writeEdge (s : State) (n : Nat) (f : Fld) (v : Nat) : State :=
  let t := s.wr f (f.of v)
  if quarterOk (t.rd (CH_PER_PER n)) (t.rd (CH_MINH_VALUE n)) (t.rd (CH_DTF_VALUE n)) (t.rd (CH_MINL_VALUE n)) (t.rd (CH_DTR_VALUE n))
  then t else s.timingRefusal n (f.addr - chAddr n)

/-- CHn_ALN (R121, R122): ALIGN = 1 only when the frame length is a multiple of PER. -/
def writeAln (s : State) (n v : Nat) : State :=
  if (CH_ALN_ALIGN n).of v = 1 ∧ s.rd PWR_FRAME_VALUE * 4000 % s.rd (CH_PER_PER n) ≠ 0 then s.timingRefusal n 0x10A
  else (s.wr (CH_ALN_ALIGN n) ((CH_ALN_ALIGN n).of v)).updWatch

/-- CHn_CODE (R115): a rise of EN or a change of CHIPR restarts chip 0. -/
def writeCode (s : State) (n v : Nat) : State :=
  let en := (CH_CODE_EN n).of v
  let r := (CH_CODE_CHIPR n).of v
  let restart := (en == 1 && !s.on (CH_CODE_EN n)) || r != s.rd (CH_CODE_CHIPR n)
  let t := ((s.wr (CH_CODE_EN n) en).wr (CH_CODE_CHIPR n) r).wr (CH_CODE_DEPTH n) ((CH_CODE_DEPTH n).of v)
  let t := if restart then t.modGen n fun g => { g with chipRestart := true } else t
  let t := if r = 3 then t.flag (chAddr n + 0x10C) 0 2 else t
  if s.budgetOk t (n / 48) then t else s.budgetRefusal n

/-- CHn_CIDX (R111, R115): an index above 1024 is refused. -/
def writeCidx (s : State) (n v : Nat) : State :=
  if 1024 < (CH_CIDX_IDX n).of v then s.flag (chAddr n + 0x10D) 1 2
  else (s.wr (CH_CIDX_IDX n) ((CH_CIDX_IDX n).of v)).modGen n fun g => { g with chipRestart := true }

/-- CHn_ECMD (R108, R110). -/
def writeEcmd (s : State) (n v : Nat) : State :=
  let s := if (CH_ECMD_CCLR n).of v = 1 then s.clear [CH_SUPC_COUNT n, CH_STRC_COUNT n, CH_DITC_COUNT n, CH_BLKC_COUNT n] else s
  if (CH_ECMD_RCLR n).of v = 1 then s.modGen n fun g => { g with rclr := true } else s

end State

/-! ### Meanings of the events -/

/-- VDRV_FAIL (R53, R151): every gate of the die turns off, its sequencers stop; a die with an enabled channel records the event. -/
def execVdrvFail (d : Fin 4) (s : State) : Out :=
  let s := (s.putBit PWR_SUPST_VDRVOK d false).modDie d fun x => { x with vdrvHold := true }
  let s := (s.each (dieChannels d) State.gatesOff).stopDie d
  .next (if (dieChannels d).any fun n => s.on (CH_CFG_EN n) then s.report clPwr (0xC00 + 16 * d) 3 d else s)

/-- VDRV_GOOD (R52): VDRV is declared good; the active clamps hold every gate low. -/
def execVdrvGood (d : Fin 4) (s : State) : Out := .next (s.putBit PWR_SUPST_VDRVOK d true)

/-- VDRV_RECOVER (R53): after 1 ms good the channels of the die resume their highest active source. -/
def execVdrvRecover (d : Fin 4) (s : State) : Out :=
  .next (if s.bit PWR_SUPST_VDRVOK d then s.modDie d fun x => { x with vdrvHold := false } else s)

/-- BOOTSTRAP_UNDER_VOLTAGE (R54, R104): HG off; LG waits for the falling dead time. -/
def execBootstrapUnderVoltage (n : Fin 192) (s : State) : Out :=
  let s := (s.modProt n fun p => { p with bstHold := true }).modGen n fun g =>
    { g with hg := false, phase := if g.hg then .fall else g.phase }
  let s := ((s.raiseFlag (CH_FLT_BSTUV n)).put (CH_STAT_BSTOK n) false).bump (CH_BCNT_COUNT n)
  .next (s.report clChan (16 * n + 4) 1 (n / 48))

/-- BOOTSTRAP_RECOVER (R54). -/
def execBootstrapRecover (n : Fin 192) (s : State) : Out :=
  .next ((s.modProt n fun p => { p with bstHold := false }).put (CH_STAT_BSTOK n) true)

/-- RANGE_HOLD_END (R59, R60, R145, R147): 8 µs after the latest write that started or restarted the hold; what the track, the view or the
scale became meanwhile is applied. A channel that has no period boundary
takes what waits at once. -/
def execRangeHoldEnd (n : Fin 192) (s : State) : Out :=
  .next (if s.on (CH_STAT_RHOLD n) ∧ (s.prot n).holdAt + 128 ≤ s.time then
      let s := s.put (CH_STAT_RHOLD n) false
      if s.powered n then s.reclamp n else (s.reclamp n).installDeferred n
    else s)

/-- CYCLE_BY_CYCLE_LIMIT (R63, R79, R104): HG is on and the shunt voltage exceeds the limit in force: HG off for the rest of the
period, LG after the falling dead time. -/
def execCycleByCycleLimit (n : Fin 192) (mv2 : Nat) (s : State) : Out :=
  .next (if (s.gen n).hg ∧ s.limit n < mv2 then
      (s.bump (CH_LCNT_COUNT n)).modGen n fun g =>
        { g with hg := false, limThis := true, frzLim := s.on (CH_STAT_FROZEN n), phase := .fall }
    else s)

/-- OVER_CURRENT (R63, R68): limit actions in N consecutive periods, outside the inrush window. -/
def execOverCurrent (n : Fin 192) (s : State) : Out :=
  let g := s.gen n
  let c := g.limCount + (g.limThis && !g.limSkip).toNat
  .next (if s.rd (CH_OCN_N n) ≠ 0 ∧ s.rd (CH_OCN_N n) ≤ c ∧ ¬g.inrush ∧ ¬s.tripped n then s.trip n (CH_FLT_OC n) 2 else s)

/-- DESATURATION (R63, R64, R65, R69, R71): VDS in millivolts of the FET that is on, above the threshold after the blanking time
(`since`: nanoseconds since the gate turned on). -/
def execDesaturation (n : Fin 192) (vds since : Nat) (s : State) : Out :=
  let g := s.gen n
  .next (if (g.hg ∨ g.lg) ∧ 100 * (s.rd (CH_DSAT_BLANK n) + 1) ≤ since ∧ 500 + 250 * s.rd (CH_DSAT_VTH n) < vds ∧ ¬s.on (CH_FLT_DSAT n)
    then s.shortTrip n (CH_FLT_DSAT n) 0 else s)

/-- RAMP_SHORT (R63, R64, R65, R68, R69, R71): the shunt voltage in half millivolts above twice the limit in force, or above half of
it while rising (2 mV/µs units) faster than DIDT. -/
def execRampShort (n : Fin 192) (mv2 rate : Nat) (s : State) : Out :=
  let l := s.limit n
  let didt := s.rd (CH_RSHORT_DIDT n)
  .next (if (s.gen n).hg ∧ (2 * l < mv2 ∨ (l < 2 * mv2 ∧ didt ≠ 0 ∧ didt < rate)) ∧ ¬s.on (CH_FLT_RSHORT n)
    then s.shortTrip n (CH_FLT_RSHORT n) 1 else s)

/-- R71: short_nm, from the lock-in amplitudes and means in millivolts. -/
def shortNm (an am dn dm : Nat) : Bool :=
  (decide (50 ≤ an) && decide (an ≤ 2 * am)) || (decide (3000 < dm) && decide ((dn - dm) + (dm - dn) < 250))

/-- ADJACENCY_TEST_END (R72). -/
def execAdjacencyTestEnd (n : Fin 192) (an a0 a1 dn d0 d1 : Nat) (s : State) : Out :=
  if ¬s.on (CH_ADJR_BUSY n) then .next s
  else
    let m0 := if shortNm an a0 dn d0 then s.nb0 n else none
    let m1 := if shortNm an a1 dn d1 then s.nb1 n else none
    let s := s.put (CH_ADJR_BUSY n) false
    let s := (s.wr (CH_ADJR_RES n) (if m0.isSome then 2 else if m1.isSome then 3 else 1)).put (CH_ADJR_BOTH n)
      (m0.isSome && m1.isSome)
    let ms := m0.toList ++ m1.toList
    if ms = [] then .next s
    else
      let s := (s.raiseFlag (CH_FLT_ADJ n)).each ms fun t m => t.raiseFlag (CH_FLT_ADJ m)
      let s := s.report clChan (16 * n + 7) 3 (n / 48)
      .next (s.setLatches (n.val :: ms) 3 (some s.lastEv))

/-- LEASE_EXPIRY (R76, R78): the armed lease timer has reached zero, also where a refresh of this very cycle has reloaded it; LHOLD
suppresses the expiry, and the timer stands. -/
def execLeaseExpiry (n : Fin 192) (s : State) : Out :=
  let out := s.rd (CH_LREM_TICKS n) = 0 ∨ (s.kickedNow n ∧ (s.prot n).kickRem = 0)
  .next (if s.on (CH_STAT_LARM n) ∧ out ∧ ¬s.on (CH_LEASE_LHOLD n) then s.expireLease n else s)

/-- FLASH_PHASE_CHANGE (R67, R82, R108, R162, R201), at the device times at which the phase changes: every channel in a FLASH safe
state switches phase. -/
def execFlashPhaseChange (s : State) : Out :=
  .next (if ¬s.dueOn 10666667 0 ∧ ¬s.dueOn 10666667 5333333 then s else s.each channels fun t n =>
    if t.latched n ∧ t.safeState n = 2 then
      let v := t.derate n (t.genValue n)
      let t := if ¬t.flashOn then t.restGates n
        else
          let t := (t.wr (CH_DRES_RESIDUE n) 0).modGen n fun g => { g with prevD := v }
          if v = 0 then t else t.openInrush n
      (t.updExp n).disrupt n
    else t)

/-- LBUS_FAIL (R86, R151). -/
def execLbusFail (d : Fin 4) (s : State) : Out :=
  let s := (s.putBit PWR_SUPST_LBUSOK d false).modDie d fun x => { x with lbusHold := true }
  let s := (s.each (dieChannels d) State.gatesOff).stopDie d
  .next (s.report clPwr (0xC00 + 16 * d + 1) 3 d)

/-- LBUS_RECOVER (R86). -/
def execLbusRecover (d : Fin 4) (s : State) : Out :=
  .next ((s.putBit PWR_SUPST_LBUSOK d true).modDie d fun x => { x with lbusHold := false })

/-- RC_WATCHDOG_EXPIRY (R31): all 48 latches of the die set, and the action is recorded at S3. -/
def execRcWatchdogExpiry (d : Fin 4) (s : State) : Out :=
  let s := s.report clClk (0x004 + d) 3 13
  .next (s.setLatches (dieChannels d) 4 (some s.lastEv))

/-- DIE_LINK_FAILURE (R21): the event at S3, and the Safety Net drives the die's safe-state lines. -/
def execDieLinkFailure (d : Fin 4) (s : State) : Out :=
  let s := (s.modDie d fun x => { x with linkOk := false }).report clLink (0xC50 + d) 3 13
  .next (s.setLatches (dieChannels d) 1 (some s.lastEv))

/-- DIE_LINK_REALIGNED (R21, R188). -/
def execDieLinkRealigned (d : Fin 4) (s : State) : Out := .next (s.modDie d fun x => { x with linkOk := true })

end Sys2Proof.Machine
end

