-- ==== Sys2Proof/Machine/Bus.lean ====
section
/-! DEFINITION. Register writes and reads as a requester makes them (R12 to R14, R38 to R43, R310, R338, R530, R541): who may reach which
register, what a refused access does, and the effect of a write by the register it reaches. -/
namespace Sys2Proof.Machine
namespace State

/-! ### Permission (R38, R338, R530, R541) -/

/-- R42: the number of a device-register block. -/
def blockOf (a : Nat) : Nat := (a - 0xD00000) / 0x10000
/-- R43: an address of a Safety Net channel window. -/
def cwWindow (a : Nat) : Bool := region a == .chan && decide (0x30000 ≤ (a - 0xC00000) % 0x40000)
/-- R530: the registers that the host may always write. -/
def hostAlways : RegName → Bool
  | .HIF_HMB | .HIF_HDB | .HIF_DDB | .HIF_IEN | .HIF_IPEND | .HIF_STAT | .HIF_RST | .HIF_PCYC => true
  | _ => false
/-- R530: the permission map; the host never writes SN_ or SEAL_, and only the debug port reaches DBG_. -/
def hostMay (s : State) (reg : Reg) : Bool :=
  let b := blockOf reg.addr
  region reg.addr == .dev && b != 10 &&
    (hostAlways reg.name || (b == 0 && s.on HIF_PERM_PERM0) || (decide (2 ≤ b) && decide (b ≤ 9) && s.bit HIF_PERM_PERM2 (b - 2)))
/-- R314: nothing leaves a core that does not execute. -/
def silent (s : State) : Requester → Bool
  | .core q => !s.executes q
  | _ => false
/-- R38, R541: a requester may read the registers of a block. -/
def mayRead (s : State) (r : Requester) (reg : Reg) : Bool :=
  let dbg := region reg.addr == .dev && blockOf reg.addr == 10
  match r with
  | .core q => s.executes q && s.coreSv q && !dbg
  | .dma _ _ => !dbg
  | .host => !dbg
  | .debug => s.on DBG_STAT_UNLOCK
/-- R38, R43, R191, R295, R338: a requester may write a register; of a Safety Net channel window after seal R14 keeps what it writes out. -/
def mayWrite (s : State) (r : Requester) (reg : Reg) : Bool :=
  let a := reg.addr
  s.mayRead r reg && (!cwWindow a || s.dev == .maint || s.sealed) &&
    match r with
    | .core q =>
      !(s.split (q / 32) && (cwWindow a || (region a == .dev && (blockOf a == 1 || blockOf a == 11)))) && reg.name != .HIF_FLCMD
    | .dma _ _ => reg.name != .HIF_FLCMD
    | .host => s.hostMay reg
    | .debug => true

/-- R39, R294, R297, R302: an access that is not permitted, recorded for its requester; an active descriptor ends with ERR = 1, a MOVE having
moved no word. -/
def refuse (s : State) (r : Requester) (a : Nat) : State :=
  match r with
  | .core q => s.report clMem (0x180 + q / 2) 1 (4 + q / 32)
  | .dma k c =>
    let s := s.report clMem (dmaSrc k c) 1 (4 + k)
    if s.dmaActive k c then
      let s := if s.rd (DCFG_KIND k c) = 0 then s.hwWrite (DLEN_LEN k c) 0 else s
      ((s.wr (DSTAT_STATE k c) 3).wr (DSTAT_ERR k c) 1).dmaIrq k c
    else s
  | .host => ((s.raiseFlag HIF_STAT_ERR).wr HIF_ERRADR_ADDR a).report clMem 0x130 1 13
  | .debug => s.report clMem 0x131 1 13
/-- R75, R77, R169, R188, R323, R329, R369, R371, R422, R520, R521: registers whose own rule records a write from any other requester. -/
def refuseOwn (s : State) (reg : Reg) : State :=
  match reg.name with
  | .SN_OUTREQ | .SN_FNRST | .SN_LCLR | .SEAL_CMD => s.report clCfg 0xE21 1 12
  | .FC_FCLR | .FC_ACK | .FC_ERRN | .FC_SOK | .FC_RETRY => s.fcRefused
  | .CH_KICK => if s.on (CH_STAT_LARM reg.i) then s.keyFault reg.i else s
  | .CH_OWNER => s.keyFault reg.i
  | .CH_EVER | .CH_OVER => s.postRefusal reg.i reg
  | .SN_TWRA => s.postRefused reg.i false
  | .SN_TWRB => s.postRefused reg.i true
  | .PWR_CKCMT => s.commitRefused reg.i
  | .HIF_RST | .HIF_PCYC => s.resetRefused
  | _ => s
/-- The own record of the register at an address, where it has one. -/
def ownRefusal (s : State) (a : Nat) : State :=
  match regAt a with
  | some reg => s.refuseOwn reg
  | none => s
/-- R39: a core takes an access exception as well. -/
def refuseCommand (s : State) (r : Requester) (a : Nat) : State :=
  let s := s.refuse r a
  match r with
  | .core q => if s.executes q then s.fault q cAccess 1 else s
  | _ => s

/-! ### The effect of a whole write -/

/-- R310: a write for the odd entry of a lockstep engine is ignored and recorded. -/
def forCore (s : State) (a q : Nat) (f : State → State) : State := if s.noCore q then s.flag a 0 2 else f s

/-- What a register of the device does on a write of its whole value; `a`: the word address that the write reached last. -/
def writeDevReg (s : State) (r : Requester) (reg : Reg) (a v : Nat) : State :=
  let i := reg.i
  let j := reg.j
  match reg.name with
  | .TRP_CTL => s.writeTrpCtl v
  | .TRP_SLOT => s.writeTrpSlot i j v
  | .TRP_FPOST => s.postFinding r v
  | .DCMD => s.writeDcmd i j v []
  | .DCFG | .DSRC | .DDST | .DLEN | .DLIM => s.writeDma i j reg.fields v
  | .DSTAT | .DROP | .DWIDX => if s.dmaActive i j then s.dmaRefused i j else s.storeBounded reg a v
  | .DRIDX => s.writeRidx i j v
  | .PWR_IEN | .PWR_IPEND => s.forCore a i fun t => t.storeFields reg v
  | .PWR_ISET => s.forCore a i fun t => if v.testBit 8 then t.raise i 8 else t
  | .PWR_ENGST => if (PWR_ENGST_DONE i).of v = 1 then s.takeoverDone r i else s
  | .PWR_CKCMT => s.commitCk r i v
  | .SN_TWRA => s.postTwin r i false v
  | .SN_TWRB => s.postTwin r i true v
  | .SN_OUTREQ => s.writeOutreq r v
  | .SN_FNRST => s.writeFnrst r v
  | .SN_SIFLT => s.writeSiflt v
  | .SN_OUTCFG | .SN_FNCFG => (s.storeBounded reg a v).updOutputs
  | .SEAL_CMD => s.writeSealCmd v
  | .FC_FCLR => s.writeFclr r v
  | .FC_ACK => s.writeAck r v
  | .FC_ERRN => s.writeErrn r v
  | .FC_SOK => s.writeSok r v
  | .FC_RETRY => s.writeRetry r
  | .FC_LRIDX => s.writeLridx v
  | .MIR_CTL => s.writeMirCtl v
  | .KSF_CTL => s.writeKsfCtl v
  | .KSF_CAN => s.writeCan i v
  | .KSF_TXCMD => s.writeTxcmd i v
  | .KSF_OPEN => s.writeKsfOpen v
  | .KSF_CLOSE => s.writeKsfClose v
  | .KSF_TSSEND => s.writeTssend r v
  | .PWR_CTL => s.writePwrCtl v
  | .PWR_CLK => s.writeClk i v
  | .PWR_CCMD => s.writeCcmd r i v
  | .TMP_CFG | .TMP_PAR => (s.storeBounded reg a v).renewLater i
  | .REC_SUBCMD => s.writeSubcmd r v
  | .HIF_RST => s.writeRst r v
  | .HIF_PCYC => s.writePcyc r v
  | .HIF_BOOTCMD => s.writeBootcmd v
  | .HIF_FLCMD => s.writeFlcmd v
  | .HIF_KLCTL => s.writeKlctl v
  | .HIF_HDB => s.writeHdb i v
  | .HIF_DDB => s.writeDdb i v
  | .DBG_CMD => s.writeDbgCmd v
  | .DBG_RDATA => s.dbgWrite v
  | .DBG_OTPCMD => s.writeOtpcmd v
  | _ => s.storeBounded reg a v
/-- What a register does on a write of its whole value; `a`: the word address that the write reached last. -/
def writeReg (s : State) (r : Requester) (reg : Reg) (a v : Nat) : State :=
  let i := reg.i
  let j := reg.j
  match reg.name with
  | .CH_CFG => s.writeCfg i v
  | .CH_CMD => s.writeCmd i v
  | .CH_FLT => s.writeFlt i v
  | .CH_GDRV => s.writeGdrv i v
  | .CH_SENSE => s.writeSense i v
  | .CH_LEASE => s.writeLease i v
  | .CH_KICK => s.writeKick r i v
  | .CH_OWNER => s.writeOwner r i v
  | .CH_PER => s.writePer i v
  | .CH_DIM => s.writeDim i v
  | .CH_DTR => s.writeEdge i (CH_DTR_VALUE i) v
  | .CH_DTF => s.writeEdge i (CH_DTF_VALUE i) v
  | .CH_MINH => s.writeEdge i (CH_MINH_VALUE i) v
  | .CH_MINL => s.writeEdge i (CH_MINL_VALUE i) v
  | .CH_PHASE => s.writePhase i v
  | .CH_ALN => s.writeAln i v
  | .CH_CODE => s.writeCode i v
  | .CH_CIDX => s.writeCidx i v
  | .CH_ECMD => s.writeEcmd i v
  | .PWR_SYNCCFG | .PWR_FRAME | .PWR_SYNCCOMP => s.writeSync reg.fields v
  | .CH_SDUTY => s.writeSduty i v
  | .CH_SREF => s.writeSref i v
  | .CH_SCTL => s.writeSctl i v
  | .CH_SCMD => s.writeScmd i v
  | .CH_AGRP => s.writeAgrp i v
  | .CH_CARB => s.writeCarb i v
  | .CH_SLOT => s.writeSlot i j v
  | .CAR_CTL => s.writeCarCtl i j v
  | .CAR_CFG => s.writeCarCfg i j v
  | .CAR_MEM => s.writeCarMem i j reg.k v
  | .SN_ASP => s.writeAsp (s.storeBounded reg a v) i
  | .CH_CARS | .CH_STRIM => (s.storeBounded reg a v).reclamp i
  | .SN_AGREQ => s.writeAgreq i v
  | .SN_AAPPLY => s.writeAapply v
  | .SN_SYNCREQ => s.writeSyncreq v
  | .SN_TSCMD => s.writeTscmd v
  | .CH_EVER => s.postEver r (s.svMode r) i v
  | .CH_OVER => s.postOver r (s.svMode r) i v
  | .SN_LCLR => s.writeLclr r (s.svMode r) v
  | .CW_CFG => (s.storeBounded reg a v).unassess i
  | .CW_CMIN => (s.storeBounded reg a v).updExp i
  | .CH_PCFG => (s.storeBounded reg a v).updOpt
  | .SEAL_SS => (s.budgeted i (s.storeBounded reg a v)).updExp i
  | .SPT_CBIDX => s.writeCbidx v
  | .SPT_INCFG => s.writeIncfg i v
  | .SPT_XWIN => s.writeXwin v
  | _ => s.writeDevReg r reg a v


/-- R14: the whole write is accepted: locked fields keep their values, then the register acts. -/
def acceptWrite (s : State) (r : Requester) (reg : Reg) (a v : Nat) : State :=
  let p := s.lockFields reg a v
  p.1.writeReg r reg a p.2

/-- The present value of a register, as an unstaged lower word keeps it (R12). -/
def present (s : State) (reg : Reg) : Nat := if reg.name = .DBG_RDATA then s.dbgRead else s.held reg

/-- R12, R13: a whole write that carries the words given: a 1 in a reserved field of one is flagged, then the register takes the value. -/
def writeWhole (s : State) (r : Requester) (reg : Reg) (a : Nat) (ws : List (Nat × Nat)) : State :=
  let v := wholeValue reg (s.present reg) ws
  let s := match ws.find? fun x => reg.reservedSet x.1 x.2 with
    | some x => s.flag (reg.addr + x.1) 0 0
    | none => s
  (s.unstage r reg).acceptWrite r reg a v

/-- R12: a permitted write of word `a` of a register: a lower word is staged, the highest word makes the whole write. -/
def writeWord (s : State) (r : Requester) (reg : Reg) (a w : Nat) : State :=
  if a - reg.addr + 1 < reg.words then s.setStaged r a (some w) else s.writeWhole r reg a (s.wholeWords r reg w)

/-- R21, R34, R44: no access reaches the word: the fabric is off, or the link to its channel die has failed. -/
def unreached (s : State) (a : Nat) : Bool := s.fabricOff || (region a == .chan && !(s.die ((a - 0xC00000) / 0x40000)).linkOk)
/-- A write of a register word: what it leaves, and whether it was permitted. -/
def busWrite (s : State) (r : Requester) (a w : Nat) : State × Bool :=
  if s.unreached a ∨ s.silent r then (s, true)
  else match regAt a with
  | none => (s.refuse r a, false)
  | some reg => if s.mayWrite r reg then (s.writeWord r reg a w, true) else ((s.refuse r a).refuseOwn reg, false)

/-- A whole write of register `reg`, as a row of the table that names the register makes it. -/
def command (s : State) (r : Requester) (reg : Reg) (v : Nat) : State :=
  let a := reg.addr + reg.words - 1
  if s.unreached a ∨ s.silent r then s
  else if s.mayWrite r reg then
    s.writeWhole r reg a ((List.range reg.words).map fun i => (i, bits v (12 * i) 12))
  else (s.refuseCommand r a).refuseOwn reg
/-- A whole write that gives field `f` the value `x` and leaves the others as they are. -/
def commandField (s : State) (r : Requester) (reg : Reg) (f : Fld) (x : Nat) : State := s.command r reg (f.into x (s.held reg))

/-! ### Reads -/

/-- What a register reads, the selected debug register among them. -/
def regValue (s : State) (reg : Reg) : Nat := if reg.name = .DBG_RDATA then s.dbgRead else s.readReg reg

/-- A read of a register word: what it leaves, the value, and whether it was permitted; one that reaches no register returns a free
value. -/
def busRead (s : State) (r : Requester) (a : Nat) : State × Nat × Bool :=
  if s.silent r then (s, 0, true)
  else if s.unreached a then (s.fresh, (Config.freeValue s.free).toNat, true)
  else match regAt a with
  | none => (s.refuse r a, 0, false)
  | some reg =>
    if s.mayRead r reg then
      let p := s.readWord r reg a (s.regValue reg)
      (p.1, p.2, true)
    else (s.refuse r a, 0, false)

end State
end Sys2Proof.Machine
end

