-- ==== Sys2Proof/Machine/Ports.lean ====
section
/-! DEFINITION. The host port and the debug port: the transactions of the host (R529 to R532) and the debug accesses (R541), word by word
over the address map (R38, R39). -/
namespace Sys2Proof.Machine
namespace State

/-! ### One word through a port -/

/-- R34: a memory word that the port's access does not reach: the memory is off, or its cluster is off or in retention. -/
def portOff (s : State) (a : Nat) : Bool :=
  s.memOff a || ((region a == .engine || region a == .cluster) && !s.cluRuns (s.debugCore / 32))
/-- R38, R541: the memory word that a port reaches at address `a`, as a key; none where the port may not read memory there. The debug port
reaches the local memory of the engine selected, while it is halted, and the cluster memory of that engine; of a lockstep engine the
copy of the core that DBG_ENGSEL names. -/
def portKey (s : State) (r : Requester) (a : Nat) : Option Nat :=
  let dbg := r == .debug
  let q := s.debugCore
  match region a with
  | .engine => if dbg ∧ (s.core q).halted then some (localKey (2 * s.rd DBG_ENGSEL_ENG + s.rd DBG_ENGSEL_CORE) a) else none
  | .cluster => if dbg then some (clusterKey (q / 32) a) else none
  | .global | .flash | .mram | .mirror => some a
  | _ => none
/-- R38, R40: a port may write memory at address `a`. -/
def portMayWrite (r : Requester) (a : Nat) : Bool :=
  match region a with
  | .engine | .cluster => r == .debug
  | .global => true
  | _ => false
/-- A memory word as it reads: what the system area of record MRAM holds is not in the spec, so it reads a free value. -/
def memWord (s : State) (key : Nat) : State × Nat :=
  if region key = .mram ∧ key < 0x801000 then (s.fresh, (Config.freeValue s.free).toNat) else (s, s.peek key)

/-- A permitted write of a port; a debug write of the local memory of a lockstep engine reaches both copies (R38). -/
def portPoke (s : State) (a key w : Nat) : State :=
  if region a = .engine ∧ ¬s.split (s.debugCore / 32) then s.pokeLocal s.debugCore a w else s.poke key w

/-- R530: the host meets an uncorrectable error. -/
def portError (s : State) (r : Requester) (a : Nat) : State :=
  match r with
  | .host => (s.raiseFlag HIF_STAT_UE).wr HIF_ERRADR_ADDR a
  | _ => s
/-- A port reads a word: the state, the value, and whether the access was permitted. The debug range above 0xF0_0000 is in the debug
port's reach, and what it holds is not in the spec: it reads a free value, as a memory does that is off. -/
def portRead (s : State) (r : Requester) (a : Nat) : State × Nat × Bool :=
  if region a = .chan ∨ region a = .dev then s.busRead r a
  else if r = .debug ∧ ¬s.on DBG_STAT_UNLOCK then (s.refuse r a, 0, false)
  else if (s.portKey r a).isSome ∧ s.portOff a ∨ (r = .debug ∧ region a = .debug) then (s.fresh, (Config.freeValue s.free).toNat, true)
  else match s.portKey r a with
    | none => (s.refuse r a, 0, false)
    | some key =>
      if s.isBad key then ((s.eccEvent key).portError r a, 0, true)
      else
        let p := s.memWord key
        (p.1, p.2, true)
/-- A port writes a word: the state, and whether the access was permitted. -/
def portWrite (s : State) (r : Requester) (a w : Nat) : State × Bool :=
  if region a = .chan ∨ region a = .dev then s.busWrite r a w
  else if r = .debug ∧ (¬s.on DBG_STAT_UNLOCK ∨ region a = .debug) then
    if s.on DBG_STAT_UNLOCK then (s, true) else (s.refuse r a, false)
  else match s.portKey r a with
    | none => (s.refuse r a, false)
    | some key =>
      if ¬portMayWrite r a then (s.refuse r a, false) else if s.portOff a then (s, true) else (s.portPoke a key w, true)

/-! ### Host transactions -/

/-- R529, R531: `n` words read from address `a` in ascending order, the words read latest first. -/
def hostRead (s : State) (a : Nat) : Nat → State × List Nat
  | 0 => (s, [])
  | n + 1 =>
    let p := s.hostRead a n
    if 0xFFFFFF < a + n then p
    else
      let x := p.1.portRead .host (a + n)
      (x.1, x.2.1 :: p.2)
/-- R532: words written in address order. -/
def hostWrite (s : State) (a : Nat) : List Word → State
  | [] => s
  | w :: r => if 0xFFFFFF < a then s else ((s.portWrite .host a w.toNat).1).hostWrite (a + 1) r
/-- The words that the host receives. -/
def sendHost (s : State) (l : List Nat) : State := { s with ports := { s.ports with out := l } }

/-! ### Debug access (R541) -/

/-- R541: the DBGACC data register after an access. -/
def accWord (a d op st : Nat) : Nat := a + d * 2 ^ 24 + op * 2 ^ 36 + st * 2 ^ 38
/-- R541: one debug access. -/
def debugAccess (s : State) (op a d : Nat) : State :=
  match op with
  | 1 =>
    let p := s.portRead .debug a
    p.1.tap 0x21 (accWord a p.2.1 op (if p.2.2 then 0 else 2))
  | 2 =>
    let p := s.portWrite .debug a d
    p.1.tap 0x21 (accWord a d op (if p.2 then 0 else 2))
  | _ => s.tap 0x21 (accWord a d op 0)

end State

/-! ### Meanings -/

/-- READ (R529 to R532): `n` words; those from number `arrived` on do not arrive in time. -/
def execRead (a : Addr) (n arrived : Nat) (busy : Bool) (s : State) : Out :=
  .next (if s.fabricOff then s
    else if busy then s.raiseFlag HIF_STAT_OVR
    else
      let p := s.hostRead a.toNat (min n arrived)
      let late := min n (0x1000000 - a.toNat) - p.2.length
      ((if late = 0 then p.1 else p.1.raiseFlag HIF_STAT_LATE)).sendHost (p.2.reverse ++ List.replicate late 0))
/-- WRITE (R529 to R532). -/
def execWrite (a : Addr) (words : List Word) (incomplete busy : Bool) (s : State) : Out :=
  .next (if s.fabricOff then s
    else if busy then s.raiseFlag HIF_STAT_OVR
    else
      let t := s.hostWrite a.toNat words
      if incomplete then t.raiseFlag HIF_STAT_PROTO else t)
/-- STATUS (R529, R532). -/
def execStatus (s : State) : Out := .next (if s.fabricOff then s else s.sendHost [s.readReg HIF_STAT % 256])
/-- HOST_UNKNOWN_COMMAND (R529). -/
def execHostUnknownCommand (c : BitVec 8) (s : State) : Out :=
  .next (if s.fabricOff ∨ c = 0x0B ∨ c = 0x02 ∨ c = 0x05 then s else s.raiseFlag HIF_STAT_PROTO)
/-- DBGACC (R541). -/
def execDbgacc (op : Fin 4) (a : Addr) (d : Word) (s : State) : Out :=
  .next (if s.fabricOff then s else s.debugAccess op a.toNat d.toNat)

end Sys2Proof.Machine
end

