-- ==== Sys2Proof/Machine/Operands.lean ====
section
/-! DEFINITION. The data accesses of a core (R38 to R41, R226, R248, R249, R280, R292, R303, R304): what it may reach, the faults that an
access meets, and the reading and writing of one word. -/
namespace Sys2Proof.Machine
namespace State

/-- R226: an address of a core, modulo 2^24. -/
def addr (x : Nat) (off : Int) : Nat := wrap 24 (x + off)

/-- R38: core q may read, or write, word `a`. -/
def coreMayRead (s : State) (q : Fin 256) (a : Nat) : Bool :=
  match region a with
  | .engine | .cluster | .global | .flash | .mram | .mirror => true
  | .chan | .dev => (regAt a).any (s.mayRead (.core q))
  | _ => false
def coreMayWrite (s : State) (q : Fin 256) (a : Nat) : Bool :=
  match region a with
  | .engine | .cluster | .global => true
  | .mirror => s.coreSv q && s.ownMirror a
  | .chan | .dev => (regAt a).any (s.mayWrite (.core q))
  | _ => false

/-- The key of memory word `a` as core q reaches it. -/
def coreKey (q a : Nat) : Nat := if region a = .engine then localKey q a else memKey (q / 32) a
/-- Word `a` lies in a memory, and holds an error that its code cannot correct. -/
def coreBad (s : State) (q a : Nat) : Bool :=
  match region a with
  | .chan | .dev => false
  | .engine => (s.badLocal q a).isSome
  | _ => !s.memOff a && s.isBad (coreKey q a)
/-- R277: the memory that MEMERR's detail names. -/
def memCode (a : Nat) : Nat :=
  match region a with
  | .cluster => 1
  | .global => 2
  | .flash => 3
  | .mram => 4
  | _ => 5

/-- R280: the fault that reads of the words given meet, of an ordinary instruction or of an element (R277); a read of a flash group that
is being programmed waits (R295). -/
def readFault (s : State) (q : Fin 256) (as : List Nat) (elt : Bool) : Option Res :=
  match as.find? fun a => !s.coreMayRead q a with
  | some a => some (.fault (s.refuse (.core q) a) cAccess (if elt then 3 else 0))
  | none =>
    match as.find? s.programming with
    | some a => some (.hold (s.modCore q fun c => { c with loadAt := some a }))
    | none => match as.find? (s.coreBad q) with
    | none => none
    | some a =>
      let key := coreKey q a
      some (if region a = .engine then .stop (s.localEcc q ((s.badLocal q a).getD key)) else .fault (s.eccEvent key) cMemerr (16 * memCode a + if elt then 2 else 1))
/-- R39: the fault that writes of the words given meet. -/
def writeFault (s : State) (q : Fin 256) (as : List Nat) (elt : Bool) : Option Res :=
  (as.find? fun a => !s.coreMayWrite q a).map fun a => .fault ((s.refuse (.core q) a).ownRefusal a) cAccess (if elt then 3 else 1)

/-- A permitted read of word `a`; a memory that is off gives a free value (R34). -/
def load (s : State) (q : Fin 256) (a : Nat) : State × Nat :=
  if region a = .chan ∨ region a = .dev then
    let p := s.busRead (.core q) a
    (p.1, p.2.1)
  else if s.memOff a then (s.fresh, (Config.freeValue s.free).toNat)
  else s.memWord (coreKey q a)
/-- Permitted reads in order. -/
def loads (s : State) (q : Fin 256) : List Nat → State × List Nat
  | [] => (s, [])
  | a :: r =>
    let p := s.load q a
    let t := loads p.1 q r
    (t.1, p.2 :: t.2)
/-- R460: a write of the own half that a block of the transfer not yet sent carries. -/
def carried (s : State) (a : Nat) : Bool := s.pair.out.any fun b => decide (s.ownBase b ≤ a)
/-- A permitted write of word `a`, which a memory that is off does not take; one to the mirror window of a paired device goes to the partner as well (R450), while the link is up. -/
def store (s : State) (q : Fin 256) (a v : Nat) : State :=
  match region a with
  | .chan | .dev => (s.busWrite (.core q) a v).1
  | .mirror =>
    let s := s.poke a v
    if s.paired then
      (s.modPair fun p => { p with writes := if s.on MIR_STAT_LINK ∧ ¬s.carried a then (a, v) :: p.writes else p.writes }).modCore q
        fun c => { c with mOut := c.mOut + 1 }
    else s
  | .engine => s.pokeLocal q a v
  | _ => if s.memOff a then s else s.poke (coreKey q a) v
/-- Permitted writes in order. -/
def stores (s : State) (q : Fin 256) (l : List (Nat × Nat)) : State := l.foldl (fun t w => t.store q w.1 w.2) s

/-- A load: the fault that it meets, or the state after it. -/
def loadOr (s : State) (q : Fin 256) (as : List Nat) (f : State → List Nat → State) : Res :=
  match s.readFault q as false with
  | some x => x
  | none =>
    let p := s.loads q as
    .done (f p.1 p.2)
/-- A store. -/
def storeOr (s : State) (q : Fin 256) (l : List (Nat × Nat)) (f : State → State) : Res :=
  match s.writeFault q (l.map Prod.fst) false with
  | some x => x
  | none => .done (f (s.stores q l))

end State
end Sys2Proof.Machine
end

