-- ==== Sys2Proof/Machine/Access.lean ====
section
/-! DEFINITION. Loads, stores and the address registers of Evsum-12 (R248 to R251). -/
namespace Sys2Proof.Machine

namespace State

/-- R250: an operation on the address registers. -/
def address (s : State) (q : Nat) (f : Core → Core) : State := s.issue q kPlain fun s => .done (s.modCore q f)
/-- Xs plus a signed offset. -/
def xPlus (s : State) (q xs : Nat) (off : Int) : Nat := addr ((s.core q).x xs) off
/-- A 24-bit value as two words, low word first (R249). -/
def halves (v : Nat) : List Nat := [v % 4096, v / 4096 % 4096]
def ofHalves : List Nat → Nat
  | [l, h] => l + 4096 * h
  | _ => 0

/-- R248: a load of one word into register r, and a store of it. -/
def loadWord (s : State) (q : Fin 256) (k : Kind) (r : Nat) (a : State → Nat) (f : Core → Core) : State :=
  s.issue q k fun s => s.loadOr q [a s] fun t l => t.modCore q fun c => f (c.setR r (l.headD 0))
def storeWord (s : State) (q : Fin 256) (k : Kind) (r : Nat) (a : State → Nat) (f : Core → Core) : State :=
  s.issue q k fun s => s.storeOr q [(a s, (s.core q).r r)] fun t => t.modCore q f

end State

/-! ### Meanings -/

/-- LD (R248). -/
def execLd (q : Fin 256) (rd : Fin 32) (xs : Fin 8) (off : BitVec 10) (s : State) : Out := .next (s.coded q (codeL 16 rd xs off.toNat) fun s => s.loadWord q kPlain rd (fun t => t.xPlus q xs off.toInt) id)
/-- ST (R248). -/
def execSt (q : Fin 256) (rs : Fin 32) (xs : Fin 8) (off : BitVec 10) (s : State) : Out := .next (s.coded q (codeL 17 rs xs off.toNat) fun s => s.storeWord q kPlain rs (fun t => t.xPlus q xs off.toInt) id)
/-- LDP (R248). -/
def execLdp (q : Fin 256) (rd : Fin 32) (xs : Fin 8) (off : BitVec 10) (s : State) : Out := .next (s.coded q (codeL 18 rd xs off.toNat) fun s =>
  s.loadWord q kPlain rd (fun t => t.xPlus q xs 0) fun c => c.setX xs (State.addr (c.x xs) off.toInt))
/-- STP (R248). -/
def execStp (q : Fin 256) (rs : Fin 32) (xs : Fin 8) (off : BitVec 10) (s : State) : Out := .next (s.coded q (codeL 19 rs xs off.toNat) fun s =>
  s.storeWord q kPlain rs (fun t => t.xPlus q xs 0) fun c => c.setX xs (State.addr (c.x xs) off.toInt))
/-- LDX (R249). -/
def execLdx (q : Fin 256) (xd xs : Fin 8) (off : BitVec 10) (s : State) : Out := .next (s.coded q (codeLX 20 xd xs off.toNat) fun s =>
  s.issue q kPlain fun s =>
    let a := s.xPlus q xs off.toInt
    s.loadOr q [a, State.addr a 1] fun t l => t.modCore q fun c => c.setX xd (State.ofHalves l))
/-- STX (R249). -/
def execStx (q : Fin 256) (xd xs : Fin 8) (off : BitVec 10) (s : State) : Out := .next (s.coded q (codeLX 21 xd xs off.toNat) fun s =>
  s.issue q kPlain fun s =>
    let a := s.xPlus q xs off.toInt
    s.storeOr q ([a, State.addr a 1].zip (State.halves ((s.core q).x xd))) id)
/-- XADDI (R250). -/
def execXaddi (q : Fin 256) (xd xs : Fin 8) (imm : Word) (s : State) : Out := .next (s.coded q (codeXI 24 xd xs imm.toNat) fun s => s.address q fun c => c.setX xd (State.addr (c.x xs) imm.toInt))
/-- XADD (R250). -/
def execXadd (q : Fin 256) (xd xs : Fin 8) (r : Fin 32) (s : State) : Out := .next (s.coded q (codeXR 25 xd xs r 0) fun s => s.address q fun c => c.setX xd (State.addr (c.x xs) (sgn (c.r r))))
/-- XADDU (R250). -/
def execXaddu (q : Fin 256) (xd xs : Fin 8) (r : Fin 32) (s : State) : Out := .next (s.coded q (codeXR 25 xd xs r 1) fun s => s.address q fun c => c.setX xd (State.addr (c.x xs) (c.r r)))
/-- XGETL (R250). -/
def execXgetl (q : Fin 256) (r : Fin 32) (xs : Fin 8) (s : State) : Out := .next (s.coded q (codeXR 25 0 xs r 2) (fun s => s.address q fun c => c.setR r (c.x xs % 4096)) 0x38000)
/-- XGETH (R250). -/
def execXgeth (q : Fin 256) (r : Fin 32) (xs : Fin 8) (s : State) : Out := .next (s.coded q (codeXR 25 0 xs r 3) (fun s => s.address q fun c => c.setR r (c.x xs / 4096)) 0x38000)
/-- XSETL (R250). -/
def execXsetl (q : Fin 256) (xd : Fin 8) (r : Fin 32) (s : State) : Out := .next (s.coded q (codeXR 25 xd 0 r 4) fun s => s.address q fun c => c.setX xd (c.x xd / 4096 * 4096 + c.r r))
/-- XSETH (R250). -/
def execXseth (q : Fin 256) (xd : Fin 8) (r : Fin 32) (s : State) : Out := .next (s.coded q (codeXR 25 xd 0 r 5) fun s => s.address q fun c => c.setX xd (c.x xd % 4096 + 4096 * c.r r))
/-- XCMP (R250): flags of the 24-bit difference. -/
def execXcmp (q : Fin 256) (xd xs : Fin 8) (s : State) : Out := .next (s.coded q (codeXR 25 xd xs 0 6) (fun s => 
  s.address q fun c =>
    let a := c.x xd
    let b := c.x xs
    let x := wrap 24 ((a : Int) - b)
    let v := sext 24 a - sext 24 b
    c.setNZ (x.testBit 23) (x == 0) (some (decide (a < b))) (some (decide (v < -8388608) || decide (8388607 < v)))) 0xF80)
/-- XMOV (R250). -/
def execXmov (q : Fin 256) (xd xs : Fin 8) (s : State) : Out := .next (s.coded q (codeXR 25 xd xs 0 7) fun s => s.address q fun c => c.setX xd (c.x xs))
/-- LXI (R251). -/
def execLxi (q : Fin 256) (xd : Fin 8) (imm : Addr) (s : State) : Out := .next (s.codedExt q (codeE 56 (4 * xd) 0) imm.toNat fun s => s.issue q kExt fun s => .done (s.modCore q fun c => c.setX xd imm.toNat))
/-- LDA (R251). -/
def execLda (q : Fin 256) (rd : Fin 32) (imm : Addr) (s : State) : Out := .next (s.codedExt q (codeE 56 rd 3) imm.toNat fun s => s.loadWord q kExt rd (fun _ => imm.toNat) id)
/-- STA (R251). -/
def execSta (q : Fin 256) (rs : Fin 32) (imm : Addr) (s : State) : Out := .next (s.codedExt q (codeE 56 rs 4) imm.toNat fun s => s.storeWord q kExt rs (fun _ => imm.toNat) id)

end Sys2Proof.Machine
end

