-- ==== Sys2Proof/Machine/Control.lean ====
section
/-! DEFINITION. Control transfer, hardware loops and windows of Evsum-12 (R225, R257 to R266, R285). -/
namespace Sys2Proof.Machine

namespace State

/-- R258, R260: a transfer of core q: its target, whether it is taken, and the link that a call writes. -/
def transfer (s : State) (q : Nat) (k : Kind) (target : Core → Nat) (taken : Core → Bool) (call : Bool) : State :=
  s.issue q k fun s =>
    let c := s.core q
    .transfer (if call then s.modCore q fun d => d.setX 0 (c.pc + k.len + 2) else s) (target c) (taken c)
/-- R260: a displacement in instructions of two words from the transfer. -/
def relative (disp : Int) (c : Core) : Nat := addr c.pc (2 * disp)

/-- R262 to R265: LOOP and LOOPI. -/
def loopSetUp (s : State) (q : Nat) (count : Core → Nat) (disp : Nat) : State :=
  s.issue q kJump fun s =>
    let c := s.core q
    if c.lc ≠ 0 then .fault s cIllegal 5
    else if disp = 0 then .fault s cIllegal 7
    else
      let lb := addr c.pc 2
      let le := addr c.pc (2 * disp)
      let n := count c
      .jump (s.modCore q fun d => { d with lc := n, lb := lb, le := le }) (if n = 0 then addr le 2 else lb)

end State

/-! ### Meanings -/

/-- BR (R257). -/
def execBr (q : Fin 256) (cond : Fin 15) (disp : BitVec 14) (s : State) : Out := .next (s.coded q (codeB 32 cond disp.toNat) fun s => s.transfer q kJump (State.relative disp.toInt) (·.cond cond) false)
/-- CALL (R260). -/
def execCall (q : Fin 256) (disp : BitVec 18) (s : State) : Out := .next (s.coded q (codeJ 33 disp.toNat) fun s => s.transfer q kJump (State.relative disp.toInt) (fun _ => true) true)
/-- JMPX (R260). -/
def execJmpx (q : Fin 256) (xs : Fin 8) (s : State) : Out := .next (s.coded q (codeJR 34 xs 0) fun s => s.transfer q kJump (·.x xs) (fun _ => true) false)
/-- CALLX (R260). -/
def execCallx (q : Fin 256) (xs : Fin 8) (s : State) : Out := .next (s.coded q (codeJR 34 xs 1) fun s => s.transfer q kJump (·.x xs) (fun _ => true) true)
/-- RET (R260). -/
def execRet (q : Fin 256) (s : State) : Out := .next (s.coded q (codeJR 34 0 2) fun s => s.transfer q kJump (·.x 0) (fun _ => true) false)
/-- JMPA (R251, R260). -/
def execJmpa (q : Fin 256) (imm : Addr) (s : State) : Out := .next (s.codedExt q (codeE 56 0 1) imm.toNat fun s => s.transfer q kJumpExt (fun _ => imm.toNat) (fun _ => true) false)
/-- CALLA (R251, R260). -/
def execCalla (q : Fin 256) (imm : Addr) (s : State) : Out := .next (s.codedExt q (codeE 56 0 2) imm.toNat fun s => s.transfer q kJumpExt (fun _ => imm.toNat) (fun _ => true) true)
/-- LOOP (R262). -/
def execLoop (q : Fin 256) (rs : Fin 32) (disp : BitVec 13) (s : State) : Out := .next (s.coded q (codeLP 36 rs disp.toNat) fun s => s.loopSetUp q (·.r rs) disp.toNat)
/-- LOOPI (R262). -/
def execLoopi (q : Fin 256) (count : Word) (disp : BitVec 6) (s : State) : Out := .next (s.coded q (codeLPI 37 count.toNat disp.toNat) fun s => s.loopSetUp q (fun _ => count.toNat) disp.toNat)
/-- LCLR (R264). -/
def execLclr (q : Fin 256) (s : State) : Out := .next (s.coded q (codeY 35 0 2) fun s => s.issue q kJump fun s => .done (s.modCore q fun c => { c with lc := 0 }))
/-- FRAME (R225). -/
def execFrame (q : Fin 256) (s : State) : Out := .next (s.coded q (codeY 35 0 0) fun s =>
  s.issue q kPlain fun s =>
    let c := s.core q
    if c.live (c.wp + 1) ∨ c.live (c.wp + 2) then .fault s cWovf 0
    else .done (s.modCore q fun c =>
      let w := (c.wp + 1) % 8
      ({ c with wp := w }.setLive w true).setReg (lkKey w) (c.x 0)))
/-- UNFRAME (R225). -/
def execUnframe (q : Fin 256) (s : State) : Out := .next (s.coded q (codeY 35 0 1) fun s =>
  s.issue q kPlain fun s =>
    let c := s.core q
    if ¬c.live (c.wp + 7) then .fault s cWunf 0
    else .done (s.modCore q fun c => { (c.setX 0 (c.lk c.wp)).setLive c.wp false with wp := (c.wp + 7) % 8 }))
/-- RETE (R261, R282, R285). -/
def execRete (q : Fin 256) (s : State) : Out := .next (s.coded q (codeJR 34 0 4) fun s =>
  s.issue q { slot := false, le := false, sv := true } fun s =>
    let c := s.core q
    let w := (c.wp + 7) % 8
    if ¬c.live w then .stop (s.engineFatal q)
    else .jump (s.modCore q fun c => { c.setLive c.wp false with wp := w }) c.epc fun d => { d with ps := c.eps % 2048 })

end Sys2Proof.Machine
end

