-- ==== Sys2Proof/Machine/Events.lean ====
section
/-! DEFINITION. Events of the clocks, the converters, the fabric and the memories (R24, R30, R31, R33, R56, R173, R293, R301, R318). -/
namespace Sys2Proof.Machine
namespace State

/-- R30: a count of 100 edges to within 4. -/
def countOk (count : Nat) : Bool := decide (96 ≤ count) && decide (count ≤ 104)

/-- The key of word `a` of memory `m`: engine-local memory of core m, cluster memory m − 256, or (264) the memories that all share. -/
def scrubKey (m a : Nat) : Nat := if m < 256 then localKey m (a % 0x8000) else if m < 264 then clusterKey (m - 256) a else a
/-- R293: the word lies in memory that the scrubber visits now. -/
def scrubbed (s : State) (m a : Nat) : Bool :=
  if m < 256 then false else if m < 264 then region a == .cluster && s.cluRuns (m - 256) else region a == .global && s.wide
/-- R292, R293: memory m is in use: a read of it may find a correctable error. A retained cluster is not read. -/
def memOn (s : State) (m : Nat) : Bool := if m < 256 then s.cluRuns (m / 32) else if m < 264 then s.cluRuns (m - 256) else !s.fabricOff
/-- R35: an uncorrectable error in the memory of a retained cluster, or of a core of one, counts in PWR_GEN. -/
def retainedError (s : State) (m : Nat) : State :=
  if m < 264 ∧ s.rd (PWR_CST_STATE (if m < 256 then m / 32 else m - 256)) = 1 then s.nextGen else s
/-- The word exists. -/
def scrubWord (m a : Nat) : Bool :=
  if m < 256 then region a == .engine else if m < 264 then region a == .cluster
  else match region a with
    | .global | .flash | .mram | .mirror => true
    | _ => false

end State

/-! ### Meanings -/

/-- CRYSTAL_LOST (R30, R44): the edges counted in a window; with the crystal the clusters, the fabric and the links are lost. -/
def execCrystalLost (count : Nat) (s : State) : Out :=
  .next (if s.allOff ∨ State.countOk count then s
    else
      let s := ({ s with xtalLost := true }).reportS4 clClk 0x000 13
      s.stopCluster (s.rd FC_CFG_FHCLU))
/-- ALWAYS_ON_CLOCK_LOST (R31, R44): checked in the same way; with the clock all that it times is lost. -/
def execAlwaysOnClockLost (count : Nat) (s : State) : Out :=
  .next (if s.allOff ∨ State.countOk count then s else { s.reportS4 clClk 0x001 13 with aonLost := true })
/-- FIFO_STALL (R33). -/
def execFifoStall (s : State) : Out := .next (s.report clClk 0x010 1 13)
/-- FABRIC_WAIT_EXCEEDED (R24): an access of core q. -/
def execFabricWaitExceeded (q : Fin 256) (s : State) : Out :=
  .next (if s.executes q then s.report clMem (0x300 + q / 2) 0 (4 + q / 32) else s)
/-- FABRIC_RESPONSE (R318, R319): the two cores of the engine of core q sample its arrival; `differ`: in different cycles. -/
def execFabricResponse (q : Fin 256) (differ : Bool) (s : State) : Out :=
  .next (if s.guarded (q / 2) ∧ differ then s.bump (PWR_XDIS_COUNT (q / 2)) else s)
/-- CONVERTER_SAMPLE (R25, R56, R57): the results as the converters deliver them; the last one of a frame sends it to K0 and K1. -/
def execConverterSample (n : Fin 192) (i v : Word) (s : State) : Out :=
  .next (if s.allOff then s else (s.convert n i.toNat v.toNat).frameConverted n)
/-- SPOTLIGHT_SAMPLE (R25, R34, R173, R193): the result of an enabled input as the converter delivers it; `test`: its self-test runs. -/
def execSpotlightSample (i : Fin 32) (x : BitVec 16) (test : Bool) (s : State) : Out :=
  .next (if s.spotlightOn ∧ s.on SPT_CTL_RUN ∧ s.on (SPT_INCFG_EN i) then (s.opticSample i x.toNat test).frameSpot else s)
/-- RING_RECORD (R25, R198 to R205, R298 to R301): a record arrives at RING descriptor c of cluster k: the oldest frame on its way, or the
block of 32 samples that a receiver has just completed, `raw` being what its converter sees, in LSB. Dwell records arrive with
DWELL_END. -/
def execRingRecord (k : Fin 8) (c : Fin 32) (raw : List Int) (s : State) : Out :=
  let st := s.dmaStream k c
  .next (if ¬s.ringOn k st c then s
    else if st < 5 then s.arrive k c st
    else if 8 ≤ st ∧ st < 32 then s.receiverBlock k c (st - 8) raw
    else s)
/-- SCRUB_PASS (R35, R292, R293): word `a` of memory m; `err` 1: an error that its code corrects, 2: one that it does not. -/
def execScrubPass (m : Fin 265) (a : Addr) (err : Fin 3) (s : State) : Out :=
  let key := State.scrubKey m a.toNat
  .next (if ¬State.scrubWord m a.toNat then s
    else
      let s := if err.val = 2 then (s.spoil key).retainedError m else s
      if s.isBad key then (if s.scrubbed m a.toNat then s.eccEvent key else s)
      else if err.val = 1 ∧ s.memOn m then
        let s := s.errorEvent key 0
        if region key = .flash then s.correctedFlash key else s
      else s)

end Sys2Proof.Machine
end

