-- ==== Sys2Proof/Machine/Pins.lean ====
section
/-! DEFINITION. The levels of the device's pins as the state gives them (R515, R517, with R52, R118, R349, R371 to R375, R415 to R417, R521, R534). -/
namespace Sys2Proof.Machine

/-- The level of an output pin. -/
inductive Level
  | low | high | highZ
  deriving DecidableEq, Repr

/-- The output pins that the state drives: the gates of a channel, the switches of a safety output, the STO lines, ADREQ, the test-pulse
outputs, the strobes of the seal switches (true: CFGSB), ERR_N, SAFE_OK, PCYC_N, HIRQ_N, the host data lines, TDO, SYNCO, the CAN, SGMII, KL
and mirror-link transmitters by transport. -/
inductive Pin
  | hg (n : Nat) | lg (n : Nat) | so (k : Nat) | sto (b : Bool) | adreq | tp (k : Nat) | cfgs (b : Bool) | errN | safeOk
  | pcycN | hirqN | hio (k : Nat) | tdo | synco | tx (tr : Nat)
  deriving DecidableEq, Repr

def Level.of (b : Bool) : Level := if b then .high else .low
/-- An open-drain output (R415, R521, R534). -/
def Level.pull (b : Bool) : Level := if b then .low else .highZ

namespace State

/-- R534: an enabled source of the host interrupt is set. -/
def hostIrq (s : State) : Bool := (List.range 12).any fun b => s.bit HIF_IPEND_LINES b && s.bit HIF_IEN_LINES b
/-- R118: SYNCO carries a pulse. -/
def syncoHigh (s : State) : Bool := s.bcast.synco.any fun p => decide (p.1 ≤ s.coarse) && decide (s.coarse < p.1 + p.2)
/-- R429, R430, R537: the transport's transmitter is enabled. -/
def txOn (s : State) (tr : Nat) : Bool := s.up && s.trPowered tr &&
  if tr < 4 then s.bit KSF_CTL_CANEN tr else if tr < 6 then s.bit KSF_CTL_ETHEN (tr - 4) else if tr = 6 then s.on KSF_CTL_KLEN else s.paired

/-- R515: the device is without power. -/
def noPower (s : State) : Bool := !(s.on PWR_SUPST_VCORE || s.on PWR_SUPST_VAON || s.on PWR_SUPST_VANA || s.on PWR_SUPST_VIO)
/-- R373: STOB_N toggles at 50 kHz while it permits torque, with the first half of each period of always-on time high (DESIGN CHOICE:
its phase is not stated). -/
def stobHigh (s : State) : Bool := s.torqueB && decide (s.time % 320 < 160)
/-- R374: STOA_N is in its test pulse. -/
def stoaPulse (s : State) : Bool := s.sio.stoAt.any fun t => decide (t ≤ s.time) && decide (s.time < t + 160)
/-- R384: the strobe that a reading of the switches drives, by its phase of 20 µs. -/
def strobe (s : State) (b : Bool) : Bool :=
  s.ports.strobeAt.any fun t =>
    let i := (s.time - t) / 320
    decide (t ≤ s.time) && if b then i == 0 || i == 2 else i == 0 || i == 1

/-- R515, R517: the level of a pin. Until start-up completes the pins stand as R515 gives them; an enabled transmitter carries a signal
that the state does not hold: `carries`. The device drives the host data lines and TDO within a transaction only, which is one command. -/
def pin (s : State) (carries : Level) : Pin → Level
  | .hg n => .of (s.up && (s.gen n).hg)
  | .lg n => .of (s.up && (s.gen n).lg)
  | .so k => .of (s.up && s.soOn k && !s.pulsing k)
  | .sto b => .of (s.up && if b then s.stobHigh else s.torqueA && !s.stoaPulse)
  | .adreq => .of (s.up && s.on SN_OUTST_AD)
  | .tp k => if s.noPower then .highZ else .of (s.up && s.tpLevel k)
  | .cfgs b => if s.noPower then .highZ else .of (s.up && s.strobe b)
  | .errN => .pull (s.up && !s.on FC_ERRN_PIN)
  | .safeOk => .of (s.up && s.on FC_SOK_LEVEL)
  | .pcycN => .pull s.pwr.pcycAt.isSome
  | .hirqN => .pull (s.up && s.hostIrq)
  | .hio _ | .tdo => .highZ
  | .synco => if s.noPower then .highZ else .of (s.up && s.syncoHigh)
  | .tx tr => if s.txOn tr then carries else .highZ

end State
end Sys2Proof.Machine
end

