-- ==== Sys2Proof/Machine/Scalar.lean ====
section
/-! DEFINITION. The scalar instructions of Evsum-12 (R241 to R247). -/
namespace Sys2Proof.Machine

namespace State

/-- R236, R242: a scalar instruction of core q whose result and flags are a function of the core. -/
def scalar (s : State) (q rd : Nat) (f : Core → Alu) : State :=
  s.issue q kPlain fun s => .done (s.modCore q fun c => c.put rd (f c))
/-- The register form, and the form with one operand. -/
def scalar2 (s : State) (q rd rs1 rs2 : Nat) (f : Nat → Nat → Alu) : State := s.scalar q rd fun c => f (c.r rs1) (c.r rs2)
def scalar1 (s : State) (q rd rs1 : Nat) (f : Nat → Alu) : State := s.scalar q rd fun c => f (c.r rs1)
/-- R242: the immediate form: imm8 extended by its sign. -/
def scalarImm (s : State) (q rd rs1 : Nat) (imm : BitVec 8) (f : Nat → Nat → Alu) : State :=
  s.scalar q rd fun c => f (c.r rs1) (wrap 12 imm.toInt)
/-- R245, R279: the DIV group: a division by zero with PS.DZT = 1 completes and then traps. -/
def divide (s : State) (q rd rs1 rs2 : Nat) (f : Nat → Nat → Alu) : State :=
  s.issue q kPlain fun s =>
    let c := s.core q
    let x := f (c.r rs1) (c.r rs2)
    let t := s.modCore q fun c => c.put rd x
    if x.dz ∧ c.psBit 6 then .trap t cDivz 0 else .done t

end State

/-! ### Meanings (R242) -/

/-- ADD. -/
def execAdd (q : Fin 256) (rd rs1 rs2 : Fin 32) (s : State) : Out := .next (s.coded q (codeR 1 rd rs1 rs2 0) fun s => s.scalar2 q rd rs1 rs2 fun a b => .add a b 0)
/-- ADC. -/
def execAdc (q : Fin 256) (rd rs1 rs2 : Fin 32) (s : State) : Out := .next (s.coded q (codeR 1 rd rs1 rs2 1) fun s => s.scalar q rd fun c => .add (c.r rs1) (c.r rs2) c.carry)
/-- SUB. -/
def execSub (q : Fin 256) (rd rs1 rs2 : Fin 32) (s : State) : Out := .next (s.coded q (codeR 1 rd rs1 rs2 2) fun s => s.scalar2 q rd rs1 rs2 fun a b => .sub a b 0)
/-- SBC. -/
def execSbc (q : Fin 256) (rd rs1 rs2 : Fin 32) (s : State) : Out := .next (s.coded q (codeR 1 rd rs1 rs2 3) fun s => s.scalar q rd fun c => .sub (c.r rs1) (c.r rs2) c.carry)
/-- AND. -/
def execAnd (q : Fin 256) (rd rs1 rs2 : Fin 32) (s : State) : Out := .next (s.coded q (codeR 1 rd rs1 rs2 4) fun s => s.scalar2 q rd rs1 rs2 fun a b => .logic (a &&& b))
/-- OR. -/
def execOr (q : Fin 256) (rd rs1 rs2 : Fin 32) (s : State) : Out := .next (s.coded q (codeR 1 rd rs1 rs2 5) fun s => s.scalar2 q rd rs1 rs2 fun a b => .logic (a ||| b))
/-- XOR. -/
def execXor (q : Fin 256) (rd rs1 rs2 : Fin 32) (s : State) : Out := .next (s.coded q (codeR 1 rd rs1 rs2 6) fun s => s.scalar2 q rd rs1 rs2 fun a b => .logic (a ^^^ b))
/-- ANDN. -/
def execAndn (q : Fin 256) (rd rs1 rs2 : Fin 32) (s : State) : Out := .next (s.coded q (codeR 1 rd rs1 rs2 7) fun s => s.scalar2 q rd rs1 rs2 fun a b => .logic (a &&& (4095 - b)))
/-- ADDS. -/
def execAdds (q : Fin 256) (rd rs1 rs2 : Fin 32) (s : State) : Out := .next (s.coded q (codeR 2 rd rs1 rs2 0) fun s => s.scalar2 q rd rs1 rs2 fun a b => .clamped (sgn a + sgn b))
/-- SUBS. -/
def execSubs (q : Fin 256) (rd rs1 rs2 : Fin 32) (s : State) : Out := .next (s.coded q (codeR 2 rd rs1 rs2 1) fun s => s.scalar2 q rd rs1 rs2 fun a b => .clamped (sgn a - sgn b))
/-- NEG (R243). -/
def execNeg (q : Fin 256) (rd rs1 : Fin 32) (s : State) : Out := .next (s.coded q (codeR 2 rd rs1 0 2) fun s => s.scalar1 q rd rs1 .neg)
/-- NEGS (R243). -/
def execNegs (q : Fin 256) (rd rs1 : Fin 32) (s : State) : Out := .next (s.coded q (codeR 2 rd rs1 0 3) fun s => s.scalar1 q rd rs1 .negs)
/-- ABS (R243). -/
def execAbs (q : Fin 256) (rd rs1 : Fin 32) (s : State) : Out := .next (s.coded q (codeR 2 rd rs1 0 4) fun s => s.scalar1 q rd rs1 .abs)
/-- ABSS (R243). -/
def execAbss (q : Fin 256) (rd rs1 : Fin 32) (s : State) : Out := .next (s.coded q (codeR 2 rd rs1 0 5) fun s => s.scalar1 q rd rs1 .abss)
/-- MIN. -/
def execMin (q : Fin 256) (rd rs1 rs2 : Fin 32) (s : State) : Out := .next (s.coded q (codeR 2 rd rs1 rs2 6) fun s => s.scalar2 q rd rs1 rs2 .minimum)
/-- MAX. -/
def execMax (q : Fin 256) (rd rs1 rs2 : Fin 32) (s : State) : Out := .next (s.coded q (codeR 2 rd rs1 rs2 7) fun s => s.scalar2 q rd rs1 rs2 .maximum)
/-- SLL (R246). -/
def execSll (q : Fin 256) (rd rs1 rs2 : Fin 32) (s : State) : Out := .next (s.coded q (codeR 3 rd rs1 rs2 0) fun s => s.scalar2 q rd rs1 rs2 .sll)
/-- SRL (R246). -/
def execSrl (q : Fin 256) (rd rs1 rs2 : Fin 32) (s : State) : Out := .next (s.coded q (codeR 3 rd rs1 rs2 1) fun s => s.scalar2 q rd rs1 rs2 .srl)
/-- SRA (R246). -/
def execSra (q : Fin 256) (rd rs1 rs2 : Fin 32) (s : State) : Out := .next (s.coded q (codeR 3 rd rs1 rs2 2) fun s => s.scalar2 q rd rs1 rs2 .sra)
/-- ROL (R247). -/
def execRol (q : Fin 256) (rd rs1 rs2 : Fin 32) (s : State) : Out := .next (s.coded q (codeR 3 rd rs1 rs2 3) fun s => s.scalar2 q rd rs1 rs2 .rol)
/-- ROR (R247). -/
def execRor (q : Fin 256) (rd rs1 rs2 : Fin 32) (s : State) : Out := .next (s.coded q (codeR 3 rd rs1 rs2 4) fun s => s.scalar2 q rd rs1 rs2 .ror)
/-- CLZ. -/
def execClz (q : Fin 256) (rd rs1 : Fin 32) (s : State) : Out := .next (s.coded q (codeR 3 rd rs1 0 5) fun s => s.scalar1 q rd rs1 .clz)
/-- POPC. -/
def execPopc (q : Fin 256) (rd rs1 : Fin 32) (s : State) : Out := .next (s.coded q (codeR 3 rd rs1 0 6) fun s => s.scalar1 q rd rs1 .popc)
/-- SHI, SLL (R246). -/
def execShiSll (q : Fin 256) (rd rs1 : Fin 32) (k : Fin 32) (s : State) : Out := .next (s.coded q (codeI 14 rd rs1 k) fun s => s.scalar1 q rd rs1 fun a => .sll a k)
/-- SHI, SRL (R246). -/
def execShiSrl (q : Fin 256) (rd rs1 : Fin 32) (k : Fin 32) (s : State) : Out := .next (s.coded q (codeI 14 rd rs1 (32 + k)) fun s => s.scalar1 q rd rs1 fun a => .srl a k)
/-- SHI, SRA (R246). -/
def execShiSra (q : Fin 256) (rd rs1 : Fin 32) (k : Fin 32) (s : State) : Out := .next (s.coded q (codeI 14 rd rs1 (64 + k)) fun s => s.scalar1 q rd rs1 fun a => .sra a k)
/-- SHI, ROL (R247). -/
def execShiRol (q : Fin 256) (rd rs1 : Fin 32) (k : Fin 32) (s : State) : Out := .next (s.coded q (codeI 14 rd rs1 (96 + k)) fun s => s.scalar1 q rd rs1 fun a => .rol a k)
/-- SHI, ROR (R247). -/
def execShiRor (q : Fin 256) (rd rs1 : Fin 32) (k : Fin 32) (s : State) : Out := .next (s.coded q (codeI 14 rd rs1 (128 + k)) fun s => s.scalar1 q rd rs1 fun a => .ror a k)
/-- MUL (R244). -/
def execMul (q : Fin 256) (rd rs1 rs2 : Fin 32) (s : State) : Out := .next (s.coded q (codeR 4 rd rs1 rs2 0) fun s => s.scalar2 q rd rs1 rs2 .mul)
/-- MULH (R244). -/
def execMulh (q : Fin 256) (rd rs1 rs2 : Fin 32) (s : State) : Out := .next (s.coded q (codeR 4 rd rs1 rs2 1) fun s => s.scalar2 q rd rs1 rs2 .mulh)
/-- MULHU (R244). -/
def execMulhu (q : Fin 256) (rd rs1 rs2 : Fin 32) (s : State) : Out := .next (s.coded q (codeR 4 rd rs1 rs2 2) fun s => s.scalar2 q rd rs1 rs2 .mulhu)
/-- MULQ (R244). -/
def execMulq (q : Fin 256) (rd rs1 rs2 : Fin 32) (s : State) : Out := .next (s.coded q (codeR 4 rd rs1 rs2 3) fun s => s.scalar2 q rd rs1 rs2 .mulq)
/-- DIV (R245). -/
def execDiv (q : Fin 256) (rd rs1 rs2 : Fin 32) (s : State) : Out := .next (s.coded q (codeR 5 rd rs1 rs2 0) fun s => s.divide q rd rs1 rs2 .div)
/-- DIVS (R245). -/
def execDivs (q : Fin 256) (rd rs1 rs2 : Fin 32) (s : State) : Out := .next (s.coded q (codeR 5 rd rs1 rs2 1) fun s => s.divide q rd rs1 rs2 .divs)
/-- DIVU (R245). -/
def execDivu (q : Fin 256) (rd rs1 rs2 : Fin 32) (s : State) : Out := .next (s.coded q (codeR 5 rd rs1 rs2 2) fun s => s.divide q rd rs1 rs2 .divu)
/-- REM (R245). -/
def execRem (q : Fin 256) (rd rs1 rs2 : Fin 32) (s : State) : Out := .next (s.coded q (codeR 5 rd rs1 rs2 3) fun s => s.divide q rd rs1 rs2 .rem)
/-- REMU (R245). -/
def execRemu (q : Fin 256) (rd rs1 rs2 : Fin 32) (s : State) : Out := .next (s.coded q (codeR 5 rd rs1 rs2 4) fun s => s.divide q rd rs1 rs2 .remu)
/-- ADDI. -/
def execAddi (q : Fin 256) (rd rs1 : Fin 32) (imm : BitVec 8) (s : State) : Out := .next (s.coded q (codeI 8 rd rs1 imm.toNat) fun s => s.scalarImm q rd rs1 imm fun a b => .add a b 0)
/-- SUBI. -/
def execSubi (q : Fin 256) (rd rs1 : Fin 32) (imm : BitVec 8) (s : State) : Out := .next (s.coded q (codeI 9 rd rs1 imm.toNat) fun s => s.scalarImm q rd rs1 imm fun a b => .sub a b 0)
/-- ANDI. -/
def execAndi (q : Fin 256) (rd rs1 : Fin 32) (imm : BitVec 8) (s : State) : Out := .next (s.coded q (codeI 10 rd rs1 imm.toNat) fun s => s.scalarImm q rd rs1 imm fun a b => .logic (a &&& b))
/-- ORI. -/
def execOri (q : Fin 256) (rd rs1 : Fin 32) (imm : BitVec 8) (s : State) : Out := .next (s.coded q (codeI 11 rd rs1 imm.toNat) fun s => s.scalarImm q rd rs1 imm fun a b => .logic (a ||| b))
/-- XORI. -/
def execXori (q : Fin 256) (rd rs1 : Fin 32) (imm : BitVec 8) (s : State) : Out := .next (s.coded q (codeI 12 rd rs1 imm.toNat) fun s => s.scalarImm q rd rs1 imm fun a b => .logic (a ^^^ b))
/-- ADDSI. -/
def execAddsi (q : Fin 256) (rd rs1 : Fin 32) (imm : BitVec 8) (s : State) : Out := .next (s.coded q (codeI 13 rd rs1 imm.toNat) fun s => s.scalarImm q rd rs1 imm fun a b => .clamped (sgn a + sgn b))
/-- MOVI: no flag changes. -/
def execMovi (q : Fin 256) (rd : Fin 32) (imm : Word) (s : State) : Out := .next (s.coded q (codeM 15 rd imm.toNat) fun s => s.issue q kPlain fun s => .done (s.modCore q fun c => c.setR rd imm.toNat))

end Sys2Proof.Machine
end

