-- ==== Sys2Proof/Machine/Vector.lean ====
section
/-! DEFINITION. Vectors and accumulators of Evsum-12 (R252 to R256). -/
namespace Sys2Proof.Machine

/-- R227: the active lanes of a core. -/
def Core.active (c : Core) : List Nat := (List.range 32).filter fun l => !c.psBit 7 || c.mask.testBit l
/-- R252, R255: a lane's result, and whether it was clamped. -/
abbrev LaneOut := Nat × Bool

namespace Core

/-- Lanes of a vector register take results; a clamp sets SAT. -/
def setLanes (c : Core) (v : Nat) (l : List (Nat × LaneOut)) : Core :=
  (l.foldl (fun d x => d.setV v x.1 x.2.1) c).stick 5 (l.any fun x => x.2.2)
/-- Lanes of an accumulator take results. -/
def setALanes (c : Core) (a : Nat) (l : List (Nat × LaneOut)) : Core :=
  (l.foldl (fun d x => d.setA a x.1 x.2.1) c).stick 5 (l.any fun x => x.2.2)
/-- R255: an accumulator lane as a signed number. -/
def acc (c : Core) (a l : Nat) : Int := sext 36 (c.a a l)
/-- R253: MASK takes a comparison of the lanes. -/
def compare (c : Core) (f : Nat → Bool) : Core :=
  { c with mask := (List.range 32).foldl (fun m l => if f l && (!c.psBit 7 || c.mask.testBit l) then m + 2 ^ l else m) 0 }

end Core

/-- R255: a value clamped to 36 bits. -/
def clampAcc (x : Int) : LaneOut :=
  let y := clampTo (-2 ^ 35) (2 ^ 35 - 1) x
  (wrap 36 y, y != x)
/-- A lane result from a scalar result. -/
def Alu.lane (x : Alu) : LaneOut := (x.val, x.sat)

namespace State

/-- R227, R252: a vector instruction whose active lanes are a function of the core. -/
def lanes (s : State) (q vd : Nat) (f : Core → Nat → LaneOut) : State :=
  s.issue q kPlain fun s => .done (s.modCore q fun c => c.setLanes vd (c.active.map fun l => (l, f c l)))
/-- The form with two vector operands, and with one. -/
def lanes2 (s : State) (q vd vs1 vs2 : Nat) (f : Nat → Nat → Alu) : State := s.lanes q vd fun c l => (f (c.v vs1 l) (c.v vs2 l)).lane
def lanes1 (s : State) (q vd vs1 : Nat) (f : Nat → Alu) : State := s.lanes q vd fun c l => (f (c.v vs1 l)).lane
/-- R255: an accumulator instruction. -/
def accumulate (s : State) (q a : Nat) (f : Core → Nat → LaneOut) : State :=
  s.issue q kPlain fun s => .done (s.modCore q fun c => c.setALanes a (c.active.map fun l => (l, f c l)))
/-- R253: a comparison. -/
def compareLanes (s : State) (q vs1 vs2 : Nat) (f : Nat → Nat → Bool) : State :=
  s.issue q kPlain fun s => .done (s.modCore q fun c => c.compare fun l => f (c.v vs1 l) (c.v vs2 l))
/-- R256: a move between the scalar and the vector registers. -/
def moveLane (s : State) (q : Nat) (f : Core → Core) : State := s.issue q kPlain fun s => .done (s.modCore q f)

/-- R254: the address of lane l, and Xs after the access. -/
def vBase (s : State) (q xs : Nat) (p : Bool) (off : Int) : Nat := s.xPlus q xs (if p then 0 else off)
def vStep (q xs : Nat) (p : Bool) (off : Int) (t : State) : State :=
  if p then t.modCore q fun c => c.setX xs (addr (c.x xs) off) else t

end State

/-! ### Meanings -/

/-- VLD (R254). -/
def execVld (q : Fin 256) (vd : Fin 16) (p : Bool) (xs : Fin 8) (off : BitVec 10) (s : State) : Out := .next (s.coded q (codeLV 22 vd p.toNat xs off.toNat) fun s =>
  s.issue q kPlain fun s =>
    let ls := (s.core q).active
    let a := s.vBase q xs p off.toInt
    s.loadOr q (ls.map fun (l : Nat) => State.addr a l) fun t ws =>
      State.vStep q xs p off.toInt (t.modCore q fun c => c.setLanes vd (ls.zip (ws.map fun w => (w, false)))))
/-- VST (R254). -/
def execVst (q : Fin 256) (vs : Fin 16) (p : Bool) (xs : Fin 8) (off : BitVec 10) (s : State) : Out := .next (s.coded q (codeLV 23 vs p.toNat xs off.toNat) fun s =>
  s.issue q kPlain fun s =>
    let c := s.core q
    let a := s.vBase q xs p off.toInt
    s.storeOr q (c.active.map fun (l : Nat) => (State.addr a l, c.v vs l)) (State.vStep q xs p off.toInt))
/-- VADD (R252). -/
def execVadd (q : Fin 256) (vd vs1 vs2 : Fin 16) (s : State) : Out := .next (s.coded q (codeV 48 vd vs1 vs2 0) fun s => s.lanes2 q vd vs1 vs2 fun a b => .add a b 0)
/-- VSUB (R252). -/
def execVsub (q : Fin 256) (vd vs1 vs2 : Fin 16) (s : State) : Out := .next (s.coded q (codeV 48 vd vs1 vs2 1) fun s => s.lanes2 q vd vs1 vs2 fun a b => .sub a b 0)
/-- VADDS (R252). -/
def execVadds (q : Fin 256) (vd vs1 vs2 : Fin 16) (s : State) : Out := .next (s.coded q (codeV 48 vd vs1 vs2 2) fun s => s.lanes2 q vd vs1 vs2 fun a b => .clamped (sgn a + sgn b))
/-- VSUBS (R252). -/
def execVsubs (q : Fin 256) (vd vs1 vs2 : Fin 16) (s : State) : Out := .next (s.coded q (codeV 48 vd vs1 vs2 3) fun s => s.lanes2 q vd vs1 vs2 fun a b => .clamped (sgn a - sgn b))
/-- VAND (R252). -/
def execVand (q : Fin 256) (vd vs1 vs2 : Fin 16) (s : State) : Out := .next (s.coded q (codeV 48 vd vs1 vs2 4) fun s => s.lanes2 q vd vs1 vs2 fun a b => .logic (a &&& b))
/-- VOR (R252). -/
def execVor (q : Fin 256) (vd vs1 vs2 : Fin 16) (s : State) : Out := .next (s.coded q (codeV 48 vd vs1 vs2 5) fun s => s.lanes2 q vd vs1 vs2 fun a b => .logic (a ||| b))
/-- VXOR (R252). -/
def execVxor (q : Fin 256) (vd vs1 vs2 : Fin 16) (s : State) : Out := .next (s.coded q (codeV 48 vd vs1 vs2 6) fun s => s.lanes2 q vd vs1 vs2 fun a b => .logic (a ^^^ b))
/-- VMIN (R252). -/
def execVmin (q : Fin 256) (vd vs1 vs2 : Fin 16) (s : State) : Out := .next (s.coded q (codeV 48 vd vs1 vs2 7) fun s => s.lanes2 q vd vs1 vs2 .minimum)
/-- VMAX (R252). -/
def execVmax (q : Fin 256) (vd vs1 vs2 : Fin 16) (s : State) : Out := .next (s.coded q (codeV 48 vd vs1 vs2 8) fun s => s.lanes2 q vd vs1 vs2 .maximum)
/-- VABS (R252). -/
def execVabs (q : Fin 256) (vd vs1 : Fin 16) (s : State) : Out := .next (s.coded q (codeV 48 vd vs1 0 9) fun s => s.lanes1 q vd vs1 .abs)
/-- VABSS (R252). -/
def execVabss (q : Fin 256) (vd vs1 : Fin 16) (s : State) : Out := .next (s.coded q (codeV 48 vd vs1 0 10) fun s => s.lanes1 q vd vs1 .abss)
/-- VNEG (R252). -/
def execVneg (q : Fin 256) (vd vs1 : Fin 16) (s : State) : Out := .next (s.coded q (codeV 48 vd vs1 0 11) fun s => s.lanes1 q vd vs1 .neg)
/-- VNEGS (R252). -/
def execVnegs (q : Fin 256) (vd vs1 : Fin 16) (s : State) : Out := .next (s.coded q (codeV 48 vd vs1 0 12) fun s => s.lanes1 q vd vs1 .negs)
/-- VMUL (R252). -/
def execVmul (q : Fin 256) (vd vs1 vs2 : Fin 16) (s : State) : Out := .next (s.coded q (codeV 48 vd vs1 vs2 13) fun s => s.lanes2 q vd vs1 vs2 .mul)
/-- VMULH (R252). -/
def execVmulh (q : Fin 256) (vd vs1 vs2 : Fin 16) (s : State) : Out := .next (s.coded q (codeV 48 vd vs1 vs2 14) fun s => s.lanes2 q vd vs1 vs2 .mulh)
/-- VMULQ (R252). -/
def execVmulq (q : Fin 256) (vd vs1 vs2 : Fin 16) (s : State) : Out := .next (s.coded q (codeV 48 vd vs1 vs2 15) fun s => s.lanes2 q vd vs1 vs2 .mulq)
/-- VSLL (R252). -/
def execVsll (q : Fin 256) (vd vs1 vs2 : Fin 16) (s : State) : Out := .next (s.coded q (codeV 48 vd vs1 vs2 16) fun s => s.lanes2 q vd vs1 vs2 .sll)
/-- VSRL (R252). -/
def execVsrl (q : Fin 256) (vd vs1 vs2 : Fin 16) (s : State) : Out := .next (s.coded q (codeV 48 vd vs1 vs2 17) fun s => s.lanes2 q vd vs1 vs2 .srl)
/-- VSRA (R252). -/
def execVsra (q : Fin 256) (vd vs1 vs2 : Fin 16) (s : State) : Out := .next (s.coded q (codeV 48 vd vs1 vs2 18) fun s => s.lanes2 q vd vs1 vs2 .sra)
/-- VMOV (R252). -/
def execVmov (q : Fin 256) (vd vs1 : Fin 16) (s : State) : Out := .next (s.coded q (codeV 48 vd vs1 0 19) fun s => s.lanes1 q vd vs1 fun a => { val := a })
/-- VSEL (R252): MASK chooses in every lane. -/
def execVsel (q : Fin 256) (vd vs1 vs2 : Fin 16) (s : State) : Out := .next (s.coded q (codeV 48 vd vs1 vs2 20) fun s =>
  s.moveLane q fun c => c.setLanes vd ((List.range 32).map fun l => (l, (if c.mask.testBit l then c.v vs1 l else c.v vs2 l, false))))
/-- VCEQ (R253). -/
def execVceq (q : Fin 256) (vs1 vs2 : Fin 16) (s : State) : Out := .next (s.coded q (codeV 48 0 vs1 vs2 21) fun s => s.compareLanes q vs1 vs2 fun a b => a == b)
/-- VCLT (R253). -/
def execVclt (q : Fin 256) (vs1 vs2 : Fin 16) (s : State) : Out := .next (s.coded q (codeV 48 0 vs1 vs2 22) fun s => s.compareLanes q vs1 vs2 fun a b => decide (sgn a < sgn b))
/-- VCLTU (R253). -/
def execVcltu (q : Fin 256) (vs1 vs2 : Fin 16) (s : State) : Out := .next (s.coded q (codeV 48 0 vs1 vs2 23) fun s => s.compareLanes q vs1 vs2 fun a b => decide (a < b))
/-- ACLR (R255). -/
def execAclr (q : Fin 256) (a : Fin 4) (s : State) : Out := .next (s.coded q (codeV 49 a 0 0 0) fun s => s.accumulate q a fun _ _ => (0, false))
/-- AMAC (R255). -/
def execAmac (q : Fin 256) (a : Fin 4) (vs1 vs2 : Fin 16) (s : State) : Out := .next (s.coded q (codeV 49 a vs1 vs2 1) fun s => s.accumulate q a fun c l => clampAcc (c.acc a l + sgn (c.v vs1 l) * sgn (c.v vs2 l)))
/-- AMSU (R255). -/
def execAmsu (q : Fin 256) (a : Fin 4) (vs1 vs2 : Fin 16) (s : State) : Out := .next (s.coded q (codeV 49 a vs1 vs2 2) fun s => s.accumulate q a fun c l => clampAcc (c.acc a l - sgn (c.v vs1 l) * sgn (c.v vs2 l)))
/-- AADD (R255). -/
def execAadd (q : Fin 256) (a : Fin 4) (vs1 : Fin 16) (s : State) : Out := .next (s.coded q (codeV 49 a vs1 0 3) fun s => s.accumulate q a fun c l => clampAcc (c.acc a l + sgn (c.v vs1 l)))
/-- ARND (R255). -/
def execArnd (q : Fin 256) (vd : Fin 16) (a : Fin 4) (sh : Fin 36) (s : State) : Out := .next (s.coded q (codeVA 49 vd a sh 4) fun s =>
  s.lanes q vd fun c l => (Alu.clamped ((c.acc a l + (if sh.val = 0 then 0 else 2 ^ (sh.val - 1))) / 2 ^ sh.val)).lane)
/-- ASPL (R255). -/
def execAspl (q : Fin 256) (vd : Fin 16) (a : Fin 4) (p : Fin 3) (s : State) : Out := .next (s.coded q (codeVA 49 vd a p 5) fun s => s.lanes q vd fun c l => (bits (c.a a l) (12 * p) 12, false))
/-- AJOIN (R255). -/
def execAjoin (q : Fin 256) (a : Fin 4) (vs : Fin 16) (p : Fin 3) (s : State) : Out := .next (s.coded q (codeVA 49 vs a p 6) fun s => s.accumulate q a fun c l => (withPart (c.a a l) p (c.v vs l), false))
/-- VBCST (R256). -/
def execVbcst (q : Fin 256) (vd : Fin 16) (r : Fin 32) (s : State) : Out := .next (s.coded q (codeVS 50 vd r 0 0) fun s => s.lanes q vd fun c _ => (c.r r, false))
/-- VEXT (R256). -/
def execVext (q : Fin 256) (r : Fin 32) (vs : Fin 16) (lane : Fin 32) (s : State) : Out := .next (s.coded q (codeVS 50 vs r lane 1) fun s => s.moveLane q fun c => c.setR r (c.v vs lane))
/-- VINS (R256). -/
def execVins (q : Fin 256) (vd : Fin 16) (r : Fin 32) (lane : Fin 32) (s : State) : Out := .next (s.coded q (codeVS 50 vd r lane 2) fun s => s.moveLane q fun c => c.setV vd lane (c.r r))
/-- VSUM (R256). -/
def execVsum (q : Fin 256) (r : Fin 32) (vs : Fin 16) (s : State) : Out := .next (s.coded q (codeVS 50 vs r 0 3) fun s =>
  s.scalar q r fun c => .clamped (c.active.foldl (fun (x : Int) l => x + sgn (c.v vs l)) 0))

end Sys2Proof.Machine
end

