-- ==== Sys2Proof/Machine/Routine.lean ====
section
/-! DEFINITION. Micro-routines and illegal codes of Evsum-12 (R232 to R236, R271 to R276). -/
namespace Sys2Proof.Machine

namespace State

/-- R273: the elements of a run, until one meets a fault. -/
def runElements (s : State) (elem : State → State ⊕ Res) : Nat → State × Option Res
  | 0 => (s, none)
  | n + 1 =>
    match elem s with
    | .inl t => runElements t elem n
    | .inr r => (s, some r)

/-- R271 to R273, R295: a micro-routine, which stands at an element boundary also where the next element waits for code flash: `run` elements are performed before the next boundary at which it pauses; `x7` is the start of X7, and
`start` its start action. -/
def routine (s : State) (q rs run : Nat) (x7 : Core → Nat) (start : Core → Core) (elem : State → State ⊕ Res) : State :=
  s.issue q kSys fun s =>
    let c := s.core q
    let count := c.r rs
    if rs = 7 then .fault s cIllegal 2
    else if count = 0 then .done s
    else
      let s := if c.psBit 10 ∨ c.mid then s else s.modCore q fun c => start ((c.setR 7 0).setX 7 (x7 c))
      let left := count - (s.core q).r 7
      let p := s.runElements elem (if c.step then min 1 (min run left) else min run left)
      match p.2 with
      | some (.fault t cause detail) => .fault (t.modCore q fun c => c.setPs 10 true) cause detail
      | some (.hold t) => .hold (t.modCore q fun c => { c.setPs 10 false with mid := true })
      | some r => r
      | none =>
        if count ≤ (p.1.core q).r 7 then .done p.1
        else .hold (p.1.modCore q fun c => { c.setPs 10 false with mid := true, loadAt := none })

/-- R274: an element of XCOR. -/
def xcorElement (q : Fin 256) (a : Nat) (ref w : Bool) (s : State) : State ⊕ Res :=
  let c := s.core q
  let i := c.r 7
  let n := if w then 2 else 1
  let rAddr := addr (c.x 4) (if ref then i else (i / 12 : Nat))
  let as := rAddr :: c.active.flatMap fun l => (List.range n).map fun j => addr (c.x 7) (l * n + j : Nat)
  match s.readFault q as true with
  | some r => .inr r
  | none =>
    let p := s.loads q as
    let rw := p.2.headD 0
    let r : Int := if ref then sgn rw else if rw.testBit (i % 12) then 1 else -1
    let ds := p.2.drop 1
    let data := fun k => if w then sext 24 (ds.getD (2 * k) 0 + 4096 * ds.getD (2 * k + 1) 0) else sgn (ds.getD k 0)
    .inl (p.1.modCore q fun c =>
      ((c.setALanes a (c.active.zipIdx.map fun x => (x.1, clampAcc (c.acc a x.1 + r * data x.2)))).setX 7 (addr (c.x 7) n)).setR 7 (i + 1))
/-- R275: an element of BMOV. -/
def bmovElement (q : Fin 256) (s : State) : State ⊕ Res :=
  let c := s.core q
  let i := c.r 7
  let src := addr (c.x 5) i
  let dst := c.x 7
  let x := if s.coreMayRead q src ∧ ¬s.coreMayWrite q dst then s.writeFault q [dst] true else s.readFault q [src] true
  match x with
  | some r => .inr r
  | none =>
    let p := s.load q src
    .inl ((p.1.store q dst p.2).modCore q fun c => (c.setX 7 (addr dst 1)).setR 7 (i + 1))
/-- R276: an element of KCRC. -/
def kcrcElement (q : Fin 256) (a : Nat) (s : State) : State ⊕ Res :=
  let c := s.core q
  match s.readFault q [c.x 7] true with
  | some r => .inr r
  | none =>
    let p := s.load q (c.x 7)
    .inl (p.1.modCore q fun c => ((c.setA a 0 (crcWord (c.a a 0 % 2 ^ 32) p.2)).setX 7 (addr (c.x 7) 1)).setR 7 (c.r 7 + 1))

end State

/-! ### Meanings -/

/-- ILLEGAL (R236): decoding refuses the code at the PC; a code with a meaning is left to its own row. -/
def execIllegal (q : Fin 256) (s : State) : Out := .next (
  match illegalDetail (s.codeAt q) with
  | some x => s.issue q kPlain fun s => .fault s cIllegal x
  | none => s)
/-- XCOR (R274). -/
def execXcor (q : Fin 256) (a : Fin 4) (rs : Fin 32) (clr ref w : Bool) (run : Nat) (s : State) : Out := .next (s.coded q (codeU 44 a rs (clr.toNat + 2 * ref.toNat + 4 * w.toNat)) fun s =>
  s.routine q rs run (·.x 5) (fun c => if clr then c.setALanes a (c.active.map fun l => (l, (0, false))) else c) (State.xcorElement q a ref w))
/-- BMOV (R275). -/
def execBmov (q : Fin 256) (rs : Fin 32) (run : Nat) (s : State) : Out := .next (s.coded q (codeU 45 0 rs 0) fun s => s.routine q rs run (·.x 6) id (State.bmovElement q))
/-- KCRC (R276). -/
def execKcrc (q : Fin 256) (a : Fin 4) (rs : Fin 32) (run : Nat) (s : State) : Out := .next (s.coded q (codeU 46 a rs 0) fun s => s.routine q rs run (·.x 5) id (State.kcrcElement q a))

end Sys2Proof.Machine
end

