-- ==== Sys2Proof/Machine/System.lean ====
section
/-! DEFINITION. The special-register and system instructions of Evsum-12 (R228, R229, R267 to R270, R307). -/
namespace Sys2Proof.Machine

/-- R267: PS.MODE becomes 0, and the instruction that follows is its shadow. -/
def Core.toTk (c : Core) : Core := { c.setPs 8 false with shadow := true }

namespace State

/-- R228, R268: MFS. -/
def moveFrom (s : State) (q r n : Nat) : Res :=
  match srGroup n with
  | none => .fault s cIllegal 2
  | some (b, len) =>
    if ¬s.coreSv q ∧ ¬srReadTk n then .fault s cPrivilege n
    else
      let p := s.mfs q n b len
      .done (p.1.modCore q fun c => c.setR r p.2)

/-- R268: MTS to PS: bits 7:0 in TK, bits 10:0 in SV, where clearing MODE has a shadow. What it writes stands after its own completion. -/
def moveToPs (s : State) (q x : Nat) : Res :=
  let c := s.core q
  if ¬s.coreSv q then
    if bits x 8 3 ≠ bits c.ps 8 3 then .fault s cPrivilege 0 else .done s fun d => { d with ps := d.ps / 256 * 256 + x % 256 }
  else .done s fun d =>
    let d := { d with ps := x % 2048 }
    if c.psBit 8 ∧ ¬d.psBit 8 then { d with shadow := true } else d
/-- R228, R229, R268: MTS. -/
def moveTo (s : State) (q n x : Nat) : Res :=
  if n = 17 then .fault s cIllegal 8
  else match srGroup n with
    | none => .fault s cIllegal 2
    | some (b, len) =>
      if ¬s.coreSv q ∧ ¬srWriteTk n then .fault s cPrivilege n
      else if n = 0 then s.moveToPs q x
      else if n + 1 < b + len then .done (s.srStage q n x)
      else
        let v := s.mtsWhole q b len x
        .done ((s.srUnstage q b len).modCore q fun c => c.srSet b v)
/-- R259: the kind of an MTS: to PS, WP and WV it must not stand in a delay slot. -/
def kMts (n : Nat) : Kind := { slot := !(n == 0 || n == 10 || n == 11) }

/-- R304, R307: what becomes of a FENCE.M. -/
def fenceM (s : State) (q : Nat) : Res :=
  let c := s.core q
  if ¬s.paired then .done s
  else if s.dev = .rejoin then .trap s cMirfail 4
  else if c.mOut = 0 then .done s
  else if s.pair.solo then .trap s cMirfail 2
  else .hold (s.modCore q fun c => { c with fence := some s.time })

end State

/-! ### Meanings -/

/-- MFS (R268). -/
def execMfs (q : Fin 256) (r : Fin 32) (sr : Fin 64) (s : State) : Out := .next (s.coded q (codeS 38 r sr 0) fun s => s.issue q kPlain fun s => s.moveFrom q r sr)
/-- MTS (R268). -/
def execMts (q : Fin 256) (r : Fin 32) (sr : Fin 64) (s : State) : Out := .next (s.coded q (codeS 38 r sr 1) fun s => s.issue q (State.kMts sr) fun s => s.moveTo q sr ((s.core q).r r))
/-- SVC (R269, R279). -/
def execSvc (q : Fin 256) (imm : BitVec 8) (s : State) : Out := .next (s.coded q (codeY 39 imm.toNat 0) fun s => s.issue q kSys fun s => .trap s cSvc imm.toNat)
/-- BKPT (R269, R542). -/
def execBkpt (q : Fin 256) (imm : BitVec 8) (s : State) : Out := .next (s.coded q (codeY 39 imm.toNat 1) fun s =>
  s.issue q kSys fun s => if s.on DBG_CFG_BKH then .stop ((s.retire q 2).debugHalt q 1 0) else .trap s cBkpt imm.toNat)
/-- WAIT (R269). -/
def execWait (q : Fin 256) (s : State) : Out := .next (s.coded q (codeY 39 0 2) fun s =>
  s.issue q kSys fun s =>
    if s.linesUp q ≠ 0 then .done s else .hold (s.modCore q fun c => { c with waiting := true, tmrHit := false }))
/-- MODE TK (R267). -/
def execModeTk (q : Fin 256) (s : State) : Out := .next (s.coded q (codeY 39 0 3) fun s => s.issue q { slot := false, sv := true } fun s => .done s Core.toTk)
/-- MODE SV (R267). -/
def execModeSv (q : Fin 256) (s : State) : Out := .next (s.coded q (codeY 39 1 3) fun s => s.issue q { slot := false, sv := true } fun s => .done s)
/-- FENCE.L (R270, R306): every earlier access is complete, since a core of the model performs its accesses in order. -/
def execFenceL (q : Fin 256) (s : State) : Out := .next (s.coded q (codeY 39 0 4) fun s => s.issue q kPlain fun s => .done s)
/-- FENCE.G (R270, R306): every earlier access is complete, since a core of the model performs its accesses in order. -/
def execFenceG (q : Fin 256) (s : State) : Out := .next (s.coded q (codeY 39 1 4) fun s => s.issue q kPlain fun s => .done s)
/-- FENCE.IO (R270, R306): every earlier access is complete, since a core of the model performs its accesses in order. -/
def execFenceIo (q : Fin 256) (s : State) : Out := .next (s.coded q (codeY 39 2 4) fun s => s.issue q kPlain fun s => .done s)
/-- FENCE.M (R270, R307). -/
def execFenceM (q : Fin 256) (s : State) : Out := .next (s.coded q (codeY 39 3 4) fun s => s.issue q kPlain fun s => s.fenceM q)

end Sys2Proof.Machine
end

