-- ==== Sys2Proof/Machine/Writes.lean ====
section
/-! DEFINITION. The meanings of the rows that a register write makes: each is the write of its register by the requester, with the field or
the value that the row names. -/
namespace Sys2Proof.Machine

/-- REGISTER_WRITE (R12 to R14, R39). -/
def execRegisterWrite (r : Requester) (a : Addr) (w : Word) (s : State) : Out := .next (
  let p := s.busWrite r a.toNat w.toNat
  if p.2 then p.1 else (s.refuseCommand r a.toNat).ownRefusal a.toNat)

/-- MULTIWORD_READ_CAPTURE (R12, R39). -/
def execMultiwordReadCapture (r : Requester) (a : Addr) (s : State) : Out := .next (
  let p := s.busRead r a.toNat
  if p.2.2 then p.1 else s.refuseCommand r a.toNat)

/-- CHANNEL_ENABLE (R55). -/
def execChannelEnable (r : Requester) (n : Fin 192) (en : Bool) (s : State) : Out := .next (
  s.commandField r (CH_CFG n) (CH_CFG_EN n) en.toNat)

/-- TOPO_WRITE (R96). -/
def execTopoWrite (r : Requester) (n : Fin 192) (topo : Fin 4) (s : State) : Out := .next (
  s.commandField r (CH_CFG n) (CH_CFG_TOPO n) topo)

/-- RANGE_CHANGE (R59). -/
def execRangeChange (r : Requester) (n : Fin 192) (range : Bool) (s : State) : Out := .next (
  s.commandField r (CH_SENSE n) (CH_SENSE_RANGE n) range.toNat)

/-- ADJRUN (R71). -/
def execAdjrun (r : Requester) (n : Fin 192) (s : State) : Out := .next (
  s.command r (CH_CMD n) (2 ^ (CH_CMD_ADJRUN n).lo))

/-- FLT_CLEAR (R65). -/
def execFltClear (r : Requester) (n : Fin 192) (bits : Word) (s : State) : Out := .next (
  s.command r (CH_FLT n) bits.toNat)

/-- KICK (R75). -/
def execKick (r : Requester) (n : Fin 192) (key : Word) (s : State) : Out := .next (
  s.command r (CH_KICK n) key.toNat)

/-- OWNER_WRITE (R77). -/
def execOwnerWrite (r : Requester) (n : Fin 192) (w : Word) (s : State) : Out := .next (
  s.command r (CH_OWNER n) w.toNat)

/-- LHOLD_WRITE (R78). -/
def execLholdWrite (r : Requester) (n : Fin 192) (v : Bool) (s : State) : Out := .next (
  s.commandField r (CH_LEASE n) (CH_LEASE_LHOLD n) v.toNat)

/-- CHANNEL_RESET (R94). -/
def execChannelReset (r : Requester) (n : Fin 192) (s : State) : Out := .next (
  s.command r (CH_CMD n) (2 ^ (CH_CMD_CRST n).lo))

/-- PER_WRITE (R96). -/
def execPerWrite (r : Requester) (n : Fin 192) (v : BitVec 24) (s : State) : Out := .next (
  s.command r (CH_PER n) v.toNat)

/-- DIM_WRITE (R99). -/
def execDimWrite (r : Requester) (n : Fin 192) (w : Word) (s : State) : Out := .next (
  s.command r (CH_DIM n) w.toNat)

/-- PHASE_WRITE (R116). -/
def execPhaseWrite (r : Requester) (n : Fin 192) (v : BitVec 24) (s : State) : Out := .next (
  s.command r (CH_PHASE n) v.toNat)

/-- EDGE_TIMING_WRITE (R100): DTR, DTF, MINH, MINL. -/
def execEdgeTimingWrite (r : Requester) (n : Fin 192) (which : Fin 4) (w : Word) (s : State) : Out := .next (
  s.command r (match which.val with
    | 0 => CH_DTR n
    | 1 => CH_DTF n
    | 2 => CH_MINH n
    | _ => CH_MINL n) w.toNat)

/-- ALIGN_WRITE (R121). -/
def execAlignWrite (r : Requester) (n : Fin 192) (align : Bool) (s : State) : Out := .next (
  s.commandField r (CH_ALN n) (CH_ALN_ALIGN n) align.toNat)

/-- CODE_WRITE (R115). -/
def execCodeWrite (r : Requester) (n : Fin 192) (w : Word) (s : State) : Out := .next (
  s.command r (CH_CODE n) w.toNat)

/-- CIDX_WRITE (R115). -/
def execCidxWrite (r : Requester) (n : Fin 192) (w : Word) (s : State) : Out := .next (
  s.command r (CH_CIDX n) w.toNat)

/-- CCLR (R110). -/
def execCclr (r : Requester) (n : Fin 192) (s : State) : Out := .next (
  s.command r (CH_ECMD n) (2 ^ (CH_ECMD_CCLR n).lo))

/-- RCLR (R108). -/
def execRclr (r : Requester) (n : Fin 192) (s : State) : Out := .next (
  s.command r (CH_ECMD n) (2 ^ (CH_ECMD_RCLR n).lo))

/-- SHADOW_WRITE (R128): CHn_SDUTY, CHn_SREF, CHn_SCTL. -/
def execShadowWrite (r : Requester) (n : Fin 192) (which : Fin 3) (v : BitVec 24) (s : State) : Out := .next (
  match which.val with
  | 0 => s.command r (CH_SDUTY n) v.toNat
  | 1 => s.command r (CH_SREF n) (v.toNat % 4096)
  | _ => s.command r (CH_SCTL n) (v.toNat % 4096))

/-- APPLY (R130). -/
def execApply (r : Requester) (n : Fin 192) (s : State) : Out := .next (
  s.command r (CH_SCMD n) (2 ^ (CH_SCMD_APPLY n).lo))

/-- DISCARD (R133). -/
def execDiscard (r : Requester) (n : Fin 192) (s : State) : Out := .next (
  s.command r (CH_SCMD n) (2 ^ (CH_SCMD_DISCARD n).lo))

/-- LOCAL_SYNC_REQUEST (R135). -/
def execLocalSyncRequest (r : Requester) (s : State) : Out := .next (
  s.command r (SN_SYNCREQ) (2 ^ (SN_SYNCREQ_LOCAL).lo))

/-- CHAIN_SYNC_REQUEST (R135). -/
def execChainSyncRequest (r : Requester) (s : State) : Out := .next (
  s.command r (SN_SYNCREQ) (2 ^ (SN_SYNCREQ_CHAIN).lo))

/-- TSYNC_ARM (R136). -/
def execTsyncArm (r : Requester) (s : State) : Out := .next (
  s.command r (SN_TSCMD) (2 ^ (SN_TSCMD_ARM).lo))

/-- ASPECT_REQUEST (R140). -/
def execAspectRequest (r : Requester) (g : Fin 16) (w : Word) (s : State) : Out := .next (
  s.command r (SN_AGREQ g) w.toNat)

/-- GROUP_APPLY (R142). -/
def execGroupApply (r : Requester) (mask : BitVec 16) (s : State) : Out := .next (
  s.command r (SN_AAPPLY) mask.toNat)

/-- SEQUENCER_START (R151). -/
def execSequencerStart (r : Requester) (d : Fin 4) (q : Fin 3) (s : State) : Out := .next (
  s.command r (CAR_CTL d q) (2 ^ (CAR_CTL_START d q).lo))

/-- SEQUENCER_STOP (R151). -/
def execSequencerStop (r : Requester) (d : Fin 4) (q : Fin 3) (s : State) : Out := .next (
  s.command r (CAR_CTL d q) (2 ^ (CAR_CTL_STOP d q).lo))

/-- SYNCST (R151). -/
def execSyncst (r : Requester) (d : Fin 4) (q : Fin 3) (s : State) : Out := .next (
  s.command r (CAR_CTL d q) (2 ^ (CAR_CTL_SYNCST d q).lo))

/-- ELECTRICAL_VERDICT_POST (R169). -/
def execElectricalVerdictPost (r : Requester) (n : Fin 192) (w : Word) (s : State) : Out := .next (
  s.command r (CH_EVER n) w.toNat)

/-- OPTICAL_VERDICT_POST (R175). -/
def execOpticalVerdictPost (r : Requester) (n : Fin 192) (w : Word) (s : State) : Out := .next (
  s.command r (CH_OVER n) w.toNat)

/-- LATCH_RELEASE_REQUEST (R188). -/
def execLatchReleaseRequest (r : Requester) (ch : BitVec 8) (key : Word) (s : State) : Out := .next (
  s.command r SN_LCLR (ch.toNat * 2 ^ SN_LCLR_CH.lo + key.toNat * 2 ^ SN_LCLR_KEY.lo))

/-- CODE_BALANCE_QUERY (R172). -/
def execCodeBalanceQuery (r : Requester) (w : Word) (s : State) : Out := .next (
  s.command r (SPT_CBIDX) w.toNat)

/-- INPUT_RANGE_WRITE (R173). -/
def execInputRangeWrite (r : Requester) (i : Fin 32) (w : Word) (s : State) : Out := .next (
  s.command r (SPT_INCFG i) w.toNat)

/-- FINDING_POST (R214). -/
def execFindingPost (r : Requester) (v : BitVec 24) (s : State) : Out := .next (
  s.command r (TRP_FPOST) v.toNat)

/-- SOFT_INTERRUPT (R288). -/
def execSoftInterrupt (r : Requester) (q : Fin 256) (soft : Bool) (s : State) : Out := .next (
  s.commandField r (PWR_ISET q) (PWR_ISET_SOFT q) soft.toNat)

/-- INTERRUPT_CLEAR (R289). -/
def execInterruptClear (r : Requester) (q : Fin 256) (lines : Word) (s : State) : Out := .next (
  s.command r (PWR_IPEND q) lines.toNat)

/-- DMA_GO (R296). -/
def execDmaGo (r : Requester) (k : Fin 8) (c : Fin 32) (s : State) : Out := .next (
  s.command r (DCMD k c) (2 ^ (DCMD_GO k c).lo))

/-- DMA_STOP (R302): `moved` names the words of a MOVE that were moved by then. -/
def execDmaStop (r : Requester) (k : Fin 8) (c : Fin 32) (moved : List Nat) (s : State) : Out := .next (
  if s.unreached (DCMD k c).addr ∨ s.silent r then s
  else if s.mayWrite r (DCMD k c) then (s.unstage r (DCMD k c)).writeDcmd k c (2 ^ (DCMD_STOP k c).lo) moved
  else s.refuseCommand r (DCMD k c).addr)

/-- RING_READ_INDEX (R301). -/
def execRingReadIndex (r : Requester) (k : Fin 8) (c : Fin 32) (v : BitVec 24) (s : State) : Out := .next (
  s.command r (DRIDX k c) v.toNat)

/-- TWIN_POST (R323). -/
def execTwinPost (r : Requester) (t : Fin 64) (b : Bool) (v : BitVec 24) (s : State) : Out := .next (
  s.command r (if b then SN_TWRB t else SN_TWRA t) v.toNat)

/-- CHECKPOINT_COMMIT (R329). -/
def execCheckpointCommit (r : Requester) (e : Fin 128) (w : Word) (s : State) : Out := .next (
  s.command r (PWR_CKCMT e) w.toNat)

/-- TAKEOVER_DONE (R332). -/
def execTakeoverDone (r : Requester) (e : Fin 128) (s : State) : Out := .next (
  s.command r (PWR_ENGST e) (2 ^ (PWR_ENGST_DONE e).lo))

/-- FUNCTION_RESET (R369). -/
def execFunctionReset (r : Requester) (w : Word) (s : State) : Out := .next (
  s.command r (SN_FNRST) w.toNat)

/-- OUTPUT_REQUEST (R371). -/
def execOutputRequest (r : Requester) (w : Word) (s : State) : Out := .next (
  s.command r (SN_OUTREQ) w.toNat)

/-- SEAL_CHECK (R391). -/
def execSealCheck (r : Requester) (s : State) : Out := .next (
  s.command r (SEAL_CMD) (2 ^ (SEAL_CMD_CHECK).lo))

/-- ACKNOWLEDGE (R404). -/
def execAcknowledge (r : Requester) (c : Fin 16) (all : Bool) (seq : Word) (s : State) : Out := .next (
  s.command r FC_ACK (c + 2 ^ FC_ACK_ALL.lo * all.toNat + 2 ^ FC_ACK_SEQ.lo * seq.toNat))

/-- FIRST_FAULT_CLEAR (R403). -/
def execFirstFaultClear (r : Requester) (s : State) : Out := .next (
  s.command r (FC_FCLR) (2 ^ (FC_FCLR_CLR).lo))

/-- ERRN_WRITE (R415). -/
def execErrnWrite (r : Requester) (low : Bool) (s : State) : Out := .next (
  s.commandField r (FC_ERRN) (FC_ERRN_FWLOW) low.toNat)

/-- SAFE_OK_KICK (R417). -/
def execSafeOkKick (r : Requester) (s : State) : Out := .next (
  s.command r (FC_SOK) (2 ^ (FC_SOK_KICK).lo))

/-- RETRY (R420). -/
def execRetry (r : Requester) (c : Fin 16) (src : Word) (s : State) : Out := .next (
  s.command r FC_RETRY (c + 2 ^ FC_RETRY_SOURCE.lo * src.toNat))

/-- TX_COMMIT (R437). -/
def execTxCommit (r : Requester) (c : Fin 64) (s : State) : Out := .next (
  s.command r (KSF_TXCMD c) (2 ^ (KSF_TXCMD_COMMIT c).lo))

/-- TX_SEND (R437). -/
def execTxSend (r : Requester) (c : Fin 64) (s : State) : Out := .next (
  s.command r (KSF_TXCMD c) (2 ^ (KSF_TXCMD_SEND c).lo))

/-- TSYNC_SEND (R439). -/
def execTsyncSend (r : Requester) (c : Fin 64) (s : State) : Out := .next (
  s.command r KSF_TSSEND (c + 2 ^ KSF_TSSEND_GO.lo))

/-- OPEN_COMMAND (R442). -/
def execOpenCommand (r : Requester) (e : Fin 32) (s : State) : Out := .next (
  s.command r KSF_OPEN (e + 2 ^ KSF_OPEN_GO.lo))

/-- CLOSE_COMMAND (R443). -/
def execCloseCommand (r : Requester) (c : Fin 64) (s : State) : Out := .next (
  s.command r KSF_CLOSE (c + 2 ^ KSF_CLOSE_GO.lo))

/-- REENTER (R461). -/
def execReenter (r : Requester) (s : State) : Out := .next (
  s.command r (MIR_CTL) (2 ^ (MIR_CTL_REENTER).lo))

/-- ABORT (R460). -/
def execAbort (r : Requester) (s : State) : Out := .next (
  s.command r (MIR_CTL) (2 ^ (MIR_CTL_ABORT).lo))

/-- SLEEP_ARM (R471). -/
def execSleepArm (r : Requester) (arm : Bool) (s : State) : Out := .next (
  s.commandField r (PWR_CTL) (PWR_CTL_SLPARM) arm.toNat)

/-- CLUSTER_START (R475). -/
def execClusterStart (r : Requester) (k : Fin 8) (s : State) : Out := .next (
  s.command r (PWR_CCMD k) (2 ^ (PWR_CCMD_START k).lo))

/-- CLUSTER_IDLE_REQUEST (R477). -/
def execClusterIdleRequest (r : Requester) (k : Fin 8) (s : State) : Out := .next (
  s.command r (PWR_CCMD k) (2 ^ (PWR_CCMD_IDLE k).lo))

/-- SUBMISSION (R501). -/
def execSubmission (r : Requester) (s : State) : Out := .next (
  s.command r (REC_SUBCMD) (2 ^ (REC_SUBCMD_GO).lo))

/-- SOFT_RESET (R520). -/
def execSoftReset (r : Requester) (key : Word) (s : State) : Out := .next (
  s.command r (HIF_RST) key.toNat)

/-- POWER_CYCLE_REQUEST (R521). -/
def execPowerCycleRequest (r : Requester) (key : Word) (s : State) : Out := .next (
  s.command r (HIF_PCYC) key.toNat)

/-- RAISE (R528). -/
def execRaise (r : Requester) (key : BitVec 7) (s : State) : Out := .next (
  s.command r HIF_BOOTCMD (2 ^ HIF_BOOTCMD_RAISE.lo + 2 ^ HIF_BOOTCMD_KEY.lo * key.toNat))

/-- HOST_DOORBELL (R533). -/
def execHostDoorbell (r : Requester) (m : Fin 4) (cnt : BitVec 6) (s : State) : Out := .next (
  s.command r (HIF_HDB m) cnt.toNat)

/-- DEVICE_DOORBELL (R533). -/
def execDeviceDoorbell (r : Requester) (m : Fin 4) (cnt : BitVec 6) (s : State) : Out := .next (
  s.command r (HIF_DDB m) cnt.toNat)

/-- MAILBOX_CLEAR (R533). -/
def execMailboxClear (r : Requester) (m : Fin 4) (dev : Bool) (s : State) : Out := .next (
  if dev then s.command r (HIF_DDB m) (2 ^ (HIF_DDB_FULL m).lo) else s.command r (HIF_HDB m) (2 ^ (HIF_HDB_FULL m).lo))

/-- ERASE (R535). -/
def execErase (r : Requester) (key : BitVec 8) (s : State) : Out := .next (
  s.command r HIF_FLCMD (1 + 2 ^ HIF_FLCMD_KEY.lo * key.toNat))

/-- PROG (R535). -/
def execProg (r : Requester) (key : BitVec 8) (s : State) : Out := .next (
  s.command r HIF_FLCMD (2 + 2 ^ HIF_FLCMD_KEY.lo * key.toNat))

/-- RETRAIN (R537). -/
def execRetrain (r : Requester) (s : State) : Out := .next (
  s.command r (HIF_KLCTL) (2 ^ (HIF_KLCTL_RETRAIN).lo))

/-- DEBUG_HALT (R542). -/
def execDebugHalt (s : State) : Out := .next (
  s.command .debug DBG_CMD (2 ^ DBG_CMD_HALT.lo))

/-- RESUME (R542). -/
def execResume (s : State) : Out := .next (
  s.command .debug DBG_CMD (2 ^ DBG_CMD_RESUME.lo))

/-- STEP (R542). -/
def execStep (s : State) : Out := .next (
  s.command .debug DBG_CMD (2 ^ DBG_CMD_STEP.lo))

/-- DEBUG_REGISTER_WRITE (R544). -/
def execDebugRegisterWrite (v : BitVec 36) (s : State) : Out := .next (
  s.command .debug DBG_RDATA v.toNat)

/-- OTP_WRITE (R545). -/
def execOtpWrite (s : State) : Out := .next (
  s.command .debug DBG_OTPCMD (2 ^ DBG_OTPCMD_GO.lo))

end Sys2Proof.Machine
end

