-- ==== Sys2Proof/Machine/Dispatch.lean ====
section
/-! DEFINITION. The dispatch: one arm for each command. -/
namespace Sys2Proof.Machine
open Sys2Proof

/-- The effect of a command on everything but the queue. -/
def exec (i : Instr) (s : State) : Host.Outcome State Fault Refusal :=
  match i with
  | .registerWrite r a w => Sys2Proof.Machine.execRegisterWrite r a w s
  | .multiwordReadCapture r a => Sys2Proof.Machine.execMultiwordReadCapture r a s
  | .dieLinkFailure d => Sys2Proof.Machine.execDieLinkFailure d s
  | .fabricWaitExceeded q => Sys2Proof.Machine.execFabricWaitExceeded q s
  | .fabricResponse q differ => Sys2Proof.Machine.execFabricResponse q differ s
  | .converterSample n x v => Sys2Proof.Machine.execConverterSample n x v s
  | .spotlightSample e x test => Sys2Proof.Machine.execSpotlightSample e x test s
  | .crystalLost count => Sys2Proof.Machine.execCrystalLost count s
  | .alwaysOnClockLost count => Sys2Proof.Machine.execAlwaysOnClockLost count s
  | .rcWatchdogExpiry d => Sys2Proof.Machine.execRcWatchdogExpiry d s
  | .fifoStall => Sys2Proof.Machine.execFifoStall s
  | .clusterStartComplete k fails => Sys2Proof.Machine.execClusterStartComplete k fails s
  | .vdrvFail d => Sys2Proof.Machine.execVdrvFail d s
  | .vdrvRecover d => Sys2Proof.Machine.execVdrvRecover d s
  | .vdrvGood d => Sys2Proof.Machine.execVdrvGood d s
  | .bootstrapUnderVoltage n => Sys2Proof.Machine.execBootstrapUnderVoltage n s
  | .bootstrapRecover n => Sys2Proof.Machine.execBootstrapRecover n s
  | .channelEnable r n en => Sys2Proof.Machine.execChannelEnable r n en s
  | .topoWrite r n topo => Sys2Proof.Machine.execTopoWrite r n topo s
  | .rangeChange r n range => Sys2Proof.Machine.execRangeChange r n range s
  | .rangeHoldEnd n => Sys2Proof.Machine.execRangeHoldEnd n s
  | .bkLoopUpdate n iavg => Sys2Proof.Machine.execBkLoopUpdate n iavg s
  | .cycleByCycleLimit n mv2 => Sys2Proof.Machine.execCycleByCycleLimit n mv2 s
  | .overCurrent n => Sys2Proof.Machine.execOverCurrent n s
  | .desaturation n vds since => Sys2Proof.Machine.execDesaturation n vds since s
  | .rampShort n mv2 rate => Sys2Proof.Machine.execRampShort n mv2 rate s
  | .adjrun r n => Sys2Proof.Machine.execAdjrun r n s
  | .adjacencyTestEnd n an a0 a1 dn d0 d1 => Sys2Proof.Machine.execAdjacencyTestEnd n an a0 a1 dn d0 d1 s
  | .fltClear r n bits => Sys2Proof.Machine.execFltClear r n bits s
  | .inrushWindowEnd n => Sys2Proof.Machine.execInrushWindowEnd n s
  | .kick r n key => Sys2Proof.Machine.execKick r n key s
  | .leaseExpiry n => Sys2Proof.Machine.execLeaseExpiry n s
  | .ownerWrite r n w => Sys2Proof.Machine.execOwnerWrite r n w s
  | .lholdWrite r n v => Sys2Proof.Machine.execLholdWrite r n v s
  | .flashPhaseChange => Sys2Proof.Machine.execFlashPhaseChange s
  | .lbusFail d => Sys2Proof.Machine.execLbusFail d s
  | .lbusRecover d => Sys2Proof.Machine.execLbusRecover d s
  | .deratingUpdate => Sys2Proof.Machine.execDeratingUpdate s
  | .channelReset r n => Sys2Proof.Machine.execChannelReset r n s
  | .perWrite r n v => Sys2Proof.Machine.execPerWrite r n v s
  | .dimWrite r n w => Sys2Proof.Machine.execDimWrite r n w s
  | .phaseWrite r n v => Sys2Proof.Machine.execPhaseWrite r n v s
  | .edgeTimingWrite r n which w => Sys2Proof.Machine.execEdgeTimingWrite r n which w s
  | .alignWrite r n align => Sys2Proof.Machine.execAlignWrite r n align s
  | .codeWrite r n w => Sys2Proof.Machine.execCodeWrite r n w s
  | .cidxWrite r n w => Sys2Proof.Machine.execCidxWrite r n w s
  | .capturePoint n => Sys2Proof.Machine.execCapturePoint n s
  | .periodBoundary n => Sys2Proof.Machine.execPeriodBoundary n s
  | .onTimeEnd n => Sys2Proof.Machine.execOnTimeEnd n s
  | .deadTimeEnd n => Sys2Proof.Machine.execDeadTimeEnd n s
  | .chipBoundary n => Sys2Proof.Machine.execChipBoundary n s
  | .cclr r n => Sys2Proof.Machine.execCclr r n s
  | .rclr r n => Sys2Proof.Machine.execRclr r n s
  | .synciPulse rise width => Sys2Proof.Machine.execSynciPulse rise width s
  | .frameMarkEmit => Sys2Proof.Machine.execFrameMarkEmit s
  | .frameMark => Sys2Proof.Machine.execFrameMark s
  | .marksLost => Sys2Proof.Machine.execMarksLost s
  | .freezeLgOff n => Sys2Proof.Machine.execFreezeLgOff n s
  | .shadowWrite r n which v => Sys2Proof.Machine.execShadowWrite r n which v s
  | .apply r n => Sys2Proof.Machine.execApply r n s
  | .discard r n => Sys2Proof.Machine.execDiscard r n s
  | .handOverStep n => Sys2Proof.Machine.execHandOverStep n s
  | .localSyncRequest r => Sys2Proof.Machine.execLocalSyncRequest r s
  | .chainSyncRequest r => Sys2Proof.Machine.execChainSyncRequest r s
  | .syncBroadcast => Sys2Proof.Machine.execSyncBroadcast s
  | .tsyncArm r => Sys2Proof.Machine.execTsyncArm r s
  | .tsync tr via frame agree => Sys2Proof.Machine.execTsync tr via frame agree s
  | .tagReached => Sys2Proof.Machine.execTagReached s
  | .aspectRequest r g w => Sys2Proof.Machine.execAspectRequest r g w s
  | .groupApply r mask => Sys2Proof.Machine.execGroupApply r mask s
  | .aspectSwitch => Sys2Proof.Machine.execAspectSwitch s
  | .sequencerStart r d z => Sys2Proof.Machine.execSequencerStart r d z s
  | .sequencerStop r d z => Sys2Proof.Machine.execSequencerStop r d z s
  | .syncst r d z => Sys2Proof.Machine.execSyncst r d z s
  | .lvl d z => Sys2Proof.Machine.execLvl d z s
  | .rmp d z => Sys2Proof.Machine.execRmp d z s
  | .rampStep d z t => Sys2Proof.Machine.execRampStep d z t s
  | .patternWait d z => Sys2Proof.Machine.execPatternWait d z s
  | .patternWaitEnd d z => Sys2Proof.Machine.execPatternWaitEnd d z s
  | .rot d z => Sys2Proof.Machine.execRot d z s
  | .patternLoop d z => Sys2Proof.Machine.execPatternLoop d z s
  | .next d z => Sys2Proof.Machine.execNext d z s
  | .jmp d z => Sys2Proof.Machine.execJmp d z s
  | .apl d z => Sys2Proof.Machine.execApl d z s
  | .coarseLitEvaluation => Sys2Proof.Machine.execCoarseLitEvaluation s
  | .electricalVerdictPost r n w => Sys2Proof.Machine.execElectricalVerdictPost r n w s
  | .opticalVerdictPost r n w => Sys2Proof.Machine.execOpticalVerdictPost r n w s
  | .fusionTick => Sys2Proof.Machine.execFusionTick s
  | .aspectErrorReport g => Sys2Proof.Machine.execAspectErrorReport g s
  | .aspectReaction g => Sys2Proof.Machine.execAspectReaction g s
  | .opticalDegraded fails => Sys2Proof.Machine.execOpticalDegraded fails s
  | .groupDegradedTimeout g => Sys2Proof.Machine.execGroupDegradedTimeout g s
  | .latchReleaseRequest r ch key => Sys2Proof.Machine.execLatchReleaseRequest r ch key s
  | .codeBalanceQuery r w => Sys2Proof.Machine.execCodeBalanceQuery r w s
  | .inputRangeWrite r x w => Sys2Proof.Machine.execInputRangeWrite r x w s
  | .spotlightSaturation x => Sys2Proof.Machine.execSpotlightSaturation x s
  | .rangeStepDown x => Sys2Proof.Machine.execRangeStepDown x s
  | .dwellStart r pass => Sys2Proof.Machine.execDwellStart r pass s
  | .dwellEnd r => Sys2Proof.Machine.execDwellEnd r s
  | .sweepStart r => Sys2Proof.Machine.execSweepStart r s
  | .sweepWake k fails => Sys2Proof.Machine.execSweepWake k fails s
  | .mapChange => Sys2Proof.Machine.execMapChange s
  | .findingPost r v => Sys2Proof.Machine.execFindingPost r v s
  | .illegal q => Sys2Proof.Machine.execIllegal q s
  | .add q rd rs1 rs2 => Sys2Proof.Machine.execAdd q rd rs1 rs2 s
  | .adc q rd rs1 rs2 => Sys2Proof.Machine.execAdc q rd rs1 rs2 s
  | .sub q rd rs1 rs2 => Sys2Proof.Machine.execSub q rd rs1 rs2 s
  | .sbc q rd rs1 rs2 => Sys2Proof.Machine.execSbc q rd rs1 rs2 s
  | .and q rd rs1 rs2 => Sys2Proof.Machine.execAnd q rd rs1 rs2 s
  | .or q rd rs1 rs2 => Sys2Proof.Machine.execOr q rd rs1 rs2 s
  | .xor q rd rs1 rs2 => Sys2Proof.Machine.execXor q rd rs1 rs2 s
  | .andn q rd rs1 rs2 => Sys2Proof.Machine.execAndn q rd rs1 rs2 s
  | .adds q rd rs1 rs2 => Sys2Proof.Machine.execAdds q rd rs1 rs2 s
  | .subs q rd rs1 rs2 => Sys2Proof.Machine.execSubs q rd rs1 rs2 s
  | .neg q rd rs1 => Sys2Proof.Machine.execNeg q rd rs1 s
  | .negs q rd rs1 => Sys2Proof.Machine.execNegs q rd rs1 s
  | .abs q rd rs1 => Sys2Proof.Machine.execAbs q rd rs1 s
  | .abss q rd rs1 => Sys2Proof.Machine.execAbss q rd rs1 s
  | .min q rd rs1 rs2 => Sys2Proof.Machine.execMin q rd rs1 rs2 s
  | .max q rd rs1 rs2 => Sys2Proof.Machine.execMax q rd rs1 rs2 s
  | .sll q rd rs1 rs2 => Sys2Proof.Machine.execSll q rd rs1 rs2 s
  | .srl q rd rs1 rs2 => Sys2Proof.Machine.execSrl q rd rs1 rs2 s
  | .sra q rd rs1 rs2 => Sys2Proof.Machine.execSra q rd rs1 rs2 s
  | .rol q rd rs1 rs2 => Sys2Proof.Machine.execRol q rd rs1 rs2 s
  | .ror q rd rs1 rs2 => Sys2Proof.Machine.execRor q rd rs1 rs2 s
  | .clz q rd rs1 => Sys2Proof.Machine.execClz q rd rs1 s
  | .popc q rd rs1 => Sys2Proof.Machine.execPopc q rd rs1 s
  | .shiSll q rd rs1 k => Sys2Proof.Machine.execShiSll q rd rs1 k s
  | .shiSrl q rd rs1 k => Sys2Proof.Machine.execShiSrl q rd rs1 k s
  | .shiSra q rd rs1 k => Sys2Proof.Machine.execShiSra q rd rs1 k s
  | .shiRol q rd rs1 k => Sys2Proof.Machine.execShiRol q rd rs1 k s
  | .shiRor q rd rs1 k => Sys2Proof.Machine.execShiRor q rd rs1 k s
  | .mul q rd rs1 rs2 => Sys2Proof.Machine.execMul q rd rs1 rs2 s
  | .mulh q rd rs1 rs2 => Sys2Proof.Machine.execMulh q rd rs1 rs2 s
  | .mulhu q rd rs1 rs2 => Sys2Proof.Machine.execMulhu q rd rs1 rs2 s
  | .mulq q rd rs1 rs2 => Sys2Proof.Machine.execMulq q rd rs1 rs2 s
  | .div q rd rs1 rs2 => Sys2Proof.Machine.execDiv q rd rs1 rs2 s
  | .divs q rd rs1 rs2 => Sys2Proof.Machine.execDivs q rd rs1 rs2 s
  | .divu q rd rs1 rs2 => Sys2Proof.Machine.execDivu q rd rs1 rs2 s
  | .rem q rd rs1 rs2 => Sys2Proof.Machine.execRem q rd rs1 rs2 s
  | .remu q rd rs1 rs2 => Sys2Proof.Machine.execRemu q rd rs1 rs2 s
  | .addi q rd rs1 imm => Sys2Proof.Machine.execAddi q rd rs1 imm s
  | .subi q rd rs1 imm => Sys2Proof.Machine.execSubi q rd rs1 imm s
  | .andi q rd rs1 imm => Sys2Proof.Machine.execAndi q rd rs1 imm s
  | .ori q rd rs1 imm => Sys2Proof.Machine.execOri q rd rs1 imm s
  | .xori q rd rs1 imm => Sys2Proof.Machine.execXori q rd rs1 imm s
  | .addsi q rd rs1 imm => Sys2Proof.Machine.execAddsi q rd rs1 imm s
  | .movi q rd imm => Sys2Proof.Machine.execMovi q rd imm s
  | .ld q rd xs off => Sys2Proof.Machine.execLd q rd xs off s
  | .st q rs xs off => Sys2Proof.Machine.execSt q rs xs off s
  | .ldp q rd xs off => Sys2Proof.Machine.execLdp q rd xs off s
  | .stp q rs xs off => Sys2Proof.Machine.execStp q rs xs off s
  | .ldx q xd xs off => Sys2Proof.Machine.execLdx q xd xs off s
  | .stx q xd xs off => Sys2Proof.Machine.execStx q xd xs off s
  | .vld q vd p xs off => Sys2Proof.Machine.execVld q vd p xs off s
  | .vst q vs p xs off => Sys2Proof.Machine.execVst q vs p xs off s
  | .xaddi q xd xs imm => Sys2Proof.Machine.execXaddi q xd xs imm s
  | .xadd q xd xs r => Sys2Proof.Machine.execXadd q xd xs r s
  | .xaddu q xd xs r => Sys2Proof.Machine.execXaddu q xd xs r s
  | .xgetl q r xs => Sys2Proof.Machine.execXgetl q r xs s
  | .xgeth q r xs => Sys2Proof.Machine.execXgeth q r xs s
  | .xsetl q xd r => Sys2Proof.Machine.execXsetl q xd r s
  | .xseth q xd r => Sys2Proof.Machine.execXseth q xd r s
  | .xcmp q xd xs => Sys2Proof.Machine.execXcmp q xd xs s
  | .xmov q xd xs => Sys2Proof.Machine.execXmov q xd xs s
  | .br q cond disp => Sys2Proof.Machine.execBr q cond disp s
  | .call q disp => Sys2Proof.Machine.execCall q disp s
  | .jmpx q xs => Sys2Proof.Machine.execJmpx q xs s
  | .callx q xs => Sys2Proof.Machine.execCallx q xs s
  | .ret q => Sys2Proof.Machine.execRet q s
  | .rete q => Sys2Proof.Machine.execRete q s
  | .frame q => Sys2Proof.Machine.execFrame q s
  | .unframe q => Sys2Proof.Machine.execUnframe q s
  | .lclr q => Sys2Proof.Machine.execLclr q s
  | .loop q rs disp => Sys2Proof.Machine.execLoop q rs disp s
  | .loopi q count disp => Sys2Proof.Machine.execLoopi q count disp s
  | .mfs q r sr => Sys2Proof.Machine.execMfs q r sr s
  | .mts q r sr => Sys2Proof.Machine.execMts q r sr s
  | .svc q imm => Sys2Proof.Machine.execSvc q imm s
  | .bkpt q imm => Sys2Proof.Machine.execBkpt q imm s
  | .wait q => Sys2Proof.Machine.execWait q s
  | .waitWake q => Sys2Proof.Machine.execWaitWake q s
  | .modeTk q => Sys2Proof.Machine.execModeTk q s
  | .modeSv q => Sys2Proof.Machine.execModeSv q s
  | .fenceL q => Sys2Proof.Machine.execFenceL q s
  | .fenceG q => Sys2Proof.Machine.execFenceG q s
  | .fenceIo q => Sys2Proof.Machine.execFenceIo q s
  | .fenceM q => Sys2Proof.Machine.execFenceM q s
  | .mirrorAck q n => Sys2Proof.Machine.execMirrorAck q n s
  | .mirrorAckTimeout q => Sys2Proof.Machine.execMirrorAckTimeout q s
  | .xcor q a rs clr ref w run => Sys2Proof.Machine.execXcor q a rs clr ref w run s
  | .bmov q rs run => Sys2Proof.Machine.execBmov q rs run s
  | .kcrc q a rs run => Sys2Proof.Machine.execKcrc q a rs run s
  | .vadd q vd vs1 vs2 => Sys2Proof.Machine.execVadd q vd vs1 vs2 s
  | .vsub q vd vs1 vs2 => Sys2Proof.Machine.execVsub q vd vs1 vs2 s
  | .vadds q vd vs1 vs2 => Sys2Proof.Machine.execVadds q vd vs1 vs2 s
  | .vsubs q vd vs1 vs2 => Sys2Proof.Machine.execVsubs q vd vs1 vs2 s
  | .vand q vd vs1 vs2 => Sys2Proof.Machine.execVand q vd vs1 vs2 s
  | .vor q vd vs1 vs2 => Sys2Proof.Machine.execVor q vd vs1 vs2 s
  | .vxor q vd vs1 vs2 => Sys2Proof.Machine.execVxor q vd vs1 vs2 s
  | .vmin q vd vs1 vs2 => Sys2Proof.Machine.execVmin q vd vs1 vs2 s
  | .vmax q vd vs1 vs2 => Sys2Proof.Machine.execVmax q vd vs1 vs2 s
  | .vabs q vd vs1 => Sys2Proof.Machine.execVabs q vd vs1 s
  | .vabss q vd vs1 => Sys2Proof.Machine.execVabss q vd vs1 s
  | .vneg q vd vs1 => Sys2Proof.Machine.execVneg q vd vs1 s
  | .vnegs q vd vs1 => Sys2Proof.Machine.execVnegs q vd vs1 s
  | .vmul q vd vs1 vs2 => Sys2Proof.Machine.execVmul q vd vs1 vs2 s
  | .vmulh q vd vs1 vs2 => Sys2Proof.Machine.execVmulh q vd vs1 vs2 s
  | .vmulq q vd vs1 vs2 => Sys2Proof.Machine.execVmulq q vd vs1 vs2 s
  | .vsll q vd vs1 vs2 => Sys2Proof.Machine.execVsll q vd vs1 vs2 s
  | .vsrl q vd vs1 vs2 => Sys2Proof.Machine.execVsrl q vd vs1 vs2 s
  | .vsra q vd vs1 vs2 => Sys2Proof.Machine.execVsra q vd vs1 vs2 s
  | .vmov q vd vs1 => Sys2Proof.Machine.execVmov q vd vs1 s
  | .vsel q vd vs1 vs2 => Sys2Proof.Machine.execVsel q vd vs1 vs2 s
  | .vceq q vs1 vs2 => Sys2Proof.Machine.execVceq q vs1 vs2 s
  | .vclt q vs1 vs2 => Sys2Proof.Machine.execVclt q vs1 vs2 s
  | .vcltu q vs1 vs2 => Sys2Proof.Machine.execVcltu q vs1 vs2 s
  | .aclr q a => Sys2Proof.Machine.execAclr q a s
  | .amac q a vs1 vs2 => Sys2Proof.Machine.execAmac q a vs1 vs2 s
  | .amsu q a vs1 vs2 => Sys2Proof.Machine.execAmsu q a vs1 vs2 s
  | .aadd q a vs1 => Sys2Proof.Machine.execAadd q a vs1 s
  | .arnd q vd a sh => Sys2Proof.Machine.execArnd q vd a sh s
  | .aspl q vd a p => Sys2Proof.Machine.execAspl q vd a p s
  | .ajoin q a vs p => Sys2Proof.Machine.execAjoin q a vs p s
  | .vbcst q vd r => Sys2Proof.Machine.execVbcst q vd r s
  | .vext q r vs lane => Sys2Proof.Machine.execVext q r vs lane s
  | .vins q vd r lane => Sys2Proof.Machine.execVins q vd r lane s
  | .vsum q r vs => Sys2Proof.Machine.execVsum q r vs s
  | .lxi q xd imm => Sys2Proof.Machine.execLxi q xd imm s
  | .jmpa q imm => Sys2Proof.Machine.execJmpa q imm s
  | .calla q imm => Sys2Proof.Machine.execCalla q imm s
  | .lda q rd imm => Sys2Proof.Machine.execLda q rd imm s
  | .sta q rs imm => Sys2Proof.Machine.execSta q rs imm s
  | .interrupt q => Sys2Proof.Machine.execInterrupt q s
  | .timerExpiry q => Sys2Proof.Machine.execTimerExpiry q s
  | .softInterrupt r q soft => Sys2Proof.Machine.execSoftInterrupt r q soft s
  | .interruptClear r q lines => Sys2Proof.Machine.execInterruptClear r q lines s
  | .dmaGo r k c => Sys2Proof.Machine.execDmaGo r k c s
  | .dmaStop r k c moved => Sys2Proof.Machine.execDmaStop r k c moved s
  | .moveDone k c order => Sys2Proof.Machine.execMoveDone k c order s
  | .ringRecord k c raw => Sys2Proof.Machine.execRingRecord k c raw s
  | .ringReadIndex r k c v => Sys2Proof.Machine.execRingReadIndex r k c v s
  | .scrubPass m a err => Sys2Proof.Machine.execScrubPass m a err s
  | .lockstepMismatch e g => Sys2Proof.Machine.execLockstepMismatch e g s
  | .inputFault e cycles => Sys2Proof.Machine.execInputFault e cycles s
  | .twinPost r t b v => Sys2Proof.Machine.execTwinPost r t b v s
  | .roundTimeout t => Sys2Proof.Machine.execRoundTimeout t s
  | .checkpointCommit r e w => Sys2Proof.Machine.execCheckpointCommit r e w s
  | .spareStart e => Sys2Proof.Machine.execSpareStart e s
  | .takeoverDone r e => Sys2Proof.Machine.execTakeoverDone r e s
  | .waiveEnd t => Sys2Proof.Machine.execWaiveEnd t s
  | .clusterLost k cause => Sys2Proof.Machine.execClusterLost k cause s
  | .safetyInputSample high low => Sys2Proof.Machine.execSafetyInputSample high low s
  | .testPulse k follows => Sys2Proof.Machine.execTestPulse k follows s
  | .testPulseCheck k level => Sys2Proof.Machine.execTestPulseCheck k level s
  | .discrepancy p => Sys2Proof.Machine.execDiscrepancy p s
  | .engineChannelStale f => Sys2Proof.Machine.execEngineChannelStale f s
  | .crossCheckFault f => Sys2Proof.Machine.execCrossCheckFault f s
  | .twohandTimeout f => Sys2Proof.Machine.execTwohandTimeout f s
  | .lampFailureClear a => Sys2Proof.Machine.execLampFailureClear a s
  | .functionReset r w => Sys2Proof.Machine.execFunctionReset r w s
  | .outputRequest r w => Sys2Proof.Machine.execOutputRequest r w s
  | .outputTestPulse k b fell => Sys2Proof.Machine.execOutputTestPulse k b fell s
  | .outputReadback k high => Sys2Proof.Machine.execOutputReadback k high s
  | .stoTestPulse a b => Sys2Proof.Machine.execStoTestPulse a b s
  | .adreqHoldEnd readback => Sys2Proof.Machine.execAdreqHoldEnd readback s
  | .stopTimeout f => Sys2Proof.Machine.execStopTimeout f s
  | .degradedExpiry f => Sys2Proof.Machine.execDegradedExpiry f s
  | .switchRead p0 p1 p2 p3 => Sys2Proof.Machine.execSwitchRead p0 p1 p2 p3 s
  | .sealCheck r => Sys2Proof.Machine.execSealCheck r s
  | .faultEvent => Sys2Proof.Machine.execFaultEvent s
  | .collectorSelfCheckFail src => Sys2Proof.Machine.execCollectorSelfCheckFail src s
  | .tokenRefill c src => Sys2Proof.Machine.execTokenRefill c src s
  | .acknowledge r c all seq => Sys2Proof.Machine.execAcknowledge r c all seq s
  | .firstFaultClear r => Sys2Proof.Machine.execFirstFaultClear r s
  | .errnWrite r low => Sys2Proof.Machine.execErrnWrite r low s
  | .errNPulseEnd => Sys2Proof.Machine.execErrNPulseEnd s
  | .safeOkToggle => Sys2Proof.Machine.execSafeOkToggle s
  | .safeOkKick r => Sys2Proof.Machine.execSafeOkKick r s
  | .kickMissed => Sys2Proof.Machine.execKickMissed s
  | .retry r c src => Sys2Proof.Machine.execRetry r c src s
  | .data tr via frame agree => Sys2Proof.Machine.execData tr via frame agree s
  | .join tr via frame agree => Sys2Proof.Machine.execJoin tr via frame agree s
  | .accept tr via frame agree => Sys2Proof.Machine.execAccept tr via frame agree s
  | .refuse tr via frame agree => Sys2Proof.Machine.execRefuse tr via frame agree s
  | .leave tr via frame agree => Sys2Proof.Machine.execLeave tr via frame agree s
  | .still tr via frame agree => Sys2Proof.Machine.execStill tr via frame agree s
  | .connectionWatchdog c => Sys2Proof.Machine.execConnectionWatchdog c s
  | .dataSend c => Sys2Proof.Machine.execDataSend c s
  | .txCommit r c => Sys2Proof.Machine.execTxCommit r c s
  | .txSend r c => Sys2Proof.Machine.execTxSend r c s
  | .tsyncSend r c => Sys2Proof.Machine.execTsyncSend r c s
  | .joinRetry e => Sys2Proof.Machine.execJoinRetry e s
  | .openCommand r e => Sys2Proof.Machine.execOpenCommand r e s
  | .closeCommand r c => Sys2Proof.Machine.execCloseCommand r c s
  | .busOff k => Sys2Proof.Machine.execBusOff k s
  | .ethernetLinkDown m => Sys2Proof.Machine.execEthernetLinkDown m s
  | .klDown => Sys2Proof.Machine.execKlDown s
  | .timeMeasurement ofs => Sys2Proof.Machine.execTimeMeasurement ofs s
  | .timeSourceLost => Sys2Proof.Machine.execTimeSourceLost s
  | .heartbeatSend => Sys2Proof.Machine.execHeartbeatSend s
  | .heartbeat ok hb delay => Sys2Proof.Machine.execHeartbeat ok hb delay s
  | .partnerLost => Sys2Proof.Machine.execPartnerLost s
  | .tfltClear n => Sys2Proof.Machine.execTfltClear n s
  | .mirrorWrite a w => Sys2Proof.Machine.execMirrorWrite a w s
  | .mirrorTransferBlock b data check theirs => Sys2Proof.Machine.execMirrorTransferBlock b data check theirs s
  | .transferRestart => Sys2Proof.Machine.execTransferRestart s
  | .reenter r => Sys2Proof.Machine.execReenter r s
  | .abort r => Sys2Proof.Machine.execAbort r s
  | .reentryConfirm t ok => Sys2Proof.Machine.execReentryConfirm t ok s
  | .reentryInstant => Sys2Proof.Machine.execReentryInstant s
  | .aspectDifference g => Sys2Proof.Machine.execAspectDifference g s
  | .pairTimeOffset => Sys2Proof.Machine.execPairTimeOffset s
  | .vcoreFail => Sys2Proof.Machine.execVcoreFail s
  | .vcoreReturn => Sys2Proof.Machine.execVcoreReturn s
  | .vanaFail => Sys2Proof.Machine.execVanaFail s
  | .vbakFail => Sys2Proof.Machine.execVbakFail s
  | .supplyMonitor v => Sys2Proof.Machine.execSupplyMonitor v s
  | .vioDip => Sys2Proof.Machine.execVioDip s
  | .handOverCommit vaon => Sys2Proof.Machine.execHandOverCommit vaon s
  | .handOverComplete => Sys2Proof.Machine.execHandOverComplete s
  | .stabilityWindowEnd => Sys2Proof.Machine.execStabilityWindowEnd s
  | .coldStart => Sys2Proof.Machine.execColdStart s
  | .sleepArm r arm => Sys2Proof.Machine.execSleepArm r arm s
  | .sleepEntry wake vhold => Sys2Proof.Machine.execSleepEntry wake vhold s
  | .sleepRefused wake => Sys2Proof.Machine.execSleepRefused wake s
  | .wake level => Sys2Proof.Machine.execWake level s
  | .alarm => Sys2Proof.Machine.execAlarm s
  | .clusterStart r k => Sys2Proof.Machine.execClusterStart r k s
  | .clusterIdleRequest r k => Sys2Proof.Machine.execClusterIdleRequest r k s
  | .clusterIdle k => Sys2Proof.Machine.execClusterIdle k s
  | .chargeInhibit => Sys2Proof.Machine.execChargeInhibit s
  | .chargeResume => Sys2Proof.Machine.execChargeResume s
  | .temperatureConversion raw ds => Sys2Proof.Machine.execTemperatureConversion raw ds s
  | .recordWrite vhold => Sys2Proof.Machine.execRecordWrite vhold s
  | .energyRecheck vhold => Sys2Proof.Machine.execEnergyRecheck vhold s
  | .submission r => Sys2Proof.Machine.execSubmission r s
  | .sageUpdate => Sys2Proof.Machine.execSageUpdate s
  | .sageSnapshot => Sys2Proof.Machine.execSageSnapshot s
  | .marginWalk weak => Sys2Proof.Machine.execMarginWalk weak s
  | .flashRefresh sector fails => Sys2Proof.Machine.execFlashRefresh sector fails s
  | .powerUp => Sys2Proof.Machine.execPowerUp s
  | .resetPin => Sys2Proof.Machine.execResetPin s
  | .softReset r key => Sys2Proof.Machine.execSoftReset r key s
  | .powerCycleRequest r key => Sys2Proof.Machine.execPowerCycleRequest r key s
  | .powerCycleTimeout => Sys2Proof.Machine.execPowerCycleTimeout s
  | .startUp p0 p1 p2 p3 crystal dieBad fcBad snBad sig0 sig1 split proof => Sys2Proof.Machine.execStartUp p0 p1 p2 p3 crystal dieBad fcBad snBad sig0 sig1 split proof s
  | .raise r key => Sys2Proof.Machine.execRaise r key s
  | .read a n arrived busy => Sys2Proof.Machine.execRead a n arrived busy s
  | .write a words incomplete busy => Sys2Proof.Machine.execWrite a words incomplete busy s
  | .status => Sys2Proof.Machine.execStatus s
  | .hostDoorbell r m cnt => Sys2Proof.Machine.execHostDoorbell r m cnt s
  | .deviceDoorbell r m cnt => Sys2Proof.Machine.execDeviceDoorbell r m cnt s
  | .mailboxClear r m dev => Sys2Proof.Machine.execMailboxClear r m dev s
  | .erase r key => Sys2Proof.Machine.execErase r key s
  | .prog r key => Sys2Proof.Machine.execProg r key s
  | .flashCommandComplete differ => Sys2Proof.Machine.execFlashCommandComplete differ s
  | .retrain r => Sys2Proof.Machine.execRetrain r s
  | .klStateChange good => Sys2Proof.Machine.execKlStateChange good s
  | .klLaneFail lane => Sys2Proof.Machine.execKlLaneFail lane s
  | .extest => Sys2Proof.Machine.execExtest s
  | .samplePreload pins => Sys2Proof.Machine.execSamplePreload pins s
  | .idcode => Sys2Proof.Machine.execIdcode s
  | .clamp => Sys2Proof.Machine.execClamp s
  | .highz => Sys2Proof.Machine.execHighz s
  | .bypass => Sys2Proof.Machine.execBypass s
  | .dbgauth valid => Sys2Proof.Machine.execDbgauth valid s
  | .dbgacc op a d => Sys2Proof.Machine.execDbgacc op a d s
  | .debugHalt => Sys2Proof.Machine.execDebugHalt s
  | .resume => Sys2Proof.Machine.execResume s
  | .step => Sys2Proof.Machine.execStep s
  | .debugRegisterWrite v => Sys2Proof.Machine.execDebugRegisterWrite v s
  | .otpWrite => Sys2Proof.Machine.execOtpWrite s
  | .dieLinkRealigned d => Sys2Proof.Machine.execDieLinkRealigned d s
  | .soOverloadTrip k => Sys2Proof.Machine.execSoOverloadTrip k s
  | .vanaReturn => Sys2Proof.Machine.execVanaReturn s
  | .vbakReturn => Sys2Proof.Machine.execVbakReturn s
  | .ethernetLinkUp m => Sys2Proof.Machine.execEthernetLinkUp m s
  | .busOffRecovery k => Sys2Proof.Machine.execBusOffRecovery k s
  | .hostUnknownCommand c => Sys2Proof.Machine.execHostUnknownCommand c s
  | .classStormEmit c => Sys2Proof.Machine.execClassStormEmit c s

end Sys2Proof.Machine
end

