-- ==== Sys2Proof/Machine/Tick.lean ====
section
/-! DEFINITION. One always-on tick of 62.5 ns: what an empty queue lets pass (R29, R74, R230, R382, R446, R462). -/
namespace Sys2Proof.Machine
namespace State

/-- R29, R446: always-on time and device time advance by 1; at most once in 256 ticks a tick is added to device time, or dropped, while a
correction is owed. -/
def tickTime (s : State) : State :=
  let c := s.clock
  let t := s.time + 1
  let s := { s with time := t, devNext := max s.devNext (s.devCount + 1) }
  if c.owed = 0 ∨ t < c.adjAt + 256 then s
  else if 0 < c.owed then { s with devOfs := s.devOfs + 1, clock := { c with owed := c.owed - 1, adjAt := t } }
  else { s with devOfs := s.devOfs - 1, clock := { c with owed := c.owed + 1, adjAt := t } }

/-- R74: the lease timer of an armed channel counts down. -/
def tickLease (s : State) (n : Nat) : State :=
  if s.on (CH_STAT_LARM n) then s.wr (CH_LREM_TICKS n) (s.rd (CH_LREM_TICKS n) - 1) else s

/-- R230: TMR counts down while it is not zero, in every cluster state that keeps engine state; its step from 1 to 0 ends a WAIT. -/
def tickTimer (s : State) (q : Nat) : State :=
  let c := s.core q
  let st := s.rd (PWR_CST_STATE (q / 32))
  if c.tmr = 0 ∨ st = 0 ∨ (st = 2 ∧ (s.clu (q / 32)).kept.isNone) then s
  else s.setCore q { c with tmr := c.tmr - 1, tmrDue := c.tmrDue || c.tmr == 1, tmrHit := c.tmrHit || c.waiting && c.tmr == 1 }

/-- R370, R382: the time left in degraded mode counts in RUN, WATCH and MAINT, and stands in FAULT. -/
def tickDegraded (s : State) (f : Nat) : State :=
  if s.rd (SN_FNST_DEG f) ≠ 0 ∧ s.rd (SN_FNST_STATE f) ≠ 7 ∧ (s.dev = .run ∨ s.dev = .watch ∨ s.dev = .maint) then
    (s.modFn f fun x => { x with degLeft := x.degLeft - 1 }).showDeg f
  else s

/-- R5, R15, R408, R472: the present cycle ends: its events are judged, a request for SLEEP that nothing of the cycle discarded is taken, and what hardware wrote in the
cycle is forgotten. -/
def endCycle (s : State) : State :=
  let s := lineReact 8 s
  let s := match s.pwr.sleepDue with | some v => s.enterSleep v | none => s
  { s with hwNow := [] }

/-- One always-on tick; without the always-on clock there is none (R31, R44). -/
def tick (s : State) : State :=
  let s := s.endCycle
  if s.aonLost then s else
  let s := s.tickTime
  let s := s.each channels tickLease
  let s := s.each (List.range 256) tickTimer
  let s := s.each (List.range 24) tickDegraded
  s.takeDeferred

end State
end Sys2Proof.Machine
end

