-- ==== Sys2Proof/Safety.lean ====
section
/-! DEFINITION. What a safe run is, in the terms that statements use: the form of the stored maps, what may change in one-time memory and
in the queue, and the outputs of a device that is not running, and the conditions under which a register write is accepted. -/
namespace Sys2Proof.Safety
open Sys2Proof.Machine

/-- Every value of a map is a 12-bit word. -/
def wordsOnly (m : SMap Nat) : Bool := m.all fun e => decide (e.2 < 4096)

/-- The maps of memory, OTP, code flash and the registers are in their canonical form, and the memories hold words. -/
structure StoredMaps (mem otp flash regs : SMap Nat) : Prop where
  memForm   : SMap.wf 0 mem = true
  memWords  : wordsOnly mem = true
  otpForm   : SMap.wf 0 otp = true
  otpWords  : wordsOnly otp = true
  codeForm  : SMap.rising flash 0 = true
  codeWords : wordsOnly flash = true
  regForm   : SMap.rising regs 0 = true
/-- What the device stores is in its canonical form. -/
def Stored (s : State) : Prop := StoredMaps s.mem s.otp s.flash s.regs

/-- R528, R545: no bit of OTP that is 1 in `s` is 0 in `t`. -/
def OtpKept (s t : State) : Prop := ∀ a b, b < 12 → (s.otpWord a).testBit b = true → (t.otpWord a).testBit b = true

/-- R4: a device that has started and is in SAFE stays there, unless it is reset. -/
def SafeKept (s t : State) : Prop := s.dev = .safe → s.up = true → t.dev = .safe ∨ t.up = false

/-- R373: SO0 to SO7 are de-energised, and STO is requested on both lines. -/
def OutputsOff (s : State) : Prop := (∀ k, k < 8 → s.soOn k = false) ∧ s.torqueA = false ∧ s.torqueB = false

/-- The queue is as it was. -/
def QueueKept (s t : State) : Prop := t.pending = s.pending

/-! ### What a command leaves as it was -/

/-- Every register field but those listed reads as before. -/
def FieldsKept (l : List Fld) (s t : State) : Prop := ∀ f, (∀ g ∈ l, f.key ≠ g.key) → t.rd f = s.rd f

/-- The fields that a restart of the proof of channel n writes (R163). -/
def proofFields (n : Nat) : List Fld := [CH_PVER_EXPLIT n, CW_CVER_CVER n, CH_PVER_STATE n]
/-- The fields that bringing the applied value of channel n up to date writes (R145, R158, R163, R454). -/
def applFields (n : Nat) : List Fld := [CH_APPL_VALUE n, CH_SHST_CLAMP n, CH_SHST_DIS n, CH_SHST_ACLOOP n] ++ proofFields n
/-- The fields that the entry of channel n into its safe-state generator writes (R82, R83, R125, R454). -/
def safeGenFields (n : Nat) : List Fld :=
  [CH_STAT_FROZEN n, CH_DRES_RESIDUE n] ++ applFields n ++ (if n % 2 = 0 then CH_STAT_FROZEN (n + 1) :: applFields (n + 1) else [])
/-- The fields that the safe-state latch of channel n writes: its own, and those of the two generators it may govern (R49, R81). -/
def latchFields (n : Nat) : List Fld := [CH_SSTAT_LATCH n, CH_SSTAT_CAUSE n] ++ safeGenFields n ++ (if n % 2 = 0 then safeGenFields (n + 1) else [])
/-- The state without its registers, the marks of R15 on them, and what the channels hold: generators, protection, proof, dwell flags, the
optical instant. -/
def chanless (s : State) : State := { s with regs := [], hwNow := [], gens := [], prots := [], prfs := [], rxs := [], optSince := none }

/-- Of a numbered family, only entry n may differ. -/
def ElseSame {α : Type} (f g : Nat → α) (n : Nat) : Prop := ∀ m, m ≠ n → f m = g m

/-- The word at a key lies in the memory of cluster k, or in the engine-local memory of one of its cores. -/
abbrev HeldBy (k key : Nat) : Prop := key / 0x1000000 = k + 1 ∨ (16 ≤ key / 0x1000000 ∧ (key / 0x1000000 - 16) / 32 = k)
/-- R34, R401, R373, R397: what an entry into SAFE leaves: every latch set, every configured function in FAULT, no cluster but the fault
handler's, nor any word of its memories, the host interrupt and ERR_N asserted, the outputs off. -/
structure SafeEntered (s t : State) : Prop where
  state    : t.dev = .safe
  latches  : ∀ n, n < 192 → t.on (CH_SSTAT_LATCH n) = true
  causes   : ∀ n, n < 192 → s.on (CH_SSTAT_LATCH n) = false → t.rd (CH_SSTAT_CAUSE n) = 3
  fns      : ∀ f, f < 24 → s.rd (SN_FNCFG_TYPE f) ≠ 0 → t.rd (SN_FNST_STATE f) = 7
  clusters : ∀ k, k < 8 → k ≠ s.rd FC_CFG_FHCLU → t.rd (PWR_CST_STATE k) = 0
  host     : t.bit HIF_IPEND_LINES 10 = true
  errN     : t.rd FC_ERRN_PIN = 0
  outputs  : OutputsOff t
  memories : t.flash = s.flash ∧ t.otp = s.otp ∧ (∀ k key : Nat, k < 8 → k ≠ s.rd FC_CFG_FHCLU → HeldBy k key → t.peek key = 0) ∧
    ∀ key : Nat, (∀ k, k < 8 → k ≠ s.rd FC_CFG_FHCLU → ¬HeldBy k key) → t.peek key = s.peek key

/-- The memories are as they were. -/
def MemoriesKept (s t : State) : Prop := t.mem = s.mem ∧ t.flash = s.flash ∧ t.otp = s.otp
/-- R141: group g has switched to aspect a: SN_AGACT shows it, and every channel of the group that is neither in a range hold nor frozen has
its slot in the applied values: DARK 0 from the engine source, LIT its value from the engine source, PATTERN the pattern source. -/
def Switched (s t : State) (g a : Nat) : Prop :=
  t.rd (SN_AGACT_ASP g) = a ∧ t.rd (SN_AGACT_VALID g) = 1 ∧ t.rd (SN_AGACT_SAFE g) = s.rd (SN_ASP_SAFE a) ∧
  ∀ n, n < 192 → s.rd (CH_AGRP_GEN n) = 1 → s.rd (CH_AGRP_GRP n) = g → s.rd (SN_ASP_GROUP a) = g →
    s.rd (CH_STAT_RHOLD n) = 0 → s.rd (CH_STAT_FROZEN n) = 0 →
    (s.rd (CH_SLOT_KIND n a) ≠ 0 → t.rd (CH_SHST_PEND n) = 0 ∧ t.rd (CH_SHST_HOACT n) = 0) ∧
    (s.rd (CH_SLOT_KIND n a) = 1 → t.rd (CH_SHST_ASRC n) = 0 ∧ if s.rd (CH_CFG_TOPO n) = 2 then (t.prot n).appRef = 0 else (t.prot n).appDuty = 0) ∧
    (s.rd (CH_SLOT_KIND n a) = 2 → t.rd (CH_SHST_ASRC n) = 0 ∧
      if s.rd (CH_CFG_TOPO n) = 2 then (t.prot n).appRef = s.rd (CH_SLOT_VALUE n a) % 4096 else (t.prot n).appDuty = s.rd (CH_SLOT_VALUE n a)) ∧
    (s.rd (CH_SLOT_KIND n a) = 3 → t.rd (CH_SHST_ASRC n) = 1)

/-- R300, R301: what a record of a stream leaves at RING c of cluster k. Where the cluster does not run, or the record does not fit whole,
DROP counts and no word is written. Else its words stand from WIDX on, WIDX goes on by its length, the two words at IXA show it where
IXEN = 1, no other word changes, and line 3 of the core named is set where the fill reaches the watermark. -/
def RingTook (s t : State) (k c : Nat) (l : List Nat) : Prop :=
  let size := s.rd (DLEN_LEN k c)
  let w := s.rd (DWIDX_WIDX k c)
  let fill := (w + size - s.rd (DRIDX_RIDX k c)) % size
  let fits := s.cluRuns k && decide (fill + l.length ≤ size - 1)
  let at0 := clusterKey k (s.rd (DDST_DST k c) + w)
  let ix := clusterKey k (s.rd (DLIM_LIM k c))
  let mark := 2 * s.rd (DCFG_WM k c) * size / 8
  (fits = false → t.rd (DROP_COUNT k c) = min 4095 (s.rd (DROP_COUNT k c) + 1) ∧ t.rd (DWIDX_WIDX k c) = w ∧ t.mem = s.mem) ∧
  (fits = true → t.rd (DROP_COUNT k c) = s.rd (DROP_COUNT k c) ∧ t.rd (DWIDX_WIDX k c) = (w + l.length) % size ∧
    (∀ key : Nat, t.peek key =
      if s.rd (DCFG_IXEN k c) = 1 ∧ key = ix then (w + l.length) % size % 4096
      else if s.rd (DCFG_IXEN k c) = 1 ∧ key = ix + 1 then (w + l.length) % size / 4096 % 4096
      else if at0 ≤ key ∧ key < at0 + l.length then l.getD (key - at0) 0 % 4096
      else s.peek key) ∧
    (s.rd (DCFG_WM k c) ≠ 0 → fill < mark → mark ≤ fill + l.length → s.noCore (s.dmaCore k c) = false → t.bit (PWR_IPEND_LINES (s.dmaCore k c)) 3 = true))

/-! ### Cores of Evsum-12 -/

/-- R222 to R229: every register of a core holds a value of its width: scalar registers and lanes of V words, X and LK addresses, lanes of A
36 bits, and the special registers as many bits as they have. -/
structure CoreSized (c : Core) : Prop where
  words : ∀ k, c.reg k < (if k < 144 then 4096 else if k < 160 then 2 ^ 24 else if k < 672 then 4096 else 2 ^ 36)
  state : c.wp < 8 ∧ c.wv < 256 ∧ c.ps < 2048 ∧ c.eps < 4096 ∧ c.ecause < 4096 ∧ c.lc < 4096 ∧ c.mask < 2 ^ 32
  addrs : c.pc < 2 ^ 24 ∧ c.epc < 2 ^ 24 ∧ c.lb < 2 ^ 24 ∧ c.le < 2 ^ 24 ∧ c.tmr < 2 ^ 24
  slot  : ∀ x, c.slot = some x → x.owner < 2 ^ 24 ∧ x.next < 2 ^ 24

/-- Core q is at an instruction of `len` words that it may fetch, with its registers in their widths: started and running, not waiting, no
halt, step or breakpoint before it. -/
structure Issues (s : State) (q len : Nat) : Prop where
  ready : s.ready q = true
  free  : (s.core q).halted = false ∧ (s.core q).step = false ∧ (s.core q).haltDue = false
  point : s.breakpoint q = none
  fetch : s.fetchFault q len = none
  sized : CoreSized (s.core q)
/-- R232 to R235: the code of an instruction stands at the PC of its core, with its immediate. -/
def Stands (s : State) (i : Instr) : Prop :=
  ∃ q code free imm, codeOf i = some (q, code, free, imm) ∧ s.codeAt q ||| free = code ||| free ∧ ∀ x, imm = some x → s.immAt q = x
/-- It stands neither in a delay slot nor at the end of a loop that goes on: where the instructions of R259 and R265 may stand. -/
structure Alone (s : State) (q : Nat) : Prop where
  noSlot : (s.core q).slot = none
  noLoop : (s.core q).pc ≠ (s.core q).le ∨ (s.core q).lc = 0

/-- R258, R263, R272: `e` is the core `d` after an instruction of `len` words has completed: the PC passes to the target of the transfer whose delay
slot this was, else to the begin of a loop that goes round again, else over the end of a loop that is over, else to the next
instruction; LC counts at a loop end; MR clears; the register file and the status bits are those of `d` but for the ones listed. -/
def Retires (d e : Core) (len : Nat) (regs flags : List Nat) : Prop :=
  let jump := d.slot.any (·.taken)
  let round := !jump && decide (d.pc = d.le) && decide (d.lc ≠ 0)
  e.pc = (match d.slot with
    | some ⟨_, n, true⟩ => n
    | _ => if round = false then (d.pc + len) % 2 ^ 24 else if d.lc = 1 then (d.le + 2) % 2 ^ 24 else d.lb) ∧
  e.lc = (if round then d.lc - 1 else d.lc) ∧ e.slot = none ∧ e.psBit 10 = false ∧ (e.shadow, e.mid, e.waiting, e.bpPass, e.loadAt) = (false, false, false, false, none) ∧
  (∀ k, k ∉ regs → e.reg k = d.reg k) ∧ (∀ i, i < 10 → i ∉ flags → e.psBit i = d.psBit i) ∧
  { e with file := d.file, ps := d.ps, pc := d.pc, lc := d.lc, slot := d.slot, shadow := d.shadow, mid := d.mid, waiting := d.waiting,
           fence := d.fence, bpPass := d.bpPass, loadAt := d.loadAt } = d
/-- Core q retires its instruction so, and nothing else of the machine changes. -/
def Completes (s t : State) (q len : Nat) (regs flags : List Nat) : Prop :=
  Retires (s.core q) (t.core q) len regs flags ∧ ElseSame t.core s.core q ∧ { t with cores := s.cores } = s
/-- The key of scalar register i of core q, for the list of registers that an instruction writes; G0 is none. -/
def dest (s : State) (q i : Nat) : List Nat := if i = 0 then [] else [scalarKey (s.core q).wp i]
/-- R241, R242: the instruction completes with a result in scalar register rd: N and Z follow it, C and V are as given (none: unchanged), SAT and DZ are
set where it clamped or divided by zero; G0 stays 0. -/
def Computes (s t : State) (q rd val : Nat) (c v : Option Bool := some false) (sat dz : Bool := false) : Prop :=
  let e := t.core q
  let p := s.core q
  Completes s t q 2 (dest s q rd) [0, 1, 2, 3, 4, 5] ∧ e.r rd = (if rd = 0 then 0 else val) ∧
  e.psBit 3 = val.testBit 11 ∧ e.psBit 2 = decide (val = 0) ∧ e.psBit 0 = c.getD (p.psBit 0) ∧ e.psBit 1 = v.getD (p.psBit 1) ∧
  e.psBit 5 = (p.psBit 5 || sat) ∧ e.psBit 4 = (p.psBit 4 || dz)

/-- R281, R282: core q of `s` has entered an exception in `t`, from core `d`: the return address, the status with DS in bit 11, the cause and
its detail are saved; MODE is SV, interrupts and the vector mask are off, MR clears; the next window is taken; the PC is the vector. -/
def Enters (s t : State) (d : Core) (q cause detail epc : Nat) (ds : Bool) : Prop :=
  let e := t.core q
  e.epc = epc ∧ e.eps = d.ps + 2048 * ds.toNat ∧ e.ecause = cause + 16 * detail ∧ e.pc = (128 * s.rd (PWR_VBASE_BASE (q / 32)) + 8 * cause) % 2 ^ 24 ∧
  e.wp = (d.wp + 1) % 8 ∧ e.live e.wp = true ∧ (∀ w, w < 8 → w ≠ e.wp → e.live w = d.live w) ∧
  e.psBit 8 = true ∧ e.psBit 7 = false ∧ e.psBit 9 = false ∧ e.psBit 10 = false ∧ (∀ i, i < 7 → e.psBit i = d.psBit i) ∧
  e.slot = none ∧ (e.shadow, e.mid, e.waiting) = (false, false, false) ∧ (∀ k, e.reg k = d.reg k) ∧
  (e.lc, e.lb, e.le, e.mask, e.tmr, e.run, e.stopped) = (d.lc, d.lb, d.le, d.mask, d.tmr, d.run, d.stopped)
/-- R283: a fault of the instruction at the PC: the return address is the instruction, or the transfer that owns its delay slot, with DS = 1. -/
def Faults (s t : State) (q cause detail : Nat) : Prop :=
  Enters s t (s.core q) q cause detail ((s.core q).slot.elim (s.core q).pc (·.owner)) (s.core q).slot.isSome
/-- R281: the window after the current one is free, so an exception can be entered. -/
abbrev Room (s : State) (q : Nat) : Prop := (s.core q).live ((s.core q).wp + 1) = false

/-- R258: core q has executed a transfer of `len` words: the instruction after it stands in its delay slot, after which control passes to the target if
it is taken, else to the instruction after the slot. The registers are those of before but for the ones listed; nothing else changes. -/
def Transfers (s t : State) (q len target : Nat) (taken : Bool) (regs : List Nat) : Prop :=
  let d := s.core q
  let e := t.core q
  e.slot = some ⟨d.pc, if taken then target else (d.pc + len + 2) % 2 ^ 24, taken⟩ ∧ e.pc = (d.pc + len) % 2 ^ 24 ∧
  e.psBit 10 = false ∧ (∀ i, i < 10 → e.psBit i = d.psBit i) ∧ (e.shadow, e.mid, e.bpPass) = (false, false, false) ∧ (∀ k, k ∉ regs → e.reg k = d.reg k) ∧
  { e with file := d.file, ps := d.ps, pc := d.pc, slot := d.slot, shadow := d.shadow, mid := d.mid, bpPass := d.bpPass } = d ∧
  ElseSame t.core s.core q ∧ { t with cores := s.cores } = s
/-- R279: the instruction completes and then enters an exception; the return address is where it would have gone on. -/
def Traps (s t : State) (q cause detail : Nat) : Prop :=
  ∃ u : State, Completes s u q 2 [] [] ∧ Enters u t (u.core q) q cause detail (u.core q).pc false ∧ ElseSame t.core s.core q ∧ { t with cores := s.cores } = s

/-! ### Safety functions and outputs -/

/-- R355, R371, R373: what shows the permits of the functions and the outputs. -/
def outFields : List Fld := (List.range 24).flatMap (fun f => [SN_FNST_PA f, SN_FNST_PB f]) ++ [SN_OUTST_SOON, SN_OUTST_TORQUE, SN_OUTST_AD]
/-- R355, R359, R371, R373: the permits, the energised outputs and the torque lines are shown as they stand: an output is on where it is requested, the
device state lets it, it is not held, and every function that gates it permits on both channels. -/
structure OutputsShown (t : State) : Prop where
  permits : ∀ f, f < 24 → t.on (SN_FNST_PA f) = t.permitA f ∧ t.on (SN_FNST_PB f) = t.permitB f
  outputs : ∀ k, k < 8 → t.bit SN_OUTST_SOON k = (t.bit SN_OUTREQ_SOREQ k && (t.dev == .run || (t.dev == .watch && t.bit SN_OUTCFG_WATCHEN k)) &&
    !t.sio.soHeld.contains k && !t.pwr.gatesOff && (List.range 24).all fun f => !t.bit (SN_FNCFG_SOMASK f) k || (t.permitA f && t.gateB f))
  torque  : t.on SN_OUTST_TORQUE = (t.on SN_OUTREQ_STOREQ && t.dev == .run && !t.sio.stoHeld && !t.pwr.gatesOff &&
    (List.range 24).all fun f => !t.on (SN_FNCFG_STO f) || (t.permitA f && t.gateB f))
/-- R380: no function is fed by twin pair t. -/
def Unfed (s : State) (t : Nat) : Prop := ∀ f, f < 24 → s.rd (SN_FNCFG_TWIN f) ≠ t

/-- R499, R500: in `t` the write that `s` has next is deferred, by temperature or for want of energy: nothing is stored, and a deferral that is not in force
for the same reason begins and is counted. -/
def WriteDeferred (s t : State) (temp : Bool) : Prop :=
  t.rd REC_STAT_STATE = (if temp then 5 else 4) ∧ t.coll = s.coll ∧ MemoriesKept s t ∧
  if s.recs.defAt ≠ none ∧ s.recs.defT = temp then t.recs = s.recs ∧ t.rd REC_DEFCNT_COUNT = s.rd REC_DEFCNT_COUNT
  else t.recs = { s.recs with defAt := some s.time, defT := temp, rep := false } ∧ t.rd REC_DEFCNT_COUNT = min 4095 (s.rd REC_DEFCNT_COUNT + 1)

/-- R16, R34, R468, R518: `t` is `s` after a device reset with a cause: in WATCH and not started, held until the supplies are good; the non-volatile memories, device time and the fields that a reset keeps
are as they were, PWR_GEN has gone on, the system items come from their newer correct copy (R495), every other field is at its reset value, but the read index of the
ring; no core runs and no memory is kept. -/
structure IsReset (s t : State) (cause : Nat) : Prop where
  state  : (t.dev, t.up, t.devAt, t.watchAt, t.time, t.devTime) = (DevState.watch, false, none, s.time, s.time, s.devTime)
  pwr    : t.pwr = { released := s.suppliesGood, pcycFlag := s.pwr.pcycFlag }
  cause  : t.rd HIF_RSTCAUSE_CAUSE = cause
  gen    : t.rd PWR_GEN_GEN = if s.rd PWR_GEN_GEN = 4095 then 1 else s.rd PWR_GEN_GEN + 1
  fields : ∀ f, f.addr ≠ HIF_RSTCAUSE_CAUSE.addr → f.addr ≠ PWR_GEN_GEN.addr → f.addr ≠ FC_LRIDX_INDEX.addr →
    (∀ i ∈ [2, 3, 4, 5, 6], f.addr ≠ (State.sysField i).addr) → t.rd f = if State.keptByReset f.key = true then s.rd f else f.reset % 2 ^ f.width
  system : ∀ i ∈ [2, 3, 4, 5, 6], (∀ v, s.newestCopy i = some v → t.rd (State.sysField i) = v % 2 ^ (State.sysField i).width) ∧
    (s.recs.sys.get {} i = {} → t.rd (State.sysField i) = State.reset.rd (State.sysField i))
  stores : t.flash = s.flash ∧ t.otp = s.otp ∧ t.sage.now.life = s.sage.now.life ∧ t.sage.snap = s.sage.snap
  memory : ∀ a : Nat, region a ≠ .flash → t.peek a = if 0x800000 ≤ a ∧ a < 0x900000 then s.peek a else 0
  empty  : (t.cores, t.gens, t.staged, t.captured, t.conns, t.clus) = ([], [], [], [], [], [])
  off    : OutputsOff t

/-! ### Accepted writes (R10 to R14, R38, R39) -/

/-- A whole write of the value v to register `reg` leaves the requester (R314) and reaches it (R21, R34, R44), is permitted to the requester, fits the register, carries no 1 in a reserved field, and
changes no field that is locked. -/
structure Accepts (s : State) (r : Requester) (reg : Reg) (v : Nat) : Prop where
  reached : s.unreached (reg.addr + reg.words - 1) = false ∧ s.silent r = false
  may     : s.mayWrite r reg = true
  fits    : v < 4096 ^ reg.words
  defined : ∀ i, i < reg.words → reg.reservedSet i (bits v (12 * i) 12) = false
  free    : s.sealed = true → ∀ f ∈ reg.fields, s.lockable f.acc = true → f.of v = s.rd f
/-- A write that gives field f the value x and leaves the register's other fields as they are is accepted. -/
abbrev AcceptsField (s : State) (r : Requester) (reg : Reg) (f : Fld) (x : Nat) : Prop := Accepts s r reg (f.into x (s.held reg))
/-- A write of the register leaves the requester and reaches it, and the requester is permitted to make it. -/
structure Permits (s : State) (r : Requester) (reg : Reg) : Prop where
  reached : s.unreached (reg.addr + reg.words - 1) = false ∧ s.silent r = false
  may   : s.mayWrite r reg = true

end Sys2Proof.Safety
end

