-- ==== Sys2Proof/Certificates/Slice0/Obligations.lean ====
section
/-! DEFINITION. The statements about the model, for the provers. -/

open Sys2Proof Sys2Proof.Machine Sys2Proof.Safety

/-- A step takes the command at the front of the queue and runs it with the rest (the cut of this row: a block that takes commands). -/
def Obligations.StepRunsFrontCommand : Prop :=
  ∀ (c : Instr) (r : List Instr) (s : State), s.pending = c :: r → step s = exec c { s with pending := r }

/-- One always-on tick (R15, R29, R74, R230), which the model lets pass on an empty queue (log entry 1, DESIGN CHOICE). -/
def Obligations.EmptyQueueLetsOneTickPass : Prop :=
  ∀ s : State, s.pending = [] → s.pwr.sleepDue = none → s.clock.owed = 0 → s.pair.deferTo = none → s.pair.late = [] →
    ∃ t, step s = .next t ∧ t.time = s.time + 1 ∧ t.devTime = (s.devTime + 1) % 2 ^ 48 ∧ t.pending = [] ∧
      (∀ n, n < 192 → t.rd (CH_LREM_TICKS n) = if s.on (CH_STAT_LARM n) then s.rd (CH_LREM_TICKS n) - 1 else s.rd (CH_LREM_TICKS n)) ∧
      (∀ q, q < 256 → (t.core q).tmr = (if s.rd (PWR_CST_STATE (q / 32)) = 0 ∨ (s.rd (PWR_CST_STATE (q / 32)) = 2 ∧ (s.clu (q / 32)).kept = none) then (s.core q).tmr
          else (s.core q).tmr - 1) ∧
        (t.core q).tmrDue = ((s.core q).tmrDue || ((s.core q).tmr == 1 && (t.core q).tmr == 0))) ∧ t.hwNow = [] ∧
      t.mem = s.mem ∧ t.flash = s.flash ∧ t.otp = s.otp ∧ t.gens = s.gens ∧ t.inps = s.inps ∧ t.coll = s.coll

/-- The state after reset. -/
def Obligations.ResetStateIsAsTheMapsSay : Prop :=
  State.reset.pending = [] ∧ (∀ f : Fld, State.reset.rd f = f.reset % 2 ^ f.width) ∧ Stored State.reset ∧
    State.reset.mem = [] ∧ State.reset.otp = [] ∧ State.reset.flash = [] ∧ OutputsOff State.reset ∧ ∀ q, CoreSized (State.reset.core q)

/-- The canonical form of what the device stores is an invariant of every step. -/
def Obligations.EveryStepKeepsStoredForm : Prop :=
  ∀ s t : State, Stored s → step s = .next t → Stored t

/-- R528, R545: OTP bits are set only. -/
def Obligations.OneTimeMemoryKeepsItsOnes : Prop :=
  ∀ s t : State, step s = .next t → OtpKept s t

/-- R4: only a device reset leaves SAFE. -/
def Obligations.SafeIsLeftOnlyByDeviceReset : Prop :=
  ∀ s t : State, step s = .next t → SafeKept s t

/-- Every row of the table has an effect in every state, and none touches the queue. -/
def Obligations.EveryCommandCompletesAndLeavesTheQueue : Prop :=
  ∀ (i : Instr) (s : State), ∃ t, exec i s = .next t ∧ QueueKept s t

/-- R39, R294, R302, R369, R530: refused writes. -/
def Obligations.RefusedAccessChangesNoRegister : Prop :=
  ∀ (s : State) (a : Addr) (w : Word), s.unreached a.toNat = false →
    let denied := fun r : Requester => ∀ reg, regAt a.toNat = some reg → s.mayWrite r reg = false ∧
      reg.name ∉ [.FC_FCLR, .FC_ACK, .FC_ERRN, .FC_SOK, .FC_RETRY, .CH_EVER, .CH_OVER, .SN_TWRA, .SN_TWRB, .PWR_CKCMT, .HIF_RST, .HIF_PCYC, .CH_KICK, .CH_OWNER]
    let own := fun u : State => if (regAt a.toNat).any (fun reg => reg.name ∈ [.SN_OUTREQ, .SN_FNRST, .SN_LCLR, .SEAL_CMD]) then u.report clCfg 0xE21 1 12 else u
    (∀ (k : Fin 8) (c : Fin 32), denied (.dma k c) →
      ∃ t, exec (.registerWrite (.dma k c) a w) s = .next t ∧ t.coll = (own (s.report clMem (0x200 + 32 * k + c) 1 (4 + k))).coll ∧
        (s.rd (DSTAT_STATE k c) = 1 → t.rd (DSTAT_STATE k c) = 3 ∧ t.rd (DSTAT_ERR k c) = 1 ∧ (s.rd (DCFG_KIND k c) = 0 → t.rd (DLEN_LEN k c) = 0) ∧
          FieldsKept ([DSTAT_STATE k c, DSTAT_ERR k c, PWR_IPEND_LINES (s.dmaCore k c)] ++ (if s.rd (DCFG_KIND k c) = 0 then [DLEN_LEN k c] else [])) s t ∧ { t with regs := s.regs, coll := s.coll, hwNow := s.hwNow } = s) ∧
        (s.rd (DSTAT_STATE k c) ≠ 1 → { t with coll := s.coll } = s)) ∧
    (denied .debug → exec (.registerWrite .debug a w) s = .next (own (s.report clMem 0x131 1 13))) ∧
    (denied .host → ∃ t, exec (.registerWrite .host a w) s = .next t ∧ t.rd HIF_STAT_ERR = 1 ∧ t.rd HIF_ERRADR_ADDR = a.toNat ∧
        FieldsKept [HIF_STAT_ERR, HIF_ERRADR_ADDR] s t ∧ t.coll = (own (s.report clMem 0x130 1 13)).coll ∧
        { t with regs := s.regs, coll := s.coll, hwNow := s.hwNow } = s) ∧
    (∀ q : Fin 256, (s.executes q = false → exec (.registerWrite (.core q) a w) s = .next s) ∧
      (s.executes q = true → denied (.core q) → Room s q → ∃ t, exec (.registerWrite (.core q) a w) s = .next t ∧ Faults s t q 4 1 ∧ ElseSame t.core s.core q ∧
        { t with cores := s.cores } = own (s.report clMem (0x180 + q / 2) 1 (4 + q / 32))))

/-- R12: multi-word registers. -/
def Obligations.RegisterWordsAreStagedWrittenAndCaptured : Prop :=
  (∀ (s : State) (r : Requester) (a : Addr) (w : Word) (reg : Reg), s.unreached a.toNat = false → s.silent r = false → regAt a.toNat = some reg → s.mayWrite r reg = true →
    a.toNat - reg.addr + 1 < reg.words →
    ∃ t, exec (.registerWrite r a w) s = .next t ∧ t.staged.get none (reqKey r a.toNat) = some w.toNat ∧
      (∀ k, k ≠ reqKey r a.toNat → t.staged.get none k = s.staged.get none k) ∧ { t with staged := s.staged } = s) ∧
  (∀ (s : State) (r : Requester) (w : Word), Permits s r HIF_FLADR →
    ∃ t, exec (.registerWrite r 0xD90012 w) s = .next t ∧
      t.rd HIF_FLADR_ADDR = 4096 * w.toNat + (match s.staged.get none (reqKey r 0xD90011) with | some x => x | none => s.rd HIF_FLADR_ADDR) % 4096 ∧
      t.staged.get none (reqKey r 0xD90011) = none ∧ (∀ k, k ≠ reqKey r 0xD90011 → t.staged.get none k = s.staged.get none k) ∧
      FieldsKept [HIF_FLADR_ADDR] s t ∧ { t with regs := s.regs, staged := s.staged } = s) ∧
  (∀ (s : State) (r : Requester) (a : Addr) (reg : Reg), s.unreached a.toNat = false → s.silent r = false → regAt a.toNat = some reg → reg.addr = a.toNat →
    s.mayRead r reg = true →
    ∃ t, exec (.multiwordReadCapture r a) s = .next t ∧
      (∀ j, j + 1 < reg.words → t.capture? r (reg.addr + j + 1) = some (bits (s.regValue reg) (12 * (j + 1)) 12)) ∧
      { t with captured := s.captured } = s)

/-- R14 and a range of the register map, on PWR_HCAP. -/
def Obligations.SealedFieldKeepsItsValue : Prop :=
  ∀ (s : State) (r : Requester) (w : Word), Permits s r PWR_HCAP → 10 ≤ s.rd PWR_HCAP_CAP →
    ∃ t, exec (.registerWrite r 0xD40043 w) s = .next t ∧ FieldsKept [PWR_HCAP_CAP] s t ∧ { t with regs := s.regs, coll := s.coll } = s ∧
      if s.sealed then t.rd PWR_HCAP_CAP = s.rd PWR_HCAP_CAP ∧
          t.coll = if w.toNat = s.rd PWR_HCAP_CAP then s.coll else (s.flag 0xD40043 1 1).coll
        else t.rd PWR_HCAP_CAP = max 10 w.toNat ∧ t.coll = if 10 ≤ w.toNat then s.coll else (s.flag 0xD40043 0 2).coll

/-- R21, R52, R53, R86: the supplies and the link of a channel die. -/
def Obligations.DieSupplyEventsHoldTheGates : Prop :=
  ∀ (s : State) (d : Fin 4),
    let carFields := (List.range 3).flatMap fun q => [CAR_STAT_STATE d q, CAR_STAT_ERR d q, CAR_STAT_DEPTH d q] ++ (List.range 8).map fun k => CAR_TRK_VALUE d q k
    let still := ∀ n, n / 48 = d.val → s.on (CH_SHST_ASRC n) = false ∧ s.activeKind n ≠ 3
    (∃ t, exec (.vdrvFail d) s = .next t ∧
      (∀ e, e < 4 → t.bit PWR_SUPST_VDRVOK e = (s.bit PWR_SUPST_VDRVOK e && e != d.val)) ∧ t.die d = { s.die d with vdrvHold := true } ∧ ElseSame t.die s.die d ∧
      (∀ n, n / 48 = d.val → (t.gen n).hg = false ∧ (t.gen n).lg = false) ∧
      (∀ q, q < 3 → t.rd (CAR_STAT_STATE d q) = 0 ∧ ∀ k, k < 8 → t.rd (CAR_TRK_VALUE d q k) = 0) ∧ t.dev = s.dev ∧ t.cores = s.cores ∧ MemoriesKept s t ∧
      (still →
        (∀ n : Nat, t.gen n = if n / 48 = d.val then s.seenGates n { s.gen n with hg := false, lg := false, phase := if (s.gen n).phase = .idle then .idle else .wait } else s.gen n) ∧
        t.coll = (if (dieChannels d).any (fun n => s.on (CH_CFG_EN n)) then s.report clPwr (0xC00 + 16 * d) 3 d else s).coll ∧ (∀ q, q / 3 ≠ d.val → t.seqr q = s.seqr q) ∧
        FieldsKept (PWR_SUPST_VDRVOK :: carFields) s t ∧ { t with regs := s.regs, dies := s.dies, gens := s.gens, seqrs := s.seqrs, coll := s.coll } = s)) ∧
    (∃ t, exec (.lbusFail d) s = .next t ∧
      (∀ e, e < 4 → t.bit PWR_SUPST_LBUSOK e = (s.bit PWR_SUPST_LBUSOK e && e != d.val)) ∧ t.die d = { s.die d with lbusHold := true } ∧ ElseSame t.die s.die d ∧
      (∀ n, n / 48 = d.val → (t.gen n).hg = false ∧ (t.gen n).lg = false) ∧
      (∀ q, q < 3 → t.rd (CAR_STAT_STATE d q) = 0 ∧ ∀ k, k < 8 → t.rd (CAR_TRK_VALUE d q k) = 0) ∧ t.dev = s.dev ∧ t.cores = s.cores ∧ MemoriesKept s t ∧
      (still →
        (∀ n : Nat, t.gen n = if n / 48 = d.val then s.seenGates n { s.gen n with hg := false, lg := false, phase := if (s.gen n).phase = .idle then .idle else .wait } else s.gen n) ∧
        t.coll = (s.report clPwr (0xC00 + 16 * d + 1) 3 d).coll ∧ (∀ q, q / 3 ≠ d.val → t.seqr q = s.seqr q) ∧
        FieldsKept (PWR_SUPST_LBUSOK :: carFields) s t ∧ { t with regs := s.regs, dies := s.dies, gens := s.gens, seqrs := s.seqrs, coll := s.coll } = s)) ∧
    (∃ t, exec (.vdrvGood d) s = .next t ∧
      (∀ e, e < 4 → t.bit PWR_SUPST_VDRVOK e = (s.bit PWR_SUPST_VDRVOK e || e == d.val)) ∧
      FieldsKept [PWR_SUPST_VDRVOK] s t ∧ { t with regs := s.regs } = s) ∧
    (s.bit PWR_SUPST_VDRVOK d = true → ∃ t, exec (.vdrvRecover d) s = .next t ∧
      t.die d = { s.die d with vdrvHold := false } ∧ ElseSame t.die s.die d ∧ { t with dies := s.dies } = s) ∧
    (∃ t, exec (.lbusRecover d) s = .next t ∧
      (∀ e, e < 4 → t.bit PWR_SUPST_LBUSOK e = (s.bit PWR_SUPST_LBUSOK e || e == d.val)) ∧
      t.die d = { s.die d with lbusHold := false } ∧ ElseSame t.die s.die d ∧
      FieldsKept [PWR_SUPST_LBUSOK] s t ∧ { t with regs := s.regs, dies := s.dies } = s) ∧
    (∃ t, exec (.dieLinkRealigned d) s = .next t ∧
      t.die d = { s.die d with linkOk := true } ∧ ElseSame t.die s.die d ∧ { t with dies := s.dies } = s)

/-- R54, R59, R63, R68, R124: events of one channel that touch only its own hold, window or limit. -/
def Obligations.ChannelHoldAndLimitEvents : Prop :=
  ∀ (s : State) (n : Fin 192),
    (∃ t, exec (.bootstrapUnderVoltage n) s = .next t ∧
      t.prot n = { s.prot n with bstHold := true } ∧ ElseSame t.prot s.prot n ∧
      t.gen n = s.seenGates n { s.gen n with hg := false, phase := if (s.gen n).hg then .fall else (s.gen n).phase } ∧ ElseSame t.gen s.gen n ∧
      t.rd (CH_FLT_BSTUV n) = 1 ∧ t.rd (CH_STAT_BSTOK n) = 0 ∧
      t.rd (CH_BCNT_COUNT n) = min 0xFFF (s.rd (CH_BCNT_COUNT n) + 1) ∧
      FieldsKept [CH_FLT_BSTUV n, CH_STAT_BSTOK n, CH_BCNT_COUNT n] s t ∧ t.coll = (s.report clChan (16 * n + 4) 1 (n / 48)).coll ∧
      { t with regs := s.regs, prots := s.prots, gens := s.gens, coll := s.coll, hwNow := s.hwNow } = s) ∧
    (∃ t, exec (.bootstrapRecover n) s = .next t ∧
      t.prot n = { s.prot n with bstHold := false } ∧ ElseSame t.prot s.prot n ∧ t.rd (CH_STAT_BSTOK n) = 1 ∧
      FieldsKept [CH_STAT_BSTOK n] s t ∧ { t with regs := s.regs, prots := s.prots } = s) ∧
    (s.rd (CH_STAT_RHOLD n) = 1 → (s.prot n).holdAt + 128 ≤ s.time → s.powered n = true ∨ (s.prot n).deferred = none →
      ∃ t, exec (.rangeHoldEnd n) s = .next t ∧ t.rd (CH_STAT_RHOLD n) = 0 ∧ (t.prot n).deferred = (s.prot n).deferred ∧
        (s.rd (CH_STAT_FROZEN n) = 1 → t.rd (CH_APPL_VALUE n) = s.rd (CH_APPL_VALUE n)) ∧
        (s.rd (CH_STAT_FROZEN n) = 0 → s.rd (CH_SHST_HOACT n) = 0 → s.rd (CH_SHST_ACLOOP n) = 0 → s.rd (MIR_SPLIT_DBL n) = 0 →
          t.rd (CH_APPL_VALUE n) = State.clampTo (s.full n) (s.view n) (s.ctrlValue n)) ∧
        (∀ m : Nat, (t.gen m).hg = (s.gen m).hg ∧ (t.gen m).lg = (s.gen m).lg) ∧
        FieldsKept (CH_STAT_RHOLD n :: applFields n) s t ∧ { chanless t with coll := s.coll } = chanless s) ∧
    (s.rd (CH_STAT_RHOLD n) = 1 → (s.prot n).holdAt + 128 ≤ s.time → s.powered n = false → s.rd (CH_STAT_FROZEN n) = 0 →
      ∃ t, exec (.rangeHoldEnd n) s = .next t ∧ t.rd (CH_STAT_RHOLD n) = 0 ∧ (t.prot n).deferred = none ∧ MemoriesKept s t ∧
        ∀ m : Nat, (t.gen m).hg = (s.gen m).hg ∧ (t.gen m).lg = (s.gen m).lg) ∧
    (s.rd (CH_STAT_RHOLD n) = 0 ∨ s.time < (s.prot n).holdAt + 128 → exec (.rangeHoldEnd n) s = .next s) ∧
    (let due := (s.gen n).inrush = true ∧ (s.gen n).inrAt + 160 * s.rd (CH_INRUSH_TIME n) ≤ s.time
     (¬due → exec (.inrushWindowEnd n) s = .next s) ∧
     (due → ∃ t, exec (.inrushWindowEnd n) s = .next t ∧ t.gen n = { s.gen n with inrush := false, limCount := 0, limSkip := true } ∧ ElseSame t.gen s.gen n ∧
      { t with gens := s.gens } = s)) ∧
    (∀ mv2 : Nat, (s.gen n).hg = true →
      (if (s.gen n).inrush then max (s.rd (CH_ILIM_LIM n)) (s.rd (CH_ILIMI_LIM n)) else s.rd (CH_ILIM_LIM n)) < mv2 →
      ∃ t, exec (.cycleByCycleLimit n mv2) s = .next t ∧
        t.gen n = s.seenGates n { s.gen n with hg := false, limThis := true, frzLim := s.on (CH_STAT_FROZEN n), phase := .fall } ∧ ElseSame t.gen s.gen n ∧
        t.rd (CH_LCNT_COUNT n) = min 0xFFF (s.rd (CH_LCNT_COUNT n) + 1) ∧
        FieldsKept [CH_LCNT_COUNT n] s t ∧ { t with regs := s.regs, gens := s.gens } = s) ∧
    (s.rd (CH_STAT_FROZEN n) = 1 → s.rd (CH_CFG_TOPO n) = 2 → (s.gen n).frzLim = true →
      ∃ t, exec (.freezeLgOff n) s = .next t ∧ t.gen n = s.seenGates n { s.gen n with lg := false } ∧ ElseSame t.gen s.gen n ∧ { t with gens := s.gens } = s)

/-- R21, R31, R76, R78, R81: what sets a safe-state latch. -/
def Obligations.SafeStateLatchesSetWithTheirCause : Prop :=
  let plain := fun (s : State) (d : Fin 4) => ∀ n, n / 48 = d.val → s.rd (CH_STAT_FROZEN n) = 0 ∧ s.rd (MIR_SPLIT_DBL n) = 0
  (∀ (s : State) (n : Fin 192), s.rd (CH_STAT_LARM n) = 1 → s.rd (CH_LEASE_LHOLD n) = 0 →
    s.rd (CH_LREM_TICKS n) = 0 ∨ (s.kickedNow n = true ∧ (s.prot n).kickRem = 0) →
    ∃ t, exec (.leaseExpiry n) s = .next t ∧ t.rd (CH_LREM_TICKS n) = 0 ∧ t.rd (CH_FLT_LEASE n) = 1 ∧ t.rd (CH_SSTAT_LATCH n) = 1 ∧
      t.rd (CH_SSTAT_CAUSE n) = (if s.on (CH_SSTAT_LATCH n) then s.rd (CH_SSTAT_CAUSE n) else 2) ∧
      ((∀ m, m / 2 = n / 2 → m % 2 = 1 ∨ m = n → s.rd (CH_STAT_FROZEN m) = 0 ∧ s.rd (MIR_SPLIT_DBL m) = 0) → t.coll = (s.report clChan (16 * n + 5) 3 (n / 48)).coll) ∧
      FieldsKept ([CH_LREM_TICKS n, CH_FLT_LEASE n] ++ latchFields n) s t ∧ chanless { t with coll := s.coll } = chanless s) ∧
  (∀ (s : State) (n : Fin 192), s.rd (CH_LEASE_LHOLD n) = 1 ∨ (s.rd (CH_LREM_TICKS n) ≠ 0 ∧ s.kickedNow n = false) → exec (.leaseExpiry n) s = .next s) ∧
  (∀ (s : State) (d : Fin 4),
    ∃ t, exec (.rcWatchdogExpiry d) s = .next t ∧ (plain s d → t.coll = (s.report clClk (0x004 + d) 3 13).coll) ∧
      (∀ n, n / 48 = d.val → t.rd (CH_SSTAT_LATCH n) = 1 ∧
        t.rd (CH_SSTAT_CAUSE n) = if s.on (CH_SSTAT_LATCH n) then s.rd (CH_SSTAT_CAUSE n) else 4) ∧
      FieldsKept ((dieChannels d).flatMap latchFields) s t ∧ chanless { t with coll := s.coll } = chanless s) ∧
  (∀ (s : State) (d : Fin 4),
    ∃ t, exec (.dieLinkFailure d) s = .next t ∧ (plain s d → t.coll = (s.report clLink (0xC50 + d) 3 13).coll) ∧
      (t.die d).linkOk = false ∧ ElseSame t.die s.die d ∧
      (∀ n, n / 48 = d.val → t.rd (CH_SSTAT_LATCH n) = 1 ∧
        t.rd (CH_SSTAT_CAUSE n) = if s.on (CH_SSTAT_LATCH n) then s.rd (CH_SSTAT_CAUSE n) else 1) ∧
      FieldsKept ((dieChannels d).flatMap latchFields) s t ∧ chanless { t with coll := s.coll, dies := s.dies } = chanless s)

/-- R63 to R72: protection trips and the adjacency test. -/
def Obligations.ChannelProtectionTrips : Prop :=
  ∀ (s : State) (n : Fin 192),
    let off := s.seenGates n { s.gen n with hg := false, lg := false, phase := if (s.gen n).phase = .idle then .idle else .wait }
    (s.rd (CH_OCN_N n) ≠ 0 → s.rd (CH_OCN_N n) ≤ (s.gen n).limCount + ((s.gen n).limThis && !(s.gen n).limSkip).toNat → (s.gen n).inrush = false → s.tripped n = false →
      ∃ t, exec (.overCurrent n) s = .next t ∧ t.rd (CH_FLT_OC n) = 1 ∧ t.rd (CH_TCNT_COUNT n) = min 0xFFF (s.rd (CH_TCNT_COUNT n) + 1) ∧
        t.gen n = off ∧ ElseSame t.gen s.gen n ∧
        t.rx (n / 8) = (if (s.rx (n / 8)).busy = true ∧ (s.rx (n / 8)).slot = n % 8 then { s.rx (n / 8) with disrupt := true, stopAt := some ((s.rx (n / 8)).stopAt.getD s.time) } else s.rx (n / 8)) ∧
        t.coll = (s.report clChan (16 * n + 2) 2 (n / 48)).coll ∧ FieldsKept [CH_FLT_OC n, CH_TCNT_COUNT n] s t ∧
        chanless { t with coll := s.coll } = chanless s) ∧
    (∀ vds since : Nat, (s.gen n).hg = true ∨ (s.gen n).lg = true → 100 * (s.rd (CH_DSAT_BLANK n) + 1) ≤ since →
      500 + 250 * s.rd (CH_DSAT_VTH n) < vds → s.rd (CH_FLT_DSAT n) = 0 → s.rd (CH_ADJR_BUSY n) = 0 →
      ∃ t, exec (.desaturation n vds since) s = .next t ∧ t.rd (CH_FLT_DSAT n) = 1 ∧
        t.rd (CH_TCNT_COUNT n) = min 0xFFF (s.rd (CH_TCNT_COUNT n) + 1) ∧
        t.gen n = off ∧ ElseSame t.gen s.gen n ∧
        t.rx (n / 8) = (if (s.rx (n / 8)).busy = true ∧ (s.rx (n / 8)).slot = n % 8 then { s.rx (n / 8) with disrupt := true, stopAt := some ((s.rx (n / 8)).stopAt.getD s.time) } else s.rx (n / 8)) ∧
        t.coll = (s.report clChan (16 * n) 2 (n / 48)).coll ∧
        t.rd (CH_ADJR_BUSY n) = (if s.on (CH_CFG_ADJEN n) ∧ ((s.nb0 n).isSome ∨ (s.nb1 n).isSome) then 1 else 0) ∧
        FieldsKept [CH_FLT_DSAT n, CH_TCNT_COUNT n, CH_ADJR_BUSY n, CH_ADJR_RES n, CH_ADJR_BOTH n] s t ∧
        chanless { t with coll := s.coll } = chanless s) ∧
    (∀ mv2 rate : Nat, (s.gen n).hg = true →
      2 * s.limit n < mv2 ∨ (s.limit n < 2 * mv2 ∧ s.rd (CH_RSHORT_DIDT n) ≠ 0 ∧ s.rd (CH_RSHORT_DIDT n) < rate) →
      s.rd (CH_FLT_RSHORT n) = 0 → s.rd (CH_ADJR_BUSY n) = 0 →
      ∃ t, exec (.rampShort n mv2 rate) s = .next t ∧ t.rd (CH_FLT_RSHORT n) = 1 ∧
        t.rd (CH_TCNT_COUNT n) = min 0xFFF (s.rd (CH_TCNT_COUNT n) + 1) ∧
        t.gen n = off ∧ ElseSame t.gen s.gen n ∧
        t.coll = (s.report clChan (16 * n + 1) 2 (n / 48)).coll ∧
        t.rd (CH_ADJR_BUSY n) = (if s.on (CH_CFG_ADJEN n) ∧ ((s.nb0 n).isSome ∨ (s.nb1 n).isSome) then 1 else 0) ∧
        FieldsKept [CH_FLT_RSHORT n, CH_TCNT_COUNT n, CH_ADJR_BUSY n, CH_ADJR_RES n, CH_ADJR_BOTH n] s t ∧
        chanless { t with coll := s.coll } = chanless s) ∧
    (∀ an a0 a1 dn d0 d1 : Nat, s.rd (CH_ADJR_BUSY n) = 1 →
      let m0 := if shortNm an a0 dn d0 then s.nb0 n else none
      let m1 := if shortNm an a1 dn d1 then s.nb1 n else none
      ∃ t, exec (.adjacencyTestEnd n an a0 a1 dn d0 d1) s = .next t ∧ t.rd (CH_ADJR_BUSY n) = 0 ∧
        t.rd (CH_ADJR_RES n) = (if m0.isSome then 2 else if m1.isSome then 3 else 1) ∧
        t.rd (CH_ADJR_BOTH n) = (m0.isSome && m1.isSome).toNat ∧
        (m0 = none → m1 = none → FieldsKept [CH_ADJR_BUSY n, CH_ADJR_RES n, CH_ADJR_BOTH n] s t ∧ { t with regs := s.regs } = s) ∧
        (m0.isSome ∨ m1.isSome → ((∀ m, m < 193 → s.rd (CH_STAT_FROZEN m) = 0 ∧ s.rd (MIR_SPLIT_DBL m) = 0) → t.coll = (s.report clChan (16 * n + 7) 3 (n / 48)).coll) ∧ chanless { t with coll := s.coll } = chanless s ∧
          ∀ m, m = n.val ∨ m0 = some m ∨ m1 = some m → t.rd (CH_FLT_ADJ m) = 1 ∧ t.rd (CH_SSTAT_LATCH m) = 1))

/-- R55 to R78: the channel control registers. -/
def Obligations.ChannelControlWrites : Prop :=
  ∀ (s : State) (r : Requester) (n : Fin 192),
    (∀ range : Bool, AcceptsField s r (CH_SENSE n) (CH_SENSE_RANGE n) range.toNat → s.rd (CH_STAT_RHOLD n) = 0 → range.toNat ≠ s.rd (CH_SENSE_RANGE n) →
      ∃ t, exec (.rangeChange r n range) s = .next t ∧ t.rd (CH_SENSE_RANGE n) = range.toNat ∧ t.rd (CH_STAT_RHOLD n) = 1 ∧
        t.prot n = { s.prot n with rholdVal := s.genValue n, holdAt := s.time } ∧ ElseSame t.prot s.prot n ∧
        FieldsKept [CH_SENSE_RANGE n, CH_STAT_RHOLD n] s t ∧ { t with regs := s.regs, prots := s.prots } = s) ∧
    (∀ range : Bool, AcceptsField s r (CH_SENSE n) (CH_SENSE_RANGE n) range.toNat → s.rd (CH_STAT_RHOLD n) = 1 →
      ∃ t, exec (.rangeChange r n range) s = .next t ∧ t.rd (CH_SENSE_RANGE n) = range.toNat ∧
        t.prot n = { s.prot n with holdAt := s.time } ∧ ElseSame t.prot s.prot n ∧
        FieldsKept [CH_SENSE_RANGE n] s t ∧ { t with regs := s.regs, prots := s.prots } = s) ∧
    (Accepts s r (CH_CMD n) 1 → s.rd (CH_ADJR_BUSY n) = 0 → s.tripped n = true ∨ s.rd (CH_APPL_VALUE n) = 0 →
      (s.nb0 n).isSome = true ∨ (s.nb1 n).isSome = true →
      ∃ t, exec (.adjrun r n) s = .next t ∧ t.rd (CH_ADJR_BUSY n) = 1 ∧ FieldsKept [CH_ADJR_BUSY n] s t ∧
        t.rx (n / 8) = (if (s.rx (n / 8)).busy = true ∧ (s.rx (n / 8)).slot = n % 8 then { s.rx (n / 8) with disrupt := true, stopAt := some ((s.rx (n / 8)).stopAt.getD s.time) } else s.rx (n / 8)) ∧
        ElseSame t.rx s.rx (n / 8) ∧ { t with regs := s.regs, rxs := s.rxs } = s) ∧
    (∀ w : Word, Accepts s r (CH_FLT n) w.toNat →
      ∃ t, exec (.fltClear r n w) s = .next t ∧
        (∀ f ∈ (CH_FLT n).fields, t.rd f = if f = CH_FLT_OT n ∧ (s.prot n).otHold = true then 1 else if f.of w.toNat = 1 ∧ (s.marked f).testBit 0 = false then 0 else s.rd f) ∧
        FieldsKept (CH_FLT n).fields s t ∧ { t with regs := s.regs, hwNow := s.hwNow } = s) ∧
    (∀ key : Word, Accepts s r (CH_KICK n) key.toNat → s.rd (CH_STAT_LARM n) = 1 →
      (s.isOwner r n = true → s.dev = .maint ∨ s.mayOwn n (s.rd (CH_OWNER_ENG n)) = true → (s.prot n).expAt ≠ some s.time → key.toNat = (if (s.prot n).key then 0xA5A else 0x5A5) →
        ∃ t, exec (.kick r n key) s = .next t ∧ t.rd (CH_LREM_TICKS n) = 16 * s.rd (CH_LEASE_LEN n) ∧
          t.prot n = { s.prot n with key := !(s.prot n).key, kickAt := some s.time, kickRem := if (s.prot n).kickAt = some s.time then (s.prot n).kickRem else s.rd (CH_LREM_TICKS n) } ∧ ElseSame t.prot s.prot n ∧
          FieldsKept [CH_LREM_TICKS n] s t ∧ { t with regs := s.regs, prots := s.prots } = s) ∧
      (¬(s.isOwner r n = true ∧ (s.dev = .maint ∨ s.mayOwn n (s.rd (CH_OWNER_ENG n)) = true) ∧ key.toNat = (if (s.prot n).key then 0xA5A else 0x5A5)) →
        ∃ t, exec (.kick r n key) s = .next t ∧ t.rd (CH_FLT_KEY n) = 1 ∧ t.coll = (s.report clChan (16 * n + 6) 1 (n / 48)).coll ∧
          FieldsKept [CH_FLT_KEY n] s t ∧ { t with regs := s.regs, coll := s.coll, hwNow := s.hwNow } = s)) ∧
    (∀ w : Word, Accepts s r (CH_OWNER n) w.toNat →
      (s.ownerOk r n (w.toNat % 128) = true → s.follows n = false →
        (∀ f ∈ (CH_OWNER n).fields, s.marked f = 0) →
        ∃ t, exec (.ownerWrite r n w) s = .next t ∧ t.rd (CH_OWNER_ENG n) = w.toNat % 128 ∧ t.rd (CH_OWNER_CORE n) = w.toNat / 128 % 2 ∧
          t.rd (CH_OWNER_VALID n) = w.toNat / 2048 ∧ t.rd (CH_LREM_TICKS n) = 16 * s.rd (CH_LEASE_LEN n) ∧ t.rd (CH_STAT_FROZEN n) = 0 ∧
          (t.prot n).key = false ∧ (t.prot n).kickAt = (if w.toNat % 128 = s.rd (CH_OWNER_ENG n) ∧ w.toNat / 128 % 2 = s.rd (CH_OWNER_CORE n) then (s.prot n).kickAt else none) ∧
          t.rd (CH_STAT_LARM n) = (s.on (CH_CFG_EN n) && decide (2048 ≤ w.toNat) && !s.on (CH_SHST_ASRC n)).toNat ∧
          (∀ m, m ≠ n.val → (s.leads n = true → m ≠ n.val + 1) → t.gen m = s.gen m ∧ t.prot m = s.prot m ∧ t.rd (CH_STAT_FROZEN m) = s.rd (CH_STAT_FROZEN m)) ∧
          FieldsKept ([CH_OWNER_ENG n, CH_OWNER_CORE n, CH_OWNER_VALID n, CH_LREM_TICKS n, CH_STAT_FROZEN n, CH_STAT_FROZEN (n + 1), CH_STAT_LARM n] ++ applFields n ++ applFields (n + 1)) s t ∧
          chanless { t with coll := s.coll } = chanless s ∧
          (s.rd (CH_STAT_FROZEN n) = 0 → (s.leads n = true → s.rd (CH_STAT_FROZEN (n + 1)) = 0) →
            FieldsKept [CH_OWNER_ENG n, CH_OWNER_CORE n, CH_OWNER_VALID n, CH_LREM_TICKS n, CH_STAT_LARM n] s t ∧
            { t with regs := s.regs, prots := s.prots } = s)) ∧
      (s.ownerOk r n (w.toNat % 128) = false →
        ∃ t, exec (.ownerWrite r n w) s = .next t ∧ t.rd (CH_FLT_KEY n) = 1 ∧ t.coll = (s.report clChan (16 * n + 6) 1 (n / 48)).coll ∧
          FieldsKept [CH_FLT_KEY n] s t ∧ { t with regs := s.regs, coll := s.coll, hwNow := s.hwNow } = s)) ∧
    (AcceptsField s r (CH_LEASE n) (CH_LEASE_LHOLD n) 1 → s.dev = .maint → 5 ≤ s.rd (CH_LEASE_LEN n) → s.rd (CH_LEASE_LEN n) ≤ 100 →
      ∃ t, exec (.lholdWrite r n true) s = .next t ∧ t.rd (CH_LEASE_LHOLD n) = 1 ∧ t.rd (CH_LEASE_LEN n) = s.rd (CH_LEASE_LEN n) ∧
        FieldsKept [CH_LEASE_LEN n, CH_LEASE_LHOLD n] s t ∧ { t with regs := s.regs } = s)

/-- R61, R97 to R116: the instants of one channel's period. -/
def Obligations.EdgeEventsOfAChannel : Prop :=
  (∀ (s : State) (n : Fin 192), s.rd (CH_STAT_FROZEN n) = 1 →
    exec (.capturePoint n) s = .next s ∧ exec (.periodBoundary n) s = .next s ∧ exec (.onTimeEnd n) s = .next s ∧ exec (.chipBoundary n) s = .next s ∧
      ∀ iavg, exec (.bkLoopUpdate n iavg) s = .next s) ∧
  ∀ (s : State) (n : Fin 192), s.rd (CH_STAT_FROZEN n) = 0 →
    (s.powered n = true →
      let u := s.installDeferred n
      let P := 16 * u.comingLength n
      let taken := u.timingTaken n
      let N := (u.takeTiming n).dutyN n
      let r : Int := if taken || (u.gen n).rclr then 0 else sext 36 (u.rd (CH_DRES_RESIDUE n))
      let o := onTime (u.rd (CH_DIM_MPM n)) ((u.takeTiming n).genDuty n) N P (u.tMax n P) (u.rd (CH_MINH_VALUE n)) (u.rd (CH_MINL_VALUE n)) r
      ∃ t, exec (.capturePoint n) s = .next t ∧
        t.rd (CH_DRES_RESIDUE n) = wrap 36 o.2.1 ∧
        t.rd (CH_STRC_COUNT n) = (if o.2.2 = 2 then min 4095 (u.rd (CH_STRC_COUNT n) + 1) else u.rd (CH_STRC_COUNT n)) ∧
        t.rd (CH_DITC_COUNT n) = (if o.2.2 = 3 then min 4095 (u.rd (CH_DITC_COUNT n) + 1) else u.rd (CH_DITC_COUNT n)) ∧
        (o.2.2 = 1 → t.rd (CH_SUPC_COUNT n) = min 4095 (u.rd (CH_SUPC_COUNT n) + 1)) ∧
        (t.gen n).rclr = false ∧ (u.rd (CH_CODE_EN n) = 0 → (u.gen n).lg = false → (t.gen n).onNext = o.1) ∧
        FieldsKept [CH_SUPC_COUNT n, CH_STRC_COUNT n, CH_DITC_COUNT n, CH_BLKC_COUNT n, CH_DRES_RESIDUE n, CH_ESTAT_CEIL n] u t ∧
        ElseSame t.gen u.gen n ∧ { t with regs := u.regs, gens := u.gens } = u) ∧
    (s.powered n = true → s.rd (CH_ESTAT_PEND n) = 0 →
      ∃ t, exec (.periodBoundary n) s = .next t ∧
        ((s.gen n).chipRestart = false → (s.gen n).lg = false →
          (t.gen n).onCur = (if (s.gen n).onNext = 16 * s.perF n then (16 * (s.perF n + (s.gen n).corrNext)).toNat else (s.gen n).onNext) ∧
          (t.gen n).hg = ((t.gen n).onCur != 0 && !s.heldOff n && !(s.prot n).bstHold && (s.gen n).riseDelay == 0 && (s.gen n).phase != .wait)) ∧
        ((s.gen n).chipRestart = false → (s.gen n).lg = true → (s.gen n).onNext ≠ 0 → s.rd (CH_DTR_VALUE n) ≠ 0 → (t.gen n).hg = false) ∧
        (s.rd (CH_CPOS_CPOS n) ≠ t.rd (CH_CPOS_CPOS n) → t.rd (CH_CPOS_CPOS n) = 0 → t.rd (CH_CEPOCH_EPOCH n) = s.devTime) ∧
        (t.gen n).perF = (s.gen n).perF ∧ (t.gen n).phaseF = (s.gen n).phaseF ∧ (t.gen n).resF = (s.gen n).resF ∧
        FieldsKept [CH_CPOS_CPOS n, CH_CEPOCH_EPOCH n] s t ∧ ElseSame t.gen s.gen n ∧ { t with regs := s.regs, gens := s.gens } = s) ∧
    (s.powered n = true → s.rd (CH_ESTAT_PEND n) = 1 → s.latched n = false →
      ∃ t, exec (.periodBoundary n) s = .next t ∧ t.rd (CH_ESTAT_PEND n) = 0 ∧ (t.gen n).perF = s.rd (CH_PER_PER n) ∧
        (t.gen n).phaseF = s.rd (CH_PHASE_PHASE n) ∧ (t.gen n).resF = s.rd (CH_DIM_RES n) ∧
        ((s.gen n).chipRestart = false → (s.gen n).lg = false → (t.gen n).onCur = (s.gen n).onNext) ∧
        FieldsKept ([CH_ESTAT_PEND n, CH_CPOS_CPOS n, CH_CEPOCH_EPOCH n, CH_DRES_RESIDUE n] ++ applFields n) s t ∧
        ElseSame t.gen s.gen n ∧ ElseSame t.prot s.prot n ∧ ElseSame t.prf s.prf n ∧ chanless { t with coll := s.coll } = chanless s) ∧
    ((s.gen n).phase = .on → (s.gen n).onCur < 16 * (s.gen n).curLen → s.topo n ≠ 2 ∨ s.rd (CH_CODE_EN n) = 0 →
      ∃ t, exec (.onTimeEnd n) s = .next t ∧ t.gen n = s.seenGates n { s.gen n with hg := false, phase := .fall } ∧ ElseSame t.gen s.gen n ∧
        { t with gens := s.gens } = s) ∧
    ((s.gen n).phase = .on → (s.gen n).onCur < 16 * (s.gen n).curLen → s.topo n = 2 → s.rd (CH_CODE_EN n) = 1 →
      let oc := codeOn (chip (s.rd (CH_CIDX_IDX n)) (s.rd (CH_CPOS_CPOS n))) (s.gen n).onCur (16 * (s.gen n).curLen) (s.rd (CH_CODE_DEPTH n))
        (s.rd (CH_MINH_VALUE n)) (s.rd (CH_MINL_VALUE n))
      ∃ t, exec (.onTimeEnd n) s = .next t ∧ (t.gen n).hg = false ∧ (t.gen n).phase = .fall ∧ (t.gen n).onCur = oc.1 ∧
        t.rd (CH_BLKC_COUNT n) = (if oc.2 then min 4095 (s.rd (CH_BLKC_COUNT n) + 1) else s.rd (CH_BLKC_COUNT n)) ∧ ElseSame t.gen s.gen n ∧
        FieldsKept [CH_BLKC_COUNT n, CH_SUPC_COUNT n] s t ∧ { t with regs := s.regs, gens := s.gens } = s) ∧
    ((s.gen n).phase = .fall →
      ∃ t, exec (.deadTimeEnd n) s = .next t ∧
        t.gen n = s.seenGates n { s.gen n with phase := .low, lg := s.powered n && s.lgConducts n (s.gen n).onCur && !s.heldOff n && !(s.gen n).supCur } ∧
        ElseSame t.gen s.gen n ∧ { t with gens := s.gens } = s) ∧
    ((s.gen n).phase = .low → (s.gen n).capt = true → (s.gen n).lg = true → (s.gen n).onNext ≠ 0 →
      ∃ t, exec (.deadTimeEnd n) s = .next t ∧ t.gen n = s.seenGates n { s.gen n with lg := false, phase := .rise } ∧ ElseSame t.gen s.gen n ∧ { t with gens := s.gens } = s) ∧
    ((s.gen n).phase = .rise → (s.gen n).capt = false →
      ∃ t, exec (.deadTimeEnd n) s = .next t ∧
        t.gen n = s.seenGates n { s.gen n with phase := .on, hg := s.hgFree n && (s.gen n).onCur != 0 && !(s.gen n).lg, riseDelay := 0 } ∧
        ElseSame t.gen s.gen n ∧ { t with gens := s.gens } = s) ∧
    ((s.gen n).phase = .wait →
      ∃ t, exec (.deadTimeEnd n) s = .next t ∧ t.gen n = s.seenGates n { s.gen n with phase := .idle } ∧ ElseSame t.gen s.gen n ∧ { t with gens := s.gens } = s) ∧
    (s.topo n = 2 → s.rd (CH_CODE_EN n) = 1 →
      ∃ t, exec (.chipBoundary n) s = .next t ∧ t.rd (CH_CPOS_CPOS n) = (s.rd (CH_CPOS_CPOS n) + 1) % 1023 ∧
        t.rd (CH_CEPOCH_EPOCH n) = (if (s.rd (CH_CPOS_CPOS n) + 1) % 1023 = 0 then s.devTime else s.rd (CH_CEPOCH_EPOCH n)) ∧
        FieldsKept [CH_CPOS_CPOS n, CH_CEPOCH_EPOCH n] s t ∧ { t with regs := s.regs } = s) ∧
    (∀ iavg : Int, s.topo n = 2 → s.powered n = true → s.rd (CH_CODE_EN n) = 0 →
      let ref := s.genValue n
      let e : Int := s.derate n ref - iavg
      let i0 : Int := if (s.gen n).prevRef = 0 ∧ ref ≠ 0 then 0 else (s.gen n).integ
      let i1 := if (s.gen n).limThis ∨ (s.gen n).loopDuty = 0 ∨ (s.gen n).loopDuty = 4095 then i0
        else max 0 (min (2 ^ 20 - 1) (i0 + e * s.rd (CH_BKG_KI n)))
      ∃ t, exec (.bkLoopUpdate n iavg) s = .next t ∧
        t.gen n = { s.gen n with integ := i1.toNat, prevRef := ref,
                                 loopDuty := (max 0 (min 4095 ((e * s.rd (CH_BKG_KP n) * 16 + i1) / 256))).toNat } ∧
        ElseSame t.gen s.gen n ∧ { t with gens := s.gens } = s)

/-- R106, R107: the on-time and the residue. -/
def Obligations.OnTimeArithmetic : Prop :=
  ∀ (mpm D N P tmax minh minl : Nat) (r : Int),
    (onTime mpm 0 N P tmax minh minl r = (0, 0, 0)) ∧
    (0 < N → onTime mpm N N P P minh minl r = (P, 0, 0)) ∧
    (0 < D → ¬(D = N ∧ tmax = P) →
      let want : Int := (D * P : Nat) + r
      let t := min (want / (N : Int)).toNat tmax
      let o := onTime mpm D N P tmax minh minl r
      (0 < t → t < minh → o.1 = (if mpm = 1 then minh else 0) ∧ o.2.2 = if mpm = 0 then 1 else if mpm = 1 then 2 else 3) ∧
      (0 < t → minh ≤ t → t < P → P - t < minl → o.1 = (if mpm = 1 then P - minl else P) ∧ o.2.2 = if mpm = 0 then 1 else if mpm = 1 then 2 else 3) ∧
      (t = 0 ∨ (minh ≤ t ∧ (P ≤ t ∨ minl ≤ P - t)) → o.1 = t ∧ o.2.2 = 0) ∧
      (mpm = 0 ∨ mpm = 1 → 0 < N → 0 ≤ o.2.1 ∧ o.2.1 ≤ (N : Int) - 1) ∧
      (mpm = 2 ∨ mpm = 3 → -((minl * N : Nat) : Int) ≤ o.2.1 ∧ o.2.1 ≤ ((minh * N : Nat) : Int) ∧
        (-((minl * N : Nat) : Int) ≤ want - (o.1 * N : Nat) → want - (o.1 * N : Nat) ≤ ((minh * N : Nat) : Int) → o.2.1 = want - (o.1 * N : Nat))))

/-- R96 to R121: the edge-timing registers of a channel. -/
def Obligations.EdgeTimingRegisterWrites : Prop :=
  ∀ (s : State) (r : Requester) (n : Fin 192),
    (∀ v : BitVec 24, Accepts s r (CH_PER n) v.toNat →
      let ok := perOk (s.topo n) v.toNat && decide ((s.gen n).phaseF < v.toNat) && decide (s.rd (CH_PHASE_PHASE n) < v.toNat) &&
        quarterOk v.toNat (s.rd (CH_MINH_VALUE n)) (s.rd (CH_DTF_VALUE n)) (s.rd (CH_MINL_VALUE n)) (s.rd (CH_DTR_VALUE n))
      (ok = true → s.budgetOk (s.wr (CH_PER_PER n) v.toNat) (n / 48) = true → s.powered n = true →
        ∃ t, exec (.perWrite r n v) s = .next t ∧ t.rd (CH_PER_PER n) = v.toNat ∧ t.rd (CH_ESTAT_PEND n) = 1 ∧
          FieldsKept [CH_PER_PER n, CH_ESTAT_PEND n] s t ∧ { t with regs := s.regs, staged := s.staged } = s) ∧
      (ok = true → s.budgetOk (s.wr (CH_PER_PER n) v.toNat) (n / 48) = true → s.powered n = false →
        ∃ t, exec (.perWrite r n v) s = .next t ∧ t.rd (CH_PER_PER n) = v.toNat ∧ t.rd (CH_ESTAT_PEND n) = s.rd (CH_ESTAT_PEND n) ∧
          (t.gen n).perF = v.toNat ∧ ElseSame t.gen s.gen n ∧ MemoriesKept s t) ∧
      (ok = true → s.budgetOk (s.wr (CH_PER_PER n) v.toNat) (n / 48) = false →
        ∃ t, exec (.perWrite r n v) s = .next t ∧ t.rd (CH_FLT_GBUD n) = 1 ∧ t.coll = (s.report clCfg (16 * n + 8) 1 (n / 48)).coll ∧
          FieldsKept [CH_FLT_GBUD n] s t ∧ { t with regs := s.regs, coll := s.coll, staged := s.staged, hwNow := s.hwNow } = s) ∧
      (ok = false → ∃ t, exec (.perWrite r n v) s = .next t ∧ t.coll = (s.timingRefusal n 0x100).coll ∧
          { t with coll := s.coll, staged := s.staged } = s)) ∧
    (∀ w : Word, Accepts s r (CH_DIM n) w.toNat → (CH_DIM_RES n).of w.toNat ≤ 8 → (CH_DIM_MPM n).of w.toNat ≠ 3 → s.powered n = true →
      (let u := s.wr (CH_DIM_MPM n) ((CH_DIM_MPM n).of w.toNat); u.budgetOk (u.wr (CH_DIM_RES n) ((CH_DIM_RES n).of w.toNat)) (n / 48) = true) →
      ∃ t, exec (.dimWrite r n w) s = .next t ∧ t.rd (CH_DIM_RES n) = (CH_DIM_RES n).of w.toNat ∧ t.rd (CH_DIM_MPM n) = (CH_DIM_MPM n).of w.toNat ∧
        t.rd (CH_ESTAT_PEND n) = (if (CH_DIM_RES n).of w.toNat = s.rd (CH_DIM_RES n) then s.rd (CH_ESTAT_PEND n) else 1) ∧
        FieldsKept [CH_DIM_RES n, CH_DIM_MPM n, CH_ESTAT_PEND n] s t ∧ { t with regs := s.regs } = s) ∧
    (∀ v : BitVec 24, Accepts s r (CH_PHASE n) v.toNat →
      (v.toNat < s.rd (CH_PER_PER n) → s.powered n = true →
        ∃ t, exec (.phaseWrite r n v) s = .next t ∧ t.rd (CH_PHASE_PHASE n) = v.toNat ∧ t.rd (CH_ESTAT_PEND n) = 1 ∧
          FieldsKept [CH_PHASE_PHASE n, CH_ESTAT_PEND n] s t ∧ { t with regs := s.regs, staged := s.staged } = s) ∧
      (s.rd (CH_PER_PER n) ≤ v.toNat → ∃ t, exec (.phaseWrite r n v) s = .next t ∧ t.coll = (s.timingRefusal n 0x108).coll ∧
          { t with coll := s.coll, staged := s.staged } = s)) ∧
    (∀ (which : Fin 4) (w : Word),
      let reg := [CH_DTR n, CH_DTF n, CH_MINH n, CH_MINL n][which]
      let f := [CH_DTR_VALUE n, CH_DTF_VALUE n, CH_MINH_VALUE n, CH_MINL_VALUE n][which]
      let u := s.wr f w.toNat
      Accepts s r reg w.toNat →
      (quarterOk (s.rd (CH_PER_PER n)) (u.rd (CH_MINH_VALUE n)) (u.rd (CH_DTF_VALUE n)) (u.rd (CH_MINL_VALUE n)) (u.rd (CH_DTR_VALUE n)) = true →
        ∃ t, exec (.edgeTimingWrite r n which w) s = .next t ∧ t.rd f = w.toNat ∧ FieldsKept [f] s t ∧ { t with regs := s.regs } = s) ∧
      (quarterOk (s.rd (CH_PER_PER n)) (u.rd (CH_MINH_VALUE n)) (u.rd (CH_DTF_VALUE n)) (u.rd (CH_MINL_VALUE n)) (u.rd (CH_DTR_VALUE n)) = false →
        ∃ t, exec (.edgeTimingWrite r n which w) s = .next t ∧ t.coll = (s.timingRefusal n (f.addr - chAddr n)).coll ∧ { t with coll := s.coll } = s)) ∧
    (∀ align : Bool, AcceptsField s r (CH_ALN n) (CH_ALN_ALIGN n) align.toNat →
      (align = false ∨ s.rd PWR_FRAME_VALUE * 4000 % s.rd (CH_PER_PER n) = 0 →
        ∃ t, exec (.alignWrite r n align) s = .next t ∧ t.rd (CH_ALN_ALIGN n) = align.toNat ∧ FieldsKept [CH_ALN_ALIGN n] s t ∧
          t.bcast = { s.bcast with watchAt := if t.watching then some (s.bcast.watchAt.getD s.time) else none } ∧ { t with regs := s.regs, bcast := s.bcast } = s) ∧
      (align = true → s.rd PWR_FRAME_VALUE * 4000 % s.rd (CH_PER_PER n) ≠ 0 →
        ∃ t, exec (.alignWrite r n align) s = .next t ∧ t.coll = (s.timingRefusal n 0x10A).coll ∧ { t with coll := s.coll } = s)) ∧
    (∀ w : Word, Accepts s r (CH_CODE n) w.toNat → (CH_CODE_CHIPR n).of w.toNat ≠ 3 →
      let u := ((s.wr (CH_CODE_EN n) ((CH_CODE_EN n).of w.toNat)).wr (CH_CODE_CHIPR n) ((CH_CODE_CHIPR n).of w.toNat)).wr (CH_CODE_DEPTH n) ((CH_CODE_DEPTH n).of w.toNat)
      s.budgetOk u (n / 48) = true →
      ∃ t, exec (.codeWrite r n w) s = .next t ∧ (∀ f ∈ (CH_CODE n).fields, t.rd f = f.of w.toNat) ∧
        (t.gen n).chipRestart = ((s.gen n).chipRestart || ((CH_CODE_EN n).of w.toNat == 1 && !s.on (CH_CODE_EN n)) || (CH_CODE_CHIPR n).of w.toNat != s.rd (CH_CODE_CHIPR n)) ∧
        FieldsKept (CH_CODE n).fields s t ∧ ElseSame t.gen s.gen n ∧ { t with regs := s.regs, gens := s.gens } = s) ∧
    (∀ w : Word, Accepts s r (CH_CIDX n) w.toNat →
      (w.toNat ≤ 1024 → ∃ t, exec (.cidxWrite r n w) s = .next t ∧ t.rd (CH_CIDX_IDX n) = w.toNat ∧ (t.gen n).chipRestart = true ∧
        FieldsKept [CH_CIDX_IDX n] s t ∧ ElseSame t.gen s.gen n ∧ { t with regs := s.regs, gens := s.gens } = s) ∧
      (1024 < w.toNat → ∃ t, exec (.cidxWrite r n w) s = .next t ∧ t.coll = (s.flag (chAddr n + 0x10D) 1 2).coll ∧ { t with coll := s.coll } = s)) ∧
    (Accepts s r (CH_ECMD n) 1 →
      ∃ t, exec (.cclr r n) s = .next t ∧ (∀ f ∈ [CH_SUPC_COUNT n, CH_STRC_COUNT n, CH_DITC_COUNT n, CH_BLKC_COUNT n], t.rd f = 0) ∧
        FieldsKept [CH_SUPC_COUNT n, CH_STRC_COUNT n, CH_DITC_COUNT n, CH_BLKC_COUNT n] s t ∧ { t with regs := s.regs } = s) ∧
    (Accepts s r (CH_ECMD n) 2 →
      ∃ t, exec (.rclr r n) s = .next t ∧ t.gen n = { s.gen n with rclr := true } ∧ ElseSame t.gen s.gen n ∧ { t with gens := s.gens } = s)

/-- R55, R73, R78, R82, R90, R94, R96: enable, topology, reset of a channel, LHOLD, the FLASH phases. -/
def Obligations.ChannelEnableTopologyAndReset : Prop :=
  ∀ (s : State) (r : Requester) (n : Fin 192),
    let shown := fun m => [CH_STAT_LARM m, CH_LREM_TICKS m, CH_STAT_FROZEN m, CH_ESTAT_CEIL m, CH_ESTAT_PEND m, CH_SHST_ASRC m, CH_SHST_ACLOOP m,
      CH_SHST_CLAMP m, CH_SHST_DIS m, CH_SHST_HOACT m, CH_APPL_VALUE m, CH_SLEW_VALUE m] ++ proofFields m
    let pairFields := shown n ++ shown (State.partnerOf n)
    (AcceptsField s r (CH_CFG n) (CH_CFG_EN n) 0 → s.rd (CH_CFG_EN n) = 1 → s.follows n = false → (s.prot n).deferred = none → (s.prot (State.partnerOf n)).deferred = none →
      ∃ t, exec (.channelEnable r n false) s = .next t ∧ t.rd (CH_CFG_EN n) = 0 ∧ t.rd (CH_STAT_LARM n) = 0 ∧
        (∀ f ∈ [CH_CFG_HBPAIR n, CH_CFG_LGEN n, CH_CFG_ADJEN n, CH_CFG_TOPO n], t.rd f = s.rd f) ∧
        (s.powered n = true → (t.gen n).hg = false ∧ (t.gen n).lg = false ∧ (t.gen n).phase = (if (s.gen n).phase = .idle then .idle else .wait) ∧ t.rd (CH_ESTAT_CEIL n) = 0 ∧
          t.rd (CH_STAT_FROZEN n) = 0) ∧
        (s.leads n = true → s.powered (n + 1) = true → s.rd (CH_CFG_EN (n + 1)) = 0 → (t.gen (n + 1)).hg = false ∧ (t.gen (n + 1)).lg = false) ∧
        (∀ m, m ≠ n.val → m ≠ State.partnerOf n → t.gen m = s.gen m) ∧
        FieldsKept ([CH_CFG_HBPAIR n, CH_CFG_LGEN n, CH_CFG_ADJEN n, CH_CFG_EN n] ++ pairFields) s t ∧
        MemoriesKept s t) ∧
    (AcceptsField s r (CH_CFG n) (CH_CFG_EN n) 1 → s.rd (CH_CFG_EN n) = 0 → 1 ≤ s.rd (CH_GDRV_QG n) → s.rd (CH_GDRV_QG n) ≤ 80 →
      perOk (s.topo n) (s.rd (CH_PER_PER n)) = true → s.powered n = false → s.topo n ≠ 0 →
      ∃ t, exec (.channelEnable r n true) s = .next t ∧ t.rd (CH_CFG_EN n) = 1 ∧
        (t.rd (CH_STAT_LARM n) = 1 → s.rd (CH_STAT_LARM n) = 0 → t.rd (CH_LREM_TICKS n) = 16 * s.rd (CH_LEASE_LEN n) ∧ (t.prot n).key = false) ∧
        t.rd (CH_STAT_LARM n) = (s.on (CH_OWNER_VALID n) && !s.on (CH_SHST_ASRC n) && !s.follows n).toNat ∧
        (t.gen n).perF = s.rd (CH_PER_PER n) ∧ (t.gen n).phaseF = s.rd (CH_PHASE_PHASE n) ∧ (t.gen n).resF = s.rd (CH_DIM_RES n) ∧
        (t.gen n).hg = false ∧ (t.gen n).lg = false ∧ (t.gen n).refA = 25 * (s.time : Int) ∧
        (∀ m, m ≠ n.val → m ≠ State.partnerOf n → t.gen m = s.gen m ∧ t.prot m = s.prot m) ∧
        FieldsKept ([CH_CFG_HBPAIR n, CH_CFG_LGEN n, CH_CFG_ADJEN n, CH_CFG_EN n] ++ pairFields) s t ∧
        MemoriesKept s t) ∧
    (AcceptsField s r (CH_CFG n) (CH_CFG_EN n) 1 → 80 < s.rd (CH_GDRV_QG n) ∨ (s.rd (CH_GDRV_QG n) = 0 ∧ s.topo n ≠ 0) →
      ∃ t, exec (.channelEnable r n true) s = .next t ∧ t.rd (CH_CFG_EN n) = s.rd (CH_CFG_EN n) ∧
        FieldsKept ([CH_CFG_HBPAIR n, CH_CFG_LGEN n, CH_CFG_ADJEN n] ++ pairFields) s t ∧ MemoriesKept s t) ∧
    (∀ topo : Fin 4, AcceptsField s r (CH_CFG n) (CH_CFG_TOPO n) topo → topo.val ≠ s.topo n →
      (s.rd (CH_CFG_EN n) = 0 →
        let per := max (perRange topo).1 (min (perRange topo).2 (s.rd (CH_PER_PER n)))
        let ph := if per ≤ s.rd (CH_PHASE_PHASE n) then 0 else s.rd (CH_PHASE_PHASE n)
        s.budgetOk (((s.wr (CH_CFG_TOPO n) topo).wr (CH_PER_PER n) per).wr (CH_PHASE_PHASE n) ph) (n / 48) = true →
        ∃ t, exec (.topoWrite r n topo) s = .next t ∧ t.rd (CH_CFG_TOPO n) = topo ∧ t.rd (CH_PER_PER n) = per ∧ t.rd (CH_PHASE_PHASE n) = ph ∧
          t.rd (CH_DRES_RESIDUE n) = 0 ∧
          (s.follows n = false → (∀ m, m ≠ n.val → m ≠ State.partnerOf n → t.gen m = s.gen m) ∧ (t.gen n).perF = per ∧ (t.gen n).phaseF = ph) ∧
          FieldsKept ([CH_CFG_TOPO n, CH_CFG_HBPAIR n, CH_CFG_LGEN n, CH_CFG_ADJEN n, CH_PER_PER n, CH_PHASE_PHASE n, CH_DRES_RESIDUE n] ++ pairFields) s t ∧ MemoriesKept s t) ∧
      (s.rd (CH_CFG_EN n) = 1 → ∃ t, exec (.topoWrite r n topo) s = .next t ∧ t.topo n = s.topo n ∧
          FieldsKept ([CH_CFG_HBPAIR n, CH_CFG_LGEN n, CH_CFG_ADJEN n] ++ pairFields) s t ∧ MemoriesKept s t)) ∧
    (Accepts s r (CH_CMD n) 2 →
      ∃ t, exec (.channelReset r n) s = .next t ∧
        (∀ f ∈ (State.resetFields n).filter fun f => f.key != (CH_SHST_CLAMP n).key && f.key != (CH_SHST_DIS n).key, t.rd f = f.reset) ∧
        ((∀ f ∈ (CH_FLT n).fields, s.marked f = 0) → t.rd (CH_TCNT_COUNT n) = 0 ∧ t.rd (CH_BCNT_COUNT n) = 0 ∧
          ∀ f ∈ (CH_FLT n).fields, t.rd f = if f = CH_FLT_OT n then (s.prot n).otHold.toNat else 0) ∧
        (t.gen n).hg = false ∧ (t.gen n).lg = false ∧ (t.prot n).resetOff = true ∧ t.powered n = false ∧
        (∀ m, m ≠ n.val → m ≠ State.partnerOf n → t.gen m = s.gen m) ∧
        t.rd (CH_STAT_LARM n) = 0 ∧ t.rd (CH_STAT_FROZEN n) = 0 ∧ t.rd (FC_RUNG_COUNT 1) = min 4095 (s.rd (FC_RUNG_COUNT 1) + 1) ∧
        FieldsKept (State.resetFields n ++ (CH_FLT n).fields ++ [CH_TCNT_COUNT n, CH_BCNT_COUNT n] ++ pairFields ++ [FC_RUNG_COUNT 1]) s t ∧ MemoriesKept s t) ∧
    (AcceptsField s r (CH_LEASE n) (CH_LEASE_LHOLD n) 0 → 5 ≤ s.rd (CH_LEASE_LEN n) → s.rd (CH_LEASE_LEN n) ≤ 100 →
      (s.rd (CH_LEASE_LHOLD n) = 0 ∨ s.rd (CH_STAT_LARM n) = 0 ∨ s.rd (CH_LREM_TICKS n) ≠ 0 →
        ∃ t, exec (.lholdWrite r n false) s = .next t ∧ t.rd (CH_LEASE_LHOLD n) = 0 ∧ t.rd (CH_LEASE_LEN n) = s.rd (CH_LEASE_LEN n) ∧
          FieldsKept [CH_LEASE_LEN n, CH_LEASE_LHOLD n] s t ∧ { t with regs := s.regs } = s) ∧
      (s.rd (CH_LEASE_LHOLD n) = 1 → s.rd (CH_STAT_LARM n) = 1 → s.rd (CH_LREM_TICKS n) = 0 →
        ∃ t, exec (.lholdWrite r n false) s = .next t ∧ t.rd (CH_LEASE_LHOLD n) = 0 ∧ t.rd (CH_FLT_LEASE n) = 1 ∧ t.rd (CH_SSTAT_LATCH n) = 1 ∧
          ((∀ m, m < 193 → s.rd (CH_STAT_FROZEN m) = 0 ∧ s.rd (MIR_SPLIT_DBL m) = 0) → t.coll = (s.report clChan (16 * n + 5) 3 (n / 48)).coll) ∧
          FieldsKept ([CH_LEASE_LEN n, CH_LEASE_LHOLD n, CH_FLT_LEASE n] ++ latchFields n) s t ∧ chanless { t with coll := s.coll } = chanless s)) ∧
    (s.dueOn 10666667 0 = true ∨ s.dueOn 10666667 5333333 = true →
      ∃ t, exec .flashPhaseChange s = .next t ∧
      (s.latched n = true → s.safeState n = 2 →
        if s.flashOn then t.rd (CH_DRES_RESIDUE n) = 0
        else (t.gen n).hg = false ∧ (t.gen n).onNext = 0 ∧ (s.topo n ≠ 1 → (t.gen n).lg = false)) ∧
      (s.latched n = false ∨ s.safeState n ≠ 2 → t.gen n = s.gen n ∧ t.prf n = s.prf n) ∧
      FieldsKept (channels.flatMap fun m => CH_DRES_RESIDUE m :: proofFields m) s t ∧ MemoriesKept s t) ∧
    (s.dueOn 10666667 0 = false → s.dueOn 10666667 5333333 = false → exec .flashPhaseChange s = .next s)

/-- R24, R30, R31, R33, R292, R318, R401, R467 to R470, R481: clocks, fabric, supplies. -/
def Obligations.ClockFabricAndSupplyEvents : Prop :=
  ∀ s : State,
    (∀ count : Nat, (96 ≤ count → count ≤ 104 → exec (.crystalLost count) s = .next s ∧ exec (.alwaysOnClockLost count) s = .next s) ∧
      (count < 96 ∨ 104 < count → s.allOff = false → s.dev ≠ .safe →
        (∃ t, exec (.crystalLost count) s = .next t ∧ SafeEntered s t ∧ t.fabricOff = true ∧ ∀ k, k < 8 → t.rd (PWR_CST_STATE k) = 0) ∧ (∃ t, exec (.alwaysOnClockLost count) s = .next t ∧ SafeEntered s t))) ∧
    (s.allOff = false → s.dev ≠ .safe → s.rd PWR_SUPST_VCORE = 1 →
      ∃ t, exec .vcoreFail s = .next t ∧ SafeEntered s t ∧ t.rd PWR_SUPST_VCORE = 0 ∧
        t.rd PWR_GEN_GEN = (if s.rd PWR_GEN_GEN = 4095 then 1 else s.rd PWR_GEN_GEN + 1) ∧ ∀ n, n < 192 → (t.gen n).hg = false ∧ (t.gen n).lg = false) ∧
    (s.allOff = false → s.dev ≠ .safe → s.rd PWR_SUPST_VANA = 1 →
      ∃ t, exec .vanaFail s = .next t ∧ SafeEntered s t ∧ t.rd PWR_SUPST_VANA = 0) ∧
    (∃ t, exec .fifoStall s = .next t ∧ t.coll = (s.report clClk 0x010 1 13).coll ∧ { t with coll := s.coll } = s) ∧
    (∀ q : Fin 256, s.executes q = true → ∃ t, exec (.fabricWaitExceeded q) s = .next t ∧
      t.coll = (s.report clMem (0x300 + q / 2) 0 (4 + q / 32)).coll ∧ { t with coll := s.coll } = s) ∧
    (∀ q : Fin 256, s.guarded (q / 2) = true → ∃ t, exec (.fabricResponse q true) s = .next t ∧
      t.rd (PWR_XDIS_COUNT (q / 2)) = min 4095 (s.rd (PWR_XDIS_COUNT (q / 2)) + 1) ∧ FieldsKept [PWR_XDIS_COUNT (q / 2)] s t ∧ { t with regs := s.regs } = s) ∧
    (s.rd PWR_BSTAT_BAKOK = 1 → ∃ t, exec .vbakFail s = .next t ∧ t.rd PWR_BSTAT_BAKOK = 0 ∧ t.coll = (s.report clPwr 0xE06 1 13).coll ∧
      FieldsKept [PWR_BSTAT_BAKOK] s t ∧ { t with regs := s.regs, coll := s.coll } = s) ∧
    (∃ t, exec .vbakReturn s = .next t ∧ t.rd PWR_BSTAT_BAKOK = 1 ∧ FieldsKept [PWR_BSTAT_BAKOK] s t ∧ { t with regs := s.regs } = s) ∧
    (∃ t, exec .vcoreReturn s = .next t ∧ t.rd PWR_SUPST_VCORE = 1 ∧ FieldsKept [PWR_SUPST_VCORE] s t ∧ { t with regs := s.regs } = s) ∧
    (∃ t, exec .vanaReturn s = .next t ∧ t.rd PWR_SUPST_VANA = 1 ∧ FieldsKept [PWR_SUPST_VANA] s t ∧ { t with regs := s.regs } = s) ∧
    (s.pwr.handAt = none → ∃ t, exec .vioDip s = .next t ∧ t.rd PWR_VIODIP_COUNT = min 4095 (s.rd PWR_VIODIP_COUNT + 1) ∧
      t.coll = (s.report clPwr 0xE03 0 13).coll ∧ FieldsKept [PWR_VIODIP_COUNT] s t ∧ { t with regs := s.regs, coll := s.coll } = s) ∧
    (∀ v : List Word, s.allOff = false → ∃ t, exec (.supplyMonitor v) s = .next t ∧
      (∀ x, x < 11 → t.rd (PWR_VMON_VALUE x) = match v[x]? with | some w => w.toNat | none => s.rd (PWR_VMON_VALUE x)) ∧
      FieldsKept ((List.range 11).map PWR_VMON_VALUE) s t ∧ { t with regs := s.regs } = s) ∧
    (∀ (m : Fin 265) (a : Addr) (err : Fin 3),
      (State.scrubWord m a.toNat = false → exec (.scrubPass m a err) s = .next s) ∧
      (State.scrubWord m a.toNat = true → err = 1 → s.memOn m = true → s.isBad (State.scrubKey m a.toNat) = false → region (State.scrubKey m a.toNat) ≠ .flash →
        exec (.scrubPass m a err) s = .next (s.errorEvent (State.scrubKey m a.toNat) 0)))

/-- R117 to R122, R127: the SYNC chain. -/
def Obligations.SyncChainEvents : Prop :=
  ∀ s : State,
    (∀ rise width : Nat,
      (s.bcast.master = true → ∃ t, exec (.synciPulse rise width) s = .next t ∧ t.rd PWR_SYNCSTAT_LAST = 3 ∧
        t.rd PWR_SYNCREJ_COUNT = min 4095 (s.rd PWR_SYNCREJ_COUNT + 1) ∧ t.coll = (s.report clLink 0xC45 0 13).coll ∧
        FieldsKept [PWR_SYNCSTAT_LAST, PWR_SYNCREJ_COUNT] s t ∧ { t with regs := s.regs, coll := s.coll } = s) ∧
      (s.bcast.master = false → (∀ x, s.bcast.lastRise = some x → rise < x + 160) → s.bcast.lastRise ≠ none →
        ∃ t, exec (.synciPulse rise width) s = .next t ∧ t.rd PWR_SYNCSTAT_LAST = 3 ∧
        t.rd PWR_SYNCREJ_COUNT = min 4095 (s.rd PWR_SYNCREJ_COUNT + 1) ∧ t.coll = (s.report clLink 0xC41 0 13).coll ∧
        FieldsKept [PWR_SYNCSTAT_LAST, PWR_SYNCREJ_COUNT] s t ∧ { t with regs := s.regs, coll := s.coll } = s) ∧
      (s.bcast.master = false → (∀ x, s.bcast.lastRise = some x → x + 160 ≤ rise) →
        (16 ≤ width → width ≤ 24 → ∃ t, exec (.synciPulse rise width) s = .next t ∧ t.rd PWR_SYNCSTAT_LAST = 1 ∧ t.rd PWR_SYNCSTAT_MLOST = 0 ∧
          t.bcast = { s.bcast with lastRise := some rise, lastMark := some s.time, markDue := s.bcast.markDue ++ [rise + 129 + s.bcast.comp],
                                   synco := if s.bcast.fwd then (rise + 32, 20) :: s.bcast.synco else s.bcast.synco } ∧
          FieldsKept [PWR_SYNCSTAT_LAST, PWR_SYNCSTAT_MLOST] s t ∧ { t with regs := s.regs, bcast := s.bcast } = s) ∧
        (64 ≤ width → width ≤ 96 → ∃ t, exec (.synciPulse rise width) s = .next t ∧ t.rd PWR_SYNCSTAT_LAST = 2 ∧
          t.bcast = { s.bcast with lastRise := some rise, tagged := s.bcast.tagged.map (fun x => { x with after := (rise + 129 + s.bcast.comp) :: x.after }), syncDue := s.bcast.syncDue ++ [rise + 129 + s.bcast.comp],
                                   synco := if s.bcast.fwd then (rise + 32, 80) :: s.bcast.synco else s.bcast.synco } ∧
          FieldsKept [PWR_SYNCSTAT_LAST] s t ∧ { t with regs := s.regs, bcast := s.bcast } = s) ∧
        (width < 16 ∨ (24 < width ∧ width < 64) ∨ 96 < width → ∃ t, exec (.synciPulse rise width) s = .next t ∧ t.rd PWR_SYNCSTAT_LAST = 3 ∧
          t.rd PWR_SYNCREJ_COUNT = min 4095 (s.rd PWR_SYNCREJ_COUNT + 1) ∧ t.coll = (s.report clLink 0xC41 0 13).coll ∧
          (s.bcast.fwd = false → t.bcast = s.bcast) ∧
          FieldsKept [PWR_SYNCSTAT_LAST, PWR_SYNCREJ_COUNT] s t ∧ { t with regs := s.regs, coll := s.coll, bcast := s.bcast } = s))) ∧
    (s.bcast.master = true → s.bcast.frame ≠ 0 → s.dueOn (s.bcast.frame * 160) 0 = true → s.rd PWR_SYNCCFG_MASTER = 1 → s.rd PWR_FRAME_VALUE ≠ 0 →
      ∃ t, exec .frameMarkEmit s = .next t ∧ t.rd PWR_SYNCSTAT_MLOST = 0 ∧
        t.bcast = { s.bcast with fwd := s.on PWR_SYNCCFG_FWD, frame := s.rd PWR_FRAME_VALUE, comp := s.rd PWR_SYNCCOMP_VALUE,
                                 synco := (25 * s.time, 20) :: s.bcast.synco, lastMark := some s.time, watchAt := t.bcast.watchAt, markOut := some (25 * s.time),
                                 markDue := s.bcast.markDue ++ [25 * s.time + 97 + s.rd PWR_SYNCCOMP_VALUE] } ∧
        t.bcast.watchAt = (if t.watching then some (s.bcast.watchAt.getD s.time) else none) ∧
        FieldsKept [PWR_SYNCSTAT_MLOST] s t ∧ { t with regs := s.regs, bcast := s.bcast } = s) ∧
    (∀ (m : Nat) (rest : List Nat) (n : Nat), s.bcast.markDue = m :: rest → n < 192 →
      let u := if s.bcast.master then s else s.installSync.updWatch
      let per : Int := s.perF n
      let d := ((m : Int) - (s.gen n).refA) % per
      let e := if per < 2 * d then d - per else d
      ∃ t, exec .frameMark s = .next t ∧ t.bcast = { u.bcast with markDue := rest } ∧
        (u.markActs n = false → t.gen n = s.gen n ∧ t.rd (CH_ESTAT_LOCK n) = s.rd (CH_ESTAT_LOCK n)) ∧
        (u.markActs n = true → (s.gen n).changing = true → t.gen n = s.gen n ∧ t.rd (CH_ESTAT_LOCK n) = 0) ∧
        (u.markActs n = true → (s.gen n).changing = false → t.gen n = { s.gen n with alignErr := e } ∧
          t.rd (CH_ESTAT_LOCK n) = if -1 ≤ e ∧ e ≤ 1 then 1 else 0) ∧
        FieldsKept (channels.map CH_ESTAT_LOCK) s t ∧ { t with regs := s.regs, gens := s.gens, bcast := s.bcast } = s) ∧
    (∀ w : Nat, s.bcast.watchAt = some w → max (s.bcast.lastMark.getD 0) w + 320 * s.bcast.frame ≤ s.time → s.bcast.lostFor ≠ some (max (s.bcast.lastMark.getD 0) w) →
      ∃ t, exec .marksLost s = .next t ∧ t.rd PWR_SYNCSTAT_MLOST = 1 ∧ t.rd PWR_SYNCMISS_COUNT = min 4095 (s.rd PWR_SYNCMISS_COUNT + 1) ∧
        (∀ n, n < 192 → t.rd (CH_ESTAT_LOCK n) = if s.on (CH_ALN_ALIGN n) then 0 else s.rd (CH_ESTAT_LOCK n)) ∧
        t.coll = (s.report clClk 0xC40 1 13).coll ∧
        t.bcast = { s.bcast with master := s.on PWR_SYNCCFG_MASTER, fwd := s.on PWR_SYNCCFG_FWD, frame := s.rd PWR_FRAME_VALUE, comp := s.rd PWR_SYNCCOMP_VALUE,
                                 lostFor := some (max (s.bcast.lastMark.getD 0) w), watchAt := t.bcast.watchAt } ∧
        t.bcast.watchAt = (if t.watching then some w else none) ∧
        FieldsKept (PWR_SYNCSTAT_MLOST :: PWR_SYNCMISS_COUNT :: channels.map CH_ESTAT_LOCK) s t ∧ { t with regs := s.regs, coll := s.coll, bcast := s.bcast } = s)

/-- R128 to R133, R154: shadow sets, apply events, discard, hand-over. -/
def Obligations.ShadowSetsAndHandOver : Prop :=
  ∀ (s : State) (r : Requester) (n : Fin 192),
    (∀ v : BitVec 24, Accepts s r (CH_SDUTY n) v.toNat →
      let u := (s.wr (CH_SDUTY_DUTY n) v.toNat).wr (CH_SHST_PEND n) 1
      (s.budgetOk u (n / 48) = true → ∃ t, exec (.shadowWrite r n 0 v) s = .next t ∧ t.rd (CH_SDUTY_DUTY n) = v.toNat ∧ t.rd (CH_SHST_PEND n) = 1 ∧
        FieldsKept [CH_SDUTY_DUTY n, CH_SHST_PEND n] s t ∧ { t with regs := s.regs, staged := s.staged } = s) ∧
      (s.budgetOk u (n / 48) = false → ∃ t, exec (.shadowWrite r n 0 v) s = .next t ∧ t.rd (CH_FLT_GBUD n) = 1 ∧
        t.coll = (s.report clCfg (16 * n + 8) 1 (n / 48)).coll ∧
        FieldsKept [CH_FLT_GBUD n] s t ∧ { t with regs := s.regs, staged := s.staged, coll := s.coll, hwNow := s.hwNow } = s)) ∧
    (∀ v : BitVec 24, Accepts s r (CH_SREF n) (v.toNat % 4096) →
      s.budgetOk ((s.wr (CH_SREF_REF n) (v.toNat % 4096)).wr (CH_SHST_PEND n) 1) (n / 48) = true →
      ∃ t, exec (.shadowWrite r n 1 v) s = .next t ∧ t.rd (CH_SREF_REF n) = v.toNat % 4096 ∧ t.rd (CH_SHST_PEND n) = 1 ∧
        FieldsKept [CH_SREF_REF n, CH_SHST_PEND n] s t ∧ { t with regs := s.regs } = s) ∧
    (∀ v : BitVec 24, let w := v.toNat % 4096
      Accepts s r (CH_SCTL n) w → (CH_SCTL_TRIG n).of w ≠ 3 →
      s.budgetOk ((((s.wr (CH_SCTL_TRIG n) ((CH_SCTL_TRIG n).of w)).wr (CH_SCTL_SRC n) ((CH_SCTL_SRC n).of w)).wr (CH_SCTL_CLOOP n) ((CH_SCTL_CLOOP n).of w)).wr
        (CH_SHST_PEND n) 1) (n / 48) = true →
      ∃ t, exec (.shadowWrite r n 2 v) s = .next t ∧ (∀ f ∈ (CH_SCTL n).fields, t.rd f = f.of w) ∧ t.rd (CH_SHST_PEND n) = 1 ∧
        FieldsKept (CH_SHST_PEND n :: (CH_SCTL n).fields) s t ∧ { t with regs := s.regs } = s) ∧
    (Accepts s r (CH_SCMD n) 1 →
      (s.rd (CH_SHST_PEND n) = 0 ∨ (s.latched n = true ∧ s.safeState n = 3) → exec (.apply r n) s = .next s) ∧
      (s.rd (CH_SHST_PEND n) = 1 → ¬(s.latched n = true ∧ s.safeState n = 3) →
        (s.rd (CH_STAT_RHOLD n) = 0 → s.rd (CH_STAT_FROZEN n) = 0 →
          ∃ t, exec (.apply r n) s = .next t ∧ t.rd (CH_SHST_PEND n) = 0 ∧ (t.prot n).appDuty = s.rd (CH_SDUTY_DUTY n) ∧
            (t.prot n).appRef = s.rd (CH_SREF_REF n) ∧ (t.prot n).deferred = none ∧ t.rd (CH_SHST_ASRC n) = s.rd (CH_SCTL_SRC n) ∧
            t.rd (CH_SHST_ACLOOP n) = (s.on (CH_SCTL_CLOOP n) && s.activeKind n == 2).toNat ∧
            (s.activeAspect n = none → s.rejoining n = false → s.rd (MIR_SPLIT_DBL n) = 0 → s.rd (CH_SHST_HOACT n) = 0 → s.rd (CH_SCTL_SRC n) = 0 →
              s.rd (CH_SHST_ASRC n) = 0 → s.rd (CH_SHST_ACLOOP n) = 0 →
              t.rd (CH_APPL_VALUE n) = if s.topo n = 2 then s.rd (CH_SREF_REF n) else s.rd (CH_SDUTY_DUTY n)) ∧
            FieldsKept ([CH_SHST_PEND n, CH_SHST_ASRC n, CH_SHST_ACLOOP n, CH_SHST_HOACT n, CH_SHST_CLAMP n, CH_SHST_DIS n, CH_APPL_VALUE n,
              CH_STAT_LARM n, CH_LREM_TICKS n] ++ proofFields n) s t ∧ chanless { t with coll := s.coll } = chanless s) ∧
        (s.rd (CH_STAT_RHOLD n) = 1 ∨ s.rd (CH_STAT_FROZEN n) = 1 →
          ∃ t, exec (.apply r n) s = .next t ∧ t.rd (CH_SHST_PEND n) = 0 ∧
            (t.prot n).deferred = some ⟨s.rd (CH_SDUTY_DUTY n), s.rd (CH_SREF_REF n), s.rd (CH_SCTL_SRC n), (s.on (CH_SCTL_CLOOP n) && s.activeKind n == 2).toNat, false⟩ ∧
            (t.prot n).appDuty = (s.prot n).appDuty ∧ FieldsKept [CH_SHST_PEND n] s t ∧ ElseSame t.prot s.prot n ∧
            { t with regs := s.regs, prots := s.prots, coll := s.coll } = s))) ∧
    (Accepts s r (CH_SCMD n) 2 →
      ∃ t, exec (.discard r n) s = .next t ∧ t.rd (CH_SHST_PEND n) = 0 ∧ t.rd (CH_SDUTY_DUTY n) = (s.prot n).appDuty % 65536 ∧
        t.rd (CH_SREF_REF n) = (s.prot n).appRef % 4096 ∧ t.rd (CH_SCTL_SRC n) = s.rd (CH_SHST_ASRC n) ∧ t.rd (CH_SCTL_CLOOP n) = s.rd (CH_SHST_ACLOOP n) ∧
        FieldsKept [CH_SHST_PEND n, CH_SDUTY_DUTY n, CH_SREF_REF n, CH_SCTL_SRC n, CH_SCTL_CLOOP n] s t ∧ { t with regs := s.regs } = s) ∧
    (s.rd (CH_SHST_HOACT n) = 1 → s.rd (CH_STAT_FROZEN n) = 0 →
      let tgt := s.ctrlTarget n
      let y := (s.prot n).hoY
      let step := max 1 (s.full n * s.rd (CH_SLEW_VALUE n) / 409600)
      ∃ t, exec (.handOverStep n) s = .next t ∧
        (s.rd (CH_SLEW_VALUE n) = 0 ∨ (tgt - y) + (y - tgt) ≤ step → (t.prot n).hoY = tgt ∧ t.rd (CH_SHST_HOACT n) = 0) ∧
        (s.rd (CH_SLEW_VALUE n) ≠ 0 → step < tgt - y → (t.prot n).hoY = y + step ∧ t.rd (CH_SHST_HOACT n) = 1) ∧
        (s.rd (CH_SLEW_VALUE n) ≠ 0 → step < y - tgt → (t.prot n).hoY = y - step ∧ t.rd (CH_SHST_HOACT n) = 1) ∧
        (s.rd (CH_STAT_RHOLD n) = 1 → t.rd (CH_APPL_VALUE n) = s.rd (CH_APPL_VALUE n)) ∧
        (s.rd (CH_STAT_RHOLD n) = 0 → s.activeAspect n = none → s.rd (MIR_SPLIT_DBL n) = 0 → t.rd (CH_APPL_VALUE n) = (t.prot n).hoY % 65536) ∧
        FieldsKept ([CH_SHST_HOACT n, CH_SHST_CLAMP n, CH_SHST_DIS n, CH_APPL_VALUE n] ++ proofFields n) s t ∧
        chanless { t with coll := s.coll } = chanless s)

/-- R134 to R142: broadcasts, aspect requests and switches. -/
def Obligations.BroadcastsAndAspectSwitches : Prop :=
  ∀ (s : State) (r : Requester),
    let noted := fun x => s.bcast.tagged.map fun y => { y with after := x :: y.after }
    (Accepts s r SN_SYNCREQ 1 → ∃ t, exec (.localSyncRequest r) s = .next t ∧
      t.bcast = { s.bcast with tagged := noted (25 * s.time + 400), syncDue := s.bcast.syncDue ++ [25 * s.time + 400] } ∧ { t with bcast := s.bcast } = s) ∧
    (Accepts s r SN_SYNCREQ 2 →
      (s.bcast.master = false → ∃ t, exec (.chainSyncRequest r) s = .next t ∧ t.coll = (s.report clLink 0xC44 1 13).coll ∧ { t with coll := s.coll } = s) ∧
      (s.bcast.master = true → ∃ t, exec (.chainSyncRequest r) s = .next t ∧
        (∃ x, 25 * s.time + 97 + s.bcast.comp ≤ x ∧ t.bcast = { s.bcast with synco := (x - (97 + s.bcast.comp), 80) :: s.bcast.synco, tagged := noted x, syncDue := s.bcast.syncDue ++ [x] }) ∧
        (s.bcast.frame = 0 → s.bcast.markOut = none → t.bcast.syncDue = s.bcast.syncDue ++ [25 * s.time + 97 + s.bcast.comp]) ∧ { t with bcast := s.bcast } = s)) ∧
    (Accepts s r SN_TSCMD 1 →
      let tag := s.rd SN_TSYNC_TAG
      (s.devTime ≤ tag → tag ≤ s.devTime + 16000000 → s.bcast.tagged.length < 8 → ∃ t, exec (.tsyncArm r) s = .next t ∧
        t.bcast = { s.bcast with tagged := s.bcast.tagged ++ [{ tag := tag, reqs := [], loc := true }] } ∧ t.rd SN_TSPEND_COUNT = s.bcast.tagged.length + 1 ∧
        FieldsKept [SN_TSPEND_COUNT] s t ∧ { t with regs := s.regs, bcast := s.bcast } = s) ∧
      (tag < s.devTime → s.devTime ≤ tag + 16000 → ∃ t, exec (.tsyncArm r) s = .next t ∧ t.coll = (s.report clLink 0xC42 1 13).coll ∧
        t.bcast = { s.bcast with syncDue := s.bcast.syncDue ++ [25 * s.time + 1] } ∧ { t with coll := s.coll, bcast := s.bcast } = s) ∧
      (tag + 16000 < s.devTime ∨ s.devTime + 16000000 < tag → ∃ t, exec (.tsyncArm r) s = .next t ∧ t.coll = (s.report clLink 0xC43 1 13).coll ∧
        { t with coll := s.coll } = s)) ∧
    (∀ x : Tagged, s.bcast.tagged.find? (fun y => decide (y.tag ≤ s.devTime)) = some x → (∀ p ∈ x.reqs, p.1 < 16) →
      ∃ t, exec .tagReached s = .next t ∧ t.bcast = { s.bcast with tagged := s.bcast.tagged.erase x, syncDue := s.bcast.syncDue ++ [25 * s.time + 1] } ∧
        t.rd SN_TSPEND_COUNT = (s.bcast.tagged.erase x).length % 16 ∧
        FieldsKept (SN_TSPEND_COUNT :: (List.range 16).flatMap fun g => (SN_AGREQ g).fields) s t ∧
        (∀ g, { t.group g with byFrame := (s.group g).byFrame } = s.group g) ∧ { t with regs := s.regs, bcast := s.bcast, coll := s.coll, hwNow := s.hwNow, groups := s.groups } = s) ∧
    (∀ (g : Fin 16) (w : Word), Accepts s r (SN_AGREQ g) w.toNat → (SN_AGREQ_REQV g).of w.toNat = 1 → s.marked (SN_AGREQ_REQV g) = 0 →
      let a := (SN_AGREQ_ASP g).of w.toNat
      let ok := s.on (SN_ASP_VALID a) && s.rd (SN_ASP_GROUP a) == g.val && !s.on (SN_AGACT_DEMAND g)
      ∃ t, exec (.aspectRequest r g w) s = .next t ∧ t.rd (SN_AGREQ_ASP g) = a ∧ t.rd (SN_AGREQ_TRIG g) = (SN_AGREQ_TRIG g).of w.toNat ∧
        t.rd (SN_AGREQ_REQV g) = ok.toNat ∧
        t.coll = (if ok = false then s.report clCfg (0xC70 + g) 1 12 else if s.on (SN_AGREQ_REQV g) then s.report clCfg (0xC70 + g) 0 12 else s).coll ∧
        t.bcast = { s.bcast with tagged := s.bcast.tagged.map fun y => { y with past := g.val :: y.past } } ∧ t.group g = { s.group g with byFrame := false } ∧ ElseSame t.group s.group g ∧
        FieldsKept (SN_AGREQ g).fields s t ∧ { t with regs := s.regs, coll := s.coll, bcast := s.bcast, groups := s.groups } = s) ∧
    (∀ mask : BitVec 16, Accepts s r SN_AAPPLY mask.toNat →
      let gs := (List.range 16).filter fun g => mask.toNat.testBit g && s.on (SN_AGREQ_REQV g)
      ∃ t, exec (.groupApply r mask) s = .next t ∧ t.bcast = (if gs = [] then s.bcast else { s.bcast with aapply := s.bcast.aapply ++ [gs] }) ∧
        { t with bcast := s.bcast, staged := s.staged } = s) ∧
    (∀ (gs : List Nat) (rest : List (List Nat)), s.bcast.aapply = gs :: rest → gs.Nodup →
      ∃ t, exec .aspectSwitch s = .next t ∧ t.bcast = { s.bcast with aapply := rest } ∧ MemoriesKept s t ∧ t.cores = s.cores ∧
        ∀ g ∈ gs, g < 16 → s.rd (SN_AGREQ_REQV g) = 1 → s.deferring g = false → t.rd (SN_AGREQ_REQV g) = 0 ∧ Switched s t g (s.rd (SN_AGREQ_ASP g))) ∧
    (∀ (x : Nat) (rest : List Nat), s.bcast.syncDue = x :: rest →
      ∃ t, exec .syncBroadcast s = .next t ∧ t.bcast = { s.bcast with syncDue := (x :: rest).filter (· != rest.foldl min x) } ∧ MemoriesKept s t ∧
        (∀ g : Fin 16, s.rd (SN_AGREQ_TRIG g) = 1 → s.rd (SN_AGREQ_REQV g) = 1 → s.deferring g = false →
          t.rd (SN_AGREQ_REQV g) = 0 ∧ t.rd (SN_AGACT_ASP g) = s.rd (SN_AGREQ_ASP g) ∧ t.rd (SN_AGACT_VALID g) = 1) ∧
        (∀ n : Fin 192, s.rd (CH_SCTL_TRIG n) = 1 → ¬(s.latched n = true ∧ s.safeState n = 3) → t.rd (CH_SHST_PEND n) = 0) ∧
        ((∀ g, g < 16 → s.rd (SN_AGREQ_TRIG g) = 0) → ∀ n : Fin 192, s.rd (CH_SCTL_TRIG n) ≠ 1 →
          t.rd (CH_SHST_PEND n) = s.rd (CH_SHST_PEND n) ∧ (t.prot n).appDuty = (s.prot n).appDuty) ∧
        (∀ q : Fin 256, s.noCore q = false → t.bit (PWR_IPEND_LINES q) 4 = true) ∧
        (∀ (d : Fin 4) (z : Fin 3), s.rd (CAR_STAT_SYNCW d z) = 1 → t.rd (CAR_STAT_SYNCW d z) = 0 ∧ (t.rd (CAR_STAT_STATE d z) = 1 ∨ t.rd (CAR_STAT_STATE d z) = s.rd (CAR_STAT_STATE d z))))

/-- R147 to R151: the sequencers. -/
def Obligations.CarouselSequencers : Prop :=
  ∀ (s : State) (r : Requester) (d : Fin 4) (z : Fin 3),
    let q := s.seqr (seqNo d z)
    let op := fun (k len : Nat) => s.rd (CAR_STAT_STATE d z) = 1 ∧ q.pc ≤ 1023 ∧ s.rd (CAR_MEM_WORD d z q.pc) / 512 = k ∧ q.pc + len ≤ 1024
    let w := s.rd (CAR_MEM_WORD d z q.pc)
    let w1 := s.rd (CAR_MEM_WORD d z (q.pc + 1))
    let w2 := s.rd (CAR_MEM_WORD d z (q.pc + 2))
    let frame := fun (t : State) => (s.rd (PWR_WAKERT_CLU 0) = 0 ∨ s.began ≠ .watch →
        FieldsKept ((CAR_STAT d z).fields ++ [CAR_PC_VALUE d z] ++ (List.range 8).map (CAR_TRK_VALUE d z) ++ (List.range 8).flatMap (fun k => (PWR_CST k).fields) ++
          (dieChannels d).flatMap fun n => [CH_APPL_VALUE n, CH_SHST_CLAMP n, CH_SHST_DIS n, CH_SHST_ACLOOP n] ++ proofFields n) s t ∧
        chanless { t with seqrs := s.seqrs, coll := s.coll, clus := s.clus } = chanless s) ∧
      MemoriesKept s t ∧ t.cores = s.cores ∧ ElseSame t.seqr s.seqr (seqNo d z)
    let err := fun (t : State) (e : Nat) => t.rd (CAR_STAT_STATE d z) = 3 ∧ t.rd (CAR_STAT_ERR d z) = e ∧
      t.coll = (s.report clCfg (0xC00 + 16 * d + 4 + z) 2 d).coll ∧ ∀ k, k < 8 → t.rd (CAR_TRK_VALUE d z k) = s.rd (CAR_TRK_VALUE d z k)
    (Accepts s r (CAR_CTL d z) 1 → s.diePowered d = true → s.budgetOk (s.primeSeq d z) d = true → q.stopAt ≠ some s.time → s.rd (CAR_STAT_STATE d z) ≠ 3 →
      ∃ t, exec (.sequencerStart r d z) s = .next t ∧ t.rd (CAR_STAT_STATE d z) = 1 ∧ t.rd (CAR_STAT_ERR d z) = 0 ∧ t.rd (CAR_STAT_DEPTH d z) = 0 ∧
        t.rd (CAR_PC_VALUE d z) = s.rd (CAR_CFG_ENTRY d z) ∧ (t.seqr (seqNo d z)).pc = s.rd (CAR_CFG_ENTRY d z) ∧
        (t.seqr (seqNo d z)).ramps = [] ∧ (∀ k, k < 8 → t.rd (CAR_TRK_VALUE d z k) = 0) ∧ frame t) ∧
    (Accepts s r (CAR_CTL d z) 2 → ∃ t, exec (.sequencerStop r d z) s = .next t ∧ t.rd (CAR_STAT_STATE d z) = 0 ∧ t.rd (CAR_STAT_ERR d z) = 0 ∧
        (t.seqr (seqNo d z)).ramps = [] ∧ (∀ k, k < 8 → t.rd (CAR_TRK_VALUE d z k) = 0) ∧ frame t) ∧
    (Accepts s r (CAR_CTL d z) 4 → ∃ t, exec (.syncst r d z) s = .next t ∧ t.rd (CAR_STAT_SYNCW d z) = 1 ∧
        FieldsKept [CAR_STAT_SYNCW d z] s t ∧ { t with regs := s.regs } = s) ∧
    (op 0 2 → w % 64 = 0 → ∃ t, exec (.lvl d z) s = .next t ∧ t.rd (CAR_TRK_VALUE d z (w / 64 % 8)) = w1 ∧ (t.seqr (seqNo d z)).pc = q.pc + 2 ∧
        t.rd (CAR_PC_VALUE d z) = (q.pc + 2) % 1024 ∧ (∀ k, k < 8 → k ≠ w / 64 % 8 → t.rd (CAR_TRK_VALUE d z k) = s.rd (CAR_TRK_VALUE d z k)) ∧ frame t) ∧
    (op 1 3 → w % 64 = 0 → ∃ t, exec (.rmp d z) s = .next t ∧ (t.seqr (seqNo d z)).pc = q.pc + 3 ∧
        (w2 ≠ 0 → (t.seqr (seqNo d z)).ramps.get none (w / 64 % 8) = some ⟨s.rd (CAR_TRK_VALUE d z (w / 64 % 8)), w1, w2, s.devCount / s.unit d z, 0⟩) ∧
        (w2 = 0 → (t.seqr (seqNo d z)).ramps = q.ramps) ∧ FieldsKept [CAR_PC_VALUE d z] s t ∧ frame t) ∧
    (∀ (k : Fin 8) (p : Ramp), q.ramps.get none k = some p →
      let j := min p.n (s.devCount / s.unit d z - p.unit0)
      (j ≤ p.step → exec (.rampStep d z k) s = .next s) ∧ (p.step < j →
      ∃ t, exec (.rampStep d z k) s = .next t ∧ t.rd (CAR_TRK_VALUE d z k) = ((p.start : Int) + ((p.target : Int) - p.start) * j / p.n).toNat % 4096 ∧
        (j = p.n → (t.seqr (seqNo d z)).ramps.get none k = none) ∧ (j ≠ p.n → (t.seqr (seqNo d z)).ramps.get none k = some { p with step := j }) ∧ frame t)) ∧
    (op 2 2 → w / 2 % 256 = 0 → ∃ t, exec (.patternWait d z) s = .next t ∧
        (w1 = 0 → (t.seqr (seqNo d z)).pc = q.pc + 2 ∧ t.rd (CAR_STAT_STATE d z) = 1) ∧
        (w1 ≠ 0 → t.rd (CAR_STAT_STATE d z) = 2 ∧ (t.seqr (seqNo d z)).waitUntil = (s.devCount / s.unit d z + w1) * s.unit d z ∧
          (t.seqr (seqNo d z)).waitSync = w.testBit 0 ∧ (t.seqr (seqNo d z)).pc = q.pc) ∧ frame t) ∧
    (s.rd (CAR_STAT_STATE d z) = 2 → q.waitUntil ≤ s.devCount → ∃ t, exec (.patternWaitEnd d z) s = .next t ∧ t.rd (CAR_STAT_STATE d z) = 1 ∧
        (t.seqr (seqNo d z)).pc = q.pc + 2 ∧ t.rd (CAR_PC_VALUE d z) = (q.pc + 2) % 1024 ∧ frame t) ∧
    (op 3 1 → let ts := (List.range 8).filter fun k => w.testBit k
      ∃ t, exec (.rot d z) s = .next t ∧ (t.seqr (seqNo d z)).pc = q.pc + 1 ∧
        (∀ i, i < ts.length → t.rd (CAR_TRK_VALUE d z (ts.getD i 0)) =
          s.rd (CAR_TRK_VALUE d z (ts.getD (if w.testBit 8 then (i + 1) % ts.length else (i + ts.length - 1) % ts.length) 0))) ∧
        (∀ k, k < 8 → w.testBit k = false → t.rd (CAR_TRK_VALUE d z k) = s.rd (CAR_TRK_VALUE d z k)) ∧ frame t) ∧
    (op 4 2 → ∃ t, exec (.patternLoop d z) s = .next t ∧
        (w1 = 0 → (t.seqr (seqNo d z)).pc = q.pc + 2 + w % 512 ∧ (t.seqr (seqNo d z)).stack = q.stack) ∧
        (w1 ≠ 0 → q.stack.length < 4 → (t.seqr (seqNo d z)).stack = (q.pc + 2, w1) :: q.stack ∧ (t.seqr (seqNo d z)).pc = q.pc + 2 ∧
          t.rd (CAR_STAT_DEPTH d z) = q.stack.length + 1) ∧
        (w1 ≠ 0 → 4 ≤ q.stack.length → err t 2) ∧ frame t) ∧
    (op 5 1 → w % 512 = 0 → ∃ t, exec (.next d z) s = .next t ∧ (q.stack = [] → err t 3) ∧
        (∀ a n rest, q.stack = (a, n) :: rest →
          (n = 1 → (t.seqr (seqNo d z)).stack = rest ∧ (t.seqr (seqNo d z)).pc = q.pc + 1) ∧
          (n ≠ 1 → (t.seqr (seqNo d z)).stack = (a, n - 1) :: rest ∧ (t.seqr (seqNo d z)).pc = a)) ∧ frame t) ∧
    (op 6 2 → w % 256 = 0 → ∃ t, exec (.jmp d z) s = .next t ∧ (1023 < w1 → err t 1) ∧
        (w1 ≤ 1023 → w.testBit 8 = true → t.rd (CAR_STAT_STATE d z) = 3 ∧ t.rd (CAR_STAT_ERR d z) = 0 ∧ (t.seqr (seqNo d z)).ramps = []) ∧
        (w1 ≤ 1023 → w.testBit 8 = false → (t.seqr (seqNo d z)).pc = w1 ∧ t.rd (CAR_PC_VALUE d z) = w1) ∧ frame t) ∧
    (op 7 1 → w % 512 = 0 → ∃ t, exec (.apl d z) s = .next t ∧ (t.seqr (seqNo d z)).pc = q.pc + 1 ∧
        (∀ n : Fin 192, n / 48 = d.val → s.rd (CH_SCTL_TRIG n) = 2 → s.rd (CH_CARB_SEQ n) = z → ¬(s.latched n = true ∧ s.safeState n = 3) → t.rd (CH_SHST_PEND n) = 0) ∧
        (∀ n : Fin 192, n / 48 ≠ d.val ∨ s.rd (CH_SCTL_TRIG n) ≠ 2 ∨ s.rd (CH_CARB_SEQ n) ≠ z.val → t.rd (CH_SHST_PEND n) = s.rd (CH_SHST_PEND n) ∧ t.prot n = s.prot n) ∧
        MemoriesKept s t)

/-- R56, R164 to R188: evidence, verdicts, release. -/
def Obligations.ProofEvidenceAndVerdicts : Prop :=
  ∀ s : State,
    (∀ (n : Fin 192) (i v : Word), s.allOff = false →
      let iv := if s.rd (CH_STAT_RHOLD n) = 1 then 0x800 else i.toNat
      let x := if iv = 0x800 then (s.prf n).lastValid else s.sampleUnits n iv
      let m : Int := if s.topo n = 3 then x.natAbs else x
      let l := ((s.prf n).samples ++ [m]).drop (((s.prf n).samples ++ [m]).length - 250)
      let tested := s.on (CW_CFG_DEN n) && (s.prf n).expt == .dark && decide ((s.prf n).exptAt + 160 * s.rd (CW_DSET_DSET n) ≤ s.time) && iv != 0x800
      let out := decide (2 * s.rd (CW_IDARK_IDARK n) < x.natAbs) || decide (s.rd (CW_VDARK_VDARK n) < v.toNat)
      ∃ t, exec (.converterSample n i v) s = .next t ∧ t.rd (CH_IRES_RESULT n) = iv ∧ t.rd (CH_VRES_RESULT n) = v.toNat ∧ (t.prf n).samples = l ∧
        t.rd (CW_MEAN_MEAN n) = wrap 24 (l.foldl (· + ·) 0 / 500) ∧
        (tested = false → t.rd (CW_CVER_CVER n) = s.rd (CW_CVER_CVER n) ∧ (t.prf n).darkRun = (s.prf n).darkRun) ∧
        (tested = true → out = true → (t.prf n).darkRun = (s.prf n).darkRun + 1 ∧
          t.rd (CW_CVER_CVER n) = if 7 ≤ (s.prf n).darkRun then 4 else s.rd (CW_CVER_CVER n)) ∧
        (tested = true → out = false → (t.prf n).darkRun = 0 ∧ t.rd (CW_CVER_CVER n) = if (s.prf n).cNew then s.rd (CW_CVER_CVER n) else 1) ∧
        (let cv := if (s.die (n / 48)).conv.contains (n % 48) then (s.die (n / 48)).conv else n % 48 :: (s.die (n / 48)).conv
         (cv.length < 48 → t.die (n / 48) = { s.die (n / 48) with conv := cv } ∧ t.flight = s.flight) ∧
         (48 ≤ cv.length → t.die (n / 48) = { s.die (n / 48) with conv := [] } ∧ ∀ k, k < 2 → t.flight.get [] (64 * k + n / 48) =
           if (List.range 32).any (s.ringOn k (n / 48)) then s.flight.get [] (64 * k + n / 48) ++ [t.converterFrame (n / 48)]
           else s.flight.get [] (64 * k + n / 48))) ∧
        FieldsKept [CH_IRES_RESULT n, CH_VRES_RESULT n, CW_MEAN_MEAN n, CW_CVER_CVER n] s t ∧ ElseSame t.prf s.prf n ∧ ElseSame t.die s.die (n / 48) ∧
        { t with regs := s.regs, prfs := s.prfs, dies := s.dies, flight := s.flight } = s) ∧
    (s.dueOn 4000 0 = false → exec .coarseLitEvaluation s = .next s) ∧
    (s.dueOn 4000 0 = true → ∃ t, exec .coarseLitEvaluation s = .next t ∧
      (∀ n : Fin 192, let p := s.prf n
        let sum := p.samples.foldl (· + ·) 0
        let low : Int := 500 * (s.expectedMean n * s.rd (CW_LITLO_LITLO n) / 256 : Nat)
        let high : Int := 500 * (s.expectedMean n * s.rd (CW_LITHI_LITHI n) / 256 : Nat)
        let judged := s.on (CW_CFG_CEN n) && p.expt == .lit && decide (p.exptAt + 16000 ≤ s.time)
        let blank := (s.gen n).inrush || ((p.dblAt).any fun t => decide (s.time < t + 16000))
        t.rd (CW_CVER_CVER n) = if judged = false then s.rd (CW_CVER_CVER n) else if sum < low then 2 else if high < sum ∧ blank = false then 3
          else if p.cNew then s.rd (CW_CVER_CVER n) else 1) ∧
      FieldsKept (channels.map CW_CVER_CVER) s t ∧ { t with regs := s.regs, prfs := s.prfs } = s) ∧
    (∀ (r : Requester) (n : Fin 192) (w : Word), Accepts s r (CH_EVER n) w.toNat →
      (s.postRequester r (s.svMode r) = true → (s.prf n).eFree = true ∨ (CH_EVER_SEQ n).of w.toNat = (s.rd (CH_EVER_SEQ n) + 1) % 16 →
        ∃ t, exec (.electricalVerdictPost r n w) s = .next t ∧ (∀ f ∈ (CH_EVER n).fields, t.rd f = f.of w.toNat) ∧
          t.prf n = { s.prf n with eNew := true, eAny := true, eFree := false } ∧ ElseSame t.prf s.prf n ∧
          FieldsKept (CH_EVER n).fields s t ∧ { t with regs := s.regs, prfs := s.prfs } = s) ∧
      (s.postRequester r (s.svMode r) = true → (s.prf n).eFree = false → (CH_EVER_SEQ n).of w.toNat ≠ (s.rd (CH_EVER_SEQ n) + 1) % 16 →
        exec (.electricalVerdictPost r n w) s = .next s) ∧
      (s.postRequester r (s.svMode r) = false → ∃ t, exec (.electricalVerdictPost r n w) s = .next t ∧
        t.coll = (s.report clCfg (16 * n + 10) 1 (n / 48) (addrData (CH_EVER n).last)).coll ∧ { t with coll := s.coll } = s)) ∧
    (∀ (r : Requester) (n : Fin 192) (w : Word), Accepts s r (CH_OVER n) w.toNat →
      (s.postRequester r (s.svMode r) = true → (s.prf n).oFree = true ∨ (CH_OVER_SEQ n).of w.toNat = (s.rd (CH_OVER_SEQ n) + 1) % 16 →
        ∃ t, exec (.opticalVerdictPost r n w) s = .next t ∧ (∀ f ∈ (CH_OVER n).fields, t.rd f = f.of w.toNat) ∧
          (t.prf n).oAny = true ∧ (t.prf n).oFree = false ∧ (t.prf n).oAt = some s.time ∧ ElseSame t.prf s.prf n ∧
          FieldsKept (SPT_STAT_INTERF (s.rd (CH_PCFG_INP n)) :: (CH_OVER n).fields) s t ∧ { t with regs := s.regs, prfs := s.prfs, coll := s.coll, hwNow := s.hwNow } = s) ∧
      (s.postRequester r (s.svMode r) = true → (s.prf n).oFree = false → (CH_OVER_SEQ n).of w.toNat ≠ (s.rd (CH_OVER_SEQ n) + 1) % 16 →
        exec (.opticalVerdictPost r n w) s = .next s)) ∧
    (∀ (r : Requester) (w : Word), Accepts s r SPT_CBIDX w.toNat → w.toNat ≤ 1024 →
      ∃ t, exec (.codeBalanceQuery r w) s = .next t ∧ t.rd SPT_CBIDX_IDX = w.toNat ∧
        t.rd SPT_CBAL_BAL = wrap 12 ((List.range 1023).foldl (fun a j => a + if chip w.toNat j then 1 else -1) (0 : Int)) ∧
        FieldsKept [SPT_CBIDX_IDX, SPT_CBAL_BAL] s t ∧ { t with regs := s.regs } = s) ∧
    (∀ (q : Fin 256) (ch : BitVec 8) (key : Word), let r := Requester.core q
      Accepts s r SN_LCLR (ch.toNat * 2 ^ SN_LCLR_CH.lo + key.toNat * 2 ^ SN_LCLR_KEY.lo) →
      let ok := decide (q.val < 64) && s.coreSv q && key.toNat == 0x3C3 && decide (ch.toNat ≤ 191)
      (ok = true → s.rd (CH_SSTAT_LATCH ch.toNat) = 1 → ∃ t, exec (.latchReleaseRequest r ch key) s = .next t ∧ t.rd SN_LCLRST_PEND = 1 ∧
        t.rd SN_LCLRST_REF = 0 ∧ t.rd SN_LCLR_CH = ch.toNat ∧ FieldsKept [SN_LCLRST_PEND, SN_LCLRST_REF, SN_LCLR_CH] s t ∧
        { t with regs := s.regs, staged := s.staged } = s) ∧
      (ok = false → ∃ t, exec (.latchReleaseRequest r ch key) s = .next t ∧ t.coll = (s.report clCfg 0xE21 1 12).coll ∧
        { t with coll := s.coll, staged := s.staged } = s)) ∧
    (s.dueOn 16000 0 = false → exec .fusionTick s = .next s) ∧
    (s.dueOn 16000 0 = true → s.rd SN_LCLRST_PEND = 0 →
      ∃ t, exec .fusionTick s = .next t ∧ MemoriesKept s t ∧ ((∀ n, n < 192 → (s.prf n).noDecAt = none ∨ (s.prf n).noDecRep = true) → t.coll = s.coll) ∧ t.cores = s.cores ∧
        (∀ n : Fin 192, (s.expectation n).1 = (s.prf n).expt → let p := s.prf n
          (p.expt = .none → t.rd (CH_PVER_STATE n) = 0) ∧
          (p.expt ≠ .none → 2 ≤ s.rd (CW_CVER_CVER n) → t.rd (CH_PVER_STATE n) = 4 ∧ t.rd (CH_PVER_CFAIL n) = 1) ∧
          (p.expt ≠ .none → p.eNew = true → s.rd (CH_EVER_VERD n) ≠ 0 → State.agrees p.expt (s.rd (CH_EVER_VERD n)) = false →
            t.rd (CH_PVER_STATE n) = 4 ∧ t.rd (CH_PVER_EFAIL n) = 1) ∧
          (p.expt ≠ .none → s.rd (CW_CVER_CVER n) < 2 → p.eNew = true → State.agrees p.expt (s.rd (CH_EVER_VERD n)) = true → s.rd (CH_PCFG_EREQ n) = 1 → s.rd (CH_PCFG_OREQ n) = 0 →
            p.restartAt + s.deadline n ≤ s.time → t.rd (CH_PVER_STATE n) = 2) ∧
          (t.rd (CH_PVER_STATE n) = 4 → t.rd (CH_PFCNT_VALUE n) = min 4095 (s.rd (CH_PFCNT_VALUE n) + 1)) ∧
          (t.rd (CH_PVER_STATE n) ≠ 4 → t.rd (CH_PFCNT_VALUE n) = s.rd (CH_PFCNT_VALUE n))) ∧
        (∀ g : Fin 16, (s.rd (SN_AGACT_VALID g) = 0 → t.rd (SN_AGVER_STATE g) = 0 ∧ t.rd (SN_AGVER_NFAIL g) = 0) ∧
          (s.rd (SN_AGACT_VALID g) = 1 → ∀ n : Fin 192, s.rd (CH_AGRP_GRP n) = g → s.member n (s.rd (SN_AGACT_ASP g)) = true →
            t.rd (CH_PVER_STATE n) = 4 → t.rd (SN_AGVER_STATE g) = 3)) ∧
        FieldsKept (channels.flatMap (fun n => (CH_PVER n).fields ++ [CW_CVER_CVER n, CH_PFCNT_VALUE n]) ++
          (List.range 16).flatMap (fun g => (SN_AGVER g).fields) ++ [SPT_DEG_OPTDEG]) s t ∧ chanless { t with groups := s.groups, coll := s.coll } = chanless s) ∧
    (s.dueOn 16000 0 = true → s.rd SN_LCLRST_PEND = 1 → s.rd SN_LCLR_CH < 192 → s.rd (CH_SSTAT_LATCH (s.rd SN_LCLR_CH)) = 1 →
      ∃ t, exec .fusionTick s = .next t ∧ t.rd SN_LCLRST_PEND = 0 ∧ MemoriesKept s t ∧
        (s.rd (CH_SSTAT_CAUSE (s.rd SN_LCLR_CH)) = 4 → t.rd SN_LCLRST_REF = 7 ∧ t.rd (CH_SSTAT_LATCH (s.rd SN_LCLR_CH)) = 1) ∧
        (t.rd SN_LCLRST_REF = 0 ↔ t.rd (CH_SSTAT_LATCH (s.rd SN_LCLR_CH)) = 0) ∧
        ((∀ n, n < 192 → (s.prf n).noDecAt = none ∨ (s.prf n).noDecRep = true) → t.rd SN_LCLRST_REF ≠ 0 → t.coll = (s.report clCfg (16 * s.rd SN_LCLR_CH + 11) 1 12 (addrData SN_LCLR.last)).coll))

/-- R173, R174, R183 to R187: group errors, optical degradation, optical inputs. -/
def Obligations.GroupErrorsAndOpticalDegradation : Prop :=
  ∀ s : State,
    (∀ g : Fin 16,
      ((s.group g).errNew = [] → exec (.aspectErrorReport g) s = .next s) ∧
      (∀ a src rest, (s.group g).errNew = (a, src) :: rest → ∃ t, exec (.aspectErrorReport g) s = .next t ∧
        t.coll = (s.report clProof (0x300 + a) (if s.rd (SN_ASP_SAFE a) = 1 then 3 else 1) 12 [src]).coll ∧
        t.group g = { s.group g with errNew := rest, react := (s.group g).react ++ [(a, s.coll.nextId)] } ∧ ElseSame t.group s.group g ∧ { t with coll := s.coll, groups := s.groups } = s) ∧
      ((s.group g).react = [] → exec (.aspectReaction g) s = .next s) ∧
      (∀ a ev rest, (s.group g).react = (a, ev) :: rest → let b := s.rd (SN_APRF_SUBST a)
        (s.rd (SN_APRF_REACT a) = 0 → ∃ t, exec (.aspectReaction g) s = .next t ∧ t.group g = { s.group g with react := rest } ∧
          ElseSame t.group s.group g ∧ { t with groups := s.groups } = s) ∧
        (s.rd (SN_APRF_REACT a) = 2 → ∃ t, exec (.aspectReaction g) s = .next t ∧ MemoriesKept s t ∧ (t.group g).react = rest ∧
          (∀ n : Fin 192, s.member n a = true → t.rd (CH_SSTAT_LATCH n) = 1 ∧ (s.latched n = false → t.rd (CH_SSTAT_CAUSE n) = 1 ∧ (t.prot n).latchEv = some ev)) ∧
          (∀ n : Fin 192, s.member n a = false → t.rd (CH_SSTAT_LATCH n) = s.rd (CH_SSTAT_LATCH n) ∧ t.rd (CH_SSTAT_CAUSE n) = s.rd (CH_SSTAT_CAUSE n)) ∧
          FieldsKept ((s.members a).flatMap latchFields) s t ∧ chanless { t with groups := s.groups, coll := s.coll } = chanless s) ∧
        (s.rd (SN_APRF_REACT a) = 1 ∨ s.rd (SN_APRF_REACT a) = 3 → s.rd (SN_ASP_GROUP b) = g → ∃ t, exec (.aspectReaction g) s = .next t ∧ MemoriesKept s t ∧
          Switched s t g b ∧ t.rd (SN_AGACT_DEMAND g) = 1 ∧ t.rd (SN_AGREQ_REQV g) = 0 ∧ (t.group g).demandSub = some ev ∧ (t.group g).react = rest ∧
          (s.rd (SN_APRF_REACT a) = 3 → a ∈ t.sio.lampFail) ∧ (s.rd (SN_APRF_REACT a) = 1 → t.sio = s.sio) ∧ t.cores = s.cores) ∧
        (s.rd (SN_APRF_REACT a) = 1 ∨ s.rd (SN_APRF_REACT a) = 3 → s.rd (SN_ASP_GROUP b) ≠ g → ∃ t, exec (.aspectReaction g) s = .next t ∧
          t.group g = { s.group g with react := rest } ∧ ElseSame t.group s.group g ∧ { t with groups := s.groups, sio := s.sio } = s)) ∧
      (let a := s.rd (SN_AGACT_ASP g)
       s.rd SPT_DEG_OPTDEG = 1 → s.rd (SN_APRF_OPTREQ a) = 1 → s.rd (SN_AGACT_VALID g) = 1 → s.rd (SN_AGVER_STATE g) = 2 →
        ∀ t0, (s.group g).degSince = some t0 → t0 + s.degDuration < s.time → ∃ t, exec (.groupDegradedTimeout g) s = .next t ∧
          t.rd (SN_AGVER_STATE g) = 3 ∧ (t.group g).degOver = true ∧ (t.group g).react = (s.group g).react ++ [(a, s.coll.nextId)] ∧
          t.coll = (s.report clProof (0x300 + a) (if s.rd (SN_ASP_SAFE a) = 1 then 3 else 1) 12 [(Config.freeValue s.free).toNat]).coll ∧
          FieldsKept [SN_AGVER_STATE g] s t ∧ ElseSame t.group s.group g ∧ { t with regs := s.regs, coll := s.coll, groups := s.groups, free := s.free } = s)) ∧
    (s.rd SPT_DEG_OPTDEG = 1 → ∀ b : BitVec 32, ∃ t, exec (.opticalDegraded b) s = .next t ∧
      (∀ i : Fin 32, t.rd (SPT_STAT_FAULT i) = if b.getLsbD i then 1 else s.rd (SPT_STAT_FAULT i)) ∧
      FieldsKept ((List.range 32).map SPT_STAT_FAULT) s t ∧ { t with regs := s.regs } = s) ∧
    (s.oreqChannels = [] → s.optChannels = [] → exec (.opticalDegraded 0) s = .next s) ∧
    (s.rd SPT_DEG_OPTDEG = 0 → ∀ b : BitVec 32, b ≠ 0 ∨ (s.rd SPT_CTL_RUN = 0 ∧ s.oreqChannels ≠ []) →
      ∃ t, exec (.opticalDegraded b) s = .next t ∧ t.rd SPT_DEG_OPTDEG = 1 ∧ (∀ i : Fin 32, t.rd (SPT_STAT_FAULT i) = if b.getLsbD i then 1 else s.rd (SPT_STAT_FAULT i)) ∧
        ((∀ n : Fin 192, s.rd (CH_SHST_ACLOOP n) = 0) → t.coll = (s.report clProof 0x380 2 12).coll) ∧ t.cores = s.cores ∧ MemoriesKept s t ∧
        ∀ n : Fin 192, t.rd (CH_SHST_ACLOOP n) = 0 ∧ (s.rd (CH_SHST_ACLOOP n) = 1 → t.rd (CH_SHST_HOACT n) = 1) ∧ (s.rd (CH_SHST_ACLOOP n) = 0 → t.prot n = s.prot n)) ∧
    (∀ (i : Fin 32) (r : Requester) (w : Word), Accepts s r (SPT_INCFG i) w.toNat → let fs := (SPT_INCFG_FS i).of w.toNat
      ∃ t, exec (.inputRangeWrite r i w) s = .next t ∧ (∀ f ∈ (SPT_INCFG i).fields, t.rd f = f.of w.toNat) ∧
        (fs = s.rd (SPT_INCFG_FS i) → FieldsKept (SPT_INCFG i).fields s t ∧ { t with regs := s.regs } = s) ∧
        (fs ≠ s.rd (SPT_INCFG_FS i) → t.rd (SPT_STAT_FSA i) = fs ∧ t.rd (SPT_STAT_RHOLD i) = 1 ∧ t.optic i = { s.optic i with holdAt := s.time, high := 0, sat := false } ∧
          ElseSame t.optic s.optic i ∧ FieldsKept (SPT_STAT_FSA i :: SPT_STAT_RHOLD i :: (SPT_INCFG i).fields) s t ∧
          { t with regs := s.regs, optics := s.optics } = s)) ∧
    (∀ i : Fin 32, let o := s.optic i
      let up := decide (s.rd (SPT_INCFG_AUTOR i) = 1) && decide (s.rd (SPT_STAT_FSA i) < 3)
      (o.high < 4 ∨ o.sat = true → exec (.spotlightSaturation i) s = .next s) ∧
      (4 ≤ o.high → o.sat = false → ∃ t, exec (.spotlightSaturation i) s = .next t ∧ t.rd (SPT_STAT_SAT i) = 1 ∧ t.coll = (s.report clProof (0x340 + 2 * i) 1 13).coll ∧
        t.rd (SPT_STAT_FSA i) = s.rd (SPT_STAT_FSA i) + up.toNat ∧ t.rd (SPT_STAT_RHOLD i) = (if up then 1 else s.rd (SPT_STAT_RHOLD i)) ∧
        t.optic i = { o with high := if up then 0 else o.high, sat := !up, lowSince := none, holdAt := if up then s.time else o.holdAt } ∧ ElseSame t.optic s.optic i ∧
        FieldsKept [SPT_STAT_SAT i, SPT_STAT_FSA i, SPT_STAT_RHOLD i] s t ∧ { t with regs := s.regs, coll := s.coll, optics := s.optics, hwNow := s.hwNow } = s) ∧
      (o.lowSince = none → exec (.rangeStepDown i) s = .next s) ∧
      (∀ t0, o.lowSince = some t0 → t0 + 16000000 ≤ s.time → s.rd (SPT_INCFG_AUTOR i) = 1 → s.rd (SPT_INCFG_FS i) < s.rd (SPT_STAT_FSA i) →
        ∃ t, exec (.rangeStepDown i) s = .next t ∧ t.rd (SPT_STAT_FSA i) = s.rd (SPT_STAT_FSA i) - 1 ∧ t.rd (SPT_STAT_RHOLD i) = 1 ∧
          t.optic i = { o with lowSince := none, holdAt := s.time, high := 0, sat := false } ∧ ElseSame t.optic s.optic i ∧
          FieldsKept [SPT_STAT_FSA i, SPT_STAT_RHOLD i] s t ∧ { t with regs := s.regs, optics := s.optics } = s) ∧
      (s.spotlightOn = false ∨ s.rd SPT_CTL_RUN = 0 ∨ s.rd (SPT_INCFG_EN i) = 0 → ∀ (x : BitVec 16) (test : Bool), exec (.spotlightSample i x test) s = .next s) ∧
      (s.spotlightOn = true → s.rd SPT_CTL_RUN = 1 → s.rd (SPT_INCFG_EN i) = 1 → ∀ (x : BitVec 16) (test : Bool),
        let hold := decide (s.rd (SPT_STAT_RHOLD i) = 1) && decide (s.time < o.holdAt + 128)
        let y := if hold || test then 0xFFFF else min x.toNat 0xFFFE
        let l := if y = 0xFFFF then o.recent else o.recent ++ [y * 250000 * 4 ^ s.rd (SPT_STAT_FSA i)]
        let m := l.drop (l.length - 4000)
        ∃ t, exec (.spotlightSample i x test) s = .next t ∧ (t.optic i).last = y ∧ (t.optic i).recent = m ∧
          (t.optic i).high = (if 0xFC00 ≤ y ∧ y ≠ 0xFFFF then o.high + 1 else 0) ∧
          t.rd (SPT_AMB_AMB i) = (if m = [] then 0 else m.foldl (· + ·) 0 / (65536 * m.length)) % 2 ^ 24 ∧
          (t.optic i).sat = (o.sat && decide (0xFC00 ≤ y)) ∧ (hold = false → t.rd (SPT_STAT_RHOLD i) = 0) ∧
          (∀ j : Fin 32, j ≠ i → { t.optic j with frame := (s.optic j).frame } = s.optic j) ∧
          FieldsKept [SPT_AMB_AMB i, SPT_STAT_RHOLD i] s t ∧ { t with regs := s.regs, optics := s.optics, flight := s.flight } = s))

/-- R199 to R214, R220: the receivers of Tightrope. -/
def Obligations.TightropeSweepsDwellsFindings : Prop :=
  ∀ s : State,
    (∀ r : Fin 24, let x := s.rx r
      let j := s.devTime % 160000 / 20000
      let n := 8 * r.val + j
      (s.sweepDue s.trp r 0 = false → exec (.sweepStart r) s = .next s) ∧
      (s.sweepDue s.trp r 0 = true → s.sweepState s.trp.rate = true → x.sweep = false → ∃ t, exec (.sweepStart r) s = .next t ∧
        t.rx r = { x with sweep := true, cidx := s.rd (TRP_RCFG_CIDX r) } ∧ ElseSame t.rx s.rx r ∧ t.rd TRP_STAT_SWEEP = 1 ∧
        t.rd TRP_STAT_WIN = (if s.trp.rate = 1 then s.devTime % 1600000 / 160000 else 0) ∧
        FieldsKept [TRP_STAT_SWEEP, TRP_STAT_WIN] s t ∧ { t with regs := s.regs, rxs := s.rxs } = s) ∧
      (∀ pass : Bool, (x.sweep = false ∨ x.busy = true ∨ s.dueOn 20000 0 = false → exec (.dwellStart r pass) s = .next s) ∧
        (x.sweep = true → x.busy = false → s.dueOn 20000 0 = true → s.sweepState s.trp.rate = false → ∃ t, exec (.dwellStart r pass) s = .next t ∧
          t.rx r = { x with sweep := false } ∧ ElseSame t.rx s.rx r ∧ FieldsKept [TRP_STAT_SWEEP, TRP_STAT_WIN] s t ∧ { t with regs := s.regs, rxs := s.rxs } = s) ∧
        (x.sweep = true → x.busy = false → s.dueOn 20000 0 = true → s.sweepState s.trp.rate = true → ∃ t, exec (.dwellStart r pass) s = .next t ∧
          (t.rx r).busy = true ∧ (t.rx r).slot = j ∧ (t.rx r).startAt = s.time ∧ (t.rx r).devAt = s.devTime ∧ (t.rx r).amp = s.rd (TRP_SLOT_AMP r j) ∧ (t.rx r).sweep = true ∧
          (t.rx r).disrupt = false ∧ (t.rx r).stopAt = none ∧ (t.rx r).selfFail = !pass ∧
          ((t.rx r).skip = true ↔ s.rd (TRP_SLOT_EN r j) = 0 ∨ s.rd (CH_ADJR_BUSY n) = 1 ∨ s.diePowered (n / 48) = false) ∧
          (t.rx r).cidx = x.cidx ∧ (t.rx r).block = 0 ∧ (t.rx r).ovr = false ∧ ElseSame t.rx s.rx r ∧
          t.rd (TRP_RSTAT_SLOT r) = j ∧ t.rd (TRP_RSTAT_BUSY r) = 1 ∧ t.rd (TRP_RSTAT_STATE r) = (t.rx r).state ∧
          ((t.rx r).state = if s.topo n = 2 then 3
            else if s.tripped n = true ∨ s.rd (CH_CFG_EN (s.head n)) = 0 ∨ (s.latched n = true ∧ s.safeState n = 0) ∨ (s.latched n = false ∧ s.activeKind (s.head n) = 1) then 2
            else if s.rd (TRP_SLOT_STSEL r j) = 1 then 1 else if s.rd (TRP_SLOT_STSEL r j) = 2 then 2
            else if s.dutyN n ≤ 2 * s.genDuty n then 1 else 2) ∧
          t.rd (TRP_RSTAT_FAULT r) = (!pass).toNat ∧ t.coll = (if pass then s.coll else (s.report clHarn (0x600 + r) 1 (r / 6)).coll) ∧
          FieldsKept [TRP_RSTAT_SLOT r, TRP_RSTAT_BUSY r, TRP_RSTAT_STATE r, TRP_RSTAT_FAULT r] s t ∧
          t.gen n = { s.gen n with trace := [⟨s.time, (s.gen n).hg, State.deadTime (s.gen n), false⟩] } ∧ ElseSame t.gen s.gen n ∧
          { t with regs := s.regs, rxs := s.rxs, coll := s.coll, gens := s.gens } = s)) ∧
      (let k := (s.rxMap r).1
        let ovr := x.ovr || decide (x.block < 15625)
        let dirty := x.skip || x.disrupt || ovr || x.selfFail
        let cnt := decide (x.slot = 7) && decide (s.trp.rate = 2) && decide (s.trp.count ≠ x.devAt / 160000 + 1)
        (x.busy = false ∨ s.time < x.startAt + 19920 ∨ (s.time < x.startAt + 20000 ∧ s.dueOn 20000 0 = false) → exec (.dwellEnd r) s = .next s) ∧
        (x.busy = true → x.startAt + 20000 ≤ s.time → ∃ t, exec (.dwellEnd r) s = .next t ∧
          t.rx r = { x with busy := false, sweep := x.sweep && x.slot != 7 } ∧ ElseSame t.rx s.rx r ∧
          t.rd (TRP_RSTAT_BUSY r) = 0 ∧ t.rd (TRP_RSTAT_STATE r) = 0 ∧ t.rd (TRP_RSTAT_OVR r) = (if ovr then 1 else s.rd (TRP_RSTAT_OVR r)) ∧
          t.coll = (if ovr = true ∧ s.rd (TRP_RSTAT_OVR r) = 0 then s.report clHarn (0x640 + r) 0 (r / 6) else s).coll ∧
          t.gen (8 * r + x.slot) = { s.gen (8 * r + x.slot) with trace := [] } ∧ ElseSame t.gen s.gen (8 * r + x.slot) ∧
          t.rd (TRP_SKIP_COUNT r x.slot) = (if dirty then min 4095 (s.rd (TRP_SKIP_COUNT r x.slot) + 1) else s.rd (TRP_SKIP_COUNT r x.slot)) ∧
          t.rd TRP_SWCNT_COUNT = (s.rd TRP_SWCNT_COUNT + cnt.toNat) % 4096 ∧
          (∀ c, (List.range 32).find? (s.ringOn k (32 + r)) = some c → RingTook s t k c (State.dwellRecord x r ovr (s.validOf r))) ∧
          ((List.range 32).find? (s.ringOn k (32 + r)) = none → t.mem = s.mem ∧
            FieldsKept (TRP_STAT_SWEEP :: TRP_STAT_WIN :: TRP_SWCNT_COUNT :: TRP_SKIP_COUNT r x.slot :: (TRP_RSTAT r).fields) s t) ∧
          { t with regs := s.regs, rxs := s.rxs, coll := s.coll, mem := s.mem, bad := s.bad, trp := s.trp, hwNow := s.hwNow, gens := s.gens } = s))) ∧
    (∀ k : Fin 8, let p := s.trpAt (s.devTime + 1600)
      let rs := (List.range 24).filter fun r => (p.rxMap r).1 == k.val && s.sweepDue p r 1600
      (rs = [] ∨ s.sweepState p.rate = false → ∀ b, exec (.sweepWake k b) s = .next s) ∧
      (rs ≠ [] → s.sweepState p.rate = true →
        (∃ t, exec (.sweepWake k true) s = .next t ∧ t.coll = (s.each rs fun t r => t.report clHarn (0x620 + r) 0 (r / 6)).coll ∧ { t with coll := s.coll } = s) ∧
        (s.fabricOff = false → (s.dev = .watch → s.began = .watch) → s.bit PWR_CLUST_LOST k = false → s.rd (PWR_CST_STATE k) < 2 → ∃ t, exec (.sweepWake k false) s = .next t ∧ t.rd (PWR_CST_STATE k) = 2 ∧
          t.rd (PWR_CST_CAUSE k) = 2 ∧ t.rd (PWR_CST_FREQA k) = (if s.rd TRP_CTL_CLK ≤ 4 then s.rd TRP_CTL_CLK else 2) ∧
          (t.clu k).startAt = s.time ∧ MemoriesKept s t ∧ (s.dev ≠ .watch → FieldsKept (PWR_CST k).fields s t ∧ { t with regs := s.regs, clus := s.clus } = s)) ∧
        (s.fabricOff = false → (s.dev = .watch → s.began = .watch) → s.bit PWR_CLUST_LOST k = false → s.rd (PWR_CST_STATE k) = 3 → ∃ t, exec (.sweepWake k false) s = .next t ∧
          t.clu k = { s.clu k with idleReq := false } ∧ ElseSame t.clu s.clu k ∧ { t with clus := s.clus } = s))) ∧
    ((s.dueOn 1600000 0 = false → exec .mapChange s = .next s) ∧
      (s.dueOn 1600000 0 = true → let rate := if s.rd TRP_CTL_RATE = 3 then 0 else s.rd TRP_CTL_RATE
        let ok := State.mapOk ((List.range 24).map s.rxMapWritten) rate
        let last := (List.range 24).any fun r => (s.rx r).sweep && (s.rx r).busy && (s.rx r).slot == 7
        let cnt := ((decide (s.trp.rate = 1) && s.sweepState 1) || (decide (s.trp.rate = 2) && last)) && decide (s.trp.count ≠ s.devTime / 160000)
        ∃ t, exec .mapChange s = .next t ∧ t.rd TRP_SWCNT_COUNT = (s.rd TRP_SWCNT_COUNT + cnt.toNat) % 4096 ∧
          (ok = true → t.trp.rate = rate ∧ (∀ r, r < 24 → t.rxMap r = s.rxMapWritten r) ∧ t.coll = s.coll ∧ FieldsKept [TRP_SWCNT_COUNT] s t) ∧
          (ok = false → t.rd TRP_STAT_MAPERR = 1 ∧ (∀ r, r < 24 → t.rxMap r = s.rxMap r) ∧ t.coll = (s.report clCfg 0xC48 1 13).coll ∧
            t.trp.rate = (if State.mapOk ((List.range 24).map s.rxMap) rate then rate else s.trp.rate) ∧ FieldsKept [TRP_SWCNT_COUNT, TRP_STAT_MAPERR] s t) ∧
          { t with regs := s.regs, trp := s.trp, coll := s.coll, hwNow := s.hwNow } = s)) ∧
    (∀ (r : Requester) (v : BitVec 24), Accepts s r TRP_FPOST v.toNat →
      let ch := TRP_FPOST_CH.of v.toNat
      let c := TRP_FPOST_CLASS.of v.toNat
      (s.svMode r = true → 1 ≤ c → c ≤ 6 → ch ≤ 191 → ∃ t, exec (.findingPost r v) s = .next t ∧
        t.coll = (s.report clHarn (8 * ch + c) (if c ≤ 2 then 2 else if c ≤ 4 then 1 else 0) (ch / 48) [TRP_FPOST_DIST.of v.toNat]).coll ∧
        t.rd TRP_FPCNT_COUNT = min 4095 (s.rd TRP_FPCNT_COUNT + 1) ∧ FieldsKept [TRP_FPCNT_COUNT] s t ∧ { t with regs := s.regs, coll := s.coll, staged := s.staged } = s) ∧
      (s.svMode r = false ∨ c = 0 ∨ c = 7 ∨ 191 < ch → ∃ t, exec (.findingPost r v) s = .next t ∧ t.coll = (s.report clCfg 0xE7A 1 13 (addrData TRP_FPOST.last)).coll ∧
        { t with coll := s.coll, staged := s.staged } = s))

/-- R296 to R302, R310: descriptors. -/
def Obligations.DescriptorTransfers : Prop :=
  ∀ (s : State) (k : Fin 8) (c : Fin 32), let kind := s.rd (DCFG_KIND k c)
    let src := s.rd (DSRC_SRC k c)
    let dst := s.rd (DDST_DST k c)
    let len := s.dmaLen k c
    (∀ r : Requester, Accepts s r (DCMD k c) 1 →
      (s.rd (DSTAT_STATE k c) = 1 → ∃ t, exec (.dmaGo r k c) s = .next t ∧ t.coll = (s.report clCfg (0xC80 + 32 * k + c) 1 (4 + k)).coll ∧ { t with coll := s.coll } = s) ∧
      (s.rd (DSTAT_STATE k c) ≠ 1 → ∃ t, exec (.dmaGo r k c) s = .next t ∧
        t.rd (DROP_COUNT k c) = 0 ∧ t.rd (DWIDX_WIDX k c) = 0 ∧ t.rd (DRIDX_RIDX k c) = 0 ∧
        t.rd (FC_RUNG_COUNT 1) = (if s.rd (DSTAT_STATE k c) = 3 then min (2 ^ (FC_RUNG_COUNT 1).width - 1) (s.rd (FC_RUNG_COUNT 1) + 1) else s.rd (FC_RUNG_COUNT 1)) ∧
        (s.dmaFieldsOk k c = false → t.rd (DSTAT_STATE k c) = 3 ∧ t.rd (DSTAT_ERR k c) = 3) ∧
        (s.dmaFieldsOk k c = true → kind = 1 → t.rd (DSTAT_STATE k c) = 1 ∧ t.rd (DSTAT_ERR k c) = 0 ∧ (s.rd (DSTAT_STATE k c) ≠ 3 → t.coll = s.coll)) ∧
        (s.dmaFieldsOk k c = true → kind = 0 → t.rd (DSTAT_STATE k c) = (if s.rd (DLEN_LEN k c) = 0 then 2 else 1) ∧ t.rd (DSTAT_ERR k c) = 0 ∧
          (len < s.rd (DLEN_LEN k c) → t.rd (DSTAT_CLIP k c) = 1) ∧
          (s.rd (DSTAT_STATE k c) ≠ 3 → t.coll = (if len < s.rd (DLEN_LEN k c) then s.report clCfg (0xC80 + 32 * k + c) 1 (4 + k) else s).coll)) ∧
        (s.rd (DSTAT_STATE k c) ≠ 3 → s.dmaFieldsOk k c = false → t.coll = (s.report clMem (0x200 + 32 * k + c) 1 (4 + k)).coll) ∧
        (kind = 1 → s.dmaFieldsOk k c = true → t.flight.get [] (64 * k + s.dmaStream k c) = []) ∧
        FieldsKept (FC_RUNG_COUNT 1 :: DROP_COUNT k c :: DWIDX_WIDX k c :: DRIDX_RIDX k c :: PWR_IPEND_LINES (s.dmaCore k c) :: (DSTAT k c).fields) s t ∧
        { t with regs := s.regs, coll := s.coll, hwNow := s.hwNow, flight := s.flight } = s)) ∧
    (∀ (r : Requester) (moved : List Nat), Permits s r (DCMD k c) →
      (s.rd (DSTAT_STATE k c) ≠ 1 → exec (.dmaStop r k c moved) s = .next s) ∧
      (s.rd (DSTAT_STATE k c) = 1 → kind = 1 → ∃ t, exec (.dmaStop r k c moved) s = .next t ∧ t.rd (DSTAT_STATE k c) = 3 ∧ t.rd (DSTAT_ERR k c) = 4 ∧
        t.coll = (s.report clMem (0x200 + 32 * k + c) 1 (4 + k)).coll ∧ FieldsKept (DSTAT k c).fields s t ∧ { t with regs := s.regs, coll := s.coll } = s) ∧
      (s.rd (DSTAT_STATE k c) = 1 → kind = 0 → moved = [] → ∃ t, exec (.dmaStop r k c moved) s = .next t ∧ t.rd (DSTAT_STATE k c) = 3 ∧ t.rd (DSTAT_ERR k c) = 4 ∧
        t.rd (DLEN_LEN k c) = 0 ∧ MemoriesKept s t)) ∧
    (∀ order : List Nat,
      (s.rd (DSTAT_STATE k c) ≠ 1 ∨ kind ≠ 0 → exec (.moveDone k c order) s = .next s) ∧
      (s.rd (DSTAT_STATE k c) = 1 → kind = 0 → (∀ i, i < len → s.isBad (memKey k (src + i)) = false) →
        (∀ i j, i < len → j < len → memKey k (src + i) ≠ memKey k (dst + j)) → (∀ i, i < len → region (src + i) ≠ .flash ∧ region (dst + i) ≠ .flash ∧ s.memOff (src + i) = false ∧ s.memOff (dst + i) = false) →
        (∀ i j, i < len → j < len → memKey k (dst + i) = memKey k (dst + j) → i = j) →
        ∃ t, exec (.moveDone k c order) s = .next t ∧ t.rd (DSTAT_STATE k c) = 2 ∧ t.rd (DSTAT_ERR k c) = 0 ∧ t.rd (DLEN_LEN k c) = len ∧
          (∀ i : Nat, i < len → t.peek (memKey k (dst + i)) = s.peek (memKey k (src + i)) % 4096) ∧
          (∀ key : Nat, (∀ i, i < len → key ≠ memKey k (dst + i)) → t.peek key = s.peek key) ∧
          (s.rd (DCFG_IRQ k c) = 1 → s.noCore (s.dmaCore k c) = false → t.bit (PWR_IPEND_LINES (s.dmaCore k c)) 2 = true) ∧ t.coll = s.coll ∧
          FieldsKept [DSTAT_STATE k c, DSTAT_ERR k c, DLEN_LEN k c, PWR_IPEND_LINES (s.dmaCore k c)] s t ∧
          { t with regs := s.regs, mem := s.mem, bad := s.bad, hwNow := s.hwNow } = s)) ∧
    (∀ (raw : List Int) (x : List Nat) (rest : List (List Nat)), s.ringOn k (src % 64) c = true → src % 64 < 5 → s.flight.get [] (64 * k + src % 64) = x :: rest →
      ∃ t, exec (.ringRecord k c raw) s = .next t ∧ RingTook s t k c x ∧ t.flight.get [] (64 * k + src % 64) = rest ∧
        (∀ i, i ≠ 64 * k.val + src % 64 → t.flight.get [] i = s.flight.get [] i) ∧
        FieldsKept [DROP_COUNT k c, DWIDX_WIDX k c, PWR_IPEND_LINES (s.dmaCore k c)] s t ∧
        { t with regs := s.regs, mem := s.mem, bad := s.bad, hwNow := s.hwNow, flight := s.flight } = s) ∧
    (∀ raw : List Int, s.ringOn k (src % 64) c = true → 8 ≤ src % 64 → src % 64 < 32 →
      let r := src % 64 - 8
      let b := (s.time - (s.rx r).startAt) * 25 / 32
      (s.rx r).busy = true → (s.rxMap r).1 = k → (s.rx r).block < b → b ≤ 15625 →
      ∃ t, exec (.ringRecord k c raw) s = .next t ∧ RingTook s t k c (s.sampleBlock r (b - 1) raw) ∧
        (t.rx r).block = b ∧ (t.rx r).ovr = ((s.rx r).ovr || decide ((s.rx r).block + 1 < b) || !s.ringTakes k c 32) ∧ ElseSame t.rx s.rx r ∧
        FieldsKept [DROP_COUNT k c, DWIDX_WIDX k c, PWR_IPEND_LINES (s.dmaCore k c)] s t ∧
        { t with regs := s.regs, mem := s.mem, bad := s.bad, hwNow := s.hwNow, rxs := s.rxs } = s) ∧
    (∀ raw : List Int, s.ringOn k (src % 64) c = false ∨ 32 ≤ src % 64 ∨ (src % 64 < 5 ∧ s.flight.get [] (64 * k + src % 64) = []) →
      exec (.ringRecord k c raw) s = .next s) ∧
    (∀ (r : Requester) (v : BitVec 24), Accepts s r (DRIDX k c) v.toNat →
      let bad := kind == 1 && !(decide (v.toNat < s.rd (DLEN_LEN k c)) && v.toNat % State.streamLen (src % 64) == 0)
      ∃ t, exec (.ringReadIndex r k c v) s = .next t ∧ t.rd (DRIDX_RIDX k c) = (if bad then s.rd (DRIDX_RIDX k c) else v.toNat) ∧
        t.coll = (if bad then s.report clCfg (0xC80 + 32 * k + c) 1 (4 + k) else s).coll ∧
        FieldsKept [DRIDX_RIDX k c] s t ∧ { t with regs := s.regs, coll := s.coll, staged := s.staged } = s)

/-- R241, R242: addition, subtraction, logic. -/
def Obligations.ScalarAddSubtractLogic : Prop :=
  ∀ (s : State) (q : Fin 256), Issues s q 2 → ∀ (rd rs1 rs2 : Fin 32) (imm : BitVec 8) (w : Word),
    let a := (s.core q).r rs1
    let b := (s.core q).r rs2
    let A := sext 12 a
    let B := sext 12 b
    let i := wrap 12 imm.toInt
    let I := imm.toInt
    let cy := ((s.core q).psBit 0).toNat
    let ovf := fun (x : Int) => decide (x < -2048) || decide (2047 < x)
    let clamp := fun (x : Int) => wrap 12 (max (-2048) (min 2047 x))
    (Stands s (.add q rd rs1 rs2) → ∃ t, exec (.add q rd rs1 rs2) s = .next t ∧ Computes s t q rd (wrap 12 (A + B)) (some (decide (4096 ≤ a + b))) (some (ovf (A + B)))) ∧
    (Stands s (.adc q rd rs1 rs2) → ∃ t, exec (.adc q rd rs1 rs2) s = .next t ∧ Computes s t q rd (wrap 12 (A + B + cy)) (some (decide (4096 ≤ a + b + cy))) (some (ovf (A + B + cy)))) ∧
    (Stands s (.sub q rd rs1 rs2) → ∃ t, exec (.sub q rd rs1 rs2) s = .next t ∧ Computes s t q rd (wrap 12 (A - B)) (some (decide (a < b))) (some (ovf (A - B)))) ∧
    (Stands s (.sbc q rd rs1 rs2) → ∃ t, exec (.sbc q rd rs1 rs2) s = .next t ∧ Computes s t q rd (wrap 12 (A - B - cy)) (some (decide (a < b + cy))) (some (ovf (A - B - cy)))) ∧
    (Stands s (.and q rd rs1 rs2) → ∃ t, exec (.and q rd rs1 rs2) s = .next t ∧ Computes s t q rd (a &&& b) none) ∧
    (Stands s (.or q rd rs1 rs2) → ∃ t, exec (.or q rd rs1 rs2) s = .next t ∧ Computes s t q rd (a ||| b) none) ∧
    (Stands s (.xor q rd rs1 rs2) → ∃ t, exec (.xor q rd rs1 rs2) s = .next t ∧ Computes s t q rd (a ^^^ b) none) ∧
    (Stands s (.andn q rd rs1 rs2) → ∃ t, exec (.andn q rd rs1 rs2) s = .next t ∧ Computes s t q rd (a - (a &&& b)) none) ∧
    (Stands s (.adds q rd rs1 rs2) → ∃ t, exec (.adds q rd rs1 rs2) s = .next t ∧ Computes s t q rd (clamp (A + B)) (some false) (some false) (ovf (A + B))) ∧
    (Stands s (.subs q rd rs1 rs2) → ∃ t, exec (.subs q rd rs1 rs2) s = .next t ∧ Computes s t q rd (clamp (A - B)) (some false) (some false) (ovf (A - B))) ∧
    (Stands s (.addi q rd rs1 imm) → ∃ t, exec (.addi q rd rs1 imm) s = .next t ∧ Computes s t q rd (wrap 12 (A + I)) (some (decide (4096 ≤ a + i))) (some (ovf (A + I)))) ∧
    (Stands s (.subi q rd rs1 imm) → ∃ t, exec (.subi q rd rs1 imm) s = .next t ∧ Computes s t q rd (wrap 12 (A - I)) (some (decide (a < i))) (some (ovf (A - I)))) ∧
    (Stands s (.andi q rd rs1 imm) → ∃ t, exec (.andi q rd rs1 imm) s = .next t ∧ Computes s t q rd (a &&& i) none) ∧
    (Stands s (.ori q rd rs1 imm) → ∃ t, exec (.ori q rd rs1 imm) s = .next t ∧ Computes s t q rd (a ||| i) none) ∧
    (Stands s (.xori q rd rs1 imm) → ∃ t, exec (.xori q rd rs1 imm) s = .next t ∧ Computes s t q rd (a ^^^ i) none) ∧
    (Stands s (.addsi q rd rs1 imm) → ∃ t, exec (.addsi q rd rs1 imm) s = .next t ∧ Computes s t q rd (clamp (A + I)) (some false) (some false) (ovf (A + I))) ∧
    (Stands s (.min q rd rs1 rs2) → ∃ t, exec (.min q rd rs1 rs2) s = .next t ∧ Computes s t q rd (wrap 12 (min A B))) ∧
    (Stands s (.max q rd rs1 rs2) → ∃ t, exec (.max q rd rs1 rs2) s = .next t ∧ Computes s t q rd (wrap 12 (max A B))) ∧
    (Stands s (.movi q rd w) → ∃ t, exec (.movi q rd w) s = .next t ∧ Completes s t q 2 (dest s q rd) [] ∧ (t.core q).r rd = if rd = 0 then 0 else w.toNat)

/-- R242, R245, R279: division, bit counts. -/
def Obligations.DivisionsAndBitCounts : Prop :=
  ∀ (s : State) (q : Fin 256), Issues s q 2 → ∀ (rd rs1 rs2 : Fin 32),
    let a := (s.core q).r rs1
    let b := (s.core q).r rs2
    let A := sext 12 a
    let B := sext 12 b
    let ovf := fun (x : Int) => decide (x < -2048) || decide (2047 < x)
    let clamp := fun (x : Int) => wrap 12 (max (-2048) (min 2047 x))
    let shift := fun (i : Instr) (x : Nat) (c : Bool) => Stands s i → ∃ t, exec i s = .next t ∧ Computes s t q rd x (some c)
    shift (.clz q rd rs1) (if a = 0 then 12 else 11 - Nat.log2 a) false ∧
    shift (.popc q rd rs1) ((List.range 12).countP a.testBit) false ∧
    (b ≠ 0 →
      (Stands s (.div q rd rs1 rs2) → ∃ t, exec (.div q rd rs1 rs2) s = .next t ∧ Computes s t q rd (wrap 12 (A.tdiv B)) (some false) (some (ovf (A.tdiv B)))) ∧
      (Stands s (.divs q rd rs1 rs2) → ∃ t, exec (.divs q rd rs1 rs2) s = .next t ∧ Computes s t q rd (clamp (A.tdiv B)) (some false) (some false) (ovf (A.tdiv B))) ∧
      shift (.divu q rd rs1 rs2) (a / b) false ∧ shift (.rem q rd rs1 rs2) (wrap 12 (A.tmod B)) false ∧ shift (.remu q rd rs1 rs2) (a % b) false) ∧
    (b = 0 → ∀ p ∈ [(Instr.div q rd rs1 rs2, if A < 0 then 0x800 else 0x7FF), (.divs q rd rs1 rs2, if A < 0 then 0x800 else 0x7FF),
        (.divu q rd rs1 rs2, 0xFFF), (.rem q rd rs1 rs2, a), (.remu q rd rs1 rs2, a)],
      ((s.core q).psBit 6 = false → Stands s p.1 → ∃ t, exec p.1 s = .next t ∧ Computes s t q rd p.2 (some false) (some false) false true) ∧
      ((s.core q).psBit 6 = true → Room s q → Stands s p.1 → ∃ t, exec p.1 s = .next t ∧ ∃ u : State, Computes s u q rd p.2 (some false) (some false) false true ∧
        Enters u t (u.core q) q 7 0 (u.core q).pc false ∧ ElseSame t.core s.core q ∧ { t with cores := s.cores } = s))

/-- R34, R226, R248 to R251, R280: data accesses and address registers. -/
def Obligations.LoadsStoresAddressRegisters : Prop :=
  ∀ (s : State) (q : Fin 256) (xd xs : Fin 8) (r : Fin 32) (off : BitVec 10) (imm : Addr) (w : Word),
    let c := s.core q
    let a := wrap 24 (c.x xs + off.toInt)
    let free := fun (a : Nat) => s.coreMayRead q a = true ∧ s.coreBad q a = false ∧ s.memOff a = false ∧ region a ≠ .chan ∧ region a ≠ .dev ∧ ¬(region a = .mram ∧ a < 0x801000)
    let word := fun (a : Nat) => s.peek (State.coreKey q a) % 4096
    let got := fun (t : State) (len : Nat) (l : List Nat) (x : Nat) => Completes s t q len (dest s q r ++ l) [] ∧ (t.core q).r r = if r = 0 then 0 else x
    let ram := fun (a : Nat) => (region a = .engine ∨ region a = .cluster ∨ region a = .global) ∧ s.memOff a = false
    let put := fun (t : State) (len : Nat) (l : List Nat) (k v : Nat) => Retires c (t.core q) len l [] ∧ ElseSame t.core s.core q ∧
      (∀ key : Nat, t.peek key = if key = k then v else s.peek key) ∧ { t with cores := s.cores, mem := s.mem, bad := s.bad } = s
    (Issues s q 2 →
      (free a → Stands s (.ld q r xs off) → ∃ t, exec (.ld q r xs off) s = .next t ∧ got t 2 [] (word a)) ∧
      (s.coreMayRead q a = true → region a = .chan ∨ region a = .dev → Stands s (.ld q r xs off) → ∃ t, exec (.ld q r xs off) s = .next t ∧
        (t.core q).r r = (if r = 0 then 0 else (s.busRead (.core q) a).2.1 % 4096) ∧ Retires c (t.core q) 2 (dest s q r) [] ∧
        { t with cores := s.cores } = { (s.busRead (.core q) a).1 with cores := s.cores }) ∧
      (free (c.x xs) → Stands s (.ldp q r xs off) → ∃ t, exec (.ldp q r xs off) s = .next t ∧ got t 2 [xKey xs] (word (c.x xs)) ∧ (t.core q).x xs = a) ∧
      (free a → free ((a + 1) % 2 ^ 24) → Stands s (.ldx q xd xs off) → ∃ t, exec (.ldx q xd xs off) s = .next t ∧ Completes s t q 2 [xKey xd] [] ∧
        (t.core q).x xd = word a + 4096 * word ((a + 1) % 2 ^ 24)) ∧
      (ram a → Stands s (.st q r xs off) → ∃ t, exec (.st q r xs off) s = .next t ∧ put t 2 [] (State.coreKey q a) (c.r r)) ∧
      (ram (c.x xs) → Stands s (.stp q r xs off) → ∃ t, exec (.stp q r xs off) s = .next t ∧ put t 2 [xKey xs] (State.coreKey q (c.x xs)) (c.r r) ∧ (t.core q).x xs = a) ∧
      (ram a → ram ((a + 1) % 2 ^ 24) → Stands s (.stx q xd xs off) → ∃ t, exec (.stx q xd xs off) s = .next t ∧ Retires c (t.core q) 2 [] [] ∧ ElseSame t.core s.core q ∧
        (∀ key : Nat, t.peek key = if key = State.coreKey q ((a + 1) % 2 ^ 24) then c.x xd / 4096 else if key = State.coreKey q a then c.x xd % 4096 else s.peek key) ∧
        { t with cores := s.cores, mem := s.mem, bad := s.bad } = s) ∧
      (s.coreMayWrite q a = true → region a = .mirror → s.paired = true → Stands s (.st q r xs off) → ∃ t, exec (.st q r xs off) s = .next t ∧
        (∀ key : Nat, t.peek key = if key = a then c.r r else s.peek key) ∧ t.pair = { s.pair with writes := if s.rd MIR_STAT_LINK = 1 ∧ s.carried a = false then (a, c.r r) :: s.pair.writes else s.pair.writes } ∧
        (t.core q).mOut = c.mOut + 1 ∧ Retires { c with mOut := c.mOut + 1 } (t.core q) 2 [] [] ∧ { t with cores := s.cores, mem := s.mem, bad := s.bad, pair := s.pair } = s) ∧
      (s.coreMayRead q a = true → s.memOff a = true → Stands s (.ld q r xs off) → ∃ t, exec (.ld q r xs off) s = .next t ∧ Retires c (t.core q) 2 (dest s q r) [] ∧
        (t.core q).r r = (if r = 0 then 0 else (Config.freeValue s.free).toNat) ∧ ElseSame t.core s.core q ∧ { t with cores := s.cores } = s.fresh) ∧
      (s.coreMayWrite q a = true → s.memOff a = true → Stands s (.st q r xs off) → ∃ t, exec (.st q r xs off) s = .next t ∧ Completes s t q 2 [] []) ∧
      (Stands s (.xaddi q xd xs w) → ∃ t, exec (.xaddi q xd xs w) s = .next t ∧ Completes s t q 2 [xKey xd] [] ∧ (t.core q).x xd = wrap 24 (c.x xs + w.toInt)) ∧
      (Stands s (.xadd q xd xs r) → ∃ t, exec (.xadd q xd xs r) s = .next t ∧ Completes s t q 2 [xKey xd] [] ∧ (t.core q).x xd = wrap 24 (c.x xs + sext 12 (c.r r))) ∧
      (Stands s (.xaddu q xd xs r) → ∃ t, exec (.xaddu q xd xs r) s = .next t ∧ Completes s t q 2 [xKey xd] [] ∧ (t.core q).x xd = (c.x xs + c.r r) % 2 ^ 24) ∧
      (Stands s (.xgetl q r xs) → ∃ t, exec (.xgetl q r xs) s = .next t ∧ got t 2 [] (c.x xs % 4096)) ∧
      (Stands s (.xgeth q r xs) → ∃ t, exec (.xgeth q r xs) s = .next t ∧ got t 2 [] (c.x xs / 4096)) ∧
      (Stands s (.xsetl q xd r) → ∃ t, exec (.xsetl q xd r) s = .next t ∧ Completes s t q 2 [xKey xd] [] ∧ (t.core q).x xd = 4096 * (c.x xd / 4096) + c.r r) ∧
      (Stands s (.xseth q xd r) → ∃ t, exec (.xseth q xd r) s = .next t ∧ Completes s t q 2 [xKey xd] [] ∧ (t.core q).x xd = 4096 * c.r r + c.x xd % 4096) ∧
      (Stands s (.xmov q xd xs) → ∃ t, exec (.xmov q xd xs) s = .next t ∧ Completes s t q 2 [xKey xd] [] ∧ (t.core q).x xd = c.x xs) ∧
      (Stands s (.xcmp q xd xs) → ∃ t, exec (.xcmp q xd xs) s = .next t ∧ Completes s t q 2 [] [0, 1, 2, 3] ∧ (t.core q).psBit 2 = decide (c.x xd = c.x xs) ∧
        (t.core q).psBit 0 = decide (c.x xd < c.x xs) ∧ (t.core q).psBit 3 = (wrap 24 ((c.x xd : Int) - c.x xs)).testBit 23 ∧
        (t.core q).psBit 1 = decide (sext 24 (wrap 24 ((c.x xd : Int) - c.x xs)) ≠ sext 24 (c.x xd) - sext 24 (c.x xs))) ∧
      (s.coreMayRead q a = false → Room s q → Stands s (.ld q r xs off) → ∃ t, exec (.ld q r xs off) s = .next t ∧ Faults s t q 4 0 ∧ t.coll = (s.refuse (.core q) a).coll ∧
        { t with cores := s.cores, coll := s.coll } = s) ∧
      (s.coreMayWrite q a = false → Room s q → Stands s (.st q r xs off) → ∃ t, exec (.st q r xs off) s = .next t ∧ Faults s t q 4 1 ∧ t.coll = ((s.refuse (.core q) a).ownRefusal a).coll ∧
        { t with cores := s.cores, coll := s.coll } = s) ∧
      (region a = .cluster ∨ region a = .global → s.memOff a = false → s.isBad (State.coreKey q a) = true → Room s q →
        Stands s (.ld q r xs off) → ∃ t, exec (.ld q r xs off) s = .next t ∧ Faults s t q 10 (if region a = .cluster then 0x11 else 0x21) ∧ MemoriesKept s t)) ∧
    (Issues s q 4 → Alone s q →
      (Stands s (.lxi q xd imm) → ∃ t, exec (.lxi q xd imm) s = .next t ∧ Completes s t q 4 [xKey xd] [] ∧ (t.core q).x xd = imm.toNat) ∧
      (free imm.toNat → Stands s (.lda q r imm) → ∃ t, exec (.lda q r imm) s = .next t ∧ got t 4 [] (word imm.toNat)) ∧
      (ram imm.toNat → Stands s (.sta q r imm) → ∃ t, exec (.sta q r imm) s = .next t ∧ put t 4 [] (State.coreKey q imm.toNat) (c.r r)))

/-- R225, R251, R257 to R265, R282, R285: transfers, loops, windows. -/
def Obligations.TransfersLoopsWindows : Prop :=
  ∀ (s : State) (q : Fin 256), Alone s q →
    let c := s.core q
    let cf := c.psBit 0
    let v := c.psBit 1
    let z := c.psBit 2
    let n := c.psBit 3
    let lt := n != v
    let rel := fun (d : Int) => wrap 24 (c.pc + 2 * d)
    let link := fun (t : State) (len : Nat) => (t.core q).x 0 = (c.pc + len + 2) % 2 ^ 24
    (Issues s q 2 →
      (∀ (k : Fin 15) (d : BitVec 14), Stands s (.br q k d) → ∃ t, exec (.br q k d) s = .next t ∧
        Transfers s t q 2 (rel d.toInt) ([true, z, !z, lt, !lt, z || lt, !z && !lt, cf, !cf, cf || z, !cf && !z, n, !n, v, !v].getD k false) []) ∧
      (∀ d : BitVec 18, Stands s (.call q d) → ∃ t, exec (.call q d) s = .next t ∧ Transfers s t q 2 (rel d.toInt) true [xKey 0] ∧ link t 2) ∧
      (∀ xs : Fin 8, (c.x xs % 2 = 0 →
          (Stands s (.jmpx q xs) → ∃ t, exec (.jmpx q xs) s = .next t ∧ Transfers s t q 2 (c.x xs) true []) ∧
          (Stands s (.callx q xs) → ∃ t, exec (.callx q xs) s = .next t ∧ Transfers s t q 2 (c.x xs) true [xKey 0] ∧ link t 2)) ∧
        (c.x xs % 2 = 1 → Room s q → ∀ i ∈ [Instr.jmpx q xs, .callx q xs], Stands s i → ∃ t, exec i s = .next t ∧ Faults s t q 3 0 ∧ { t with cores := s.cores } = s)) ∧
      (c.x 0 % 2 = 0 → Stands s (.ret q) → ∃ t, exec (.ret q) s = .next t ∧ Transfers s t q 2 (c.x 0) true []) ∧
      (∀ (rs : Fin 32) (k : Word) (d1 : BitVec 13) (d2 : BitVec 6),
        let sets := fun (t : State) (cnt d : Nat) => ElseSame t.core s.core q ∧ { t with cores := s.cores } = s ∧
          { t.core q with ps := c.ps, shadow := c.shadow, mid := c.mid, bpPass := c.bpPass, loadAt := c.loadAt } = { c with lc := cnt, lb := (c.pc + 2) % 2 ^ 24, le := (c.pc + 2 * d) % 2 ^ 24, pc := if cnt = 0 then (c.pc + 2 * d + 2) % 2 ^ 24 else (c.pc + 2) % 2 ^ 24 } ∧
          (t.core q).psBit 10 = false ∧ (∀ i, i < 10 → (t.core q).psBit i = c.psBit i)
        (c.lc = 0 → (d1.toNat ≠ 0 → Stands s (.loop q rs d1) → ∃ t, exec (.loop q rs d1) s = .next t ∧ sets t (c.r rs) d1.toNat) ∧
          (d2.toNat ≠ 0 → Stands s (.loopi q k d2) → ∃ t, exec (.loopi q k d2) s = .next t ∧ sets t k.toNat d2.toNat)) ∧
        (Room s q → (c.lc ≠ 0 → (Stands s (.loop q rs d1) → ∃ t, exec (.loop q rs d1) s = .next t ∧ Faults s t q 1 5 ∧ { t with cores := s.cores } = s) ∧
            (Stands s (.loopi q k d2) → ∃ t, exec (.loopi q k d2) s = .next t ∧ Faults s t q 1 5 ∧ { t with cores := s.cores } = s)) ∧
          (c.lc = 0 → (d1.toNat = 0 → Stands s (.loop q rs d1) → ∃ t, exec (.loop q rs d1) s = .next t ∧ Faults s t q 1 7 ∧ { t with cores := s.cores } = s) ∧
            (d2.toNat = 0 → Stands s (.loopi q k d2) → ∃ t, exec (.loopi q k d2) s = .next t ∧ Faults s t q 1 7 ∧ { t with cores := s.cores } = s)))) ∧
      (Stands s (.lclr q) → ∃ t, exec (.lclr q) s = .next t ∧ Retires { c with lc := 0 } (t.core q) 2 [] [] ∧ ElseSame t.core s.core q ∧ { t with cores := s.cores } = s) ∧
      (let w := (c.wp + 1) % 8
       (c.live (c.wp + 1) = false → c.live (c.wp + 2) = false → Stands s (.frame q) → ∃ t, exec (.frame q) s = .next t ∧
          Retires { c with wp := w, wv := c.wv + 2 ^ w } (t.core q) 2 [lkKey w] [] ∧ (t.core q).lk w = c.x 0 ∧ ElseSame t.core s.core q ∧ { t with cores := s.cores } = s) ∧
       (Room s q → c.live (c.wp + 2) = true → Stands s (.frame q) → ∃ t, exec (.frame q) s = .next t ∧ Faults s t q 5 0 ∧ { t with cores := s.cores } = s)) ∧
      (let w := (c.wp + 7) % 8
       (c.live w = true → Stands s (.unframe q) → ∃ t, exec (.unframe q) s = .next t ∧ Retires { c with wp := w, wv := c.wv - (if c.live c.wp then 2 ^ c.wp else 0) } (t.core q) 2 [xKey 0] [] ∧
          (t.core q).x 0 = c.lk c.wp ∧ ElseSame t.core s.core q ∧ { t with cores := s.cores } = s) ∧
       (c.live w = false → Room s q → Stands s (.unframe q) → ∃ t, exec (.unframe q) s = .next t ∧ Faults s t q 6 0 ∧ { t with cores := s.cores } = s) ∧
       (s.coreSv q = true → c.live w = true → Stands s (.rete q) → ∃ t, exec (.rete q) s = .next t ∧ ElseSame t.core s.core q ∧ { t with cores := s.cores } = s ∧
          { t.core q with shadow := c.shadow, mid := c.mid, bpPass := c.bpPass, loadAt := c.loadAt } = { c with pc := c.epc, ps := c.eps % 2048, wp := w, wv := c.wv - (if c.live c.wp then 2 ^ c.wp else 0) }) ∧
       (s.coreSv q = true → c.live w = false → s.split (q / 32) = false → s.rd (PWR_ENGMAP_ROLE (q / 2)) ≠ 1 → Stands s (.rete q) → ∃ t, exec (.rete q) s = .next t ∧
          t.rd (PWR_ENGST_STATE (q / 2)) = 4 ∧ t.rd (PWR_ENGST_CAUSE (q / 2)) = 3 ∧ (t.core q).run = false ∧ MemoriesKept s t) ∧
       (s.coreSv q = false → Room s q → Stands s (.rete q) → ∃ t, exec (.rete q) s = .next t ∧ Faults s t q 2 0xFF ∧ { t with cores := s.cores } = s))) ∧
    (Issues s q 4 → ∀ imm : Addr, (imm.toNat % 2 = 0 →
        (Stands s (.jmpa q imm) → ∃ t, exec (.jmpa q imm) s = .next t ∧ Transfers s t q 4 imm.toNat true []) ∧
        (Stands s (.calla q imm) → ∃ t, exec (.calla q imm) s = .next t ∧ Transfers s t q 4 imm.toNat true [xKey 0] ∧ link t 4)) ∧
      (imm.toNat % 2 = 1 → Room s q → (Stands s (.jmpa q imm) → ∃ t, exec (.jmpa q imm) s = .next t ∧ Faults s t q 3 0 ∧ { t with cores := s.cores } = s) ∧
        (Stands s (.calla q imm) → ∃ t, exec (.calla q imm) s = .next t ∧ Faults s t q 3 0 ∧ { t with cores := s.cores } = s)))

/-- R236, R259, R265, R267, R269, R270, R279, R304 to R307, R542: system instructions and their exceptions. -/
def Obligations.SystemInstructionsAndTraps : Prop :=
  ∀ (s : State) (q : Fin 256),
    let c := s.core q
    let still := fun (t : State) => { t with cores := s.cores } = s
    (Issues s q 2 → c.slot = none →
      (∀ imm : BitVec 8, (Room s q → Stands s (.svc q imm) → ∃ t, exec (.svc q imm) s = .next t ∧ Traps s t q 8 imm.toNat) ∧
        (s.rd DBG_CFG_BKH = 0 → Room s q → Stands s (.bkpt q imm) → ∃ t, exec (.bkpt q imm) s = .next t ∧ Traps s t q 9 imm.toNat) ∧
        (s.rd DBG_CFG_BKH = 1 → s.split (q / 32) = false → s.dev = .maint → Stands s (.bkpt q imm) → ∃ t, exec (.bkpt q imm) s = .next t ∧ (t.core q).halted = true ∧ (t.core q).hcause = 1 ∧
          (∀ k, (t.core q).reg k = c.reg k) ∧ (c.pc ≠ c.le → (t.core q).pc = (c.pc + 2) % 2 ^ 24) ∧ t.rd (PWR_ENGST_BROKEN (q / 2)) = 1 ∧
          t.rd (PWR_ENGST_STATE (q / 2)) = s.rd (PWR_ENGST_STATE (q / 2)) ∧ ElseSame t.core s.core q ∧ MemoriesKept s t)) ∧
      (s.linesUp q ≠ 0 → Stands s (.wait q) → ∃ t, exec (.wait q) s = .next t ∧ Completes s t q 2 [] []) ∧
      (s.linesUp q = 0 → Stands s (.wait q) → ∃ t, exec (.wait q) s = .next t ∧ t.core q = { c with waiting := true, tmrHit := false, bpPass := false } ∧ ElseSame t.core s.core q ∧ still t) ∧
      (s.coreSv q = true → (Stands s (.modeTk q) → ∃ t, exec (.modeTk q) s = .next t ∧ (t.core q).psBit 8 = false ∧ (t.core q).shadow = true ∧
          Retires c { t.core q with shadow := false } 2 [] [8] ∧ ElseSame t.core s.core q ∧ still t) ∧
        (Stands s (.modeSv q) → ∃ t, exec (.modeSv q) s = .next t ∧ Completes s t q 2 [] [])) ∧
      (s.coreSv q = false → Room s q → ∀ i ∈ [Instr.modeTk q, .modeSv q], Stands s i → ∃ t, exec i s = .next t ∧ Faults s t q 2 0xFF ∧ still t)) ∧
    (Issues s q 2 →
      (∀ i ∈ [Instr.fenceL q, .fenceG q, .fenceIo q], Stands s i → ∃ t, exec i s = .next t ∧ Completes s t q 2 [] []) ∧
      (s.paired = false ∨ (s.dev ≠ .rejoin ∧ c.mOut = 0) → Stands s (.fenceM q) → ∃ t, exec (.fenceM q) s = .next t ∧ Completes s t q 2 [] []) ∧
      (s.paired = true → s.dev = .rejoin → Room s q → Stands s (.fenceM q) → ∃ t, exec (.fenceM q) s = .next t ∧ Traps s t q 12 4) ∧
      (s.paired = true → s.dev ≠ .rejoin → c.mOut ≠ 0 → s.pair.solo = true → Room s q → Stands s (.fenceM q) → ∃ t, exec (.fenceM q) s = .next t ∧ Traps s t q 12 2) ∧
      (s.paired = true → s.dev ≠ .rejoin → c.mOut ≠ 0 → s.pair.solo = false → Stands s (.fenceM q) → ∃ t, exec (.fenceM q) s = .next t ∧
        t.core q = { c with fence := some s.time, bpPass := false } ∧ ElseSame t.core s.core q ∧ still t) ∧
      (c.slot.isSome = true → Room s q → ∀ i ∈ [Instr.svc q 0, .wait q, .lclr q, .ret q, .modeSv q, .rete q, .br q 0 1, .mts q 1 0], Stands s i → ∃ t, exec i s = .next t ∧ Faults s t q 1 4 ∧ still t) ∧
      (c.slot = none → c.pc = c.le → c.lc ≠ 0 → Room s q → ∀ i ∈ [Instr.lclr q, .ret q, .rete q, .br q 0 1, .call q 1, .jmpx q 1], Stands s i → ∃ t, exec i s = .next t ∧ Faults s t q 1 6 ∧ still t) ∧
      (∀ x, illegalDetail (s.codeAt q) = some x → Room s q → ∃ t, exec (.illegal q) s = .next t ∧ Faults s t q 1 x ∧ still t) ∧
      (s.codeAt q / 2 ^ 18 = 0 → illegalDetail (s.codeAt q) = some 1)) ∧
    (illegalDetail (s.codeAt q) = none → exec (.illegal q) s = .next s) ∧
    (s.executes q = true → CoreSized c → c.waiting = true → c.halted = false → (s.linesUp q ≠ 0 ∨ c.tmrHit = true) →
      ∃ t, exec (.waitWake q) s = .next t ∧ Retires { c with bpPass := false } { t.core q with bpPass := false } 2 [] [] ∧ ElseSame t.core s.core q ∧ still t) ∧
    (c.waiting = false ∨ (s.linesUp q = 0 ∧ c.tmrHit = false) → exec (.waitWake q) s = .next s) ∧
    (∀ n : Nat, (n < c.mOut ∨ c.fence = none → ∃ t, exec (.mirrorAck q n) s = .next t ∧ t.core q = { c with mOut := c.mOut - n } ∧ ElseSame t.core s.core q ∧ still t) ∧
      (c.mOut ≤ n → s.executes q = true → CoreSized c → c.fence.isSome = true → ∃ t, exec (.mirrorAck q n) s = .next t ∧
        Retires { c with mOut := 0, bpPass := false } { t.core q with bpPass := false } 2 [] [] ∧ (t.core q).fence = none ∧ ElseSame t.core s.core q ∧ still t) ∧
      (c.mOut ≤ n → s.executes q = false → ∃ t, exec (.mirrorAck q n) s = .next t ∧ t.core q = { c with mOut := 0, fence := none } ∧ ElseSame t.core s.core q ∧ still t)) ∧
    (∀ t0, c.fence = some t0 → (s.time < t0 + 1600 ∨ c.mOut = 0 → exec (.mirrorAckTimeout q) s = .next s) ∧
      (t0 + 1600 ≤ s.time → c.mOut ≠ 0 → s.executes q = true → CoreSized c → c.bpPass = false → Room s q → ∃ t, exec (.mirrorAckTimeout q) s = .next t ∧ Traps s t q 12 3))

/-- R228 to R230, R268, R284, R288, R289: special registers and interrupts. -/
def Obligations.SpecialRegistersAndInterrupts : Prop :=
  ∀ (s : State) (q : Fin 256),
    let c := s.core q
    let still := fun (t : State) => { t with cores := s.cores } = s
    let sv := s.coreSv q
    let whole := [(0, 1, c.ps), (1, 1, c.eps), (2, 1, c.ecause), (3, 2, c.epc), (5, 1, c.lc), (6, 2, c.lb), (8, 2, c.le), (10, 1, c.wp), (11, 1, c.wv),
      (12, 3, c.mask), (15, 2, c.tmr), (17, 1, s.eid q), (18, 2, c.lk c.wp)]
    (Issues s q 2 → ∀ (r : Fin 32) (n : Fin 64),
      let x := c.r r
      let reads := fun (m : Nat) => sv = true ∨ m = 0 ∨ 5 ≤ m
      let writes := fun (m : Nat) => sv = true ∨ (5 ≤ m ∧ m < 10) ∨ (12 ≤ m ∧ m < 15)
      let became := fun (t : State) (d : Core) (regs : List Nat) => Retires d (t.core q) 2 regs [] ∧ ElseSame t.core s.core q ∧ still t
      (∀ e ∈ whole, n.val = e.1 → reads n → Stands s (.mfs q r n) → ∃ t, exec (.mfs q r n) s = .next t ∧ (t.core q).r r = (if r = 0 then 0 else e.2.2 % 4096) ∧
        (∀ i, i < e.2.1 → 0 < i → (t.core q).capt.get none (e.1 + i) = some (e.2.2 / 4096 ^ i % 4096)) ∧
        became t { c with capt := (t.core q).capt } (dest s q r)) ∧
      (∀ e ∈ whole, e.1 < n.val → n.val < e.1 + e.2.1 → reads n → Stands s (.mfs q r n) → ∃ t, exec (.mfs q r n) s = .next t ∧
        (t.core q).r r = (if r = 0 then 0 else ((c.capt.get none n).getD (e.2.2 / 4096 ^ (n.val - e.1))) % 4096) ∧ (t.core q).capt.get none n = none ∧
        became t { c with capt := (t.core q).capt } (dest s q r)) ∧
      (∀ e ∈ whole, e.1 ≤ n.val → n.val + 1 < e.1 + e.2.1 → writes n → Stands s (.mts q r n) → ∃ t, exec (.mts q r n) s = .next t ∧
        became t { c with staged := c.staged.set none n (some x) } []) ∧
      (∀ e ∈ whole, n.val + 1 = e.1 + e.2.1 → writes n → c.slot = none →
        let v := (List.range e.2.1).foldl (fun v i => v + 4096 ^ i * (if i + 1 = e.2.1 then x else (c.staged.get none (e.1 + i)).getD (e.2.2 / 4096 ^ i) % 4096)) 0
        ∀ d ∈ [(1, { c with eps := v }), (2, { c with ecause := v }), (3, { c with epc := v }), (5, { c with lc := v }), (6, { c with lb := v }), (8, { c with le := v }),
            (10, { c with wp := v % 8 }), (11, { c with wv := v % 256 }), (12, { c with mask := v % 2 ^ 32 }), (15, { c with tmr := v })], d.1 = e.1 →
          Stands s (.mts q r n) → ∃ t, exec (.mts q r n) s = .next t ∧ (∀ i, i + 1 < e.2.1 → (t.core q).staged.get none (e.1 + i) = none) ∧ became t { d.2 with staged := (t.core q).staged } []) ∧
      (n.val = 19 → sv = true → Stands s (.mts q r n) → ∃ t, exec (.mts q r n) s = .next t ∧ (t.core q).lk c.wp = x * 4096 + (c.staged.get none 18).getD (c.lk c.wp) % 4096 ∧
        became t { c with staged := (t.core q).staged } [lkKey c.wp]) ∧
      (n.val = 0 → c.slot = none → sv = true → Stands s (.mts q r n) → ∃ t, exec (.mts q r n) s = .next t ∧ (t.core q).ps = x % 2048 ∧
        ((t.core q).shadow = true ↔ c.psBit 8 = true ∧ x.testBit 8 = false) ∧
        Retires c { t.core q with ps := c.ps - (if c.psBit 10 then 1024 else 0), shadow := false } 2 [] [] ∧ ElseSame t.core s.core q ∧ still t) ∧
      (n.val = 0 → c.slot = none → sv = false → x / 256 % 8 = c.ps / 256 % 8 → c.psBit 10 = false → Stands s (.mts q r n) → ∃ t, exec (.mts q r n) s = .next t ∧
        (t.core q).ps = c.ps / 256 * 256 + x % 256 ∧ Retires c { t.core q with ps := c.ps } 2 [] [] ∧ ElseSame t.core s.core q ∧ still t) ∧
      (c.slot = none → Room s q →
        (20 ≤ n.val → (Stands s (.mfs q r n) → ∃ t, exec (.mfs q r n) s = .next t ∧ Faults s t q 1 2 ∧ still t) ∧ (Stands s (.mts q r n) → ∃ t, exec (.mts q r n) s = .next t ∧ Faults s t q 1 2 ∧ still t)) ∧
        (n.val = 17 → Stands s (.mts q r n) → ∃ t, exec (.mts q r n) s = .next t ∧ Faults s t q 1 8 ∧ still t) ∧
        (n.val = 0 → sv = false → x / 256 % 8 ≠ c.ps / 256 % 8 → Stands s (.mts q r n) → ∃ t, exec (.mts q r n) s = .next t ∧ Faults s t q 2 0 ∧ still t) ∧
        (n.val < 20 → n.val ≠ 0 → n.val ≠ 17 → ¬writes n → Stands s (.mts q r n) → ∃ t, exec (.mts q r n) s = .next t ∧ Faults s t q 2 n ∧ still t) ∧
        (n.val < 20 → ¬reads n → Stands s (.mfs q r n) → ∃ t, exec (.mfs q r n) s = .next t ∧ Faults s t q 2 n ∧ still t))) ∧
    (s.linesUp q % 512 = 0 ∨ c.psBit 9 = false → exec (.interrupt q) s = .next s) ∧
    (∀ l : Fin 9, (s.linesUp q).testBit l = true → (∀ k, k < l.val → (s.linesUp q).testBit k = false) → s.executes q = true → c.halted = false → c.waiting = false →
      c.slot = none → (c.shadow = false ∨ c.mid = true) → s.loadWaits q = false → c.psBit 9 = true → Room s q → ∃ t, exec (.interrupt q) s = .next t ∧
        Enters s t { c with ps := if c.mid = true ∧ c.psBit 10 = false then c.ps + 1024 else c.ps } q 11 l c.pc false ∧ ElseSame t.core s.core q ∧ still t) ∧
    (c.tmrDue = false → exec (.timerExpiry q) s = .next s) ∧
    (c.tmrDue = true → s.noCore q = false → s.rd (PWR_CST_STATE (q / 32)) ≠ 1 → ∃ t, exec (.timerExpiry q) s = .next t ∧ t.bit (PWR_IPEND_LINES q) 1 = true ∧
      (∀ l, l ≠ 1 → t.bit (PWR_IPEND_LINES q) l = s.bit (PWR_IPEND_LINES q) l) ∧ t.core q = { c with tmrDue := false } ∧ ElseSame t.core s.core q ∧
      FieldsKept [PWR_IPEND_LINES q] s t ∧ { t with cores := s.cores, regs := s.regs, hwNow := s.hwNow } = s) ∧
    (∀ p : Requester, s.noCore q = false →
      (Accepts s p (PWR_ISET q) 256 → ∃ t, exec (.softInterrupt p q true) s = .next t ∧ t.bit (PWR_IPEND_LINES q) 8 = true ∧
        (∀ l, l ≠ 8 → t.bit (PWR_IPEND_LINES q) l = s.bit (PWR_IPEND_LINES q) l) ∧ FieldsKept [PWR_IPEND_LINES q] s t ∧ { t with regs := s.regs, hwNow := s.hwNow } = s) ∧
      (Accepts s p (PWR_ISET q) 0 → exec (.softInterrupt p q false) s = .next s) ∧
      (∀ lines : Word, Accepts s p (PWR_IPEND q) lines.toNat → ∃ t, exec (.interruptClear p q lines) s = .next t ∧
        (∀ l, t.bit (PWR_IPEND_LINES q) l = (s.bit (PWR_IPEND_LINES q) l && (!lines.toNat.testBit l || (s.marked (PWR_IPEND_LINES q)).testBit l))) ∧ FieldsKept [PWR_IPEND_LINES q] s t ∧ { t with regs := s.regs } = s))

/-- R227, R252 to R256: vectors and accumulators. -/
def Obligations.VectorsAndAccumulators : Prop :=
  ∀ (s : State) (q : Fin 256), Issues s q 2 → ∀ (vd va vb : Fin 16) (a : Fin 4) (r : Fin 32),
    let c := s.core q
    let on := fun (l : Nat) => !c.psBit 7 || c.mask.testBit l
    let x := fun (l : Nat) => c.v va l
    let y := fun (l : Nat) => c.v vb l
    let X := fun (l : Nat) => sext 12 (x l)
    let Y := fun (l : Nat) => sext 12 (y l)
    let A := fun (l : Nat) => sext 36 (c.a a l)
    let clamp := fun (z : Int) => max (-2048) (min 2047 z)
    let satA := fun (z : Int) => max (-2 ^ 35) (min (2 ^ 35 - 1) z)
    let none' := fun (_ : Nat) => false
    let vec := fun (i : Instr) (f : Nat → Nat) (sat : Nat → Bool) => Stands s i → ∃ t, exec i s = .next t ∧ Completes s t q 2 ((List.range 32).map (vKey vd)) [5] ∧
      (∀ l, l < 32 → (t.core q).v vd l = if on l then f l else c.v vd l) ∧ (t.core q).psBit 5 = (c.psBit 5 || (List.range 32).any fun l => on l && sat l)
    let acc := fun (i : Instr) (f : Nat → Int) => Stands s i → ∃ t, exec i s = .next t ∧ Completes s t q 2 ((List.range 32).map (aKey a)) [5] ∧
      (∀ l, l < 32 → (t.core q).a a l = if on l then wrap 36 (satA (f l)) else c.a a l) ∧ (t.core q).psBit 5 = (c.psBit 5 || (List.range 32).any fun l => on l && satA (f l) != f l)
    let clamped := fun (i : Instr) (f : Nat → Int) => vec i (fun l => wrap 12 (clamp (f l))) (fun l => clamp (f l) != f l)
    let mask := fun (i : Instr) (f : Nat → Bool) => Stands s i → ∃ t, exec i s = .next t ∧ Retires { c with mask := (t.core q).mask } (t.core q) 2 [] [] ∧ (t.core q).mask < 2 ^ 32 ∧
      (∀ l, l < 32 → (t.core q).mask.testBit l = (on l && f l)) ∧ ElseSame t.core s.core q ∧ { t with cores := s.cores } = s
    vec (.vadd q vd va vb) (fun l => wrap 12 (X l + Y l)) none' ∧ vec (.vsub q vd va vb) (fun l => wrap 12 (X l - Y l)) none' ∧
    clamped (.vadds q vd va vb) (fun l => X l + Y l) ∧ clamped (.vsubs q vd va vb) (fun l => X l - Y l) ∧
    vec (.vand q vd va vb) (fun l => x l &&& y l) none' ∧ vec (.vor q vd va vb) (fun l => x l ||| y l) none' ∧ vec (.vxor q vd va vb) (fun l => x l ^^^ y l) none' ∧
    vec (.vmin q vd va vb) (fun l => wrap 12 (min (X l) (Y l))) none' ∧ vec (.vmax q vd va vb) (fun l => wrap 12 (max (X l) (Y l))) none' ∧
    vec (.vabs q vd va) (fun l => wrap 12 (X l).natAbs) none' ∧ clamped (.vabss q vd va) (fun l => (X l).natAbs) ∧
    vec (.vneg q vd va) (fun l => wrap 12 (-X l)) none' ∧ clamped (.vnegs q vd va) (fun l => -X l) ∧
    vec (.vmul q vd va vb) (fun l => wrap 12 (X l * Y l)) none' ∧ vec (.vmulh q vd va vb) (fun l => wrap 12 (X l * Y l / 4096)) none' ∧
    clamped (.vmulq q vd va vb) (fun l => (X l * Y l + 1024) / 2048) ∧
    vec (.vsll q vd va vb) (fun l => x l * 2 ^ y l % 4096) none' ∧ vec (.vsrl q vd va vb) (fun l => x l / 2 ^ y l) none' ∧
    vec (.vsra q vd va vb) (fun l => wrap 12 (X l / 2 ^ y l)) none' ∧ vec (.vmov q vd va) x none' ∧ vec (.vbcst q vd r) (fun _ => c.r r) none' ∧
    (∀ sh : Fin 36, clamped (.arnd q vd a sh) fun l => (2 * A l + 2 ^ sh.val) / 2 ^ (sh.val + 1)) ∧
    (∀ p : Fin 3, vec (.aspl q vd a p) (fun l => c.a a l / 4096 ^ p.val % 4096) none') ∧
    acc (.aclr q a) (fun _ => 0) ∧ acc (.amac q a va vb) (fun l => A l + X l * Y l) ∧ acc (.amsu q a va vb) (fun l => A l - X l * Y l) ∧ acc (.aadd q a va) (fun l => A l + X l) ∧
    (∀ p : Fin 3, Stands s (.ajoin q a va p) → ∃ t, exec (.ajoin q a va p) s = .next t ∧ Completes s t q 2 ((List.range 32).map (aKey a)) [] ∧
      ∀ l j, l < 32 → j < 3 → (t.core q).a a l / 4096 ^ j % 4096 = if on l = true ∧ j = p.val then x l else c.a a l / 4096 ^ j % 4096) ∧
    (Stands s (.vsel q vd va vb) → ∃ t, exec (.vsel q vd va vb) s = .next t ∧ Completes s t q 2 ((List.range 32).map (vKey vd)) [] ∧
      ∀ l, l < 32 → (t.core q).v vd l = if c.mask.testBit l then x l else y l) ∧
    mask (.vceq q va vb) (fun l => x l == y l) ∧ mask (.vclt q va vb) (fun l => decide (X l < Y l)) ∧ mask (.vcltu q va vb) (fun l => decide (x l < y l)) ∧
    (∀ l : Fin 32, (Stands s (.vext q r va l) → ∃ t, exec (.vext q r va l) s = .next t ∧ Completes s t q 2 (dest s q r) [] ∧ (t.core q).r r = if r = 0 then 0 else x l) ∧
      (Stands s (.vins q vd r l) → ∃ t, exec (.vins q vd r l) s = .next t ∧ Completes s t q 2 [vKey vd l] [] ∧ (t.core q).v vd l = c.r r)) ∧
    (let sum := (List.range 32).foldl (fun (z : Int) l => if on l then z + X l else z) 0
     Stands s (.vsum q r va) → ∃ t, exec (.vsum q r va) s = .next t ∧ Computes s t q r (wrap 12 (clamp sum)) (some false) (some false) (clamp sum != sum)) ∧
    (∀ (p : Bool) (xs : Fin 8) (off : BitVec 10),
      let base := if p then c.x xs else wrap 24 (c.x xs + off.toInt)
      let at' := fun (l : Nat) => (base + l) % 2 ^ 24
      let stepped := fun (t : State) => (t.core q).x xs = if p then wrap 24 (c.x xs + off.toInt) else c.x xs
      ((∀ l, l < 32 → on l = true → (region (at' l) = .cluster ∨ region (at' l) = .global ∨ region (at' l) = .engine) ∧ s.memOff (at' l) = false ∧ s.isBad (State.coreKey q (at' l)) = false) →
        Stands s (.vld q vd p xs off) → ∃ t, exec (.vld q vd p xs off) s = .next t ∧ Completes s t q 2 (xKey xs :: (List.range 32).map (vKey vd)) [] ∧ stepped t ∧
          ∀ l, l < 32 → (t.core q).v vd l = if on l then s.peek (State.coreKey q (at' l)) % 4096 else c.v vd l) ∧
      ((∀ l, l < 32 → on l = true → (region (at' l) = .cluster ∨ region (at' l) = .global ∨ region (at' l) = .engine) ∧ s.memOff (at' l) = false) →
        Stands s (.vst q va p xs off) → ∃ t, exec (.vst q va p xs off) s = .next t ∧ Retires c (t.core q) 2 [xKey xs] [] ∧ stepped t ∧ ElseSame t.core s.core q ∧
          (∀ l, l < 32 → on l = true → t.peek (State.coreKey q (at' l)) = x l) ∧ (∀ key : Nat, (∀ l, l < 32 → on l = true → key ≠ State.coreKey q (at' l)) → t.peek key = s.peek key) ∧
          { t with cores := s.cores, mem := s.mem, bad := s.bad } = s))

/-- R271 to R276: micro-routines, one element at a time. -/
def Obligations.MicroRoutines : Prop :=
  ∀ (s : State) (q : Fin 256), Issues s q 2 → (s.core q).slot = none → ∀ (rs : Fin 32) (a : Fin 4) (clr ref w : Bool),
    let c := s.core q
    let count := c.r rs
    let resumed := c.psBit 10 || c.mid
    let i := if resumed then c.r 7 else 0
    let from' := fun (start : Nat) => if resumed then c.x 7 else start
    let r7 := scalarKey c.wp 7
    let free := fun (k : Nat) => (region k = .cluster ∨ region k = .global ∨ region k = .engine ∨ region k = .flash) ∧ s.coreBad q k = false ∧ s.memOff k = false ∧ s.programming k = false
    let word := fun (k : Nat) => s.peek (State.coreKey q k) % 4096
    let next := fun (t : State) (regs : List Nat) => ElseSame t.core s.core q ∧ (t.core q).r 7 = i + 1 ∧
      (count ≤ i + 1 → Retires c (t.core q) 2 (r7 :: xKey 7 :: regs) [5]) ∧
      (i + 1 < count → (t.core q).mid = true ∧ (t.core q).psBit 10 = false ∧ (∀ b, b < 10 → b ≠ 5 → (t.core q).psBit b = c.psBit b) ∧
        (∀ k, k ∉ r7 :: xKey 7 :: regs → (t.core q).reg k = c.reg k) ∧
        (t.core q).loadAt = none ∧ { t.core q with file := c.file, ps := c.ps, mid := c.mid, bpPass := c.bpPass, loadAt := c.loadAt } = c)
    (count = 0 → rs ≠ 7 → ∀ i ∈ [Instr.kcrc q a rs 1, .bmov q rs 1, .xcor q a rs clr ref w 1], Stands s i → ∃ t, exec i s = .next t ∧ Completes s t q 2 [] []) ∧
    (rs = 7 → Room s q → ∀ i ∈ [Instr.kcrc q a rs 1, .bmov q rs 1, .xcor q a rs clr ref w 1], Stands s i → ∃ t, exec i s = .next t ∧ Faults s t q 1 2 ∧ { t with cores := s.cores } = s) ∧
    (rs ≠ 7 → i < count →
      (free (from' (c.x 5)) → Stands s (.kcrc q a rs 1) → ∃ t, exec (.kcrc q a rs 1) s = .next t ∧ next t [aKey a 0] ∧ (t.core q).a a 0 = crcWord (c.a a 0 % 2 ^ 32) (word (from' (c.x 5))) % 2 ^ 36 ∧
        (t.core q).x 7 = (from' (c.x 5) + 1) % 2 ^ 24 ∧ { t with cores := s.cores } = s) ∧
      (let src := (c.x 5 + i) % 2 ^ 24
       let dst := from' (c.x 6)
       free src → region dst = .cluster ∨ region dst = .global ∨ region dst = .engine → s.memOff dst = false → Stands s (.bmov q rs 1) → ∃ t, exec (.bmov q rs 1) s = .next t ∧ next t [] ∧
        (t.core q).x 7 = (dst + 1) % 2 ^ 24 ∧ (∀ key : Nat, t.peek key = if key = State.coreKey q dst then word src else s.peek key) ∧
        { t with cores := s.cores, mem := s.mem, bad := s.bad } = s) ∧
      (let on := fun (l : Nat) => !c.psBit 7 || c.mask.testBit l
       let n := if w then 2 else 1
       let at' := fun (k : Nat) => (from' (c.x 5) + k) % 2 ^ 24
       let rAt := (c.x 4 + (if ref then i else i / 12)) % 2 ^ 24
       let R : Int := if ref then sext 12 (word rAt) else if (word rAt).testBit (i % 12) then 1 else -1
       let D := fun (l : Nat) => if w then sext 24 (word (at' (2 * l)) + 4096 * word (at' (2 * l + 1))) else sext 12 (word (at' l))
       let old := fun (l : Nat) => if clr = true ∧ resumed = false then 0 else sext 36 (c.a a l)
       let sum := fun (l : Nat) => old l + R * D l
       let sat := fun (x : Int) => max (-2 ^ 35) (min (2 ^ 35 - 1) x)
       free rAt → (∀ l, l < 32 → on l = true → free (at' (n * l)) ∧ free (at' (n * l + n - 1))) → Stands s (.xcor q a rs clr ref w 1) → ∃ t, exec (.xcor q a rs clr ref w 1) s = .next t ∧
        next t ((List.range 32).map (aKey a)) ∧ (t.core q).x 7 = (from' (c.x 5) + n) % 2 ^ 24 ∧
        (∀ l, l < 32 → (t.core q).a a l = if on l then wrap 36 (sat (sum l)) else c.a a l) ∧
        (t.core q).psBit 5 = (c.psBit 5 || (List.range 32).any fun l => on l && sat (sum l) != sum l) ∧ { t with cores := s.cores } = s)) ∧
    (rs ≠ 7 → i < count → s.coreMayRead q (from' (c.x 5)) = false → Room s q → Stands s (.kcrc q a rs 1) → ∃ t, exec (.kcrc q a rs 1) s = .next t ∧
      (t.core q).epc = c.pc ∧ (t.core q).eps.testBit 10 = true ∧ (t.core q).ecause = 4 + 16 * 3 ∧ (t.core q).reg r7 = i)

/-- R314, R319, R320, R329 to R335, R544: engines that stop, and what replaces them. -/
def Obligations.LockstepStopsAndTakeovers : Prop :=
  ∀ (s : State) (e : Fin 128),
    let x := s.rd (PWR_ENGMAP_SPARE e)
    let st := [PWR_ENGST_STATE e, PWR_ENGST_CAUSE e, PWR_ENGST_GROUP e]
    let a := fun p => if s.rd (SN_TWCFG_ENGA p) = e then x else s.rd (SN_TWCFG_ENGA p)
    let b := fun p => if s.rd (SN_TWCFG_ENGB p) = e then x else s.rd (SN_TWCFG_ENGB p)
    let named := fun p => s.rd (SN_TWCFG_EN p) = 1 ∧ (s.rd (SN_TWCFG_ENGA p) = e ∨ s.rd (SN_TWCFG_ENGB p) = e)
    let halts := fun (t : State) (q : Nat) => t.core q = { s.core q with run := false, waiting := false, fence := none, mid := false }
    let stopped := fun (t : State) (cause : Nat) => t.rd (PWR_ENGST_STATE e) = 4 ∧ t.rd (PWR_ENGST_CAUSE e) = cause ∧ halts t (2 * e) ∧ halts t (2 * e + 1) ∧
      (∀ q, q ≠ 2 * e.val → q ≠ 2 * e.val + 1 → t.core q = s.core q) ∧ MemoriesKept s t ∧ (t.eng e).stopAt = some s.time ∧ (t.eng e).tkWait = false
    let alone := s.rd (PWR_ENGMAP_ROLE e) ≠ 1 ∨ s.rd (PWR_ENGST_STATE e) = 6 ∨ (s.eng e).noSpare = true ∨ s.engState x ≠ 2
    let moved := s.rd (PWR_ENGMAP_ROLE e) = 1 ∧ s.rd (PWR_ENGST_STATE e) ≠ 6 ∧ (s.eng e).noSpare = false ∧ s.engState x = 2 ∧ s.cluRuns (x / 16) = true ∧ x ≠ e ∧
      ∀ p : Fin 64, named p → a p / 16 ≠ b p / 16
    let endsAlone := fun (t : State) (src : Nat) (fs : List Fld) => t.coll = ((s.report clEng src 2 (4 + e / 16)).report clEng (0x280 + e) 3 (4 + e / 16)).coll ∧
      ElseSame t.eng s.eng e ∧ FieldsKept (fs ++ st) s t ∧ { t with regs := s.regs, coll := s.coll, cores := s.cores, engs := s.engs } = s
    let taken := fun (t : State) (src : Nat) (fs : List Fld) => t.coll = (s.report clEng src 2 (4 + e / 16)).coll ∧
      t.rd (PWR_ENGST_STATE x) = 3 ∧ t.rd (PWR_ENGST_FROM x) = e ∧ t.rd (PWR_ENGST_FROMV x) = 1 ∧ t.eng x = { s.eng x with tkWait := true } ∧
      (∀ d, d ≠ e.val → d ≠ x → t.eng d = s.eng d) ∧
      (∀ p : Fin 64, (named p → t.rd (SN_TWCFG_ENGA p) = a p ∧ t.rd (SN_TWCFG_ENGB p) = b p ∧ t.rd (SN_TWST_WAIVE p) = 1 ∧ (t.twin p).waive = some (s.time + 1600)) ∧
        (¬named p → t.rd (SN_TWCFG_ENGA p) = s.rd (SN_TWCFG_ENGA p) ∧ t.rd (SN_TWCFG_ENGB p) = s.rd (SN_TWCFG_ENGB p) ∧ t.rd (SN_TWST_WAIVE p) = s.rd (SN_TWST_WAIVE p) ∧
          t.twin p = s.twin p)) ∧
      FieldsKept (fs ++ st ++ [PWR_ENGST_STATE x, PWR_ENGST_FROM x, PWR_ENGST_FROMV x] ++
        (List.range 64).flatMap fun p => [SN_TWCFG_ENGA p, SN_TWCFG_ENGB p, SN_TWST_WAIVE p]) s t ∧
      { t with regs := s.regs, coll := s.coll, cores := s.cores, engs := s.engs, twins := s.twins } = s
    (s.guarded e = false → s.haltedNow e = false → ∀ (g : Fin 64) (n : Nat), exec (.lockstepMismatch e g) s = .next s ∧ exec (.inputFault e n) s = .next s) ∧
    (s.guarded e = false → s.haltedNow e = true → s.rd (PWR_ENGST_STATE e) = 4 → ∀ g : Fin 64,
      ∃ t, exec (.lockstepMismatch e g) s = .next t ∧ t.rd (PWR_ENGST_STATE e) = 4 ∧ t.rd (PWR_ENGST_CAUSE e) = 1 ∧ t.rd (PWR_ENGST_GROUP e) = g ∧ t.rd (PWR_ENGST_BROKEN e) = 0 ∧
        (∀ q, q = 2 * e.val ∨ q = 2 * e.val + 1 → t.core q = { s.core q with halted := false, run := false, waiting := false, fence := none, mid := false }) ∧
        (∀ q, q ≠ 2 * e.val → q ≠ 2 * e.val + 1 → t.core q = s.core q) ∧ t.eng e = { s.eng e with halt := none } ∧ ElseSame t.eng s.eng e ∧ MemoriesKept s t ∧
        ((∀ n : Fin 193, s.rd (CH_STAT_FROZEN n) = 0) → (∀ v ∈ t.coll.queue, (s.eng e).halt.map (·.2) ≠ some v.id) ∧ FieldsKept (PWR_ENGST_BROKEN e :: st) s t ∧ { t with regs := s.regs, cores := s.cores, engs := s.engs, coll := s.coll } = s)) ∧
    (s.guarded e = true → ∀ (g : Fin 64) (n : Nat), let cnt := min 4095 (s.rd (PWR_XDIS_COUNT e) + n)
      (∃ t, exec (.lockstepMismatch e g) s = .next t ∧ stopped t 1 ∧ t.rd (PWR_ENGST_GROUP e) = g ∧ (alone → endsAlone t e []) ∧ (moved → taken t e [])) ∧
      (n < 4 → ∃ t, exec (.inputFault e n) s = .next t ∧ t.rd (PWR_XDIS_COUNT e) = cnt ∧ FieldsKept [PWR_XDIS_COUNT e] s t ∧ { t with regs := s.regs } = s) ∧
      (4 ≤ n → ∃ t, exec (.inputFault e n) s = .next t ∧ t.rd (PWR_XDIS_COUNT e) = cnt ∧ stopped t 2 ∧
        (alone → endsAlone t (0x200 + e) [PWR_XDIS_COUNT e]) ∧ (moved → taken t (0x200 + e) [PWR_XDIS_COUNT e]))) ∧
    ((s.eng e).tkWait = false ∨ s.rd (PWR_ENGST_STATE e) ≠ 3 ∨ s.cluRuns (e / 16) = false → exec (.spareStart e) s = .next s) ∧
    ((s.eng e).tkWait = true → s.rd (PWR_ENGST_STATE e) = 3 → s.cluRuns (e / 16) = true → ∃ t, exec (.spareStart e) s = .next t ∧ t.eng e = { s.eng e with tkWait := false } ∧
      ElseSame t.eng s.eng e ∧ (t.core (2 * e)).run = true ∧ (t.core (2 * e)).pc = s.rd PWR_TKVEC_VEC ∧ (t.core (2 * e)).r 1 = s.rd (PWR_ENGST_FROM e) ∧
      (t.core (2 * e)).r 2 = s.rd (PWR_ENGST_CAUSE (s.rd (PWR_ENGST_FROM e))) ∧ (∀ k, k ≠ 1 → k ≠ 2 → (t.core (2 * e)).reg k = 0) ∧ (t.core (2 * e)).ps = 0x100 ∧
      ElseSame t.core s.core (2 * e) ∧ { t with cores := s.cores, engs := s.engs } = s) ∧
    (∀ r : Requester, Accepts s r (PWR_ENGST e) (2 ^ (PWR_ENGST_DONE e).lo) →
      (r = .core ⟨2 * e, by omega⟩ → s.rd (PWR_ENGST_STATE e) = 3 → ∃ t, exec (.takeoverDone r e) s = .next t ∧ t.rd (PWR_ENGST_STATE e) = 6 ∧ t.rd (PWR_ENGMAP_ROLE e) = 1 ∧
        t.rd PWR_CLUST_RSVOK = 0 ∧ FieldsKept [PWR_ENGST_STATE e, PWR_ENGMAP_ROLE e, PWR_CLUST_RSVOK] s t ∧ { t with regs := s.regs, staged := s.staged } = s) ∧
      (s.rd (PWR_ENGST_STATE e) ≠ 3 → ∃ t, exec (.takeoverDone r e) s = .next t ∧ { t with staged := s.staged } = s)) ∧
    (∀ (q : Fin 256) (w : Word), Accepts s (.core q) (PWR_CKCMT e) w.toNat → (∀ f ∈ (PWR_CKCMT e).fields, s.marked f = 0) →
      let ok := s.coreSv q && (q.val / 2 == e.val || (s.rd (PWR_ENGST_FROMV (q / 2)) == 1 && s.rd (PWR_ENGST_FROM (q / 2)) == e.val))
      (ok = true → ∃ t, exec (.checkpointCommit (.core q) e w) s = .next t ∧ (∀ f ∈ (PWR_CKCMT e).fields, t.rd f = f.of w.toNat) ∧
        FieldsKept (PWR_CKCMT e).fields s t ∧ { t with regs := s.regs } = s) ∧
      (ok = false → ∃ t, exec (.checkpointCommit (.core q) e w) s = .next t ∧ t.coll = (s.report clCfg 0xF24 1 13 (addrData (PWR_CKCMT e).last)).coll ∧ { t with coll := s.coll } = s)) ∧
    (∀ (k : Fin 8) (cause : Fin 4), let two := ∃ i j : Fin 16, i ≠ j ∧
        ((s.eng (16 * k + i)).stopAt.any fun a => (s.eng (16 * k + j)).stopAt.any fun b => decide (a ≤ b) && decide (b ≤ a + 160)) = true
      let lost := s.bit PWR_CLUST_LOST k = false ∧ (2 ≤ s.rd (PWR_CST_STATE k) ∨ cause = 1) ∧ (cause ≠ 3 ∨ (s.split k = false ∧ two))
      let drives := fun n => s.rd (CH_OWNER_VALID n) = 1 ∧ s.rd (CH_OWNER_ENG n) / 16 = k.val
      (¬lost → exec (.clusterLost k cause) s = .next s) ∧
      (lost → ∃ t, exec (.clusterLost k cause) s = .next t ∧ t.bit PWR_CLUST_LOST k = true ∧ t.rd (PWR_CST_STATE k) = 0 ∧
        (∀ j, j ≠ k.val → t.bit PWR_CLUST_LOST j = s.bit PWR_CLUST_LOST j) ∧
        (∀ i : Fin 16, let d := 16 * k.val + i.val
          t.rd (PWR_ENGST_STATE d) = 4 ∧ t.rd (PWR_ENGST_CAUSE d) = 5 ∧ (t.core (2 * d)).run = false ∧ (t.core (2 * d + 1)).run = false) ∧
        ((∀ i : Fin 16, s.split k = true ∨ s.rd (PWR_ENGST_STATE (16 * k + i)) = 4 ∨ s.rd (PWR_ENGMAP_ROLE (16 * k + i)) ≠ 1) →
          t.coll = (s.report clEng (0x380 + k) 3 (4 + k)).coll ∧ (∀ q, q / 32 ≠ k.val → t.core q = s.core q) ∧ (∀ d, d / 16 ≠ k.val → t.eng d = s.eng d) ∧
          (∀ n, n < 192 → drives n → s.rd (CH_CFG_EN n) = 1 → s.rd (CH_SHST_ASRC n) = 0 → s.latched n = false → s.follows n = false → t.rd (CH_STAT_FROZEN n) = 1) ∧
          (∀ n, n < 192 → ¬drives n → ¬(drives (n - 1) ∧ s.follows n = true) → t.gen n = s.gen n ∧ t.rd (CH_STAT_FROZEN n) = s.rd (CH_STAT_FROZEN n)) ∧
          (∀ key : Nat, t.peek key = if HeldBy k key then 0 else s.peek key) ∧
          FieldsKept (PWR_CLUST_LOST :: PWR_CST_STATE k :: (List.range 192).map CH_STAT_FROZEN ++ (List.range 16).flatMap fun i => [PWR_ENGST_STATE (16 * k + i), PWR_ENGST_CAUSE (16 * k + i)]) s t ∧
          { t with regs := s.regs, coll := s.coll, cores := s.cores, engs := s.engs, gens := s.gens, mem := s.mem, bad := s.bad } = s)))

/-- R323 to R325, R333: twin pairs. -/
def Obligations.TwinRounds : Prop :=
  ∀ (s : State) (p : Fin 64),
    let w := s.twin p
    let tol := s.rd (SN_TWTOL_TOL p)
    let sel := fun (a b : Int) => if s.rd (SN_TWCFG_DIR p) = 1 then max a b else min a b
    let safev := sext 12 (s.rd (SN_TWTOL_SAFEV p))
    let m := s.rd (SN_TWST_MCNT p)
    let failed := s.rd (SN_TWST_STATE p) = 3
    let fields := [SN_TWST_STATE p, SN_TWST_MCNT p, SN_TWVAL_VALUE p] ++ (List.range 24).map SN_FNST_WAITRUN ++ outFields
    let closes := fun (t : State) (a b : Option Nat) (fs : List Fld) =>
      let ok := match a, b with | some x, some y => decide ((sext 12 x - sext 12 y).natAbs ≤ tol) | _, _ => false
      let v := match a, b with | some x, some y => sel (sext 12 x) (sext 12 y) | some x, none => sel (sext 12 x) safev | none, some y => sel (sext 12 y) safev | none, none => safev
      let cnt := if (a = none ∨ b = none) ∧ s.rd (SN_TWST_WAIVE p) = 1 then m else m + 1
      let u := s.report clEng (0x300 + p) 1 12
      t.rd (SN_TWVAL_VALUE p) = wrap 12 v ∧ (t.twin p).closed = some s.time ∧ OutputsShown t ∧ MemoriesKept s t ∧ t.cores = s.cores ∧
      (ok = true → (t.rd (SN_TWST_STATE p) = if failed then 3 else 1) ∧ (t.rd (SN_TWST_MCNT p) = if failed then m else 0) ∧ t.coll = s.coll) ∧
      (ok = false → failed → t.rd (SN_TWST_STATE p) = 3 ∧ t.rd (SN_TWST_MCNT p) = m ∧ t.coll = u.coll) ∧
      (ok = false → ¬failed → cnt < 3 → t.rd (SN_TWST_STATE p) = 2 ∧ t.rd (SN_TWST_MCNT p) = cnt ∧ t.coll = u.coll) ∧
      (ok = false → ¬failed → 3 ≤ cnt → t.rd (SN_TWST_STATE p) = 3 ∧ (Unfed s p → t.coll = (u.report clEng (0x340 + p) 2 12).coll)) ∧
      (ok = true ∨ failed ∨ cnt < 3 ∨ Unfed s p →
        (∀ f, f < 24 → t.fn f = (if s.rd (SN_FNCFG_TWIN f) = p then { s.fn f with stale := false } else s.fn f) ∧
          t.rd (SN_FNST_WAITRUN f) = (if ok = true ∧ s.rd (SN_FNCFG_TWEN f) = 1 ∧ s.rd (SN_FNCFG_TWIN f) = p ∧ s.dev = .run then 0 else s.rd (SN_FNST_WAITRUN f))) ∧
        ElseSame t.twin s.twin p ∧ FieldsKept (fs ++ fields) s t ∧
        { t with regs := s.regs, twins := s.twins, coll := s.coll, sio := s.sio, fns := s.fns, staged := s.staged } = s)
    (∀ (b : Bool) (v : BitVec 24) (q : Fin 256), let reg := if b then SN_TWRB p else SN_TWRA p
      let fv := if b then SN_TWRB_VALUE p else SN_TWRA_VALUE p
      let fq := if b then SN_TWRB_SEQ p else SN_TWRA_SEQ p
      let any := if b then w.freeB else w.freeA
      let mine := if b then w.postB else w.postA
      let other := if b then w.postA else w.postB
      let named := s.rd (SN_TWCFG_EN p) = 1 ∧ s.rd (if b then SN_TWCFG_ENGB p else SN_TWCFG_ENGA p) = q / 2 ∧ s.coreSv q = true ∧ s.split (q / 32) = false ∧ s.rd (PWR_ENGST_BROKEN (q / 2)) = 0
      let seq := fq.of v.toNat
      let val := fv.of v.toNat
      let taken := named ∧ (any = true ∨ seq = (s.rd fq + 1) % 16)
      let opens := fun (t : State) => (t.twin p).openAt = some s.time ∧ (t.twin p).seq = seq ∧
        (t.twin p).postA = (if b then none else some val) ∧ (t.twin p).postB = (if b then some val else none)
      Accepts s (.core q) reg v.toNat →
      (¬taken → ∃ t, exec (.twinPost (.core q) p b v) s = .next t ∧ t.coll = (s.report clCfg (0xF40 + p) 1 12 (addrData reg.last)).coll ∧
        { t with coll := s.coll, staged := s.staged } = s) ∧
      (taken → ∃ t, exec (.twinPost (.core q) p b v) s = .next t ∧ t.rd fv = val ∧ t.rd fq = seq ∧ (if b then (t.twin p).freeB else (t.twin p).freeA) = false ∧
        (w.openAt = none → (seq ≠ w.seq ∨ mine.isSome = true ∨ other = none → opens t) ∧
          (seq = w.seq → mine = none → other.isSome = true → (t.twin p).openAt = none ∧ (if b then (t.twin p).postB else (t.twin p).postA) = some val ∧
            (if b then (t.twin p).postA else (t.twin p).postB) = other) ∧
          ElseSame t.twin s.twin p ∧ FieldsKept [fv, fq] s t ∧ { t with regs := s.regs, twins := s.twins, staged := s.staged } = s) ∧
        (w.openAt.isSome = true → (seq = w.seq → mine = none → (t.twin p).openAt = none ∧ closes t (if b then w.postA else some val) (if b then some val else w.postB) [fv, fq]) ∧
          (seq ≠ w.seq ∨ mine.isSome = true → opens t ∧ closes t w.postA w.postB [fv, fq])))) ∧
    (w.openAt = none → exec (.roundTimeout p) s = .next s) ∧
    (∀ o, w.openAt = some o → (s.time < o + 160 * s.rd (SN_TWCFG_SKEW p) → exec (.roundTimeout p) s = .next s) ∧
      (o + 160 * s.rd (SN_TWCFG_SKEW p) ≤ s.time → ∃ t, exec (.roundTimeout p) s = .next t ∧ (t.twin p).openAt = none ∧ closes t w.postA w.postB [])) ∧
    (w.waive = none → exec (.waiveEnd p) s = .next s) ∧
    (∀ o, w.waive = some o → (s.time < o → exec (.waiveEnd p) s = .next s) ∧
      (o ≤ s.time → ∃ t, exec (.waiveEnd p) s = .next t ∧ t.rd (SN_TWST_WAIVE p) = 0 ∧ t.twin p = { w with waive := none } ∧ ElseSame t.twin s.twin p ∧
        FieldsKept [SN_TWST_WAIVE p] s t ∧ { t with regs := s.regs, twins := s.twins } = s))

/-- R345 to R353: safety inputs. -/
def Obligations.SafetyInputs : Prop :=
  ∀ s : State,
    let fnFields := (List.range 24).flatMap fun f => [SN_FNST_STATE f, SN_FNST_FCAUSE f, SN_FNST_DEG f, SN_FNST_TESTED f, SN_FNST_WAITRUN f, SN_DGREM_TIME f]
    let late := fun p => (s.ipair p).mixedAt.any fun t => decide (t + 16000 * s.rd (SN_IPCFG_DISC p) < s.time)
    (s.netTimed = false → ∀ h l, exec (.safetyInputSample h l) s = .next s) ∧
    (s.netTimed = true → ∀ h l : BitVec 32, ∃ t, exec (.safetyInputSample h l) s = .next t ∧
      (∀ i : Fin 32, t.bit SN_SIRAW_LEVEL i = (h.getLsbD i || (!l.getLsbD i && s.bit SN_SIRAW_LEVEL i))) ∧
      (∀ c : Fin 64, let p : Nat := c / 2
        let x := s.inp c
        let y := t.inp c
        let type := s.rd (SN_IPCFG_TYPE p)
        let k := s.rd (SN_IPCFG_KSLOT p)
        let filtered := fun level => let now := s.closedAs c level
          y.closed = (if now ≠ x.closed ∧ s.filtLen c x.closed ≤ x.run + 1 then now else x.closed) ∧
          y.run = (if now = x.closed ∨ s.filtLen c x.closed ≤ x.run + 1 then 0 else x.run + 1)
        (type = 0 → y.closed = false ∧ y.run = 0) ∧
        (type ≠ 0 → c < 32 → s.masked c = true → (y.closed, y.run, y.lastU) = (x.closed, x.run, x.lastU)) ∧
        (type ≠ 0 → c < 32 → s.masked c = false → filtered (t.bit SN_SIRAW_LEVEL c) ∧ y.lastU = t.bit SN_SIRAW_LEVEL c) ∧
        (type ≠ 0 → 32 ≤ c.val → s.rd (KSF_SLOT_VALID k) = 1 → y.closed = x.closed ∧ y.run = x.run) ∧
        (32 ≤ c.val → s.rd (KSF_SLOT_VALID k) = 0 → y.closed = false ∧ y.run = 0) ∧
        (y.fails, y.passes) = (x.fails, x.passes) ∧ y.tpf = (x.tpf && !(decide (2 ≤ x.passes) && t.bothOpen p))) ∧
      (∀ p : Fin 32, let mixed := !t.bothClosed p && !t.bothOpen p
        let since := (s.ipair p).mixedAt.getD s.time
        let due := mixed && decide (since + 16000 * s.rd (SN_IPCFG_DISC p) < s.time)
        (t.ipair p).mixedAt = (if mixed then some since else none) ∧
        (t.ipair p).closedAt = (if t.bothClosed p then some ((s.ipair p).closedAt.getD s.time) else none) ∧
        ((s.ipair p).disc = true → (t.ipair p).disc = !t.bothOpen p) ∧
        ((s.ipair p).disc = false → (t.ipair p).disc = (due && !s.degradedPair p))) ∧
      OutputsShown t ∧ MemoriesKept s t ∧ t.cores = s.cores ∧
      ((∀ f, f < 24 → s.rd (SN_FNCFG_DAEN f) = 0) → (∀ g, g < 16 → (s.group g).demandFn = []) →
        FieldsKept (SN_SIRAW_LEVEL :: fnFields ++ outFields) s t ∧
        { t with regs := s.regs, inps := s.inps, ipairs := s.ipairs, fns := s.fns, sio := s.sio, coll := s.coll, sent := s.sent } = s)) ∧
    (∀ (k : Fin 8), let n := s.sio.tpFails.get 0 k
      let checked := s.dueOn s.tpPeriod (k * s.tpPeriod / 8 + s.tpWidth - 400)
      let due := s.netTimed = true ∧ s.tpPhase k < s.tpWidth ∧ (s.sio.tpAt.get none k).all (fun a => decide (a + s.tpPhase k < s.devCount)) = true
      (∀ b, s.netTimed = false ∨ s.tpWidth ≤ s.tpPhase k ∨ (s.sio.tpAt.get none k).any (fun a => decide (s.devCount ≤ a + s.tpPhase k)) = true → exec (.testPulse k b) s = .next s) ∧
      (due → ∃ t, exec (.testPulse k true) s = .next t ∧ t.sio.tpFails.get 0 k = 0 ∧ ¬k.val ∈ t.sio.tpBad ∧ (∀ j, j ≠ k.val → (j ∈ t.sio.tpBad ↔ j ∈ s.sio.tpBad)) ∧
        ElseSame (t.sio.tpFails.get 0) (s.sio.tpFails.get 0) k ∧ t.sio.tpAt.get none k = some (s.devCount - s.tpPhase k) ∧ ElseSame (t.sio.tpAt.get none) (s.sio.tpAt.get none) k ∧
        { t with sio := { t.sio with tpFails := s.sio.tpFails, tpBad := s.sio.tpBad, tpAt := s.sio.tpAt } } = s) ∧
      (due → ∃ t, exec (.testPulse k false) s = .next t ∧ t.sio.tpFails.get 0 k = n + 1 ∧ (1 ≤ n → k.val ∈ t.sio.tpBad) ∧ (n = 0 → t.sio.tpBad = s.sio.tpBad) ∧
        t.coll = (if n = 1 then s.report clSin (0x060 + k) 2 12 else s).coll ∧
        ElseSame (t.sio.tpFails.get 0) (s.sio.tpFails.get 0) k ∧ t.sio.tpAt.get none k = some (s.devCount - s.tpPhase k) ∧ ElseSame (t.sio.tpAt.get none) (s.sio.tpAt.get none) k ∧
        { t with coll := s.coll, sio := { t.sio with tpFails := s.sio.tpFails, tpBad := s.sio.tpBad, tpAt := s.sio.tpAt } } = s) ∧
      (s.netTimed = false ∨ checked = false → ∀ l : BitVec 32, exec (.testPulseCheck k l) s = .next s) ∧
      (s.netTimed = true → checked = true → s.marked SN_SIFLT_TPF = 0 → ∀ l : BitVec 32, ∃ t, exec (.testPulseCheck k l) s = .next t ∧
        (∀ i : Fin 32, let x := s.inp i
          let y := t.inp i
          let now := decide (s.tpOf i = k) && decide (s.rd (SN_IPCFG_TYPE (i / 2)) ≠ 0) && x.lastU
          let bad := l.getLsbD i || decide (k.val ∈ s.sio.tpBad)
          (now = false → y = x ∧ t.bit SN_SIFLT_TPF i = s.bit SN_SIFLT_TPF i) ∧
          (now = true → bad = false → y = { x with fails := 0, passes := x.passes + 1 } ∧ t.bit SN_SIFLT_TPF i = s.bit SN_SIFLT_TPF i) ∧
          (now = true → bad = true → y = { x with fails := x.fails + 1, passes := 0, tpf := x.tpf || decide (1 ≤ x.fails) } ∧
            t.bit SN_SIFLT_TPF i = (s.bit SN_SIFLT_TPF i || decide (1 ≤ x.fails)))) ∧
        FieldsKept [SN_SIFLT_TPF] s t ∧ { t with regs := s.regs, inps := s.inps, coll := s.coll, hwNow := s.hwNow } = s)) ∧
    (∀ p : Fin 32, (late p = false ∨ (s.ipair p).disc = true ∨ s.degradedPair p = true → exec (.discrepancy p) s = .next s) ∧
      (late p = true → (s.ipair p).disc = false → s.degradedPair p = false → ∃ t, exec (.discrepancy p) s = .next t ∧
        t.coll = (s.report clSin (0x040 + p) 2 12).coll ∧ t.ipair p = { s.ipair p with disc := true } ∧ ElseSame t.ipair s.ipair p ∧ { t with coll := s.coll, ipairs := s.ipairs } = s))

/-- R357 to R370, R376, R380 to R382: safety functions. -/
def Obligations.SafetyFunctions : Prop :=
  ∀ s : State,
    let quiet := fun (f : Nat) => s.rd (SN_FNCFG_DAEN f) = 0 ∧ ¬f ∈ (s.group (s.demandGroup f)).demandFn
    let fnFields := fun (f : Nat) => [SN_FNST_STATE f, SN_FNST_FCAUSE f, SN_FNST_DEG f, SN_DGREM_TIME f]
    (s.netTimed = true → ∀ h l : BitVec 32, ∃ t, exec (.safetyInputSample h l) s = .next t ∧ ∀ f : Fin 24,
      let st := s.rd (SN_FNST_STATE f)
      let type := s.rd (SN_FNCFG_TYPE f)
      let deg := s.rd (SN_FNST_DEG f)
      let pa := s.rd (SN_FNCFG_IPA f)
      let pb := s.rd (SN_FNCFG_IPB f)
      let rp := s.rd (SN_FNCFG_RST f)
      let a := (t.inp (2 * pa + if deg = 1 then 1 else 0)).closed
      let b := (t.inp (2 * pa + if deg = 2 then 0 else 1)).closed
      let closed := a && b
      let ev := decide (s.rd (SN_FNCFG_RSTEN f) = 1) && decide (s.rd (SN_IPCFG_TYPE rp) = 4) && !t.bothClosed rp &&
        (s.ipair rp).closedAt.any fun t0 => decide (t0 + 800000 ≤ s.time) && decide (s.time ≤ t0 + 48000000)
      let free := if s.rd (SN_FNCFG_MANRST f) = 1 then 2 else 3
      let due := (s.fn f).stopAt.any fun t0 => decide (t0 + 160000 * s.rd (SN_FNCFG_T1 f) ≤ s.time)
      let run := if st = 2 then (if !closed then 1 else if ev then 3 else 2) else if st = 3 then (if closed then 3 else if s.rd (SN_FNCFG_CAT f) = 1 then 4 else 1)
        else if st = 4 then (if due then 1 else 4) else st
      let first := if (s.fn f).second then pb else pa
      let other := if (s.fn f).second then pa else pb
      let late := decide ((s.fn f).waitAt + 8000000 < s.time)
      let released := t.bothClosed pa && t.bothClosed pb
      let faults := t.inputFaults f ++ if t.evalFault f then [3] else []
      let goes := fun (x : Nat) => t.rd (SN_FNST_STATE f) = x
      let faulted := fun (c : Nat) => goes 7 ∧ t.rd (SN_FNST_FCAUSE f) = c
      let active := type ≠ 0 ∧ (s.fn f).reset = false ∧ st ≠ 7
      let calm := active ∧ t.fnDisc f = false ∧ ((deg = 0 ∧ faults = []) ∨ (deg ≠ 0 ∧ (s.fn f).degLeft ≠ 0 ∧ (faults = [deg] ∨ (deg = 3 ∧ faults = []))))
      (type = 0 → goes st ∧ t.fn f = { s.fn f with xTime := (t.fn f).xTime }) ∧
      (type ≠ 0 → (s.fn f).reset = true → goes 0 ∧ t.rd (SN_FNST_TESTED f) = 0 ∧ (t.fn f).reset = false) ∧
      (calm → type = 1 → goes (if st = 0 ∨ st = 1 then (if closed then 2 else 1) else run)) ∧
      (calm → type = 2 → goes (if st = 0 then (if !a && !b then 1 else 0)
          else if st = 1 then (if closed ∧ s.rd (SN_FNST_TESTED f) = 1 then free else 1) else run) ∧
        t.rd (SN_FNST_TESTED f) = (if st = 0 ∧ a = false ∧ b = false then 1 else s.rd (SN_FNST_TESTED f))) ∧
      (calm → type = 3 → goes (if st = 0 then (if released then 2 else 0)
          else if st = 2 then (if t.bothOpen pa && t.bothOpen pb then 3 else if t.bothOpen pa || t.bothOpen pb then 5 else 2)
          else if st = 5 then (if t.bothOpen other && !late then 3 else if !t.bothOpen first then (if released then 2 else 6) else if late then 6 else 5)
          else if st = 3 then (if t.bothOpen pa && t.bothOpen pb then 3 else 6) else if st = 6 then (if released then 2 else 6) else st)) ∧
      (calm → type = 4 → goes (if st = 0 ∨ st = 1 then (if closed then free else 1) else run)) ∧
      (calm → type = 5 → goes (if s.rd (SN_FNCFG_LASP f) ∈ s.sio.lampFail then 1 else if st = 0 ∨ st = 1 then free else if st = 2 ∧ ev then 3 else st)) ∧
      (active → deg = 0 → t.fnDisc f = true → faulted 1) ∧
      (active → deg = 0 → t.fnDisc f = false → faults.length = 1 → s.rd (SN_FNCFG_DGEN f) = 0 → faulted (if faults = [3] then 6 else 5)) ∧
      (active → deg = 0 → t.fnDisc f = false → faults.length = 1 → s.rd (SN_FNCFG_DGEN f) = 1 →
        (s.degDuration = 0 → faulted 3) ∧ (s.degDuration ≠ 0 → faults = [t.rd (SN_FNST_DEG f)] ∧ (t.fn f).degLeft = s.degDuration)) ∧
      (active → deg = 0 → t.fnDisc f = false → 1 < faults.length → faulted (if s.rd (SN_FNCFG_DGEN f) = 1 then 2 else 5)) ∧
      (active → deg ≠ 0 → (s.fn f).degLeft = 0 → faulted 3) ∧
      (active → deg ≠ 0 → (s.fn f).degLeft ≠ 0 → faults ≠ [] → faults ≠ [deg] → faulted 2) ∧
      (active → deg = 3 → (s.fn f).degLeft ≠ 0 → t.fnDisc f = true → faulted 2) ∧
      (active → deg = 1 ∨ deg = 2 → (s.fn f).degLeft ≠ 0 → faults = [] → t.rd (SN_FNST_DEG f) = 0 ∧ (t.fn f).degLeft = 0 ∧ t.rd (SN_DGREM_TIME f) = 0) ∧
      (type ≠ 0 → (s.fn f).reset = false → st = 7 → let by' := s.rd (SN_FNST_FCAUSE f) = 1 ∨ s.rd (SN_FNST_FCAUSE f) = 5
        (by' → t.noFault f = true → goes (if type = 3 then 6 else 1) ∧ t.rd (SN_FNST_FCAUSE f) = 0) ∧ (¬by' ∨ t.noFault f = false → faulted (s.rd (SN_FNST_FCAUSE f)))) ∧
      (t.fn f).xTime = (if s.dev ≠ .run ∨ t.permitA f = t.gateB f then 0
        else if s.rd (SN_FNST_WAITRUN f) = 1 ∨ s.evalFault f then (s.fn f).xTime else (s.fn f).xTime + 160)) ∧
    (∀ f : Fin 24, let st := s.rd (SN_FNST_STATE f)
      let waits := s.rd (SN_FNCFG_TYPE f) = 3 ∧ st = 5 ∧ (s.fn f).waitAt + 8000000 < s.time
      let faulted := fun (t : State) (c : Nat) => t.rd (SN_FNST_STATE f) = 7 ∧ t.rd (SN_FNST_FCAUSE f) = c ∧ OutputsShown t ∧ MemoriesKept s t ∧ t.cores = s.cores ∧
        (quiet f → t.coll = (s.report clSin (0x080 + f) 3 12).coll ∧ FieldsKept ([SN_FNST_STATE f, SN_FNST_FCAUSE f] ++ outFields) s t ∧
          { t with regs := s.regs, coll := s.coll, sio := s.sio } = s)
      (¬waits → exec (.twohandTimeout f) s = .next s) ∧
      (waits → ∃ t, exec (.twohandTimeout f) s = .next t ∧ t.rd (SN_FNST_STATE f) = 6 ∧ FieldsKept [SN_FNST_STATE f] s t ∧ { t with regs := s.regs } = s) ∧
      (st ≠ 4 ∨ s.stopDue f = false → exec (.stopTimeout f) s = .next s) ∧
      (st = 4 → ∀ t0, (s.fn f).stopAt = some t0 → t0 + 160000 * s.rd (SN_FNCFG_T1 f) ≤ s.time → ∃ t, exec (.stopTimeout f) s = .next t ∧ t.rd (SN_FNST_STATE f) = 1 ∧
        OutputsShown t ∧ (s.rd (SN_FNCFG_DAEN f) = 0 → FieldsKept (SN_FNST_STATE f :: outFields) s t ∧ { t with regs := s.regs, sio := s.sio } = s)) ∧
      (s.rd (SN_FNST_DEG f) = 0 ∨ (s.fn f).degLeft ≠ 0 ∨ st = 7 → exec (.degradedExpiry f) s = .next s) ∧
      (s.rd (SN_FNST_DEG f) ≠ 0 → (s.fn f).degLeft = 0 → st ≠ 7 → ∃ t, exec (.degradedExpiry f) s = .next t ∧ faulted t 3) ∧
      (s.dev ≠ .run ∨ (s.fn f).xTime < 320000 ∨ st = 7 → exec (.crossCheckFault f) s = .next s) ∧
      (s.dev = .run → 320000 ≤ (s.fn f).xTime → st ≠ 7 → ∃ t, exec (.crossCheckFault f) s = .next t ∧ faulted t 4) ∧
      (let last := max s.runAt ((s.twin (s.rd (SN_FNCFG_TWIN f))).closed.getD 0)
       let stale := s.dev = .run ∧ s.rd (SN_FNCFG_TYPE f) ≠ 0 ∧ s.rd (SN_FNCFG_TWEN f) = 1 ∧ (s.fn f).stale = false ∧ last + 32000 ≤ s.time
       (¬stale → exec (.engineChannelStale f) s = .next s) ∧
       (stale → ∃ t, exec (.engineChannelStale f) s = .next t ∧ (t.fn f).stale = true ∧ OutputsShown t ∧ MemoriesKept s t ∧ t.cores = s.cores ∧
         (st ≠ 7 → (s.fn f).reset = false → s.rd (SN_FNST_DEG f) = 0 → s.noFault f = true →
           (s.rd (SN_FNCFG_DGEN f) = 0 → t.rd (SN_FNST_STATE f) = 7 ∧ t.rd (SN_FNST_FCAUSE f) = 6) ∧
           (s.rd (SN_FNCFG_DGEN f) = 1 → s.degDuration ≠ 0 → t.rd (SN_FNST_DEG f) = 3 ∧ t.rd (SN_FNST_STATE f) = st ∧ (t.fn f).degLeft = s.degDuration)) ∧
         (∀ k : Fin 24, s.rd (SN_FNCFG_TWIN k) ≠ s.rd (SN_FNCFG_TWIN f) → t.fn k = s.fn k ∧ ∀ x ∈ fnFields k, t.rd x = s.rd x))) ∧
      (∀ (r : Requester) (w : Word), let gone := if s.rd (SN_FNST_DEG f) = 3 then !s.evalFault f else decide (s.rd (SN_FNST_DEG f) ∉ s.inputFaults f)
        Accepts s r SN_FNRST w.toNat →
        (s.safetyWriter r = false ∨ SN_FNRST_KEY.of w.toNat ≠ 0x5A ∨ 24 ≤ SN_FNRST_F.of w.toNat → ∃ t, exec (.functionReset r w) s = .next t ∧
          t.coll = (s.report clCfg 0xE21 1 12).coll ∧ { t with coll := s.coll } = s) ∧
        (s.safetyWriter r = true → w.toNat = f + 32 * 0x5A → ∃ t, exec (.functionReset r w) s = .next t ∧
          t.coll = ((s.report clSin (0x0C0 + f) 0 12).report clFc 0x022 0 13).coll ∧ t.rd (SN_FNST_FCAUSE f) = 0 ∧ t.rd (FC_RUNG_COUNT 1) = min 4095 (s.rd (FC_RUNG_COUNT 1) + 1) ∧
          (t.fn f).reset = true ∧ (gone = true → t.rd (SN_FNST_DEG f) = 0 ∧ t.rd (SN_DGREM_TIME f) = 0 ∧ (t.fn f).degLeft = 0) ∧
          (gone = false → t.rd (SN_FNST_DEG f) = s.rd (SN_FNST_DEG f) ∧ t.rd (SN_DGREM_TIME f) = s.rd (SN_DGREM_TIME f)) ∧ ElseSame t.fn s.fn f ∧
          FieldsKept [SN_FNST_FCAUSE f, SN_FNST_DEG f, SN_DGREM_TIME f, FC_RUNG_COUNT 1] s t ∧ { t with regs := s.regs, fns := s.fns, coll := s.coll } = s))) ∧
    (∀ a : Fin 64, let g := s.rd (SN_ASP_GROUP a)
      let back := s.rd (SN_AGACT_VALID g) = 1 ∧ s.rd (SN_AGACT_ASP g) = a ∧ ∃ t0 ∈ (s.group g).provenAt, t0 + 16000000 ≤ s.time
      (¬back → exec (.lampFailureClear a) s = .next s) ∧
      (back → ∃ t, exec (.lampFailureClear a) s = .next t ∧ (∀ x, x ∈ t.sio.lampFail ↔ x ∈ s.sio.lampFail ∧ x ≠ a.val) ∧
        { t with sio := { t.sio with lampFail := s.sio.lampFail } } = s))

/-- R371 to R375, R384, R386, R391: outputs, switches, the check of the image. -/
def Obligations.SafetyOutputsAndSwitches : Prop :=
  ∀ s : State,
    (∀ (r : Requester) (w : Word), Accepts s r SN_OUTREQ w.toNat →
      (s.safetyWriter r = false → ∃ t, exec (.outputRequest r w) s = .next t ∧ t.coll = (s.report clCfg 0xE21 1 12).coll ∧ { t with coll := s.coll } = s) ∧
      (s.safetyWriter r = true → ∃ t, exec (.outputRequest r w) s = .next t ∧ t.rd SN_OUTREQ_SOREQ = w.toNat % 256 ∧ t.rd SN_OUTREQ_STOREQ = w.toNat / 256 % 2 ∧
        OutputsShown t ∧ FieldsKept ([SN_OUTREQ_SOREQ, SN_OUTREQ_STOREQ] ++ outFields) s t ∧ { t with regs := s.regs, sio := s.sio } = s)) ∧
    (∀ k : Fin 8, let held := fun (t : State) (src : Nat) => k.val ∈ t.sio.soHeld ∧ (∀ j, j ≠ k.val → (j ∈ t.sio.soHeld ↔ j ∈ s.sio.soHeld)) ∧
        (∀ j, t.bit SN_SOFLT_SO j = (s.bit SN_SOFLT_SO j || decide (j = k))) ∧ t.soOn k = false ∧ OutputsShown t ∧ t.coll = (s.report clSin src 3 12).coll ∧
        FieldsKept (SN_SOFLT_SO :: outFields) s t ∧ { t with regs := s.regs, sio := s.sio, coll := s.coll, hwNow := s.hwNow } = s
      (∀ b fell : Bool, s.soOn k = false ∨ s.pulseDue k b = false → exec (.outputTestPulse k b fell) s = .next s) ∧
      (∀ b : Bool, s.soOn k = true → s.pulseDue k b = true → ∃ t, exec (.outputTestPulse k b true) s = .next t ∧ t.sio.outAt.get none k = some (s.time, b) ∧
        ElseSame (t.sio.outAt.get none) (s.sio.outAt.get none) k ∧ { t with sio := { t.sio with outAt := s.sio.outAt } } = s) ∧
      (∀ b : Bool, s.soOn k = true → s.pulseDue k b = true → ∃ t, exec (.outputTestPulse k b false) s = .next t ∧ held t ((if b then 0x108 else 0x100) + k) ∧ t.sio.rbHigh = s.sio.rbHigh ∧
        t.sio.outAt.get none k = some (s.time, b)) ∧
      (s.soOn k = false → exec (.soOverloadTrip k) s = .next s) ∧
      (s.soOn k = true → ∃ t, exec (.soOverloadTrip k) s = .next t ∧ held t (0x110 + k) ∧ t.sio.rbHigh = s.sio.rbHigh) ∧
      (∀ high : Bool, let n := if high = true ∧ s.soOn k = false then s.sio.rbHigh.get 0 k + 1 else 0
        let early := (s.sio.rbAt.get none k).any fun t0 => decide (s.time < t0 + 160000)
        (early = true → exec (.outputReadback k high) s = .next s) ∧
        (early = false → ∃ t, exec (.outputReadback k high) s = .next t ∧ t.sio.rbAt.get none k = some s.time ∧ t.sio.rbHigh.get 0 k = n ∧ ElseSame (t.sio.rbHigh.get 0) (s.sio.rbHigh.get 0) k ∧
          (n = 3 → held t (0x110 + k)) ∧ (n ≠ 3 → { t with sio := { t.sio with rbHigh := s.sio.rbHigh, rbAt := s.sio.rbAt } } = s)))) ∧
    (let early := s.sio.stoAt.any fun t0 => decide (s.time < t0 + 8000000)
     s.netTimed = false ∨ (s.torqueA = true ∧ early = true) → ∀ a b, exec (.stoTestPulse a b) s = .next s) ∧
    (s.netTimed = true → s.torqueA = false ∨ (s.sio.stoAt.all fun t0 => decide (t0 + 8000000 ≤ s.time)) = true → ∀ a b : Bool,
      let na := if a then 0 else s.sio.stoFailA + 1
      let nb := if b then 0 else s.sio.stoFailB + 1
      let bad := decide (2 ≤ na) || decide (2 ≤ nb)
      let u := if na = 2 then s.report clSin 0x118 3 12 else s
      ∃ t, exec (.stoTestPulse a b) s = .next t ∧ t.sio.stoAt = (if s.torqueA then some s.time else s.sio.stoAt) ∧ t.sio.stoFailA = na ∧ t.sio.stoFailB = nb ∧ t.sio.stoHeld = (s.sio.stoHeld || bad) ∧
        t.rd SN_SOFLT_STOA = (if na = 2 then 1 else s.rd SN_SOFLT_STOA) ∧ t.rd SN_SOFLT_STOB = (if nb = 2 then 1 else s.rd SN_SOFLT_STOB) ∧
        t.coll = (if nb = 2 then u.report clSin 0x119 3 12 else u).coll ∧ (bad = true → t.torqueA = false ∧ t.torqueB = false) ∧ OutputsShown t ∧
        FieldsKept ([SN_SOFLT_STOA, SN_SOFLT_STOB] ++ outFields) s t ∧ { t with regs := s.regs, sio := s.sio, coll := s.coll, hwNow := s.hwNow } = s) ∧
    (∀ ok : Bool, ∃ t, exec (.adreqHoldEnd ok) s = .next t ∧ (t.rd SN_OUTST_AD = 1 ↔ t.sio.adAt.isSome = true) ∧
      (s.dev ≠ .safe → s.torqueA = true ∨ s.torqueB = true → t.rd SN_OUTST_AD = 0) ∧ (s.dev = .safe → s.sio.adHeld = false → s.pwr.gatesOff = false → (t.rd SN_OUTST_AD = 1 ↔ s.rd SN_OUTCFG_SAFEAD = 1 ∨ ∃ t0 ∈ s.sio.adAt, s.time < t0 + 1600000)) ∧
      (s.dev ≠ .safe → s.torqueA = false → s.torqueB = false → s.sio.adHeld = false → s.pwr.gatesOff = false →
        (t.rd SN_OUTST_AD = 1 ↔ (∃ f, f < 24 ∧ s.rd (SN_FNCFG_TYPE f) ≠ 0 ∧ s.rd (SN_FNCFG_AD f) = 1 ∧ s.rd (SN_FNST_STATE f) ∈ [1, 4, 7]) ∨ ∃ t0 ∈ s.sio.adAt, s.time < t0 + 1600000)) ∧
      t.rd SN_SOFLT_AD = (if ok then s.rd SN_SOFLT_AD else 1) ∧ t.coll = (if ok then s else s.report clSin 0x11A 2 12).coll ∧
      FieldsKept [SN_SOFLT_AD, SN_OUTST_AD] s t ∧ { t with regs := s.regs, coll := s.coll, hwNow := s.hwNow, sio := { t.sio with adAt := s.sio.adAt } } = s) ∧
    (∀ p0 p1 p2 p3 : BitVec 16, let one := fun k => p0.getLsbD k && p1.getLsbD k && !p2.getLsbD k && !p3.getLsbD k
      let zero := fun k => p0.getLsbD k && !p1.getLsbD k && p2.getLsbD k && !p3.getLsbD k
      let fault := fun k => !one k && !zero k
      let moved := fun k => !fault k && (one k != s.bit SEAL_SW_SW k)
      let news := (List.range 16).filter fun k => fault k && !s.bit SEAL_SWF_FLT k
      (s.up = false → exec (.switchRead p0 p1 p2 p3) s = .next s) ∧
      (s.up = true → ∃ t, exec (.switchRead p0 p1 p2 p3) s = .next t ∧ (∀ k, k < 16 → t.bit SEAL_SWF_FLT k = fault k) ∧
        (let u := news.foldl (fun u k => u.report clCfg (0xE00 + k) 2 12) s
         t.coll = (if (List.range 16).any fun k => moved k && !s.ports.swSeen.testBit k then u.report clCfg 0xE20 1 12 else u).coll) ∧
        (∀ k, k < 16 → t.ports.swSeen.testBit k = moved k) ∧ t.ports.strobeAt = some s.time ∧ FieldsKept [SEAL_SWF_FLT] s t ∧
        { t with regs := s.regs, coll := s.coll, ports := { t.ports with swSeen := s.ports.swSeen, strobeAt := s.ports.strobeAt } } = s)) ∧
    (∀ r : Requester, Accepts s r SEAL_CMD 1 →
      (s.dev ≠ .maint → ∃ t, exec (.sealCheck r) s = .next t ∧ t.coll = (s.report clCfg 0xE21 1 12).coll ∧ { t with coll := s.coll } = s) ∧
      (s.dev = .maint → ∃ t, exec (.sealCheck r) s = .next t ∧ t.rd SEAL_CRC_CRC = s.cfgCrc % 2 ^ 32 ∧ t.rd SEAL_CODE_CODE = s.cfgCrc % 512 ∧
        (t.rd SEAL_STAT_CHKOK = 1 ↔ s.imageReason s.splitRequest false = 0) ∧ FieldsKept [SEAL_STAT_CHKOK, SEAL_CRC_CRC, SEAL_CODE_CODE] s t ∧ { t with regs := s.regs } = s))

/-- R395 to R415: one event is taken. -/
def Obligations.EventsReachTheCollector : Prop :=
  ∀ s : State, (s.coll.queue = [] → s.coll.dropped = [] → exec .faultEvent s = .next s) ∧
    (∀ e : Ev, s.coll.queue = [e] → s.coll.dropped = [] → (∀ x ∈ s.coll.cycle, x.1 ≠ s.time) → e.cls < 12 → e.src < 4096 → e.sev ≤ 4 →
      (e.time = s.time → exec .faultEvent s = .next s) ∧ (e.time ≠ s.time →
      let isOpen := s.coll.opens.any fun o => o.cls == e.cls
      let line := (s.coll.lined.find? (·.1 == e.id)).map Prod.snd
      let esc := line.elim (isOpen && decide (1 ≤ e.sev) && decide (e.sev ≤ 3)) Prod.snd
      let fin := line.elim (if isOpen = true ∧ 1 ≤ e.sev ∧ e.sev ≤ 3 then (if e.sev = 2 ∧ scopeOf e.cls e.src = .device then 4 else e.sev + 1) else e.sev) Prod.fst
      let lost := (s.bucket e.cls e.src).missing
      let token := decide (lost < s.rd (FC_TB_DEPTH e.cls))
      let room := decide ((if 3 ≤ fin then 1 else 16) ≤ 512 - s.coll.ring.length)
      let first := decide (1 ≤ fin) && decide (s.rd FC_FIRST_VALID = 0)
      let q := s.coll.records % 4096
      let i := s.rd FC_LWIDX_INDEX
      let log := (List.range 12).map fun x => FC_LOG_WORD (12 * i + x)
      ∃ t, exec .faultEvent s = .next t ∧ t.coll.dropped = [] ∧ (fin < 3 ∨ line ≠ none → MemoriesKept s t) ∧
        (token = true → room = true →
          log.map t.rd = [e.dev % 4096, e.dev / 2 ^ 12 % 4096, e.dev / 2 ^ 24 % 4096, e.dev / 2 ^ 36 % 4096, (e.cls + 16 * fin + 128 * e.sev) % 4096, e.src, q,
            esc.toNat + 2 * first.toNat] ++ (List.range 4).map (fun x => e.data.getD x 0 % 4096) ∧
          t.rd FC_LWIDX_INDEX = (i + 1) % 512 ∧ t.coll.records = s.coll.records + 1 ∧ t.rd FC_SEQ_VALUE = (s.coll.records + 1) % 4096 ∧
          t.coll.ring = s.coll.ring ++ [fin] ∧ t.coll.unread = min 512 (s.coll.unread + 1) ∧ t.coll.held = min 512 (s.coll.held + 1) ∧
          t.rd FC_LLOST_VALUE = (if s.coll.unread = 512 then min 4095 (s.rd FC_LLOST_VALUE + 1) else s.rd FC_LLOST_VALUE) ∧
          t.rd FC_STAT_MAXSEV = max (s.rd FC_STAT_MAXSEV) fin ∧ (t.bucket e.cls e.src).missing = lost + 1 ∧
          t.coll.opens = s.coll.opens ++ (if fin = 0 then [] else [⟨e.id, e.cls, fin, s.time, some s.coll.records, 0⟩]) ∧
          (first = true → t.rd FC_FIRST_VALID = 1 ∧ t.rd FC_FIRST_CLASS = e.cls ∧ t.rd FC_FIRST_SEV = fin ∧ t.rd FC_FIRST_ESC = esc.toNat ∧ t.rd FC_FIRST_SOURCE = e.src ∧ t.rd FC_FIRST_SEQ = q) ∧
          (first = false → ∀ f ∈ [FC_FIRST_VALID, FC_FIRST_CLASS, FC_FIRST_SEV, FC_FIRST_ESC, FC_FIRST_SOURCE, FC_FIRST_SEQ], t.rd f = s.rd f)) ∧
        (token = false → (∀ a ∈ s.coll.storms, a.cls ≠ e.cls ∨ a.src ≠ e.src) → s.coll.storms.length < 64 →
          t.coll.storms = s.coll.storms ++ [⟨e.cls, e.src, s.time, 1, e.dev, e.dev, fin, esc⟩] ∧ t.coll.records = s.coll.records ∧ t.coll.ring = s.coll.ring ∧
          t.coll.opens = s.coll.opens ++ (if fin = 0 then [] else [⟨e.id, e.cls, fin, s.time, none, e.src⟩])) ∧
        (∀ c : Fin 12, t.rd (FC_OPEN_COUNT c) = min 511 (t.coll.opens.countP fun o => o.cls == c.val)) ∧
        (s.rd FC_CFG_ERRSEV ≤ fin → t.rd FC_ERRN_HWP = 1 ∧ t.coll.errAt = some s.time ∧ (s.dev ≠ .sleep → t.rd FC_ERRN_PIN = 0)) ∧
        (s.rd HIF_CTL_FSEV ≤ fin → t.bit HIF_IPEND_LINES 8 = true) ∧
        (line = none → esc = true → e.sev = 2 → ∀ n : Fin 192, scopeOf e.cls e.src = .chan n → t.rd (CH_SSTAT_LATCH n) = 1 ∧ (s.latched n = false → t.rd (CH_SSTAT_CAUSE n) = 3)) ∧
        (line = none → fin = 4 → s.dev ≠ .safe → SafeEntered s t) ∧
        (fin = 0 → token = true → room = true → 0 < s.rd FC_CFG_ERRSEV → 0 < s.rd HIF_CTL_FSEV → s.rd (FC_ROUTE_EN e.cls) = 0 ∨ 0 < s.rd (FC_ROUTE_MINSEV e.cls) →
          FieldsKept (FC_LWIDX_INDEX :: FC_SEQ_VALUE :: FC_LLOST_VALUE :: log ++ (List.range 12).flatMap fun c => [FC_OPEN_COUNT c, FC_OPEN_MAXSEV c]) s t ∧
          { t with regs := s.regs, coll := s.coll } = s)))

/-- R403 to R420: the collector's writes, storms and health. -/
def Obligations.CollectorWritesStormsAndHealth : Prop :=
  ∀ s : State,
    let emits := fun (t : State) (a : Storm) (rest : List Storm) => t.coll.records = s.coll.records + 1 ∧ t.coll.ring = s.coll.ring ++ [a.sev] ∧ t.coll.storms = s.coll.storms.filter (fun b => !(b.cls == a.cls && b.src == a.src)) ++ rest ∧
      t.rd FC_STORMCNT_VALUE = min 4095 (s.rd FC_STORMCNT_VALUE + 1) ∧ t.rd FC_LWIDX_INDEX = (s.rd FC_LWIDX_INDEX + 1) % 512 ∧
      ((List.range 12).map fun x => t.rd (FC_LOG_WORD (12 * s.rd FC_LWIDX_INDEX + x))) = State.timeWords a.first ++
        [(a.cls + 16 * a.sev + 128 * a.esc.toNat + (if a.src < 4096 then 1024 else 2048)) % 4096, min a.src 4095, s.coll.records % 4096, min 4095 a.count] ++ State.timeWords a.last
    let ringTakes := fun (sev : Nat) => (if 3 ≤ sev then 1 else 16) ≤ 512 - s.coll.ring.length
    (∀ (r : Requester) (c : Fin 16) (all : Bool) (q : Word), Accepts s r FC_ACK (c + 16 * all.toNat + 4096 * q.toNat) →
      (s.fcWriter r = false ∨ 12 ≤ c.val → ∃ t, exec (.acknowledge r c all q) s = .next t ∧ t.coll = (s.report clCfg 0xE30 1 13).coll ∧ { t with coll := s.coll, staged := s.staged } = s) ∧
      (s.fcWriter r = true → c < 12 → (all = true → ∀ a ∈ s.coll.storms, a.cls ≠ c ∨ a.src = 4096) → (∀ g, g < 16 → (s.group g).demandSub = none) →
        let stays := fun (o : OpenEv) => o.cls ≠ c ∨ o.sev = 4 ∨ o.cyc = s.time ∨
          (all = false ∧ ∀ i ∈ o.rec', ∀ j ∈ s.recordOfSeq q.toNat, j < i) ∨ (all = false ∧ (o.rec' = none ∨ s.recordOfSeq q.toNat = none))
        ∃ t, exec (.acknowledge r c all q) s = .next t ∧ (∀ o, o ∈ t.coll.opens ↔ o ∈ s.coll.opens ∧ stays o) ∧
          (∀ k : Fin 12, t.rd (FC_OPEN_COUNT k) = min 511 (t.coll.opens.countP fun o => o.cls == k.val)) ∧ { t.coll with opens := s.coll.opens, cycle := s.coll.cycle } = s.coll ∧
          FieldsKept ((List.range 12).flatMap fun k => [FC_OPEN_COUNT k, FC_OPEN_MAXSEV k]) s t ∧ { t with regs := s.regs, coll := s.coll, staged := s.staged } = s)) ∧
    (∀ r : Requester,
      (Accepts s r FC_FCLR 1 →
        (s.fcWriter r = false → ∃ t, exec (.firstFaultClear r) s = .next t ∧ t.coll = (s.report clCfg 0xE30 1 13).coll ∧ { t with coll := s.coll } = s) ∧
        (s.fcWriter r = true → let l := [FC_FIRST_CLASS, FC_FIRST_SEV, FC_FIRST_VALID, FC_FIRST_ESC, FC_FIRST_SOURCE, FC_FIRST_SEQ, FC_STAT_MAXSEV]
          ∃ t, exec (.firstFaultClear r) s = .next t ∧ (∀ f ∈ l, t.rd f = 0) ∧ FieldsKept l s t ∧ { t with regs := s.regs } = s)) ∧
      (∀ b : Bool, AcceptsField s r FC_ERRN FC_ERRN_FWLOW b.toNat →
        (s.fcWriter r = false → ∃ t, exec (.errnWrite r b) s = .next t ∧ t.coll = (s.report clCfg 0xE30 1 13).coll ∧ { t with coll := s.coll } = s) ∧
        (s.fcWriter r = true → ∃ t, exec (.errnWrite r b) s = .next t ∧ t.rd FC_ERRN_FWLOW = b.toNat ∧
          t.rd FC_ERRN_PIN = (if s.dev = .safe ∨ s.rd FC_ERRN_HWP = 1 ∨ b = true then 0 else 1) ∧ FieldsKept [FC_ERRN_FWLOW, FC_ERRN_PIN] s t ∧ { t with regs := s.regs } = s)) ∧
      (Accepts s r FC_SOK 1 →
        (s.fcWriter r = false → ∃ t, exec (.safeOkKick r) s = .next t ∧ t.coll = (s.report clCfg 0xE30 1 13).coll ∧ { t with coll := s.coll } = s) ∧
        (s.fcWriter r = true → ∃ t, exec (.safeOkKick r) s = .next t ∧ t.coll = { s.coll with kickAt := s.time } ∧ { t with coll := s.coll } = s)) ∧
      (∀ (c : Fin 16) (src : Word), Accepts s r FC_RETRY (c + 4096 * src.toNat) →
        (s.fcWriter r = false → ∃ t, exec (.retry r c src) s = .next t ∧ t.coll = (s.report clCfg 0xE30 1 13).coll ∧ { t with coll := s.coll, staged := s.staged } = s) ∧
        (s.fcWriter r = true → ∃ t, exec (.retry r c src) s = .next t ∧ t.rd (FC_RUNG_COUNT 0) = min 4095 (s.rd (FC_RUNG_COUNT 0) + 1) ∧
          t.coll = (s.report clFc 0x021 0 13).coll ∧ FieldsKept [FC_RUNG_COUNT 0] s t ∧ { t with regs := s.regs, coll := s.coll, staged := s.staged } = s))) ∧
    (∀ (c : Fin 12) (src : Word), let b := s.bucket c src.toNat
      let period := 16000 * s.rd (FC_TB_REFILL c)
      (b.missing = 0 ∨ s.time < b.since + period → exec (.tokenRefill c src) s = .next s) ∧
      (b.missing ≠ 0 → b.since + period ≤ s.time →
        (s.acc c src.toNat = none → ∃ t, exec (.tokenRefill c src) s = .next t ∧ (t.bucket c src.toNat).missing = b.missing - 1 ∧
          (1 < b.missing → (t.bucket c src.toNat).since = b.since + period) ∧ (∀ k x, 4096 * k + x ≠ 4096 * c + src.toNat → t.bucket k x = s.bucket k x) ∧
          { t with coll := { t.coll with buckets := s.coll.buckets } } = s) ∧
        (∀ a, s.acc c src.toNat = some a → a.src < 4096 → ringTakes a.sev → ∃ t, exec (.tokenRefill c src) s = .next t ∧ emits t a [] ∧ t.bucket c src.toNat = ⟨b.missing, b.since + period⟩))) ∧
    (∀ c : Fin 12, (s.acc c 4096 = none → exec (.classStormEmit c) s = .next s) ∧
      (∀ a, s.acc c 4096 = some a → let due := a.since + 16000 * s.rd (FC_TB_REFILL c) ≤ s.time
        (¬due → exec (.classStormEmit c) s = .next s) ∧
        (due → ringTakes a.sev → a.count ≤ 4095 → ∃ t, exec (.classStormEmit c) s = .next t ∧ emits t a []) ∧
        (due → ringTakes a.sev → 4095 < a.count → ∃ t, exec (.classStormEmit c) s = .next t ∧ emits t a [{ a with count := a.count - 4095, since := s.time }]) ∧
        (due → ¬ringTakes a.sev → ∃ t, exec (.classStormEmit c) s = .next t ∧ t.acc c 4096 = some { a with since := s.time } ∧
          { t with coll := { t.coll with storms := s.coll.storms } } = s))) ∧
    (let past := s.rd FC_ERRN_HWP = 1 ∧ ∀ t0 ∈ s.coll.errAt, t0 + 320 ≤ s.time
     (¬past → exec .errNPulseEnd s = .next s) ∧
     (past → ∃ t, exec .errNPulseEnd s = .next t ∧ t.rd FC_ERRN_HWP = 0 ∧ (s.dev ≠ .sleep → t.rd FC_ERRN_PIN = if s.dev = .safe ∨ s.rd FC_ERRN_FWLOW = 1 then 0 else 1) ∧
       FieldsKept [FC_ERRN_HWP, FC_ERRN_PIN] s t ∧ { t with regs := s.regs } = s)) ∧
    (let kicked := s.rd FC_CFG_SOKFW = 0 ∨ s.dev ≠ .run ∨ s.time ≤ s.coll.kickAt + 1600000
     let healthy := (s.dev = .watch ∨ s.dev = .run) ∧ s.rd FC_STAT_SELFOK = 1 ∧ (∀ o ∈ s.coll.opens, o.sev < 3) ∧ kicked
     (s.time % 8000 ≠ 0 ∨ s.coll.sokAt = some s.time ∨ ¬healthy → exec .safeOkToggle s = .next s) ∧
     (s.time % 8000 = 0 → s.coll.sokAt ≠ some s.time → healthy → ∃ t, exec .safeOkToggle s = .next t ∧ t.rd FC_SOK_LEVEL = 1 - s.rd FC_SOK_LEVEL ∧ t.coll = { s.coll with sokAt := some s.time } ∧ FieldsKept [FC_SOK_LEVEL] s t ∧ { t with regs := s.regs, coll := s.coll } = s) ∧
     (kicked ∨ s.coll.missFor = some s.coll.kickAt → exec .kickMissed s = .next s) ∧
     (¬kicked → s.coll.missFor ≠ some s.coll.kickAt → ∃ t, exec .kickMissed s = .next t ∧ t.rd FC_SOK_KMISS = 1 ∧
       t.coll = { (s.report clFc 0x040 2 13).coll with missFor := some s.coll.kickAt } ∧ FieldsKept [FC_SOK_KMISS] s t ∧ { t with regs := s.regs, coll := s.coll, hwNow := s.hwNow } = s)) ∧
    (∃ t, exec (.collectorSelfCheckFail 2) s = .next t ∧ t.coll = (s.report clFc 0x002 0 13).coll ∧ { t with coll := s.coll } = s) ∧
    (∀ src : Fin 3, src ≠ 2 → ∃ t, exec (.collectorSelfCheckFail src) s = .next t ∧ t.rd FC_STAT_SELFOK = 0 ∧ t.dev = .safe ∧ (s.dev ≠ .safe → SafeEntered s t) ∧
      (∃ o ∈ t.coll.opens, o.cls = clFc ∧ o.sev = 4) ∧ (ringTakes 4 → t.coll.records = s.coll.records + 1 ∧ t.rd (FC_LOG_WORD (12 * s.rd FC_LWIDX_INDEX + 5)) = src))

/-- R423, R425, R427, R433, R434, R436: the checks of a received frame. -/
def Obligations.FramesAreCheckedInOrder : Prop :=
  (∀ (s : State) (tr : Fin 8) (v : BitVec 128) (b : List Byte) (agree : Bool),
    let via := v.toNat % 2 ^ 96
    let l := unpackWords b
    let id := frameId l
    let c := s.connOf tr via id
    let hears := s.trHears tr = true ∧ s.trTakes tr v.toNat = true ∧
      (4 ≤ tr.val → tr.val < 6 → bits v.toNat 0 16 = s.rd KSF_UDPPORT_PORT ∧ bits v.toNat 96 16 = s.rd KSF_UDPPORT_PORT ∧ bits v.toNat 112 3 = 0)
    let e := if frameKind l = 3 then s.classEntry tr via id else c.map s.connEntry
    let known := id ≠ 0 ∧ id ≠ 0xFFFFFFFF ∧ e.isSome = true
    let dropped := fun (u t : State) (c : Option Nat) (r : Nat) =>
      (c = none → t.coll = (u.report clLink 0x0E0 0 13 [r]).coll ∧ { t with coll := u.coll } = u) ∧
      (∀ c', c = some c' → let c := c'
        let checks := (s.time :: (s.conn c).checks).filter fun t => decide (s.time ≤ t + 16000000)
        let lost := r = 4 ∧ 4 ≤ checks.length ∧ (s.openConn c = true ∨ s.rd (KSF_CONN_STATE c) = 1)
        let w := u.report clLink (0x080 + c) 0 13 [r]
        t.coll = (if lost then w.report clLink (0x040 + c) 1 13 else w).coll ∧
        t.rd (KSF_CONN_SEQD c) = (if r = 7 ∨ r = 8 then min 4095 (s.rd (KSF_CONN_SEQD c) + 1) else s.rd (KSF_CONN_SEQD c)) ∧
        t.rd (KSF_CONN_CHKD c) = (if r = 4 then min 4095 (s.rd (KSF_CONN_CHKD c) + 1) else s.rd (KSF_CONN_CHKD c)) ∧
        t.conn c = (if r = 4 then { s.conn c with checks := checks } else s.conn c) ∧ ElseSame t.conn s.conn c ∧
        (¬lost → FieldsKept [KSF_CONN_SEQD c, KSF_CONN_CHKD c] u t) ∧
        (lost → t.rd (KSF_CONN_STATE c) = 3 ∧ (∀ k, k < 64 → t.rd (KSF_SLOT_VALID k) = if s.rd (KSF_SLOT_CONN k) = c then 0 else s.rd (KSF_SLOT_VALID k)) ∧
          FieldsKept ([KSF_CONN_STATE c, KSF_CONN_CHKD c, KSF_STAT_NOPEN] ++ (List.range 64).map KSF_SLOT_VALID) u t) ∧
        { t with regs := u.regs, coll := u.coll, conns := u.conns } = u)
    let row := fun (o : Host.Outcome State Fault Refusal) (k : Nat) =>
      (¬hears → o = .next s) ∧
      (6 < l.length → frameKind l ≠ k → frameKind l ∈ [1, 2, 3, 4, 5, 6, 8] → o = .next s) ∧
      (hears → frameKind l = k ∨ l.length ≤ 6 ∨ ¬frameKind l ∈ [1, 2, 3, 4, 5, 6, 8] →
        (frameFormat tr b = false → ∃ t, o = .next t ∧ dropped s t (if 3 ≤ l.length then c else none) 2) ∧
        (frameFormat tr b = true → ¬known → ∃ t, o = .next t ∧ dropped s t none 3) ∧
        (frameFormat tr b = true → known → agree = false → ∃ t, o = .next t ∧ t.rd KSF_STAT_CHKDIS = 1 ∧ dropped ((s.raiseFlag KSF_STAT_CHKDIS).report clLink 0x0E2 2 13) t c 4) ∧
        (frameFormat tr b = true → known → agree = true → frameCheck l = false → ∃ t, o = .next t ∧ dropped s t c 4) ∧
        (∀ e', e = some e' → frameFormat tr b = true → id ≠ 0 → id ≠ 0xFFFFFFFF → agree = true → frameCheck l = true →
          (let length := frameKind l = 1 ∧ s.rd (KSF_ALLOW_BCAST e') = 1 ∧ tsyncLen l = false
           s.paramOk e' l = false → (¬length → ∃ t, o = .next t ∧ dropped s t c 5) ∧
            (length → ∃ t, o = .next t ∧ t.coll = ((s.report clLink (c.elim 0x0E0 fun c => 0x080 + c) 0 13 [5]).report clLink 0xC43 1 13).coll ∧ { t with coll := s.coll } = s)) ∧
          (s.paramOk e' l = true → s.kindOk c e' (frameKind l) = false → ∃ t, o = .next t ∧ dropped s t c 6) ∧
          (∀ c', c = some c' → s.paramOk e' l = true → s.kindOk c e' (frameKind l) = true → s.openConn c' = true → (s.conn c').fresh = false → frameKind l ≠ 3 →
            let d := (frameSeq l + 65536 - s.rd (KSF_CONN_RXSEQ c')) % 65536
            (d = 0 → ∃ t, o = .next t ∧ dropped s t c 7) ∧ (16 < d → ∃ t, o = .next t ∧ dropped s t c 8))))
    row (exec (.data tr v b agree) s) 2 ∧ row (exec (.join tr v b agree) s) 3 ∧ row (exec (.accept tr v b agree) s) 4 ∧ row (exec (.refuse tr v b agree) s) 5 ∧
    row (exec (.leave tr v b agree) s) 6 ∧ row (exec (.still tr v b agree) s) 8 ∧ row (exec (.tsync tr v b agree) s) 1) ∧
  (∀ (id seq texp : Nat) (p : List Word), id < 2 ^ 32 → seq < 2 ^ 16 → texp < 4096 → p.length ≤ 40 →
    let l := (ksfFrame id seq texp (p.map BitVec.toNat)).map (BitVec.ofNat 12)
    let b := (packWords (l.map BitVec.toNat)).map (BitVec.ofNat 8)
    unpackWords b = l ∧ b.length = frameBytes p.length ∧ frameCheck l = true ∧ frameId l = id ∧ frameSeq l = seq ∧ framePayload l = p ∧ l.length = p.length + 9)

/-- R434 to R443: the effect of an accepted frame. -/
def Obligations.AcceptedFramesTakeEffect : Prop :=
  ∀ (s : State) (tr : Fin 8) (v : BitVec 128) (b : List Byte),
    let via := v.toNat % 2 ^ 96
    let l := unpackWords b
    let id := frameId l
    let p := framePayload l
    let q := frameSeq l
    let w := frameWord p
    let fine := fun (k : Nat) => s.trHears tr = true ∧ s.trTakes tr v.toNat = true ∧ frameFormat tr b = true ∧ id ≠ 0 ∧ id ≠ 0xFFFFFFFF ∧ frameCheck l = true ∧ frameKind l = k
    let rx := fun (c : Nat) => [KSF_CONN_RXSEQ c, KSF_CONN_LOSTF c, KSF_RXTIME_TIME c, KSF_RXCNT_COUNT c] ++ (List.range 40).map (KSF_RX_P c)
    let stands := fun (t : State) (c : Nat) => t.rd (KSF_CONN_RXSEQ c) = q ∧ (∀ i, i < 40 → t.rd (KSF_RX_P c i) = w i) ∧ t.rd (KSF_RXTIME_TIME c) = s.devTime % 2 ^ 48 ∧
      t.rd (KSF_RXCNT_COUNT c) = (s.rd (KSF_RXCNT_COUNT c) + 1) % 4096 ∧ (t.conn c).heardAt = s.time ∧ (t.conn c).fresh = false ∧ ElseSame t.conn s.conn c
    let dropped := fun (t : State) (c : Nat) => t.rd (KSF_CONN_STATE c) = 0 ∧ ∀ k, k < 64 → t.rd (KSF_SLOT_VALID k) = if s.rd (KSF_SLOT_CONN k) = c then 0 else s.rd (KSF_SLOT_VALID k)
    let opened := fun (t : State) (c e init tx : Nat) => t.rd (KSF_CONN_STATE c) = 2 ∧ t.rd (KSF_CONN_ENTRY c) = e ∧ t.rd (KSF_CONN_INIT c) = init ∧ t.rd (KSF_CONN_ID c) = id ∧
      t.rd (KSF_CONN_TXSEQ c) = tx ∧ t.rd (KSF_CONN_LOSTF c) = 0 ∧ t.rd (KSF_CONN_SEQD c) = 0 ∧ t.rd (KSF_CONN_CHKD c) = 0 ∧ (t.conn c).heardAt = s.time ∧ (t.conn c).tr = s.rd (KSF_ALLOW_TR e) ∧ (t.conn c).peer = some via ∧
      t.pair = (if s.rd (KSF_ALLOW_PARTNER e) = 1 then { s.pair with ident := some (min (s.rd KSF_OWNID_ID) id) } else s.pair)
    let connFields := fun (c : Nat) => [KSF_CONN_STATE c, KSF_CONN_ENTRY c, KSF_CONN_INIT c, KSF_CONN_ID c, KSF_CONN_TXSEQ c, KSF_CONN_LOSTF c, KSF_CONN_SEQD c, KSF_CONN_CHKD c, KSF_STAT_NOPEN]
    (∀ c, s.connOf tr via id = some c → let e := s.connEntry c
      let d := (q + 65536 - s.rd (KSF_CONN_RXSEQ c)) % 65536
      let next := (s.conn c).fresh = true ∨ (1 ≤ d ∧ d ≤ 16)
      let lost := if (s.conn c).fresh = true then s.rd (KSF_CONN_LOSTF c) else min 4095 (s.rd (KSF_CONN_LOSTF c) + d - 1)
      let comes := fun (k : Nat) => fine k ∧ s.paramOk e l = true ∧ s.kindOk (some c) e k = true ∧ s.rd (KSF_ALLOW_ITEN e) = 0
      (s.openConn c = true → next →
        (comes 2 → s.rd (KSF_ALLOW_PARTNER e) = 1 → s.paired = true → s.rd MIR_STAT_LINK = 0 → s.pair.solo = true → ∃ t, exec (.data tr v b true) s = .next t ∧ stands t c ∧ t.rd MIR_STAT_PSOLO = w 1 % 2) ∧
        (comes 2 → s.rd (KSF_ALLOW_PARTNER e) = 0 ∨ s.paired = false ∨ s.rd MIR_STAT_LINK = 1 ∨ s.pair.solo = false → ∃ t, exec (.data tr v b true) s = .next t ∧ stands t c ∧ t.rd (KSF_CONN_LOSTF c) = lost ∧
          (∀ i, i < s.rd (KSF_ALLOW_NSLOT e) → s.rd (KSF_ALLOW_SLOTBASE e) + i < 64 → let k := s.rd (KSF_ALLOW_SLOTBASE e) + i
            t.rd (KSF_SLOT_VAL k) = w 1 / 4 ^ i % 4 ∧ t.rd (KSF_SLOT_VALID k) = 1 ∧ t.rd (KSF_SLOT_CONN k) = c) ∧
          (∀ i : Fin 64, let k := s.rd (SN_IPCFG_KSLOT (i / 2))
            let x := s.inp i
            let now := s.closedAs i ((w 1 / 4 ^ (k - s.rd (KSF_ALLOW_SLOTBASE e))).testBit (i % 2))
            t.inp i = if 32 ≤ i.val ∧ s.rd (SN_IPCFG_TYPE (i / 2)) ≠ 0 ∧ s.rd (KSF_ALLOW_SLOTBASE e) ≤ k ∧ k < s.rd (KSF_ALLOW_SLOTBASE e) + s.rd (KSF_ALLOW_NSLOT e) then
              (if now = x.closed then { x with run := 0 } else if s.filtLen i x.closed ≤ x.run + 1 then { x with run := 0, closed := now } else { x with run := x.run + 1 }) else x) ∧
          FieldsKept (rx c ++ (List.range (s.rd (KSF_ALLOW_NSLOT e))).flatMap fun i => let k := s.rd (KSF_ALLOW_SLOTBASE e) + i
            [KSF_SLOT_VAL k, KSF_SLOT_VALID k, KSF_SLOT_CONN k]) s t ∧ { t with regs := s.regs, conns := s.conns, inps := s.inps } = s) ∧
        (comes 6 → ∃ t, exec (.leave tr v b true) s = .next t ∧ stands t c ∧ dropped t c ∧
          FieldsKept ([KSF_CONN_STATE c, KSF_STAT_NOPEN] ++ rx c ++ (List.range 64).map KSF_SLOT_VALID) s t ∧ { t with regs := s.regs, conns := s.conns } = s) ∧
        (comes 8 → ∃ t, exec (.still tr v b true) s = .next t ∧ stands t c ∧
          (w 1 % 2 = 1 → (∀ f : Fin 24, t.rd (SN_FNST_STATE f) = if s.rd (SN_FNST_STATE f) = 4 then 1 else s.rd (SN_FNST_STATE f)) ∧ OutputsShown t ∧
            ((∀ f : Fin 24, s.rd (SN_FNST_STATE f) = 4 → s.rd (SN_FNCFG_DAEN f) = 0) → FieldsKept (rx c ++ (List.range 24).map SN_FNST_STATE ++ outFields) s t ∧ { t with regs := s.regs, conns := s.conns, sio := s.sio } = s)) ∧
          (w 1 % 2 = 0 → FieldsKept (rx c) s t ∧ { t with regs := s.regs, conns := s.conns } = s)) ∧
        (comes 1 → let tag := w 1 + 4096 * (w 2 + 4096 * (w 3 + 4096 * w 4))
          let reqs := (p.drop 6).map fun x => (x.toNat % 16, x.toNat / 16)
          let valid := w 5 ≤ 16 ∧ ∀ x ∈ p.drop 6, x.toNat < 1024
          (valid → s.devTime ≤ tag → tag ≤ s.devTime + 16000000 → s.bcast.tagged.length < 8 → ∃ t, exec (.tsync tr v b true) s = .next t ∧ stands t c ∧
            t.bcast = { s.bcast with tagged := s.bcast.tagged ++ [{ tag := tag, reqs := reqs }] } ∧ t.rd SN_TSPEND_COUNT = s.bcast.tagged.length + 1 ∧
            FieldsKept (SN_TSPEND_COUNT :: rx c) s t ∧ { t with regs := s.regs, conns := s.conns, bcast := s.bcast } = s) ∧
          (¬valid ∨ tag + 16000 < s.devTime ∨ s.devTime + 16000000 < tag ∨ (s.devTime ≤ tag ∧ 8 ≤ s.bcast.tagged.length) → ∃ t, exec (.tsync tr v b true) s = .next t ∧ stands t c ∧
            t.coll = (s.report clLink 0xC43 1 13).coll ∧ FieldsKept (rx c) s t ∧ { t with regs := s.regs, conns := s.conns, coll := s.coll } = s) ∧
          (valid → tag < s.devTime → s.devTime ≤ tag + 16000 → ∃ t, exec (.tsync tr v b true) s = .next t ∧ stands t c ∧ (reqs = [] → t.coll = (s.report clLink 0xC42 1 13).coll ∧ FieldsKept (rx c) s t) ∧ t.bcast.tagged = s.bcast.tagged ∧
            t.bcast.syncDue = s.bcast.syncDue ++ [25 * s.time + 1]))) ∧
      (s.rd (KSF_CONN_STATE c) = 1 →
        (comes 4 → ∃ t, exec (.accept tr v b true) s = .next t ∧ opened t c e 1 1 ∧ stands t c ∧ FieldsKept (connFields c ++ rx c) s t ∧ { t with regs := s.regs, conns := s.conns, pair := s.pair } = s) ∧
        (comes 5 → ∃ t, exec (.refuse tr v b true) s = .next t ∧ t.conn c = { s.conn c with joinAt := some s.time } ∧ ElseSame t.conn s.conn c ∧ { t with conns := s.conns } = s)) ∧
      (s.openConn c = true → next → fine 2 → s.paramOk e l = true → s.kindOk (some c) e 2 = true → s.rd (KSF_ALLOW_ITEN e) = 1 → let q := s.coreOf (s.rd (KSF_ALLOW_ITENG e)) (s.rd (KSF_ALLOW_ITCORE e))
        ∃ t, exec (.data tr v b true) s = .next t ∧ stands t c ∧ (s.noCore q = false → t.bit (PWR_IPEND_LINES q) 6 = true))) ∧
    (∀ e, s.classEntry tr via id = some e → fine 3 → s.paramOk e l = true →
      (∀ c, c < 64 → (s.openConn c = true → s.rd (KSF_CONN_ID c) ≠ id ∨ (s.conn c).tr ≠ tr) ∧ (s.rd (KSF_CONN_STATE c) = 1 → s.rd (KSF_CONN_INIT c) = 0 ∨ s.connEntry c ≠ e)) →
      let active := s.dev = .run ∨ s.dev = .maint ∨ s.dev = .safe ∨ (s.dev = .watch ∧ s.rd (KSF_ALLOW_WKEEP e) = 1)
      let mine := (List.range 64).countP fun c => s.openConn c && decide (s.connEntry c = e)
      let used := (List.range 64).countP fun c => s.openConn c || decide (s.rd (KSF_CONN_STATE c) = 1)
      let room := mine < s.entryMax e ∧ used < 64
      let other := ∃ c, c < 64 ∧ s.openConn c = true ∧ s.rd (KSF_CONN_ID c) = id ∧ (s.conn c).tr ≠ tr
      let words := fun (pl : List Nat) => ksfFrame (s.rd KSF_OWNID_ID) 0 (s.rd (KSF_ALLOW_TEXP e)) (padTo (s.rd (KSF_ALLOW_LEN e)) pl)
      let answer := fun (t : State) (pl : List Nat) => let b := packWords (words pl)
        let eth := 4 ≤ tr.val ∧ tr.val < 6
        t.sent = (if s.trUp tr = true ∧ s.checkersAgree (words pl) = true then [⟨tr, s.linkAddr e (some via), if eth then some (s.rd KSF_UDPPORT_PORT) else none,
            if eth ∧ s.rd (KSF_ETH_VEN (tr - 4)) = 1 then some (s.rd (KSF_ETH_PCP (tr - 4)), s.rd (KSF_ETH_VID (tr - 4))) else none,
            if tr.val < 4 then padField b else b⟩] else []) ++ s.sent
      let withheld := fun (pl : List Nat) => s.trUp tr = true ∧ s.checkersAgree (words pl) = false
      let noted := fun (pl : List Nat) => if withheld pl then s.report clLink 0x0E2 2 13 else s
      let shown := fun (t : State) (pl : List Nat) => t.rd KSF_STAT_CHKDIS = if withheld pl then 1 else s.rd KSF_STAT_CHKDIS
      let code := if ¬active then 1 else if ¬room then 2 else 3
      (active → room → ¬other → ∃ t, exec (.join tr v b true) s = .next t ∧ ∀ c, s.freeConn id = some c → s.openConn c = false ∧ opened t c e 0 1 ∧ answer t [4] ∧ shown t [4] ∧ t.coll = (noted [4]).coll ∧ ElseSame t.conn s.conn c ∧
        FieldsKept (KSF_STAT_CHKDIS :: connFields c) s t ∧ { t with regs := s.regs, hwNow := s.hwNow, conns := s.conns, sent := s.sent, pair := s.pair, coll := s.coll } = s) ∧
      (¬active ∨ ¬room ∨ other → ∃ t, exec (.join tr v b true) s = .next t ∧ answer t [5, code] ∧ shown t [5, code] ∧ FieldsKept [KSF_STAT_CHKDIS] s t ∧ { t with regs := s.regs, hwNow := s.hwNow, sent := s.sent, coll := s.coll } = s ∧
        t.coll = (let u := (noted [5, code]).report clLink (0x0C0 + e) 1 13
          if code = 2 ∧ 64 ≤ used then u.report clLink 0x0E1 1 13 else u).coll))

/-- R429 to R431, R435, R437 to R448: connections, transports, time sources. -/
def Obligations.ConnectionsAndTimeSources : Prop :=
  ∀ s : State,
    let leaves := fun (t : State) (e : Nat) (peer : Option Nat) (seq : Nat) (pl : List Nat) =>
      let tr := s.rd (KSF_ALLOW_TR e)
      let words := ksfFrame (s.rd KSF_OWNID_ID) seq (s.rd (KSF_ALLOW_TEXP e)) pl
      let b := packWords words
      let dest := if tr < 4 then some ((s.rd (KSF_ALLOW_CANID e) + 1) % 2 ^ 29) else if tr < 6 then peer else none
      let eth := 4 ≤ tr ∧ tr < 6
      let tag := if eth ∧ s.rd (KSF_ETH_VEN (tr - 4)) = 1 then some (s.rd (KSF_ETH_PCP (tr - 4)), s.rd (KSF_ETH_VID (tr - 4))) else none
      let withheld := s.trUp tr = true ∧ s.checkersAgree words = false
      t.sent = (if s.trUp tr = true ∧ s.checkersAgree words = true then [Sent.mk tr dest (if eth then some (s.rd KSF_UDPPORT_PORT) else none) tag (if tr < 4 then padField b else b)] else []) ++ s.sent ∧
      t.rd KSF_STAT_CHKDIS = (if withheld then 1 else s.rd KSF_STAT_CHKDIS) ∧ t.coll = (if withheld then s.report clLink 0x0E2 2 13 else s).coll
    (∀ c : Fin 64, let e := s.connEntry c
      let sends := fun (t : State) (pl : List Nat) => t.rd (KSF_CONN_TXSEQ c) = (s.rd (KSF_CONN_TXSEQ c) + 1) % 65536 ∧
        leaves t e (s.conn c).peer (s.rd (KSF_CONN_TXSEQ c)) pl
      let kind := fun (t : State) (pl : List Nat) => sends t (padTo (s.rd (KSF_ALLOW_LEN e)) pl)
      let body := if s.rd (KSF_ALLOW_PARTNER e) = 1 then [2, s.pair.solo.toNat, s.rd MIR_EPOCH_EPOCH] ++ (s.conn c).payload.drop 1 else [2, 0] ++ (s.conn c).payload
      let closed := fun (t : State) (st : Nat) => t.rd (KSF_CONN_STATE c) = st ∧ (∀ k, k < 64 → t.rd (KSF_SLOT_VALID k) = if s.rd (KSF_SLOT_CONN k) = c then 0 else s.rd (KSF_SLOT_VALID k)) ∧
        t.rd KSF_STAT_NOPEN = (List.range 64).countP fun x => decide (x ≠ c.val) && s.openConn x
      let closeFields := [KSF_CONN_STATE c, KSF_STAT_NOPEN] ++ (List.range 64).map KSF_SLOT_VALID
      let watch := s.openConn c = true ∧ s.consumes e = true ∧ (s.conn c).heardAt + 16000 * s.rd (KSF_ALLOW_TEXP e) ≤ s.time
      let due := s.openConn c = true ∧ s.produces e = true ∧ (s.conn c).sentAt + 16000 * min (s.rd (KSF_ALLOW_TXPER e)) (s.rd (KSF_ALLOW_TEXP e) / 2) ≤ s.time
      (¬watch → exec (.connectionWatchdog c) s = .next s) ∧
      (watch → ∃ t, exec (.connectionWatchdog c) s = .next t ∧ closed t 3 ∧ t.coll = (s.report clLink c 1 13).coll ∧ FieldsKept closeFields s t ∧ { t with regs := s.regs, coll := s.coll } = s) ∧
      (¬due → exec (.dataSend c) s = .next s) ∧
      (due → ∃ t, exec (.dataSend c) s = .next t ∧ kind t body ∧ t.conn c = { s.conn c with sentAt := s.time } ∧ ElseSame t.conn s.conn c ∧ FieldsKept [KSF_CONN_TXSEQ c, KSF_STAT_CHKDIS] s t ∧
        { t with regs := s.regs, hwNow := s.hwNow, conns := s.conns, sent := s.sent, coll := s.coll } = s) ∧
      (∀ r : Requester,
        (Accepts s r (KSF_TXCMD c) 1 → ∃ t, exec (.txCommit r c) s = .next t ∧ t.conn c = { s.conn c with payload := (List.range 38).map fun i => s.rd (KSF_TX_P c i) } ∧
          ElseSame t.conn s.conn c ∧ { t with conns := s.conns } = s) ∧
        (Accepts s r (KSF_TXCMD c) 2 →
          (s.openConn c = false ∨ s.produces e = false → exec (.txSend r c) s = .next s) ∧
          (s.openConn c = true → s.produces e = true → ∃ t, exec (.txSend r c) s = .next t ∧ kind t body ∧
            FieldsKept [KSF_CONN_TXSEQ c, KSF_STAT_CHKDIS] s t ∧ { t with regs := s.regs, hwNow := s.hwNow, sent := s.sent, coll := s.coll } = s)) ∧
        (Accepts s r KSF_TSSEND (c + 64) → let m := s.rd KSF_TSM_M
          let may := s.svMode r = true ∧ s.openConn c = true ∧ s.produces e = true ∧ m ≤ 16 ∧ 6 + m ≤ s.rd (KSF_ALLOW_LEN e)
          (¬may → ∃ t, exec (.tsyncSend r c) s = .next t ∧ t.coll = (s.report clLink 0x0E3 1 13).coll ∧ { t with coll := s.coll } = s) ∧
          (may → ∃ t, exec (.tsyncSend r c) s = .next t ∧ sends t ([1] ++ State.timeWords (s.rd KSF_TSTAG_TAG) ++ [m] ++
            (List.range m).map fun j => s.rd (KSF_TSREQ_GROUP j) + 16 * s.rd (KSF_TSREQ_ASPECT j)) ∧
            FieldsKept [KSF_CONN_TXSEQ c, KSF_STAT_CHKDIS] s t ∧ { t with regs := s.regs, hwNow := s.hwNow, sent := s.sent, coll := s.coll } = s)) ∧
        (Accepts s r KSF_CLOSE (c + 64) →
          (s.openConn c = true → ∃ t, exec (.closeCommand r c) s = .next t ∧ closed t 0 ∧ kind t [6] ∧
            FieldsKept (KSF_CONN_TXSEQ c :: KSF_STAT_CHKDIS :: closeFields) s t ∧ { t with regs := s.regs, hwNow := s.hwNow, sent := s.sent, coll := s.coll } = s) ∧
          (s.openConn c = false → ∃ t, exec (.closeCommand r c) s = .next t ∧ closed t 0 ∧ FieldsKept closeFields s t ∧ { t with regs := s.regs } = s)))) ∧
    (∀ e : Fin 32, let mine := fun c => decide (s.rd (KSF_CONN_STATE c) ≠ 0) && decide (s.rd (KSF_CONN_INIT c) = 1) && decide (s.connEntry c = e)
      let on := s.entryOn e = true ∧ s.rd (KSF_ALLOW_INIT e) = 1
      let asked := fun (t : State) (c : Nat) => t.rd (KSF_CONN_STATE c) = 1 ∧ t.rd (KSF_CONN_ENTRY c) = e ∧ t.rd (KSF_CONN_INIT c) = 1 ∧
        t.conn c = { s.conn c with tr := s.rd (KSF_ALLOW_TR e), joinAt := some s.time } ∧ ElseSame t.conn s.conn c ∧
        leaves t e (s.conn c).peer 0 (padTo (s.rd (KSF_ALLOW_LEN e)) [3]) ∧
        FieldsKept [KSF_CONN_STATE c, KSF_CONN_ENTRY c, KSF_CONN_INIT c, KSF_STAT_CHKDIS] s t ∧
        { t with regs := s.regs, hwNow := s.hwNow, conns := s.conns, sent := s.sent, coll := s.coll } = s
      let opened := ∃ c, c < 64 ∧ s.openConn c = true ∧ s.connEntry c = e
      let active := s.dev ≠ .sleep ∧ (s.dev = .watch → s.rd (KSF_ALLOW_WKEEP e) = 1)
      (¬on ∨ opened ∨ ¬active → exec (.joinRetry e) s = .next s) ∧
      (on → opened → ∀ r : Requester, Accepts s r KSF_OPEN (e + 32) → exec (.openCommand r e) s = .next s) ∧
      (on → ¬opened → ∀ c, (List.range 64).find? mine = some c →
        (active → ((s.conn c).joinAt.all fun t => decide (t + 1600000 ≤ s.time) || decide (t < s.runAt)) = true → ∃ t, exec (.joinRetry e) s = .next t ∧ asked t c) ∧
        (((s.conn c).joinAt.any fun t => decide (s.time < t + 1600000) && decide (s.runAt ≤ t)) = true → exec (.joinRetry e) s = .next s) ∧
        (∀ r : Requester, Accepts s r KSF_OPEN (e + 32) → ∃ t, exec (.openCommand r e) s = .next t ∧ asked t c)) ∧
      (on → ¬opened → (List.range 64).find? mine = none → ∀ c, (List.range 64).find? (fun c => decide (s.rd (KSF_CONN_STATE c) = 0)) = some c →
        (active → ∃ t, exec (.joinRetry e) s = .next t ∧ asked t c) ∧ (∀ r : Requester, Accepts s r KSF_OPEN (e + 32) → ∃ t, exec (.openCommand r e) s = .next t ∧ asked t c)) ∧
      (¬on → ∀ r : Requester, Accepts s r KSF_OPEN (e + 32) → exec (.openCommand r e) s = .next s)) ∧
    (∀ k : Fin 4, (s.rd (KSF_CAN_EN k) = 0 ∨ s.rd (KSF_CAN_BOFF k) = 1 → exec (.busOff k) s = .next s) ∧
      (s.rd (KSF_CAN_EN k) = 1 → s.rd (KSF_CAN_BOFF k) = 0 → ∃ t, exec (.busOff k) s = .next t ∧ t.rd (KSF_CAN_BOFF k) = 1 ∧ t.coll = (s.report clLink (0x100 + k) 1 13).coll ∧
        FieldsKept [KSF_CAN_BOFF k] s t ∧ { t with regs := s.regs, coll := s.coll } = s) ∧
      (∃ t, exec (.busOffRecovery k) s = .next t ∧ t.rd (KSF_CAN_BOFF k) = 0 ∧ FieldsKept [KSF_CAN_BOFF k] s t ∧ { t with regs := s.regs } = s)) ∧
    (∀ m : Fin 2, (s.rd (KSF_ETH_LINK m) = 0 → exec (.ethernetLinkDown m) s = .next s) ∧
      (s.rd (KSF_ETH_LINK m) = 1 → ∃ t, exec (.ethernetLinkDown m) s = .next t ∧ t.rd (KSF_ETH_LINK m) = 0 ∧ t.coll = (s.report clLink (0x104 + m) 1 13).coll ∧
        FieldsKept [KSF_ETH_LINK m] s t ∧ { t with regs := s.regs, coll := s.coll } = s) ∧
      (∃ t, exec (.ethernetLinkUp m) s = .next t ∧ t.rd (KSF_ETH_LINK m) = 1 ∧ FieldsKept [KSF_ETH_LINK m] s t ∧ { t with regs := s.regs } = s)) ∧
    (s.rd HIF_KLSTAT_STATE ≠ 3 → exec .klDown s = .next s) ∧
    (s.rd HIF_KLSTAT_STATE = 3 → ∃ t, exec .klDown s = .next t ∧ t.rd HIF_KLSTAT_STATE = 0 ∧ t.rd HIF_KLSTAT_LANES = 0 ∧ (∀ i, t.bit HIF_IPEND_LINES i = (s.bit HIF_IPEND_LINES i || decide (i = 11))) ∧
      t.coll = (s.report clLink 0x106 1 13).coll ∧ FieldsKept [HIF_KLSTAT_STATE, HIF_KLSTAT_LANES, HIF_IPEND_LINES] s t ∧ { t with regs := s.regs, coll := s.coll, hwNow := s.hwNow } = s) ∧
    (∀ ofs : BitVec 24, let x := ofs.toInt
      let source := s.partnerTime = true ∨ (s.rd KSF_TCFG_SRC = 1 ∧ s.rd HIF_KLSTAT_STATE = 3) ∨ (s.rd KSF_TCFG_SRC = 2 ∧ s.rd (KSF_ETH_LINK (s.rd KSF_TCFG_ETH)) = 1)
      let bound := if s.partnerTime = false ∧ s.rd KSF_TCFG_SRC = 2 then 16 else 2
      let run := if x.natAbs ≤ bound then s.clock.lockRun + 1 else 0
      let steps := s.rd KSF_TCFG_EVERLOCK = 0 ∧ 16000 < x.natAbs
      (¬source → exec (.timeMeasurement ofs) s = .next s) ∧
      (source → ∃ t, exec (.timeMeasurement ofs) s = .next t ∧ t.rd KSF_TOFS_OFS = ofs.toNat ∧ t.clock.lockRun = run ∧ t.clock.owed = (if steps then 0 else x) ∧
        t.devOfs = (if steps then max (-(s.time : Int)) (s.devOfs + x) else s.devOfs) ∧ t.devNext = (if steps ∧ x < 0 then max s.devNext (s.devCount + 1) else s.devNext) ∧
        t.rd KSF_TCFG_ALOCK = (if 16 ≤ run then 1 else if 4 * bound < x.natAbs then 0 else s.rd KSF_TCFG_ALOCK) ∧ t.rd KSF_TCFG_EVERLOCK = (if 16 ≤ run then 1 else s.rd KSF_TCFG_EVERLOCK) ∧
        FieldsKept [KSF_TOFS_OFS, KSF_TCFG_ALOCK, KSF_TCFG_EVERLOCK] s t ∧ { t with regs := s.regs, devOfs := s.devOfs, devNext := s.devNext, clock := { t.clock with owed := s.clock.owed, lockRun := s.clock.lockRun } } = s)) ∧
    (s.partnerTime = false → s.rd KSF_TCFG_SRC ≠ 1 → s.rd KSF_TCFG_SRC ≠ 2 → exec .timeSourceLost s = .next s) ∧
    (s.partnerTime = true ∨ s.rd KSF_TCFG_SRC = 1 ∨ s.rd KSF_TCFG_SRC = 2 → ∃ t, exec .timeSourceLost s = .next t ∧ t.rd KSF_TCFG_ALOCK = 0 ∧ t.clock = { s.clock with lockRun := 0 } ∧ t.coll = (s.report clLink 0x110 1 13).coll ∧
      FieldsKept [KSF_TCFG_ALOCK] s t ∧ { t with regs := s.regs, clock := s.clock, coll := s.coll } = s)

/-- R447 to R464: the two members of a pair. -/
def Obligations.HeartbeatsLossAndDoubling : Prop :=
  ∀ s : State,
    let quiet := ∀ e, e < 32 → s.rd (KSF_ALLOW_PARTNER e) = 0 ∨ s.rd (KSF_ALLOW_ITEN e) = 0
    let split := fun n => decide (s.rd (MIR_SPLIT_EN n) = 1)
    let p := s.pair
    (let due := s.paired = true ∧ s.trPowered 7 = true ∧ s.dueOn 160 0 = true
     let b := s.ownBeat
     (¬due → exec .heartbeatSend s = .next s) ∧
     (due → exec .heartbeatSend s = .next { s with pair := { p with beat := some b } }) ∧
     b.ident.toNat = p.ident.getD (s.rd KSF_OWNID_ID) % 2 ^ 32 ∧ b.time.toNat = s.devTime ∧ b.roleB = decide (s.rd SEAL_DEC_ROLEB = 1) ∧ b.state.toNat = s.dev.code ∧
     b.epoch.toNat = s.rd MIR_EPOCH_EPOCH % 4096 ∧ b.solo = p.solo ∧
     (∀ (g : Fin 16) (a : Fin 64) (d : Bool), (g, a, d) ∈ b.aspects ↔ s.rd (SN_AGACT_VALID g) = 1 ∧ s.rd (SN_AGACT_ASP g) % 64 = a ∧ d = decide (s.rd (SN_AGACT_DEMAND g) = 1)) ∧
     (∀ n : Fin 192, n ∈ b.tflt ↔ split n = true ∧ s.wouldLit n = true ∧
       (s.rd (CH_CFG_EN n) = 0 ∨ s.heldOff n = true ∨ (s.prot n).bstHold = true ∨ s.rd (CH_PVER_STATE n) = 4 ∨
         (s.latched n = true ∧ (s.safeState n = 0 ∨ (s.safeState n = 2 ∧ s.flashOn = false ∧ s.rd MIR_STAT_ALOCK = 0)))))) ∧
    (∀ (ok : Bool) (hb : Heartbeat) (delay : Word),
      let valid := s.paired = true ∧ s.trPowered 7 = true ∧ ok = true ∧ s.beatValid hb = true
      let ofs := (hb.time.toNat : Int) + (2 * delay.toNat + 62) / 125 - s.devTime
      let run := if ofs.natAbs ≤ 2 then p.lockRun + 1 else 0
      let d := (hb.epoch.toNat + 4096 - s.rd MIR_EPOCH_EPOCH) % 4096
      let behind := (1 ≤ d ∧ d ≤ 2047) ∨ (d = 2048 ∧ s.rd SEAL_DEC_ROLEB = 1)
      let fault := fun n => decide (∃ m ∈ hb.tflt, m.val = s.rd (MIR_SPLIT_TWIN n))
      (¬valid → exec (.heartbeat ok hb delay) s = .next s) ∧
      (valid → ∃ t, exec (.heartbeat ok hb delay) s = .next t ∧ t.rd MIR_STAT_LINK = 1 ∧ t.rd MIR_STAT_PSOLO = hb.solo.toNat ∧ t.rd MIR_EPOCH_PEPOCH = hb.epoch.toNat ∧
        t.rd MIR_LDLY_DELAY = delay.toNat ∧ t.rd MIR_POFS_OFS = wrap 24 ofs ∧ t.pair.ident = some hb.ident.toNat ∧ t.pair.heardAt = some s.time ∧ t.pair.pstate = hb.state.toNat ∧
        t.pair.solo = p.solo ∧ t.pair.lockRun = run ∧ t.rd MIR_STAT_ALOCK = (if 16 ≤ run then 1 else if 8 < ofs.natAbs then 0 else s.rd MIR_STAT_ALOCK) ∧
        (∀ n, n < 192 → split n = true → t.rd (MIR_SPLIT_TFLT n) = (fault n).toNat ∧
          t.rd (MIR_SPLIT_DBL n) = (if fault n = true ∧ s.rd (MIR_SPLIT_COMP n) = 1 then 1 else s.rd (MIR_SPLIT_DBL n))) ∧
        (¬behind → t.dev = s.dev) ∧ (behind → s.dev = .run ∨ s.dev = .watch → s.began = s.dev → t.dev = .rejoin) ∧
        t.time = s.time ∧ (s.rd SEAL_DEC_ROLEB = 0 → t.devOfs = s.devOfs) ∧
        (¬behind → s.dev ≠ .rejoin → t.pairState = if p.solo = true then (if hb.state.toNat = 5 then 7 else 3) else 2) ∧ MemoriesKept s t ∧
        (¬behind → s.rd SEAL_DEC_ROLEB = 0 → s.rd MIR_STAT_LINK = 1 → p.pstate ≠ 5 → (∀ n, n < 192 → s.rd (MIR_SPLIT_EN n) = 0) →
          FieldsKept [MIR_STAT_LINK, MIR_STAT_PSOLO, MIR_EPOCH_PEPOCH, MIR_LDLY_DELAY, MIR_POFS_OFS, MIR_STAT_ALOCK] s t ∧ { t with regs := s.regs, pair := s.pair } = s))) ∧
    (let due := s.paired = true ∧ s.up = true ∧ (s.rd MIR_STAT_LINK = 1 ∨ p.solo = false) ∧
       (p.heardAt.elim (p.upAt + 160000 * s.rd MIR_CFG_ABSENT ≤ s.time) fun t => t + 320 ≤ s.time)
     (¬due → exec .partnerLost s = .next s) ∧
     (due → ∃ t, exec .partnerLost s = .next t ∧ t.rd MIR_STAT_LINK = 0 ∧ t.rd MIR_STAT_ALOCK = 0 ∧ t.pair.solo = true ∧ t.pair.instant = none ∧
       t.rd MIR_EPOCH_EPOCH = (s.rd MIR_EPOCH_EPOCH + if s.rd SEAL_DEC_ROLEB = 1 then 2 else 1) % 4096 ∧ t.rd MIR_LOSTCNT_COUNT = min 4095 (s.rd MIR_LOSTCNT_COUNT + 1) ∧
       (∀ n, n < 192 → split n = true → t.rd (MIR_SPLIT_DBL n) = 1) ∧ (s.dev ≠ .rejoin → t.pairState = 3) ∧ t.recs = (s.queueItem 2).recs ∧ t.dev = s.dev ∧ t.time = s.time ∧ MemoriesKept s t ∧
       (quiet → (∀ n, n < 192 → s.rd (MIR_SPLIT_EN n) = 0) → t.coll = (s.report clLink 0x120 1 13).coll ∧
         FieldsKept [MIR_STAT_LINK, MIR_STAT_ALOCK, MIR_EPOCH_EPOCH, MIR_LOSTCNT_COUNT] s t ∧ { t with regs := s.regs, recs := s.recs, coll := s.coll, pair := s.pair, cores := s.cores } = s))) ∧
    (∀ n : Fin 192, let gone := s.rd MIR_STAT_LINK = 1 ∧ n.val ∈ p.byFault ∧ ¬n.val ∈ p.byLoss ∧ ∃ t0 ∈ p.clearAt.get none n, t0 + 1600000 ≤ s.time
      (¬gone ∨ s.rd (MIR_SPLIT_DBL n) = 0 → exec (.tfltClear n) s = .next s) ∧
      (gone → s.rd (MIR_SPLIT_DBL n) = 1 → ∃ t, exec (.tfltClear n) s = .next t ∧ t.rd (MIR_SPLIT_DBL n) = 0 ∧ ¬n.val ∈ t.pair.byFault ∧ t.rd (CH_SHST_HOACT n) = 1 ∧
        (t.prot n).hoY = s.rd (CH_APPL_VALUE n) ∧ (∀ m, m < 192 → m ≠ n.val → t.rd (MIR_SPLIT_DBL m) = s.rd (MIR_SPLIT_DBL m)) ∧ MemoriesKept s t ∧ t.dev = s.dev ∧ t.cores = s.cores)) ∧
    (∀ (a : Addr) (w : Word), let theirs := s.paired = true ∧ region a.toNat = .mirror ∧ (if s.rd SEAL_DEC_ROLEB = 1 then a.toNat < 0xE80000 else 0xE80000 ≤ a.toNat)
      (¬theirs → exec (.mirrorWrite a w) s = .next s) ∧
      (theirs → ∃ t, exec (.mirrorWrite a w) s = .next t ∧ t.peek a.toNat = w.toNat ∧ ElseSame t.peek s.peek a.toNat ∧ { t with mem := s.mem, bad := s.bad } = s)) ∧
    (∀ g : Fin 16, let due := (∃ t0 ∈ p.diffAt.get none g, t0 + 160000 < s.time) ∧ ¬g.val ∈ p.diffRep
      (¬due → exec (.aspectDifference g) s = .next s) ∧
      (due → ∃ t, exec (.aspectDifference g) s = .next t ∧ t.pair = { p with diffRep := g.val :: p.diffRep } ∧ t.coll = (s.report clLink 0x125 1 13).coll ∧ { t with pair := p, coll := s.coll } = s)) ∧
    (let due := (∃ t0 ∈ p.ofsAt, t0 + 160000 < s.time) ∧ p.ofsRep = false
     (¬due → exec .pairTimeOffset s = .next s) ∧
     (due → ∃ t, exec .pairTimeOffset s = .next t ∧ t.pair = { p with ofsRep := true } ∧ t.coll = (s.report clLink 0x126 1 13).coll ∧ { t with pair := p, coll := s.coll } = s))

/-- R460 to R462: the mirror transfer and re-entry. -/
def Obligations.MirrorTransferAndReentry : Prop :=
  ∀ s : State,
    let p := s.pair
    let quiet := ∀ e, e < 32 → s.rd (KSF_ALLOW_PARTNER e) = 0 ∨ s.rd (KSF_ALLOW_ITEN e) = 0
    let split := fun n => decide (s.rd (MIR_SPLIT_EN n) = 1)
    let shows := [MIR_XSTAT_BLOCKS, MIR_XSTAT_DONE, MIR_XSTAT_RETRY, MIR_XSTAT_FAIL]
    let restarted := fun (t : State) => t.rd MIR_XSTAT_BLOCKS = 0 ∧ t.rd MIR_XSTAT_RETRY = 0 ∧ t.rd MIR_XSTAT_DONE = 0 ∧ t.rd MIR_XSTAT_FAIL = 0 ∧
      t.pair = { p with got := [], repeats := [], failAt := none, theirs := false, out := some 0 } ∧ FieldsKept shows s t ∧ { t with regs := s.regs, pair := p } = s
    let aborted := fun (t : State) => t.pair = { p with instant := none, agreed := false, deferTo := none } ∧ t.rd MIR_XSTAT_REF = 6 ∧ t.coll = (s.report clLink 0x124 1 13).coll ∧
      (quiet → FieldsKept [MIR_XSTAT_REF] s t ∧ { t with regs := s.regs, pair := p, coll := s.coll } = s)
    (∀ (b : Fin 2048) (data : List Word) (check : BitVec 32) (theirs : Bool), data.length = 256 →
      let active := s.paired = true ∧ s.rd MIR_STAT_LINK = 1 ∧ p.out.isSome = true
      let base := (if s.rd SEAL_DEC_ROLEB = 1 then 0xE00000 else 0xE80000) + 256 * b.val
      let own := if s.rd SEAL_DEC_ROLEB = 1 then 0xE80000 else 0xE00000
      let ident := p.ident.getD 0
      let right := kcrc (Nat.xor ident b.val) (data.map BitVec.toNat)
      let n := p.repeats.get 0 b + 1
      let sent := fun (t : State) => t.pair.theirs = (p.theirs || theirs) ∧
        ∀ o, p.out = some o → (o < 2048 → t.pair.outCheck = kcrc (Nat.xor ident o) ((List.range 256).map fun i => s.peek (own + 256 * o + i))) ∧ (2048 ≤ o → t.pair.outCheck = p.outCheck)
      (¬active → exec (.mirrorTransferBlock b data check theirs) s = .next s) ∧
      (active → ∃ t, exec (.mirrorTransferBlock b data (BitVec.ofNat 32 right) theirs) s = .next t ∧ sent t ∧ (∀ i, i < 256 → t.peek (base + i) = (data.getD i 0).toNat) ∧
        (∀ a : Nat, a < base ∨ base + 256 ≤ a → t.peek a = s.peek a) ∧ (∀ x, x < 2048 → (x ∈ t.pair.got ↔ x ∈ p.got ∨ x = b.val)) ∧ t.rd MIR_XSTAT_BLOCKS = t.pair.got.length % 4096 ∧
        t.rd MIR_XSTAT_DONE = (decide (t.pair.got.length = 2048) && t.pair.theirs).toNat ∧ (t.rd MIR_XSTAT_DONE = 0 → t.pair.out = p.out.map fun o => if o < 2048 then o + 1 else o) ∧
        (quiet → FieldsKept shows s t ∧ { t with regs := s.regs, pair := p, mem := s.mem, bad := s.bad } = s)) ∧
      (active → check.toNat ≠ right → n < 4 → (p.got.length < 2048 ∨ s.rd MIR_XSTAT_DONE = 1) → ∃ t, exec (.mirrorTransferBlock b data check theirs) s = .next t ∧ sent t ∧ t.pair.repeats.get 0 b = n ∧
        ElseSame (t.pair.repeats.get 0) (p.repeats.get 0) b ∧ t.rd MIR_XSTAT_RETRY = max (s.rd MIR_XSTAT_RETRY) n ∧ t.rd MIR_XSTAT_FAIL = s.rd MIR_XSTAT_FAIL ∧ t.pair.got = p.got ∧
        FieldsKept shows s t ∧ { t with regs := s.regs, pair := p } = s) ∧
      (active → check.toNat ≠ right → 4 ≤ n → ∃ t, exec (.mirrorTransferBlock b data check theirs) s = .next t ∧ t.rd MIR_XSTAT_FAIL = 1 ∧ t.pair.failAt = some s.time ∧ t.pair.out = none ∧ t.pair.got = p.got ∧
        t.coll = (s.report clLink 0x123 1 13).coll ∧ t.mem = s.mem ∧ (quiet → FieldsKept shows s t ∧ { t with regs := s.regs, pair := p, coll := s.coll } = s))) ∧
    (let due := ∃ t0 ∈ p.failAt, t0 + 1600000 ≤ s.time
     (¬due → exec .transferRestart s = .next s) ∧ (due → ∃ t, exec .transferRestart s = .next t ∧ restarted t)) ∧
    (∀ r : Requester,
      (Accepts s r MIR_CTL (2 ^ MIR_CTL_ABORT.lo) → ∃ t, exec (.abort r) s = .next t ∧ restarted t) ∧
      (Accepts s r MIR_CTL (2 ^ MIR_CTL_REENTER.lo) →
        let ready := fun n => decide (s.rd (CH_CFG_EN n) = 1) && !s.tripped n && !s.latched n && (decide (s.rd (CH_OWNER_VALID n) = 1) || decide (s.rd (CH_SHST_ASRC n) = 1))
        let demanded := fun g => decide (s.rd (SN_AGACT_DEMAND g) = 1) || decide (g ∈ p.demands)
        let code := if s.rd MIR_XSTAT_DONE = 0 then 1 else if s.rd MIR_STAT_ALOCK = 0 then 2 else if ((List.range 192).any fun n => split n && !ready n) = true then 3
          else if ¬(p.pstate = 2 ∨ p.pstate = 3) ∨ s.rd MIR_STAT_PSOLO = 0 then 4 else if ((List.range 16).any fun g => s.splitGroup g && demanded g) = true then 5 else 0
        (s.dev ≠ .rejoin → exec (.reenter r) s = .next s) ∧
        (s.dev = .rejoin → code ≠ 0 → ∃ t, exec (.reenter r) s = .next t ∧ t.rd MIR_XSTAT_REF = code ∧ t.coll = (s.report clLink 0x124 1 13).coll ∧ FieldsKept [MIR_XSTAT_REF] s t ∧
          { t with regs := s.regs, coll := s.coll } = s) ∧
        (s.dev = .rejoin → code = 0 → ∃ t, exec (.reenter r) s = .next t ∧ t.rd MIR_XSTAT_REF = 0 ∧ t.pair = { p with instant := some (s.devTime + 1600), askedAt := s.time, agreed := false } ∧
          (s.paired = true → t.pairState = 6) ∧ FieldsKept [MIR_XSTAT_REF] s t ∧ { t with regs := s.regs, pair := p } = s))) ∧
    (∀ (i : BitVec 48) (ok : Bool),
      (s.dev = .rejoin → p.instant = none → exec (.reentryConfirm i ok) s = .next s) ∧
      (s.dev = .rejoin → ∀ x, p.instant = some x →
        (ok = true → i.toNat = x → s.time ≤ p.askedAt + 800 → exec (.reentryConfirm i ok) s = .next { s with pair := { p with agreed := true } }) ∧
        (ok = false ∨ i.toNat ≠ x ∨ p.askedAt + 800 < s.time → ∃ t, exec (.reentryConfirm i ok) s = .next t ∧ aborted t)) ∧
      (s.dev ≠ .rejoin → s.paired = false ∨ p.solo = false ∨ ok = false ∨ i.toNat < s.devTime → exec (.reentryConfirm i ok) s = .next s) ∧
      (s.dev ≠ .rejoin → s.paired = true → p.solo = true → ok = true → s.devTime ≤ i.toNat →
        exec (.reentryConfirm i ok) s = .next { s with pair := { p with instant := some i.toNat, agreed := true, deferTo := some (i.toNat + 160) } })) ∧
    (p.instant = none → exec .reentryInstant s = .next s) ∧
    (∀ x, p.instant = some x → (s.devTime < x → exec .reentryInstant s = .next s) ∧
      (x ≤ s.devTime → p.agreed = false → ∃ t, exec .reentryInstant s = .next t ∧ aborted t) ∧
      (x ≤ s.devTime → p.agreed = true → ∃ t, exec .reentryInstant s = .next t ∧ t.pair.instant = none ∧ t.pair.agreed = false ∧ t.pair.solo = false ∧ (∀ q, q < 256 → (t.core q).mOut = 0) ∧
        (∀ n, n < 192 → split n = true → t.rd (MIR_SPLIT_DBL n) = 0) ∧ MemoriesKept s t ∧
        (s.dev = .rejoin → s.began = .rejoin → t.dev = .run ∧ t.rd MIR_EPOCH_EPOCH = s.rd MIR_EPOCH_PEPOCH ∧ t.pair.byFault = [] ∧ t.pair.byLoss = [] ∧ t.recs.items = (s.queueItem 2).recs.items ∧
          ∀ n, n < 192 → split n = true → t.rd (CH_SHST_HOACT n) = 1 ∧ (t.prot n).hoY = 0) ∧
        (s.dev ≠ .rejoin → t.dev = s.dev ∧ t.rd MIR_EPOCH_EPOCH = s.rd MIR_EPOCH_EPOCH ∧ ∀ n, n < 192 → split n = true → s.rd (MIR_SPLIT_DBL n) = 1 →
          t.rd (CH_SHST_HOACT n) = 1 ∧ (t.prot n).hoY = s.rd (CH_APPL_VALUE n))))

/-- R5, R34, R470 to R473, R481 to R486: hand-over and SLEEP. -/
def Obligations.HandOverSleepAndWake : Prop :=
  ∀ s : State,
    let w := s.pwr
    let quiet := s.coll.queue = [] ∧ s.coll.dropped = []
    let asleep := fun (t : State) => t.up = false ∧ (∀ k, k < 8 → t.rd (PWR_CST_STATE k) = 0) ∧ (∀ q, q < 256 → (t.core q).run = false) ∧ t.flash = s.flash ∧ t.otp = s.otp ∧
      (∀ a : Nat, region a ≠ .flash → t.peek a = if 0x800000 ≤ a ∧ a < 0x900000 then s.peek a else 0) ∧ OutputsOff t ∧ t.rd PWR_WAKECAUSE_WAKE = s.rd PWR_WAKECAUSE_WAKE ∧
      t.rd PWR_GEN_GEN = (if s.rd PWR_GEN_GEN = 4095 then 1 else s.rd PWR_GEN_GEN + 1) ∧ t.rd PWR_CLUST_LOST = s.rd PWR_CLUST_LOST ∧
      ∀ e, e < 128 → t.rd (PWR_ENGST_BROKEN e) = s.rd (PWR_ENGST_BROKEN e) ∧ (s.rd (PWR_ENGST_STATE e) = 4 → t.rd (PWR_ENGST_STATE e) = 4)
    let starts := fun (t : State) => t.dev = (if s.dev = .safe then .safe else .watch) ∧ t.watchAt = s.time ∧ t.up = false ∧ t.pwr.released = t.suppliesGood ∧ t.pwr.warm = true ∧ t.pwr.warmAt = some s.time ∧
      t.pwr.handAt = none ∧ t.pwr.doneAt = none ∧ t.pwr.gatesOff = false ∧ t.sage.sleepAt = none ∧ MemoriesKept s t ∧ t.cores = s.cores ∧ t.time = s.time
    (∀ vaon : Bool, let f := if vaon then PWR_SUPST_VAON else PWR_SUPST_VIO
      (w.handAt.isSome = true → exec (.handOverCommit vaon) s = .next s) ∧
      (w.handAt = none → s.dev = .sleep → ∃ t, exec (.handOverCommit vaon) s = .next t ∧ t.rd f = 0 ∧ t.pwr = { w with handAt := some s.time, doneAt := some s.time } ∧ FieldsKept [f] s t ∧
        { t with regs := s.regs, pwr := w } = s) ∧
      (w.handAt = none → s.dev ≠ .sleep → ∃ t, exec (.handOverCommit vaon) s = .next t ∧ t.rd f = 0 ∧
        t.pwr = { w with handAt := some s.time, gatesOff := true, safeHold := w.safeHold || decide (s.dev = .safe), pcycAt := none } ∧ t.rd PWR_HOCNT_COUNT = min 4095 (s.rd PWR_HOCNT_COUNT + 1) ∧
        (∀ n, n < 192 → (t.gen n).hg = false ∧ (t.gen n).lg = false) ∧ OutputsOff t ∧ OutputsShown t ∧ 0 ∈ t.recs.items ∧
        t.coll = ((if vaon then s.report clPwr 0xE02 1 13 else s).report clPwr 0xE04 1 13).coll ∧ t.dev = s.dev ∧ t.cores = s.cores ∧ MemoriesKept s t)) ∧
    (w.handAt = none ∨ w.doneAt.isSome = true → exec .handOverComplete s = .next s) ∧
    (w.handAt.isSome = true → w.doneAt = none → quiet → ∃ t, exec .handOverComplete s = .next t ∧ asleep t ∧ t.dev = (if s.dev = .safe then .safe else .sleep) ∧ t.pwr.doneAt = some s.time ∧
      t.pwr.safeHold = (w.safeHold || decide (s.dev = .safe)) ∧ t.pwr.sleepDue = none ∧ t.time = s.time ∧ t.allOff = true) ∧
    (let due := ∃ t0 ∈ w.doneAt, t0 + 32000 ≤ s.time
     (¬due → exec .stabilityWindowEnd s = .next s) ∧
     (due → ∃ t, exec .stabilityWindowEnd s = .next t ∧ starts t ∧ t.rd PWR_SUPST_VIO = 1 ∧ t.rd PWR_SUPST_VAON = 1 ∧
       t.coll = (if w.safeHold = true then s.report clPwr 0xE0A 1 13 else s.report clPwr 0xE08 0 13).coll ∧ t.rd PWR_WAKECAUSE_VIORET = (if w.safeHold = true then s.rd PWR_WAKECAUSE_VIORET else 1))) ∧
    (w.doneAt = none → exec .coldStart s = .next s) ∧
    (w.doneAt.isSome = true → quiet → ∃ t, exec .coldStart s = .next t ∧ t.time = 0 ∧ t.dev = .watch ∧ t.up = false ∧ t.rd PWR_WAKECAUSE_COLD = 1 ∧ t.pwr = { pcycFlag := w.pcycFlag } ∧
      t.recs = { sys := s.recs.sys } ∧ t.devOfs = 0 ∧ t.cores = [] ∧ t.flash = s.flash ∧ t.otp = s.otp ∧ (∀ a : Nat, region a ≠ .flash → t.peek a = if 0x800000 ≤ a ∧ a < 0x900000 then s.peek a else 0) ∧
      t.rd SAGE_FSTAT_SPARES = s.rd SAGE_FSTAT_SPARES ∧
      (∀ x ∈ [(2, MIR_EPOCH_EPOCH), (3, FC_RUNG_COUNT 2), (4, FC_RUNG_COUNT 3), (5, REC_LOGHEAD_HEAD), (6, REC_LSEQ_SEQ)],
        (∀ v, s.newestCopy x.1 = some v → t.rd x.2 = v % 2 ^ x.2.width) ∧ (s.recs.sys.get {} x.1 = {} → t.rd x.2 = State.reset.rd x.2)) ∧
      (∀ f ∈ [PWR_GEN_GEN, PWR_CTL_SLPARM, PWR_HOCNT_COUNT, FC_SEQ_VALUE, CH_CFG_EN 5, PWR_WAKECAUSE_WAKE, DBG_STAT_UNLOCK, SEAL_STAT_STATE], t.rd f = State.reset.rd f) ∧
      (∃ e, t.coll.queue = [e] ∧ e.cls = clPwr ∧ e.src = 0xE09 ∧ e.sev = 1 ∧ e.data = [s.rd REC_LSEQ_SEQ])) ∧
    (∀ (r : Requester) (b : Bool), AcceptsField s r PWR_CTL PWR_CTL_SLPARM b.toNat → ∃ t, exec (.sleepArm r b) s = .next t ∧ t.rd PWR_CTL_SLPARM = b.toNat ∧
      t.pwr = { w with armAt := if s.rd PWR_CTL_SLPARM = 1 then w.armAt else s.time } ∧ FieldsKept [PWR_CTL_SLPARM] s t ∧ { t with regs := s.regs, pwr := w } = s) ∧
    (∀ x : BitVec 4,
      let active := (List.range 4).any fun i => s.bit PWR_WAKECFG_WEN i && s.bit PWR_WAKECFG_WPOL i == x.getLsbD i
      let hit := fun i => s.bit PWR_WAKECFG_WEN i && s.bit PWR_WAKECFG_WPOL i == x.getLsbD i
      let fails := if ((List.range 16).any fun g => decide (s.rd (SN_AGACT_DEMAND g) = 1)) = true then 1
        else if ((List.range 192).any fun n => decide (s.rd (CH_APPL_VALUE n) ≠ 0) || (s.latched n && (decide (s.safeState n = 1) || decide (s.safeState n = 2)))) = true ∨
          ((List.range 12).any fun i => s.carBusy (i / 3) (i % 3)) = true then 2
        else if s.coll.ring ≠ [] ∨ s.recs.sub ≠ none then 3 else if active = true then 4 else 0
      let armed := s.dev = .watch ∧ s.up = true ∧ s.rd PWR_CTL_SLPARM = 1
      let asks := (s.dev = .watch ∨ s.began = .watch) ∧ s.up = true ∧ s.rd PWR_CTL_SLPARM = 1
      let waking := s.dev = .sleep ∨ w.handAt.isSome = true ∨ w.warmAt = some s.time
      let asleep := s.dev = .sleep ∧ w.doneAt = none
      (∀ v : Nat, (¬asks ∨ fails ≠ 0 → exec (.sleepEntry x v) s = .next s) ∧
        (asks → fails = 0 → s.began = .watch → s.dev = .watch → exec (.sleepEntry x v) s = .next { s with pwr := { w with sleepDue := some v } }) ∧
        (asks → fails = 0 → s.began ≠ .watch ∨ s.dev ≠ .watch → ∃ t, exec (.sleepEntry x v) s = .next t ∧ t.coll = (s.report clFc 0x010 0 13).coll ∧ { t with coll := s.coll } = s)) ∧
      (let late := max w.armAt s.watchAt + 1600000 ≤ s.time
       (¬armed ∨ fails = 0 ∨ ¬late → exec (.sleepRefused x) s = .next s) ∧
       (armed → fails ≠ 0 → late → ∃ t, exec (.sleepRefused x) s = .next t ∧ t.rd PWR_CTL_SLPARM = 0 ∧ t.coll = (s.report clPwr 0xE10 1 13 [fails]).coll ∧ FieldsKept [PWR_CTL_SLPARM] s t ∧
         { t with regs := s.regs, coll := s.coll } = s)) ∧
      (active = false → exec (.wake x) s = .next s) ∧
      (active = true → ¬waking → s.dev ≠ .watch ∨ s.up = false → exec (.wake x) s = .next s) ∧
      (active = true → waking → ∃ t, exec (.wake x) s = .next t ∧ (∀ i, i < 4 → t.bit PWR_WAKECAUSE_WAKE i = (s.bit PWR_WAKECAUSE_WAKE i || hit i)) ∧
        (asleep → starts t ∧ t.coll = s.coll) ∧ (¬asleep → FieldsKept [PWR_WAKECAUSE_WAKE] s t ∧ { t with regs := s.regs, hwNow := s.hwNow } = s)) ∧
      (active = true → ¬waking → s.dev = .watch → s.up = true → ∃ t, exec (.wake x) s = .next t ∧ MemoriesKept s t ∧ t.cores = s.cores ∧
        ∀ k, k < 8 → s.bit (PWR_WAKERT_CLU 4) k = true → s.bit PWR_CLUST_LOST k = false → s.fabricOff = false → s.rd (PWR_CST_STATE k) < 2 →
          (s.began = .watch → t.rd (PWR_CST_STATE k) = 2 ∧ t.rd (PWR_CST_CAUSE k) = 64 ∧ t.dev = .run) ∧ (s.began ≠ .watch → t.rd (PWR_CST_STATE k) = s.rd (PWR_CST_STATE k)))) ∧
    (let due := (s.dev = .sleep ∨ w.handAt.isSome = true ∨ w.warmAt = some s.time) ∧ s.rd PWR_WAKECFG_ALEN = 1 ∧ s.rd PWR_ALARM_TIME ≤ s.devTime
     let asleep := s.dev = .sleep ∧ w.doneAt = none
     (¬due → exec .alarm s = .next s) ∧
     (due → ∃ t, exec .alarm s = .next t ∧ t.rd PWR_WAKECAUSE_ALARM = 1 ∧ (asleep → starts t ∧ t.coll = s.coll) ∧
       (¬asleep → FieldsKept [PWR_WAKECAUSE_ALARM] s t ∧ { t with regs := s.regs, hwNow := s.hwNow } = s))) ∧
    (s.pending = [] → ∀ v, w.sleepDue = some v → quiet → (∀ c, c < 64 → s.openConn c = false) → ∃ t, step s = .next t ∧ t.dev = .sleep ∧ t.pwr.sleepDue = none ∧ t.rd PWR_CTL_SLPARM = 0 ∧ t.up = false ∧
      (∀ k, k < 8 → t.rd (PWR_CST_STATE k) = 0) ∧ (∀ q, q < 256 → (t.core q).run = false) ∧ t.flash = s.flash ∧ t.otp = s.otp ∧ ∀ n, n < 192 → s.rd (CH_SSTAT_LATCH n) = 1 →
        ∃ l ∈ t.pwr.latches, l.1 = n ∧ l.2.1 = s.rd (CH_SSTAT_CAUSE n))

/-- R87, R88, R92, R479, R488 to R494: temperature. -/
def Obligations.TemperaturesDeratingAndCharging : Prop :=
  ∀ s : State,
    (∀ (raw : List (Fin 49 × TempRaw)) (ds : List Word), s.allOff = true → exec (.temperatureConversion raw ds) s = .next s) ∧
    (∀ (raw : List (Fin 49 × TempRaw)) (ds : List Word), s.allOff = false → ∃ t, exec (.temperatureConversion raw ds) s = .next t ∧
      (∀ j, j < 16 → t.rd (TMP_DS_T j) = (ds.getD j (BitVec.ofNat 12 (s.rd (TMP_DS_T j)))).toNat) ∧
      (∀ (i : Fin 49) (x : TempRaw), raw.filter (fun y => y.1 = i) = [(i, x)] → let renew := (s.tin i).renew
       let a : Tin := if renew then {} else s.tin i
       let o := if State.openRead x = true then a.openRun + 1 else 0
       let h := if State.shortRead x = true then a.shortRun + 1 else 0
       ∀ v, s.tempOf i x = some v → s.ofType i x = true → s.rd (TMP_CFG_NB0EN i) = 0 → s.rd (TMP_CFG_NB1EN i) = 0 → renew = true ∨ s.rd (TMP_ST_XFAIL i) = 0 →
         let fast := (a.last.any fun p => decide (s.rd (TMP_CFG_RATE i) * 4 * (s.time - p.2) < (v - p.1).natAbs * 16000)) && (renew || decide (s.rd (TMP_ST_RATEF i) = 0))
         let rf := fast && decide (3 ≤ a.discRun + 1)
         let bad := decide (3 ≤ o) || decide (3 ≤ h) || rf
         let good := if bad then 0 else min 100 (a.good + 1)
         let last := if fast then a.last else some (v, s.time)
         t.rd (TMP_ST_OPEN i) = (decide (3 ≤ o)).toNat ∧ t.rd (TMP_ST_SHORT i) = (decide (3 ≤ h)).toNat ∧ t.rd (TMP_ST_RATEF i) = rf.toNat ∧
         t.rd (TMP_ST_DISC i) = (if fast then min (2 ^ (TMP_ST_DISC i).width - 1) (s.rd (TMP_ST_DISC i) + 1) else s.rd (TMP_ST_DISC i)) ∧
         (t.tin i).last = last ∧ (t.tin i).discRun = (if fast then a.discRun + 1 else 0) ∧ (t.tin i).good = good ∧ (t.tin i).openRun = min 3 o ∧ (t.tin i).shortRun = min 3 h ∧
         t.rd (TMP_ST_VALID i) = (if bad then 0 else if 100 ≤ a.good + 1 then 1 else if renew then 0 else s.rd (TMP_ST_VALID i)) ∧
         (∀ y, last = some y → t.rd (TMP_ST_VALID i) = 1 → t.rd (TMP_T_T i) = wrap 12 y.1)) ∧
      (∀ k : Fin 49, (∀ y ∈ raw, y.1 ≠ k) → let renew := (s.tin k).renew
        t.tin k = (if renew then {} else s.tin k) ∧ t.rd (TMP_ST_DISC k) = s.rd (TMP_ST_DISC k) ∧
        ∀ f ∈ [TMP_T_T k, TMP_ST_VALID k, TMP_ST_OPEN k, TMP_ST_SHORT k, TMP_ST_RATEF k, TMP_ST_XFAIL k], t.rd f = if renew then f.reset else s.rd f) ∧
      (∀ d : Fin 4, let low := fun j k => decide (t.dsTemp j < t.dsTemp k) && decide (280 < (t.dsTemp j - t.dsTemp k).natAbs)
        let run := fun j k => if low j k then min 100 (s.heat.dsRun.get 0 j + 1) else 0
        t.dsValid (8 + 2 * d) = decide (run (8 + 2 * d) (9 + 2 * d) < 100) ∧ t.dsValid (9 + 2 * d) = decide (run (9 + 2 * d) (8 + 2 * d) < 100) ∧
        (∀ y, t.highest (State.dieDs d) = some y → (t.die d).otHold = (if (s.die d).otHold = true then decide (1200 ≤ y) else decide (1280 ≤ y)))) ∧
      (∀ n : Fin 192, let trip : Int := (s.rd (CH_OTT_TRIP n) : Int) - 40
        (∀ y, t.selected n = some (some y) →
          (t.prot n).otHold = (if (s.prot n).otHold = true then !decide (y ≤ trip - 2 * s.rd (CH_DRTE_HYST n)) else decide (trip ≤ y)) ∧
          ((s.prot n).otHold = false → trip ≤ y → t.rd (CH_FLT_OT n) = 1 ∧ (t.gen n).hg = false ∧ (t.gen n).lg = false)) ∧
        (t.selected n = some none ∨ t.selected n = none → (t.prot n).otHold = (s.prot n).otHold)) ∧
      (∀ j : Fin 8, t.dsValid j = true → 1280 ≤ t.dsTemp j → s.dsValid j = false ∨ s.dsTemp j < 1280 → t.dev = .safe) ∧ MemoriesKept s t ∧ t.time = s.time) ∧
    (∃ t, exec .deratingUpdate s = .next t ∧
      (∀ n : Fin 192, let d := s.rd (CH_DFAC_DFAC n)
        let knee : Int := (s.rd (CH_DRTK_KNEE n) : Int) - 40
        let fin : Int := (s.rd (CH_DRTE_END n) : Int) - 40
        let floor := 256 * s.rd (CH_DRTK_FLOOR n)
        let goal : Nat := (s.selected n).elim 4095 fun o => o.elim floor fun y =>
          if y ≤ knee then 4095 else if fin ≤ knee then floor else (min 4095 (max (floor : Int) ((fin - y) * 4095 / (fin - knee)))).toNat
        t.rd (CH_DFAC_DFAC n) = if d < goal then min goal (d + 256) else max goal (d - 256)) ∧
      (∀ r : Fin 24, t.rx r = s.rx r ∨ (s.rx r).busy = true ∧ t.rx r = { s.rx r with disrupt := true, stopAt := some ((s.rx r).stopAt.getD s.time) }) ∧
      FieldsKept ((List.range 192).flatMap fun n => CH_DFAC_DFAC n :: proofFields n) s t ∧ { t with regs := s.regs, prfs := s.prfs, optSince := s.optSince, rxs := s.rxs } = s) ∧
    (let window := s.rd (TMP_ST_VALID 48) = 1 ∧ 0 ≤ sext 12 (s.rd (TMP_T_T 48)) ∧ sext 12 (s.rd (TMP_T_T 48)) ≤ 480
     let due := s.heat.chg = true ∧ s.rd PWR_BSTAT_CHGINH = 0 ∧ ¬window
     (¬due → exec .chargeInhibit s = .next s) ∧
     (due → ∃ t, exec .chargeInhibit s = .next t ∧ t.rd PWR_BSTAT_CHGINH = 1 ∧ t.heat = { s.heat with chg := false } ∧ t.coll = (s.report clTemp 0xE21 0 13).coll ∧ FieldsKept [PWR_BSTAT_CHGINH] s t ∧
       { t with regs := s.regs, heat := s.heat, coll := s.coll } = s)) ∧
    (let due := s.rd PWR_BSTAT_CHGINH = 1 ∧ ∃ t0 ∈ s.heat.tsbAt, t0 + 160000000 ≤ s.time
     (¬due → exec .chargeResume s = .next s) ∧
     (due → ∃ t, exec .chargeResume s = .next t ∧ t.rd PWR_BSTAT_CHGINH = 0 ∧ FieldsKept [PWR_BSTAT_CHGINH] s t ∧ { t with regs := s.regs } = s))

/-- R32 to R36, R315 to R317, R475 to R477: clusters. -/
def Obligations.ClustersStartAndIdle : Prop :=
  ∀ (s : State) (k : Fin 8),
    let st := s.rd (PWR_CST_STATE k)
    (∀ r : Requester,
      (Accepts s r (PWR_CCMD k) (2 ^ (PWR_CCMD_START k).lo) →
        (s.fabricOff = true ∨ s.bit PWR_CLUST_LOST k = true → exec (.clusterStart r k) s = .next s) ∧
        (s.fabricOff = false → s.bit PWR_CLUST_LOST k = false → s.dev ≠ .safe ∨ k = s.rd FC_CFG_FHCLU → (s.dev = .watch → s.began = .watch) → st < 2 → ∃ t, exec (.clusterStart r k) s = .next t ∧ t.rd (PWR_CST_STATE k) = 2 ∧
          t.rd (PWR_CST_FREQA k) = (if s.rd (PWR_CLK_FREQ k) ≤ 4 then s.rd (PWR_CLK_FREQ k) else 3) ∧ t.rd (PWR_CST_CAUSE k) = 64 ∧ (t.clu k).startAt = s.time ∧ (t.clu k).idleReq = false ∧
          (t.clu k).kept = (s.clu k).kept ∧ ElseSame t.clu s.clu k ∧ (s.began = .watch → s.dev = .watch → t.dev = .run) ∧ ((s.began ≠ .watch ∧ s.dev ≠ .watch) ∨ s.dev = .run →
            FieldsKept [PWR_CST_STATE k, PWR_CST_FREQA k, PWR_CST_CAUSE k] s t ∧ { t with regs := s.regs, clus := s.clus } = s)) ∧
        (s.fabricOff = false → s.bit PWR_CLUST_LOST k = false → s.dev = .watch → s.began ≠ .watch → ∃ t, exec (.clusterStart r k) s = .next t ∧ t.coll = (s.report clFc 0x010 0 13).coll ∧
          t.pwr = { s.pwr with sleepDue := none } ∧ { t with coll := s.coll, pwr := s.pwr } = s) ∧
        (s.fabricOff = false → s.bit PWR_CLUST_LOST k = false → s.dev ≠ .safe → s.dev ≠ .watch → st = 3 → ∃ t, exec (.clusterStart r k) s = .next t ∧ t.clu k = { s.clu k with idleReq := false } ∧
          ElseSame t.clu s.clu k ∧ { t with clus := s.clus } = s)) ∧
      (Accepts s r (PWR_CCMD k) (2 ^ (PWR_CCMD_IDLE k).lo) →
        let mine := ((reqCore r).any fun q => decide (q / 32 = k.val)) && s.svMode r
        let leased := (List.range 192).any fun n => decide (s.rd (CH_STAT_LARM n) = 1) && decide (s.rd (CH_OWNER_ENG n) / 16 = k)
        (mine = false → exec (.clusterIdleRequest r k) s = .next s) ∧
        (mine = true → leased = true → ∃ t, exec (.clusterIdleRequest r k) s = .next t ∧ t.coll = (s.report clPwr 0xE11 1 13).coll ∧ { t with coll := s.coll } = s) ∧
        (mine = true → leased = false → s.bit (PWR_WAKERT_CLU 0) k = false → s.dev ≠ .safe → ∃ t, exec (.clusterIdleRequest r k) s = .next t ∧ t.clu k = { s.clu k with idleReq := true } ∧
          ElseSame t.clu s.clu k ∧ { t with clus := s.clus } = s))) ∧
    (∀ fails : List (Fin 16 × Fin 64), (fails.map Prod.fst).Nodup →
      (st ≠ 2 → exec (.clusterStartComplete k fails) s = .next s) ∧
      (st = 2 → ∃ t, exec (.clusterStartComplete k fails) s = .next t ∧ t.rd (PWR_CST_STATE k) = 3 ∧ (t.clu k).kept = none ∧ (t.clu k).proven = false ∧ ElseSame t.clu s.clu k ∧ t.dev = s.dev ∧ t.time = s.time ∧
        t.flash = s.flash ∧ t.otp = s.otp ∧ (∀ q, q / 32 ≠ k.val → t.core q = s.core q) ∧
        ((s.clu k).kept = some (s.rd PWR_GEN_GEN) → t.cores = s.cores ∧ t.mem = s.mem ∧ t.coll = s.coll) ∧
        ((s.clu k).kept ≠ some (s.rd PWR_GEN_GEN) → (∀ key : Nat, t.peek key = if HeldBy k key then 0 else s.peek key) ∧
          (∀ c, c < 32 → t.rd (DSTAT_STATE k c) = 0) ∧
          (∀ i : Fin 16, let e := 16 * k.val + i.val
            let x := s.rd (PWR_ENGST_STATE e)
            let bad := (fails.find? fun f => f.1 = i).filter fun _ => !(s.clu k).proven && decide (x ≠ 4)
            let now := if x = 5 ∧ (s.clu k).proven = false then 0 else x
            (s.split k = false → ∀ f, bad = some f → t.rd (PWR_ENGST_STATE e) = 5 ∧ t.rd (PWR_ENGST_GROUP e) = f.2 ∧ (t.core (2 * e)).run = false) ∧
            (s.split k = false → bad = none → t.rd (PWR_ENGST_STATE e) = now ∧
              (now < 3 ∨ 5 < now → s.role e = 2 → (t.core (2 * e)).run = false) ∧
              (now < 3 ∨ 5 < now → s.role e ≠ 2 → (t.core (2 * e)).run = true ∧ (t.core (2 * e)).pc = s.vector k 0 ∧ (∀ g, (t.core (2 * e)).reg g = 0) ∧ (t.core (2 * e)).ps = 0x100)) ∧
            (s.split k = true → ∀ j : Fin 2, (s.core (2 * e + j)).stopped = false → (t.core (2 * e + j)).run = true ∧ (t.core (2 * e + j)).pc = s.vector k 0)) ∧
          (fails = [] → t.coll = if (s.clu k).kept = none then s.coll else (s.report clPwr (0xE18 + k) 0 (4 + k)).coll)))) ∧
    (let ready := (s.clu k).idleReq = true ∧ st = 3 ∧
       ((s.clusterCores k).all fun q => decide (s.engState (q / 2) = 4) || decide (s.engState (q / 2) = 5) || decide (s.engState (q / 2) = 2) || (s.core q).stopped || (!(s.core q).run && decide (s.engState (q / 2) ≠ 3)) ||
         ((s.core q).waiting && decide (s.linesUp q = 0))) = true ∧ ((List.range 32).all fun c => decide (s.rd (DCFG_KIND k c) ≠ 0) || !s.dmaActive k c) = true
     let twin := (List.range 64).any fun p => decide (s.rd (SN_TWCFG_EN p) = 1) && (decide (s.rd (SN_TWCFG_ENGA p) / 16 = k) || decide (s.rd (SN_TWCFG_ENGB p) / 16 = k))
     let off := s.rd (PWR_CLK_IDLEM k) = 1
     (¬ready → exec (.clusterIdle k) s = .next s) ∧
     (ready → twin = false → ∃ t, exec (.clusterIdle k) s = .next t ∧ t.rd (PWR_CST_STATE k) = (if off then 0 else 1) ∧ (t.clu k).idleReq = false ∧
       (t.clu k).kept = (if off then none else some (s.rd PWR_GEN_GEN)) ∧ ElseSame t.clu s.clu k ∧ (∀ q, q / 32 ≠ k.val → t.core q = s.core q) ∧
       (¬off → t.cores = s.cores ∧ t.mem = s.mem) ∧ (off → (∀ i, i < 32 → (t.core (32 * k + i)).run = false) ∧ ∀ key : Nat, t.peek key = if HeldBy k key then 0 else s.peek key) ∧
       (∀ n : Fin 192, s.rd (CH_OWNER_VALID n) = 1 → s.rd (CH_OWNER_ENG n) / 16 = k → s.rd (CH_CFG_EN n) = 1 → s.rd (CH_SHST_ASRC n) = 0 → s.latched n = false → s.follows n = false → t.rd (CH_STAT_FROZEN n) = 1) ∧
       (s.dev = .run → s.began = .run → (∀ j, j < 8 → j ≠ k.val → s.rd (PWR_CST_STATE j) < 2) → t.dev = .watch) ∧ (s.dev ≠ .run ∨ (∃ j, j < 8 ∧ j ≠ k.val ∧ 2 ≤ s.rd (PWR_CST_STATE j)) → t.dev = s.dev)))

/-- R496 to R508: the record store and the life ledger. -/
def Obligations.RecordStoreAndLifeLedger : Prop :=
  ∀ s : State,
    (∀ vhold : Nat,
      let ok := fun n : Nat => decide (600000 + 450000 * n ≤ s.rd PWR_HCAP_CAP * (vhold ^ 2 - 12960000))
      let cool := !s.recs.hot && (decide (s.dev = .sleep) || s.pwr.doneAt.isSome || (List.range 8).any s.dsValid)
      let busy := fun (t : State) (kind n : Nat) => t.recs.kind = kind ∧ t.recs.endAt = s.time + 32 + 24 * n ∧ t.recs.defAt = none
      let idle := s.recs.items = [] ∧ s.recs.sub = none ∧ s.coll.ring = []
      let record := s.recs.items = [] ∧ s.coll.ring ≠ [] ∧ (s.recs.sub = none ∨ s.recs.run < 16)
      let i := (s.rd FC_LWIDX_INDEX + 512 - s.coll.ring.length) % 512
      let h := s.rd REC_LOGHEAD_HEAD
      (∃ t, exec (.recordWrite vhold) s = .next t ∧ t.rd PWR_BSTAT_HOLDOK = (ok 12).toNat ∧
        (idle → t.rd REC_STAT_STATE = 0 ∧ t.recs = { s.recs with defAt := none, kind := 0 } ∧ FieldsKept [PWR_BSTAT_HOLDOK, REC_STAT_STATE] s t ∧ { t with regs := s.regs, recs := s.recs } = s) ∧
        (∀ x, s.recs.items.head? = some x → (cool && ok 16 = true → busy t 3 16 ∧ t.recs.items = s.recs.items.filter (· ≠ x) ∧
            t.sage = (if x = 0 then { s.sage with snap := s.sage.now, prev := s.sage.snap, snapB := !s.sage.snapB } else s.sage) ∧
            t.pwr = (if x = 1 then { s.pwr with pcycFlag := true } else s.pwr) ∧ (2 ≤ x → t.newestCopy x = some (s.rd (State.sysField x))) ∧ t.coll = s.coll ∧ MemoriesKept s t) ∧ (cool && ok 16 = false → WriteDeferred s t !cool)) ∧
        (record → (cool && ok 12 = true → busy t 1 12 ∧ (∀ key : Nat, t.peek key = if 0x810000 + 12 * h ≤ key ∧ key < 0x810000 + 12 * h + 12 then s.rd (FC_LOG_WORD (12 * i + (key - (0x810000 + 12 * h)))) else s.peek key) ∧
            t.rd REC_LSEQ_SEQ = s.rd (FC_LOG_WORD (12 * i + 6)) ∧ t.rd REC_LOGHEAD_HEAD = (h + 1) % 32768 ∧ t.rd REC_LOGWRAP_COUNT = (if h = 32767 then min 4095 (s.rd REC_LOGWRAP_COUNT + 1) else s.rd REC_LOGWRAP_COUNT) ∧
            t.coll = { s.coll with ring := s.coll.ring.drop 1 } ∧ t.newestCopy 5 = some (t.rd REC_LOGHEAD_HEAD) ∧ t.newestCopy 6 = some (t.rd REC_LSEQ_SEQ) ∧
            t.recs.run = (if s.recs.sub = none then 0 else s.recs.run + 1) ∧ t.recs.items = s.recs.items ∧ t.recs.sub = s.recs.sub ∧ t.flash = s.flash) ∧ (cool && ok 12 = false → WriteDeferred s t !cool)) ∧
        (∀ x, s.recs.sub = some x → s.recs.items = [] → s.coll.ring = [] ∨ 16 ≤ s.recs.run → x.1 + x.2.2 ≤ x.2.1 → (∀ j, j < x.2.2 → s.isBad (x.1 + j) = false) →
          (cool && ok x.2.2 = true → busy t 2 x.2.2 ∧ (∀ key : Nat, t.peek key = if x.2.1 ≤ key ∧ key < x.2.1 + x.2.2 then s.peek (x.1 + (key - x.2.1)) else s.peek key) ∧ t.rd REC_SUBST_STATE = 2 ∧
            t.recs = { s.recs with sub := none, run := 0, defAt := none, kind := 2, endAt := t.recs.endAt } ∧ t.coll = s.coll ∧ t.flash = s.flash) ∧ (cool && ok x.2.2 = false → WriteDeferred s t !cool))) ∧
      (s.recs.defAt = none → exec (.energyRecheck vhold) s = .next s) ∧
      (s.recs.defAt ≠ none → ∃ u, exec (.recordWrite vhold) s = .next u ∧ ∃ t, exec (.energyRecheck vhold) s = .next t ∧
        let long := u.recs.rep = false ∧ ∃ t0 ∈ u.recs.defAt, if u.recs.defT then t0 + 16000000 ≤ u.time else t0 + 1600000 ≤ u.time ∧ u.rd PWR_SUPST_VIO ≠ 0
        (¬long → t = u) ∧ (long → t.recs = { u.recs with rep := true } ∧ t.coll = (if u.recs.defT then u.report clTemp 0xE20 1 13 else u.report clPwr 0xE05 1 13).coll ∧ { t with recs := u.recs, coll := u.coll } = u))) ∧
    (∀ r : Requester, Accepts s r REC_SUBCMD (2 ^ REC_SUBCMD_GO.lo) →
      let src := s.rd REC_SUBSRC_SRC
      let dst := s.rd REC_SUBDST_DST
      let n := s.rd REC_SUBLEN_LEN
      let seg := fun a : Nat => s.dev != .maint && s.bit REC_PROT_SEG ((a - 0x870000) / 0x10000)
      let own := (reqCore r).any fun _ => decide (0x080000 ≤ src) && decide (src + n ≤ 0x0E0000)
      let global := decide (0x100000 ≤ src) && decide (src + n ≤ 0x300000)
      let why := if s.recs.sub ≠ none then 1 else if n = 0 then 0 else if 256 < n then 2 else if ¬(own || global) then 3 else if ¬(0x870000 ≤ dst ∧ dst ≤ 0x8FFFFF) then 4
        else if (seg dst || seg (min 0x8FFFFF (dst + n - 1))) = true then 5 else 0
      (∀ c, (reqCore r).isSome = true ∨ r = .host ∨ r = .debug → why = c → c ≠ 0 → ∃ t, exec (.submission r) s = .next t ∧ t.rd REC_SUBST_STATE = 3 ∧ t.rd REC_SUBST_REASON = c ∧ t.recs = s.recs ∧
        t.coll = (s.report clCfg 0xE60 1 13).coll ∧ MemoriesKept s t ∧ FieldsKept [REC_SUBST_STATE, REC_SUBST_REASON] s t) ∧
      (s.recs.sub = none → n = 0 → ∃ t, exec (.submission r) s = .next t ∧ t.rd REC_SUBST_STATE = 2 ∧ t.rd REC_SUBST_REASON = 0 ∧ FieldsKept [REC_SUBST_STATE, REC_SUBST_REASON] s t ∧ { t with regs := s.regs } = s) ∧
      (why = 0 → n ≠ 0 → (reqCore r).isSome = true ∨ global = true → ∃ t, exec (.submission r) s = .next t ∧ t.rd REC_SUBST_STATE = 1 ∧ t.rd REC_SUBST_REASON = 0 ∧ MemoriesKept s t ∧
        (∀ q ∈ reqCore r, global = false → t.recs = { s.recs with run := 0, sub := some (clusterKey (q / 32) src, dst, min n (0x900000 - dst)) }) ∧
        (global = true → t.recs = { s.recs with run := 0, sub := some (src, dst, min n (0x900000 - dst)) }) ∧
        (dst + n ≤ 0x900000 → t.coll = s.coll) ∧ (0x900000 < dst + n → t.rd REC_SUBST_CLIP = 1 ∧ t.coll = (s.report clCfg 0xE61 1 13).coll) ∧
        FieldsKept [REC_SUBST_STATE, REC_SUBST_REASON, REC_SUBST_CLIP] s t)) ∧
    (let add := fun u : Nat => let af := State.arrhenius 8123 ((s.sage.top.get none u).getD 1200)
       State.millionths (if u = 0 then fxMul af (State.voltageFactor (s.rd (PWR_VMON_VALUE 0))) else af)
     let old := fun u : Nat => s.sage.now.life.get 0 u
     (s.dev = .sleep → exec .sageUpdate s = .next s) ∧
     (s.dev ≠ .sleep → ∃ t, exec .sageUpdate s = .next t ∧ t.sage.top = [] ∧ t.sage.now.onS = s.sage.now.onS + 1 ∧
       t.sage.now.expo = s.sage.now.expo + (if s.pwr.doneAt.isSome = true then 0 else State.millionths (State.arrhenius 12765 ((s.sage.top.get none 0).getD 1200))) ∧
       (∀ u : Fin 5, t.sage.now.life.get 0 u = old u + add u ∧ t.rd (SAGE_LIFE_LIFE u) = min 0xFFFFFF ((old u + add u) / 360000000) ∧ old u + add u ≤ t.sage.now.life.get 0 (t.rd SAGE_WORST_UNIT)) ∧
       t.rd SAGE_REM_REM = 1000 * (State.ratedLife - t.sage.now.life.get 0 (t.rd SAGE_WORST_UNIT)) / State.ratedLife ∧
       t.rd SAGE_ONH_HOURS = min 0xFFFFFF ((s.sage.now.onS + 1) / 3600) ∧
       ((∀ u, u < 5 → (8 * State.ratedLife < 10 * old u ∨ 10 * (old u + add u) ≤ 8 * State.ratedLife) ∧ (State.ratedLife < old u ∨ old u + add u ≤ State.ratedLife)) → t.coll = s.coll) ∧
       (∀ u : Fin 5, (∀ v, v < 5 → v ≠ u → add v = 0) → 10 * old u ≤ 8 * State.ratedLife → 8 * State.ratedLife < 10 * (old u + add u) → old u + add u ≤ State.ratedLife → t.coll = (s.report clTemp (0xF00 + u) 1 13).coll) ∧
       FieldsKept ((List.range 5).map SAGE_LIFE_LIFE ++ [SAGE_WORST_UNIT, SAGE_REM_REM, SAGE_ONH_HOURS, SAGE_OFFH_HOURS, SAGE_RETMAX_EXP]) s t ∧ { t with regs := s.regs, sage := s.sage, coll := s.coll } = s)) ∧
    (let due := s.dev ≠ .sleep ∧ s.sage.now.onS % 3600 = 0 ∧ s.sage.now.onS ≠ s.sage.snap.onS ∧ 0 ∉ s.recs.items
     (¬due → exec .sageSnapshot s = .next s) ∧ (due → ∃ t, exec .sageSnapshot s = .next t ∧ t.recs = { s.recs with items := s.recs.items ++ [0] } ∧ { t with recs := s.recs } = s)) ∧
    (∀ weak : List (Fin 256), let due := s.dev ≠ .sleep ∧ ∀ t0 ∈ s.sage.walkAt, t0 + 86400 ≤ s.sage.now.onS
      (¬due → exec (.marginWalk weak) s = .next s) ∧
      (due → ∃ t, exec (.marginWalk weak) s = .next t ∧ (∀ x : Fin 256, x.val ∈ t.sage.weak ↔ x ∈ weak ∨ x.val ∈ s.sage.weak) ∧ { t.sage with weak := s.sage.weak } = { s.sage with walkAt := some s.sage.now.onS } ∧ { t with sage := s.sage } = s)) ∧
    (∀ (x : Fin 256) (fails : Nat),
      let n := s.rd SAGE_FSTAT_SPARES
      let due := s.rd SAGE_FCFG_REFINT * 100 * 3600000000 ≤ s.sage.now.expo - s.sage.now.base.get 0 x ∨ s.rd SAGE_FCFG_CETH ≤ s.sage.ce.get 0 x ∨ x.val ∈ s.sage.weak
      let may := s.dev = .run ∧ (List.range 8).any s.dsValid = true ∧ (∀ j, j < 8 → s.dsValid j = true → -320 ≤ s.dsTemp j ∧ s.dsTemp j ≤ 1000) ∧ due ∧ s.sage.noSpare = false ∧ 0 < n
      (¬may → exec (.flashRefresh x fails) s = .next s) ∧
      (may → fails < n → ∃ t, exec (.flashRefresh x fails) s = .next t ∧ t.sage.refTo = s.time + 800000 ∧ t.rd SAGE_FSTAT_SECT = x ∧ t.rd SAGE_FSTAT_SPARES = n - fails ∧ t.rd SAGE_FCNT_COUNT = min 4095 (s.rd SAGE_FCNT_COUNT + 1) ∧
        t.sage.ce.get 0 x = 0 ∧ x.val ∉ t.sage.weak ∧ t.sage.now.base.get 0 x = s.sage.now.expo ∧ (fails = 0 → t.coll = s.coll) ∧ (fails = 1 → t.coll = (s.report clMem 0x122 1 13).coll) ∧ MemoriesKept s t ∧
        (∀ y, y ≠ x.val → t.sage.ce.get 0 y = s.sage.ce.get 0 y ∧ t.sage.now.base.get 0 y = s.sage.now.base.get 0 y)) ∧
      (may → n ≤ fails → ∃ t, exec (.flashRefresh x fails) s = .next t ∧ t.rd SAGE_FSTAT_SPARES = 0 ∧ t.sage = { s.sage with noSpare := true, refTo := s.time + 800000 } ∧ (n = 1 → t.coll = ((s.report clMem 0x122 1 13).report clMem 0x123 1 13).coll) ∧ MemoriesKept s t))

/-- R518 to R528, R545: resets, start-up, OTP. -/
def Obligations.ResetsPowerCycleAndStartUp : Prop :=
  ∀ s : State,
    let quiet := s.coll.queue = [] ∧ s.coll.dropped = [] ∧ (s.dev ≠ .sleep ∨ s.sage.sleepAt = none)
    let refused := fun t : State => t.coll = (s.report clCfg 0xE74 1 13).coll ∧ { t with coll := s.coll } = s
    let due := s.pwr.released = false ∧ s.dev ≠ .sleep ∧ s.pwr.doneAt = none ∧ s.rd PWR_SUPST_VCORE ≠ 0 ∧ s.rd PWR_SUPST_VAON ≠ 0 ∧ s.rd PWR_SUPST_VANA ≠ 0 ∧ s.rd PWR_SUPST_VIO ≠ 0
    (¬due → exec .powerUp s = .next s) ∧
    (due → exec .powerUp s = .next { s with pwr := { s.pwr with released := true } }) ∧
    (let on := s.pwr.released = true ∨ s.dev = .sleep ∨ s.pwr.handAt.isSome = true
     (¬on → exec .resetPin s = .next s) ∧ (on → s.pwr.handAt.isSome = true → ∃ t, exec .resetPin s = .next t ∧ refused t) ∧
     (on → s.pwr.handAt = none → quiet → ∃ t, exec .resetPin s = .next t ∧ IsReset s t 1)) ∧
    (∀ (r : Requester) (key : Word), let may := (decide (r = .host) || decide (r = .debug) || (reqCore r).any fun q => decide (q < 64) && !s.split (q / 32) && s.coreSv q) = true
      (Permits s r HIF_RST →
        (key ≠ 0xD5A ∨ ¬may → ∃ t, exec (.softReset r key) s = .next t ∧ refused t) ∧ (key = 0xD5A → may → s.pwr.handAt.isSome = true → ∃ t, exec (.softReset r key) s = .next t ∧ refused t) ∧
        (key = 0xD5A → may → s.pwr.handAt = none → quiet → ∃ t, exec (.softReset r key) s = .next t ∧ IsReset s t 2)) ∧
      (Permits s r HIF_PCYC →
        (key ≠ 0xC5C ∨ ¬may → ∃ t, exec (.powerCycleRequest r key) s = .next t ∧ refused t) ∧
        (key = 0xC5C → may → ∃ t, exec (.powerCycleRequest r key) s = .next t ∧ t.pwr = { s.pwr with gatesOff := true, pcycAt := some (s.pwr.pcycAt.getD s.time) } ∧ 1 ∈ t.recs.items ∧ (∀ n, n < 192 → (t.gen n).hg = false ∧ (t.gen n).lg = false) ∧
          OutputsOff t ∧ OutputsShown t ∧ t.dev = s.dev ∧ t.cores = s.cores ∧ MemoriesKept s t))) ∧
    (let late := ∃ t0 ∈ s.pwr.pcycAt, t0 + 16000000 ≤ s.time
     (¬late → exec .powerCycleTimeout s = .next s) ∧
     (late → s.pwr.handAt = none → quiet → ∃ t, exec .powerCycleTimeout s = .next t ∧ t.dev = .watch ∧ t.up = false ∧ t.rd HIF_RSTCAUSE_CAUSE = 3 ∧ t.pwr = { released := s.suppliesGood } ∧ 1 ∉ t.recs.items ∧
       t.cores = [] ∧ t.flash = s.flash ∧ t.otp = s.otp ∧ OutputsOff t ∧ (∀ a : Nat, region a ≠ .flash → t.peek a = if 0x800000 ≤ a ∧ a < 0x900000 then s.peek a else 0))) ∧
    (∀ (p : BitVec 16 × BitVec 16 × BitVec 16 × BitVec 16) (crystal : Nat) (dieBad : BitVec 4) (fcBad snBad sig0 sig1 : Bool) (split : BitVec 8) (proof : List (Fin 128 × Fin 64)),
      let sw := switchValues p.1 p.2.1 p.2.2.1 p.2.2.2
      let idle := s.pwr.released = false ∨ s.up = true ∨ s.dev = .sleep ∨ s.pwr.handAt.isSome = true
      let hold := if s.pwr.pcycFlag then s.dev = .safe ∧ s.pwr.safeHold = false else s.pwr.safeHold = true ∨ s.dev = .safe
      let lost := crystal < 96 ∨ 104 < crystal
      let counted := s.pwr.warm = false ∧ s.rd HIF_RSTCAUSE_CAUSE ≠ 0
      (idle → exec (.startUp p.1 p.2.1 p.2.2.1 p.2.2.2 crystal dieBad fcBad snBad sig0 sig1 split proof) s = .next s) ∧
      (¬idle → ∃ t, exec (.startUp p.1 p.2.1 p.2.2.1 p.2.2.2 crystal dieBad fcBad snBad sig0 sig1 split proof) s = .next t ∧ t.up = true ∧ t.pwr.warm = false ∧ t.pwr.pcycFlag = false ∧ t.time = s.time ∧ t.flash = s.flash ∧ t.otp = s.otp ∧
        t.pair.upAt = s.time ∧ OutputsShown t ∧ t.rd SEAL_SW_SW = sw ∧ t.rd SEAL_SWF_FLT = switchFaults p.1 p.2.1 p.2.2.1 p.2.2.2 ∧ t.xtalLost = (s.xtalLost || decide lost) ∧
        t.rd (FC_RUNG_COUNT 2) = (if counted then min 4095 (s.rd (FC_RUNG_COUNT 2) + 1) else s.rd (FC_RUNG_COUNT 2)) ∧
        t.rd (FC_RUNG_COUNT 3) = (if s.pwr.pcycFlag then min 4095 (s.rd (FC_RUNG_COUNT 3) + 1) else s.rd (FC_RUNG_COUNT 3)) ∧
        (counted → 3 ∈ t.recs.items) ∧ (s.pwr.pcycFlag = true → 4 ∈ t.recs.items) ∧ (∀ n, n < 192 → dieBad.getLsbD (n / 48) = true → t.rd (CH_SSTAT_LATCH n) = 1) ∧
        t.rd HIF_BOOT_REAS0 = (let e := s.slotEarly 0; let first := e = 0 ∧ (s.slotEarly 1 ≠ 0 ∨ s.slotVersion 1 ≤ s.slotVersion 0); if first ∨ s.slotReason 1 sig1 ≠ 0 then s.slotReason 0 sig0 else e) ∧
        (s.slotReason 0 sig0 = 0 → s.slotEarly 1 ≠ 0 ∨ s.slotVersion 1 ≤ s.slotVersion 0 → s.rd HIF_BOOT_FALLBK = 0 → s.rd HIF_BOOT_NONE = 0 → t.rd HIF_BOOT_SLOT = 0 ∧ t.rd HIF_BOOT_FALLBK = 0 ∧ t.rd HIF_BOOT_NONE = 0 ∧
          ∀ k : Fin 8, t.rd (PWR_VBASE_BASE k) = s.slotVector 0 k / 0x80 % 2 ^ (PWR_VBASE_BASE k).width) ∧
        (s.slotReason 0 sig0 ≠ 0 → s.slotReason 1 sig1 ≠ 0 → t.rd HIF_BOOT_NONE = 1) ∧
        (hold → t.dev = .safe ∧ ∀ n, n < 192 → t.rd (CH_SSTAT_LATCH n) = 1) ∧
        (¬hold → lost ∨ fcBad = true ∨ snBad = true ∨ (sw % 2 = 0 ∧ ((s.slotReason 0 sig0 ≠ 0 ∧ s.slotReason 1 sig1 ≠ 0) ∨ t.rd SEAL_STAT_REASON ≠ 0)) → t.dev = .safe ∧ ∀ n, n < 192 → t.rd (CH_SSTAT_LATCH n) = 1) ∧
        (¬hold → ¬lost → fcBad = false → snBad = false → sw % 2 = 1 → t.dev = .maint) ∧
        (¬hold → ¬lost → fcBad = false → snBad = false → sw % 2 = 0 → s.slotReason 0 sig0 = 0 → t.rd SEAL_STAT_REASON = 0 → s.fabricOff = false → s.rd PWR_CLUST_LOST = 0 →
          t.bit HIF_IPEND_LINES 9 = true ∧ (s.rd (PWR_CST_STATE 0) < 2 → s.rd (PWR_CST_STATE 1) < 2 → t.dev = .run ∧ t.rd (PWR_CST_STATE 0) = 2 ∧ t.rd (PWR_CST_STATE 1) = 2)))) ∧
    (Accepts s .debug DBG_OTPCMD (2 ^ DBG_OTPCMD_GO.lo) →
      let a := s.rd DBG_OTPA_ADDR
      (s.dev = .maint → a < 0x300 → ∃ t, exec .otpWrite s = .next t ∧ t.otpWord a = (s.otpWord a ||| s.rd DBG_OTPD_DATA) % 4096 ∧ ElseSame t.otpWord s.otpWord a ∧ { t with otp := s.otp } = s) ∧
      (s.dev ≠ .maint ∨ 0x300 ≤ a → ∃ t, exec .otpWrite s = .next t ∧ t.rd DBG_OTPCMD_REF = 1 ∧ t.coll = (s.report clCfg 0xE77 1 13).coll ∧ FieldsKept [DBG_OTPCMD_REF] s t ∧ { t with regs := s.regs, hwNow := s.hwNow, coll := s.coll } = s))

/-- R528 to R538: the host interface. -/
def Obligations.HostPortMailboxesFlashAndChipsetLink : Prop :=
  ∀ s : State,
    let set := fun (f : Fld) (t : State) => t.rd f = 1 ∧ FieldsKept [f] s t ∧ { t with regs := s.regs, hwNow := s.hwNow } = s
    (∀ (a : Addr) (n arrived : Nat) (ws : List Word) (inc busy : Bool),
      (s.fabricOff = true → exec (.read a n arrived busy) s = .next s ∧ exec (.write a ws inc busy) s = .next s) ∧
      (s.fabricOff = false → busy = true → ∃ t, exec (.read a n arrived busy) s = .next t ∧ set HIF_STAT_OVR t) ∧
      (s.fabricOff = false → busy = true → ∃ t, exec (.write a ws inc busy) s = .next t ∧ set HIF_STAT_OVR t) ∧
      (s.fabricOff = false → busy = false → ∃ t, exec (.read a n arrived busy) s = .next t ∧ t.ports.out.length = min n (0x1000000 - a.toNat) ∧ (∀ i, arrived ≤ i → t.ports.out.getD i 0 = 0) ∧
        (arrived < min n (0x1000000 - a.toNat) → t.rd HIF_STAT_LATE = 1) ∧
        ((∀ i, i < n → region (a.toNat + i) = .global ∧ s.memOff (a.toNat + i) = false ∧ s.isBad (a.toNat + i) = false) → n ≤ arrived → t.ports = { s.ports with out := (List.range n).map fun i => s.peek (a.toNat + i) } ∧ { t with ports := s.ports } = s) ∧
        (n = 1 → 1 ≤ arrived → (region a.toNat = .chan ∨ region a.toNat = .dev → t.ports.out = [(s.busRead .host a.toNat).2.1] ∧ { t with ports := s.ports } = (s.busRead .host a.toNat).1) ∧
          (region a.toNat = .flash ∨ region a.toNat = .mirror → s.memOff a.toNat = false → s.isBad a.toNat = false → t.ports.out = [s.peek a.toNat] ∧ { t with ports := s.ports } = s) ∧
          (region a.toNat = .engine ∨ region a.toNat = .cluster ∨ region a.toNat = .debug ∨ region a.toNat = .reserved → t.ports.out = [0] ∧ { t with ports := s.ports } = s.refuse .host a.toNat))) ∧
      (s.fabricOff = false → busy = false → ∃ t, exec (.write a ws inc busy) s = .next t ∧ (inc = true → t.rd HIF_STAT_PROTO = 1) ∧
        ((∀ i, i < ws.length → region (a.toNat + i) = .global ∧ s.memOff (a.toNat + i) = false) →
          (∀ key : Nat, region key ≠ .flash → t.peek key = if a.toNat ≤ key ∧ key < a.toNat + ws.length then (ws.getD (key - a.toNat) 0).toNat else s.peek key) ∧ { t with mem := s.mem, bad := s.bad, regs := s.regs, hwNow := s.hwNow } = s ∧ FieldsKept [HIF_STAT_PROTO] s t) ∧
        (∀ w ∈ ws.head?, ws.length = 1 → inc = false → (region a.toNat = .chan ∨ region a.toNat = .dev → t = (s.busWrite .host a.toNat w.toNat).1) ∧
          (region a.toNat = .engine ∨ region a.toNat = .cluster ∨ region a.toNat = .debug ∨ region a.toNat = .reserved ∨ region a.toNat = .flash ∨ region a.toNat = .mram → t = s.refuse .host a.toNat)))) ∧
    (s.fabricOff = true → exec .status s = .next s) ∧ (s.fabricOff = false → exec .status s = .next { s with ports := { s.ports with out := [s.readReg HIF_STAT % 256] } }) ∧
    (∀ c : BitVec 8, (s.fabricOff = true ∨ c = 0x0B ∨ c = 0x02 ∨ c = 0x05 → exec (.hostUnknownCommand c) s = .next s) ∧
      (s.fabricOff = false → c ≠ 0x0B → c ≠ 0x02 → c ≠ 0x05 → ∃ t, exec (.hostUnknownCommand c) s = .next t ∧ set HIF_STAT_PROTO t)) ∧
    (∀ (r : Requester) (m : Fin 4) (cnt : BitVec 6), let good := 1 ≤ cnt.toNat ∧ cnt.toNat ≤ 32
      let core := s.coreOf (s.rd (HIF_MBRT_ENG m)) (s.rd (HIF_MBRT_CORE m))
      (Accepts s r (HIF_HDB m) cnt.toNat → let full := s.rd (HIF_HDB_FULL m) = 1
        (full → ∃ t, exec (.hostDoorbell r m cnt) s = .next t ∧ set HIF_STAT_MBOVR t) ∧
        (¬full → ¬good → ∃ t, exec (.hostDoorbell r m cnt) s = .next t ∧ t.coll = (s.flag (HIF_HDB m).addr 0 2).coll ∧ { t with coll := s.coll } = s) ∧
        (¬full → good → ∃ t, exec (.hostDoorbell r m cnt) s = .next t ∧ t.rd (HIF_HDB_FULL m) = 1 ∧ t.rd (HIF_HDB_CNT m) = cnt.toNat ∧ t.bit (PWR_IPEND_LINES core) 7 = true ∧ MemoriesKept s t ∧
          (s.rd (PWR_WAKERT_CLU 3) = 0 → FieldsKept [HIF_HDB_FULL m, HIF_HDB_CNT m, PWR_IPEND_LINES core] s t ∧ { t with regs := s.regs, hwNow := s.hwNow } = s) ∧
          (∀ k : Fin 8, s.bit (PWR_WAKERT_CLU 3) k = true → s.fabricOff = false → s.bit PWR_CLUST_LOST k = false → s.dev = .run → s.rd (PWR_CST_STATE k) < 2 → t.rd (PWR_CST_STATE k) = 2 ∧ t.bit (PWR_CST_CAUSE k) 4 = true))) ∧
      (Accepts s r (HIF_DDB m) cnt.toNat → let full := s.rd (HIF_DDB_FULL m) = 1
        (full → ∃ t, exec (.deviceDoorbell r m cnt) s = .next t ∧ set HIF_STAT_MBOVR t) ∧
        (¬full → ¬good → ∃ t, exec (.deviceDoorbell r m cnt) s = .next t ∧ t.coll = (s.flag (HIF_DDB m).addr 0 2).coll ∧ { t with coll := s.coll } = s) ∧
        (¬full → good → ∃ t, exec (.deviceDoorbell r m cnt) s = .next t ∧ t.rd (HIF_DDB_FULL m) = 1 ∧ t.rd (HIF_DDB_CNT m) = cnt.toNat ∧ t.bit HIF_IPEND_LINES m = true ∧
          FieldsKept [HIF_DDB_FULL m, HIF_DDB_CNT m, HIF_IPEND_LINES] s t ∧ { t with regs := s.regs, hwNow := s.hwNow } = s)) ∧
      (∀ dev : Bool, let f := if dev then HIF_DDB_FULL m else HIF_HDB_FULL m
        Accepts s r (if dev then HIF_DDB m else HIF_HDB m) (2 ^ f.lo) → (s.rd f = 0 ∨ s.marked f ≠ 0 → exec (.mailboxClear r m dev) s = .next s) ∧
          (s.rd f = 1 → s.marked f = 0 → ∃ t, exec (.mailboxClear r m dev) s = .next t ∧ t.rd f = 0 ∧ (dev = false → t.bit HIF_IPEND_LINES (4 + m) = true) ∧
            FieldsKept (f :: if dev then [] else [HIF_IPEND_LINES]) s t ∧ { t with regs := s.regs, hwNow := s.hwNow } = s))) ∧
    (∀ (r : Requester) (key : BitVec 7), Accepts s r HIF_BOOTCMD (2 ^ HIF_BOOTCMD_RAISE.lo + 2 ^ HIF_BOOTCMD_KEY.lo * key.toNat) →
      (s.dev ≠ .maint ∨ key ≠ 0x5B → ∃ t, exec (.raise r key) s = .next t ∧ t.coll = (s.report clCfg 0xE74 1 13).coll ∧ { t with coll := s.coll } = s) ∧
      (s.dev = .maint → key = 0x5B → ∃ t, exec (.raise r key) s = .next t ∧ t.minVersion = max s.minVersion (min (s.slotVersion (s.rd HIF_BOOT_SLOT)) 1024) ∧ OtpKept s t ∧
        (∀ i, i < 0x400 → i < 0xC0 ∨ 0x116 ≤ i → t.otpWord i = s.otpWord i) ∧ { t with otp := s.otp } = s)) ∧
    (∀ (r : Requester) (op : Fin 2) (key : BitVec 8),
      let adr := s.rd HIF_FLADR_ADDR
      let src := s.rd HIF_FLSRC_SRC
      let n := 4 * (s.rd HIF_FLLEN_LEN + 1)
      let fetched := decide (adr < 0x7F0000) && (List.range 256).any fun q => s.executes q && decide (region (s.core q).pc = .flash ∧ (s.core q).pc < 0x7F0000 ∧ (adr < 0x5F8000 ↔ (s.core q).pc < 0x5F8000))
      let form := region adr = .flash ∧ if op = 0 then adr % 0x4000 = 0 else adr % 4 = 0 ∧ adr % 0x4000 + n ≤ 0x4000 ∧ ∀ e ∈ s.flash, e.1 < adr ∨ adr + n ≤ e.1
      let why := if s.dev ≠ .maint ∨ key ≠ 0xF1 then 1 else if s.ports.flash.isSome then 2 else if region adr = .flash ∧ fetched = true then 3 else if ¬form then 4
        else if op = 1 ∧ ¬(region src = .global ∧ region (src + n - 1) = .global) then 5 else 0
      let run := if op = 0 then exec (.erase r key) s else exec (.prog r key) s
      Accepts s r HIF_FLCMD (op.val + 1 + 2 ^ HIF_FLCMD_KEY.lo * key.toNat) →
        (why = 0 → ∃ t, run = .next t ∧ t.rd HIF_FLST_STATE = 1 ∧ t.rd HIF_FLST_REASON = 0 ∧ t.ports = { s.ports with flash := some (op.val + 1, adr, src, n) } ∧ FieldsKept [HIF_FLST_STATE, HIF_FLST_REASON] s t ∧ { t with regs := s.regs, ports := s.ports } = s) ∧
        (why ≠ 0 → ∃ t, run = .next t ∧ t.rd HIF_FLST_REASON = why ∧ t.rd HIF_FLST_STATE = (if s.ports.flash = none then 3 else s.rd HIF_FLST_STATE) ∧ t.coll = (s.report clCfg 0xE73 1 13).coll ∧
          FieldsKept [HIF_FLST_STATE, HIF_FLST_REASON] s t ∧ { t with regs := s.regs, coll := s.coll } = s)) ∧
    (∀ differ : Bool, (s.ports.flash = none → exec (.flashCommandComplete differ) s = .next s) ∧
      (∀ x, s.ports.flash = some x → ∃ t, exec (.flashCommandComplete differ) s = .next t ∧ t.ports = { s.ports with flash := none } ∧ t.mem = s.mem ∧ t.otp = s.otp ∧
        (differ = true ∧ x.1 = 2 → t.rd HIF_FLST_STATE = 4 ∧ t.coll = (s.report clMem 0x124 1 13).coll) ∧ (¬(differ = true ∧ x.1 = 2) → t.rd HIF_FLST_STATE = 2 ∧ t.coll = s.coll) ∧
        FieldsKept [HIF_FLST_STATE] s t ∧
        (x.1 = 1 → ∀ a : Addr, region a.toNat = .flash → t.peek a.toNat = if x.2.1 ≤ a.toNat ∧ a.toNat < x.2.1 + 0x4000 then Config.erasedWord.toNat else s.peek a.toNat) ∧
        (x.1 = 2 → region x.2.1 = .flash → region (x.2.1 + x.2.2.2 - 1) = .flash → ∀ a : Addr, region a.toNat = .flash → t.peek a.toNat = if x.2.1 ≤ a.toNat ∧ a.toNat < x.2.1 + x.2.2.2 then s.peek (x.2.2.1 + (a.toNat - x.2.1)) % 4096 else s.peek a.toNat))) ∧
    (let st := s.rd HIF_KLSTAT_STATE
     let lanes := s.rd HIF_KLSTAT_LANES
     let on := s.rd KSF_CTL_KLEN = 1 ∧ s.fabricOff = false ∧ (s.wide = true ∨ ∃ e, e < 32 ∧ s.rd (KSF_ALLOW_WKEEP e) = 1 ∧ s.rd (KSF_ALLOW_TR e) = 6)
     let moves := fun (t : State) (st2 lanes2 : Nat) => t.rd HIF_KLSTAT_STATE = st2 ∧ t.rd HIF_KLSTAT_LANES = lanes2 ∧ t.bit HIF_IPEND_LINES 11 = true ∧ t.ports.out = s.ports.out ∧ MemoriesKept s t ∧
       t.coll = (if st = 3 then s.report clLink 0x106 1 13 else s).coll ∧ FieldsKept [HIF_KLSTAT_STATE, HIF_KLSTAT_LANES, HIF_KLSTAT_FAILS, HIF_IPEND_LINES] s t
     let late := ∃ t0 ∈ s.ports.klAt, t0 + 16000 ≤ s.time
     let wait := ∃ t0 ∈ s.ports.klAt, s.time < t0 + 160000
     (∀ r : Requester, Accepts s r HIF_KLCTL (2 ^ HIF_KLCTL_RETRAIN.lo) → ∃ t, exec (.retrain r) s = .next t ∧ moves t (if on then 1 else 0) 0 ∧ t.ports.klAt = (if on then some s.time else none)) ∧
     (∀ good : Bool,
       (¬on → st = 0 → exec (.klStateChange good) s = .next s) ∧ (¬on → st ≠ 0 → ∃ t, exec (.klStateChange good) s = .next t ∧ moves t 0 0) ∧
       (on → st = 0 → wait → exec (.klStateChange good) s = .next s) ∧ (on → st = 0 → ¬wait → ∃ t, exec (.klStateChange good) s = .next t ∧ moves t 1 0 ∧ t.ports.klAt = some s.time) ∧
       (on → st = 1 ∨ st = 2 → late → ∃ t, exec (.klStateChange good) s = .next t ∧ moves t 0 0 ∧ t.rd HIF_KLSTAT_FAILS = min 255 (s.rd HIF_KLSTAT_FAILS + 1) ∧ t.ports.klAt = some s.time) ∧
       (on → st = 1 ∨ st = 2 → ¬late → good = true → ∃ t, exec (.klStateChange good) s = .next t ∧ moves t (st + 1) (if st = 2 then 3 else 0)) ∧
       (on → st = 1 ∨ st = 2 → ¬late → good = false → exec (.klStateChange good) s = .next s) ∧
       (on → st = 3 → good = true → exec (.klStateChange good) s = .next s) ∧ (on → st = 3 → good = false → ∃ t, exec (.klStateChange good) s = .next t ∧ moves t 0 0)) ∧
     (∀ l : Fin 2, let has := st = 3 ∧ lanes.testBit l = true
       (¬has → exec (.klLaneFail l) s = .next s) ∧ (has → lanes ≠ 3 → ∃ t, exec (.klLaneFail l) s = .next t ∧ moves t 0 0) ∧
       (has → lanes = 3 → ∃ t, exec (.klLaneFail l) s = .next t ∧ t.rd HIF_KLSTAT_STATE = 3 ∧ t.rd HIF_KLSTAT_LANES = 2 - l ∧ t.coll = (s.report clLink 0x107 1 13).coll ∧
         FieldsKept [HIF_KLSTAT_LANES] s t ∧ { t with regs := s.regs, coll := s.coll } = s)))

/-- R539 to R544: the test access port and engine debug. -/
def Obligations.TestPortDebugAccessAndHalt : Prop :=
  ∀ s : State,
    let q := s.debugCore
    let e := q / 2
    let c := s.core q
    let shows := fun (t : State) (ir dr : Nat) => t.ports = { s.ports with ir := ir, dr := dr } ∧ { t with ports := s.ports } = s
    let free := s.dev = .maint ∧ ∀ n, n < 192 → s.rd (CH_CFG_EN n) = 0
    (∀ pins : Nat, ∃ t, exec (.samplePreload pins) s = .next t ∧ shows t 0x01 pins) ∧ (∃ t, exec .idcode s = .next t ∧ shows t 0x02 0x1C192A55) ∧ (∃ t, exec .bypass s = .next t ∧ shows t 0x3F 0) ∧
    (free → (∃ t, exec .extest s = .next t ∧ shows t 0x00 s.ports.dr) ∧ (∃ t, exec .clamp s = .next t ∧ shows t 0x03 s.ports.dr) ∧ ∃ t, exec .highz s = .next t ∧ shows t 0x04 s.ports.dr) ∧
    (¬free → ∃ t, exec .extest s = .next t ∧ t.coll = (s.report clCfg 0xE76 1 13).coll ∧ t.ports = { s.ports with ir := 0x3F, dr := 0 } ∧ { t with ports := s.ports, coll := s.coll } = s ∧ exec .clamp s = .next t ∧ exec .highz s = .next t) ∧
    (∀ valid : Bool,
      (s.rd DBG_STAT_FAILS = 3 → ∃ t, exec (.dbgauth valid) s = .next t ∧ t.ports = { s.ports with ir := 0x20 } ∧ t.coll = (s.report clCfg 0xE75 1 13).coll ∧ { t with ports := s.ports, coll := s.coll } = s) ∧
      (s.rd DBG_STAT_FAILS ≠ 3 → ∃ t, exec (.dbgauth valid) s = .next t ∧ t.ports = { s.ports with ir := 0x20, nonce := t.ports.nonce } ∧ t.ports.nonce < 2 ^ 64 ∧ t.free = s.free + 6 ∧ { t with ports := s.ports, coll := s.coll, free := s.free, regs := s.regs } = s ∧
        (valid = true → t.rd DBG_STAT_UNLOCK = 1 ∧ t.coll = s.coll ∧ FieldsKept [DBG_STAT_UNLOCK] s t) ∧
        (valid = false → t.rd DBG_STAT_FAILS = s.rd DBG_STAT_FAILS + 1 ∧ t.coll = (s.report clCfg 0xE75 1 13).coll ∧ FieldsKept [DBG_STAT_FAILS] s t))) ∧
    (∀ (op : Fin 4) (a : Addr) (d : Word),
      let acc := fun st v : Nat => a.toNat + v * 2 ^ 24 + op.val * 2 ^ 36 + st * 2 ^ 38
      let open' := s.rd DBG_STAT_UNLOCK = 1
      let reg := region a.toNat = .chan ∨ region a.toNat = .dev
      (s.fabricOff = true → exec (.dbgacc op a d) s = .next s) ∧
      (s.fabricOff = false → ∃ t, exec (.dbgacc op a d) s = .next t ∧ t.ports.ir = 0x21 ∧
        (op = 0 ∨ op = 3 → shows t 0x21 (acc 0 d.toNat)) ∧
        (op = 1 → ¬reg → ¬open' ∨ region a.toNat = .reserved ∨ (region a.toNat = .engine ∧ c.halted = false) → t.ports.dr = acc 2 0 ∧ { t with ports := s.ports } = s.refuse .debug a.toNat) ∧
        (op = 1 → open' → region a.toNat = .global ∨ region a.toNat = .flash ∨ region a.toNat = .mirror → s.memOff a.toNat = false → s.isBad a.toNat = false → shows t 0x21 (acc 0 (s.peek a.toNat))) ∧
        (op = 1 → open' → region a.toNat = .cluster → s.cluRuns (q / 32) = true → s.isBad (clusterKey (q / 32) a.toNat) = false → shows t 0x21 (acc 0 (s.peek (clusterKey (q / 32) a.toNat)))) ∧
        (op = 1 → open' → (region a.toNat = .cluster ∨ (region a.toNat = .engine ∧ c.halted = true)) ∧ s.cluRuns (q / 32) = false ∨ s.memOff a.toNat = true → t.ports.dr = acc 0 (Config.freeValue s.free).toNat ∧ { t with ports := s.ports } = s.fresh) ∧
        (op = 1 → reg → { t with ports := s.ports } = (s.busRead .debug a.toNat).1 ∧ t.ports.dr = acc (if (s.busRead .debug a.toNat).2.2 then 0 else 2) (s.busRead .debug a.toNat).2.1) ∧
        (op = 2 → ¬reg → ¬open' ∨ region a.toNat = .reserved ∨ region a.toNat = .flash ∨ region a.toNat = .mram ∨ region a.toNat = .mirror ∨ (region a.toNat = .engine ∧ c.halted = false) → t.ports.dr = acc 2 d.toNat ∧ { t with ports := s.ports } = s.refuse .debug a.toNat) ∧
        (op = 2 → open' → region a.toNat = .global → s.memOff a.toNat = false → t.ports.dr = acc 0 d.toNat ∧ t.peek a.toNat = d.toNat ∧ (∀ k : Nat, k ≠ a.toNat → t.peek k = s.peek k) ∧ { t with ports := s.ports, mem := s.mem, bad := s.bad } = s) ∧
        (op = 2 → reg → { t with ports := s.ports } = (s.busWrite .debug a.toNat d.toNat).1 ∧ t.ports.dr = acc (if (s.busWrite .debug a.toNat d.toNat).2 then 0 else 2) d.toNat))) ∧
    (let live := s.noCore q = false ∧ c.run = true ∧ c.stopped = false ∧ s.rd (PWR_ENGST_STATE e) ≠ 4
     let lock := s.split (q / 32) = false
     Accepts s .debug DBG_CMD (2 ^ DBG_CMD_HALT.lo) →
      (¬live ∨ c.halted = true → exec .debugHalt s = .next s) ∧
      (live → c.halted = false → s.haltPoint q = false → ∃ t, exec .debugHalt s = .next t ∧ t.core q = { c with haltDue := true } ∧ ElseSame t.core s.core q ∧ { t with cores := s.cores } = s) ∧
      (live → c.halted = false → s.haltPoint q = true → ∃ t, exec .debugHalt s = .next t ∧ (t.core q).halted = true ∧ MemoriesKept s t ∧ t.dev = s.dev ∧
        (¬lock → t.core q = { c with halted := true, step := false, hcause := 0, hbp := 0 } ∧ ElseSame t.core s.core q ∧ t.coll = s.coll) ∧
        (lock → t.rd (PWR_ENGST_BROKEN e) = 1 ∧ (s.dev ≠ .maint → t.rd (PWR_ENGST_STATE e) = 4 ∧ t.rd (PWR_ENGST_CAUSE e) = 6 ∧ (t.eng e).stopAt = some s.time ∧ (t.eng e).tkWait = false) ∧
          (s.dev = .maint → t.rd (PWR_ENGST_STATE e) = s.rd (PWR_ENGST_STATE e) ∧ ElseSame t.core s.core q ∧ t.core q = { c with halted := true, step := false, hcause := 0, hbp := 0 } ∧
            t.coll = (if s.rd (PWR_ENGST_BROKEN e) = 1 then s else s.report clEng (0x180 + e) 2 (4 + e / 16)).coll) ∧
          ∀ n : Fin 192, s.rd (CH_OWNER_VALID n) = 1 → s.rd (CH_OWNER_ENG n) = e → s.rd (CH_CFG_EN n) = 1 → s.rd (CH_SHST_ASRC n) = 0 → s.latched n = false → s.follows n = false → t.rd (CH_STAT_FROZEN n) = 1))) ∧
    (Accepts s .debug DBG_CMD (2 ^ DBG_CMD_RESUME.lo) →
      (c.halted = false → exec .resume s = .next s) ∧
      (c.halted = true → let freed := s.rd (PWR_ENGST_STATE e) = 4 ∧ s.rd (PWR_ENGST_CAUSE e) = 6 ∧ s.split (q / 32) = false
        ∃ t, exec .resume s = .next t ∧ t.core q = { c with halted := false, step := false, bpPass := decide (c.hcause = 2) } ∧ ElseSame t.core s.core q ∧ FieldsKept (PWR_ENGST_STATE e :: PWR_ENGMAP_ROLE e :: (List.range 193).flatMap fun n => CH_STAT_FROZEN n :: applFields n) s t ∧
          { t with regs := s.regs, gens := s.gens, cores := s.cores, prots := s.prots, prfs := s.prfs, optSince := s.optSince, coll := s.coll, rxs := s.rxs, hwNow := s.hwNow } = s ∧
          ((∀ n : Fin 193, s.rd (CH_STAT_FROZEN n) = 0) → { t with regs := s.regs, cores := s.cores } = s) ∧
          t.rd (PWR_ENGST_STATE e) = (if freed then 1 else s.rd (PWR_ENGST_STATE e)) ∧ t.rd (PWR_ENGMAP_ROLE e) = (if freed then 0 else s.rd (PWR_ENGMAP_ROLE e)) ∧
          (∀ n : Fin 192, s.rd (CH_OWNER_VALID n) = 1 → s.rd (CH_OWNER_ENG n) = e → s.split (q / 32) = false → s.cluRuns (q / 32) = true → s.dev = .maint ∨ s.mayOwn n e = true → t.rd (CH_STAT_FROZEN n) = 0) ∧
          (s.cluRuns (q / 32) = false → ∀ n : Fin 192, t.rd (CH_STAT_FROZEN n) = s.rd (CH_STAT_FROZEN n)))) ∧
    (Accepts s .debug DBG_CMD (2 ^ DBG_CMD_STEP.lo) → (c.halted = false → exec .step s = .next s) ∧
      (c.halted = true → ∃ t, exec .step s = .next t ∧ t.core q = { c with step := true, bpPass := true } ∧ ElseSame t.core s.core q ∧ { t with cores := s.cores } = s)) ∧
    (∀ v : BitVec 36, Accepts s .debug DBG_RDATA v.toNat →
      let n := s.rd DBG_RSEL_SEL
      let x := v.toNat
      ∃ t, exec (.debugRegisterWrite v) s = .next t ∧ ElseSame t.core s.core q ∧ { t with cores := s.cores, staged := s.staged } = s ∧
        (c.halted = false ∨ (0x29 ≤ n ∧ n < 0x40) ∨ (0x80 ≤ n ∧ n < 0x100) ∨ 0x380 ≤ n → t.core q = c) ∧
        (c.halted = true → let d := t.core q
          let key := if n < 0x20 then dest s q n else if n < 0x28 then [xKey (n - 0x20)] else if 0x300 ≤ n then [aKey ((n - 0x300) / 32) (n % 32)] else if 0x100 ≤ n then [vKey ((n - 0x100) / 32) (n % 32)] else []
          (∀ k, k ∉ key → d.reg k = c.reg k) ∧ (n < 0x20 → d.r n = if n = 0 then 0 else x % 4096) ∧ (0x20 ≤ n → n < 0x28 → d.x (n - 0x20) = x % 2 ^ 24) ∧
          (n = 0x28 → d = { c with pc := x % 2 ^ 24 }) ∧ (0x100 ≤ n → n < 0x300 → d.v ((n - 0x100) / 32) (n % 32) = x % 4096) ∧ (0x300 ≤ n → n < 0x380 → d.a ((n - 0x300) / 32) (n % 32) = x % 2 ^ 36) ∧
          (n < 0x28 ∨ 0x100 ≤ n → { d with file := c.file } = c) ∧
          (∀ b len : Nat, 0x40 ≤ n → n < 0x80 → srGroup (n - 0x40) = some (b, len) → d = c.srSet b (withPart (s.srWhole q b) (n - 0x40 - b) x))))

/-- R243: negations and absolute values. -/
def Obligations.NegationsAndAbsoluteValues : Prop :=
  ∀ (s : State) (q : Fin 256), Issues s q 2 → ∀ (rd rs1 : Fin 32),
    let a := sext 12 ((s.core q).r rs1)
    let least := decide (a = -2048)
    let size := if a < 0 then -a else a
    (Stands s (.neg q rd rs1) → ∃ t, exec (.neg q rd rs1) s = .next t ∧ Computes s t q rd (-a % 4096).toNat (some (decide (a ≠ 0))) (some least)) ∧
    (Stands s (.negs q rd rs1) → ∃ t, exec (.negs q rd rs1) s = .next t ∧ Computes s t q rd (if least then 2047 else (-a % 4096).toNat) (some false) (some false) least) ∧
    (Stands s (.abs q rd rs1) → ∃ t, exec (.abs q rd rs1) s = .next t ∧ Computes s t q rd size.toNat (some false) (some least)) ∧
    (Stands s (.abss q rd rs1) → ∃ t, exec (.abss q rd rs1) s = .next t ∧ Computes s t q rd (if least then 2047 else size.toNat) (some false) (some false) least)

/-- R244: multiplications. -/
def Obligations.MultiplicationsFormTheExactProduct : Prop :=
  ∀ (s : State) (q : Fin 256), Issues s q 2 → ∀ (rd rs1 rs2 : Fin 32),
    let a := (s.core q).r rs1
    let b := (s.core q).r rs2
    let A := sext 12 a
    let B := sext 12 b
    let p := A * B
    let m := (p + 1024) / 2048
    (Stands s (.mul q rd rs1 rs2) → ∃ t, exec (.mul q rd rs1 rs2) s = .next t ∧ Computes s t q rd (p % 4096).toNat (some false) (some (decide (p < -2048) || decide (2047 < p)))) ∧
    (Stands s (.mulh q rd rs1 rs2) → ∃ t, exec (.mulh q rd rs1 rs2) s = .next t ∧ Computes s t q rd (p / 4096 % 4096).toNat) ∧
    (Stands s (.mulhu q rd rs1 rs2) → ∃ t, exec (.mulhu q rd rs1 rs2) s = .next t ∧ Computes s t q rd (a * b / 4096)) ∧
    (Stands s (.mulq q rd rs1 rs2) → ∃ t, exec (.mulq q rd rs1 rs2) s = .next t ∧
      Computes s t q rd (max (-2048) (min 2047 m) % 4096).toNat (some false) (some false) (decide (m < -2048) || decide (2047 < m)))

/-- R246, R247: shifts and rotations. -/
def Obligations.ShiftsAndRotations : Prop :=
  ∀ (s : State) (q : Fin 256), Issues s q 2 → ∀ (rd rs1 rs2 : Fin 32) (n : Fin 32),
    let a := (s.core q).r rs1
    let b := (s.core q).r rs2
    let A := sext 12 a
    let gather := fun (f : Nat → Bool) => (List.range 12).foldl (fun x i => if f i then x + 2 ^ i else x) 0
    let out := fun (k : Nat) => decide (1 ≤ k) && decide (k ≤ 12) && a.testBit (k - 1)
    let left := fun (k : Nat) => decide (1 ≤ k) && decide (k ≤ 12) && a.testBit (12 - k)
    let rol := fun (k : Nat) => gather fun i => a.testBit ((i + 12 - k % 12) % 12)
    let ror := fun (k : Nat) => gather fun i => a.testBit ((i + k) % 12)
    let shift := fun (i : Instr) (x : Nat) (c : Bool) => Stands s i → ∃ t, exec i s = .next t ∧ Computes s t q rd x (some c)
    shift (.sll q rd rs1 rs2) (a * 2 ^ b % 4096) (left b) ∧ shift (.shiSll q rd rs1 n) (a * 2 ^ n.val % 4096) (left n) ∧
    shift (.srl q rd rs1 rs2) (a / 2 ^ b) (out b) ∧ shift (.shiSrl q rd rs1 n) (a / 2 ^ n.val) (out n) ∧
    shift (.sra q rd rs1 rs2) (wrap 12 (A / 2 ^ b)) (out b) ∧ shift (.shiSra q rd rs1 n) (wrap 12 (A / 2 ^ n.val)) (out n) ∧
    shift (.rol q rd rs1 rs2) (rol b) (decide (b % 12 ≠ 0) && (rol b).testBit 0) ∧ shift (.shiRol q rd rs1 n) (rol n) (decide (n.val % 12 ≠ 0) && (rol n).testBit 0) ∧
    shift (.ror q rd rs1 rs2) (ror b) (decide (b % 12 ≠ 0) && (ror b).testBit 11) ∧ shift (.shiRor q rd rs1 n) (ror n) (decide (n.val % 12 ≠ 0) && (ror n).testBit 11)

/-- R222 to R231: the widths of the registers of the cores. -/
def Obligations.EveryStepKeepsTheCoreWidths : Prop :=
  ∀ s t : State, (∀ q, CoreSized (s.core q)) → step s = .next t → ∀ q, CoreSized (t.core q)

/-- R232 to R236: codes. That a row whose code does not stand at the PC changes nothing is the model's choice (log entry 7). -/
def Obligations.RowsActWhereTheirCodeStands : Prop :=
  ∀ (i : Instr) (q code free : Nat) (imm : Option Nat), codeOf i = some (q, code, free, imm) →
    code < 2 ^ 24 ∧ ((∀ (p : Fin 256) (r : Fin 32) (n : Fin 64), i = .mfs p r n ∨ i = .mts p r n → srGroup n ≠ none) → illegalDetail code = none) ∧
    (∀ (p : Fin 256) (r : Fin 32) (n : Fin 64), i = .mfs p r n ∨ i = .mts p r n → srGroup n = none → illegalDetail code = some 2) ∧
    ∀ s : State,
      (s.fetchFault q 2 = none → s.codeAt q ||| free ≠ code ||| free → exec i s = .next s) ∧
      (∀ x, imm = some x → s.fetchFault q 2 = none → s.fetchFault q 4 = none → s.immAt q ≠ x → exec i s = .next s)
end

