-- ==== Sys2Proof/Laws/Maps.lean ====
section
/-! SUPPORT. The sparse maps: what a read gives after a write, and that every operation keeps the canonical form. -/
namespace Sys2Proof.Machine.SMap

variable {α : Type} {d v : α} {m : SMap α} {k j lo : Nat}

theorem rising_mono (hl : j ≤ lo) (h : rising m lo = true) : rising m j = true := by
  cases m with
  | nil => rfl
  | cons e r =>
    simp only [rising, Bool.and_eq_true, decide_eq_true_eq] at h ⊢
    exact ⟨by omega, h.2⟩

theorem rising_erase (h : rising m lo = true) : rising (erase m k) lo = true := by
  induction m generalizing lo with
  | nil => rfl
  | cons e r ih =>
    simp only [rising, Bool.and_eq_true, decide_eq_true_eq] at h
    unfold erase
    split
    · exact rising_mono (by omega) (ih h.2)
    · simp only [rising, Bool.and_eq_true, decide_eq_true_eq]
      exact ⟨h.1, ih h.2⟩

/-- Key k is not listed. -/
def free (m : SMap α) (k : Nat) : Prop := ∀ e ∈ m, e.1 ≠ k

theorem free_erase : free (erase m k) k := by
  induction m with
  | nil => intro e h; cases h
  | cons e r ih =>
    unfold erase
    split
    · exact ih
    · rename_i hk
      intro x hx
      rcases List.mem_cons.1 hx with rfl | hx
      · exact hk
      · exact ih x hx

theorem rising_insert (hl : lo ≤ k) (hf : free m k) (h : rising m lo = true) : rising (insert m k v) lo = true := by
  induction m generalizing lo with
  | nil => simp [insert, rising, hl]
  | cons e r ih =>
    simp only [rising, Bool.and_eq_true, decide_eq_true_eq] at h
    have he : e.1 ≠ k := hf e List.mem_cons_self
    unfold insert
    split
    · rename_i hk
      simp only [rising, Bool.and_eq_true, decide_eq_true_eq]
      exact ⟨hl, by omega, h.2⟩
    · simp only [rising, Bool.and_eq_true, decide_eq_true_eq]
      exact ⟨h.1, ih (by omega) (fun x hx => hf x (List.mem_cons_of_mem _ hx)) h.2⟩

theorem rising_filter {p : Nat × α → Bool} (h : rising m lo = true) : rising (m.filter p) lo = true := by
  induction m generalizing lo with
  | nil => rfl
  | cons e r ih =>
    simp only [rising, Bool.and_eq_true, decide_eq_true_eq] at h
    rw [List.filter_cons]
    split
    · simp only [rising, Bool.and_eq_true, decide_eq_true_eq]
      exact ⟨h.1, ih h.2⟩
    · exact rising_mono (by omega) (ih h.2)

theorem get_erase : get d (erase m k) j = if j = k then d else get d m j := by
  induction m with
  | nil => simp [erase, get]
  | cons e r ih =>
    unfold erase
    split <;> rename_i hk
    · rw [ih]
      by_cases hj : j = k
      · simp [hj]
      · simp [hj, get, show e.1 ≠ j by omega]
    · simp only [get, ih]
      by_cases hj : e.1 = j
      · simp [hj, show ¬j = k by omega]
      · simp [hj]

theorem get_insert (hf : free m k) : get d (insert m k v) j = if j = k then v else get d m j := by
  induction m with
  | nil =>
    by_cases hj : j = k
    · simp [insert, get, hj]
    · simp [insert, get, hj, show ¬k = j by omega]
  | cons e r ih =>
    have he : e.1 ≠ k := hf e List.mem_cons_self
    unfold insert
    split
    · by_cases hj : j = k
      · simp [hj, get]
      · simp [get, hj, show ¬k = j by omega]
    · simp only [get, ih fun x hx => hf x (List.mem_cons_of_mem _ hx)]
      by_cases hj : e.1 = j
      · simp [hj, show ¬j = k by omega]
      · simp [hj]

theorem mem_erase {e : Nat × α} (h : e ∈ erase m k) : e ∈ m := by
  induction m with
  | nil => cases h
  | cons x r ih =>
    unfold erase at h
    split at h
    · exact List.mem_cons_of_mem _ (ih h)
    · rcases List.mem_cons.1 h with rfl | h
      · exact List.mem_cons_self
      · exact List.mem_cons_of_mem _ (ih h)

theorem mem_insert {e : Nat × α} (h : e ∈ insert m k v) : e = (k, v) ∨ e ∈ m := by
  induction m with
  | nil => exact .inl (by simpa [insert] using h)
  | cons x r ih =>
    unfold insert at h
    split at h
    · rcases List.mem_cons.1 h with rfl | h
      · exact .inl rfl
      · exact .inr h
    · rcases List.mem_cons.1 h with rfl | h
      · exact .inr List.mem_cons_self
      · exact (ih h).imp_right (List.mem_cons_of_mem _)

variable [DecidableEq α]

/-- A read after a write: the value written, and every other key as before. -/
@[simp] theorem get_set : get d (set d m k v) j = if j = k then v else get d m j := by
  unfold set
  split
  · rename_i h
    rw [get_erase, h]
  · rw [get_insert free_erase, get_erase]
    by_cases hj : j = k <;> simp [hj]

/-- A write leaves every other key as it was, whatever an unlisted key reads as. -/
theorem get_set_ne {e : α} (h : j ≠ k) : get e (set d m k v) j = get e m j := by
  unfold set
  split
  · rw [get_erase, if_neg h]
  · rw [get_insert free_erase, if_neg h, get_erase, if_neg h]

theorem rising_set (h : rising m 0 = true) : rising (set d m k v) 0 = true := by
  unfold set
  split
  · exact rising_erase h
  · exact rising_insert (Nat.zero_le k) free_erase (rising_erase h)

theorem mem_set {e : Nat × α} (h : e ∈ set d m k v) : (e = (k, v) ∧ v ≠ d) ∨ e ∈ m := by
  unfold set at h
  split at h
  · exact .inr (mem_erase h)
  · rename_i hv
    exact (mem_insert h).imp (fun x => ⟨x, hv⟩) mem_erase

/-- Writing keeps the canonical form. -/
theorem wf_set (h : wf d m = true) : wf d (set d m k v) = true := by
  simp only [wf, Bool.and_eq_true, List.all_eq_true, decide_eq_true_eq] at h ⊢
  refine ⟨rising_set h.1, fun e he => ?_⟩
  rcases mem_set he with ⟨rfl, hv⟩ | he
  · exact hv
  · exact h.2 e he

/-- Dropping entries keeps the canonical form. -/
theorem wf_filter {p : Nat × α → Bool} (h : wf d m = true) : wf d (m.filter p) = true := by
  simp only [wf, Bool.and_eq_true, List.all_eq_true, decide_eq_true_eq] at h ⊢
  exact ⟨rising_filter h.1, fun e he => h.2 e (List.mem_of_mem_filter he)⟩

end Sys2Proof.Machine.SMap
end

