-- ==== Sys2Proof/Laws/State.lean ====
section
/-! SUPPORT. What each update of the state leaves as it was, field by field, and what it writes: no later proof unfolds a record update. -/
namespace Sys2Proof.Machine.State
variable {s : State}

/-! ### wr -/
@[simp] theorem wr_time {f : Fld} {v : Nat} : (s.wr f v).time = s.time := rfl
@[simp] theorem wr_devOfs {f : Fld} {v : Nat} : (s.wr f v).devOfs = s.devOfs := rfl
@[simp] theorem wr_devNext {f : Fld} {v : Nat} : (s.wr f v).devNext = s.devNext := rfl
@[simp] theorem wr_free {f : Fld} {v : Nat} : (s.wr f v).free = s.free := rfl
@[simp] theorem wr_dev {f : Fld} {v : Nat} : (s.wr f v).dev = s.dev := rfl
@[simp] theorem wr_up {f : Fld} {v : Nat} : (s.wr f v).up = s.up := rfl
@[simp] theorem wr_devAt {f : Fld} {v : Nat} : (s.wr f v).devAt = s.devAt := rfl
@[simp] theorem wr_wide {f : Fld} {v : Nat} : (s.wr f v).wide = s.wide := rfl
@[simp] theorem wr_xtalLost {f : Fld} {v : Nat} : (s.wr f v).xtalLost = s.xtalLost := rfl
@[simp] theorem wr_aonLost {f : Fld} {v : Nat} : (s.wr f v).aonLost = s.aonLost := rfl
@[simp] theorem wr_runAt {f : Fld} {v : Nat} : (s.wr f v).runAt = s.runAt := rfl
@[simp] theorem wr_staged {f : Fld} {v : Nat} : (s.wr f v).staged = s.staged := rfl
@[simp] theorem wr_captured {f : Fld} {v : Nat} : (s.wr f v).captured = s.captured := rfl
@[simp] theorem wr_hwNow {f : Fld} {v : Nat} : (s.wr f v).hwNow = s.hwNow := rfl
@[simp] theorem wr_mem {f : Fld} {v : Nat} : (s.wr f v).mem = s.mem := rfl
@[simp] theorem wr_flash {f : Fld} {v : Nat} : (s.wr f v).flash = s.flash := rfl
@[simp] theorem wr_otp {f : Fld} {v : Nat} : (s.wr f v).otp = s.otp := rfl
@[simp] theorem wr_bad {f : Fld} {v : Nat} : (s.wr f v).bad = s.bad := rfl
@[simp] theorem wr_gens {f : Fld} {v : Nat} : (s.wr f v).gens = s.gens := rfl
@[simp] theorem wr_prots {f : Fld} {v : Nat} : (s.wr f v).prots = s.prots := rfl
@[simp] theorem wr_prfs {f : Fld} {v : Nat} : (s.wr f v).prfs = s.prfs := rfl
@[simp] theorem wr_dies {f : Fld} {v : Nat} : (s.wr f v).dies = s.dies := rfl
@[simp] theorem wr_seqrs {f : Fld} {v : Nat} : (s.wr f v).seqrs = s.seqrs := rfl
@[simp] theorem wr_groups {f : Fld} {v : Nat} : (s.wr f v).groups = s.groups := rfl
@[simp] theorem wr_bcast {f : Fld} {v : Nat} : (s.wr f v).bcast = s.bcast := rfl
@[simp] theorem wr_optics {f : Fld} {v : Nat} : (s.wr f v).optics = s.optics := rfl
@[simp] theorem wr_optSince {f : Fld} {v : Nat} : (s.wr f v).optSince = s.optSince := rfl
@[simp] theorem wr_rxs {f : Fld} {v : Nat} : (s.wr f v).rxs = s.rxs := rfl
@[simp] theorem wr_flight {f : Fld} {v : Nat} : (s.wr f v).flight = s.flight := rfl
@[simp] theorem wr_trp {f : Fld} {v : Nat} : (s.wr f v).trp = s.trp := rfl
@[simp] theorem wr_cores {f : Fld} {v : Nat} : (s.wr f v).cores = s.cores := rfl
@[simp] theorem wr_engs {f : Fld} {v : Nat} : (s.wr f v).engs = s.engs := rfl
@[simp] theorem wr_twins {f : Fld} {v : Nat} : (s.wr f v).twins = s.twins := rfl
@[simp] theorem wr_inps {f : Fld} {v : Nat} : (s.wr f v).inps = s.inps := rfl
@[simp] theorem wr_ipairs {f : Fld} {v : Nat} : (s.wr f v).ipairs = s.ipairs := rfl
@[simp] theorem wr_fns {f : Fld} {v : Nat} : (s.wr f v).fns = s.fns := rfl
@[simp] theorem wr_sio {f : Fld} {v : Nat} : (s.wr f v).sio = s.sio := rfl
@[simp] theorem wr_conns {f : Fld} {v : Nat} : (s.wr f v).conns = s.conns := rfl
@[simp] theorem wr_sent {f : Fld} {v : Nat} : (s.wr f v).sent = s.sent := rfl
@[simp] theorem wr_entryOff {f : Fld} {v : Nat} : (s.wr f v).entryOff = s.entryOff := rfl
@[simp] theorem wr_entryIn {f : Fld} {v : Nat} : (s.wr f v).entryIn = s.entryIn := rfl
@[simp] theorem wr_clock {f : Fld} {v : Nat} : (s.wr f v).clock = s.clock := rfl
@[simp] theorem wr_pair {f : Fld} {v : Nat} : (s.wr f v).pair = s.pair := rfl
@[simp] theorem wr_clus {f : Fld} {v : Nat} : (s.wr f v).clus = s.clus := rfl
@[simp] theorem wr_pwr {f : Fld} {v : Nat} : (s.wr f v).pwr = s.pwr := rfl
@[simp] theorem wr_heat {f : Fld} {v : Nat} : (s.wr f v).heat = s.heat := rfl
@[simp] theorem wr_recs {f : Fld} {v : Nat} : (s.wr f v).recs = s.recs := rfl
@[simp] theorem wr_sage {f : Fld} {v : Nat} : (s.wr f v).sage = s.sage := rfl
@[simp] theorem wr_ports {f : Fld} {v : Nat} : (s.wr f v).ports = s.ports := rfl
@[simp] theorem wr_watchAt {f : Fld} {v : Nat} : (s.wr f v).watchAt = s.watchAt := rfl
@[simp] theorem wr_coll {f : Fld} {v : Nat} : (s.wr f v).coll = s.coll := rfl
@[simp] theorem wr_pending {f : Fld} {v : Nat} : (s.wr f v).pending = s.pending := rfl
@[simp] theorem wr_gen {f : Fld} {v : Nat} {x : Nat} : (s.wr f v).gen x = s.gen x := rfl
@[simp] theorem wr_prot {f : Fld} {v : Nat} {x : Nat} : (s.wr f v).prot x = s.prot x := rfl
@[simp] theorem wr_core {f : Fld} {v : Nat} {x : Nat} : (s.wr f v).core x = s.core x := rfl
@[simp] theorem wr_conn {f : Fld} {v : Nat} {x : Nat} : (s.wr f v).conn x = s.conn x := rfl
@[simp] theorem wr_fn {f : Fld} {v : Nat} {x : Nat} : (s.wr f v).fn x = s.fn x := rfl
@[simp] theorem wr_group {f : Fld} {v : Nat} {x : Nat} : (s.wr f v).group x = s.group x := rfl
@[simp] theorem wr_otpWord {f : Fld} {v : Nat} {x : Nat} : (s.wr f v).otpWord x = s.otpWord x := rfl
@[simp] theorem wr_prf {f : Fld} {v : Nat} {x : Nat} : (s.wr f v).prf x = s.prf x := rfl
@[simp] theorem wr_die {f : Fld} {v : Nat} {x : Nat} : (s.wr f v).die x = s.die x := rfl
@[simp] theorem wr_seqr {f : Fld} {v : Nat} {x : Nat} : (s.wr f v).seqr x = s.seqr x := rfl
@[simp] theorem wr_optic {f : Fld} {v : Nat} {x : Nat} : (s.wr f v).optic x = s.optic x := rfl
@[simp] theorem wr_rx {f : Fld} {v : Nat} {x : Nat} : (s.wr f v).rx x = s.rx x := rfl
@[simp] theorem wr_clu {f : Fld} {v : Nat} {x : Nat} : (s.wr f v).clu x = s.clu x := rfl
@[simp] theorem wr_eng {f : Fld} {v : Nat} {x : Nat} : (s.wr f v).eng x = s.eng x := rfl
@[simp] theorem wr_twin {f : Fld} {v : Nat} {x : Nat} : (s.wr f v).twin x = s.twin x := rfl
@[simp] theorem wr_inp {f : Fld} {v : Nat} {x : Nat} : (s.wr f v).inp x = s.inp x := rfl
@[simp] theorem wr_ipair {f : Fld} {v : Nat} {x : Nat} : (s.wr f v).ipair x = s.ipair x := rfl
/-! ### put -/
@[simp] theorem put_time {f : Fld} {b : Bool} : (s.put f b).time = s.time := rfl
@[simp] theorem put_devOfs {f : Fld} {b : Bool} : (s.put f b).devOfs = s.devOfs := rfl
@[simp] theorem put_devNext {f : Fld} {b : Bool} : (s.put f b).devNext = s.devNext := rfl
@[simp] theorem put_free {f : Fld} {b : Bool} : (s.put f b).free = s.free := rfl
@[simp] theorem put_dev {f : Fld} {b : Bool} : (s.put f b).dev = s.dev := rfl
@[simp] theorem put_up {f : Fld} {b : Bool} : (s.put f b).up = s.up := rfl
@[simp] theorem put_devAt {f : Fld} {b : Bool} : (s.put f b).devAt = s.devAt := rfl
@[simp] theorem put_wide {f : Fld} {b : Bool} : (s.put f b).wide = s.wide := rfl
@[simp] theorem put_xtalLost {f : Fld} {b : Bool} : (s.put f b).xtalLost = s.xtalLost := rfl
@[simp] theorem put_aonLost {f : Fld} {b : Bool} : (s.put f b).aonLost = s.aonLost := rfl
@[simp] theorem put_runAt {f : Fld} {b : Bool} : (s.put f b).runAt = s.runAt := rfl
@[simp] theorem put_staged {f : Fld} {b : Bool} : (s.put f b).staged = s.staged := rfl
@[simp] theorem put_captured {f : Fld} {b : Bool} : (s.put f b).captured = s.captured := rfl
@[simp] theorem put_hwNow {f : Fld} {b : Bool} : (s.put f b).hwNow = s.hwNow := rfl
@[simp] theorem put_mem {f : Fld} {b : Bool} : (s.put f b).mem = s.mem := rfl
@[simp] theorem put_flash {f : Fld} {b : Bool} : (s.put f b).flash = s.flash := rfl
@[simp] theorem put_otp {f : Fld} {b : Bool} : (s.put f b).otp = s.otp := rfl
@[simp] theorem put_bad {f : Fld} {b : Bool} : (s.put f b).bad = s.bad := rfl
@[simp] theorem put_gens {f : Fld} {b : Bool} : (s.put f b).gens = s.gens := rfl
@[simp] theorem put_prots {f : Fld} {b : Bool} : (s.put f b).prots = s.prots := rfl
@[simp] theorem put_prfs {f : Fld} {b : Bool} : (s.put f b).prfs = s.prfs := rfl
@[simp] theorem put_dies {f : Fld} {b : Bool} : (s.put f b).dies = s.dies := rfl
@[simp] theorem put_seqrs {f : Fld} {b : Bool} : (s.put f b).seqrs = s.seqrs := rfl
@[simp] theorem put_groups {f : Fld} {b : Bool} : (s.put f b).groups = s.groups := rfl
@[simp] theorem put_bcast {f : Fld} {b : Bool} : (s.put f b).bcast = s.bcast := rfl
@[simp] theorem put_optics {f : Fld} {b : Bool} : (s.put f b).optics = s.optics := rfl
@[simp] theorem put_optSince {f : Fld} {b : Bool} : (s.put f b).optSince = s.optSince := rfl
@[simp] theorem put_rxs {f : Fld} {b : Bool} : (s.put f b).rxs = s.rxs := rfl
@[simp] theorem put_flight {f : Fld} {b : Bool} : (s.put f b).flight = s.flight := rfl
@[simp] theorem put_trp {f : Fld} {b : Bool} : (s.put f b).trp = s.trp := rfl
@[simp] theorem put_cores {f : Fld} {b : Bool} : (s.put f b).cores = s.cores := rfl
@[simp] theorem put_engs {f : Fld} {b : Bool} : (s.put f b).engs = s.engs := rfl
@[simp] theorem put_twins {f : Fld} {b : Bool} : (s.put f b).twins = s.twins := rfl
@[simp] theorem put_inps {f : Fld} {b : Bool} : (s.put f b).inps = s.inps := rfl
@[simp] theorem put_ipairs {f : Fld} {b : Bool} : (s.put f b).ipairs = s.ipairs := rfl
@[simp] theorem put_fns {f : Fld} {b : Bool} : (s.put f b).fns = s.fns := rfl
@[simp] theorem put_sio {f : Fld} {b : Bool} : (s.put f b).sio = s.sio := rfl
@[simp] theorem put_conns {f : Fld} {b : Bool} : (s.put f b).conns = s.conns := rfl
@[simp] theorem put_sent {f : Fld} {b : Bool} : (s.put f b).sent = s.sent := rfl
@[simp] theorem put_entryOff {f : Fld} {b : Bool} : (s.put f b).entryOff = s.entryOff := rfl
@[simp] theorem put_entryIn {f : Fld} {b : Bool} : (s.put f b).entryIn = s.entryIn := rfl
@[simp] theorem put_clock {f : Fld} {b : Bool} : (s.put f b).clock = s.clock := rfl
@[simp] theorem put_pair {f : Fld} {b : Bool} : (s.put f b).pair = s.pair := rfl
@[simp] theorem put_clus {f : Fld} {b : Bool} : (s.put f b).clus = s.clus := rfl
@[simp] theorem put_pwr {f : Fld} {b : Bool} : (s.put f b).pwr = s.pwr := rfl
@[simp] theorem put_heat {f : Fld} {b : Bool} : (s.put f b).heat = s.heat := rfl
@[simp] theorem put_recs {f : Fld} {b : Bool} : (s.put f b).recs = s.recs := rfl
@[simp] theorem put_sage {f : Fld} {b : Bool} : (s.put f b).sage = s.sage := rfl
@[simp] theorem put_ports {f : Fld} {b : Bool} : (s.put f b).ports = s.ports := rfl
@[simp] theorem put_watchAt {f : Fld} {b : Bool} : (s.put f b).watchAt = s.watchAt := rfl
@[simp] theorem put_coll {f : Fld} {b : Bool} : (s.put f b).coll = s.coll := rfl
@[simp] theorem put_pending {f : Fld} {b : Bool} : (s.put f b).pending = s.pending := rfl
@[simp] theorem put_gen {f : Fld} {b : Bool} {x : Nat} : (s.put f b).gen x = s.gen x := rfl
@[simp] theorem put_prot {f : Fld} {b : Bool} {x : Nat} : (s.put f b).prot x = s.prot x := rfl
@[simp] theorem put_core {f : Fld} {b : Bool} {x : Nat} : (s.put f b).core x = s.core x := rfl
@[simp] theorem put_conn {f : Fld} {b : Bool} {x : Nat} : (s.put f b).conn x = s.conn x := rfl
@[simp] theorem put_fn {f : Fld} {b : Bool} {x : Nat} : (s.put f b).fn x = s.fn x := rfl
@[simp] theorem put_group {f : Fld} {b : Bool} {x : Nat} : (s.put f b).group x = s.group x := rfl
@[simp] theorem put_otpWord {f : Fld} {b : Bool} {x : Nat} : (s.put f b).otpWord x = s.otpWord x := rfl
@[simp] theorem put_prf {f : Fld} {b : Bool} {x : Nat} : (s.put f b).prf x = s.prf x := rfl
@[simp] theorem put_die {f : Fld} {b : Bool} {x : Nat} : (s.put f b).die x = s.die x := rfl
@[simp] theorem put_seqr {f : Fld} {b : Bool} {x : Nat} : (s.put f b).seqr x = s.seqr x := rfl
@[simp] theorem put_optic {f : Fld} {b : Bool} {x : Nat} : (s.put f b).optic x = s.optic x := rfl
@[simp] theorem put_rx {f : Fld} {b : Bool} {x : Nat} : (s.put f b).rx x = s.rx x := rfl
@[simp] theorem put_clu {f : Fld} {b : Bool} {x : Nat} : (s.put f b).clu x = s.clu x := rfl
@[simp] theorem put_eng {f : Fld} {b : Bool} {x : Nat} : (s.put f b).eng x = s.eng x := rfl
@[simp] theorem put_twin {f : Fld} {b : Bool} {x : Nat} : (s.put f b).twin x = s.twin x := rfl
@[simp] theorem put_inp {f : Fld} {b : Bool} {x : Nat} : (s.put f b).inp x = s.inp x := rfl
@[simp] theorem put_ipair {f : Fld} {b : Bool} {x : Nat} : (s.put f b).ipair x = s.ipair x := rfl
/-! ### bump -/
@[simp] theorem bump_time {f : Fld} : (s.bump f).time = s.time := rfl
@[simp] theorem bump_devOfs {f : Fld} : (s.bump f).devOfs = s.devOfs := rfl
@[simp] theorem bump_devNext {f : Fld} : (s.bump f).devNext = s.devNext := rfl
@[simp] theorem bump_free {f : Fld} : (s.bump f).free = s.free := rfl
@[simp] theorem bump_dev {f : Fld} : (s.bump f).dev = s.dev := rfl
@[simp] theorem bump_up {f : Fld} : (s.bump f).up = s.up := rfl
@[simp] theorem bump_devAt {f : Fld} : (s.bump f).devAt = s.devAt := rfl
@[simp] theorem bump_wide {f : Fld} : (s.bump f).wide = s.wide := rfl
@[simp] theorem bump_xtalLost {f : Fld} : (s.bump f).xtalLost = s.xtalLost := rfl
@[simp] theorem bump_aonLost {f : Fld} : (s.bump f).aonLost = s.aonLost := rfl
@[simp] theorem bump_runAt {f : Fld} : (s.bump f).runAt = s.runAt := rfl
@[simp] theorem bump_staged {f : Fld} : (s.bump f).staged = s.staged := rfl
@[simp] theorem bump_captured {f : Fld} : (s.bump f).captured = s.captured := rfl
@[simp] theorem bump_hwNow {f : Fld} : (s.bump f).hwNow = s.hwNow := rfl
@[simp] theorem bump_mem {f : Fld} : (s.bump f).mem = s.mem := rfl
@[simp] theorem bump_flash {f : Fld} : (s.bump f).flash = s.flash := rfl
@[simp] theorem bump_otp {f : Fld} : (s.bump f).otp = s.otp := rfl
@[simp] theorem bump_bad {f : Fld} : (s.bump f).bad = s.bad := rfl
@[simp] theorem bump_gens {f : Fld} : (s.bump f).gens = s.gens := rfl
@[simp] theorem bump_prots {f : Fld} : (s.bump f).prots = s.prots := rfl
@[simp] theorem bump_prfs {f : Fld} : (s.bump f).prfs = s.prfs := rfl
@[simp] theorem bump_dies {f : Fld} : (s.bump f).dies = s.dies := rfl
@[simp] theorem bump_seqrs {f : Fld} : (s.bump f).seqrs = s.seqrs := rfl
@[simp] theorem bump_groups {f : Fld} : (s.bump f).groups = s.groups := rfl
@[simp] theorem bump_bcast {f : Fld} : (s.bump f).bcast = s.bcast := rfl
@[simp] theorem bump_optics {f : Fld} : (s.bump f).optics = s.optics := rfl
@[simp] theorem bump_optSince {f : Fld} : (s.bump f).optSince = s.optSince := rfl
@[simp] theorem bump_rxs {f : Fld} : (s.bump f).rxs = s.rxs := rfl
@[simp] theorem bump_flight {f : Fld} : (s.bump f).flight = s.flight := rfl
@[simp] theorem bump_trp {f : Fld} : (s.bump f).trp = s.trp := rfl
@[simp] theorem bump_cores {f : Fld} : (s.bump f).cores = s.cores := rfl
@[simp] theorem bump_engs {f : Fld} : (s.bump f).engs = s.engs := rfl
@[simp] theorem bump_twins {f : Fld} : (s.bump f).twins = s.twins := rfl
@[simp] theorem bump_inps {f : Fld} : (s.bump f).inps = s.inps := rfl
@[simp] theorem bump_ipairs {f : Fld} : (s.bump f).ipairs = s.ipairs := rfl
@[simp] theorem bump_fns {f : Fld} : (s.bump f).fns = s.fns := rfl
@[simp] theorem bump_sio {f : Fld} : (s.bump f).sio = s.sio := rfl
@[simp] theorem bump_conns {f : Fld} : (s.bump f).conns = s.conns := rfl
@[simp] theorem bump_sent {f : Fld} : (s.bump f).sent = s.sent := rfl
@[simp] theorem bump_entryOff {f : Fld} : (s.bump f).entryOff = s.entryOff := rfl
@[simp] theorem bump_entryIn {f : Fld} : (s.bump f).entryIn = s.entryIn := rfl
@[simp] theorem bump_clock {f : Fld} : (s.bump f).clock = s.clock := rfl
@[simp] theorem bump_pair {f : Fld} : (s.bump f).pair = s.pair := rfl
@[simp] theorem bump_clus {f : Fld} : (s.bump f).clus = s.clus := rfl
@[simp] theorem bump_pwr {f : Fld} : (s.bump f).pwr = s.pwr := rfl
@[simp] theorem bump_heat {f : Fld} : (s.bump f).heat = s.heat := rfl
@[simp] theorem bump_recs {f : Fld} : (s.bump f).recs = s.recs := rfl
@[simp] theorem bump_sage {f : Fld} : (s.bump f).sage = s.sage := rfl
@[simp] theorem bump_ports {f : Fld} : (s.bump f).ports = s.ports := rfl
@[simp] theorem bump_watchAt {f : Fld} : (s.bump f).watchAt = s.watchAt := rfl
@[simp] theorem bump_coll {f : Fld} : (s.bump f).coll = s.coll := rfl
@[simp] theorem bump_pending {f : Fld} : (s.bump f).pending = s.pending := rfl
@[simp] theorem bump_gen {f : Fld} {x : Nat} : (s.bump f).gen x = s.gen x := rfl
@[simp] theorem bump_prot {f : Fld} {x : Nat} : (s.bump f).prot x = s.prot x := rfl
@[simp] theorem bump_core {f : Fld} {x : Nat} : (s.bump f).core x = s.core x := rfl
@[simp] theorem bump_conn {f : Fld} {x : Nat} : (s.bump f).conn x = s.conn x := rfl
@[simp] theorem bump_fn {f : Fld} {x : Nat} : (s.bump f).fn x = s.fn x := rfl
@[simp] theorem bump_group {f : Fld} {x : Nat} : (s.bump f).group x = s.group x := rfl
@[simp] theorem bump_otpWord {f : Fld} {x : Nat} : (s.bump f).otpWord x = s.otpWord x := rfl
@[simp] theorem bump_prf {f : Fld} {x : Nat} : (s.bump f).prf x = s.prf x := rfl
@[simp] theorem bump_die {f : Fld} {x : Nat} : (s.bump f).die x = s.die x := rfl
@[simp] theorem bump_seqr {f : Fld} {x : Nat} : (s.bump f).seqr x = s.seqr x := rfl
@[simp] theorem bump_optic {f : Fld} {x : Nat} : (s.bump f).optic x = s.optic x := rfl
@[simp] theorem bump_rx {f : Fld} {x : Nat} : (s.bump f).rx x = s.rx x := rfl
@[simp] theorem bump_clu {f : Fld} {x : Nat} : (s.bump f).clu x = s.clu x := rfl
@[simp] theorem bump_eng {f : Fld} {x : Nat} : (s.bump f).eng x = s.eng x := rfl
@[simp] theorem bump_twin {f : Fld} {x : Nat} : (s.bump f).twin x = s.twin x := rfl
@[simp] theorem bump_inp {f : Fld} {x : Nat} : (s.bump f).inp x = s.inp x := rfl
@[simp] theorem bump_ipair {f : Fld} {x : Nat} : (s.bump f).ipair x = s.ipair x := rfl
/-! ### putBit -/
@[simp] theorem putBit_time {f : Fld} {i : Nat} {b : Bool} : (s.putBit f i b).time = s.time := rfl
@[simp] theorem putBit_devOfs {f : Fld} {i : Nat} {b : Bool} : (s.putBit f i b).devOfs = s.devOfs := rfl
@[simp] theorem putBit_devNext {f : Fld} {i : Nat} {b : Bool} : (s.putBit f i b).devNext = s.devNext := rfl
@[simp] theorem putBit_free {f : Fld} {i : Nat} {b : Bool} : (s.putBit f i b).free = s.free := rfl
@[simp] theorem putBit_dev {f : Fld} {i : Nat} {b : Bool} : (s.putBit f i b).dev = s.dev := rfl
@[simp] theorem putBit_up {f : Fld} {i : Nat} {b : Bool} : (s.putBit f i b).up = s.up := rfl
@[simp] theorem putBit_devAt {f : Fld} {i : Nat} {b : Bool} : (s.putBit f i b).devAt = s.devAt := rfl
@[simp] theorem putBit_wide {f : Fld} {i : Nat} {b : Bool} : (s.putBit f i b).wide = s.wide := rfl
@[simp] theorem putBit_xtalLost {f : Fld} {i : Nat} {b : Bool} : (s.putBit f i b).xtalLost = s.xtalLost := rfl
@[simp] theorem putBit_aonLost {f : Fld} {i : Nat} {b : Bool} : (s.putBit f i b).aonLost = s.aonLost := rfl
@[simp] theorem putBit_runAt {f : Fld} {i : Nat} {b : Bool} : (s.putBit f i b).runAt = s.runAt := rfl
@[simp] theorem putBit_staged {f : Fld} {i : Nat} {b : Bool} : (s.putBit f i b).staged = s.staged := rfl
@[simp] theorem putBit_captured {f : Fld} {i : Nat} {b : Bool} : (s.putBit f i b).captured = s.captured := rfl
@[simp] theorem putBit_hwNow {f : Fld} {i : Nat} {b : Bool} : (s.putBit f i b).hwNow = s.hwNow := rfl
@[simp] theorem putBit_mem {f : Fld} {i : Nat} {b : Bool} : (s.putBit f i b).mem = s.mem := rfl
@[simp] theorem putBit_flash {f : Fld} {i : Nat} {b : Bool} : (s.putBit f i b).flash = s.flash := rfl
@[simp] theorem putBit_otp {f : Fld} {i : Nat} {b : Bool} : (s.putBit f i b).otp = s.otp := rfl
@[simp] theorem putBit_bad {f : Fld} {i : Nat} {b : Bool} : (s.putBit f i b).bad = s.bad := rfl
@[simp] theorem putBit_gens {f : Fld} {i : Nat} {b : Bool} : (s.putBit f i b).gens = s.gens := rfl
@[simp] theorem putBit_prots {f : Fld} {i : Nat} {b : Bool} : (s.putBit f i b).prots = s.prots := rfl
@[simp] theorem putBit_prfs {f : Fld} {i : Nat} {b : Bool} : (s.putBit f i b).prfs = s.prfs := rfl
@[simp] theorem putBit_dies {f : Fld} {i : Nat} {b : Bool} : (s.putBit f i b).dies = s.dies := rfl
@[simp] theorem putBit_seqrs {f : Fld} {i : Nat} {b : Bool} : (s.putBit f i b).seqrs = s.seqrs := rfl
@[simp] theorem putBit_groups {f : Fld} {i : Nat} {b : Bool} : (s.putBit f i b).groups = s.groups := rfl
@[simp] theorem putBit_bcast {f : Fld} {i : Nat} {b : Bool} : (s.putBit f i b).bcast = s.bcast := rfl
@[simp] theorem putBit_optics {f : Fld} {i : Nat} {b : Bool} : (s.putBit f i b).optics = s.optics := rfl
@[simp] theorem putBit_optSince {f : Fld} {i : Nat} {b : Bool} : (s.putBit f i b).optSince = s.optSince := rfl
@[simp] theorem putBit_rxs {f : Fld} {i : Nat} {b : Bool} : (s.putBit f i b).rxs = s.rxs := rfl
@[simp] theorem putBit_flight {f : Fld} {i : Nat} {b : Bool} : (s.putBit f i b).flight = s.flight := rfl
@[simp] theorem putBit_trp {f : Fld} {i : Nat} {b : Bool} : (s.putBit f i b).trp = s.trp := rfl
@[simp] theorem putBit_cores {f : Fld} {i : Nat} {b : Bool} : (s.putBit f i b).cores = s.cores := rfl
@[simp] theorem putBit_engs {f : Fld} {i : Nat} {b : Bool} : (s.putBit f i b).engs = s.engs := rfl
@[simp] theorem putBit_twins {f : Fld} {i : Nat} {b : Bool} : (s.putBit f i b).twins = s.twins := rfl
@[simp] theorem putBit_inps {f : Fld} {i : Nat} {b : Bool} : (s.putBit f i b).inps = s.inps := rfl
@[simp] theorem putBit_ipairs {f : Fld} {i : Nat} {b : Bool} : (s.putBit f i b).ipairs = s.ipairs := rfl
@[simp] theorem putBit_fns {f : Fld} {i : Nat} {b : Bool} : (s.putBit f i b).fns = s.fns := rfl
@[simp] theorem putBit_sio {f : Fld} {i : Nat} {b : Bool} : (s.putBit f i b).sio = s.sio := rfl
@[simp] theorem putBit_conns {f : Fld} {i : Nat} {b : Bool} : (s.putBit f i b).conns = s.conns := rfl
@[simp] theorem putBit_sent {f : Fld} {i : Nat} {b : Bool} : (s.putBit f i b).sent = s.sent := rfl
@[simp] theorem putBit_entryOff {f : Fld} {i : Nat} {b : Bool} : (s.putBit f i b).entryOff = s.entryOff := rfl
@[simp] theorem putBit_entryIn {f : Fld} {i : Nat} {b : Bool} : (s.putBit f i b).entryIn = s.entryIn := rfl
@[simp] theorem putBit_clock {f : Fld} {i : Nat} {b : Bool} : (s.putBit f i b).clock = s.clock := rfl
@[simp] theorem putBit_pair {f : Fld} {i : Nat} {b : Bool} : (s.putBit f i b).pair = s.pair := rfl
@[simp] theorem putBit_clus {f : Fld} {i : Nat} {b : Bool} : (s.putBit f i b).clus = s.clus := rfl
@[simp] theorem putBit_pwr {f : Fld} {i : Nat} {b : Bool} : (s.putBit f i b).pwr = s.pwr := rfl
@[simp] theorem putBit_heat {f : Fld} {i : Nat} {b : Bool} : (s.putBit f i b).heat = s.heat := rfl
@[simp] theorem putBit_recs {f : Fld} {i : Nat} {b : Bool} : (s.putBit f i b).recs = s.recs := rfl
@[simp] theorem putBit_sage {f : Fld} {i : Nat} {b : Bool} : (s.putBit f i b).sage = s.sage := rfl
@[simp] theorem putBit_ports {f : Fld} {i : Nat} {b : Bool} : (s.putBit f i b).ports = s.ports := rfl
@[simp] theorem putBit_watchAt {f : Fld} {i : Nat} {b : Bool} : (s.putBit f i b).watchAt = s.watchAt := rfl
@[simp] theorem putBit_coll {f : Fld} {i : Nat} {b : Bool} : (s.putBit f i b).coll = s.coll := rfl
@[simp] theorem putBit_pending {f : Fld} {i : Nat} {b : Bool} : (s.putBit f i b).pending = s.pending := rfl
@[simp] theorem putBit_gen {f : Fld} {i : Nat} {b : Bool} {x : Nat} : (s.putBit f i b).gen x = s.gen x := rfl
@[simp] theorem putBit_prot {f : Fld} {i : Nat} {b : Bool} {x : Nat} : (s.putBit f i b).prot x = s.prot x := rfl
@[simp] theorem putBit_core {f : Fld} {i : Nat} {b : Bool} {x : Nat} : (s.putBit f i b).core x = s.core x := rfl
@[simp] theorem putBit_conn {f : Fld} {i : Nat} {b : Bool} {x : Nat} : (s.putBit f i b).conn x = s.conn x := rfl
@[simp] theorem putBit_fn {f : Fld} {i : Nat} {b : Bool} {x : Nat} : (s.putBit f i b).fn x = s.fn x := rfl
@[simp] theorem putBit_group {f : Fld} {i : Nat} {b : Bool} {x : Nat} : (s.putBit f i b).group x = s.group x := rfl
@[simp] theorem putBit_otpWord {f : Fld} {i : Nat} {b : Bool} {x : Nat} : (s.putBit f i b).otpWord x = s.otpWord x := rfl
@[simp] theorem putBit_prf {f : Fld} {i : Nat} {b : Bool} {x : Nat} : (s.putBit f i b).prf x = s.prf x := rfl
@[simp] theorem putBit_die {f : Fld} {i : Nat} {b : Bool} {x : Nat} : (s.putBit f i b).die x = s.die x := rfl
@[simp] theorem putBit_seqr {f : Fld} {i : Nat} {b : Bool} {x : Nat} : (s.putBit f i b).seqr x = s.seqr x := rfl
@[simp] theorem putBit_optic {f : Fld} {i : Nat} {b : Bool} {x : Nat} : (s.putBit f i b).optic x = s.optic x := rfl
@[simp] theorem putBit_rx {f : Fld} {i : Nat} {b : Bool} {x : Nat} : (s.putBit f i b).rx x = s.rx x := rfl
@[simp] theorem putBit_clu {f : Fld} {i : Nat} {b : Bool} {x : Nat} : (s.putBit f i b).clu x = s.clu x := rfl
@[simp] theorem putBit_eng {f : Fld} {i : Nat} {b : Bool} {x : Nat} : (s.putBit f i b).eng x = s.eng x := rfl
@[simp] theorem putBit_twin {f : Fld} {i : Nat} {b : Bool} {x : Nat} : (s.putBit f i b).twin x = s.twin x := rfl
@[simp] theorem putBit_inp {f : Fld} {i : Nat} {b : Bool} {x : Nat} : (s.putBit f i b).inp x = s.inp x := rfl
@[simp] theorem putBit_ipair {f : Fld} {i : Nat} {b : Bool} {x : Nat} : (s.putBit f i b).ipair x = s.ipair x := rfl
/-! ### mark -/
@[simp] theorem mark_time {f : Fld} {m : Nat} : (s.mark f m).time = s.time := rfl
@[simp] theorem mark_devOfs {f : Fld} {m : Nat} : (s.mark f m).devOfs = s.devOfs := rfl
@[simp] theorem mark_devNext {f : Fld} {m : Nat} : (s.mark f m).devNext = s.devNext := rfl
@[simp] theorem mark_free {f : Fld} {m : Nat} : (s.mark f m).free = s.free := rfl
@[simp] theorem mark_dev {f : Fld} {m : Nat} : (s.mark f m).dev = s.dev := rfl
@[simp] theorem mark_up {f : Fld} {m : Nat} : (s.mark f m).up = s.up := rfl
@[simp] theorem mark_devAt {f : Fld} {m : Nat} : (s.mark f m).devAt = s.devAt := rfl
@[simp] theorem mark_wide {f : Fld} {m : Nat} : (s.mark f m).wide = s.wide := rfl
@[simp] theorem mark_xtalLost {f : Fld} {m : Nat} : (s.mark f m).xtalLost = s.xtalLost := rfl
@[simp] theorem mark_aonLost {f : Fld} {m : Nat} : (s.mark f m).aonLost = s.aonLost := rfl
@[simp] theorem mark_runAt {f : Fld} {m : Nat} : (s.mark f m).runAt = s.runAt := rfl
@[simp] theorem mark_regs {f : Fld} {m : Nat} : (s.mark f m).regs = s.regs := rfl
@[simp] theorem mark_staged {f : Fld} {m : Nat} : (s.mark f m).staged = s.staged := rfl
@[simp] theorem mark_captured {f : Fld} {m : Nat} : (s.mark f m).captured = s.captured := rfl
@[simp] theorem mark_mem {f : Fld} {m : Nat} : (s.mark f m).mem = s.mem := rfl
@[simp] theorem mark_flash {f : Fld} {m : Nat} : (s.mark f m).flash = s.flash := rfl
@[simp] theorem mark_otp {f : Fld} {m : Nat} : (s.mark f m).otp = s.otp := rfl
@[simp] theorem mark_bad {f : Fld} {m : Nat} : (s.mark f m).bad = s.bad := rfl
@[simp] theorem mark_gens {f : Fld} {m : Nat} : (s.mark f m).gens = s.gens := rfl
@[simp] theorem mark_prots {f : Fld} {m : Nat} : (s.mark f m).prots = s.prots := rfl
@[simp] theorem mark_prfs {f : Fld} {m : Nat} : (s.mark f m).prfs = s.prfs := rfl
@[simp] theorem mark_dies {f : Fld} {m : Nat} : (s.mark f m).dies = s.dies := rfl
@[simp] theorem mark_seqrs {f : Fld} {m : Nat} : (s.mark f m).seqrs = s.seqrs := rfl
@[simp] theorem mark_groups {f : Fld} {m : Nat} : (s.mark f m).groups = s.groups := rfl
@[simp] theorem mark_bcast {f : Fld} {m : Nat} : (s.mark f m).bcast = s.bcast := rfl
@[simp] theorem mark_optics {f : Fld} {m : Nat} : (s.mark f m).optics = s.optics := rfl
@[simp] theorem mark_optSince {f : Fld} {m : Nat} : (s.mark f m).optSince = s.optSince := rfl
@[simp] theorem mark_rxs {f : Fld} {m : Nat} : (s.mark f m).rxs = s.rxs := rfl
@[simp] theorem mark_flight {f : Fld} {m : Nat} : (s.mark f m).flight = s.flight := rfl
@[simp] theorem mark_trp {f : Fld} {m : Nat} : (s.mark f m).trp = s.trp := rfl
@[simp] theorem mark_cores {f : Fld} {m : Nat} : (s.mark f m).cores = s.cores := rfl
@[simp] theorem mark_engs {f : Fld} {m : Nat} : (s.mark f m).engs = s.engs := rfl
@[simp] theorem mark_twins {f : Fld} {m : Nat} : (s.mark f m).twins = s.twins := rfl
@[simp] theorem mark_inps {f : Fld} {m : Nat} : (s.mark f m).inps = s.inps := rfl
@[simp] theorem mark_ipairs {f : Fld} {m : Nat} : (s.mark f m).ipairs = s.ipairs := rfl
@[simp] theorem mark_fns {f : Fld} {m : Nat} : (s.mark f m).fns = s.fns := rfl
@[simp] theorem mark_sio {f : Fld} {m : Nat} : (s.mark f m).sio = s.sio := rfl
@[simp] theorem mark_conns {f : Fld} {m : Nat} : (s.mark f m).conns = s.conns := rfl
@[simp] theorem mark_sent {f : Fld} {m : Nat} : (s.mark f m).sent = s.sent := rfl
@[simp] theorem mark_entryOff {f : Fld} {m : Nat} : (s.mark f m).entryOff = s.entryOff := rfl
@[simp] theorem mark_entryIn {f : Fld} {m : Nat} : (s.mark f m).entryIn = s.entryIn := rfl
@[simp] theorem mark_clock {f : Fld} {m : Nat} : (s.mark f m).clock = s.clock := rfl
@[simp] theorem mark_pair {f : Fld} {m : Nat} : (s.mark f m).pair = s.pair := rfl
@[simp] theorem mark_clus {f : Fld} {m : Nat} : (s.mark f m).clus = s.clus := rfl
@[simp] theorem mark_pwr {f : Fld} {m : Nat} : (s.mark f m).pwr = s.pwr := rfl
@[simp] theorem mark_heat {f : Fld} {m : Nat} : (s.mark f m).heat = s.heat := rfl
@[simp] theorem mark_recs {f : Fld} {m : Nat} : (s.mark f m).recs = s.recs := rfl
@[simp] theorem mark_sage {f : Fld} {m : Nat} : (s.mark f m).sage = s.sage := rfl
@[simp] theorem mark_ports {f : Fld} {m : Nat} : (s.mark f m).ports = s.ports := rfl
@[simp] theorem mark_watchAt {f : Fld} {m : Nat} : (s.mark f m).watchAt = s.watchAt := rfl
@[simp] theorem mark_coll {f : Fld} {m : Nat} : (s.mark f m).coll = s.coll := rfl
@[simp] theorem mark_pending {f : Fld} {m : Nat} : (s.mark f m).pending = s.pending := rfl
@[simp] theorem mark_rd {f : Fld} {m : Nat} {x : Fld} : (s.mark f m).rd x = s.rd x := rfl
@[simp] theorem mark_gen {f : Fld} {m : Nat} {x : Nat} : (s.mark f m).gen x = s.gen x := rfl
@[simp] theorem mark_prot {f : Fld} {m : Nat} {x : Nat} : (s.mark f m).prot x = s.prot x := rfl
@[simp] theorem mark_core {f : Fld} {m : Nat} {x : Nat} : (s.mark f m).core x = s.core x := rfl
@[simp] theorem mark_conn {f : Fld} {m : Nat} {x : Nat} : (s.mark f m).conn x = s.conn x := rfl
@[simp] theorem mark_fn {f : Fld} {m : Nat} {x : Nat} : (s.mark f m).fn x = s.fn x := rfl
@[simp] theorem mark_group {f : Fld} {m : Nat} {x : Nat} : (s.mark f m).group x = s.group x := rfl
@[simp] theorem mark_otpWord {f : Fld} {m : Nat} {x : Nat} : (s.mark f m).otpWord x = s.otpWord x := rfl
@[simp] theorem mark_prf {f : Fld} {m : Nat} {x : Nat} : (s.mark f m).prf x = s.prf x := rfl
@[simp] theorem mark_die {f : Fld} {m : Nat} {x : Nat} : (s.mark f m).die x = s.die x := rfl
@[simp] theorem mark_seqr {f : Fld} {m : Nat} {x : Nat} : (s.mark f m).seqr x = s.seqr x := rfl
@[simp] theorem mark_optic {f : Fld} {m : Nat} {x : Nat} : (s.mark f m).optic x = s.optic x := rfl
@[simp] theorem mark_rx {f : Fld} {m : Nat} {x : Nat} : (s.mark f m).rx x = s.rx x := rfl
@[simp] theorem mark_clu {f : Fld} {m : Nat} {x : Nat} : (s.mark f m).clu x = s.clu x := rfl
@[simp] theorem mark_eng {f : Fld} {m : Nat} {x : Nat} : (s.mark f m).eng x = s.eng x := rfl
@[simp] theorem mark_twin {f : Fld} {m : Nat} {x : Nat} : (s.mark f m).twin x = s.twin x := rfl
@[simp] theorem mark_inp {f : Fld} {m : Nat} {x : Nat} : (s.mark f m).inp x = s.inp x := rfl
@[simp] theorem mark_ipair {f : Fld} {m : Nat} {x : Nat} : (s.mark f m).ipair x = s.ipair x := rfl
/-! ### raiseFlag -/
@[simp] theorem raiseFlag_time {f : Fld} : (s.raiseFlag f).time = s.time := rfl
@[simp] theorem raiseFlag_devOfs {f : Fld} : (s.raiseFlag f).devOfs = s.devOfs := rfl
@[simp] theorem raiseFlag_devNext {f : Fld} : (s.raiseFlag f).devNext = s.devNext := rfl
@[simp] theorem raiseFlag_free {f : Fld} : (s.raiseFlag f).free = s.free := rfl
@[simp] theorem raiseFlag_dev {f : Fld} : (s.raiseFlag f).dev = s.dev := rfl
@[simp] theorem raiseFlag_up {f : Fld} : (s.raiseFlag f).up = s.up := rfl
@[simp] theorem raiseFlag_devAt {f : Fld} : (s.raiseFlag f).devAt = s.devAt := rfl
@[simp] theorem raiseFlag_wide {f : Fld} : (s.raiseFlag f).wide = s.wide := rfl
@[simp] theorem raiseFlag_xtalLost {f : Fld} : (s.raiseFlag f).xtalLost = s.xtalLost := rfl
@[simp] theorem raiseFlag_aonLost {f : Fld} : (s.raiseFlag f).aonLost = s.aonLost := rfl
@[simp] theorem raiseFlag_runAt {f : Fld} : (s.raiseFlag f).runAt = s.runAt := rfl
@[simp] theorem raiseFlag_staged {f : Fld} : (s.raiseFlag f).staged = s.staged := rfl
@[simp] theorem raiseFlag_captured {f : Fld} : (s.raiseFlag f).captured = s.captured := rfl
@[simp] theorem raiseFlag_mem {f : Fld} : (s.raiseFlag f).mem = s.mem := rfl
@[simp] theorem raiseFlag_flash {f : Fld} : (s.raiseFlag f).flash = s.flash := rfl
@[simp] theorem raiseFlag_otp {f : Fld} : (s.raiseFlag f).otp = s.otp := rfl
@[simp] theorem raiseFlag_bad {f : Fld} : (s.raiseFlag f).bad = s.bad := rfl
@[simp] theorem raiseFlag_gens {f : Fld} : (s.raiseFlag f).gens = s.gens := rfl
@[simp] theorem raiseFlag_prots {f : Fld} : (s.raiseFlag f).prots = s.prots := rfl
@[simp] theorem raiseFlag_prfs {f : Fld} : (s.raiseFlag f).prfs = s.prfs := rfl
@[simp] theorem raiseFlag_dies {f : Fld} : (s.raiseFlag f).dies = s.dies := rfl
@[simp] theorem raiseFlag_seqrs {f : Fld} : (s.raiseFlag f).seqrs = s.seqrs := rfl
@[simp] theorem raiseFlag_groups {f : Fld} : (s.raiseFlag f).groups = s.groups := rfl
@[simp] theorem raiseFlag_bcast {f : Fld} : (s.raiseFlag f).bcast = s.bcast := rfl
@[simp] theorem raiseFlag_optics {f : Fld} : (s.raiseFlag f).optics = s.optics := rfl
@[simp] theorem raiseFlag_optSince {f : Fld} : (s.raiseFlag f).optSince = s.optSince := rfl
@[simp] theorem raiseFlag_rxs {f : Fld} : (s.raiseFlag f).rxs = s.rxs := rfl
@[simp] theorem raiseFlag_flight {f : Fld} : (s.raiseFlag f).flight = s.flight := rfl
@[simp] theorem raiseFlag_trp {f : Fld} : (s.raiseFlag f).trp = s.trp := rfl
@[simp] theorem raiseFlag_cores {f : Fld} : (s.raiseFlag f).cores = s.cores := rfl
@[simp] theorem raiseFlag_engs {f : Fld} : (s.raiseFlag f).engs = s.engs := rfl
@[simp] theorem raiseFlag_twins {f : Fld} : (s.raiseFlag f).twins = s.twins := rfl
@[simp] theorem raiseFlag_inps {f : Fld} : (s.raiseFlag f).inps = s.inps := rfl
@[simp] theorem raiseFlag_ipairs {f : Fld} : (s.raiseFlag f).ipairs = s.ipairs := rfl
@[simp] theorem raiseFlag_fns {f : Fld} : (s.raiseFlag f).fns = s.fns := rfl
@[simp] theorem raiseFlag_sio {f : Fld} : (s.raiseFlag f).sio = s.sio := rfl
@[simp] theorem raiseFlag_conns {f : Fld} : (s.raiseFlag f).conns = s.conns := rfl
@[simp] theorem raiseFlag_sent {f : Fld} : (s.raiseFlag f).sent = s.sent := rfl
@[simp] theorem raiseFlag_entryOff {f : Fld} : (s.raiseFlag f).entryOff = s.entryOff := rfl
@[simp] theorem raiseFlag_entryIn {f : Fld} : (s.raiseFlag f).entryIn = s.entryIn := rfl
@[simp] theorem raiseFlag_clock {f : Fld} : (s.raiseFlag f).clock = s.clock := rfl
@[simp] theorem raiseFlag_pair {f : Fld} : (s.raiseFlag f).pair = s.pair := rfl
@[simp] theorem raiseFlag_clus {f : Fld} : (s.raiseFlag f).clus = s.clus := rfl
@[simp] theorem raiseFlag_pwr {f : Fld} : (s.raiseFlag f).pwr = s.pwr := rfl
@[simp] theorem raiseFlag_heat {f : Fld} : (s.raiseFlag f).heat = s.heat := rfl
@[simp] theorem raiseFlag_recs {f : Fld} : (s.raiseFlag f).recs = s.recs := rfl
@[simp] theorem raiseFlag_sage {f : Fld} : (s.raiseFlag f).sage = s.sage := rfl
@[simp] theorem raiseFlag_ports {f : Fld} : (s.raiseFlag f).ports = s.ports := rfl
@[simp] theorem raiseFlag_watchAt {f : Fld} : (s.raiseFlag f).watchAt = s.watchAt := rfl
@[simp] theorem raiseFlag_coll {f : Fld} : (s.raiseFlag f).coll = s.coll := rfl
@[simp] theorem raiseFlag_pending {f : Fld} : (s.raiseFlag f).pending = s.pending := rfl
@[simp] theorem raiseFlag_gen {f : Fld} {x : Nat} : (s.raiseFlag f).gen x = s.gen x := rfl
@[simp] theorem raiseFlag_prot {f : Fld} {x : Nat} : (s.raiseFlag f).prot x = s.prot x := rfl
@[simp] theorem raiseFlag_core {f : Fld} {x : Nat} : (s.raiseFlag f).core x = s.core x := rfl
@[simp] theorem raiseFlag_conn {f : Fld} {x : Nat} : (s.raiseFlag f).conn x = s.conn x := rfl
@[simp] theorem raiseFlag_fn {f : Fld} {x : Nat} : (s.raiseFlag f).fn x = s.fn x := rfl
@[simp] theorem raiseFlag_group {f : Fld} {x : Nat} : (s.raiseFlag f).group x = s.group x := rfl
@[simp] theorem raiseFlag_otpWord {f : Fld} {x : Nat} : (s.raiseFlag f).otpWord x = s.otpWord x := rfl
@[simp] theorem raiseFlag_prf {f : Fld} {x : Nat} : (s.raiseFlag f).prf x = s.prf x := rfl
@[simp] theorem raiseFlag_die {f : Fld} {x : Nat} : (s.raiseFlag f).die x = s.die x := rfl
@[simp] theorem raiseFlag_seqr {f : Fld} {x : Nat} : (s.raiseFlag f).seqr x = s.seqr x := rfl
@[simp] theorem raiseFlag_optic {f : Fld} {x : Nat} : (s.raiseFlag f).optic x = s.optic x := rfl
@[simp] theorem raiseFlag_rx {f : Fld} {x : Nat} : (s.raiseFlag f).rx x = s.rx x := rfl
@[simp] theorem raiseFlag_clu {f : Fld} {x : Nat} : (s.raiseFlag f).clu x = s.clu x := rfl
@[simp] theorem raiseFlag_eng {f : Fld} {x : Nat} : (s.raiseFlag f).eng x = s.eng x := rfl
@[simp] theorem raiseFlag_twin {f : Fld} {x : Nat} : (s.raiseFlag f).twin x = s.twin x := rfl
@[simp] theorem raiseFlag_inp {f : Fld} {x : Nat} : (s.raiseFlag f).inp x = s.inp x := rfl
@[simp] theorem raiseFlag_ipair {f : Fld} {x : Nat} : (s.raiseFlag f).ipair x = s.ipair x := rfl
/-! ### raiseBit -/
@[simp] theorem raiseBit_time {f : Fld} {i : Nat} : (s.raiseBit f i).time = s.time := rfl
@[simp] theorem raiseBit_devOfs {f : Fld} {i : Nat} : (s.raiseBit f i).devOfs = s.devOfs := rfl
@[simp] theorem raiseBit_devNext {f : Fld} {i : Nat} : (s.raiseBit f i).devNext = s.devNext := rfl
@[simp] theorem raiseBit_free {f : Fld} {i : Nat} : (s.raiseBit f i).free = s.free := rfl
@[simp] theorem raiseBit_dev {f : Fld} {i : Nat} : (s.raiseBit f i).dev = s.dev := rfl
@[simp] theorem raiseBit_up {f : Fld} {i : Nat} : (s.raiseBit f i).up = s.up := rfl
@[simp] theorem raiseBit_devAt {f : Fld} {i : Nat} : (s.raiseBit f i).devAt = s.devAt := rfl
@[simp] theorem raiseBit_wide {f : Fld} {i : Nat} : (s.raiseBit f i).wide = s.wide := rfl
@[simp] theorem raiseBit_xtalLost {f : Fld} {i : Nat} : (s.raiseBit f i).xtalLost = s.xtalLost := rfl
@[simp] theorem raiseBit_aonLost {f : Fld} {i : Nat} : (s.raiseBit f i).aonLost = s.aonLost := rfl
@[simp] theorem raiseBit_runAt {f : Fld} {i : Nat} : (s.raiseBit f i).runAt = s.runAt := rfl
@[simp] theorem raiseBit_staged {f : Fld} {i : Nat} : (s.raiseBit f i).staged = s.staged := rfl
@[simp] theorem raiseBit_captured {f : Fld} {i : Nat} : (s.raiseBit f i).captured = s.captured := rfl
@[simp] theorem raiseBit_mem {f : Fld} {i : Nat} : (s.raiseBit f i).mem = s.mem := rfl
@[simp] theorem raiseBit_flash {f : Fld} {i : Nat} : (s.raiseBit f i).flash = s.flash := rfl
@[simp] theorem raiseBit_otp {f : Fld} {i : Nat} : (s.raiseBit f i).otp = s.otp := rfl
@[simp] theorem raiseBit_bad {f : Fld} {i : Nat} : (s.raiseBit f i).bad = s.bad := rfl
@[simp] theorem raiseBit_gens {f : Fld} {i : Nat} : (s.raiseBit f i).gens = s.gens := rfl
@[simp] theorem raiseBit_prots {f : Fld} {i : Nat} : (s.raiseBit f i).prots = s.prots := rfl
@[simp] theorem raiseBit_prfs {f : Fld} {i : Nat} : (s.raiseBit f i).prfs = s.prfs := rfl
@[simp] theorem raiseBit_dies {f : Fld} {i : Nat} : (s.raiseBit f i).dies = s.dies := rfl
@[simp] theorem raiseBit_seqrs {f : Fld} {i : Nat} : (s.raiseBit f i).seqrs = s.seqrs := rfl
@[simp] theorem raiseBit_groups {f : Fld} {i : Nat} : (s.raiseBit f i).groups = s.groups := rfl
@[simp] theorem raiseBit_bcast {f : Fld} {i : Nat} : (s.raiseBit f i).bcast = s.bcast := rfl
@[simp] theorem raiseBit_optics {f : Fld} {i : Nat} : (s.raiseBit f i).optics = s.optics := rfl
@[simp] theorem raiseBit_optSince {f : Fld} {i : Nat} : (s.raiseBit f i).optSince = s.optSince := rfl
@[simp] theorem raiseBit_rxs {f : Fld} {i : Nat} : (s.raiseBit f i).rxs = s.rxs := rfl
@[simp] theorem raiseBit_flight {f : Fld} {i : Nat} : (s.raiseBit f i).flight = s.flight := rfl
@[simp] theorem raiseBit_trp {f : Fld} {i : Nat} : (s.raiseBit f i).trp = s.trp := rfl
@[simp] theorem raiseBit_cores {f : Fld} {i : Nat} : (s.raiseBit f i).cores = s.cores := rfl
@[simp] theorem raiseBit_engs {f : Fld} {i : Nat} : (s.raiseBit f i).engs = s.engs := rfl
@[simp] theorem raiseBit_twins {f : Fld} {i : Nat} : (s.raiseBit f i).twins = s.twins := rfl
@[simp] theorem raiseBit_inps {f : Fld} {i : Nat} : (s.raiseBit f i).inps = s.inps := rfl
@[simp] theorem raiseBit_ipairs {f : Fld} {i : Nat} : (s.raiseBit f i).ipairs = s.ipairs := rfl
@[simp] theorem raiseBit_fns {f : Fld} {i : Nat} : (s.raiseBit f i).fns = s.fns := rfl
@[simp] theorem raiseBit_sio {f : Fld} {i : Nat} : (s.raiseBit f i).sio = s.sio := rfl
@[simp] theorem raiseBit_conns {f : Fld} {i : Nat} : (s.raiseBit f i).conns = s.conns := rfl
@[simp] theorem raiseBit_sent {f : Fld} {i : Nat} : (s.raiseBit f i).sent = s.sent := rfl
@[simp] theorem raiseBit_entryOff {f : Fld} {i : Nat} : (s.raiseBit f i).entryOff = s.entryOff := rfl
@[simp] theorem raiseBit_entryIn {f : Fld} {i : Nat} : (s.raiseBit f i).entryIn = s.entryIn := rfl
@[simp] theorem raiseBit_clock {f : Fld} {i : Nat} : (s.raiseBit f i).clock = s.clock := rfl
@[simp] theorem raiseBit_pair {f : Fld} {i : Nat} : (s.raiseBit f i).pair = s.pair := rfl
@[simp] theorem raiseBit_clus {f : Fld} {i : Nat} : (s.raiseBit f i).clus = s.clus := rfl
@[simp] theorem raiseBit_pwr {f : Fld} {i : Nat} : (s.raiseBit f i).pwr = s.pwr := rfl
@[simp] theorem raiseBit_heat {f : Fld} {i : Nat} : (s.raiseBit f i).heat = s.heat := rfl
@[simp] theorem raiseBit_recs {f : Fld} {i : Nat} : (s.raiseBit f i).recs = s.recs := rfl
@[simp] theorem raiseBit_sage {f : Fld} {i : Nat} : (s.raiseBit f i).sage = s.sage := rfl
@[simp] theorem raiseBit_ports {f : Fld} {i : Nat} : (s.raiseBit f i).ports = s.ports := rfl
@[simp] theorem raiseBit_watchAt {f : Fld} {i : Nat} : (s.raiseBit f i).watchAt = s.watchAt := rfl
@[simp] theorem raiseBit_coll {f : Fld} {i : Nat} : (s.raiseBit f i).coll = s.coll := rfl
@[simp] theorem raiseBit_pending {f : Fld} {i : Nat} : (s.raiseBit f i).pending = s.pending := rfl
@[simp] theorem raiseBit_gen {f : Fld} {i : Nat} {x : Nat} : (s.raiseBit f i).gen x = s.gen x := rfl
@[simp] theorem raiseBit_prot {f : Fld} {i : Nat} {x : Nat} : (s.raiseBit f i).prot x = s.prot x := rfl
@[simp] theorem raiseBit_core {f : Fld} {i : Nat} {x : Nat} : (s.raiseBit f i).core x = s.core x := rfl
@[simp] theorem raiseBit_conn {f : Fld} {i : Nat} {x : Nat} : (s.raiseBit f i).conn x = s.conn x := rfl
@[simp] theorem raiseBit_fn {f : Fld} {i : Nat} {x : Nat} : (s.raiseBit f i).fn x = s.fn x := rfl
@[simp] theorem raiseBit_group {f : Fld} {i : Nat} {x : Nat} : (s.raiseBit f i).group x = s.group x := rfl
@[simp] theorem raiseBit_otpWord {f : Fld} {i : Nat} {x : Nat} : (s.raiseBit f i).otpWord x = s.otpWord x := rfl
@[simp] theorem raiseBit_prf {f : Fld} {i : Nat} {x : Nat} : (s.raiseBit f i).prf x = s.prf x := rfl
@[simp] theorem raiseBit_die {f : Fld} {i : Nat} {x : Nat} : (s.raiseBit f i).die x = s.die x := rfl
@[simp] theorem raiseBit_seqr {f : Fld} {i : Nat} {x : Nat} : (s.raiseBit f i).seqr x = s.seqr x := rfl
@[simp] theorem raiseBit_optic {f : Fld} {i : Nat} {x : Nat} : (s.raiseBit f i).optic x = s.optic x := rfl
@[simp] theorem raiseBit_rx {f : Fld} {i : Nat} {x : Nat} : (s.raiseBit f i).rx x = s.rx x := rfl
@[simp] theorem raiseBit_clu {f : Fld} {i : Nat} {x : Nat} : (s.raiseBit f i).clu x = s.clu x := rfl
@[simp] theorem raiseBit_eng {f : Fld} {i : Nat} {x : Nat} : (s.raiseBit f i).eng x = s.eng x := rfl
@[simp] theorem raiseBit_twin {f : Fld} {i : Nat} {x : Nat} : (s.raiseBit f i).twin x = s.twin x := rfl
@[simp] theorem raiseBit_inp {f : Fld} {i : Nat} {x : Nat} : (s.raiseBit f i).inp x = s.inp x := rfl
@[simp] theorem raiseBit_ipair {f : Fld} {i : Nat} {x : Nat} : (s.raiseBit f i).ipair x = s.ipair x := rfl
/-! ### hwWrite -/
@[simp] theorem hwWrite_time {f : Fld} {v : Nat} : (s.hwWrite f v).time = s.time := rfl
@[simp] theorem hwWrite_devOfs {f : Fld} {v : Nat} : (s.hwWrite f v).devOfs = s.devOfs := rfl
@[simp] theorem hwWrite_devNext {f : Fld} {v : Nat} : (s.hwWrite f v).devNext = s.devNext := rfl
@[simp] theorem hwWrite_free {f : Fld} {v : Nat} : (s.hwWrite f v).free = s.free := rfl
@[simp] theorem hwWrite_dev {f : Fld} {v : Nat} : (s.hwWrite f v).dev = s.dev := rfl
@[simp] theorem hwWrite_up {f : Fld} {v : Nat} : (s.hwWrite f v).up = s.up := rfl
@[simp] theorem hwWrite_devAt {f : Fld} {v : Nat} : (s.hwWrite f v).devAt = s.devAt := rfl
@[simp] theorem hwWrite_wide {f : Fld} {v : Nat} : (s.hwWrite f v).wide = s.wide := rfl
@[simp] theorem hwWrite_xtalLost {f : Fld} {v : Nat} : (s.hwWrite f v).xtalLost = s.xtalLost := rfl
@[simp] theorem hwWrite_aonLost {f : Fld} {v : Nat} : (s.hwWrite f v).aonLost = s.aonLost := rfl
@[simp] theorem hwWrite_runAt {f : Fld} {v : Nat} : (s.hwWrite f v).runAt = s.runAt := rfl
@[simp] theorem hwWrite_staged {f : Fld} {v : Nat} : (s.hwWrite f v).staged = s.staged := rfl
@[simp] theorem hwWrite_captured {f : Fld} {v : Nat} : (s.hwWrite f v).captured = s.captured := rfl
@[simp] theorem hwWrite_mem {f : Fld} {v : Nat} : (s.hwWrite f v).mem = s.mem := rfl
@[simp] theorem hwWrite_flash {f : Fld} {v : Nat} : (s.hwWrite f v).flash = s.flash := rfl
@[simp] theorem hwWrite_otp {f : Fld} {v : Nat} : (s.hwWrite f v).otp = s.otp := rfl
@[simp] theorem hwWrite_bad {f : Fld} {v : Nat} : (s.hwWrite f v).bad = s.bad := rfl
@[simp] theorem hwWrite_gens {f : Fld} {v : Nat} : (s.hwWrite f v).gens = s.gens := rfl
@[simp] theorem hwWrite_prots {f : Fld} {v : Nat} : (s.hwWrite f v).prots = s.prots := rfl
@[simp] theorem hwWrite_prfs {f : Fld} {v : Nat} : (s.hwWrite f v).prfs = s.prfs := rfl
@[simp] theorem hwWrite_dies {f : Fld} {v : Nat} : (s.hwWrite f v).dies = s.dies := rfl
@[simp] theorem hwWrite_seqrs {f : Fld} {v : Nat} : (s.hwWrite f v).seqrs = s.seqrs := rfl
@[simp] theorem hwWrite_groups {f : Fld} {v : Nat} : (s.hwWrite f v).groups = s.groups := rfl
@[simp] theorem hwWrite_bcast {f : Fld} {v : Nat} : (s.hwWrite f v).bcast = s.bcast := rfl
@[simp] theorem hwWrite_optics {f : Fld} {v : Nat} : (s.hwWrite f v).optics = s.optics := rfl
@[simp] theorem hwWrite_optSince {f : Fld} {v : Nat} : (s.hwWrite f v).optSince = s.optSince := rfl
@[simp] theorem hwWrite_rxs {f : Fld} {v : Nat} : (s.hwWrite f v).rxs = s.rxs := rfl
@[simp] theorem hwWrite_flight {f : Fld} {v : Nat} : (s.hwWrite f v).flight = s.flight := rfl
@[simp] theorem hwWrite_trp {f : Fld} {v : Nat} : (s.hwWrite f v).trp = s.trp := rfl
@[simp] theorem hwWrite_cores {f : Fld} {v : Nat} : (s.hwWrite f v).cores = s.cores := rfl
@[simp] theorem hwWrite_engs {f : Fld} {v : Nat} : (s.hwWrite f v).engs = s.engs := rfl
@[simp] theorem hwWrite_twins {f : Fld} {v : Nat} : (s.hwWrite f v).twins = s.twins := rfl
@[simp] theorem hwWrite_inps {f : Fld} {v : Nat} : (s.hwWrite f v).inps = s.inps := rfl
@[simp] theorem hwWrite_ipairs {f : Fld} {v : Nat} : (s.hwWrite f v).ipairs = s.ipairs := rfl
@[simp] theorem hwWrite_fns {f : Fld} {v : Nat} : (s.hwWrite f v).fns = s.fns := rfl
@[simp] theorem hwWrite_sio {f : Fld} {v : Nat} : (s.hwWrite f v).sio = s.sio := rfl
@[simp] theorem hwWrite_conns {f : Fld} {v : Nat} : (s.hwWrite f v).conns = s.conns := rfl
@[simp] theorem hwWrite_sent {f : Fld} {v : Nat} : (s.hwWrite f v).sent = s.sent := rfl
@[simp] theorem hwWrite_entryOff {f : Fld} {v : Nat} : (s.hwWrite f v).entryOff = s.entryOff := rfl
@[simp] theorem hwWrite_entryIn {f : Fld} {v : Nat} : (s.hwWrite f v).entryIn = s.entryIn := rfl
@[simp] theorem hwWrite_clock {f : Fld} {v : Nat} : (s.hwWrite f v).clock = s.clock := rfl
@[simp] theorem hwWrite_pair {f : Fld} {v : Nat} : (s.hwWrite f v).pair = s.pair := rfl
@[simp] theorem hwWrite_clus {f : Fld} {v : Nat} : (s.hwWrite f v).clus = s.clus := rfl
@[simp] theorem hwWrite_pwr {f : Fld} {v : Nat} : (s.hwWrite f v).pwr = s.pwr := rfl
@[simp] theorem hwWrite_heat {f : Fld} {v : Nat} : (s.hwWrite f v).heat = s.heat := rfl
@[simp] theorem hwWrite_recs {f : Fld} {v : Nat} : (s.hwWrite f v).recs = s.recs := rfl
@[simp] theorem hwWrite_sage {f : Fld} {v : Nat} : (s.hwWrite f v).sage = s.sage := rfl
@[simp] theorem hwWrite_ports {f : Fld} {v : Nat} : (s.hwWrite f v).ports = s.ports := rfl
@[simp] theorem hwWrite_watchAt {f : Fld} {v : Nat} : (s.hwWrite f v).watchAt = s.watchAt := rfl
@[simp] theorem hwWrite_coll {f : Fld} {v : Nat} : (s.hwWrite f v).coll = s.coll := rfl
@[simp] theorem hwWrite_pending {f : Fld} {v : Nat} : (s.hwWrite f v).pending = s.pending := rfl
@[simp] theorem hwWrite_gen {f : Fld} {v : Nat} {x : Nat} : (s.hwWrite f v).gen x = s.gen x := rfl
@[simp] theorem hwWrite_prot {f : Fld} {v : Nat} {x : Nat} : (s.hwWrite f v).prot x = s.prot x := rfl
@[simp] theorem hwWrite_core {f : Fld} {v : Nat} {x : Nat} : (s.hwWrite f v).core x = s.core x := rfl
@[simp] theorem hwWrite_conn {f : Fld} {v : Nat} {x : Nat} : (s.hwWrite f v).conn x = s.conn x := rfl
@[simp] theorem hwWrite_fn {f : Fld} {v : Nat} {x : Nat} : (s.hwWrite f v).fn x = s.fn x := rfl
@[simp] theorem hwWrite_group {f : Fld} {v : Nat} {x : Nat} : (s.hwWrite f v).group x = s.group x := rfl
@[simp] theorem hwWrite_otpWord {f : Fld} {v : Nat} {x : Nat} : (s.hwWrite f v).otpWord x = s.otpWord x := rfl
@[simp] theorem hwWrite_prf {f : Fld} {v : Nat} {x : Nat} : (s.hwWrite f v).prf x = s.prf x := rfl
@[simp] theorem hwWrite_die {f : Fld} {v : Nat} {x : Nat} : (s.hwWrite f v).die x = s.die x := rfl
@[simp] theorem hwWrite_seqr {f : Fld} {v : Nat} {x : Nat} : (s.hwWrite f v).seqr x = s.seqr x := rfl
@[simp] theorem hwWrite_optic {f : Fld} {v : Nat} {x : Nat} : (s.hwWrite f v).optic x = s.optic x := rfl
@[simp] theorem hwWrite_rx {f : Fld} {v : Nat} {x : Nat} : (s.hwWrite f v).rx x = s.rx x := rfl
@[simp] theorem hwWrite_clu {f : Fld} {v : Nat} {x : Nat} : (s.hwWrite f v).clu x = s.clu x := rfl
@[simp] theorem hwWrite_eng {f : Fld} {v : Nat} {x : Nat} : (s.hwWrite f v).eng x = s.eng x := rfl
@[simp] theorem hwWrite_twin {f : Fld} {v : Nat} {x : Nat} : (s.hwWrite f v).twin x = s.twin x := rfl
@[simp] theorem hwWrite_inp {f : Fld} {v : Nat} {x : Nat} : (s.hwWrite f v).inp x = s.inp x := rfl
@[simp] theorem hwWrite_ipair {f : Fld} {v : Nat} {x : Nat} : (s.hwWrite f v).ipair x = s.ipair x := rfl
/-! ### softClear -/
@[simp] theorem softClear_time {f : Fld} {v : Nat} : (s.softClear f v).time = s.time := rfl
@[simp] theorem softClear_devOfs {f : Fld} {v : Nat} : (s.softClear f v).devOfs = s.devOfs := rfl
@[simp] theorem softClear_devNext {f : Fld} {v : Nat} : (s.softClear f v).devNext = s.devNext := rfl
@[simp] theorem softClear_free {f : Fld} {v : Nat} : (s.softClear f v).free = s.free := rfl
@[simp] theorem softClear_dev {f : Fld} {v : Nat} : (s.softClear f v).dev = s.dev := rfl
@[simp] theorem softClear_up {f : Fld} {v : Nat} : (s.softClear f v).up = s.up := rfl
@[simp] theorem softClear_devAt {f : Fld} {v : Nat} : (s.softClear f v).devAt = s.devAt := rfl
@[simp] theorem softClear_wide {f : Fld} {v : Nat} : (s.softClear f v).wide = s.wide := rfl
@[simp] theorem softClear_xtalLost {f : Fld} {v : Nat} : (s.softClear f v).xtalLost = s.xtalLost := rfl
@[simp] theorem softClear_aonLost {f : Fld} {v : Nat} : (s.softClear f v).aonLost = s.aonLost := rfl
@[simp] theorem softClear_runAt {f : Fld} {v : Nat} : (s.softClear f v).runAt = s.runAt := rfl
@[simp] theorem softClear_staged {f : Fld} {v : Nat} : (s.softClear f v).staged = s.staged := rfl
@[simp] theorem softClear_captured {f : Fld} {v : Nat} : (s.softClear f v).captured = s.captured := rfl
@[simp] theorem softClear_hwNow {f : Fld} {v : Nat} : (s.softClear f v).hwNow = s.hwNow := rfl
@[simp] theorem softClear_mem {f : Fld} {v : Nat} : (s.softClear f v).mem = s.mem := rfl
@[simp] theorem softClear_flash {f : Fld} {v : Nat} : (s.softClear f v).flash = s.flash := rfl
@[simp] theorem softClear_otp {f : Fld} {v : Nat} : (s.softClear f v).otp = s.otp := rfl
@[simp] theorem softClear_bad {f : Fld} {v : Nat} : (s.softClear f v).bad = s.bad := rfl
@[simp] theorem softClear_gens {f : Fld} {v : Nat} : (s.softClear f v).gens = s.gens := rfl
@[simp] theorem softClear_prots {f : Fld} {v : Nat} : (s.softClear f v).prots = s.prots := rfl
@[simp] theorem softClear_prfs {f : Fld} {v : Nat} : (s.softClear f v).prfs = s.prfs := rfl
@[simp] theorem softClear_dies {f : Fld} {v : Nat} : (s.softClear f v).dies = s.dies := rfl
@[simp] theorem softClear_seqrs {f : Fld} {v : Nat} : (s.softClear f v).seqrs = s.seqrs := rfl
@[simp] theorem softClear_groups {f : Fld} {v : Nat} : (s.softClear f v).groups = s.groups := rfl
@[simp] theorem softClear_bcast {f : Fld} {v : Nat} : (s.softClear f v).bcast = s.bcast := rfl
@[simp] theorem softClear_optics {f : Fld} {v : Nat} : (s.softClear f v).optics = s.optics := rfl
@[simp] theorem softClear_optSince {f : Fld} {v : Nat} : (s.softClear f v).optSince = s.optSince := rfl
@[simp] theorem softClear_rxs {f : Fld} {v : Nat} : (s.softClear f v).rxs = s.rxs := rfl
@[simp] theorem softClear_flight {f : Fld} {v : Nat} : (s.softClear f v).flight = s.flight := rfl
@[simp] theorem softClear_trp {f : Fld} {v : Nat} : (s.softClear f v).trp = s.trp := rfl
@[simp] theorem softClear_cores {f : Fld} {v : Nat} : (s.softClear f v).cores = s.cores := rfl
@[simp] theorem softClear_engs {f : Fld} {v : Nat} : (s.softClear f v).engs = s.engs := rfl
@[simp] theorem softClear_twins {f : Fld} {v : Nat} : (s.softClear f v).twins = s.twins := rfl
@[simp] theorem softClear_inps {f : Fld} {v : Nat} : (s.softClear f v).inps = s.inps := rfl
@[simp] theorem softClear_ipairs {f : Fld} {v : Nat} : (s.softClear f v).ipairs = s.ipairs := rfl
@[simp] theorem softClear_fns {f : Fld} {v : Nat} : (s.softClear f v).fns = s.fns := rfl
@[simp] theorem softClear_sio {f : Fld} {v : Nat} : (s.softClear f v).sio = s.sio := rfl
@[simp] theorem softClear_conns {f : Fld} {v : Nat} : (s.softClear f v).conns = s.conns := rfl
@[simp] theorem softClear_sent {f : Fld} {v : Nat} : (s.softClear f v).sent = s.sent := rfl
@[simp] theorem softClear_entryOff {f : Fld} {v : Nat} : (s.softClear f v).entryOff = s.entryOff := rfl
@[simp] theorem softClear_entryIn {f : Fld} {v : Nat} : (s.softClear f v).entryIn = s.entryIn := rfl
@[simp] theorem softClear_clock {f : Fld} {v : Nat} : (s.softClear f v).clock = s.clock := rfl
@[simp] theorem softClear_pair {f : Fld} {v : Nat} : (s.softClear f v).pair = s.pair := rfl
@[simp] theorem softClear_clus {f : Fld} {v : Nat} : (s.softClear f v).clus = s.clus := rfl
@[simp] theorem softClear_pwr {f : Fld} {v : Nat} : (s.softClear f v).pwr = s.pwr := rfl
@[simp] theorem softClear_heat {f : Fld} {v : Nat} : (s.softClear f v).heat = s.heat := rfl
@[simp] theorem softClear_recs {f : Fld} {v : Nat} : (s.softClear f v).recs = s.recs := rfl
@[simp] theorem softClear_sage {f : Fld} {v : Nat} : (s.softClear f v).sage = s.sage := rfl
@[simp] theorem softClear_ports {f : Fld} {v : Nat} : (s.softClear f v).ports = s.ports := rfl
@[simp] theorem softClear_watchAt {f : Fld} {v : Nat} : (s.softClear f v).watchAt = s.watchAt := rfl
@[simp] theorem softClear_coll {f : Fld} {v : Nat} : (s.softClear f v).coll = s.coll := rfl
@[simp] theorem softClear_pending {f : Fld} {v : Nat} : (s.softClear f v).pending = s.pending := rfl
@[simp] theorem softClear_gen {f : Fld} {v : Nat} {x : Nat} : (s.softClear f v).gen x = s.gen x := rfl
@[simp] theorem softClear_prot {f : Fld} {v : Nat} {x : Nat} : (s.softClear f v).prot x = s.prot x := rfl
@[simp] theorem softClear_core {f : Fld} {v : Nat} {x : Nat} : (s.softClear f v).core x = s.core x := rfl
@[simp] theorem softClear_conn {f : Fld} {v : Nat} {x : Nat} : (s.softClear f v).conn x = s.conn x := rfl
@[simp] theorem softClear_fn {f : Fld} {v : Nat} {x : Nat} : (s.softClear f v).fn x = s.fn x := rfl
@[simp] theorem softClear_group {f : Fld} {v : Nat} {x : Nat} : (s.softClear f v).group x = s.group x := rfl
@[simp] theorem softClear_otpWord {f : Fld} {v : Nat} {x : Nat} : (s.softClear f v).otpWord x = s.otpWord x := rfl
@[simp] theorem softClear_prf {f : Fld} {v : Nat} {x : Nat} : (s.softClear f v).prf x = s.prf x := rfl
@[simp] theorem softClear_die {f : Fld} {v : Nat} {x : Nat} : (s.softClear f v).die x = s.die x := rfl
@[simp] theorem softClear_seqr {f : Fld} {v : Nat} {x : Nat} : (s.softClear f v).seqr x = s.seqr x := rfl
@[simp] theorem softClear_optic {f : Fld} {v : Nat} {x : Nat} : (s.softClear f v).optic x = s.optic x := rfl
@[simp] theorem softClear_rx {f : Fld} {v : Nat} {x : Nat} : (s.softClear f v).rx x = s.rx x := rfl
@[simp] theorem softClear_clu {f : Fld} {v : Nat} {x : Nat} : (s.softClear f v).clu x = s.clu x := rfl
@[simp] theorem softClear_eng {f : Fld} {v : Nat} {x : Nat} : (s.softClear f v).eng x = s.eng x := rfl
@[simp] theorem softClear_twin {f : Fld} {v : Nat} {x : Nat} : (s.softClear f v).twin x = s.twin x := rfl
@[simp] theorem softClear_inp {f : Fld} {v : Nat} {x : Nat} : (s.softClear f v).inp x = s.inp x := rfl
@[simp] theorem softClear_ipair {f : Fld} {v : Nat} {x : Nat} : (s.softClear f v).ipair x = s.ipair x := rfl
/-! ### setGen -/
@[simp] theorem setGen_time {n : Nat} {g : Gen} : (s.setGen n g).time = s.time := rfl
@[simp] theorem setGen_devOfs {n : Nat} {g : Gen} : (s.setGen n g).devOfs = s.devOfs := rfl
@[simp] theorem setGen_devNext {n : Nat} {g : Gen} : (s.setGen n g).devNext = s.devNext := rfl
@[simp] theorem setGen_free {n : Nat} {g : Gen} : (s.setGen n g).free = s.free := rfl
@[simp] theorem setGen_dev {n : Nat} {g : Gen} : (s.setGen n g).dev = s.dev := rfl
@[simp] theorem setGen_up {n : Nat} {g : Gen} : (s.setGen n g).up = s.up := rfl
@[simp] theorem setGen_devAt {n : Nat} {g : Gen} : (s.setGen n g).devAt = s.devAt := rfl
@[simp] theorem setGen_wide {n : Nat} {g : Gen} : (s.setGen n g).wide = s.wide := rfl
@[simp] theorem setGen_xtalLost {n : Nat} {g : Gen} : (s.setGen n g).xtalLost = s.xtalLost := rfl
@[simp] theorem setGen_aonLost {n : Nat} {g : Gen} : (s.setGen n g).aonLost = s.aonLost := rfl
@[simp] theorem setGen_runAt {n : Nat} {g : Gen} : (s.setGen n g).runAt = s.runAt := rfl
@[simp] theorem setGen_regs {n : Nat} {g : Gen} : (s.setGen n g).regs = s.regs := rfl
@[simp] theorem setGen_staged {n : Nat} {g : Gen} : (s.setGen n g).staged = s.staged := rfl
@[simp] theorem setGen_captured {n : Nat} {g : Gen} : (s.setGen n g).captured = s.captured := rfl
@[simp] theorem setGen_hwNow {n : Nat} {g : Gen} : (s.setGen n g).hwNow = s.hwNow := rfl
@[simp] theorem setGen_mem {n : Nat} {g : Gen} : (s.setGen n g).mem = s.mem := rfl
@[simp] theorem setGen_flash {n : Nat} {g : Gen} : (s.setGen n g).flash = s.flash := rfl
@[simp] theorem setGen_otp {n : Nat} {g : Gen} : (s.setGen n g).otp = s.otp := rfl
@[simp] theorem setGen_bad {n : Nat} {g : Gen} : (s.setGen n g).bad = s.bad := rfl
@[simp] theorem setGen_prots {n : Nat} {g : Gen} : (s.setGen n g).prots = s.prots := rfl
@[simp] theorem setGen_prfs {n : Nat} {g : Gen} : (s.setGen n g).prfs = s.prfs := rfl
@[simp] theorem setGen_dies {n : Nat} {g : Gen} : (s.setGen n g).dies = s.dies := rfl
@[simp] theorem setGen_seqrs {n : Nat} {g : Gen} : (s.setGen n g).seqrs = s.seqrs := rfl
@[simp] theorem setGen_groups {n : Nat} {g : Gen} : (s.setGen n g).groups = s.groups := rfl
@[simp] theorem setGen_bcast {n : Nat} {g : Gen} : (s.setGen n g).bcast = s.bcast := rfl
@[simp] theorem setGen_optics {n : Nat} {g : Gen} : (s.setGen n g).optics = s.optics := rfl
@[simp] theorem setGen_optSince {n : Nat} {g : Gen} : (s.setGen n g).optSince = s.optSince := rfl
@[simp] theorem setGen_rxs {n : Nat} {g : Gen} : (s.setGen n g).rxs = s.rxs := rfl
@[simp] theorem setGen_flight {n : Nat} {g : Gen} : (s.setGen n g).flight = s.flight := rfl
@[simp] theorem setGen_trp {n : Nat} {g : Gen} : (s.setGen n g).trp = s.trp := rfl
@[simp] theorem setGen_cores {n : Nat} {g : Gen} : (s.setGen n g).cores = s.cores := rfl
@[simp] theorem setGen_engs {n : Nat} {g : Gen} : (s.setGen n g).engs = s.engs := rfl
@[simp] theorem setGen_twins {n : Nat} {g : Gen} : (s.setGen n g).twins = s.twins := rfl
@[simp] theorem setGen_inps {n : Nat} {g : Gen} : (s.setGen n g).inps = s.inps := rfl
@[simp] theorem setGen_ipairs {n : Nat} {g : Gen} : (s.setGen n g).ipairs = s.ipairs := rfl
@[simp] theorem setGen_fns {n : Nat} {g : Gen} : (s.setGen n g).fns = s.fns := rfl
@[simp] theorem setGen_sio {n : Nat} {g : Gen} : (s.setGen n g).sio = s.sio := rfl
@[simp] theorem setGen_conns {n : Nat} {g : Gen} : (s.setGen n g).conns = s.conns := rfl
@[simp] theorem setGen_sent {n : Nat} {g : Gen} : (s.setGen n g).sent = s.sent := rfl
@[simp] theorem setGen_entryOff {n : Nat} {g : Gen} : (s.setGen n g).entryOff = s.entryOff := rfl
@[simp] theorem setGen_entryIn {n : Nat} {g : Gen} : (s.setGen n g).entryIn = s.entryIn := rfl
@[simp] theorem setGen_clock {n : Nat} {g : Gen} : (s.setGen n g).clock = s.clock := rfl
@[simp] theorem setGen_pair {n : Nat} {g : Gen} : (s.setGen n g).pair = s.pair := rfl
@[simp] theorem setGen_clus {n : Nat} {g : Gen} : (s.setGen n g).clus = s.clus := rfl
@[simp] theorem setGen_pwr {n : Nat} {g : Gen} : (s.setGen n g).pwr = s.pwr := rfl
@[simp] theorem setGen_heat {n : Nat} {g : Gen} : (s.setGen n g).heat = s.heat := rfl
@[simp] theorem setGen_recs {n : Nat} {g : Gen} : (s.setGen n g).recs = s.recs := rfl
@[simp] theorem setGen_sage {n : Nat} {g : Gen} : (s.setGen n g).sage = s.sage := rfl
@[simp] theorem setGen_ports {n : Nat} {g : Gen} : (s.setGen n g).ports = s.ports := rfl
@[simp] theorem setGen_watchAt {n : Nat} {g : Gen} : (s.setGen n g).watchAt = s.watchAt := rfl
@[simp] theorem setGen_coll {n : Nat} {g : Gen} : (s.setGen n g).coll = s.coll := rfl
@[simp] theorem setGen_pending {n : Nat} {g : Gen} : (s.setGen n g).pending = s.pending := rfl
@[simp] theorem setGen_rd {n : Nat} {g : Gen} {x : Fld} : (s.setGen n g).rd x = s.rd x := rfl
@[simp] theorem setGen_prot {n : Nat} {g : Gen} {x : Nat} : (s.setGen n g).prot x = s.prot x := rfl
@[simp] theorem setGen_core {n : Nat} {g : Gen} {x : Nat} : (s.setGen n g).core x = s.core x := rfl
@[simp] theorem setGen_conn {n : Nat} {g : Gen} {x : Nat} : (s.setGen n g).conn x = s.conn x := rfl
@[simp] theorem setGen_fn {n : Nat} {g : Gen} {x : Nat} : (s.setGen n g).fn x = s.fn x := rfl
@[simp] theorem setGen_group {n : Nat} {g : Gen} {x : Nat} : (s.setGen n g).group x = s.group x := rfl
@[simp] theorem setGen_otpWord {n : Nat} {g : Gen} {x : Nat} : (s.setGen n g).otpWord x = s.otpWord x := rfl
@[simp] theorem setGen_prf {n : Nat} {g : Gen} {x : Nat} : (s.setGen n g).prf x = s.prf x := rfl
@[simp] theorem setGen_die {n : Nat} {g : Gen} {x : Nat} : (s.setGen n g).die x = s.die x := rfl
@[simp] theorem setGen_seqr {n : Nat} {g : Gen} {x : Nat} : (s.setGen n g).seqr x = s.seqr x := rfl
@[simp] theorem setGen_optic {n : Nat} {g : Gen} {x : Nat} : (s.setGen n g).optic x = s.optic x := rfl
@[simp] theorem setGen_rx {n : Nat} {g : Gen} {x : Nat} : (s.setGen n g).rx x = s.rx x := rfl
@[simp] theorem setGen_clu {n : Nat} {g : Gen} {x : Nat} : (s.setGen n g).clu x = s.clu x := rfl
@[simp] theorem setGen_eng {n : Nat} {g : Gen} {x : Nat} : (s.setGen n g).eng x = s.eng x := rfl
@[simp] theorem setGen_twin {n : Nat} {g : Gen} {x : Nat} : (s.setGen n g).twin x = s.twin x := rfl
@[simp] theorem setGen_inp {n : Nat} {g : Gen} {x : Nat} : (s.setGen n g).inp x = s.inp x := rfl
@[simp] theorem setGen_ipair {n : Nat} {g : Gen} {x : Nat} : (s.setGen n g).ipair x = s.ipair x := rfl
/-! ### modGen -/
@[simp] theorem modGen_time {n : Nat} {g : Gen → Gen} : (s.modGen n g).time = s.time := rfl
@[simp] theorem modGen_devOfs {n : Nat} {g : Gen → Gen} : (s.modGen n g).devOfs = s.devOfs := rfl
@[simp] theorem modGen_devNext {n : Nat} {g : Gen → Gen} : (s.modGen n g).devNext = s.devNext := rfl
@[simp] theorem modGen_free {n : Nat} {g : Gen → Gen} : (s.modGen n g).free = s.free := rfl
@[simp] theorem modGen_dev {n : Nat} {g : Gen → Gen} : (s.modGen n g).dev = s.dev := rfl
@[simp] theorem modGen_up {n : Nat} {g : Gen → Gen} : (s.modGen n g).up = s.up := rfl
@[simp] theorem modGen_devAt {n : Nat} {g : Gen → Gen} : (s.modGen n g).devAt = s.devAt := rfl
@[simp] theorem modGen_wide {n : Nat} {g : Gen → Gen} : (s.modGen n g).wide = s.wide := rfl
@[simp] theorem modGen_xtalLost {n : Nat} {g : Gen → Gen} : (s.modGen n g).xtalLost = s.xtalLost := rfl
@[simp] theorem modGen_aonLost {n : Nat} {g : Gen → Gen} : (s.modGen n g).aonLost = s.aonLost := rfl
@[simp] theorem modGen_runAt {n : Nat} {g : Gen → Gen} : (s.modGen n g).runAt = s.runAt := rfl
@[simp] theorem modGen_regs {n : Nat} {g : Gen → Gen} : (s.modGen n g).regs = s.regs := rfl
@[simp] theorem modGen_staged {n : Nat} {g : Gen → Gen} : (s.modGen n g).staged = s.staged := rfl
@[simp] theorem modGen_captured {n : Nat} {g : Gen → Gen} : (s.modGen n g).captured = s.captured := rfl
@[simp] theorem modGen_hwNow {n : Nat} {g : Gen → Gen} : (s.modGen n g).hwNow = s.hwNow := rfl
@[simp] theorem modGen_mem {n : Nat} {g : Gen → Gen} : (s.modGen n g).mem = s.mem := rfl
@[simp] theorem modGen_flash {n : Nat} {g : Gen → Gen} : (s.modGen n g).flash = s.flash := rfl
@[simp] theorem modGen_otp {n : Nat} {g : Gen → Gen} : (s.modGen n g).otp = s.otp := rfl
@[simp] theorem modGen_bad {n : Nat} {g : Gen → Gen} : (s.modGen n g).bad = s.bad := rfl
@[simp] theorem modGen_prots {n : Nat} {g : Gen → Gen} : (s.modGen n g).prots = s.prots := rfl
@[simp] theorem modGen_prfs {n : Nat} {g : Gen → Gen} : (s.modGen n g).prfs = s.prfs := rfl
@[simp] theorem modGen_dies {n : Nat} {g : Gen → Gen} : (s.modGen n g).dies = s.dies := rfl
@[simp] theorem modGen_seqrs {n : Nat} {g : Gen → Gen} : (s.modGen n g).seqrs = s.seqrs := rfl
@[simp] theorem modGen_groups {n : Nat} {g : Gen → Gen} : (s.modGen n g).groups = s.groups := rfl
@[simp] theorem modGen_bcast {n : Nat} {g : Gen → Gen} : (s.modGen n g).bcast = s.bcast := rfl
@[simp] theorem modGen_optics {n : Nat} {g : Gen → Gen} : (s.modGen n g).optics = s.optics := rfl
@[simp] theorem modGen_optSince {n : Nat} {g : Gen → Gen} : (s.modGen n g).optSince = s.optSince := rfl
@[simp] theorem modGen_rxs {n : Nat} {g : Gen → Gen} : (s.modGen n g).rxs = s.rxs := rfl
@[simp] theorem modGen_flight {n : Nat} {g : Gen → Gen} : (s.modGen n g).flight = s.flight := rfl
@[simp] theorem modGen_trp {n : Nat} {g : Gen → Gen} : (s.modGen n g).trp = s.trp := rfl
@[simp] theorem modGen_cores {n : Nat} {g : Gen → Gen} : (s.modGen n g).cores = s.cores := rfl
@[simp] theorem modGen_engs {n : Nat} {g : Gen → Gen} : (s.modGen n g).engs = s.engs := rfl
@[simp] theorem modGen_twins {n : Nat} {g : Gen → Gen} : (s.modGen n g).twins = s.twins := rfl
@[simp] theorem modGen_inps {n : Nat} {g : Gen → Gen} : (s.modGen n g).inps = s.inps := rfl
@[simp] theorem modGen_ipairs {n : Nat} {g : Gen → Gen} : (s.modGen n g).ipairs = s.ipairs := rfl
@[simp] theorem modGen_fns {n : Nat} {g : Gen → Gen} : (s.modGen n g).fns = s.fns := rfl
@[simp] theorem modGen_sio {n : Nat} {g : Gen → Gen} : (s.modGen n g).sio = s.sio := rfl
@[simp] theorem modGen_conns {n : Nat} {g : Gen → Gen} : (s.modGen n g).conns = s.conns := rfl
@[simp] theorem modGen_sent {n : Nat} {g : Gen → Gen} : (s.modGen n g).sent = s.sent := rfl
@[simp] theorem modGen_entryOff {n : Nat} {g : Gen → Gen} : (s.modGen n g).entryOff = s.entryOff := rfl
@[simp] theorem modGen_entryIn {n : Nat} {g : Gen → Gen} : (s.modGen n g).entryIn = s.entryIn := rfl
@[simp] theorem modGen_clock {n : Nat} {g : Gen → Gen} : (s.modGen n g).clock = s.clock := rfl
@[simp] theorem modGen_pair {n : Nat} {g : Gen → Gen} : (s.modGen n g).pair = s.pair := rfl
@[simp] theorem modGen_clus {n : Nat} {g : Gen → Gen} : (s.modGen n g).clus = s.clus := rfl
@[simp] theorem modGen_pwr {n : Nat} {g : Gen → Gen} : (s.modGen n g).pwr = s.pwr := rfl
@[simp] theorem modGen_heat {n : Nat} {g : Gen → Gen} : (s.modGen n g).heat = s.heat := rfl
@[simp] theorem modGen_recs {n : Nat} {g : Gen → Gen} : (s.modGen n g).recs = s.recs := rfl
@[simp] theorem modGen_sage {n : Nat} {g : Gen → Gen} : (s.modGen n g).sage = s.sage := rfl
@[simp] theorem modGen_ports {n : Nat} {g : Gen → Gen} : (s.modGen n g).ports = s.ports := rfl
@[simp] theorem modGen_watchAt {n : Nat} {g : Gen → Gen} : (s.modGen n g).watchAt = s.watchAt := rfl
@[simp] theorem modGen_coll {n : Nat} {g : Gen → Gen} : (s.modGen n g).coll = s.coll := rfl
@[simp] theorem modGen_pending {n : Nat} {g : Gen → Gen} : (s.modGen n g).pending = s.pending := rfl
@[simp] theorem modGen_rd {n : Nat} {g : Gen → Gen} {x : Fld} : (s.modGen n g).rd x = s.rd x := rfl
@[simp] theorem modGen_prot {n : Nat} {g : Gen → Gen} {x : Nat} : (s.modGen n g).prot x = s.prot x := rfl
@[simp] theorem modGen_core {n : Nat} {g : Gen → Gen} {x : Nat} : (s.modGen n g).core x = s.core x := rfl
@[simp] theorem modGen_conn {n : Nat} {g : Gen → Gen} {x : Nat} : (s.modGen n g).conn x = s.conn x := rfl
@[simp] theorem modGen_fn {n : Nat} {g : Gen → Gen} {x : Nat} : (s.modGen n g).fn x = s.fn x := rfl
@[simp] theorem modGen_group {n : Nat} {g : Gen → Gen} {x : Nat} : (s.modGen n g).group x = s.group x := rfl
@[simp] theorem modGen_otpWord {n : Nat} {g : Gen → Gen} {x : Nat} : (s.modGen n g).otpWord x = s.otpWord x := rfl
@[simp] theorem modGen_prf {n : Nat} {g : Gen → Gen} {x : Nat} : (s.modGen n g).prf x = s.prf x := rfl
@[simp] theorem modGen_die {n : Nat} {g : Gen → Gen} {x : Nat} : (s.modGen n g).die x = s.die x := rfl
@[simp] theorem modGen_seqr {n : Nat} {g : Gen → Gen} {x : Nat} : (s.modGen n g).seqr x = s.seqr x := rfl
@[simp] theorem modGen_optic {n : Nat} {g : Gen → Gen} {x : Nat} : (s.modGen n g).optic x = s.optic x := rfl
@[simp] theorem modGen_rx {n : Nat} {g : Gen → Gen} {x : Nat} : (s.modGen n g).rx x = s.rx x := rfl
@[simp] theorem modGen_clu {n : Nat} {g : Gen → Gen} {x : Nat} : (s.modGen n g).clu x = s.clu x := rfl
@[simp] theorem modGen_eng {n : Nat} {g : Gen → Gen} {x : Nat} : (s.modGen n g).eng x = s.eng x := rfl
@[simp] theorem modGen_twin {n : Nat} {g : Gen → Gen} {x : Nat} : (s.modGen n g).twin x = s.twin x := rfl
@[simp] theorem modGen_inp {n : Nat} {g : Gen → Gen} {x : Nat} : (s.modGen n g).inp x = s.inp x := rfl
@[simp] theorem modGen_ipair {n : Nat} {g : Gen → Gen} {x : Nat} : (s.modGen n g).ipair x = s.ipair x := rfl
/-! ### setProt -/
@[simp] theorem setProt_time {n : Nat} {g : Prot} : (s.setProt n g).time = s.time := rfl
@[simp] theorem setProt_devOfs {n : Nat} {g : Prot} : (s.setProt n g).devOfs = s.devOfs := rfl
@[simp] theorem setProt_devNext {n : Nat} {g : Prot} : (s.setProt n g).devNext = s.devNext := rfl
@[simp] theorem setProt_free {n : Nat} {g : Prot} : (s.setProt n g).free = s.free := rfl
@[simp] theorem setProt_dev {n : Nat} {g : Prot} : (s.setProt n g).dev = s.dev := rfl
@[simp] theorem setProt_up {n : Nat} {g : Prot} : (s.setProt n g).up = s.up := rfl
@[simp] theorem setProt_devAt {n : Nat} {g : Prot} : (s.setProt n g).devAt = s.devAt := rfl
@[simp] theorem setProt_wide {n : Nat} {g : Prot} : (s.setProt n g).wide = s.wide := rfl
@[simp] theorem setProt_xtalLost {n : Nat} {g : Prot} : (s.setProt n g).xtalLost = s.xtalLost := rfl
@[simp] theorem setProt_aonLost {n : Nat} {g : Prot} : (s.setProt n g).aonLost = s.aonLost := rfl
@[simp] theorem setProt_runAt {n : Nat} {g : Prot} : (s.setProt n g).runAt = s.runAt := rfl
@[simp] theorem setProt_regs {n : Nat} {g : Prot} : (s.setProt n g).regs = s.regs := rfl
@[simp] theorem setProt_staged {n : Nat} {g : Prot} : (s.setProt n g).staged = s.staged := rfl
@[simp] theorem setProt_captured {n : Nat} {g : Prot} : (s.setProt n g).captured = s.captured := rfl
@[simp] theorem setProt_hwNow {n : Nat} {g : Prot} : (s.setProt n g).hwNow = s.hwNow := rfl
@[simp] theorem setProt_mem {n : Nat} {g : Prot} : (s.setProt n g).mem = s.mem := rfl
@[simp] theorem setProt_flash {n : Nat} {g : Prot} : (s.setProt n g).flash = s.flash := rfl
@[simp] theorem setProt_otp {n : Nat} {g : Prot} : (s.setProt n g).otp = s.otp := rfl
@[simp] theorem setProt_bad {n : Nat} {g : Prot} : (s.setProt n g).bad = s.bad := rfl
@[simp] theorem setProt_gens {n : Nat} {g : Prot} : (s.setProt n g).gens = s.gens := rfl
@[simp] theorem setProt_prfs {n : Nat} {g : Prot} : (s.setProt n g).prfs = s.prfs := rfl
@[simp] theorem setProt_dies {n : Nat} {g : Prot} : (s.setProt n g).dies = s.dies := rfl
@[simp] theorem setProt_seqrs {n : Nat} {g : Prot} : (s.setProt n g).seqrs = s.seqrs := rfl
@[simp] theorem setProt_groups {n : Nat} {g : Prot} : (s.setProt n g).groups = s.groups := rfl
@[simp] theorem setProt_bcast {n : Nat} {g : Prot} : (s.setProt n g).bcast = s.bcast := rfl
@[simp] theorem setProt_optics {n : Nat} {g : Prot} : (s.setProt n g).optics = s.optics := rfl
@[simp] theorem setProt_optSince {n : Nat} {g : Prot} : (s.setProt n g).optSince = s.optSince := rfl
@[simp] theorem setProt_rxs {n : Nat} {g : Prot} : (s.setProt n g).rxs = s.rxs := rfl
@[simp] theorem setProt_flight {n : Nat} {g : Prot} : (s.setProt n g).flight = s.flight := rfl
@[simp] theorem setProt_trp {n : Nat} {g : Prot} : (s.setProt n g).trp = s.trp := rfl
@[simp] theorem setProt_cores {n : Nat} {g : Prot} : (s.setProt n g).cores = s.cores := rfl
@[simp] theorem setProt_engs {n : Nat} {g : Prot} : (s.setProt n g).engs = s.engs := rfl
@[simp] theorem setProt_twins {n : Nat} {g : Prot} : (s.setProt n g).twins = s.twins := rfl
@[simp] theorem setProt_inps {n : Nat} {g : Prot} : (s.setProt n g).inps = s.inps := rfl
@[simp] theorem setProt_ipairs {n : Nat} {g : Prot} : (s.setProt n g).ipairs = s.ipairs := rfl
@[simp] theorem setProt_fns {n : Nat} {g : Prot} : (s.setProt n g).fns = s.fns := rfl
@[simp] theorem setProt_sio {n : Nat} {g : Prot} : (s.setProt n g).sio = s.sio := rfl
@[simp] theorem setProt_conns {n : Nat} {g : Prot} : (s.setProt n g).conns = s.conns := rfl
@[simp] theorem setProt_sent {n : Nat} {g : Prot} : (s.setProt n g).sent = s.sent := rfl
@[simp] theorem setProt_entryOff {n : Nat} {g : Prot} : (s.setProt n g).entryOff = s.entryOff := rfl
@[simp] theorem setProt_entryIn {n : Nat} {g : Prot} : (s.setProt n g).entryIn = s.entryIn := rfl
@[simp] theorem setProt_clock {n : Nat} {g : Prot} : (s.setProt n g).clock = s.clock := rfl
@[simp] theorem setProt_pair {n : Nat} {g : Prot} : (s.setProt n g).pair = s.pair := rfl
@[simp] theorem setProt_clus {n : Nat} {g : Prot} : (s.setProt n g).clus = s.clus := rfl
@[simp] theorem setProt_pwr {n : Nat} {g : Prot} : (s.setProt n g).pwr = s.pwr := rfl
@[simp] theorem setProt_heat {n : Nat} {g : Prot} : (s.setProt n g).heat = s.heat := rfl
@[simp] theorem setProt_recs {n : Nat} {g : Prot} : (s.setProt n g).recs = s.recs := rfl
@[simp] theorem setProt_sage {n : Nat} {g : Prot} : (s.setProt n g).sage = s.sage := rfl
@[simp] theorem setProt_ports {n : Nat} {g : Prot} : (s.setProt n g).ports = s.ports := rfl
@[simp] theorem setProt_watchAt {n : Nat} {g : Prot} : (s.setProt n g).watchAt = s.watchAt := rfl
@[simp] theorem setProt_coll {n : Nat} {g : Prot} : (s.setProt n g).coll = s.coll := rfl
@[simp] theorem setProt_pending {n : Nat} {g : Prot} : (s.setProt n g).pending = s.pending := rfl
@[simp] theorem setProt_rd {n : Nat} {g : Prot} {x : Fld} : (s.setProt n g).rd x = s.rd x := rfl
@[simp] theorem setProt_gen {n : Nat} {g : Prot} {x : Nat} : (s.setProt n g).gen x = s.gen x := rfl
@[simp] theorem setProt_core {n : Nat} {g : Prot} {x : Nat} : (s.setProt n g).core x = s.core x := rfl
@[simp] theorem setProt_conn {n : Nat} {g : Prot} {x : Nat} : (s.setProt n g).conn x = s.conn x := rfl
@[simp] theorem setProt_fn {n : Nat} {g : Prot} {x : Nat} : (s.setProt n g).fn x = s.fn x := rfl
@[simp] theorem setProt_group {n : Nat} {g : Prot} {x : Nat} : (s.setProt n g).group x = s.group x := rfl
@[simp] theorem setProt_otpWord {n : Nat} {g : Prot} {x : Nat} : (s.setProt n g).otpWord x = s.otpWord x := rfl
@[simp] theorem setProt_prf {n : Nat} {g : Prot} {x : Nat} : (s.setProt n g).prf x = s.prf x := rfl
@[simp] theorem setProt_die {n : Nat} {g : Prot} {x : Nat} : (s.setProt n g).die x = s.die x := rfl
@[simp] theorem setProt_seqr {n : Nat} {g : Prot} {x : Nat} : (s.setProt n g).seqr x = s.seqr x := rfl
@[simp] theorem setProt_optic {n : Nat} {g : Prot} {x : Nat} : (s.setProt n g).optic x = s.optic x := rfl
@[simp] theorem setProt_rx {n : Nat} {g : Prot} {x : Nat} : (s.setProt n g).rx x = s.rx x := rfl
@[simp] theorem setProt_clu {n : Nat} {g : Prot} {x : Nat} : (s.setProt n g).clu x = s.clu x := rfl
@[simp] theorem setProt_eng {n : Nat} {g : Prot} {x : Nat} : (s.setProt n g).eng x = s.eng x := rfl
@[simp] theorem setProt_twin {n : Nat} {g : Prot} {x : Nat} : (s.setProt n g).twin x = s.twin x := rfl
@[simp] theorem setProt_inp {n : Nat} {g : Prot} {x : Nat} : (s.setProt n g).inp x = s.inp x := rfl
@[simp] theorem setProt_ipair {n : Nat} {g : Prot} {x : Nat} : (s.setProt n g).ipair x = s.ipair x := rfl
/-! ### modProt -/
@[simp] theorem modProt_time {n : Nat} {g : Prot → Prot} : (s.modProt n g).time = s.time := rfl
@[simp] theorem modProt_devOfs {n : Nat} {g : Prot → Prot} : (s.modProt n g).devOfs = s.devOfs := rfl
@[simp] theorem modProt_devNext {n : Nat} {g : Prot → Prot} : (s.modProt n g).devNext = s.devNext := rfl
@[simp] theorem modProt_free {n : Nat} {g : Prot → Prot} : (s.modProt n g).free = s.free := rfl
@[simp] theorem modProt_dev {n : Nat} {g : Prot → Prot} : (s.modProt n g).dev = s.dev := rfl
@[simp] theorem modProt_up {n : Nat} {g : Prot → Prot} : (s.modProt n g).up = s.up := rfl
@[simp] theorem modProt_devAt {n : Nat} {g : Prot → Prot} : (s.modProt n g).devAt = s.devAt := rfl
@[simp] theorem modProt_wide {n : Nat} {g : Prot → Prot} : (s.modProt n g).wide = s.wide := rfl
@[simp] theorem modProt_xtalLost {n : Nat} {g : Prot → Prot} : (s.modProt n g).xtalLost = s.xtalLost := rfl
@[simp] theorem modProt_aonLost {n : Nat} {g : Prot → Prot} : (s.modProt n g).aonLost = s.aonLost := rfl
@[simp] theorem modProt_runAt {n : Nat} {g : Prot → Prot} : (s.modProt n g).runAt = s.runAt := rfl
@[simp] theorem modProt_regs {n : Nat} {g : Prot → Prot} : (s.modProt n g).regs = s.regs := rfl
@[simp] theorem modProt_staged {n : Nat} {g : Prot → Prot} : (s.modProt n g).staged = s.staged := rfl
@[simp] theorem modProt_captured {n : Nat} {g : Prot → Prot} : (s.modProt n g).captured = s.captured := rfl
@[simp] theorem modProt_hwNow {n : Nat} {g : Prot → Prot} : (s.modProt n g).hwNow = s.hwNow := rfl
@[simp] theorem modProt_mem {n : Nat} {g : Prot → Prot} : (s.modProt n g).mem = s.mem := rfl
@[simp] theorem modProt_flash {n : Nat} {g : Prot → Prot} : (s.modProt n g).flash = s.flash := rfl
@[simp] theorem modProt_otp {n : Nat} {g : Prot → Prot} : (s.modProt n g).otp = s.otp := rfl
@[simp] theorem modProt_bad {n : Nat} {g : Prot → Prot} : (s.modProt n g).bad = s.bad := rfl
@[simp] theorem modProt_gens {n : Nat} {g : Prot → Prot} : (s.modProt n g).gens = s.gens := rfl
@[simp] theorem modProt_prfs {n : Nat} {g : Prot → Prot} : (s.modProt n g).prfs = s.prfs := rfl
@[simp] theorem modProt_dies {n : Nat} {g : Prot → Prot} : (s.modProt n g).dies = s.dies := rfl
@[simp] theorem modProt_seqrs {n : Nat} {g : Prot → Prot} : (s.modProt n g).seqrs = s.seqrs := rfl
@[simp] theorem modProt_groups {n : Nat} {g : Prot → Prot} : (s.modProt n g).groups = s.groups := rfl
@[simp] theorem modProt_bcast {n : Nat} {g : Prot → Prot} : (s.modProt n g).bcast = s.bcast := rfl
@[simp] theorem modProt_optics {n : Nat} {g : Prot → Prot} : (s.modProt n g).optics = s.optics := rfl
@[simp] theorem modProt_optSince {n : Nat} {g : Prot → Prot} : (s.modProt n g).optSince = s.optSince := rfl
@[simp] theorem modProt_rxs {n : Nat} {g : Prot → Prot} : (s.modProt n g).rxs = s.rxs := rfl
@[simp] theorem modProt_flight {n : Nat} {g : Prot → Prot} : (s.modProt n g).flight = s.flight := rfl
@[simp] theorem modProt_trp {n : Nat} {g : Prot → Prot} : (s.modProt n g).trp = s.trp := rfl
@[simp] theorem modProt_cores {n : Nat} {g : Prot → Prot} : (s.modProt n g).cores = s.cores := rfl
@[simp] theorem modProt_engs {n : Nat} {g : Prot → Prot} : (s.modProt n g).engs = s.engs := rfl
@[simp] theorem modProt_twins {n : Nat} {g : Prot → Prot} : (s.modProt n g).twins = s.twins := rfl
@[simp] theorem modProt_inps {n : Nat} {g : Prot → Prot} : (s.modProt n g).inps = s.inps := rfl
@[simp] theorem modProt_ipairs {n : Nat} {g : Prot → Prot} : (s.modProt n g).ipairs = s.ipairs := rfl
@[simp] theorem modProt_fns {n : Nat} {g : Prot → Prot} : (s.modProt n g).fns = s.fns := rfl
@[simp] theorem modProt_sio {n : Nat} {g : Prot → Prot} : (s.modProt n g).sio = s.sio := rfl
@[simp] theorem modProt_conns {n : Nat} {g : Prot → Prot} : (s.modProt n g).conns = s.conns := rfl
@[simp] theorem modProt_sent {n : Nat} {g : Prot → Prot} : (s.modProt n g).sent = s.sent := rfl
@[simp] theorem modProt_entryOff {n : Nat} {g : Prot → Prot} : (s.modProt n g).entryOff = s.entryOff := rfl
@[simp] theorem modProt_entryIn {n : Nat} {g : Prot → Prot} : (s.modProt n g).entryIn = s.entryIn := rfl
@[simp] theorem modProt_clock {n : Nat} {g : Prot → Prot} : (s.modProt n g).clock = s.clock := rfl
@[simp] theorem modProt_pair {n : Nat} {g : Prot → Prot} : (s.modProt n g).pair = s.pair := rfl
@[simp] theorem modProt_clus {n : Nat} {g : Prot → Prot} : (s.modProt n g).clus = s.clus := rfl
@[simp] theorem modProt_pwr {n : Nat} {g : Prot → Prot} : (s.modProt n g).pwr = s.pwr := rfl
@[simp] theorem modProt_heat {n : Nat} {g : Prot → Prot} : (s.modProt n g).heat = s.heat := rfl
@[simp] theorem modProt_recs {n : Nat} {g : Prot → Prot} : (s.modProt n g).recs = s.recs := rfl
@[simp] theorem modProt_sage {n : Nat} {g : Prot → Prot} : (s.modProt n g).sage = s.sage := rfl
@[simp] theorem modProt_ports {n : Nat} {g : Prot → Prot} : (s.modProt n g).ports = s.ports := rfl
@[simp] theorem modProt_watchAt {n : Nat} {g : Prot → Prot} : (s.modProt n g).watchAt = s.watchAt := rfl
@[simp] theorem modProt_coll {n : Nat} {g : Prot → Prot} : (s.modProt n g).coll = s.coll := rfl
@[simp] theorem modProt_pending {n : Nat} {g : Prot → Prot} : (s.modProt n g).pending = s.pending := rfl
@[simp] theorem modProt_rd {n : Nat} {g : Prot → Prot} {x : Fld} : (s.modProt n g).rd x = s.rd x := rfl
@[simp] theorem modProt_gen {n : Nat} {g : Prot → Prot} {x : Nat} : (s.modProt n g).gen x = s.gen x := rfl
@[simp] theorem modProt_core {n : Nat} {g : Prot → Prot} {x : Nat} : (s.modProt n g).core x = s.core x := rfl
@[simp] theorem modProt_conn {n : Nat} {g : Prot → Prot} {x : Nat} : (s.modProt n g).conn x = s.conn x := rfl
@[simp] theorem modProt_fn {n : Nat} {g : Prot → Prot} {x : Nat} : (s.modProt n g).fn x = s.fn x := rfl
@[simp] theorem modProt_group {n : Nat} {g : Prot → Prot} {x : Nat} : (s.modProt n g).group x = s.group x := rfl
@[simp] theorem modProt_otpWord {n : Nat} {g : Prot → Prot} {x : Nat} : (s.modProt n g).otpWord x = s.otpWord x := rfl
@[simp] theorem modProt_prf {n : Nat} {g : Prot → Prot} {x : Nat} : (s.modProt n g).prf x = s.prf x := rfl
@[simp] theorem modProt_die {n : Nat} {g : Prot → Prot} {x : Nat} : (s.modProt n g).die x = s.die x := rfl
@[simp] theorem modProt_seqr {n : Nat} {g : Prot → Prot} {x : Nat} : (s.modProt n g).seqr x = s.seqr x := rfl
@[simp] theorem modProt_optic {n : Nat} {g : Prot → Prot} {x : Nat} : (s.modProt n g).optic x = s.optic x := rfl
@[simp] theorem modProt_rx {n : Nat} {g : Prot → Prot} {x : Nat} : (s.modProt n g).rx x = s.rx x := rfl
@[simp] theorem modProt_clu {n : Nat} {g : Prot → Prot} {x : Nat} : (s.modProt n g).clu x = s.clu x := rfl
@[simp] theorem modProt_eng {n : Nat} {g : Prot → Prot} {x : Nat} : (s.modProt n g).eng x = s.eng x := rfl
@[simp] theorem modProt_twin {n : Nat} {g : Prot → Prot} {x : Nat} : (s.modProt n g).twin x = s.twin x := rfl
@[simp] theorem modProt_inp {n : Nat} {g : Prot → Prot} {x : Nat} : (s.modProt n g).inp x = s.inp x := rfl
@[simp] theorem modProt_ipair {n : Nat} {g : Prot → Prot} {x : Nat} : (s.modProt n g).ipair x = s.ipair x := rfl
/-! ### setPrf -/
@[simp] theorem setPrf_time {n : Nat} {g : Prf} : (s.setPrf n g).time = s.time := rfl
@[simp] theorem setPrf_devOfs {n : Nat} {g : Prf} : (s.setPrf n g).devOfs = s.devOfs := rfl
@[simp] theorem setPrf_devNext {n : Nat} {g : Prf} : (s.setPrf n g).devNext = s.devNext := rfl
@[simp] theorem setPrf_free {n : Nat} {g : Prf} : (s.setPrf n g).free = s.free := rfl
@[simp] theorem setPrf_dev {n : Nat} {g : Prf} : (s.setPrf n g).dev = s.dev := rfl
@[simp] theorem setPrf_up {n : Nat} {g : Prf} : (s.setPrf n g).up = s.up := rfl
@[simp] theorem setPrf_devAt {n : Nat} {g : Prf} : (s.setPrf n g).devAt = s.devAt := rfl
@[simp] theorem setPrf_wide {n : Nat} {g : Prf} : (s.setPrf n g).wide = s.wide := rfl
@[simp] theorem setPrf_xtalLost {n : Nat} {g : Prf} : (s.setPrf n g).xtalLost = s.xtalLost := rfl
@[simp] theorem setPrf_aonLost {n : Nat} {g : Prf} : (s.setPrf n g).aonLost = s.aonLost := rfl
@[simp] theorem setPrf_runAt {n : Nat} {g : Prf} : (s.setPrf n g).runAt = s.runAt := rfl
@[simp] theorem setPrf_regs {n : Nat} {g : Prf} : (s.setPrf n g).regs = s.regs := rfl
@[simp] theorem setPrf_staged {n : Nat} {g : Prf} : (s.setPrf n g).staged = s.staged := rfl
@[simp] theorem setPrf_captured {n : Nat} {g : Prf} : (s.setPrf n g).captured = s.captured := rfl
@[simp] theorem setPrf_hwNow {n : Nat} {g : Prf} : (s.setPrf n g).hwNow = s.hwNow := rfl
@[simp] theorem setPrf_mem {n : Nat} {g : Prf} : (s.setPrf n g).mem = s.mem := rfl
@[simp] theorem setPrf_flash {n : Nat} {g : Prf} : (s.setPrf n g).flash = s.flash := rfl
@[simp] theorem setPrf_otp {n : Nat} {g : Prf} : (s.setPrf n g).otp = s.otp := rfl
@[simp] theorem setPrf_bad {n : Nat} {g : Prf} : (s.setPrf n g).bad = s.bad := rfl
@[simp] theorem setPrf_gens {n : Nat} {g : Prf} : (s.setPrf n g).gens = s.gens := rfl
@[simp] theorem setPrf_prots {n : Nat} {g : Prf} : (s.setPrf n g).prots = s.prots := rfl
@[simp] theorem setPrf_dies {n : Nat} {g : Prf} : (s.setPrf n g).dies = s.dies := rfl
@[simp] theorem setPrf_seqrs {n : Nat} {g : Prf} : (s.setPrf n g).seqrs = s.seqrs := rfl
@[simp] theorem setPrf_groups {n : Nat} {g : Prf} : (s.setPrf n g).groups = s.groups := rfl
@[simp] theorem setPrf_bcast {n : Nat} {g : Prf} : (s.setPrf n g).bcast = s.bcast := rfl
@[simp] theorem setPrf_optics {n : Nat} {g : Prf} : (s.setPrf n g).optics = s.optics := rfl
@[simp] theorem setPrf_optSince {n : Nat} {g : Prf} : (s.setPrf n g).optSince = s.optSince := rfl
@[simp] theorem setPrf_rxs {n : Nat} {g : Prf} : (s.setPrf n g).rxs = s.rxs := rfl
@[simp] theorem setPrf_flight {n : Nat} {g : Prf} : (s.setPrf n g).flight = s.flight := rfl
@[simp] theorem setPrf_trp {n : Nat} {g : Prf} : (s.setPrf n g).trp = s.trp := rfl
@[simp] theorem setPrf_cores {n : Nat} {g : Prf} : (s.setPrf n g).cores = s.cores := rfl
@[simp] theorem setPrf_engs {n : Nat} {g : Prf} : (s.setPrf n g).engs = s.engs := rfl
@[simp] theorem setPrf_twins {n : Nat} {g : Prf} : (s.setPrf n g).twins = s.twins := rfl
@[simp] theorem setPrf_inps {n : Nat} {g : Prf} : (s.setPrf n g).inps = s.inps := rfl
@[simp] theorem setPrf_ipairs {n : Nat} {g : Prf} : (s.setPrf n g).ipairs = s.ipairs := rfl
@[simp] theorem setPrf_fns {n : Nat} {g : Prf} : (s.setPrf n g).fns = s.fns := rfl
@[simp] theorem setPrf_sio {n : Nat} {g : Prf} : (s.setPrf n g).sio = s.sio := rfl
@[simp] theorem setPrf_conns {n : Nat} {g : Prf} : (s.setPrf n g).conns = s.conns := rfl
@[simp] theorem setPrf_sent {n : Nat} {g : Prf} : (s.setPrf n g).sent = s.sent := rfl
@[simp] theorem setPrf_entryOff {n : Nat} {g : Prf} : (s.setPrf n g).entryOff = s.entryOff := rfl
@[simp] theorem setPrf_entryIn {n : Nat} {g : Prf} : (s.setPrf n g).entryIn = s.entryIn := rfl
@[simp] theorem setPrf_clock {n : Nat} {g : Prf} : (s.setPrf n g).clock = s.clock := rfl
@[simp] theorem setPrf_pair {n : Nat} {g : Prf} : (s.setPrf n g).pair = s.pair := rfl
@[simp] theorem setPrf_clus {n : Nat} {g : Prf} : (s.setPrf n g).clus = s.clus := rfl
@[simp] theorem setPrf_pwr {n : Nat} {g : Prf} : (s.setPrf n g).pwr = s.pwr := rfl
@[simp] theorem setPrf_heat {n : Nat} {g : Prf} : (s.setPrf n g).heat = s.heat := rfl
@[simp] theorem setPrf_recs {n : Nat} {g : Prf} : (s.setPrf n g).recs = s.recs := rfl
@[simp] theorem setPrf_sage {n : Nat} {g : Prf} : (s.setPrf n g).sage = s.sage := rfl
@[simp] theorem setPrf_ports {n : Nat} {g : Prf} : (s.setPrf n g).ports = s.ports := rfl
@[simp] theorem setPrf_watchAt {n : Nat} {g : Prf} : (s.setPrf n g).watchAt = s.watchAt := rfl
@[simp] theorem setPrf_coll {n : Nat} {g : Prf} : (s.setPrf n g).coll = s.coll := rfl
@[simp] theorem setPrf_pending {n : Nat} {g : Prf} : (s.setPrf n g).pending = s.pending := rfl
@[simp] theorem setPrf_rd {n : Nat} {g : Prf} {x : Fld} : (s.setPrf n g).rd x = s.rd x := rfl
@[simp] theorem setPrf_gen {n : Nat} {g : Prf} {x : Nat} : (s.setPrf n g).gen x = s.gen x := rfl
@[simp] theorem setPrf_prot {n : Nat} {g : Prf} {x : Nat} : (s.setPrf n g).prot x = s.prot x := rfl
@[simp] theorem setPrf_core {n : Nat} {g : Prf} {x : Nat} : (s.setPrf n g).core x = s.core x := rfl
@[simp] theorem setPrf_conn {n : Nat} {g : Prf} {x : Nat} : (s.setPrf n g).conn x = s.conn x := rfl
@[simp] theorem setPrf_fn {n : Nat} {g : Prf} {x : Nat} : (s.setPrf n g).fn x = s.fn x := rfl
@[simp] theorem setPrf_group {n : Nat} {g : Prf} {x : Nat} : (s.setPrf n g).group x = s.group x := rfl
@[simp] theorem setPrf_otpWord {n : Nat} {g : Prf} {x : Nat} : (s.setPrf n g).otpWord x = s.otpWord x := rfl
@[simp] theorem setPrf_die {n : Nat} {g : Prf} {x : Nat} : (s.setPrf n g).die x = s.die x := rfl
@[simp] theorem setPrf_seqr {n : Nat} {g : Prf} {x : Nat} : (s.setPrf n g).seqr x = s.seqr x := rfl
@[simp] theorem setPrf_optic {n : Nat} {g : Prf} {x : Nat} : (s.setPrf n g).optic x = s.optic x := rfl
@[simp] theorem setPrf_rx {n : Nat} {g : Prf} {x : Nat} : (s.setPrf n g).rx x = s.rx x := rfl
@[simp] theorem setPrf_clu {n : Nat} {g : Prf} {x : Nat} : (s.setPrf n g).clu x = s.clu x := rfl
@[simp] theorem setPrf_eng {n : Nat} {g : Prf} {x : Nat} : (s.setPrf n g).eng x = s.eng x := rfl
@[simp] theorem setPrf_twin {n : Nat} {g : Prf} {x : Nat} : (s.setPrf n g).twin x = s.twin x := rfl
@[simp] theorem setPrf_inp {n : Nat} {g : Prf} {x : Nat} : (s.setPrf n g).inp x = s.inp x := rfl
@[simp] theorem setPrf_ipair {n : Nat} {g : Prf} {x : Nat} : (s.setPrf n g).ipair x = s.ipair x := rfl
/-! ### modPrf -/
@[simp] theorem modPrf_time {n : Nat} {g : Prf → Prf} : (s.modPrf n g).time = s.time := rfl
@[simp] theorem modPrf_devOfs {n : Nat} {g : Prf → Prf} : (s.modPrf n g).devOfs = s.devOfs := rfl
@[simp] theorem modPrf_devNext {n : Nat} {g : Prf → Prf} : (s.modPrf n g).devNext = s.devNext := rfl
@[simp] theorem modPrf_free {n : Nat} {g : Prf → Prf} : (s.modPrf n g).free = s.free := rfl
@[simp] theorem modPrf_dev {n : Nat} {g : Prf → Prf} : (s.modPrf n g).dev = s.dev := rfl
@[simp] theorem modPrf_up {n : Nat} {g : Prf → Prf} : (s.modPrf n g).up = s.up := rfl
@[simp] theorem modPrf_devAt {n : Nat} {g : Prf → Prf} : (s.modPrf n g).devAt = s.devAt := rfl
@[simp] theorem modPrf_wide {n : Nat} {g : Prf → Prf} : (s.modPrf n g).wide = s.wide := rfl
@[simp] theorem modPrf_xtalLost {n : Nat} {g : Prf → Prf} : (s.modPrf n g).xtalLost = s.xtalLost := rfl
@[simp] theorem modPrf_aonLost {n : Nat} {g : Prf → Prf} : (s.modPrf n g).aonLost = s.aonLost := rfl
@[simp] theorem modPrf_runAt {n : Nat} {g : Prf → Prf} : (s.modPrf n g).runAt = s.runAt := rfl
@[simp] theorem modPrf_regs {n : Nat} {g : Prf → Prf} : (s.modPrf n g).regs = s.regs := rfl
@[simp] theorem modPrf_staged {n : Nat} {g : Prf → Prf} : (s.modPrf n g).staged = s.staged := rfl
@[simp] theorem modPrf_captured {n : Nat} {g : Prf → Prf} : (s.modPrf n g).captured = s.captured := rfl
@[simp] theorem modPrf_hwNow {n : Nat} {g : Prf → Prf} : (s.modPrf n g).hwNow = s.hwNow := rfl
@[simp] theorem modPrf_mem {n : Nat} {g : Prf → Prf} : (s.modPrf n g).mem = s.mem := rfl
@[simp] theorem modPrf_flash {n : Nat} {g : Prf → Prf} : (s.modPrf n g).flash = s.flash := rfl
@[simp] theorem modPrf_otp {n : Nat} {g : Prf → Prf} : (s.modPrf n g).otp = s.otp := rfl
@[simp] theorem modPrf_bad {n : Nat} {g : Prf → Prf} : (s.modPrf n g).bad = s.bad := rfl
@[simp] theorem modPrf_gens {n : Nat} {g : Prf → Prf} : (s.modPrf n g).gens = s.gens := rfl
@[simp] theorem modPrf_prots {n : Nat} {g : Prf → Prf} : (s.modPrf n g).prots = s.prots := rfl
@[simp] theorem modPrf_dies {n : Nat} {g : Prf → Prf} : (s.modPrf n g).dies = s.dies := rfl
@[simp] theorem modPrf_seqrs {n : Nat} {g : Prf → Prf} : (s.modPrf n g).seqrs = s.seqrs := rfl
@[simp] theorem modPrf_groups {n : Nat} {g : Prf → Prf} : (s.modPrf n g).groups = s.groups := rfl
@[simp] theorem modPrf_bcast {n : Nat} {g : Prf → Prf} : (s.modPrf n g).bcast = s.bcast := rfl
@[simp] theorem modPrf_optics {n : Nat} {g : Prf → Prf} : (s.modPrf n g).optics = s.optics := rfl
@[simp] theorem modPrf_optSince {n : Nat} {g : Prf → Prf} : (s.modPrf n g).optSince = s.optSince := rfl
@[simp] theorem modPrf_rxs {n : Nat} {g : Prf → Prf} : (s.modPrf n g).rxs = s.rxs := rfl
@[simp] theorem modPrf_flight {n : Nat} {g : Prf → Prf} : (s.modPrf n g).flight = s.flight := rfl
@[simp] theorem modPrf_trp {n : Nat} {g : Prf → Prf} : (s.modPrf n g).trp = s.trp := rfl
@[simp] theorem modPrf_cores {n : Nat} {g : Prf → Prf} : (s.modPrf n g).cores = s.cores := rfl
@[simp] theorem modPrf_engs {n : Nat} {g : Prf → Prf} : (s.modPrf n g).engs = s.engs := rfl
@[simp] theorem modPrf_twins {n : Nat} {g : Prf → Prf} : (s.modPrf n g).twins = s.twins := rfl
@[simp] theorem modPrf_inps {n : Nat} {g : Prf → Prf} : (s.modPrf n g).inps = s.inps := rfl
@[simp] theorem modPrf_ipairs {n : Nat} {g : Prf → Prf} : (s.modPrf n g).ipairs = s.ipairs := rfl
@[simp] theorem modPrf_fns {n : Nat} {g : Prf → Prf} : (s.modPrf n g).fns = s.fns := rfl
@[simp] theorem modPrf_sio {n : Nat} {g : Prf → Prf} : (s.modPrf n g).sio = s.sio := rfl
@[simp] theorem modPrf_conns {n : Nat} {g : Prf → Prf} : (s.modPrf n g).conns = s.conns := rfl
@[simp] theorem modPrf_sent {n : Nat} {g : Prf → Prf} : (s.modPrf n g).sent = s.sent := rfl
@[simp] theorem modPrf_entryOff {n : Nat} {g : Prf → Prf} : (s.modPrf n g).entryOff = s.entryOff := rfl
@[simp] theorem modPrf_entryIn {n : Nat} {g : Prf → Prf} : (s.modPrf n g).entryIn = s.entryIn := rfl
@[simp] theorem modPrf_clock {n : Nat} {g : Prf → Prf} : (s.modPrf n g).clock = s.clock := rfl
@[simp] theorem modPrf_pair {n : Nat} {g : Prf → Prf} : (s.modPrf n g).pair = s.pair := rfl
@[simp] theorem modPrf_clus {n : Nat} {g : Prf → Prf} : (s.modPrf n g).clus = s.clus := rfl
@[simp] theorem modPrf_pwr {n : Nat} {g : Prf → Prf} : (s.modPrf n g).pwr = s.pwr := rfl
@[simp] theorem modPrf_heat {n : Nat} {g : Prf → Prf} : (s.modPrf n g).heat = s.heat := rfl
@[simp] theorem modPrf_recs {n : Nat} {g : Prf → Prf} : (s.modPrf n g).recs = s.recs := rfl
@[simp] theorem modPrf_sage {n : Nat} {g : Prf → Prf} : (s.modPrf n g).sage = s.sage := rfl
@[simp] theorem modPrf_ports {n : Nat} {g : Prf → Prf} : (s.modPrf n g).ports = s.ports := rfl
@[simp] theorem modPrf_watchAt {n : Nat} {g : Prf → Prf} : (s.modPrf n g).watchAt = s.watchAt := rfl
@[simp] theorem modPrf_coll {n : Nat} {g : Prf → Prf} : (s.modPrf n g).coll = s.coll := rfl
@[simp] theorem modPrf_pending {n : Nat} {g : Prf → Prf} : (s.modPrf n g).pending = s.pending := rfl
@[simp] theorem modPrf_rd {n : Nat} {g : Prf → Prf} {x : Fld} : (s.modPrf n g).rd x = s.rd x := rfl
@[simp] theorem modPrf_gen {n : Nat} {g : Prf → Prf} {x : Nat} : (s.modPrf n g).gen x = s.gen x := rfl
@[simp] theorem modPrf_prot {n : Nat} {g : Prf → Prf} {x : Nat} : (s.modPrf n g).prot x = s.prot x := rfl
@[simp] theorem modPrf_core {n : Nat} {g : Prf → Prf} {x : Nat} : (s.modPrf n g).core x = s.core x := rfl
@[simp] theorem modPrf_conn {n : Nat} {g : Prf → Prf} {x : Nat} : (s.modPrf n g).conn x = s.conn x := rfl
@[simp] theorem modPrf_fn {n : Nat} {g : Prf → Prf} {x : Nat} : (s.modPrf n g).fn x = s.fn x := rfl
@[simp] theorem modPrf_group {n : Nat} {g : Prf → Prf} {x : Nat} : (s.modPrf n g).group x = s.group x := rfl
@[simp] theorem modPrf_otpWord {n : Nat} {g : Prf → Prf} {x : Nat} : (s.modPrf n g).otpWord x = s.otpWord x := rfl
@[simp] theorem modPrf_die {n : Nat} {g : Prf → Prf} {x : Nat} : (s.modPrf n g).die x = s.die x := rfl
@[simp] theorem modPrf_seqr {n : Nat} {g : Prf → Prf} {x : Nat} : (s.modPrf n g).seqr x = s.seqr x := rfl
@[simp] theorem modPrf_optic {n : Nat} {g : Prf → Prf} {x : Nat} : (s.modPrf n g).optic x = s.optic x := rfl
@[simp] theorem modPrf_rx {n : Nat} {g : Prf → Prf} {x : Nat} : (s.modPrf n g).rx x = s.rx x := rfl
@[simp] theorem modPrf_clu {n : Nat} {g : Prf → Prf} {x : Nat} : (s.modPrf n g).clu x = s.clu x := rfl
@[simp] theorem modPrf_eng {n : Nat} {g : Prf → Prf} {x : Nat} : (s.modPrf n g).eng x = s.eng x := rfl
@[simp] theorem modPrf_twin {n : Nat} {g : Prf → Prf} {x : Nat} : (s.modPrf n g).twin x = s.twin x := rfl
@[simp] theorem modPrf_inp {n : Nat} {g : Prf → Prf} {x : Nat} : (s.modPrf n g).inp x = s.inp x := rfl
@[simp] theorem modPrf_ipair {n : Nat} {g : Prf → Prf} {x : Nat} : (s.modPrf n g).ipair x = s.ipair x := rfl
/-! ### modDie -/
@[simp] theorem modDie_time {n : Nat} {g : Die → Die} : (s.modDie n g).time = s.time := rfl
@[simp] theorem modDie_devOfs {n : Nat} {g : Die → Die} : (s.modDie n g).devOfs = s.devOfs := rfl
@[simp] theorem modDie_devNext {n : Nat} {g : Die → Die} : (s.modDie n g).devNext = s.devNext := rfl
@[simp] theorem modDie_free {n : Nat} {g : Die → Die} : (s.modDie n g).free = s.free := rfl
@[simp] theorem modDie_dev {n : Nat} {g : Die → Die} : (s.modDie n g).dev = s.dev := rfl
@[simp] theorem modDie_up {n : Nat} {g : Die → Die} : (s.modDie n g).up = s.up := rfl
@[simp] theorem modDie_devAt {n : Nat} {g : Die → Die} : (s.modDie n g).devAt = s.devAt := rfl
@[simp] theorem modDie_wide {n : Nat} {g : Die → Die} : (s.modDie n g).wide = s.wide := rfl
@[simp] theorem modDie_xtalLost {n : Nat} {g : Die → Die} : (s.modDie n g).xtalLost = s.xtalLost := rfl
@[simp] theorem modDie_aonLost {n : Nat} {g : Die → Die} : (s.modDie n g).aonLost = s.aonLost := rfl
@[simp] theorem modDie_runAt {n : Nat} {g : Die → Die} : (s.modDie n g).runAt = s.runAt := rfl
@[simp] theorem modDie_regs {n : Nat} {g : Die → Die} : (s.modDie n g).regs = s.regs := rfl
@[simp] theorem modDie_staged {n : Nat} {g : Die → Die} : (s.modDie n g).staged = s.staged := rfl
@[simp] theorem modDie_captured {n : Nat} {g : Die → Die} : (s.modDie n g).captured = s.captured := rfl
@[simp] theorem modDie_hwNow {n : Nat} {g : Die → Die} : (s.modDie n g).hwNow = s.hwNow := rfl
@[simp] theorem modDie_mem {n : Nat} {g : Die → Die} : (s.modDie n g).mem = s.mem := rfl
@[simp] theorem modDie_flash {n : Nat} {g : Die → Die} : (s.modDie n g).flash = s.flash := rfl
@[simp] theorem modDie_otp {n : Nat} {g : Die → Die} : (s.modDie n g).otp = s.otp := rfl
@[simp] theorem modDie_bad {n : Nat} {g : Die → Die} : (s.modDie n g).bad = s.bad := rfl
@[simp] theorem modDie_gens {n : Nat} {g : Die → Die} : (s.modDie n g).gens = s.gens := rfl
@[simp] theorem modDie_prots {n : Nat} {g : Die → Die} : (s.modDie n g).prots = s.prots := rfl
@[simp] theorem modDie_prfs {n : Nat} {g : Die → Die} : (s.modDie n g).prfs = s.prfs := rfl
@[simp] theorem modDie_seqrs {n : Nat} {g : Die → Die} : (s.modDie n g).seqrs = s.seqrs := rfl
@[simp] theorem modDie_groups {n : Nat} {g : Die → Die} : (s.modDie n g).groups = s.groups := rfl
@[simp] theorem modDie_bcast {n : Nat} {g : Die → Die} : (s.modDie n g).bcast = s.bcast := rfl
@[simp] theorem modDie_optics {n : Nat} {g : Die → Die} : (s.modDie n g).optics = s.optics := rfl
@[simp] theorem modDie_optSince {n : Nat} {g : Die → Die} : (s.modDie n g).optSince = s.optSince := rfl
@[simp] theorem modDie_rxs {n : Nat} {g : Die → Die} : (s.modDie n g).rxs = s.rxs := rfl
@[simp] theorem modDie_flight {n : Nat} {g : Die → Die} : (s.modDie n g).flight = s.flight := rfl
@[simp] theorem modDie_trp {n : Nat} {g : Die → Die} : (s.modDie n g).trp = s.trp := rfl
@[simp] theorem modDie_cores {n : Nat} {g : Die → Die} : (s.modDie n g).cores = s.cores := rfl
@[simp] theorem modDie_engs {n : Nat} {g : Die → Die} : (s.modDie n g).engs = s.engs := rfl
@[simp] theorem modDie_twins {n : Nat} {g : Die → Die} : (s.modDie n g).twins = s.twins := rfl
@[simp] theorem modDie_inps {n : Nat} {g : Die → Die} : (s.modDie n g).inps = s.inps := rfl
@[simp] theorem modDie_ipairs {n : Nat} {g : Die → Die} : (s.modDie n g).ipairs = s.ipairs := rfl
@[simp] theorem modDie_fns {n : Nat} {g : Die → Die} : (s.modDie n g).fns = s.fns := rfl
@[simp] theorem modDie_sio {n : Nat} {g : Die → Die} : (s.modDie n g).sio = s.sio := rfl
@[simp] theorem modDie_conns {n : Nat} {g : Die → Die} : (s.modDie n g).conns = s.conns := rfl
@[simp] theorem modDie_sent {n : Nat} {g : Die → Die} : (s.modDie n g).sent = s.sent := rfl
@[simp] theorem modDie_entryOff {n : Nat} {g : Die → Die} : (s.modDie n g).entryOff = s.entryOff := rfl
@[simp] theorem modDie_entryIn {n : Nat} {g : Die → Die} : (s.modDie n g).entryIn = s.entryIn := rfl
@[simp] theorem modDie_clock {n : Nat} {g : Die → Die} : (s.modDie n g).clock = s.clock := rfl
@[simp] theorem modDie_pair {n : Nat} {g : Die → Die} : (s.modDie n g).pair = s.pair := rfl
@[simp] theorem modDie_clus {n : Nat} {g : Die → Die} : (s.modDie n g).clus = s.clus := rfl
@[simp] theorem modDie_pwr {n : Nat} {g : Die → Die} : (s.modDie n g).pwr = s.pwr := rfl
@[simp] theorem modDie_heat {n : Nat} {g : Die → Die} : (s.modDie n g).heat = s.heat := rfl
@[simp] theorem modDie_recs {n : Nat} {g : Die → Die} : (s.modDie n g).recs = s.recs := rfl
@[simp] theorem modDie_sage {n : Nat} {g : Die → Die} : (s.modDie n g).sage = s.sage := rfl
@[simp] theorem modDie_ports {n : Nat} {g : Die → Die} : (s.modDie n g).ports = s.ports := rfl
@[simp] theorem modDie_watchAt {n : Nat} {g : Die → Die} : (s.modDie n g).watchAt = s.watchAt := rfl
@[simp] theorem modDie_coll {n : Nat} {g : Die → Die} : (s.modDie n g).coll = s.coll := rfl
@[simp] theorem modDie_pending {n : Nat} {g : Die → Die} : (s.modDie n g).pending = s.pending := rfl
@[simp] theorem modDie_rd {n : Nat} {g : Die → Die} {x : Fld} : (s.modDie n g).rd x = s.rd x := rfl
@[simp] theorem modDie_gen {n : Nat} {g : Die → Die} {x : Nat} : (s.modDie n g).gen x = s.gen x := rfl
@[simp] theorem modDie_prot {n : Nat} {g : Die → Die} {x : Nat} : (s.modDie n g).prot x = s.prot x := rfl
@[simp] theorem modDie_core {n : Nat} {g : Die → Die} {x : Nat} : (s.modDie n g).core x = s.core x := rfl
@[simp] theorem modDie_conn {n : Nat} {g : Die → Die} {x : Nat} : (s.modDie n g).conn x = s.conn x := rfl
@[simp] theorem modDie_fn {n : Nat} {g : Die → Die} {x : Nat} : (s.modDie n g).fn x = s.fn x := rfl
@[simp] theorem modDie_group {n : Nat} {g : Die → Die} {x : Nat} : (s.modDie n g).group x = s.group x := rfl
@[simp] theorem modDie_otpWord {n : Nat} {g : Die → Die} {x : Nat} : (s.modDie n g).otpWord x = s.otpWord x := rfl
@[simp] theorem modDie_prf {n : Nat} {g : Die → Die} {x : Nat} : (s.modDie n g).prf x = s.prf x := rfl
@[simp] theorem modDie_seqr {n : Nat} {g : Die → Die} {x : Nat} : (s.modDie n g).seqr x = s.seqr x := rfl
@[simp] theorem modDie_optic {n : Nat} {g : Die → Die} {x : Nat} : (s.modDie n g).optic x = s.optic x := rfl
@[simp] theorem modDie_rx {n : Nat} {g : Die → Die} {x : Nat} : (s.modDie n g).rx x = s.rx x := rfl
@[simp] theorem modDie_clu {n : Nat} {g : Die → Die} {x : Nat} : (s.modDie n g).clu x = s.clu x := rfl
@[simp] theorem modDie_eng {n : Nat} {g : Die → Die} {x : Nat} : (s.modDie n g).eng x = s.eng x := rfl
@[simp] theorem modDie_twin {n : Nat} {g : Die → Die} {x : Nat} : (s.modDie n g).twin x = s.twin x := rfl
@[simp] theorem modDie_inp {n : Nat} {g : Die → Die} {x : Nat} : (s.modDie n g).inp x = s.inp x := rfl
@[simp] theorem modDie_ipair {n : Nat} {g : Die → Die} {x : Nat} : (s.modDie n g).ipair x = s.ipair x := rfl
/-! ### modSeqr -/
@[simp] theorem modSeqr_time {n : Nat} {g : Seqr → Seqr} : (s.modSeqr n g).time = s.time := rfl
@[simp] theorem modSeqr_devOfs {n : Nat} {g : Seqr → Seqr} : (s.modSeqr n g).devOfs = s.devOfs := rfl
@[simp] theorem modSeqr_devNext {n : Nat} {g : Seqr → Seqr} : (s.modSeqr n g).devNext = s.devNext := rfl
@[simp] theorem modSeqr_free {n : Nat} {g : Seqr → Seqr} : (s.modSeqr n g).free = s.free := rfl
@[simp] theorem modSeqr_dev {n : Nat} {g : Seqr → Seqr} : (s.modSeqr n g).dev = s.dev := rfl
@[simp] theorem modSeqr_up {n : Nat} {g : Seqr → Seqr} : (s.modSeqr n g).up = s.up := rfl
@[simp] theorem modSeqr_devAt {n : Nat} {g : Seqr → Seqr} : (s.modSeqr n g).devAt = s.devAt := rfl
@[simp] theorem modSeqr_wide {n : Nat} {g : Seqr → Seqr} : (s.modSeqr n g).wide = s.wide := rfl
@[simp] theorem modSeqr_xtalLost {n : Nat} {g : Seqr → Seqr} : (s.modSeqr n g).xtalLost = s.xtalLost := rfl
@[simp] theorem modSeqr_aonLost {n : Nat} {g : Seqr → Seqr} : (s.modSeqr n g).aonLost = s.aonLost := rfl
@[simp] theorem modSeqr_runAt {n : Nat} {g : Seqr → Seqr} : (s.modSeqr n g).runAt = s.runAt := rfl
@[simp] theorem modSeqr_regs {n : Nat} {g : Seqr → Seqr} : (s.modSeqr n g).regs = s.regs := rfl
@[simp] theorem modSeqr_staged {n : Nat} {g : Seqr → Seqr} : (s.modSeqr n g).staged = s.staged := rfl
@[simp] theorem modSeqr_captured {n : Nat} {g : Seqr → Seqr} : (s.modSeqr n g).captured = s.captured := rfl
@[simp] theorem modSeqr_hwNow {n : Nat} {g : Seqr → Seqr} : (s.modSeqr n g).hwNow = s.hwNow := rfl
@[simp] theorem modSeqr_mem {n : Nat} {g : Seqr → Seqr} : (s.modSeqr n g).mem = s.mem := rfl
@[simp] theorem modSeqr_flash {n : Nat} {g : Seqr → Seqr} : (s.modSeqr n g).flash = s.flash := rfl
@[simp] theorem modSeqr_otp {n : Nat} {g : Seqr → Seqr} : (s.modSeqr n g).otp = s.otp := rfl
@[simp] theorem modSeqr_bad {n : Nat} {g : Seqr → Seqr} : (s.modSeqr n g).bad = s.bad := rfl
@[simp] theorem modSeqr_gens {n : Nat} {g : Seqr → Seqr} : (s.modSeqr n g).gens = s.gens := rfl
@[simp] theorem modSeqr_prots {n : Nat} {g : Seqr → Seqr} : (s.modSeqr n g).prots = s.prots := rfl
@[simp] theorem modSeqr_prfs {n : Nat} {g : Seqr → Seqr} : (s.modSeqr n g).prfs = s.prfs := rfl
@[simp] theorem modSeqr_dies {n : Nat} {g : Seqr → Seqr} : (s.modSeqr n g).dies = s.dies := rfl
@[simp] theorem modSeqr_groups {n : Nat} {g : Seqr → Seqr} : (s.modSeqr n g).groups = s.groups := rfl
@[simp] theorem modSeqr_bcast {n : Nat} {g : Seqr → Seqr} : (s.modSeqr n g).bcast = s.bcast := rfl
@[simp] theorem modSeqr_optics {n : Nat} {g : Seqr → Seqr} : (s.modSeqr n g).optics = s.optics := rfl
@[simp] theorem modSeqr_optSince {n : Nat} {g : Seqr → Seqr} : (s.modSeqr n g).optSince = s.optSince := rfl
@[simp] theorem modSeqr_rxs {n : Nat} {g : Seqr → Seqr} : (s.modSeqr n g).rxs = s.rxs := rfl
@[simp] theorem modSeqr_flight {n : Nat} {g : Seqr → Seqr} : (s.modSeqr n g).flight = s.flight := rfl
@[simp] theorem modSeqr_trp {n : Nat} {g : Seqr → Seqr} : (s.modSeqr n g).trp = s.trp := rfl
@[simp] theorem modSeqr_cores {n : Nat} {g : Seqr → Seqr} : (s.modSeqr n g).cores = s.cores := rfl
@[simp] theorem modSeqr_engs {n : Nat} {g : Seqr → Seqr} : (s.modSeqr n g).engs = s.engs := rfl
@[simp] theorem modSeqr_twins {n : Nat} {g : Seqr → Seqr} : (s.modSeqr n g).twins = s.twins := rfl
@[simp] theorem modSeqr_inps {n : Nat} {g : Seqr → Seqr} : (s.modSeqr n g).inps = s.inps := rfl
@[simp] theorem modSeqr_ipairs {n : Nat} {g : Seqr → Seqr} : (s.modSeqr n g).ipairs = s.ipairs := rfl
@[simp] theorem modSeqr_fns {n : Nat} {g : Seqr → Seqr} : (s.modSeqr n g).fns = s.fns := rfl
@[simp] theorem modSeqr_sio {n : Nat} {g : Seqr → Seqr} : (s.modSeqr n g).sio = s.sio := rfl
@[simp] theorem modSeqr_conns {n : Nat} {g : Seqr → Seqr} : (s.modSeqr n g).conns = s.conns := rfl
@[simp] theorem modSeqr_sent {n : Nat} {g : Seqr → Seqr} : (s.modSeqr n g).sent = s.sent := rfl
@[simp] theorem modSeqr_entryOff {n : Nat} {g : Seqr → Seqr} : (s.modSeqr n g).entryOff = s.entryOff := rfl
@[simp] theorem modSeqr_entryIn {n : Nat} {g : Seqr → Seqr} : (s.modSeqr n g).entryIn = s.entryIn := rfl
@[simp] theorem modSeqr_clock {n : Nat} {g : Seqr → Seqr} : (s.modSeqr n g).clock = s.clock := rfl
@[simp] theorem modSeqr_pair {n : Nat} {g : Seqr → Seqr} : (s.modSeqr n g).pair = s.pair := rfl
@[simp] theorem modSeqr_clus {n : Nat} {g : Seqr → Seqr} : (s.modSeqr n g).clus = s.clus := rfl
@[simp] theorem modSeqr_pwr {n : Nat} {g : Seqr → Seqr} : (s.modSeqr n g).pwr = s.pwr := rfl
@[simp] theorem modSeqr_heat {n : Nat} {g : Seqr → Seqr} : (s.modSeqr n g).heat = s.heat := rfl
@[simp] theorem modSeqr_recs {n : Nat} {g : Seqr → Seqr} : (s.modSeqr n g).recs = s.recs := rfl
@[simp] theorem modSeqr_sage {n : Nat} {g : Seqr → Seqr} : (s.modSeqr n g).sage = s.sage := rfl
@[simp] theorem modSeqr_ports {n : Nat} {g : Seqr → Seqr} : (s.modSeqr n g).ports = s.ports := rfl
@[simp] theorem modSeqr_watchAt {n : Nat} {g : Seqr → Seqr} : (s.modSeqr n g).watchAt = s.watchAt := rfl
@[simp] theorem modSeqr_coll {n : Nat} {g : Seqr → Seqr} : (s.modSeqr n g).coll = s.coll := rfl
@[simp] theorem modSeqr_pending {n : Nat} {g : Seqr → Seqr} : (s.modSeqr n g).pending = s.pending := rfl
@[simp] theorem modSeqr_rd {n : Nat} {g : Seqr → Seqr} {x : Fld} : (s.modSeqr n g).rd x = s.rd x := rfl
@[simp] theorem modSeqr_gen {n : Nat} {g : Seqr → Seqr} {x : Nat} : (s.modSeqr n g).gen x = s.gen x := rfl
@[simp] theorem modSeqr_prot {n : Nat} {g : Seqr → Seqr} {x : Nat} : (s.modSeqr n g).prot x = s.prot x := rfl
@[simp] theorem modSeqr_core {n : Nat} {g : Seqr → Seqr} {x : Nat} : (s.modSeqr n g).core x = s.core x := rfl
@[simp] theorem modSeqr_conn {n : Nat} {g : Seqr → Seqr} {x : Nat} : (s.modSeqr n g).conn x = s.conn x := rfl
@[simp] theorem modSeqr_fn {n : Nat} {g : Seqr → Seqr} {x : Nat} : (s.modSeqr n g).fn x = s.fn x := rfl
@[simp] theorem modSeqr_group {n : Nat} {g : Seqr → Seqr} {x : Nat} : (s.modSeqr n g).group x = s.group x := rfl
@[simp] theorem modSeqr_otpWord {n : Nat} {g : Seqr → Seqr} {x : Nat} : (s.modSeqr n g).otpWord x = s.otpWord x := rfl
@[simp] theorem modSeqr_prf {n : Nat} {g : Seqr → Seqr} {x : Nat} : (s.modSeqr n g).prf x = s.prf x := rfl
@[simp] theorem modSeqr_die {n : Nat} {g : Seqr → Seqr} {x : Nat} : (s.modSeqr n g).die x = s.die x := rfl
@[simp] theorem modSeqr_optic {n : Nat} {g : Seqr → Seqr} {x : Nat} : (s.modSeqr n g).optic x = s.optic x := rfl
@[simp] theorem modSeqr_rx {n : Nat} {g : Seqr → Seqr} {x : Nat} : (s.modSeqr n g).rx x = s.rx x := rfl
@[simp] theorem modSeqr_clu {n : Nat} {g : Seqr → Seqr} {x : Nat} : (s.modSeqr n g).clu x = s.clu x := rfl
@[simp] theorem modSeqr_eng {n : Nat} {g : Seqr → Seqr} {x : Nat} : (s.modSeqr n g).eng x = s.eng x := rfl
@[simp] theorem modSeqr_twin {n : Nat} {g : Seqr → Seqr} {x : Nat} : (s.modSeqr n g).twin x = s.twin x := rfl
@[simp] theorem modSeqr_inp {n : Nat} {g : Seqr → Seqr} {x : Nat} : (s.modSeqr n g).inp x = s.inp x := rfl
@[simp] theorem modSeqr_ipair {n : Nat} {g : Seqr → Seqr} {x : Nat} : (s.modSeqr n g).ipair x = s.ipair x := rfl
/-! ### modGroup -/
@[simp] theorem modGroup_time {n : Nat} {g : Group → Group} : (s.modGroup n g).time = s.time := rfl
@[simp] theorem modGroup_devOfs {n : Nat} {g : Group → Group} : (s.modGroup n g).devOfs = s.devOfs := rfl
@[simp] theorem modGroup_devNext {n : Nat} {g : Group → Group} : (s.modGroup n g).devNext = s.devNext := rfl
@[simp] theorem modGroup_free {n : Nat} {g : Group → Group} : (s.modGroup n g).free = s.free := rfl
@[simp] theorem modGroup_dev {n : Nat} {g : Group → Group} : (s.modGroup n g).dev = s.dev := rfl
@[simp] theorem modGroup_up {n : Nat} {g : Group → Group} : (s.modGroup n g).up = s.up := rfl
@[simp] theorem modGroup_devAt {n : Nat} {g : Group → Group} : (s.modGroup n g).devAt = s.devAt := rfl
@[simp] theorem modGroup_wide {n : Nat} {g : Group → Group} : (s.modGroup n g).wide = s.wide := rfl
@[simp] theorem modGroup_xtalLost {n : Nat} {g : Group → Group} : (s.modGroup n g).xtalLost = s.xtalLost := rfl
@[simp] theorem modGroup_aonLost {n : Nat} {g : Group → Group} : (s.modGroup n g).aonLost = s.aonLost := rfl
@[simp] theorem modGroup_runAt {n : Nat} {g : Group → Group} : (s.modGroup n g).runAt = s.runAt := rfl
@[simp] theorem modGroup_regs {n : Nat} {g : Group → Group} : (s.modGroup n g).regs = s.regs := rfl
@[simp] theorem modGroup_staged {n : Nat} {g : Group → Group} : (s.modGroup n g).staged = s.staged := rfl
@[simp] theorem modGroup_captured {n : Nat} {g : Group → Group} : (s.modGroup n g).captured = s.captured := rfl
@[simp] theorem modGroup_hwNow {n : Nat} {g : Group → Group} : (s.modGroup n g).hwNow = s.hwNow := rfl
@[simp] theorem modGroup_mem {n : Nat} {g : Group → Group} : (s.modGroup n g).mem = s.mem := rfl
@[simp] theorem modGroup_flash {n : Nat} {g : Group → Group} : (s.modGroup n g).flash = s.flash := rfl
@[simp] theorem modGroup_otp {n : Nat} {g : Group → Group} : (s.modGroup n g).otp = s.otp := rfl
@[simp] theorem modGroup_bad {n : Nat} {g : Group → Group} : (s.modGroup n g).bad = s.bad := rfl
@[simp] theorem modGroup_gens {n : Nat} {g : Group → Group} : (s.modGroup n g).gens = s.gens := rfl
@[simp] theorem modGroup_prots {n : Nat} {g : Group → Group} : (s.modGroup n g).prots = s.prots := rfl
@[simp] theorem modGroup_prfs {n : Nat} {g : Group → Group} : (s.modGroup n g).prfs = s.prfs := rfl
@[simp] theorem modGroup_dies {n : Nat} {g : Group → Group} : (s.modGroup n g).dies = s.dies := rfl
@[simp] theorem modGroup_seqrs {n : Nat} {g : Group → Group} : (s.modGroup n g).seqrs = s.seqrs := rfl
@[simp] theorem modGroup_bcast {n : Nat} {g : Group → Group} : (s.modGroup n g).bcast = s.bcast := rfl
@[simp] theorem modGroup_optics {n : Nat} {g : Group → Group} : (s.modGroup n g).optics = s.optics := rfl
@[simp] theorem modGroup_optSince {n : Nat} {g : Group → Group} : (s.modGroup n g).optSince = s.optSince := rfl
@[simp] theorem modGroup_rxs {n : Nat} {g : Group → Group} : (s.modGroup n g).rxs = s.rxs := rfl
@[simp] theorem modGroup_flight {n : Nat} {g : Group → Group} : (s.modGroup n g).flight = s.flight := rfl
@[simp] theorem modGroup_trp {n : Nat} {g : Group → Group} : (s.modGroup n g).trp = s.trp := rfl
@[simp] theorem modGroup_cores {n : Nat} {g : Group → Group} : (s.modGroup n g).cores = s.cores := rfl
@[simp] theorem modGroup_engs {n : Nat} {g : Group → Group} : (s.modGroup n g).engs = s.engs := rfl
@[simp] theorem modGroup_twins {n : Nat} {g : Group → Group} : (s.modGroup n g).twins = s.twins := rfl
@[simp] theorem modGroup_inps {n : Nat} {g : Group → Group} : (s.modGroup n g).inps = s.inps := rfl
@[simp] theorem modGroup_ipairs {n : Nat} {g : Group → Group} : (s.modGroup n g).ipairs = s.ipairs := rfl
@[simp] theorem modGroup_fns {n : Nat} {g : Group → Group} : (s.modGroup n g).fns = s.fns := rfl
@[simp] theorem modGroup_sio {n : Nat} {g : Group → Group} : (s.modGroup n g).sio = s.sio := rfl
@[simp] theorem modGroup_conns {n : Nat} {g : Group → Group} : (s.modGroup n g).conns = s.conns := rfl
@[simp] theorem modGroup_sent {n : Nat} {g : Group → Group} : (s.modGroup n g).sent = s.sent := rfl
@[simp] theorem modGroup_entryOff {n : Nat} {g : Group → Group} : (s.modGroup n g).entryOff = s.entryOff := rfl
@[simp] theorem modGroup_entryIn {n : Nat} {g : Group → Group} : (s.modGroup n g).entryIn = s.entryIn := rfl
@[simp] theorem modGroup_clock {n : Nat} {g : Group → Group} : (s.modGroup n g).clock = s.clock := rfl
@[simp] theorem modGroup_pair {n : Nat} {g : Group → Group} : (s.modGroup n g).pair = s.pair := rfl
@[simp] theorem modGroup_clus {n : Nat} {g : Group → Group} : (s.modGroup n g).clus = s.clus := rfl
@[simp] theorem modGroup_pwr {n : Nat} {g : Group → Group} : (s.modGroup n g).pwr = s.pwr := rfl
@[simp] theorem modGroup_heat {n : Nat} {g : Group → Group} : (s.modGroup n g).heat = s.heat := rfl
@[simp] theorem modGroup_recs {n : Nat} {g : Group → Group} : (s.modGroup n g).recs = s.recs := rfl
@[simp] theorem modGroup_sage {n : Nat} {g : Group → Group} : (s.modGroup n g).sage = s.sage := rfl
@[simp] theorem modGroup_ports {n : Nat} {g : Group → Group} : (s.modGroup n g).ports = s.ports := rfl
@[simp] theorem modGroup_watchAt {n : Nat} {g : Group → Group} : (s.modGroup n g).watchAt = s.watchAt := rfl
@[simp] theorem modGroup_coll {n : Nat} {g : Group → Group} : (s.modGroup n g).coll = s.coll := rfl
@[simp] theorem modGroup_pending {n : Nat} {g : Group → Group} : (s.modGroup n g).pending = s.pending := rfl
@[simp] theorem modGroup_rd {n : Nat} {g : Group → Group} {x : Fld} : (s.modGroup n g).rd x = s.rd x := rfl
@[simp] theorem modGroup_gen {n : Nat} {g : Group → Group} {x : Nat} : (s.modGroup n g).gen x = s.gen x := rfl
@[simp] theorem modGroup_prot {n : Nat} {g : Group → Group} {x : Nat} : (s.modGroup n g).prot x = s.prot x := rfl
@[simp] theorem modGroup_core {n : Nat} {g : Group → Group} {x : Nat} : (s.modGroup n g).core x = s.core x := rfl
@[simp] theorem modGroup_conn {n : Nat} {g : Group → Group} {x : Nat} : (s.modGroup n g).conn x = s.conn x := rfl
@[simp] theorem modGroup_fn {n : Nat} {g : Group → Group} {x : Nat} : (s.modGroup n g).fn x = s.fn x := rfl
@[simp] theorem modGroup_otpWord {n : Nat} {g : Group → Group} {x : Nat} : (s.modGroup n g).otpWord x = s.otpWord x := rfl
@[simp] theorem modGroup_prf {n : Nat} {g : Group → Group} {x : Nat} : (s.modGroup n g).prf x = s.prf x := rfl
@[simp] theorem modGroup_die {n : Nat} {g : Group → Group} {x : Nat} : (s.modGroup n g).die x = s.die x := rfl
@[simp] theorem modGroup_seqr {n : Nat} {g : Group → Group} {x : Nat} : (s.modGroup n g).seqr x = s.seqr x := rfl
@[simp] theorem modGroup_optic {n : Nat} {g : Group → Group} {x : Nat} : (s.modGroup n g).optic x = s.optic x := rfl
@[simp] theorem modGroup_rx {n : Nat} {g : Group → Group} {x : Nat} : (s.modGroup n g).rx x = s.rx x := rfl
@[simp] theorem modGroup_clu {n : Nat} {g : Group → Group} {x : Nat} : (s.modGroup n g).clu x = s.clu x := rfl
@[simp] theorem modGroup_eng {n : Nat} {g : Group → Group} {x : Nat} : (s.modGroup n g).eng x = s.eng x := rfl
@[simp] theorem modGroup_twin {n : Nat} {g : Group → Group} {x : Nat} : (s.modGroup n g).twin x = s.twin x := rfl
@[simp] theorem modGroup_inp {n : Nat} {g : Group → Group} {x : Nat} : (s.modGroup n g).inp x = s.inp x := rfl
@[simp] theorem modGroup_ipair {n : Nat} {g : Group → Group} {x : Nat} : (s.modGroup n g).ipair x = s.ipair x := rfl
/-! ### modOptic -/
@[simp] theorem modOptic_time {n : Nat} {g : Optic → Optic} : (s.modOptic n g).time = s.time := rfl
@[simp] theorem modOptic_devOfs {n : Nat} {g : Optic → Optic} : (s.modOptic n g).devOfs = s.devOfs := rfl
@[simp] theorem modOptic_devNext {n : Nat} {g : Optic → Optic} : (s.modOptic n g).devNext = s.devNext := rfl
@[simp] theorem modOptic_free {n : Nat} {g : Optic → Optic} : (s.modOptic n g).free = s.free := rfl
@[simp] theorem modOptic_dev {n : Nat} {g : Optic → Optic} : (s.modOptic n g).dev = s.dev := rfl
@[simp] theorem modOptic_up {n : Nat} {g : Optic → Optic} : (s.modOptic n g).up = s.up := rfl
@[simp] theorem modOptic_devAt {n : Nat} {g : Optic → Optic} : (s.modOptic n g).devAt = s.devAt := rfl
@[simp] theorem modOptic_wide {n : Nat} {g : Optic → Optic} : (s.modOptic n g).wide = s.wide := rfl
@[simp] theorem modOptic_xtalLost {n : Nat} {g : Optic → Optic} : (s.modOptic n g).xtalLost = s.xtalLost := rfl
@[simp] theorem modOptic_aonLost {n : Nat} {g : Optic → Optic} : (s.modOptic n g).aonLost = s.aonLost := rfl
@[simp] theorem modOptic_runAt {n : Nat} {g : Optic → Optic} : (s.modOptic n g).runAt = s.runAt := rfl
@[simp] theorem modOptic_regs {n : Nat} {g : Optic → Optic} : (s.modOptic n g).regs = s.regs := rfl
@[simp] theorem modOptic_staged {n : Nat} {g : Optic → Optic} : (s.modOptic n g).staged = s.staged := rfl
@[simp] theorem modOptic_captured {n : Nat} {g : Optic → Optic} : (s.modOptic n g).captured = s.captured := rfl
@[simp] theorem modOptic_hwNow {n : Nat} {g : Optic → Optic} : (s.modOptic n g).hwNow = s.hwNow := rfl
@[simp] theorem modOptic_mem {n : Nat} {g : Optic → Optic} : (s.modOptic n g).mem = s.mem := rfl
@[simp] theorem modOptic_flash {n : Nat} {g : Optic → Optic} : (s.modOptic n g).flash = s.flash := rfl
@[simp] theorem modOptic_otp {n : Nat} {g : Optic → Optic} : (s.modOptic n g).otp = s.otp := rfl
@[simp] theorem modOptic_bad {n : Nat} {g : Optic → Optic} : (s.modOptic n g).bad = s.bad := rfl
@[simp] theorem modOptic_gens {n : Nat} {g : Optic → Optic} : (s.modOptic n g).gens = s.gens := rfl
@[simp] theorem modOptic_prots {n : Nat} {g : Optic → Optic} : (s.modOptic n g).prots = s.prots := rfl
@[simp] theorem modOptic_prfs {n : Nat} {g : Optic → Optic} : (s.modOptic n g).prfs = s.prfs := rfl
@[simp] theorem modOptic_dies {n : Nat} {g : Optic → Optic} : (s.modOptic n g).dies = s.dies := rfl
@[simp] theorem modOptic_seqrs {n : Nat} {g : Optic → Optic} : (s.modOptic n g).seqrs = s.seqrs := rfl
@[simp] theorem modOptic_groups {n : Nat} {g : Optic → Optic} : (s.modOptic n g).groups = s.groups := rfl
@[simp] theorem modOptic_bcast {n : Nat} {g : Optic → Optic} : (s.modOptic n g).bcast = s.bcast := rfl
@[simp] theorem modOptic_optSince {n : Nat} {g : Optic → Optic} : (s.modOptic n g).optSince = s.optSince := rfl
@[simp] theorem modOptic_rxs {n : Nat} {g : Optic → Optic} : (s.modOptic n g).rxs = s.rxs := rfl
@[simp] theorem modOptic_flight {n : Nat} {g : Optic → Optic} : (s.modOptic n g).flight = s.flight := rfl
@[simp] theorem modOptic_trp {n : Nat} {g : Optic → Optic} : (s.modOptic n g).trp = s.trp := rfl
@[simp] theorem modOptic_cores {n : Nat} {g : Optic → Optic} : (s.modOptic n g).cores = s.cores := rfl
@[simp] theorem modOptic_engs {n : Nat} {g : Optic → Optic} : (s.modOptic n g).engs = s.engs := rfl
@[simp] theorem modOptic_twins {n : Nat} {g : Optic → Optic} : (s.modOptic n g).twins = s.twins := rfl
@[simp] theorem modOptic_inps {n : Nat} {g : Optic → Optic} : (s.modOptic n g).inps = s.inps := rfl
@[simp] theorem modOptic_ipairs {n : Nat} {g : Optic → Optic} : (s.modOptic n g).ipairs = s.ipairs := rfl
@[simp] theorem modOptic_fns {n : Nat} {g : Optic → Optic} : (s.modOptic n g).fns = s.fns := rfl
@[simp] theorem modOptic_sio {n : Nat} {g : Optic → Optic} : (s.modOptic n g).sio = s.sio := rfl
@[simp] theorem modOptic_conns {n : Nat} {g : Optic → Optic} : (s.modOptic n g).conns = s.conns := rfl
@[simp] theorem modOptic_sent {n : Nat} {g : Optic → Optic} : (s.modOptic n g).sent = s.sent := rfl
@[simp] theorem modOptic_entryOff {n : Nat} {g : Optic → Optic} : (s.modOptic n g).entryOff = s.entryOff := rfl
@[simp] theorem modOptic_entryIn {n : Nat} {g : Optic → Optic} : (s.modOptic n g).entryIn = s.entryIn := rfl
@[simp] theorem modOptic_clock {n : Nat} {g : Optic → Optic} : (s.modOptic n g).clock = s.clock := rfl
@[simp] theorem modOptic_pair {n : Nat} {g : Optic → Optic} : (s.modOptic n g).pair = s.pair := rfl
@[simp] theorem modOptic_clus {n : Nat} {g : Optic → Optic} : (s.modOptic n g).clus = s.clus := rfl
@[simp] theorem modOptic_pwr {n : Nat} {g : Optic → Optic} : (s.modOptic n g).pwr = s.pwr := rfl
@[simp] theorem modOptic_heat {n : Nat} {g : Optic → Optic} : (s.modOptic n g).heat = s.heat := rfl
@[simp] theorem modOptic_recs {n : Nat} {g : Optic → Optic} : (s.modOptic n g).recs = s.recs := rfl
@[simp] theorem modOptic_sage {n : Nat} {g : Optic → Optic} : (s.modOptic n g).sage = s.sage := rfl
@[simp] theorem modOptic_ports {n : Nat} {g : Optic → Optic} : (s.modOptic n g).ports = s.ports := rfl
@[simp] theorem modOptic_watchAt {n : Nat} {g : Optic → Optic} : (s.modOptic n g).watchAt = s.watchAt := rfl
@[simp] theorem modOptic_coll {n : Nat} {g : Optic → Optic} : (s.modOptic n g).coll = s.coll := rfl
@[simp] theorem modOptic_pending {n : Nat} {g : Optic → Optic} : (s.modOptic n g).pending = s.pending := rfl
@[simp] theorem modOptic_rd {n : Nat} {g : Optic → Optic} {x : Fld} : (s.modOptic n g).rd x = s.rd x := rfl
@[simp] theorem modOptic_gen {n : Nat} {g : Optic → Optic} {x : Nat} : (s.modOptic n g).gen x = s.gen x := rfl
@[simp] theorem modOptic_prot {n : Nat} {g : Optic → Optic} {x : Nat} : (s.modOptic n g).prot x = s.prot x := rfl
@[simp] theorem modOptic_core {n : Nat} {g : Optic → Optic} {x : Nat} : (s.modOptic n g).core x = s.core x := rfl
@[simp] theorem modOptic_conn {n : Nat} {g : Optic → Optic} {x : Nat} : (s.modOptic n g).conn x = s.conn x := rfl
@[simp] theorem modOptic_fn {n : Nat} {g : Optic → Optic} {x : Nat} : (s.modOptic n g).fn x = s.fn x := rfl
@[simp] theorem modOptic_group {n : Nat} {g : Optic → Optic} {x : Nat} : (s.modOptic n g).group x = s.group x := rfl
@[simp] theorem modOptic_otpWord {n : Nat} {g : Optic → Optic} {x : Nat} : (s.modOptic n g).otpWord x = s.otpWord x := rfl
@[simp] theorem modOptic_prf {n : Nat} {g : Optic → Optic} {x : Nat} : (s.modOptic n g).prf x = s.prf x := rfl
@[simp] theorem modOptic_die {n : Nat} {g : Optic → Optic} {x : Nat} : (s.modOptic n g).die x = s.die x := rfl
@[simp] theorem modOptic_seqr {n : Nat} {g : Optic → Optic} {x : Nat} : (s.modOptic n g).seqr x = s.seqr x := rfl
@[simp] theorem modOptic_rx {n : Nat} {g : Optic → Optic} {x : Nat} : (s.modOptic n g).rx x = s.rx x := rfl
@[simp] theorem modOptic_clu {n : Nat} {g : Optic → Optic} {x : Nat} : (s.modOptic n g).clu x = s.clu x := rfl
@[simp] theorem modOptic_eng {n : Nat} {g : Optic → Optic} {x : Nat} : (s.modOptic n g).eng x = s.eng x := rfl
@[simp] theorem modOptic_twin {n : Nat} {g : Optic → Optic} {x : Nat} : (s.modOptic n g).twin x = s.twin x := rfl
@[simp] theorem modOptic_inp {n : Nat} {g : Optic → Optic} {x : Nat} : (s.modOptic n g).inp x = s.inp x := rfl
@[simp] theorem modOptic_ipair {n : Nat} {g : Optic → Optic} {x : Nat} : (s.modOptic n g).ipair x = s.ipair x := rfl
/-! ### modRx -/
@[simp] theorem modRx_time {n : Nat} {g : Rx → Rx} : (s.modRx n g).time = s.time := rfl
@[simp] theorem modRx_devOfs {n : Nat} {g : Rx → Rx} : (s.modRx n g).devOfs = s.devOfs := rfl
@[simp] theorem modRx_devNext {n : Nat} {g : Rx → Rx} : (s.modRx n g).devNext = s.devNext := rfl
@[simp] theorem modRx_free {n : Nat} {g : Rx → Rx} : (s.modRx n g).free = s.free := rfl
@[simp] theorem modRx_dev {n : Nat} {g : Rx → Rx} : (s.modRx n g).dev = s.dev := rfl
@[simp] theorem modRx_up {n : Nat} {g : Rx → Rx} : (s.modRx n g).up = s.up := rfl
@[simp] theorem modRx_devAt {n : Nat} {g : Rx → Rx} : (s.modRx n g).devAt = s.devAt := rfl
@[simp] theorem modRx_wide {n : Nat} {g : Rx → Rx} : (s.modRx n g).wide = s.wide := rfl
@[simp] theorem modRx_xtalLost {n : Nat} {g : Rx → Rx} : (s.modRx n g).xtalLost = s.xtalLost := rfl
@[simp] theorem modRx_aonLost {n : Nat} {g : Rx → Rx} : (s.modRx n g).aonLost = s.aonLost := rfl
@[simp] theorem modRx_runAt {n : Nat} {g : Rx → Rx} : (s.modRx n g).runAt = s.runAt := rfl
@[simp] theorem modRx_regs {n : Nat} {g : Rx → Rx} : (s.modRx n g).regs = s.regs := rfl
@[simp] theorem modRx_staged {n : Nat} {g : Rx → Rx} : (s.modRx n g).staged = s.staged := rfl
@[simp] theorem modRx_captured {n : Nat} {g : Rx → Rx} : (s.modRx n g).captured = s.captured := rfl
@[simp] theorem modRx_hwNow {n : Nat} {g : Rx → Rx} : (s.modRx n g).hwNow = s.hwNow := rfl
@[simp] theorem modRx_mem {n : Nat} {g : Rx → Rx} : (s.modRx n g).mem = s.mem := rfl
@[simp] theorem modRx_flash {n : Nat} {g : Rx → Rx} : (s.modRx n g).flash = s.flash := rfl
@[simp] theorem modRx_otp {n : Nat} {g : Rx → Rx} : (s.modRx n g).otp = s.otp := rfl
@[simp] theorem modRx_bad {n : Nat} {g : Rx → Rx} : (s.modRx n g).bad = s.bad := rfl
@[simp] theorem modRx_gens {n : Nat} {g : Rx → Rx} : (s.modRx n g).gens = s.gens := rfl
@[simp] theorem modRx_prots {n : Nat} {g : Rx → Rx} : (s.modRx n g).prots = s.prots := rfl
@[simp] theorem modRx_prfs {n : Nat} {g : Rx → Rx} : (s.modRx n g).prfs = s.prfs := rfl
@[simp] theorem modRx_dies {n : Nat} {g : Rx → Rx} : (s.modRx n g).dies = s.dies := rfl
@[simp] theorem modRx_seqrs {n : Nat} {g : Rx → Rx} : (s.modRx n g).seqrs = s.seqrs := rfl
@[simp] theorem modRx_groups {n : Nat} {g : Rx → Rx} : (s.modRx n g).groups = s.groups := rfl
@[simp] theorem modRx_bcast {n : Nat} {g : Rx → Rx} : (s.modRx n g).bcast = s.bcast := rfl
@[simp] theorem modRx_optics {n : Nat} {g : Rx → Rx} : (s.modRx n g).optics = s.optics := rfl
@[simp] theorem modRx_optSince {n : Nat} {g : Rx → Rx} : (s.modRx n g).optSince = s.optSince := rfl
@[simp] theorem modRx_flight {n : Nat} {g : Rx → Rx} : (s.modRx n g).flight = s.flight := rfl
@[simp] theorem modRx_trp {n : Nat} {g : Rx → Rx} : (s.modRx n g).trp = s.trp := rfl
@[simp] theorem modRx_cores {n : Nat} {g : Rx → Rx} : (s.modRx n g).cores = s.cores := rfl
@[simp] theorem modRx_engs {n : Nat} {g : Rx → Rx} : (s.modRx n g).engs = s.engs := rfl
@[simp] theorem modRx_twins {n : Nat} {g : Rx → Rx} : (s.modRx n g).twins = s.twins := rfl
@[simp] theorem modRx_inps {n : Nat} {g : Rx → Rx} : (s.modRx n g).inps = s.inps := rfl
@[simp] theorem modRx_ipairs {n : Nat} {g : Rx → Rx} : (s.modRx n g).ipairs = s.ipairs := rfl
@[simp] theorem modRx_fns {n : Nat} {g : Rx → Rx} : (s.modRx n g).fns = s.fns := rfl
@[simp] theorem modRx_sio {n : Nat} {g : Rx → Rx} : (s.modRx n g).sio = s.sio := rfl
@[simp] theorem modRx_conns {n : Nat} {g : Rx → Rx} : (s.modRx n g).conns = s.conns := rfl
@[simp] theorem modRx_sent {n : Nat} {g : Rx → Rx} : (s.modRx n g).sent = s.sent := rfl
@[simp] theorem modRx_entryOff {n : Nat} {g : Rx → Rx} : (s.modRx n g).entryOff = s.entryOff := rfl
@[simp] theorem modRx_entryIn {n : Nat} {g : Rx → Rx} : (s.modRx n g).entryIn = s.entryIn := rfl
@[simp] theorem modRx_clock {n : Nat} {g : Rx → Rx} : (s.modRx n g).clock = s.clock := rfl
@[simp] theorem modRx_pair {n : Nat} {g : Rx → Rx} : (s.modRx n g).pair = s.pair := rfl
@[simp] theorem modRx_clus {n : Nat} {g : Rx → Rx} : (s.modRx n g).clus = s.clus := rfl
@[simp] theorem modRx_pwr {n : Nat} {g : Rx → Rx} : (s.modRx n g).pwr = s.pwr := rfl
@[simp] theorem modRx_heat {n : Nat} {g : Rx → Rx} : (s.modRx n g).heat = s.heat := rfl
@[simp] theorem modRx_recs {n : Nat} {g : Rx → Rx} : (s.modRx n g).recs = s.recs := rfl
@[simp] theorem modRx_sage {n : Nat} {g : Rx → Rx} : (s.modRx n g).sage = s.sage := rfl
@[simp] theorem modRx_ports {n : Nat} {g : Rx → Rx} : (s.modRx n g).ports = s.ports := rfl
@[simp] theorem modRx_watchAt {n : Nat} {g : Rx → Rx} : (s.modRx n g).watchAt = s.watchAt := rfl
@[simp] theorem modRx_coll {n : Nat} {g : Rx → Rx} : (s.modRx n g).coll = s.coll := rfl
@[simp] theorem modRx_pending {n : Nat} {g : Rx → Rx} : (s.modRx n g).pending = s.pending := rfl
@[simp] theorem modRx_rd {n : Nat} {g : Rx → Rx} {x : Fld} : (s.modRx n g).rd x = s.rd x := rfl
@[simp] theorem modRx_gen {n : Nat} {g : Rx → Rx} {x : Nat} : (s.modRx n g).gen x = s.gen x := rfl
@[simp] theorem modRx_prot {n : Nat} {g : Rx → Rx} {x : Nat} : (s.modRx n g).prot x = s.prot x := rfl
@[simp] theorem modRx_core {n : Nat} {g : Rx → Rx} {x : Nat} : (s.modRx n g).core x = s.core x := rfl
@[simp] theorem modRx_conn {n : Nat} {g : Rx → Rx} {x : Nat} : (s.modRx n g).conn x = s.conn x := rfl
@[simp] theorem modRx_fn {n : Nat} {g : Rx → Rx} {x : Nat} : (s.modRx n g).fn x = s.fn x := rfl
@[simp] theorem modRx_group {n : Nat} {g : Rx → Rx} {x : Nat} : (s.modRx n g).group x = s.group x := rfl
@[simp] theorem modRx_otpWord {n : Nat} {g : Rx → Rx} {x : Nat} : (s.modRx n g).otpWord x = s.otpWord x := rfl
@[simp] theorem modRx_prf {n : Nat} {g : Rx → Rx} {x : Nat} : (s.modRx n g).prf x = s.prf x := rfl
@[simp] theorem modRx_die {n : Nat} {g : Rx → Rx} {x : Nat} : (s.modRx n g).die x = s.die x := rfl
@[simp] theorem modRx_seqr {n : Nat} {g : Rx → Rx} {x : Nat} : (s.modRx n g).seqr x = s.seqr x := rfl
@[simp] theorem modRx_optic {n : Nat} {g : Rx → Rx} {x : Nat} : (s.modRx n g).optic x = s.optic x := rfl
@[simp] theorem modRx_clu {n : Nat} {g : Rx → Rx} {x : Nat} : (s.modRx n g).clu x = s.clu x := rfl
@[simp] theorem modRx_eng {n : Nat} {g : Rx → Rx} {x : Nat} : (s.modRx n g).eng x = s.eng x := rfl
@[simp] theorem modRx_twin {n : Nat} {g : Rx → Rx} {x : Nat} : (s.modRx n g).twin x = s.twin x := rfl
@[simp] theorem modRx_inp {n : Nat} {g : Rx → Rx} {x : Nat} : (s.modRx n g).inp x = s.inp x := rfl
@[simp] theorem modRx_ipair {n : Nat} {g : Rx → Rx} {x : Nat} : (s.modRx n g).ipair x = s.ipair x := rfl
/-! ### modClu -/
@[simp] theorem modClu_time {n : Nat} {g : Clu → Clu} : (s.modClu n g).time = s.time := rfl
@[simp] theorem modClu_devOfs {n : Nat} {g : Clu → Clu} : (s.modClu n g).devOfs = s.devOfs := rfl
@[simp] theorem modClu_devNext {n : Nat} {g : Clu → Clu} : (s.modClu n g).devNext = s.devNext := rfl
@[simp] theorem modClu_free {n : Nat} {g : Clu → Clu} : (s.modClu n g).free = s.free := rfl
@[simp] theorem modClu_dev {n : Nat} {g : Clu → Clu} : (s.modClu n g).dev = s.dev := rfl
@[simp] theorem modClu_up {n : Nat} {g : Clu → Clu} : (s.modClu n g).up = s.up := rfl
@[simp] theorem modClu_devAt {n : Nat} {g : Clu → Clu} : (s.modClu n g).devAt = s.devAt := rfl
@[simp] theorem modClu_wide {n : Nat} {g : Clu → Clu} : (s.modClu n g).wide = s.wide := rfl
@[simp] theorem modClu_xtalLost {n : Nat} {g : Clu → Clu} : (s.modClu n g).xtalLost = s.xtalLost := rfl
@[simp] theorem modClu_aonLost {n : Nat} {g : Clu → Clu} : (s.modClu n g).aonLost = s.aonLost := rfl
@[simp] theorem modClu_runAt {n : Nat} {g : Clu → Clu} : (s.modClu n g).runAt = s.runAt := rfl
@[simp] theorem modClu_regs {n : Nat} {g : Clu → Clu} : (s.modClu n g).regs = s.regs := rfl
@[simp] theorem modClu_staged {n : Nat} {g : Clu → Clu} : (s.modClu n g).staged = s.staged := rfl
@[simp] theorem modClu_captured {n : Nat} {g : Clu → Clu} : (s.modClu n g).captured = s.captured := rfl
@[simp] theorem modClu_hwNow {n : Nat} {g : Clu → Clu} : (s.modClu n g).hwNow = s.hwNow := rfl
@[simp] theorem modClu_mem {n : Nat} {g : Clu → Clu} : (s.modClu n g).mem = s.mem := rfl
@[simp] theorem modClu_flash {n : Nat} {g : Clu → Clu} : (s.modClu n g).flash = s.flash := rfl
@[simp] theorem modClu_otp {n : Nat} {g : Clu → Clu} : (s.modClu n g).otp = s.otp := rfl
@[simp] theorem modClu_bad {n : Nat} {g : Clu → Clu} : (s.modClu n g).bad = s.bad := rfl
@[simp] theorem modClu_gens {n : Nat} {g : Clu → Clu} : (s.modClu n g).gens = s.gens := rfl
@[simp] theorem modClu_prots {n : Nat} {g : Clu → Clu} : (s.modClu n g).prots = s.prots := rfl
@[simp] theorem modClu_prfs {n : Nat} {g : Clu → Clu} : (s.modClu n g).prfs = s.prfs := rfl
@[simp] theorem modClu_dies {n : Nat} {g : Clu → Clu} : (s.modClu n g).dies = s.dies := rfl
@[simp] theorem modClu_seqrs {n : Nat} {g : Clu → Clu} : (s.modClu n g).seqrs = s.seqrs := rfl
@[simp] theorem modClu_groups {n : Nat} {g : Clu → Clu} : (s.modClu n g).groups = s.groups := rfl
@[simp] theorem modClu_bcast {n : Nat} {g : Clu → Clu} : (s.modClu n g).bcast = s.bcast := rfl
@[simp] theorem modClu_optics {n : Nat} {g : Clu → Clu} : (s.modClu n g).optics = s.optics := rfl
@[simp] theorem modClu_optSince {n : Nat} {g : Clu → Clu} : (s.modClu n g).optSince = s.optSince := rfl
@[simp] theorem modClu_rxs {n : Nat} {g : Clu → Clu} : (s.modClu n g).rxs = s.rxs := rfl
@[simp] theorem modClu_flight {n : Nat} {g : Clu → Clu} : (s.modClu n g).flight = s.flight := rfl
@[simp] theorem modClu_trp {n : Nat} {g : Clu → Clu} : (s.modClu n g).trp = s.trp := rfl
@[simp] theorem modClu_cores {n : Nat} {g : Clu → Clu} : (s.modClu n g).cores = s.cores := rfl
@[simp] theorem modClu_engs {n : Nat} {g : Clu → Clu} : (s.modClu n g).engs = s.engs := rfl
@[simp] theorem modClu_twins {n : Nat} {g : Clu → Clu} : (s.modClu n g).twins = s.twins := rfl
@[simp] theorem modClu_inps {n : Nat} {g : Clu → Clu} : (s.modClu n g).inps = s.inps := rfl
@[simp] theorem modClu_ipairs {n : Nat} {g : Clu → Clu} : (s.modClu n g).ipairs = s.ipairs := rfl
@[simp] theorem modClu_fns {n : Nat} {g : Clu → Clu} : (s.modClu n g).fns = s.fns := rfl
@[simp] theorem modClu_sio {n : Nat} {g : Clu → Clu} : (s.modClu n g).sio = s.sio := rfl
@[simp] theorem modClu_conns {n : Nat} {g : Clu → Clu} : (s.modClu n g).conns = s.conns := rfl
@[simp] theorem modClu_sent {n : Nat} {g : Clu → Clu} : (s.modClu n g).sent = s.sent := rfl
@[simp] theorem modClu_entryOff {n : Nat} {g : Clu → Clu} : (s.modClu n g).entryOff = s.entryOff := rfl
@[simp] theorem modClu_entryIn {n : Nat} {g : Clu → Clu} : (s.modClu n g).entryIn = s.entryIn := rfl
@[simp] theorem modClu_clock {n : Nat} {g : Clu → Clu} : (s.modClu n g).clock = s.clock := rfl
@[simp] theorem modClu_pair {n : Nat} {g : Clu → Clu} : (s.modClu n g).pair = s.pair := rfl
@[simp] theorem modClu_pwr {n : Nat} {g : Clu → Clu} : (s.modClu n g).pwr = s.pwr := rfl
@[simp] theorem modClu_heat {n : Nat} {g : Clu → Clu} : (s.modClu n g).heat = s.heat := rfl
@[simp] theorem modClu_recs {n : Nat} {g : Clu → Clu} : (s.modClu n g).recs = s.recs := rfl
@[simp] theorem modClu_sage {n : Nat} {g : Clu → Clu} : (s.modClu n g).sage = s.sage := rfl
@[simp] theorem modClu_ports {n : Nat} {g : Clu → Clu} : (s.modClu n g).ports = s.ports := rfl
@[simp] theorem modClu_watchAt {n : Nat} {g : Clu → Clu} : (s.modClu n g).watchAt = s.watchAt := rfl
@[simp] theorem modClu_coll {n : Nat} {g : Clu → Clu} : (s.modClu n g).coll = s.coll := rfl
@[simp] theorem modClu_pending {n : Nat} {g : Clu → Clu} : (s.modClu n g).pending = s.pending := rfl
@[simp] theorem modClu_rd {n : Nat} {g : Clu → Clu} {x : Fld} : (s.modClu n g).rd x = s.rd x := rfl
@[simp] theorem modClu_gen {n : Nat} {g : Clu → Clu} {x : Nat} : (s.modClu n g).gen x = s.gen x := rfl
@[simp] theorem modClu_prot {n : Nat} {g : Clu → Clu} {x : Nat} : (s.modClu n g).prot x = s.prot x := rfl
@[simp] theorem modClu_core {n : Nat} {g : Clu → Clu} {x : Nat} : (s.modClu n g).core x = s.core x := rfl
@[simp] theorem modClu_conn {n : Nat} {g : Clu → Clu} {x : Nat} : (s.modClu n g).conn x = s.conn x := rfl
@[simp] theorem modClu_fn {n : Nat} {g : Clu → Clu} {x : Nat} : (s.modClu n g).fn x = s.fn x := rfl
@[simp] theorem modClu_group {n : Nat} {g : Clu → Clu} {x : Nat} : (s.modClu n g).group x = s.group x := rfl
@[simp] theorem modClu_otpWord {n : Nat} {g : Clu → Clu} {x : Nat} : (s.modClu n g).otpWord x = s.otpWord x := rfl
@[simp] theorem modClu_prf {n : Nat} {g : Clu → Clu} {x : Nat} : (s.modClu n g).prf x = s.prf x := rfl
@[simp] theorem modClu_die {n : Nat} {g : Clu → Clu} {x : Nat} : (s.modClu n g).die x = s.die x := rfl
@[simp] theorem modClu_seqr {n : Nat} {g : Clu → Clu} {x : Nat} : (s.modClu n g).seqr x = s.seqr x := rfl
@[simp] theorem modClu_optic {n : Nat} {g : Clu → Clu} {x : Nat} : (s.modClu n g).optic x = s.optic x := rfl
@[simp] theorem modClu_rx {n : Nat} {g : Clu → Clu} {x : Nat} : (s.modClu n g).rx x = s.rx x := rfl
@[simp] theorem modClu_eng {n : Nat} {g : Clu → Clu} {x : Nat} : (s.modClu n g).eng x = s.eng x := rfl
@[simp] theorem modClu_twin {n : Nat} {g : Clu → Clu} {x : Nat} : (s.modClu n g).twin x = s.twin x := rfl
@[simp] theorem modClu_inp {n : Nat} {g : Clu → Clu} {x : Nat} : (s.modClu n g).inp x = s.inp x := rfl
@[simp] theorem modClu_ipair {n : Nat} {g : Clu → Clu} {x : Nat} : (s.modClu n g).ipair x = s.ipair x := rfl
/-! ### fresh -/
@[simp] theorem fresh_time : (s.fresh).time = s.time := rfl
@[simp] theorem fresh_devOfs : (s.fresh).devOfs = s.devOfs := rfl
@[simp] theorem fresh_devNext : (s.fresh).devNext = s.devNext := rfl
@[simp] theorem fresh_dev : (s.fresh).dev = s.dev := rfl
@[simp] theorem fresh_up : (s.fresh).up = s.up := rfl
@[simp] theorem fresh_devAt : (s.fresh).devAt = s.devAt := rfl
@[simp] theorem fresh_wide : (s.fresh).wide = s.wide := rfl
@[simp] theorem fresh_xtalLost : (s.fresh).xtalLost = s.xtalLost := rfl
@[simp] theorem fresh_aonLost : (s.fresh).aonLost = s.aonLost := rfl
@[simp] theorem fresh_runAt : (s.fresh).runAt = s.runAt := rfl
@[simp] theorem fresh_regs : (s.fresh).regs = s.regs := rfl
@[simp] theorem fresh_staged : (s.fresh).staged = s.staged := rfl
@[simp] theorem fresh_captured : (s.fresh).captured = s.captured := rfl
@[simp] theorem fresh_hwNow : (s.fresh).hwNow = s.hwNow := rfl
@[simp] theorem fresh_mem : (s.fresh).mem = s.mem := rfl
@[simp] theorem fresh_flash : (s.fresh).flash = s.flash := rfl
@[simp] theorem fresh_otp : (s.fresh).otp = s.otp := rfl
@[simp] theorem fresh_bad : (s.fresh).bad = s.bad := rfl
@[simp] theorem fresh_gens : (s.fresh).gens = s.gens := rfl
@[simp] theorem fresh_prots : (s.fresh).prots = s.prots := rfl
@[simp] theorem fresh_prfs : (s.fresh).prfs = s.prfs := rfl
@[simp] theorem fresh_dies : (s.fresh).dies = s.dies := rfl
@[simp] theorem fresh_seqrs : (s.fresh).seqrs = s.seqrs := rfl
@[simp] theorem fresh_groups : (s.fresh).groups = s.groups := rfl
@[simp] theorem fresh_bcast : (s.fresh).bcast = s.bcast := rfl
@[simp] theorem fresh_optics : (s.fresh).optics = s.optics := rfl
@[simp] theorem fresh_optSince : (s.fresh).optSince = s.optSince := rfl
@[simp] theorem fresh_rxs : (s.fresh).rxs = s.rxs := rfl
@[simp] theorem fresh_flight : (s.fresh).flight = s.flight := rfl
@[simp] theorem fresh_trp : (s.fresh).trp = s.trp := rfl
@[simp] theorem fresh_cores : (s.fresh).cores = s.cores := rfl
@[simp] theorem fresh_engs : (s.fresh).engs = s.engs := rfl
@[simp] theorem fresh_twins : (s.fresh).twins = s.twins := rfl
@[simp] theorem fresh_inps : (s.fresh).inps = s.inps := rfl
@[simp] theorem fresh_ipairs : (s.fresh).ipairs = s.ipairs := rfl
@[simp] theorem fresh_fns : (s.fresh).fns = s.fns := rfl
@[simp] theorem fresh_sio : (s.fresh).sio = s.sio := rfl
@[simp] theorem fresh_conns : (s.fresh).conns = s.conns := rfl
@[simp] theorem fresh_sent : (s.fresh).sent = s.sent := rfl
@[simp] theorem fresh_entryOff : (s.fresh).entryOff = s.entryOff := rfl
@[simp] theorem fresh_entryIn : (s.fresh).entryIn = s.entryIn := rfl
@[simp] theorem fresh_clock : (s.fresh).clock = s.clock := rfl
@[simp] theorem fresh_pair : (s.fresh).pair = s.pair := rfl
@[simp] theorem fresh_clus : (s.fresh).clus = s.clus := rfl
@[simp] theorem fresh_pwr : (s.fresh).pwr = s.pwr := rfl
@[simp] theorem fresh_heat : (s.fresh).heat = s.heat := rfl
@[simp] theorem fresh_recs : (s.fresh).recs = s.recs := rfl
@[simp] theorem fresh_sage : (s.fresh).sage = s.sage := rfl
@[simp] theorem fresh_ports : (s.fresh).ports = s.ports := rfl
@[simp] theorem fresh_watchAt : (s.fresh).watchAt = s.watchAt := rfl
@[simp] theorem fresh_coll : (s.fresh).coll = s.coll := rfl
@[simp] theorem fresh_pending : (s.fresh).pending = s.pending := rfl
@[simp] theorem fresh_rd {x : Fld} : (s.fresh).rd x = s.rd x := rfl
@[simp] theorem fresh_gen {x : Nat} : (s.fresh).gen x = s.gen x := rfl
@[simp] theorem fresh_prot {x : Nat} : (s.fresh).prot x = s.prot x := rfl
@[simp] theorem fresh_core {x : Nat} : (s.fresh).core x = s.core x := rfl
@[simp] theorem fresh_conn {x : Nat} : (s.fresh).conn x = s.conn x := rfl
@[simp] theorem fresh_fn {x : Nat} : (s.fresh).fn x = s.fn x := rfl
@[simp] theorem fresh_group {x : Nat} : (s.fresh).group x = s.group x := rfl
@[simp] theorem fresh_otpWord {x : Nat} : (s.fresh).otpWord x = s.otpWord x := rfl
@[simp] theorem fresh_prf {x : Nat} : (s.fresh).prf x = s.prf x := rfl
@[simp] theorem fresh_die {x : Nat} : (s.fresh).die x = s.die x := rfl
@[simp] theorem fresh_seqr {x : Nat} : (s.fresh).seqr x = s.seqr x := rfl
@[simp] theorem fresh_optic {x : Nat} : (s.fresh).optic x = s.optic x := rfl
@[simp] theorem fresh_rx {x : Nat} : (s.fresh).rx x = s.rx x := rfl
@[simp] theorem fresh_clu {x : Nat} : (s.fresh).clu x = s.clu x := rfl
@[simp] theorem fresh_eng {x : Nat} : (s.fresh).eng x = s.eng x := rfl
@[simp] theorem fresh_twin {x : Nat} : (s.fresh).twin x = s.twin x := rfl
@[simp] theorem fresh_inp {x : Nat} : (s.fresh).inp x = s.inp x := rfl
@[simp] theorem fresh_ipair {x : Nat} : (s.fresh).ipair x = s.ipair x := rfl
/-! ### report -/
@[simp] theorem report_time {c i v p : Nat} {l : List Nat} : (s.report c i v p l).time = s.time := rfl
@[simp] theorem report_devOfs {c i v p : Nat} {l : List Nat} : (s.report c i v p l).devOfs = s.devOfs := rfl
@[simp] theorem report_devNext {c i v p : Nat} {l : List Nat} : (s.report c i v p l).devNext = s.devNext := rfl
@[simp] theorem report_free {c i v p : Nat} {l : List Nat} : (s.report c i v p l).free = s.free := rfl
@[simp] theorem report_dev {c i v p : Nat} {l : List Nat} : (s.report c i v p l).dev = s.dev := rfl
@[simp] theorem report_up {c i v p : Nat} {l : List Nat} : (s.report c i v p l).up = s.up := rfl
@[simp] theorem report_devAt {c i v p : Nat} {l : List Nat} : (s.report c i v p l).devAt = s.devAt := rfl
@[simp] theorem report_wide {c i v p : Nat} {l : List Nat} : (s.report c i v p l).wide = s.wide := rfl
@[simp] theorem report_xtalLost {c i v p : Nat} {l : List Nat} : (s.report c i v p l).xtalLost = s.xtalLost := rfl
@[simp] theorem report_aonLost {c i v p : Nat} {l : List Nat} : (s.report c i v p l).aonLost = s.aonLost := rfl
@[simp] theorem report_runAt {c i v p : Nat} {l : List Nat} : (s.report c i v p l).runAt = s.runAt := rfl
@[simp] theorem report_regs {c i v p : Nat} {l : List Nat} : (s.report c i v p l).regs = s.regs := rfl
@[simp] theorem report_staged {c i v p : Nat} {l : List Nat} : (s.report c i v p l).staged = s.staged := rfl
@[simp] theorem report_captured {c i v p : Nat} {l : List Nat} : (s.report c i v p l).captured = s.captured := rfl
@[simp] theorem report_hwNow {c i v p : Nat} {l : List Nat} : (s.report c i v p l).hwNow = s.hwNow := rfl
@[simp] theorem report_mem {c i v p : Nat} {l : List Nat} : (s.report c i v p l).mem = s.mem := rfl
@[simp] theorem report_flash {c i v p : Nat} {l : List Nat} : (s.report c i v p l).flash = s.flash := rfl
@[simp] theorem report_otp {c i v p : Nat} {l : List Nat} : (s.report c i v p l).otp = s.otp := rfl
@[simp] theorem report_bad {c i v p : Nat} {l : List Nat} : (s.report c i v p l).bad = s.bad := rfl
@[simp] theorem report_gens {c i v p : Nat} {l : List Nat} : (s.report c i v p l).gens = s.gens := rfl
@[simp] theorem report_prots {c i v p : Nat} {l : List Nat} : (s.report c i v p l).prots = s.prots := rfl
@[simp] theorem report_prfs {c i v p : Nat} {l : List Nat} : (s.report c i v p l).prfs = s.prfs := rfl
@[simp] theorem report_dies {c i v p : Nat} {l : List Nat} : (s.report c i v p l).dies = s.dies := rfl
@[simp] theorem report_seqrs {c i v p : Nat} {l : List Nat} : (s.report c i v p l).seqrs = s.seqrs := rfl
@[simp] theorem report_groups {c i v p : Nat} {l : List Nat} : (s.report c i v p l).groups = s.groups := rfl
@[simp] theorem report_bcast {c i v p : Nat} {l : List Nat} : (s.report c i v p l).bcast = s.bcast := rfl
@[simp] theorem report_optics {c i v p : Nat} {l : List Nat} : (s.report c i v p l).optics = s.optics := rfl
@[simp] theorem report_optSince {c i v p : Nat} {l : List Nat} : (s.report c i v p l).optSince = s.optSince := rfl
@[simp] theorem report_rxs {c i v p : Nat} {l : List Nat} : (s.report c i v p l).rxs = s.rxs := rfl
@[simp] theorem report_flight {c i v p : Nat} {l : List Nat} : (s.report c i v p l).flight = s.flight := rfl
@[simp] theorem report_trp {c i v p : Nat} {l : List Nat} : (s.report c i v p l).trp = s.trp := rfl
@[simp] theorem report_cores {c i v p : Nat} {l : List Nat} : (s.report c i v p l).cores = s.cores := rfl
@[simp] theorem report_engs {c i v p : Nat} {l : List Nat} : (s.report c i v p l).engs = s.engs := rfl
@[simp] theorem report_twins {c i v p : Nat} {l : List Nat} : (s.report c i v p l).twins = s.twins := rfl
@[simp] theorem report_inps {c i v p : Nat} {l : List Nat} : (s.report c i v p l).inps = s.inps := rfl
@[simp] theorem report_ipairs {c i v p : Nat} {l : List Nat} : (s.report c i v p l).ipairs = s.ipairs := rfl
@[simp] theorem report_fns {c i v p : Nat} {l : List Nat} : (s.report c i v p l).fns = s.fns := rfl
@[simp] theorem report_sio {c i v p : Nat} {l : List Nat} : (s.report c i v p l).sio = s.sio := rfl
@[simp] theorem report_conns {c i v p : Nat} {l : List Nat} : (s.report c i v p l).conns = s.conns := rfl
@[simp] theorem report_sent {c i v p : Nat} {l : List Nat} : (s.report c i v p l).sent = s.sent := rfl
@[simp] theorem report_entryOff {c i v p : Nat} {l : List Nat} : (s.report c i v p l).entryOff = s.entryOff := rfl
@[simp] theorem report_entryIn {c i v p : Nat} {l : List Nat} : (s.report c i v p l).entryIn = s.entryIn := rfl
@[simp] theorem report_clock {c i v p : Nat} {l : List Nat} : (s.report c i v p l).clock = s.clock := rfl
@[simp] theorem report_pair {c i v p : Nat} {l : List Nat} : (s.report c i v p l).pair = s.pair := rfl
@[simp] theorem report_clus {c i v p : Nat} {l : List Nat} : (s.report c i v p l).clus = s.clus := rfl
@[simp] theorem report_pwr {c i v p : Nat} {l : List Nat} : (s.report c i v p l).pwr = s.pwr := rfl
@[simp] theorem report_heat {c i v p : Nat} {l : List Nat} : (s.report c i v p l).heat = s.heat := rfl
@[simp] theorem report_recs {c i v p : Nat} {l : List Nat} : (s.report c i v p l).recs = s.recs := rfl
@[simp] theorem report_sage {c i v p : Nat} {l : List Nat} : (s.report c i v p l).sage = s.sage := rfl
@[simp] theorem report_ports {c i v p : Nat} {l : List Nat} : (s.report c i v p l).ports = s.ports := rfl
@[simp] theorem report_watchAt {c i v p : Nat} {l : List Nat} : (s.report c i v p l).watchAt = s.watchAt := rfl
@[simp] theorem report_pending {c i v p : Nat} {l : List Nat} : (s.report c i v p l).pending = s.pending := rfl
@[simp] theorem report_rd {c i v p : Nat} {l : List Nat} {x : Fld} : (s.report c i v p l).rd x = s.rd x := rfl
@[simp] theorem report_gen {c i v p : Nat} {l : List Nat} {x : Nat} : (s.report c i v p l).gen x = s.gen x := rfl
@[simp] theorem report_prot {c i v p : Nat} {l : List Nat} {x : Nat} : (s.report c i v p l).prot x = s.prot x := rfl
@[simp] theorem report_core {c i v p : Nat} {l : List Nat} {x : Nat} : (s.report c i v p l).core x = s.core x := rfl
@[simp] theorem report_conn {c i v p : Nat} {l : List Nat} {x : Nat} : (s.report c i v p l).conn x = s.conn x := rfl
@[simp] theorem report_fn {c i v p : Nat} {l : List Nat} {x : Nat} : (s.report c i v p l).fn x = s.fn x := rfl
@[simp] theorem report_group {c i v p : Nat} {l : List Nat} {x : Nat} : (s.report c i v p l).group x = s.group x := rfl
@[simp] theorem report_otpWord {c i v p : Nat} {l : List Nat} {x : Nat} : (s.report c i v p l).otpWord x = s.otpWord x := rfl
@[simp] theorem report_prf {c i v p : Nat} {l : List Nat} {x : Nat} : (s.report c i v p l).prf x = s.prf x := rfl
@[simp] theorem report_die {c i v p : Nat} {l : List Nat} {x : Nat} : (s.report c i v p l).die x = s.die x := rfl
@[simp] theorem report_seqr {c i v p : Nat} {l : List Nat} {x : Nat} : (s.report c i v p l).seqr x = s.seqr x := rfl
@[simp] theorem report_optic {c i v p : Nat} {l : List Nat} {x : Nat} : (s.report c i v p l).optic x = s.optic x := rfl
@[simp] theorem report_rx {c i v p : Nat} {l : List Nat} {x : Nat} : (s.report c i v p l).rx x = s.rx x := rfl
@[simp] theorem report_clu {c i v p : Nat} {l : List Nat} {x : Nat} : (s.report c i v p l).clu x = s.clu x := rfl
@[simp] theorem report_eng {c i v p : Nat} {l : List Nat} {x : Nat} : (s.report c i v p l).eng x = s.eng x := rfl
@[simp] theorem report_twin {c i v p : Nat} {l : List Nat} {x : Nat} : (s.report c i v p l).twin x = s.twin x := rfl
@[simp] theorem report_inp {c i v p : Nat} {l : List Nat} {x : Nat} : (s.report c i v p l).inp x = s.inp x := rfl
@[simp] theorem report_ipair {c i v p : Nat} {l : List Nat} {x : Nat} : (s.report c i v p l).ipair x = s.ipair x := rfl
/-! ### flag -/
@[simp] theorem flag_time {c i v : Nat} : (s.flag c i v).time = s.time := rfl
@[simp] theorem flag_devOfs {c i v : Nat} : (s.flag c i v).devOfs = s.devOfs := rfl
@[simp] theorem flag_devNext {c i v : Nat} : (s.flag c i v).devNext = s.devNext := rfl
@[simp] theorem flag_free {c i v : Nat} : (s.flag c i v).free = s.free := rfl
@[simp] theorem flag_dev {c i v : Nat} : (s.flag c i v).dev = s.dev := rfl
@[simp] theorem flag_up {c i v : Nat} : (s.flag c i v).up = s.up := rfl
@[simp] theorem flag_devAt {c i v : Nat} : (s.flag c i v).devAt = s.devAt := rfl
@[simp] theorem flag_wide {c i v : Nat} : (s.flag c i v).wide = s.wide := rfl
@[simp] theorem flag_xtalLost {c i v : Nat} : (s.flag c i v).xtalLost = s.xtalLost := rfl
@[simp] theorem flag_aonLost {c i v : Nat} : (s.flag c i v).aonLost = s.aonLost := rfl
@[simp] theorem flag_runAt {c i v : Nat} : (s.flag c i v).runAt = s.runAt := rfl
@[simp] theorem flag_regs {c i v : Nat} : (s.flag c i v).regs = s.regs := rfl
@[simp] theorem flag_staged {c i v : Nat} : (s.flag c i v).staged = s.staged := rfl
@[simp] theorem flag_captured {c i v : Nat} : (s.flag c i v).captured = s.captured := rfl
@[simp] theorem flag_hwNow {c i v : Nat} : (s.flag c i v).hwNow = s.hwNow := rfl
@[simp] theorem flag_mem {c i v : Nat} : (s.flag c i v).mem = s.mem := rfl
@[simp] theorem flag_flash {c i v : Nat} : (s.flag c i v).flash = s.flash := rfl
@[simp] theorem flag_otp {c i v : Nat} : (s.flag c i v).otp = s.otp := rfl
@[simp] theorem flag_bad {c i v : Nat} : (s.flag c i v).bad = s.bad := rfl
@[simp] theorem flag_gens {c i v : Nat} : (s.flag c i v).gens = s.gens := rfl
@[simp] theorem flag_prots {c i v : Nat} : (s.flag c i v).prots = s.prots := rfl
@[simp] theorem flag_prfs {c i v : Nat} : (s.flag c i v).prfs = s.prfs := rfl
@[simp] theorem flag_dies {c i v : Nat} : (s.flag c i v).dies = s.dies := rfl
@[simp] theorem flag_seqrs {c i v : Nat} : (s.flag c i v).seqrs = s.seqrs := rfl
@[simp] theorem flag_groups {c i v : Nat} : (s.flag c i v).groups = s.groups := rfl
@[simp] theorem flag_bcast {c i v : Nat} : (s.flag c i v).bcast = s.bcast := rfl
@[simp] theorem flag_optics {c i v : Nat} : (s.flag c i v).optics = s.optics := rfl
@[simp] theorem flag_optSince {c i v : Nat} : (s.flag c i v).optSince = s.optSince := rfl
@[simp] theorem flag_rxs {c i v : Nat} : (s.flag c i v).rxs = s.rxs := rfl
@[simp] theorem flag_flight {c i v : Nat} : (s.flag c i v).flight = s.flight := rfl
@[simp] theorem flag_trp {c i v : Nat} : (s.flag c i v).trp = s.trp := rfl
@[simp] theorem flag_cores {c i v : Nat} : (s.flag c i v).cores = s.cores := rfl
@[simp] theorem flag_engs {c i v : Nat} : (s.flag c i v).engs = s.engs := rfl
@[simp] theorem flag_twins {c i v : Nat} : (s.flag c i v).twins = s.twins := rfl
@[simp] theorem flag_inps {c i v : Nat} : (s.flag c i v).inps = s.inps := rfl
@[simp] theorem flag_ipairs {c i v : Nat} : (s.flag c i v).ipairs = s.ipairs := rfl
@[simp] theorem flag_fns {c i v : Nat} : (s.flag c i v).fns = s.fns := rfl
@[simp] theorem flag_sio {c i v : Nat} : (s.flag c i v).sio = s.sio := rfl
@[simp] theorem flag_conns {c i v : Nat} : (s.flag c i v).conns = s.conns := rfl
@[simp] theorem flag_sent {c i v : Nat} : (s.flag c i v).sent = s.sent := rfl
@[simp] theorem flag_entryOff {c i v : Nat} : (s.flag c i v).entryOff = s.entryOff := rfl
@[simp] theorem flag_entryIn {c i v : Nat} : (s.flag c i v).entryIn = s.entryIn := rfl
@[simp] theorem flag_clock {c i v : Nat} : (s.flag c i v).clock = s.clock := rfl
@[simp] theorem flag_pair {c i v : Nat} : (s.flag c i v).pair = s.pair := rfl
@[simp] theorem flag_clus {c i v : Nat} : (s.flag c i v).clus = s.clus := rfl
@[simp] theorem flag_pwr {c i v : Nat} : (s.flag c i v).pwr = s.pwr := rfl
@[simp] theorem flag_heat {c i v : Nat} : (s.flag c i v).heat = s.heat := rfl
@[simp] theorem flag_recs {c i v : Nat} : (s.flag c i v).recs = s.recs := rfl
@[simp] theorem flag_sage {c i v : Nat} : (s.flag c i v).sage = s.sage := rfl
@[simp] theorem flag_ports {c i v : Nat} : (s.flag c i v).ports = s.ports := rfl
@[simp] theorem flag_watchAt {c i v : Nat} : (s.flag c i v).watchAt = s.watchAt := rfl
@[simp] theorem flag_pending {c i v : Nat} : (s.flag c i v).pending = s.pending := rfl
@[simp] theorem flag_rd {c i v : Nat} {x : Fld} : (s.flag c i v).rd x = s.rd x := rfl
@[simp] theorem flag_gen {c i v : Nat} {x : Nat} : (s.flag c i v).gen x = s.gen x := rfl
@[simp] theorem flag_prot {c i v : Nat} {x : Nat} : (s.flag c i v).prot x = s.prot x := rfl
@[simp] theorem flag_core {c i v : Nat} {x : Nat} : (s.flag c i v).core x = s.core x := rfl
@[simp] theorem flag_conn {c i v : Nat} {x : Nat} : (s.flag c i v).conn x = s.conn x := rfl
@[simp] theorem flag_fn {c i v : Nat} {x : Nat} : (s.flag c i v).fn x = s.fn x := rfl
@[simp] theorem flag_group {c i v : Nat} {x : Nat} : (s.flag c i v).group x = s.group x := rfl
@[simp] theorem flag_otpWord {c i v : Nat} {x : Nat} : (s.flag c i v).otpWord x = s.otpWord x := rfl
@[simp] theorem flag_prf {c i v : Nat} {x : Nat} : (s.flag c i v).prf x = s.prf x := rfl
@[simp] theorem flag_die {c i v : Nat} {x : Nat} : (s.flag c i v).die x = s.die x := rfl
@[simp] theorem flag_seqr {c i v : Nat} {x : Nat} : (s.flag c i v).seqr x = s.seqr x := rfl
@[simp] theorem flag_optic {c i v : Nat} {x : Nat} : (s.flag c i v).optic x = s.optic x := rfl
@[simp] theorem flag_rx {c i v : Nat} {x : Nat} : (s.flag c i v).rx x = s.rx x := rfl
@[simp] theorem flag_clu {c i v : Nat} {x : Nat} : (s.flag c i v).clu x = s.clu x := rfl
@[simp] theorem flag_eng {c i v : Nat} {x : Nat} : (s.flag c i v).eng x = s.eng x := rfl
@[simp] theorem flag_twin {c i v : Nat} {x : Nat} : (s.flag c i v).twin x = s.twin x := rfl
@[simp] theorem flag_inp {c i v : Nat} {x : Nat} : (s.flag c i v).inp x = s.inp x := rfl
@[simp] theorem flag_ipair {c i v : Nat} {x : Nat} : (s.flag c i v).ipair x = s.ipair x := rfl
/-! ### poke -/
@[simp] theorem poke_time {k v : Nat} : (s.poke k v).time = s.time := rfl
@[simp] theorem poke_devOfs {k v : Nat} : (s.poke k v).devOfs = s.devOfs := rfl
@[simp] theorem poke_devNext {k v : Nat} : (s.poke k v).devNext = s.devNext := rfl
@[simp] theorem poke_free {k v : Nat} : (s.poke k v).free = s.free := rfl
@[simp] theorem poke_dev {k v : Nat} : (s.poke k v).dev = s.dev := rfl
@[simp] theorem poke_up {k v : Nat} : (s.poke k v).up = s.up := rfl
@[simp] theorem poke_devAt {k v : Nat} : (s.poke k v).devAt = s.devAt := rfl
@[simp] theorem poke_wide {k v : Nat} : (s.poke k v).wide = s.wide := rfl
@[simp] theorem poke_xtalLost {k v : Nat} : (s.poke k v).xtalLost = s.xtalLost := rfl
@[simp] theorem poke_aonLost {k v : Nat} : (s.poke k v).aonLost = s.aonLost := rfl
@[simp] theorem poke_runAt {k v : Nat} : (s.poke k v).runAt = s.runAt := rfl
@[simp] theorem poke_regs {k v : Nat} : (s.poke k v).regs = s.regs := rfl
@[simp] theorem poke_staged {k v : Nat} : (s.poke k v).staged = s.staged := rfl
@[simp] theorem poke_captured {k v : Nat} : (s.poke k v).captured = s.captured := rfl
@[simp] theorem poke_hwNow {k v : Nat} : (s.poke k v).hwNow = s.hwNow := rfl
@[simp] theorem poke_flash {k v : Nat} : (s.poke k v).flash = s.flash := rfl
@[simp] theorem poke_otp {k v : Nat} : (s.poke k v).otp = s.otp := rfl
@[simp] theorem poke_gens {k v : Nat} : (s.poke k v).gens = s.gens := rfl
@[simp] theorem poke_prots {k v : Nat} : (s.poke k v).prots = s.prots := rfl
@[simp] theorem poke_prfs {k v : Nat} : (s.poke k v).prfs = s.prfs := rfl
@[simp] theorem poke_dies {k v : Nat} : (s.poke k v).dies = s.dies := rfl
@[simp] theorem poke_seqrs {k v : Nat} : (s.poke k v).seqrs = s.seqrs := rfl
@[simp] theorem poke_groups {k v : Nat} : (s.poke k v).groups = s.groups := rfl
@[simp] theorem poke_bcast {k v : Nat} : (s.poke k v).bcast = s.bcast := rfl
@[simp] theorem poke_optics {k v : Nat} : (s.poke k v).optics = s.optics := rfl
@[simp] theorem poke_optSince {k v : Nat} : (s.poke k v).optSince = s.optSince := rfl
@[simp] theorem poke_rxs {k v : Nat} : (s.poke k v).rxs = s.rxs := rfl
@[simp] theorem poke_flight {k v : Nat} : (s.poke k v).flight = s.flight := rfl
@[simp] theorem poke_trp {k v : Nat} : (s.poke k v).trp = s.trp := rfl
@[simp] theorem poke_cores {k v : Nat} : (s.poke k v).cores = s.cores := rfl
@[simp] theorem poke_engs {k v : Nat} : (s.poke k v).engs = s.engs := rfl
@[simp] theorem poke_twins {k v : Nat} : (s.poke k v).twins = s.twins := rfl
@[simp] theorem poke_inps {k v : Nat} : (s.poke k v).inps = s.inps := rfl
@[simp] theorem poke_ipairs {k v : Nat} : (s.poke k v).ipairs = s.ipairs := rfl
@[simp] theorem poke_fns {k v : Nat} : (s.poke k v).fns = s.fns := rfl
@[simp] theorem poke_sio {k v : Nat} : (s.poke k v).sio = s.sio := rfl
@[simp] theorem poke_conns {k v : Nat} : (s.poke k v).conns = s.conns := rfl
@[simp] theorem poke_sent {k v : Nat} : (s.poke k v).sent = s.sent := rfl
@[simp] theorem poke_entryOff {k v : Nat} : (s.poke k v).entryOff = s.entryOff := rfl
@[simp] theorem poke_entryIn {k v : Nat} : (s.poke k v).entryIn = s.entryIn := rfl
@[simp] theorem poke_clock {k v : Nat} : (s.poke k v).clock = s.clock := rfl
@[simp] theorem poke_pair {k v : Nat} : (s.poke k v).pair = s.pair := rfl
@[simp] theorem poke_clus {k v : Nat} : (s.poke k v).clus = s.clus := rfl
@[simp] theorem poke_pwr {k v : Nat} : (s.poke k v).pwr = s.pwr := rfl
@[simp] theorem poke_heat {k v : Nat} : (s.poke k v).heat = s.heat := rfl
@[simp] theorem poke_recs {k v : Nat} : (s.poke k v).recs = s.recs := rfl
@[simp] theorem poke_sage {k v : Nat} : (s.poke k v).sage = s.sage := rfl
@[simp] theorem poke_ports {k v : Nat} : (s.poke k v).ports = s.ports := rfl
@[simp] theorem poke_watchAt {k v : Nat} : (s.poke k v).watchAt = s.watchAt := rfl
@[simp] theorem poke_coll {k v : Nat} : (s.poke k v).coll = s.coll := rfl
@[simp] theorem poke_pending {k v : Nat} : (s.poke k v).pending = s.pending := rfl
@[simp] theorem poke_rd {k v : Nat} {x : Fld} : (s.poke k v).rd x = s.rd x := rfl
@[simp] theorem poke_gen {k v : Nat} {x : Nat} : (s.poke k v).gen x = s.gen x := rfl
@[simp] theorem poke_prot {k v : Nat} {x : Nat} : (s.poke k v).prot x = s.prot x := rfl
@[simp] theorem poke_core {k v : Nat} {x : Nat} : (s.poke k v).core x = s.core x := rfl
@[simp] theorem poke_conn {k v : Nat} {x : Nat} : (s.poke k v).conn x = s.conn x := rfl
@[simp] theorem poke_fn {k v : Nat} {x : Nat} : (s.poke k v).fn x = s.fn x := rfl
@[simp] theorem poke_group {k v : Nat} {x : Nat} : (s.poke k v).group x = s.group x := rfl
@[simp] theorem poke_otpWord {k v : Nat} {x : Nat} : (s.poke k v).otpWord x = s.otpWord x := rfl
@[simp] theorem poke_prf {k v : Nat} {x : Nat} : (s.poke k v).prf x = s.prf x := rfl
@[simp] theorem poke_die {k v : Nat} {x : Nat} : (s.poke k v).die x = s.die x := rfl
@[simp] theorem poke_seqr {k v : Nat} {x : Nat} : (s.poke k v).seqr x = s.seqr x := rfl
@[simp] theorem poke_optic {k v : Nat} {x : Nat} : (s.poke k v).optic x = s.optic x := rfl
@[simp] theorem poke_rx {k v : Nat} {x : Nat} : (s.poke k v).rx x = s.rx x := rfl
@[simp] theorem poke_clu {k v : Nat} {x : Nat} : (s.poke k v).clu x = s.clu x := rfl
@[simp] theorem poke_eng {k v : Nat} {x : Nat} : (s.poke k v).eng x = s.eng x := rfl
@[simp] theorem poke_twin {k v : Nat} {x : Nat} : (s.poke k v).twin x = s.twin x := rfl
@[simp] theorem poke_inp {k v : Nat} {x : Nat} : (s.poke k v).inp x = s.inp x := rfl
@[simp] theorem poke_ipair {k v : Nat} {x : Nat} : (s.poke k v).ipair x = s.ipair x := rfl
/-! ### pokeFlash -/
@[simp] theorem pokeFlash_time {k v : Nat} : (s.pokeFlash k v).time = s.time := rfl
@[simp] theorem pokeFlash_devOfs {k v : Nat} : (s.pokeFlash k v).devOfs = s.devOfs := rfl
@[simp] theorem pokeFlash_devNext {k v : Nat} : (s.pokeFlash k v).devNext = s.devNext := rfl
@[simp] theorem pokeFlash_free {k v : Nat} : (s.pokeFlash k v).free = s.free := rfl
@[simp] theorem pokeFlash_dev {k v : Nat} : (s.pokeFlash k v).dev = s.dev := rfl
@[simp] theorem pokeFlash_up {k v : Nat} : (s.pokeFlash k v).up = s.up := rfl
@[simp] theorem pokeFlash_devAt {k v : Nat} : (s.pokeFlash k v).devAt = s.devAt := rfl
@[simp] theorem pokeFlash_wide {k v : Nat} : (s.pokeFlash k v).wide = s.wide := rfl
@[simp] theorem pokeFlash_xtalLost {k v : Nat} : (s.pokeFlash k v).xtalLost = s.xtalLost := rfl
@[simp] theorem pokeFlash_aonLost {k v : Nat} : (s.pokeFlash k v).aonLost = s.aonLost := rfl
@[simp] theorem pokeFlash_runAt {k v : Nat} : (s.pokeFlash k v).runAt = s.runAt := rfl
@[simp] theorem pokeFlash_regs {k v : Nat} : (s.pokeFlash k v).regs = s.regs := rfl
@[simp] theorem pokeFlash_staged {k v : Nat} : (s.pokeFlash k v).staged = s.staged := rfl
@[simp] theorem pokeFlash_captured {k v : Nat} : (s.pokeFlash k v).captured = s.captured := rfl
@[simp] theorem pokeFlash_hwNow {k v : Nat} : (s.pokeFlash k v).hwNow = s.hwNow := rfl
@[simp] theorem pokeFlash_mem {k v : Nat} : (s.pokeFlash k v).mem = s.mem := rfl
@[simp] theorem pokeFlash_otp {k v : Nat} : (s.pokeFlash k v).otp = s.otp := rfl
@[simp] theorem pokeFlash_gens {k v : Nat} : (s.pokeFlash k v).gens = s.gens := rfl
@[simp] theorem pokeFlash_prots {k v : Nat} : (s.pokeFlash k v).prots = s.prots := rfl
@[simp] theorem pokeFlash_prfs {k v : Nat} : (s.pokeFlash k v).prfs = s.prfs := rfl
@[simp] theorem pokeFlash_dies {k v : Nat} : (s.pokeFlash k v).dies = s.dies := rfl
@[simp] theorem pokeFlash_seqrs {k v : Nat} : (s.pokeFlash k v).seqrs = s.seqrs := rfl
@[simp] theorem pokeFlash_groups {k v : Nat} : (s.pokeFlash k v).groups = s.groups := rfl
@[simp] theorem pokeFlash_bcast {k v : Nat} : (s.pokeFlash k v).bcast = s.bcast := rfl
@[simp] theorem pokeFlash_optics {k v : Nat} : (s.pokeFlash k v).optics = s.optics := rfl
@[simp] theorem pokeFlash_optSince {k v : Nat} : (s.pokeFlash k v).optSince = s.optSince := rfl
@[simp] theorem pokeFlash_rxs {k v : Nat} : (s.pokeFlash k v).rxs = s.rxs := rfl
@[simp] theorem pokeFlash_flight {k v : Nat} : (s.pokeFlash k v).flight = s.flight := rfl
@[simp] theorem pokeFlash_trp {k v : Nat} : (s.pokeFlash k v).trp = s.trp := rfl
@[simp] theorem pokeFlash_cores {k v : Nat} : (s.pokeFlash k v).cores = s.cores := rfl
@[simp] theorem pokeFlash_engs {k v : Nat} : (s.pokeFlash k v).engs = s.engs := rfl
@[simp] theorem pokeFlash_twins {k v : Nat} : (s.pokeFlash k v).twins = s.twins := rfl
@[simp] theorem pokeFlash_inps {k v : Nat} : (s.pokeFlash k v).inps = s.inps := rfl
@[simp] theorem pokeFlash_ipairs {k v : Nat} : (s.pokeFlash k v).ipairs = s.ipairs := rfl
@[simp] theorem pokeFlash_fns {k v : Nat} : (s.pokeFlash k v).fns = s.fns := rfl
@[simp] theorem pokeFlash_sio {k v : Nat} : (s.pokeFlash k v).sio = s.sio := rfl
@[simp] theorem pokeFlash_conns {k v : Nat} : (s.pokeFlash k v).conns = s.conns := rfl
@[simp] theorem pokeFlash_sent {k v : Nat} : (s.pokeFlash k v).sent = s.sent := rfl
@[simp] theorem pokeFlash_entryOff {k v : Nat} : (s.pokeFlash k v).entryOff = s.entryOff := rfl
@[simp] theorem pokeFlash_entryIn {k v : Nat} : (s.pokeFlash k v).entryIn = s.entryIn := rfl
@[simp] theorem pokeFlash_clock {k v : Nat} : (s.pokeFlash k v).clock = s.clock := rfl
@[simp] theorem pokeFlash_pair {k v : Nat} : (s.pokeFlash k v).pair = s.pair := rfl
@[simp] theorem pokeFlash_clus {k v : Nat} : (s.pokeFlash k v).clus = s.clus := rfl
@[simp] theorem pokeFlash_pwr {k v : Nat} : (s.pokeFlash k v).pwr = s.pwr := rfl
@[simp] theorem pokeFlash_heat {k v : Nat} : (s.pokeFlash k v).heat = s.heat := rfl
@[simp] theorem pokeFlash_recs {k v : Nat} : (s.pokeFlash k v).recs = s.recs := rfl
@[simp] theorem pokeFlash_sage {k v : Nat} : (s.pokeFlash k v).sage = s.sage := rfl
@[simp] theorem pokeFlash_ports {k v : Nat} : (s.pokeFlash k v).ports = s.ports := rfl
@[simp] theorem pokeFlash_watchAt {k v : Nat} : (s.pokeFlash k v).watchAt = s.watchAt := rfl
@[simp] theorem pokeFlash_coll {k v : Nat} : (s.pokeFlash k v).coll = s.coll := rfl
@[simp] theorem pokeFlash_pending {k v : Nat} : (s.pokeFlash k v).pending = s.pending := rfl
@[simp] theorem pokeFlash_rd {k v : Nat} {x : Fld} : (s.pokeFlash k v).rd x = s.rd x := rfl
@[simp] theorem pokeFlash_gen {k v : Nat} {x : Nat} : (s.pokeFlash k v).gen x = s.gen x := rfl
@[simp] theorem pokeFlash_prot {k v : Nat} {x : Nat} : (s.pokeFlash k v).prot x = s.prot x := rfl
@[simp] theorem pokeFlash_core {k v : Nat} {x : Nat} : (s.pokeFlash k v).core x = s.core x := rfl
@[simp] theorem pokeFlash_conn {k v : Nat} {x : Nat} : (s.pokeFlash k v).conn x = s.conn x := rfl
@[simp] theorem pokeFlash_fn {k v : Nat} {x : Nat} : (s.pokeFlash k v).fn x = s.fn x := rfl
@[simp] theorem pokeFlash_group {k v : Nat} {x : Nat} : (s.pokeFlash k v).group x = s.group x := rfl
@[simp] theorem pokeFlash_otpWord {k v : Nat} {x : Nat} : (s.pokeFlash k v).otpWord x = s.otpWord x := rfl
@[simp] theorem pokeFlash_prf {k v : Nat} {x : Nat} : (s.pokeFlash k v).prf x = s.prf x := rfl
@[simp] theorem pokeFlash_die {k v : Nat} {x : Nat} : (s.pokeFlash k v).die x = s.die x := rfl
@[simp] theorem pokeFlash_seqr {k v : Nat} {x : Nat} : (s.pokeFlash k v).seqr x = s.seqr x := rfl
@[simp] theorem pokeFlash_optic {k v : Nat} {x : Nat} : (s.pokeFlash k v).optic x = s.optic x := rfl
@[simp] theorem pokeFlash_rx {k v : Nat} {x : Nat} : (s.pokeFlash k v).rx x = s.rx x := rfl
@[simp] theorem pokeFlash_clu {k v : Nat} {x : Nat} : (s.pokeFlash k v).clu x = s.clu x := rfl
@[simp] theorem pokeFlash_eng {k v : Nat} {x : Nat} : (s.pokeFlash k v).eng x = s.eng x := rfl
@[simp] theorem pokeFlash_twin {k v : Nat} {x : Nat} : (s.pokeFlash k v).twin x = s.twin x := rfl
@[simp] theorem pokeFlash_inp {k v : Nat} {x : Nat} : (s.pokeFlash k v).inp x = s.inp x := rfl
@[simp] theorem pokeFlash_ipair {k v : Nat} {x : Nat} : (s.pokeFlash k v).ipair x = s.ipair x := rfl
/-! ### spoil -/
@[simp] theorem spoil_time {k : Nat} : (s.spoil k).time = s.time := rfl
@[simp] theorem spoil_devOfs {k : Nat} : (s.spoil k).devOfs = s.devOfs := rfl
@[simp] theorem spoil_devNext {k : Nat} : (s.spoil k).devNext = s.devNext := rfl
@[simp] theorem spoil_free {k : Nat} : (s.spoil k).free = s.free := rfl
@[simp] theorem spoil_dev {k : Nat} : (s.spoil k).dev = s.dev := rfl
@[simp] theorem spoil_up {k : Nat} : (s.spoil k).up = s.up := rfl
@[simp] theorem spoil_devAt {k : Nat} : (s.spoil k).devAt = s.devAt := rfl
@[simp] theorem spoil_wide {k : Nat} : (s.spoil k).wide = s.wide := rfl
@[simp] theorem spoil_xtalLost {k : Nat} : (s.spoil k).xtalLost = s.xtalLost := rfl
@[simp] theorem spoil_aonLost {k : Nat} : (s.spoil k).aonLost = s.aonLost := rfl
@[simp] theorem spoil_runAt {k : Nat} : (s.spoil k).runAt = s.runAt := rfl
@[simp] theorem spoil_regs {k : Nat} : (s.spoil k).regs = s.regs := rfl
@[simp] theorem spoil_staged {k : Nat} : (s.spoil k).staged = s.staged := rfl
@[simp] theorem spoil_captured {k : Nat} : (s.spoil k).captured = s.captured := rfl
@[simp] theorem spoil_hwNow {k : Nat} : (s.spoil k).hwNow = s.hwNow := rfl
@[simp] theorem spoil_mem {k : Nat} : (s.spoil k).mem = s.mem := rfl
@[simp] theorem spoil_flash {k : Nat} : (s.spoil k).flash = s.flash := rfl
@[simp] theorem spoil_otp {k : Nat} : (s.spoil k).otp = s.otp := rfl
@[simp] theorem spoil_gens {k : Nat} : (s.spoil k).gens = s.gens := rfl
@[simp] theorem spoil_prots {k : Nat} : (s.spoil k).prots = s.prots := rfl
@[simp] theorem spoil_prfs {k : Nat} : (s.spoil k).prfs = s.prfs := rfl
@[simp] theorem spoil_dies {k : Nat} : (s.spoil k).dies = s.dies := rfl
@[simp] theorem spoil_seqrs {k : Nat} : (s.spoil k).seqrs = s.seqrs := rfl
@[simp] theorem spoil_groups {k : Nat} : (s.spoil k).groups = s.groups := rfl
@[simp] theorem spoil_bcast {k : Nat} : (s.spoil k).bcast = s.bcast := rfl
@[simp] theorem spoil_optics {k : Nat} : (s.spoil k).optics = s.optics := rfl
@[simp] theorem spoil_optSince {k : Nat} : (s.spoil k).optSince = s.optSince := rfl
@[simp] theorem spoil_rxs {k : Nat} : (s.spoil k).rxs = s.rxs := rfl
@[simp] theorem spoil_flight {k : Nat} : (s.spoil k).flight = s.flight := rfl
@[simp] theorem spoil_trp {k : Nat} : (s.spoil k).trp = s.trp := rfl
@[simp] theorem spoil_cores {k : Nat} : (s.spoil k).cores = s.cores := rfl
@[simp] theorem spoil_engs {k : Nat} : (s.spoil k).engs = s.engs := rfl
@[simp] theorem spoil_twins {k : Nat} : (s.spoil k).twins = s.twins := rfl
@[simp] theorem spoil_inps {k : Nat} : (s.spoil k).inps = s.inps := rfl
@[simp] theorem spoil_ipairs {k : Nat} : (s.spoil k).ipairs = s.ipairs := rfl
@[simp] theorem spoil_fns {k : Nat} : (s.spoil k).fns = s.fns := rfl
@[simp] theorem spoil_sio {k : Nat} : (s.spoil k).sio = s.sio := rfl
@[simp] theorem spoil_conns {k : Nat} : (s.spoil k).conns = s.conns := rfl
@[simp] theorem spoil_sent {k : Nat} : (s.spoil k).sent = s.sent := rfl
@[simp] theorem spoil_entryOff {k : Nat} : (s.spoil k).entryOff = s.entryOff := rfl
@[simp] theorem spoil_entryIn {k : Nat} : (s.spoil k).entryIn = s.entryIn := rfl
@[simp] theorem spoil_clock {k : Nat} : (s.spoil k).clock = s.clock := rfl
@[simp] theorem spoil_pair {k : Nat} : (s.spoil k).pair = s.pair := rfl
@[simp] theorem spoil_clus {k : Nat} : (s.spoil k).clus = s.clus := rfl
@[simp] theorem spoil_pwr {k : Nat} : (s.spoil k).pwr = s.pwr := rfl
@[simp] theorem spoil_heat {k : Nat} : (s.spoil k).heat = s.heat := rfl
@[simp] theorem spoil_recs {k : Nat} : (s.spoil k).recs = s.recs := rfl
@[simp] theorem spoil_sage {k : Nat} : (s.spoil k).sage = s.sage := rfl
@[simp] theorem spoil_ports {k : Nat} : (s.spoil k).ports = s.ports := rfl
@[simp] theorem spoil_watchAt {k : Nat} : (s.spoil k).watchAt = s.watchAt := rfl
@[simp] theorem spoil_coll {k : Nat} : (s.spoil k).coll = s.coll := rfl
@[simp] theorem spoil_pending {k : Nat} : (s.spoil k).pending = s.pending := rfl
@[simp] theorem spoil_rd {k : Nat} {x : Fld} : (s.spoil k).rd x = s.rd x := rfl
@[simp] theorem spoil_gen {k : Nat} {x : Nat} : (s.spoil k).gen x = s.gen x := rfl
@[simp] theorem spoil_prot {k : Nat} {x : Nat} : (s.spoil k).prot x = s.prot x := rfl
@[simp] theorem spoil_core {k : Nat} {x : Nat} : (s.spoil k).core x = s.core x := rfl
@[simp] theorem spoil_conn {k : Nat} {x : Nat} : (s.spoil k).conn x = s.conn x := rfl
@[simp] theorem spoil_fn {k : Nat} {x : Nat} : (s.spoil k).fn x = s.fn x := rfl
@[simp] theorem spoil_group {k : Nat} {x : Nat} : (s.spoil k).group x = s.group x := rfl
@[simp] theorem spoil_otpWord {k : Nat} {x : Nat} : (s.spoil k).otpWord x = s.otpWord x := rfl
@[simp] theorem spoil_prf {k : Nat} {x : Nat} : (s.spoil k).prf x = s.prf x := rfl
@[simp] theorem spoil_die {k : Nat} {x : Nat} : (s.spoil k).die x = s.die x := rfl
@[simp] theorem spoil_seqr {k : Nat} {x : Nat} : (s.spoil k).seqr x = s.seqr x := rfl
@[simp] theorem spoil_optic {k : Nat} {x : Nat} : (s.spoil k).optic x = s.optic x := rfl
@[simp] theorem spoil_rx {k : Nat} {x : Nat} : (s.spoil k).rx x = s.rx x := rfl
@[simp] theorem spoil_clu {k : Nat} {x : Nat} : (s.spoil k).clu x = s.clu x := rfl
@[simp] theorem spoil_eng {k : Nat} {x : Nat} : (s.spoil k).eng x = s.eng x := rfl
@[simp] theorem spoil_twin {k : Nat} {x : Nat} : (s.spoil k).twin x = s.twin x := rfl
@[simp] theorem spoil_inp {k : Nat} {x : Nat} : (s.spoil k).inp x = s.inp x := rfl
@[simp] theorem spoil_ipair {k : Nat} {x : Nat} : (s.spoil k).ipair x = s.ipair x := rfl
/-! ### setCore -/
@[simp] theorem setCore_time {n : Nat} {g : Core} : (s.setCore n g).time = s.time := rfl
@[simp] theorem setCore_devOfs {n : Nat} {g : Core} : (s.setCore n g).devOfs = s.devOfs := rfl
@[simp] theorem setCore_devNext {n : Nat} {g : Core} : (s.setCore n g).devNext = s.devNext := rfl
@[simp] theorem setCore_free {n : Nat} {g : Core} : (s.setCore n g).free = s.free := rfl
@[simp] theorem setCore_dev {n : Nat} {g : Core} : (s.setCore n g).dev = s.dev := rfl
@[simp] theorem setCore_up {n : Nat} {g : Core} : (s.setCore n g).up = s.up := rfl
@[simp] theorem setCore_devAt {n : Nat} {g : Core} : (s.setCore n g).devAt = s.devAt := rfl
@[simp] theorem setCore_wide {n : Nat} {g : Core} : (s.setCore n g).wide = s.wide := rfl
@[simp] theorem setCore_xtalLost {n : Nat} {g : Core} : (s.setCore n g).xtalLost = s.xtalLost := rfl
@[simp] theorem setCore_aonLost {n : Nat} {g : Core} : (s.setCore n g).aonLost = s.aonLost := rfl
@[simp] theorem setCore_runAt {n : Nat} {g : Core} : (s.setCore n g).runAt = s.runAt := rfl
@[simp] theorem setCore_regs {n : Nat} {g : Core} : (s.setCore n g).regs = s.regs := rfl
@[simp] theorem setCore_staged {n : Nat} {g : Core} : (s.setCore n g).staged = s.staged := rfl
@[simp] theorem setCore_captured {n : Nat} {g : Core} : (s.setCore n g).captured = s.captured := rfl
@[simp] theorem setCore_hwNow {n : Nat} {g : Core} : (s.setCore n g).hwNow = s.hwNow := rfl
@[simp] theorem setCore_mem {n : Nat} {g : Core} : (s.setCore n g).mem = s.mem := rfl
@[simp] theorem setCore_flash {n : Nat} {g : Core} : (s.setCore n g).flash = s.flash := rfl
@[simp] theorem setCore_otp {n : Nat} {g : Core} : (s.setCore n g).otp = s.otp := rfl
@[simp] theorem setCore_bad {n : Nat} {g : Core} : (s.setCore n g).bad = s.bad := rfl
@[simp] theorem setCore_gens {n : Nat} {g : Core} : (s.setCore n g).gens = s.gens := rfl
@[simp] theorem setCore_prots {n : Nat} {g : Core} : (s.setCore n g).prots = s.prots := rfl
@[simp] theorem setCore_prfs {n : Nat} {g : Core} : (s.setCore n g).prfs = s.prfs := rfl
@[simp] theorem setCore_dies {n : Nat} {g : Core} : (s.setCore n g).dies = s.dies := rfl
@[simp] theorem setCore_seqrs {n : Nat} {g : Core} : (s.setCore n g).seqrs = s.seqrs := rfl
@[simp] theorem setCore_groups {n : Nat} {g : Core} : (s.setCore n g).groups = s.groups := rfl
@[simp] theorem setCore_bcast {n : Nat} {g : Core} : (s.setCore n g).bcast = s.bcast := rfl
@[simp] theorem setCore_optics {n : Nat} {g : Core} : (s.setCore n g).optics = s.optics := rfl
@[simp] theorem setCore_optSince {n : Nat} {g : Core} : (s.setCore n g).optSince = s.optSince := rfl
@[simp] theorem setCore_rxs {n : Nat} {g : Core} : (s.setCore n g).rxs = s.rxs := rfl
@[simp] theorem setCore_flight {n : Nat} {g : Core} : (s.setCore n g).flight = s.flight := rfl
@[simp] theorem setCore_trp {n : Nat} {g : Core} : (s.setCore n g).trp = s.trp := rfl
@[simp] theorem setCore_engs {n : Nat} {g : Core} : (s.setCore n g).engs = s.engs := rfl
@[simp] theorem setCore_twins {n : Nat} {g : Core} : (s.setCore n g).twins = s.twins := rfl
@[simp] theorem setCore_inps {n : Nat} {g : Core} : (s.setCore n g).inps = s.inps := rfl
@[simp] theorem setCore_ipairs {n : Nat} {g : Core} : (s.setCore n g).ipairs = s.ipairs := rfl
@[simp] theorem setCore_fns {n : Nat} {g : Core} : (s.setCore n g).fns = s.fns := rfl
@[simp] theorem setCore_sio {n : Nat} {g : Core} : (s.setCore n g).sio = s.sio := rfl
@[simp] theorem setCore_conns {n : Nat} {g : Core} : (s.setCore n g).conns = s.conns := rfl
@[simp] theorem setCore_sent {n : Nat} {g : Core} : (s.setCore n g).sent = s.sent := rfl
@[simp] theorem setCore_entryOff {n : Nat} {g : Core} : (s.setCore n g).entryOff = s.entryOff := rfl
@[simp] theorem setCore_entryIn {n : Nat} {g : Core} : (s.setCore n g).entryIn = s.entryIn := rfl
@[simp] theorem setCore_clock {n : Nat} {g : Core} : (s.setCore n g).clock = s.clock := rfl
@[simp] theorem setCore_pair {n : Nat} {g : Core} : (s.setCore n g).pair = s.pair := rfl
@[simp] theorem setCore_clus {n : Nat} {g : Core} : (s.setCore n g).clus = s.clus := rfl
@[simp] theorem setCore_pwr {n : Nat} {g : Core} : (s.setCore n g).pwr = s.pwr := rfl
@[simp] theorem setCore_heat {n : Nat} {g : Core} : (s.setCore n g).heat = s.heat := rfl
@[simp] theorem setCore_recs {n : Nat} {g : Core} : (s.setCore n g).recs = s.recs := rfl
@[simp] theorem setCore_sage {n : Nat} {g : Core} : (s.setCore n g).sage = s.sage := rfl
@[simp] theorem setCore_ports {n : Nat} {g : Core} : (s.setCore n g).ports = s.ports := rfl
@[simp] theorem setCore_watchAt {n : Nat} {g : Core} : (s.setCore n g).watchAt = s.watchAt := rfl
@[simp] theorem setCore_coll {n : Nat} {g : Core} : (s.setCore n g).coll = s.coll := rfl
@[simp] theorem setCore_pending {n : Nat} {g : Core} : (s.setCore n g).pending = s.pending := rfl
@[simp] theorem setCore_rd {n : Nat} {g : Core} {x : Fld} : (s.setCore n g).rd x = s.rd x := rfl
@[simp] theorem setCore_gen {n : Nat} {g : Core} {x : Nat} : (s.setCore n g).gen x = s.gen x := rfl
@[simp] theorem setCore_prot {n : Nat} {g : Core} {x : Nat} : (s.setCore n g).prot x = s.prot x := rfl
@[simp] theorem setCore_conn {n : Nat} {g : Core} {x : Nat} : (s.setCore n g).conn x = s.conn x := rfl
@[simp] theorem setCore_fn {n : Nat} {g : Core} {x : Nat} : (s.setCore n g).fn x = s.fn x := rfl
@[simp] theorem setCore_group {n : Nat} {g : Core} {x : Nat} : (s.setCore n g).group x = s.group x := rfl
@[simp] theorem setCore_otpWord {n : Nat} {g : Core} {x : Nat} : (s.setCore n g).otpWord x = s.otpWord x := rfl
@[simp] theorem setCore_prf {n : Nat} {g : Core} {x : Nat} : (s.setCore n g).prf x = s.prf x := rfl
@[simp] theorem setCore_die {n : Nat} {g : Core} {x : Nat} : (s.setCore n g).die x = s.die x := rfl
@[simp] theorem setCore_seqr {n : Nat} {g : Core} {x : Nat} : (s.setCore n g).seqr x = s.seqr x := rfl
@[simp] theorem setCore_optic {n : Nat} {g : Core} {x : Nat} : (s.setCore n g).optic x = s.optic x := rfl
@[simp] theorem setCore_rx {n : Nat} {g : Core} {x : Nat} : (s.setCore n g).rx x = s.rx x := rfl
@[simp] theorem setCore_clu {n : Nat} {g : Core} {x : Nat} : (s.setCore n g).clu x = s.clu x := rfl
@[simp] theorem setCore_eng {n : Nat} {g : Core} {x : Nat} : (s.setCore n g).eng x = s.eng x := rfl
@[simp] theorem setCore_twin {n : Nat} {g : Core} {x : Nat} : (s.setCore n g).twin x = s.twin x := rfl
@[simp] theorem setCore_inp {n : Nat} {g : Core} {x : Nat} : (s.setCore n g).inp x = s.inp x := rfl
@[simp] theorem setCore_ipair {n : Nat} {g : Core} {x : Nat} : (s.setCore n g).ipair x = s.ipair x := rfl
/-! ### modCore -/
@[simp] theorem modCore_time {n : Nat} {g : Core → Core} : (s.modCore n g).time = s.time := rfl
@[simp] theorem modCore_devOfs {n : Nat} {g : Core → Core} : (s.modCore n g).devOfs = s.devOfs := rfl
@[simp] theorem modCore_devNext {n : Nat} {g : Core → Core} : (s.modCore n g).devNext = s.devNext := rfl
@[simp] theorem modCore_free {n : Nat} {g : Core → Core} : (s.modCore n g).free = s.free := rfl
@[simp] theorem modCore_dev {n : Nat} {g : Core → Core} : (s.modCore n g).dev = s.dev := rfl
@[simp] theorem modCore_up {n : Nat} {g : Core → Core} : (s.modCore n g).up = s.up := rfl
@[simp] theorem modCore_devAt {n : Nat} {g : Core → Core} : (s.modCore n g).devAt = s.devAt := rfl
@[simp] theorem modCore_wide {n : Nat} {g : Core → Core} : (s.modCore n g).wide = s.wide := rfl
@[simp] theorem modCore_xtalLost {n : Nat} {g : Core → Core} : (s.modCore n g).xtalLost = s.xtalLost := rfl
@[simp] theorem modCore_aonLost {n : Nat} {g : Core → Core} : (s.modCore n g).aonLost = s.aonLost := rfl
@[simp] theorem modCore_runAt {n : Nat} {g : Core → Core} : (s.modCore n g).runAt = s.runAt := rfl
@[simp] theorem modCore_regs {n : Nat} {g : Core → Core} : (s.modCore n g).regs = s.regs := rfl
@[simp] theorem modCore_staged {n : Nat} {g : Core → Core} : (s.modCore n g).staged = s.staged := rfl
@[simp] theorem modCore_captured {n : Nat} {g : Core → Core} : (s.modCore n g).captured = s.captured := rfl
@[simp] theorem modCore_hwNow {n : Nat} {g : Core → Core} : (s.modCore n g).hwNow = s.hwNow := rfl
@[simp] theorem modCore_mem {n : Nat} {g : Core → Core} : (s.modCore n g).mem = s.mem := rfl
@[simp] theorem modCore_flash {n : Nat} {g : Core → Core} : (s.modCore n g).flash = s.flash := rfl
@[simp] theorem modCore_otp {n : Nat} {g : Core → Core} : (s.modCore n g).otp = s.otp := rfl
@[simp] theorem modCore_bad {n : Nat} {g : Core → Core} : (s.modCore n g).bad = s.bad := rfl
@[simp] theorem modCore_gens {n : Nat} {g : Core → Core} : (s.modCore n g).gens = s.gens := rfl
@[simp] theorem modCore_prots {n : Nat} {g : Core → Core} : (s.modCore n g).prots = s.prots := rfl
@[simp] theorem modCore_prfs {n : Nat} {g : Core → Core} : (s.modCore n g).prfs = s.prfs := rfl
@[simp] theorem modCore_dies {n : Nat} {g : Core → Core} : (s.modCore n g).dies = s.dies := rfl
@[simp] theorem modCore_seqrs {n : Nat} {g : Core → Core} : (s.modCore n g).seqrs = s.seqrs := rfl
@[simp] theorem modCore_groups {n : Nat} {g : Core → Core} : (s.modCore n g).groups = s.groups := rfl
@[simp] theorem modCore_bcast {n : Nat} {g : Core → Core} : (s.modCore n g).bcast = s.bcast := rfl
@[simp] theorem modCore_optics {n : Nat} {g : Core → Core} : (s.modCore n g).optics = s.optics := rfl
@[simp] theorem modCore_optSince {n : Nat} {g : Core → Core} : (s.modCore n g).optSince = s.optSince := rfl
@[simp] theorem modCore_rxs {n : Nat} {g : Core → Core} : (s.modCore n g).rxs = s.rxs := rfl
@[simp] theorem modCore_flight {n : Nat} {g : Core → Core} : (s.modCore n g).flight = s.flight := rfl
@[simp] theorem modCore_trp {n : Nat} {g : Core → Core} : (s.modCore n g).trp = s.trp := rfl
@[simp] theorem modCore_engs {n : Nat} {g : Core → Core} : (s.modCore n g).engs = s.engs := rfl
@[simp] theorem modCore_twins {n : Nat} {g : Core → Core} : (s.modCore n g).twins = s.twins := rfl
@[simp] theorem modCore_inps {n : Nat} {g : Core → Core} : (s.modCore n g).inps = s.inps := rfl
@[simp] theorem modCore_ipairs {n : Nat} {g : Core → Core} : (s.modCore n g).ipairs = s.ipairs := rfl
@[simp] theorem modCore_fns {n : Nat} {g : Core → Core} : (s.modCore n g).fns = s.fns := rfl
@[simp] theorem modCore_sio {n : Nat} {g : Core → Core} : (s.modCore n g).sio = s.sio := rfl
@[simp] theorem modCore_conns {n : Nat} {g : Core → Core} : (s.modCore n g).conns = s.conns := rfl
@[simp] theorem modCore_sent {n : Nat} {g : Core → Core} : (s.modCore n g).sent = s.sent := rfl
@[simp] theorem modCore_entryOff {n : Nat} {g : Core → Core} : (s.modCore n g).entryOff = s.entryOff := rfl
@[simp] theorem modCore_entryIn {n : Nat} {g : Core → Core} : (s.modCore n g).entryIn = s.entryIn := rfl
@[simp] theorem modCore_clock {n : Nat} {g : Core → Core} : (s.modCore n g).clock = s.clock := rfl
@[simp] theorem modCore_pair {n : Nat} {g : Core → Core} : (s.modCore n g).pair = s.pair := rfl
@[simp] theorem modCore_clus {n : Nat} {g : Core → Core} : (s.modCore n g).clus = s.clus := rfl
@[simp] theorem modCore_pwr {n : Nat} {g : Core → Core} : (s.modCore n g).pwr = s.pwr := rfl
@[simp] theorem modCore_heat {n : Nat} {g : Core → Core} : (s.modCore n g).heat = s.heat := rfl
@[simp] theorem modCore_recs {n : Nat} {g : Core → Core} : (s.modCore n g).recs = s.recs := rfl
@[simp] theorem modCore_sage {n : Nat} {g : Core → Core} : (s.modCore n g).sage = s.sage := rfl
@[simp] theorem modCore_ports {n : Nat} {g : Core → Core} : (s.modCore n g).ports = s.ports := rfl
@[simp] theorem modCore_watchAt {n : Nat} {g : Core → Core} : (s.modCore n g).watchAt = s.watchAt := rfl
@[simp] theorem modCore_coll {n : Nat} {g : Core → Core} : (s.modCore n g).coll = s.coll := rfl
@[simp] theorem modCore_pending {n : Nat} {g : Core → Core} : (s.modCore n g).pending = s.pending := rfl
@[simp] theorem modCore_rd {n : Nat} {g : Core → Core} {x : Fld} : (s.modCore n g).rd x = s.rd x := rfl
@[simp] theorem modCore_gen {n : Nat} {g : Core → Core} {x : Nat} : (s.modCore n g).gen x = s.gen x := rfl
@[simp] theorem modCore_prot {n : Nat} {g : Core → Core} {x : Nat} : (s.modCore n g).prot x = s.prot x := rfl
@[simp] theorem modCore_conn {n : Nat} {g : Core → Core} {x : Nat} : (s.modCore n g).conn x = s.conn x := rfl
@[simp] theorem modCore_fn {n : Nat} {g : Core → Core} {x : Nat} : (s.modCore n g).fn x = s.fn x := rfl
@[simp] theorem modCore_group {n : Nat} {g : Core → Core} {x : Nat} : (s.modCore n g).group x = s.group x := rfl
@[simp] theorem modCore_otpWord {n : Nat} {g : Core → Core} {x : Nat} : (s.modCore n g).otpWord x = s.otpWord x := rfl
@[simp] theorem modCore_prf {n : Nat} {g : Core → Core} {x : Nat} : (s.modCore n g).prf x = s.prf x := rfl
@[simp] theorem modCore_die {n : Nat} {g : Core → Core} {x : Nat} : (s.modCore n g).die x = s.die x := rfl
@[simp] theorem modCore_seqr {n : Nat} {g : Core → Core} {x : Nat} : (s.modCore n g).seqr x = s.seqr x := rfl
@[simp] theorem modCore_optic {n : Nat} {g : Core → Core} {x : Nat} : (s.modCore n g).optic x = s.optic x := rfl
@[simp] theorem modCore_rx {n : Nat} {g : Core → Core} {x : Nat} : (s.modCore n g).rx x = s.rx x := rfl
@[simp] theorem modCore_clu {n : Nat} {g : Core → Core} {x : Nat} : (s.modCore n g).clu x = s.clu x := rfl
@[simp] theorem modCore_eng {n : Nat} {g : Core → Core} {x : Nat} : (s.modCore n g).eng x = s.eng x := rfl
@[simp] theorem modCore_twin {n : Nat} {g : Core → Core} {x : Nat} : (s.modCore n g).twin x = s.twin x := rfl
@[simp] theorem modCore_inp {n : Nat} {g : Core → Core} {x : Nat} : (s.modCore n g).inp x = s.inp x := rfl
@[simp] theorem modCore_ipair {n : Nat} {g : Core → Core} {x : Nat} : (s.modCore n g).ipair x = s.ipair x := rfl
/-! ### modEng -/
@[simp] theorem modEng_time {n : Nat} {g : Eng → Eng} : (s.modEng n g).time = s.time := rfl
@[simp] theorem modEng_devOfs {n : Nat} {g : Eng → Eng} : (s.modEng n g).devOfs = s.devOfs := rfl
@[simp] theorem modEng_devNext {n : Nat} {g : Eng → Eng} : (s.modEng n g).devNext = s.devNext := rfl
@[simp] theorem modEng_free {n : Nat} {g : Eng → Eng} : (s.modEng n g).free = s.free := rfl
@[simp] theorem modEng_dev {n : Nat} {g : Eng → Eng} : (s.modEng n g).dev = s.dev := rfl
@[simp] theorem modEng_up {n : Nat} {g : Eng → Eng} : (s.modEng n g).up = s.up := rfl
@[simp] theorem modEng_devAt {n : Nat} {g : Eng → Eng} : (s.modEng n g).devAt = s.devAt := rfl
@[simp] theorem modEng_wide {n : Nat} {g : Eng → Eng} : (s.modEng n g).wide = s.wide := rfl
@[simp] theorem modEng_xtalLost {n : Nat} {g : Eng → Eng} : (s.modEng n g).xtalLost = s.xtalLost := rfl
@[simp] theorem modEng_aonLost {n : Nat} {g : Eng → Eng} : (s.modEng n g).aonLost = s.aonLost := rfl
@[simp] theorem modEng_runAt {n : Nat} {g : Eng → Eng} : (s.modEng n g).runAt = s.runAt := rfl
@[simp] theorem modEng_regs {n : Nat} {g : Eng → Eng} : (s.modEng n g).regs = s.regs := rfl
@[simp] theorem modEng_staged {n : Nat} {g : Eng → Eng} : (s.modEng n g).staged = s.staged := rfl
@[simp] theorem modEng_captured {n : Nat} {g : Eng → Eng} : (s.modEng n g).captured = s.captured := rfl
@[simp] theorem modEng_hwNow {n : Nat} {g : Eng → Eng} : (s.modEng n g).hwNow = s.hwNow := rfl
@[simp] theorem modEng_mem {n : Nat} {g : Eng → Eng} : (s.modEng n g).mem = s.mem := rfl
@[simp] theorem modEng_flash {n : Nat} {g : Eng → Eng} : (s.modEng n g).flash = s.flash := rfl
@[simp] theorem modEng_otp {n : Nat} {g : Eng → Eng} : (s.modEng n g).otp = s.otp := rfl
@[simp] theorem modEng_bad {n : Nat} {g : Eng → Eng} : (s.modEng n g).bad = s.bad := rfl
@[simp] theorem modEng_gens {n : Nat} {g : Eng → Eng} : (s.modEng n g).gens = s.gens := rfl
@[simp] theorem modEng_prots {n : Nat} {g : Eng → Eng} : (s.modEng n g).prots = s.prots := rfl
@[simp] theorem modEng_prfs {n : Nat} {g : Eng → Eng} : (s.modEng n g).prfs = s.prfs := rfl
@[simp] theorem modEng_dies {n : Nat} {g : Eng → Eng} : (s.modEng n g).dies = s.dies := rfl
@[simp] theorem modEng_seqrs {n : Nat} {g : Eng → Eng} : (s.modEng n g).seqrs = s.seqrs := rfl
@[simp] theorem modEng_groups {n : Nat} {g : Eng → Eng} : (s.modEng n g).groups = s.groups := rfl
@[simp] theorem modEng_bcast {n : Nat} {g : Eng → Eng} : (s.modEng n g).bcast = s.bcast := rfl
@[simp] theorem modEng_optics {n : Nat} {g : Eng → Eng} : (s.modEng n g).optics = s.optics := rfl
@[simp] theorem modEng_optSince {n : Nat} {g : Eng → Eng} : (s.modEng n g).optSince = s.optSince := rfl
@[simp] theorem modEng_rxs {n : Nat} {g : Eng → Eng} : (s.modEng n g).rxs = s.rxs := rfl
@[simp] theorem modEng_flight {n : Nat} {g : Eng → Eng} : (s.modEng n g).flight = s.flight := rfl
@[simp] theorem modEng_trp {n : Nat} {g : Eng → Eng} : (s.modEng n g).trp = s.trp := rfl
@[simp] theorem modEng_cores {n : Nat} {g : Eng → Eng} : (s.modEng n g).cores = s.cores := rfl
@[simp] theorem modEng_twins {n : Nat} {g : Eng → Eng} : (s.modEng n g).twins = s.twins := rfl
@[simp] theorem modEng_inps {n : Nat} {g : Eng → Eng} : (s.modEng n g).inps = s.inps := rfl
@[simp] theorem modEng_ipairs {n : Nat} {g : Eng → Eng} : (s.modEng n g).ipairs = s.ipairs := rfl
@[simp] theorem modEng_fns {n : Nat} {g : Eng → Eng} : (s.modEng n g).fns = s.fns := rfl
@[simp] theorem modEng_sio {n : Nat} {g : Eng → Eng} : (s.modEng n g).sio = s.sio := rfl
@[simp] theorem modEng_conns {n : Nat} {g : Eng → Eng} : (s.modEng n g).conns = s.conns := rfl
@[simp] theorem modEng_sent {n : Nat} {g : Eng → Eng} : (s.modEng n g).sent = s.sent := rfl
@[simp] theorem modEng_entryOff {n : Nat} {g : Eng → Eng} : (s.modEng n g).entryOff = s.entryOff := rfl
@[simp] theorem modEng_entryIn {n : Nat} {g : Eng → Eng} : (s.modEng n g).entryIn = s.entryIn := rfl
@[simp] theorem modEng_clock {n : Nat} {g : Eng → Eng} : (s.modEng n g).clock = s.clock := rfl
@[simp] theorem modEng_pair {n : Nat} {g : Eng → Eng} : (s.modEng n g).pair = s.pair := rfl
@[simp] theorem modEng_clus {n : Nat} {g : Eng → Eng} : (s.modEng n g).clus = s.clus := rfl
@[simp] theorem modEng_pwr {n : Nat} {g : Eng → Eng} : (s.modEng n g).pwr = s.pwr := rfl
@[simp] theorem modEng_heat {n : Nat} {g : Eng → Eng} : (s.modEng n g).heat = s.heat := rfl
@[simp] theorem modEng_recs {n : Nat} {g : Eng → Eng} : (s.modEng n g).recs = s.recs := rfl
@[simp] theorem modEng_sage {n : Nat} {g : Eng → Eng} : (s.modEng n g).sage = s.sage := rfl
@[simp] theorem modEng_ports {n : Nat} {g : Eng → Eng} : (s.modEng n g).ports = s.ports := rfl
@[simp] theorem modEng_watchAt {n : Nat} {g : Eng → Eng} : (s.modEng n g).watchAt = s.watchAt := rfl
@[simp] theorem modEng_coll {n : Nat} {g : Eng → Eng} : (s.modEng n g).coll = s.coll := rfl
@[simp] theorem modEng_pending {n : Nat} {g : Eng → Eng} : (s.modEng n g).pending = s.pending := rfl
@[simp] theorem modEng_rd {n : Nat} {g : Eng → Eng} {x : Fld} : (s.modEng n g).rd x = s.rd x := rfl
@[simp] theorem modEng_gen {n : Nat} {g : Eng → Eng} {x : Nat} : (s.modEng n g).gen x = s.gen x := rfl
@[simp] theorem modEng_prot {n : Nat} {g : Eng → Eng} {x : Nat} : (s.modEng n g).prot x = s.prot x := rfl
@[simp] theorem modEng_core {n : Nat} {g : Eng → Eng} {x : Nat} : (s.modEng n g).core x = s.core x := rfl
@[simp] theorem modEng_conn {n : Nat} {g : Eng → Eng} {x : Nat} : (s.modEng n g).conn x = s.conn x := rfl
@[simp] theorem modEng_fn {n : Nat} {g : Eng → Eng} {x : Nat} : (s.modEng n g).fn x = s.fn x := rfl
@[simp] theorem modEng_group {n : Nat} {g : Eng → Eng} {x : Nat} : (s.modEng n g).group x = s.group x := rfl
@[simp] theorem modEng_otpWord {n : Nat} {g : Eng → Eng} {x : Nat} : (s.modEng n g).otpWord x = s.otpWord x := rfl
@[simp] theorem modEng_prf {n : Nat} {g : Eng → Eng} {x : Nat} : (s.modEng n g).prf x = s.prf x := rfl
@[simp] theorem modEng_die {n : Nat} {g : Eng → Eng} {x : Nat} : (s.modEng n g).die x = s.die x := rfl
@[simp] theorem modEng_seqr {n : Nat} {g : Eng → Eng} {x : Nat} : (s.modEng n g).seqr x = s.seqr x := rfl
@[simp] theorem modEng_optic {n : Nat} {g : Eng → Eng} {x : Nat} : (s.modEng n g).optic x = s.optic x := rfl
@[simp] theorem modEng_rx {n : Nat} {g : Eng → Eng} {x : Nat} : (s.modEng n g).rx x = s.rx x := rfl
@[simp] theorem modEng_clu {n : Nat} {g : Eng → Eng} {x : Nat} : (s.modEng n g).clu x = s.clu x := rfl
@[simp] theorem modEng_twin {n : Nat} {g : Eng → Eng} {x : Nat} : (s.modEng n g).twin x = s.twin x := rfl
@[simp] theorem modEng_inp {n : Nat} {g : Eng → Eng} {x : Nat} : (s.modEng n g).inp x = s.inp x := rfl
@[simp] theorem modEng_ipair {n : Nat} {g : Eng → Eng} {x : Nat} : (s.modEng n g).ipair x = s.ipair x := rfl
/-! ### modTwin -/
@[simp] theorem modTwin_time {n : Nat} {g : Twin → Twin} : (s.modTwin n g).time = s.time := rfl
@[simp] theorem modTwin_devOfs {n : Nat} {g : Twin → Twin} : (s.modTwin n g).devOfs = s.devOfs := rfl
@[simp] theorem modTwin_devNext {n : Nat} {g : Twin → Twin} : (s.modTwin n g).devNext = s.devNext := rfl
@[simp] theorem modTwin_free {n : Nat} {g : Twin → Twin} : (s.modTwin n g).free = s.free := rfl
@[simp] theorem modTwin_dev {n : Nat} {g : Twin → Twin} : (s.modTwin n g).dev = s.dev := rfl
@[simp] theorem modTwin_up {n : Nat} {g : Twin → Twin} : (s.modTwin n g).up = s.up := rfl
@[simp] theorem modTwin_devAt {n : Nat} {g : Twin → Twin} : (s.modTwin n g).devAt = s.devAt := rfl
@[simp] theorem modTwin_wide {n : Nat} {g : Twin → Twin} : (s.modTwin n g).wide = s.wide := rfl
@[simp] theorem modTwin_xtalLost {n : Nat} {g : Twin → Twin} : (s.modTwin n g).xtalLost = s.xtalLost := rfl
@[simp] theorem modTwin_aonLost {n : Nat} {g : Twin → Twin} : (s.modTwin n g).aonLost = s.aonLost := rfl
@[simp] theorem modTwin_runAt {n : Nat} {g : Twin → Twin} : (s.modTwin n g).runAt = s.runAt := rfl
@[simp] theorem modTwin_regs {n : Nat} {g : Twin → Twin} : (s.modTwin n g).regs = s.regs := rfl
@[simp] theorem modTwin_staged {n : Nat} {g : Twin → Twin} : (s.modTwin n g).staged = s.staged := rfl
@[simp] theorem modTwin_captured {n : Nat} {g : Twin → Twin} : (s.modTwin n g).captured = s.captured := rfl
@[simp] theorem modTwin_hwNow {n : Nat} {g : Twin → Twin} : (s.modTwin n g).hwNow = s.hwNow := rfl
@[simp] theorem modTwin_mem {n : Nat} {g : Twin → Twin} : (s.modTwin n g).mem = s.mem := rfl
@[simp] theorem modTwin_flash {n : Nat} {g : Twin → Twin} : (s.modTwin n g).flash = s.flash := rfl
@[simp] theorem modTwin_otp {n : Nat} {g : Twin → Twin} : (s.modTwin n g).otp = s.otp := rfl
@[simp] theorem modTwin_bad {n : Nat} {g : Twin → Twin} : (s.modTwin n g).bad = s.bad := rfl
@[simp] theorem modTwin_gens {n : Nat} {g : Twin → Twin} : (s.modTwin n g).gens = s.gens := rfl
@[simp] theorem modTwin_prots {n : Nat} {g : Twin → Twin} : (s.modTwin n g).prots = s.prots := rfl
@[simp] theorem modTwin_prfs {n : Nat} {g : Twin → Twin} : (s.modTwin n g).prfs = s.prfs := rfl
@[simp] theorem modTwin_dies {n : Nat} {g : Twin → Twin} : (s.modTwin n g).dies = s.dies := rfl
@[simp] theorem modTwin_seqrs {n : Nat} {g : Twin → Twin} : (s.modTwin n g).seqrs = s.seqrs := rfl
@[simp] theorem modTwin_groups {n : Nat} {g : Twin → Twin} : (s.modTwin n g).groups = s.groups := rfl
@[simp] theorem modTwin_bcast {n : Nat} {g : Twin → Twin} : (s.modTwin n g).bcast = s.bcast := rfl
@[simp] theorem modTwin_optics {n : Nat} {g : Twin → Twin} : (s.modTwin n g).optics = s.optics := rfl
@[simp] theorem modTwin_optSince {n : Nat} {g : Twin → Twin} : (s.modTwin n g).optSince = s.optSince := rfl
@[simp] theorem modTwin_rxs {n : Nat} {g : Twin → Twin} : (s.modTwin n g).rxs = s.rxs := rfl
@[simp] theorem modTwin_flight {n : Nat} {g : Twin → Twin} : (s.modTwin n g).flight = s.flight := rfl
@[simp] theorem modTwin_trp {n : Nat} {g : Twin → Twin} : (s.modTwin n g).trp = s.trp := rfl
@[simp] theorem modTwin_cores {n : Nat} {g : Twin → Twin} : (s.modTwin n g).cores = s.cores := rfl
@[simp] theorem modTwin_engs {n : Nat} {g : Twin → Twin} : (s.modTwin n g).engs = s.engs := rfl
@[simp] theorem modTwin_inps {n : Nat} {g : Twin → Twin} : (s.modTwin n g).inps = s.inps := rfl
@[simp] theorem modTwin_ipairs {n : Nat} {g : Twin → Twin} : (s.modTwin n g).ipairs = s.ipairs := rfl
@[simp] theorem modTwin_fns {n : Nat} {g : Twin → Twin} : (s.modTwin n g).fns = s.fns := rfl
@[simp] theorem modTwin_sio {n : Nat} {g : Twin → Twin} : (s.modTwin n g).sio = s.sio := rfl
@[simp] theorem modTwin_conns {n : Nat} {g : Twin → Twin} : (s.modTwin n g).conns = s.conns := rfl
@[simp] theorem modTwin_sent {n : Nat} {g : Twin → Twin} : (s.modTwin n g).sent = s.sent := rfl
@[simp] theorem modTwin_entryOff {n : Nat} {g : Twin → Twin} : (s.modTwin n g).entryOff = s.entryOff := rfl
@[simp] theorem modTwin_entryIn {n : Nat} {g : Twin → Twin} : (s.modTwin n g).entryIn = s.entryIn := rfl
@[simp] theorem modTwin_clock {n : Nat} {g : Twin → Twin} : (s.modTwin n g).clock = s.clock := rfl
@[simp] theorem modTwin_pair {n : Nat} {g : Twin → Twin} : (s.modTwin n g).pair = s.pair := rfl
@[simp] theorem modTwin_clus {n : Nat} {g : Twin → Twin} : (s.modTwin n g).clus = s.clus := rfl
@[simp] theorem modTwin_pwr {n : Nat} {g : Twin → Twin} : (s.modTwin n g).pwr = s.pwr := rfl
@[simp] theorem modTwin_heat {n : Nat} {g : Twin → Twin} : (s.modTwin n g).heat = s.heat := rfl
@[simp] theorem modTwin_recs {n : Nat} {g : Twin → Twin} : (s.modTwin n g).recs = s.recs := rfl
@[simp] theorem modTwin_sage {n : Nat} {g : Twin → Twin} : (s.modTwin n g).sage = s.sage := rfl
@[simp] theorem modTwin_ports {n : Nat} {g : Twin → Twin} : (s.modTwin n g).ports = s.ports := rfl
@[simp] theorem modTwin_watchAt {n : Nat} {g : Twin → Twin} : (s.modTwin n g).watchAt = s.watchAt := rfl
@[simp] theorem modTwin_coll {n : Nat} {g : Twin → Twin} : (s.modTwin n g).coll = s.coll := rfl
@[simp] theorem modTwin_pending {n : Nat} {g : Twin → Twin} : (s.modTwin n g).pending = s.pending := rfl
@[simp] theorem modTwin_rd {n : Nat} {g : Twin → Twin} {x : Fld} : (s.modTwin n g).rd x = s.rd x := rfl
@[simp] theorem modTwin_gen {n : Nat} {g : Twin → Twin} {x : Nat} : (s.modTwin n g).gen x = s.gen x := rfl
@[simp] theorem modTwin_prot {n : Nat} {g : Twin → Twin} {x : Nat} : (s.modTwin n g).prot x = s.prot x := rfl
@[simp] theorem modTwin_core {n : Nat} {g : Twin → Twin} {x : Nat} : (s.modTwin n g).core x = s.core x := rfl
@[simp] theorem modTwin_conn {n : Nat} {g : Twin → Twin} {x : Nat} : (s.modTwin n g).conn x = s.conn x := rfl
@[simp] theorem modTwin_fn {n : Nat} {g : Twin → Twin} {x : Nat} : (s.modTwin n g).fn x = s.fn x := rfl
@[simp] theorem modTwin_group {n : Nat} {g : Twin → Twin} {x : Nat} : (s.modTwin n g).group x = s.group x := rfl
@[simp] theorem modTwin_otpWord {n : Nat} {g : Twin → Twin} {x : Nat} : (s.modTwin n g).otpWord x = s.otpWord x := rfl
@[simp] theorem modTwin_prf {n : Nat} {g : Twin → Twin} {x : Nat} : (s.modTwin n g).prf x = s.prf x := rfl
@[simp] theorem modTwin_die {n : Nat} {g : Twin → Twin} {x : Nat} : (s.modTwin n g).die x = s.die x := rfl
@[simp] theorem modTwin_seqr {n : Nat} {g : Twin → Twin} {x : Nat} : (s.modTwin n g).seqr x = s.seqr x := rfl
@[simp] theorem modTwin_optic {n : Nat} {g : Twin → Twin} {x : Nat} : (s.modTwin n g).optic x = s.optic x := rfl
@[simp] theorem modTwin_rx {n : Nat} {g : Twin → Twin} {x : Nat} : (s.modTwin n g).rx x = s.rx x := rfl
@[simp] theorem modTwin_clu {n : Nat} {g : Twin → Twin} {x : Nat} : (s.modTwin n g).clu x = s.clu x := rfl
@[simp] theorem modTwin_eng {n : Nat} {g : Twin → Twin} {x : Nat} : (s.modTwin n g).eng x = s.eng x := rfl
@[simp] theorem modTwin_inp {n : Nat} {g : Twin → Twin} {x : Nat} : (s.modTwin n g).inp x = s.inp x := rfl
@[simp] theorem modTwin_ipair {n : Nat} {g : Twin → Twin} {x : Nat} : (s.modTwin n g).ipair x = s.ipair x := rfl
/-! ### modConn -/
@[simp] theorem modConn_time {n : Nat} {g : Conn → Conn} : (s.modConn n g).time = s.time := rfl
@[simp] theorem modConn_devOfs {n : Nat} {g : Conn → Conn} : (s.modConn n g).devOfs = s.devOfs := rfl
@[simp] theorem modConn_devNext {n : Nat} {g : Conn → Conn} : (s.modConn n g).devNext = s.devNext := rfl
@[simp] theorem modConn_free {n : Nat} {g : Conn → Conn} : (s.modConn n g).free = s.free := rfl
@[simp] theorem modConn_dev {n : Nat} {g : Conn → Conn} : (s.modConn n g).dev = s.dev := rfl
@[simp] theorem modConn_up {n : Nat} {g : Conn → Conn} : (s.modConn n g).up = s.up := rfl
@[simp] theorem modConn_devAt {n : Nat} {g : Conn → Conn} : (s.modConn n g).devAt = s.devAt := rfl
@[simp] theorem modConn_wide {n : Nat} {g : Conn → Conn} : (s.modConn n g).wide = s.wide := rfl
@[simp] theorem modConn_xtalLost {n : Nat} {g : Conn → Conn} : (s.modConn n g).xtalLost = s.xtalLost := rfl
@[simp] theorem modConn_aonLost {n : Nat} {g : Conn → Conn} : (s.modConn n g).aonLost = s.aonLost := rfl
@[simp] theorem modConn_runAt {n : Nat} {g : Conn → Conn} : (s.modConn n g).runAt = s.runAt := rfl
@[simp] theorem modConn_regs {n : Nat} {g : Conn → Conn} : (s.modConn n g).regs = s.regs := rfl
@[simp] theorem modConn_staged {n : Nat} {g : Conn → Conn} : (s.modConn n g).staged = s.staged := rfl
@[simp] theorem modConn_captured {n : Nat} {g : Conn → Conn} : (s.modConn n g).captured = s.captured := rfl
@[simp] theorem modConn_hwNow {n : Nat} {g : Conn → Conn} : (s.modConn n g).hwNow = s.hwNow := rfl
@[simp] theorem modConn_mem {n : Nat} {g : Conn → Conn} : (s.modConn n g).mem = s.mem := rfl
@[simp] theorem modConn_flash {n : Nat} {g : Conn → Conn} : (s.modConn n g).flash = s.flash := rfl
@[simp] theorem modConn_otp {n : Nat} {g : Conn → Conn} : (s.modConn n g).otp = s.otp := rfl
@[simp] theorem modConn_bad {n : Nat} {g : Conn → Conn} : (s.modConn n g).bad = s.bad := rfl
@[simp] theorem modConn_gens {n : Nat} {g : Conn → Conn} : (s.modConn n g).gens = s.gens := rfl
@[simp] theorem modConn_prots {n : Nat} {g : Conn → Conn} : (s.modConn n g).prots = s.prots := rfl
@[simp] theorem modConn_prfs {n : Nat} {g : Conn → Conn} : (s.modConn n g).prfs = s.prfs := rfl
@[simp] theorem modConn_dies {n : Nat} {g : Conn → Conn} : (s.modConn n g).dies = s.dies := rfl
@[simp] theorem modConn_seqrs {n : Nat} {g : Conn → Conn} : (s.modConn n g).seqrs = s.seqrs := rfl
@[simp] theorem modConn_groups {n : Nat} {g : Conn → Conn} : (s.modConn n g).groups = s.groups := rfl
@[simp] theorem modConn_bcast {n : Nat} {g : Conn → Conn} : (s.modConn n g).bcast = s.bcast := rfl
@[simp] theorem modConn_optics {n : Nat} {g : Conn → Conn} : (s.modConn n g).optics = s.optics := rfl
@[simp] theorem modConn_optSince {n : Nat} {g : Conn → Conn} : (s.modConn n g).optSince = s.optSince := rfl
@[simp] theorem modConn_rxs {n : Nat} {g : Conn → Conn} : (s.modConn n g).rxs = s.rxs := rfl
@[simp] theorem modConn_flight {n : Nat} {g : Conn → Conn} : (s.modConn n g).flight = s.flight := rfl
@[simp] theorem modConn_trp {n : Nat} {g : Conn → Conn} : (s.modConn n g).trp = s.trp := rfl
@[simp] theorem modConn_cores {n : Nat} {g : Conn → Conn} : (s.modConn n g).cores = s.cores := rfl
@[simp] theorem modConn_engs {n : Nat} {g : Conn → Conn} : (s.modConn n g).engs = s.engs := rfl
@[simp] theorem modConn_twins {n : Nat} {g : Conn → Conn} : (s.modConn n g).twins = s.twins := rfl
@[simp] theorem modConn_inps {n : Nat} {g : Conn → Conn} : (s.modConn n g).inps = s.inps := rfl
@[simp] theorem modConn_ipairs {n : Nat} {g : Conn → Conn} : (s.modConn n g).ipairs = s.ipairs := rfl
@[simp] theorem modConn_fns {n : Nat} {g : Conn → Conn} : (s.modConn n g).fns = s.fns := rfl
@[simp] theorem modConn_sio {n : Nat} {g : Conn → Conn} : (s.modConn n g).sio = s.sio := rfl
@[simp] theorem modConn_sent {n : Nat} {g : Conn → Conn} : (s.modConn n g).sent = s.sent := rfl
@[simp] theorem modConn_entryOff {n : Nat} {g : Conn → Conn} : (s.modConn n g).entryOff = s.entryOff := rfl
@[simp] theorem modConn_entryIn {n : Nat} {g : Conn → Conn} : (s.modConn n g).entryIn = s.entryIn := rfl
@[simp] theorem modConn_clock {n : Nat} {g : Conn → Conn} : (s.modConn n g).clock = s.clock := rfl
@[simp] theorem modConn_pair {n : Nat} {g : Conn → Conn} : (s.modConn n g).pair = s.pair := rfl
@[simp] theorem modConn_clus {n : Nat} {g : Conn → Conn} : (s.modConn n g).clus = s.clus := rfl
@[simp] theorem modConn_pwr {n : Nat} {g : Conn → Conn} : (s.modConn n g).pwr = s.pwr := rfl
@[simp] theorem modConn_heat {n : Nat} {g : Conn → Conn} : (s.modConn n g).heat = s.heat := rfl
@[simp] theorem modConn_recs {n : Nat} {g : Conn → Conn} : (s.modConn n g).recs = s.recs := rfl
@[simp] theorem modConn_sage {n : Nat} {g : Conn → Conn} : (s.modConn n g).sage = s.sage := rfl
@[simp] theorem modConn_ports {n : Nat} {g : Conn → Conn} : (s.modConn n g).ports = s.ports := rfl
@[simp] theorem modConn_watchAt {n : Nat} {g : Conn → Conn} : (s.modConn n g).watchAt = s.watchAt := rfl
@[simp] theorem modConn_coll {n : Nat} {g : Conn → Conn} : (s.modConn n g).coll = s.coll := rfl
@[simp] theorem modConn_pending {n : Nat} {g : Conn → Conn} : (s.modConn n g).pending = s.pending := rfl
@[simp] theorem modConn_rd {n : Nat} {g : Conn → Conn} {x : Fld} : (s.modConn n g).rd x = s.rd x := rfl
@[simp] theorem modConn_gen {n : Nat} {g : Conn → Conn} {x : Nat} : (s.modConn n g).gen x = s.gen x := rfl
@[simp] theorem modConn_prot {n : Nat} {g : Conn → Conn} {x : Nat} : (s.modConn n g).prot x = s.prot x := rfl
@[simp] theorem modConn_core {n : Nat} {g : Conn → Conn} {x : Nat} : (s.modConn n g).core x = s.core x := rfl
@[simp] theorem modConn_fn {n : Nat} {g : Conn → Conn} {x : Nat} : (s.modConn n g).fn x = s.fn x := rfl
@[simp] theorem modConn_group {n : Nat} {g : Conn → Conn} {x : Nat} : (s.modConn n g).group x = s.group x := rfl
@[simp] theorem modConn_otpWord {n : Nat} {g : Conn → Conn} {x : Nat} : (s.modConn n g).otpWord x = s.otpWord x := rfl
@[simp] theorem modConn_prf {n : Nat} {g : Conn → Conn} {x : Nat} : (s.modConn n g).prf x = s.prf x := rfl
@[simp] theorem modConn_die {n : Nat} {g : Conn → Conn} {x : Nat} : (s.modConn n g).die x = s.die x := rfl
@[simp] theorem modConn_seqr {n : Nat} {g : Conn → Conn} {x : Nat} : (s.modConn n g).seqr x = s.seqr x := rfl
@[simp] theorem modConn_optic {n : Nat} {g : Conn → Conn} {x : Nat} : (s.modConn n g).optic x = s.optic x := rfl
@[simp] theorem modConn_rx {n : Nat} {g : Conn → Conn} {x : Nat} : (s.modConn n g).rx x = s.rx x := rfl
@[simp] theorem modConn_clu {n : Nat} {g : Conn → Conn} {x : Nat} : (s.modConn n g).clu x = s.clu x := rfl
@[simp] theorem modConn_eng {n : Nat} {g : Conn → Conn} {x : Nat} : (s.modConn n g).eng x = s.eng x := rfl
@[simp] theorem modConn_twin {n : Nat} {g : Conn → Conn} {x : Nat} : (s.modConn n g).twin x = s.twin x := rfl
@[simp] theorem modConn_inp {n : Nat} {g : Conn → Conn} {x : Nat} : (s.modConn n g).inp x = s.inp x := rfl
@[simp] theorem modConn_ipair {n : Nat} {g : Conn → Conn} {x : Nat} : (s.modConn n g).ipair x = s.ipair x := rfl
/-! ### modPair -/
@[simp] theorem modPair_time {g : Pair → Pair} : (s.modPair g).time = s.time := rfl
@[simp] theorem modPair_devOfs {g : Pair → Pair} : (s.modPair g).devOfs = s.devOfs := rfl
@[simp] theorem modPair_devNext {g : Pair → Pair} : (s.modPair g).devNext = s.devNext := rfl
@[simp] theorem modPair_free {g : Pair → Pair} : (s.modPair g).free = s.free := rfl
@[simp] theorem modPair_dev {g : Pair → Pair} : (s.modPair g).dev = s.dev := rfl
@[simp] theorem modPair_up {g : Pair → Pair} : (s.modPair g).up = s.up := rfl
@[simp] theorem modPair_devAt {g : Pair → Pair} : (s.modPair g).devAt = s.devAt := rfl
@[simp] theorem modPair_wide {g : Pair → Pair} : (s.modPair g).wide = s.wide := rfl
@[simp] theorem modPair_xtalLost {g : Pair → Pair} : (s.modPair g).xtalLost = s.xtalLost := rfl
@[simp] theorem modPair_aonLost {g : Pair → Pair} : (s.modPair g).aonLost = s.aonLost := rfl
@[simp] theorem modPair_runAt {g : Pair → Pair} : (s.modPair g).runAt = s.runAt := rfl
@[simp] theorem modPair_regs {g : Pair → Pair} : (s.modPair g).regs = s.regs := rfl
@[simp] theorem modPair_staged {g : Pair → Pair} : (s.modPair g).staged = s.staged := rfl
@[simp] theorem modPair_captured {g : Pair → Pair} : (s.modPair g).captured = s.captured := rfl
@[simp] theorem modPair_hwNow {g : Pair → Pair} : (s.modPair g).hwNow = s.hwNow := rfl
@[simp] theorem modPair_mem {g : Pair → Pair} : (s.modPair g).mem = s.mem := rfl
@[simp] theorem modPair_flash {g : Pair → Pair} : (s.modPair g).flash = s.flash := rfl
@[simp] theorem modPair_otp {g : Pair → Pair} : (s.modPair g).otp = s.otp := rfl
@[simp] theorem modPair_bad {g : Pair → Pair} : (s.modPair g).bad = s.bad := rfl
@[simp] theorem modPair_gens {g : Pair → Pair} : (s.modPair g).gens = s.gens := rfl
@[simp] theorem modPair_prots {g : Pair → Pair} : (s.modPair g).prots = s.prots := rfl
@[simp] theorem modPair_prfs {g : Pair → Pair} : (s.modPair g).prfs = s.prfs := rfl
@[simp] theorem modPair_dies {g : Pair → Pair} : (s.modPair g).dies = s.dies := rfl
@[simp] theorem modPair_seqrs {g : Pair → Pair} : (s.modPair g).seqrs = s.seqrs := rfl
@[simp] theorem modPair_groups {g : Pair → Pair} : (s.modPair g).groups = s.groups := rfl
@[simp] theorem modPair_bcast {g : Pair → Pair} : (s.modPair g).bcast = s.bcast := rfl
@[simp] theorem modPair_optics {g : Pair → Pair} : (s.modPair g).optics = s.optics := rfl
@[simp] theorem modPair_optSince {g : Pair → Pair} : (s.modPair g).optSince = s.optSince := rfl
@[simp] theorem modPair_rxs {g : Pair → Pair} : (s.modPair g).rxs = s.rxs := rfl
@[simp] theorem modPair_flight {g : Pair → Pair} : (s.modPair g).flight = s.flight := rfl
@[simp] theorem modPair_trp {g : Pair → Pair} : (s.modPair g).trp = s.trp := rfl
@[simp] theorem modPair_cores {g : Pair → Pair} : (s.modPair g).cores = s.cores := rfl
@[simp] theorem modPair_engs {g : Pair → Pair} : (s.modPair g).engs = s.engs := rfl
@[simp] theorem modPair_twins {g : Pair → Pair} : (s.modPair g).twins = s.twins := rfl
@[simp] theorem modPair_inps {g : Pair → Pair} : (s.modPair g).inps = s.inps := rfl
@[simp] theorem modPair_ipairs {g : Pair → Pair} : (s.modPair g).ipairs = s.ipairs := rfl
@[simp] theorem modPair_fns {g : Pair → Pair} : (s.modPair g).fns = s.fns := rfl
@[simp] theorem modPair_sio {g : Pair → Pair} : (s.modPair g).sio = s.sio := rfl
@[simp] theorem modPair_conns {g : Pair → Pair} : (s.modPair g).conns = s.conns := rfl
@[simp] theorem modPair_sent {g : Pair → Pair} : (s.modPair g).sent = s.sent := rfl
@[simp] theorem modPair_entryOff {g : Pair → Pair} : (s.modPair g).entryOff = s.entryOff := rfl
@[simp] theorem modPair_entryIn {g : Pair → Pair} : (s.modPair g).entryIn = s.entryIn := rfl
@[simp] theorem modPair_clock {g : Pair → Pair} : (s.modPair g).clock = s.clock := rfl
@[simp] theorem modPair_clus {g : Pair → Pair} : (s.modPair g).clus = s.clus := rfl
@[simp] theorem modPair_pwr {g : Pair → Pair} : (s.modPair g).pwr = s.pwr := rfl
@[simp] theorem modPair_heat {g : Pair → Pair} : (s.modPair g).heat = s.heat := rfl
@[simp] theorem modPair_recs {g : Pair → Pair} : (s.modPair g).recs = s.recs := rfl
@[simp] theorem modPair_sage {g : Pair → Pair} : (s.modPair g).sage = s.sage := rfl
@[simp] theorem modPair_ports {g : Pair → Pair} : (s.modPair g).ports = s.ports := rfl
@[simp] theorem modPair_watchAt {g : Pair → Pair} : (s.modPair g).watchAt = s.watchAt := rfl
@[simp] theorem modPair_coll {g : Pair → Pair} : (s.modPair g).coll = s.coll := rfl
@[simp] theorem modPair_pending {g : Pair → Pair} : (s.modPair g).pending = s.pending := rfl
@[simp] theorem modPair_rd {g : Pair → Pair} {x : Fld} : (s.modPair g).rd x = s.rd x := rfl
@[simp] theorem modPair_gen {g : Pair → Pair} {x : Nat} : (s.modPair g).gen x = s.gen x := rfl
@[simp] theorem modPair_prot {g : Pair → Pair} {x : Nat} : (s.modPair g).prot x = s.prot x := rfl
@[simp] theorem modPair_core {g : Pair → Pair} {x : Nat} : (s.modPair g).core x = s.core x := rfl
@[simp] theorem modPair_conn {g : Pair → Pair} {x : Nat} : (s.modPair g).conn x = s.conn x := rfl
@[simp] theorem modPair_fn {g : Pair → Pair} {x : Nat} : (s.modPair g).fn x = s.fn x := rfl
@[simp] theorem modPair_group {g : Pair → Pair} {x : Nat} : (s.modPair g).group x = s.group x := rfl
@[simp] theorem modPair_otpWord {g : Pair → Pair} {x : Nat} : (s.modPair g).otpWord x = s.otpWord x := rfl
@[simp] theorem modPair_prf {g : Pair → Pair} {x : Nat} : (s.modPair g).prf x = s.prf x := rfl
@[simp] theorem modPair_die {g : Pair → Pair} {x : Nat} : (s.modPair g).die x = s.die x := rfl
@[simp] theorem modPair_seqr {g : Pair → Pair} {x : Nat} : (s.modPair g).seqr x = s.seqr x := rfl
@[simp] theorem modPair_optic {g : Pair → Pair} {x : Nat} : (s.modPair g).optic x = s.optic x := rfl
@[simp] theorem modPair_rx {g : Pair → Pair} {x : Nat} : (s.modPair g).rx x = s.rx x := rfl
@[simp] theorem modPair_clu {g : Pair → Pair} {x : Nat} : (s.modPair g).clu x = s.clu x := rfl
@[simp] theorem modPair_eng {g : Pair → Pair} {x : Nat} : (s.modPair g).eng x = s.eng x := rfl
@[simp] theorem modPair_twin {g : Pair → Pair} {x : Nat} : (s.modPair g).twin x = s.twin x := rfl
@[simp] theorem modPair_inp {g : Pair → Pair} {x : Nat} : (s.modPair g).inp x = s.inp x := rfl
@[simp] theorem modPair_ipair {g : Pair → Pair} {x : Nat} : (s.modPair g).ipair x = s.ipair x := rfl
/-! ### modPwr -/
@[simp] theorem modPwr_time {g : Pwr → Pwr} : (s.modPwr g).time = s.time := rfl
@[simp] theorem modPwr_devOfs {g : Pwr → Pwr} : (s.modPwr g).devOfs = s.devOfs := rfl
@[simp] theorem modPwr_devNext {g : Pwr → Pwr} : (s.modPwr g).devNext = s.devNext := rfl
@[simp] theorem modPwr_free {g : Pwr → Pwr} : (s.modPwr g).free = s.free := rfl
@[simp] theorem modPwr_dev {g : Pwr → Pwr} : (s.modPwr g).dev = s.dev := rfl
@[simp] theorem modPwr_up {g : Pwr → Pwr} : (s.modPwr g).up = s.up := rfl
@[simp] theorem modPwr_devAt {g : Pwr → Pwr} : (s.modPwr g).devAt = s.devAt := rfl
@[simp] theorem modPwr_wide {g : Pwr → Pwr} : (s.modPwr g).wide = s.wide := rfl
@[simp] theorem modPwr_xtalLost {g : Pwr → Pwr} : (s.modPwr g).xtalLost = s.xtalLost := rfl
@[simp] theorem modPwr_aonLost {g : Pwr → Pwr} : (s.modPwr g).aonLost = s.aonLost := rfl
@[simp] theorem modPwr_runAt {g : Pwr → Pwr} : (s.modPwr g).runAt = s.runAt := rfl
@[simp] theorem modPwr_regs {g : Pwr → Pwr} : (s.modPwr g).regs = s.regs := rfl
@[simp] theorem modPwr_staged {g : Pwr → Pwr} : (s.modPwr g).staged = s.staged := rfl
@[simp] theorem modPwr_captured {g : Pwr → Pwr} : (s.modPwr g).captured = s.captured := rfl
@[simp] theorem modPwr_hwNow {g : Pwr → Pwr} : (s.modPwr g).hwNow = s.hwNow := rfl
@[simp] theorem modPwr_mem {g : Pwr → Pwr} : (s.modPwr g).mem = s.mem := rfl
@[simp] theorem modPwr_flash {g : Pwr → Pwr} : (s.modPwr g).flash = s.flash := rfl
@[simp] theorem modPwr_otp {g : Pwr → Pwr} : (s.modPwr g).otp = s.otp := rfl
@[simp] theorem modPwr_bad {g : Pwr → Pwr} : (s.modPwr g).bad = s.bad := rfl
@[simp] theorem modPwr_gens {g : Pwr → Pwr} : (s.modPwr g).gens = s.gens := rfl
@[simp] theorem modPwr_prots {g : Pwr → Pwr} : (s.modPwr g).prots = s.prots := rfl
@[simp] theorem modPwr_prfs {g : Pwr → Pwr} : (s.modPwr g).prfs = s.prfs := rfl
@[simp] theorem modPwr_dies {g : Pwr → Pwr} : (s.modPwr g).dies = s.dies := rfl
@[simp] theorem modPwr_seqrs {g : Pwr → Pwr} : (s.modPwr g).seqrs = s.seqrs := rfl
@[simp] theorem modPwr_groups {g : Pwr → Pwr} : (s.modPwr g).groups = s.groups := rfl
@[simp] theorem modPwr_bcast {g : Pwr → Pwr} : (s.modPwr g).bcast = s.bcast := rfl
@[simp] theorem modPwr_optics {g : Pwr → Pwr} : (s.modPwr g).optics = s.optics := rfl
@[simp] theorem modPwr_optSince {g : Pwr → Pwr} : (s.modPwr g).optSince = s.optSince := rfl
@[simp] theorem modPwr_rxs {g : Pwr → Pwr} : (s.modPwr g).rxs = s.rxs := rfl
@[simp] theorem modPwr_flight {g : Pwr → Pwr} : (s.modPwr g).flight = s.flight := rfl
@[simp] theorem modPwr_trp {g : Pwr → Pwr} : (s.modPwr g).trp = s.trp := rfl
@[simp] theorem modPwr_cores {g : Pwr → Pwr} : (s.modPwr g).cores = s.cores := rfl
@[simp] theorem modPwr_engs {g : Pwr → Pwr} : (s.modPwr g).engs = s.engs := rfl
@[simp] theorem modPwr_twins {g : Pwr → Pwr} : (s.modPwr g).twins = s.twins := rfl
@[simp] theorem modPwr_inps {g : Pwr → Pwr} : (s.modPwr g).inps = s.inps := rfl
@[simp] theorem modPwr_ipairs {g : Pwr → Pwr} : (s.modPwr g).ipairs = s.ipairs := rfl
@[simp] theorem modPwr_fns {g : Pwr → Pwr} : (s.modPwr g).fns = s.fns := rfl
@[simp] theorem modPwr_sio {g : Pwr → Pwr} : (s.modPwr g).sio = s.sio := rfl
@[simp] theorem modPwr_conns {g : Pwr → Pwr} : (s.modPwr g).conns = s.conns := rfl
@[simp] theorem modPwr_sent {g : Pwr → Pwr} : (s.modPwr g).sent = s.sent := rfl
@[simp] theorem modPwr_entryOff {g : Pwr → Pwr} : (s.modPwr g).entryOff = s.entryOff := rfl
@[simp] theorem modPwr_entryIn {g : Pwr → Pwr} : (s.modPwr g).entryIn = s.entryIn := rfl
@[simp] theorem modPwr_clock {g : Pwr → Pwr} : (s.modPwr g).clock = s.clock := rfl
@[simp] theorem modPwr_pair {g : Pwr → Pwr} : (s.modPwr g).pair = s.pair := rfl
@[simp] theorem modPwr_clus {g : Pwr → Pwr} : (s.modPwr g).clus = s.clus := rfl
@[simp] theorem modPwr_heat {g : Pwr → Pwr} : (s.modPwr g).heat = s.heat := rfl
@[simp] theorem modPwr_recs {g : Pwr → Pwr} : (s.modPwr g).recs = s.recs := rfl
@[simp] theorem modPwr_sage {g : Pwr → Pwr} : (s.modPwr g).sage = s.sage := rfl
@[simp] theorem modPwr_ports {g : Pwr → Pwr} : (s.modPwr g).ports = s.ports := rfl
@[simp] theorem modPwr_watchAt {g : Pwr → Pwr} : (s.modPwr g).watchAt = s.watchAt := rfl
@[simp] theorem modPwr_coll {g : Pwr → Pwr} : (s.modPwr g).coll = s.coll := rfl
@[simp] theorem modPwr_pending {g : Pwr → Pwr} : (s.modPwr g).pending = s.pending := rfl
@[simp] theorem modPwr_rd {g : Pwr → Pwr} {x : Fld} : (s.modPwr g).rd x = s.rd x := rfl
@[simp] theorem modPwr_gen {g : Pwr → Pwr} {x : Nat} : (s.modPwr g).gen x = s.gen x := rfl
@[simp] theorem modPwr_prot {g : Pwr → Pwr} {x : Nat} : (s.modPwr g).prot x = s.prot x := rfl
@[simp] theorem modPwr_core {g : Pwr → Pwr} {x : Nat} : (s.modPwr g).core x = s.core x := rfl
@[simp] theorem modPwr_conn {g : Pwr → Pwr} {x : Nat} : (s.modPwr g).conn x = s.conn x := rfl
@[simp] theorem modPwr_fn {g : Pwr → Pwr} {x : Nat} : (s.modPwr g).fn x = s.fn x := rfl
@[simp] theorem modPwr_group {g : Pwr → Pwr} {x : Nat} : (s.modPwr g).group x = s.group x := rfl
@[simp] theorem modPwr_otpWord {g : Pwr → Pwr} {x : Nat} : (s.modPwr g).otpWord x = s.otpWord x := rfl
@[simp] theorem modPwr_prf {g : Pwr → Pwr} {x : Nat} : (s.modPwr g).prf x = s.prf x := rfl
@[simp] theorem modPwr_die {g : Pwr → Pwr} {x : Nat} : (s.modPwr g).die x = s.die x := rfl
@[simp] theorem modPwr_seqr {g : Pwr → Pwr} {x : Nat} : (s.modPwr g).seqr x = s.seqr x := rfl
@[simp] theorem modPwr_optic {g : Pwr → Pwr} {x : Nat} : (s.modPwr g).optic x = s.optic x := rfl
@[simp] theorem modPwr_rx {g : Pwr → Pwr} {x : Nat} : (s.modPwr g).rx x = s.rx x := rfl
@[simp] theorem modPwr_clu {g : Pwr → Pwr} {x : Nat} : (s.modPwr g).clu x = s.clu x := rfl
@[simp] theorem modPwr_eng {g : Pwr → Pwr} {x : Nat} : (s.modPwr g).eng x = s.eng x := rfl
@[simp] theorem modPwr_twin {g : Pwr → Pwr} {x : Nat} : (s.modPwr g).twin x = s.twin x := rfl
@[simp] theorem modPwr_inp {g : Pwr → Pwr} {x : Nat} : (s.modPwr g).inp x = s.inp x := rfl
@[simp] theorem modPwr_ipair {g : Pwr → Pwr} {x : Nat} : (s.modPwr g).ipair x = s.ipair x := rfl
/-! ### modRecs -/
@[simp] theorem modRecs_time {g : Recs → Recs} : (s.modRecs g).time = s.time := rfl
@[simp] theorem modRecs_devOfs {g : Recs → Recs} : (s.modRecs g).devOfs = s.devOfs := rfl
@[simp] theorem modRecs_devNext {g : Recs → Recs} : (s.modRecs g).devNext = s.devNext := rfl
@[simp] theorem modRecs_free {g : Recs → Recs} : (s.modRecs g).free = s.free := rfl
@[simp] theorem modRecs_dev {g : Recs → Recs} : (s.modRecs g).dev = s.dev := rfl
@[simp] theorem modRecs_up {g : Recs → Recs} : (s.modRecs g).up = s.up := rfl
@[simp] theorem modRecs_devAt {g : Recs → Recs} : (s.modRecs g).devAt = s.devAt := rfl
@[simp] theorem modRecs_wide {g : Recs → Recs} : (s.modRecs g).wide = s.wide := rfl
@[simp] theorem modRecs_xtalLost {g : Recs → Recs} : (s.modRecs g).xtalLost = s.xtalLost := rfl
@[simp] theorem modRecs_aonLost {g : Recs → Recs} : (s.modRecs g).aonLost = s.aonLost := rfl
@[simp] theorem modRecs_runAt {g : Recs → Recs} : (s.modRecs g).runAt = s.runAt := rfl
@[simp] theorem modRecs_regs {g : Recs → Recs} : (s.modRecs g).regs = s.regs := rfl
@[simp] theorem modRecs_staged {g : Recs → Recs} : (s.modRecs g).staged = s.staged := rfl
@[simp] theorem modRecs_captured {g : Recs → Recs} : (s.modRecs g).captured = s.captured := rfl
@[simp] theorem modRecs_hwNow {g : Recs → Recs} : (s.modRecs g).hwNow = s.hwNow := rfl
@[simp] theorem modRecs_mem {g : Recs → Recs} : (s.modRecs g).mem = s.mem := rfl
@[simp] theorem modRecs_flash {g : Recs → Recs} : (s.modRecs g).flash = s.flash := rfl
@[simp] theorem modRecs_otp {g : Recs → Recs} : (s.modRecs g).otp = s.otp := rfl
@[simp] theorem modRecs_bad {g : Recs → Recs} : (s.modRecs g).bad = s.bad := rfl
@[simp] theorem modRecs_gens {g : Recs → Recs} : (s.modRecs g).gens = s.gens := rfl
@[simp] theorem modRecs_prots {g : Recs → Recs} : (s.modRecs g).prots = s.prots := rfl
@[simp] theorem modRecs_prfs {g : Recs → Recs} : (s.modRecs g).prfs = s.prfs := rfl
@[simp] theorem modRecs_dies {g : Recs → Recs} : (s.modRecs g).dies = s.dies := rfl
@[simp] theorem modRecs_seqrs {g : Recs → Recs} : (s.modRecs g).seqrs = s.seqrs := rfl
@[simp] theorem modRecs_groups {g : Recs → Recs} : (s.modRecs g).groups = s.groups := rfl
@[simp] theorem modRecs_bcast {g : Recs → Recs} : (s.modRecs g).bcast = s.bcast := rfl
@[simp] theorem modRecs_optics {g : Recs → Recs} : (s.modRecs g).optics = s.optics := rfl
@[simp] theorem modRecs_optSince {g : Recs → Recs} : (s.modRecs g).optSince = s.optSince := rfl
@[simp] theorem modRecs_rxs {g : Recs → Recs} : (s.modRecs g).rxs = s.rxs := rfl
@[simp] theorem modRecs_flight {g : Recs → Recs} : (s.modRecs g).flight = s.flight := rfl
@[simp] theorem modRecs_trp {g : Recs → Recs} : (s.modRecs g).trp = s.trp := rfl
@[simp] theorem modRecs_cores {g : Recs → Recs} : (s.modRecs g).cores = s.cores := rfl
@[simp] theorem modRecs_engs {g : Recs → Recs} : (s.modRecs g).engs = s.engs := rfl
@[simp] theorem modRecs_twins {g : Recs → Recs} : (s.modRecs g).twins = s.twins := rfl
@[simp] theorem modRecs_inps {g : Recs → Recs} : (s.modRecs g).inps = s.inps := rfl
@[simp] theorem modRecs_ipairs {g : Recs → Recs} : (s.modRecs g).ipairs = s.ipairs := rfl
@[simp] theorem modRecs_fns {g : Recs → Recs} : (s.modRecs g).fns = s.fns := rfl
@[simp] theorem modRecs_sio {g : Recs → Recs} : (s.modRecs g).sio = s.sio := rfl
@[simp] theorem modRecs_conns {g : Recs → Recs} : (s.modRecs g).conns = s.conns := rfl
@[simp] theorem modRecs_sent {g : Recs → Recs} : (s.modRecs g).sent = s.sent := rfl
@[simp] theorem modRecs_entryOff {g : Recs → Recs} : (s.modRecs g).entryOff = s.entryOff := rfl
@[simp] theorem modRecs_entryIn {g : Recs → Recs} : (s.modRecs g).entryIn = s.entryIn := rfl
@[simp] theorem modRecs_clock {g : Recs → Recs} : (s.modRecs g).clock = s.clock := rfl
@[simp] theorem modRecs_pair {g : Recs → Recs} : (s.modRecs g).pair = s.pair := rfl
@[simp] theorem modRecs_clus {g : Recs → Recs} : (s.modRecs g).clus = s.clus := rfl
@[simp] theorem modRecs_pwr {g : Recs → Recs} : (s.modRecs g).pwr = s.pwr := rfl
@[simp] theorem modRecs_heat {g : Recs → Recs} : (s.modRecs g).heat = s.heat := rfl
@[simp] theorem modRecs_sage {g : Recs → Recs} : (s.modRecs g).sage = s.sage := rfl
@[simp] theorem modRecs_ports {g : Recs → Recs} : (s.modRecs g).ports = s.ports := rfl
@[simp] theorem modRecs_watchAt {g : Recs → Recs} : (s.modRecs g).watchAt = s.watchAt := rfl
@[simp] theorem modRecs_coll {g : Recs → Recs} : (s.modRecs g).coll = s.coll := rfl
@[simp] theorem modRecs_pending {g : Recs → Recs} : (s.modRecs g).pending = s.pending := rfl
@[simp] theorem modRecs_rd {g : Recs → Recs} {x : Fld} : (s.modRecs g).rd x = s.rd x := rfl
@[simp] theorem modRecs_gen {g : Recs → Recs} {x : Nat} : (s.modRecs g).gen x = s.gen x := rfl
@[simp] theorem modRecs_prot {g : Recs → Recs} {x : Nat} : (s.modRecs g).prot x = s.prot x := rfl
@[simp] theorem modRecs_core {g : Recs → Recs} {x : Nat} : (s.modRecs g).core x = s.core x := rfl
@[simp] theorem modRecs_conn {g : Recs → Recs} {x : Nat} : (s.modRecs g).conn x = s.conn x := rfl
@[simp] theorem modRecs_fn {g : Recs → Recs} {x : Nat} : (s.modRecs g).fn x = s.fn x := rfl
@[simp] theorem modRecs_group {g : Recs → Recs} {x : Nat} : (s.modRecs g).group x = s.group x := rfl
@[simp] theorem modRecs_otpWord {g : Recs → Recs} {x : Nat} : (s.modRecs g).otpWord x = s.otpWord x := rfl
@[simp] theorem modRecs_prf {g : Recs → Recs} {x : Nat} : (s.modRecs g).prf x = s.prf x := rfl
@[simp] theorem modRecs_die {g : Recs → Recs} {x : Nat} : (s.modRecs g).die x = s.die x := rfl
@[simp] theorem modRecs_seqr {g : Recs → Recs} {x : Nat} : (s.modRecs g).seqr x = s.seqr x := rfl
@[simp] theorem modRecs_optic {g : Recs → Recs} {x : Nat} : (s.modRecs g).optic x = s.optic x := rfl
@[simp] theorem modRecs_rx {g : Recs → Recs} {x : Nat} : (s.modRecs g).rx x = s.rx x := rfl
@[simp] theorem modRecs_clu {g : Recs → Recs} {x : Nat} : (s.modRecs g).clu x = s.clu x := rfl
@[simp] theorem modRecs_eng {g : Recs → Recs} {x : Nat} : (s.modRecs g).eng x = s.eng x := rfl
@[simp] theorem modRecs_twin {g : Recs → Recs} {x : Nat} : (s.modRecs g).twin x = s.twin x := rfl
@[simp] theorem modRecs_inp {g : Recs → Recs} {x : Nat} : (s.modRecs g).inp x = s.inp x := rfl
@[simp] theorem modRecs_ipair {g : Recs → Recs} {x : Nat} : (s.modRecs g).ipair x = s.ipair x := rfl
/-! ### modSage -/
@[simp] theorem modSage_time {g : Sage → Sage} : (s.modSage g).time = s.time := rfl
@[simp] theorem modSage_devOfs {g : Sage → Sage} : (s.modSage g).devOfs = s.devOfs := rfl
@[simp] theorem modSage_devNext {g : Sage → Sage} : (s.modSage g).devNext = s.devNext := rfl
@[simp] theorem modSage_free {g : Sage → Sage} : (s.modSage g).free = s.free := rfl
@[simp] theorem modSage_dev {g : Sage → Sage} : (s.modSage g).dev = s.dev := rfl
@[simp] theorem modSage_up {g : Sage → Sage} : (s.modSage g).up = s.up := rfl
@[simp] theorem modSage_devAt {g : Sage → Sage} : (s.modSage g).devAt = s.devAt := rfl
@[simp] theorem modSage_wide {g : Sage → Sage} : (s.modSage g).wide = s.wide := rfl
@[simp] theorem modSage_xtalLost {g : Sage → Sage} : (s.modSage g).xtalLost = s.xtalLost := rfl
@[simp] theorem modSage_aonLost {g : Sage → Sage} : (s.modSage g).aonLost = s.aonLost := rfl
@[simp] theorem modSage_runAt {g : Sage → Sage} : (s.modSage g).runAt = s.runAt := rfl
@[simp] theorem modSage_regs {g : Sage → Sage} : (s.modSage g).regs = s.regs := rfl
@[simp] theorem modSage_staged {g : Sage → Sage} : (s.modSage g).staged = s.staged := rfl
@[simp] theorem modSage_captured {g : Sage → Sage} : (s.modSage g).captured = s.captured := rfl
@[simp] theorem modSage_hwNow {g : Sage → Sage} : (s.modSage g).hwNow = s.hwNow := rfl
@[simp] theorem modSage_mem {g : Sage → Sage} : (s.modSage g).mem = s.mem := rfl
@[simp] theorem modSage_flash {g : Sage → Sage} : (s.modSage g).flash = s.flash := rfl
@[simp] theorem modSage_otp {g : Sage → Sage} : (s.modSage g).otp = s.otp := rfl
@[simp] theorem modSage_bad {g : Sage → Sage} : (s.modSage g).bad = s.bad := rfl
@[simp] theorem modSage_gens {g : Sage → Sage} : (s.modSage g).gens = s.gens := rfl
@[simp] theorem modSage_prots {g : Sage → Sage} : (s.modSage g).prots = s.prots := rfl
@[simp] theorem modSage_prfs {g : Sage → Sage} : (s.modSage g).prfs = s.prfs := rfl
@[simp] theorem modSage_dies {g : Sage → Sage} : (s.modSage g).dies = s.dies := rfl
@[simp] theorem modSage_seqrs {g : Sage → Sage} : (s.modSage g).seqrs = s.seqrs := rfl
@[simp] theorem modSage_groups {g : Sage → Sage} : (s.modSage g).groups = s.groups := rfl
@[simp] theorem modSage_bcast {g : Sage → Sage} : (s.modSage g).bcast = s.bcast := rfl
@[simp] theorem modSage_optics {g : Sage → Sage} : (s.modSage g).optics = s.optics := rfl
@[simp] theorem modSage_optSince {g : Sage → Sage} : (s.modSage g).optSince = s.optSince := rfl
@[simp] theorem modSage_rxs {g : Sage → Sage} : (s.modSage g).rxs = s.rxs := rfl
@[simp] theorem modSage_flight {g : Sage → Sage} : (s.modSage g).flight = s.flight := rfl
@[simp] theorem modSage_trp {g : Sage → Sage} : (s.modSage g).trp = s.trp := rfl
@[simp] theorem modSage_cores {g : Sage → Sage} : (s.modSage g).cores = s.cores := rfl
@[simp] theorem modSage_engs {g : Sage → Sage} : (s.modSage g).engs = s.engs := rfl
@[simp] theorem modSage_twins {g : Sage → Sage} : (s.modSage g).twins = s.twins := rfl
@[simp] theorem modSage_inps {g : Sage → Sage} : (s.modSage g).inps = s.inps := rfl
@[simp] theorem modSage_ipairs {g : Sage → Sage} : (s.modSage g).ipairs = s.ipairs := rfl
@[simp] theorem modSage_fns {g : Sage → Sage} : (s.modSage g).fns = s.fns := rfl
@[simp] theorem modSage_sio {g : Sage → Sage} : (s.modSage g).sio = s.sio := rfl
@[simp] theorem modSage_conns {g : Sage → Sage} : (s.modSage g).conns = s.conns := rfl
@[simp] theorem modSage_sent {g : Sage → Sage} : (s.modSage g).sent = s.sent := rfl
@[simp] theorem modSage_entryOff {g : Sage → Sage} : (s.modSage g).entryOff = s.entryOff := rfl
@[simp] theorem modSage_entryIn {g : Sage → Sage} : (s.modSage g).entryIn = s.entryIn := rfl
@[simp] theorem modSage_clock {g : Sage → Sage} : (s.modSage g).clock = s.clock := rfl
@[simp] theorem modSage_pair {g : Sage → Sage} : (s.modSage g).pair = s.pair := rfl
@[simp] theorem modSage_clus {g : Sage → Sage} : (s.modSage g).clus = s.clus := rfl
@[simp] theorem modSage_pwr {g : Sage → Sage} : (s.modSage g).pwr = s.pwr := rfl
@[simp] theorem modSage_heat {g : Sage → Sage} : (s.modSage g).heat = s.heat := rfl
@[simp] theorem modSage_recs {g : Sage → Sage} : (s.modSage g).recs = s.recs := rfl
@[simp] theorem modSage_ports {g : Sage → Sage} : (s.modSage g).ports = s.ports := rfl
@[simp] theorem modSage_watchAt {g : Sage → Sage} : (s.modSage g).watchAt = s.watchAt := rfl
@[simp] theorem modSage_coll {g : Sage → Sage} : (s.modSage g).coll = s.coll := rfl
@[simp] theorem modSage_pending {g : Sage → Sage} : (s.modSage g).pending = s.pending := rfl
@[simp] theorem modSage_rd {g : Sage → Sage} {x : Fld} : (s.modSage g).rd x = s.rd x := rfl
@[simp] theorem modSage_gen {g : Sage → Sage} {x : Nat} : (s.modSage g).gen x = s.gen x := rfl
@[simp] theorem modSage_prot {g : Sage → Sage} {x : Nat} : (s.modSage g).prot x = s.prot x := rfl
@[simp] theorem modSage_core {g : Sage → Sage} {x : Nat} : (s.modSage g).core x = s.core x := rfl
@[simp] theorem modSage_conn {g : Sage → Sage} {x : Nat} : (s.modSage g).conn x = s.conn x := rfl
@[simp] theorem modSage_fn {g : Sage → Sage} {x : Nat} : (s.modSage g).fn x = s.fn x := rfl
@[simp] theorem modSage_group {g : Sage → Sage} {x : Nat} : (s.modSage g).group x = s.group x := rfl
@[simp] theorem modSage_otpWord {g : Sage → Sage} {x : Nat} : (s.modSage g).otpWord x = s.otpWord x := rfl
@[simp] theorem modSage_prf {g : Sage → Sage} {x : Nat} : (s.modSage g).prf x = s.prf x := rfl
@[simp] theorem modSage_die {g : Sage → Sage} {x : Nat} : (s.modSage g).die x = s.die x := rfl
@[simp] theorem modSage_seqr {g : Sage → Sage} {x : Nat} : (s.modSage g).seqr x = s.seqr x := rfl
@[simp] theorem modSage_optic {g : Sage → Sage} {x : Nat} : (s.modSage g).optic x = s.optic x := rfl
@[simp] theorem modSage_rx {g : Sage → Sage} {x : Nat} : (s.modSage g).rx x = s.rx x := rfl
@[simp] theorem modSage_clu {g : Sage → Sage} {x : Nat} : (s.modSage g).clu x = s.clu x := rfl
@[simp] theorem modSage_eng {g : Sage → Sage} {x : Nat} : (s.modSage g).eng x = s.eng x := rfl
@[simp] theorem modSage_twin {g : Sage → Sage} {x : Nat} : (s.modSage g).twin x = s.twin x := rfl
@[simp] theorem modSage_inp {g : Sage → Sage} {x : Nat} : (s.modSage g).inp x = s.inp x := rfl
@[simp] theorem modSage_ipair {g : Sage → Sage} {x : Nat} : (s.modSage g).ipair x = s.ipair x := rfl
/-! ### modInp -/
@[simp] theorem modInp_time {n : Nat} {g : Inp → Inp} : (s.modInp n g).time = s.time := rfl
@[simp] theorem modInp_devOfs {n : Nat} {g : Inp → Inp} : (s.modInp n g).devOfs = s.devOfs := rfl
@[simp] theorem modInp_devNext {n : Nat} {g : Inp → Inp} : (s.modInp n g).devNext = s.devNext := rfl
@[simp] theorem modInp_free {n : Nat} {g : Inp → Inp} : (s.modInp n g).free = s.free := rfl
@[simp] theorem modInp_dev {n : Nat} {g : Inp → Inp} : (s.modInp n g).dev = s.dev := rfl
@[simp] theorem modInp_up {n : Nat} {g : Inp → Inp} : (s.modInp n g).up = s.up := rfl
@[simp] theorem modInp_devAt {n : Nat} {g : Inp → Inp} : (s.modInp n g).devAt = s.devAt := rfl
@[simp] theorem modInp_wide {n : Nat} {g : Inp → Inp} : (s.modInp n g).wide = s.wide := rfl
@[simp] theorem modInp_xtalLost {n : Nat} {g : Inp → Inp} : (s.modInp n g).xtalLost = s.xtalLost := rfl
@[simp] theorem modInp_aonLost {n : Nat} {g : Inp → Inp} : (s.modInp n g).aonLost = s.aonLost := rfl
@[simp] theorem modInp_runAt {n : Nat} {g : Inp → Inp} : (s.modInp n g).runAt = s.runAt := rfl
@[simp] theorem modInp_regs {n : Nat} {g : Inp → Inp} : (s.modInp n g).regs = s.regs := rfl
@[simp] theorem modInp_staged {n : Nat} {g : Inp → Inp} : (s.modInp n g).staged = s.staged := rfl
@[simp] theorem modInp_captured {n : Nat} {g : Inp → Inp} : (s.modInp n g).captured = s.captured := rfl
@[simp] theorem modInp_hwNow {n : Nat} {g : Inp → Inp} : (s.modInp n g).hwNow = s.hwNow := rfl
@[simp] theorem modInp_mem {n : Nat} {g : Inp → Inp} : (s.modInp n g).mem = s.mem := rfl
@[simp] theorem modInp_flash {n : Nat} {g : Inp → Inp} : (s.modInp n g).flash = s.flash := rfl
@[simp] theorem modInp_otp {n : Nat} {g : Inp → Inp} : (s.modInp n g).otp = s.otp := rfl
@[simp] theorem modInp_bad {n : Nat} {g : Inp → Inp} : (s.modInp n g).bad = s.bad := rfl
@[simp] theorem modInp_gens {n : Nat} {g : Inp → Inp} : (s.modInp n g).gens = s.gens := rfl
@[simp] theorem modInp_prots {n : Nat} {g : Inp → Inp} : (s.modInp n g).prots = s.prots := rfl
@[simp] theorem modInp_prfs {n : Nat} {g : Inp → Inp} : (s.modInp n g).prfs = s.prfs := rfl
@[simp] theorem modInp_dies {n : Nat} {g : Inp → Inp} : (s.modInp n g).dies = s.dies := rfl
@[simp] theorem modInp_seqrs {n : Nat} {g : Inp → Inp} : (s.modInp n g).seqrs = s.seqrs := rfl
@[simp] theorem modInp_groups {n : Nat} {g : Inp → Inp} : (s.modInp n g).groups = s.groups := rfl
@[simp] theorem modInp_bcast {n : Nat} {g : Inp → Inp} : (s.modInp n g).bcast = s.bcast := rfl
@[simp] theorem modInp_optics {n : Nat} {g : Inp → Inp} : (s.modInp n g).optics = s.optics := rfl
@[simp] theorem modInp_optSince {n : Nat} {g : Inp → Inp} : (s.modInp n g).optSince = s.optSince := rfl
@[simp] theorem modInp_rxs {n : Nat} {g : Inp → Inp} : (s.modInp n g).rxs = s.rxs := rfl
@[simp] theorem modInp_flight {n : Nat} {g : Inp → Inp} : (s.modInp n g).flight = s.flight := rfl
@[simp] theorem modInp_trp {n : Nat} {g : Inp → Inp} : (s.modInp n g).trp = s.trp := rfl
@[simp] theorem modInp_cores {n : Nat} {g : Inp → Inp} : (s.modInp n g).cores = s.cores := rfl
@[simp] theorem modInp_engs {n : Nat} {g : Inp → Inp} : (s.modInp n g).engs = s.engs := rfl
@[simp] theorem modInp_twins {n : Nat} {g : Inp → Inp} : (s.modInp n g).twins = s.twins := rfl
@[simp] theorem modInp_ipairs {n : Nat} {g : Inp → Inp} : (s.modInp n g).ipairs = s.ipairs := rfl
@[simp] theorem modInp_fns {n : Nat} {g : Inp → Inp} : (s.modInp n g).fns = s.fns := rfl
@[simp] theorem modInp_sio {n : Nat} {g : Inp → Inp} : (s.modInp n g).sio = s.sio := rfl
@[simp] theorem modInp_conns {n : Nat} {g : Inp → Inp} : (s.modInp n g).conns = s.conns := rfl
@[simp] theorem modInp_sent {n : Nat} {g : Inp → Inp} : (s.modInp n g).sent = s.sent := rfl
@[simp] theorem modInp_entryOff {n : Nat} {g : Inp → Inp} : (s.modInp n g).entryOff = s.entryOff := rfl
@[simp] theorem modInp_entryIn {n : Nat} {g : Inp → Inp} : (s.modInp n g).entryIn = s.entryIn := rfl
@[simp] theorem modInp_clock {n : Nat} {g : Inp → Inp} : (s.modInp n g).clock = s.clock := rfl
@[simp] theorem modInp_pair {n : Nat} {g : Inp → Inp} : (s.modInp n g).pair = s.pair := rfl
@[simp] theorem modInp_clus {n : Nat} {g : Inp → Inp} : (s.modInp n g).clus = s.clus := rfl
@[simp] theorem modInp_pwr {n : Nat} {g : Inp → Inp} : (s.modInp n g).pwr = s.pwr := rfl
@[simp] theorem modInp_heat {n : Nat} {g : Inp → Inp} : (s.modInp n g).heat = s.heat := rfl
@[simp] theorem modInp_recs {n : Nat} {g : Inp → Inp} : (s.modInp n g).recs = s.recs := rfl
@[simp] theorem modInp_sage {n : Nat} {g : Inp → Inp} : (s.modInp n g).sage = s.sage := rfl
@[simp] theorem modInp_ports {n : Nat} {g : Inp → Inp} : (s.modInp n g).ports = s.ports := rfl
@[simp] theorem modInp_watchAt {n : Nat} {g : Inp → Inp} : (s.modInp n g).watchAt = s.watchAt := rfl
@[simp] theorem modInp_coll {n : Nat} {g : Inp → Inp} : (s.modInp n g).coll = s.coll := rfl
@[simp] theorem modInp_pending {n : Nat} {g : Inp → Inp} : (s.modInp n g).pending = s.pending := rfl
@[simp] theorem modInp_rd {n : Nat} {g : Inp → Inp} {x : Fld} : (s.modInp n g).rd x = s.rd x := rfl
@[simp] theorem modInp_gen {n : Nat} {g : Inp → Inp} {x : Nat} : (s.modInp n g).gen x = s.gen x := rfl
@[simp] theorem modInp_prot {n : Nat} {g : Inp → Inp} {x : Nat} : (s.modInp n g).prot x = s.prot x := rfl
@[simp] theorem modInp_core {n : Nat} {g : Inp → Inp} {x : Nat} : (s.modInp n g).core x = s.core x := rfl
@[simp] theorem modInp_conn {n : Nat} {g : Inp → Inp} {x : Nat} : (s.modInp n g).conn x = s.conn x := rfl
@[simp] theorem modInp_fn {n : Nat} {g : Inp → Inp} {x : Nat} : (s.modInp n g).fn x = s.fn x := rfl
@[simp] theorem modInp_group {n : Nat} {g : Inp → Inp} {x : Nat} : (s.modInp n g).group x = s.group x := rfl
@[simp] theorem modInp_otpWord {n : Nat} {g : Inp → Inp} {x : Nat} : (s.modInp n g).otpWord x = s.otpWord x := rfl
@[simp] theorem modInp_prf {n : Nat} {g : Inp → Inp} {x : Nat} : (s.modInp n g).prf x = s.prf x := rfl
@[simp] theorem modInp_die {n : Nat} {g : Inp → Inp} {x : Nat} : (s.modInp n g).die x = s.die x := rfl
@[simp] theorem modInp_seqr {n : Nat} {g : Inp → Inp} {x : Nat} : (s.modInp n g).seqr x = s.seqr x := rfl
@[simp] theorem modInp_optic {n : Nat} {g : Inp → Inp} {x : Nat} : (s.modInp n g).optic x = s.optic x := rfl
@[simp] theorem modInp_rx {n : Nat} {g : Inp → Inp} {x : Nat} : (s.modInp n g).rx x = s.rx x := rfl
@[simp] theorem modInp_clu {n : Nat} {g : Inp → Inp} {x : Nat} : (s.modInp n g).clu x = s.clu x := rfl
@[simp] theorem modInp_eng {n : Nat} {g : Inp → Inp} {x : Nat} : (s.modInp n g).eng x = s.eng x := rfl
@[simp] theorem modInp_twin {n : Nat} {g : Inp → Inp} {x : Nat} : (s.modInp n g).twin x = s.twin x := rfl
@[simp] theorem modInp_ipair {n : Nat} {g : Inp → Inp} {x : Nat} : (s.modInp n g).ipair x = s.ipair x := rfl
/-! ### modIpair -/
@[simp] theorem modIpair_time {n : Nat} {g : IPair → IPair} : (s.modIpair n g).time = s.time := rfl
@[simp] theorem modIpair_devOfs {n : Nat} {g : IPair → IPair} : (s.modIpair n g).devOfs = s.devOfs := rfl
@[simp] theorem modIpair_devNext {n : Nat} {g : IPair → IPair} : (s.modIpair n g).devNext = s.devNext := rfl
@[simp] theorem modIpair_free {n : Nat} {g : IPair → IPair} : (s.modIpair n g).free = s.free := rfl
@[simp] theorem modIpair_dev {n : Nat} {g : IPair → IPair} : (s.modIpair n g).dev = s.dev := rfl
@[simp] theorem modIpair_up {n : Nat} {g : IPair → IPair} : (s.modIpair n g).up = s.up := rfl
@[simp] theorem modIpair_devAt {n : Nat} {g : IPair → IPair} : (s.modIpair n g).devAt = s.devAt := rfl
@[simp] theorem modIpair_wide {n : Nat} {g : IPair → IPair} : (s.modIpair n g).wide = s.wide := rfl
@[simp] theorem modIpair_xtalLost {n : Nat} {g : IPair → IPair} : (s.modIpair n g).xtalLost = s.xtalLost := rfl
@[simp] theorem modIpair_aonLost {n : Nat} {g : IPair → IPair} : (s.modIpair n g).aonLost = s.aonLost := rfl
@[simp] theorem modIpair_runAt {n : Nat} {g : IPair → IPair} : (s.modIpair n g).runAt = s.runAt := rfl
@[simp] theorem modIpair_regs {n : Nat} {g : IPair → IPair} : (s.modIpair n g).regs = s.regs := rfl
@[simp] theorem modIpair_staged {n : Nat} {g : IPair → IPair} : (s.modIpair n g).staged = s.staged := rfl
@[simp] theorem modIpair_captured {n : Nat} {g : IPair → IPair} : (s.modIpair n g).captured = s.captured := rfl
@[simp] theorem modIpair_hwNow {n : Nat} {g : IPair → IPair} : (s.modIpair n g).hwNow = s.hwNow := rfl
@[simp] theorem modIpair_mem {n : Nat} {g : IPair → IPair} : (s.modIpair n g).mem = s.mem := rfl
@[simp] theorem modIpair_flash {n : Nat} {g : IPair → IPair} : (s.modIpair n g).flash = s.flash := rfl
@[simp] theorem modIpair_otp {n : Nat} {g : IPair → IPair} : (s.modIpair n g).otp = s.otp := rfl
@[simp] theorem modIpair_bad {n : Nat} {g : IPair → IPair} : (s.modIpair n g).bad = s.bad := rfl
@[simp] theorem modIpair_gens {n : Nat} {g : IPair → IPair} : (s.modIpair n g).gens = s.gens := rfl
@[simp] theorem modIpair_prots {n : Nat} {g : IPair → IPair} : (s.modIpair n g).prots = s.prots := rfl
@[simp] theorem modIpair_prfs {n : Nat} {g : IPair → IPair} : (s.modIpair n g).prfs = s.prfs := rfl
@[simp] theorem modIpair_dies {n : Nat} {g : IPair → IPair} : (s.modIpair n g).dies = s.dies := rfl
@[simp] theorem modIpair_seqrs {n : Nat} {g : IPair → IPair} : (s.modIpair n g).seqrs = s.seqrs := rfl
@[simp] theorem modIpair_groups {n : Nat} {g : IPair → IPair} : (s.modIpair n g).groups = s.groups := rfl
@[simp] theorem modIpair_bcast {n : Nat} {g : IPair → IPair} : (s.modIpair n g).bcast = s.bcast := rfl
@[simp] theorem modIpair_optics {n : Nat} {g : IPair → IPair} : (s.modIpair n g).optics = s.optics := rfl
@[simp] theorem modIpair_optSince {n : Nat} {g : IPair → IPair} : (s.modIpair n g).optSince = s.optSince := rfl
@[simp] theorem modIpair_rxs {n : Nat} {g : IPair → IPair} : (s.modIpair n g).rxs = s.rxs := rfl
@[simp] theorem modIpair_flight {n : Nat} {g : IPair → IPair} : (s.modIpair n g).flight = s.flight := rfl
@[simp] theorem modIpair_trp {n : Nat} {g : IPair → IPair} : (s.modIpair n g).trp = s.trp := rfl
@[simp] theorem modIpair_cores {n : Nat} {g : IPair → IPair} : (s.modIpair n g).cores = s.cores := rfl
@[simp] theorem modIpair_engs {n : Nat} {g : IPair → IPair} : (s.modIpair n g).engs = s.engs := rfl
@[simp] theorem modIpair_twins {n : Nat} {g : IPair → IPair} : (s.modIpair n g).twins = s.twins := rfl
@[simp] theorem modIpair_inps {n : Nat} {g : IPair → IPair} : (s.modIpair n g).inps = s.inps := rfl
@[simp] theorem modIpair_fns {n : Nat} {g : IPair → IPair} : (s.modIpair n g).fns = s.fns := rfl
@[simp] theorem modIpair_sio {n : Nat} {g : IPair → IPair} : (s.modIpair n g).sio = s.sio := rfl
@[simp] theorem modIpair_conns {n : Nat} {g : IPair → IPair} : (s.modIpair n g).conns = s.conns := rfl
@[simp] theorem modIpair_sent {n : Nat} {g : IPair → IPair} : (s.modIpair n g).sent = s.sent := rfl
@[simp] theorem modIpair_entryOff {n : Nat} {g : IPair → IPair} : (s.modIpair n g).entryOff = s.entryOff := rfl
@[simp] theorem modIpair_entryIn {n : Nat} {g : IPair → IPair} : (s.modIpair n g).entryIn = s.entryIn := rfl
@[simp] theorem modIpair_clock {n : Nat} {g : IPair → IPair} : (s.modIpair n g).clock = s.clock := rfl
@[simp] theorem modIpair_pair {n : Nat} {g : IPair → IPair} : (s.modIpair n g).pair = s.pair := rfl
@[simp] theorem modIpair_clus {n : Nat} {g : IPair → IPair} : (s.modIpair n g).clus = s.clus := rfl
@[simp] theorem modIpair_pwr {n : Nat} {g : IPair → IPair} : (s.modIpair n g).pwr = s.pwr := rfl
@[simp] theorem modIpair_heat {n : Nat} {g : IPair → IPair} : (s.modIpair n g).heat = s.heat := rfl
@[simp] theorem modIpair_recs {n : Nat} {g : IPair → IPair} : (s.modIpair n g).recs = s.recs := rfl
@[simp] theorem modIpair_sage {n : Nat} {g : IPair → IPair} : (s.modIpair n g).sage = s.sage := rfl
@[simp] theorem modIpair_ports {n : Nat} {g : IPair → IPair} : (s.modIpair n g).ports = s.ports := rfl
@[simp] theorem modIpair_watchAt {n : Nat} {g : IPair → IPair} : (s.modIpair n g).watchAt = s.watchAt := rfl
@[simp] theorem modIpair_coll {n : Nat} {g : IPair → IPair} : (s.modIpair n g).coll = s.coll := rfl
@[simp] theorem modIpair_pending {n : Nat} {g : IPair → IPair} : (s.modIpair n g).pending = s.pending := rfl
@[simp] theorem modIpair_rd {n : Nat} {g : IPair → IPair} {x : Fld} : (s.modIpair n g).rd x = s.rd x := rfl
@[simp] theorem modIpair_gen {n : Nat} {g : IPair → IPair} {x : Nat} : (s.modIpair n g).gen x = s.gen x := rfl
@[simp] theorem modIpair_prot {n : Nat} {g : IPair → IPair} {x : Nat} : (s.modIpair n g).prot x = s.prot x := rfl
@[simp] theorem modIpair_core {n : Nat} {g : IPair → IPair} {x : Nat} : (s.modIpair n g).core x = s.core x := rfl
@[simp] theorem modIpair_conn {n : Nat} {g : IPair → IPair} {x : Nat} : (s.modIpair n g).conn x = s.conn x := rfl
@[simp] theorem modIpair_fn {n : Nat} {g : IPair → IPair} {x : Nat} : (s.modIpair n g).fn x = s.fn x := rfl
@[simp] theorem modIpair_group {n : Nat} {g : IPair → IPair} {x : Nat} : (s.modIpair n g).group x = s.group x := rfl
@[simp] theorem modIpair_otpWord {n : Nat} {g : IPair → IPair} {x : Nat} : (s.modIpair n g).otpWord x = s.otpWord x := rfl
@[simp] theorem modIpair_prf {n : Nat} {g : IPair → IPair} {x : Nat} : (s.modIpair n g).prf x = s.prf x := rfl
@[simp] theorem modIpair_die {n : Nat} {g : IPair → IPair} {x : Nat} : (s.modIpair n g).die x = s.die x := rfl
@[simp] theorem modIpair_seqr {n : Nat} {g : IPair → IPair} {x : Nat} : (s.modIpair n g).seqr x = s.seqr x := rfl
@[simp] theorem modIpair_optic {n : Nat} {g : IPair → IPair} {x : Nat} : (s.modIpair n g).optic x = s.optic x := rfl
@[simp] theorem modIpair_rx {n : Nat} {g : IPair → IPair} {x : Nat} : (s.modIpair n g).rx x = s.rx x := rfl
@[simp] theorem modIpair_clu {n : Nat} {g : IPair → IPair} {x : Nat} : (s.modIpair n g).clu x = s.clu x := rfl
@[simp] theorem modIpair_eng {n : Nat} {g : IPair → IPair} {x : Nat} : (s.modIpair n g).eng x = s.eng x := rfl
@[simp] theorem modIpair_twin {n : Nat} {g : IPair → IPair} {x : Nat} : (s.modIpair n g).twin x = s.twin x := rfl
@[simp] theorem modIpair_inp {n : Nat} {g : IPair → IPair} {x : Nat} : (s.modIpair n g).inp x = s.inp x := rfl
/-! ### modFn -/
@[simp] theorem modFn_time {n : Nat} {g : Fn → Fn} : (s.modFn n g).time = s.time := rfl
@[simp] theorem modFn_devOfs {n : Nat} {g : Fn → Fn} : (s.modFn n g).devOfs = s.devOfs := rfl
@[simp] theorem modFn_devNext {n : Nat} {g : Fn → Fn} : (s.modFn n g).devNext = s.devNext := rfl
@[simp] theorem modFn_free {n : Nat} {g : Fn → Fn} : (s.modFn n g).free = s.free := rfl
@[simp] theorem modFn_dev {n : Nat} {g : Fn → Fn} : (s.modFn n g).dev = s.dev := rfl
@[simp] theorem modFn_up {n : Nat} {g : Fn → Fn} : (s.modFn n g).up = s.up := rfl
@[simp] theorem modFn_devAt {n : Nat} {g : Fn → Fn} : (s.modFn n g).devAt = s.devAt := rfl
@[simp] theorem modFn_wide {n : Nat} {g : Fn → Fn} : (s.modFn n g).wide = s.wide := rfl
@[simp] theorem modFn_xtalLost {n : Nat} {g : Fn → Fn} : (s.modFn n g).xtalLost = s.xtalLost := rfl
@[simp] theorem modFn_aonLost {n : Nat} {g : Fn → Fn} : (s.modFn n g).aonLost = s.aonLost := rfl
@[simp] theorem modFn_runAt {n : Nat} {g : Fn → Fn} : (s.modFn n g).runAt = s.runAt := rfl
@[simp] theorem modFn_regs {n : Nat} {g : Fn → Fn} : (s.modFn n g).regs = s.regs := rfl
@[simp] theorem modFn_staged {n : Nat} {g : Fn → Fn} : (s.modFn n g).staged = s.staged := rfl
@[simp] theorem modFn_captured {n : Nat} {g : Fn → Fn} : (s.modFn n g).captured = s.captured := rfl
@[simp] theorem modFn_hwNow {n : Nat} {g : Fn → Fn} : (s.modFn n g).hwNow = s.hwNow := rfl
@[simp] theorem modFn_mem {n : Nat} {g : Fn → Fn} : (s.modFn n g).mem = s.mem := rfl
@[simp] theorem modFn_flash {n : Nat} {g : Fn → Fn} : (s.modFn n g).flash = s.flash := rfl
@[simp] theorem modFn_otp {n : Nat} {g : Fn → Fn} : (s.modFn n g).otp = s.otp := rfl
@[simp] theorem modFn_bad {n : Nat} {g : Fn → Fn} : (s.modFn n g).bad = s.bad := rfl
@[simp] theorem modFn_gens {n : Nat} {g : Fn → Fn} : (s.modFn n g).gens = s.gens := rfl
@[simp] theorem modFn_prots {n : Nat} {g : Fn → Fn} : (s.modFn n g).prots = s.prots := rfl
@[simp] theorem modFn_prfs {n : Nat} {g : Fn → Fn} : (s.modFn n g).prfs = s.prfs := rfl
@[simp] theorem modFn_dies {n : Nat} {g : Fn → Fn} : (s.modFn n g).dies = s.dies := rfl
@[simp] theorem modFn_seqrs {n : Nat} {g : Fn → Fn} : (s.modFn n g).seqrs = s.seqrs := rfl
@[simp] theorem modFn_groups {n : Nat} {g : Fn → Fn} : (s.modFn n g).groups = s.groups := rfl
@[simp] theorem modFn_bcast {n : Nat} {g : Fn → Fn} : (s.modFn n g).bcast = s.bcast := rfl
@[simp] theorem modFn_optics {n : Nat} {g : Fn → Fn} : (s.modFn n g).optics = s.optics := rfl
@[simp] theorem modFn_optSince {n : Nat} {g : Fn → Fn} : (s.modFn n g).optSince = s.optSince := rfl
@[simp] theorem modFn_rxs {n : Nat} {g : Fn → Fn} : (s.modFn n g).rxs = s.rxs := rfl
@[simp] theorem modFn_flight {n : Nat} {g : Fn → Fn} : (s.modFn n g).flight = s.flight := rfl
@[simp] theorem modFn_trp {n : Nat} {g : Fn → Fn} : (s.modFn n g).trp = s.trp := rfl
@[simp] theorem modFn_cores {n : Nat} {g : Fn → Fn} : (s.modFn n g).cores = s.cores := rfl
@[simp] theorem modFn_engs {n : Nat} {g : Fn → Fn} : (s.modFn n g).engs = s.engs := rfl
@[simp] theorem modFn_twins {n : Nat} {g : Fn → Fn} : (s.modFn n g).twins = s.twins := rfl
@[simp] theorem modFn_inps {n : Nat} {g : Fn → Fn} : (s.modFn n g).inps = s.inps := rfl
@[simp] theorem modFn_ipairs {n : Nat} {g : Fn → Fn} : (s.modFn n g).ipairs = s.ipairs := rfl
@[simp] theorem modFn_sio {n : Nat} {g : Fn → Fn} : (s.modFn n g).sio = s.sio := rfl
@[simp] theorem modFn_conns {n : Nat} {g : Fn → Fn} : (s.modFn n g).conns = s.conns := rfl
@[simp] theorem modFn_sent {n : Nat} {g : Fn → Fn} : (s.modFn n g).sent = s.sent := rfl
@[simp] theorem modFn_entryOff {n : Nat} {g : Fn → Fn} : (s.modFn n g).entryOff = s.entryOff := rfl
@[simp] theorem modFn_entryIn {n : Nat} {g : Fn → Fn} : (s.modFn n g).entryIn = s.entryIn := rfl
@[simp] theorem modFn_clock {n : Nat} {g : Fn → Fn} : (s.modFn n g).clock = s.clock := rfl
@[simp] theorem modFn_pair {n : Nat} {g : Fn → Fn} : (s.modFn n g).pair = s.pair := rfl
@[simp] theorem modFn_clus {n : Nat} {g : Fn → Fn} : (s.modFn n g).clus = s.clus := rfl
@[simp] theorem modFn_pwr {n : Nat} {g : Fn → Fn} : (s.modFn n g).pwr = s.pwr := rfl
@[simp] theorem modFn_heat {n : Nat} {g : Fn → Fn} : (s.modFn n g).heat = s.heat := rfl
@[simp] theorem modFn_recs {n : Nat} {g : Fn → Fn} : (s.modFn n g).recs = s.recs := rfl
@[simp] theorem modFn_sage {n : Nat} {g : Fn → Fn} : (s.modFn n g).sage = s.sage := rfl
@[simp] theorem modFn_ports {n : Nat} {g : Fn → Fn} : (s.modFn n g).ports = s.ports := rfl
@[simp] theorem modFn_watchAt {n : Nat} {g : Fn → Fn} : (s.modFn n g).watchAt = s.watchAt := rfl
@[simp] theorem modFn_coll {n : Nat} {g : Fn → Fn} : (s.modFn n g).coll = s.coll := rfl
@[simp] theorem modFn_pending {n : Nat} {g : Fn → Fn} : (s.modFn n g).pending = s.pending := rfl
@[simp] theorem modFn_rd {n : Nat} {g : Fn → Fn} {x : Fld} : (s.modFn n g).rd x = s.rd x := rfl
@[simp] theorem modFn_gen {n : Nat} {g : Fn → Fn} {x : Nat} : (s.modFn n g).gen x = s.gen x := rfl
@[simp] theorem modFn_prot {n : Nat} {g : Fn → Fn} {x : Nat} : (s.modFn n g).prot x = s.prot x := rfl
@[simp] theorem modFn_core {n : Nat} {g : Fn → Fn} {x : Nat} : (s.modFn n g).core x = s.core x := rfl
@[simp] theorem modFn_conn {n : Nat} {g : Fn → Fn} {x : Nat} : (s.modFn n g).conn x = s.conn x := rfl
@[simp] theorem modFn_group {n : Nat} {g : Fn → Fn} {x : Nat} : (s.modFn n g).group x = s.group x := rfl
@[simp] theorem modFn_otpWord {n : Nat} {g : Fn → Fn} {x : Nat} : (s.modFn n g).otpWord x = s.otpWord x := rfl
@[simp] theorem modFn_prf {n : Nat} {g : Fn → Fn} {x : Nat} : (s.modFn n g).prf x = s.prf x := rfl
@[simp] theorem modFn_die {n : Nat} {g : Fn → Fn} {x : Nat} : (s.modFn n g).die x = s.die x := rfl
@[simp] theorem modFn_seqr {n : Nat} {g : Fn → Fn} {x : Nat} : (s.modFn n g).seqr x = s.seqr x := rfl
@[simp] theorem modFn_optic {n : Nat} {g : Fn → Fn} {x : Nat} : (s.modFn n g).optic x = s.optic x := rfl
@[simp] theorem modFn_rx {n : Nat} {g : Fn → Fn} {x : Nat} : (s.modFn n g).rx x = s.rx x := rfl
@[simp] theorem modFn_clu {n : Nat} {g : Fn → Fn} {x : Nat} : (s.modFn n g).clu x = s.clu x := rfl
@[simp] theorem modFn_eng {n : Nat} {g : Fn → Fn} {x : Nat} : (s.modFn n g).eng x = s.eng x := rfl
@[simp] theorem modFn_twin {n : Nat} {g : Fn → Fn} {x : Nat} : (s.modFn n g).twin x = s.twin x := rfl
@[simp] theorem modFn_inp {n : Nat} {g : Fn → Fn} {x : Nat} : (s.modFn n g).inp x = s.inp x := rfl
@[simp] theorem modFn_ipair {n : Nat} {g : Fn → Fn} {x : Nat} : (s.modFn n g).ipair x = s.ipair x := rfl
/-! ### modSio -/
@[simp] theorem modSio_time {g : Sio → Sio} : (s.modSio g).time = s.time := rfl
@[simp] theorem modSio_devOfs {g : Sio → Sio} : (s.modSio g).devOfs = s.devOfs := rfl
@[simp] theorem modSio_devNext {g : Sio → Sio} : (s.modSio g).devNext = s.devNext := rfl
@[simp] theorem modSio_free {g : Sio → Sio} : (s.modSio g).free = s.free := rfl
@[simp] theorem modSio_dev {g : Sio → Sio} : (s.modSio g).dev = s.dev := rfl
@[simp] theorem modSio_up {g : Sio → Sio} : (s.modSio g).up = s.up := rfl
@[simp] theorem modSio_devAt {g : Sio → Sio} : (s.modSio g).devAt = s.devAt := rfl
@[simp] theorem modSio_wide {g : Sio → Sio} : (s.modSio g).wide = s.wide := rfl
@[simp] theorem modSio_xtalLost {g : Sio → Sio} : (s.modSio g).xtalLost = s.xtalLost := rfl
@[simp] theorem modSio_aonLost {g : Sio → Sio} : (s.modSio g).aonLost = s.aonLost := rfl
@[simp] theorem modSio_runAt {g : Sio → Sio} : (s.modSio g).runAt = s.runAt := rfl
@[simp] theorem modSio_regs {g : Sio → Sio} : (s.modSio g).regs = s.regs := rfl
@[simp] theorem modSio_staged {g : Sio → Sio} : (s.modSio g).staged = s.staged := rfl
@[simp] theorem modSio_captured {g : Sio → Sio} : (s.modSio g).captured = s.captured := rfl
@[simp] theorem modSio_hwNow {g : Sio → Sio} : (s.modSio g).hwNow = s.hwNow := rfl
@[simp] theorem modSio_mem {g : Sio → Sio} : (s.modSio g).mem = s.mem := rfl
@[simp] theorem modSio_flash {g : Sio → Sio} : (s.modSio g).flash = s.flash := rfl
@[simp] theorem modSio_otp {g : Sio → Sio} : (s.modSio g).otp = s.otp := rfl
@[simp] theorem modSio_bad {g : Sio → Sio} : (s.modSio g).bad = s.bad := rfl
@[simp] theorem modSio_gens {g : Sio → Sio} : (s.modSio g).gens = s.gens := rfl
@[simp] theorem modSio_prots {g : Sio → Sio} : (s.modSio g).prots = s.prots := rfl
@[simp] theorem modSio_prfs {g : Sio → Sio} : (s.modSio g).prfs = s.prfs := rfl
@[simp] theorem modSio_dies {g : Sio → Sio} : (s.modSio g).dies = s.dies := rfl
@[simp] theorem modSio_seqrs {g : Sio → Sio} : (s.modSio g).seqrs = s.seqrs := rfl
@[simp] theorem modSio_groups {g : Sio → Sio} : (s.modSio g).groups = s.groups := rfl
@[simp] theorem modSio_bcast {g : Sio → Sio} : (s.modSio g).bcast = s.bcast := rfl
@[simp] theorem modSio_optics {g : Sio → Sio} : (s.modSio g).optics = s.optics := rfl
@[simp] theorem modSio_optSince {g : Sio → Sio} : (s.modSio g).optSince = s.optSince := rfl
@[simp] theorem modSio_rxs {g : Sio → Sio} : (s.modSio g).rxs = s.rxs := rfl
@[simp] theorem modSio_flight {g : Sio → Sio} : (s.modSio g).flight = s.flight := rfl
@[simp] theorem modSio_trp {g : Sio → Sio} : (s.modSio g).trp = s.trp := rfl
@[simp] theorem modSio_cores {g : Sio → Sio} : (s.modSio g).cores = s.cores := rfl
@[simp] theorem modSio_engs {g : Sio → Sio} : (s.modSio g).engs = s.engs := rfl
@[simp] theorem modSio_twins {g : Sio → Sio} : (s.modSio g).twins = s.twins := rfl
@[simp] theorem modSio_inps {g : Sio → Sio} : (s.modSio g).inps = s.inps := rfl
@[simp] theorem modSio_ipairs {g : Sio → Sio} : (s.modSio g).ipairs = s.ipairs := rfl
@[simp] theorem modSio_fns {g : Sio → Sio} : (s.modSio g).fns = s.fns := rfl
@[simp] theorem modSio_conns {g : Sio → Sio} : (s.modSio g).conns = s.conns := rfl
@[simp] theorem modSio_sent {g : Sio → Sio} : (s.modSio g).sent = s.sent := rfl
@[simp] theorem modSio_entryOff {g : Sio → Sio} : (s.modSio g).entryOff = s.entryOff := rfl
@[simp] theorem modSio_entryIn {g : Sio → Sio} : (s.modSio g).entryIn = s.entryIn := rfl
@[simp] theorem modSio_clock {g : Sio → Sio} : (s.modSio g).clock = s.clock := rfl
@[simp] theorem modSio_pair {g : Sio → Sio} : (s.modSio g).pair = s.pair := rfl
@[simp] theorem modSio_clus {g : Sio → Sio} : (s.modSio g).clus = s.clus := rfl
@[simp] theorem modSio_pwr {g : Sio → Sio} : (s.modSio g).pwr = s.pwr := rfl
@[simp] theorem modSio_heat {g : Sio → Sio} : (s.modSio g).heat = s.heat := rfl
@[simp] theorem modSio_recs {g : Sio → Sio} : (s.modSio g).recs = s.recs := rfl
@[simp] theorem modSio_sage {g : Sio → Sio} : (s.modSio g).sage = s.sage := rfl
@[simp] theorem modSio_ports {g : Sio → Sio} : (s.modSio g).ports = s.ports := rfl
@[simp] theorem modSio_watchAt {g : Sio → Sio} : (s.modSio g).watchAt = s.watchAt := rfl
@[simp] theorem modSio_coll {g : Sio → Sio} : (s.modSio g).coll = s.coll := rfl
@[simp] theorem modSio_pending {g : Sio → Sio} : (s.modSio g).pending = s.pending := rfl
@[simp] theorem modSio_rd {g : Sio → Sio} {x : Fld} : (s.modSio g).rd x = s.rd x := rfl
@[simp] theorem modSio_gen {g : Sio → Sio} {x : Nat} : (s.modSio g).gen x = s.gen x := rfl
@[simp] theorem modSio_prot {g : Sio → Sio} {x : Nat} : (s.modSio g).prot x = s.prot x := rfl
@[simp] theorem modSio_core {g : Sio → Sio} {x : Nat} : (s.modSio g).core x = s.core x := rfl
@[simp] theorem modSio_conn {g : Sio → Sio} {x : Nat} : (s.modSio g).conn x = s.conn x := rfl
@[simp] theorem modSio_fn {g : Sio → Sio} {x : Nat} : (s.modSio g).fn x = s.fn x := rfl
@[simp] theorem modSio_group {g : Sio → Sio} {x : Nat} : (s.modSio g).group x = s.group x := rfl
@[simp] theorem modSio_otpWord {g : Sio → Sio} {x : Nat} : (s.modSio g).otpWord x = s.otpWord x := rfl
@[simp] theorem modSio_prf {g : Sio → Sio} {x : Nat} : (s.modSio g).prf x = s.prf x := rfl
@[simp] theorem modSio_die {g : Sio → Sio} {x : Nat} : (s.modSio g).die x = s.die x := rfl
@[simp] theorem modSio_seqr {g : Sio → Sio} {x : Nat} : (s.modSio g).seqr x = s.seqr x := rfl
@[simp] theorem modSio_optic {g : Sio → Sio} {x : Nat} : (s.modSio g).optic x = s.optic x := rfl
@[simp] theorem modSio_rx {g : Sio → Sio} {x : Nat} : (s.modSio g).rx x = s.rx x := rfl
@[simp] theorem modSio_clu {g : Sio → Sio} {x : Nat} : (s.modSio g).clu x = s.clu x := rfl
@[simp] theorem modSio_eng {g : Sio → Sio} {x : Nat} : (s.modSio g).eng x = s.eng x := rfl
@[simp] theorem modSio_twin {g : Sio → Sio} {x : Nat} : (s.modSio g).twin x = s.twin x := rfl
@[simp] theorem modSio_inp {g : Sio → Sio} {x : Nat} : (s.modSio g).inp x = s.inp x := rfl
@[simp] theorem modSio_ipair {g : Sio → Sio} {x : Nat} : (s.modSio g).ipair x = s.ipair x := rfl
/-! ### modBcast -/
@[simp] theorem modBcast_time {g : Bcast → Bcast} : (s.modBcast g).time = s.time := rfl
@[simp] theorem modBcast_devOfs {g : Bcast → Bcast} : (s.modBcast g).devOfs = s.devOfs := rfl
@[simp] theorem modBcast_devNext {g : Bcast → Bcast} : (s.modBcast g).devNext = s.devNext := rfl
@[simp] theorem modBcast_free {g : Bcast → Bcast} : (s.modBcast g).free = s.free := rfl
@[simp] theorem modBcast_dev {g : Bcast → Bcast} : (s.modBcast g).dev = s.dev := rfl
@[simp] theorem modBcast_up {g : Bcast → Bcast} : (s.modBcast g).up = s.up := rfl
@[simp] theorem modBcast_devAt {g : Bcast → Bcast} : (s.modBcast g).devAt = s.devAt := rfl
@[simp] theorem modBcast_wide {g : Bcast → Bcast} : (s.modBcast g).wide = s.wide := rfl
@[simp] theorem modBcast_xtalLost {g : Bcast → Bcast} : (s.modBcast g).xtalLost = s.xtalLost := rfl
@[simp] theorem modBcast_aonLost {g : Bcast → Bcast} : (s.modBcast g).aonLost = s.aonLost := rfl
@[simp] theorem modBcast_runAt {g : Bcast → Bcast} : (s.modBcast g).runAt = s.runAt := rfl
@[simp] theorem modBcast_regs {g : Bcast → Bcast} : (s.modBcast g).regs = s.regs := rfl
@[simp] theorem modBcast_staged {g : Bcast → Bcast} : (s.modBcast g).staged = s.staged := rfl
@[simp] theorem modBcast_captured {g : Bcast → Bcast} : (s.modBcast g).captured = s.captured := rfl
@[simp] theorem modBcast_hwNow {g : Bcast → Bcast} : (s.modBcast g).hwNow = s.hwNow := rfl
@[simp] theorem modBcast_mem {g : Bcast → Bcast} : (s.modBcast g).mem = s.mem := rfl
@[simp] theorem modBcast_flash {g : Bcast → Bcast} : (s.modBcast g).flash = s.flash := rfl
@[simp] theorem modBcast_otp {g : Bcast → Bcast} : (s.modBcast g).otp = s.otp := rfl
@[simp] theorem modBcast_bad {g : Bcast → Bcast} : (s.modBcast g).bad = s.bad := rfl
@[simp] theorem modBcast_gens {g : Bcast → Bcast} : (s.modBcast g).gens = s.gens := rfl
@[simp] theorem modBcast_prots {g : Bcast → Bcast} : (s.modBcast g).prots = s.prots := rfl
@[simp] theorem modBcast_prfs {g : Bcast → Bcast} : (s.modBcast g).prfs = s.prfs := rfl
@[simp] theorem modBcast_dies {g : Bcast → Bcast} : (s.modBcast g).dies = s.dies := rfl
@[simp] theorem modBcast_seqrs {g : Bcast → Bcast} : (s.modBcast g).seqrs = s.seqrs := rfl
@[simp] theorem modBcast_groups {g : Bcast → Bcast} : (s.modBcast g).groups = s.groups := rfl
@[simp] theorem modBcast_optics {g : Bcast → Bcast} : (s.modBcast g).optics = s.optics := rfl
@[simp] theorem modBcast_optSince {g : Bcast → Bcast} : (s.modBcast g).optSince = s.optSince := rfl
@[simp] theorem modBcast_rxs {g : Bcast → Bcast} : (s.modBcast g).rxs = s.rxs := rfl
@[simp] theorem modBcast_flight {g : Bcast → Bcast} : (s.modBcast g).flight = s.flight := rfl
@[simp] theorem modBcast_trp {g : Bcast → Bcast} : (s.modBcast g).trp = s.trp := rfl
@[simp] theorem modBcast_cores {g : Bcast → Bcast} : (s.modBcast g).cores = s.cores := rfl
@[simp] theorem modBcast_engs {g : Bcast → Bcast} : (s.modBcast g).engs = s.engs := rfl
@[simp] theorem modBcast_twins {g : Bcast → Bcast} : (s.modBcast g).twins = s.twins := rfl
@[simp] theorem modBcast_inps {g : Bcast → Bcast} : (s.modBcast g).inps = s.inps := rfl
@[simp] theorem modBcast_ipairs {g : Bcast → Bcast} : (s.modBcast g).ipairs = s.ipairs := rfl
@[simp] theorem modBcast_fns {g : Bcast → Bcast} : (s.modBcast g).fns = s.fns := rfl
@[simp] theorem modBcast_sio {g : Bcast → Bcast} : (s.modBcast g).sio = s.sio := rfl
@[simp] theorem modBcast_conns {g : Bcast → Bcast} : (s.modBcast g).conns = s.conns := rfl
@[simp] theorem modBcast_sent {g : Bcast → Bcast} : (s.modBcast g).sent = s.sent := rfl
@[simp] theorem modBcast_entryOff {g : Bcast → Bcast} : (s.modBcast g).entryOff = s.entryOff := rfl
@[simp] theorem modBcast_entryIn {g : Bcast → Bcast} : (s.modBcast g).entryIn = s.entryIn := rfl
@[simp] theorem modBcast_clock {g : Bcast → Bcast} : (s.modBcast g).clock = s.clock := rfl
@[simp] theorem modBcast_pair {g : Bcast → Bcast} : (s.modBcast g).pair = s.pair := rfl
@[simp] theorem modBcast_clus {g : Bcast → Bcast} : (s.modBcast g).clus = s.clus := rfl
@[simp] theorem modBcast_pwr {g : Bcast → Bcast} : (s.modBcast g).pwr = s.pwr := rfl
@[simp] theorem modBcast_heat {g : Bcast → Bcast} : (s.modBcast g).heat = s.heat := rfl
@[simp] theorem modBcast_recs {g : Bcast → Bcast} : (s.modBcast g).recs = s.recs := rfl
@[simp] theorem modBcast_sage {g : Bcast → Bcast} : (s.modBcast g).sage = s.sage := rfl
@[simp] theorem modBcast_ports {g : Bcast → Bcast} : (s.modBcast g).ports = s.ports := rfl
@[simp] theorem modBcast_watchAt {g : Bcast → Bcast} : (s.modBcast g).watchAt = s.watchAt := rfl
@[simp] theorem modBcast_coll {g : Bcast → Bcast} : (s.modBcast g).coll = s.coll := rfl
@[simp] theorem modBcast_pending {g : Bcast → Bcast} : (s.modBcast g).pending = s.pending := rfl
@[simp] theorem modBcast_rd {g : Bcast → Bcast} {x : Fld} : (s.modBcast g).rd x = s.rd x := rfl
@[simp] theorem modBcast_gen {g : Bcast → Bcast} {x : Nat} : (s.modBcast g).gen x = s.gen x := rfl
@[simp] theorem modBcast_prot {g : Bcast → Bcast} {x : Nat} : (s.modBcast g).prot x = s.prot x := rfl
@[simp] theorem modBcast_core {g : Bcast → Bcast} {x : Nat} : (s.modBcast g).core x = s.core x := rfl
@[simp] theorem modBcast_conn {g : Bcast → Bcast} {x : Nat} : (s.modBcast g).conn x = s.conn x := rfl
@[simp] theorem modBcast_fn {g : Bcast → Bcast} {x : Nat} : (s.modBcast g).fn x = s.fn x := rfl
@[simp] theorem modBcast_group {g : Bcast → Bcast} {x : Nat} : (s.modBcast g).group x = s.group x := rfl
@[simp] theorem modBcast_otpWord {g : Bcast → Bcast} {x : Nat} : (s.modBcast g).otpWord x = s.otpWord x := rfl
@[simp] theorem modBcast_prf {g : Bcast → Bcast} {x : Nat} : (s.modBcast g).prf x = s.prf x := rfl
@[simp] theorem modBcast_die {g : Bcast → Bcast} {x : Nat} : (s.modBcast g).die x = s.die x := rfl
@[simp] theorem modBcast_seqr {g : Bcast → Bcast} {x : Nat} : (s.modBcast g).seqr x = s.seqr x := rfl
@[simp] theorem modBcast_optic {g : Bcast → Bcast} {x : Nat} : (s.modBcast g).optic x = s.optic x := rfl
@[simp] theorem modBcast_rx {g : Bcast → Bcast} {x : Nat} : (s.modBcast g).rx x = s.rx x := rfl
@[simp] theorem modBcast_clu {g : Bcast → Bcast} {x : Nat} : (s.modBcast g).clu x = s.clu x := rfl
@[simp] theorem modBcast_eng {g : Bcast → Bcast} {x : Nat} : (s.modBcast g).eng x = s.eng x := rfl
@[simp] theorem modBcast_twin {g : Bcast → Bcast} {x : Nat} : (s.modBcast g).twin x = s.twin x := rfl
@[simp] theorem modBcast_inp {g : Bcast → Bcast} {x : Nat} : (s.modBcast g).inp x = s.inp x := rfl
@[simp] theorem modBcast_ipair {g : Bcast → Bcast} {x : Nat} : (s.modBcast g).ipair x = s.ipair x := rfl
/-! ### setTin -/
@[simp] theorem setTin_time {n : Nat} {g : Tin} : (s.setTin n g).time = s.time := rfl
@[simp] theorem setTin_devOfs {n : Nat} {g : Tin} : (s.setTin n g).devOfs = s.devOfs := rfl
@[simp] theorem setTin_devNext {n : Nat} {g : Tin} : (s.setTin n g).devNext = s.devNext := rfl
@[simp] theorem setTin_free {n : Nat} {g : Tin} : (s.setTin n g).free = s.free := rfl
@[simp] theorem setTin_dev {n : Nat} {g : Tin} : (s.setTin n g).dev = s.dev := rfl
@[simp] theorem setTin_up {n : Nat} {g : Tin} : (s.setTin n g).up = s.up := rfl
@[simp] theorem setTin_devAt {n : Nat} {g : Tin} : (s.setTin n g).devAt = s.devAt := rfl
@[simp] theorem setTin_wide {n : Nat} {g : Tin} : (s.setTin n g).wide = s.wide := rfl
@[simp] theorem setTin_xtalLost {n : Nat} {g : Tin} : (s.setTin n g).xtalLost = s.xtalLost := rfl
@[simp] theorem setTin_aonLost {n : Nat} {g : Tin} : (s.setTin n g).aonLost = s.aonLost := rfl
@[simp] theorem setTin_runAt {n : Nat} {g : Tin} : (s.setTin n g).runAt = s.runAt := rfl
@[simp] theorem setTin_regs {n : Nat} {g : Tin} : (s.setTin n g).regs = s.regs := rfl
@[simp] theorem setTin_staged {n : Nat} {g : Tin} : (s.setTin n g).staged = s.staged := rfl
@[simp] theorem setTin_captured {n : Nat} {g : Tin} : (s.setTin n g).captured = s.captured := rfl
@[simp] theorem setTin_hwNow {n : Nat} {g : Tin} : (s.setTin n g).hwNow = s.hwNow := rfl
@[simp] theorem setTin_mem {n : Nat} {g : Tin} : (s.setTin n g).mem = s.mem := rfl
@[simp] theorem setTin_flash {n : Nat} {g : Tin} : (s.setTin n g).flash = s.flash := rfl
@[simp] theorem setTin_otp {n : Nat} {g : Tin} : (s.setTin n g).otp = s.otp := rfl
@[simp] theorem setTin_bad {n : Nat} {g : Tin} : (s.setTin n g).bad = s.bad := rfl
@[simp] theorem setTin_gens {n : Nat} {g : Tin} : (s.setTin n g).gens = s.gens := rfl
@[simp] theorem setTin_prots {n : Nat} {g : Tin} : (s.setTin n g).prots = s.prots := rfl
@[simp] theorem setTin_prfs {n : Nat} {g : Tin} : (s.setTin n g).prfs = s.prfs := rfl
@[simp] theorem setTin_dies {n : Nat} {g : Tin} : (s.setTin n g).dies = s.dies := rfl
@[simp] theorem setTin_seqrs {n : Nat} {g : Tin} : (s.setTin n g).seqrs = s.seqrs := rfl
@[simp] theorem setTin_groups {n : Nat} {g : Tin} : (s.setTin n g).groups = s.groups := rfl
@[simp] theorem setTin_bcast {n : Nat} {g : Tin} : (s.setTin n g).bcast = s.bcast := rfl
@[simp] theorem setTin_optics {n : Nat} {g : Tin} : (s.setTin n g).optics = s.optics := rfl
@[simp] theorem setTin_optSince {n : Nat} {g : Tin} : (s.setTin n g).optSince = s.optSince := rfl
@[simp] theorem setTin_rxs {n : Nat} {g : Tin} : (s.setTin n g).rxs = s.rxs := rfl
@[simp] theorem setTin_flight {n : Nat} {g : Tin} : (s.setTin n g).flight = s.flight := rfl
@[simp] theorem setTin_trp {n : Nat} {g : Tin} : (s.setTin n g).trp = s.trp := rfl
@[simp] theorem setTin_cores {n : Nat} {g : Tin} : (s.setTin n g).cores = s.cores := rfl
@[simp] theorem setTin_engs {n : Nat} {g : Tin} : (s.setTin n g).engs = s.engs := rfl
@[simp] theorem setTin_twins {n : Nat} {g : Tin} : (s.setTin n g).twins = s.twins := rfl
@[simp] theorem setTin_inps {n : Nat} {g : Tin} : (s.setTin n g).inps = s.inps := rfl
@[simp] theorem setTin_ipairs {n : Nat} {g : Tin} : (s.setTin n g).ipairs = s.ipairs := rfl
@[simp] theorem setTin_fns {n : Nat} {g : Tin} : (s.setTin n g).fns = s.fns := rfl
@[simp] theorem setTin_sio {n : Nat} {g : Tin} : (s.setTin n g).sio = s.sio := rfl
@[simp] theorem setTin_conns {n : Nat} {g : Tin} : (s.setTin n g).conns = s.conns := rfl
@[simp] theorem setTin_sent {n : Nat} {g : Tin} : (s.setTin n g).sent = s.sent := rfl
@[simp] theorem setTin_entryOff {n : Nat} {g : Tin} : (s.setTin n g).entryOff = s.entryOff := rfl
@[simp] theorem setTin_entryIn {n : Nat} {g : Tin} : (s.setTin n g).entryIn = s.entryIn := rfl
@[simp] theorem setTin_clock {n : Nat} {g : Tin} : (s.setTin n g).clock = s.clock := rfl
@[simp] theorem setTin_pair {n : Nat} {g : Tin} : (s.setTin n g).pair = s.pair := rfl
@[simp] theorem setTin_clus {n : Nat} {g : Tin} : (s.setTin n g).clus = s.clus := rfl
@[simp] theorem setTin_pwr {n : Nat} {g : Tin} : (s.setTin n g).pwr = s.pwr := rfl
@[simp] theorem setTin_recs {n : Nat} {g : Tin} : (s.setTin n g).recs = s.recs := rfl
@[simp] theorem setTin_sage {n : Nat} {g : Tin} : (s.setTin n g).sage = s.sage := rfl
@[simp] theorem setTin_ports {n : Nat} {g : Tin} : (s.setTin n g).ports = s.ports := rfl
@[simp] theorem setTin_watchAt {n : Nat} {g : Tin} : (s.setTin n g).watchAt = s.watchAt := rfl
@[simp] theorem setTin_coll {n : Nat} {g : Tin} : (s.setTin n g).coll = s.coll := rfl
@[simp] theorem setTin_pending {n : Nat} {g : Tin} : (s.setTin n g).pending = s.pending := rfl
@[simp] theorem setTin_rd {n : Nat} {g : Tin} {x : Fld} : (s.setTin n g).rd x = s.rd x := rfl
@[simp] theorem setTin_gen {n : Nat} {g : Tin} {x : Nat} : (s.setTin n g).gen x = s.gen x := rfl
@[simp] theorem setTin_prot {n : Nat} {g : Tin} {x : Nat} : (s.setTin n g).prot x = s.prot x := rfl
@[simp] theorem setTin_core {n : Nat} {g : Tin} {x : Nat} : (s.setTin n g).core x = s.core x := rfl
@[simp] theorem setTin_conn {n : Nat} {g : Tin} {x : Nat} : (s.setTin n g).conn x = s.conn x := rfl
@[simp] theorem setTin_fn {n : Nat} {g : Tin} {x : Nat} : (s.setTin n g).fn x = s.fn x := rfl
@[simp] theorem setTin_group {n : Nat} {g : Tin} {x : Nat} : (s.setTin n g).group x = s.group x := rfl
@[simp] theorem setTin_otpWord {n : Nat} {g : Tin} {x : Nat} : (s.setTin n g).otpWord x = s.otpWord x := rfl
@[simp] theorem setTin_prf {n : Nat} {g : Tin} {x : Nat} : (s.setTin n g).prf x = s.prf x := rfl
@[simp] theorem setTin_die {n : Nat} {g : Tin} {x : Nat} : (s.setTin n g).die x = s.die x := rfl
@[simp] theorem setTin_seqr {n : Nat} {g : Tin} {x : Nat} : (s.setTin n g).seqr x = s.seqr x := rfl
@[simp] theorem setTin_optic {n : Nat} {g : Tin} {x : Nat} : (s.setTin n g).optic x = s.optic x := rfl
@[simp] theorem setTin_rx {n : Nat} {g : Tin} {x : Nat} : (s.setTin n g).rx x = s.rx x := rfl
@[simp] theorem setTin_clu {n : Nat} {g : Tin} {x : Nat} : (s.setTin n g).clu x = s.clu x := rfl
@[simp] theorem setTin_eng {n : Nat} {g : Tin} {x : Nat} : (s.setTin n g).eng x = s.eng x := rfl
@[simp] theorem setTin_twin {n : Nat} {g : Tin} {x : Nat} : (s.setTin n g).twin x = s.twin x := rfl
@[simp] theorem setTin_inp {n : Nat} {g : Tin} {x : Nat} : (s.setTin n g).inp x = s.inp x := rfl
@[simp] theorem setTin_ipair {n : Nat} {g : Tin} {x : Nat} : (s.setTin n g).ipair x = s.ipair x := rfl
/-! ### modColl -/
@[simp] theorem modColl_time {g : Coll → Coll} : (s.modColl g).time = s.time := rfl
@[simp] theorem modColl_devOfs {g : Coll → Coll} : (s.modColl g).devOfs = s.devOfs := rfl
@[simp] theorem modColl_devNext {g : Coll → Coll} : (s.modColl g).devNext = s.devNext := rfl
@[simp] theorem modColl_free {g : Coll → Coll} : (s.modColl g).free = s.free := rfl
@[simp] theorem modColl_dev {g : Coll → Coll} : (s.modColl g).dev = s.dev := rfl
@[simp] theorem modColl_up {g : Coll → Coll} : (s.modColl g).up = s.up := rfl
@[simp] theorem modColl_devAt {g : Coll → Coll} : (s.modColl g).devAt = s.devAt := rfl
@[simp] theorem modColl_wide {g : Coll → Coll} : (s.modColl g).wide = s.wide := rfl
@[simp] theorem modColl_xtalLost {g : Coll → Coll} : (s.modColl g).xtalLost = s.xtalLost := rfl
@[simp] theorem modColl_aonLost {g : Coll → Coll} : (s.modColl g).aonLost = s.aonLost := rfl
@[simp] theorem modColl_runAt {g : Coll → Coll} : (s.modColl g).runAt = s.runAt := rfl
@[simp] theorem modColl_regs {g : Coll → Coll} : (s.modColl g).regs = s.regs := rfl
@[simp] theorem modColl_staged {g : Coll → Coll} : (s.modColl g).staged = s.staged := rfl
@[simp] theorem modColl_captured {g : Coll → Coll} : (s.modColl g).captured = s.captured := rfl
@[simp] theorem modColl_hwNow {g : Coll → Coll} : (s.modColl g).hwNow = s.hwNow := rfl
@[simp] theorem modColl_mem {g : Coll → Coll} : (s.modColl g).mem = s.mem := rfl
@[simp] theorem modColl_flash {g : Coll → Coll} : (s.modColl g).flash = s.flash := rfl
@[simp] theorem modColl_otp {g : Coll → Coll} : (s.modColl g).otp = s.otp := rfl
@[simp] theorem modColl_bad {g : Coll → Coll} : (s.modColl g).bad = s.bad := rfl
@[simp] theorem modColl_gens {g : Coll → Coll} : (s.modColl g).gens = s.gens := rfl
@[simp] theorem modColl_prots {g : Coll → Coll} : (s.modColl g).prots = s.prots := rfl
@[simp] theorem modColl_prfs {g : Coll → Coll} : (s.modColl g).prfs = s.prfs := rfl
@[simp] theorem modColl_dies {g : Coll → Coll} : (s.modColl g).dies = s.dies := rfl
@[simp] theorem modColl_seqrs {g : Coll → Coll} : (s.modColl g).seqrs = s.seqrs := rfl
@[simp] theorem modColl_groups {g : Coll → Coll} : (s.modColl g).groups = s.groups := rfl
@[simp] theorem modColl_bcast {g : Coll → Coll} : (s.modColl g).bcast = s.bcast := rfl
@[simp] theorem modColl_optics {g : Coll → Coll} : (s.modColl g).optics = s.optics := rfl
@[simp] theorem modColl_optSince {g : Coll → Coll} : (s.modColl g).optSince = s.optSince := rfl
@[simp] theorem modColl_rxs {g : Coll → Coll} : (s.modColl g).rxs = s.rxs := rfl
@[simp] theorem modColl_flight {g : Coll → Coll} : (s.modColl g).flight = s.flight := rfl
@[simp] theorem modColl_trp {g : Coll → Coll} : (s.modColl g).trp = s.trp := rfl
@[simp] theorem modColl_cores {g : Coll → Coll} : (s.modColl g).cores = s.cores := rfl
@[simp] theorem modColl_engs {g : Coll → Coll} : (s.modColl g).engs = s.engs := rfl
@[simp] theorem modColl_twins {g : Coll → Coll} : (s.modColl g).twins = s.twins := rfl
@[simp] theorem modColl_inps {g : Coll → Coll} : (s.modColl g).inps = s.inps := rfl
@[simp] theorem modColl_ipairs {g : Coll → Coll} : (s.modColl g).ipairs = s.ipairs := rfl
@[simp] theorem modColl_fns {g : Coll → Coll} : (s.modColl g).fns = s.fns := rfl
@[simp] theorem modColl_sio {g : Coll → Coll} : (s.modColl g).sio = s.sio := rfl
@[simp] theorem modColl_conns {g : Coll → Coll} : (s.modColl g).conns = s.conns := rfl
@[simp] theorem modColl_sent {g : Coll → Coll} : (s.modColl g).sent = s.sent := rfl
@[simp] theorem modColl_entryOff {g : Coll → Coll} : (s.modColl g).entryOff = s.entryOff := rfl
@[simp] theorem modColl_entryIn {g : Coll → Coll} : (s.modColl g).entryIn = s.entryIn := rfl
@[simp] theorem modColl_clock {g : Coll → Coll} : (s.modColl g).clock = s.clock := rfl
@[simp] theorem modColl_pair {g : Coll → Coll} : (s.modColl g).pair = s.pair := rfl
@[simp] theorem modColl_clus {g : Coll → Coll} : (s.modColl g).clus = s.clus := rfl
@[simp] theorem modColl_pwr {g : Coll → Coll} : (s.modColl g).pwr = s.pwr := rfl
@[simp] theorem modColl_heat {g : Coll → Coll} : (s.modColl g).heat = s.heat := rfl
@[simp] theorem modColl_recs {g : Coll → Coll} : (s.modColl g).recs = s.recs := rfl
@[simp] theorem modColl_sage {g : Coll → Coll} : (s.modColl g).sage = s.sage := rfl
@[simp] theorem modColl_ports {g : Coll → Coll} : (s.modColl g).ports = s.ports := rfl
@[simp] theorem modColl_watchAt {g : Coll → Coll} : (s.modColl g).watchAt = s.watchAt := rfl
@[simp] theorem modColl_pending {g : Coll → Coll} : (s.modColl g).pending = s.pending := rfl
@[simp] theorem modColl_rd {g : Coll → Coll} {x : Fld} : (s.modColl g).rd x = s.rd x := rfl
@[simp] theorem modColl_gen {g : Coll → Coll} {x : Nat} : (s.modColl g).gen x = s.gen x := rfl
@[simp] theorem modColl_prot {g : Coll → Coll} {x : Nat} : (s.modColl g).prot x = s.prot x := rfl
@[simp] theorem modColl_core {g : Coll → Coll} {x : Nat} : (s.modColl g).core x = s.core x := rfl
@[simp] theorem modColl_conn {g : Coll → Coll} {x : Nat} : (s.modColl g).conn x = s.conn x := rfl
@[simp] theorem modColl_fn {g : Coll → Coll} {x : Nat} : (s.modColl g).fn x = s.fn x := rfl
@[simp] theorem modColl_group {g : Coll → Coll} {x : Nat} : (s.modColl g).group x = s.group x := rfl
@[simp] theorem modColl_otpWord {g : Coll → Coll} {x : Nat} : (s.modColl g).otpWord x = s.otpWord x := rfl
@[simp] theorem modColl_prf {g : Coll → Coll} {x : Nat} : (s.modColl g).prf x = s.prf x := rfl
@[simp] theorem modColl_die {g : Coll → Coll} {x : Nat} : (s.modColl g).die x = s.die x := rfl
@[simp] theorem modColl_seqr {g : Coll → Coll} {x : Nat} : (s.modColl g).seqr x = s.seqr x := rfl
@[simp] theorem modColl_optic {g : Coll → Coll} {x : Nat} : (s.modColl g).optic x = s.optic x := rfl
@[simp] theorem modColl_rx {g : Coll → Coll} {x : Nat} : (s.modColl g).rx x = s.rx x := rfl
@[simp] theorem modColl_clu {g : Coll → Coll} {x : Nat} : (s.modColl g).clu x = s.clu x := rfl
@[simp] theorem modColl_eng {g : Coll → Coll} {x : Nat} : (s.modColl g).eng x = s.eng x := rfl
@[simp] theorem modColl_twin {g : Coll → Coll} {x : Nat} : (s.modColl g).twin x = s.twin x := rfl
@[simp] theorem modColl_inp {g : Coll → Coll} {x : Nat} : (s.modColl g).inp x = s.inp x := rfl
@[simp] theorem modColl_ipair {g : Coll → Coll} {x : Nat} : (s.modColl g).ipair x = s.ipair x := rfl
/-! ### setOtp -/
@[simp] theorem setOtp_time {k v : Nat} : (s.setOtp k v).time = s.time := rfl
@[simp] theorem setOtp_devOfs {k v : Nat} : (s.setOtp k v).devOfs = s.devOfs := rfl
@[simp] theorem setOtp_devNext {k v : Nat} : (s.setOtp k v).devNext = s.devNext := rfl
@[simp] theorem setOtp_free {k v : Nat} : (s.setOtp k v).free = s.free := rfl
@[simp] theorem setOtp_dev {k v : Nat} : (s.setOtp k v).dev = s.dev := rfl
@[simp] theorem setOtp_up {k v : Nat} : (s.setOtp k v).up = s.up := rfl
@[simp] theorem setOtp_devAt {k v : Nat} : (s.setOtp k v).devAt = s.devAt := rfl
@[simp] theorem setOtp_wide {k v : Nat} : (s.setOtp k v).wide = s.wide := rfl
@[simp] theorem setOtp_xtalLost {k v : Nat} : (s.setOtp k v).xtalLost = s.xtalLost := rfl
@[simp] theorem setOtp_aonLost {k v : Nat} : (s.setOtp k v).aonLost = s.aonLost := rfl
@[simp] theorem setOtp_runAt {k v : Nat} : (s.setOtp k v).runAt = s.runAt := rfl
@[simp] theorem setOtp_regs {k v : Nat} : (s.setOtp k v).regs = s.regs := rfl
@[simp] theorem setOtp_staged {k v : Nat} : (s.setOtp k v).staged = s.staged := rfl
@[simp] theorem setOtp_captured {k v : Nat} : (s.setOtp k v).captured = s.captured := rfl
@[simp] theorem setOtp_hwNow {k v : Nat} : (s.setOtp k v).hwNow = s.hwNow := rfl
@[simp] theorem setOtp_mem {k v : Nat} : (s.setOtp k v).mem = s.mem := rfl
@[simp] theorem setOtp_flash {k v : Nat} : (s.setOtp k v).flash = s.flash := rfl
@[simp] theorem setOtp_bad {k v : Nat} : (s.setOtp k v).bad = s.bad := rfl
@[simp] theorem setOtp_gens {k v : Nat} : (s.setOtp k v).gens = s.gens := rfl
@[simp] theorem setOtp_prots {k v : Nat} : (s.setOtp k v).prots = s.prots := rfl
@[simp] theorem setOtp_prfs {k v : Nat} : (s.setOtp k v).prfs = s.prfs := rfl
@[simp] theorem setOtp_dies {k v : Nat} : (s.setOtp k v).dies = s.dies := rfl
@[simp] theorem setOtp_seqrs {k v : Nat} : (s.setOtp k v).seqrs = s.seqrs := rfl
@[simp] theorem setOtp_groups {k v : Nat} : (s.setOtp k v).groups = s.groups := rfl
@[simp] theorem setOtp_bcast {k v : Nat} : (s.setOtp k v).bcast = s.bcast := rfl
@[simp] theorem setOtp_optics {k v : Nat} : (s.setOtp k v).optics = s.optics := rfl
@[simp] theorem setOtp_optSince {k v : Nat} : (s.setOtp k v).optSince = s.optSince := rfl
@[simp] theorem setOtp_rxs {k v : Nat} : (s.setOtp k v).rxs = s.rxs := rfl
@[simp] theorem setOtp_flight {k v : Nat} : (s.setOtp k v).flight = s.flight := rfl
@[simp] theorem setOtp_trp {k v : Nat} : (s.setOtp k v).trp = s.trp := rfl
@[simp] theorem setOtp_cores {k v : Nat} : (s.setOtp k v).cores = s.cores := rfl
@[simp] theorem setOtp_engs {k v : Nat} : (s.setOtp k v).engs = s.engs := rfl
@[simp] theorem setOtp_twins {k v : Nat} : (s.setOtp k v).twins = s.twins := rfl
@[simp] theorem setOtp_inps {k v : Nat} : (s.setOtp k v).inps = s.inps := rfl
@[simp] theorem setOtp_ipairs {k v : Nat} : (s.setOtp k v).ipairs = s.ipairs := rfl
@[simp] theorem setOtp_fns {k v : Nat} : (s.setOtp k v).fns = s.fns := rfl
@[simp] theorem setOtp_sio {k v : Nat} : (s.setOtp k v).sio = s.sio := rfl
@[simp] theorem setOtp_conns {k v : Nat} : (s.setOtp k v).conns = s.conns := rfl
@[simp] theorem setOtp_sent {k v : Nat} : (s.setOtp k v).sent = s.sent := rfl
@[simp] theorem setOtp_entryOff {k v : Nat} : (s.setOtp k v).entryOff = s.entryOff := rfl
@[simp] theorem setOtp_entryIn {k v : Nat} : (s.setOtp k v).entryIn = s.entryIn := rfl
@[simp] theorem setOtp_clock {k v : Nat} : (s.setOtp k v).clock = s.clock := rfl
@[simp] theorem setOtp_pair {k v : Nat} : (s.setOtp k v).pair = s.pair := rfl
@[simp] theorem setOtp_clus {k v : Nat} : (s.setOtp k v).clus = s.clus := rfl
@[simp] theorem setOtp_pwr {k v : Nat} : (s.setOtp k v).pwr = s.pwr := rfl
@[simp] theorem setOtp_heat {k v : Nat} : (s.setOtp k v).heat = s.heat := rfl
@[simp] theorem setOtp_recs {k v : Nat} : (s.setOtp k v).recs = s.recs := rfl
@[simp] theorem setOtp_sage {k v : Nat} : (s.setOtp k v).sage = s.sage := rfl
@[simp] theorem setOtp_ports {k v : Nat} : (s.setOtp k v).ports = s.ports := rfl
@[simp] theorem setOtp_watchAt {k v : Nat} : (s.setOtp k v).watchAt = s.watchAt := rfl
@[simp] theorem setOtp_coll {k v : Nat} : (s.setOtp k v).coll = s.coll := rfl
@[simp] theorem setOtp_pending {k v : Nat} : (s.setOtp k v).pending = s.pending := rfl
@[simp] theorem setOtp_rd {k v : Nat} {x : Fld} : (s.setOtp k v).rd x = s.rd x := rfl
@[simp] theorem setOtp_gen {k v : Nat} {x : Nat} : (s.setOtp k v).gen x = s.gen x := rfl
@[simp] theorem setOtp_prot {k v : Nat} {x : Nat} : (s.setOtp k v).prot x = s.prot x := rfl
@[simp] theorem setOtp_core {k v : Nat} {x : Nat} : (s.setOtp k v).core x = s.core x := rfl
@[simp] theorem setOtp_conn {k v : Nat} {x : Nat} : (s.setOtp k v).conn x = s.conn x := rfl
@[simp] theorem setOtp_fn {k v : Nat} {x : Nat} : (s.setOtp k v).fn x = s.fn x := rfl
@[simp] theorem setOtp_group {k v : Nat} {x : Nat} : (s.setOtp k v).group x = s.group x := rfl
@[simp] theorem setOtp_prf {k v : Nat} {x : Nat} : (s.setOtp k v).prf x = s.prf x := rfl
@[simp] theorem setOtp_die {k v : Nat} {x : Nat} : (s.setOtp k v).die x = s.die x := rfl
@[simp] theorem setOtp_seqr {k v : Nat} {x : Nat} : (s.setOtp k v).seqr x = s.seqr x := rfl
@[simp] theorem setOtp_optic {k v : Nat} {x : Nat} : (s.setOtp k v).optic x = s.optic x := rfl
@[simp] theorem setOtp_rx {k v : Nat} {x : Nat} : (s.setOtp k v).rx x = s.rx x := rfl
@[simp] theorem setOtp_clu {k v : Nat} {x : Nat} : (s.setOtp k v).clu x = s.clu x := rfl
@[simp] theorem setOtp_eng {k v : Nat} {x : Nat} : (s.setOtp k v).eng x = s.eng x := rfl
@[simp] theorem setOtp_twin {k v : Nat} {x : Nat} : (s.setOtp k v).twin x = s.twin x := rfl
@[simp] theorem setOtp_inp {k v : Nat} {x : Nat} : (s.setOtp k v).inp x = s.inp x := rfl
@[simp] theorem setOtp_ipair {k v : Nat} {x : Nat} : (s.setOtp k v).ipair x = s.ipair x := rfl

/-! ### What an update writes -/

theorem rd_wr_same {f : Fld} {v : Nat} : (s.wr f v).rd f = v % 2 ^ f.width := by simp [rd, wr]
/-- A register field is one place: fields with other addresses or bits are as they were. -/
theorem rd_wr_ne {f g : Fld} {v : Nat} (h : g.key ≠ f.key) : (s.wr f v).rd g = s.rd g := by
  simp only [rd, wr]
  rw [SMap.get_set_ne h]
theorem rd_put_same {f : Fld} {b : Bool} (h : 0 < f.width) : (s.put f b).rd f = b.toNat := by
  rw [put, rd_wr_same, Nat.mod_eq_of_lt (lt_of_lt_of_le (Bool.toNat_lt b) (Nat.pow_le_pow_right (n := 2) (by decide) h))]
theorem rd_put_ne {f g : Fld} {b : Bool} (h : g.key ≠ f.key) : (s.put f b).rd g = s.rd g := rd_wr_ne h
theorem on_put_same {f : Fld} {b : Bool} (h : 0 < f.width) : (s.put f b).on f = b := by
  rw [on, rd_put_same h]
  cases b <;> rfl
@[simp] theorem peek_poke {k v j : Nat} (hk : region k ≠ .flash) : (s.poke k v).peek j = if j = k then v % 4096 else s.peek j := by
  unfold peek poke
  split
  · rw [if_neg]
    rintro rfl
    exact hk ‹_›
  · simp
@[simp] theorem gen_setGen {n x : Nat} {g : Gen} : (s.setGen n g).gen x = if x = n then g else s.gen x := by simp [gen, setGen]
@[simp] theorem prot_setProt {n x : Nat} {g : Prot} : (s.setProt n g).prot x = if x = n then g else s.prot x := by simp [prot, setProt]
@[simp] theorem prf_setPrf {n x : Nat} {g : Prf} : (s.setPrf n g).prf x = if x = n then g else s.prf x := by simp [prf, setPrf]
@[simp] theorem core_setCore {n x : Nat} {g : Core} : (s.setCore n g).core x = if x = n then g else s.core x := by simp [core, setCore]
@[simp] theorem gen_modGen {n x : Nat} {g : Gen → Gen} : (s.modGen n g).gen x = if x = n then s.seenGates n (g (s.gen n)) else s.gen x := by simp [gen, modGen, setGen]
theorem seenGates_of_quiet {n : Nat} {g : Gen} (h : s.dwelling n = false) : s.seenGates n g = g := by simp [seenGates, h]
@[simp] theorem seenGates_hg {n : Nat} {g : Gen} : (s.seenGates n g).hg = g.hg := by unfold seenGates noteGates; split <;> [skip; rfl]; dsimp only; split <;> rfl
@[simp] theorem seenGates_lg {n : Nat} {g : Gen} : (s.seenGates n g).lg = g.lg := by unfold seenGates noteGates; split <;> [skip; rfl]; dsimp only; split <;> rfl
@[simp] theorem seenGates_phase {n : Nat} {g : Gen} : (s.seenGates n g).phase = g.phase := by unfold seenGates noteGates; split <;> [skip; rfl]; dsimp only; split <;> rfl
@[simp] theorem seenGates_perF {n : Nat} {g : Gen} : (s.seenGates n g).perF = g.perF := by unfold seenGates noteGates; split <;> [skip; rfl]; dsimp only; split <;> rfl
@[simp] theorem seenGates_phaseF {n : Nat} {g : Gen} : (s.seenGates n g).phaseF = g.phaseF := by unfold seenGates noteGates; split <;> [skip; rfl]; dsimp only; split <;> rfl
@[simp] theorem seenGates_resF {n : Nat} {g : Gen} : (s.seenGates n g).resF = g.resF := by unfold seenGates noteGates; split <;> [skip; rfl]; dsimp only; split <;> rfl
@[simp] theorem seenGates_refA {n : Nat} {g : Gen} : (s.seenGates n g).refA = g.refA := by unfold seenGates noteGates; split <;> [skip; rfl]; dsimp only; split <;> rfl
@[simp] theorem seenGates_nextB {n : Nat} {g : Gen} : (s.seenGates n g).nextB = g.nextB := by unfold seenGates noteGates; split <;> [skip; rfl]; dsimp only; split <;> rfl
@[simp] theorem seenGates_onNext {n : Nat} {g : Gen} : (s.seenGates n g).onNext = g.onNext := by unfold seenGates noteGates; split <;> [skip; rfl]; dsimp only; split <;> rfl
@[simp] theorem seenGates_onCur {n : Nat} {g : Gen} : (s.seenGates n g).onCur = g.onCur := by unfold seenGates noteGates; split <;> [skip; rfl]; dsimp only; split <;> rfl
@[simp] theorem seenGates_curLen {n : Nat} {g : Gen} : (s.seenGates n g).curLen = g.curLen := by unfold seenGates noteGates; split <;> [skip; rfl]; dsimp only; split <;> rfl
@[simp] theorem seenGates_corrNext {n : Nat} {g : Gen} : (s.seenGates n g).corrNext = g.corrNext := by unfold seenGates noteGates; split <;> [skip; rfl]; dsimp only; split <;> rfl
@[simp] theorem seenGates_riseDelay {n : Nat} {g : Gen} : (s.seenGates n g).riseDelay = g.riseDelay := by unfold seenGates noteGates; split <;> [skip; rfl]; dsimp only; split <;> rfl
@[simp] theorem seenGates_supNext {n : Nat} {g : Gen} : (s.seenGates n g).supNext = g.supNext := by unfold seenGates noteGates; split <;> [skip; rfl]; dsimp only; split <;> rfl
@[simp] theorem seenGates_supCur {n : Nat} {g : Gen} : (s.seenGates n g).supCur = g.supCur := by unfold seenGates noteGates; split <;> [skip; rfl]; dsimp only; split <;> rfl
@[simp] theorem seenGates_prevD {n : Nat} {g : Gen} : (s.seenGates n g).prevD = g.prevD := by unfold seenGates noteGates; split <;> [skip; rfl]; dsimp only; split <;> rfl
@[simp] theorem seenGates_chipNext {n : Nat} {g : Gen} : (s.seenGates n g).chipNext = g.chipNext := by unfold seenGates noteGates; split <;> [skip; rfl]; dsimp only; split <;> rfl
@[simp] theorem seenGates_chipRestart {n : Nat} {g : Gen} : (s.seenGates n g).chipRestart = g.chipRestart := by unfold seenGates noteGates; split <;> [skip; rfl]; dsimp only; split <;> rfl
@[simp] theorem seenGates_rclr {n : Nat} {g : Gen} : (s.seenGates n g).rclr = g.rclr := by unfold seenGates noteGates; split <;> [skip; rfl]; dsimp only; split <;> rfl
@[simp] theorem seenGates_alignErr {n : Nat} {g : Gen} : (s.seenGates n g).alignErr = g.alignErr := by unfold seenGates noteGates; split <;> [skip; rfl]; dsimp only; split <;> rfl
@[simp] theorem seenGates_changing {n : Nat} {g : Gen} : (s.seenGates n g).changing = g.changing := by unfold seenGates noteGates; split <;> [skip; rfl]; dsimp only; split <;> rfl
@[simp] theorem seenGates_capPend {n : Nat} {g : Gen} : (s.seenGates n g).capPend = g.capPend := by unfold seenGates noteGates; split <;> [skip; rfl]; dsimp only; split <;> rfl
@[simp] theorem seenGates_integ {n : Nat} {g : Gen} : (s.seenGates n g).integ = g.integ := by unfold seenGates noteGates; split <;> [skip; rfl]; dsimp only; split <;> rfl
@[simp] theorem seenGates_loopDuty {n : Nat} {g : Gen} : (s.seenGates n g).loopDuty = g.loopDuty := by unfold seenGates noteGates; split <;> [skip; rfl]; dsimp only; split <;> rfl
@[simp] theorem seenGates_prevRef {n : Nat} {g : Gen} : (s.seenGates n g).prevRef = g.prevRef := by unfold seenGates noteGates; split <;> [skip; rfl]; dsimp only; split <;> rfl
@[simp] theorem seenGates_limThis {n : Nat} {g : Gen} : (s.seenGates n g).limThis = g.limThis := by unfold seenGates noteGates; split <;> [skip; rfl]; dsimp only; split <;> rfl
@[simp] theorem seenGates_limLast {n : Nat} {g : Gen} : (s.seenGates n g).limLast = g.limLast := by unfold seenGates noteGates; split <;> [skip; rfl]; dsimp only; split <;> rfl
@[simp] theorem seenGates_limCount {n : Nat} {g : Gen} : (s.seenGates n g).limCount = g.limCount := by unfold seenGates noteGates; split <;> [skip; rfl]; dsimp only; split <;> rfl
@[simp] theorem seenGates_limSkip {n : Nat} {g : Gen} : (s.seenGates n g).limSkip = g.limSkip := by unfold seenGates noteGates; split <;> [skip; rfl]; dsimp only; split <;> rfl
@[simp] theorem seenGates_inrush {n : Nat} {g : Gen} : (s.seenGates n g).inrush = g.inrush := by unfold seenGates noteGates; split <;> [skip; rfl]; dsimp only; split <;> rfl
@[simp] theorem seenGates_inrAt {n : Nat} {g : Gen} : (s.seenGates n g).inrAt = g.inrAt := by unfold seenGates noteGates; split <;> [skip; rfl]; dsimp only; split <;> rfl
@[simp] theorem seenGates_capt {n : Nat} {g : Gen} : (s.seenGates n g).capt = g.capt := by unfold seenGates noteGates; split <;> [skip; rfl]; dsimp only; split <;> rfl
@[simp] theorem seenGates_onRaw {n : Nat} {g : Gen} : (s.seenGates n g).onRaw = g.onRaw := by unfold seenGates noteGates; split <;> [skip; rfl]; dsimp only; split <;> rfl
@[simp] theorem seenGates_capRes {n : Nat} {g : Gen} : (s.seenGates n g).capRes = g.capRes := by unfold seenGates noteGates; split <;> [skip; rfl]; dsimp only; split <;> rfl
@[simp] theorem seenGates_frzAt {n : Nat} {g : Gen} : (s.seenGates n g).frzAt = g.frzAt := by unfold seenGates noteGates; split <;> [skip; rfl]; dsimp only; split <;> rfl
@[simp] theorem seenGates_frzLim {n : Nat} {g : Gen} : (s.seenGates n g).frzLim = g.frzLim := by unfold seenGates noteGates; split <;> [skip; rfl]; dsimp only; split <;> rfl
@[simp] theorem prot_modProt {n x : Nat} {g : Prot → Prot} : (s.modProt n g).prot x = if x = n then g (s.prot n) else s.prot x := by simp [prot, modProt, setProt]
@[simp] theorem prf_modPrf {n x : Nat} {g : Prf → Prf} : (s.modPrf n g).prf x = if x = n then g (s.prf n) else s.prf x := by simp [prf, modPrf, setPrf]
@[simp] theorem core_modCore {n x : Nat} {g : Core → Core} : (s.modCore n g).core x = if x = n then g (s.core n) else s.core x := by simp [core, modCore, setCore]
@[simp] theorem die_modDie {n x : Nat} {g : Die → Die} : (s.modDie n g).die x = if x = n then g (s.die n) else s.die x := by simp [die, modDie]
@[simp] theorem seqr_modSeqr {n x : Nat} {g : Seqr → Seqr} : (s.modSeqr n g).seqr x = if x = n then g (s.seqr n) else s.seqr x := by simp [seqr, modSeqr]
@[simp] theorem group_modGroup {n x : Nat} {g : Group → Group} : (s.modGroup n g).group x = if x = n then g (s.group n) else s.group x := by simp [group, modGroup]
@[simp] theorem optic_modOptic {n x : Nat} {g : Optic → Optic} : (s.modOptic n g).optic x = if x = n then g (s.optic n) else s.optic x := by simp [optic, modOptic]
@[simp] theorem rx_modRx {n x : Nat} {g : Rx → Rx} : (s.modRx n g).rx x = if x = n then g (s.rx n) else s.rx x := by simp [rx, modRx]
@[simp] theorem clu_modClu {n x : Nat} {g : Clu → Clu} : (s.modClu n g).clu x = if x = n then g (s.clu n) else s.clu x := by simp [clu, modClu]
@[simp] theorem eng_modEng {n x : Nat} {g : Eng → Eng} : (s.modEng n g).eng x = if x = n then g (s.eng n) else s.eng x := by simp [eng, modEng]
@[simp] theorem twin_modTwin {n x : Nat} {g : Twin → Twin} : (s.modTwin n g).twin x = if x = n then g (s.twin n) else s.twin x := by simp [twin, modTwin]
@[simp] theorem conn_modConn {n x : Nat} {g : Conn → Conn} : (s.modConn n g).conn x = if x = n then g (s.conn n) else s.conn x := by simp [conn, modConn]
@[simp] theorem inp_modInp {n x : Nat} {g : Inp → Inp} : (s.modInp n g).inp x = if x = n then g (s.inp n) else s.inp x := by simp [inp, modInp]
@[simp] theorem ipair_modIpair {n x : Nat} {g : IPair → IPair} : (s.modIpair n g).ipair x = if x = n then g (s.ipair n) else s.ipair x := by simp [ipair, modIpair]
@[simp] theorem fn_modFn {n x : Nat} {g : Fn → Fn} : (s.modFn n g).fn x = if x = n then g (s.fn n) else s.fn x := by simp [fn, modFn]

end Sys2Proof.Machine.State
end

