-- ==== Sys2Proof/Laws/Fields.lean ====
section
/-! SUPPORT. What the operations on register fields do to a field: one lemma for each, and what an accepted write comes to. -/
namespace Sys2Proof.Machine
open Sys2Proof.Safety
/-- Setting a bit that is clear. -/
theorem or_two_pow {x i : Nat} (h : x.testBit i = false) : x ||| 2 ^ i = x + 2 ^ i := by
  have hlow : x % 2 ^ (i + 1) < 2 ^ i := by
    have h' : x / 2 ^ i % 2 = 0 := by
      rw [Nat.testBit_eq_decide_div_mod_eq] at h
      have := of_decide_eq_false h
      omega
    rw [Nat.mod_pow_succ, h']
    simpa using Nat.mod_lt _ (Nat.two_pow_pos i)
  have hx : x = 2 ^ (i + 1) * (x / 2 ^ (i + 1)) + x % 2 ^ (i + 1) := (Nat.div_add_mod _ _).symm
  have hs : 2 ^ i + x % 2 ^ (i + 1) < 2 ^ (i + 1) := by
    have e := Nat.pow_succ (n := 2) (m := i)
    omega
  have e1 : x + 2 ^ i = 2 ^ (i + 1) * (x / 2 ^ (i + 1)) + (2 ^ i + x % 2 ^ (i + 1)) := by omega
  have hl : 2 ^ i ||| x % 2 ^ (i + 1) = 2 ^ i + x % 2 ^ (i + 1) := by
    have := Nat.two_pow_add_eq_or_of_lt hlow 1
    rw [Nat.mul_one] at this
    exact this.symm
  rw [e1, Nat.two_pow_add_eq_or_of_lt hs, ← hl]
  conv_lhs => rw [hx, Nat.two_pow_add_eq_or_of_lt (lt_trans hlow (Nat.pow_lt_pow_right (by decide) (Nat.lt_succ_self i)))]
  rw [Nat.or_assoc, Nat.or_comm (x % _)]

namespace State
variable {s : State} {f g : Fld} {b : Bool} {i v : Nat}

theorem rd_lt : s.rd f < 2 ^ f.width := Nat.mod_lt _ (Nat.two_pow_pos _)
theorem rd_bump_same : (s.bump f).rd f = min (2 ^ f.width - 1) (s.rd f + 1) := by
  have := Nat.two_pow_pos f.width
  rw [bump, rd_wr_same, Nat.mod_eq_of_lt (by omega)]
theorem rd_bump_ne (h : g.key ≠ f.key) : (s.bump f).rd g = s.rd g := rd_wr_ne h
theorem rd_putBit_ne (h : g.key ≠ f.key) : (s.putBit f i b).rd g = s.rd g := rd_wr_ne h
/-- A bit of a field is set or cleared, and its other bits stand. -/
theorem bit_putBit {j : Nat} (hi : i < f.width) : (s.putBit f i b).bit f j = if j = i then b else s.bit f j := by
  have hv : s.rd f < 2 ^ f.width := rd_lt
  have h2 : (2 : Nat) ^ i < 2 ^ f.width := Nat.pow_lt_pow_right (by decide) hi
  have key : ∀ x, x < 2 ^ f.width → ((if b then (if x.testBit i then x else x + 2 ^ i) else (if x.testBit i then x - 2 ^ i else x)) %
      2 ^ f.width).testBit j = if j = i then b else x.testBit j := by
    intro x hx
    have e : (if b then (if x.testBit i then x else x + 2 ^ i) else (if x.testBit i then x - 2 ^ i else x)) =
        if b then x ||| 2 ^ i else x ^^^ (x &&& 2 ^ i) := by
      cases hb : x.testBit i
      · have h0 : x &&& 2 ^ i = 0 := by
          apply Nat.eq_of_testBit_eq; intro k
          rw [Nat.testBit_and, Nat.testBit_two_pow, Nat.zero_testBit]
          by_cases hk : i = k
          · subst hk; simp [hb]
          · simp [hk]
        have h1 : x ||| 2 ^ i = x + 2 ^ i := by
          exact or_two_pow hb
        cases b <;> simp [h0, h1]
      · have h1 : x ||| 2 ^ i = x := by
          apply Nat.eq_of_testBit_eq; intro k
          rw [Nat.testBit_or, Nat.testBit_two_pow]
          by_cases hk : i = k
          · subst hk; simp [hb]
          · simp [hk]
        have h3 : x &&& 2 ^ i = 2 ^ i := by
          apply Nat.eq_of_testBit_eq; intro k
          rw [Nat.testBit_and, Nat.testBit_two_pow]
          by_cases hk : i = k
          · subst hk; simp [hb]
          · simp [hk]
        have h2 : (x ^^^ 2 ^ i) + 2 ^ i = x := by
          have hy : (x ^^^ 2 ^ i).testBit i = false := by simp [hb]
          rw [← or_two_pow hy]
          apply Nat.eq_of_testBit_eq; intro k
          rw [Nat.testBit_or, Nat.testBit_xor, Nat.testBit_two_pow]
          by_cases hk : i = k
          · subst hk; simp [hb]
          · simp [hk]
        cases b
        · simp [h3]; omega
        · simp [h1]
    rw [e, Nat.testBit_mod_two_pow]
    by_cases hj : j = i
    · subst hj
      simp only [hi, decide_true, Bool.true_and, if_true]
      cases b
      · simp
      · simp
    · rw [if_neg hj]
      have hij : ¬ i = j := fun h => hj h.symm
      have ht : x.testBit j = (decide (j < f.width) && x.testBit j) := by
        by_cases hjw : j < f.width
        · simp [hjw]
        · rw [Nat.testBit_lt_two_pow (lt_of_lt_of_le hx (Nat.pow_le_pow_right (by decide) (by omega)))]; simp
      rw [ht]
      cases b <;> simp [hij]
  unfold bit putBit
  rw [rd_wr_same]
  exact key _ hv
theorem bit_putBit_ne {j : Nat} (h : g.key ≠ f.key) : (s.putBit f i b).bit g j = s.bit g j := by
  unfold bit; rw [rd_putBit_ne h]

/-! ### An operation on each number of a list -/

variable {α : Type} {l : List Nat} {op : State → Nat → State}

theorem each_cons {x : Nat} : s.each (x :: l) op = (op s x).each l op := rfl
/-- What no operation of the list changes stands. -/
theorem each_same (P : State → α) (h : ∀ t x, x ∈ l → P (op t x) = P t) : P (s.each l op) = P s := by
  induction l generalizing s with
  | nil => rfl
  | cons x r ih =>
    rw [each_cons, ih fun t y hy => h t y (List.mem_cons_of_mem _ hy), h s x List.mem_cons_self]
/-- What one operation of the list changes, and no other, is changed once. -/
theorem each_once {n : Nat} (P : State → α) (G : α → α) (hn : l.Nodup) (hm : n ∈ l)
    (ho : ∀ t x, x ∈ l → x ≠ n → P (op t x) = P t) (hi : ∀ t, P (op t n) = G (P t)) : P (s.each l op) = G (P s) := by
  induction l generalizing s with
  | nil => cases hm
  | cons x r ih =>
    rw [each_cons]
    obtain ⟨hx, hr⟩ := List.nodup_cons.1 hn
    by_cases h : x = n
    · subst h
      rw [each_same P fun t y hy => ho t y (List.mem_cons_of_mem _ hy) fun e => hx (e ▸ hy), hi]
    · rw [ih hr (List.mem_of_ne_of_mem (Ne.symm h) hm) fun t y hy => ho t y (List.mem_cons_of_mem _ hy), ho s x List.mem_cons_self h]

/-- A fold over fields that writes each of them at most once, each with a value of its own. -/
theorem foldl_fields {fs : List Fld} {op : State → Fld → State} (hop : ∀ t f g, g.key ≠ f.key → (op t f).rd g = t.rd g)
    (hk : fs.Pairwise fun a b => a.key ≠ b.key) {f : Fld} {G : Nat → Nat} (hf : f ∈ fs) (hG : ∀ t : State, (op t f).rd f = G (t.rd f)) :
    (fs.foldl op s).rd f = G (s.rd f) := by
  have same : ∀ (r : List Fld) (t : State), (∀ g ∈ r, f.key ≠ g.key) → (r.foldl op t).rd f = t.rd f := by
    intro r
    induction r with
    | nil => exact fun _ _ => rfl
    | cons g r ih => exact fun t h => (ih _ fun x hx => h x (List.mem_cons_of_mem _ hx)).trans (hop t g f (h g List.mem_cons_self))
  induction fs generalizing s with
  | nil => cases hf
  | cons g r ih =>
    obtain ⟨h1, h2⟩ := List.pairwise_cons.1 hk
    rcases List.mem_cons.1 hf with rfl | h
    · rw [List.foldl_cons, same r _ h1, hG]
    · rw [List.foldl_cons, ih h2 h, hop _ _ _ (Ne.symm (h1 f h))]
theorem eq_of_key {fs : List Fld} (hk : fs.Pairwise fun a b => a.key ≠ b.key) {f g : Fld} (hf : f ∈ fs) (hg : g ∈ fs) (he : f.key = g.key) : f = g := by
  induction fs with
  | nil => cases hf
  | cons x r ih =>
    obtain ⟨h1, h2⟩ := List.pairwise_cons.1 hk
    rcases List.mem_cons.1 hf with hx | hx <;> rcases List.mem_cons.1 hg with hy | hy
    · rw [hx, hy]
    · exact absurd (hx ▸ he) (h1 g hy)
    · exact absurd (hy ▸ he.symm) (h1 f hx)
    · exact ih h2 hx hy
/-- Fields outside the list stand. -/
theorem foldl_fields_ne {fs : List Fld} {op : State → Fld → State} (hop : ∀ t f g, g.key ≠ f.key → (op t f).rd g = t.rd g) {g : Fld}
    (hg : ∀ f ∈ fs, g.key ≠ f.key) : (fs.foldl op s).rd g = s.rd g := by
  induction fs generalizing s with
  | nil => rfl
  | cons f r ih =>
    rw [List.foldl_cons, ih fun x hx => hg x (List.mem_cons_of_mem _ hx), hop _ _ _ (hg f List.mem_cons_self)]
/-- What a fold's operation leaves, the fold leaves. -/
theorem foldl_same {β γ : Type} {fs : List β} {op : State → β → State} (P : State → γ) (h : ∀ t f, P (op t f) = P t) : P (fs.foldl op s) = P s := by
  induction fs generalizing s with
  | nil => rfl
  | cons f r ih => rw [List.foldl_cons, ih, h]

end State
end Sys2Proof.Machine
end

