-- ==== Sys2Proof/Laws/Accept.lean ====
section
/-! SUPPORT. What an accepted write of a register comes to: the effect of the register, on the state without the requester's staged words. -/
namespace Sys2Proof.Machine
open Sys2Proof.Safety

/-- A word without a 1 in a reserved field has its defined bits only. -/
theorem definedBits_eq {reg : Reg} {i w : Nat} (hw : w < 4096) (h : reg.reservedSet i w = false) : definedBits reg i w = w := by
  have hd : ∀ b, b < 12 → w.testBit b = true → reg.defined i b = true := by
    intro b hb ht
    have := h
    simp only [Reg.reservedSet, List.any_eq_false, List.mem_range] at this
    have := this b hb
    simpa [ht] using this
  have step : ∀ k, k ≤ 12 →
      (List.range k).foldl (fun x b => if w.testBit b && reg.defined i b then x + 2 ^ b else x) 0 = w % 2 ^ k := by
    intro k
    induction k with
    | zero => intro _; simp [Nat.mod_one]
    | succ k ih =>
      intro hk
      rw [List.range_succ, List.foldl_append, ih (by omega)]
      simp only [List.foldl_cons, List.foldl_nil]
      rw [Nat.mod_pow_succ]
      by_cases ht : w.testBit k = true
      · have h1 : w / 2 ^ k % 2 = 1 := by
          rw [Nat.testBit_eq_decide_div_mod_eq] at ht
          exact of_decide_eq_true ht
        simp [ht, hd k (by omega) ht, h1]
      · have ht' : w.testBit k = false := by simpa using ht
        have h1 : w / 2 ^ k % 2 = 0 := by
          rw [Nat.testBit_eq_decide_div_mod_eq] at ht'
          have := of_decide_eq_false ht'
          omega
        simp [ht', h1]
  have := step 12 (le_refl _)
  unfold definedBits
  rw [this]
  exact Nat.mod_eq_of_lt hw

/-- A number is the sum of its words. -/
theorem sum_words (v : Nat) : ∀ k, (List.range k).foldl (fun a j => a + bits v (12 * j) 12 * 4096 ^ j) 0 = v % 4096 ^ k := by
  intro k
  induction k with
  | zero => simp [Nat.mod_one]
  | succ k ih =>
    rw [List.range_succ, List.foldl_append, ih]
    simp only [List.foldl_cons, List.foldl_nil, bits]
    have e : (2 : Nat) ^ (12 * k) = 4096 ^ k := by rw [Nat.pow_mul]
    have e' : (4096 : Nat) ^ (k + 1) = 4096 ^ k * 4096 := rfl
    rw [e, e', Nat.mod_mul, Nat.mul_comm (4096 ^ k) (_ % 4096), show (2 : Nat) ^ 12 = 4096 from rfl]

theorem foldl_congr_mem {α β : Type} {f g : β → α → β} {l : List α} {b : β} (h : ∀ x ∈ l, ∀ c, f c x = g c x) : l.foldl f b = l.foldl g b := by
  induction l generalizing b with
  | nil => rfl
  | cons x r ih =>
    simp only [List.foldl_cons]
    rw [h x List.mem_cons_self, ih fun y hy => h y (List.mem_cons_of_mem _ hy)]

theorem find_words {v n j : Nat} (hj : j < n) :
    ((List.range n).map fun i => (i, bits v (12 * i) 12)).find? (·.1 == j) = some (j, bits v (12 * j) 12) := by
  induction n with
  | zero => omega
  | succ n ih =>
    rw [List.range_succ, List.map_append, List.find?_append]
    by_cases h : j < n
    · rw [ih h]; rfl
    · have e : j = n := by omega
      subst e
      have : ((List.range j).map fun i => (i, bits v (12 * i) 12)).find? (·.1 == j) = none := by
        rw [List.find?_eq_none]
        intro x hx
        obtain ⟨i, hi, rfl⟩ := List.mem_map.1 hx
        have := List.mem_range.1 hi
        simp; omega
      rw [this]
      simp

/-- A value whose bits all belong to fields carries no 1 in a reserved field. -/
theorem defined_lt {reg : Reg} {v k : Nat} (hk : ∀ b, b < k → reg.defined (b / 12) (b % 12) = true) (hv : v < 2 ^ k) :
    ∀ i, i < reg.words → reg.reservedSet i (bits v (12 * i) 12) = false := by
  intro i _
  simp only [Reg.reservedSet, List.any_eq_false, List.mem_range]
  intro b hb
  have e : (bits v (12 * i) 12).testBit b = v.testBit (12 * i + b) := by
    unfold bits
    rw [Nat.testBit_mod_two_pow, Nat.testBit_div_two_pow]
    simp [hb, Nat.add_comm]
  by_cases ht : v.testBit (12 * i + b) = true
  · have hlt : 12 * i + b < k := by
      by_contra hc
      rw [Nat.testBit_lt_two_pow (lt_of_lt_of_le hv (Nat.pow_le_pow_right (by decide) (by omega)))] at ht
      cases ht
    have := hk (12 * i + b) hlt
    rw [show (12 * i + b) / 12 = i by omega, show (12 * i + b) % 12 = b by omega] at this
    simp [e, this]
  · simp [e, ht]

namespace State
variable {s : State} {r : Requester} {reg : Reg} {v : Nat}

@[simp] theorem setStaged_rd {a : Nat} {o : Option Nat} {f : Fld} : (s.setStaged r a o).rd f = s.rd f := rfl
theorem unstage_same (P : State → Prop) (h : ∀ t a, P t → P (t.setStaged r a none)) (hs : P s) : P (s.unstage r reg) := by
  unfold unstage
  generalize List.range (reg.words - 1) = l
  induction l generalizing s with
  | nil => exact hs
  | cons x l ih => exact ih (h _ _ hs)
/-- Using up staged words changes nothing else. -/
theorem unstage_rest : { s.unstage r reg with staged := s.staged } = s :=
  unstage_same (fun t => { t with staged := s.staged } = s) (fun _ _ h => h) rfl
/-- A register of one word has no staged words. -/
theorem unstage_one (h : reg.words = 1) : s.unstage r reg = s := by simp [unstage, h]

/-- R12 to R14: an accepted whole write is the register's own effect. -/
theorem command_accepts (h : Accepts s r reg v) :
    s.command r reg v = (s.unstage r reg).writeReg r reg (reg.addr + reg.words - 1) v := by
  have hw : ∀ i, bits v (12 * i) 12 < 4096 := fun i => Nat.mod_lt _ (by decide)
  have hval : wholeValue reg (s.present reg) ((List.range reg.words).map fun i => (i, bits v (12 * i) 12)) = v := by
    unfold wholeValue
    rw [foldl_congr_mem (g := fun a j => a + bits v (12 * j) 12 * 4096 ^ j), sum_words, Nat.mod_eq_of_lt h.fits]
    intro j hj c
    have hj := List.mem_range.1 hj
    simp only [find_words hj, definedBits_eq (hw j) (h.defined j hj)]
  have hres : ((List.range reg.words).map fun i => (i, bits v (12 * i) 12)).find? (fun x => reg.reservedSet x.1 x.2) = none := by
    rw [List.find?_eq_none]
    intro x hx
    obtain ⟨i, hi, rfl⟩ := List.mem_map.1 hx
    simp [h.defined i (List.mem_range.1 hi)]
  have hrest := unstage_rest (s := s) (r := r) (reg := reg)
  have hrd : ∀ f, (s.unstage r reg).rd f = s.rd f := fun f => congrArg (fun t => t.rd f) hrest
  have hsl : (s.unstage r reg).sealed = s.sealed := congrArg (fun t => t.sealed) hrest
  have hlk : ∀ a, (s.unstage r reg).lockable a = s.lockable a := fun a => congrArg (fun t => t.lockable a) hrest
  have hlock : (s.unstage r reg).lockFields reg (reg.addr + reg.words - 1) v = (s.unstage r reg, v) := by
    unfold lockFields
    rw [if_pos]
    rw [List.filter_eq_nil_iff]
    intro f hf
    rw [hsl, hlk, hrd]
    cases hs : s.sealed
    · simp
    · cases hl : s.lockable f.acc
      · simp
      · simp [h.free hs f hf hl]
  unfold command
  simp only [h.reached.1, h.reached.2, h.may, Bool.false_eq_true, or_self, ↓reduceIte]
  unfold writeWhole
  simp only [hval, hres]
  unfold acceptWrite
  rw [hlock]

end State
end Sys2Proof.Machine
end

