-- ==== Sys2Proof/Laws/Kept.lean ====
section
/-! SUPPORT. What every operation of the model keeps: the queue, the canonical form of what is stored, the bits of OTP that are 1, and SAFE.
`Kept a t` says it of a state `t` reached from `a`; one lemma for each operation says that the operation keeps it. -/
namespace Sys2Proof.Machine
open Sys2Proof.Safety

/-- What `Kept` says, in terms of the fields that it concerns. -/
def KeptFields (a : State) (dev : DevState) (up : Bool) (pending : List Instr) (mem otp flash regs : SMap Nat) : Prop :=
  pending = a.pending ∧ (Stored a → StoredMaps mem otp flash regs) ∧
  (∀ i b, b < 12 → (a.otpWord i).testBit b = true → (otp.get 0 i).testBit b = true) ∧
  (a.dev = .safe → a.up = true → dev = .safe ∧ up = true ∨ up = false)

/-- State `t` follows `a`: the queue is the same, the stored maps keep their form, OTP loses no bit, and a device that has started leaves SAFE
only for a start-up to come. -/
def Kept (a t : State) : Prop := KeptFields a t.dev t.up t.pending t.mem t.otp t.flash t.regs

/-- An outcome is a next state that is `Kept`. -/
def OutKept (a : State) (o : Out) : Prop := ∃ t, o = .next t ∧ Kept a t
/-- The state that an instruction's effect carries is `Kept`. -/
def ResKept (a : State) : Res → Prop
  | .done t _ | .jump t _ _ | .transfer t _ _ | .trap t _ _ | .fault t _ _ | .stop t | .hold t => Kept a t
/-- An element of a micro-routine leaves a state that is `Kept`, or an effect whose state is. -/
def SumKept (a : State) : State ⊕ Res → Prop
  | .inl t => Kept a t
  | .inr r => ResKept a r
/-- An effect, if there is one, carries a state that is `Kept`. -/
def OptKept (a : State) (o : Option Res) : Prop := ∀ r, o = some r → ResKept a r

variable {a s t : State}

theorem Kept.refl : Kept s s := ⟨rfl, id, fun _ _ _ h => h, fun h u => .inl ⟨h, u⟩⟩
theorem OutKept.next (h : Kept a t) : OutKept a (.next t) := ⟨t, rfl, h⟩
theorem ResKept.done {p : Core → Core} (h : Kept a t) : ResKept a (.done t p) := h
theorem ResKept.jump {pc : Nat} {p : Core → Core} (h : Kept a t) : ResKept a (.jump t pc p) := h
theorem ResKept.transfer {n : Nat} {b : Bool} (h : Kept a t) : ResKept a (.transfer t n b) := h
theorem ResKept.trap {c d : Nat} (h : Kept a t) : ResKept a (.trap t c d) := h
theorem ResKept.fault {c d : Nat} (h : Kept a t) : ResKept a (.fault t c d) := h
theorem ResKept.stop (h : Kept a t) : ResKept a (.stop t) := h
theorem ResKept.hold (h : Kept a t) : ResKept a (.hold t) := h
theorem ResKept.ite {c : Prop} [Decidable c] {x y : Res} (hx : ResKept a x) (hy : ResKept a y) : ResKept a (if c then x else y) := by
  split
  · exact hx
  · exact hy
theorem SumKept.inl (h : Kept a t) : SumKept a (.inl t) := h
theorem SumKept.inr {r : Res} (h : ResKept a r) : SumKept a (.inr r) := h
theorem OptKept.none : OptKept a none := fun _ h => by cases h
theorem OptKept.some {r : Res} (h : ResKept a r) : OptKept a (some r) := fun _ e => by cases e; exact h

/-- A fold over a list keeps what each of its steps keeps. -/
theorem foldl_kept {α : Type} {l : List α} {f : State → α → State} (hf : ∀ t x, Kept a t → Kept a (f t x)) (h : Kept a s) :
    Kept a (l.foldl f s) := by
  induction l generalizing s with
  | nil => exact h
  | cons x r ih => exact ih (hf s x h)
theorem foldl_fst_kept {α β : Type} {l : List α} {f : State × β → α → State × β} {p : State × β}
    (hf : ∀ p x, Kept a p.1 → Kept a (f p x).1) (h : Kept a p.1) : Kept a (l.foldl f p).1 := by
  induction l generalizing p with
  | nil => exact h
  | cons x r ih => exact ih (hf p x h)
theorem State.each_kept {l : List Nat} {f : State → Nat → State} (hf : ∀ t x, Kept a t → Kept a (f t x)) (h : Kept a s) :
    Kept a (s.each l f) := foldl_kept hf h

/-! ### The operations that write what `Kept` concerns -/

theorem words_set {m : SMap Nat} {k v : Nat} (hv : v < 4096) (h : wordsOnly m = true) : wordsOnly (m.set 0 k v) = true := by
  simp only [wordsOnly, List.all_eq_true, decide_eq_true_eq] at h ⊢
  intro e he
  rcases SMap.mem_set he with ⟨rfl, _⟩ | he
  · exact hv
  · exact h e he
theorem words_filter {m : SMap Nat} {p : Nat × Nat → Bool} (h : wordsOnly m = true) : wordsOnly (m.filter p) = true := by
  simp only [wordsOnly, List.all_eq_true, decide_eq_true_eq] at h ⊢
  exact fun e he => h e (List.mem_of_mem_filter he)

theorem State.wr_kept {f : Fld} {v : Nat} (h : Kept a s) : Kept a (s.wr f v) :=
  ⟨h.1, fun w => { h.2.1 w with regForm := SMap.rising_set (h.2.1 w).regForm }, h.2.2.1, h.2.2.2⟩
theorem State.poke_kept {k v : Nat} (h : Kept a s) : Kept a (s.poke k v) :=
  ⟨h.1, fun w => { h.2.1 w with
    memForm := SMap.wf_set (h.2.1 w).memForm, memWords := words_set (Nat.mod_lt _ (by decide)) (h.2.1 w).memWords }, h.2.2.1, h.2.2.2⟩
theorem State.pokeFlash_kept {k v : Nat} (h : Kept a s) : Kept a (s.pokeFlash k v) := by
  refine ⟨h.1, fun w => { h.2.1 w with codeForm := ?_, codeWords := ?_ }, h.2.2.1, h.2.2.2⟩
  · exact SMap.rising_insert (Nat.zero_le k) SMap.free_erase (SMap.rising_erase (h.2.1 w).codeForm)
  · have hc := (h.2.1 w).codeWords
    simp only [wordsOnly, List.all_eq_true, decide_eq_true_eq] at hc ⊢
    intro e he
    rcases SMap.mem_insert he with rfl | he
    · exact Nat.mod_lt _ (by decide)
    · exact hc e (SMap.mem_erase he)
/-- R528, R545: programming a word of OTP keeps its bits that are 1. -/
theorem State.orOtp_kept {i v : Nat} (h : Kept a s) : Kept a (s.setOtp i (s.otpWord i ||| v)) := by
  refine ⟨h.1, fun w => { h.2.1 w with
    otpForm := SMap.wf_set (h.2.1 w).otpForm, otpWords := words_set (Nat.mod_lt _ (by decide)) (h.2.1 w).otpWords }, ?_, h.2.2.2⟩
  intro j b hb hj
  rw [show (s.setOtp i (s.otpWord i ||| v)).otp = s.otp.set 0 i ((s.otpWord i ||| v) % 2 ^ 12) from rfl, SMap.get_set]
  split
  · subst j
    have hi := h.2.2.1 i b hb hj
    rw [Nat.testBit_mod_two_pow, Nat.testBit_or]
    simp only [State.otpWord, hi, hb, decide_true, Bool.true_or, Bool.and_true]
  · exact h.2.2.1 j b hb hj

/-- A state in which the device has not started. -/
theorem Kept.down (h : Kept a t) (d : DevState) : KeptFields a d false t.pending t.mem t.otp t.flash t.regs :=
  ⟨h.1, h.2.1, h.2.2.1, fun _ _ => .inr rfl⟩
theorem Kept.down' (h : Kept a t) (d : DevState) (hu : t.up = false) : KeptFields a d t.up t.pending t.mem t.otp t.flash t.regs :=
  ⟨h.1, h.2.1, h.2.2.1, fun _ _ => .inr hu⟩
/-- From a device that has not started, start-up may set the state and end. -/
theorem Kept.start (h : Kept a t) (ha : a.up = false) (d : DevState) (u : Bool) : KeptFields a d u t.pending t.mem t.otp t.flash t.regs :=
  ⟨h.1, h.2.1, h.2.2.1, fun _ hu => by rw [ha] at hu; cases hu⟩

end Sys2Proof.Machine
end

