-- ==== Sys2Proof/Laws/KeptChannels.lean ====
section
/-! SUPPORT. What the shared operations, the channels, carousels, aspects and edges keep (`Kept`): one lemma for each operation. -/
namespace Sys2Proof.Machine
open Sys2Proof.Safety

/-! ### Ops -/

theorem State.put_kept {a s f b} (hs : Kept a s) : Kept a (State.put s f b) := by
  unfold State.put
  apply State.wr_kept
  exact hs
theorem State.bump_kept {a s f} (hs : Kept a s) : Kept a (State.bump s f) := by
  unfold State.bump
  apply State.wr_kept
  exact hs
theorem State.putBit_kept {a s f i b} (hs : Kept a s) : Kept a (State.putBit s f i b) := by
  unfold State.putBit
  extract_lets y0
  clear_value y0
  apply State.wr_kept
  exact hs
theorem State.mark_kept {a s f m} (hs : Kept a s) : Kept a (State.mark s f m) := by
  unfold State.mark
  exact hs
theorem State.raiseFlag_kept {a s f} (hs : Kept a s) : Kept a (State.raiseFlag s f) := by
  unfold State.raiseFlag
  apply State.mark_kept
  apply State.put_kept
  exact hs
theorem State.raiseBit_kept {a s f i} (hs : Kept a s) : Kept a (State.raiseBit s f i) := by
  unfold State.raiseBit
  apply State.mark_kept
  apply State.putBit_kept
  exact hs
theorem State.hwWrite_kept {a s f v} (hs : Kept a s) : Kept a (State.hwWrite s f v) := by
  unfold State.hwWrite
  apply State.mark_kept
  apply State.wr_kept
  exact hs
theorem State.softClear_kept {a s f v} (hs : Kept a s) : Kept a (State.softClear s f v) := by
  unfold State.softClear
  extract_lets y0
  clear_value y0
  apply State.wr_kept
  exact hs
theorem State.softWrite_kept {a s f v} (hs : Kept a s) : Kept a (State.softWrite s f v) := by
  unfold State.softWrite
  split
  · apply State.wr_kept
    exact hs
  · exact hs
theorem State.clear_kept {a s fs} (hs : Kept a s) : Kept a (State.clear s fs) := by
  unfold State.clear
  apply foldl_kept
  · intro x0 x1 h2
    apply State.wr_kept
    exact h2
  · exact hs
theorem State.setGen_kept {a s n g} (hs : Kept a s) : Kept a (State.setGen s n g) := by
  unfold State.setGen
  exact hs
theorem State.setProt_kept {a s n p} (hs : Kept a s) : Kept a (State.setProt s n p) := by
  unfold State.setProt
  exact hs
theorem State.modProt_kept {a s n f} (hs : Kept a s) : Kept a (State.modProt s n f) := by
  unfold State.modProt
  apply State.setProt_kept
  exact hs
theorem State.setPrf_kept {a s n p} (hs : Kept a s) : Kept a (State.setPrf s n p) := by
  unfold State.setPrf
  exact hs
theorem State.modPrf_kept {a s n f} (hs : Kept a s) : Kept a (State.modPrf s n f) := by
  unfold State.modPrf
  apply State.setPrf_kept
  exact hs
theorem State.modDie_kept {a s d f} (hs : Kept a s) : Kept a (State.modDie s d f) := by
  unfold State.modDie
  exact hs
theorem State.modSeqr_kept {a s q f} (hs : Kept a s) : Kept a (State.modSeqr s q f) := by
  unfold State.modSeqr
  exact hs
theorem State.modGroup_kept {a s g f} (hs : Kept a s) : Kept a (State.modGroup s g f) := by
  unfold State.modGroup
  exact hs
theorem State.modOptic_kept {a s i f} (hs : Kept a s) : Kept a (State.modOptic s i f) := by
  unfold State.modOptic
  exact hs
theorem State.modRx_kept {a s r f} (hs : Kept a s) : Kept a (State.modRx s r f) := by
  unfold State.modRx
  exact hs
theorem State.modGen_kept {a s n f} (hs : Kept a s) : Kept a (State.modGen s n f) := by
  unfold State.modGen
  apply State.setGen_kept
  exact hs
theorem State.modClu_kept {a s k f} (hs : Kept a s) : Kept a (State.modClu s k f) := by
  unfold State.modClu
  exact hs
theorem State.disrupt_kept {a s n} (hs : Kept a s) : Kept a (State.disrupt s n) := by
  unfold State.disrupt
  split
  · apply State.modRx_kept
    exact hs
  · exact hs
theorem State.modRecs_kept {a s f} (hs : Kept a s) : Kept a (State.modRecs s f) := by
  unfold State.modRecs
  exact hs
theorem State.queueItem_kept {a s i} (hs : Kept a s) : Kept a (State.queueItem s i) := by
  unfold State.queueItem
  apply State.modRecs_kept
  exact hs
theorem State.fresh_kept {a s} (hs : Kept a s) : Kept a (State.fresh s) := by
  unfold State.fresh
  exact hs
theorem State.stepDevice_kept {a s ofs} (hs : Kept a s) : Kept a (State.stepDevice s ofs) := by
  unfold State.stepDevice
  exact hs
theorem State.report_kept {a s cls src sev path data} (hs : Kept a s) : Kept a (State.report s cls src sev path data) := by
  unfold State.report
  extract_lets y0 y1
  clear_value y0
  clear_value y1
  exact hs
theorem State.flag_kept {a s v1 sev kind} (hs : Kept a s) : Kept a (State.flag s v1 sev kind) := by
  unfold State.flag
  apply State.report_kept
  exact hs
theorem State.timingRefusal_kept {a s n off} (hs : Kept a s) : Kept a (State.timingRefusal s n off) := by
  unfold State.timingRefusal
  apply State.report_kept
  exact hs
theorem State.enterState_kept {a s t} (hd : s.dev ≠ .safe) (h : Kept a s) : Kept a (State.enterState s t) := by
  have hs : ∀ (c : Option (Nat × DevState)) (w r : Nat) (b : Bool) (k : Coll),
      Kept a { s with dev := t, devAt := c, watchAt := w, wide := b, runAt := r, coll := k } := fun c w r b k =>
    ⟨h.1, h.2.1, h.2.2.1, fun x u => .inr ((h.2.2.2 x u).resolve_left fun y => hd y.1)⟩
  unfold State.enterState
  extract_lets u
  split
  · exact State.each_kept (fun _ _ hk => State.put_kept hk) (hs _ _ _ _ _)
  · exact hs _ _ s.runAt _ s.coll
theorem State.discarded_kept {a s} (hs : Kept a s) : Kept a (State.discarded s) := by
  unfold State.discarded
  apply State.report_kept
  exact hs
theorem State.dropSleep_kept {a s} (hs : Kept a s) : Kept a (State.dropSleep s) := by
  unfold State.dropSleep
  extract_lets y0
  clear_value y0
  split
  · apply State.discarded_kept
    exact hs
  · exact hs
theorem State.transition_kept {a s t} (h : Kept a s) : Kept a (State.transition s t) := by
  unfold State.transition
  extract_lets y
  have hy : Kept a y := State.dropSleep_kept h
  clear_value y
  split
  · split
    · exact hy
    · exact State.enterState_kept ‹_› hy
  · split
    · exact State.enterState_kept (And.left ‹_›) (State.discarded_kept hy)
    · exact State.discarded_kept hy
theorem State.requestRun_kept {a s} (hs : Kept a s) : Kept a (State.requestRun s) := by
  unfold State.requestRun
  split
  · apply State.transition_kept
    exact hs
  · exact hs
theorem State.requestStart_kept {a s k cause freq} (hs : Kept a s) : Kept a (State.requestStart s k cause freq) := by
  unfold State.requestStart
  split
  · exact hs
  · split
    · apply State.requestRun_kept
      exact hs
    · split
      · apply State.requestRun_kept
        apply State.modClu_kept
        apply State.wr_kept
        apply State.wr_kept
        apply State.wr_kept
        exact hs
      · split
        · apply State.wr_kept
          apply State.putBit_kept
          exact hs
        · apply State.modClu_kept
          exact hs
theorem State.startRouted_kept {a s src cause} (hs : Kept a s) : Kept a (State.startRouted s src cause) := by
  unfold State.startRouted
  apply State.each_kept
  · intro x0 x1 h2
    split
    · apply State.requestStart_kept
      exact h2
    · exact h2
  · exact hs

/-! ### Mem -/

theorem State.errorEvent_kept {a s key sev} (hs : Kept a s) : Kept a (State.errorEvent s key sev) := by
  unfold State.errorEvent
  split
  · apply State.report_kept
    apply State.fresh_kept
    exact hs
  · apply State.report_kept
    exact hs
theorem State.eccEvent_kept {a s key} (hs : Kept a s) : Kept a (State.eccEvent s key) := by
  unfold State.eccEvent
  apply State.errorEvent_kept
  exact hs
theorem State.spoil_kept {a s key} (hs : Kept a s) : Kept a (State.spoil s key) := by
  unfold State.spoil
  exact hs
theorem State.setCore_kept {a s q c} (hs : Kept a s) : Kept a (State.setCore s q c) := by
  unfold State.setCore
  exact hs
theorem State.modCore_kept {a s q f} (hs : Kept a s) : Kept a (State.modCore s q f) := by
  unfold State.modCore
  apply State.setCore_kept
  exact hs
theorem State.modEng_kept {a s e f} (hs : Kept a s) : Kept a (State.modEng s e f) := by
  unfold State.modEng
  exact hs
theorem State.modTwin_kept {a s t f} (hs : Kept a s) : Kept a (State.modTwin s t f) := by
  unfold State.modTwin
  exact hs
theorem State.pokeLocal_kept {a s q v2 v} (hs : Kept a s) : Kept a (State.pokeLocal s q v2 v) := by
  unfold State.pokeLocal
  split
  · apply State.poke_kept
    exact hs
  · apply State.poke_kept
    apply State.poke_kept
    exact hs
theorem State.dropCluster_kept {a s k} (h : Kept a s) : Kept a (State.dropCluster s k) := by
  unfold State.dropCluster
  extract_lets here
  refine ⟨h.1, fun w => { h.2.1 w with memForm := ?_, memWords := ?_ }, h.2.2.1, h.2.2.2⟩
  · exact SMap.wf_filter (h.2.1 w).memForm
  · exact words_filter (h.2.1 w).memWords
theorem State.raise_kept {a s q l} (hs : Kept a s) : Kept a (State.raise s q l) := by
  unfold State.raise
  split
  · exact hs
  · apply State.raiseBit_kept
    exact hs
theorem State.raisePair_kept {a s} (hs : Kept a s) : Kept a (State.raisePair s) := by
  unfold State.raisePair
  split
  · split
    · apply State.raise_kept
      exact hs
    · exact hs
  · exact hs
theorem State.raiseAll_kept {a s l} (hs : Kept a s) : Kept a (State.raiseAll s l) := by
  unfold State.raiseAll
  apply State.each_kept
  · intro x0 x1 h2
    apply State.raise_kept
    exact h2
  · exact hs

/-! ### Frames -/

theorem State.modConn_kept {a s c f} (hs : Kept a s) : Kept a (State.modConn s c f) := by
  unfold State.modConn
  exact hs
theorem State.checkersDisagree_kept {a s} (hs : Kept a s) : Kept a (State.checkersDisagree s) := by
  unfold State.checkersDisagree
  apply State.report_kept
  apply State.raiseFlag_kept
  exact hs
theorem State.transmit_kept {a s e peer words} (hs : Kept a s) : Kept a (State.transmit s e peer words) := by
  unfold State.transmit
  split
  · exact hs
  · split
    · exact hs
    · apply State.checkersDisagree_kept
      exact hs
theorem State.sendOn_kept {a s c payload} (hs : Kept a s) : Kept a (State.sendOn s c payload) := by
  unfold State.sendOn
  extract_lets y0 y1
  clear_value y0
  clear_value y1
  apply State.wr_kept
  apply State.transmit_kept
  exact hs
theorem State.sendKind_kept {a s c l} (hs : Kept a s) : Kept a (State.sendKind s c l) := by
  unfold State.sendKind
  apply State.sendOn_kept
  exact hs
theorem State.stopRequest_kept {a s f} (hs : Kept a s) : Kept a (State.stopRequest s f) := by
  unfold State.stopRequest
  apply State.each_kept
  · intro x0 x1 h2
    split
    · apply State.sendKind_kept
      exact h2
    · exact h2
  · exact hs

/-! ### Channel -/

theorem State.gatesOff_kept {a s n} (hs : Kept a s) : Kept a (State.gatesOff s n) := by
  unfold State.gatesOff
  apply State.modGen_kept
  exact hs
theorem State.clampDouble_kept {a s n x} (hs : Kept a s) : Kept a (State.clampDouble s n x) := by
  unfold State.clampDouble
  split
  · apply State.report_kept
    apply State.raiseFlag_kept
    exact hs
  · exact hs
theorem State.clampSafe_kept {a s n} (hs : Kept a s) : Kept a (State.clampSafe s n) := by
  unfold State.clampSafe
  split
  · apply State.clampDouble_kept
    exact hs
  · exact hs
theorem State.restartProof_kept {a s n x} (hs : Kept a s) : Kept a (State.restartProof s n x) := by
  unfold State.restartProof
  extract_lets y0 y1
  have h2 : Kept a y0 := by
    unfold y0
    apply State.modPrf_kept
    exact hs
  clear_value y0
  have h3 : Kept a y1 := by
    unfold y1
    apply State.wr_kept
    exact h2
  clear_value y1
  apply State.wr_kept
  exact h3
theorem State.updOpt_kept {a s} (hs : Kept a s) : Kept a (State.updOpt s) := by
  unfold State.updOpt
  exact hs
theorem State.updExp_kept {a s n} (hs : Kept a s) : Kept a (State.updExp s n) := by
  unfold State.updExp
  extract_lets y0 y1 y2
  clear_value y0
  have h3 : Kept a y1 := by
    unfold y1
    apply State.put_kept
    exact hs
  clear_value y1
  have h4 : Kept a y2 := by
    unfold y2
    apply State.disrupt_kept
    apply State.restartProof_kept
    exact h3
  clear_value y2
  split
  · exact h3
  · split
    · apply State.updOpt_kept
      exact h4
    · exact h4
theorem State.dropCloop_kept {a s n} (hs : Kept a s) : Kept a (State.dropCloop s n) := by
  unfold State.dropCloop
  split
  · apply State.flag_kept
    apply State.wr_kept
    exact hs
  · exact hs
theorem State.modeDisagree_kept {a s n} (hs : Kept a s) : Kept a (State.modeDisagree s n) := by
  unfold State.modeDisagree
  apply State.report_kept
  apply State.raiseFlag_kept
  exact hs
theorem State.seeRef_kept {a s n} (hs : Kept a s) : Kept a (State.seeRef s n) := by
  unfold State.seeRef
  split
  · apply State.modGen_kept
    exact hs
  · exact hs
theorem State.setAppl_kept {a s n x} (hs : Kept a s) : Kept a (State.setAppl s n x) := by
  unfold State.setAppl
  extract_lets y0 y1 y2 y3
  have h4 : Kept a y0 := by
    unfold y0
    apply State.clampDouble_kept
    exact hs
  clear_value y0
  clear_value y1
  clear_value y2
  have h5 : Kept a y3 := by
    unfold y3
    split
    · apply State.modProt_kept
      exact h4
    · split
      · exact h4
      · apply State.modeDisagree_kept
        apply State.raiseFlag_kept
        apply State.modProt_kept
        exact h4
  clear_value y3
  apply State.updExp_kept
  apply State.seeRef_kept
  apply State.wr_kept
  exact h5
theorem State.startHandOver_kept {a s n y0} (hs : Kept a s) : Kept a (State.startHandOver s n y0) := by
  unfold State.startHandOver
  extract_lets y0 y1 y2 y3
  clear_value y0
  clear_value y1
  clear_value y2
  have h4 : Kept a y3 := by
    unfold y3
    split
    · apply State.modeDisagree_kept
      exact hs
    · exact hs
  clear_value y3
  apply State.setAppl_kept
  apply State.put_kept
  apply State.modProt_kept
  exact h4
theorem State.pairHandOver_kept {a s n y0} (hs : Kept a s) : Kept a (State.pairHandOver s n y0) := by
  unfold State.pairHandOver
  apply State.setAppl_kept
  apply State.put_kept
  apply State.modProt_kept
  exact hs
theorem State.refreshAppl_kept {a s n} (hs : Kept a s) : Kept a (State.refreshAppl s n) := by
  unfold State.refreshAppl
  apply State.setAppl_kept
  exact hs
theorem State.reclamp_kept {a s n} (hs : Kept a s) : Kept a (State.reclamp s n) := by
  unfold State.reclamp
  split
  · apply State.updExp_kept
    apply State.dropCloop_kept
    exact hs
  · apply State.refreshAppl_kept
    apply State.dropCloop_kept
    exact hs
theorem State.updLease_kept {a s n} (hs : Kept a s) : Kept a (State.updLease s n) := by
  unfold State.updLease
  extract_lets y0 y1
  clear_value y0
  have h2 : Kept a y1 := by
    unfold y1
    apply State.put_kept
    exact hs
  clear_value y1
  split
  · exact hs
  · split
    · apply State.modProt_kept
      apply State.wr_kept
      exact h2
    · exact h2
theorem State.freezeGen_kept {a s n} (hs : Kept a s) : Kept a (State.freezeGen s n) := by
  unfold State.freezeGen
  split
  · exact hs
  · apply State.modGen_kept
    apply State.put_kept
    exact hs
theorem State.thawGen_kept {a s n} (hs : Kept a s) : Kept a (State.thawGen s n) := by
  unfold State.thawGen
  extract_lets y0
  clear_value y0
  apply State.modGen_kept
  apply State.put_kept
  exact hs
theorem State.freeze_kept {a s n} (hs : Kept a s) : Kept a (State.freeze s n) := by
  unfold State.freeze
  split
  · split
    · apply State.freezeGen_kept
      apply State.freezeGen_kept
      exact hs
    · apply State.freezeGen_kept
      exact hs
  · exact hs
theorem State.unfreeze_kept {a s n} (hs : Kept a s) : Kept a (State.unfreeze s n) := by
  unfold State.unfreeze
  extract_lets y0
  have h1 : Kept a y0 := by
    unfold y0
    split
    · apply State.reclamp_kept
      apply State.thawGen_kept
      exact hs
    · exact hs
  clear_value y0
  split
  · apply State.reclamp_kept
    apply State.thawGen_kept
    exact h1
  · exact h1
theorem State.restGates_kept {a s n} (hs : Kept a s) : Kept a (State.restGates s n) := by
  unfold State.restGates
  split
  · apply State.modGen_kept
    apply State.gatesOff_kept
    exact hs
  · apply State.modGen_kept
    exact hs
theorem State.enterSafeGen_kept {a s n} (hs : Kept a s) : Kept a (State.enterSafeGen s n) := by
  unfold State.enterSafeGen
  extract_lets y0 y1 y2
  have h3 : Kept a y0 := by
    unfold y0
    apply State.unfreeze_kept
    exact hs
  clear_value y0
  have h4 : Kept a y1 := by
    unfold y1
    split
    · exact h3
    · apply State.modGen_kept
      apply State.wr_kept
      exact h3
  clear_value y1
  have h5 : Kept a y2 := by
    unfold y2
    split
    · apply State.restGates_kept
      exact h4
    · exact h4
  clear_value y2
  apply State.disrupt_kept
  apply State.updExp_kept
  apply State.seeRef_kept
  exact h5
theorem State.setLatch_kept {a s n cause ev} (hs : Kept a s) : Kept a (State.setLatch s n cause ev) := by
  unfold State.setLatch
  extract_lets y0 y1 y2 y3 y4 y5 y6
  clear_value y0
  clear_value y1
  clear_value y2
  have h7 : Kept a y3 := by
    unfold y3
    apply State.modProt_kept
    exact hs
  clear_value y3
  have h8 : Kept a y4 := by
    unfold y4
    split
    · apply State.modProt_kept
      exact h7
    · exact h7
  clear_value y4
  have h9 : Kept a y5 := by
    unfold y5
    apply State.put_kept
    apply State.wr_kept
    exact h8
  clear_value y5
  have h10 : Kept a y6 := by
    unfold y6
    apply State.enterSafeGen_kept
    apply State.clampSafe_kept
    exact h9
  clear_value y6
  split
  · exact hs
  · split
    · apply State.enterSafeGen_kept
      apply State.clampSafe_kept
      exact h10
    · exact h10
theorem State.setLatches_kept {a s l cause ev} (hs : Kept a s) : Kept a (State.setLatches s l cause ev) := by
  unfold State.setLatches
  apply State.each_kept
  · intro x0 x1 h2
    apply State.setLatch_kept
    exact h2
  · exact hs
theorem State.clearLatch_kept {a s n} (hs : Kept a s) : Kept a (State.clearLatch s n) := by
  unfold State.clearLatch
  extract_lets y0 y1 y2 y3 y4 y5 y6 y7 y8
  clear_value y0
  clear_value y1
  have h9 : Kept a y2 := by
    unfold y2
    apply State.wr_kept
    apply State.put_kept
    exact hs
  clear_value y2
  have h10 : Kept a y3 := by
    unfold y3
    apply State.modProt_kept
    exact h9
  clear_value y3
  have h11 : ∀ z0 z1, Kept a z0 → Kept a (y4 z0 z1) := by
    unfold y4
    intro x12 x13 h14
    extract_lets y15
    have h16 : Kept a y15 := by
      unfold y15
      apply State.modGen_kept
      exact h14
    clear_value y15
    split
    · exact h16
    · apply State.put_kept
      exact h16
  clear_value y4
  have h17 : Kept a y5 := by
    unfold y5
    apply h11
    exact h10
  clear_value y5
  have h18 : Kept a y6 := by
    unfold y6
    split
    · apply h11
      exact h17
    · exact h17
  clear_value y6
  have h19 : Kept a y7 := by
    unfold y7
    apply State.startHandOver_kept
    exact h18
  clear_value y7
  have h20 : Kept a y8 := by
    unfold y8
    apply State.restartProof_kept
    exact h19
  clear_value y8
  apply State.updLease_kept
  exact h20
theorem State.installSet_kept {a s n d} (hs : Kept a s) : Kept a (State.installSet s n d) := by
  unfold State.installSet
  extract_lets y0 y1 y2 y3 y4 y5 y6 y7 y8 y9 y10 y11 y12
  clear_value y0
  have h13 : Kept a y1 := by
    unfold y1
    split
    · exact hs
    · apply State.dropCloop_kept
      exact hs
  clear_value y1
  have h14 : Kept a y2 := by
    unfold y2
    split
    · apply State.flag_kept
      exact h13
    · exact h13
  clear_value y2
  clear_value y3
  clear_value y4
  clear_value y5
  clear_value y6
  have h15 : Kept a y7 := by
    unfold y7
    apply State.modProt_kept
    exact h14
  clear_value y7
  have h16 : Kept a y8 := by
    unfold y8
    apply State.wr_kept
    apply State.wr_kept
    exact h15
  clear_value y8
  have h17 : Kept a y9 := by
    unfold y9
    split
    · apply State.put_kept
      exact h16
    · exact h16
  clear_value y9
  have h18 : Kept a y10 := by
    unfold y10
    split
    · apply State.report_kept
      exact h17
    · exact h17
  clear_value y10
  have h19 : Kept a y11 := by
    unfold y11
    split
    · apply State.startHandOver_kept
      exact h18
    · apply State.refreshAppl_kept
      exact h18
  clear_value y11
  have h20 : Kept a y12 := by
    unfold y12
    split
    · apply State.startRouted_kept
      exact h19
    · exact h19
  clear_value y12
  apply State.updLease_kept
  exact h20
theorem State.installDeferred_kept {a s n} (hs : Kept a s) : Kept a (State.installDeferred s n) := by
  unfold State.installDeferred
  split
  · exact hs
  · split
    · exact hs
    · apply State.installSet_kept
      exact hs
theorem State.applyOrDefer_kept {a s n d} (hs : Kept a s) : Kept a (State.applyOrDefer s n d) := by
  unfold State.applyOrDefer
  split
  · apply State.modProt_kept
    exact hs
  · apply State.installSet_kept
    exact hs
theorem State.applyShadow_kept {a s n} (hs : Kept a s) : Kept a (State.applyShadow s n) := by
  unfold State.applyShadow
  extract_lets y0 y1 y2
  clear_value y0
  clear_value y1
  have h3 : Kept a y2 := by
    unfold y2
    split
    · apply State.flag_kept
      exact hs
    · exact hs
  clear_value y2
  split
  · exact hs
  · apply State.applyOrDefer_kept
    apply State.put_kept
    exact h3
theorem State.modBcast_kept {a s f} (hs : Kept a s) : Kept a (State.modBcast s f) := by
  unfold State.modBcast
  exact hs
theorem State.updWatch_kept {a s} (hs : Kept a s) : Kept a (State.updWatch s) := by
  unfold State.updWatch
  split
  · apply State.modBcast_kept
    exact hs
  · apply State.modBcast_kept
    exact hs
  · exact hs
theorem State.trip_kept {a s n f d} (hs : Kept a s) : Kept a (State.trip s n f d) := by
  unfold State.trip
  extract_lets y0
  have h1 : Kept a y0 := by
    unfold y0
    apply State.bump_kept
    apply State.gatesOff_kept
    apply State.raiseFlag_kept
    exact hs
  clear_value y0
  apply State.disrupt_kept
  apply State.report_kept
  exact h1
theorem State.startAdj_kept {a s n} (hs : Kept a s) : Kept a (State.startAdj s n) := by
  unfold State.startAdj
  split
  · exact hs
  · split
    · apply State.put_kept
      apply State.wr_kept
      exact hs
    · apply State.disrupt_kept
      apply State.put_kept
      exact hs
theorem State.shortTrip_kept {a s n f d} (hs : Kept a s) : Kept a (State.shortTrip s n f d) := by
  unfold State.shortTrip
  extract_lets y0
  have h1 : Kept a y0 := by
    unfold y0
    apply State.trip_kept
    exact hs
  clear_value y0
  split
  · apply State.startAdj_kept
    exact h1
  · exact h1
theorem State.budgetRefusal_kept {a s n} (hs : Kept a s) : Kept a (State.budgetRefusal s n) := by
  unfold State.budgetRefusal
  apply State.report_kept
  apply State.raiseFlag_kept
  exact hs
theorem State.budgeted_kept {a s n t} (hs : Kept a s) (hb : Kept a t) : Kept a (State.budgeted s n t) := by
  unfold State.budgeted
  split
  · exact hb
  · apply State.budgetRefusal_kept
    exact hs

/-! ### Carousel -/

theorem State.startLit_kept {a s old n} (hs : Kept a s) (hb : Kept a old) : Kept a (State.startLit s old n) := by
  unfold State.startLit
  split
  · apply State.startRouted_kept
    exact hs
  · exact hs
theorem State.trackChanged_kept {a s d q t} (hs : Kept a s) : Kept a (State.trackChanged s d q t) := by
  unfold State.trackChanged
  apply State.each_kept
  · intro x0 x1 h2
    apply State.startLit_kept
    · apply State.reclamp_kept
      exact h2
    · exact h2
  · exact hs
theorem State.setTrack_kept {a s d q t v} (hs : Kept a s) : Kept a (State.setTrack s d q t v) := by
  unfold State.setTrack
  apply State.trackChanged_kept
  apply State.wr_kept
  exact hs
theorem State.setPc_kept {a s d q pc} (hs : Kept a s) : Kept a (State.setPc s d q pc) := by
  unfold State.setPc
  apply State.wr_kept
  apply State.modSeqr_kept
  exact hs
theorem State.setStack_kept {a s d q st} (hs : Kept a s) : Kept a (State.setStack s d q st) := by
  unfold State.setStack
  apply State.wr_kept
  apply State.modSeqr_kept
  exact hs
theorem State.endRamp_kept {a s d q t} (hs : Kept a s) : Kept a (State.endRamp s d q t) := by
  unfold State.endRamp
  apply State.modSeqr_kept
  exact hs
theorem State.primeSeq_kept {a s d q} (hs : Kept a s) : Kept a (State.primeSeq s d q) := by
  unfold State.primeSeq
  extract_lets y0 y1
  have h2 : Kept a y0 := by
    unfold y0
    apply State.modSeqr_kept
    exact hs
  clear_value y0
  have h3 : Kept a y1 := by
    unfold y1
    apply State.setStack_kept
    apply State.wr_kept
    apply State.wr_kept
    exact h2
  clear_value y1
  apply State.setPc_kept
  apply State.each_kept
  · intro x4 x5 h6
    apply State.wr_kept
    exact h6
  · exact h3
theorem State.tracksChanged_kept {a s d q} (hs : Kept a s) : Kept a (State.tracksChanged s d q) := by
  unfold State.tracksChanged
  apply State.each_kept
  · intro x0 x1 h2
    apply State.trackChanged_kept
    exact h2
  · exact hs
theorem State.seqRefusal_kept {a s d q} (hs : Kept a s) : Kept a (State.seqRefusal s d q) := by
  unfold State.seqRefusal
  split
  · apply State.budgetRefusal_kept
    exact hs
  · exact hs
theorem State.tryPrime_kept {a s d q} (hs : Kept a s) : Kept a (State.tryPrime s d q).1 := by
  unfold State.tryPrime
  extract_lets y0
  have h1 : Kept a y0 := by
    unfold y0
    apply State.primeSeq_kept
    exact hs
  clear_value y0
  split
  · dsimp only
    exact hs
  · split
    · dsimp only
      exact h1
    · dsimp only
      apply State.seqRefusal_kept
      exact hs
theorem State.startSeq_kept {a s d q} (hs : Kept a s) : Kept a (State.startSeq s d q) := by
  unfold State.startSeq
  extract_lets y0
  have h1 : Kept a y0.1 := by
    unfold y0
    apply State.tryPrime_kept
    exact hs
  clear_value y0
  split
  · apply State.tracksChanged_kept
    exact h1
  · exact h1
theorem State.stopSeq_kept {a s d q} (hs : Kept a s) : Kept a (State.stopSeq s d q) := by
  unfold State.stopSeq
  extract_lets y0 y1
  have h2 : Kept a y0 := by
    unfold y0
    apply State.modSeqr_kept
    exact hs
  clear_value y0
  have h3 : Kept a y1 := by
    unfold y1
    apply State.setStack_kept
    apply State.wr_kept
    apply State.wr_kept
    exact h2
  clear_value y1
  apply State.tracksChanged_kept
  apply State.each_kept
  · intro x4 x5 h6
    apply State.wr_kept
    exact h6
  · exact h3
theorem State.stopDie_kept {a s d} (hs : Kept a s) : Kept a (State.stopDie s d) := by
  unfold State.stopDie
  apply State.each_kept
  · intro x0 x1 h2
    apply State.stopSeq_kept
    exact h2
  · exact hs
theorem State.seqError_kept {a s d q err} (hs : Kept a s) : Kept a (State.seqError s d q err) := by
  unfold State.seqError
  extract_lets y0
  have h1 : Kept a y0 := by
    unfold y0
    apply State.modSeqr_kept
    exact hs
  clear_value y0
  apply State.report_kept
  apply State.wr_kept
  apply State.wr_kept
  exact h1
theorem State.pattern_kept {a s d q op len zero body} (hs : Kept a s) (hb : ∀ z0 z1 z2, Kept a z0 → Kept a (body z0 z1 z2)) : Kept a (State.pattern s d q op len zero body) := by
  unfold State.pattern
  extract_lets y0 y1
  clear_value y0
  clear_value y1
  split
  · exact hs
  · split
    · apply State.seqError_kept
      exact hs
    · split
      · exact hs
      · split
        · apply State.seqError_kept
          exact hs
        · split
          · apply State.seqError_kept
            exact hs
          · apply hb
            exact hs
theorem State.writeCarCtl_kept {a s d q v} (hs : Kept a s) : Kept a (State.writeCarCtl s d q v) := by
  unfold State.writeCarCtl
  extract_lets y0 y1 y2 y3
  clear_value y0
  clear_value y1
  have h4 : Kept a y2 := by
    unfold y2
    split
    · apply State.put_kept
      exact hs
    · exact hs
  clear_value y2
  have h5 : Kept a y3 := by
    unfold y3
    apply State.startSeq_kept
    exact h4
  clear_value y3
  split
  · apply State.modSeqr_kept
    apply State.stopSeq_kept
    exact h4
  · split
    · split
      · apply State.report_kept
        apply State.bump_kept
        exact h5
      · exact h5
    · exact h4
theorem State.carRefusal_kept {a s d q v3} (hs : Kept a s) : Kept a (State.carRefusal s d q v3) := by
  unfold State.carRefusal
  apply State.report_kept
  exact hs
theorem State.writeCarCfg_kept {a s d q v} (hs : Kept a s) : Kept a (State.writeCarCfg s d q v) := by
  unfold State.writeCarCfg
  extract_lets y0
  have h1 : Kept a y0 := by
    unfold y0
    apply State.wr_kept
    apply State.wr_kept
    exact hs
  clear_value y0
  split
  · apply State.carRefusal_kept
    exact hs
  · split
    · apply State.flag_kept
      exact h1
    · exact h1
theorem State.writeCarMem_kept {a s d q i v} (hs : Kept a s) : Kept a (State.writeCarMem s d q i v) := by
  unfold State.writeCarMem
  split
  · apply State.carRefusal_kept
    exact hs
  · apply State.wr_kept
    exact hs
theorem State.endWait_kept {a s d q} (hs : Kept a s) : Kept a (State.endWait s d q) := by
  unfold State.endWait
  apply State.setPc_kept
  apply State.wr_kept
  exact hs
theorem execLvl_kept {a d q s} (hs : Kept a s) : OutKept a (execLvl d q s) := by
  unfold execLvl
  apply OutKept.next
  apply State.pattern_kept
  · exact hs
  · intro x0 x1 x2 h3
    extract_lets y4
    clear_value y4
    apply State.setPc_kept
    apply State.setTrack_kept
    apply State.endRamp_kept
    exact h3
theorem execRmp_kept {a d q s} (hs : Kept a s) : OutKept a (execRmp d q s) := by
  unfold execRmp
  apply OutKept.next
  apply State.pattern_kept
  · exact hs
  · intro x0 x1 x2 h3
    extract_lets y4 y5 y6
    clear_value y4
    clear_value y5
    have h7 : Kept a y6 := by
      unfold y6
      split
      · exact h3
      · apply State.modSeqr_kept
        exact h3
    clear_value y6
    apply State.setPc_kept
    exact h7
theorem execRampStep_kept {a d q t s} (hs : Kept a s) : OutKept a (execRampStep d q t s) := by
  unfold execRampStep
  apply OutKept.next
  split
  · exact hs
  · extract_lets y0 y1 y2
    clear_value y0
    clear_value y1
    have h3 : Kept a y2 := by
      unfold y2
      apply State.modSeqr_kept
      apply State.setTrack_kept
      exact hs
    clear_value y2
    split
    · exact hs
    · split
      · apply State.endRamp_kept
        exact h3
      · exact h3
theorem execPatternWait_kept {a d q s} (hs : Kept a s) : OutKept a (execPatternWait d q s) := by
  unfold execPatternWait
  apply OutKept.next
  apply State.pattern_kept
  · exact hs
  · intro x0 x1 x2 h3
    extract_lets y4
    clear_value y4
    split
    · apply State.setPc_kept
      exact h3
    · apply State.modSeqr_kept
      apply State.wr_kept
      exact h3
theorem execPatternWaitEnd_kept {a d q s} (hs : Kept a s) : OutKept a (execPatternWaitEnd d q s) := by
  unfold execPatternWaitEnd
  apply OutKept.next
  split
  · apply State.endWait_kept
    exact hs
  · exact hs
theorem execRot_kept {a d q s} (hs : Kept a s) : OutKept a (execRot d q s) := by
  unfold execRot
  apply OutKept.next
  apply State.pattern_kept
  · exact hs
  · intro x0 x1 x2 h3
    extract_lets y4 y5 y6 y7
    clear_value y4
    clear_value y5
    clear_value y6
    have h8 : Kept a y7 := by
      unfold y7
      apply State.each_kept
      · intro x9 x10 h11
        apply State.endRamp_kept
        exact h11
      · exact h3
    clear_value y7
    apply State.setPc_kept
    apply foldl_kept
    · intro x12 x13 h14
      apply State.setTrack_kept
      exact h14
    · exact h8
theorem execPatternLoop_kept {a d q s} (hs : Kept a s) : OutKept a (execPatternLoop d q s) := by
  unfold execPatternLoop
  apply OutKept.next
  apply State.pattern_kept
  · exact hs
  · intro x0 x1 x2 h3
    extract_lets y4 y5
    clear_value y4
    clear_value y5
    split
    · apply State.setPc_kept
      exact h3
    · split
      · apply State.seqError_kept
        exact h3
      · apply State.setPc_kept
        apply State.setStack_kept
        exact h3
theorem execNext_kept {a d q s} (hs : Kept a s) : OutKept a (execNext d q s) := by
  unfold execNext
  apply OutKept.next
  apply State.pattern_kept
  · exact hs
  · intro x0 x1 x2 h3
    split
    · apply State.seqError_kept
      exact h3
    · split
      · apply State.setPc_kept
        apply State.setStack_kept
        exact h3
      · apply State.setPc_kept
        apply State.setStack_kept
        exact h3
theorem execJmp_kept {a d q s} (hs : Kept a s) : OutKept a (execJmp d q s) := by
  unfold execJmp
  apply OutKept.next
  apply State.pattern_kept
  · exact hs
  · intro x0 x1 x2 h3
    extract_lets y4
    clear_value y4
    split
    · apply State.seqError_kept
      exact h3
    · split
      · apply State.wr_kept
        apply State.wr_kept
        apply State.modSeqr_kept
        exact h3
      · apply State.setPc_kept
        exact h3
theorem execApl_kept {a d q s} (hs : Kept a s) : OutKept a (execApl d q s) := by
  unfold execApl
  apply OutKept.next
  apply State.pattern_kept
  · exact hs
  · intro x0 x1 x2 h3
    apply State.setPc_kept
    apply State.each_kept
    · intro x4 x5 h6
      apply State.applyShadow_kept
      exact h6
    · exact h3

/-! ### Aspect -/

theorem State.loadSlot_kept {a s n v2} (hs : Kept a s) : Kept a (State.loadSlot s n v2) := by
  unfold State.loadSlot
  extract_lets y0 y1 y2 y3 y4
  clear_value y0
  have h5 : Kept a y1 := by
    unfold y1
    split
    · apply State.raiseFlag_kept
      exact hs
    · exact hs
  clear_value y1
  clear_value y2
  have h6 : Kept a y3 := by
    unfold y3
    split
    · apply State.wr_kept
      apply State.wr_kept
      split
      · apply State.wr_kept
        exact h5
      · apply State.wr_kept
        exact h5
    · apply State.wr_kept
      split
      · apply State.wr_kept
        exact h5
      · apply State.wr_kept
        exact h5
    · apply State.wr_kept
      apply State.wr_kept
      exact h5
  clear_value y3
  have h7 : Kept a y4 := by
    unfold y4
    apply State.put_kept
    apply State.put_kept
    exact h6
  clear_value y4
  split
  · apply State.reclamp_kept
    exact hs
  · apply State.updExp_kept
    apply State.applyOrDefer_kept
    exact h7
theorem State.wakeForAspect_kept {a s v1} (hs : Kept a s) : Kept a (State.wakeForAspect s v1) := by
  unfold State.wakeForAspect
  split
  · apply State.startRouted_kept
    exact hs
  · exact hs
theorem State.startAndLoad_kept {a s g v2 l} (hs : Kept a s) : Kept a (State.startAndLoad s g v2 l) := by
  unfold State.startAndLoad
  apply State.each_kept
  · intro x0 x1 h2
    apply State.loadSlot_kept
    exact h2
  · apply State.each_kept
    · intro x3 x4 h5
      apply State.primeSeq_kept
      exact h5
    · exact hs
theorem State.switchGroup_kept {a s g v2} (hs : Kept a s) : Kept a (State.switchGroup s g v2) := by
  unfold State.switchGroup
  extract_lets y0 y1 y2 y3
  have h4 : Kept a y0 := by
    unfold y0
    apply State.wr_kept
    apply State.put_kept
    apply State.wr_kept
    exact hs
  clear_value y0
  have h5 : Kept a y1 := by
    unfold y1
    apply State.modGroup_kept
    exact h4
  clear_value y1
  clear_value y2
  have h6 : Kept a y3 := by
    unfold y3
    apply State.each_kept
    · intro x7 x8 h9
      apply State.seqRefusal_kept
      exact h9
    · apply State.startAndLoad_kept
      exact h5
  clear_value y3
  apply State.wakeForAspect_kept
  apply State.each_kept
  · intro x10 x11 h12
    apply State.tracksChanged_kept
    exact h12
  · exact h6
theorem State.abortReentry_kept {a s} (hs : Kept a s) : Kept a (State.abortReentry s) := by
  unfold State.abortReentry
  extract_lets y0
  clear_value y0
  apply State.raisePair_kept
  apply State.report_kept
  apply State.wr_kept
  exact hs
theorem State.takeRequest_kept {a s g} (hs : Kept a s) : Kept a (State.takeRequest s g) := by
  unfold State.takeRequest
  extract_lets y0
  clear_value y0
  split
  · exact hs
  · split
    · apply State.switchGroup_kept
      apply State.hwWrite_kept
      exact hs
    · exact hs
theorem State.reqRecord_kept {a s g sev} (hs : Kept a s) : Kept a (State.reqRecord s g sev) := by
  unfold State.reqRecord
  apply State.report_kept
  exact hs
theorem State.requestAspect_kept {a s g v2 trig} (hs : Kept a s) : Kept a (State.requestAspect s g v2 trig) := by
  unfold State.requestAspect
  extract_lets y0
  have h1 : Kept a y0 := by
    unfold y0
    split
    · apply State.reqRecord_kept
      exact hs
    · exact hs
  clear_value y0
  split
  · apply State.reqRecord_kept
    apply State.put_kept
    apply State.wr_kept
    apply State.wr_kept
    exact hs
  · apply State.put_kept
    apply State.wr_kept
    apply State.wr_kept
    exact h1
theorem State.demandAspect_kept {a s v1} (hs : Kept a s) : Kept a (State.demandAspect s v1) := by
  unfold State.demandAspect
  extract_lets y0 y1
  clear_value y0
  have h2 : Kept a y1 := by
    unfold y1
    split
    · apply State.abortReentry_kept
      exact hs
    · exact hs
  clear_value y1
  apply State.switchGroup_kept
  apply State.hwWrite_kept
  apply State.put_kept
  exact h2
theorem State.updDemand_kept {a s g} (hs : Kept a s) : Kept a (State.updDemand s g) := by
  unfold State.updDemand
  split
  · apply State.put_kept
    exact hs
  · exact hs
theorem State.syncAction_kept {a s} (hs : Kept a s) : Kept a (State.syncAction s) := by
  unfold State.syncAction
  extract_lets y0 y1
  have h2 : Kept a y0 := by
    unfold y0
    apply State.each_kept
    · intro x3 x4 h5
      split
      · apply State.takeRequest_kept
        exact h5
      · exact h5
    · exact hs
  clear_value y0
  have h6 : Kept a y1 := by
    unfold y1
    apply State.raiseAll_kept
    apply State.each_kept
    · intro x7 x8 h9
      split
      · apply State.applyShadow_kept
        exact h9
      · exact h9
    · exact h2
  clear_value y1
  apply State.each_kept
  · intro x10 x11 h12
    extract_lets y13 y14
    clear_value y13
    clear_value y14
    split
    · apply State.startSeq_kept
      apply State.put_kept
      exact h12
    · split
      · apply State.endWait_kept
        exact h12
      · exact h12
  · exact h6
theorem State.dueSync_kept {a s at'} (hs : Kept a s) : Kept a (State.dueSync s at') := by
  unfold State.dueSync
  extract_lets y0
  clear_value y0
  exact hs
theorem State.schedSync_kept {a s at'} (hs : Kept a s) : Kept a (State.schedSync s at') := by
  unfold State.schedSync
  extract_lets y0
  clear_value y0
  apply State.dueSync_kept
  exact hs
theorem State.setTagged_kept {a s l} (hs : Kept a s) : Kept a (State.setTagged s l) := by
  unfold State.setTagged
  extract_lets y0
  clear_value y0
  apply State.wr_kept
  exact hs
theorem State.tagAct_kept {a s t later} (hs : Kept a s) : Kept a (State.tagAct s t later) := by
  unfold State.tagAct
  extract_lets y0
  have h1 : Kept a y0 := by
    unfold y0
    apply foldl_kept
    · intro x2 x3 h4
      split
      · apply State.reqRecord_kept
        exact h4
      · apply State.modGroup_kept
        apply State.mark_kept
        apply State.requestAspect_kept
        exact h4
    · exact hs
  clear_value y0
  apply State.dueSync_kept
  exact h1
theorem State.tagArrive_kept {a s t} (hs : Kept a s) : Kept a (State.tagArrive s t) := by
  unfold State.tagArrive
  split
  · split
    · apply State.setTagged_kept
      exact hs
    · apply State.report_kept
      exact hs
  · split
    · apply State.tagAct_kept
      apply State.report_kept
      exact hs
    · apply State.report_kept
      exact hs
theorem State.writeShadow_kept {a s n t} (hs : Kept a s) (hb : Kept a t) : Kept a (State.writeShadow s n t) := by
  unfold State.writeShadow
  extract_lets y0
  have h1 : Kept a y0 := by
    unfold y0
    apply State.put_kept
    exact hb
  clear_value y0
  apply State.budgeted_kept
  · exact hs
  · exact h1
theorem State.writeSduty_kept {a s n v} (hs : Kept a s) : Kept a (State.writeSduty s n v) := by
  unfold State.writeSduty
  apply State.writeShadow_kept
  · exact hs
  · apply State.wr_kept
    exact hs
theorem State.writeSref_kept {a s n v} (hs : Kept a s) : Kept a (State.writeSref s n v) := by
  unfold State.writeSref
  apply State.writeShadow_kept
  · exact hs
  · apply State.wr_kept
    exact hs
theorem State.writeSctl_kept {a s n v} (hs : Kept a s) : Kept a (State.writeSctl s n v) := by
  unfold State.writeSctl
  extract_lets y0 y1
  have h2 : Kept a y0 := by
    unfold y0
    apply State.wr_kept
    apply State.wr_kept
    apply State.wr_kept
    exact hs
  clear_value y0
  have h3 : Kept a y1 := by
    unfold y1
    apply State.writeShadow_kept
    · exact hs
    · exact h2
  clear_value y1
  split
  · apply State.flag_kept
    exact h3
  · exact h3
theorem State.discard_kept {a s n} (hs : Kept a s) : Kept a (State.discard s n) := by
  unfold State.discard
  apply State.wr_kept
  apply State.wr_kept
  apply State.wr_kept
  apply State.wr_kept
  apply State.put_kept
  exact hs
theorem State.writeScmd_kept {a s n v} (hs : Kept a s) : Kept a (State.writeScmd s n v) := by
  unfold State.writeScmd
  extract_lets y0
  have h1 : Kept a y0 := by
    unfold y0
    split
    · apply State.applyShadow_kept
      exact hs
    · exact hs
  clear_value y0
  split
  · apply State.discard_kept
    exact h1
  · exact h1
theorem State.writeAgrp_kept {a s n v} (hs : Kept a s) : Kept a (State.writeAgrp s n v) := by
  unfold State.writeAgrp
  apply State.reclamp_kept
  apply State.budgeted_kept
  · exact hs
  · apply State.wr_kept
    apply State.wr_kept
    exact hs
theorem State.writeCarb_kept {a s n v} (hs : Kept a s) : Kept a (State.writeCarb s n v) := by
  unfold State.writeCarb
  extract_lets y0
  have h1 : Kept a y0 := by
    unfold y0
    apply State.budgeted_kept
    · exact hs
    · apply State.wr_kept
      apply State.wr_kept
      exact hs
  clear_value y0
  apply State.reclamp_kept
  split
  · apply State.flag_kept
    exact h1
  · exact h1
theorem State.writeSlot_kept {a s n v2 v} (hs : Kept a s) : Kept a (State.writeSlot s n v2 v) := by
  unfold State.writeSlot
  extract_lets y0 y1 y2 y3
  clear_value y0
  clear_value y1
  have h4 : Kept a y2 := by
    unfold y2
    apply State.wr_kept
    apply State.wr_kept
    exact hs
  clear_value y2
  have h5 : Kept a y3 := by
    unfold y3
    apply State.budgeted_kept
    · exact hs
    · exact h4
  clear_value y3
  apply State.reclamp_kept
  split
  · apply State.flag_kept
    exact h5
  · exact h5
theorem State.writeAsp_kept {a s t v2} (hs : Kept a s) (hb : Kept a t) : Kept a (State.writeAsp s t v2) := by
  unfold State.writeAsp
  extract_lets y0 y1
  clear_value y0
  have h2 : Kept a y1 := by
    unfold y1
    apply State.each_kept
    · intro x3 x4 h5
      split
      · apply State.wr_kept
        exact h5
      · exact h5
    · exact hb
  clear_value y1
  split
  · apply State.budgetRefusal_kept
    exact hs
  · apply State.each_kept
    · intro x6 x7 h8
      apply State.reclamp_kept
      exact h8
    · exact h2
theorem State.writeAgreq_kept {a s g v} (hs : Kept a s) : Kept a (State.writeAgreq s g v) := by
  unfold State.writeAgreq
  extract_lets y0 y1 y2 y3
  clear_value y0
  clear_value y1
  clear_value y2
  have h4 : Kept a y3 := by
    unfold y3
    exact hs
  clear_value y3
  split
  · apply State.wr_kept
    apply State.wr_kept
    exact hs
  · split
    · apply State.requestAspect_kept
      apply State.modGroup_kept
      exact h4
    · apply State.put_kept
      apply State.wr_kept
      apply State.wr_kept
      exact hs
theorem State.writeAapply_kept {a s v} (hs : Kept a s) : Kept a (State.writeAapply s v) := by
  unfold State.writeAapply
  extract_lets y0 y1
  clear_value y0
  clear_value y1
  split
  · exact hs
  · exact hs
theorem State.chainSync_kept {a s} (hs : Kept a s) : Kept a (State.chainSync s) := by
  unfold State.chainSync
  extract_lets y0 y1 y2 y3 y4 y5
  clear_value y0
  clear_value y1
  clear_value y2
  clear_value y3
  clear_value y4
  clear_value y5
  apply State.schedSync_kept
  exact hs
theorem State.writeSyncreq_kept {a s v} (hs : Kept a s) : Kept a (State.writeSyncreq s v) := by
  unfold State.writeSyncreq
  extract_lets y0
  have h1 : Kept a y0 := by
    unfold y0
    split
    · apply State.schedSync_kept
      exact hs
    · exact hs
  clear_value y0
  split
  · split
    · apply State.chainSync_kept
      exact h1
    · apply State.report_kept
      exact h1
  · exact h1
theorem State.writeTscmd_kept {a s v} (hs : Kept a s) : Kept a (State.writeTscmd s v) := by
  unfold State.writeTscmd
  split
  · apply State.tagArrive_kept
    exact hs
  · exact hs
theorem execHandOverStep_kept {a n s} (hs : Kept a s) : OutKept a (execHandOverStep n s) := by
  unfold execHandOverStep
  extract_lets y0 y1 y2 y3 y4 y5 y6 y7
  clear_value y0
  clear_value y1
  clear_value y2
  clear_value y3
  clear_value y4
  clear_value y5
  clear_value y6
  have h8 : Kept a y7 := by
    unfold y7
    apply State.put_kept
    apply State.modProt_kept
    exact hs
  clear_value y7
  apply OutKept.next
  split
  · split
    · exact h8
    · apply State.setAppl_kept
      exact h8
  · exact hs
theorem execAspectSwitch_kept {a s} (hs : Kept a s) : OutKept a (execAspectSwitch s) := by
  unfold execAspectSwitch
  extract_lets y0
  clear_value y0
  apply OutKept.next
  split
  · exact hs
  · apply State.each_kept
    · intro x1 x2 h3
      apply State.takeRequest_kept
      exact h3
    · exact hs
theorem execSyncBroadcast_kept {a s} (hs : Kept a s) : OutKept a (execSyncBroadcast s) := by
  unfold execSyncBroadcast
  extract_lets y0
  clear_value y0
  apply OutKept.next
  split
  · exact hs
  · extract_lets y1
    clear_value y1
    apply State.syncAction_kept
    exact hs
theorem State.tsyncPayload_kept {a s p} (hs : Kept a s) : Kept a (State.tsyncPayload s p) := by
  unfold State.tsyncPayload
  split
  · apply State.report_kept
    exact hs
  · apply State.tagArrive_kept
    exact hs
theorem execTagReached_kept {a s} (hs : Kept a s) : OutKept a (execTagReached s) := by
  unfold execTagReached
  apply OutKept.next
  split
  · exact hs
  · apply State.tagAct_kept
    apply State.setTagged_kept
    exact hs

/-! ### Edge -/

theorem State.enableGen_kept {a s n} (hs : Kept a s) : Kept a (State.enableGen s n) := by
  unfold State.enableGen
  extract_lets y0 y1 y2
  clear_value y0
  clear_value y1
  clear_value y2
  apply State.modGen_kept
  exact hs
theorem State.takeTiming_kept {a s n} (hs : Kept a s) : Kept a (State.takeTiming s n) := by
  unfold State.takeTiming
  extract_lets y0 y1
  clear_value y0
  have h2 : Kept a y1 := by
    unfold y1
    split
    · apply State.modGen_kept
      apply State.put_kept
      exact hs
    · apply State.modGen_kept
      apply State.put_kept
      exact hs
  clear_value y1
  split
  · exact hs
  · split
    · exact h2
    · apply State.refreshAppl_kept
      exact h2
theorem State.timingPending_kept {a s n} (hs : Kept a s) : Kept a (State.timingPending s n) := by
  unfold State.timingPending
  extract_lets y0 y1 y2
  clear_value y0
  clear_value y1
  have h3 : Kept a y2 := by
    unfold y2
    split
    · apply State.wr_kept
      exact hs
    · exact hs
  clear_value y2
  split
  · apply State.put_kept
    exact hs
  · apply State.reclamp_kept
    apply State.modGen_kept
    exact h3
theorem State.openInrush_kept {a s n} (hs : Kept a s) : Kept a (State.openInrush s n) := by
  unfold State.openInrush
  split
  · exact hs
  · apply State.modGen_kept
    exact hs
theorem State.capture_kept {a s n} (hs : Kept a s) : Kept a (State.capture s n) := by
  unfold State.capture
  extract_lets y0 y1 y2 y3 y4 y5 y6 y7 y8 y9 y10 y11 y12 y13 y14 y15 y16 y17 y18 y19 y20 y21 y22 y23 y24 y25 y26 y27 y28
  have h29 : Kept a y0 := by
    unfold y0
    apply State.installDeferred_kept
    exact hs
  clear_value y0
  clear_value y1
  have h30 : Kept a y2 := by
    unfold y2
    apply State.takeTiming_kept
    exact h29
  clear_value y2
  clear_value y3
  clear_value y4
  clear_value y5
  clear_value y6
  clear_value y7
  clear_value y8
  clear_value y9
  clear_value y10
  clear_value y11
  clear_value y12
  clear_value y13
  clear_value y14
  clear_value y15
  have h31 : Kept a y16 := by
    unfold y16
    split
    · apply State.openInrush_kept
      exact h29
    · exact h29
  clear_value y16
  clear_value y17
  clear_value y18
  clear_value y19
  clear_value y20
  clear_value y21
  clear_value y22
  clear_value y23
  have h32 : Kept a y24 := by
    unfold y24
    split
    · apply State.bump_kept
      exact h31
    · exact h31
  clear_value y24
  have h33 : Kept a y25 := by
    unfold y25
    split
    · apply State.bump_kept
      exact h32
    · exact h32
  clear_value y25
  have h34 : Kept a y26 := by
    unfold y26
    split
    · apply State.bump_kept
      exact h33
    · exact h33
  clear_value y26
  have h35 : Kept a y27 := by
    unfold y27
    split
    · apply State.bump_kept
      exact h34
    · exact h34
  clear_value y27
  have h36 : Kept a y28 := by
    unfold y28
    apply State.put_kept
    apply State.wr_kept
    exact h35
  clear_value y28
  apply State.modGen_kept
  exact h36
theorem State.boundaryValues_kept {a s n} (hs : Kept a s) : Kept a (State.boundaryValues s n) := by
  unfold State.boundaryValues
  extract_lets y0 y1 y2 y3 y4 y5 y6
  clear_value y0
  clear_value y1
  clear_value y2
  clear_value y3
  have h7 : Kept a y4 := by
    unfold y4
    split
    · apply State.wr_kept
      exact hs
    · exact hs
  clear_value y4
  have h8 : Kept a y5 := by
    unfold y5
    apply State.takeTiming_kept
    exact h7
  clear_value y5
  have h9 : Kept a y6 := by
    unfold y6
    split
    · apply State.wr_kept
      exact h8
    · exact h8
  clear_value y6
  split
  · apply State.wr_kept
    exact h9
  · exact h9
theorem State.recode_kept {a s n} (hs : Kept a s) : Kept a (State.recode s n) := by
  unfold State.recode
  extract_lets y0 y1
  clear_value y0
  clear_value y1
  split
  · exact hs
  · apply State.modGen_kept
    exact hs
theorem State.recapture_kept {a s n} (hs : Kept a s) : Kept a (State.recapture s n) := by
  unfold State.recapture
  extract_lets y0 y1 y2 y3 y4 y5 y6 y7
  clear_value y0
  have h8 : Kept a y1 := by
    unfold y1
    apply State.takeTiming_kept
    exact hs
  clear_value y1
  clear_value y2
  clear_value y3
  clear_value y4
  clear_value y5
  clear_value y6
  clear_value y7
  split
  · exact hs
  · apply State.modGen_kept
    apply State.wr_kept
    exact hs
theorem State.boundary_kept {a s n} (hs : Kept a s) : Kept a (State.boundary s n) := by
  unfold State.boundary
  extract_lets y0 y1 y2 y3 y4
  have h5 : Kept a y0 := by
    unfold y0
    apply State.recode_kept
    exact hs
  clear_value y0
  clear_value y1
  clear_value y2
  clear_value y3
  clear_value y4
  apply State.modGen_kept
  apply State.boundaryValues_kept
  exact h5
theorem execCapturePoint_kept {a n s} (hs : Kept a s) : OutKept a (execCapturePoint n s) := by
  unfold execCapturePoint
  apply OutKept.next
  split
  · exact hs
  · split
    · apply State.capture_kept
      exact hs
    · apply State.modGen_kept
      apply State.put_kept
      exact hs
theorem execPeriodBoundary_kept {a n s} (hs : Kept a s) : OutKept a (execPeriodBoundary n s) := by
  unfold execPeriodBoundary
  apply OutKept.next
  split
  · apply State.boundary_kept
    exact hs
  · exact hs
theorem State.codeEdge_kept {a s n} (hs : Kept a s) : Kept a (State.codeEdge s n) := by
  unfold State.codeEdge
  extract_lets y0 y1 y2 y3 y4
  clear_value y0
  clear_value y1
  clear_value y2
  have h5 : Kept a y3 := by
    unfold y3
    split
    · apply State.bump_kept
      exact hs
    · exact hs
  clear_value y3
  have h6 : Kept a y4 := by
    unfold y4
    split
    · apply State.bump_kept
      exact h5
    · exact h5
  clear_value y4
  apply State.modGen_kept
  exact h6
theorem execOnTimeEnd_kept {a n s} (hs : Kept a s) : OutKept a (execOnTimeEnd n s) := by
  unfold execOnTimeEnd
  extract_lets y0
  clear_value y0
  apply OutKept.next
  split
  · apply State.modGen_kept
    split
    · apply State.codeEdge_kept
      exact hs
    · exact hs
  · exact hs
theorem execDeadTimeEnd_kept {a n s} (hs : Kept a s) : OutKept a (execDeadTimeEnd n s) := by
  unfold execDeadTimeEnd
  extract_lets y0 y1
  clear_value y0
  clear_value y1
  apply OutKept.next
  split
  · split
    · exact hs
    · apply State.modGen_kept
      exact hs
  · split
    · exact hs
    · apply State.modGen_kept
      exact hs
  · split
    · exact hs
    · apply State.modGen_kept
      exact hs
  · split
    · exact hs
    · apply State.modGen_kept
      exact hs
  · exact hs
theorem execChipBoundary_kept {a n s} (hs : Kept a s) : OutKept a (execChipBoundary n s) := by
  unfold execChipBoundary
  extract_lets y0 y1
  clear_value y0
  have h2 : Kept a y1 := by
    unfold y1
    apply State.wr_kept
    exact hs
  clear_value y1
  apply OutKept.next
  split
  · split
    · apply State.wr_kept
      exact h2
    · exact h2
  · exact hs
theorem execBkLoopUpdate_kept {a n iavg s} (hs : Kept a s) : OutKept a (execBkLoopUpdate n iavg s) := by
  unfold execBkLoopUpdate
  extract_lets y0 y1 y2 y3 y4 y5 y6 y7 y8 y9
  clear_value y0
  clear_value y1
  clear_value y2
  clear_value y3
  clear_value y4
  clear_value y5
  clear_value y6
  clear_value y7
  clear_value y8
  clear_value y9
  apply OutKept.next
  split
  · apply State.modGen_kept
    exact hs
  · exact hs
theorem execInrushWindowEnd_kept {a n s} (hs : Kept a s) : OutKept a (execInrushWindowEnd n s) := by
  unfold execInrushWindowEnd
  apply OutKept.next
  split
  · apply State.modGen_kept
    exact hs
  · exact hs
theorem execFreezeLgOff_kept {a n s} (hs : Kept a s) : OutKept a (execFreezeLgOff n s) := by
  unfold execFreezeLgOff
  apply OutKept.next
  split
  · apply State.modGen_kept
    exact hs
  · exact hs

/-! ### Proof -/

theorem State.darkTest_kept {a s n valid x v} (hs : Kept a s) : Kept a (State.darkTest s n valid x v) := by
  unfold State.darkTest
  extract_lets y0 y1 y2
  clear_value y0
  have h3 : Kept a y1 := by
    unfold y1
    apply State.setPrf_kept
    exact hs
  clear_value y1
  have h4 : Kept a y2 := by
    unfold y2
    apply State.setPrf_kept
    exact hs
  clear_value y2
  split
  · exact hs
  · split
    · split
      · apply State.modPrf_kept
        apply State.wr_kept
        exact h3
      · exact h3
    · split
      · exact h4
      · apply State.wr_kept
        exact h4
theorem State.unassess_kept {a s n} (hs : Kept a s) : Kept a (State.unassess s n) := by
  unfold State.unassess
  extract_lets y0
  clear_value y0
  split
  · exact hs
  · apply State.setPrf_kept
    apply State.wr_kept
    exact hs
theorem State.convert_kept {a s n i v} (hs : Kept a s) : Kept a (State.convert s n i v) := by
  unfold State.convert
  extract_lets y0 y1 y2 y3 y4 y5 y6 y7
  clear_value y0
  clear_value y1
  have h8 : Kept a y2 := by
    unfold y2
    apply State.wr_kept
    apply State.wr_kept
    exact hs
  clear_value y2
  clear_value y3
  clear_value y4
  clear_value y5
  clear_value y6
  have h9 : Kept a y7 := by
    unfold y7
    apply State.modPrf_kept
    exact h8
  clear_value y7
  apply State.darkTest_kept
  apply State.wr_kept
  exact h9
theorem State.litWindow_kept {a s n} (hs : Kept a s) : Kept a (State.litWindow s n) := by
  unfold State.litWindow
  extract_lets y0 y1 y2 y3 y4 y5
  clear_value y0
  clear_value y1
  clear_value y2
  clear_value y3
  clear_value y4
  clear_value y5
  split
  · exact hs
  · split
    · apply State.modPrf_kept
      apply State.wr_kept
      exact hs
    · split
      · apply State.modPrf_kept
        apply State.wr_kept
        exact hs
      · split
        · exact hs
        · apply State.wr_kept
          exact hs
theorem State.postRefusal_kept {a s n reg} (hs : Kept a s) : Kept a (State.postRefusal s n reg) := by
  unfold State.postRefusal
  apply State.report_kept
  exact hs
theorem State.postEver_kept {a s r sv n v} (hs : Kept a s) : Kept a (State.postEver s r sv n v) := by
  unfold State.postEver
  extract_lets y0 y1
  clear_value y0
  have h2 : Kept a y1 := by
    unfold y1
    apply State.wr_kept
    apply State.wr_kept
    apply State.wr_kept
    exact hs
  clear_value y1
  split
  · apply State.postRefusal_kept
    exact hs
  · split
    · exact hs
    · apply State.modPrf_kept
      exact h2
theorem State.judgeNoDec_kept {a s n} (hs : Kept a s) : Kept a (State.judgeNoDec s n) := by
  unfold State.judgeNoDec
  split
  · apply State.report_kept
    apply State.modPrf_kept
    exact hs
  · exact hs
theorem State.postOver_kept {a s r sv n v} (hs : Kept a s) : Kept a (State.postOver s r sv n v) := by
  unfold State.postOver
  extract_lets y0 y1 y2 y3 y4 y5
  clear_value y0
  clear_value y1
  have h6 : Kept a y2 := by
    unfold y2
    apply State.judgeNoDec_kept
    exact hs
  clear_value y2
  have h7 : Kept a y3 := by
    unfold y3
    apply State.wr_kept
    apply State.wr_kept
    apply State.wr_kept
    exact h6
  clear_value y3
  have h8 : Kept a y4 := by
    unfold y4
    apply State.modPrf_kept
    exact h7
  clear_value y4
  clear_value y5
  split
  · apply State.postRefusal_kept
    exact hs
  · split
    · exact hs
    · split
      · apply State.report_kept
        apply State.raiseFlag_kept
        exact h8
      · exact h8
theorem State.showProof_kept {a s n st cfail efail ofail estale ostale} (hs : Kept a s) : Kept a (State.showProof s n st cfail efail ofail estale ostale) := by
  unfold State.showProof
  apply State.put_kept
  apply State.put_kept
  apply State.put_kept
  apply State.put_kept
  apply State.put_kept
  apply State.wr_kept
  exact hs
theorem State.fuseChannel_kept {a s n} (hs : Kept a s) : Kept a (State.fuseChannel s n) := by
  unfold State.fuseChannel
  extract_lets y0 y1 y2 y3 y4 y5 y6 y7 y8 y9 y10 y11 y12 y13 y14 y15 y16 y17 y18 y19 y20 y21 y22 y23
  clear_value y0
  clear_value y1
  clear_value y2
  clear_value y3
  clear_value y4
  clear_value y5
  clear_value y6
  clear_value y7
  clear_value y8
  clear_value y9
  clear_value y10
  clear_value y11
  clear_value y12
  clear_value y13
  clear_value y14
  clear_value y15
  clear_value y16
  clear_value y17
  clear_value y18
  clear_value y19
  clear_value y20
  clear_value y21
  have h24 : Kept a y22 := by
    unfold y22
    apply State.setPrf_kept
    exact hs
  clear_value y22
  have h25 : Kept a y23 := by
    unfold y23
    apply State.put_kept
    apply State.showProof_kept
    exact h24
  clear_value y23
  split
  · apply State.setPrf_kept
    apply State.showProof_kept
    exact hs
  · split
    · apply State.bump_kept
      exact h25
    · exact h25
theorem State.fuseGroup_kept {a s g} (hs : Kept a s) : Kept a (State.fuseGroup s g) := by
  unfold State.fuseGroup
  extract_lets y0 y1 y2 y3 y4 y5 y6
  clear_value y4
  clear_value y5
  have h7 : Kept a y6 := by
    unfold y6
    apply State.wr_kept
    apply State.wr_kept
    apply State.wr_kept
    exact hs
  clear_value y6
  split
  · apply State.wr_kept
    apply State.wr_kept
    apply State.wr_kept
    exact hs
  · apply State.modGroup_kept
    exact h7
theorem State.judgeRelease_kept {a s} (hs : Kept a s) : Kept a (State.judgeRelease s) := by
  unfold State.judgeRelease
  extract_lets y0 y1 y2 y3
  clear_value y0
  have h4 : Kept a y1 := by
    unfold y1
    apply State.put_kept
    exact hs
  clear_value y1
  clear_value y2
  have h5 : Kept a y3 := by
    unfold y3
    apply State.wr_kept
    exact h4
  clear_value y3
  split
  · exact hs
  · split
    · exact h4
    · split
      · apply State.clearLatch_kept
        exact h5
      · apply State.report_kept
        exact h5
theorem State.writeLclr_kept {a s r sv v} (hs : Kept a s) : Kept a (State.writeLclr s r sv v) := by
  unfold State.writeLclr
  extract_lets y0 y1
  clear_value y0
  clear_value y1
  split
  · apply State.report_kept
    exact hs
  · split
    · exact hs
    · apply State.put_kept
      apply State.wr_kept
      apply State.wr_kept
      exact hs
theorem State.declareOptDeg_kept {a s} (hs : Kept a s) : Kept a (State.declareOptDeg s) := by
  unfold State.declareOptDeg
  extract_lets y0
  have h1 : Kept a y0 := by
    unfold y0
    apply State.report_kept
    apply State.put_kept
    exact hs
  clear_value y0
  split
  · exact hs
  · apply State.each_kept
    · intro x2 x3 h4
      extract_lets y5 y6 y7
      clear_value y5
      clear_value y6
      have h8 : Kept a y7 := by
        unfold y7
        apply State.modProt_kept
        apply State.wr_kept
        exact h4
      clear_value y7
      split
      · apply State.startHandOver_kept
        exact h8
      · exact h4
    · exact h1
theorem State.recoverOpt_kept {a s} (hs : Kept a s) : Kept a (State.recoverOpt s) := by
  unfold State.recoverOpt
  split
  · apply State.put_kept
    exact hs
  · exact hs
theorem State.writeCbidx_kept {a s v} (hs : Kept a s) : Kept a (State.writeCbidx s v) := by
  unfold State.writeCbidx
  split
  · apply State.flag_kept
    exact hs
  · apply State.wr_kept
    apply State.wr_kept
    exact hs
theorem State.writeIncfg_kept {a s i v} (hs : Kept a s) : Kept a (State.writeIncfg s i v) := by
  unfold State.writeIncfg
  extract_lets y0 y1 y2
  clear_value y0
  clear_value y1
  have h3 : Kept a y2 := by
    unfold y2
    apply State.wr_kept
    apply State.wr_kept
    apply State.wr_kept
    apply State.wr_kept
    exact hs
  clear_value y2
  split
  · apply State.modOptic_kept
    apply State.put_kept
    apply State.wr_kept
    exact h3
  · exact h3
theorem State.writeXwin_kept {a s v} (hs : Kept a s) : Kept a (State.writeXwin s v) := by
  unfold State.writeXwin
  extract_lets y0
  have h1 : Kept a y0 := by
    unfold y0
    apply State.wr_kept
    exact hs
  clear_value y0
  split
  · apply State.flag_kept
    exact h1
  · exact h1
theorem State.opticSample_kept {a s i x test} (hs : Kept a s) : Kept a (State.opticSample s i x test) := by
  unfold State.opticSample
  extract_lets y0 y1 y2 y3 y4 y5 y6 y7 y8
  clear_value y0
  clear_value y1
  clear_value y2
  clear_value y3
  have h9 : Kept a y4 := by
    unfold y4
    split
    · exact hs
    · apply State.put_kept
      exact hs
  clear_value y4
  clear_value y5
  clear_value y6
  clear_value y7
  clear_value y8
  apply State.wr_kept
  apply State.modOptic_kept
  exact h9
theorem execCoarseLitEvaluation_kept {a s} (hs : Kept a s) : OutKept a (execCoarseLitEvaluation s) := by
  unfold execCoarseLitEvaluation
  apply OutKept.next
  split
  · apply State.each_kept
    · intro x0 x1 h2
      apply State.litWindow_kept
      exact h2
    · exact hs
  · exact hs
theorem execFusionTick_kept {a s} (hs : Kept a s) : OutKept a (execFusionTick s) := by
  unfold execFusionTick
  extract_lets y0 y1 y2
  have h3 : Kept a y0 := by
    unfold y0
    apply State.each_kept
    · intro x4 x5 h6
      apply State.updExp_kept
      exact h6
    · exact hs
  clear_value y0
  have h7 : Kept a y1 := by
    unfold y1
    apply State.updOpt_kept
    apply State.each_kept
    · intro x8 x9 h10
      apply State.fuseChannel_kept
      apply State.judgeNoDec_kept
      exact h10
    · exact h3
  clear_value y1
  have h11 : Kept a y2 := by
    unfold y2
    apply State.each_kept
    · intro x12 x13 h14
      apply State.fuseGroup_kept
      exact h14
    · exact h7
  clear_value y2
  apply OutKept.next
  split
  · exact hs
  · apply State.recoverOpt_kept
    apply State.judgeRelease_kept
    exact h11
theorem State.reportError_kept {a s g v2 src} (hs : Kept a s) : Kept a (State.reportError s g v2 src) := by
  unfold State.reportError
  extract_lets y0
  have h1 : Kept a y0 := by
    unfold y0
    apply State.report_kept
    exact hs
  clear_value y0
  apply State.modGroup_kept
  exact h1
theorem execAspectErrorReport_kept {a g s} (hs : Kept a s) : OutKept a (execAspectErrorReport g s) := by
  unfold execAspectErrorReport
  apply OutKept.next
  split
  · apply State.reportError_kept
    apply State.modGroup_kept
    exact hs
  · exact hs
theorem State.degradedOver_kept {a s g dmd} (hs : Kept a s) : Kept a (State.degradedOver s g dmd) := by
  unfold State.degradedOver
  split
  · apply State.reportError_kept
    apply State.fresh_kept
    apply State.modGroup_kept
    apply State.wr_kept
    exact hs
  · exact hs
theorem execOpticalDegraded_kept {a fails s} (hs : Kept a s) : OutKept a (execOpticalDegraded fails s) := by
  unfold execOpticalDegraded
  extract_lets y0 y1 y2 y3 y4
  clear_value y0
  clear_value y1
  clear_value y2
  clear_value y3
  have h5 : Kept a y4 := by
    unfold y4
    apply State.each_kept
    · intro x6 x7 h8
      apply State.put_kept
      exact h8
    · exact hs
  clear_value y4
  apply OutKept.next
  split
  · apply State.declareOptDeg_kept
    exact h5
  · exact h5
theorem execSpotlightSaturation_kept {a i s} (hs : Kept a s) : OutKept a (execSpotlightSaturation i s) := by
  unfold execSpotlightSaturation
  extract_lets y0 y1
  have h2 : Kept a y0 := by
    unfold y0
    apply State.modOptic_kept
    apply State.report_kept
    apply State.raiseFlag_kept
    exact hs
  clear_value y0
  clear_value y1
  apply OutKept.next
  split
  · split
    · apply State.modOptic_kept
      apply State.put_kept
      apply State.wr_kept
      exact h2
    · exact h2
  · exact hs
theorem execRangeStepDown_kept {a i s} (hs : Kept a s) : OutKept a (execRangeStepDown i s) := by
  unfold execRangeStepDown
  extract_lets y0
  clear_value y0
  apply OutKept.next
  split
  · apply State.modOptic_kept
    apply State.put_kept
    apply State.wr_kept
    exact hs
  · exact hs

end Sys2Proof.Machine
end

