-- ==== Sys2Proof/Laws/KeptSafety.lean ====
section
/-! SUPPORT. What the Safety Net, lockstep, DMA, Tightrope and the collector keep (`Kept`): one lemma for each operation. -/
namespace Sys2Proof.Machine
open Sys2Proof.Safety

/-! ### SafetyNet -/

theorem State.modInp_kept {a s c f} (hs : Kept a s) : Kept a (State.modInp s c f) := by
  unfold State.modInp
  exact hs
theorem State.modIpair_kept {a s p f} (hs : Kept a s) : Kept a (State.modIpair s p f) := by
  unfold State.modIpair
  exact hs
theorem State.modFn_kept {a s f g} (hs : Kept a s) : Kept a (State.modFn s f g) := by
  unfold State.modFn
  exact hs
theorem State.modSio_kept {a s g} (hs : Kept a s) : Kept a (State.modSio s g) := by
  unfold State.modSio
  exact hs
theorem State.filter_kept {a s c level} (hs : Kept a s) : Kept a (State.filter s c level) := by
  unfold State.filter
  extract_lets y0 y1
  clear_value y0
  clear_value y1
  split
  · apply State.modInp_kept
    exact hs
  · split
    · apply State.modInp_kept
      exact hs
    · apply State.modInp_kept
      exact hs
theorem State.sampleChannel_kept {a s c} (hs : Kept a s) : Kept a (State.sampleChannel s c) := by
  unfold State.sampleChannel
  extract_lets y0 y1
  clear_value y0
  clear_value y1
  split
  · apply State.modInp_kept
    exact hs
  · split
    · split
      · exact hs
      · apply State.filter_kept
        apply State.modInp_kept
        exact hs
    · split
      · exact hs
      · apply State.modInp_kept
        exact hs
theorem State.slotArrives_kept {a s k} (hs : Kept a s) : Kept a (State.slotArrives s k) := by
  unfold State.slotArrives
  apply State.each_kept
  · intro x0 x1 h2
    split
    · exact h2
    · apply foldl_kept
      · intro x3 x4 h5
        apply State.filter_kept
        exact h5
      · exact h2
  · exact hs
theorem State.declareDisc_kept {a s p} (hs : Kept a s) : Kept a (State.declareDisc s p) := by
  unfold State.declareDisc
  extract_lets y0
  clear_value y0
  split
  · apply State.report_kept
    apply State.modIpair_kept
    exact hs
  · exact hs
theorem State.clearTpf_kept {a s c} (hs : Kept a s) : Kept a (State.clearTpf s c) := by
  unfold State.clearTpf
  split
  · apply State.modInp_kept
    exact hs
  · exact hs
theorem State.samplePair_kept {a s p} (hs : Kept a s) : Kept a (State.samplePair s p) := by
  unfold State.samplePair
  extract_lets y0 y1 y2 y3
  clear_value y0
  clear_value y1
  have h4 : Kept a y2 := by
    unfold y2
    split
    · apply State.modIpair_kept
      split
      · apply State.report_kept
        exact hs
      · exact hs
    · exact hs
  clear_value y2
  have h5 : Kept a y3 := by
    unfold y3
    apply State.modIpair_kept
    exact h4
  clear_value y3
  apply State.clearTpf_kept
  apply State.clearTpf_kept
  apply State.declareDisc_kept
  exact h5
theorem State.trackPress_kept {a s p} (hs : Kept a s) : Kept a (State.trackPress s p) := by
  unfold State.trackPress
  apply State.modIpair_kept
  exact hs
theorem State.chooseDemand_kept {a s g} (hs : Kept a s) : Kept a (State.chooseDemand s g) := by
  unfold State.chooseDemand
  split
  · apply State.updDemand_kept
    exact hs
  · extract_lets y0
    clear_value y0
    split
    · exact hs
    · apply State.demandAspect_kept
      exact hs
theorem State.demandBegin_kept {a s f} (hs : Kept a s) : Kept a (State.demandBegin s f) := by
  unfold State.demandBegin
  extract_lets y0
  clear_value y0
  split
  · exact hs
  · apply State.chooseDemand_kept
    apply State.modGroup_kept
    exact hs
theorem State.demandEnd_kept {a s f} (hs : Kept a s) : Kept a (State.demandEnd s f) := by
  unfold State.demandEnd
  extract_lets y0
  clear_value y0
  split
  · apply State.chooseDemand_kept
    apply State.modGroup_kept
    exact hs
  · exact hs
theorem State.updAd_kept {a s} (hs : Kept a s) : Kept a (State.updAd s) := by
  unfold State.updAd
  extract_lets y0 y1 y2 y3
  clear_value y0
  clear_value y1
  clear_value y2
  clear_value y3
  apply State.modSio_kept
  apply State.put_kept
  exact hs
theorem State.updOutputs_kept {a s} (hs : Kept a s) : Kept a (State.updOutputs s) := by
  unfold State.updOutputs
  extract_lets y0 y1
  have h2 : Kept a y0 := by
    unfold y0
    apply State.each_kept
    · intro x3 x4 h5
      apply State.put_kept
      apply State.put_kept
      exact h5
    · exact hs
  clear_value y0
  clear_value y1
  apply State.updAd_kept
  apply State.put_kept
  apply State.wr_kept
  exact h2
theorem State.enterFn_kept {a s f st} (hs : Kept a s) : Kept a (State.enterFn s f st) := by
  unfold State.enterFn
  extract_lets y0 y1 y2 y3
  clear_value y0
  have h4 : Kept a y1 := by
    unfold y1
    apply State.wr_kept
    exact hs
  clear_value y1
  have h5 : Kept a y2 := by
    unfold y2
    split
    · apply State.report_kept
      exact h4
    · exact h4
  clear_value y2
  have h6 : Kept a y3 := by
    unfold y3
    split
    · apply State.stopRequest_kept
      apply State.modFn_kept
      exact h5
    · exact h5
  clear_value y3
  split
  · apply State.demandBegin_kept
    exact h6
  · split
    · apply State.demandEnd_kept
      exact h6
    · exact h6
theorem State.faultFn_kept {a s f cause} (hs : Kept a s) : Kept a (State.faultFn s f cause) := by
  unfold State.faultFn
  apply State.enterFn_kept
  apply State.report_kept
  apply State.wr_kept
  exact hs
theorem State.showDeg_kept {a s f} (hs : Kept a s) : Kept a (State.showDeg s f) := by
  unfold State.showDeg
  apply State.wr_kept
  exact hs
theorem State.enterDegraded_kept {a s f code} (hs : Kept a s) : Kept a (State.enterDegraded s f code) := by
  unfold State.enterDegraded
  split
  · apply State.faultFn_kept
    exact hs
  · apply State.showDeg_kept
    apply State.modFn_kept
    apply State.report_kept
    apply State.wr_kept
    exact hs
theorem State.leaveDegraded_kept {a s f} (hs : Kept a s) : Kept a (State.leaveDegraded s f) := by
  unfold State.leaveDegraded
  apply State.showDeg_kept
  apply State.modFn_kept
  apply State.wr_kept
  exact hs
theorem State.twoHand_kept {a s f} (hs : Kept a s) : Kept a (State.twoHand s f) := by
  unfold State.twoHand
  extract_lets y0 y1 y2 y3 y4 y5 y6
  clear_value y0
  clear_value y1
  clear_value y2
  clear_value y3
  clear_value y4
  clear_value y5
  clear_value y6
  split
  · split
    · apply State.enterFn_kept
      exact hs
    · exact hs
  · split
    · apply State.enterFn_kept
      exact hs
    · split
      · apply State.enterFn_kept
        apply State.modFn_kept
        exact hs
      · exact hs
  · split
    · apply State.enterFn_kept
      exact hs
    · split
      · apply State.enterFn_kept
        exact hs
      · split
        · apply State.enterFn_kept
          exact hs
        · exact hs
  · split
    · exact hs
    · apply State.enterFn_kept
      exact hs
  · split
    · apply State.enterFn_kept
      exact hs
    · exact hs
  · exact hs
theorem State.endStop_kept {a s f} (hs : Kept a s) : Kept a (State.endStop s f) := by
  unfold State.endStop
  split
  · apply State.enterFn_kept
    exact hs
  · exact hs
theorem State.fnRun_kept {a s f closed ev} (hs : Kept a s) : Kept a (State.fnRun s f closed ev) := by
  unfold State.fnRun
  split
  · split
    · apply State.enterFn_kept
      exact hs
    · split
      · apply State.enterFn_kept
        exact hs
      · exact hs
  · split
    · apply State.enterFn_kept
      exact hs
    · exact hs
  · split
    · apply State.endStop_kept
      exact hs
    · exact hs
  · exact hs
theorem State.fnTable_kept {a s f ev} (hs : Kept a s) : Kept a (State.fnTable s f ev) := by
  unfold State.fnTable
  extract_lets y0 y1 y2
  clear_value y0
  clear_value y1
  clear_value y2
  split
  extract_lets y3
  clear_value y3
  split
  · split
    · apply State.enterFn_kept
      exact hs
    · split
      · split
        · apply State.enterFn_kept
          exact hs
        · exact hs
      · apply State.fnRun_kept
        exact hs
  · split
    · split
      · apply State.enterFn_kept
        apply State.put_kept
        exact hs
      · exact hs
    · split
      · split
        · apply State.enterFn_kept
          exact hs
        · exact hs
      · apply State.fnRun_kept
        exact hs
  · apply State.twoHand_kept
    exact hs
  · split
    · split
      · apply State.enterFn_kept
        exact hs
      · split
        · apply State.enterFn_kept
          exact hs
        · exact hs
    · apply State.fnRun_kept
      exact hs
  · split
    · split
      · exact hs
      · apply State.enterFn_kept
        exact hs
    · split
      · apply State.enterFn_kept
        exact hs
      · split
        · apply State.enterFn_kept
          exact hs
        · exact hs
  · exact hs
theorem State.leaveFault_kept {a s f} (hs : Kept a s) : Kept a (State.leaveFault s f) := by
  unfold State.leaveFault
  extract_lets y0
  clear_value y0
  split
  · apply State.enterFn_kept
    apply State.wr_kept
    exact hs
  · exact hs
theorem State.fnFaults_kept {a s f} (hs : Kept a s) : Kept a (State.fnFaults s f).1 := by
  unfold State.fnFaults
  extract_lets y0 y1 y2 y3 y4
  clear_value y0
  clear_value y1
  clear_value y2
  clear_value y3
  clear_value y4
  split
  · split
    · dsimp only
      apply State.faultFn_kept
      exact hs
    · split
      · dsimp only
        exact hs
      · extract_lets y5
        have h6 : Kept a y5 := by
          unfold y5
          apply State.enterDegraded_kept
          exact hs
        clear_value y5
        split
        · dsimp only
          apply State.faultFn_kept
          exact hs
        · dsimp only
          exact h6
      · dsimp only
        apply State.faultFn_kept
        exact hs
  · split
    · dsimp only
      apply State.faultFn_kept
      exact hs
    · split
      · dsimp only
        apply State.faultFn_kept
        exact hs
      · split
        · dsimp only
          split
          · exact hs
          · apply State.leaveDegraded_kept
            exact hs
        · split
          · dsimp only
            exact hs
          · dsimp only
            apply State.faultFn_kept
            exact hs
theorem State.stepFn_kept {a s f ev} (hs : Kept a s) : Kept a (State.stepFn s f ev) := by
  unfold State.stepFn
  extract_lets y0
  have h1 : Kept a y0.1 := by
    unfold y0
    apply State.fnFaults_kept
    exact hs
  clear_value y0
  split
  · exact hs
  · split
    · apply State.enterFn_kept
      apply State.put_kept
      apply State.modFn_kept
      exact hs
    · split
      · apply State.leaveFault_kept
        exact hs
      · split
        · apply State.fnTable_kept
          exact h1
        · exact h1
theorem State.feedFns_kept {a s t} (hs : Kept a s) : Kept a (State.feedFns s t) := by
  unfold State.feedFns
  apply State.updOutputs_kept
  apply State.each_kept
  · intro x0 x1 h2
    split
    · exact h2
    · apply State.fnFaults_kept
      exact h2
  · exact hs
theorem State.crossTime_kept {a s f dt} (hs : Kept a s) : Kept a (State.crossTime s f dt) := by
  unfold State.crossTime
  split
  · apply State.modFn_kept
    exact hs
  · split
    · exact hs
    · apply State.modFn_kept
      exact hs
theorem State.writeOutreq_kept {a s r v} (hs : Kept a s) : Kept a (State.writeOutreq s r v) := by
  unfold State.writeOutreq
  split
  · apply State.report_kept
    exact hs
  · apply State.updOutputs_kept
    apply State.wr_kept
    apply State.wr_kept
    exact hs
theorem State.writeFnrst_kept {a s r v} (hs : Kept a s) : Kept a (State.writeFnrst s r v) := by
  unfold State.writeFnrst
  extract_lets y0 y1 y2 y3 y4
  clear_value y0
  have h5 : Kept a y1 := by
    unfold y1
    apply State.modFn_kept
    apply State.wr_kept
    exact hs
  clear_value y1
  clear_value y2
  clear_value y3
  have h6 : Kept a y4 := by
    unfold y4
    split
    · apply State.leaveDegraded_kept
      exact h5
    · exact h5
  clear_value y4
  split
  · apply State.report_kept
    exact hs
  · apply State.report_kept
    apply State.bump_kept
    apply State.report_kept
    exact h6
theorem State.writeSiflt_kept {a s v} (hs : Kept a s) : Kept a (State.writeSiflt s v) := by
  unfold State.writeSiflt
  apply State.each_kept
  · intro x0 x1 h2
    split
    · apply State.softClear_kept
      exact h2
    · exact h2
  · exact hs
theorem State.holdSo_kept {a s k src} (hs : Kept a s) : Kept a (State.holdSo s k src) := by
  unfold State.holdSo
  apply State.updOutputs_kept
  apply State.report_kept
  apply State.raiseBit_kept
  apply State.modSio_kept
  exact hs
theorem execSafetyInputSample_kept {a high low s} (hs : Kept a s) : OutKept a (execSafetyInputSample high low s) := by
  unfold execSafetyInputSample
  extract_lets y0 y1 y2 y3 y4 y5 y6 y7
  clear_value y0
  have h8 : Kept a y1 := by
    unfold y1
    apply State.wr_kept
    exact hs
  clear_value y1
  have h9 : Kept a y2 := by
    unfold y2
    apply State.each_kept
    · intro x10 x11 h12
      apply State.sampleChannel_kept
      exact h12
    · exact h8
  clear_value y2
  have h13 : Kept a y3 := by
    unfold y3
    apply State.each_kept
    · intro x14 x15 h16
      apply State.samplePair_kept
      exact h16
    · exact h9
  clear_value y3
  clear_value y4
  have h17 : Kept a y5 := by
    unfold y5
    apply State.each_kept
    · intro x18 x19 h20
      apply State.trackPress_kept
      exact h20
    · exact h13
  clear_value y5
  have h21 : Kept a y6 := by
    unfold y6
    apply State.each_kept
    · intro x22 x23 h24
      apply State.stepFn_kept
      exact h24
    · exact h17
  clear_value y6
  have h25 : Kept a y7 := by
    unfold y7
    apply State.each_kept
    · intro x26 x27 h28
      apply State.crossTime_kept
      exact h28
    · exact h21
  clear_value y7
  apply OutKept.next
  split
  · exact hs
  · apply State.updOutputs_kept
    exact h25
theorem execTestPulse_kept {a k follows s} (hs : Kept a s) : OutKept a (execTestPulse k follows s) := by
  unfold execTestPulse
  extract_lets y0 y1
  clear_value y0
  have h2 : Kept a y1 := by
    unfold y1
    apply State.modSio_kept
    exact hs
  clear_value y1
  apply OutKept.next
  split
  · exact hs
  · split
    · apply State.report_kept
      exact h2
    · exact h2
theorem execTestPulseCheck_kept {a k level s} (hs : Kept a s) : OutKept a (execTestPulseCheck k level s) := by
  unfold execTestPulseCheck
  apply OutKept.next
  split
  · exact hs
  · apply State.each_kept
    · intro x0 x1 h2
      extract_lets y3 y4
      have h5 : Kept a y3 := by
        unfold y3
        apply State.modInp_kept
        exact h2
      clear_value y3
      have h6 : Kept a y4 := by
        unfold y4
        apply State.raiseBit_kept
        exact h5
      clear_value y4
      split
      · exact h2
      · split
        · split
          · split
            · exact h6
            · apply State.report_kept
              apply State.modInp_kept
              exact h6
          · exact h5
        · apply State.modInp_kept
          exact h2
    · exact hs
theorem execDiscrepancy_kept {a p s} (hs : Kept a s) : OutKept a (execDiscrepancy p s) := by
  unfold execDiscrepancy
  apply OutKept.next
  apply State.declareDisc_kept
  exact hs
theorem execEngineChannelStale_kept {a f s} (hs : Kept a s) : OutKept a (execEngineChannelStale f s) := by
  unfold execEngineChannelStale
  extract_lets y0
  clear_value y0
  apply OutKept.next
  split
  · apply State.feedFns_kept
    apply State.report_kept
    apply State.modFn_kept
    exact hs
  · exact hs
theorem execCrossCheckFault_kept {a f s} (hs : Kept a s) : OutKept a (execCrossCheckFault f s) := by
  unfold execCrossCheckFault
  apply OutKept.next
  split
  · apply State.updOutputs_kept
    apply State.faultFn_kept
    exact hs
  · exact hs
theorem execTwohandTimeout_kept {a f s} (hs : Kept a s) : OutKept a (execTwohandTimeout f s) := by
  unfold execTwohandTimeout
  apply OutKept.next
  split
  · apply State.enterFn_kept
    exact hs
  · exact hs
theorem execLampFailureClear_kept {a v0 s} (hs : Kept a s) : OutKept a (execLampFailureClear v0 s) := by
  unfold execLampFailureClear
  extract_lets y0
  clear_value y0
  apply OutKept.next
  split
  · apply State.modSio_kept
    exact hs
  · exact hs
theorem execOutputTestPulse_kept {a k b fell s} (hs : Kept a s) : OutKept a (execOutputTestPulse k b fell s) := by
  unfold execOutputTestPulse
  extract_lets y0
  have h1 : Kept a y0 := by
    unfold y0
    apply State.modSio_kept
    exact hs
  clear_value y0
  apply OutKept.next
  split
  · exact hs
  · split
    · exact h1
    · apply State.holdSo_kept
      exact h1
theorem execOutputReadback_kept {a k high s} (hs : Kept a s) : OutKept a (execOutputReadback k high s) := by
  unfold execOutputReadback
  extract_lets y0 y1
  clear_value y0
  have h2 : Kept a y1 := by
    unfold y1
    apply State.modSio_kept
    exact hs
  clear_value y1
  apply OutKept.next
  split
  · exact hs
  · split
    · apply State.holdSo_kept
      exact h2
    · exact h2
theorem execSoOverloadTrip_kept {a k s} (hs : Kept a s) : OutKept a (execSoOverloadTrip k s) := by
  unfold execSoOverloadTrip
  apply OutKept.next
  split
  · apply State.holdSo_kept
    exact hs
  · exact hs
theorem execStoTestPulse_kept {a v0 b s} (hs : Kept a s) : OutKept a (execStoTestPulse v0 b s) := by
  unfold execStoTestPulse
  extract_lets y0 y1 y2 y3 y4 y5
  clear_value y0
  clear_value y1
  clear_value y2
  have h6 : Kept a y3 := by
    unfold y3
    apply State.modSio_kept
    exact hs
  clear_value y3
  have h7 : Kept a y4 := by
    unfold y4
    split
    · apply State.report_kept
      apply State.raiseFlag_kept
      exact h6
    · exact h6
  clear_value y4
  have h8 : Kept a y5 := by
    unfold y5
    split
    · apply State.report_kept
      apply State.raiseFlag_kept
      exact h7
    · exact h7
  clear_value y5
  apply OutKept.next
  split
  · exact hs
  · apply State.updOutputs_kept
    exact h8
theorem execAdreqHoldEnd_kept {a readback s} (hs : Kept a s) : OutKept a (execAdreqHoldEnd readback s) := by
  unfold execAdreqHoldEnd
  extract_lets y0
  have h1 : Kept a y0 := by
    unfold y0
    split
    · exact hs
    · apply State.report_kept
      apply State.raiseFlag_kept
      exact hs
  clear_value y0
  apply OutKept.next
  apply State.updAd_kept
  exact h1
theorem execStopTimeout_kept {a f s} (hs : Kept a s) : OutKept a (execStopTimeout f s) := by
  unfold execStopTimeout
  apply OutKept.next
  split
  · apply State.updOutputs_kept
    apply State.endStop_kept
    exact hs
  · exact hs
theorem execDegradedExpiry_kept {a f s} (hs : Kept a s) : OutKept a (execDegradedExpiry f s) := by
  unfold execDegradedExpiry
  apply OutKept.next
  split
  · apply State.updOutputs_kept
    apply State.faultFn_kept
    exact hs
  · exact hs
theorem execAspectReaction_kept {a g s} (hs : Kept a s) : OutKept a (execAspectReaction g s) := by
  unfold execAspectReaction
  apply OutKept.next
  split
  · exact hs
  · extract_lets y0 y1
    have h2 : Kept a y0 := by
      unfold y0
      apply State.modGroup_kept
      exact hs
    clear_value y0
    have h3 : ∀ z0, Kept a z0 → Kept a (y1 z0) := by
      unfold y1
      intro x4 h5
      split
      · apply State.demandAspect_kept
        apply State.modGroup_kept
        exact h5
      · exact h5
    clear_value y1
    split
    · apply h3
      exact h2
    · apply State.setLatches_kept
      exact h2
    · apply h3
      apply State.modSio_kept
      exact h2
    · exact h2
theorem execGroupDegradedTimeout_kept {a g s} (hs : Kept a s) : OutKept a (execGroupDegradedTimeout g s) := by
  unfold execGroupDegradedTimeout
  apply OutKept.next
  apply State.degradedOver_kept
  exact hs

/-! ### Lockstep -/

theorem State.replaceTwin_kept {a s e x} (hs : Kept a s) : Kept a (State.replaceTwin s e x) := by
  unfold State.replaceTwin
  apply State.each_kept
  · intro x0 x1 h2
    extract_lets y3 y4 y5 y6 y7
    clear_value y3
    clear_value y4
    have h8 : Kept a y5 := by
      unfold y5
      split
      · apply State.modTwin_kept
        apply State.wr_kept
        exact h2
      · exact h2
    clear_value y5
    have h9 : Kept a y6 := by
      unfold y6
      split
      · apply State.modTwin_kept
        apply State.wr_kept
        exact h8
      · exact h8
    clear_value y6
    have h10 : Kept a y7 := by
      unfold y7
      apply State.modTwin_kept
      apply State.put_kept
      exact h9
    clear_value y7
    split
    · exact h2
    · split
      · exact h2
      · split
        · apply State.feedFns_kept
          apply State.report_kept
          apply State.put_kept
          exact h10
        · exact h10
  · exact hs
theorem State.takeover_kept {a s e was} (hs : Kept a s) : Kept a (State.takeover s e was) := by
  unfold State.takeover
  extract_lets y0 y1 y2
  clear_value y0
  have h3 : Kept a y1 := by
    unfold y1
    apply State.put_kept
    apply State.wr_kept
    apply State.wr_kept
    exact hs
  clear_value y1
  have h4 : Kept a y2 := by
    unfold y2
    apply State.replaceTwin_kept
    apply State.modEng_kept
    exact h3
  clear_value y2
  split
  · split
    · exact h4
    · apply State.requestStart_kept
      exact h4
  · apply State.report_kept
    exact hs
theorem State.haltCores_kept {a s e} (hs : Kept a s) : Kept a (State.haltCores s e) := by
  unfold State.haltCores
  apply State.each_kept
  · intro x0 x1 h2
    apply State.modCore_kept
    exact h2
  · exact hs
theorem State.stopEngine_kept {a s e cause} (hs : Kept a s) : Kept a (State.stopEngine s e cause) := by
  unfold State.stopEngine
  extract_lets y0 y1
  clear_value y0
  have h2 : Kept a y1 := by
    unfold y1
    apply State.wr_kept
    apply State.wr_kept
    apply State.haltCores_kept
    exact hs
  clear_value y1
  apply State.takeover_kept
  apply State.modEng_kept
  exact h2
theorem State.stopCore_kept {a s q cause} (hs : Kept a s) : Kept a (State.stopCore s q cause) := by
  unfold State.stopCore
  extract_lets y0
  have h1 : Kept a y0 := by
    unfold y0
    apply State.wr_kept
    apply State.modCore_kept
    exact hs
  clear_value y0
  split
  · apply State.stopEngine_kept
    exact hs
  · split
    · apply State.wr_kept
      exact h1
    · exact h1
theorem State.engineFatal_kept {a s q} (hs : Kept a s) : Kept a (State.engineFatal s q) := by
  unfold State.engineFatal
  apply State.stopCore_kept
  apply State.report_kept
  exact hs
theorem State.localEcc_kept {a s q key} (hs : Kept a s) : Kept a (State.localEcc s q key) := by
  unfold State.localEcc
  apply State.stopCore_kept
  apply State.eccEvent_kept
  exact hs
theorem State.freezeCluster_kept {a s k} (hs : Kept a s) : Kept a (State.freezeCluster s k) := by
  unfold State.freezeCluster
  apply State.each_kept
  · intro x0 x1 h2
    apply State.freeze_kept
    exact h2
  · exact hs
theorem State.unfreezeCluster_kept {a s k} (hs : Kept a s) : Kept a (State.unfreezeCluster s k) := by
  unfold State.unfreezeCluster
  apply State.each_kept
  · intro x0 x1 h2
    extract_lets y3
    clear_value y3
    split
    · exact h2
    · apply State.unfreeze_kept
      exact h2
  · exact hs
theorem State.dropHalt_kept {a s e} (hs : Kept a s) : Kept a (State.dropHalt s e) := by
  unfold State.dropHalt
  extract_lets y0 y1 y2 y3 y4
  clear_value y0
  have h5 : Kept a y1 := by
    unfold y1
    apply State.modEng_kept
    apply State.put_kept
    exact hs
  clear_value y1
  clear_value y2
  have h6 : Kept a y3 := by
    unfold y3
    exact h5
  clear_value y3
  have h7 : Kept a y4 := by
    unfold y4
    apply State.each_kept
    · intro x8 x9 h10
      apply State.modCore_kept
      exact h10
    · exact h6
  clear_value y4
  apply State.each_kept
  · intro x11 x12 h13
    apply State.unfreeze_kept
    exact h13
  · exact h7
theorem State.stopFirst_kept {a s e cause} (hs : Kept a s) : Kept a (State.stopFirst s e cause) := by
  unfold State.stopFirst
  extract_lets y0
  have h1 : Kept a y0 := by
    unfold y0
    apply State.dropHalt_kept
    exact hs
  clear_value y0
  split
  · apply State.stopEngine_kept
    exact hs
  · split
    · apply State.wr_kept
      apply State.haltCores_kept
      exact h1
    · apply State.stopEngine_kept
      exact h1
theorem State.loseCluster_kept {a s k} (hs : Kept a s) : Kept a (State.loseCluster s k) := by
  unfold State.loseCluster
  extract_lets y0 y1
  have h2 : Kept a y0 := by
    unfold y0
    apply State.report_kept
    apply State.wr_kept
    apply State.putBit_kept
    exact hs
  clear_value y0
  have h3 : Kept a y1 := by
    unfold y1
    apply State.dropCluster_kept
    apply State.freezeCluster_kept
    exact h2
  clear_value y1
  apply State.each_kept
  · intro x4 x5 h6
    extract_lets y7 y8 y9
    clear_value y7
    have h10 : Kept a y8 := by
      unfold y8
      apply State.wr_kept
      apply State.wr_kept
      apply State.haltCores_kept
      exact h6
    clear_value y8
    have h11 : Kept a y9 := by
      unfold y9
      apply State.modEng_kept
      exact h10
    clear_value y9
    split
    · apply State.takeover_kept
      exact h11
    · exact h11
  · exact h3
theorem State.failPair_kept {a s t} (hs : Kept a s) : Kept a (State.failPair s t) := by
  unfold State.failPair
  apply State.feedFns_kept
  apply State.report_kept
  apply State.wr_kept
  exact hs
theorem State.closeRound_kept {a s t} (hs : Kept a s) : Kept a (State.closeRound s t) := by
  unfold State.closeRound
  extract_lets y0 y1 y2 y3 y4 y5 y6 y7 y8 y9 y10 y11
  clear_value y0
  clear_value y1
  clear_value y2
  clear_value y3
  have h12 : Kept a y4 := by
    unfold y4
    apply State.each_kept
    · intro x13 x14 h15
      split
      · apply State.modFn_kept
        exact h15
      · exact h15
    · apply State.modTwin_kept
      exact hs
  clear_value y4
  clear_value y5
  have h16 : Kept a y6 := by
    unfold y6
    apply State.wr_kept
    exact h12
  clear_value y6
  have h17 : Kept a y7 := by
    unfold y7
    apply State.each_kept
    · intro x18 x19 h20
      split
      · apply State.put_kept
        exact h20
      · exact h20
    · exact h16
  clear_value y7
  clear_value y8
  have h21 : Kept a y9 := by
    unfold y9
    apply State.report_kept
    exact h16
  clear_value y9
  clear_value y10
  have h22 : Kept a y11 := by
    unfold y11
    apply State.wr_kept
    apply State.wr_kept
    exact h21
  clear_value y11
  split
  · apply State.updOutputs_kept
    split
    · exact h17
    · apply State.wr_kept
      apply State.wr_kept
      exact h17
  · split
    · apply State.updOutputs_kept
      exact h21
    · split
      · apply State.updOutputs_kept
        exact h22
      · apply State.failPair_kept
        exact h22
theorem State.acceptPost_kept {a s t b q v} (hs : Kept a s) : Kept a (State.acceptPost s t b q v) := by
  unfold State.acceptPost
  extract_lets y0 y1 y2 y3 y4
  clear_value y0
  clear_value y1
  clear_value y2
  have h5 : ∀ z0, Kept a z0 → Kept a (y3 z0) := by
    unfold y3
    intro x6 h7
    apply State.modTwin_kept
    exact h7
  clear_value y3
  have h8 : ∀ z0, Kept a z0 → Kept a (y4 z0) := by
    unfold y4
    intro x9 h10
    apply State.modTwin_kept
    exact h10
  clear_value y4
  split
  · split
    · apply State.closeRound_kept
      apply h8
      exact hs
    · apply h5
      apply State.closeRound_kept
      exact hs
  · split
    · apply h8
      exact hs
    · apply h5
      exact hs
theorem State.postRefused_kept {a s t b} (hs : Kept a s) : Kept a (State.postRefused s t b) := by
  unfold State.postRefused
  apply State.report_kept
  exact hs
theorem State.postTwin_kept {a s r t b v} (hs : Kept a s) : Kept a (State.postTwin s r t b v) := by
  unfold State.postTwin
  extract_lets y0 y1 y2 y3 y4 y5
  clear_value y0
  clear_value y1
  clear_value y2
  clear_value y3
  clear_value y4
  have h6 : Kept a y5 := by
    unfold y5
    apply State.modTwin_kept
    apply State.wr_kept
    apply State.wr_kept
    exact hs
  clear_value y5
  split
  · apply State.acceptPost_kept
    exact h6
  · apply State.postRefused_kept
    exact hs
theorem State.commitRefused_kept {a s e} (hs : Kept a s) : Kept a (State.commitRefused s e) := by
  unfold State.commitRefused
  apply State.report_kept
  exact hs
theorem State.commitCk_kept {a s r e v} (hs : Kept a s) : Kept a (State.commitCk s r e v) := by
  unfold State.commitCk
  extract_lets y0
  clear_value y0
  split
  · apply State.softWrite_kept
    apply State.softWrite_kept
    exact hs
  · apply State.commitRefused_kept
    exact hs
theorem State.takeoverDone_kept {a s r e} (hs : Kept a s) : Kept a (State.takeoverDone s r e) := by
  unfold State.takeoverDone
  split
  · apply State.put_kept
    apply State.wr_kept
    apply State.wr_kept
    exact hs
  · exact hs
theorem State.reserveFix_kept {a s} (hs : Kept a s) : Kept a (State.reserveFix s) := by
  unfold State.reserveFix
  apply State.put_kept
  apply State.each_kept
  · intro x0 x1 h2
    extract_lets y3 y4
    clear_value y3
    have h5 : Kept a y4 := by
      unfold y4
      split
      · apply State.wr_kept
        apply State.wr_kept
        apply State.wr_kept
        exact h2
      · apply State.modEng_kept
        exact h2
    clear_value y4
    apply State.report_kept
    exact h5
  · exact hs
theorem execLockstepMismatch_kept {a e g s} (hs : Kept a s) : OutKept a (execLockstepMismatch e g s) := by
  unfold execLockstepMismatch
  apply OutKept.next
  split
  · apply State.stopFirst_kept
    apply State.report_kept
    apply State.wr_kept
    exact hs
  · exact hs
theorem execInputFault_kept {a e cycles s} (hs : Kept a s) : OutKept a (execInputFault e cycles s) := by
  unfold execInputFault
  extract_lets y0
  have h1 : Kept a y0 := by
    unfold y0
    apply State.wr_kept
    exact hs
  clear_value y0
  apply OutKept.next
  split
  · split
    · exact h1
    · apply State.stopFirst_kept
      apply State.report_kept
      exact h1
  · exact hs
theorem execRoundTimeout_kept {a t s} (hs : Kept a s) : OutKept a (execRoundTimeout t s) := by
  unfold execRoundTimeout
  apply OutKept.next
  split
  · apply State.closeRound_kept
    exact hs
  · exact hs
theorem execSpareStart_kept {a e s} (hs : Kept a s) : OutKept a (execSpareStart e s) := by
  unfold execSpareStart
  extract_lets y0
  clear_value y0
  apply OutKept.next
  split
  · apply State.modCore_kept
    apply State.modEng_kept
    exact hs
  · exact hs
theorem execWaiveEnd_kept {a t s} (hs : Kept a s) : OutKept a (execWaiveEnd t s) := by
  unfold execWaiveEnd
  apply OutKept.next
  split
  · apply State.modTwin_kept
    apply State.put_kept
    exact hs
  · exact hs
theorem execClusterLost_kept {a k cause s} (hs : Kept a s) : OutKept a (execClusterLost k cause s) := by
  unfold execClusterLost
  extract_lets y0 y1 y2
  clear_value y0
  clear_value y1
  clear_value y2
  apply OutKept.next
  split
  · exact hs
  · apply State.loseCluster_kept
    exact hs

/-! ### Dma -/

theorem State.dmaRefused_kept {a s k c} (hs : Kept a s) : Kept a (State.dmaRefused s k c) := by
  unfold State.dmaRefused
  apply State.report_kept
  exact hs
theorem State.dmaIrq_kept {a s k c} (hs : Kept a s) : Kept a (State.dmaIrq s k c) := by
  unfold State.dmaIrq
  split
  · apply State.raise_kept
    exact hs
  · exact hs
theorem State.dmaError_kept {a s k c err} (hs : Kept a s) : Kept a (State.dmaError s k c err) := by
  unfold State.dmaError
  extract_lets y0
  have h1 : Kept a y0 := by
    unfold y0
    apply State.wr_kept
    apply State.wr_kept
    exact hs
  clear_value y0
  apply State.dmaIrq_kept
  apply State.report_kept
  exact h1
theorem State.dmaDone_kept {a s k c} (hs : Kept a s) : Kept a (State.dmaDone s k c) := by
  unfold State.dmaDone
  apply State.dmaIrq_kept
  apply State.wr_kept
  apply State.wr_kept
  exact hs
theorem State.dmaCopy_kept {a s k src dst w m} (h : Kept a s) : Kept a (State.dmaCopy s k src dst w m).1 := by
  induction w generalizing s m with
  | nil => exact h
  | cons i r ih =>
    unfold State.dmaCopy
    extract_lets key off v y
    split
    · exact State.eccEvent_kept h
    · have hy : Kept a y := by
        unfold y
        split
        · exact State.fresh_kept h
        · exact h
      clear_value y
      refine ih ?_
      split
      · exact hy
      · exact State.poke_kept hy
theorem State.dmaMove_kept {a s k c words stop} (hs : Kept a s) : Kept a (State.dmaMove s k c words stop) := by
  unfold State.dmaMove
  extract_lets y0 y1
  have h2 : Kept a y0.1 := by
    unfold y0
    apply State.dmaCopy_kept
    exact hs
  clear_value y0
  have h3 : Kept a y1 := by
    unfold y1
    apply State.hwWrite_kept
    exact h2
  clear_value y1
  split
  · apply State.dmaError_kept
    exact h3
  · split
    · apply State.dmaError_kept
      exact h3
    · apply State.dmaDone_kept
      exact h3
theorem State.dmaStart_kept {a s k c} (hs : Kept a s) : Kept a (State.dmaStart s k c) := by
  unfold State.dmaStart
  extract_lets y0 y1 y2 y3 y4
  have h5 : Kept a y0 := by
    unfold y0
    split
    · apply State.report_kept
      apply State.bump_kept
      exact hs
    · exact hs
  clear_value y0
  have h6 : Kept a y1 := by
    unfold y1
    apply State.wr_kept
    apply State.wr_kept
    apply State.wr_kept
    apply State.wr_kept
    exact h5
  clear_value y1
  have h7 : Kept a y2 := by
    unfold y2
    apply State.wr_kept
    exact h6
  clear_value y2
  clear_value y3
  have h8 : Kept a y4 := by
    unfold y4
    split
    · apply State.report_kept
      apply State.raiseFlag_kept
      exact h6
    · exact h6
  clear_value y4
  split
  · apply State.dmaError_kept
    exact h6
  · split
    · exact h7
    · split
      · apply State.dmaDone_kept
        exact h8
      · apply State.wr_kept
        exact h8
theorem State.dmaStop_kept {a s k c moved} (hs : Kept a s) : Kept a (State.dmaStop s k c moved) := by
  unfold State.dmaStop
  split
  · exact hs
  · split
    · apply State.dmaError_kept
      exact hs
    · apply State.dmaMove_kept
      exact hs
theorem State.writeDcmd_kept {a s k c v moved} (hs : Kept a s) : Kept a (State.writeDcmd s k c v moved) := by
  unfold State.writeDcmd
  extract_lets y0 y1 y2
  clear_value y0
  clear_value y1
  have h3 : Kept a y2 := by
    unfold y2
    split
    · apply State.dmaStop_kept
      exact hs
    · exact hs
  clear_value y2
  split
  · apply State.dmaRefused_kept
    exact h3
  · split
    · apply State.dmaStart_kept
      exact h3
    · exact h3
theorem State.writeDma_kept {a s k c fs v} (hs : Kept a s) : Kept a (State.writeDma s k c fs v) := by
  unfold State.writeDma
  split
  · apply State.dmaRefused_kept
    exact hs
  · apply foldl_kept
    · intro x0 x1 h2
      split
      · apply State.softWrite_kept
        exact h2
      · apply State.wr_kept
        exact h2
    · exact hs
theorem State.writeRidx_kept {a s k c v} (hs : Kept a s) : Kept a (State.writeRidx s k c v) := by
  unfold State.writeRidx
  split
  · apply State.dmaRefused_kept
    exact hs
  · apply State.wr_kept
    exact hs
theorem State.pokes_kept {a s key l} (hs : Kept a s) : Kept a (State.pokes s key l) := by
  unfold State.pokes
  apply foldl_kept
  · intro x0 x1 h2
    apply State.poke_kept
    exact h2
  · exact hs
theorem State.ringRecord_kept {a s k c rec'} (hs : Kept a s) : Kept a (State.ringRecord s k c rec') := by
  unfold State.ringRecord
  extract_lets y0 y1 y2 y3 y4 y5 y6 y7
  clear_value y0
  clear_value y1
  clear_value y2
  have h8 : Kept a y3 := by
    unfold y3
    apply State.pokes_kept
    exact hs
  clear_value y3
  clear_value y4
  have h9 : Kept a y5 := by
    unfold y5
    apply State.wr_kept
    exact h8
  clear_value y5
  have h10 : Kept a y6 := by
    unfold y6
    split
    · apply State.pokes_kept
      exact h9
    · exact h9
  clear_value y6
  clear_value y7
  split
  · apply State.bump_kept
    exact hs
  · split
    · apply State.raise_kept
      exact h10
    · exact h10
theorem State.deliver_kept {a s k st rec'} (hs : Kept a s) : Kept a (State.deliver s k st rec') := by
  unfold State.deliver
  split
  · apply State.ringRecord_kept
    exact hs
  · exact hs
theorem State.sendStream_kept {a s st rec'} (hs : Kept a s) : Kept a (State.sendStream s st rec') := by
  unfold State.sendStream
  apply State.each_kept
  · intro x0 x1 h2
    split
    · exact h2
    · exact h2
  · exact hs
theorem State.arrive_kept {a s k c st} (hs : Kept a s) : Kept a (State.arrive s k c st) := by
  unfold State.arrive
  split
  · exact hs
  · apply State.ringRecord_kept
    exact hs
theorem State.frameConverted_kept {a s n} (hs : Kept a s) : Kept a (State.frameConverted s n) := by
  unfold State.frameConverted
  extract_lets y0 y1
  clear_value y0
  clear_value y1
  split
  · apply State.modDie_kept
    exact hs
  · apply State.sendStream_kept
    apply State.modDie_kept
    exact hs
theorem State.frameSpot_kept {a s} (hs : Kept a s) : Kept a (State.frameSpot s) := by
  unfold State.frameSpot
  extract_lets y0
  clear_value y0
  split
  · apply State.each_kept
    · intro x1 x2 h3
      apply State.modOptic_kept
      exact h3
    · apply State.sendStream_kept
      exact hs
  · exact hs
theorem State.dmaIdle_kept {a s k} (hs : Kept a s) : Kept a (State.dmaIdle s k) := by
  unfold State.dmaIdle
  apply State.each_kept
  · intro x0 x1 h2
    apply State.wr_kept
    apply State.wr_kept
    exact h2
  · exact hs
theorem execMoveDone_kept {a k c order s} (hs : Kept a s) : OutKept a (execMoveDone k c order s) := by
  unfold execMoveDone
  extract_lets y0 y1
  clear_value y0
  clear_value y1
  apply OutKept.next
  split
  · apply State.dmaMove_kept
    exact hs
  · exact hs

/-! ### Tightrope -/

theorem State.writeTrpCtl_kept {a s v} (hs : Kept a s) : Kept a (State.writeTrpCtl s v) := by
  unfold State.writeTrpCtl
  extract_lets y0 y1
  have h2 : Kept a y0 := by
    unfold y0
    apply State.wr_kept
    apply State.wr_kept
    apply State.wr_kept
    exact hs
  clear_value y0
  have h3 : Kept a y1 := by
    unfold y1
    split
    · apply State.flag_kept
      exact h2
    · exact h2
  clear_value y1
  split
  · apply State.flag_kept
    exact h3
  · exact h3
theorem State.writeTrpSlot_kept {a s r j v} (hs : Kept a s) : Kept a (State.writeTrpSlot s r j v) := by
  unfold State.writeTrpSlot
  extract_lets y0 y1 y2 y3 y4
  clear_value y0
  clear_value y1
  clear_value y2
  have h5 : Kept a y3 := by
    unfold y3
    apply State.wr_kept
    apply State.wr_kept
    apply State.wr_kept
    exact hs
  clear_value y3
  have h6 : Kept a y4 := by
    unfold y4
    split
    · apply State.flag_kept
      exact h5
    · exact h5
  clear_value y4
  split
  · apply State.flag_kept
    exact h6
  · exact h6
theorem State.postFinding_kept {a s r v} (hs : Kept a s) : Kept a (State.postFinding s r v) := by
  unfold State.postFinding
  extract_lets y0 y1
  clear_value y0
  clear_value y1
  split
  · apply State.report_kept
    exact hs
  · apply State.bump_kept
    apply State.report_kept
    exact hs
theorem State.showSweep_kept {a s} (hs : Kept a s) : Kept a (State.showSweep s) := by
  unfold State.showSweep
  extract_lets y0
  clear_value y0
  apply State.wr_kept
  apply State.put_kept
  exact hs
theorem State.countSweep_kept {a s p} (hs : Kept a s) : Kept a (State.countSweep s p) := by
  unfold State.countSweep
  extract_lets y0
  clear_value y0
  split
  · exact hs
  · apply State.wr_kept
    exact hs
theorem State.loopback_kept {a s r pass} (hs : Kept a s) : Kept a (State.loopback s r pass) := by
  unfold State.loopback
  extract_lets y0
  have h1 : Kept a y0 := by
    unfold y0
    apply State.put_kept
    exact hs
  clear_value y0
  split
  · exact h1
  · apply State.report_kept
    exact h1
theorem State.startDwell_kept {a s r pass} (hs : Kept a s) : Kept a (State.startDwell s r pass) := by
  unfold State.startDwell
  extract_lets y0 y1 y2 y3 y4
  clear_value y0
  clear_value y1
  clear_value y2
  have h5 : Kept a y3 := by
    unfold y3
    apply State.modGen_kept
    exact hs
  clear_value y3
  have h6 : Kept a y4 := by
    unfold y4
    apply State.modRx_kept
    exact h5
  clear_value y4
  apply State.loopback_kept
  apply State.put_kept
  apply State.wr_kept
  apply State.wr_kept
  exact h6
theorem State.receiverBlock_kept {a s k c r raw} (hs : Kept a s) : Kept a (State.receiverBlock s k c r raw) := by
  unfold State.receiverBlock
  extract_lets y0 y1 y2
  clear_value y0
  clear_value y1
  clear_value y2
  split
  · exact hs
  · apply State.modRx_kept
    apply State.ringRecord_kept
    exact hs
theorem State.endDwell_kept {a s r} (hs : Kept a s) : Kept a (State.endDwell s r) := by
  unfold State.endDwell
  extract_lets y0 y1 y2 y3 y4 y5 y6 y7 y8 y9
  clear_value y0
  clear_value y1
  clear_value y2
  clear_value y3
  have h10 : Kept a y4 := by
    unfold y4
    split
    · apply State.raiseFlag_kept
      exact hs
    · exact hs
  clear_value y4
  have h11 : Kept a y5 := by
    unfold y5
    split
    · apply State.report_kept
      exact h10
    · exact h10
  clear_value y5
  have h12 : Kept a y6 := by
    unfold y6
    split
    · apply State.bump_kept
      exact h11
    · exact h11
  clear_value y6
  have h13 : Kept a y7 := by
    unfold y7
    apply State.deliver_kept
    exact h12
  clear_value y7
  have h14 : Kept a y8 := by
    unfold y8
    apply State.modRx_kept
    apply State.modGen_kept
    exact h13
  clear_value y8
  have h15 : Kept a y9 := by
    unfold y9
    apply State.showSweep_kept
    apply State.wr_kept
    apply State.put_kept
    exact h14
  clear_value y9
  split
  · apply State.countSweep_kept
    exact h15
  · exact h15
theorem State.stopSweeps_kept {a s} (hs : Kept a s) : Kept a (State.stopSweeps s) := by
  unfold State.stopSweeps
  apply State.showSweep_kept
  apply State.each_kept
  · intro x0 x1 h2
    split
    · apply State.modRx_kept
      exact h2
    · exact h2
  · exact hs
theorem execSweepStart_kept {a r s} (hs : Kept a s) : OutKept a (execSweepStart r s) := by
  unfold execSweepStart
  apply OutKept.next
  split
  · apply State.showSweep_kept
    apply State.modRx_kept
    exact hs
  · exact hs
theorem execDwellStart_kept {a r pass s} (hs : Kept a s) : OutKept a (execDwellStart r pass s) := by
  unfold execDwellStart
  apply OutKept.next
  split
  · split
    · apply State.startDwell_kept
      exact hs
    · apply State.showSweep_kept
      apply State.modRx_kept
      exact hs
  · exact hs
theorem execDwellEnd_kept {a r s} (hs : Kept a s) : OutKept a (execDwellEnd r s) := by
  unfold execDwellEnd
  apply OutKept.next
  split
  · apply State.endDwell_kept
    exact hs
  · exact hs
theorem execSweepWake_kept {a k fails s} (hs : Kept a s) : OutKept a (execSweepWake k fails s) := by
  unfold execSweepWake
  extract_lets y0 y1
  clear_value y0
  clear_value y1
  apply OutKept.next
  split
  · exact hs
  · split
    · apply State.each_kept
      · intro x2 x3 h4
        apply State.report_kept
        exact h4
      · exact hs
    · apply State.requestStart_kept
      exact hs
theorem execMapChange_kept {a s} (hs : Kept a s) : OutKept a (execMapChange s) := by
  unfold execMapChange
  extract_lets y0 y1 y2 y3
  clear_value y0
  have h4 : Kept a y1 := by
    unfold y1
    split
    · apply State.countSweep_kept
      exact hs
    · exact hs
  clear_value y1
  clear_value y2
  have h5 : Kept a y3 := by
    unfold y3
    exact h4
  clear_value y3
  apply OutKept.next
  split
  · exact hs
  · split
    · exact h5
    · apply State.report_kept
      apply State.raiseFlag_kept
      exact h5

/-! ### Collector -/

theorem State.modColl_kept {a s f} (hs : Kept a s) : Kept a (State.modColl s f) := by
  unfold State.modColl
  exact hs
theorem State.updErrn_kept {a s} (hs : Kept a s) : Kept a (State.updErrn s) := by
  unfold State.updErrn
  apply State.put_kept
  exact hs
theorem State.pulseErrn_kept {a s} (hs : Kept a s) : Kept a (State.pulseErrn s) := by
  unfold State.pulseErrn
  apply State.updErrn_kept
  apply State.put_kept
  apply State.modColl_kept
  exact hs
theorem State.stopCluster_kept {a s k} (hs : Kept a s) : Kept a (State.stopCluster s k) := by
  unfold State.stopCluster
  extract_lets y0
  have h1 : Kept a y0 := by
    unfold y0
    apply State.each_kept
    · intro x2 x3 h4
      apply State.haltCores_kept
      exact h4
    · apply State.dropCluster_kept
      apply State.wr_kept
      exact hs
  clear_value y0
  apply State.freezeCluster_kept
  exact h1
theorem State.safeEntry_kept {a s ev} (hs : Kept a s) : Kept a (State.safeEntry s ev) := by
  unfold State.safeEntry
  extract_lets y0 y1 y2 y3 y4 y5
  have h6 : Kept a y0 := by
    unfold y0
    apply State.setLatches_kept
    exact hs
  clear_value y0
  have h7 : Kept a y1 := by
    unfold y1
    apply State.each_kept
    · intro x8 x9 h10
      split
      · exact h10
      · apply State.enterFn_kept
        apply State.report_kept
        exact h10
    · exact h6
  clear_value y1
  have h11 : Kept a y2 := by
    unfold y2
    apply State.stopSweeps_kept
    apply State.transition_kept
    exact h7
  clear_value y2
  clear_value y3
  have h12 : Kept a y4 := by
    unfold y4
    exact h11
  clear_value y4
  have h13 : Kept a y5 := by
    unfold y5
    apply State.each_kept
    · intro x14 x15 h16
      apply State.stopCluster_kept
      exact h16
    · exact h12
  clear_value y5
  split
  · exact hs
  · apply State.updOutputs_kept
    apply State.updErrn_kept
    apply State.raiseBit_kept
    exact h13
theorem State.reportS4_kept {a s cls src path data} (hs : Kept a s) : Kept a (State.reportS4 s cls src path data) := by
  unfold State.reportS4
  extract_lets y0
  have h1 : Kept a y0 := by
    unfold y0
    apply State.report_kept
    exact hs
  clear_value y0
  apply State.safeEntry_kept
  exact h1
theorem State.faultFns_kept {a s fs} (hs : Kept a s) : Kept a (State.faultFns s fs) := by
  unfold State.faultFns
  apply State.updOutputs_kept
  apply State.each_kept
  · intro x0 x1 h2
    split
    · apply State.wr_kept
      exact h2
    · apply State.faultFn_kept
      exact h2
  · exact hs
theorem State.holdOutput_kept {a s o} (hs : Kept a s) : Kept a (State.holdOutput s o) := by
  unfold State.holdOutput
  apply State.updOutputs_kept
  split
  · apply State.raiseBit_kept
    apply State.modSio_kept
    exact hs
  · split
    · apply State.raiseFlag_kept
      apply State.modSio_kept
      exact hs
    · apply State.raiseFlag_kept
      apply State.modSio_kept
      exact hs
theorem State.scopeReact_kept {a s x ev} (hs : Kept a s) : Kept a (State.scopeReact s x ev) := by
  unfold State.scopeReact
  split
  · apply State.setLatches_kept
    exact hs
  · apply State.setLatches_kept
    exact hs
  · apply State.setLatches_kept
    exact hs
  · apply State.setLatches_kept
    exact hs
  · apply State.setLatches_kept
    exact hs
  · exact hs
  · split
    · exact hs
    · apply State.stopEngine_kept
      exact hs
  · split
    · exact hs
    · apply State.failPair_kept
      exact hs
  · split
    · exact hs
    · apply State.loseCluster_kept
      exact hs
  · apply State.faultFns_kept
    exact hs
  · apply State.faultFns_kept
    exact hs
  · apply State.faultFns_kept
    exact hs
  · apply State.faultFns_kept
    exact hs
  · apply State.holdOutput_kept
    exact hs
  · apply State.safeEntry_kept
    exact hs
theorem State.putRecord_kept {a s sev l} (hs : Kept a s) : Kept a (State.putRecord s sev l) := by
  unfold State.putRecord
  extract_lets y0 y1 y2 y3
  clear_value y0
  have h4 : Kept a y1 := by
    unfold y1
    apply foldl_kept
    · intro x5 x6 h7
      apply State.wr_kept
      exact h7
    · exact hs
  clear_value y1
  have h8 : Kept a y2 := by
    unfold y2
    split
    · apply State.bump_kept
      exact h4
    · exact h4
  clear_value y2
  have h9 : Kept a y3 := by
    unfold y3
    apply State.modColl_kept
    apply State.wr_kept
    exact h8
  clear_value y3
  apply State.wr_kept
  apply State.wr_kept
  exact h9
theorem State.closeAcc_kept {a s v1} (hs : Kept a s) : Kept a (State.closeAcc s v1) := by
  unfold State.closeAcc
  apply State.modColl_kept
  exact hs
theorem State.dropAcc_kept {a s cls src} (hs : Kept a s) : Kept a (State.dropAcc s cls src) := by
  unfold State.dropAcc
  apply State.modColl_kept
  exact hs
theorem State.emitClass_kept {a s cls} (hs : Kept a s) : Kept a (State.emitClass s cls) := by
  unfold State.emitClass
  split
  · exact hs
  · extract_lets y0
    have h1 : Kept a y0 := by
      unfold y0
      apply State.dropAcc_kept
      apply State.bump_kept
      apply State.putRecord_kept
      apply State.closeAcc_kept
      exact hs
    clear_value y0
    split
    · apply State.modColl_kept
      exact hs
    · split
      · exact h1
      · apply State.modColl_kept
        exact h1
theorem State.addStorm_kept {a s b} (hs : Kept a s) : Kept a (State.addStorm s b) := by
  unfold State.addStorm
  split
  · apply State.modColl_kept
    exact hs
  · apply State.modColl_kept
    exact hs
theorem State.toClass_kept {a s b} (hs : Kept a s) : Kept a (State.toClass s b) := by
  unfold State.toClass
  extract_lets y0
  have h1 : Kept a y0 := by
    unfold y0
    apply State.addStorm_kept
    exact hs
  clear_value y0
  split
  · apply State.emitClass_kept
    exact h1
  · exact h1
theorem State.emitSource_kept {a s cls src} (hs : Kept a s) : Kept a (State.emitSource s cls src) := by
  unfold State.emitSource
  split
  · exact hs
  · split
    · apply State.dropAcc_kept
      apply State.bump_kept
      apply State.putRecord_kept
      apply State.closeAcc_kept
      exact hs
    · apply State.toClass_kept
      apply State.dropAcc_kept
      apply State.modColl_kept
      exact hs
theorem State.setBucket_kept {a s cls src b} (hs : Kept a s) : Kept a (State.setBucket s cls src b) := by
  unfold State.setBucket
  apply State.modColl_kept
  exact hs
theorem State.takeToken_kept {a s cls src} (hs : Kept a s) : Kept a (State.takeToken s cls src) := by
  unfold State.takeToken
  extract_lets y0
  clear_value y0
  apply State.setBucket_kept
  exact hs
theorem State.coalesce_kept {a s b} (hs : Kept a s) : Kept a (State.coalesce s b).1 := by
  unfold State.coalesce
  extract_lets y0 y1
  have h2 : Kept a y0 := by
    unfold y0
    apply State.addStorm_kept
    exact hs
  clear_value y0
  have h3 : Kept a y1 := by
    unfold y1
    split
    · exact hs
    · apply State.report_kept
      apply State.modColl_kept
      exact hs
  clear_value y1
  split
  · dsimp only
    split
    · apply State.emitSource_kept
      exact h2
    · exact h2
  · dsimp only
    apply State.toClass_kept
    exact h3
theorem State.cycleOpen_kept {a s} (hs : Kept a s) : Kept a (State.cycleOpen s).1 := by
  unfold State.cycleOpen
  split
  · split
    · dsimp only
      exact hs
    · dsimp only
      apply State.modColl_kept
      exact hs
  · dsimp only
    apply State.modColl_kept
    exact hs
theorem State.showOpen_kept {a s} (hs : Kept a s) : Kept a (State.showOpen s) := by
  unfold State.showOpen
  apply State.each_kept
  · intro x0 x1 h2
    extract_lets y3
    clear_value y3
    apply State.wr_kept
    apply State.wr_kept
    exact h2
  · exact hs
theorem State.routeFault_kept {a s cls sev} (hs : Kept a s) : Kept a (State.routeFault s cls sev) := by
  unfold State.routeFault
  extract_lets y0
  clear_value y0
  split
  · exact hs
  · split
    · split
      · apply State.raise_kept
        exact hs
      · exact hs
    · apply State.raise_kept
      exact hs
theorem State.react_kept {a s e sev esc} (hs : Kept a s) : Kept a (State.react s e sev esc) := by
  unfold State.react
  split
  · apply State.safeEntry_kept
    exact hs
  · split
    · apply State.scopeReact_kept
      exact hs
    · exact hs
theorem State.notify_kept {a s e sev} (hs : Kept a s) : Kept a (State.notify s e sev) := by
  unfold State.notify
  extract_lets y0 y1 y2
  have h3 : Kept a y0 := by
    unfold y0
    split
    · apply State.pulseErrn_kept
      exact hs
    · exact hs
  clear_value y0
  have h4 : Kept a y1 := by
    unfold y1
    apply State.routeFault_kept
    exact h3
  clear_value y1
  have h5 : Kept a y2 := by
    unfold y2
    split
    · apply State.startRouted_kept
      exact h4
    · exact h4
  clear_value y2
  split
  · apply State.raiseBit_kept
    exact h5
  · exact h5
theorem State.addOpen_kept {a s e sev rec' acc} (hs : Kept a s) : Kept a (State.addOpen s e sev rec' acc) := by
  unfold State.addOpen
  split
  · exact hs
  · apply State.modColl_kept
    exact hs
theorem State.recordEvent_kept {a s e sev esc sim} (hs : Kept a s) : Kept a (State.recordEvent s e sev esc sim) := by
  unfold State.recordEvent
  extract_lets y0 y1 y2
  clear_value y0
  clear_value y1
  have h3 : Kept a y2 := by
    unfold y2
    split
    · apply State.wr_kept
      apply State.wr_kept
      apply State.put_kept
      apply State.put_kept
      apply State.wr_kept
      apply State.wr_kept
      exact hs
    · exact hs
  clear_value y2
  apply State.putRecord_kept
  apply State.addOpen_kept
  exact h3
theorem State.takeEvent_kept {a s e sev esc sim dropped} (hs : Kept a s) : Kept a (State.takeEvent s e sev esc sim dropped) := by
  unfold State.takeEvent
  extract_lets y0 y1 y2 y3
  have h4 : Kept a y0 := by
    unfold y0
    apply State.takeToken_kept
    exact hs
  clear_value y0
  clear_value y1
  have h5 : Kept a y2 := by
    unfold y2
    split
    · apply State.toClass_kept
      apply State.bump_kept
      apply State.addOpen_kept
      exact hs
    · split
      · split
        · apply State.recordEvent_kept
          exact h4
        · apply State.toClass_kept
          apply State.addOpen_kept
          exact h4
      · apply State.coalesce_kept
        apply State.addOpen_kept
        exact hs
  clear_value y2
  have h6 : Kept a y3 := by
    unfold y3
    apply State.notify_kept
    exact h5
  clear_value y3
  split
  · apply State.modColl_kept
    exact h6
  · apply State.react_kept
    exact h6
theorem State.takeBatch_kept {a s t} (hs : Kept a s) : Kept a (State.takeBatch s t) := by
  unfold State.takeBatch
  extract_lets y0 y1 y2 y3 y4 y5
  have h6 : Kept a y0.1 := by
    unfold y0
    apply State.cycleOpen_kept
    exact hs
  clear_value y0
  have h7 : Kept a y1 := by
    unfold y1
    exact h6
  clear_value y1
  clear_value y2
  clear_value y3
  have h8 : Kept a y4 := by
    unfold y4
    apply State.modColl_kept
    exact h7
  clear_value y4
  clear_value y5
  apply State.showOpen_kept
  apply foldl_kept
  · intro x9 x10 h11
    apply State.takeEvent_kept
    exact h11
  · exact h8
theorem State.lineReact_kept {a n s} (h : Kept a s) : Kept a (State.lineReact n s) := by
  induction n generalizing s with
  | zero => exact h
  | succ n ih =>
    unfold State.lineReact
    extract_lets evs o y
    split
    · exact h
    · have hy : Kept a y := State.modColl_kept (State.cycleOpen_kept h)
      clear_value y
      exact ih (foldl_kept (fun t e ht => State.react_kept ht) hy)
theorem State.endSubstitutions_kept {a s} (hs : Kept a s) : Kept a (State.endSubstitutions s) := by
  unfold State.endSubstitutions
  apply State.each_kept
  · intro x0 x1 h2
    split
    · split
      · apply State.updDemand_kept
        apply State.modGroup_kept
        exact h2
      · exact h2
    · exact h2
  · exact hs
theorem State.acknowledge_kept {a s cls all q} (hs : Kept a s) : Kept a (State.acknowledge s cls all q) := by
  unfold State.acknowledge
  extract_lets y0 y1 y2 y3 y4
  have h5 : Kept a y0 := by
    unfold y0
    apply State.cycleOpen_kept
    exact hs
  clear_value y0
  clear_value y1
  clear_value y2
  have h6 : Kept a y3 := by
    unfold y3
    apply State.modColl_kept
    exact h5
  clear_value y3
  have h7 : Kept a y4 := by
    unfold y4
    split
    · apply State.each_kept
      · intro x8 x9 h10
        apply State.emitSource_kept
        exact h10
      · exact h6
    · exact h6
  clear_value y4
  apply State.endSubstitutions_kept
  apply State.showOpen_kept
  exact h7
theorem State.fcRefused_kept {a s} (hs : Kept a s) : Kept a (State.fcRefused s) := by
  unfold State.fcRefused
  apply State.report_kept
  exact hs
theorem State.writeFclr_kept {a s r v} (hs : Kept a s) : Kept a (State.writeFclr s r v) := by
  unfold State.writeFclr
  split
  · apply State.fcRefused_kept
    exact hs
  · split
    · apply State.clear_kept
      exact hs
    · exact hs
theorem State.writeAck_kept {a s r v} (hs : Kept a s) : Kept a (State.writeAck s r v) := by
  unfold State.writeAck
  split
  · apply State.fcRefused_kept
    exact hs
  · apply State.acknowledge_kept
    exact hs
theorem State.writeErrn_kept {a s r v} (hs : Kept a s) : Kept a (State.writeErrn s r v) := by
  unfold State.writeErrn
  split
  · apply State.fcRefused_kept
    exact hs
  · apply State.updErrn_kept
    apply State.wr_kept
    exact hs
theorem State.writeSok_kept {a s r v} (hs : Kept a s) : Kept a (State.writeSok s r v) := by
  unfold State.writeSok
  extract_lets y0
  have h1 : Kept a y0 := by
    unfold y0
    split
    · apply State.modColl_kept
      exact hs
    · exact hs
  clear_value y0
  split
  · apply State.fcRefused_kept
    exact hs
  · split
    · apply State.softClear_kept
      exact h1
    · exact h1
theorem State.writeRetry_kept {a s r} (hs : Kept a s) : Kept a (State.writeRetry s r) := by
  unfold State.writeRetry
  split
  · apply State.fcRefused_kept
    exact hs
  · apply State.report_kept
    apply State.bump_kept
    exact hs
theorem State.writeLridx_kept {a s v} (hs : Kept a s) : Kept a (State.writeLridx s v) := by
  unfold State.writeLridx
  extract_lets y0
  clear_value y0
  apply State.modColl_kept
  apply State.wr_kept
  exact hs
theorem execFaultEvent_kept {a s} (hs : Kept a s) : OutKept a (execFaultEvent s) := by
  unfold execFaultEvent
  apply OutKept.next
  split
  · split
    · apply State.takeBatch_kept
      exact hs
    · exact hs
  · exact hs
theorem execCollectorSelfCheckFail_kept {a src s} (hs : Kept a s) : OutKept a (execCollectorSelfCheckFail src s) := by
  unfold execCollectorSelfCheckFail
  extract_lets y0 y1 y2
  clear_value y0
  have h3 : Kept a y1 := by
    unfold y1
    apply State.put_kept
    apply State.modColl_kept
    apply State.cycleOpen_kept
    exact hs
  clear_value y1
  have h4 : Kept a y2 := by
    unfold y2
    split
    · apply State.recordEvent_kept
      exact h3
    · apply State.addOpen_kept
      exact h3
  clear_value y2
  apply OutKept.next
  split
  · apply State.report_kept
    exact hs
  · apply State.showOpen_kept
    apply State.react_kept
    apply State.notify_kept
    exact h4
theorem execTokenRefill_kept {a c src s} (hs : Kept a s) : OutKept a (execTokenRefill c src s) := by
  unfold execTokenRefill
  extract_lets y0
  clear_value y0
  apply OutKept.next
  split
  · exact hs
  · split
    · apply State.emitSource_kept
      apply State.setBucket_kept
      exact hs
    · apply State.setBucket_kept
      exact hs
theorem execClassStormEmit_kept {a c s} (hs : Kept a s) : OutKept a (execClassStormEmit c s) := by
  unfold execClassStormEmit
  apply OutKept.next
  split
  · split
    · apply State.emitClass_kept
      exact hs
    · exact hs
  · exact hs
theorem execErrNPulseEnd_kept {a s} (hs : Kept a s) : OutKept a (execErrNPulseEnd s) := by
  unfold execErrNPulseEnd
  apply OutKept.next
  split
  · apply State.updErrn_kept
    apply State.put_kept
    exact hs
  · exact hs
theorem execSafeOkToggle_kept {a s} (hs : Kept a s) : OutKept a (execSafeOkToggle s) := by
  unfold execSafeOkToggle
  apply OutKept.next
  split
  · apply State.put_kept
    apply State.modColl_kept
    exact hs
  · exact hs
theorem execKickMissed_kept {a s} (hs : Kept a s) : OutKept a (execKickMissed s) := by
  unfold execKickMissed
  apply OutKept.next
  split
  · apply State.report_kept
    apply State.raiseFlag_kept
    apply State.modColl_kept
    exact hs
  · exact hs

end Sys2Proof.Machine
end

