-- ==== Sys2Proof/Laws/KeptLinks.lean ====
section
/-! SUPPORT. What traps, links, the sync chain, the pair, heat and records keep (`Kept`): one lemma for each operation. -/
namespace Sys2Proof.Machine
open Sys2Proof.Safety

/-! ### Trap -/

theorem State.enter_kept {a s q cause detail epc ds} (hs : Kept a s) : Kept a (State.enter s q cause detail epc ds) := by
  unfold State.enter
  extract_lets y0 y1 y2 y3
  clear_value y0
  clear_value y1
  clear_value y2
  clear_value y3
  split
  · apply State.engineFatal_kept
    exact hs
  · apply State.setCore_kept
    exact hs
theorem State.fault_kept {a s q cause detail} (hs : Kept a s) : Kept a (State.fault s q cause detail) := by
  unfold State.fault
  extract_lets y0
  clear_value y0
  split
  · apply State.enter_kept
    exact hs
  · apply State.enter_kept
    exact hs
theorem State.retire_kept {a s q len} (hs : Kept a s) : Kept a (State.retire s q len) := by
  unfold State.retire
  apply State.modCore_kept
  exact hs
theorem State.retireAt_kept {a s q pc} (hs : Kept a s) : Kept a (State.retireAt s q pc) := by
  unfold State.retireAt
  apply State.modCore_kept
  exact hs
theorem State.debugHalt_kept {a s q cause bp} (hs : Kept a s) : Kept a (State.debugHalt s q cause bp) := by
  unfold State.debugHalt
  extract_lets y0 y1 y2 y3 y4 y5 y6
  clear_value y0
  have h7 : Kept a y1 := by
    unfold y1
    apply State.modCore_kept
    exact hs
  clear_value y1
  have h8 : Kept a y2 := by
    unfold y2
    apply State.report_kept
    apply State.put_kept
    exact h7
  clear_value y2
  have h9 : Kept a y3 := by
    unfold y3
    split
    · exact h7
    · apply State.modEng_kept
      exact h8
  clear_value y3
  have h10 : Kept a y4 := by
    unfold y4
    apply State.each_kept
    · intro x11 x12 h13
      apply State.freeze_kept
      exact h13
    · exact h9
  clear_value y4
  clear_value y5
  have h14 : Kept a y6 := by
    unfold y6
    apply State.wr_kept
    apply State.wr_kept
    exact h10
  clear_value y6
  split
  · apply State.each_kept
    · intro x15 x16 h17
      apply State.freeze_kept
      exact h17
    · exact h7
  · split
    · exact h10
    · apply State.takeover_kept
      apply State.modEng_kept
      exact h14
theorem State.fetchFault_kept {a s q len} (hs : Kept a s) : OptKept a (State.fetchFault s q len) := by
  unfold State.fetchFault
  extract_lets y0 y1 y2
  clear_value y0
  clear_value y1
  clear_value y2
  split
  · apply OptKept.none
  · split
    · apply OptKept.some
      apply ResKept.fault
      apply State.report_kept
      exact hs
    · split
      · apply OptKept.some
        apply ResKept.hold
        exact hs
      · split
        · split
          · apply OptKept.some
            apply ResKept.fault
            exact hs
          · apply OptKept.none
        · apply OptKept.some
          split
          · apply ResKept.fault
            apply State.eccEvent_kept
            exact hs
          · apply ResKept.stop
            apply State.localEcc_kept
            exact hs
theorem State.finish_kept {a s q len x} (h : Kept a s) (hx : ResKept a x) : Kept a (State.finish s q len x) := by
  unfold State.finish
  cases x with
  | done t post =>
    dsimp only
    split
    · exact State.modCore_kept (State.retire_kept hx)
    · exact hx
  | jump t pc post => exact State.modCore_kept (State.retireAt_kept hx)
  | transfer t target taken =>
    dsimp only
    split
    · exact State.fault_kept h
    · exact State.modCore_kept hx
  | trap t c d => exact State.enter_kept (State.retire_kept hx)
  | fault t c d => exact State.fault_kept hx
  | stop t => exact hx
  | hold t => exact hx
theorem State.endStep_kept {a s q} (hs : Kept a s) : Kept a (State.endStep s q) := by
  unfold State.endStep
  extract_lets y0
  have h1 : Kept a y0 := by
    unfold y0
    apply State.modCore_kept
    exact hs
  clear_value y0
  split
  · exact h1
  · split
    · apply State.modCore_kept
      exact h1
    · split
      · apply State.debugHalt_kept
        apply State.modCore_kept
        exact h1
      · exact h1
theorem State.issue_kept {a s q k body} (h : Kept a s) (hb : ∀ z, Kept a z → ResKept a (body z)) : Kept a (State.issue s q k body) := by
  unfold State.issue
  split
  · exact h
  split
  · exact State.debugHalt_kept h
  refine State.endStep_kept (State.finish_kept h ?_)
  split
  · exact State.fetchFault_kept h _ ‹_›
  split
  · exact ResKept.fault h
  split
  · exact ResKept.fault h
  split
  · exact ResKept.fault h
  · exact hb s h
theorem State.endFence_kept {a s q detail} (hs : Kept a s) : Kept a (State.endFence s q detail) := by
  unfold State.endFence
  split
  · exact hs
  · split
    · apply State.finish_kept
      · exact hs
      · apply ResKept.done
        exact hs
    · apply State.finish_kept
      · exact hs
      · apply ResKept.trap
        exact hs
theorem State.failFences_kept {a s detail} (hs : Kept a s) : Kept a (State.failFences s detail) := by
  unfold State.failFences
  apply State.each_kept
  · intro x0 x1 h2
    apply State.endFence_kept
    exact h2
  · exact hs
theorem State.timerExpires_kept {a s q} (hs : Kept a s) : Kept a (State.timerExpires s q) := by
  unfold State.timerExpires
  extract_lets y0
  have h1 : Kept a y0 := by
    unfold y0
    apply State.raise_kept
    apply State.modCore_kept
    exact hs
  clear_value y0
  split
  · apply State.requestStart_kept
    exact h1
  · exact h1
theorem execInterrupt_kept {a q s} (hs : Kept a s) : OutKept a (execInterrupt q s) := by
  unfold execInterrupt
  extract_lets y0
  have h1 : Kept a y0 := by
    unfold y0
    split
    · apply State.modCore_kept
      exact hs
    · exact hs
  clear_value y0
  apply OutKept.next
  split
  · exact hs
  · split
    · apply State.enter_kept
      exact h1
    · exact hs
theorem execTimerExpiry_kept {a q s} (hs : Kept a s) : OutKept a (execTimerExpiry q s) := by
  unfold execTimerExpiry
  apply OutKept.next
  split
  · apply State.timerExpires_kept
    exact hs
  · exact hs
theorem execWaitWake_kept {a q s} (hs : Kept a s) : OutKept a (execWaitWake q s) := by
  unfold execWaitWake
  apply OutKept.next
  split
  · apply State.finish_kept
    · exact hs
    · apply ResKept.done
      exact hs
  · exact hs
theorem execMirrorAck_kept {a q n s} (hs : Kept a s) : OutKept a (execMirrorAck q n s) := by
  unfold execMirrorAck
  extract_lets y0
  have h1 : Kept a y0 := by
    unfold y0
    apply State.modCore_kept
    exact hs
  clear_value y0
  apply OutKept.next
  split
  · exact h1
  · split
    · apply State.endFence_kept
      exact h1
    · apply State.modCore_kept
      exact h1
theorem execMirrorAckTimeout_kept {a q s} (hs : Kept a s) : OutKept a (execMirrorAckTimeout q s) := by
  unfold execMirrorAckTimeout
  apply OutKept.next
  split
  · apply State.endFence_kept
    exact hs
  · exact hs

/-! ### Special -/

theorem State.mfs_kept {a s q n b len} (hs : Kept a s) : Kept a (State.mfs s q n b len).1 := by
  unfold State.mfs
  extract_lets y0
  clear_value y0
  split
  · dsimp only
    apply State.modCore_kept
    exact hs
  · split
    · dsimp only
      apply State.modCore_kept
      exact hs
    · dsimp only
      exact hs
theorem State.srUnstage_kept {a s q b len} (hs : Kept a s) : Kept a (State.srUnstage s q b len) := by
  unfold State.srUnstage
  apply State.modCore_kept
  exact hs
theorem State.srStage_kept {a s q n x} (hs : Kept a s) : Kept a (State.srStage s q n x) := by
  unfold State.srStage
  apply State.modCore_kept
  exact hs

/-! ### Links -/

theorem State.showOpenConns_kept {a s} (hs : Kept a s) : Kept a (State.showOpenConns s) := by
  unfold State.showOpenConns
  apply State.wr_kept
  exact hs
theorem State.dropSlots_kept {a s c} (hs : Kept a s) : Kept a (State.dropSlots s c) := by
  unfold State.dropSlots
  apply State.each_kept
  · intro x0 x1 h2
    split
    · apply State.put_kept
      exact h2
    · exact h2
  · exact hs
theorem State.endConn_kept {a s c st} (hs : Kept a s) : Kept a (State.endConn s c st) := by
  unfold State.endConn
  apply State.showOpenConns_kept
  apply State.dropSlots_kept
  apply State.wr_kept
  exact hs
theorem State.knowPartner_kept {a s e id} (hs : Kept a s) : Kept a (State.knowPartner s e id) := by
  unfold State.knowPartner
  extract_lets y0
  clear_value y0
  split
  · exact hs
  · exact hs
theorem State.startConn_kept {a s c e via id init txseq} (hs : Kept a s) : Kept a (State.startConn s c e via id init txseq) := by
  unfold State.startConn
  extract_lets y0 y1
  have h2 : Kept a y0 := by
    unfold y0
    apply State.wr_kept
    apply State.wr_kept
    apply State.put_kept
    apply State.wr_kept
    apply State.wr_kept
    exact hs
  clear_value y0
  have h3 : Kept a y1 := by
    unfold y1
    apply State.clear_kept
    exact h2
  clear_value y1
  apply State.showOpenConns_kept
  apply State.knowPartner_kept
  apply State.modConn_kept
  exact h3
theorem State.sendEntry_kept {a s e peer payload} (hs : Kept a s) : Kept a (State.sendEntry s e peer payload) := by
  unfold State.sendEntry
  apply State.transmit_kept
  exact hs
theorem State.sendData_kept {a s c} (hs : Kept a s) : Kept a (State.sendData s c) := by
  unfold State.sendData
  extract_lets y0
  clear_value y0
  split
  · apply State.sendKind_kept
    exact hs
  · apply State.sendKind_kept
    exact hs
theorem State.leave_kept {a s c} (hs : Kept a s) : Kept a (State.leave s c) := by
  unfold State.leave
  split
  · apply State.endConn_kept
    apply State.sendKind_kept
    exact hs
  · apply State.endConn_kept
    exact hs
theorem State.leaveAll_kept {a s keep} (hs : Kept a s) : Kept a (State.leaveAll s keep) := by
  unfold State.leaveAll
  apply State.each_kept
  · intro x0 x1 h2
    apply State.leave_kept
    exact h2
  · exact hs
theorem State.sendJoin_kept {a s e} (hs : Kept a s) : Kept a (State.sendJoin s e) := by
  unfold State.sendJoin
  split
  · exact hs
  · split
    · exact hs
    · extract_lets y0
      have h1 : Kept a y0 := by
        unfold y0
        apply State.modConn_kept
        apply State.put_kept
        apply State.wr_kept
        apply State.wr_kept
        exact hs
      clear_value y0
      apply State.sendEntry_kept
      exact h1
theorem State.letIn_kept {a s e tr via id} (hs : Kept a s) : Kept a (State.letIn s e tr via id) := by
  unfold State.letIn
  extract_lets y0 y1 y2 y3
  have h4 : Kept a y0 := by
    unfold y0
    split
    · apply State.endConn_kept
      exact hs
    · exact hs
  clear_value y0
  clear_value y1
  have h5 : Kept a y2 := by
    unfold y2
    split
    · apply State.endConn_kept
      exact h4
    · exact h4
  clear_value y2
  clear_value y3
  split
  · exact h4
  · split
    · apply State.sendEntry_kept
      apply State.startConn_kept
      exact h5
    · extract_lets y6
      have h7 : Kept a y6 := by
        unfold y6
        apply State.report_kept
        apply State.sendEntry_kept
        exact h5
      clear_value y6
      split
      · apply State.report_kept
        exact h7
      · exact h7
theorem State.discardFrame_kept {a s c reason} (hs : Kept a s) : Kept a (State.discardFrame s c reason) := by
  unfold State.discardFrame
  split
  · apply State.report_kept
    exact hs
  · extract_lets y0 y1 y2
    have h3 : Kept a y0 := by
      unfold y0
      apply State.report_kept
      exact hs
    clear_value y0
    clear_value y1
    have h4 : Kept a y2 := by
      unfold y2
      apply State.modConn_kept
      apply State.bump_kept
      exact h3
    clear_value y2
    split
    · apply State.bump_kept
      exact h3
    · split
      · split
        · apply State.report_kept
          apply State.endConn_kept
          exact h4
        · exact h4
      · exact h3
theorem State.sequence_kept {a s c q} (hs : Kept a s) : Kept a (State.sequence s c q).1 := by
  unfold State.sequence
  extract_lets y0
  clear_value y0
  split
  · dsimp only
    apply State.modConn_kept
    apply State.wr_kept
    exact hs
  · split
    · dsimp only
      exact hs
    · split
      · dsimp only
        exact hs
      · dsimp only
        apply State.wr_kept
        apply State.wr_kept
        exact hs
theorem State.acceptFrame_kept {a s c p} (hs : Kept a s) : Kept a (State.acceptFrame s c p) := by
  unfold State.acceptFrame
  extract_lets y0 y1 y2 y3 y4
  clear_value y0
  have h5 : Kept a y1 := by
    unfold y1
    apply State.modConn_kept
    exact hs
  clear_value y1
  have h6 : Kept a y2 := by
    unfold y2
    apply foldl_kept
    · intro x7 x8 h9
      apply State.wr_kept
      exact h9
    · exact h5
  clear_value y2
  have h10 : Kept a y3 := by
    unfold y3
    apply State.wr_kept
    apply State.wr_kept
    exact h6
  clear_value y3
  clear_value y4
  split
  · apply State.startRouted_kept
    apply State.raise_kept
    exact h10
  · exact h10
theorem State.setSlots_kept {a s c p1} (hs : Kept a s) : Kept a (State.setSlots s c p1) := by
  unfold State.setSlots
  extract_lets y0
  clear_value y0
  apply State.each_kept
  · intro x1 x2 h3
    extract_lets y4
    clear_value y4
    split
    · exact h3
    · apply State.slotArrives_kept
      apply State.wr_kept
      apply State.put_kept
      apply State.wr_kept
      exact h3
  · exact hs
theorem State.standstill_kept {a s} (hs : Kept a s) : Kept a (State.standstill s) := by
  unfold State.standstill
  apply State.updOutputs_kept
  apply State.each_kept
  · intro x0 x1 h2
    apply State.endStop_kept
    exact h2
  · exact hs
theorem State.writeTxcmd_kept {a s c v} (hs : Kept a s) : Kept a (State.writeTxcmd s c v) := by
  unfold State.writeTxcmd
  extract_lets y0
  have h1 : Kept a y0 := by
    unfold y0
    split
    · apply State.modConn_kept
      exact hs
    · exact hs
  clear_value y0
  split
  · apply State.sendData_kept
    exact h1
  · exact h1
theorem State.writeTssend_kept {a s r v} (hs : Kept a s) : Kept a (State.writeTssend s r v) := by
  unfold State.writeTssend
  extract_lets y0 y1 y2
  clear_value y0
  clear_value y1
  clear_value y2
  split
  · exact hs
  · split
    · apply State.sendOn_kept
      exact hs
    · apply State.report_kept
      exact hs
theorem State.writeKsfOpen_kept {a s v} (hs : Kept a s) : Kept a (State.writeKsfOpen s v) := by
  unfold State.writeKsfOpen
  extract_lets y0
  clear_value y0
  split
  · apply State.sendJoin_kept
    exact hs
  · exact hs
theorem State.writeKsfClose_kept {a s v} (hs : Kept a s) : Kept a (State.writeKsfClose s v) := by
  unfold State.writeKsfClose
  split
  · apply State.leave_kept
    exact hs
  · exact hs
theorem State.writeCan_kept {a s k v} (hs : Kept a s) : Kept a (State.writeCan s k v) := by
  unfold State.writeCan
  extract_lets y0 y1 y2 y3
  clear_value y0
  clear_value y1
  clear_value y2
  have h4 : Kept a y3 := by
    unfold y3
    apply foldl_kept
    · intro x5 x6 h7
      apply State.wr_kept
      exact h7
    · exact hs
  clear_value y3
  split
  · split
    · apply State.flag_kept
      exact h4
    · exact h4
  · apply foldl_kept
    · intro x8 x9 h10
      apply State.wr_kept
      exact h10
    · exact h4
theorem State.measure_kept {a s ofs} (hs : Kept a s) : Kept a (State.measure s ofs) := by
  unfold State.measure
  extract_lets y0 y1 y2 y3 y4 y5
  have h6 : Kept a y0 := by
    unfold y0
    apply State.wr_kept
    exact hs
  clear_value y0
  clear_value y1
  clear_value y2
  have h7 : Kept a y3 := by
    unfold y3
    apply State.stepDevice_kept
    exact h6
  clear_value y3
  clear_value y4
  have h8 : Kept a y5 := by
    unfold y5
    split
    · exact h7
    · exact h6
  clear_value y5
  split
  · apply State.put_kept
    apply State.put_kept
    exact h8
  · split
    · apply State.put_kept
      exact h8
    · exact h8
theorem execConnectionWatchdog_kept {a c s} (hs : Kept a s) : OutKept a (execConnectionWatchdog c s) := by
  unfold execConnectionWatchdog
  extract_lets y0
  clear_value y0
  apply OutKept.next
  split
  · apply State.report_kept
    apply State.endConn_kept
    exact hs
  · exact hs
theorem execDataSend_kept {a c s} (hs : Kept a s) : OutKept a (execDataSend c s) := by
  unfold execDataSend
  extract_lets y0 y1
  clear_value y0
  clear_value y1
  apply OutKept.next
  split
  · apply State.modConn_kept
    apply State.sendData_kept
    exact hs
  · exact hs
theorem execJoinRetry_kept {a e s} (hs : Kept a s) : OutKept a (execJoinRetry e s) := by
  unfold execJoinRetry
  extract_lets y0 y1
  clear_value y0
  clear_value y1
  apply OutKept.next
  split
  · apply State.sendJoin_kept
    exact hs
  · exact hs
theorem execBusOff_kept {a k s} (hs : Kept a s) : OutKept a (execBusOff k s) := by
  unfold execBusOff
  apply OutKept.next
  split
  · apply State.report_kept
    apply State.put_kept
    exact hs
  · exact hs
theorem execBusOffRecovery_kept {a k s} (hs : Kept a s) : OutKept a (execBusOffRecovery k s) := by
  unfold execBusOffRecovery
  apply OutKept.next
  apply State.put_kept
  exact hs
theorem execEthernetLinkDown_kept {a m s} (hs : Kept a s) : OutKept a (execEthernetLinkDown m s) := by
  unfold execEthernetLinkDown
  apply OutKept.next
  split
  · apply State.report_kept
    apply State.put_kept
    exact hs
  · exact hs
theorem execEthernetLinkUp_kept {a m s} (hs : Kept a s) : OutKept a (execEthernetLinkUp m s) := by
  unfold execEthernetLinkUp
  apply OutKept.next
  apply State.put_kept
  exact hs
theorem execKlDown_kept {a s} (hs : Kept a s) : OutKept a (execKlDown s) := by
  unfold execKlDown
  apply OutKept.next
  split
  · apply State.report_kept
    apply State.raiseBit_kept
    apply State.wr_kept
    apply State.wr_kept
    exact hs
  · exact hs
theorem execTimeMeasurement_kept {a ofs s} (hs : Kept a s) : OutKept a (execTimeMeasurement ofs s) := by
  unfold execTimeMeasurement
  apply OutKept.next
  split
  · apply State.measure_kept
    exact hs
  · exact hs
theorem execTimeSourceLost_kept {a s} (hs : Kept a s) : OutKept a (execTimeSourceLost s) := by
  unfold execTimeSourceLost
  extract_lets y0
  clear_value y0
  apply OutKept.next
  split
  · apply State.report_kept
    apply State.put_kept
    exact hs
  · exact hs

/-! ### SyncChain -/

theorem State.installSync_kept {a s} (hs : Kept a s) : Kept a (State.installSync s) := by
  unfold State.installSync
  apply State.modBcast_kept
  exact hs
theorem State.writeSync_kept {a s l v} (hs : Kept a s) : Kept a (State.writeSync s l v) := by
  unfold State.writeSync
  extract_lets y0
  have h1 : Kept a y0 := by
    unfold y0
    apply foldl_kept
    · intro x2 x3 h4
      apply State.wr_kept
      exact h4
    · exact hs
  clear_value y0
  apply State.updWatch_kept
  split
  · apply State.installSync_kept
    exact h1
  · exact h1
theorem State.rejectPulse_kept {a s src} (hs : Kept a s) : Kept a (State.rejectPulse s src) := by
  unfold State.rejectPulse
  apply State.report_kept
  apply State.wr_kept
  apply State.bump_kept
  exact hs
theorem State.emitPulse_kept {a s rise w} (hs : Kept a s) : Kept a (State.emitPulse s rise w) := by
  unfold State.emitPulse
  apply State.modBcast_kept
  exact hs
theorem State.markAccepted_kept {a s} (hs : Kept a s) : Kept a (State.markAccepted s) := by
  unfold State.markAccepted
  apply State.put_kept
  apply State.modBcast_kept
  exact hs
theorem State.markChannel_kept {a s n m} (hs : Kept a s) : Kept a (State.markChannel s n m) := by
  unfold State.markChannel
  extract_lets y0
  clear_value y0
  split
  · exact hs
  · split
    · apply State.put_kept
      exact hs
    · apply State.put_kept
      apply State.modGen_kept
      exact hs
theorem execSynciPulse_kept {a rise width s} (hs : Kept a s) : OutKept a (execSynciPulse rise width s) := by
  unfold execSynciPulse
  extract_lets y0 y1 y2 y3 y4 y5 y6
  clear_value y0
  clear_value y1
  clear_value y2
  clear_value y3
  have h7 : Kept a y4 := by
    unfold y4
    apply State.wr_kept
    apply State.modBcast_kept
    exact hs
  clear_value y4
  have h8 : Kept a y5 := by
    unfold y5
    split
    · apply State.emitPulse_kept
      exact h7
    · exact h7
  clear_value y5
  have h9 : Kept a y6 := by
    unfold y6
    apply State.rejectPulse_kept
    exact hs
  clear_value y6
  apply OutKept.next
  split
  · apply State.rejectPulse_kept
    exact hs
  · split
    · apply State.rejectPulse_kept
      exact hs
    · split
      · split
        · apply State.modBcast_kept
          apply State.markAccepted_kept
          exact h8
        · apply State.schedSync_kept
          exact h8
      · split
        · apply State.emitPulse_kept
          exact h9
        · exact h9
theorem execFrameMarkEmit_kept {a s} (hs : Kept a s) : OutKept a (execFrameMarkEmit s) := by
  unfold execFrameMarkEmit
  extract_lets y0 y1
  clear_value y0
  have h2 : Kept a y1 := by
    unfold y1
    apply State.updWatch_kept
    apply State.installSync_kept
    exact hs
  clear_value y1
  apply OutKept.next
  split
  · split
    · apply State.modBcast_kept
      apply State.markAccepted_kept
      apply State.emitPulse_kept
      exact h2
    · exact h2
  · exact hs
theorem execFrameMark_kept {a s} (hs : Kept a s) : OutKept a (execFrameMark s) := by
  unfold execFrameMark
  apply OutKept.next
  split
  · exact hs
  · extract_lets y0 y1
    have h2 : Kept a y0 := by
      unfold y0
      apply State.modBcast_kept
      exact hs
    clear_value y0
    have h3 : Kept a y1 := by
      unfold y1
      split
      · exact h2
      · apply State.updWatch_kept
        apply State.installSync_kept
        exact h2
    clear_value y1
    apply State.each_kept
    · intro x4 x5 h6
      apply State.markChannel_kept
      exact h6
    · exact h3
theorem execMarksLost_kept {a s} (hs : Kept a s) : OutKept a (execMarksLost s) := by
  unfold execMarksLost
  extract_lets y0
  have h1 : Kept a y0 := by
    unfold y0
    apply State.each_kept
    · intro x2 x3 h4
      split
      · apply State.put_kept
        exact h4
      · exact h4
    · exact hs
  clear_value y0
  apply OutKept.next
  split
  · exact hs
  · extract_lets y5 y6
    clear_value y5
    have h7 : Kept a y6 := by
      unfold y6
      apply State.report_kept
      apply State.bump_kept
      apply State.put_kept
      apply State.modBcast_kept
      exact h1
    clear_value y6
    split
    · exact hs
    · apply State.updWatch_kept
      apply State.installSync_kept
      exact h7

/-! ### Pair -/

theorem State.modPair_kept {a s f} (hs : Kept a s) : Kept a (State.modPair s f) := by
  unfold State.modPair
  exact hs
theorem State.stretchPulse_kept {a s n} (hs : Kept a s) : Kept a (State.stretchPulse s n) := by
  unfold State.stretchPulse
  extract_lets y0 y1 y2 y3
  clear_value y0
  clear_value y1
  clear_value y2
  clear_value y3
  split
  · exact hs
  · split
    · apply State.modGen_kept
      exact hs
    · exact hs
theorem State.double_kept {a s n} (hs : Kept a s) : Kept a (State.double s n) := by
  unfold State.double
  extract_lets y0 y1
  have h2 : Kept a y0 := by
    unfold y0
    apply State.modPrf_kept
    apply State.put_kept
    exact hs
  clear_value y0
  have h3 : Kept a y1 := by
    unfold y1
    apply State.recapture_kept
    apply State.stretchPulse_kept
    apply State.clampSafe_kept
    apply State.refreshAppl_kept
    exact h2
  clear_value y1
  split
  · exact hs
  · split
    · apply State.recapture_kept
      exact h3
    · exact h3
theorem State.undouble_kept {a s n check} (hs : Kept a s) : Kept a (State.undouble s n check) := by
  unfold State.undouble
  extract_lets y0 y1 y2 y3 y4 y5
  clear_value y0
  have h6 : Kept a y1 := by
    unfold y1
    apply State.put_kept
    exact hs
  clear_value y1
  have h7 : Kept a y2 := by
    unfold y2
    apply State.modPair_kept
    exact h6
  clear_value y2
  clear_value y3
  have h8 : Kept a y5 := by
    unfold y5
    split
    · apply State.modeDisagree_kept
      exact h7
    · exact h7
  clear_value y5
  split
  · exact hs
  · apply State.pairHandOver_kept
    exact h8
theorem State.startTransfer_kept {a s} (hs : Kept a s) : Kept a (State.startTransfer s) := by
  unfold State.startTransfer
  apply State.modPair_kept
  apply State.clear_kept
  exact hs
theorem State.enterRejoin_kept {a s} (hs : Kept a s) : Kept a (State.enterRejoin s) := by
  unfold State.enterRejoin
  extract_lets y0 y1 y2 y3
  clear_value y0
  have h4 : Kept a y1 := by
    unfold y1
    apply State.transition_kept
    exact hs
  clear_value y1
  have h5 : Kept a y2 := by
    unfold y2
    apply State.modPair_kept
    apply State.report_kept
    exact h4
  clear_value y2
  have h6 : Kept a y3 := by
    unfold y3
    apply foldl_kept
    · intro x7 x8 h9
      split
      · apply State.startHandOver_kept
        exact h9
      · apply State.setAppl_kept
        apply State.put_kept
        exact h9
    · exact h5
  clear_value y3
  split
  · exact hs
  · split
    · exact h4
    · apply State.raisePair_kept
      apply State.updOutputs_kept
      apply State.failFences_kept
      apply State.startTransfer_kept
      exact h6
theorem State.compareEpoch_kept {a s e} (hs : Kept a s) : Kept a (State.compareEpoch s e) := by
  unfold State.compareEpoch
  extract_lets y0
  have h1 : Kept a y0 := by
    unfold y0
    apply State.wr_kept
    exact hs
  clear_value y0
  split
  · apply State.enterRejoin_kept
    exact h1
  · exact h1
theorem State.partnerData_kept {a s solo e} (hs : Kept a s) : Kept a (State.partnerData s solo e) := by
  unfold State.partnerData
  split
  · apply State.compareEpoch_kept
    apply State.put_kept
    exact hs
  · exact hs
theorem State.takeTflt_kept {a s hb} (hs : Kept a s) : Kept a (State.takeTflt s hb) := by
  unfold State.takeTflt
  apply State.each_kept
  · intro x0 x1 h2
    extract_lets y3 y4 y5
    clear_value y3
    have h6 : Kept a y4 := by
      unfold y4
      apply State.put_kept
      exact h2
    clear_value y4
    have h7 : Kept a y5 := by
      unfold y5
      apply State.modPair_kept
      exact h6
    clear_value y5
    split
    · split
      · apply State.modPair_kept
        apply State.double_kept
        exact h7
      · exact h7
    · apply State.modPair_kept
      exact h6
  · exact hs
theorem State.pairLock_kept {a s ofs} (hs : Kept a s) : Kept a (State.pairLock s ofs) := by
  unfold State.pairLock
  extract_lets y0 y1
  clear_value y0
  have h2 : Kept a y1 := by
    unfold y1
    apply State.modPair_kept
    exact hs
  clear_value y1
  split
  · apply State.put_kept
    exact h2
  · split
    · apply State.put_kept
      exact h2
    · exact h2
theorem State.trackDiff_kept {a s ofs} (hs : Kept a s) : Kept a (State.trackDiff s ofs) := by
  unfold State.trackDiff
  extract_lets y0
  have h1 : Kept a y0 := by
    unfold y0
    apply State.each_kept
    · intro x2 x3 h4
      extract_lets y5 y6
      clear_value y5
      clear_value y6
      apply State.modPair_kept
      exact h4
    · exact hs
  clear_value y0
  apply State.modPair_kept
  exact h1
theorem State.linkEvent_kept {a s link pstate} (hs : Kept a s) : Kept a (State.linkEvent s link pstate) := by
  unfold State.linkEvent
  extract_lets y0
  have h1 : Kept a y0 := by
    unfold y0
    split
    · exact hs
    · apply State.raisePair_kept
      exact hs
  clear_value y0
  split
  · apply State.startTransfer_kept
    exact h1
  · exact h1
theorem State.takeBeat_kept {a s hb ofs delay} (hs : Kept a s) : Kept a (State.takeBeat s hb ofs delay) := by
  unfold State.takeBeat
  extract_lets y0 y1 y2 y3 y4 y5
  clear_value y0
  clear_value y1
  have h6 : Kept a y2 := by
    unfold y2
    apply State.modPair_kept
    exact hs
  clear_value y2
  have h7 : Kept a y3 := by
    unfold y3
    apply State.linkEvent_kept
    apply State.wr_kept
    apply State.put_kept
    apply State.put_kept
    exact h6
  clear_value y3
  have h8 : Kept a y4 := by
    unfold y4
    apply State.takeTflt_kept
    apply State.pairLock_kept
    apply State.wr_kept
    exact h7
  clear_value y4
  have h9 : Kept a y5 := by
    unfold y5
    apply State.compareEpoch_kept
    split
    · apply State.measure_kept
      exact h8
    · exact h8
  clear_value y5
  apply State.trackDiff_kept
  exact h9
theorem State.losePartner_kept {a s} (hs : Kept a s) : Kept a (State.losePartner s) := by
  unfold State.losePartner
  extract_lets y0 y1 y2 y3 y4
  clear_value y0
  have h5 : Kept a y1 := by
    unfold y1
    apply State.put_kept
    apply State.put_kept
    apply State.queueItem_kept
    apply State.wr_kept
    exact hs
  clear_value y1
  have h6 : Kept a y2 := by
    unfold y2
    apply State.report_kept
    apply State.bump_kept
    exact h5
  clear_value y2
  have h7 : Kept a y3 := by
    unfold y3
    apply State.modPair_kept
    exact h6
  clear_value y3
  have h8 : Kept a y4 := by
    unfold y4
    apply State.each_kept
    · intro x9 x10 h11
      extract_lets y12
      have h13 : Kept a y12 := by
        unfold y12
        split
        · apply State.modProt_kept
          apply State.put_kept
          exact h11
        · exact h11
      clear_value y12
      apply State.modPair_kept
      apply State.double_kept
      exact h13
    · exact h7
  clear_value y4
  apply State.raisePair_kept
  apply State.failFences_kept
  apply State.each_kept
  · intro x14 x15 h16
    apply State.refreshAppl_kept
    exact h16
  · exact h8
theorem State.showTransfer_kept {a s} (hs : Kept a s) : Kept a (State.showTransfer s) := by
  unfold State.showTransfer
  extract_lets y0 y1
  clear_value y0
  have h2 : Kept a y1 := by
    unfold y1
    split
    · apply State.raisePair_kept
      apply State.modPair_kept
      exact hs
    · exact hs
  clear_value y1
  apply State.put_kept
  apply State.wr_kept
  exact h2
theorem State.sendBlock_kept {a s} (hs : Kept a s) : Kept a (State.sendBlock s) := by
  unfold State.sendBlock
  split
  · split
    · apply State.modPair_kept
      exact hs
    · exact hs
  · exact hs
theorem State.takeBlock_kept {a s b data ok} (hs : Kept a s) : Kept a (State.takeBlock s b data ok) := by
  unfold State.takeBlock
  extract_lets y0
  clear_value y0
  split
  · apply State.modPair_kept
    apply foldl_kept
    · intro x1 x2 h3
      apply State.poke_kept
      exact h3
    · exact hs
  · split
    · apply State.wr_kept
      apply State.modPair_kept
      exact hs
    · apply State.raisePair_kept
      apply State.modPair_kept
      apply State.report_kept
      apply State.put_kept
      exact hs
theorem State.requestReenter_kept {a s} (hs : Kept a s) : Kept a (State.requestReenter s) := by
  unfold State.requestReenter
  split
  · exact hs
  · split
    · apply State.modPair_kept
      apply State.wr_kept
      exact hs
    · apply State.report_kept
      apply State.wr_kept
      exact hs
theorem State.writeMirCtl_kept {a s v} (hs : Kept a s) : Kept a (State.writeMirCtl s v) := by
  unfold State.writeMirCtl
  extract_lets y0
  have h1 : Kept a y0 := by
    unfold y0
    split
    · apply State.startTransfer_kept
      exact hs
    · exact hs
  clear_value y0
  split
  · apply State.requestReenter_kept
    exact h1
  · exact h1
theorem State.ackMirror_kept {a s} (hs : Kept a s) : Kept a (State.ackMirror s) := by
  unfold State.ackMirror
  apply State.each_kept
  · intro x0 x1 h2
    apply State.modCore_kept
    exact h2
  · exact hs
theorem State.rejoinerInstant_kept {a s} (hs : Kept a s) : Kept a (State.rejoinerInstant s) := by
  unfold State.rejoinerInstant
  extract_lets y0 y1 y2 y3
  have h4 : Kept a y0 := by
    unfold y0
    apply State.transition_kept
    apply State.queueItem_kept
    apply State.wr_kept
    exact hs
  clear_value y0
  have h5 : Kept a y1 := by
    unfold y1
    apply State.modPair_kept
    exact h4
  clear_value y1
  have h6 : Kept a y2 := by
    unfold y2
    apply State.each_kept
    · intro x7 x8 h9
      apply State.put_kept
      exact h9
    · exact h5
  clear_value y2
  have h10 : Kept a y3 := by
    unfold y3
    apply State.each_kept
    · intro x11 x12 h13
      split
      · apply State.switchGroup_kept
        exact h13
      · exact h13
    · exact h6
  clear_value y3
  apply State.raisePair_kept
  apply State.ackMirror_kept
  apply State.updOutputs_kept
  apply State.each_kept
  · intro x14 x15 h16
    apply State.pairHandOver_kept
    exact h16
  · exact h10
theorem State.partnerInstant_kept {a s} (hs : Kept a s) : Kept a (State.partnerInstant s) := by
  unfold State.partnerInstant
  extract_lets y0
  have h1 : Kept a y0 := by
    unfold y0
    apply State.each_kept
    · intro x2 x3 h4
      apply State.undouble_kept
      exact h4
    · exact hs
  clear_value y0
  apply State.raisePair_kept
  apply State.ackMirror_kept
  apply State.modPair_kept
  exact h1
theorem State.takeDeferred_kept {a s} (hs : Kept a s) : Kept a (State.takeDeferred s) := by
  unfold State.takeDeferred
  extract_lets y0
  clear_value y0
  split
  · apply State.each_kept
    · intro x1 x2 h3
      apply State.takeRequest_kept
      exact h3
    · apply State.modPair_kept
      exact hs
  · exact hs
theorem execHeartbeatSend_kept {a s} (hs : Kept a s) : OutKept a (execHeartbeatSend s) := by
  unfold execHeartbeatSend
  apply OutKept.next
  split
  · apply State.modPair_kept
    exact hs
  · exact hs
theorem execHeartbeat_kept {a ok hb delay s} (hs : Kept a s) : OutKept a (execHeartbeat ok hb delay s) := by
  unfold execHeartbeat
  apply OutKept.next
  split
  · apply State.takeBeat_kept
    exact hs
  · exact hs
theorem execPartnerLost_kept {a s} (hs : Kept a s) : OutKept a (execPartnerLost s) := by
  unfold execPartnerLost
  extract_lets y0
  clear_value y0
  apply OutKept.next
  split
  · apply State.losePartner_kept
    exact hs
  · exact hs
theorem execTfltClear_kept {a n s} (hs : Kept a s) : OutKept a (execTfltClear n s) := by
  unfold execTfltClear
  apply OutKept.next
  split
  · apply State.undouble_kept
    exact hs
  · exact hs
theorem execMirrorWrite_kept {a v0 w s} (hs : Kept a s) : OutKept a (execMirrorWrite v0 w s) := by
  unfold execMirrorWrite
  apply OutKept.next
  split
  · apply State.poke_kept
    exact hs
  · exact hs
theorem execMirrorTransferBlock_kept {a b data check theirs s} (hs : Kept a s) : OutKept a (execMirrorTransferBlock b data check theirs s) := by
  unfold execMirrorTransferBlock
  extract_lets y0
  clear_value y0
  apply OutKept.next
  split
  · apply State.showTransfer_kept
    apply State.modPair_kept
    apply State.takeBlock_kept
    apply State.sendBlock_kept
    exact hs
  · exact hs
theorem execTransferRestart_kept {a s} (hs : Kept a s) : OutKept a (execTransferRestart s) := by
  unfold execTransferRestart
  apply OutKept.next
  split
  · apply State.startTransfer_kept
    exact hs
  · exact hs
theorem execReentryConfirm_kept {a t ok s} (hs : Kept a s) : OutKept a (execReentryConfirm t ok s) := by
  unfold execReentryConfirm
  apply OutKept.next
  split
  · split
    · split
      · apply State.modPair_kept
        exact hs
      · apply State.abortReentry_kept
        exact hs
    · exact hs
  · split
    · apply State.modPair_kept
      exact hs
    · exact hs
theorem execReentryInstant_kept {a s} (hs : Kept a s) : OutKept a (execReentryInstant s) := by
  unfold execReentryInstant
  apply OutKept.next
  split
  · exact hs
  · split
    · exact hs
    · split
      · apply State.abortReentry_kept
        exact hs
      · split
        · apply State.rejoinerInstant_kept
          exact hs
        · apply State.partnerInstant_kept
          exact hs
theorem execAspectDifference_kept {a g s} (hs : Kept a s) : OutKept a (execAspectDifference g s) := by
  unfold execAspectDifference
  apply OutKept.next
  split
  · apply State.report_kept
    apply State.modPair_kept
    exact hs
  · exact hs
theorem execPairTimeOffset_kept {a s} (hs : Kept a s) : OutKept a (execPairTimeOffset s) := by
  unfold execPairTimeOffset
  apply OutKept.next
  split
  · apply State.report_kept
    apply State.modPair_kept
    exact hs
  · exact hs

/-! ### Receive -/

theorem State.frameEffect_kept {a s c k p} (hs : Kept a s) : Kept a (State.frameEffect s c k p) := by
  unfold State.frameEffect
  extract_lets y0 y1
  clear_value y0
  have h2 : Kept a y1 := by
    unfold y1
    apply State.setSlots_kept
    exact hs
  clear_value y1
  split
  · apply State.tsyncPayload_kept
    exact hs
  · split
    · apply State.partnerData_kept
      exact h2
    · exact h2
  · apply State.endConn_kept
    exact hs
  · split
    · apply State.standstill_kept
      exact hs
    · exact hs
  · exact hs
theorem State.acceptOn_kept {a s tr via c e l} (hs : Kept a s) : Kept a (State.acceptOn s tr via c e l) := by
  unfold State.acceptOn
  extract_lets y0 y1 y2
  clear_value y0
  clear_value y1
  have h3 : Kept a y2 := by
    unfold y2
    apply State.discardFrame_kept
    exact hs
  clear_value y2
  split
  · split
    · apply State.report_kept
      exact h3
    · exact h3
  · split
    · apply State.discardFrame_kept
      exact hs
    · split
      · apply State.letIn_kept
        exact hs
      · split
        · exact hs
        · extract_lets y4
          have h5 : Kept a y4.1 := by
            unfold y4
            apply State.sequence_kept
            exact hs
          clear_value y4
          split
          · split
            · apply State.discardFrame_kept
              exact h5
            · apply State.frameEffect_kept
              apply State.acceptFrame_kept
              exact h5
          · split
            · apply State.acceptFrame_kept
              apply State.modConn_kept
              apply State.wr_kept
              apply State.startConn_kept
              exact hs
            · split
              · apply State.modConn_kept
                exact hs
              · split
                · apply State.endConn_kept
                  exact hs
                · apply State.discardFrame_kept
                  exact hs
theorem State.receive_kept {a s tr via b agree} (hs : Kept a s) : Kept a (State.receive s tr via b agree) := by
  unfold State.receive
  extract_lets y0 y1 y2 y3 y4 y5
  clear_value y0
  clear_value y1
  clear_value y2
  clear_value y3
  clear_value y4
  clear_value y5
  split
  · exact hs
  · split
    · apply State.discardFrame_kept
      exact hs
    · split
      · apply State.discardFrame_kept
        exact hs
      · split
        · apply State.discardFrame_kept
          exact hs
        · split
          · apply State.discardFrame_kept
            apply State.checkersDisagree_kept
            exact hs
          · split
            · apply State.discardFrame_kept
              exact hs
            · apply State.acceptOn_kept
              exact hs
theorem State.receiveAs_kept {a s k tr via b agree} (hs : Kept a s) : Kept a (State.receiveAs s k tr via b agree) := by
  unfold State.receiveAs
  extract_lets y0
  clear_value y0
  split
  · exact hs
  · apply State.receive_kept
    exact hs
theorem execData_kept {a tr via b agree s} (hs : Kept a s) : OutKept a (execData tr via b agree s) := by
  unfold execData
  apply OutKept.next
  apply State.receiveAs_kept
  exact hs
theorem execJoin_kept {a tr via b agree s} (hs : Kept a s) : OutKept a (execJoin tr via b agree s) := by
  unfold execJoin
  apply OutKept.next
  apply State.receiveAs_kept
  exact hs
theorem execAccept_kept {a tr via b agree s} (hs : Kept a s) : OutKept a (execAccept tr via b agree s) := by
  unfold execAccept
  apply OutKept.next
  apply State.receiveAs_kept
  exact hs
theorem execRefuse_kept {a tr via b agree s} (hs : Kept a s) : OutKept a (execRefuse tr via b agree s) := by
  unfold execRefuse
  apply OutKept.next
  apply State.receiveAs_kept
  exact hs
theorem execLeave_kept {a tr via b agree s} (hs : Kept a s) : OutKept a (execLeave tr via b agree s) := by
  unfold execLeave
  apply OutKept.next
  apply State.receiveAs_kept
  exact hs
theorem execStill_kept {a tr via b agree s} (hs : Kept a s) : OutKept a (execStill tr via b agree s) := by
  unfold execStill
  apply OutKept.next
  apply State.receiveAs_kept
  exact hs
theorem execTsync_kept {a tr via b agree s} (hs : Kept a s) : OutKept a (execTsync tr via b agree s) := by
  unfold execTsync
  apply OutKept.next
  apply State.receiveAs_kept
  exact hs

/-! ### Heat -/

theorem State.setTin_kept {a s i t} (hs : Kept a s) : Kept a (State.setTin s i t) := by
  unfold State.setTin
  extract_lets y0
  clear_value y0
  exact hs
theorem State.rateCheck_kept {a s i x} (hs : Kept a s) : Kept a (State.rateCheck s i x) := by
  unfold State.rateCheck
  extract_lets y0 y1 y2
  clear_value y0
  clear_value y1
  have h3 : Kept a y2 := by
    unfold y2
    apply State.bump_kept
    apply State.setTin_kept
    exact hs
  clear_value y2
  split
  · split
    · apply State.put_kept
      exact h3
    · exact h3
  · apply State.put_kept
    apply State.setTin_kept
    exact hs
theorem State.convertTemp_kept {a s i x} (hs : Kept a s) : Kept a (State.convertTemp s i x) := by
  unfold State.convertTemp
  extract_lets y0 y1 y2 y3
  clear_value y0
  clear_value y1
  clear_value y2
  have h4 : Kept a y3 := by
    unfold y3
    apply State.put_kept
    apply State.put_kept
    apply State.setTin_kept
    exact hs
  clear_value y3
  split
  · exact hs
  · split
    · apply State.rateCheck_kept
      exact h4
    · apply State.rateCheck_kept
      apply State.fresh_kept
      exact h4
theorem State.crossTemp_kept {a s i} (hs : Kept a s) : Kept a (State.crossTemp s i) := by
  unfold State.crossTemp
  extract_lets y0 y1 y2 y3 y4 y5 y6 y7
  clear_value y0
  clear_value y1
  clear_value y2
  clear_value y3
  clear_value y4
  clear_value y5
  clear_value y6
  clear_value y7
  apply State.put_kept
  apply State.setTin_kept
  exact hs
theorem State.judgeTemp_kept {a s i} (hs : Kept a s) : Kept a (State.judgeTemp s i) := by
  unfold State.judgeTemp
  extract_lets y0 y1 y2 y3 y4
  clear_value y0
  clear_value y1
  have h5 : Kept a y2 := by
    unfold y2
    apply State.setTin_kept
    exact hs
  clear_value y2
  have h6 : Kept a y3 := by
    unfold y3
    apply State.setTin_kept
    exact hs
  clear_value y3
  have h7 : Kept a y4 := by
    unfold y4
    split
    · split
      · apply State.report_kept
        apply State.put_kept
        exact h5
      · exact h5
    · split
      · apply State.put_kept
        exact h6
      · exact h6
  clear_value y4
  split
  · split
    · apply State.wr_kept
      exact h7
    · exact h7
  · exact h7
theorem State.renewLater_kept {a s i} (hs : Kept a s) : Kept a (State.renewLater s i) := by
  unfold State.renewLater
  extract_lets y0
  clear_value y0
  apply State.setTin_kept
  exact hs
theorem State.renewTemp_kept {a s i} (hs : Kept a s) : Kept a (State.renewTemp s i) := by
  unfold State.renewTemp
  apply State.clear_kept
  apply State.setTin_kept
  exact hs
theorem State.judgeDs_kept {a s j far} (hs : Kept a s) : Kept a (State.judgeDs s j far) := by
  unfold State.judgeDs
  extract_lets y0 y1 y2 y3
  clear_value y0
  clear_value y1
  clear_value y2
  have h4 : Kept a y3 := by
    unfold y3
    apply State.putBit_kept
    exact hs
  clear_value y3
  split
  · apply State.report_kept
    exact h4
  · exact h4
theorem State.judgeDie_kept {a s d} (hs : Kept a s) : Kept a (State.judgeDie s d) := by
  unfold State.judgeDie
  extract_lets y0 y1
  clear_value y0
  clear_value y1
  apply State.judgeDs_kept
  apply State.judgeDs_kept
  exact hs
theorem State.judgeControl_kept {a s} (hs : Kept a s) : Kept a (State.judgeControl s) := by
  unfold State.judgeControl
  extract_lets y0 y1
  clear_value y0
  clear_value y1
  apply foldl_kept
  · intro x2 x3 h4
    apply State.judgeDs_kept
    exact h4
  · exact hs
theorem State.hotDs_kept {a s j old} (hs : Kept a s) : Kept a (State.hotDs s j old) := by
  unfold State.hotDs
  extract_lets y0 y1 y2 y3
  clear_value y0
  clear_value y1
  clear_value y2
  have h4 : Kept a y3 := by
    unfold y3
    split
    · apply State.report_kept
      exact hs
    · exact hs
  clear_value y3
  split
  · apply State.reportS4_kept
    exact h4
  · exact h4
theorem State.takeDs_kept {a s l} (hs : Kept a s) : Kept a (State.takeDs s l) := by
  unfold State.takeDs
  extract_lets y0 y1 y2 y3 y4 y5
  clear_value y0
  have h6 : Kept a y1 := by
    unfold y1
    apply State.each_kept
    · intro x7 x8 h9
      split
      · apply State.wr_kept
        exact h9
      · exact h9
    · exact hs
  clear_value y1
  have h10 : Kept a y2 := by
    unfold y2
    apply State.each_kept
    · intro x11 x12 h13
      apply State.judgeDie_kept
      exact h13
    · apply State.judgeControl_kept
      exact h6
  clear_value y2
  have h14 : Kept a y3 := by
    unfold y3
    apply State.each_kept
    · intro x15 x16 h17
      apply State.hotDs_kept
      exact h17
    · exact h10
  clear_value y3
  clear_value y4
  have h18 : Kept a y5 := by
    unfold y5
    apply State.wr_kept
    apply State.wr_kept
    exact h14
  clear_value y5
  apply State.each_kept
  · intro x19 x20 h21
    apply State.wr_kept
    exact h21
  · exact h18
theorem State.overTemp_kept {a s n} (hs : Kept a s) : Kept a (State.overTemp s n) := by
  unfold State.overTemp
  extract_lets y0 y1
  clear_value y0
  have h2 : Kept a y1 := by
    unfold y1
    apply State.gatesOff_kept
    apply State.modProt_kept
    exact hs
  clear_value y1
  split
  · split
    · split
      · apply State.modProt_kept
        exact hs
      · exact hs
    · split
      · apply State.disrupt_kept
        apply State.report_kept
        apply State.raiseFlag_kept
        exact h2
      · exact hs
  · exact hs
theorem State.dieOverTemp_kept {a s d} (hs : Kept a s) : Kept a (State.dieOverTemp s d) := by
  unfold State.dieOverTemp
  extract_lets y0
  have h1 : Kept a y0 := by
    unfold y0
    apply State.each_kept
    · intro x2 x3 h4
      apply State.gatesOff_kept
      exact h4
    · apply State.modDie_kept
      exact hs
  clear_value y0
  split
  · split
    · split
      · apply State.modDie_kept
        exact hs
      · exact hs
    · split
      · apply State.report_kept
        exact h1
      · exact hs
  · exact hs
theorem State.derateStep_kept {a s n} (hs : Kept a s) : Kept a (State.derateStep s n) := by
  unfold State.derateStep
  extract_lets y0 y1 y2
  clear_value y0
  clear_value y1
  clear_value y2
  split
  · exact hs
  · apply State.updExp_kept
    apply State.wr_kept
    exact hs
theorem State.trackTsb_kept {a s} (hs : Kept a s) : Kept a (State.trackTsb s) := by
  unfold State.trackTsb
  extract_lets y0
  clear_value y0
  exact hs
theorem State.trackTop_kept {a s} (hs : Kept a s) : Kept a (State.trackTop s) := by
  unfold State.trackTop
  apply State.each_kept
  · intro x0 x1 h2
    extract_lets y3
    clear_value y3
    split
    · exact h2
    · exact h2
  · exact hs
theorem State.trackHot_kept {a s} (hs : Kept a s) : Kept a (State.trackHot s) := by
  unfold State.trackHot
  extract_lets y0
  clear_value y0
  exact hs
theorem execTemperatureConversion_kept {a raw ds s} (hs : Kept a s) : OutKept a (execTemperatureConversion raw ds s) := by
  unfold execTemperatureConversion
  extract_lets y0 y1 y2 y3 y4 y5
  have h6 : Kept a y0 := by
    unfold y0
    apply State.takeDs_kept
    exact hs
  clear_value y0
  have h7 : Kept a y1 := by
    unfold y1
    apply State.each_kept
    · intro x8 x9 h10
      apply State.renewTemp_kept
      exact h10
    · exact h6
  clear_value y1
  have h11 : Kept a y2 := by
    unfold y2
    apply foldl_kept
    · intro x12 x13 h14
      apply State.convertTemp_kept
      exact h14
    · exact h7
  clear_value y2
  clear_value y3
  have h15 : Kept a y4 := by
    unfold y4
    apply State.each_kept
    · intro x16 x17 h18
      apply State.judgeTemp_kept
      exact h18
    · apply State.each_kept
      · intro x19 x20 h21
        apply State.crossTemp_kept
        exact h21
      · exact h11
  clear_value y4
  have h22 : Kept a y5 := by
    unfold y5
    apply State.each_kept
    · intro x23 x24 h25
      apply State.dieOverTemp_kept
      exact h25
    · apply State.each_kept
      · intro x26 x27 h28
        apply State.overTemp_kept
        exact h28
      · exact h15
  clear_value y5
  split
  · apply OutKept.next
    exact hs
  · apply OutKept.next
    apply State.trackHot_kept
    apply State.trackTop_kept
    apply State.trackTsb_kept
    exact h22
theorem execDeratingUpdate_kept {a s} (hs : Kept a s) : OutKept a (execDeratingUpdate s) := by
  unfold execDeratingUpdate
  apply OutKept.next
  apply State.each_kept
  · intro x0 x1 h2
    apply State.derateStep_kept
    exact h2
  · exact hs
theorem execChargeInhibit_kept {a s} (hs : Kept a s) : OutKept a (execChargeInhibit s) := by
  unfold execChargeInhibit
  extract_lets y0
  clear_value y0
  apply OutKept.next
  split
  · apply State.report_kept
    apply State.put_kept
    exact hs
  · exact hs
theorem execChargeResume_kept {a s} (hs : Kept a s) : OutKept a (execChargeResume s) := by
  unfold execChargeResume
  apply OutKept.next
  split
  · apply State.put_kept
    exact hs
  · exact hs

/-! ### Records -/

theorem State.modSage_kept {a s f} (hs : Kept a s) : Kept a (State.modSage s f) := by
  unfold State.modSage
  exact hs
theorem State.freshCopy_kept {a s i b} (hs : Kept a s) : Kept a (State.freshCopy s i b) := by
  unfold State.freshCopy
  exact hs
theorem State.writeCopy_kept {a s i v} (hs : Kept a s) : Kept a (State.writeCopy s i v) := by
  unfold State.writeCopy
  extract_lets y0 y1
  clear_value y0
  clear_value y1
  apply State.modRecs_kept
  apply State.freshCopy_kept
  exact hs
theorem State.loadItem_kept {a s i} (hs : Kept a s) : Kept a (State.loadItem s i) := by
  unfold State.loadItem
  split
  · apply State.wr_kept
    exact hs
  · split
    · exact hs
    · apply State.wr_kept
      apply State.fresh_kept
      exact hs
theorem State.loadSystem_kept {a s} (hs : Kept a s) : Kept a (State.loadSystem s) := by
  unfold State.loadSystem
  apply State.each_kept
  · intro x0 x1 h2
    apply State.loadItem_kept
    exact h2
  · exact hs
theorem State.storeRecord_kept {a s} (hs : Kept a s) : Kept a (State.storeRecord s) := by
  unfold State.storeRecord
  extract_lets y0 y1 y2 y3 y4 y5 y6
  clear_value y0
  clear_value y1
  have h7 : Kept a y2 := by
    unfold y2
    apply State.pokes_kept
    exact hs
  clear_value y2
  have h8 : Kept a y3 := by
    unfold y3
    apply State.wr_kept
    apply State.wr_kept
    exact h7
  clear_value y3
  have h9 : Kept a y4 := by
    unfold y4
    split
    · apply State.bump_kept
      exact h8
    · exact h8
  clear_value y4
  have h10 : Kept a y5 := by
    unfold y5
    apply State.writeCopy_kept
    apply State.writeCopy_kept
    exact h9
  clear_value y5
  clear_value y6
  apply State.modRecs_kept
  exact h10
theorem State.storeBlock_kept {a s src dst n} (hs : Kept a s) : Kept a (State.storeBlock s src dst n) := by
  unfold State.storeBlock
  extract_lets y0
  have h1 : Kept a y0 := by
    unfold y0
    apply State.each_kept
    · intro x2 x3 h4
      extract_lets y5
      have h6 : Kept a y5 := by
        unfold y5
        split
        · apply State.eccEvent_kept
          exact h4
        · exact h4
      clear_value y5
      apply State.poke_kept
      exact h6
    · exact hs
  clear_value y0
  apply State.modRecs_kept
  apply State.wr_kept
  exact h1
theorem State.storeItem_kept {a s i} (hs : Kept a s) : Kept a (State.storeItem s i) := by
  unfold State.storeItem
  extract_lets y0 y1
  have h2 : Kept a y0 := by
    unfold y0
    apply State.modRecs_kept
    exact hs
  clear_value y0
  clear_value y1
  split
  · apply State.modSage_kept
    apply State.freshCopy_kept
    exact h2
  · exact h2
  · apply State.writeCopy_kept
    exact h2
theorem State.deferWrite_kept {a s temp} (hs : Kept a s) : Kept a (State.deferWrite s temp) := by
  unfold State.deferWrite
  extract_lets y0
  have h1 : Kept a y0 := by
    unfold y0
    apply State.wr_kept
    exact hs
  clear_value y0
  split
  · exact h1
  · apply State.bump_kept
    apply State.modRecs_kept
    exact h1
theorem State.tryWrite_kept {a s vhold} (hs : Kept a s) : Kept a (State.tryWrite s vhold) := by
  unfold State.tryWrite
  extract_lets y0
  have h1 : Kept a y0 := by
    unfold y0
    apply State.put_kept
    exact hs
  clear_value y0
  split
  · apply State.modRecs_kept
    apply State.wr_kept
    exact h1
  · extract_lets y2
    have h3 : Kept a y2 := by
      unfold y2
      apply State.modRecs_kept
      apply State.wr_kept
      exact h1
    clear_value y2
    split
    · apply State.deferWrite_kept
      exact h1
    · split
      · apply State.deferWrite_kept
        exact h1
      · split
        · apply State.storeItem_kept
          exact h3
        · apply State.storeRecord_kept
          exact h3
        · apply State.storeBlock_kept
          exact h3
theorem State.longDeferral_kept {a s} (hs : Kept a s) : Kept a (State.longDeferral s) := by
  unfold State.longDeferral
  split
  · split
    · exact hs
    · split
      · split
        · apply State.report_kept
          apply State.modRecs_kept
          exact hs
        · exact hs
      · split
        · apply State.report_kept
          apply State.modRecs_kept
          exact hs
        · exact hs
  · exact hs
theorem State.writeSubcmd_kept {a s r v} (hs : Kept a s) : Kept a (State.writeSubcmd s r v) := by
  unfold State.writeSubcmd
  extract_lets y0 y1 y2 y3
  clear_value y0
  clear_value y1
  clear_value y2
  clear_value y3
  split
  · exact hs
  · split
    · apply State.report_kept
      apply State.wr_kept
      apply State.wr_kept
      exact hs
    · split
      · apply State.wr_kept
        apply State.wr_kept
        exact hs
      · split
        · exact hs
        · extract_lets y4
          have h5 : Kept a y4 := by
            unfold y4
            apply State.modRecs_kept
            apply State.wr_kept
            apply State.wr_kept
            exact hs
          clear_value y4
          split
          · apply State.report_kept
            apply State.raiseFlag_kept
            exact h5
          · exact h5
theorem State.showSage_kept {a s} (hs : Kept a s) : Kept a (State.showSage s) := by
  unfold State.showSage
  extract_lets y0 y1 y2 y3 y4
  clear_value y0
  clear_value y1
  have h5 : Kept a y2 := by
    unfold y2
    apply State.each_kept
    · intro x6 x7 h8
      apply State.wr_kept
      exact h8
    · exact hs
  clear_value y2
  have h9 : Kept a y3 := by
    unfold y3
    apply State.wr_kept
    apply State.wr_kept
    exact h5
  clear_value y3
  have h10 : Kept a y4 := by
    unfold y4
    apply State.wr_kept
    apply State.wr_kept
    exact h9
  clear_value y4
  apply State.wr_kept
  exact h10
theorem State.addLife_kept {a s u d} (hs : Kept a s) : Kept a (State.addLife s u d) := by
  unfold State.addLife
  extract_lets y0 y1 y2
  clear_value y0
  have h3 : Kept a y1 := by
    unfold y1
    apply State.modSage_kept
    exact hs
  clear_value y1
  have h4 : Kept a y2 := by
    unfold y2
    split
    · apply State.report_kept
      exact h3
    · exact h3
  clear_value y2
  split
  · apply State.report_kept
    exact h4
  · exact h4
theorem State.sageSecond_kept {a s} (hs : Kept a s) : Kept a (State.sageSecond s) := by
  unfold State.sageSecond
  extract_lets y0 y1 y2 y3
  clear_value y0
  clear_value y1
  have h4 : Kept a y2 := by
    unfold y2
    apply State.each_kept
    · intro x5 x6 h7
      extract_lets y8
      clear_value y8
      apply State.addLife_kept
      exact h7
    · exact hs
  clear_value y2
  clear_value y3
  apply State.showSage_kept
  apply State.modSage_kept
  exact h4
theorem State.sageWake_kept {a s} (hs : Kept a s) : Kept a (State.sageWake s) := by
  unfold State.sageWake
  split
  · extract_lets y0
    clear_value y0
    apply State.showSage_kept
    apply State.modSage_kept
    exact hs
  · exact hs
theorem State.loadSnap_kept {a s} (hs : Kept a s) : Kept a (State.loadSnap s).1 := by
  unfold State.loadSnap
  extract_lets y0
  clear_value y0
  split
  · dsimp only
    exact hs
  · split
    · dsimp only
      exact hs
    · dsimp only
      exact hs
theorem State.sageCold_kept {a s} (hs : Kept a s) : Kept a (State.sageCold s) := by
  unfold State.sageCold
  extract_lets y0 y1
  have h2 : Kept a y0.1 := by
    unfold y0
    apply State.loadSnap_kept
    exact hs
  clear_value y0
  have h3 : Kept a y1 := by
    unfold y1
    apply State.modSage_kept
    exact h2
  clear_value y1
  apply State.showSage_kept
  apply State.each_kept
  · intro x4 x5 h6
    apply State.addLife_kept
    exact h6
  · exact h3
theorem State.correctedFlash_kept {a s v1} (hs : Kept a s) : Kept a (State.correctedFlash s v1) := by
  unfold State.correctedFlash
  extract_lets y0
  clear_value y0
  apply State.modSage_kept
  apply State.bump_kept
  exact hs
theorem execRecordWrite_kept {a vhold s} (hs : Kept a s) : OutKept a (execRecordWrite vhold s) := by
  unfold execRecordWrite
  apply OutKept.next
  apply State.tryWrite_kept
  exact hs
theorem execEnergyRecheck_kept {a vhold s} (hs : Kept a s) : OutKept a (execEnergyRecheck vhold s) := by
  unfold execEnergyRecheck
  apply OutKept.next
  split
  · apply State.longDeferral_kept
    apply State.tryWrite_kept
    exact hs
  · exact hs
theorem execSageUpdate_kept {a s} (hs : Kept a s) : OutKept a (execSageUpdate s) := by
  unfold execSageUpdate
  apply OutKept.next
  split
  · exact hs
  · apply State.sageSecond_kept
    exact hs
theorem execSageSnapshot_kept {a s} (hs : Kept a s) : OutKept a (execSageSnapshot s) := by
  unfold execSageSnapshot
  apply OutKept.next
  split
  · apply State.queueItem_kept
    exact hs
  · exact hs
theorem execMarginWalk_kept {a weak s} (hs : Kept a s) : OutKept a (execMarginWalk weak s) := by
  unfold execMarginWalk
  apply OutKept.next
  split
  · exact hs
  · apply State.modSage_kept
    exact hs
theorem execFlashRefresh_kept {a sector fails s} (hs : Kept a s) : OutKept a (execFlashRefresh sector fails s) := by
  unfold execFlashRefresh
  extract_lets y0 y1 y2
  clear_value y0
  have h3 : Kept a y1 := by
    unfold y1
    apply State.modSage_kept
    apply State.wr_kept
    apply State.wr_kept
    exact hs
  clear_value y1
  have h4 : Kept a y2 := by
    unfold y2
    apply State.each_kept
    · intro x5 x6 h7
      apply State.report_kept
      exact h7
    · exact h3
  clear_value y2
  apply OutKept.next
  split
  · split
    · apply State.report_kept
      apply State.modSage_kept
      exact h4
    · apply State.showSage_kept
      apply State.bump_kept
      apply State.modSage_kept
      exact h4
  · exact hs

end Sys2Proof.Machine
end

