-- ==== Sys2Proof/Laws/KeptDevice.lean ====
section
/-! SUPPORT. What power, sealing, boot, the host link and debug keep (`Kept`): one lemma for each operation. -/
namespace Sys2Proof.Machine
open Sys2Proof.Safety

/-! ### Power -/

theorem State.modPwr_kept {a s f} (hs : Kept a s) : Kept a (State.modPwr s f) := by
  unfold State.modPwr
  exact hs
theorem State.drainN_kept {a n s} (h : Kept a s) : Kept a (State.drainN n s) := by
  induction n generalizing s with
  | zero => exact h
  | succ n ih =>
    unfold State.drainN
    split
    · exact ih (State.takeBatch_kept h)
    · exact h
theorem State.drain_kept {a s} (hs : Kept a s) : Kept a (State.drain s) := by
  unfold State.drain
  apply State.drainN_kept
  exact hs
theorem State.lose_kept {a s kept seq opens} (h : Kept a s) : Kept a (State.lose s kept seq opens) := by
  unfold State.lose
  extract_lets n r0 r1 t u
  have ht : Kept a t := by
    unfold t
    refine ⟨h.1, fun w => { h.2.1 w with memForm := ?_, memWords := ?_, regForm := ?_ }, h.2.2.1, fun _ _ => .inr rfl⟩
    · exact SMap.wf_filter (h.2.1 w).memForm
    · exact words_filter (h.2.1 w).memWords
    · exact SMap.rising_filter (h.2.1 w).regForm
  clear_value t
  have hu : Kept a u := State.each_kept (fun _ _ hk => State.modDie_kept hk) ht
  exact State.showOpen_kept (State.wr_kept (State.loadSystem_kept hu))
theorem State.nextGen_kept {a s} (hs : Kept a s) : Kept a (State.nextGen s) := by
  unfold State.nextGen
  apply State.wr_kept
  exact hs
theorem State.allGatesOff_kept {a s} (hs : Kept a s) : Kept a (State.allGatesOff s) := by
  unfold State.allGatesOff
  apply State.each_kept
  · intro x0 x1 h2
    apply State.gatesOff_kept
    exact h2
  · exact hs
theorem State.startEngines_kept {a s k proven fails} (hs : Kept a s) : Kept a (State.startEngines s k proven fails) := by
  unfold State.startEngines
  apply State.each_kept
  · intro x0 x1 h2
    extract_lets y3 y4 y5
    clear_value y3
    clear_value y4
    have h6 : Kept a y5 := by
      unfold y5
      split
      · apply State.wr_kept
        exact h2
      · exact h2
    clear_value y5
    split
    · apply foldl_kept
      · intro x7 x8 h9
        split
        · exact h9
        · apply State.modCore_kept
          exact h9
      · exact h2
    · split
      · apply State.report_kept
        apply State.wr_kept
        apply State.wr_kept
        apply State.modEng_kept
        apply State.haltCores_kept
        exact h2
      · split
        · exact h6
        · split
          · apply State.modCore_kept
            exact h6
          · apply State.modCore_kept
            exact h6
  · exact hs
theorem State.keepEngines_kept {a old s} (hs : Kept a old) (hb : Kept a s) : Kept a (State.keepEngines old s) := by
  unfold State.keepEngines
  extract_lets y0 y1
  have h2 : Kept a y0 := by
    unfold y0
    apply State.wr_kept
    exact hb
  clear_value y0
  have h3 : Kept a y1 := by
    unfold y1
    apply State.each_kept
    · intro x4 x5 h6
      extract_lets y7
      have h8 : Kept a y7 := by
        unfold y7
        apply State.wr_kept
        exact h6
      clear_value y7
      split
      · apply State.wr_kept
        apply State.wr_kept
        apply State.wr_kept
        exact h8
      · exact h8
    · exact h2
  clear_value y1
  apply State.each_kept
  · intro x9 x10 h11
    split
    · apply State.modCore_kept
      exact h11
    · exact h11
  · exact h3
theorem State.clearCluster_kept {a s k} (h : Kept a s) : Kept a (State.clearCluster s k) :=
  State.dmaIdle_kept (State.dropCluster_kept h)
theorem State.idleCluster_kept {a s k} (hs : Kept a s) : Kept a (State.idleCluster s k) := by
  unfold State.idleCluster
  extract_lets y0 y1 y2
  clear_value y0
  have h3 : Kept a y1 := by
    unfold y1
    apply State.modClu_kept
    apply State.wr_kept
    exact hs
  clear_value y1
  have h4 : Kept a y2 := by
    unfold y2
    apply State.freezeCluster_kept
    exact h3
  clear_value y2
  split
  · apply State.dropCluster_kept
    apply State.each_kept
    · intro x5 x6 h7
      extract_lets y8
      clear_value y8
      apply State.haltCores_kept
      exact h7
    · exact h4
  · exact h4
theorem State.enterWatch_kept {a s} (hs : Kept a s) : Kept a (State.enterWatch s) := by
  unfold State.enterWatch
  split
  · exact hs
  · split
    · apply State.updOutputs_kept
      apply State.transition_kept
      apply State.leaveAll_kept
      exact hs
    · split
      · apply State.transition_kept
        exact hs
      · exact hs
theorem State.writeClk_kept {a s k v} (hs : Kept a s) : Kept a (State.writeClk s k v) := by
  unfold State.writeClk
  extract_lets y0
  have h1 : Kept a y0 := by
    unfold y0
    apply State.wr_kept
    apply State.wr_kept
    exact hs
  clear_value y0
  split
  · apply State.flag_kept
    exact h1
  · exact h1
theorem State.writeCcmd_kept {a s r k v} (hs : Kept a s) : Kept a (State.writeCcmd s r k v) := by
  unfold State.writeCcmd
  extract_lets y0
  have h1 : Kept a y0 := by
    unfold y0
    split
    · apply State.requestStart_kept
      exact hs
    · exact hs
  clear_value y0
  split
  · exact h1
  · split
    · split
      · apply State.report_kept
        exact h1
      · apply State.modClu_kept
        exact h1
    · exact h1
theorem State.copyLatches_kept {a s} (hs : Kept a s) : Kept a (State.copyLatches s) := by
  unfold State.copyLatches
  extract_lets y0
  clear_value y0
  apply State.modPwr_kept
  exact hs
theorem State.domainsOff_kept {a s} (h : Kept a s) : Kept a (State.domainsOff s) := by
  unfold State.domainsOff
  extract_lets c k x m g
  have hc : Kept a c := State.copyLatches_kept h
  clear_value c
  have hm : Kept a m := State.modRecs_kept (State.keepEngines_kept hc (State.lose_kept (State.nextGen_kept hc)))
  clear_value m
  have hg : Kept a g := State.modSage_kept hm
  clear_value g
  refine State.updErrn_kept ?_
  exact hg.down g.dev
theorem State.updErrn_up {s : State} : s.updErrn.up = s.up := rfl
theorem State.domainsOff_up {s : State} : s.domainsOff.up = false := by
  unfold State.domainsOff
  extract_lets c k x m g
  clear_value g
  exact State.updErrn_up
theorem State.enterSleep_kept {a s vhold} (h : Kept a s) : Kept a (State.enterSleep s vhold) := by
  unfold State.enterSleep
  extract_lets x y z p
  have hx : Kept a x := State.drain_kept h
  have hy : Kept a y := State.drain_kept (State.tryWrite_kept (State.queueItem_kept (State.put_kept (State.leaveAll_kept hx))))
  have hz : Kept a z := State.domainsOff_kept hy
  have uz : z.up = false := State.domainsOff_up
  clear_value p z
  split
  · exact hx
  split
  · exact hy
  · exact hz.down' .sleep uz
theorem State.warmStart_kept {a s} (h : Kept a s) : Kept a (State.warmStart s) := by
  unfold State.warmStart
  extract_lets y
  have h0 : Kept a y := State.sageWake_kept h
  clear_value y
  exact h0.down _
theorem State.writePwrCtl_kept {a s v} (hs : Kept a s) : Kept a (State.writePwrCtl s v) := by
  unfold State.writePwrCtl
  apply State.modPwr_kept
  apply State.wr_kept
  exact hs
theorem execVcoreFail_kept {a s} (hs : Kept a s) : OutKept a (execVcoreFail s) := by
  unfold execVcoreFail
  extract_lets y0
  have h1 : Kept a y0 := by
    unfold y0
    apply State.nextGen_kept
    apply State.put_kept
    exact hs
  clear_value y0
  apply OutKept.next
  split
  · exact hs
  · split
    · exact h1
    · apply State.each_kept
      · intro x2 x3 h4
        apply State.stopCluster_kept
        exact h4
      · apply State.reportS4_kept
        apply State.allGatesOff_kept
        exact h1
theorem execVcoreReturn_kept {a s} (hs : Kept a s) : OutKept a (execVcoreReturn s) := by
  unfold execVcoreReturn
  apply OutKept.next
  apply State.put_kept
  exact hs
theorem execVanaFail_kept {a s} (hs : Kept a s) : OutKept a (execVanaFail s) := by
  unfold execVanaFail
  extract_lets y0
  have h1 : Kept a y0 := by
    unfold y0
    apply State.put_kept
    exact hs
  clear_value y0
  apply OutKept.next
  split
  · exact hs
  · split
    · exact h1
    · apply State.reportS4_kept
      apply State.each_kept
      · intro x2 x3 h4
        apply State.stopDie_kept
        exact h4
      · exact h1
theorem execVanaReturn_kept {a s} (hs : Kept a s) : OutKept a (execVanaReturn s) := by
  unfold execVanaReturn
  apply OutKept.next
  apply State.put_kept
  exact hs
theorem execVbakFail_kept {a s} (hs : Kept a s) : OutKept a (execVbakFail s) := by
  unfold execVbakFail
  apply OutKept.next
  split
  · apply State.report_kept
    apply State.put_kept
    exact hs
  · exact hs
theorem execVbakReturn_kept {a s} (hs : Kept a s) : OutKept a (execVbakReturn s) := by
  unfold execVbakReturn
  apply OutKept.next
  apply State.put_kept
  exact hs
theorem execSupplyMonitor_kept {a v s} (hs : Kept a s) : OutKept a (execSupplyMonitor v s) := by
  unfold execSupplyMonitor
  apply OutKept.next
  split
  · exact hs
  · apply State.each_kept
    · intro x0 x1 h2
      split
      · apply State.wr_kept
        exact h2
      · exact h2
    · exact hs
theorem execVioDip_kept {a s} (hs : Kept a s) : OutKept a (execVioDip s) := by
  unfold execVioDip
  apply OutKept.next
  split
  · exact hs
  · apply State.report_kept
    apply State.bump_kept
    exact hs
theorem execHandOverCommit_kept {a vaon s} (hs : Kept a s) : OutKept a (execHandOverCommit vaon s) := by
  unfold execHandOverCommit
  extract_lets y0 y1 y2 y3
  have h4 : Kept a y0 := by
    unfold y0
    apply State.put_kept
    exact hs
  clear_value y0
  have h5 : Kept a y1 := by
    unfold y1
    split
    · apply State.report_kept
      exact h4
    · exact h4
  clear_value y1
  have h6 : Kept a y2 := by
    unfold y2
    apply State.bump_kept
    apply State.report_kept
    exact h5
  clear_value y2
  have h7 : Kept a y3 := by
    unfold y3
    apply State.modPwr_kept
    exact h6
  clear_value y3
  apply OutKept.next
  split
  · exact hs
  · split
    · apply State.modPwr_kept
      exact h4
    · apply State.queueItem_kept
      apply State.updOutputs_kept
      apply State.allGatesOff_kept
      exact h7
theorem execHandOverComplete_kept {a s} (h : Kept a s) : OutKept a (execHandOverComplete s) := by
  unfold execHandOverComplete
  refine OutKept.next ?_
  split
  · extract_lets x safe y
    have hx : Kept a x := State.drain_kept h
    clear_value x
    have hy : Kept a y := State.domainsOff_kept (by split; · exact hx
                                                    · exact State.put_kept hx)
    have uy : y.up = false := State.domainsOff_up
    clear_value y
    exact hy.down' _ uy
  · exact h
theorem execStabilityWindowEnd_kept {a s} (hs : Kept a s) : OutKept a (execStabilityWindowEnd s) := by
  unfold execStabilityWindowEnd
  extract_lets y0 y1
  have h2 : Kept a y0 := by
    unfold y0
    apply State.put_kept
    apply State.put_kept
    exact hs
  clear_value y0
  have h3 : Kept a y1 := by
    unfold y1
    split
    · apply State.report_kept
      exact h2
    · apply State.report_kept
      apply State.raiseFlag_kept
      exact h2
  clear_value y1
  apply OutKept.next
  split
  · apply State.warmStart_kept
    exact h3
  · exact hs
theorem execColdStart_kept {a s} (h : Kept a s) : OutKept a (execColdStart s) := by
  unfold execColdStart
  refine OutKept.next ?_
  split
  · exact h
  · extract_lets x seq y z
    have hy : Kept a y := State.lose_kept (State.drain_kept h)
    clear_value y
    have hz : Kept a z := hy.down _
    clear_value z
    exact State.report_kept (State.sageCold_kept (State.raiseFlag_kept hz))
theorem execSleepEntry_kept {a wake vhold s} (hs : Kept a s) : OutKept a (execSleepEntry wake vhold s) := by
  unfold execSleepEntry
  apply OutKept.next
  split
  · split
    · apply State.modPwr_kept
      exact hs
    · apply State.discarded_kept
      exact hs
  · exact hs
theorem execSleepRefused_kept {a wake s} (hs : Kept a s) : OutKept a (execSleepRefused wake s) := by
  unfold execSleepRefused
  apply OutKept.next
  split
  · apply State.report_kept
    apply State.put_kept
    exact hs
  · exact hs
theorem execWake_kept {a level s} (hs : Kept a s) : OutKept a (execWake level s) := by
  unfold execWake
  extract_lets y0 y1
  clear_value y0
  have h2 : Kept a y1 := by
    unfold y1
    apply State.each_kept
    · intro x3 x4 h5
      apply State.raiseBit_kept
      exact h5
    · exact hs
  clear_value y1
  apply OutKept.next
  split
  · exact hs
  · split
    · split
      · apply State.warmStart_kept
        exact h2
      · exact h2
    · split
      · apply State.startRouted_kept
        exact hs
      · exact hs
theorem execAlarm_kept {a s} (hs : Kept a s) : OutKept a (execAlarm s) := by
  unfold execAlarm
  extract_lets y0
  have h1 : Kept a y0 := by
    unfold y0
    apply State.raiseFlag_kept
    exact hs
  clear_value y0
  apply OutKept.next
  split
  · split
    · apply State.warmStart_kept
      exact h1
    · exact h1
  · exact hs
theorem execClusterStartComplete_kept {a k fails s} (hs : Kept a s) : OutKept a (execClusterStartComplete k fails s) := by
  unfold execClusterStartComplete
  extract_lets y0 y1 y2
  clear_value y0
  clear_value y1
  have h3 : Kept a y2 := by
    unfold y2
    apply State.unfreezeCluster_kept
    apply State.modClu_kept
    apply State.wr_kept
    exact hs
  clear_value y2
  apply OutKept.next
  split
  · exact hs
  · split
    · split
      · exact h3
      · apply State.report_kept
        apply State.startEngines_kept
        apply State.clearCluster_kept
        exact h3
    · apply State.startEngines_kept
      apply State.clearCluster_kept
      exact h3
theorem execClusterIdle_kept {a k s} (hs : Kept a s) : OutKept a (execClusterIdle k s) := by
  unfold execClusterIdle
  extract_lets y0
  clear_value y0
  apply OutKept.next
  split
  · apply State.enterWatch_kept
    apply State.each_kept
    · intro x1 x2 h3
      apply State.idleCluster_kept
      exact h3
    · exact hs
  · exact hs

/-! ### Registers -/

theorem State.lockFields_kept {a s reg v2 v} (hs : Kept a s) : Kept a (State.lockFields s reg v2 v).1 := by
  unfold State.lockFields
  extract_lets y0
  clear_value y0
  split
  · dsimp only
    exact hs
  · dsimp only
    apply State.flag_kept
    exact hs
theorem State.boundFields_kept {a s reg x v} (h : Kept a s) : Kept a (State.boundFields s reg x v).1 := by
  unfold State.boundFields
  refine foldl_fst_kept (fun p b hp => ?_) h
  split
  · exact hp
  · exact State.flag_kept hp
theorem State.storeFields_kept {a s reg v} (hs : Kept a s) : Kept a (State.storeFields s reg v) := by
  unfold State.storeFields
  apply foldl_kept
  · intro x0 x1 h2
    split
    · apply State.wr_kept
      exact h2
    · apply State.wr_kept
      exact h2
    · apply State.wr_kept
      exact h2
    · apply State.softWrite_kept
      exact h2
    · apply State.softClear_kept
      exact h2
    · exact h2
    · exact h2
  · exact hs
theorem State.storeBounded_kept {a s reg v2 v} (hs : Kept a s) : Kept a (State.storeBounded s reg v2 v) := by
  unfold State.storeBounded
  extract_lets y0
  have h1 : Kept a y0.1 := by
    unfold y0
    apply State.boundFields_kept
    exact hs
  clear_value y0
  apply State.storeFields_kept
  exact h1
theorem State.setCapture_kept {a s r v2 v} (hs : Kept a s) : Kept a (State.setCapture s r v2 v) := by
  unfold State.setCapture
  exact hs
theorem State.setStaged_kept {a s r v2 v} (hs : Kept a s) : Kept a (State.setStaged s r v2 v) := by
  unfold State.setStaged
  exact hs
theorem State.readWord_kept {a s r reg v3 v} (hs : Kept a s) : Kept a (State.readWord s r reg v3 v).1 := by
  unfold State.readWord
  extract_lets y0
  clear_value y0
  split
  · dsimp only
    apply foldl_kept
    · intro x1 x2 h3
      apply State.setCapture_kept
      exact h3
    · exact hs
  · split
    · dsimp only
      apply State.setCapture_kept
      exact hs
    · dsimp only
      exact hs
theorem State.unstage_kept {a s r reg} (hs : Kept a s) : Kept a (State.unstage s r reg) := by
  unfold State.unstage
  apply foldl_kept
  · intro x0 x1 h2
    apply State.setStaged_kept
    exact h2
  · exact hs

/-! ### Seal -/

theorem State.loadRecord_kept {a s x} (hs : Kept a s) : Kept a (State.loadRecord s x) := by
  unfold State.loadRecord
  split
  · exact hs
  · extract_lets y0 y1 y2
    clear_value y0
    clear_value y1
    clear_value y2
    apply foldl_kept
    · intro x3 x4 h5
      apply State.wr_kept
      exact h5
    · exact hs
theorem State.trial_kept {a s l} (h : Kept a s) : Kept a (State.trial s l) := by
  unfold State.trial
  extract_lets keep
  refine foldl_kept (fun t x ht => State.loadRecord_kept ht) ?_
  exact ⟨h.1, fun w => { h.2.1 w with regForm := SMap.rising_filter (h.2.1 w).regForm }, h.2.2.1, h.2.2.2⟩
theorem State.showCrc_kept {a s} (hs : Kept a s) : Kept a (State.showCrc s) := by
  unfold State.showCrc
  apply State.wr_kept
  apply State.wr_kept
  exact hs
theorem State.settle_kept {a s old reg} (hs : Kept a s) (hb : Kept a old) : Kept a (State.settle s old reg) := by
  unfold State.settle
  apply foldl_kept
  · intro x0 x1 h2
    split
    · exact h2
    · apply State.flag_kept
      apply State.wr_kept
      exact h2
  · exact hs
theorem State.settleTopo_kept {a s old n} (hs : Kept a s) (hb : Kept a old) : Kept a (State.settleTopo s old n) := by
  unfold State.settleTopo
  extract_lets y0 y1 y2 y3 y4 y5 y6
  clear_value y0
  clear_value y1
  clear_value y2
  clear_value y3
  clear_value y4
  have h7 : Kept a y5 := by
    unfold y5
    apply State.wr_kept
    apply State.wr_kept
    exact hs
  clear_value y5
  have h8 : Kept a y6 := by
    unfold y6
    split
    · apply State.budgetRefusal_kept
      apply State.wr_kept
      exact hs
    · split
      · apply State.report_kept
        exact h7
      · exact h7
  clear_value y6
  split
  · apply State.flag_kept
    exact h8
  · exact h8
theorem State.settleEdge_kept {a s old n f} (hs : Kept a s) (hb : Kept a old) : Kept a (State.settleEdge s old n f) := by
  unfold State.settleEdge
  split
  · exact hs
  · apply State.timingRefusal_kept
    apply State.wr_kept
    exact hs
theorem State.settleCode_kept {a s old n} (hs : Kept a s) (hb : Kept a old) : Kept a (State.settleCode s old n) := by
  unfold State.settleCode
  split
  · apply State.modGen_kept
    exact hs
  · exact hs
theorem State.disableEntries_kept {a s} (hs : Kept a s) : Kept a (State.disableEntries s) := by
  unfold State.disableEntries
  extract_lets y0
  clear_value y0
  apply State.each_kept
  · intro x1 x2 h3
    apply State.report_kept
    exact h3
  · exact hs
theorem State.applyImage_kept {a s} (hs : Kept a s) : Kept a (State.applyImage s) := by
  unfold State.applyImage
  extract_lets y0 y1 y2 y3 y4 y5 y6 y7
  clear_value y0
  clear_value y1
  have h8 : Kept a y2 := by
    unfold y2
    apply foldl_kept
    · intro x9 x10 h11
      apply State.loadRecord_kept
      exact h11
    · exact hs
  clear_value y2
  clear_value y3
  have h12 : Kept a y4 := by
    unfold y4
    apply foldl_kept
    · intro x13 x14 h15
      apply State.settle_kept
      · exact h15
      · exact hs
    · exact h8
  clear_value y4
  have h16 : Kept a y5 := by
    unfold y5
    apply foldl_kept
    · intro x17 x18 h19
      split
      · apply State.settleTopo_kept
        · exact h19
        · exact hs
      · apply State.settleCode_kept
        · exact h19
        · exact hs
      · apply State.settleCode_kept
        · exact h19
        · exact hs
      · apply State.renewLater_kept
        exact h19
      · apply State.renewLater_kept
        exact h19
      · split
        · apply State.flag_kept
          apply State.wr_kept
          exact h19
        · exact h19
      · exact h19
    · exact h12
  clear_value y5
  have h20 : Kept a y6 := by
    unfold y6
    apply foldl_kept
    · intro x21 x22 h23
      split
      · apply foldl_kept
        · intro x24 x25 h26
          apply State.settleEdge_kept
          · exact h26
          · exact hs
        · exact h23
      · apply foldl_kept
        · intro x27 x28 h29
          apply State.settleEdge_kept
          · exact h29
          · exact hs
        · exact h23
      · apply foldl_kept
        · intro x30 x31 h32
          apply State.settleEdge_kept
          · exact h32
          · exact hs
        · exact h23
      · apply foldl_kept
        · intro x33 x34 h35
          apply State.settleEdge_kept
          · exact h35
          · exact hs
        · exact h23
      · exact h23
    · exact h16
  clear_value y6
  have h36 : Kept a y7 := by
    unfold y7
    exact h20
  clear_value y7
  apply State.wr_kept
  apply State.disableEntries_kept
  apply State.updWatch_kept
  split
  · apply State.installSync_kept
    exact h36
  · exact h36
theorem State.decidePair_kept {a s} (hs : Kept a s) : Kept a (State.decidePair s) := by
  unfold State.decidePair
  extract_lets y0
  clear_value y0
  split
  · exact hs
  · split
    · apply State.wr_kept
      exact hs
    · apply State.report_kept
      exact hs
theorem State.latchSwitches_kept {a s p0 p1 p2 p3} (hs : Kept a s) : Kept a (State.latchSwitches s p0 p1 p2 p3) := by
  unfold State.latchSwitches
  extract_lets y0 y1 y2 y3 y4 y5
  clear_value y0
  clear_value y1
  have h6 : Kept a y2 := by
    unfold y2
    apply State.wr_kept
    apply State.wr_kept
    exact hs
  clear_value y2
  clear_value y3
  have h7 : Kept a y4 := by
    unfold y4
    exact h6
  clear_value y4
  clear_value y5
  apply State.put_kept
  apply State.put_kept
  apply State.put_kept
  apply State.put_kept
  apply State.wr_kept
  exact h7
theorem State.writeSealCmd_kept {a s v} (hs : Kept a s) : Kept a (State.writeSealCmd s v) := by
  unfold State.writeSealCmd
  extract_lets y0
  clear_value y0
  split
  · exact hs
  · split
    · apply State.report_kept
      exact hs
    · apply State.showCrc_kept
      apply State.put_kept
      exact hs
theorem execSwitchRead_kept {a p0 p1 p2 p3 s} (hs : Kept a s) : OutKept a (execSwitchRead p0 p1 p2 p3 s) := by
  unfold execSwitchRead
  extract_lets y0 y1 y2 y3 y4 y5
  clear_value y0
  clear_value y1
  have h6 : Kept a y2 := by
    unfold y2
    apply State.each_kept
    · intro x7 x8 h9
      apply State.report_kept
      exact h9
    · apply State.wr_kept
      exact hs
  clear_value y2
  clear_value y3
  clear_value y4
  have h10 : Kept a y5 := by
    unfold y5
    exact h6
  clear_value y5
  apply OutKept.next
  split
  · exact hs
  · split
    · apply State.report_kept
      exact h10
    · exact h10

/-! ### Boot -/

theorem State.deviceReset_kept {a s c} (h : Kept a s) : Kept a (State.deviceReset s c) := by
  unfold State.deviceReset
  split
  · exact State.report_kept h
  extract_lets y0 y1
  have h0 : Kept a y0 := by
    unfold y0
    split
    · exact State.sageWake_kept h
    · exact State.drain_kept h
  clear_value y0
  have h1 : Kept a (y1.wr HIF_RSTCAUSE_CAUSE c) := State.wr_kept (State.lose_kept (State.nextGen_kept h0))
  clear_value y1
  exact h1.down _
theorem State.resetRefused_kept {a s} (hs : Kept a s) : Kept a (State.resetRefused s) := by
  unfold State.resetRefused
  apply State.report_kept
  exact hs
theorem State.writeRst_kept {a s r key} (hs : Kept a s) : Kept a (State.writeRst s r key) := by
  unfold State.writeRst
  split
  · apply State.deviceReset_kept
    exact hs
  · apply State.resetRefused_kept
    exact hs
theorem State.writePcyc_kept {a s r key} (hs : Kept a s) : Kept a (State.writePcyc s r key) := by
  unfold State.writePcyc
  extract_lets y0
  have h1 : Kept a y0 := by
    unfold y0
    apply State.modPwr_kept
    exact hs
  clear_value y0
  split
  · apply State.queueItem_kept
    apply State.updOutputs_kept
    apply State.allGatesOff_kept
    exact h1
  · apply State.resetRefused_kept
    exact hs
theorem State.slotRefused_kept {a s i reason} (hs : Kept a s) : Kept a (State.slotRefused s i reason) := by
  unfold State.slotRefused
  apply State.report_kept
  exact hs
theorem State.useSlot_kept {a s i} (hs : Kept a s) : Kept a (State.useSlot s i) := by
  unfold State.useSlot
  apply State.wr_kept
  apply State.each_kept
  · intro x0 x1 h2
    apply State.wr_kept
    exact h2
  · exact hs
theorem State.secureBoot_kept {a s sig0 sig1} (hs : Kept a s) : Kept a (State.secureBoot s sig0 sig1).1 := by
  unfold State.secureBoot
  extract_lets y0 y1 y2 y3 y4 y5 y6 y7 y8 y9
  clear_value y0
  clear_value y1
  clear_value y2
  clear_value y3
  clear_value y4
  clear_value y5
  clear_value y6
  clear_value y7
  have h10 : Kept a y8 := by
    unfold y8
    apply State.wr_kept
    apply State.wr_kept
    exact hs
  clear_value y8
  have h11 : Kept a y9 := by
    unfold y9
    apply foldl_kept
    · intro x12 x13 h14
      split
      · exact h14
      · apply State.slotRefused_kept
        exact h14
    · exact h10
  clear_value y9
  split
  · dsimp only
    apply State.useSlot_kept
    exact h11
  · split
    · dsimp only
      apply State.report_kept
      apply State.put_kept
      apply State.useSlot_kept
      exact h11
    · dsimp only
      apply State.put_kept
      exact h11
theorem State.writeBootcmd_kept {a s v} (h : Kept a s) : Kept a (State.writeBootcmd s v) := by
  unfold State.writeBootcmd
  split
  · exact h
  split
  · exact State.resetRefused_kept h
  extract_lets want
  exact foldl_kept (fun t x ht => State.orOtp_kept ht) h
theorem State.countRung_kept {a s r} (hs : Kept a s) : Kept a (State.countRung s r) := by
  unfold State.countRung
  apply State.report_kept
  apply State.queueItem_kept
  apply State.bump_kept
  exact hs
theorem State.starting_kept {a s d} (ha : a.up = false) (h : Kept a s) : Kept a (State.starting s d) := h.start ha _ _
theorem State.started_kept {a s} (ha : a.up = false) (h : Kept a s) : Kept a (State.started s) := h.start ha _ _
theorem State.foundFlag_kept {a s} (ha : a.up = false) (h : Kept a s) : Kept a (State.foundFlag s) := by
  unfold State.foundFlag
  split
  · apply State.starting_kept
    · exact ha
    · apply State.modPwr_kept
      apply State.countRung_kept
      exact h
  · exact h
theorem State.selfTests_kept {a s dieBad fcBad snBad} (hs : Kept a s) : Kept a (State.selfTests s dieBad fcBad snBad) := by
  unfold State.selfTests
  extract_lets y0
  have h1 : Kept a y0 := by
    unfold y0
    apply State.each_kept
    · intro x2 x3 h4
      extract_lets y5
      have h6 : Kept a y5 := by
        unfold y5
        apply State.report_kept
        exact h4
      clear_value y5
      apply State.setLatches_kept
      exact h6
    · exact hs
  clear_value y0
  apply foldl_kept
  · intro x7 x8 h9
    split
    · apply State.report_kept
      apply State.fresh_kept
      exact h9
    · exact h9
  · exact h1
theorem State.applySplit_kept {a s map} (hs : Kept a s) : Kept a (State.applySplit s map) := by
  unfold State.applySplit
  extract_lets y0 y1 y2
  clear_value y0
  have h3 : Kept a y1 := by
    unfold y1
    apply State.put_kept
    exact hs
  clear_value y1
  have h4 : Kept a y2 := by
    unfold y2
    apply State.wr_kept
    exact h3
  clear_value y2
  split
  · exact h3
  · split
    · exact h4
    · apply State.report_kept
      apply State.put_kept
      exact h3
theorem State.compareProof_kept {a s fails} (hs : Kept a s) : Kept a (State.compareProof s fails) := by
  unfold State.compareProof
  apply foldl_kept
  · intro x0 x1 h2
    extract_lets y3
    clear_value y3
    split
    · exact h2
    · apply State.report_kept
      apply State.wr_kept
      apply State.wr_kept
      exact h2
  · exact hs
theorem State.checkReserve_kept {a s} (hs : Kept a s) : Kept a (State.checkReserve s) := by
  unfold State.checkReserve
  split
  · apply State.put_kept
    exact hs
  · apply State.reserveFix_kept
    exact hs
theorem State.noteSplit_kept {a s split} (hs : Kept a s) : Kept a (State.noteSplit s split) := by
  unfold State.noteSplit
  extract_lets y0
  clear_value y0
  exact hs
theorem State.bootImage_kept {a s split} (hs : Kept a s) : Kept a (State.bootImage s split).1 := by
  unfold State.bootImage
  extract_lets y0 y1 y2
  clear_value y0
  have h3 : Kept a y1 := by
    unfold y1
    split
    · apply State.applyImage_kept
      exact hs
    · exact hs
  clear_value y1
  clear_value y2
  split
  · dsimp only
    apply State.showCrc_kept
    apply State.wr_kept
    apply State.wr_kept
    exact h3
  · split
    · dsimp only
      apply State.showCrc_kept
      apply State.wr_kept
      apply State.wr_kept
      apply State.applyImage_kept
      exact hs
    · dsimp only
      apply State.report_kept
      apply State.showCrc_kept
      apply State.wr_kept
      apply State.wr_kept
      exact hs
theorem State.bootChecks_kept {a s split fails} (hs : Kept a s) : Kept a (State.bootChecks s split fails) := by
  unfold State.bootChecks
  apply State.updOutputs_kept
  apply State.modPair_kept
  apply State.decidePair_kept
  apply State.checkReserve_kept
  apply State.compareProof_kept
  apply State.applySplit_kept
  exact hs
theorem State.restoreLatches_kept {a s} (hs : Kept a s) : Kept a (State.restoreLatches s) := by
  unfold State.restoreLatches
  apply State.modPwr_kept
  apply foldl_kept
  · intro x0 x1 h2
    apply State.setLatch_kept
    exact h2
  · exact hs
theorem State.startComplete_kept {a s w b} (ha : a.up = false) (h : Kept a s) : Kept a (State.startComplete s w b) := by
  unfold State.startComplete
  extract_lets y0 y1 y2
  have h3 : Kept a y0 := by
    unfold y0
    apply State.raiseBit_kept
    apply State.started_kept
    · exact ha
    · exact h
  clear_value y0
  have h4 : Kept a y1 := by
    unfold y1
    apply State.each_kept
    · intro x5 x6 h7
      apply State.sendJoin_kept
      exact h7
    · exact h3
  clear_value y1
  have h8 : Kept a y2 := by
    unfold y2
    apply State.each_kept
    · intro x9 x10 h11
      apply State.requestStart_kept
      apply State.modClu_kept
      exact h11
    · exact h4
  clear_value y2
  split
  · exact h4
  · split
    · apply State.startRouted_kept
      exact h8
    · exact h8
theorem execPowerUp_kept {a s} (hs : Kept a s) : OutKept a (execPowerUp s) := by
  unfold execPowerUp
  apply OutKept.next
  split
  · apply State.modPwr_kept
    exact hs
  · exact hs
theorem execResetPin_kept {a s} (hs : Kept a s) : OutKept a (execResetPin s) := by
  unfold execResetPin
  apply OutKept.next
  split
  · apply State.deviceReset_kept
    exact hs
  · exact hs
theorem execPowerCycleTimeout_kept {a s} (hs : Kept a s) : OutKept a (execPowerCycleTimeout s) := by
  unfold execPowerCycleTimeout
  extract_lets y0 y1
  have h2 : Kept a y0 := by
    unfold y0
    apply State.modPwr_kept
    apply State.report_kept
    exact hs
  clear_value y0
  clear_value y1
  apply OutKept.next
  split
  · apply State.deviceReset_kept
    exact h2
  · exact hs
theorem execStartUp_kept' {a p0 p1 p2 p3 crystal dieBad fcBad snBad sig0 sig1 split proof} {s : State} (ha : a.up = false) (h : Kept a s) :
    OutKept a (execStartUp p0 p1 p2 p3 crystal dieBad fcBad snBad sig0 sig1 split proof s) := by
  unfold execStartUp
  extract_lets y0 y1 y2 y3 y4 y5 y6 y7 y8 y9 y10 y11 y12 y13 y14
  clear_value y0
  have h15 : Kept a y1 := by
    unfold y1
    apply State.modPwr_kept
    apply State.foundFlag_kept
    · exact ha
    · exact h
  clear_value y1
  clear_value y2
  have h16 : Kept a y3 := by
    unfold y3
    split
    · apply State.countRung_kept
      exact h15
    · exact h15
  clear_value y3
  have h17 : Kept a y4 := by
    unfold y4
    apply State.latchSwitches_kept
    apply State.selfTests_kept
    exact h16
  clear_value y4
  have h18 : Kept a y5 := by
    unfold y5
    apply State.starting_kept
    · exact ha
    · exact h17
  clear_value y5
  have h19 : Kept a y7 := by
    unfold y7
    split
    · apply State.report_kept
      exact h18
    · exact h18
  clear_value y7
  have h20 : Kept a y8.1 := by
    unfold y8
    apply State.secureBoot_kept
    exact h19
  clear_value y8
  have h21 : Kept a y10 := by
    unfold y10
    split
    · apply State.report_kept
      exact h20
    · exact h20
  clear_value y10
  have h22 : Kept a y11.1 := by
    unfold y11
    apply State.bootImage_kept
    apply State.noteSplit_kept
    exact h21
  clear_value y11
  have h23 : Kept a y12 := by
    unfold y12
    apply State.bootChecks_kept
    exact h22
  clear_value y12
  have h24 : Kept a y13 := by
    unfold y13
    apply State.setLatches_kept
    apply State.modPwr_kept
    exact h23
  clear_value y13
  have h25 : Kept a y14 := by
    unfold y14
    apply State.updOutputs_kept
    apply State.updErrn_kept
    apply State.started_kept
    · exact ha
    · exact h24
  clear_value y14
  apply OutKept.next
  split
  · exact h
  · split
    · split
      · exact h25
      · apply State.requestStart_kept
        exact h25
    · split
      · apply State.safeEntry_kept
        apply State.started_kept
        · exact ha
        · apply State.restoreLatches_kept
          exact h23
      · apply State.startComplete_kept
        · exact ha
        · apply State.restoreLatches_kept
          exact h23
theorem execStartUp_kept {p0 p1 p2 p3 crystal dieBad fcBad snBad sig0 sig1 split proof} {s : State} :
    OutKept s (execStartUp p0 p1 p2 p3 crystal dieBad fcBad snBad sig0 sig1 split proof s) := by
  cases ha : s.up with
  | false => exact execStartUp_kept' ha Kept.refl
  | true =>
    unfold execStartUp
    rw [if_pos (.inr (.inl ha))]
    exact OutKept.next Kept.refl

/-! ### Host -/

theorem State.doorbell_kept {a s v1 cnt full v clear ring} (hs : Kept a s) (hb : ∀ z0, Kept a z0 → Kept a (clear z0)) (hc : ∀ z0, Kept a z0 → Kept a (ring z0)) : Kept a (State.doorbell s v1 cnt full v clear ring) := by
  unfold State.doorbell
  split
  · split
    · apply hb
      apply State.put_kept
      exact hs
    · exact hs
  · split
    · apply State.raiseFlag_kept
      exact hs
    · split
      · apply State.flag_kept
        exact hs
      · apply hc
        apply State.raiseFlag_kept
        apply State.wr_kept
        exact hs
theorem State.writeHdb_kept {a s m v} (hs : Kept a s) : Kept a (State.writeHdb s m v) := by
  unfold State.writeHdb
  apply State.doorbell_kept
  · exact hs
  · intro x0 h1
    apply State.raiseBit_kept
    exact h1
  · intro x2 h3
    apply State.startRouted_kept
    apply State.raise_kept
    exact h3
theorem State.writeDdb_kept {a s m v} (h : Kept a s) : Kept a (State.writeDdb s m v) := by
  unfold State.writeDdb
  exact State.doorbell_kept h (fun _ hk => hk) (fun _ hk => State.raiseBit_kept hk)
theorem State.writeFlcmd_kept {a s v} (hs : Kept a s) : Kept a (State.writeFlcmd s v) := by
  unfold State.writeFlcmd
  extract_lets y0 y1 y2 y3 y4 y5 y6
  clear_value y0
  clear_value y1
  clear_value y2
  clear_value y3
  clear_value y4
  have h7 : Kept a y5 := by
    unfold y5
    apply State.wr_kept
    apply State.wr_kept
    exact hs
  clear_value y5
  clear_value y6
  split
  · exact h7
  · apply State.report_kept
    apply State.wr_kept
    split
    · exact hs
    · apply State.wr_kept
      exact hs
theorem State.flashDone_kept {a s op adr src n} (h : Kept a s) : Kept a (State.flashDone s op adr src n) := by
  unfold State.flashDone
  split
  · refine ⟨h.1, fun w => { h.2.1 w with codeForm := ?_, codeWords := ?_ }, h.2.2.1, h.2.2.2⟩
    · exact SMap.rising_filter (h.2.1 w).codeForm
    · exact words_filter (h.2.1 w).codeWords
  · exact State.modSage_kept (foldl_kept (fun t x ht => State.pokeFlash_kept ht) h)
theorem State.klTo_kept {a s st lanes} (hs : Kept a s) : Kept a (State.klTo s st lanes) := by
  unfold State.klTo
  extract_lets y0 y1
  clear_value y0
  have h2 : Kept a y1 := by
    unfold y1
    exact hs
  clear_value y1
  apply State.raiseBit_kept
  apply State.wr_kept
  apply State.wr_kept
  exact h2
theorem State.klFail_kept {a s} (hs : Kept a s) : Kept a (State.klFail s) := by
  unfold State.klFail
  extract_lets y0 y1
  have h2 : Kept a y0 := by
    unfold y0
    apply State.bump_kept
    apply State.klTo_kept
    exact hs
  clear_value y0
  clear_value y1
  exact h2
theorem State.klStep_kept {a s good st lanes} (hs : Kept a s) : Kept a (State.klStep s good st lanes) := by
  unfold State.klStep
  split
  · apply State.klFail_kept
    exact hs
  · split
    · apply State.klTo_kept
      exact hs
    · exact hs
theorem State.klLost_kept {a s st} (hs : Kept a s) : Kept a (State.klLost s st) := by
  unfold State.klLost
  split
  · apply State.report_kept
    apply State.klTo_kept
    exact hs
  · apply State.klTo_kept
    exact hs
theorem State.writeKlctl_kept {a s v} (hs : Kept a s) : Kept a (State.writeKlctl s v) := by
  unfold State.writeKlctl
  split
  · exact hs
  · apply State.klLost_kept
    exact hs
theorem State.writeKsfCtl_kept {a s v} (hs : Kept a s) : Kept a (State.writeKsfCtl s v) := by
  unfold State.writeKsfCtl
  extract_lets y0
  have h1 : Kept a y0 := by
    unfold y0
    apply State.wr_kept
    apply State.wr_kept
    apply State.wr_kept
    exact hs
  clear_value y0
  split
  · exact h1
  · apply State.klLost_kept
    exact h1
theorem execFlashCommandComplete_kept {a differ s} (hs : Kept a s) : OutKept a (execFlashCommandComplete differ s) := by
  unfold execFlashCommandComplete
  apply OutKept.next
  split
  · exact hs
  · extract_lets y0 y1 y2
    have h3 : Kept a y0 := by
      unfold y0
      apply State.flashDone_kept
      exact hs
    clear_value y0
    clear_value y1
    have h4 : Kept a y2 := by
      unfold y2
      exact h3
    clear_value y2
    split
    · apply State.report_kept
      apply State.wr_kept
      exact h4
    · apply State.wr_kept
      exact h4
theorem execKlStateChange_kept {a good s} (hs : Kept a s) : OutKept a (execKlStateChange good s) := by
  unfold execKlStateChange
  apply OutKept.next
  split
  · split
    · exact hs
    · apply State.klLost_kept
      exact hs
  · split
    · split
      · exact hs
      · apply State.klTo_kept
        exact hs
    · apply State.klStep_kept
      exact hs
    · apply State.klStep_kept
      exact hs
    · split
      · exact hs
      · apply State.klLost_kept
        exact hs
theorem execKlLaneFail_kept {a lane s} (hs : Kept a s) : OutKept a (execKlLaneFail lane s) := by
  unfold execKlLaneFail
  apply OutKept.next
  split
  · split
    · apply State.report_kept
      apply State.putBit_kept
      exact hs
    · apply State.klLost_kept
      exact hs
  · exact hs

/-! ### Debug -/

theorem State.dbgHalt_kept {a s} (hs : Kept a s) : Kept a (State.dbgHalt s) := by
  unfold State.dbgHalt
  extract_lets y0
  clear_value y0
  split
  · exact hs
  · split
    · apply State.debugHalt_kept
      exact hs
    · apply State.modCore_kept
      exact hs
theorem State.dbgResume_kept {a s} (hs : Kept a s) : Kept a (State.dbgResume s) := by
  unfold State.dbgResume
  extract_lets y0 y1 y2 y3 y4
  clear_value y0
  clear_value y1
  have h5 : Kept a y2 := by
    unfold y2
    apply State.modCore_kept
    exact hs
  clear_value y2
  clear_value y3
  have h6 : Kept a y4 := by
    unfold y4
    apply State.each_kept
    · intro x7 x8 h9
      apply State.unfreeze_kept
      exact h9
    · exact h5
  clear_value y4
  split
  · exact hs
  · split
    · apply State.wr_kept
      apply State.wr_kept
      exact h6
    · exact h6
theorem State.dbgStep_kept {a s} (hs : Kept a s) : Kept a (State.dbgStep s) := by
  unfold State.dbgStep
  extract_lets y0
  clear_value y0
  split
  · apply State.modCore_kept
    exact hs
  · exact hs
theorem State.writeDbgCmd_kept {a s v} (hs : Kept a s) : Kept a (State.writeDbgCmd s v) := by
  unfold State.writeDbgCmd
  extract_lets y0 y1
  have h2 : Kept a y0 := by
    unfold y0
    split
    · apply State.dbgHalt_kept
      exact hs
    · exact hs
  clear_value y0
  have h3 : Kept a y1 := by
    unfold y1
    split
    · apply State.dbgResume_kept
      exact h2
    · exact h2
  clear_value y1
  split
  · apply State.dbgStep_kept
    exact h3
  · exact h3
theorem State.dbgWrite_kept {a s v} (hs : Kept a s) : Kept a (State.dbgWrite s v) := by
  unfold State.dbgWrite
  extract_lets y0 y1
  clear_value y0
  clear_value y1
  split
  · exact hs
  · apply State.modCore_kept
    exact hs
theorem State.writeOtpcmd_kept {a s v} (h : Kept a s) : Kept a (State.writeOtpcmd s v) := by
  unfold State.writeOtpcmd
  extract_lets y0 y1
  have h0 : Kept a y0 := by
    unfold y0
    split
    · exact State.softClear_kept h
    · exact h
  split
  · exact h0
  split
  · exact State.orOtp_kept h0
  · exact State.report_kept (State.raiseFlag_kept h0)
theorem State.tap_kept {a s ir dr} (hs : Kept a s) : Kept a (State.tap s ir dr) := by
  unfold State.tap
  extract_lets y0
  clear_value y0
  exact hs
theorem State.scanPins_kept {a s code} (hs : Kept a s) : Kept a (State.scanPins s code) := by
  unfold State.scanPins
  split
  · apply State.tap_kept
    exact hs
  · apply State.report_kept
    apply State.tap_kept
    exact hs
theorem State.drawNonce_kept {a s} (hs : Kept a s) : Kept a (State.drawNonce s) := by
  unfold State.drawNonce
  extract_lets y0 y1
  clear_value y0
  clear_value y1
  exact hs
theorem execExtest_kept {a s} (hs : Kept a s) : OutKept a (execExtest s) := by
  unfold execExtest
  apply OutKept.next
  apply State.scanPins_kept
  exact hs
theorem execSamplePreload_kept {a pins s} (hs : Kept a s) : OutKept a (execSamplePreload pins s) := by
  unfold execSamplePreload
  apply OutKept.next
  apply State.tap_kept
  exact hs
theorem execIdcode_kept {a s} (hs : Kept a s) : OutKept a (execIdcode s) := by
  unfold execIdcode
  apply OutKept.next
  apply State.tap_kept
  exact hs
theorem execClamp_kept {a s} (hs : Kept a s) : OutKept a (execClamp s) := by
  unfold execClamp
  apply OutKept.next
  apply State.scanPins_kept
  exact hs
theorem execHighz_kept {a s} (hs : Kept a s) : OutKept a (execHighz s) := by
  unfold execHighz
  apply OutKept.next
  apply State.scanPins_kept
  exact hs
theorem execBypass_kept {a s} (hs : Kept a s) : OutKept a (execBypass s) := by
  unfold execBypass
  apply OutKept.next
  apply State.tap_kept
  exact hs
theorem execDbgauth_kept {a valid s} (hs : Kept a s) : OutKept a (execDbgauth valid s) := by
  unfold execDbgauth
  extract_lets y0
  have h1 : Kept a y0 := by
    unfold y0
    apply State.drawNonce_kept
    exact hs
  clear_value y0
  apply OutKept.next
  split
  · apply State.report_kept
    apply State.tap_kept
    exact hs
  · split
    · apply State.put_kept
      exact h1
    · apply State.report_kept
      apply State.bump_kept
      exact h1

end Sys2Proof.Machine
end

