-- ==== Sys2Proof/Laws/KeptEvents.lean ====
section
/-! SUPPORT. What the power stage, the register bus, the ports and the events keep (`Kept`): one lemma for each operation. -/
namespace Sys2Proof.Machine
open Sys2Proof.Safety

/-! ### PowerStage -/

theorem State.settleGen_kept {a s n was} (hs : Kept a s) : Kept a (State.settleGen s n was) := by
  unfold State.settleGen
  extract_lets y0
  have h1 : Kept a y0 := by
    unfold y0
    split
    · apply State.installDeferred_kept
      apply State.put_kept
      apply State.unfreeze_kept
      apply State.gatesOff_kept
      exact hs
    · split
      · apply State.enableGen_kept
        exact hs
      · exact hs
  clear_value y0
  apply State.updWatch_kept
  apply State.updLease_kept
  apply State.reclamp_kept
  exact h1
theorem State.settlePair_kept {a s old n} (hs : Kept a s) (hb : Kept a old) : Kept a (State.settlePair s old n) := by
  unfold State.settlePair
  apply State.settleGen_kept
  apply State.settleGen_kept
  exact hs
theorem State.writeCfg_kept {a s n v} (hs : Kept a s) : Kept a (State.writeCfg s n v) := by
  unfold State.writeCfg
  extract_lets y0 y1 y2 y3 y4 y5 y6 y7 y8 y9 y10 y11 y12 y13 y14 y15 y16
  clear_value y0
  clear_value y1
  clear_value y2
  clear_value y3
  have h17 : Kept a y4 := by
    unfold y4
    split
    · apply State.flag_kept
      exact hs
    · exact hs
  clear_value y4
  clear_value y5
  clear_value y6
  clear_value y7
  clear_value y8
  clear_value y9
  have h18 : Kept a y10 := by
    unfold y10
    apply State.wr_kept
    apply State.wr_kept
    apply State.wr_kept
    exact h17
  clear_value y10
  have h19 : Kept a y11 := by
    unfold y11
    split
    · apply State.wr_kept
      apply State.wr_kept
      apply State.wr_kept
      exact h18
    · exact h18
  clear_value y11
  have h20 : Kept a y12 := by
    unfold y12
    split
    · apply State.timingPending_kept
      apply State.wr_kept
      exact h19
    · exact h19
  clear_value y12
  have h21 : Kept a y13 := by
    unfold y13
    split
    · apply State.report_kept
      exact h20
    · exact h20
  clear_value y13
  have h22 : Kept a y14 := by
    unfold y14
    split
    · apply State.flag_kept
      exact h21
    · exact h21
  clear_value y14
  clear_value y15
  have h23 : Kept a y16 := by
    unfold y16
    split
    · apply State.wr_kept
      exact h22
    · split
      · apply State.report_kept
        exact h22
      · split
        · apply State.timingRefusal_kept
          exact h22
        · apply State.modProt_kept
          apply State.wr_kept
          exact h22
  clear_value y16
  split
  · apply State.budgetRefusal_kept
    exact h17
  · apply State.settlePair_kept
    · exact h23
    · exact hs
theorem State.clearFaults_kept {a s n} (hs : Kept a s) : Kept a (State.clearFaults s n) := by
  unfold State.clearFaults
  extract_lets y0 y1 y2
  clear_value y0
  clear_value y1
  clear_value y2
  apply State.wr_kept
  apply State.wr_kept
  apply foldl_kept
  · intro x3 x4 h5
    apply State.softClear_kept
    exact h5
  · exact hs
theorem State.channelReset_kept {a s n} (hs : Kept a s) : Kept a (State.channelReset s n) := by
  unfold State.channelReset
  extract_lets y0 y1 y2 y3 y4 y5 y6
  have h7 : Kept a y0 := by
    unfold y0
    exact hs
  clear_value y0
  have h8 : Kept a y1 := by
    unfold y1
    apply State.unfreeze_kept
    apply State.gatesOff_kept
    apply State.clear_kept
    apply State.clearFaults_kept
    exact hs
  clear_value y1
  have h9 : Kept a y2 := by
    unfold y2
    apply State.modGen_kept
    exact h8
  clear_value y2
  have h10 : Kept a y3 := by
    unfold y3
    apply State.modProt_kept
    exact h9
  clear_value y3
  have h11 : Kept a y4 := by
    unfold y4
    split
    · apply State.put_kept
      exact h10
    · exact h10
  clear_value y4
  have h12 : Kept a y5 := by
    unfold y5
    apply State.settlePair_kept
    · apply State.setAppl_kept
      exact h11
    · exact h7
  clear_value y5
  have h13 : Kept a y6 := by
    unfold y6
    apply State.restartProof_kept
    exact h12
  clear_value y6
  apply State.report_kept
  apply State.bump_kept
  exact h13
theorem State.writeCmd_kept {a s n v} (hs : Kept a s) : Kept a (State.writeCmd s n v) := by
  unfold State.writeCmd
  extract_lets y0
  have h1 : Kept a y0 := by
    unfold y0
    split
    · exact hs
    · split
      · apply State.flag_kept
        exact hs
      · apply State.startAdj_kept
        exact hs
  clear_value y0
  split
  · exact h1
  · apply State.channelReset_kept
    exact h1
theorem State.writeFlt_kept {a s n v} (hs : Kept a s) : Kept a (State.writeFlt s n v) := by
  unfold State.writeFlt
  extract_lets y0
  have h1 : Kept a y0 := by
    unfold y0
    apply foldl_kept
    · intro x2 x3 h4
      apply State.softClear_kept
      exact h4
    · exact hs
  clear_value y0
  split
  · apply State.raiseFlag_kept
    exact h1
  · exact h1
theorem State.writeGdrv_kept {a s n v} (hs : Kept a s) : Kept a (State.writeGdrv s n v) := by
  unfold State.writeGdrv
  extract_lets y0
  have h1 : Kept a y0 := by
    unfold y0
    apply State.wr_kept
    apply State.wr_kept
    exact hs
  clear_value y0
  split
  · exact h1
  · apply State.budgeted_kept
    · exact h1
    · apply State.wr_kept
      exact h1
theorem State.writeSense_kept {a s n v} (hs : Kept a s) : Kept a (State.writeSense s n v) := by
  unfold State.writeSense
  extract_lets y0 y1
  clear_value y0
  clear_value y1
  split
  · apply State.modProt_kept
    apply State.wr_kept
    exact hs
  · split
    · exact hs
    · apply State.put_kept
      apply State.modProt_kept
      apply State.wr_kept
      exact hs
theorem State.expireLease_kept {a s n} (hs : Kept a s) : Kept a (State.expireLease s n) := by
  unfold State.expireLease
  extract_lets y0 y1 y2
  clear_value y0
  have h3 : Kept a y1 := by
    unfold y1
    apply State.modProt_kept
    apply State.wr_kept
    exact hs
  clear_value y1
  have h4 : Kept a y2 := by
    unfold y2
    apply State.report_kept
    apply State.raiseFlag_kept
    exact h3
  clear_value y2
  apply State.setLatch_kept
  exact h4
theorem State.writeLease_kept {a s n v} (hs : Kept a s) : Kept a (State.writeLease s n v) := by
  unfold State.writeLease
  extract_lets y0 y1 y2 y3 y4 y5
  clear_value y0
  clear_value y1
  have h6 : Kept a y2 := by
    unfold y2
    apply State.wr_kept
    exact hs
  clear_value y2
  have h7 : Kept a y3 := by
    unfold y3
    split
    · exact h6
    · apply State.flag_kept
      exact h6
  clear_value y3
  clear_value y4
  have h8 : Kept a y5 := by
    unfold y5
    apply State.wr_kept
    exact h7
  clear_value y5
  split
  · split
    · apply State.wr_kept
      exact h7
    · apply State.flag_kept
      exact h7
  · split
    · apply State.expireLease_kept
      exact h8
    · exact h8
theorem State.keyFault_kept {a s n} (hs : Kept a s) : Kept a (State.keyFault s n) := by
  unfold State.keyFault
  apply State.report_kept
  apply State.raiseFlag_kept
  exact hs
theorem State.writeKick_kept {a s r n key} (hs : Kept a s) : Kept a (State.writeKick s r n key) := by
  unfold State.writeKick
  split
  · exact hs
  · split
    · split
      · split
        · exact hs
        · apply State.modProt_kept
          apply State.wr_kept
          exact hs
      · apply State.keyFault_kept
        exact hs
    · split
      · split
        · exact hs
        · apply State.modProt_kept
          apply State.wr_kept
          exact hs
      · apply State.keyFault_kept
        exact hs
theorem State.writeOwner_kept {a s r n v} (hs : Kept a s) : Kept a (State.writeOwner s r n v) := by
  unfold State.writeOwner
  extract_lets y0 y1 y2 y3 y4
  clear_value y0
  clear_value y1
  have h5 : Kept a y2 := by
    unfold y2
    apply State.softWrite_kept
    apply State.softWrite_kept
    apply State.softWrite_kept
    exact hs
  clear_value y2
  clear_value y3
  have h6 : Kept a y4 := by
    unfold y4
    apply State.modProt_kept
    apply State.wr_kept
    exact h5
  clear_value y4
  split
  · apply State.updLease_kept
    apply State.unfreeze_kept
    exact h6
  · apply State.keyFault_kept
    exact hs
theorem State.writePer_kept {a s n v} (hs : Kept a s) : Kept a (State.writePer s n v) := by
  unfold State.writePer
  extract_lets y0 y1
  clear_value y0
  have h2 : Kept a y1 := by
    unfold y1
    apply State.wr_kept
    exact hs
  clear_value y1
  split
  · split
    · apply State.timingPending_kept
      exact h2
    · apply State.budgetRefusal_kept
      exact hs
  · apply State.timingRefusal_kept
    exact hs
theorem State.writeDim_kept {a s n v} (hs : Kept a s) : Kept a (State.writeDim s n v) := by
  unfold State.writeDim
  extract_lets y0 y1 y2 y3 y4
  clear_value y0
  clear_value y1
  have h5 : Kept a y2 := by
    unfold y2
    apply State.wr_kept
    exact hs
  clear_value y2
  have h6 : Kept a y3 := by
    unfold y3
    split
    · apply State.flag_kept
      exact h5
    · exact h5
  clear_value y3
  have h7 : Kept a y4 := by
    unfold y4
    apply State.wr_kept
    exact h6
  clear_value y4
  split
  · apply State.timingRefusal_kept
    exact h6
  · split
    · exact h6
    · split
      · apply State.timingPending_kept
        exact h7
      · apply State.budgetRefusal_kept
        exact h6
theorem State.writePhase_kept {a s n v} (hs : Kept a s) : Kept a (State.writePhase s n v) := by
  unfold State.writePhase
  split
  · apply State.timingPending_kept
    apply State.wr_kept
    exact hs
  · apply State.timingRefusal_kept
    exact hs
theorem State.writeEdge_kept {a s n f v} (hs : Kept a s) : Kept a (State.writeEdge s n f v) := by
  unfold State.writeEdge
  extract_lets y0
  have h1 : Kept a y0 := by
    unfold y0
    apply State.wr_kept
    exact hs
  clear_value y0
  split
  · exact h1
  · apply State.timingRefusal_kept
    exact hs
theorem State.writeAln_kept {a s n v} (hs : Kept a s) : Kept a (State.writeAln s n v) := by
  unfold State.writeAln
  split
  · apply State.timingRefusal_kept
    exact hs
  · apply State.updWatch_kept
    apply State.wr_kept
    exact hs
theorem State.writeCode_kept {a s n v} (hs : Kept a s) : Kept a (State.writeCode s n v) := by
  unfold State.writeCode
  extract_lets y0 y1 y2 y3 y4 y5
  clear_value y0
  clear_value y1
  clear_value y2
  have h6 : Kept a y3 := by
    unfold y3
    apply State.wr_kept
    apply State.wr_kept
    apply State.wr_kept
    exact hs
  clear_value y3
  have h7 : Kept a y4 := by
    unfold y4
    split
    · apply State.modGen_kept
      exact h6
    · exact h6
  clear_value y4
  have h8 : Kept a y5 := by
    unfold y5
    split
    · apply State.flag_kept
      exact h7
    · exact h7
  clear_value y5
  split
  · exact h8
  · apply State.budgetRefusal_kept
    exact hs
theorem State.writeCidx_kept {a s n v} (hs : Kept a s) : Kept a (State.writeCidx s n v) := by
  unfold State.writeCidx
  split
  · apply State.flag_kept
    exact hs
  · apply State.modGen_kept
    apply State.wr_kept
    exact hs
theorem State.writeEcmd_kept {a s n v} (hs : Kept a s) : Kept a (State.writeEcmd s n v) := by
  unfold State.writeEcmd
  extract_lets y0
  have h1 : Kept a y0 := by
    unfold y0
    split
    · apply State.clear_kept
      exact hs
    · exact hs
  clear_value y0
  split
  · apply State.modGen_kept
    exact h1
  · exact h1
theorem execVdrvFail_kept {a d s} (hs : Kept a s) : OutKept a (execVdrvFail d s) := by
  unfold execVdrvFail
  extract_lets y0 y1
  have h2 : Kept a y0 := by
    unfold y0
    apply State.modDie_kept
    apply State.putBit_kept
    exact hs
  clear_value y0
  have h3 : Kept a y1 := by
    unfold y1
    apply State.stopDie_kept
    apply State.each_kept
    · intro x4 x5 h6
      apply State.gatesOff_kept
      exact h6
    · exact h2
  clear_value y1
  apply OutKept.next
  split
  · apply State.report_kept
    exact h3
  · exact h3
theorem execVdrvGood_kept {a d s} (hs : Kept a s) : OutKept a (execVdrvGood d s) := by
  unfold execVdrvGood
  apply OutKept.next
  apply State.putBit_kept
  exact hs
theorem execVdrvRecover_kept {a d s} (hs : Kept a s) : OutKept a (execVdrvRecover d s) := by
  unfold execVdrvRecover
  apply OutKept.next
  split
  · apply State.modDie_kept
    exact hs
  · exact hs
theorem execBootstrapUnderVoltage_kept {a n s} (hs : Kept a s) : OutKept a (execBootstrapUnderVoltage n s) := by
  unfold execBootstrapUnderVoltage
  extract_lets y0 y1
  have h2 : Kept a y0 := by
    unfold y0
    apply State.modGen_kept
    apply State.modProt_kept
    exact hs
  clear_value y0
  have h3 : Kept a y1 := by
    unfold y1
    apply State.bump_kept
    apply State.put_kept
    apply State.raiseFlag_kept
    exact h2
  clear_value y1
  apply OutKept.next
  apply State.report_kept
  exact h3
theorem execBootstrapRecover_kept {a n s} (hs : Kept a s) : OutKept a (execBootstrapRecover n s) := by
  unfold execBootstrapRecover
  apply OutKept.next
  apply State.put_kept
  apply State.modProt_kept
  exact hs
theorem execRangeHoldEnd_kept {a n s} (hs : Kept a s) : OutKept a (execRangeHoldEnd n s) := by
  unfold execRangeHoldEnd
  extract_lets y0
  have h1 : Kept a y0 := by
    unfold y0
    apply State.put_kept
    exact hs
  clear_value y0
  apply OutKept.next
  split
  · split
    · apply State.reclamp_kept
      exact h1
    · apply State.installDeferred_kept
      apply State.reclamp_kept
      exact h1
  · exact hs
theorem execCycleByCycleLimit_kept {a n mv2 s} (hs : Kept a s) : OutKept a (execCycleByCycleLimit n mv2 s) := by
  unfold execCycleByCycleLimit
  apply OutKept.next
  split
  · apply State.modGen_kept
    apply State.bump_kept
    exact hs
  · exact hs
theorem execOverCurrent_kept {a n s} (hs : Kept a s) : OutKept a (execOverCurrent n s) := by
  unfold execOverCurrent
  extract_lets y0 y1
  clear_value y0
  clear_value y1
  apply OutKept.next
  split
  · apply State.trip_kept
    exact hs
  · exact hs
theorem execDesaturation_kept {a n vds since s} (hs : Kept a s) : OutKept a (execDesaturation n vds since s) := by
  unfold execDesaturation
  extract_lets y0
  clear_value y0
  apply OutKept.next
  split
  · apply State.shortTrip_kept
    exact hs
  · exact hs
theorem execRampShort_kept {a n mv2 rate s} (hs : Kept a s) : OutKept a (execRampShort n mv2 rate s) := by
  unfold execRampShort
  extract_lets y0 y1
  clear_value y0
  clear_value y1
  apply OutKept.next
  split
  · apply State.shortTrip_kept
    exact hs
  · exact hs
theorem execAdjacencyTestEnd_kept {a n an a0 a1 dn d0 d1 s} (hs : Kept a s) : OutKept a (execAdjacencyTestEnd n an a0 a1 dn d0 d1 s) := by
  unfold execAdjacencyTestEnd
  extract_lets y0 y1 y2 y3 y4 y5 y6
  clear_value y0
  clear_value y1
  have h7 : Kept a y2 := by
    unfold y2
    apply State.put_kept
    exact hs
  clear_value y2
  have h8 : Kept a y3 := by
    unfold y3
    apply State.put_kept
    apply State.wr_kept
    exact h7
  clear_value y3
  clear_value y4
  have h9 : Kept a y5 := by
    unfold y5
    apply State.each_kept
    · intro x10 x11 h12
      apply State.raiseFlag_kept
      exact h12
    · apply State.raiseFlag_kept
      exact h8
  clear_value y5
  have h13 : Kept a y6 := by
    unfold y6
    apply State.report_kept
    exact h9
  clear_value y6
  split
  · apply OutKept.next
    exact hs
  · split
    · apply OutKept.next
      exact h8
    · apply OutKept.next
      apply State.setLatches_kept
      exact h13
theorem execLeaseExpiry_kept {a n s} (hs : Kept a s) : OutKept a (execLeaseExpiry n s) := by
  unfold execLeaseExpiry
  extract_lets y0
  apply OutKept.next
  split
  · apply State.expireLease_kept
    exact hs
  · exact hs
theorem execFlashPhaseChange_kept {a s} (hs : Kept a s) : OutKept a (execFlashPhaseChange s) := by
  unfold execFlashPhaseChange
  apply OutKept.next
  split
  · exact hs
  · apply State.each_kept
    · intro x0 x1 h2
      extract_lets y3 y4 y5
      clear_value y3
      have h6 : Kept a y4 := by
        unfold y4
        apply State.modGen_kept
        apply State.wr_kept
        exact h2
      clear_value y4
      have h7 : Kept a y5 := by
        unfold y5
        split
        · apply State.restGates_kept
          exact h2
        · split
          · exact h6
          · apply State.openInrush_kept
            exact h6
      clear_value y5
      split
      · apply State.disrupt_kept
        apply State.updExp_kept
        exact h7
      · exact h2
    · exact hs
theorem execLbusFail_kept {a d s} (hs : Kept a s) : OutKept a (execLbusFail d s) := by
  unfold execLbusFail
  extract_lets y0 y1
  have h2 : Kept a y0 := by
    unfold y0
    apply State.modDie_kept
    apply State.putBit_kept
    exact hs
  clear_value y0
  have h3 : Kept a y1 := by
    unfold y1
    apply State.stopDie_kept
    apply State.each_kept
    · intro x4 x5 h6
      apply State.gatesOff_kept
      exact h6
    · exact h2
  clear_value y1
  apply OutKept.next
  apply State.report_kept
  exact h3
theorem execLbusRecover_kept {a d s} (hs : Kept a s) : OutKept a (execLbusRecover d s) := by
  unfold execLbusRecover
  apply OutKept.next
  apply State.modDie_kept
  apply State.putBit_kept
  exact hs
theorem execRcWatchdogExpiry_kept {a d s} (hs : Kept a s) : OutKept a (execRcWatchdogExpiry d s) := by
  unfold execRcWatchdogExpiry
  extract_lets y0
  have h1 : Kept a y0 := by
    unfold y0
    apply State.report_kept
    exact hs
  clear_value y0
  apply OutKept.next
  apply State.setLatches_kept
  exact h1
theorem execDieLinkFailure_kept {a d s} (hs : Kept a s) : OutKept a (execDieLinkFailure d s) := by
  unfold execDieLinkFailure
  extract_lets y0
  have h1 : Kept a y0 := by
    unfold y0
    apply State.report_kept
    apply State.modDie_kept
    exact hs
  clear_value y0
  apply OutKept.next
  apply State.setLatches_kept
  exact h1
theorem execDieLinkRealigned_kept {a d s} (hs : Kept a s) : OutKept a (execDieLinkRealigned d s) := by
  unfold execDieLinkRealigned
  apply OutKept.next
  apply State.modDie_kept
  exact hs

/-! ### Bus -/

theorem State.refuse_kept {a s r v2} (hs : Kept a s) : Kept a (State.refuse s r v2) := by
  unfold State.refuse
  split
  · apply State.report_kept
    exact hs
  · extract_lets y0 y1
    have h2 : Kept a y0 := by
      unfold y0
      apply State.report_kept
      exact hs
    clear_value y0
    have h3 : Kept a y1 := by
      unfold y1
      split
      · apply State.hwWrite_kept
        exact h2
      · exact h2
    clear_value y1
    split
    · apply State.dmaIrq_kept
      apply State.wr_kept
      apply State.wr_kept
      exact h3
    · exact h2
  · apply State.report_kept
    apply State.wr_kept
    apply State.raiseFlag_kept
    exact hs
  · apply State.report_kept
    exact hs
theorem State.refuseOwn_kept {a s reg} (hs : Kept a s) : Kept a (State.refuseOwn s reg) := by
  unfold State.refuseOwn
  split
  · apply State.report_kept
    exact hs
  · apply State.report_kept
    exact hs
  · apply State.report_kept
    exact hs
  · apply State.report_kept
    exact hs
  · apply State.fcRefused_kept
    exact hs
  · apply State.fcRefused_kept
    exact hs
  · apply State.fcRefused_kept
    exact hs
  · apply State.fcRefused_kept
    exact hs
  · apply State.fcRefused_kept
    exact hs
  · split
    · apply State.keyFault_kept
      exact hs
    · exact hs
  · apply State.keyFault_kept
    exact hs
  · apply State.postRefusal_kept
    exact hs
  · apply State.postRefusal_kept
    exact hs
  · apply State.postRefused_kept
    exact hs
  · apply State.postRefused_kept
    exact hs
  · apply State.commitRefused_kept
    exact hs
  · apply State.resetRefused_kept
    exact hs
  · apply State.resetRefused_kept
    exact hs
  · exact hs
theorem State.ownRefusal_kept {a s v1} (hs : Kept a s) : Kept a (State.ownRefusal s v1) := by
  unfold State.ownRefusal
  split
  · apply State.refuseOwn_kept
    exact hs
  · exact hs
theorem State.refuseCommand_kept {a s r v2} (hs : Kept a s) : Kept a (State.refuseCommand s r v2) := by
  unfold State.refuseCommand
  extract_lets y0
  have h1 : Kept a y0 := by
    unfold y0
    apply State.refuse_kept
    exact hs
  clear_value y0
  split
  · split
    · apply State.fault_kept
      exact h1
    · exact h1
  · exact h1
theorem State.forCore_kept {a s v1 q f} (hs : Kept a s) (hb : ∀ z0, Kept a z0 → Kept a (f z0)) : Kept a (State.forCore s v1 q f) := by
  unfold State.forCore
  split
  · apply State.flag_kept
    exact hs
  · apply hb
    exact hs
theorem State.writeDevReg_kept {a s r reg v3 v} (hs : Kept a s) : Kept a (State.writeDevReg s r reg v3 v) := by
  unfold State.writeDevReg
  extract_lets y0 y1
  clear_value y0
  clear_value y1
  split
  · apply State.writeTrpCtl_kept
    exact hs
  · apply State.writeTrpSlot_kept
    exact hs
  · apply State.postFinding_kept
    exact hs
  · apply State.writeDcmd_kept
    exact hs
  · apply State.writeDma_kept
    exact hs
  · apply State.writeDma_kept
    exact hs
  · apply State.writeDma_kept
    exact hs
  · apply State.writeDma_kept
    exact hs
  · apply State.writeDma_kept
    exact hs
  · split
    · apply State.dmaRefused_kept
      exact hs
    · apply State.storeBounded_kept
      exact hs
  · split
    · apply State.dmaRefused_kept
      exact hs
    · apply State.storeBounded_kept
      exact hs
  · split
    · apply State.dmaRefused_kept
      exact hs
    · apply State.storeBounded_kept
      exact hs
  · apply State.writeRidx_kept
    exact hs
  · apply State.forCore_kept
    · exact hs
    · intro x2 h3
      apply State.storeFields_kept
      exact h3
  · apply State.forCore_kept
    · exact hs
    · intro x4 h5
      apply State.storeFields_kept
      exact h5
  · apply State.forCore_kept
    · exact hs
    · intro x6 h7
      split
      · apply State.raise_kept
        exact h7
      · exact h7
  · split
    · apply State.takeoverDone_kept
      exact hs
    · exact hs
  · apply State.commitCk_kept
    exact hs
  · apply State.postTwin_kept
    exact hs
  · apply State.postTwin_kept
    exact hs
  · apply State.writeOutreq_kept
    exact hs
  · apply State.writeFnrst_kept
    exact hs
  · apply State.writeSiflt_kept
    exact hs
  · apply State.updOutputs_kept
    apply State.storeBounded_kept
    exact hs
  · apply State.updOutputs_kept
    apply State.storeBounded_kept
    exact hs
  · apply State.writeSealCmd_kept
    exact hs
  · apply State.writeFclr_kept
    exact hs
  · apply State.writeAck_kept
    exact hs
  · apply State.writeErrn_kept
    exact hs
  · apply State.writeSok_kept
    exact hs
  · apply State.writeRetry_kept
    exact hs
  · apply State.writeLridx_kept
    exact hs
  · apply State.writeMirCtl_kept
    exact hs
  · apply State.writeKsfCtl_kept
    exact hs
  · apply State.writeCan_kept
    exact hs
  · apply State.writeTxcmd_kept
    exact hs
  · apply State.writeKsfOpen_kept
    exact hs
  · apply State.writeKsfClose_kept
    exact hs
  · apply State.writeTssend_kept
    exact hs
  · apply State.writePwrCtl_kept
    exact hs
  · apply State.writeClk_kept
    exact hs
  · apply State.writeCcmd_kept
    exact hs
  · apply State.renewLater_kept
    apply State.storeBounded_kept
    exact hs
  · apply State.renewLater_kept
    apply State.storeBounded_kept
    exact hs
  · apply State.writeSubcmd_kept
    exact hs
  · apply State.writeRst_kept
    exact hs
  · apply State.writePcyc_kept
    exact hs
  · apply State.writeBootcmd_kept
    exact hs
  · apply State.writeFlcmd_kept
    exact hs
  · apply State.writeKlctl_kept
    exact hs
  · apply State.writeHdb_kept
    exact hs
  · apply State.writeDdb_kept
    exact hs
  · apply State.writeDbgCmd_kept
    exact hs
  · apply State.dbgWrite_kept
    exact hs
  · apply State.writeOtpcmd_kept
    exact hs
  · apply State.storeBounded_kept
    exact hs
theorem State.writeReg_kept {a s r reg v3 v} (hs : Kept a s) : Kept a (State.writeReg s r reg v3 v) := by
  unfold State.writeReg
  extract_lets y0 y1
  clear_value y0
  clear_value y1
  split
  · apply State.writeCfg_kept
    exact hs
  · apply State.writeCmd_kept
    exact hs
  · apply State.writeFlt_kept
    exact hs
  · apply State.writeGdrv_kept
    exact hs
  · apply State.writeSense_kept
    exact hs
  · apply State.writeLease_kept
    exact hs
  · apply State.writeKick_kept
    exact hs
  · apply State.writeOwner_kept
    exact hs
  · apply State.writePer_kept
    exact hs
  · apply State.writeDim_kept
    exact hs
  · apply State.writeEdge_kept
    exact hs
  · apply State.writeEdge_kept
    exact hs
  · apply State.writeEdge_kept
    exact hs
  · apply State.writeEdge_kept
    exact hs
  · apply State.writePhase_kept
    exact hs
  · apply State.writeAln_kept
    exact hs
  · apply State.writeCode_kept
    exact hs
  · apply State.writeCidx_kept
    exact hs
  · apply State.writeEcmd_kept
    exact hs
  · apply State.writeSync_kept
    exact hs
  · apply State.writeSync_kept
    exact hs
  · apply State.writeSync_kept
    exact hs
  · apply State.writeSduty_kept
    exact hs
  · apply State.writeSref_kept
    exact hs
  · apply State.writeSctl_kept
    exact hs
  · apply State.writeScmd_kept
    exact hs
  · apply State.writeAgrp_kept
    exact hs
  · apply State.writeCarb_kept
    exact hs
  · apply State.writeSlot_kept
    exact hs
  · apply State.writeCarCtl_kept
    exact hs
  · apply State.writeCarCfg_kept
    exact hs
  · apply State.writeCarMem_kept
    exact hs
  · apply State.writeAsp_kept
    · exact hs
    · apply State.storeBounded_kept
      exact hs
  · apply State.reclamp_kept
    apply State.storeBounded_kept
    exact hs
  · apply State.reclamp_kept
    apply State.storeBounded_kept
    exact hs
  · apply State.writeAgreq_kept
    exact hs
  · apply State.writeAapply_kept
    exact hs
  · apply State.writeSyncreq_kept
    exact hs
  · apply State.writeTscmd_kept
    exact hs
  · apply State.postEver_kept
    exact hs
  · apply State.postOver_kept
    exact hs
  · apply State.writeLclr_kept
    exact hs
  · apply State.unassess_kept
    apply State.storeBounded_kept
    exact hs
  · apply State.updExp_kept
    apply State.storeBounded_kept
    exact hs
  · apply State.updOpt_kept
    apply State.storeBounded_kept
    exact hs
  · apply State.updExp_kept
    apply State.budgeted_kept
    · exact hs
    · apply State.storeBounded_kept
      exact hs
  · apply State.writeCbidx_kept
    exact hs
  · apply State.writeIncfg_kept
    exact hs
  · apply State.writeXwin_kept
    exact hs
  · apply State.writeDevReg_kept
    exact hs
theorem State.acceptWrite_kept {a s r reg v3 v} (hs : Kept a s) : Kept a (State.acceptWrite s r reg v3 v) := by
  unfold State.acceptWrite
  extract_lets y0
  have h1 : Kept a y0.1 := by
    unfold y0
    apply State.lockFields_kept
    exact hs
  clear_value y0
  apply State.writeReg_kept
  exact h1
theorem State.writeWhole_kept {a s r reg v3 ws} (hs : Kept a s) : Kept a (State.writeWhole s r reg v3 ws) := by
  unfold State.writeWhole
  extract_lets y0 y1
  clear_value y0
  have h2 : Kept a y1 := by
    unfold y1
    split
    · apply State.flag_kept
      exact hs
    · exact hs
  clear_value y1
  apply State.acceptWrite_kept
  apply State.unstage_kept
  exact h2
theorem State.writeWord_kept {a s r reg v3 w} (hs : Kept a s) : Kept a (State.writeWord s r reg v3 w) := by
  unfold State.writeWord
  split
  · apply State.setStaged_kept
    exact hs
  · apply State.writeWhole_kept
    exact hs
theorem State.busWrite_kept {a s r v2 w} (hs : Kept a s) : Kept a (State.busWrite s r v2 w).1 := by
  unfold State.busWrite
  split
  · dsimp only
    exact hs
  · split
    · dsimp only
      apply State.refuse_kept
      exact hs
    · split
      · dsimp only
        apply State.writeWord_kept
        exact hs
      · dsimp only
        apply State.refuseOwn_kept
        apply State.refuse_kept
        exact hs
theorem State.command_kept {a s r reg v} (hs : Kept a s) : Kept a (State.command s r reg v) := by
  unfold State.command
  extract_lets y0
  clear_value y0
  split
  · exact hs
  · split
    · apply State.writeWhole_kept
      exact hs
    · apply State.refuseOwn_kept
      apply State.refuseCommand_kept
      exact hs
theorem State.commandField_kept {a s r reg f x} (hs : Kept a s) : Kept a (State.commandField s r reg f x) := by
  unfold State.commandField
  apply State.command_kept
  exact hs
theorem State.busRead_kept {a s r v2} (hs : Kept a s) : Kept a (State.busRead s r v2).1 := by
  unfold State.busRead
  split
  · dsimp only
    exact hs
  · split
    · dsimp only
      apply State.fresh_kept
      exact hs
    · split
      · dsimp only
        apply State.refuse_kept
        exact hs
      · extract_lets y0
        have h1 : Kept a y0.1 := by
          unfold y0
          apply State.readWord_kept
          exact hs
        clear_value y0
        split
        · dsimp only
          exact h1
        · dsimp only
          apply State.refuse_kept
          exact hs

/-! ### Ports -/

theorem State.memWord_kept {a s key} (hs : Kept a s) : Kept a (State.memWord s key).1 := by
  unfold State.memWord
  split
  · dsimp only
    apply State.fresh_kept
    exact hs
  · dsimp only
    exact hs
theorem State.portPoke_kept {a s v1 key w} (hs : Kept a s) : Kept a (State.portPoke s v1 key w) := by
  unfold State.portPoke
  split
  · apply State.pokeLocal_kept
    exact hs
  · apply State.poke_kept
    exact hs
theorem State.portError_kept {a s r v2} (hs : Kept a s) : Kept a (State.portError s r v2) := by
  unfold State.portError
  split
  · apply State.wr_kept
    apply State.raiseFlag_kept
    exact hs
  · exact hs
theorem State.portRead_kept {a s r v2} (hs : Kept a s) : Kept a (State.portRead s r v2).1 := by
  unfold State.portRead
  split
  · apply State.busRead_kept
    exact hs
  · split
    · dsimp only
      apply State.refuse_kept
      exact hs
    · split
      · dsimp only
        apply State.fresh_kept
        exact hs
      · split
        · dsimp only
          apply State.refuse_kept
          exact hs
        · extract_lets y0
          have h1 : Kept a y0.1 := by
            unfold y0
            apply State.memWord_kept
            exact hs
          clear_value y0
          split
          · dsimp only
            apply State.portError_kept
            apply State.eccEvent_kept
            exact hs
          · dsimp only
            exact h1
theorem State.portWrite_kept {a s r v2 w} (hs : Kept a s) : Kept a (State.portWrite s r v2 w).1 := by
  unfold State.portWrite
  split
  · apply State.busWrite_kept
    exact hs
  · split
    · split
      · dsimp only
        exact hs
      · dsimp only
        apply State.refuse_kept
        exact hs
    · split
      · dsimp only
        apply State.refuse_kept
        exact hs
      · split
        · dsimp only
          apply State.refuse_kept
          exact hs
        · split
          · dsimp only
            exact hs
          · dsimp only
            apply State.portPoke_kept
            exact hs
theorem State.hostRead_kept {a s x n} (h : Kept a s) : Kept a (State.hostRead s x n).1 := by
  induction n with
  | zero => exact h
  | succ n ih =>
    unfold State.hostRead
    extract_lets p y
    split
    · exact ih
    · exact State.portRead_kept ih
theorem State.hostWrite_kept {a s x l} (h : Kept a s) : Kept a (State.hostWrite s x l) := by
  induction l generalizing s x with
  | nil => exact h
  | cons w r ih =>
    unfold State.hostWrite
    split
    · exact h
    · exact ih (State.portWrite_kept h)
theorem State.sendHost_kept {a s l} (hs : Kept a s) : Kept a (State.sendHost s l) := by
  unfold State.sendHost
  extract_lets y0
  clear_value y0
  exact hs
theorem State.debugAccess_kept {a s op v2 d} (hs : Kept a s) : Kept a (State.debugAccess s op v2 d) := by
  unfold State.debugAccess
  extract_lets y0 y1
  have h2 : Kept a y0.1 := by
    unfold y0
    apply State.portRead_kept
    exact hs
  clear_value y0
  have h3 : Kept a y1.1 := by
    unfold y1
    apply State.portWrite_kept
    exact hs
  clear_value y1
  split
  · apply State.tap_kept
    exact h2
  · apply State.tap_kept
    exact h3
  · apply State.tap_kept
    exact hs
theorem execRead_kept {a v0 n arrived busy s} (hs : Kept a s) : OutKept a (execRead v0 n arrived busy s) := by
  unfold execRead
  extract_lets y0 y1
  have h2 : Kept a y0.1 := by
    unfold y0
    apply State.hostRead_kept
    exact hs
  clear_value y0
  clear_value y1
  apply OutKept.next
  split
  · exact hs
  · split
    · apply State.raiseFlag_kept
      exact hs
    · apply State.sendHost_kept
      split
      · exact h2
      · apply State.raiseFlag_kept
        exact h2
theorem execWrite_kept {a v0 words incomplete busy s} (hs : Kept a s) : OutKept a (execWrite v0 words incomplete busy s) := by
  unfold execWrite
  extract_lets y0
  have h1 : Kept a y0 := by
    unfold y0
    apply State.hostWrite_kept
    exact hs
  clear_value y0
  apply OutKept.next
  split
  · exact hs
  · split
    · apply State.raiseFlag_kept
      exact hs
    · split
      · apply State.raiseFlag_kept
        exact h1
      · exact h1
theorem execStatus_kept {a s} (hs : Kept a s) : OutKept a (execStatus s) := by
  unfold execStatus
  apply OutKept.next
  split
  · exact hs
  · apply State.sendHost_kept
    exact hs
theorem execHostUnknownCommand_kept {a c s} (hs : Kept a s) : OutKept a (execHostUnknownCommand c s) := by
  unfold execHostUnknownCommand
  apply OutKept.next
  split
  · exact hs
  · apply State.raiseFlag_kept
    exact hs
theorem execDbgacc_kept {a op v1 d s} (hs : Kept a s) : OutKept a (execDbgacc op v1 d s) := by
  unfold execDbgacc
  apply OutKept.next
  split
  · exact hs
  · apply State.debugAccess_kept
    exact hs

/-! ### Operands -/

theorem State.readFault_kept {a s q as elt} (hs : Kept a s) : OptKept a (State.readFault s q as elt) := by
  unfold State.readFault
  split
  · apply OptKept.some
    apply ResKept.fault
    apply State.refuse_kept
    exact hs
  · split
    · apply OptKept.some
      apply ResKept.hold
      apply State.modCore_kept
      exact hs
    · split
      · apply OptKept.none
      · extract_lets y0
        clear_value y0
        apply OptKept.some
        split
        · apply ResKept.stop
          apply State.localEcc_kept
          exact hs
        · apply ResKept.fault
          apply State.eccEvent_kept
          exact hs
theorem State.writeFault_kept {a s q as elt} (h : Kept a s) : OptKept a (State.writeFault s q as elt) := by
  unfold State.writeFault
  intro r hr
  rw [Option.map_eq_some_iff] at hr
  obtain ⟨x, _, rfl⟩ := hr
  exact ResKept.fault (State.ownRefusal_kept (State.refuse_kept h))
theorem State.load_kept {a s q v2} (hs : Kept a s) : Kept a (State.load s q v2).1 := by
  unfold State.load
  extract_lets y0
  have h1 : Kept a y0.1 := by
    unfold y0
    apply State.busRead_kept
    exact hs
  clear_value y0
  split
  · dsimp only
    exact h1
  · split
    · dsimp only
      apply State.fresh_kept
      exact hs
    · apply State.memWord_kept
      exact hs
theorem State.loads_kept {a s q l} (h : Kept a s) : Kept a (State.loads s q l).1 := by
  induction l generalizing s with
  | nil => exact h
  | cons x r ih => exact ih (State.load_kept h)
theorem State.store_kept {a s q v2 v} (hs : Kept a s) : Kept a (State.store s q v2 v) := by
  unfold State.store
  extract_lets y0
  have h1 : Kept a y0 := by
    unfold y0
    apply State.poke_kept
    exact hs
  clear_value y0
  split
  · apply State.busWrite_kept
    exact hs
  · apply State.busWrite_kept
    exact hs
  · split
    · apply State.modCore_kept
      apply State.modPair_kept
      exact h1
    · exact h1
  · apply State.pokeLocal_kept
    exact hs
  · split
    · exact hs
    · apply State.poke_kept
      exact hs
theorem State.stores_kept {a s q l} (hs : Kept a s) : Kept a (State.stores s q l) := by
  unfold State.stores
  apply foldl_kept
  · intro x0 x1 h2
    apply State.store_kept
    exact h2
  · exact hs
theorem State.loadOr_kept {a s q as f} (h : Kept a s) (hf : ∀ z v, Kept a z → Kept a (f z v)) : ResKept a (State.loadOr s q as f) := by
  unfold State.loadOr
  split
  · exact State.readFault_kept h _ ‹_›
  · exact ResKept.done (hf _ _ (State.loads_kept h))
theorem State.storeOr_kept {a s q l f} (h : Kept a s) (hf : ∀ z, Kept a z → Kept a (f z)) : ResKept a (State.storeOr s q l f) := by
  unfold State.storeOr
  split
  · exact State.writeFault_kept h _ ‹_›
  · exact ResKept.done (hf _ (State.stores_kept h))

/-! ### Code -/

theorem State.coded_kept {a s q code f free} (hs : Kept a s) (hb : ∀ z0, Kept a z0 → Kept a (f z0)) : Kept a (State.coded s q code f free) := by
  unfold State.coded
  split
  · apply hb
    exact hs
  · exact hs
theorem State.codedExt_kept {a s q code imm f} (hs : Kept a s) (hb : ∀ z0, Kept a z0 → Kept a (f z0)) : Kept a (State.codedExt s q code imm f) := by
  unfold State.codedExt
  split
  · apply hb
    exact hs
  · exact hs

/-! ### Access -/

theorem State.address_kept {a s q f} (hs : Kept a s) : Kept a (State.address s q f) := by
  unfold State.address
  apply State.issue_kept
  · exact hs
  · intro x0 h1
    apply ResKept.done
    apply State.modCore_kept
    exact h1
theorem State.loadWord_kept {a s q k r v4 f} (hs : Kept a s) : Kept a (State.loadWord s q k r v4 f) := by
  unfold State.loadWord
  apply State.issue_kept
  · exact hs
  · intro x0 h1
    apply State.loadOr_kept
    · exact h1
    · intro x2 x3 h4
      apply State.modCore_kept
      exact h4
theorem State.storeWord_kept {a s q k r v4 f} (hs : Kept a s) : Kept a (State.storeWord s q k r v4 f) := by
  unfold State.storeWord
  apply State.issue_kept
  · exact hs
  · intro x0 h1
    apply State.storeOr_kept
    · exact h1
    · intro x2 h3
      apply State.modCore_kept
      exact h3
theorem execLd_kept {a q rd xs off s} (hs : Kept a s) : OutKept a (execLd q rd xs off s) := by
  unfold execLd
  apply OutKept.next
  apply State.coded_kept
  · exact hs
  · intro x0 h1
    apply State.loadWord_kept
    exact h1
theorem execSt_kept {a q rs xs off s} (hs : Kept a s) : OutKept a (execSt q rs xs off s) := by
  unfold execSt
  apply OutKept.next
  apply State.coded_kept
  · exact hs
  · intro x0 h1
    apply State.storeWord_kept
    exact h1
theorem execLdp_kept {a q rd xs off s} (hs : Kept a s) : OutKept a (execLdp q rd xs off s) := by
  unfold execLdp
  apply OutKept.next
  apply State.coded_kept
  · exact hs
  · intro x0 h1
    apply State.loadWord_kept
    exact h1
theorem execStp_kept {a q rs xs off s} (hs : Kept a s) : OutKept a (execStp q rs xs off s) := by
  unfold execStp
  apply OutKept.next
  apply State.coded_kept
  · exact hs
  · intro x0 h1
    apply State.storeWord_kept
    exact h1
theorem execLdx_kept {a q xd xs off s} (hs : Kept a s) : OutKept a (execLdx q xd xs off s) := by
  unfold execLdx
  apply OutKept.next
  apply State.coded_kept
  · exact hs
  · intro x0 h1
    apply State.issue_kept
    · exact h1
    · intro x2 h3
      extract_lets y4
      clear_value y4
      apply State.loadOr_kept
      · exact h3
      · intro x5 x6 h7
        apply State.modCore_kept
        exact h7
theorem execStx_kept {a q xd xs off s} (h : Kept a s) : OutKept a (execStx q xd xs off s) := by
  unfold execStx
  exact OutKept.next (State.coded_kept h fun y hy => State.issue_kept hy fun z hz => State.storeOr_kept hz fun _ hk => hk)
theorem execXaddi_kept {a q xd xs imm s} (hs : Kept a s) : OutKept a (execXaddi q xd xs imm s) := by
  unfold execXaddi
  apply OutKept.next
  apply State.coded_kept
  · exact hs
  · intro x0 h1
    apply State.address_kept
    exact h1
theorem execXadd_kept {a q xd xs r s} (hs : Kept a s) : OutKept a (execXadd q xd xs r s) := by
  unfold execXadd
  apply OutKept.next
  apply State.coded_kept
  · exact hs
  · intro x0 h1
    apply State.address_kept
    exact h1
theorem execXaddu_kept {a q xd xs r s} (hs : Kept a s) : OutKept a (execXaddu q xd xs r s) := by
  unfold execXaddu
  apply OutKept.next
  apply State.coded_kept
  · exact hs
  · intro x0 h1
    apply State.address_kept
    exact h1
theorem execXgetl_kept {a q r xs s} (hs : Kept a s) : OutKept a (execXgetl q r xs s) := by
  unfold execXgetl
  apply OutKept.next
  apply State.coded_kept
  · exact hs
  · intro x0 h1
    apply State.address_kept
    exact h1
theorem execXgeth_kept {a q r xs s} (hs : Kept a s) : OutKept a (execXgeth q r xs s) := by
  unfold execXgeth
  apply OutKept.next
  apply State.coded_kept
  · exact hs
  · intro x0 h1
    apply State.address_kept
    exact h1
theorem execXsetl_kept {a q xd r s} (hs : Kept a s) : OutKept a (execXsetl q xd r s) := by
  unfold execXsetl
  apply OutKept.next
  apply State.coded_kept
  · exact hs
  · intro x0 h1
    apply State.address_kept
    exact h1
theorem execXseth_kept {a q xd r s} (hs : Kept a s) : OutKept a (execXseth q xd r s) := by
  unfold execXseth
  apply OutKept.next
  apply State.coded_kept
  · exact hs
  · intro x0 h1
    apply State.address_kept
    exact h1
theorem execXcmp_kept {a q xd xs s} (hs : Kept a s) : OutKept a (execXcmp q xd xs s) := by
  unfold execXcmp
  apply OutKept.next
  apply State.coded_kept
  · exact hs
  · intro x0 h1
    apply State.address_kept
    exact h1
theorem execXmov_kept {a q xd xs s} (hs : Kept a s) : OutKept a (execXmov q xd xs s) := by
  unfold execXmov
  apply OutKept.next
  apply State.coded_kept
  · exact hs
  · intro x0 h1
    apply State.address_kept
    exact h1
theorem execLxi_kept {a q xd imm s} (hs : Kept a s) : OutKept a (execLxi q xd imm s) := by
  unfold execLxi
  apply OutKept.next
  apply State.codedExt_kept
  · exact hs
  · intro x0 h1
    apply State.issue_kept
    · exact h1
    · intro x2 h3
      apply ResKept.done
      apply State.modCore_kept
      exact h3
theorem execLda_kept {a q rd imm s} (hs : Kept a s) : OutKept a (execLda q rd imm s) := by
  unfold execLda
  apply OutKept.next
  apply State.codedExt_kept
  · exact hs
  · intro x0 h1
    apply State.loadWord_kept
    exact h1
theorem execSta_kept {a q rs imm s} (hs : Kept a s) : OutKept a (execSta q rs imm s) := by
  unfold execSta
  apply OutKept.next
  apply State.codedExt_kept
  · exact hs
  · intro x0 h1
    apply State.storeWord_kept
    exact h1

/-! ### Control -/

theorem State.transfer_kept {a s q k target taken call} (hs : Kept a s) : Kept a (State.transfer s q k target taken call) := by
  unfold State.transfer
  apply State.issue_kept
  · exact hs
  · intro x0 h1
    extract_lets y2
    clear_value y2
    apply ResKept.transfer
    split
    · apply State.modCore_kept
      exact h1
    · exact h1
theorem State.loopSetUp_kept {a s q count disp} (hs : Kept a s) : Kept a (State.loopSetUp s q count disp) := by
  unfold State.loopSetUp
  apply State.issue_kept
  · exact hs
  · intro x0 h1
    extract_lets y2 y3 y4 y5
    clear_value y2
    clear_value y3
    clear_value y4
    clear_value y5
    split
    · apply ResKept.fault
      exact h1
    · split
      · apply ResKept.fault
        exact h1
      · apply ResKept.jump
        apply State.modCore_kept
        exact h1
theorem execBr_kept {a q cond disp s} (hs : Kept a s) : OutKept a (execBr q cond disp s) := by
  unfold execBr
  apply OutKept.next
  apply State.coded_kept
  · exact hs
  · intro x0 h1
    apply State.transfer_kept
    exact h1
theorem execCall_kept {a q disp s} (hs : Kept a s) : OutKept a (execCall q disp s) := by
  unfold execCall
  apply OutKept.next
  apply State.coded_kept
  · exact hs
  · intro x0 h1
    apply State.transfer_kept
    exact h1
theorem execJmpx_kept {a q xs s} (hs : Kept a s) : OutKept a (execJmpx q xs s) := by
  unfold execJmpx
  apply OutKept.next
  apply State.coded_kept
  · exact hs
  · intro x0 h1
    apply State.transfer_kept
    exact h1
theorem execCallx_kept {a q xs s} (hs : Kept a s) : OutKept a (execCallx q xs s) := by
  unfold execCallx
  apply OutKept.next
  apply State.coded_kept
  · exact hs
  · intro x0 h1
    apply State.transfer_kept
    exact h1
theorem execRet_kept {a q s} (hs : Kept a s) : OutKept a (execRet q s) := by
  unfold execRet
  apply OutKept.next
  apply State.coded_kept
  · exact hs
  · intro x0 h1
    apply State.transfer_kept
    exact h1
theorem execJmpa_kept {a q imm s} (hs : Kept a s) : OutKept a (execJmpa q imm s) := by
  unfold execJmpa
  apply OutKept.next
  apply State.codedExt_kept
  · exact hs
  · intro x0 h1
    apply State.transfer_kept
    exact h1
theorem execCalla_kept {a q imm s} (hs : Kept a s) : OutKept a (execCalla q imm s) := by
  unfold execCalla
  apply OutKept.next
  apply State.codedExt_kept
  · exact hs
  · intro x0 h1
    apply State.transfer_kept
    exact h1
theorem execLoop_kept {a q rs disp s} (hs : Kept a s) : OutKept a (execLoop q rs disp s) := by
  unfold execLoop
  apply OutKept.next
  apply State.coded_kept
  · exact hs
  · intro x0 h1
    apply State.loopSetUp_kept
    exact h1
theorem execLoopi_kept {a q count disp s} (hs : Kept a s) : OutKept a (execLoopi q count disp s) := by
  unfold execLoopi
  apply OutKept.next
  apply State.coded_kept
  · exact hs
  · intro x0 h1
    apply State.loopSetUp_kept
    exact h1
theorem execLclr_kept {a q s} (hs : Kept a s) : OutKept a (execLclr q s) := by
  unfold execLclr
  apply OutKept.next
  apply State.coded_kept
  · exact hs
  · intro x0 h1
    apply State.issue_kept
    · exact h1
    · intro x2 h3
      apply ResKept.done
      apply State.modCore_kept
      exact h3
theorem execFrame_kept {a q s} (hs : Kept a s) : OutKept a (execFrame q s) := by
  unfold execFrame
  apply OutKept.next
  apply State.coded_kept
  · exact hs
  · intro x0 h1
    apply State.issue_kept
    · exact h1
    · intro x2 h3
      extract_lets y4
      clear_value y4
      split
      · apply ResKept.fault
        exact h3
      · apply ResKept.done
        apply State.modCore_kept
        exact h3
theorem execUnframe_kept {a q s} (hs : Kept a s) : OutKept a (execUnframe q s) := by
  unfold execUnframe
  apply OutKept.next
  apply State.coded_kept
  · exact hs
  · intro x0 h1
    apply State.issue_kept
    · exact h1
    · intro x2 h3
      extract_lets y4
      clear_value y4
      split
      · apply ResKept.fault
        exact h3
      · apply ResKept.done
        apply State.modCore_kept
        exact h3
theorem execRete_kept {a q s} (hs : Kept a s) : OutKept a (execRete q s) := by
  unfold execRete
  apply OutKept.next
  apply State.coded_kept
  · exact hs
  · intro x0 h1
    apply State.issue_kept
    · exact h1
    · intro x2 h3
      extract_lets y4 y5
      clear_value y4
      clear_value y5
      split
      · apply ResKept.stop
        apply State.engineFatal_kept
        exact h3
      · apply ResKept.jump
        apply State.modCore_kept
        exact h3

/-! ### Events -/

theorem State.retainedError_kept {a s m} (hs : Kept a s) : Kept a (State.retainedError s m) := by
  unfold State.retainedError
  split
  · split
    · apply State.nextGen_kept
      exact hs
    · exact hs
  · split
    · apply State.nextGen_kept
      exact hs
    · exact hs
theorem execCrystalLost_kept {a count s} (hs : Kept a s) : OutKept a (execCrystalLost count s) := by
  unfold execCrystalLost
  extract_lets y0
  have h1 : Kept a y0 := by
    unfold y0
    apply State.reportS4_kept
    exact hs
  clear_value y0
  apply OutKept.next
  split
  · exact hs
  · apply State.stopCluster_kept
    exact h1
theorem execAlwaysOnClockLost_kept {a count s} (hs : Kept a s) : OutKept a (execAlwaysOnClockLost count s) := by
  unfold execAlwaysOnClockLost
  extract_lets y0
  have h1 : Kept a y0 := by
    unfold y0
    apply State.reportS4_kept
    exact hs
  clear_value y0
  apply OutKept.next
  split
  · exact hs
  · exact h1
theorem execFifoStall_kept {a s} (hs : Kept a s) : OutKept a (execFifoStall s) := by
  unfold execFifoStall
  apply OutKept.next
  apply State.report_kept
  exact hs
theorem execFabricWaitExceeded_kept {a q s} (hs : Kept a s) : OutKept a (execFabricWaitExceeded q s) := by
  unfold execFabricWaitExceeded
  apply OutKept.next
  split
  · apply State.report_kept
    exact hs
  · exact hs
theorem execFabricResponse_kept {a q differ s} (hs : Kept a s) : OutKept a (execFabricResponse q differ s) := by
  unfold execFabricResponse
  apply OutKept.next
  split
  · apply State.bump_kept
    exact hs
  · exact hs
theorem execConverterSample_kept {a n i v s} (hs : Kept a s) : OutKept a (execConverterSample n i v s) := by
  unfold execConverterSample
  apply OutKept.next
  split
  · exact hs
  · apply State.frameConverted_kept
    apply State.convert_kept
    exact hs
theorem execSpotlightSample_kept {a i x test s} (hs : Kept a s) : OutKept a (execSpotlightSample i x test s) := by
  unfold execSpotlightSample
  apply OutKept.next
  split
  · apply State.frameSpot_kept
    apply State.opticSample_kept
    exact hs
  · exact hs
theorem execRingRecord_kept {a k c raw s} (hs : Kept a s) : OutKept a (execRingRecord k c raw s) := by
  unfold execRingRecord
  extract_lets y0
  clear_value y0
  apply OutKept.next
  split
  · exact hs
  · split
    · apply State.arrive_kept
      exact hs
    · split
      · apply State.receiverBlock_kept
        exact hs
      · exact hs
theorem execScrubPass_kept {a m v1 err s} (hs : Kept a s) : OutKept a (execScrubPass m v1 err s) := by
  unfold execScrubPass
  extract_lets y0 y1 y2
  clear_value y0
  have h3 : Kept a y1 := by
    unfold y1
    split
    · apply State.retainedError_kept
      apply State.spoil_kept
      exact hs
    · exact hs
  clear_value y1
  have h4 : Kept a y2 := by
    unfold y2
    apply State.errorEvent_kept
    exact h3
  clear_value y2
  apply OutKept.next
  split
  · exact hs
  · split
    · split
      · apply State.eccEvent_kept
        exact h3
      · exact h3
    · split
      · split
        · apply State.correctedFlash_kept
          exact h4
        · exact h4
      · exact h3

end Sys2Proof.Machine
end

