-- ==== Sys2Proof/Laws/KeptEvsum.lean ====
section
/-! SUPPORT. What the instructions of Evsum-12 keep (`Kept`): one lemma for each operation. -/
namespace Sys2Proof.Machine
open Sys2Proof.Safety

/-! ### Scalar -/

theorem State.scalar_kept {a s q rd f} (hs : Kept a s) : Kept a (State.scalar s q rd f) := by
  unfold State.scalar
  apply State.issue_kept
  · exact hs
  · intro x0 h1
    apply ResKept.done
    apply State.modCore_kept
    exact h1
theorem State.scalar2_kept {a s q rd rs1 rs2 f} (hs : Kept a s) : Kept a (State.scalar2 s q rd rs1 rs2 f) := by
  unfold State.scalar2
  apply State.scalar_kept
  exact hs
theorem State.scalar1_kept {a s q rd rs1 f} (hs : Kept a s) : Kept a (State.scalar1 s q rd rs1 f) := by
  unfold State.scalar1
  apply State.scalar_kept
  exact hs
theorem State.scalarImm_kept {a s q rd rs1 imm f} (hs : Kept a s) : Kept a (State.scalarImm s q rd rs1 imm f) := by
  unfold State.scalarImm
  apply State.scalar_kept
  exact hs
theorem State.divide_kept {a s q rd rs1 rs2 f} (hs : Kept a s) : Kept a (State.divide s q rd rs1 rs2 f) := by
  unfold State.divide
  apply State.issue_kept
  · exact hs
  · intro x0 h1
    extract_lets y2 y3 y4
    clear_value y2
    clear_value y3
    have h5 : Kept a y4 := by
      unfold y4
      apply State.modCore_kept
      exact h1
    clear_value y4
    split
    · apply ResKept.trap
      exact h5
    · apply ResKept.done
      exact h5
theorem execAdd_kept {a q rd rs1 rs2 s} (hs : Kept a s) : OutKept a (execAdd q rd rs1 rs2 s) := by
  unfold execAdd
  apply OutKept.next
  apply State.coded_kept
  · exact hs
  · intro x0 h1
    apply State.scalar2_kept
    exact h1
theorem execAdc_kept {a q rd rs1 rs2 s} (hs : Kept a s) : OutKept a (execAdc q rd rs1 rs2 s) := by
  unfold execAdc
  apply OutKept.next
  apply State.coded_kept
  · exact hs
  · intro x0 h1
    apply State.scalar_kept
    exact h1
theorem execSub_kept {a q rd rs1 rs2 s} (hs : Kept a s) : OutKept a (execSub q rd rs1 rs2 s) := by
  unfold execSub
  apply OutKept.next
  apply State.coded_kept
  · exact hs
  · intro x0 h1
    apply State.scalar2_kept
    exact h1
theorem execSbc_kept {a q rd rs1 rs2 s} (hs : Kept a s) : OutKept a (execSbc q rd rs1 rs2 s) := by
  unfold execSbc
  apply OutKept.next
  apply State.coded_kept
  · exact hs
  · intro x0 h1
    apply State.scalar_kept
    exact h1
theorem execAnd_kept {a q rd rs1 rs2 s} (hs : Kept a s) : OutKept a (execAnd q rd rs1 rs2 s) := by
  unfold execAnd
  apply OutKept.next
  apply State.coded_kept
  · exact hs
  · intro x0 h1
    apply State.scalar2_kept
    exact h1
theorem execOr_kept {a q rd rs1 rs2 s} (hs : Kept a s) : OutKept a (execOr q rd rs1 rs2 s) := by
  unfold execOr
  apply OutKept.next
  apply State.coded_kept
  · exact hs
  · intro x0 h1
    apply State.scalar2_kept
    exact h1
theorem execXor_kept {a q rd rs1 rs2 s} (hs : Kept a s) : OutKept a (execXor q rd rs1 rs2 s) := by
  unfold execXor
  apply OutKept.next
  apply State.coded_kept
  · exact hs
  · intro x0 h1
    apply State.scalar2_kept
    exact h1
theorem execAndn_kept {a q rd rs1 rs2 s} (hs : Kept a s) : OutKept a (execAndn q rd rs1 rs2 s) := by
  unfold execAndn
  apply OutKept.next
  apply State.coded_kept
  · exact hs
  · intro x0 h1
    apply State.scalar2_kept
    exact h1
theorem execAdds_kept {a q rd rs1 rs2 s} (hs : Kept a s) : OutKept a (execAdds q rd rs1 rs2 s) := by
  unfold execAdds
  apply OutKept.next
  apply State.coded_kept
  · exact hs
  · intro x0 h1
    apply State.scalar2_kept
    exact h1
theorem execSubs_kept {a q rd rs1 rs2 s} (hs : Kept a s) : OutKept a (execSubs q rd rs1 rs2 s) := by
  unfold execSubs
  apply OutKept.next
  apply State.coded_kept
  · exact hs
  · intro x0 h1
    apply State.scalar2_kept
    exact h1
theorem execNeg_kept {a q rd rs1 s} (hs : Kept a s) : OutKept a (execNeg q rd rs1 s) := by
  unfold execNeg
  apply OutKept.next
  apply State.coded_kept
  · exact hs
  · intro x0 h1
    apply State.scalar1_kept
    exact h1
theorem execNegs_kept {a q rd rs1 s} (hs : Kept a s) : OutKept a (execNegs q rd rs1 s) := by
  unfold execNegs
  apply OutKept.next
  apply State.coded_kept
  · exact hs
  · intro x0 h1
    apply State.scalar1_kept
    exact h1
theorem execAbs_kept {a q rd rs1 s} (hs : Kept a s) : OutKept a (execAbs q rd rs1 s) := by
  unfold execAbs
  apply OutKept.next
  apply State.coded_kept
  · exact hs
  · intro x0 h1
    apply State.scalar1_kept
    exact h1
theorem execAbss_kept {a q rd rs1 s} (hs : Kept a s) : OutKept a (execAbss q rd rs1 s) := by
  unfold execAbss
  apply OutKept.next
  apply State.coded_kept
  · exact hs
  · intro x0 h1
    apply State.scalar1_kept
    exact h1
theorem execMin_kept {a q rd rs1 rs2 s} (hs : Kept a s) : OutKept a (execMin q rd rs1 rs2 s) := by
  unfold execMin
  apply OutKept.next
  apply State.coded_kept
  · exact hs
  · intro x0 h1
    apply State.scalar2_kept
    exact h1
theorem execMax_kept {a q rd rs1 rs2 s} (hs : Kept a s) : OutKept a (execMax q rd rs1 rs2 s) := by
  unfold execMax
  apply OutKept.next
  apply State.coded_kept
  · exact hs
  · intro x0 h1
    apply State.scalar2_kept
    exact h1
theorem execSll_kept {a q rd rs1 rs2 s} (hs : Kept a s) : OutKept a (execSll q rd rs1 rs2 s) := by
  unfold execSll
  apply OutKept.next
  apply State.coded_kept
  · exact hs
  · intro x0 h1
    apply State.scalar2_kept
    exact h1
theorem execSrl_kept {a q rd rs1 rs2 s} (hs : Kept a s) : OutKept a (execSrl q rd rs1 rs2 s) := by
  unfold execSrl
  apply OutKept.next
  apply State.coded_kept
  · exact hs
  · intro x0 h1
    apply State.scalar2_kept
    exact h1
theorem execSra_kept {a q rd rs1 rs2 s} (hs : Kept a s) : OutKept a (execSra q rd rs1 rs2 s) := by
  unfold execSra
  apply OutKept.next
  apply State.coded_kept
  · exact hs
  · intro x0 h1
    apply State.scalar2_kept
    exact h1
theorem execRol_kept {a q rd rs1 rs2 s} (hs : Kept a s) : OutKept a (execRol q rd rs1 rs2 s) := by
  unfold execRol
  apply OutKept.next
  apply State.coded_kept
  · exact hs
  · intro x0 h1
    apply State.scalar2_kept
    exact h1
theorem execRor_kept {a q rd rs1 rs2 s} (hs : Kept a s) : OutKept a (execRor q rd rs1 rs2 s) := by
  unfold execRor
  apply OutKept.next
  apply State.coded_kept
  · exact hs
  · intro x0 h1
    apply State.scalar2_kept
    exact h1
theorem execClz_kept {a q rd rs1 s} (hs : Kept a s) : OutKept a (execClz q rd rs1 s) := by
  unfold execClz
  apply OutKept.next
  apply State.coded_kept
  · exact hs
  · intro x0 h1
    apply State.scalar1_kept
    exact h1
theorem execPopc_kept {a q rd rs1 s} (hs : Kept a s) : OutKept a (execPopc q rd rs1 s) := by
  unfold execPopc
  apply OutKept.next
  apply State.coded_kept
  · exact hs
  · intro x0 h1
    apply State.scalar1_kept
    exact h1
theorem execShiSll_kept {a q rd rs1 k s} (hs : Kept a s) : OutKept a (execShiSll q rd rs1 k s) := by
  unfold execShiSll
  apply OutKept.next
  apply State.coded_kept
  · exact hs
  · intro x0 h1
    apply State.scalar1_kept
    exact h1
theorem execShiSrl_kept {a q rd rs1 k s} (hs : Kept a s) : OutKept a (execShiSrl q rd rs1 k s) := by
  unfold execShiSrl
  apply OutKept.next
  apply State.coded_kept
  · exact hs
  · intro x0 h1
    apply State.scalar1_kept
    exact h1
theorem execShiSra_kept {a q rd rs1 k s} (hs : Kept a s) : OutKept a (execShiSra q rd rs1 k s) := by
  unfold execShiSra
  apply OutKept.next
  apply State.coded_kept
  · exact hs
  · intro x0 h1
    apply State.scalar1_kept
    exact h1
theorem execShiRol_kept {a q rd rs1 k s} (hs : Kept a s) : OutKept a (execShiRol q rd rs1 k s) := by
  unfold execShiRol
  apply OutKept.next
  apply State.coded_kept
  · exact hs
  · intro x0 h1
    apply State.scalar1_kept
    exact h1
theorem execShiRor_kept {a q rd rs1 k s} (hs : Kept a s) : OutKept a (execShiRor q rd rs1 k s) := by
  unfold execShiRor
  apply OutKept.next
  apply State.coded_kept
  · exact hs
  · intro x0 h1
    apply State.scalar1_kept
    exact h1
theorem execMul_kept {a q rd rs1 rs2 s} (hs : Kept a s) : OutKept a (execMul q rd rs1 rs2 s) := by
  unfold execMul
  apply OutKept.next
  apply State.coded_kept
  · exact hs
  · intro x0 h1
    apply State.scalar2_kept
    exact h1
theorem execMulh_kept {a q rd rs1 rs2 s} (hs : Kept a s) : OutKept a (execMulh q rd rs1 rs2 s) := by
  unfold execMulh
  apply OutKept.next
  apply State.coded_kept
  · exact hs
  · intro x0 h1
    apply State.scalar2_kept
    exact h1
theorem execMulhu_kept {a q rd rs1 rs2 s} (hs : Kept a s) : OutKept a (execMulhu q rd rs1 rs2 s) := by
  unfold execMulhu
  apply OutKept.next
  apply State.coded_kept
  · exact hs
  · intro x0 h1
    apply State.scalar2_kept
    exact h1
theorem execMulq_kept {a q rd rs1 rs2 s} (hs : Kept a s) : OutKept a (execMulq q rd rs1 rs2 s) := by
  unfold execMulq
  apply OutKept.next
  apply State.coded_kept
  · exact hs
  · intro x0 h1
    apply State.scalar2_kept
    exact h1
theorem execDiv_kept {a q rd rs1 rs2 s} (hs : Kept a s) : OutKept a (execDiv q rd rs1 rs2 s) := by
  unfold execDiv
  apply OutKept.next
  apply State.coded_kept
  · exact hs
  · intro x0 h1
    apply State.divide_kept
    exact h1
theorem execDivs_kept {a q rd rs1 rs2 s} (hs : Kept a s) : OutKept a (execDivs q rd rs1 rs2 s) := by
  unfold execDivs
  apply OutKept.next
  apply State.coded_kept
  · exact hs
  · intro x0 h1
    apply State.divide_kept
    exact h1
theorem execDivu_kept {a q rd rs1 rs2 s} (hs : Kept a s) : OutKept a (execDivu q rd rs1 rs2 s) := by
  unfold execDivu
  apply OutKept.next
  apply State.coded_kept
  · exact hs
  · intro x0 h1
    apply State.divide_kept
    exact h1
theorem execRem_kept {a q rd rs1 rs2 s} (hs : Kept a s) : OutKept a (execRem q rd rs1 rs2 s) := by
  unfold execRem
  apply OutKept.next
  apply State.coded_kept
  · exact hs
  · intro x0 h1
    apply State.divide_kept
    exact h1
theorem execRemu_kept {a q rd rs1 rs2 s} (hs : Kept a s) : OutKept a (execRemu q rd rs1 rs2 s) := by
  unfold execRemu
  apply OutKept.next
  apply State.coded_kept
  · exact hs
  · intro x0 h1
    apply State.divide_kept
    exact h1
theorem execAddi_kept {a q rd rs1 imm s} (hs : Kept a s) : OutKept a (execAddi q rd rs1 imm s) := by
  unfold execAddi
  apply OutKept.next
  apply State.coded_kept
  · exact hs
  · intro x0 h1
    apply State.scalarImm_kept
    exact h1
theorem execSubi_kept {a q rd rs1 imm s} (hs : Kept a s) : OutKept a (execSubi q rd rs1 imm s) := by
  unfold execSubi
  apply OutKept.next
  apply State.coded_kept
  · exact hs
  · intro x0 h1
    apply State.scalarImm_kept
    exact h1
theorem execAndi_kept {a q rd rs1 imm s} (hs : Kept a s) : OutKept a (execAndi q rd rs1 imm s) := by
  unfold execAndi
  apply OutKept.next
  apply State.coded_kept
  · exact hs
  · intro x0 h1
    apply State.scalarImm_kept
    exact h1
theorem execOri_kept {a q rd rs1 imm s} (hs : Kept a s) : OutKept a (execOri q rd rs1 imm s) := by
  unfold execOri
  apply OutKept.next
  apply State.coded_kept
  · exact hs
  · intro x0 h1
    apply State.scalarImm_kept
    exact h1
theorem execXori_kept {a q rd rs1 imm s} (hs : Kept a s) : OutKept a (execXori q rd rs1 imm s) := by
  unfold execXori
  apply OutKept.next
  apply State.coded_kept
  · exact hs
  · intro x0 h1
    apply State.scalarImm_kept
    exact h1
theorem execAddsi_kept {a q rd rs1 imm s} (hs : Kept a s) : OutKept a (execAddsi q rd rs1 imm s) := by
  unfold execAddsi
  apply OutKept.next
  apply State.coded_kept
  · exact hs
  · intro x0 h1
    apply State.scalarImm_kept
    exact h1
theorem execMovi_kept {a q rd imm s} (hs : Kept a s) : OutKept a (execMovi q rd imm s) := by
  unfold execMovi
  apply OutKept.next
  apply State.coded_kept
  · exact hs
  · intro x0 h1
    apply State.issue_kept
    · exact h1
    · intro x2 h3
      apply ResKept.done
      apply State.modCore_kept
      exact h3

/-! ### Vector -/

theorem State.lanes_kept {a s q vd f} (hs : Kept a s) : Kept a (State.lanes s q vd f) := by
  unfold State.lanes
  apply State.issue_kept
  · exact hs
  · intro x0 h1
    apply ResKept.done
    apply State.modCore_kept
    exact h1
theorem State.lanes2_kept {a s q vd vs1 vs2 f} (hs : Kept a s) : Kept a (State.lanes2 s q vd vs1 vs2 f) := by
  unfold State.lanes2
  apply State.lanes_kept
  exact hs
theorem State.lanes1_kept {a s q vd vs1 f} (hs : Kept a s) : Kept a (State.lanes1 s q vd vs1 f) := by
  unfold State.lanes1
  apply State.lanes_kept
  exact hs
theorem State.accumulate_kept {a s q v2 f} (hs : Kept a s) : Kept a (State.accumulate s q v2 f) := by
  unfold State.accumulate
  apply State.issue_kept
  · exact hs
  · intro x0 h1
    apply ResKept.done
    apply State.modCore_kept
    exact h1
theorem State.compareLanes_kept {a s q vs1 vs2 f} (hs : Kept a s) : Kept a (State.compareLanes s q vs1 vs2 f) := by
  unfold State.compareLanes
  apply State.issue_kept
  · exact hs
  · intro x0 h1
    apply ResKept.done
    apply State.modCore_kept
    exact h1
theorem State.moveLane_kept {a s q f} (hs : Kept a s) : Kept a (State.moveLane s q f) := by
  unfold State.moveLane
  apply State.issue_kept
  · exact hs
  · intro x0 h1
    apply ResKept.done
    apply State.modCore_kept
    exact h1
theorem State.vStep_kept {a q xs p off t} (hs : Kept a t) : Kept a (State.vStep q xs p off t) := by
  unfold State.vStep
  split
  · apply State.modCore_kept
    exact hs
  · exact hs
theorem execVld_kept {a q vd p xs off s} (hs : Kept a s) : OutKept a (execVld q vd p xs off s) := by
  unfold execVld
  apply OutKept.next
  apply State.coded_kept
  · exact hs
  · intro x0 h1
    apply State.issue_kept
    · exact h1
    · intro x2 h3
      extract_lets y4 y5
      clear_value y4
      clear_value y5
      apply State.loadOr_kept
      · exact h3
      · intro x6 x7 h8
        apply State.vStep_kept
        apply State.modCore_kept
        exact h8
theorem execVst_kept {a q vs p xs off s} (hs : Kept a s) : OutKept a (execVst q vs p xs off s) := by
  unfold execVst
  apply OutKept.next
  apply State.coded_kept
  · exact hs
  · intro x0 h1
    apply State.issue_kept
    · exact h1
    · intro x2 h3
      extract_lets y4 y5
      clear_value y4
      clear_value y5
      apply State.storeOr_kept
      · exact h3
      · intro x6 h7
        apply State.vStep_kept
        exact h7
theorem execVadd_kept {a q vd vs1 vs2 s} (hs : Kept a s) : OutKept a (execVadd q vd vs1 vs2 s) := by
  unfold execVadd
  apply OutKept.next
  apply State.coded_kept
  · exact hs
  · intro x0 h1
    apply State.lanes2_kept
    exact h1
theorem execVsub_kept {a q vd vs1 vs2 s} (hs : Kept a s) : OutKept a (execVsub q vd vs1 vs2 s) := by
  unfold execVsub
  apply OutKept.next
  apply State.coded_kept
  · exact hs
  · intro x0 h1
    apply State.lanes2_kept
    exact h1
theorem execVadds_kept {a q vd vs1 vs2 s} (hs : Kept a s) : OutKept a (execVadds q vd vs1 vs2 s) := by
  unfold execVadds
  apply OutKept.next
  apply State.coded_kept
  · exact hs
  · intro x0 h1
    apply State.lanes2_kept
    exact h1
theorem execVsubs_kept {a q vd vs1 vs2 s} (hs : Kept a s) : OutKept a (execVsubs q vd vs1 vs2 s) := by
  unfold execVsubs
  apply OutKept.next
  apply State.coded_kept
  · exact hs
  · intro x0 h1
    apply State.lanes2_kept
    exact h1
theorem execVand_kept {a q vd vs1 vs2 s} (hs : Kept a s) : OutKept a (execVand q vd vs1 vs2 s) := by
  unfold execVand
  apply OutKept.next
  apply State.coded_kept
  · exact hs
  · intro x0 h1
    apply State.lanes2_kept
    exact h1
theorem execVor_kept {a q vd vs1 vs2 s} (hs : Kept a s) : OutKept a (execVor q vd vs1 vs2 s) := by
  unfold execVor
  apply OutKept.next
  apply State.coded_kept
  · exact hs
  · intro x0 h1
    apply State.lanes2_kept
    exact h1
theorem execVxor_kept {a q vd vs1 vs2 s} (hs : Kept a s) : OutKept a (execVxor q vd vs1 vs2 s) := by
  unfold execVxor
  apply OutKept.next
  apply State.coded_kept
  · exact hs
  · intro x0 h1
    apply State.lanes2_kept
    exact h1
theorem execVmin_kept {a q vd vs1 vs2 s} (hs : Kept a s) : OutKept a (execVmin q vd vs1 vs2 s) := by
  unfold execVmin
  apply OutKept.next
  apply State.coded_kept
  · exact hs
  · intro x0 h1
    apply State.lanes2_kept
    exact h1
theorem execVmax_kept {a q vd vs1 vs2 s} (hs : Kept a s) : OutKept a (execVmax q vd vs1 vs2 s) := by
  unfold execVmax
  apply OutKept.next
  apply State.coded_kept
  · exact hs
  · intro x0 h1
    apply State.lanes2_kept
    exact h1
theorem execVabs_kept {a q vd vs1 s} (hs : Kept a s) : OutKept a (execVabs q vd vs1 s) := by
  unfold execVabs
  apply OutKept.next
  apply State.coded_kept
  · exact hs
  · intro x0 h1
    apply State.lanes1_kept
    exact h1
theorem execVabss_kept {a q vd vs1 s} (hs : Kept a s) : OutKept a (execVabss q vd vs1 s) := by
  unfold execVabss
  apply OutKept.next
  apply State.coded_kept
  · exact hs
  · intro x0 h1
    apply State.lanes1_kept
    exact h1
theorem execVneg_kept {a q vd vs1 s} (hs : Kept a s) : OutKept a (execVneg q vd vs1 s) := by
  unfold execVneg
  apply OutKept.next
  apply State.coded_kept
  · exact hs
  · intro x0 h1
    apply State.lanes1_kept
    exact h1
theorem execVnegs_kept {a q vd vs1 s} (hs : Kept a s) : OutKept a (execVnegs q vd vs1 s) := by
  unfold execVnegs
  apply OutKept.next
  apply State.coded_kept
  · exact hs
  · intro x0 h1
    apply State.lanes1_kept
    exact h1
theorem execVmul_kept {a q vd vs1 vs2 s} (hs : Kept a s) : OutKept a (execVmul q vd vs1 vs2 s) := by
  unfold execVmul
  apply OutKept.next
  apply State.coded_kept
  · exact hs
  · intro x0 h1
    apply State.lanes2_kept
    exact h1
theorem execVmulh_kept {a q vd vs1 vs2 s} (hs : Kept a s) : OutKept a (execVmulh q vd vs1 vs2 s) := by
  unfold execVmulh
  apply OutKept.next
  apply State.coded_kept
  · exact hs
  · intro x0 h1
    apply State.lanes2_kept
    exact h1
theorem execVmulq_kept {a q vd vs1 vs2 s} (hs : Kept a s) : OutKept a (execVmulq q vd vs1 vs2 s) := by
  unfold execVmulq
  apply OutKept.next
  apply State.coded_kept
  · exact hs
  · intro x0 h1
    apply State.lanes2_kept
    exact h1
theorem execVsll_kept {a q vd vs1 vs2 s} (hs : Kept a s) : OutKept a (execVsll q vd vs1 vs2 s) := by
  unfold execVsll
  apply OutKept.next
  apply State.coded_kept
  · exact hs
  · intro x0 h1
    apply State.lanes2_kept
    exact h1
theorem execVsrl_kept {a q vd vs1 vs2 s} (hs : Kept a s) : OutKept a (execVsrl q vd vs1 vs2 s) := by
  unfold execVsrl
  apply OutKept.next
  apply State.coded_kept
  · exact hs
  · intro x0 h1
    apply State.lanes2_kept
    exact h1
theorem execVsra_kept {a q vd vs1 vs2 s} (hs : Kept a s) : OutKept a (execVsra q vd vs1 vs2 s) := by
  unfold execVsra
  apply OutKept.next
  apply State.coded_kept
  · exact hs
  · intro x0 h1
    apply State.lanes2_kept
    exact h1
theorem execVmov_kept {a q vd vs1 s} (hs : Kept a s) : OutKept a (execVmov q vd vs1 s) := by
  unfold execVmov
  apply OutKept.next
  apply State.coded_kept
  · exact hs
  · intro x0 h1
    apply State.lanes1_kept
    exact h1
theorem execVsel_kept {a q vd vs1 vs2 s} (hs : Kept a s) : OutKept a (execVsel q vd vs1 vs2 s) := by
  unfold execVsel
  apply OutKept.next
  apply State.coded_kept
  · exact hs
  · intro x0 h1
    apply State.moveLane_kept
    exact h1
theorem execVceq_kept {a q vs1 vs2 s} (hs : Kept a s) : OutKept a (execVceq q vs1 vs2 s) := by
  unfold execVceq
  apply OutKept.next
  apply State.coded_kept
  · exact hs
  · intro x0 h1
    apply State.compareLanes_kept
    exact h1
theorem execVclt_kept {a q vs1 vs2 s} (hs : Kept a s) : OutKept a (execVclt q vs1 vs2 s) := by
  unfold execVclt
  apply OutKept.next
  apply State.coded_kept
  · exact hs
  · intro x0 h1
    apply State.compareLanes_kept
    exact h1
theorem execVcltu_kept {a q vs1 vs2 s} (hs : Kept a s) : OutKept a (execVcltu q vs1 vs2 s) := by
  unfold execVcltu
  apply OutKept.next
  apply State.coded_kept
  · exact hs
  · intro x0 h1
    apply State.compareLanes_kept
    exact h1
theorem execAclr_kept {a q v1 s} (hs : Kept a s) : OutKept a (execAclr q v1 s) := by
  unfold execAclr
  apply OutKept.next
  apply State.coded_kept
  · exact hs
  · intro x0 h1
    apply State.accumulate_kept
    exact h1
theorem execAmac_kept {a q v1 vs1 vs2 s} (hs : Kept a s) : OutKept a (execAmac q v1 vs1 vs2 s) := by
  unfold execAmac
  apply OutKept.next
  apply State.coded_kept
  · exact hs
  · intro x0 h1
    apply State.accumulate_kept
    exact h1
theorem execAmsu_kept {a q v1 vs1 vs2 s} (hs : Kept a s) : OutKept a (execAmsu q v1 vs1 vs2 s) := by
  unfold execAmsu
  apply OutKept.next
  apply State.coded_kept
  · exact hs
  · intro x0 h1
    apply State.accumulate_kept
    exact h1
theorem execAadd_kept {a q v1 vs1 s} (hs : Kept a s) : OutKept a (execAadd q v1 vs1 s) := by
  unfold execAadd
  apply OutKept.next
  apply State.coded_kept
  · exact hs
  · intro x0 h1
    apply State.accumulate_kept
    exact h1
theorem execArnd_kept {a q vd v2 sh s} (hs : Kept a s) : OutKept a (execArnd q vd v2 sh s) := by
  unfold execArnd
  apply OutKept.next
  apply State.coded_kept
  · exact hs
  · intro x0 h1
    apply State.lanes_kept
    exact h1
theorem execAspl_kept {a q vd v2 p s} (hs : Kept a s) : OutKept a (execAspl q vd v2 p s) := by
  unfold execAspl
  apply OutKept.next
  apply State.coded_kept
  · exact hs
  · intro x0 h1
    apply State.lanes_kept
    exact h1
theorem execAjoin_kept {a q v1 vs p s} (hs : Kept a s) : OutKept a (execAjoin q v1 vs p s) := by
  unfold execAjoin
  apply OutKept.next
  apply State.coded_kept
  · exact hs
  · intro x0 h1
    apply State.accumulate_kept
    exact h1
theorem execVbcst_kept {a q vd r s} (hs : Kept a s) : OutKept a (execVbcst q vd r s) := by
  unfold execVbcst
  apply OutKept.next
  apply State.coded_kept
  · exact hs
  · intro x0 h1
    apply State.lanes_kept
    exact h1
theorem execVext_kept {a q r vs lane s} (hs : Kept a s) : OutKept a (execVext q r vs lane s) := by
  unfold execVext
  apply OutKept.next
  apply State.coded_kept
  · exact hs
  · intro x0 h1
    apply State.moveLane_kept
    exact h1
theorem execVins_kept {a q vd r lane s} (hs : Kept a s) : OutKept a (execVins q vd r lane s) := by
  unfold execVins
  apply OutKept.next
  apply State.coded_kept
  · exact hs
  · intro x0 h1
    apply State.moveLane_kept
    exact h1
theorem execVsum_kept {a q r vs s} (hs : Kept a s) : OutKept a (execVsum q r vs s) := by
  unfold execVsum
  apply OutKept.next
  apply State.coded_kept
  · exact hs
  · intro x0 h1
    apply State.scalar_kept
    exact h1

/-! ### Routine -/

theorem State.runElements_kept {a s elem n} (h : Kept a s) (he : ∀ z, Kept a z → SumKept a (elem z)) :
    Kept a (State.runElements s elem n).1 ∧ OptKept a (State.runElements s elem n).2 := by
  induction n generalizing s with
  | zero => exact ⟨h, OptKept.none⟩
  | succ n ih =>
    unfold State.runElements
    have hs := he s h
    split
    · rename_i t e
      rw [e] at hs
      exact ih hs
    · rename_i r e
      rw [e] at hs
      exact ⟨h, OptKept.some hs⟩
theorem State.routine_kept {a s q rs run x7 start elem} (h : Kept a s) (he : ∀ z, Kept a z → SumKept a (elem z)) :
    Kept a (State.routine s q rs run x7 start elem) := by
  unfold State.routine
  refine State.issue_kept h fun z hz => ?_
  extract_lets c count
  split
  · exact ResKept.fault hz
  split
  · exact ResKept.done hz
  rename_i y left p _ _
  have hy : Kept a y := by
    unfold y
    split
    · exact hz
    · exact State.modCore_kept hz
  have hp := State.runElements_kept (n := if c.step then min 1 (min run left) else min run left) hy he
  change Kept a p.1 ∧ OptKept a p.2 at hp
  clear_value p
  split
  · rename_i hh
    have k : Kept a _ := hp.2 _ hh
    exact ResKept.fault (State.modCore_kept k)
  · rename_i hh
    have k : Kept a _ := hp.2 _ hh
    exact ResKept.hold (State.modCore_kept k)
  · exact hp.2 _ ‹_›
  · split
    · exact ResKept.done hp.1
    · exact ResKept.hold (State.modCore_kept hp.1)
theorem State.xcorElement_kept {a q x ref w s} (h : Kept a s) : SumKept a (State.xcorElement q x ref w s) := by
  unfold State.xcorElement
  extract_lets c i n rAddr as
  split
  · exact SumKept.inr (State.readFault_kept h _ ‹_›)
  · exact SumKept.inl (State.modCore_kept (State.loads_kept h))
theorem State.bmovElement_kept {a q s} (h : Kept a s) : SumKept a (State.bmovElement q s) := by
  unfold State.bmovElement
  extract_lets c i src dst x
  have hx : OptKept a x := by
    unfold x
    split
    · exact State.writeFault_kept h
    · exact State.readFault_kept h
  clear_value x
  split
  · exact SumKept.inr (hx _ rfl)
  · exact SumKept.inl (State.modCore_kept (State.store_kept (State.load_kept h)))
theorem State.kcrcElement_kept {a q x s} (h : Kept a s) : SumKept a (State.kcrcElement q x s) := by
  unfold State.kcrcElement
  extract_lets c
  split
  · exact SumKept.inr (State.readFault_kept h _ ‹_›)
  · exact SumKept.inl (State.modCore_kept (State.load_kept h))
theorem execIllegal_kept {a q s} (hs : Kept a s) : OutKept a (execIllegal q s) := by
  unfold execIllegal
  apply OutKept.next
  split
  · apply State.issue_kept
    · exact hs
    · intro x0 h1
      apply ResKept.fault
      exact h1
  · exact hs
theorem execXcor_kept {a q v1 rs clr ref w run s} (hs : Kept a s) : OutKept a (execXcor q v1 rs clr ref w run s) := by
  unfold execXcor
  apply OutKept.next
  apply State.coded_kept
  · exact hs
  · intro x0 h1
    apply State.routine_kept
    · exact h1
    · intro x2 h3
      apply State.xcorElement_kept
      exact h3
theorem execBmov_kept {a q rs run s} (hs : Kept a s) : OutKept a (execBmov q rs run s) := by
  unfold execBmov
  apply OutKept.next
  apply State.coded_kept
  · exact hs
  · intro x0 h1
    apply State.routine_kept
    · exact h1
    · intro x2 h3
      apply State.bmovElement_kept
      exact h3
theorem execKcrc_kept {a q v1 rs run s} (hs : Kept a s) : OutKept a (execKcrc q v1 rs run s) := by
  unfold execKcrc
  apply OutKept.next
  apply State.coded_kept
  · exact hs
  · intro x0 h1
    apply State.routine_kept
    · exact h1
    · intro x2 h3
      apply State.kcrcElement_kept
      exact h3

/-! ### System -/

theorem State.moveFrom_kept {a s q r n} (hs : Kept a s) : ResKept a (State.moveFrom s q r n) := by
  unfold State.moveFrom
  split
  · apply ResKept.fault
    exact hs
  · extract_lets y0
    have h1 : Kept a y0.1 := by
      unfold y0
      apply State.mfs_kept
      exact hs
    clear_value y0
    split
    · apply ResKept.fault
      exact hs
    · apply ResKept.done
      apply State.modCore_kept
      exact h1
theorem State.moveToPs_kept {a s q x} (h : Kept a s) : ResKept a (State.moveToPs s q x) := by
  unfold State.moveToPs
  exact ResKept.ite (ResKept.ite (ResKept.fault h) (ResKept.done h)) (ResKept.done h)
theorem State.moveTo_kept {a s q n x} (hs : Kept a s) : ResKept a (State.moveTo s q n x) := by
  unfold State.moveTo
  split
  · apply ResKept.fault
    exact hs
  · split
    · apply ResKept.fault
      exact hs
    · extract_lets y0
      clear_value y0
      split
      · apply ResKept.fault
        exact hs
      · split
        · apply State.moveToPs_kept
          exact hs
        · split
          · apply ResKept.done
            apply State.srStage_kept
            exact hs
          · apply ResKept.done
            apply State.modCore_kept
            apply State.srUnstage_kept
            exact hs
theorem State.fenceM_kept {a s q} (hs : Kept a s) : ResKept a (State.fenceM s q) := by
  unfold State.fenceM
  extract_lets y0
  clear_value y0
  split
  · apply ResKept.done
    exact hs
  · split
    · apply ResKept.trap
      exact hs
    · split
      · apply ResKept.done
        exact hs
      · split
        · apply ResKept.trap
          exact hs
        · apply ResKept.hold
          apply State.modCore_kept
          exact hs
theorem execMfs_kept {a q r sr s} (hs : Kept a s) : OutKept a (execMfs q r sr s) := by
  unfold execMfs
  apply OutKept.next
  apply State.coded_kept
  · exact hs
  · intro x0 h1
    apply State.issue_kept
    · exact h1
    · intro x2 h3
      apply State.moveFrom_kept
      exact h3
theorem execMts_kept {a q r sr s} (hs : Kept a s) : OutKept a (execMts q r sr s) := by
  unfold execMts
  apply OutKept.next
  apply State.coded_kept
  · exact hs
  · intro x0 h1
    apply State.issue_kept
    · exact h1
    · intro x2 h3
      apply State.moveTo_kept
      exact h3
theorem execSvc_kept {a q imm s} (hs : Kept a s) : OutKept a (execSvc q imm s) := by
  unfold execSvc
  apply OutKept.next
  apply State.coded_kept
  · exact hs
  · intro x0 h1
    apply State.issue_kept
    · exact h1
    · intro x2 h3
      apply ResKept.trap
      exact h3
theorem execBkpt_kept {a q imm s} (hs : Kept a s) : OutKept a (execBkpt q imm s) := by
  unfold execBkpt
  apply OutKept.next
  apply State.coded_kept
  · exact hs
  · intro x0 h1
    apply State.issue_kept
    · exact h1
    · intro x2 h3
      split
      · apply ResKept.stop
        apply State.debugHalt_kept
        apply State.retire_kept
        exact h3
      · apply ResKept.trap
        exact h3
theorem execWait_kept {a q s} (hs : Kept a s) : OutKept a (execWait q s) := by
  unfold execWait
  apply OutKept.next
  apply State.coded_kept
  · exact hs
  · intro x0 h1
    apply State.issue_kept
    · exact h1
    · intro x2 h3
      split
      · apply ResKept.done
        exact h3
      · apply ResKept.hold
        apply State.modCore_kept
        exact h3
theorem execModeTk_kept {a q s} (hs : Kept a s) : OutKept a (execModeTk q s) := by
  unfold execModeTk
  apply OutKept.next
  apply State.coded_kept
  · exact hs
  · intro x0 h1
    apply State.issue_kept
    · exact h1
    · intro x2 h3
      apply ResKept.done
      exact h3
theorem execModeSv_kept {a q s} (hs : Kept a s) : OutKept a (execModeSv q s) := by
  unfold execModeSv
  apply OutKept.next
  apply State.coded_kept
  · exact hs
  · intro x0 h1
    apply State.issue_kept
    · exact h1
    · intro x2 h3
      apply ResKept.done
      exact h3
theorem execFenceL_kept {a q s} (hs : Kept a s) : OutKept a (execFenceL q s) := by
  unfold execFenceL
  apply OutKept.next
  apply State.coded_kept
  · exact hs
  · intro x0 h1
    apply State.issue_kept
    · exact h1
    · intro x2 h3
      apply ResKept.done
      exact h3
theorem execFenceG_kept {a q s} (hs : Kept a s) : OutKept a (execFenceG q s) := by
  unfold execFenceG
  apply OutKept.next
  apply State.coded_kept
  · exact hs
  · intro x0 h1
    apply State.issue_kept
    · exact h1
    · intro x2 h3
      apply ResKept.done
      exact h3
theorem execFenceIo_kept {a q s} (hs : Kept a s) : OutKept a (execFenceIo q s) := by
  unfold execFenceIo
  apply OutKept.next
  apply State.coded_kept
  · exact hs
  · intro x0 h1
    apply State.issue_kept
    · exact h1
    · intro x2 h3
      apply ResKept.done
      exact h3
theorem execFenceM_kept {a q s} (hs : Kept a s) : OutKept a (execFenceM q s) := by
  unfold execFenceM
  apply OutKept.next
  apply State.coded_kept
  · exact hs
  · intro x0 h1
    apply State.issue_kept
    · exact h1
    · intro x2 h3
      apply State.fenceM_kept
      exact h3

end Sys2Proof.Machine
end

