-- ==== Sys2Proof/Laws/KeptStep.lean ====
section
/-! SUPPORT. What register writes, every command and every tick keep (`Kept`): one lemma for each operation. -/
namespace Sys2Proof.Machine
open Sys2Proof.Safety

/-! ### Writes -/

theorem execRegisterWrite_kept {a r v1 w s} (hs : Kept a s) : OutKept a (execRegisterWrite r v1 w s) := by
  unfold execRegisterWrite
  extract_lets y0
  have h1 : Kept a y0.1 := by
    unfold y0
    apply State.busWrite_kept
    exact hs
  clear_value y0
  apply OutKept.next
  split
  · exact h1
  · apply State.ownRefusal_kept
    apply State.refuseCommand_kept
    exact hs
theorem execMultiwordReadCapture_kept {a r v1 s} (hs : Kept a s) : OutKept a (execMultiwordReadCapture r v1 s) := by
  unfold execMultiwordReadCapture
  extract_lets y0
  have h1 : Kept a y0.1 := by
    unfold y0
    apply State.busRead_kept
    exact hs
  clear_value y0
  apply OutKept.next
  split
  · exact h1
  · apply State.refuseCommand_kept
    exact hs
theorem execChannelEnable_kept {a r n en s} (hs : Kept a s) : OutKept a (execChannelEnable r n en s) := by
  unfold execChannelEnable
  apply OutKept.next
  apply State.commandField_kept
  exact hs
theorem execTopoWrite_kept {a r n topo s} (hs : Kept a s) : OutKept a (execTopoWrite r n topo s) := by
  unfold execTopoWrite
  apply OutKept.next
  apply State.commandField_kept
  exact hs
theorem execRangeChange_kept {a r n range s} (hs : Kept a s) : OutKept a (execRangeChange r n range s) := by
  unfold execRangeChange
  apply OutKept.next
  apply State.commandField_kept
  exact hs
theorem execAdjrun_kept {a r n s} (hs : Kept a s) : OutKept a (execAdjrun r n s) := by
  unfold execAdjrun
  apply OutKept.next
  apply State.command_kept
  exact hs
theorem execFltClear_kept {a r n bits s} (hs : Kept a s) : OutKept a (execFltClear r n bits s) := by
  unfold execFltClear
  apply OutKept.next
  apply State.command_kept
  exact hs
theorem execKick_kept {a r n key s} (hs : Kept a s) : OutKept a (execKick r n key s) := by
  unfold execKick
  apply OutKept.next
  apply State.command_kept
  exact hs
theorem execOwnerWrite_kept {a r n w s} (hs : Kept a s) : OutKept a (execOwnerWrite r n w s) := by
  unfold execOwnerWrite
  apply OutKept.next
  apply State.command_kept
  exact hs
theorem execLholdWrite_kept {a r n v s} (hs : Kept a s) : OutKept a (execLholdWrite r n v s) := by
  unfold execLholdWrite
  apply OutKept.next
  apply State.commandField_kept
  exact hs
theorem execChannelReset_kept {a r n s} (hs : Kept a s) : OutKept a (execChannelReset r n s) := by
  unfold execChannelReset
  apply OutKept.next
  apply State.command_kept
  exact hs
theorem execPerWrite_kept {a r n v s} (hs : Kept a s) : OutKept a (execPerWrite r n v s) := by
  unfold execPerWrite
  apply OutKept.next
  apply State.command_kept
  exact hs
theorem execDimWrite_kept {a r n w s} (hs : Kept a s) : OutKept a (execDimWrite r n w s) := by
  unfold execDimWrite
  apply OutKept.next
  apply State.command_kept
  exact hs
theorem execPhaseWrite_kept {a r n v s} (hs : Kept a s) : OutKept a (execPhaseWrite r n v s) := by
  unfold execPhaseWrite
  apply OutKept.next
  apply State.command_kept
  exact hs
theorem execEdgeTimingWrite_kept {a r n which w s} (hs : Kept a s) : OutKept a (execEdgeTimingWrite r n which w s) := by
  unfold execEdgeTimingWrite
  apply OutKept.next
  apply State.command_kept
  exact hs
theorem execAlignWrite_kept {a r n align s} (hs : Kept a s) : OutKept a (execAlignWrite r n align s) := by
  unfold execAlignWrite
  apply OutKept.next
  apply State.commandField_kept
  exact hs
theorem execCodeWrite_kept {a r n w s} (hs : Kept a s) : OutKept a (execCodeWrite r n w s) := by
  unfold execCodeWrite
  apply OutKept.next
  apply State.command_kept
  exact hs
theorem execCidxWrite_kept {a r n w s} (hs : Kept a s) : OutKept a (execCidxWrite r n w s) := by
  unfold execCidxWrite
  apply OutKept.next
  apply State.command_kept
  exact hs
theorem execCclr_kept {a r n s} (hs : Kept a s) : OutKept a (execCclr r n s) := by
  unfold execCclr
  apply OutKept.next
  apply State.command_kept
  exact hs
theorem execRclr_kept {a r n s} (hs : Kept a s) : OutKept a (execRclr r n s) := by
  unfold execRclr
  apply OutKept.next
  apply State.command_kept
  exact hs
theorem execShadowWrite_kept {a r n which v s} (hs : Kept a s) : OutKept a (execShadowWrite r n which v s) := by
  unfold execShadowWrite
  apply OutKept.next
  split
  · apply State.command_kept
    exact hs
  · apply State.command_kept
    exact hs
  · apply State.command_kept
    exact hs
theorem execApply_kept {a r n s} (hs : Kept a s) : OutKept a (execApply r n s) := by
  unfold execApply
  apply OutKept.next
  apply State.command_kept
  exact hs
theorem execDiscard_kept {a r n s} (hs : Kept a s) : OutKept a (execDiscard r n s) := by
  unfold execDiscard
  apply OutKept.next
  apply State.command_kept
  exact hs
theorem execLocalSyncRequest_kept {a r s} (hs : Kept a s) : OutKept a (execLocalSyncRequest r s) := by
  unfold execLocalSyncRequest
  apply OutKept.next
  apply State.command_kept
  exact hs
theorem execChainSyncRequest_kept {a r s} (hs : Kept a s) : OutKept a (execChainSyncRequest r s) := by
  unfold execChainSyncRequest
  apply OutKept.next
  apply State.command_kept
  exact hs
theorem execTsyncArm_kept {a r s} (hs : Kept a s) : OutKept a (execTsyncArm r s) := by
  unfold execTsyncArm
  apply OutKept.next
  apply State.command_kept
  exact hs
theorem execAspectRequest_kept {a r g w s} (hs : Kept a s) : OutKept a (execAspectRequest r g w s) := by
  unfold execAspectRequest
  apply OutKept.next
  apply State.command_kept
  exact hs
theorem execGroupApply_kept {a r mask s} (hs : Kept a s) : OutKept a (execGroupApply r mask s) := by
  unfold execGroupApply
  apply OutKept.next
  apply State.command_kept
  exact hs
theorem execSequencerStart_kept {a r d q s} (hs : Kept a s) : OutKept a (execSequencerStart r d q s) := by
  unfold execSequencerStart
  apply OutKept.next
  apply State.command_kept
  exact hs
theorem execSequencerStop_kept {a r d q s} (hs : Kept a s) : OutKept a (execSequencerStop r d q s) := by
  unfold execSequencerStop
  apply OutKept.next
  apply State.command_kept
  exact hs
theorem execSyncst_kept {a r d q s} (hs : Kept a s) : OutKept a (execSyncst r d q s) := by
  unfold execSyncst
  apply OutKept.next
  apply State.command_kept
  exact hs
theorem execElectricalVerdictPost_kept {a r n w s} (hs : Kept a s) : OutKept a (execElectricalVerdictPost r n w s) := by
  unfold execElectricalVerdictPost
  apply OutKept.next
  apply State.command_kept
  exact hs
theorem execOpticalVerdictPost_kept {a r n w s} (hs : Kept a s) : OutKept a (execOpticalVerdictPost r n w s) := by
  unfold execOpticalVerdictPost
  apply OutKept.next
  apply State.command_kept
  exact hs
theorem execLatchReleaseRequest_kept {a r ch key s} (hs : Kept a s) : OutKept a (execLatchReleaseRequest r ch key s) := by
  unfold execLatchReleaseRequest
  apply OutKept.next
  apply State.command_kept
  exact hs
theorem execCodeBalanceQuery_kept {a r w s} (hs : Kept a s) : OutKept a (execCodeBalanceQuery r w s) := by
  unfold execCodeBalanceQuery
  apply OutKept.next
  apply State.command_kept
  exact hs
theorem execInputRangeWrite_kept {a r i w s} (hs : Kept a s) : OutKept a (execInputRangeWrite r i w s) := by
  unfold execInputRangeWrite
  apply OutKept.next
  apply State.command_kept
  exact hs
theorem execFindingPost_kept {a r v s} (hs : Kept a s) : OutKept a (execFindingPost r v s) := by
  unfold execFindingPost
  apply OutKept.next
  apply State.command_kept
  exact hs
theorem execSoftInterrupt_kept {a r q soft s} (hs : Kept a s) : OutKept a (execSoftInterrupt r q soft s) := by
  unfold execSoftInterrupt
  apply OutKept.next
  apply State.commandField_kept
  exact hs
theorem execInterruptClear_kept {a r q lines s} (hs : Kept a s) : OutKept a (execInterruptClear r q lines s) := by
  unfold execInterruptClear
  apply OutKept.next
  apply State.command_kept
  exact hs
theorem execDmaGo_kept {a r k c s} (hs : Kept a s) : OutKept a (execDmaGo r k c s) := by
  unfold execDmaGo
  apply OutKept.next
  apply State.command_kept
  exact hs
theorem execDmaStop_kept {a r k c moved s} (hs : Kept a s) : OutKept a (execDmaStop r k c moved s) := by
  unfold execDmaStop
  apply OutKept.next
  split
  · exact hs
  · split
    · apply State.writeDcmd_kept
      apply State.unstage_kept
      exact hs
    · apply State.refuseCommand_kept
      exact hs
theorem execRingReadIndex_kept {a r k c v s} (hs : Kept a s) : OutKept a (execRingReadIndex r k c v s) := by
  unfold execRingReadIndex
  apply OutKept.next
  apply State.command_kept
  exact hs
theorem execTwinPost_kept {a r t b v s} (hs : Kept a s) : OutKept a (execTwinPost r t b v s) := by
  unfold execTwinPost
  apply OutKept.next
  apply State.command_kept
  exact hs
theorem execCheckpointCommit_kept {a r e w s} (hs : Kept a s) : OutKept a (execCheckpointCommit r e w s) := by
  unfold execCheckpointCommit
  apply OutKept.next
  apply State.command_kept
  exact hs
theorem execTakeoverDone_kept {a r e s} (hs : Kept a s) : OutKept a (execTakeoverDone r e s) := by
  unfold execTakeoverDone
  apply OutKept.next
  apply State.command_kept
  exact hs
theorem execFunctionReset_kept {a r w s} (hs : Kept a s) : OutKept a (execFunctionReset r w s) := by
  unfold execFunctionReset
  apply OutKept.next
  apply State.command_kept
  exact hs
theorem execOutputRequest_kept {a r w s} (hs : Kept a s) : OutKept a (execOutputRequest r w s) := by
  unfold execOutputRequest
  apply OutKept.next
  apply State.command_kept
  exact hs
theorem execSealCheck_kept {a r s} (hs : Kept a s) : OutKept a (execSealCheck r s) := by
  unfold execSealCheck
  apply OutKept.next
  apply State.command_kept
  exact hs
theorem execAcknowledge_kept {a r c all seq s} (hs : Kept a s) : OutKept a (execAcknowledge r c all seq s) := by
  unfold execAcknowledge
  apply OutKept.next
  apply State.command_kept
  exact hs
theorem execFirstFaultClear_kept {a r s} (hs : Kept a s) : OutKept a (execFirstFaultClear r s) := by
  unfold execFirstFaultClear
  apply OutKept.next
  apply State.command_kept
  exact hs
theorem execErrnWrite_kept {a r low s} (hs : Kept a s) : OutKept a (execErrnWrite r low s) := by
  unfold execErrnWrite
  apply OutKept.next
  apply State.commandField_kept
  exact hs
theorem execSafeOkKick_kept {a r s} (hs : Kept a s) : OutKept a (execSafeOkKick r s) := by
  unfold execSafeOkKick
  apply OutKept.next
  apply State.command_kept
  exact hs
theorem execRetry_kept {a r c src s} (hs : Kept a s) : OutKept a (execRetry r c src s) := by
  unfold execRetry
  apply OutKept.next
  apply State.command_kept
  exact hs
theorem execTxCommit_kept {a r c s} (hs : Kept a s) : OutKept a (execTxCommit r c s) := by
  unfold execTxCommit
  apply OutKept.next
  apply State.command_kept
  exact hs
theorem execTxSend_kept {a r c s} (hs : Kept a s) : OutKept a (execTxSend r c s) := by
  unfold execTxSend
  apply OutKept.next
  apply State.command_kept
  exact hs
theorem execTsyncSend_kept {a r c s} (hs : Kept a s) : OutKept a (execTsyncSend r c s) := by
  unfold execTsyncSend
  apply OutKept.next
  apply State.command_kept
  exact hs
theorem execOpenCommand_kept {a r e s} (hs : Kept a s) : OutKept a (execOpenCommand r e s) := by
  unfold execOpenCommand
  apply OutKept.next
  apply State.command_kept
  exact hs
theorem execCloseCommand_kept {a r c s} (hs : Kept a s) : OutKept a (execCloseCommand r c s) := by
  unfold execCloseCommand
  apply OutKept.next
  apply State.command_kept
  exact hs
theorem execReenter_kept {a r s} (hs : Kept a s) : OutKept a (execReenter r s) := by
  unfold execReenter
  apply OutKept.next
  apply State.command_kept
  exact hs
theorem execAbort_kept {a r s} (hs : Kept a s) : OutKept a (execAbort r s) := by
  unfold execAbort
  apply OutKept.next
  apply State.command_kept
  exact hs
theorem execSleepArm_kept {a r arm s} (hs : Kept a s) : OutKept a (execSleepArm r arm s) := by
  unfold execSleepArm
  apply OutKept.next
  apply State.commandField_kept
  exact hs
theorem execClusterStart_kept {a r k s} (hs : Kept a s) : OutKept a (execClusterStart r k s) := by
  unfold execClusterStart
  apply OutKept.next
  apply State.command_kept
  exact hs
theorem execClusterIdleRequest_kept {a r k s} (hs : Kept a s) : OutKept a (execClusterIdleRequest r k s) := by
  unfold execClusterIdleRequest
  apply OutKept.next
  apply State.command_kept
  exact hs
theorem execSubmission_kept {a r s} (hs : Kept a s) : OutKept a (execSubmission r s) := by
  unfold execSubmission
  apply OutKept.next
  apply State.command_kept
  exact hs
theorem execSoftReset_kept {a r key s} (hs : Kept a s) : OutKept a (execSoftReset r key s) := by
  unfold execSoftReset
  apply OutKept.next
  apply State.command_kept
  exact hs
theorem execPowerCycleRequest_kept {a r key s} (hs : Kept a s) : OutKept a (execPowerCycleRequest r key s) := by
  unfold execPowerCycleRequest
  apply OutKept.next
  apply State.command_kept
  exact hs
theorem execRaise_kept {a r key s} (hs : Kept a s) : OutKept a (execRaise r key s) := by
  unfold execRaise
  apply OutKept.next
  apply State.command_kept
  exact hs
theorem execHostDoorbell_kept {a r m cnt s} (hs : Kept a s) : OutKept a (execHostDoorbell r m cnt s) := by
  unfold execHostDoorbell
  apply OutKept.next
  apply State.command_kept
  exact hs
theorem execDeviceDoorbell_kept {a r m cnt s} (hs : Kept a s) : OutKept a (execDeviceDoorbell r m cnt s) := by
  unfold execDeviceDoorbell
  apply OutKept.next
  apply State.command_kept
  exact hs
theorem execMailboxClear_kept {a r m dev s} (hs : Kept a s) : OutKept a (execMailboxClear r m dev s) := by
  unfold execMailboxClear
  apply OutKept.next
  split
  · apply State.command_kept
    exact hs
  · apply State.command_kept
    exact hs
theorem execErase_kept {a r key s} (hs : Kept a s) : OutKept a (execErase r key s) := by
  unfold execErase
  apply OutKept.next
  apply State.command_kept
  exact hs
theorem execProg_kept {a r key s} (hs : Kept a s) : OutKept a (execProg r key s) := by
  unfold execProg
  apply OutKept.next
  apply State.command_kept
  exact hs
theorem execRetrain_kept {a r s} (hs : Kept a s) : OutKept a (execRetrain r s) := by
  unfold execRetrain
  apply OutKept.next
  apply State.command_kept
  exact hs
theorem execDebugHalt_kept {a s} (hs : Kept a s) : OutKept a (execDebugHalt s) := by
  unfold execDebugHalt
  apply OutKept.next
  apply State.command_kept
  exact hs
theorem execResume_kept {a s} (hs : Kept a s) : OutKept a (execResume s) := by
  unfold execResume
  apply OutKept.next
  apply State.command_kept
  exact hs
theorem execStep_kept {a s} (hs : Kept a s) : OutKept a (execStep s) := by
  unfold execStep
  apply OutKept.next
  apply State.command_kept
  exact hs
theorem execDebugRegisterWrite_kept {a v s} (hs : Kept a s) : OutKept a (execDebugRegisterWrite v s) := by
  unfold execDebugRegisterWrite
  apply OutKept.next
  apply State.command_kept
  exact hs
theorem execOtpWrite_kept {a s} (hs : Kept a s) : OutKept a (execOtpWrite s) := by
  unfold execOtpWrite
  apply OutKept.next
  apply State.command_kept
  exact hs

/-! ### Dispatch -/

theorem exec_kept {i : Instr} {s : State} : OutKept s (exec i s) := by
  cases i with
  | registerWrite => exact execRegisterWrite_kept Kept.refl
  | multiwordReadCapture => exact execMultiwordReadCapture_kept Kept.refl
  | dieLinkFailure => exact execDieLinkFailure_kept Kept.refl
  | fabricWaitExceeded => exact execFabricWaitExceeded_kept Kept.refl
  | fabricResponse => exact execFabricResponse_kept Kept.refl
  | converterSample => exact execConverterSample_kept Kept.refl
  | spotlightSample => exact execSpotlightSample_kept Kept.refl
  | crystalLost => exact execCrystalLost_kept Kept.refl
  | alwaysOnClockLost => exact execAlwaysOnClockLost_kept Kept.refl
  | rcWatchdogExpiry => exact execRcWatchdogExpiry_kept Kept.refl
  | fifoStall => exact execFifoStall_kept Kept.refl
  | clusterStartComplete => exact execClusterStartComplete_kept Kept.refl
  | vdrvFail => exact execVdrvFail_kept Kept.refl
  | vdrvRecover => exact execVdrvRecover_kept Kept.refl
  | vdrvGood => exact execVdrvGood_kept Kept.refl
  | bootstrapUnderVoltage => exact execBootstrapUnderVoltage_kept Kept.refl
  | bootstrapRecover => exact execBootstrapRecover_kept Kept.refl
  | channelEnable => exact execChannelEnable_kept Kept.refl
  | topoWrite => exact execTopoWrite_kept Kept.refl
  | rangeChange => exact execRangeChange_kept Kept.refl
  | rangeHoldEnd => exact execRangeHoldEnd_kept Kept.refl
  | bkLoopUpdate => exact execBkLoopUpdate_kept Kept.refl
  | cycleByCycleLimit => exact execCycleByCycleLimit_kept Kept.refl
  | overCurrent => exact execOverCurrent_kept Kept.refl
  | desaturation => exact execDesaturation_kept Kept.refl
  | rampShort => exact execRampShort_kept Kept.refl
  | adjrun => exact execAdjrun_kept Kept.refl
  | adjacencyTestEnd => exact execAdjacencyTestEnd_kept Kept.refl
  | fltClear => exact execFltClear_kept Kept.refl
  | inrushWindowEnd => exact execInrushWindowEnd_kept Kept.refl
  | kick => exact execKick_kept Kept.refl
  | leaseExpiry => exact execLeaseExpiry_kept Kept.refl
  | ownerWrite => exact execOwnerWrite_kept Kept.refl
  | lholdWrite => exact execLholdWrite_kept Kept.refl
  | flashPhaseChange => exact execFlashPhaseChange_kept Kept.refl
  | lbusFail => exact execLbusFail_kept Kept.refl
  | lbusRecover => exact execLbusRecover_kept Kept.refl
  | deratingUpdate => exact execDeratingUpdate_kept Kept.refl
  | channelReset => exact execChannelReset_kept Kept.refl
  | perWrite => exact execPerWrite_kept Kept.refl
  | dimWrite => exact execDimWrite_kept Kept.refl
  | phaseWrite => exact execPhaseWrite_kept Kept.refl
  | edgeTimingWrite => exact execEdgeTimingWrite_kept Kept.refl
  | alignWrite => exact execAlignWrite_kept Kept.refl
  | codeWrite => exact execCodeWrite_kept Kept.refl
  | cidxWrite => exact execCidxWrite_kept Kept.refl
  | capturePoint => exact execCapturePoint_kept Kept.refl
  | periodBoundary => exact execPeriodBoundary_kept Kept.refl
  | onTimeEnd => exact execOnTimeEnd_kept Kept.refl
  | deadTimeEnd => exact execDeadTimeEnd_kept Kept.refl
  | chipBoundary => exact execChipBoundary_kept Kept.refl
  | cclr => exact execCclr_kept Kept.refl
  | rclr => exact execRclr_kept Kept.refl
  | synciPulse => exact execSynciPulse_kept Kept.refl
  | frameMarkEmit => exact execFrameMarkEmit_kept Kept.refl
  | frameMark => exact execFrameMark_kept Kept.refl
  | marksLost => exact execMarksLost_kept Kept.refl
  | freezeLgOff => exact execFreezeLgOff_kept Kept.refl
  | shadowWrite => exact execShadowWrite_kept Kept.refl
  | apply => exact execApply_kept Kept.refl
  | discard => exact execDiscard_kept Kept.refl
  | handOverStep => exact execHandOverStep_kept Kept.refl
  | localSyncRequest => exact execLocalSyncRequest_kept Kept.refl
  | chainSyncRequest => exact execChainSyncRequest_kept Kept.refl
  | syncBroadcast => exact execSyncBroadcast_kept Kept.refl
  | tsyncArm => exact execTsyncArm_kept Kept.refl
  | tsync => exact execTsync_kept Kept.refl
  | tagReached => exact execTagReached_kept Kept.refl
  | aspectRequest => exact execAspectRequest_kept Kept.refl
  | groupApply => exact execGroupApply_kept Kept.refl
  | aspectSwitch => exact execAspectSwitch_kept Kept.refl
  | sequencerStart => exact execSequencerStart_kept Kept.refl
  | sequencerStop => exact execSequencerStop_kept Kept.refl
  | syncst => exact execSyncst_kept Kept.refl
  | lvl => exact execLvl_kept Kept.refl
  | rmp => exact execRmp_kept Kept.refl
  | rampStep => exact execRampStep_kept Kept.refl
  | patternWait => exact execPatternWait_kept Kept.refl
  | patternWaitEnd => exact execPatternWaitEnd_kept Kept.refl
  | rot => exact execRot_kept Kept.refl
  | patternLoop => exact execPatternLoop_kept Kept.refl
  | next => exact execNext_kept Kept.refl
  | jmp => exact execJmp_kept Kept.refl
  | apl => exact execApl_kept Kept.refl
  | coarseLitEvaluation => exact execCoarseLitEvaluation_kept Kept.refl
  | electricalVerdictPost => exact execElectricalVerdictPost_kept Kept.refl
  | opticalVerdictPost => exact execOpticalVerdictPost_kept Kept.refl
  | fusionTick => exact execFusionTick_kept Kept.refl
  | aspectErrorReport => exact execAspectErrorReport_kept Kept.refl
  | aspectReaction => exact execAspectReaction_kept Kept.refl
  | opticalDegraded => exact execOpticalDegraded_kept Kept.refl
  | groupDegradedTimeout => exact execGroupDegradedTimeout_kept Kept.refl
  | latchReleaseRequest => exact execLatchReleaseRequest_kept Kept.refl
  | codeBalanceQuery => exact execCodeBalanceQuery_kept Kept.refl
  | inputRangeWrite => exact execInputRangeWrite_kept Kept.refl
  | spotlightSaturation => exact execSpotlightSaturation_kept Kept.refl
  | rangeStepDown => exact execRangeStepDown_kept Kept.refl
  | dwellStart => exact execDwellStart_kept Kept.refl
  | dwellEnd => exact execDwellEnd_kept Kept.refl
  | sweepStart => exact execSweepStart_kept Kept.refl
  | sweepWake => exact execSweepWake_kept Kept.refl
  | mapChange => exact execMapChange_kept Kept.refl
  | findingPost => exact execFindingPost_kept Kept.refl
  | illegal => exact execIllegal_kept Kept.refl
  | add => exact execAdd_kept Kept.refl
  | adc => exact execAdc_kept Kept.refl
  | sub => exact execSub_kept Kept.refl
  | sbc => exact execSbc_kept Kept.refl
  | and => exact execAnd_kept Kept.refl
  | or => exact execOr_kept Kept.refl
  | xor => exact execXor_kept Kept.refl
  | andn => exact execAndn_kept Kept.refl
  | adds => exact execAdds_kept Kept.refl
  | subs => exact execSubs_kept Kept.refl
  | neg => exact execNeg_kept Kept.refl
  | negs => exact execNegs_kept Kept.refl
  | abs => exact execAbs_kept Kept.refl
  | abss => exact execAbss_kept Kept.refl
  | min => exact execMin_kept Kept.refl
  | max => exact execMax_kept Kept.refl
  | sll => exact execSll_kept Kept.refl
  | srl => exact execSrl_kept Kept.refl
  | sra => exact execSra_kept Kept.refl
  | rol => exact execRol_kept Kept.refl
  | ror => exact execRor_kept Kept.refl
  | clz => exact execClz_kept Kept.refl
  | popc => exact execPopc_kept Kept.refl
  | shiSll => exact execShiSll_kept Kept.refl
  | shiSrl => exact execShiSrl_kept Kept.refl
  | shiSra => exact execShiSra_kept Kept.refl
  | shiRol => exact execShiRol_kept Kept.refl
  | shiRor => exact execShiRor_kept Kept.refl
  | mul => exact execMul_kept Kept.refl
  | mulh => exact execMulh_kept Kept.refl
  | mulhu => exact execMulhu_kept Kept.refl
  | mulq => exact execMulq_kept Kept.refl
  | div => exact execDiv_kept Kept.refl
  | divs => exact execDivs_kept Kept.refl
  | divu => exact execDivu_kept Kept.refl
  | rem => exact execRem_kept Kept.refl
  | remu => exact execRemu_kept Kept.refl
  | addi => exact execAddi_kept Kept.refl
  | subi => exact execSubi_kept Kept.refl
  | andi => exact execAndi_kept Kept.refl
  | ori => exact execOri_kept Kept.refl
  | xori => exact execXori_kept Kept.refl
  | addsi => exact execAddsi_kept Kept.refl
  | movi => exact execMovi_kept Kept.refl
  | ld => exact execLd_kept Kept.refl
  | st => exact execSt_kept Kept.refl
  | ldp => exact execLdp_kept Kept.refl
  | stp => exact execStp_kept Kept.refl
  | ldx => exact execLdx_kept Kept.refl
  | stx => exact execStx_kept Kept.refl
  | vld => exact execVld_kept Kept.refl
  | vst => exact execVst_kept Kept.refl
  | xaddi => exact execXaddi_kept Kept.refl
  | xadd => exact execXadd_kept Kept.refl
  | xaddu => exact execXaddu_kept Kept.refl
  | xgetl => exact execXgetl_kept Kept.refl
  | xgeth => exact execXgeth_kept Kept.refl
  | xsetl => exact execXsetl_kept Kept.refl
  | xseth => exact execXseth_kept Kept.refl
  | xcmp => exact execXcmp_kept Kept.refl
  | xmov => exact execXmov_kept Kept.refl
  | br => exact execBr_kept Kept.refl
  | call => exact execCall_kept Kept.refl
  | jmpx => exact execJmpx_kept Kept.refl
  | callx => exact execCallx_kept Kept.refl
  | ret => exact execRet_kept Kept.refl
  | rete => exact execRete_kept Kept.refl
  | frame => exact execFrame_kept Kept.refl
  | unframe => exact execUnframe_kept Kept.refl
  | lclr => exact execLclr_kept Kept.refl
  | loop => exact execLoop_kept Kept.refl
  | loopi => exact execLoopi_kept Kept.refl
  | mfs => exact execMfs_kept Kept.refl
  | mts => exact execMts_kept Kept.refl
  | svc => exact execSvc_kept Kept.refl
  | bkpt => exact execBkpt_kept Kept.refl
  | wait => exact execWait_kept Kept.refl
  | waitWake => exact execWaitWake_kept Kept.refl
  | modeTk => exact execModeTk_kept Kept.refl
  | modeSv => exact execModeSv_kept Kept.refl
  | fenceL => exact execFenceL_kept Kept.refl
  | fenceG => exact execFenceG_kept Kept.refl
  | fenceIo => exact execFenceIo_kept Kept.refl
  | fenceM => exact execFenceM_kept Kept.refl
  | mirrorAck => exact execMirrorAck_kept Kept.refl
  | mirrorAckTimeout => exact execMirrorAckTimeout_kept Kept.refl
  | xcor => exact execXcor_kept Kept.refl
  | bmov => exact execBmov_kept Kept.refl
  | kcrc => exact execKcrc_kept Kept.refl
  | vadd => exact execVadd_kept Kept.refl
  | vsub => exact execVsub_kept Kept.refl
  | vadds => exact execVadds_kept Kept.refl
  | vsubs => exact execVsubs_kept Kept.refl
  | vand => exact execVand_kept Kept.refl
  | vor => exact execVor_kept Kept.refl
  | vxor => exact execVxor_kept Kept.refl
  | vmin => exact execVmin_kept Kept.refl
  | vmax => exact execVmax_kept Kept.refl
  | vabs => exact execVabs_kept Kept.refl
  | vabss => exact execVabss_kept Kept.refl
  | vneg => exact execVneg_kept Kept.refl
  | vnegs => exact execVnegs_kept Kept.refl
  | vmul => exact execVmul_kept Kept.refl
  | vmulh => exact execVmulh_kept Kept.refl
  | vmulq => exact execVmulq_kept Kept.refl
  | vsll => exact execVsll_kept Kept.refl
  | vsrl => exact execVsrl_kept Kept.refl
  | vsra => exact execVsra_kept Kept.refl
  | vmov => exact execVmov_kept Kept.refl
  | vsel => exact execVsel_kept Kept.refl
  | vceq => exact execVceq_kept Kept.refl
  | vclt => exact execVclt_kept Kept.refl
  | vcltu => exact execVcltu_kept Kept.refl
  | aclr => exact execAclr_kept Kept.refl
  | amac => exact execAmac_kept Kept.refl
  | amsu => exact execAmsu_kept Kept.refl
  | aadd => exact execAadd_kept Kept.refl
  | arnd => exact execArnd_kept Kept.refl
  | aspl => exact execAspl_kept Kept.refl
  | ajoin => exact execAjoin_kept Kept.refl
  | vbcst => exact execVbcst_kept Kept.refl
  | vext => exact execVext_kept Kept.refl
  | vins => exact execVins_kept Kept.refl
  | vsum => exact execVsum_kept Kept.refl
  | lxi => exact execLxi_kept Kept.refl
  | jmpa => exact execJmpa_kept Kept.refl
  | calla => exact execCalla_kept Kept.refl
  | lda => exact execLda_kept Kept.refl
  | sta => exact execSta_kept Kept.refl
  | interrupt => exact execInterrupt_kept Kept.refl
  | timerExpiry => exact execTimerExpiry_kept Kept.refl
  | softInterrupt => exact execSoftInterrupt_kept Kept.refl
  | interruptClear => exact execInterruptClear_kept Kept.refl
  | dmaGo => exact execDmaGo_kept Kept.refl
  | dmaStop => exact execDmaStop_kept Kept.refl
  | moveDone => exact execMoveDone_kept Kept.refl
  | ringRecord => exact execRingRecord_kept Kept.refl
  | ringReadIndex => exact execRingReadIndex_kept Kept.refl
  | scrubPass => exact execScrubPass_kept Kept.refl
  | lockstepMismatch => exact execLockstepMismatch_kept Kept.refl
  | inputFault => exact execInputFault_kept Kept.refl
  | twinPost => exact execTwinPost_kept Kept.refl
  | roundTimeout => exact execRoundTimeout_kept Kept.refl
  | checkpointCommit => exact execCheckpointCommit_kept Kept.refl
  | spareStart => exact execSpareStart_kept Kept.refl
  | takeoverDone => exact execTakeoverDone_kept Kept.refl
  | waiveEnd => exact execWaiveEnd_kept Kept.refl
  | clusterLost => exact execClusterLost_kept Kept.refl
  | safetyInputSample => exact execSafetyInputSample_kept Kept.refl
  | testPulse => exact execTestPulse_kept Kept.refl
  | testPulseCheck => exact execTestPulseCheck_kept Kept.refl
  | discrepancy => exact execDiscrepancy_kept Kept.refl
  | engineChannelStale => exact execEngineChannelStale_kept Kept.refl
  | crossCheckFault => exact execCrossCheckFault_kept Kept.refl
  | twohandTimeout => exact execTwohandTimeout_kept Kept.refl
  | lampFailureClear => exact execLampFailureClear_kept Kept.refl
  | functionReset => exact execFunctionReset_kept Kept.refl
  | outputRequest => exact execOutputRequest_kept Kept.refl
  | outputTestPulse => exact execOutputTestPulse_kept Kept.refl
  | outputReadback => exact execOutputReadback_kept Kept.refl
  | stoTestPulse => exact execStoTestPulse_kept Kept.refl
  | adreqHoldEnd => exact execAdreqHoldEnd_kept Kept.refl
  | stopTimeout => exact execStopTimeout_kept Kept.refl
  | degradedExpiry => exact execDegradedExpiry_kept Kept.refl
  | switchRead => exact execSwitchRead_kept Kept.refl
  | sealCheck => exact execSealCheck_kept Kept.refl
  | faultEvent => exact execFaultEvent_kept Kept.refl
  | collectorSelfCheckFail => exact execCollectorSelfCheckFail_kept Kept.refl
  | tokenRefill => exact execTokenRefill_kept Kept.refl
  | acknowledge => exact execAcknowledge_kept Kept.refl
  | firstFaultClear => exact execFirstFaultClear_kept Kept.refl
  | errnWrite => exact execErrnWrite_kept Kept.refl
  | errNPulseEnd => exact execErrNPulseEnd_kept Kept.refl
  | safeOkToggle => exact execSafeOkToggle_kept Kept.refl
  | safeOkKick => exact execSafeOkKick_kept Kept.refl
  | kickMissed => exact execKickMissed_kept Kept.refl
  | retry => exact execRetry_kept Kept.refl
  | data => exact execData_kept Kept.refl
  | join => exact execJoin_kept Kept.refl
  | accept => exact execAccept_kept Kept.refl
  | refuse => exact execRefuse_kept Kept.refl
  | leave => exact execLeave_kept Kept.refl
  | still => exact execStill_kept Kept.refl
  | connectionWatchdog => exact execConnectionWatchdog_kept Kept.refl
  | dataSend => exact execDataSend_kept Kept.refl
  | txCommit => exact execTxCommit_kept Kept.refl
  | txSend => exact execTxSend_kept Kept.refl
  | tsyncSend => exact execTsyncSend_kept Kept.refl
  | joinRetry => exact execJoinRetry_kept Kept.refl
  | openCommand => exact execOpenCommand_kept Kept.refl
  | closeCommand => exact execCloseCommand_kept Kept.refl
  | busOff => exact execBusOff_kept Kept.refl
  | ethernetLinkDown => exact execEthernetLinkDown_kept Kept.refl
  | klDown => exact execKlDown_kept Kept.refl
  | timeMeasurement => exact execTimeMeasurement_kept Kept.refl
  | timeSourceLost => exact execTimeSourceLost_kept Kept.refl
  | heartbeatSend => exact execHeartbeatSend_kept Kept.refl
  | heartbeat => exact execHeartbeat_kept Kept.refl
  | partnerLost => exact execPartnerLost_kept Kept.refl
  | tfltClear => exact execTfltClear_kept Kept.refl
  | mirrorWrite => exact execMirrorWrite_kept Kept.refl
  | mirrorTransferBlock => exact execMirrorTransferBlock_kept Kept.refl
  | transferRestart => exact execTransferRestart_kept Kept.refl
  | reenter => exact execReenter_kept Kept.refl
  | abort => exact execAbort_kept Kept.refl
  | reentryConfirm => exact execReentryConfirm_kept Kept.refl
  | reentryInstant => exact execReentryInstant_kept Kept.refl
  | aspectDifference => exact execAspectDifference_kept Kept.refl
  | pairTimeOffset => exact execPairTimeOffset_kept Kept.refl
  | vcoreFail => exact execVcoreFail_kept Kept.refl
  | vcoreReturn => exact execVcoreReturn_kept Kept.refl
  | vanaFail => exact execVanaFail_kept Kept.refl
  | vbakFail => exact execVbakFail_kept Kept.refl
  | supplyMonitor => exact execSupplyMonitor_kept Kept.refl
  | vioDip => exact execVioDip_kept Kept.refl
  | handOverCommit => exact execHandOverCommit_kept Kept.refl
  | handOverComplete => exact execHandOverComplete_kept Kept.refl
  | stabilityWindowEnd => exact execStabilityWindowEnd_kept Kept.refl
  | coldStart => exact execColdStart_kept Kept.refl
  | sleepArm => exact execSleepArm_kept Kept.refl
  | sleepEntry => exact execSleepEntry_kept Kept.refl
  | sleepRefused => exact execSleepRefused_kept Kept.refl
  | wake => exact execWake_kept Kept.refl
  | alarm => exact execAlarm_kept Kept.refl
  | clusterStart => exact execClusterStart_kept Kept.refl
  | clusterIdleRequest => exact execClusterIdleRequest_kept Kept.refl
  | clusterIdle => exact execClusterIdle_kept Kept.refl
  | chargeInhibit => exact execChargeInhibit_kept Kept.refl
  | chargeResume => exact execChargeResume_kept Kept.refl
  | temperatureConversion => exact execTemperatureConversion_kept Kept.refl
  | recordWrite => exact execRecordWrite_kept Kept.refl
  | energyRecheck => exact execEnergyRecheck_kept Kept.refl
  | submission => exact execSubmission_kept Kept.refl
  | sageUpdate => exact execSageUpdate_kept Kept.refl
  | sageSnapshot => exact execSageSnapshot_kept Kept.refl
  | marginWalk => exact execMarginWalk_kept Kept.refl
  | flashRefresh => exact execFlashRefresh_kept Kept.refl
  | powerUp => exact execPowerUp_kept Kept.refl
  | resetPin => exact execResetPin_kept Kept.refl
  | softReset => exact execSoftReset_kept Kept.refl
  | powerCycleRequest => exact execPowerCycleRequest_kept Kept.refl
  | powerCycleTimeout => exact execPowerCycleTimeout_kept Kept.refl
  | startUp => exact execStartUp_kept
  | raise => exact execRaise_kept Kept.refl
  | read => exact execRead_kept Kept.refl
  | write => exact execWrite_kept Kept.refl
  | status => exact execStatus_kept Kept.refl
  | hostDoorbell => exact execHostDoorbell_kept Kept.refl
  | deviceDoorbell => exact execDeviceDoorbell_kept Kept.refl
  | mailboxClear => exact execMailboxClear_kept Kept.refl
  | erase => exact execErase_kept Kept.refl
  | prog => exact execProg_kept Kept.refl
  | flashCommandComplete => exact execFlashCommandComplete_kept Kept.refl
  | retrain => exact execRetrain_kept Kept.refl
  | klStateChange => exact execKlStateChange_kept Kept.refl
  | klLaneFail => exact execKlLaneFail_kept Kept.refl
  | extest => exact execExtest_kept Kept.refl
  | samplePreload => exact execSamplePreload_kept Kept.refl
  | idcode => exact execIdcode_kept Kept.refl
  | clamp => exact execClamp_kept Kept.refl
  | highz => exact execHighz_kept Kept.refl
  | bypass => exact execBypass_kept Kept.refl
  | dbgauth => exact execDbgauth_kept Kept.refl
  | dbgacc => exact execDbgacc_kept Kept.refl
  | debugHalt => exact execDebugHalt_kept Kept.refl
  | resume => exact execResume_kept Kept.refl
  | step => exact execStep_kept Kept.refl
  | debugRegisterWrite => exact execDebugRegisterWrite_kept Kept.refl
  | otpWrite => exact execOtpWrite_kept Kept.refl
  | dieLinkRealigned => exact execDieLinkRealigned_kept Kept.refl
  | soOverloadTrip => exact execSoOverloadTrip_kept Kept.refl
  | vanaReturn => exact execVanaReturn_kept Kept.refl
  | vbakReturn => exact execVbakReturn_kept Kept.refl
  | ethernetLinkUp => exact execEthernetLinkUp_kept Kept.refl
  | busOffRecovery => exact execBusOffRecovery_kept Kept.refl
  | hostUnknownCommand => exact execHostUnknownCommand_kept Kept.refl
  | classStormEmit => exact execClassStormEmit_kept Kept.refl

/-! ### Tick -/

theorem State.tickTime_kept {a s} (hs : Kept a s) : Kept a (State.tickTime s) := by
  unfold State.tickTime
  extract_lets y0 y1 y2
  clear_value y0
  clear_value y1
  have h3 : Kept a y2 := by
    unfold y2
    exact hs
  clear_value y2
  split
  · exact h3
  · split
    · exact h3
    · exact h3
theorem State.tickLease_kept {a s n} (hs : Kept a s) : Kept a (State.tickLease s n) := by
  unfold State.tickLease
  split
  · apply State.wr_kept
    exact hs
  · exact hs
theorem State.tickTimer_kept {a s q} (hs : Kept a s) : Kept a (State.tickTimer s q) := by
  unfold State.tickTimer
  extract_lets y0 y1
  clear_value y0
  clear_value y1
  split
  · exact hs
  · apply State.setCore_kept
    exact hs
theorem State.tickDegraded_kept {a s f} (hs : Kept a s) : Kept a (State.tickDegraded s f) := by
  unfold State.tickDegraded
  split
  · apply State.showDeg_kept
    apply State.modFn_kept
    exact hs
  · exact hs
theorem State.endCycle_kept {a s} (hs : Kept a s) : Kept a (State.endCycle s) := by
  unfold State.endCycle
  extract_lets y0 y1
  have h2 : Kept a y0 := by
    unfold y0
    apply State.lineReact_kept
    exact hs
  clear_value y0
  have h3 : Kept a y1 := by
    unfold y1
    split
    · apply State.enterSleep_kept
      exact h2
    · exact h2
  clear_value y1
  exact h3
theorem State.tick_kept {a s} (hs : Kept a s) : Kept a (State.tick s) := by
  unfold State.tick
  extract_lets y0 y1 y2 y3 y4
  have h5 : Kept a y0 := by
    unfold y0
    apply State.endCycle_kept
    exact hs
  clear_value y0
  have h6 : Kept a y1 := by
    unfold y1
    apply State.tickTime_kept
    exact h5
  clear_value y1
  have h7 : Kept a y2 := by
    unfold y2
    apply State.each_kept
    · intro x8 x9 h10
      apply State.tickLease_kept
      exact h10
    · exact h6
  clear_value y2
  have h11 : Kept a y3 := by
    unfold y3
    apply State.each_kept
    · intro x12 x13 h14
      apply State.tickTimer_kept
      exact h14
    · exact h7
  clear_value y3
  have h15 : Kept a y4 := by
    unfold y4
    apply State.each_kept
    · intro x16 x17 h18
      apply State.tickDegraded_kept
      exact h18
    · exact h11
  clear_value y4
  split
  · exact h5
  · apply State.takeDeferred_kept
    exact h15

end Sys2Proof.Machine
end

