-- ==== Sys2Proof/Laws/Ops.lean ====
section
/-! SUPPORT. What the shared operations of the channels, the dies and the collector can do: one lemma for each. -/
namespace Sys2Proof.Machine
open Sys2Proof.Safety
namespace State
variable {s : State}

theorem mem_dieChannels {d n : Nat} : n ∈ dieChannels d ↔ n / 48 = d := by
  simp only [dieChannels, List.mem_map, List.mem_range]
  constructor
  · rintro ⟨i, hi, rfl⟩; omega
  · intro h; exact ⟨n - 48 * d, by omega, by omega⟩
theorem nodup_dieChannels {d : Nat} : (dieChannels d).Nodup :=
  List.Nodup.map (fun a b h => by simp at h; exact h) List.nodup_range
theorem nodup_channels : channels.Nodup := List.nodup_range
theorem mem_channels {n : Nat} : n ∈ channels ↔ n < 192 := List.mem_range

/-- What turning the gates of a channel off does to its generator (R104). -/
theorem gatesOff_gen {n x : Nat} : (s.gatesOff n).gen x =
    if x = n then s.seenGates n { s.gen n with hg := false, lg := false, phase := if (s.gen n).phase = .idle then .idle else .wait } else s.gen x := by
  simp [State.gatesOff]
/-- All gates of a die turn off: the generators of its channels, and nothing else. -/
theorem dieOff_gen {d n : Nat} : (s.each (dieChannels d) State.gatesOff).gen n =
    if n / 48 = d then s.seenGates n { s.gen n with hg := false, lg := false, phase := if (s.gen n).phase = .idle then .idle else .wait }
    else s.gen n := by
  split <;> rename_i h
  · have k := each_once (s := s) (op := State.gatesOff) (n := n) (l := dieChannels d) (fun t => (t.gen n, t.dwelling n, t.time))
      (fun p => (let g := { p.1 with hg := false, lg := false, phase := if p.1.phase = .idle then .idle else .wait }
        if p.2.1 then noteGates p.2.2 p.1 g else g, p.2)) nodup_dieChannels (mem_dieChannels.2 h)
      (fun t x _ hx => by rw [gatesOff_gen, if_neg (Ne.symm hx)]; rfl) (fun t => by rw [gatesOff_gen, if_pos rfl]; rfl)
    exact congrArg Prod.fst k
  · exact each_same (·.gen n) fun t x hx => by rw [gatesOff_gen, if_neg fun e : n = x => h (e ▸ mem_dieChannels.1 hx)]
theorem dieOff_rest {d : Nat} : { (s.each (dieChannels d) State.gatesOff) with gens := s.gens } = s := by
  have h := each_same (s := s) (l := dieChannels d) (op := State.gatesOff) (fun t => { t with gens := s.gens }) fun t x _ => rfl
  generalize s.each (dieChannels d) _ = u at h ⊢
  exact h

/-- What a report does to the collector depends on the collector and the times alone. -/
theorem report_congr {t : State} {cls src sev path : Nat} {data : List Nat} (hc : s.coll = t.coll) (ht : s.time = t.time)
    (hd : s.devOfs = t.devOfs) : (s.report cls src sev path data).coll = (t.report cls src sev path data).coll := by
  simp only [report, devTime, devCount, hc, ht, hd]

end State

/-! ### Which fields an operation may change -/

end Sys2Proof.Machine
namespace Sys2Proof.Safety
open Sys2Proof.Machine
variable {s t u : State} {l l' : List Fld} {f : Fld} {v : Nat} {b : Bool}
theorem FieldsKept.refl : FieldsKept l s s := fun _ _ => rfl
theorem FieldsKept.trans (h : FieldsKept l s t) (k : FieldsKept l t u) : FieldsKept l s u := fun f hf => (k f hf).trans (h f hf)
theorem FieldsKept.mono (hl : ∀ g ∈ l, g ∈ l') (h : FieldsKept l s t) : FieldsKept l' s t := fun f hf => h f fun g hg => hf g (hl g hg)
theorem FieldsKept.wr (hf : f ∈ l) (h : FieldsKept l s t) : FieldsKept l s (t.wr f v) := fun g hg => (State.rd_wr_ne (hg f hf)).trans (h g hg)
theorem FieldsKept.put (hf : f ∈ l) (h : FieldsKept l s t) : FieldsKept l s (t.put f b) := h.wr hf
theorem FieldsKept.bump (hf : f ∈ l) (h : FieldsKept l s t) : FieldsKept l s (t.bump f) := h.wr hf
theorem FieldsKept.putBit {i : Nat} (hf : f ∈ l) (h : FieldsKept l s t) : FieldsKept l s (t.putBit f i b) := h.wr hf
theorem FieldsKept.mark {m : Nat} (h : FieldsKept l s t) : FieldsKept l s (t.mark f m) := h
theorem FieldsKept.raiseFlag (hf : f ∈ l) (h : FieldsKept l s t) : FieldsKept l s (t.raiseFlag f) := .mark (h.put hf)
theorem FieldsKept.raiseBit {i : Nat} (hf : f ∈ l) (h : FieldsKept l s t) : FieldsKept l s (t.raiseBit f i) := by
  unfold State.raiseBit
  exact .mark (h.putBit hf)
theorem FieldsKept.hwWrite (hf : f ∈ l) (h : FieldsKept l s t) : FieldsKept l s (t.hwWrite f v) := .mark (h.wr hf)
theorem FieldsKept.softClear (hf : f ∈ l) (h : FieldsKept l s t) : FieldsKept l s (t.softClear f v) := .wr hf h
theorem FieldsKept.each {o : List Nat} {op : State → Nat → State} (h : ∀ t x, x ∈ o → FieldsKept l t (op t x)) : FieldsKept l s (s.each o op) := by
  induction o generalizing s with
  | nil => exact .refl
  | cons x r ih => exact (h s x List.mem_cons_self).trans (ih fun t y hy => h t y (List.mem_cons_of_mem _ hy))
/-- An operation that leaves the register file alone. -/
theorem FieldsKept.same (h : t.regs = s.regs) : FieldsKept l s t := fun f _ => by simp only [State.rd, h]
theorem FieldsKept.modGen {n : Nat} {g : Gen → Gen} (h : FieldsKept l s t) : FieldsKept l s (t.modGen n g) := h
theorem FieldsKept.modProt {n : Nat} {g : Prot → Prot} (h : FieldsKept l s t) : FieldsKept l s (t.modProt n g) := h
theorem FieldsKept.modPrf {n : Nat} {g : Prf → Prf} (h : FieldsKept l s t) : FieldsKept l s (t.modPrf n g) := h
theorem FieldsKept.modDie {n : Nat} {g : Die → Die} (h : FieldsKept l s t) : FieldsKept l s (t.modDie n g) := h
theorem FieldsKept.modRx {n : Nat} {g : Rx → Rx} (h : FieldsKept l s t) : FieldsKept l s (t.modRx n g) := h
theorem FieldsKept.modGroup {n : Nat} {g : Group → Group} (h : FieldsKept l s t) : FieldsKept l s (t.modGroup n g) := h
theorem FieldsKept.modOptic {n : Nat} {g : Optic → Optic} (h : FieldsKept l s t) : FieldsKept l s (t.modOptic n g) := h
theorem FieldsKept.modSeqr {n : Nat} {g : Seqr → Seqr} (h : FieldsKept l s t) : FieldsKept l s (t.modSeqr n g) := h
theorem FieldsKept.modClu {n : Nat} {g : Clu → Clu} (h : FieldsKept l s t) : FieldsKept l s (t.modClu n g) := h
theorem FieldsKept.report {c e v p : Nat} {d : List Nat} (h : FieldsKept l s t) : FieldsKept l s (t.report c e v p d) := h
theorem FieldsKept.flag {c e v : Nat} (h : FieldsKept l s t) : FieldsKept l s (t.flag c e v) := h
theorem FieldsKept.timingRefusal {c e : Nat} (h : FieldsKept l s t) : FieldsKept l s (t.timingRefusal c e) := h
theorem FieldsKept.gatesOff {n : Nat} (h : FieldsKept l s t) : FieldsKept l s (t.gatesOff n) := h
theorem FieldsKept.updOpt (h : FieldsKept l s t) : FieldsKept l s t.updOpt := h
theorem FieldsKept.setCore {n : Nat} {g : Core} (h : FieldsKept l s t) : FieldsKept l s (t.setCore n g) := h
theorem FieldsKept.modEng {n : Nat} {g : Eng → Eng} (h : FieldsKept l s t) : FieldsKept l s (t.modEng n g) := h
theorem FieldsKept.modTwin {n : Nat} {g : Twin → Twin} (h : FieldsKept l s t) : FieldsKept l s (t.modTwin n g) := h
theorem FieldsKept.modInp {n : Nat} {g : Inp → Inp} (h : FieldsKept l s t) : FieldsKept l s (t.modInp n g) := h
theorem FieldsKept.modIpair {n : Nat} {g : IPair → IPair} (h : FieldsKept l s t) : FieldsKept l s (t.modIpair n g) := h
theorem FieldsKept.modFn {n : Nat} {g : Fn → Fn} (h : FieldsKept l s t) : FieldsKept l s (t.modFn n g) := h
theorem FieldsKept.modSio {g : Sio → Sio} (h : FieldsKept l s t) : FieldsKept l s (t.modSio g) := h
theorem FieldsKept.modConn {n : Nat} {g : Conn → Conn} (h : FieldsKept l s t) : FieldsKept l s (t.modConn n g) := h
theorem FieldsKept.modPair {g : Pair → Pair} (h : FieldsKept l s t) : FieldsKept l s (t.modPair g) := h
theorem FieldsKept.modPwr {g : Pwr → Pwr} (h : FieldsKept l s t) : FieldsKept l s (t.modPwr g) := h
theorem FieldsKept.modBcast {g : Bcast → Bcast} (h : FieldsKept l s t) : FieldsKept l s (t.modBcast g) := h
theorem FieldsKept.modColl {g : Coll → Coll} (h : FieldsKept l s t) : FieldsKept l s (t.modColl g) := h
theorem FieldsKept.disrupt {n : Nat} (h : FieldsKept l s t) : FieldsKept l s (t.disrupt n) := by
  simp only [State.disrupt]
  split
  · exact h
  · exact h
theorem FieldsKept.ite {c : Prop} [Decidable c] (h : FieldsKept l s t) (k : FieldsKept l s u) : FieldsKept l s (if c then t else u) := by
  split
  · exact h
  · exact k

end Sys2Proof.Safety
namespace Sys2Proof.Machine
open Sys2Proof.Safety

namespace State
variable {s : State} {n : Nat} {l : List Fld}
theorem restartProof_fields {x : Expect} : FieldsKept (proofFields n) s (s.restartProof n x) := by
  unfold restartProof
  exact .wr (by simp [proofFields]) (.wr (by simp [proofFields]) (.modPrf .refl))
theorem updExp_fields : FieldsKept (proofFields n) s (s.updExp n) := by
  unfold updExp
  have h1 : FieldsKept (proofFields n) s (s.put (CH_PVER_EXPLIT n) ((s.expectation n).1 == .lit)) := .put (by simp [proofFields]) .refl
  have h2 := (h1.trans (restartProof_fields (x := (s.expectation n).1))).disrupt (n := n)
  exact .ite h1 (.ite h2.updOpt h2)
theorem thawGen_fields : FieldsKept [CH_STAT_FROZEN n] s (s.thawGen n) := by
  unfold thawGen
  exact .modGen (.put (by simp) .refl)
theorem seeRef_fields : FieldsKept l s (s.seeRef n) := by
  unfold seeRef
  exact .ite (.modGen .refl) .refl
theorem clampDouble_fields {x : Nat} : FieldsKept [CH_SHST_CLAMP n] s (s.clampDouble n x) := by
  unfold clampDouble
  exact .ite (.report (.raiseFlag (by simp) .refl)) .refl
theorem clampSafe_fields : FieldsKept [CH_SHST_CLAMP n] s (s.clampSafe n) := by
  unfold clampSafe
  exact .ite clampDouble_fields .refl
theorem modeDisagree_fields : FieldsKept [CH_SHST_DIS n] s (s.modeDisagree n) := by
  unfold modeDisagree
  exact .report (.raiseFlag (by simp) .refl)
theorem updExp_appl : FieldsKept (applFields n) s (s.updExp n) :=
  .mono (fun g hg => by simp [applFields, hg]) updExp_fields
theorem setAppl_fields {x : Nat} : FieldsKept (applFields n) s (s.setAppl n x) := by
  unfold setAppl
  extract_lets y0 y1 y y2
  have h0 : FieldsKept (applFields n) s y0 :=
    .mono (fun g hg => by simp only [List.mem_singleton] at hg; simp [applFields, hg]) clampDouble_fields
  have h2 : FieldsKept (applFields n) s y2 :=
    .ite h0.modProt (.ite h0 ((FieldsKept.raiseFlag (by simp [applFields]) h0.modProt).trans
      (.mono (fun g hg => by simp only [List.mem_singleton] at hg; simp [applFields, hg]) modeDisagree_fields)))
  clear_value y2
  exact ((h2.wr (by simp [applFields])).trans seeRef_fields).trans updExp_appl
/-- What bringing the applied value of channel n up to date writes. -/
theorem reclamp_fields : FieldsKept (applFields n) s (s.reclamp n) := by
  have h : FieldsKept (applFields n) s (s.dropCloop n) := by
    unfold dropCloop
    exact .ite (.flag (.wr (by simp [applFields]) .refl)) .refl
  unfold reclamp refreshAppl
  exact .ite (h.trans updExp_appl) (h.trans setAppl_fields)
theorem leads_even (h : s.leads n = true) : n % 2 = 0 := by
  simp only [leads, Bool.and_eq_true, decide_eq_true_eq] at h
  exact h.1
/-- What the end of a freeze of channel n writes: the flag of its generator, and of the one that it leads, and their applied values. -/
theorem unfreeze_fields : FieldsKept (safeGenFields n) s (s.unfreeze n) := by
  have one : ∀ m, FieldsKept (CH_STAT_FROZEN m :: applFields m) s ((s.thawGen m).reclamp m) := fun m =>
    (FieldsKept.mono (fun g hg => by simp only [List.mem_singleton] at hg; simp [hg]) thawGen_fields).trans
      (.mono (fun g hg => by simp [hg]) reclamp_fields)
  have two : ∀ (t : State) m, FieldsKept (CH_STAT_FROZEN m :: applFields m) t ((t.thawGen m).reclamp m) := fun t m =>
    (FieldsKept.mono (fun g hg => by simp only [List.mem_singleton] at hg; simp [hg]) thawGen_fields).trans
      (.mono (fun g hg => by simp [hg]) reclamp_fields)
  unfold unfreeze
  extract_lets y
  have h : FieldsKept (safeGenFields n) s y :=
    .ite (.mono (fun g hg => by rcases List.mem_cons.1 hg with rfl | hg <;> simp_all [safeGenFields]) (one n)) .refl
  clear_value y
  split
  · rename_i hl
    exact h.trans (.mono (fun g hg => by
      rcases List.mem_cons.1 hg with rfl | hg <;> simp_all [safeGenFields, leads_even hl.1]) (two y (n + 1)))
  · exact h
theorem restGates_fields : FieldsKept l s (s.restGates n) := by
  unfold restGates
  exact .ite (.modGen (.gatesOff .refl)) (.modGen .refl)
theorem enterSafeGen_fields : FieldsKept (safeGenFields n) s (s.enterSafeGen n) := by
  unfold enterSafeGen
  extract_lets y0 y1 y2
  apply FieldsKept.disrupt
  refine FieldsKept.trans ?_ (.mono (fun g hg => by simp [safeGenFields, hg]) updExp_appl)
  refine FieldsKept.trans ?_ seeRef_fields
  have h0 : FieldsKept (safeGenFields n) s y0 := unfreeze_fields
  have h1 : FieldsKept (safeGenFields n) s y1 := by
    unfold y1
    split
    · exact h0
    · exact .modGen (.wr (by simp [safeGenFields]) h0)
  clear_value y0 y1
  exact .ite (h1.trans restGates_fields) h1
/-- What the safe state of channel n writes as its latch sets. -/
theorem latchGen_fields : FieldsKept (safeGenFields n) s ((s.clampSafe n).enterSafeGen n) :=
  (FieldsKept.mono (fun g hg => by simp only [List.mem_singleton] at hg; simp [safeGenFields, applFields, hg]) clampSafe_fields).trans
    enterSafeGen_fields
theorem setLatch_fields {cause : Nat} {ev : Option Nat} : FieldsKept (latchFields n) s (s.setLatch n cause ev) := by
  unfold setLatch
  extract_lets h h' two y0 y1 y2 y3
  apply FieldsKept.ite .refl
  have k0 : FieldsKept (latchFields n) s y0 := .modProt .refl
  clear_value y0
  have k1 : FieldsKept (latchFields n) s y1 := .ite k0.modProt k0
  clear_value y1
  have k2 : FieldsKept (latchFields n) s y2 := .put (by simp [latchFields]) (.wr (by simp [latchFields]) k1)
  clear_value y2
  have k3 : FieldsKept (latchFields n) s y3 := k2.trans (.mono (fun g hg => by simp [latchFields, hg]) latchGen_fields)
  clear_value y3
  split
  · rename_i ht
    have he : n % 2 = 0 := leads_even ht
    exact k3.trans (.mono (fun g hg => by simp [latchFields, he, hg]) latchGen_fields)
  · exact k3

/-! ### Which parts of the state the channel operations may change -/

/-- What `chanless` keeps, an operation that keeps `chanless` keeps. -/
theorem chanless_part {α : Type} {a b : State} (h : chanless a = chanless b) (P : State → α) (hP : ∀ x, P (chanless x) = P x) : P a = P b := by
  rw [← hP a, h, hP]
theorem chanless_ite {c : Prop} [Decidable c] {t u a : State} (h : chanless t = a) (k : chanless u = a) : chanless (if c then t else u) = a := by
  split
  · exact h
  · exact k
theorem chanless_wr {f : Fld} {v : Nat} : chanless (s.wr f v) = chanless s := rfl
theorem chanless_put {f : Fld} {b : Bool} : chanless (s.put f b) = chanless s := rfl
theorem chanless_bump {f : Fld} : chanless (s.bump f) = chanless s := rfl
theorem chanless_modGen {g : Gen → Gen} : chanless (s.modGen n g) = chanless s := rfl
theorem chanless_modProt {g : Prot → Prot} : chanless (s.modProt n g) = chanless s := rfl
theorem chanless_modPrf {g : Prf → Prf} : chanless (s.modPrf n g) = chanless s := rfl
theorem chanless_gatesOff : chanless (s.gatesOff n) = chanless s := rfl
theorem chanless_disrupt : chanless (s.disrupt n) = chanless s := by simp only [disrupt]; exact chanless_ite rfl rfl
theorem chanless_updOpt : chanless s.updOpt = chanless s := rfl
theorem chanless_restartProof {x : Expect} : chanless (s.restartProof n x) = chanless s := by
  unfold restartProof
  exact chanless_wr.trans (chanless_wr.trans chanless_modPrf)
theorem chanless_updExp : chanless (s.updExp n) = chanless s := by
  unfold updExp
  refine chanless_ite chanless_put (chanless_ite ?_ ?_)
  · rw [chanless_updOpt, chanless_disrupt, chanless_restartProof, chanless_put]
  · rw [chanless_disrupt, chanless_restartProof, chanless_put]
theorem chanless_thawGen : chanless (s.thawGen n) = chanless s := by
  unfold thawGen
  exact chanless_modGen.trans chanless_put
theorem chanless_restGates : chanless (s.restGates n) = chanless s := by
  unfold restGates
  exact chanless_ite (chanless_modGen.trans chanless_gatesOff) chanless_modGen
theorem chanless_seeRef : chanless (s.seeRef n) = chanless s := by
  unfold seeRef
  exact chanless_ite chanless_modGen rfl

/-- `chanless`, the collector left aside: what an operation that may report keeps. -/
def chanlessColl (s : State) : State := chanless { s with coll := {} }
theorem chanlessColl_of {t : State} (h : chanless s = chanless t) : chanlessColl s = chanlessColl t :=
  congrArg (fun x : State => { x with coll := {} }) h
theorem chanlessColl_ite {c : Prop} [Decidable c] {t u a : State} (h : chanlessColl t = a) (k : chanlessColl u = a) :
    chanlessColl (if c then t else u) = a := by
  split
  · exact h
  · exact k
theorem chanlessColl_report {c e v p : Nat} {d : List Nat} : chanlessColl (s.report c e v p d) = chanlessColl s := rfl
theorem chanlessColl_clampDouble {x : Nat} : chanlessColl (s.clampDouble n x) = chanlessColl s := by
  unfold clampDouble
  exact chanlessColl_ite rfl rfl
theorem chanlessColl_clampSafe : chanlessColl (s.clampSafe n) = chanlessColl s := by
  unfold clampSafe
  exact chanlessColl_ite chanlessColl_clampDouble rfl
theorem chanlessColl_modProt {g : Prot → Prot} : chanlessColl (s.modProt n g) = chanlessColl s := rfl
theorem chanlessColl_raiseFlag {f : Fld} : chanlessColl (s.raiseFlag f) = chanlessColl s := rfl
theorem chanlessColl_modeDisagree : chanlessColl (s.modeDisagree n) = chanlessColl s := rfl
theorem chanlessColl_setAppl {x : Nat} : chanlessColl (s.setAppl n x) = chanlessColl s := by
  unfold setAppl
  extract_lets y0 y1 y y2
  have h0 : chanlessColl y0 = chanlessColl s := chanlessColl_clampDouble
  have on : chanlessColl (((y0.modProt n fun p => { p with clampOn := true }).raiseFlag (CH_SHST_CLAMP n)).modeDisagree n) = chanlessColl y0 :=
    chanlessColl_modeDisagree.trans (chanlessColl_raiseFlag.trans chanlessColl_modProt)
  have off : chanlessColl (y0.modProt n fun p => { p with clampOn := false }) = chanlessColl y0 := chanlessColl_modProt
  have h2 : chanlessColl y2 = chanlessColl s := chanlessColl_ite (off.trans h0) (chanlessColl_ite h0 (on.trans h0))
  clear_value y2
  have h3 : chanlessColl (y2.wr (CH_APPL_VALUE n) y) = chanlessColl y2 := rfl
  exact (chanlessColl_of (chanless_updExp.trans chanless_seeRef)).trans (h3.trans h2)
theorem chanlessColl_reclamp : chanlessColl (s.reclamp n) = chanlessColl s := by
  have h : chanlessColl (s.dropCloop n) = chanlessColl s := by
    unfold dropCloop
    exact chanlessColl_ite rfl rfl
  unfold reclamp refreshAppl
  exact chanlessColl_ite ((chanlessColl_of chanless_updExp).trans h) (chanlessColl_setAppl.trans h)
theorem chanlessColl_thaw {m : Nat} : chanlessColl ((s.thawGen m).reclamp m) = chanlessColl s := by
  rw [chanlessColl_reclamp]
  exact chanlessColl_of chanless_thawGen
theorem chanlessColl_unfreeze : chanlessColl (s.unfreeze n) = chanlessColl s := by
  unfold unfreeze
  extract_lets y
  have h : chanlessColl y = chanlessColl s := by
    unfold y
    split
    · exact chanlessColl_thaw
    · rfl
  clear_value y
  split
  · exact chanlessColl_thaw.trans h
  · exact h
theorem chanlessColl_enterSafeGen : chanlessColl (s.enterSafeGen n) = chanlessColl s := by
  unfold enterSafeGen
  extract_lets y0 y1 y2
  refine (chanlessColl_of (chanless_disrupt.trans (chanless_updExp.trans chanless_seeRef))).trans ?_
  have h0 : chanlessColl y0 = chanlessColl s := chanlessColl_unfreeze
  have h1 : chanlessColl y1 = chanlessColl s := by
    unfold y1
    split
    · exact h0
    · exact h0
  clear_value y0 y1
  exact chanlessColl_ite ((chanlessColl_of chanless_restGates).trans h1) h1
theorem chanlessColl_setLatch {cause : Nat} {ev : Option Nat} : chanlessColl (s.setLatch n cause ev) = chanlessColl s := by
  unfold setLatch
  extract_lets h h' two y0 y1 y2 y3
  refine chanlessColl_ite rfl ?_
  have k0 : chanlessColl y0 = chanlessColl s := rfl
  clear_value y0
  have k1 : chanlessColl y1 = chanlessColl s := chanlessColl_ite k0 k0
  clear_value y1
  have k2 : chanlessColl y2 = chanlessColl s := k1
  clear_value y2
  have k3 : chanlessColl y3 = chanlessColl s := (chanlessColl_enterSafeGen.trans chanlessColl_clampSafe).trans k2
  clear_value y3
  exact chanlessColl_ite ((chanlessColl_enterSafeGen.trans chanlessColl_clampSafe).trans k3) k3
theorem chanless_each {l : List Nat} {op : State → Nat → State} (h : ∀ t x, x ∈ l → chanless (op t x) = chanless t) :
    chanless (s.each l op) = chanless s := each_same chanless h

/-! ### The safe-state latch -/

/-- No field that an entry into the safe-state generator writes is a latch or its cause. -/
theorem safeGenFields_latch {m : Nat} : (∀ g ∈ safeGenFields m, (CH_SSTAT_LATCH n).key ≠ g.key) ∧ (∀ g ∈ safeGenFields m, (CH_SSTAT_CAUSE n).key ≠ g.key) := by
  constructor <;>
  · intro g hg
    simp only [safeGenFields, applFields, proofFields, List.mem_append, List.mem_cons, List.not_mem_nil, or_false] at hg
    rcases hg with ((rfl | rfl) | (rfl | rfl | rfl | rfl) | rfl | rfl | rfl) | hg
    all_goals try split at hg
    all_goals try simp only [List.mem_append, List.mem_cons, List.not_mem_nil, or_false] at hg
    all_goals try rcases hg with rfl | (rfl | rfl | rfl | rfl) | rfl | rfl | rfl
    all_goals
      simp only [Fld.key, CH_SSTAT_LATCH, CH_SSTAT_CAUSE, CH_STAT_FROZEN, CH_DRES_RESIDUE, CH_PVER_EXPLIT, CW_CVER_CVER, CH_PVER_STATE, CH_APPL_VALUE,
        CH_SHST_CLAMP, CH_SHST_DIS, CH_SHST_ACLOOP, chAddr, cwAddr, ne_eq]
      omega
theorem latchGen_rd {f : Fld} (h : ∀ g ∈ safeGenFields n, f.key ≠ g.key) : ((s.clampSafe n).enterSafeGen n).rd f = s.rd f := latchGen_fields f h
/-- R81: an open latch sets, with its cause. -/
theorem setLatch_sets {cause : Nat} {ev : Option Nat} (h : s.on (CH_SSTAT_LATCH n) = false) (hc : cause < 8) :
    (s.setLatch n cause ev).rd (CH_SSTAT_LATCH n) = 1 ∧ (s.setLatch n cause ev).rd (CH_SSTAT_CAUSE n) = cause := by
  unfold setLatch
  rw [if_neg (by simp [h])]
  extract_lets h h' two y0 y1 y2 y3
  have k2 : y2.rd (CH_SSTAT_LATCH n) = 1 ∧ y2.rd (CH_SSTAT_CAUSE n) = cause := by
    constructor
    · exact rd_put_same (by simp [CH_SSTAT_LATCH])
    · unfold y2
      rw [rd_put_ne (by simp only [Fld.key, CH_SSTAT_LATCH, CH_SSTAT_CAUSE]; omega), rd_wr_same]
      exact Nat.mod_eq_of_lt hc
  clear_value y2
  have ne := fun m => safeGenFields_latch (n := n) (m := m)
  have k3 : y3.rd (CH_SSTAT_LATCH n) = 1 ∧ y3.rd (CH_SSTAT_CAUSE n) = cause :=
    ⟨(latchGen_rd (ne n).1).trans k2.1, (latchGen_rd (ne n).2).trans k2.2⟩
  clear_value y3
  split
  · exact ⟨(latchGen_rd (ne _).1).trans k3.1, (latchGen_rd (ne _).2).trans k3.2⟩
  · exact k3

/-- R81: a set latch keeps its first cause. -/
theorem setLatch_set {cause : Nat} {ev : Option Nat} (h : s.on (CH_SSTAT_LATCH n) = true) : s.setLatch n cause ev = s := by
  unfold setLatch; rw [if_pos h]
theorem rd_bit {f : Fld} (hw : f.width = 1) (h : s.on f = true) : s.rd f = 1 := by
  have h1 : s.rd f < 2 ^ f.width := rd_lt
  rw [hw] at h1
  simp only [on, bne_iff_ne, ne_eq] at h
  omega
theorem off_bit {f : Fld} (h : s.on f = false) : s.rd f = 0 := by simpa [on] using h
theorem latchFields_other {m : Nat} (h : m ≠ n) : (∀ g ∈ latchFields m, (CH_SSTAT_LATCH n).key ≠ g.key) ∧
    (∀ g ∈ latchFields m, (CH_SSTAT_CAUSE n).key ≠ g.key) := by
  have ne := fun m => safeGenFields_latch (n := n) (m := m)
  constructor <;>
  · intro g hg
    unfold latchFields at hg
    rcases List.mem_append.1 hg with hg | hg
    · rcases List.mem_append.1 hg with hg | hg
      · simp only [List.mem_cons, List.not_mem_nil, or_false] at hg
        rcases hg with rfl | rfl
        · simp only [Fld.key, CH_SSTAT_LATCH, CH_SSTAT_CAUSE, chAddr, ne_eq]; omega
        · simp only [Fld.key, CH_SSTAT_LATCH, CH_SSTAT_CAUSE, chAddr, ne_eq]; omega
      · first
        | exact (ne _).1 g hg
        | exact (ne _).2 g hg
    · split at hg
      · first
        | exact (ne _).1 g hg
        | exact (ne _).2 g hg
      · cases hg
/-- R21, R31, R81: the latches of a list of channels: each is set, with the cause given unless it was set before. -/
theorem setLatches_sets {l : List Nat} {cause : Nat} {ev : Option Nat} (hl : l.Nodup) (hn : n ∈ l) (hc : cause < 8) :
    (s.setLatches l cause ev).rd (CH_SSTAT_LATCH n) = 1 ∧
    (s.setLatches l cause ev).rd (CH_SSTAT_CAUSE n) = if s.on (CH_SSTAT_LATCH n) then s.rd (CH_SSTAT_CAUSE n) else cause := by
  have h := each_once (s := s) (n := n) (l := l) (op := fun t n => t.setLatch n cause ev)
    (fun t => (t.rd (CH_SSTAT_LATCH n), t.rd (CH_SSTAT_CAUSE n))) (fun p => (1, if p.1 != 0 then p.2 else cause)) hl hn
    (fun t x _ hx => by rw [setLatch_fields _ (latchFields_other hx).1, setLatch_fields _ (latchFields_other hx).2])
    (fun t => by
      cases h : t.on (CH_SSTAT_LATCH n)
      · have := setLatch_sets (cause := cause) (ev := ev) h hc
        rw [this.1, this.2, off_bit h]; rfl
      · rw [setLatch_set h]
        simp only [rd_bit rfl h]; rfl)
  have h1 := congrArg Prod.fst h
  have h2 := congrArg Prod.snd h
  exact ⟨h1, h2⟩
theorem setLatches_fields {l : List Nat} {cause : Nat} {ev : Option Nat} :
    FieldsKept (l.flatMap latchFields) s (s.setLatches l cause ev) :=
  .each fun _ x hx => .mono (fun g hg => List.mem_flatMap.2 ⟨x, hx, hg⟩) setLatch_fields
theorem chanlessColl_setLatches {l : List Nat} {cause : Nat} {ev : Option Nat} : chanlessColl (s.setLatches l cause ev) = chanlessColl s :=
  each_same chanlessColl fun _ _ _ => chanlessColl_setLatch

/-- A latch of the list stands after it, however often the list names it. -/
theorem setLatches_mem {l : List Nat} {cause : Nat} {ev : Option Nat} (hc : cause < 8) (hn : n ∈ l) :
    (s.setLatches l cause ev).rd (CH_SSTAT_LATCH n) = 1 := by
  have one : ∀ (t : State), t.rd (CH_SSTAT_LATCH n) = 1 → ∀ x, (t.setLatch x cause ev).rd (CH_SSTAT_LATCH n) = 1 := by
    intro t ht x
    by_cases hx : x = n
    · subst hx
      rw [setLatch_set (by simp [on, ht])]; exact ht
    · rw [setLatch_fields _ (latchFields_other hx).1]; exact ht
  have all : ∀ (r : List Nat) (t : State), t.rd (CH_SSTAT_LATCH n) = 1 → (t.setLatches r cause ev).rd (CH_SSTAT_LATCH n) = 1 := by
    intro r
    induction r with
    | nil => exact fun t ht => ht
    | cons x r ih => exact fun t ht => ih (t.setLatch x cause ev) (one t ht x)
  induction l generalizing s with
  | nil => cases hn
  | cons x r ih =>
    rcases List.mem_cons.1 hn with rfl | h
    · refine all r (s.setLatch n cause ev) ?_
      cases hs : s.on (CH_SSTAT_LATCH n)
      · exact (setLatch_sets hs hc).1
      · rw [setLatch_set hs]; exact rd_bit rfl hs
    · exact ih (s := s.setLatch x cause ev) h

/-! ### Trips (R65, R66, R71, R201) -/

theorem disrupt_rx {x : Nat} : (s.disrupt n).rx x =
    if x = n / 8 ∧ s.dwelling n = true then { s.rx (n / 8) with disrupt := true, stopAt := some ((s.rx (n / 8)).stopAt.getD s.time) } else s.rx x := by
  unfold disrupt
  cases h : s.dwelling n
  · simp
  · by_cases hx : x = n / 8
    · subst hx; simp
    · simp [hx]
theorem disrupt_rest : { s.disrupt n with rxs := s.rxs } = s := by
  simp only [disrupt]
  split
  · rfl
  · rfl
theorem disrupt_part {α : Type} (P : State → α) (hP : ∀ x : State, ∀ r, P { x with rxs := r } = P x) : P (s.disrupt n) = P s := by
  have h := congrArg P (disrupt_rest (s := s) (n := n))
  rw [hP] at h
  exact h
/-- R65, R66: what a trip of channel n comes to, before its dwell is marked. -/
theorem trip_eq {f : Fld} {d : Nat} : s.trip n f d =
    ((((s.raiseFlag f).gatesOff n).bump (CH_TCNT_COUNT n)).report clChan (16 * n + d) 2 (n / 48)).disrupt n := rfl
theorem trip_gen {f : Fld} {d x : Nat} : (s.trip n f d).gen x =
    if x = n then s.seenGates n { s.gen n with hg := false, lg := false, phase := if (s.gen n).phase = .idle then .idle else .wait } else s.gen x := by
  rw [trip_eq, disrupt_part (·.gen x) fun _ _ => rfl, report_gen, bump_gen, gatesOff_gen, raiseFlag_gen, raiseFlag_gen]
  rfl
theorem trip_coll {f : Fld} {d : Nat} : (s.trip n f d).coll = (s.report clChan (16 * n + d) 2 (n / 48)).coll := by
  rw [trip_eq, disrupt_part (·.coll) fun _ _ => rfl]
  exact report_congr (by simp [gatesOff]) (by simp [gatesOff]) (by simp [gatesOff])
theorem trip_rx {f : Fld} {d x : Nat} : (s.trip n f d).rx x =
    if x = n / 8 ∧ s.dwelling n = true then { s.rx (n / 8) with disrupt := true, stopAt := some ((s.rx (n / 8)).stopAt.getD s.time) } else s.rx x := by
  have h1 : ((((s.raiseFlag f).gatesOff n).bump (CH_TCNT_COUNT n)).report clChan (16 * n + d) 2 (n / 48)).rxs = s.rxs := by simp [gatesOff]
  have h2 : ((((s.raiseFlag f).gatesOff n).bump (CH_TCNT_COUNT n)).report clChan (16 * n + d) 2 (n / 48)).time = s.time := by simp [gatesOff]
  rw [trip_eq, disrupt_rx]
  generalize ((((s.raiseFlag f).gatesOff n).bump (CH_TCNT_COUNT n)).report clChan (16 * n + d) 2 (n / 48)) = u at h1 h2 ⊢
  have hd : u.dwelling n = s.dwelling n := by simp only [dwelling, rx, h1]
  simp only [hd, rx, h1, h2]
theorem trip_rd {f g : Fld} {d : Nat} : (s.trip n f d).rd g = ((s.put f true).bump (CH_TCNT_COUNT n)).rd g := by
  rw [trip_eq, disrupt_part (·.rd g) fun _ _ => rfl]
  rfl
theorem chanless_trip {f : Fld} {d : Nat} : chanless { s.trip n f d with coll := s.coll } = chanless s := by
  rw [trip_eq]
  refine (disrupt_part (fun x => chanless { x with coll := s.coll }) fun _ _ => rfl).trans ?_
  simp [chanless, gatesOff]
theorem startAdj_rest : { s.startAdj n with regs := s.regs, rxs := s.rxs } = s := by
  simp only [startAdj]
  split
  · rfl
  · split
    · rfl
    · exact congrArg (fun t : State => { t with regs := s.regs, rxs := s.rxs }) (disrupt_rest (s := s.put (CH_ADJR_BUSY n) true) (n := n))
theorem startAdj_part {α : Type} (P : State → α) (hP : ∀ x : State, ∀ r q, P { x with regs := r, rxs := q } = P x) : P (s.startAdj n) = P s := by
  have h := congrArg P (startAdj_rest (s := s) (n := n))
  rw [hP] at h
  exact h
theorem startAdj_fields : FieldsKept [CH_ADJR_BUSY n, CH_ADJR_RES n, CH_ADJR_BOTH n] s (s.startAdj n) := by
  unfold startAdj
  exact .ite .refl (.ite (.put (by simp) (.wr (by simp) .refl)) (.disrupt (.put (by simp) .refl)))

end State
end Sys2Proof.Machine
end

