-- ==== Sys2Proof/WellFormed.lean ====
section
/-! DEFINITION. Well-formed commands: what the types of their operands leave to be checked. -/
namespace Sys2Proof

/-- R428 to R431: what a transport delivers as one frame: a data field of CAN FD (ISO 11898-1), elsewhere the payload of one datagram or
block. -/
def isFrame (tr : Fin 8) (l : List Byte) : Bool :=
  if tr < 4 then [1, 2, 3, 4, 5, 6, 7, 8, 12, 16, 20, 24, 32, 48, 64].contains l.length else decide (1 ≤ l.length) && decide (l.length ≤ 1472)

/-- The operands of a command are in range: lists hold what their rules name, once each. -/
def Instr.wellFormed : Instr → Bool
  | .registerWrite _ _ _ => true
  | .multiwordReadCapture _ _ => true
  | .dieLinkFailure _ => true
  | .fabricWaitExceeded _ => true
  | .fabricResponse _ _ => true
  | .converterSample _ _ _ => true
  | .spotlightSample _ _ _ => true
  | .crystalLost _ => true
  | .alwaysOnClockLost _ => true
  | .rcWatchdogExpiry _ => true
  | .fifoStall => true
  | .clusterStartComplete _ fails => decide (fails.map Prod.fst).Nodup
  | .vdrvFail _ => true
  | .vdrvRecover _ => true
  | .vdrvGood _ => true
  | .bootstrapUnderVoltage _ => true
  | .bootstrapRecover _ => true
  | .channelEnable _ _ _ => true
  | .topoWrite _ _ _ => true
  | .rangeChange _ _ _ => true
  | .rangeHoldEnd _ => true
  | .bkLoopUpdate _ iavg => decide (-2048 ≤ iavg) && decide (iavg ≤ 2047)
  | .cycleByCycleLimit _ _ => true
  | .overCurrent _ => true
  | .desaturation _ _ _ => true
  | .rampShort _ _ _ => true
  | .adjrun _ _ => true
  | .adjacencyTestEnd _ _ _ _ _ _ _ => true
  | .fltClear _ _ _ => true
  | .inrushWindowEnd _ => true
  | .kick _ _ _ => true
  | .leaseExpiry _ => true
  | .ownerWrite _ _ _ => true
  | .lholdWrite _ _ _ => true
  | .flashPhaseChange => true
  | .lbusFail _ => true
  | .lbusRecover _ => true
  | .deratingUpdate => true
  | .channelReset _ _ => true
  | .perWrite _ _ _ => true
  | .dimWrite _ _ _ => true
  | .phaseWrite _ _ _ => true
  | .edgeTimingWrite _ _ _ _ => true
  | .alignWrite _ _ _ => true
  | .codeWrite _ _ _ => true
  | .cidxWrite _ _ _ => true
  | .capturePoint _ => true
  | .periodBoundary _ => true
  | .onTimeEnd _ => true
  | .deadTimeEnd _ => true
  | .chipBoundary _ => true
  | .cclr _ _ => true
  | .rclr _ _ => true
  | .synciPulse _ width => decide (0 < width)
  | .frameMarkEmit => true
  | .frameMark => true
  | .marksLost => true
  | .freezeLgOff _ => true
  | .shadowWrite _ _ _ _ => true
  | .apply _ _ => true
  | .discard _ _ => true
  | .handOverStep _ => true
  | .localSyncRequest _ => true
  | .chainSyncRequest _ => true
  | .syncBroadcast => true
  | .tsyncArm _ => true
  | .tsync tr _ fr _ => isFrame tr fr
  | .tagReached => true
  | .aspectRequest _ _ _ => true
  | .groupApply _ _ => true
  | .aspectSwitch => true
  | .sequencerStart _ _ _ => true
  | .sequencerStop _ _ _ => true
  | .syncst _ _ _ => true
  | .lvl _ _ => true
  | .rmp _ _ => true
  | .rampStep _ _ _ => true
  | .patternWait _ _ => true
  | .patternWaitEnd _ _ => true
  | .rot _ _ => true
  | .patternLoop _ _ => true
  | .next _ _ => true
  | .jmp _ _ => true
  | .apl _ _ => true
  | .coarseLitEvaluation => true
  | .electricalVerdictPost _ _ _ => true
  | .opticalVerdictPost _ _ _ => true
  | .fusionTick => true
  | .aspectErrorReport _ => true
  | .aspectReaction _ => true
  | .opticalDegraded _ => true
  | .groupDegradedTimeout _ => true
  | .latchReleaseRequest _ _ _ => true
  | .codeBalanceQuery _ _ => true
  | .inputRangeWrite _ _ _ => true
  | .spotlightSaturation _ => true
  | .rangeStepDown _ => true
  | .dwellStart _ _ => true
  | .dwellEnd _ => true
  | .sweepStart _ => true
  | .sweepWake _ _ => true
  | .mapChange => true
  | .findingPost _ _ => true
  | .illegal _ => true
  | .add _ _ _ _ => true
  | .adc _ _ _ _ => true
  | .sub _ _ _ _ => true
  | .sbc _ _ _ _ => true
  | .and _ _ _ _ => true
  | .or _ _ _ _ => true
  | .xor _ _ _ _ => true
  | .andn _ _ _ _ => true
  | .adds _ _ _ _ => true
  | .subs _ _ _ _ => true
  | .neg _ _ _ => true
  | .negs _ _ _ => true
  | .abs _ _ _ => true
  | .abss _ _ _ => true
  | .min _ _ _ _ => true
  | .max _ _ _ _ => true
  | .sll _ _ _ _ => true
  | .srl _ _ _ _ => true
  | .sra _ _ _ _ => true
  | .rol _ _ _ _ => true
  | .ror _ _ _ _ => true
  | .clz _ _ _ => true
  | .popc _ _ _ => true
  | .shiSll _ _ _ _ => true
  | .shiSrl _ _ _ _ => true
  | .shiSra _ _ _ _ => true
  | .shiRol _ _ _ _ => true
  | .shiRor _ _ _ _ => true
  | .mul _ _ _ _ => true
  | .mulh _ _ _ _ => true
  | .mulhu _ _ _ _ => true
  | .mulq _ _ _ _ => true
  | .div _ _ _ _ => true
  | .divs _ _ _ _ => true
  | .divu _ _ _ _ => true
  | .rem _ _ _ _ => true
  | .remu _ _ _ _ => true
  | .addi _ _ _ _ => true
  | .subi _ _ _ _ => true
  | .andi _ _ _ _ => true
  | .ori _ _ _ _ => true
  | .xori _ _ _ _ => true
  | .addsi _ _ _ _ => true
  | .movi _ _ _ => true
  | .ld _ _ _ _ => true
  | .st _ _ _ _ => true
  | .ldp _ _ _ _ => true
  | .stp _ _ _ _ => true
  | .ldx _ _ _ _ => true
  | .stx _ _ _ _ => true
  | .vld _ _ _ _ _ => true
  | .vst _ _ _ _ _ => true
  | .xaddi _ _ _ _ => true
  | .xadd _ _ _ _ => true
  | .xaddu _ _ _ _ => true
  | .xgetl _ _ _ => true
  | .xgeth _ _ _ => true
  | .xsetl _ _ _ => true
  | .xseth _ _ _ => true
  | .xcmp _ _ _ => true
  | .xmov _ _ _ => true
  | .br _ _ _ => true
  | .call _ _ => true
  | .jmpx _ _ => true
  | .callx _ _ => true
  | .ret _ => true
  | .rete _ => true
  | .frame _ => true
  | .unframe _ => true
  | .lclr _ => true
  | .loop _ _ _ => true
  | .loopi _ _ _ => true
  | .mfs _ _ _ => true
  | .mts _ _ _ => true
  | .svc _ _ => true
  | .bkpt _ _ => true
  | .wait _ => true
  | .waitWake _ => true
  | .modeTk _ => true
  | .modeSv _ => true
  | .fenceL _ => true
  | .fenceG _ => true
  | .fenceIo _ => true
  | .fenceM _ => true
  | .mirrorAck _ _ => true
  | .mirrorAckTimeout _ => true
  | .xcor _ _ _ _ _ _ _ => true
  | .bmov _ _ _ => true
  | .kcrc _ _ _ _ => true
  | .vadd _ _ _ _ => true
  | .vsub _ _ _ _ => true
  | .vadds _ _ _ _ => true
  | .vsubs _ _ _ _ => true
  | .vand _ _ _ _ => true
  | .vor _ _ _ _ => true
  | .vxor _ _ _ _ => true
  | .vmin _ _ _ _ => true
  | .vmax _ _ _ _ => true
  | .vabs _ _ _ => true
  | .vabss _ _ _ => true
  | .vneg _ _ _ => true
  | .vnegs _ _ _ => true
  | .vmul _ _ _ _ => true
  | .vmulh _ _ _ _ => true
  | .vmulq _ _ _ _ => true
  | .vsll _ _ _ _ => true
  | .vsrl _ _ _ _ => true
  | .vsra _ _ _ _ => true
  | .vmov _ _ _ => true
  | .vsel _ _ _ _ => true
  | .vceq _ _ _ => true
  | .vclt _ _ _ => true
  | .vcltu _ _ _ => true
  | .aclr _ _ => true
  | .amac _ _ _ _ => true
  | .amsu _ _ _ _ => true
  | .aadd _ _ _ => true
  | .arnd _ _ _ _ => true
  | .aspl _ _ _ _ => true
  | .ajoin _ _ _ _ => true
  | .vbcst _ _ _ => true
  | .vext _ _ _ _ => true
  | .vins _ _ _ _ => true
  | .vsum _ _ _ => true
  | .lxi _ _ _ => true
  | .jmpa _ _ => true
  | .calla _ _ => true
  | .lda _ _ _ => true
  | .sta _ _ _ => true
  | .interrupt _ => true
  | .timerExpiry _ => true
  | .softInterrupt _ _ _ => true
  | .interruptClear _ _ _ => true
  | .dmaGo _ _ _ => true
  | .dmaStop _ _ _ moved => decide moved.Nodup
  | .moveDone _ _ order => decide order.Nodup
  | .ringRecord _ _ raw => decide (raw.length = 0 ∨ raw.length = 32)
  | .ringReadIndex _ _ _ _ => true
  | .scrubPass _ _ _ => true
  | .lockstepMismatch _ _ => true
  | .inputFault _ _ => true
  | .twinPost _ _ _ _ => true
  | .roundTimeout _ => true
  | .checkpointCommit _ _ _ => true
  | .spareStart _ => true
  | .takeoverDone _ _ => true
  | .waiveEnd _ => true
  | .clusterLost _ _ => true
  | .safetyInputSample _ _ => true
  | .testPulse _ _ => true
  | .testPulseCheck _ _ => true
  | .discrepancy _ => true
  | .engineChannelStale _ => true
  | .crossCheckFault _ => true
  | .twohandTimeout _ => true
  | .lampFailureClear _ => true
  | .functionReset _ _ => true
  | .outputRequest _ _ => true
  | .outputTestPulse _ _ _ => true
  | .outputReadback _ _ => true
  | .stoTestPulse _ _ => true
  | .adreqHoldEnd _ => true
  | .stopTimeout _ => true
  | .degradedExpiry _ => true
  | .switchRead _ _ _ _ => true
  | .sealCheck _ => true
  | .faultEvent => true
  | .collectorSelfCheckFail _ => true
  | .tokenRefill _ _ => true
  | .acknowledge _ _ _ _ => true
  | .firstFaultClear _ => true
  | .errnWrite _ _ => true
  | .errNPulseEnd => true
  | .safeOkToggle => true
  | .safeOkKick _ => true
  | .kickMissed => true
  | .retry _ _ _ => true
  | .data tr _ fr _ => isFrame tr fr
  | .join tr _ fr _ => isFrame tr fr
  | .accept tr _ fr _ => isFrame tr fr
  | .refuse tr _ fr _ => isFrame tr fr
  | .leave tr _ fr _ => isFrame tr fr
  | .still tr _ fr _ => isFrame tr fr
  | .connectionWatchdog _ => true
  | .dataSend _ => true
  | .txCommit _ _ => true
  | .txSend _ _ => true
  | .tsyncSend _ _ => true
  | .joinRetry _ => true
  | .openCommand _ _ => true
  | .closeCommand _ _ => true
  | .busOff _ => true
  | .ethernetLinkDown _ => true
  | .klDown => true
  | .timeMeasurement _ => true
  | .timeSourceLost => true
  | .heartbeatSend => true
  | .heartbeat _ hb _ => decide (hb.aspects.map Prod.fst).Nodup && decide hb.tflt.Nodup
  | .partnerLost => true
  | .tfltClear _ => true
  | .mirrorWrite _ _ => true
  | .mirrorTransferBlock _ blk _ _ => blk.length == 256
  | .transferRestart => true
  | .reenter _ => true
  | .abort _ => true
  | .reentryConfirm _ _ => true
  | .reentryInstant => true
  | .aspectDifference _ => true
  | .pairTimeOffset => true
  | .vcoreFail => true
  | .vcoreReturn => true
  | .vanaFail => true
  | .vbakFail => true
  | .supplyMonitor v => v.length == 11
  | .vioDip => true
  | .handOverCommit _ => true
  | .handOverComplete => true
  | .stabilityWindowEnd => true
  | .coldStart => true
  | .sleepArm _ _ => true
  | .sleepEntry _ _ => true
  | .sleepRefused _ => true
  | .wake _ => true
  | .alarm => true
  | .clusterStart _ _ => true
  | .clusterIdleRequest _ _ => true
  | .clusterIdle _ => true
  | .chargeInhibit => true
  | .chargeResume => true
  | .temperatureConversion raw ds => decide (raw.map Prod.fst).Nodup && ds.length == 16
  | .recordWrite _ => true
  | .energyRecheck _ => true
  | .submission _ => true
  | .sageUpdate => true
  | .sageSnapshot => true
  | .marginWalk weak => decide weak.Nodup
  | .flashRefresh _ _ => true
  | .powerUp => true
  | .resetPin => true
  | .softReset _ _ => true
  | .powerCycleRequest _ _ => true
  | .powerCycleTimeout => true
  | .startUp _ _ _ _ _ _ _ _ _ _ _ proof => decide (proof.map Prod.fst).Nodup
  | .raise _ _ => true
  | .read _ n arrived _ => decide (arrived ≤ n) && decide (n ≤ 0x1000000)
  | .write _ words _ _ => decide (words.length ≤ 0x1000000)
  | .status => true
  | .hostDoorbell _ _ _ => true
  | .deviceDoorbell _ _ _ => true
  | .mailboxClear _ _ _ => true
  | .erase _ _ => true
  | .prog _ _ => true
  | .flashCommandComplete _ => true
  | .retrain _ => true
  | .klStateChange _ => true
  | .klLaneFail _ => true
  | .extest => true
  | .samplePreload _ => true
  | .idcode => true
  | .clamp => true
  | .highz => true
  | .bypass => true
  | .dbgauth _ => true
  | .dbgacc _ _ _ => true
  | .debugHalt => true
  | .resume => true
  | .step => true
  | .debugRegisterWrite _ => true
  | .otpWrite => true
  | .dieLinkRealigned _ => true
  | .soOverloadTrip _ => true
  | .vanaReturn => true
  | .vbakReturn => true
  | .ethernetLinkUp _ => true
  | .busOffRecovery _ => true
  | .hostUnknownCommand _ => true
  | .classStormEmit _ => true

end Sys2Proof
end

