-- ==== Sys2Proof/Tests/Slice0.lean ====
section
/-! SUPPORT. The model's own tests: ill-formed terms that the checks refuse, and a witness for the hypotheses of each statement. -/
namespace Sys2Proof.Tests
open Sys2Proof Sys2Proof.Machine Sys2Proof.Safety
/-- A device that is powered, out of reset, and in WATCH. -/
def base : State :=
  { (((State.reset.wr PWR_SUPST_VCORE 1).wr PWR_SUPST_VAON 1).wr PWR_SUPST_VANA 1).wr PWR_SUPST_VIO 1 with pwr := { released := true } }
/-- Cluster 0 runs, and its core 0 stands at an address, in SV. -/
def atCode (pc : Nat) : State := (base.wr (PWR_CST_STATE 0) 3).modCore 0 fun c => { c with run := true, pc := pc }
/-- A core whose registers are all 0 has them in their widths. -/
theorem zero_words {c : Core} (h : c.file = []) (k : Nat) : c.reg k < (if k < 144 then 4096 else if k < 160 then 2 ^ 24 else if k < 672 then 4096 else 2 ^ 36) := by
  have : c.reg k = 0 := by rw [Core.reg, h]; rfl
  rw [this]; split_ifs <;> norm_num
/-- The words of a code, and of an immediate after it, stand at the PC of core 0. -/
def withCode (code : Nat) (imm : Nat := 0) : State :=
  { atCode 0x400010 with flash := [(0x400010, code / 4096), (0x400011, code % 4096), (0x400012, imm / 4096), (0x400013, imm % 4096)] }
theorem withCode_issues (code imm : Nat) : Issues (withCode code imm) 0 2 ∧ Issues (withCode code imm) 0 4 := by
  have hc : (withCode code imm).core 0 = (atCode 0x400010).core 0 := rfl
  have hb : (withCode code imm).bad = [] := rfl
  have hr : (atCode 0x400010).core 0 = { run := true, pc := 0x400010 } := by decide
  have hp : (withCode code imm).programming = fun _ => false := by funext a; rfl
  have hz : CoreSized ((withCode code imm).core 0) := by
    rw [hc, hr]
    exact ⟨zero_words rfl, by decide, by decide, by intro x h; cases h⟩
  have hk : (withCode code imm).breakpoint 0 = none := by
    rw [show (withCode code imm).breakpoint 0 = (atCode 0x400010).breakpoint 0 from rfl]; decide
  refine ⟨⟨rfl, ⟨rfl, rfl, rfl⟩, hk, ?_, hz⟩, ⟨rfl, ⟨rfl, rfl, rfl⟩, hk, ?_, hz⟩⟩ <;>
    simp [State.fetchFault, hc, hr, hp, State.isBad, hb, List.range, List.range.loop, region]
/-- The hypotheses of every statement about an instruction of two words: core 0 issues it, and its own code stands at the PC. -/
theorem test_stands (i : Instr) {code free : Nat} (h : codeOf i = some (0, code, free, none)) : Issues (withCode code) 0 2 ∧ Stands (withCode code) i :=
  ⟨(withCode_issues code 0).1, 0, code, free, none, h,
    by rw [show (withCode code).codeAt 0 = code / 4096 * 4096 + code % 4096 from rfl, Nat.div_add_mod'], by simp⟩
/-- The same of an extended instruction, with its immediate. -/
theorem test_stands_long (i : Instr) {code free imm : Nat} (h : codeOf i = some (0, code, free, some imm)) :
    Issues (withCode code imm) 0 4 ∧ Stands (withCode code imm) i :=
  ⟨(withCode_issues code imm).2, 0, code, free, some imm, h,
    by rw [show (withCode code imm).codeAt 0 = code / 4096 * 4096 + code % 4096 from rfl, Nat.div_add_mod'],
    by rintro x ⟨⟩; rw [show (withCode code imm).immAt 0 = imm / 4096 * 4096 + imm % 4096 from rfl, Nat.div_add_mod']⟩


/-! ### Ill-formed commands, one for each check -/

theorem test_wf_list_once : Instr.wellFormed (.clusterStartComplete 0 [(3, 1), (3, 2)]) = false ∧
    Instr.wellFormed (.dmaStop .host 0 0 [1, 1]) = false ∧ Instr.wellFormed (.moveDone 0 0 [2, 2]) = false ∧
    Instr.wellFormed (.marginWalk [4, 4]) = false ∧
    Instr.wellFormed (.temperatureConversion [(0, .diode 1 1), (0, .diode 2 2)] (List.replicate 16 0)) = false ∧
    Instr.wellFormed (.startUp 0 0 0 0 0 0 false false true true 0 [(5, 0), (5, 1)]) = false := by decide
theorem test_wf_range : Instr.wellFormed (.bkLoopUpdate 0 2048) = false ∧ Instr.wellFormed (.bkLoopUpdate 0 (-2049)) = false ∧
    Instr.wellFormed (.synciPulse 0 0) = false ∧ Instr.wellFormed (.read 0 1 2 false) = false ∧
    Instr.wellFormed (.read 0 0x1000001 0 false) = false := by decide
theorem test_wf_length : Instr.wellFormed (.ringRecord 0 8 [1, 2]) = false ∧ Instr.wellFormed (.mirrorTransferBlock 0 [1] 0 false) = false ∧
    Instr.wellFormed (.supplyMonitor []) = false ∧ Instr.wellFormed (.temperatureConversion [] []) = false := by decide
theorem test_wf_write (l : List Word) (h : l.length = 0x1000001) : Instr.wellFormed (.write 0 l false false) = false := by
  show decide (l.length ≤ 0x1000000) = false
  rw [h]; decide
/-- A data field of CAN FD is never nine bytes long (ISO 11898-1), and no frame is empty. -/
theorem test_wf_frame : Instr.wellFormed (.data 0 0 (List.replicate 9 0) true) = false ∧ Instr.wellFormed (.join 4 0 [] true) = false ∧
    Instr.wellFormed (.accept 3 0 (List.replicate 65 0) true) = false ∧ Instr.wellFormed (.refuse 7 0 [] true) = false ∧
    Instr.wellFormed (.leave 1 0 (List.replicate 13 0) true) = false ∧ Instr.wellFormed (.still 6 0 [] true) = false ∧
    Instr.wellFormed (.tsync 2 0 (List.replicate 33 0) true) = false := by decide
theorem test_wf_heartbeat : Instr.wellFormed (.heartbeat true ⟨1, 0, true, 2, 0, false, [(0, 1, false), (0, 2, false)], []⟩ 0) = false ∧
    Instr.wellFormed (.heartbeat true ⟨1, 0, true, 2, 0, false, [], [7, 7]⟩ 0) = false := by decide
/-- Terms that the checks accept. -/
theorem test_wf_good : Instr.wellFormed (.bkLoopUpdate 0 (-2048)) = true ∧ Instr.wellFormed (.data 0 0 (List.replicate 32 0) true) = true ∧
    Instr.wellFormed (.clusterStartComplete 0 [(3, 1), (4, 2)]) = true ∧ Instr.wellFormed (.read 0 2 1 false) = true := by decide

/-! ### Codes and frames -/

/-- opcode_table.json gives no row any bits. -/
theorem test_no_word : decodeTableWord 24 0x041020 = none := rfl
/-- The worked example after R424: the header of a DATA frame of 0x3A10_0007, SEQ 0x0125, TEXP 50 ms, LEN 12, and its nine bytes. -/
theorem test_frame_header : ksfHeader 0x3A100007 0x0125 50 12 = [0x007, 0x100, 0x53A, 0x012, 0x032, 0x00C] := by decide
theorem test_frame_bytes : packWords [0x007, 0x100, 0x53A, 0x012, 0x032, 0x00C] = [0x00, 0x71, 0x00, 0x53, 0xA0, 0x12, 0x03, 0x20, 0x0C] ∧
    frameBytes 12 = 32 ∧ frameBytes 40 = 74 := by decide
theorem test_frame_words : unpackWords [0x00, 0x71, 0x00, 0x53, 0xA0, 0x12, 0x03, 0x20, 0x0C] = [0x007, 0x100, 0x53A, 0x012, 0x032, 0x00C] := by
  decide
/-- R424: an odd last word gives w[11:4] and w[3:0] × 16. -/
theorem test_frame_odd : packWords [0x123, 0x456, 0xABC] = [0x12, 0x34, 0x56, 0xAB, 0xC0] := by decide
/-- R233 and R234, the fields written out: ADD L1, L2, L3 of core 0; BR with condition 0 four instructions back; LDA L0, 0x123456. -/
theorem test_code_fields : codeOf (.add 0 1 2 3) = some (0, 0b000001_00001_00010_00011_000, 0, none) ∧
    codeOf (.br 0 0 (-4)) = some (0, 0b100000_0000_11111111111100, 0, none) ∧
    codeOf (.lda 0 0 0x123456) = some (0, 0b111000_00000_011_0000000000, 0, some 0x123456) := by decide
/-- R234, R236: opcode 0 is reserved; R235: function 6 of opcode 3 takes no rs2. -/
theorem test_refused_codes : illegalDetail 0 = some 1 ∧ illegalDetail 0b000011_00001_00010_00001_110 = some 2 ∧
    illegalDetail 0b000001_00001_00010_00011_000 = none := by decide

/-! ### Single steps -/

/-- R29: an always-on tick advances device time by 1. -/
theorem test_tick_time : State.reset.tickTime.devTime = 1 ∧ ({ State.reset with time := 2 ^ 48 - 1 }).tickTime.devTime = 0 := by decide
/-- R15: a set by hardware in this cycle wins over a clear by software. -/
theorem test_hardware_wins : (((State.reset.raiseBit HIF_IPEND_LINES 3).softClear HIF_IPEND_LINES 8).rd HIF_IPEND_LINES) = 8 ∧
    ((({ (State.reset.raiseBit HIF_IPEND_LINES 3) with hwNow := [] }).softClear HIF_IPEND_LINES 8).rd HIF_IPEND_LINES) = 0 := by decide
/-- R5: of SAFE and MAINT in one cycle SAFE is taken; SAFE is not left. -/
theorem test_transitions : ((State.reset.transition .maint).transition .safe).dev = .safe ∧
    ((State.reset.transition .safe).transition .watch).dev = .safe := by decide

/-! ### StepRunsFrontCommand -/

/-- StepRunsFrontCommand: a queue that is not empty. -/
theorem test_front : (base.withFetchWord 24 0).pending = base.pending ∧
    ({ base with pending := [.fifoStall] } : State).pending = .fifoStall :: [] := by decide

/-! ### EmptyQueueLetsOneTickPass -/

/-- EmptyQueueLetsOneTickPass: the state after reset meets the hypotheses. -/
theorem test_idle : State.reset.pending = [] ∧ State.reset.pwr.sleepDue = none ∧ State.reset.clock.owed = 0 ∧ State.reset.pair.deferTo = none ∧ State.reset.pair.late = [] := by decide

/-! ### EveryStepKeepsStoredForm -/

/-- EveryStepKeepsStoredForm, OneTimeMemoryKeepsItsOnes: the state after reset steps, and is in form. -/
theorem test_stored : SMap.wf 0 base.mem = true ∧ ∃ t, step base = .next t :=
  ⟨rfl, _, rfl⟩

/-! ### SafeIsLeftOnlyByDeviceReset -/

/-- SafeIsLeftOnlyByDeviceReset: a started device in SAFE steps. -/
theorem test_safe_steps : ∃ s t : State, s.dev = .safe ∧ s.up = true ∧ step s = .next t :=
  ⟨{ base with dev := .safe, up := true }, _, rfl, rfl, rfl⟩

/-! ### RefusedAccessChangesNoRegister -/

/-- RefusedAccessChangesNoRegister: an address without a register, and SN_OUTREQ for the host, which may not write it. -/
theorem test_denied : base.unreached 0xD7FFFF = false ∧ regAt 0xD7FFFF = none ∧
    (let s := base.wr DBG_STAT_UNLOCK 1
     s.unreached SN_OUTREQ.addr = false ∧ (regAt SN_OUTREQ.addr).any (fun reg => reg.name = .SN_OUTREQ ∧ s.mayWrite .host reg = false) = true ∧
       s.executes 0 = false ∧ (atCode 0x400010).executes 0 = true ∧ (atCode 0x400010).unreached 0xD7FFFF = false ∧ Room (atCode 0x400010) 0 ∧ s.rd (DSTAT_STATE 1 2) = 0 ∧ (s.wr (DSTAT_STATE 1 2) 1).rd (DSTAT_STATE 1 2) = 1) := by decide

/-! ### RegisterWordsAreStagedWrittenAndCaptured -/

/-- RegisterWordsAreStagedWrittenAndCaptured: the debug port, unlocked, and HIF_FLADR; each clause's hypotheses hold. -/
theorem test_words : let s := base.wr DBG_STAT_UNLOCK 1
    s.unreached 0xD90011 = false ∧ s.silent .debug = false ∧ regAt 0xD90011 = some HIF_FLADR ∧ regAt 0xD90012 = some HIF_FLADR ∧ s.mayWrite .debug HIF_FLADR = true ∧
      0xD90011 - HIF_FLADR.addr + 1 < HIF_FLADR.words ∧ s.mayRead .debug HIF_FLADR = true ∧ HIF_FLADR.addr = 0xD90011 := by decide

/-! ### SealedFieldKeepsItsValue -/

/-- SealedFieldKeepsItsValue: the debug port, unlocked; the reset value is in range; sealed and not sealed. -/
theorem test_sealed : let s := base.wr DBG_STAT_UNLOCK 1
    s.unreached 0xD40043 = false ∧ s.mayWrite .debug PWR_HCAP = true ∧ 10 ≤ s.rd PWR_HCAP_CAP ∧ s.sealed = false ∧ (s.wr SEAL_STAT_STATE 1).sealed = true ∧
      (s.wr SEAL_STAT_STATE 1).mayWrite .debug PWR_HCAP = true := by decide

/-! ### DieSupplyEventsHoldTheGates -/

/-- DieSupplyEventsHoldTheGates: VDRVOK of a die can be 1, and no channel follows a track. -/
theorem test_vdrv_ok : (∀ n, n / 48 = 2 → base.on (CH_SHST_ASRC n) = false ∧ base.activeKind n ≠ 3) ∧ (base.putBit PWR_SUPST_VDRVOK 2 true).bit PWR_SUPST_VDRVOK 2 = true := by
  have h : ∀ n, n < 144 → base.on (CH_SHST_ASRC n) = false ∧ base.activeKind n ≠ 3 := by decide +kernel
  exact ⟨fun n hn => h n (by omega), by decide⟩

/-! ### ChannelHoldAndLimitEvents -/

/-- ChannelHoldAndLimitEvents: an inrush window that is over. -/
theorem test_inrush : let s := { base.modGen 5 fun g => { g with inrush := true } with time := 10000000 }
    (s.gen 5).inrush = true ∧ (s.gen 5).inrAt + 160 * s.rd (CH_INRUSH_TIME 5) ≤ s.time := by decide
/-- ChannelHoldAndLimitEvents: a channel with HG on and a limit of 80, and a frozen BK channel after a limit action. -/
theorem test_limit : let s := (base.wr (CH_STAT_FROZEN 5) 1).wr (CH_CFG_TOPO 5) 2
    let t := s.modGen 5 fun g => { g with hg := true, frzLim := true }
    (t.gen 5).hg = true ∧ t.rd (CH_ILIM_LIM 5) < 81 ∧ t.rd (CH_STAT_FROZEN 5) = 1 ∧ t.rd (CH_CFG_TOPO 5) = 2 ∧ (t.gen 5).frzLim = true := by decide
/-- ChannelHoldAndLimitEvents: a hold 8 µs old, of a channel that is powered and of one that is not. -/
theorem test_hold : let s := { base.wr (CH_STAT_RHOLD 5) 1 with time := 128 }
    let t := (s.wr (CH_CFG_EN 5) 1).wr (CH_CFG_TOPO 5) 1
    s.rd (CH_STAT_RHOLD 5) = 1 ∧ (s.prot 5).holdAt + 128 ≤ s.time ∧ s.powered 5 = false ∧ s.rd (CH_STAT_FROZEN 5) = 0 ∧ t.powered 5 = true ∧
      t.rd (CH_STAT_RHOLD 5) = 1 := by decide

/-! ### SafeStateLatchesSetWithTheirCause -/

/-- SafeStateLatchesSetWithTheirCause: an armed lease, without and with LHOLD. -/
theorem test_armed : let s := base.wr (CH_STAT_LARM 7) 1
    s.rd (CH_STAT_LARM 7) = 1 ∧ s.rd (CH_LEASE_LHOLD 7) = 0 ∧ s.rd (CH_LREM_TICKS 7) = 0 ∧ (s.wr (CH_LEASE_LHOLD 7) 1).rd (CH_STAT_LARM 7) = 1 ∧
      (s.wr (CH_LEASE_LHOLD 7) 1).rd (CH_LEASE_LHOLD 7) = 1 := by decide
/-- SafeStateLatchesSetWithTheirCause: no channel is frozen or doubled. -/
theorem test_plain : ∀ n, n < 192 → base.rd (CH_STAT_FROZEN n) = 0 ∧ base.rd (MIR_SPLIT_DBL n) = 0 := by decide +kernel

/-! ### ChannelProtectionTrips -/

/-- ChannelProtectionTrips: a channel with HG on after 8 limit actions, thresholds exceeded, and one whose adjacency test runs, with a neighbour. -/
theorem test_trip : let s := base.modGen 5 fun g => { g with hg := true, limCount := 8 }
    s.rd (CH_OCN_N 5) ≠ 0 ∧ s.rd (CH_OCN_N 5) ≤ (s.gen 5).limCount + (s.gen 5).limThis.toNat ∧ (s.gen 5).inrush = false ∧ s.tripped 5 = false ∧
    100 * (s.rd (CH_DSAT_BLANK 5) + 1) ≤ 9000 ∧ 500 + 250 * s.rd (CH_DSAT_VTH 5) < 9000 ∧ s.rd (CH_FLT_DSAT 5) = 0 ∧
    s.rd (CH_ADJR_BUSY 5) = 0 ∧ 2 * s.limit 5 < 400 ∧ s.rd (CH_FLT_RSHORT 5) = 0 ∧
    (s.wr (CH_ADJR_BUSY 5) 1).rd (CH_ADJR_BUSY 5) = 1 ∧ shortNm 100 80 0 0 = true ∧ s.nb0 5 = some 4 ∧ s.nb1 5 = some 6 := by decide

/-! ### ChannelControlWrites -/

/-- ChannelControlWrites: the debug port, unlocked, in MAINT; each row's register and hypotheses. -/
theorem test_chan_writes : let s := { base.wr DBG_STAT_UNLOCK 1 with dev := .maint }
    AcceptsField s .debug (CH_SENSE 3) (CH_SENSE_RANGE 3) 1 ∧ s.rd (CH_STAT_RHOLD 3) = 0 ∧ 1 ≠ s.rd (CH_SENSE_RANGE 3) ∧
    Accepts s .debug (CH_CMD 3) 1 ∧ s.rd (CH_ADJR_BUSY 3) = 0 ∧ s.rd (CH_APPL_VALUE 3) = 0 ∧ (s.nb0 3).isSome = true ∧
    Accepts s .debug (CH_FLT 3) 5 ∧ Accepts s .debug (CH_OWNER 3) 0x805 ∧ s.ownerOk .debug 3 5 = true ∧ s.follows 3 = false ∧
    AcceptsField s .debug (CH_LEASE 3) (CH_LEASE_LHOLD 3) 1 ∧ 5 ≤ s.rd (CH_LEASE_LEN 3) ∧ s.rd (CH_LEASE_LEN 3) ≤ 100 := by
  refine ⟨⟨?_, ?_, ?_, ?_, ?_⟩, ?_, ?_, ⟨?_, ?_, ?_, ?_, ?_⟩, ?_, ?_, ?_, ⟨?_, ?_, ?_, ?_, ?_⟩, ⟨?_, ?_, ?_, ?_, ?_⟩, ?_, ?_,
    ⟨?_, ?_, ?_, ?_, ?_⟩, ?_, ?_⟩ <;> decide
/-- ChannelControlWrites: an owner core that is in SV mode kicks an armed lease; another requester does not own it. -/
theorem test_kick : let s := { (((base.wr (PWR_CST_STATE 0) 3).wr (CH_STAT_LARM 3) 1).wr (CH_OWNER_VALID 3) 1).modCore 0 (fun c => { c with ps := 0x300, run := true }) with dev := .run }
    Accepts s (.core 0) (CH_KICK 3) 0x5A5 ∧ s.rd (CH_STAT_LARM 3) = 1 ∧ s.isOwner (.core 0) 3 = true ∧ (s.prot 3).key = false ∧
    s.ownerOk (.core 4) 3 2 = false := by
  refine ⟨⟨?_, ?_, ?_, ?_, ?_⟩, ?_, ?_, ?_, ?_⟩ <;> decide

/-! ### EdgeEventsOfAChannel -/

/-- EdgeEventsOfAChannel: an enabled BK channel with its code on, in each of the phases, with and without a pending change. -/
theorem test_edge_events : let s := (((base.wr (CH_CFG_TOPO 3) 2).wr (CH_CFG_EN 3) 1).wr (CH_CODE_EN 3) 1)
    (let l := s.modGen 3 fun g => { g with phase := .low, capt := true, lg := true, onNext := 5 }
     (l.gen 3).phase = .low ∧ (l.gen 3).capt = true ∧ (l.gen 3).lg = true ∧ (l.gen 3).onNext ≠ 0 ∧ l.rd (CH_DTR_VALUE 3) ≠ 0) ∧
    s.rd (CH_STAT_FROZEN 3) = 0 ∧ s.powered 3 = true ∧ s.topo 3 = 2 ∧ s.rd (CH_CODE_EN 3) = 1 ∧
      s.rd (CH_ESTAT_PEND 3) = 0 ∧ (s.wr (CH_ESTAT_PEND 3) 1).rd (CH_ESTAT_PEND 3) = 1 ∧ s.latched 3 = false ∧
      (s.wr (CH_CODE_EN 3) 0).rd (CH_CODE_EN 3) = 0 ∧
      ((s.modGen 3 fun g => { g with phase := .on }).gen 3).phase = .on ∧ ((s.modGen 3 fun g => { g with curLen := 700 }).gen 3).onCur < 16 * 700 ∧
      ((s.modGen 3 fun g => { g with phase := .fall }).gen 3).phase = .fall ∧ ((s.modGen 3 fun g => { g with phase := .rise }).gen 3).phase = .rise ∧
      ((s.modGen 3 fun g => { g with phase := .wait }).gen 3).phase = .wait ∧ (s.wr (CH_STAT_FROZEN 3) 1).rd (CH_STAT_FROZEN 3) = 1 := by
  decide

/-! ### OnTimeArithmetic -/

/-- OnTimeArithmetic: each case is met: a short pulse, a short gap, a plain on-time, each MPM code (N = 255, P = 25,500). -/
theorem test_on_time : (onTime 0 1 255 25500 25500 200 200 0).1 = 0 ∧ (onTime 1 1 255 25500 25500 200 200 0).1 = 200 ∧
    onTime 2 1 255 25500 25500 200 200 0 = (0, 25500, 3) ∧ (onTime 2 254 255 25500 25500 200 200 0).1 = 25500 ∧
    onTime 3 100 255 25500 25500 200 200 7 = (10000, 7, 0) := by decide

/-! ### EdgeTimingRegisterWrites -/

/-- EdgeTimingRegisterWrites: the debug port, unlocked, on an enabled HS channel: each row's value and hypotheses. -/
theorem test_edge_writes : let s := ((base.wr DBG_STAT_UNLOCK 1).wr (CH_CFG_TOPO 3) 1).wr (CH_CFG_EN 3) 1
    Accepts s .debug (CH_PER 3) 20000 ∧ s.powered 3 = true ∧ perOk (s.topo 3) 20000 = true ∧ (s.gen 3).phaseF < 20000 ∧
    quarterOk 20000 (s.rd (CH_MINH_VALUE 3)) (s.rd (CH_DTF_VALUE 3)) (s.rd (CH_MINL_VALUE 3)) (s.rd (CH_DTR_VALUE 3)) = true ∧
    perOk (s.topo 3) 700 = false ∧ Accepts s .debug (CH_PER 3) 700 ∧
    Accepts s .debug (CH_DIM 3) 3 ∧ Accepts s .debug (CH_PHASE 3) 100 ∧ 100 < s.rd (CH_PER_PER 3) ∧ Accepts s .debug (CH_PHASE 3) 16000 ∧ s.rd (CH_PER_PER 3) ≤ 16000 := by
  refine ⟨⟨?_, ?_, ?_, ?_, ?_⟩, ?_, ?_, ?_, ?_, ?_, ⟨?_, ?_, ?_, ?_, ?_⟩, ⟨?_, ?_, ?_, ?_, ?_⟩, ⟨?_, ?_, ?_, ?_, ?_⟩, ?_, ⟨?_, ?_, ?_, ?_, ?_⟩, ?_⟩ <;> decide
/-- EdgeTimingRegisterWrites: a state within the gate-power budget. -/
theorem test_edge_budget : (base.budgetOk (((base.wr (CH_CODE_EN 3) 1).wr (CH_CODE_CHIPR 3) 0).wr (CH_CODE_DEPTH 3) 20) 0 = true ∧
    (CH_CODE_CHIPR 3).of 0xA1 ≠ 3) ∧ base.budgetOk (base.wr (CH_PER_PER 3) 20000) 0 = true ∧ base.budgetOk (base.wr (CH_DIM_RES 3) 3) 0 = true := by decide +kernel
/-- EdgeTimingRegisterWrites: the remaining rows, and a value each rule refuses. -/
theorem test_edge_writes2 : let s := ((base.wr DBG_STAT_UNLOCK 1).wr (CH_CFG_TOPO 3) 1).wr PWR_FRAME_VALUE 4
    Accepts s .debug (CH_DTR 3) 0x100 ∧ Accepts s .debug (CH_MINL 3) 0x100 ∧ quarterOk 16000 0x100 0x100 0x100 0x100 = true ∧
    quarterOk 700 0xFFF 0x100 0x100 0x100 = false ∧ AcceptsField s .debug (CH_ALN 3) (CH_ALN_ALIGN 3) 1 ∧
    s.rd PWR_FRAME_VALUE * 4000 % s.rd (CH_PER_PER 3) = 0 ∧ (s.wr PWR_FRAME_VALUE 5).rd PWR_FRAME_VALUE * 4000 % s.rd (CH_PER_PER 3) ≠ 0 ∧
    Accepts s .debug (CH_CODE 3) 0xA1 ∧ Accepts s .debug (CH_CIDX 3) 1024 ∧ Accepts s .debug (CH_CIDX 3) 1025 ∧
    Accepts s .debug (CH_ECMD 3) 1 ∧ Accepts s .debug (CH_ECMD 3) 2 := by
  refine ⟨⟨?_, ?_, ?_, ?_, ?_⟩, ⟨?_, ?_, ?_, ?_, ?_⟩, ?_, ?_, ⟨?_, ?_, ?_, ?_, ?_⟩, ?_, ?_, ⟨?_, ?_, ?_, ?_, ?_⟩, ⟨?_, ?_, ?_, ?_, ?_⟩, ⟨?_, ?_, ?_, ?_, ?_⟩,
    ⟨?_, ?_, ?_, ?_, ?_⟩, ⟨?_, ?_, ?_, ?_, ?_⟩⟩ <;> decide

/-! ### ChannelEnableTopologyAndReset -/

/-- ChannelEnableTopologyAndReset: the debug port, unlocked, on an HS channel with QG = 10, disabled and enabled. -/
theorem test_enable : let s := ((base.wr DBG_STAT_UNLOCK 1).wr (CH_CFG_TOPO 3) 1).wr (CH_GDRV_QG 3) 10
    let e := s.wr (CH_CFG_EN 3) 1
    AcceptsField e .debug (CH_CFG 3) (CH_CFG_EN 3) 0 ∧ e.rd (CH_CFG_EN 3) = 1 ∧
    AcceptsField s .debug (CH_CFG 3) (CH_CFG_EN 3) 1 ∧ s.rd (CH_CFG_EN 3) = 0 ∧ 1 ≤ s.rd (CH_GDRV_QG 3) ∧ s.rd (CH_GDRV_QG 3) ≤ 80 ∧
    perOk (s.topo 3) (s.rd (CH_PER_PER 3)) = true ∧ s.powered 3 = false ∧ s.topo 3 ≠ 0 ∧
    AcceptsField s .debug (CH_CFG 3) (CH_CFG_TOPO 3) 2 ∧ 2 ≠ s.topo 3 ∧ AcceptsField e .debug (CH_CFG 3) (CH_CFG_TOPO 3) 2 := by
  refine ⟨⟨?_, ?_, ?_, ?_, ?_⟩, ?_, ⟨?_, ?_, ?_, ?_, ?_⟩, ?_, ?_, ?_, ?_, ?_, ?_, ⟨?_, ?_, ?_, ?_, ?_⟩, ?_, ⟨?_, ?_, ?_, ?_, ?_⟩⟩ <;> decide
/-- ChannelEnableTopologyAndReset: the reset state, and a BK period, keep the budget; the other rows' hypotheses. -/
theorem test_chan_reset : let s := base.wr DBG_STAT_UNLOCK 1
    let l := (s.wr (CH_LEASE_LHOLD 3) 1).wr (CH_STAT_LARM 3) 1
    Accepts s .debug (CH_CMD 3) 2 ∧ AcceptsField l .debug (CH_LEASE 3) (CH_LEASE_LHOLD 3) 0 ∧ l.rd (CH_LREM_TICKS 3) = 0 ∧
    ((s.wr (CH_SSTAT_LATCH 3) 1).wr (SEAL_SS_STATE 3) 2).latched 3 = true ∧ ((s.wr (CH_SSTAT_LATCH 3) 1).wr (SEAL_SS_STATE 3) 2).safeState 3 = 2 := by
  refine ⟨⟨?_, ?_, ?_, ?_, ?_⟩, ⟨?_, ?_, ?_, ?_, ?_⟩, ?_, ?_, ?_⟩ <;> decide
/-- ChannelEnableTopologyAndReset: within the gate-power budget, before and after the change of topology. -/
theorem test_enable_budget : let s := (base.wr (CH_CFG_TOPO 3) 1).wr (CH_GDRV_QG 3) 10
    s.budgetOk (((s.wr (CH_CFG_TOPO 3) 2).wr (CH_PER_PER 3) 2000).wr (CH_PHASE_PHASE 3) 0) 0 = true ∧
      base.dueOn 10666667 0 = true ∧ { base with time := 7, devNext := 5 }.dueOn 10666667 0 = false ∧ { base with time := 7, devNext := 5 }.dueOn 10666667 5333333 = false := by decide +kernel

/-! ### ClockFabricAndSupplyEvents -/

/-- ClockFabricAndSupplyEvents: a device in WATCH with its supplies good, VBAK good, no hand-over; a core of a running cluster. -/
theorem test_clock_events : let s := (base.wr PWR_BSTAT_BAKOK 1).wr (PWR_CST_STATE 0) 3
    let c := s.modCore 0 fun c => { c with run := true }
    s.allOff = false ∧ s.dev ≠ .safe ∧ s.rd PWR_SUPST_VCORE = 1 ∧ s.rd PWR_SUPST_VANA = 1 ∧ s.rd PWR_BSTAT_BAKOK = 1 ∧ s.pwr.handAt = none ∧
    c.executes 0 = true ∧ s.guarded 0 = true ∧ State.scrubWord 256 0x080000 = true ∧ State.scrubWord 0 0x080000 = false ∧
    s.memOn 256 = true ∧ s.isBad (State.scrubKey 256 0x080000) = false ∧ region (State.scrubKey 256 0x080000) ≠ .flash := by decide

/-! ### SyncChainEvents -/

/-- SyncChainEvents: a slave with no accepted pulse and one with one at 100, a master at a frame boundary with a mark due. -/
theorem test_sync_chain : let s := base
    let m := { (s.wr PWR_SYNCCFG_MASTER 1) with time := 16000, bcast := { s.bcast with master := true, frame := 100, markDue := [77] } }
    s.bcast.master = false ∧ s.bcast.lastRise = none ∧ ({ s.bcast with lastRise := some 100 } : Bcast).lastRise ≠ none ∧ m.bcast.master = true ∧
    m.bcast.frame ≠ 0 ∧ m.dueOn (m.bcast.frame * 160) 0 = true ∧ m.rd PWR_SYNCCFG_MASTER = 1 ∧ m.rd PWR_FRAME_VALUE ≠ 0 ∧ m.bcast.markDue = 77 :: [] ∧
    ((m.wr (CH_CFG_EN 3) 1).wr (CH_ALN_ALIGN 3) 1).markActs 3 = true ∧ m.markActs 3 = false := by decide
/-- SyncChainEvents: a watch that began at 0, with no mark for two frames. -/
theorem test_marks_lost : let s := { base with time := 40000, bcast := { base.bcast with watchAt := some 0, frame := 100 } }
    s.bcast.watchAt = some 0 ∧ max (s.bcast.lastMark.getD 0) 0 + 320 * s.bcast.frame ≤ s.time ∧ s.bcast.lostFor ≠ some (max (s.bcast.lastMark.getD 0) 0) := by decide

/-! ### ShadowSetsAndHandOver -/

/-- ShadowSetsAndHandOver: the debug port, unlocked; a pending set with and without a freeze; a hand-over in progress. -/
theorem test_shadow : let s := base.wr DBG_STAT_UNLOCK 1
    let p := s.wr (CH_SHST_PEND 3) 1
    Accepts s .debug (CH_SDUTY 3) 0xFFFF ∧ Accepts s .debug (CH_SREF 3) 7 ∧ Accepts s .debug (CH_SCTL 3) 1 ∧ (CH_SCTL_TRIG 3).of 1 ≠ 3 ∧
    Accepts p .debug (CH_SCMD 3) 1 ∧ p.rd (CH_SHST_PEND 3) = 1 ∧ s.rd (CH_SHST_PEND 3) = 0 ∧ ¬(p.latched 3 = true ∧ p.safeState 3 = 3) ∧
    p.rd (CH_STAT_RHOLD 3) = 0 ∧ p.rd (CH_STAT_FROZEN 3) = 0 ∧ (p.wr (CH_STAT_FROZEN 3) 1).rd (CH_STAT_FROZEN 3) = 1 ∧ p.activeAspect 3 = none ∧
    p.rejoining 3 = false ∧ p.rd (MIR_SPLIT_DBL 3) = 0 ∧ p.rd (CH_SHST_HOACT 3) = 0 ∧ p.rd (CH_SCTL_SRC 3) = 0 ∧ p.rd (CH_SHST_ASRC 3) = 0 ∧
    Accepts s .debug (CH_SCMD 3) 2 ∧ (s.wr (CH_SHST_HOACT 3) 1).rd (CH_SHST_HOACT 3) = 1 := by
  refine ⟨⟨?_, ?_, ?_, ?_, ?_⟩, ⟨?_, ?_, ?_, ?_, ?_⟩, ⟨?_, ?_, ?_, ?_, ?_⟩, ?_, ⟨?_, ?_, ?_, ?_, ?_⟩, ?_, ?_, ?_, ?_, ?_, ?_, ?_, ?_, ?_, ?_, ?_, ?_,
    ⟨?_, ?_, ?_, ?_, ?_⟩, ?_⟩ <;> decide
/-- ShadowSetsAndHandOver: a duty within the gate-power budget, and one over it (QG 80, PER 667: 0.36 W a channel, six of them). -/
theorem test_shadow_budget : base.budgetOk ((base.wr (CH_SDUTY_DUTY 3) 0xFFFF).wr (CH_SHST_PEND 3) 1) 0 = true ∧
    (let s := [1, 2, 3, 4, 5, 6].foldl (fun (t : State) n => (((t.wr (CH_CFG_TOPO n) 1).wr (CH_PER_PER n) 667).wr (CH_GDRV_QG n) 80).wr (CH_SDUTY_DUTY n) (if n = 3 then 0 else 5)) base
     s.budgetOk ((s.wr (CH_SDUTY_DUTY 3) 5).wr (CH_SHST_PEND 3) 1) 0 = false) := by decide +kernel

/-! ### BroadcastsAndAspectSwitches -/

/-- BroadcastsAndAspectSwitches: a slave and a master, tags ahead, late and far, requests valid and refused. -/
theorem test_broadcasts : let s := { (base.wr DBG_STAT_UNLOCK 1) with time := 50000 }
    let v := (s.wr (SN_ASP_VALID 2) 1).wr (SN_AGREQ_REQV 0) 1
    let b := { v with bcast := { v.bcast with aapply := [[0]], syncDue := [7], tagged := [({ tag := 40000, reqs := [] } : Tagged)] } }
    Accepts s .debug SN_SYNCREQ 1 ∧ Accepts s .debug SN_SYNCREQ 2 ∧ s.bcast.master = false ∧ Accepts s .debug SN_TSCMD 1 ∧
    (s.wr SN_TSYNC_TAG 50001).rd SN_TSYNC_TAG = 50001 ∧ (s.wr SN_TSYNC_TAG 49000).rd SN_TSYNC_TAG = 49000 ∧ s.rd SN_TSYNC_TAG + 16000 < s.devTime ∧ s.devTime = 50000 ∧
    s.bcast.tagged.length < 8 ∧ b.bcast.tagged.find? (fun y => decide (y.tag ≤ b.devTime)) = some ({ tag := 40000, reqs := [] } : Tagged) ∧
    Accepts v .debug (SN_AGREQ 0) ((SN_AGREQ_ASP 0).into 2 ((SN_AGREQ_REQV 0).into 1 0)) ∧ Accepts v .debug SN_AAPPLY 1 ∧
    b.bcast.aapply = [0] :: [] ∧ [0].Nodup ∧ b.rd (SN_AGREQ_REQV 0) = 1 ∧ b.deferring 0 = false ∧ b.bcast.syncDue = 7 :: [] := by
  refine ⟨⟨?_, ?_, ?_, ?_, ?_⟩, ⟨?_, ?_, ?_, ?_, ?_⟩, ?_, ⟨?_, ?_, ?_, ?_, ?_⟩, ?_, ?_, ?_, ?_, ?_, ?_, ⟨?_, ?_, ?_, ?_, ?_⟩, ⟨?_, ?_, ?_, ?_, ?_⟩, ?_, ?_, ?_, ?_, ?_⟩ <;> decide

/-! ### CarouselSequencers -/

/-- CarouselSequencers: a START, STOP, SYNCST that are accepted; each instruction at the start of the pattern memory. -/
theorem test_sequencer : let s := base.wr DBG_STAT_UNLOCK 1
    let at' := fun (w : Nat) => (s.wr (CAR_STAT_STATE 0 0) 1).wr (CAR_MEM_WORD 0 0 0) w
    let op := fun (t : State) (k len : Nat) => t.rd (CAR_STAT_STATE 0 0) = 1 ∧ (t.seqr 0).pc ≤ 1023 ∧ t.rd (CAR_MEM_WORD 0 0 (t.seqr 0).pc) / 512 = k ∧ (t.seqr 0).pc + len ≤ 1024
    Accepts s .debug (CAR_CTL 0 0) 1 ∧ Accepts s .debug (CAR_CTL 0 0) 2 ∧ Accepts s .debug (CAR_CTL 0 0) 4 ∧ s.diePowered 0 = true ∧ (s.seqr 0).stopAt ≠ some s.time ∧ s.rd (CAR_STAT_STATE 0 0) ≠ 3 ∧
    op (at' 64) 0 2 ∧ op (at' 0x200) 1 3 ∧ op (at' 0x401) 2 2 ∧ op (at' 0x603) 3 1 ∧ op (at' 0x805) 4 2 ∧ op (at' 0xA00) 5 1 ∧ op (at' 0xC00) 6 2 ∧ op (at' 0xE00) 7 1 ∧
    ((at' 0).wr (CAR_STAT_STATE 0 0) 2).rd (CAR_STAT_STATE 0 0) = 2 ∧ ((at' 0).seqr 0).waitUntil ≤ (at' 0).devCount ∧
    (let t := { s.modSeqr 0 (fun x => { x with ramps := [(0, some ⟨0, 100, 4, 0, 0⟩)] }) with time := 20000 }
     (t.seqr 0).ramps.get none 0 = some ⟨0, 100, 4, 0, 0⟩ ∧ 0 < min 4 (t.devCount / t.unit 0 0 - 0)) := by
  refine ⟨⟨?_, ?_, ?_, ?_, ?_⟩, ⟨?_, ?_, ?_, ?_, ?_⟩, ⟨?_, ?_, ?_, ?_, ?_⟩, ?_, ?_, ?_, ?_, ?_, ?_, ?_, ?_, ?_, ?_, ?_, ?_, ?_, ?_⟩ <;> decide
/-- CarouselSequencers: a start within the gate-power budget. -/
theorem test_sequencer_budget : base.budgetOk (base.primeSeq 0 0) 0 = true := by decide +kernel

/-! ### ProofEvidenceAndVerdicts -/

/-- ProofEvidenceAndVerdicts: an SV core of K0 posts and asks for a release; a core of K2 may not. -/
theorem test_posts : let s := (((base.wr (PWR_CST_STATE 0) 3).wr (PWR_CST_STATE 2) 3).modCore 0 fun c => { c with ps := 0x300, run := true }).wr (CH_SSTAT_LATCH 3) 1
    let k := s.modCore 64 fun c => { c with ps := 0x300, run := true }
    s.allOff = false ∧ s.dueOn 4000 0 = true ∧ s.dueOn 16000 0 = true ∧ ({ s with time := 7, devNext := 5 } : State).dueOn 4000 0 = false ∧ (s.prf 3).noDecAt = none ∧ Accepts s (.core 0) (CH_EVER 3) 0x45 ∧ s.postRequester (.core 0) (s.svMode (.core 0)) = true ∧ (s.prf 3).eFree = true ∧
    Accepts k (.core 64) (CH_EVER 3) 0x45 ∧ k.postRequester (.core 64) (k.svMode (.core 64)) = false ∧
    Accepts s (.core 0) (CH_OVER 3) 0x45 ∧ (s.prf 3).oFree = true ∧ Accepts s (.core 0) SPT_CBIDX 1024 ∧
    Accepts s (.core 0) SN_LCLR (3 * 2 ^ SN_LCLR_CH.lo + 0x3C3 * 2 ^ SN_LCLR_KEY.lo) ∧ s.coreSv 0 = true ∧ s.rd (CH_SSTAT_LATCH 3) = 1 ∧ s.rd SN_LCLRST_PEND = 0 := by
  refine ⟨?_, ?_, ?_, ?_, ?_, ⟨?_, ?_, ?_, ?_, ?_⟩, ?_, ?_, ⟨?_, ?_, ?_, ?_, ?_⟩, ?_, ⟨?_, ?_, ?_, ?_, ?_⟩, ?_, ⟨?_, ?_, ?_, ?_, ?_⟩, ⟨?_, ?_, ?_, ?_, ?_⟩, ?_, ?_, ?_⟩ <;> decide
/-- ProofEvidenceAndVerdicts: used SEQs, a pending release, and a channel whose expectation stands at NONE and at DARK. -/
theorem test_fusion : let s := base.modPrf 3 fun p => { p with eFree := false, oFree := false, expt := .dark, eNew := true }
    let l := (((s.wr (CH_AGRP_GEN 3) 1).wr (SN_AGACT_VALID 0) 1).wr (CH_SLOT_KIND 3 0) 1).wr (CH_EVER_VERD 3) 2
    let p := ((s.wr SN_LCLRST_PEND 1).wr SN_LCLR_CH 3).wr (CH_SSTAT_LATCH 3) 1
    (s.prf 3).eFree = false ∧ (CH_EVER_SEQ 3).of 0x45 = (s.rd (CH_EVER_SEQ 3) + 1) % 16 ∧ (CH_EVER_SEQ 3).of 0x49 ≠ (s.rd (CH_EVER_SEQ 3) + 1) % 16 ∧
    (s.prf 3).oFree = false ∧ (base.expectation 3).1 = (base.prf 3).expt ∧ (l.expectation 3).1 = (l.prf 3).expt ∧
    State.agrees (l.prf 3).expt (l.rd (CH_EVER_VERD 3)) = true ∧ (l.wr (CH_PCFG_EREQ 3) 1).rd (CH_PCFG_EREQ 3) = 1 ∧ l.rd (CH_PCFG_OREQ 3) = 0 ∧ l.member 3 (l.rd (SN_AGACT_ASP 0)) = true ∧
    p.rd SN_LCLRST_PEND = 1 ∧ p.rd SN_LCLR_CH < 192 ∧ p.rd (CH_SSTAT_LATCH (p.rd SN_LCLR_CH)) = 1 := by decide

/-! ### GroupErrorsAndOpticalDegradation -/

/-- GroupErrorsAndOpticalDegradation: a waiting error, each reaction, a degraded group, an input that saturates or falls. -/
theorem test_group_error : let s := (base.wr DBG_STAT_UNLOCK 1).modGroup 0 fun g => { g with errNew := [(0, 12)] }
    let e := base.modGroup 0 fun g => { g with react := [(0, 5)], degSince := some 0 }
    let c := ((((e.wr SPT_DEG_OPTDEG 1).wr (SN_APRF_OPTREQ 0) 1).wr (SN_AGACT_VALID 0) 1).wr (SN_AGVER_STATE 0) 2)
    let o := ({ base.modOptic 3 (fun o => { o with high := 4, lowSince := some 0 }) with time := 16000000 }).wr (SPT_STAT_FSA 3) 2
    (s.group 0).errNew = [(0, 12)] ∧ (s.group 1).errNew = [] ∧ (s.group 1).react = [] ∧ (e.group 0).react = [(0, 5)] ∧ e.rd (SN_APRF_REACT 0) = 0 ∧
    (e.wr (SN_APRF_REACT 0) 2).rd (SN_APRF_REACT 0) = 2 ∧ (e.wr (SN_APRF_REACT 0) 1).rd (SN_APRF_REACT 0) = 1 ∧ (e.wr (SN_APRF_REACT 0) 3).rd (SN_APRF_REACT 0) = 3 ∧
    e.rd (SN_ASP_GROUP (e.rd (SN_APRF_SUBST 0))) = 0 ∧ c.rd SPT_DEG_OPTDEG = 1 ∧ c.rd (SN_APRF_OPTREQ 0) = 1 ∧ c.rd (SN_AGACT_VALID 0) = 1 ∧ c.rd (SN_AGVER_STATE 0) = 2 ∧
    (c.group 0).degSince = some 0 ∧ 0 + c.degDuration < { c with time := 1 }.time ∧ s.rd SPT_DEG_OPTDEG = 0 ∧ s.rd SPT_CTL_RUN = 0 ∧ (s.wr (CH_PCFG_OREQ 3) 1).oreqChannels ≠ [] ∧
    s.oreqChannels = [] ∧ s.optChannels = [] ∧
    Accepts s .debug (SPT_INCFG 3) 1 ∧ Accepts s .debug (SPT_INCFG 3) 2 ∧ (s.optic 3).high < 4 ∧ 4 ≤ (o.optic 3).high ∧ (o.optic 3).lowSince = some 0 ∧
    0 + 16000000 ≤ o.time ∧ (o.wr (SPT_INCFG_AUTOR 3) 1).rd (SPT_INCFG_AUTOR 3) = 1 ∧ o.rd (SPT_INCFG_FS 3) < o.rd (SPT_STAT_FSA 3) ∧ (o.optic 3).sat = false ∧
    (let p := (({ s with wide := true }).wr SPT_CTL_RUN 1).wr (SPT_INCFG_EN 3) 1
     p.spotlightOn = true ∧ p.rd SPT_CTL_RUN = 1 ∧ p.rd (SPT_INCFG_EN 3) = 1) := by
  refine ⟨?_, ?_, ?_, ?_, ?_, ?_, ?_, ?_, ?_, ?_, ?_, ?_, ?_, ?_, ?_, ?_, ?_, ?_, ?_, ?_, ⟨?_, ?_, ?_, ?_, ?_⟩, ⟨?_, ?_, ?_, ?_, ?_⟩, ?_, ?_, ?_, ?_, ?_, ?_, ?_, ?_, ?_, ?_⟩ <;> decide

/-! ### TightropeSweepsDwellsFindings -/

/-- TightropeSweepsDwellsFindings: receiver 0 is due at device time 0, sweeps, dwells and ends; a map that holds the limit and one that does not. -/
theorem test_tightrope : let s := { base with dev := .run, trp := { base.trp with rate := 2, map := [(0, some (2, 0, true))], count := 5 } }
    let w := s.modRx 0 fun x => { x with sweep := true }
    let b := { s.modRx 0 (fun x => { x with sweep := true, busy := true }) with time := 20000 }
    let m := (List.range 5).foldl (fun (t : State) r => (t.wr (TRP_RXMAP_EN r) 1).wr (TRP_RXMAP_CLU r) 2) (s.wr TRP_CTL_RATE 2)
    s.sweepDue s.trp 0 0 = true ∧ s.sweepState s.trp.rate = true ∧ (s.rx 0).sweep = false ∧ s.sweepDue s.trp 1 0 = false ∧
    (w.rx 0).sweep = true ∧ (w.rx 0).busy = false ∧ w.dueOn 20000 0 = true ∧ (b.rx 0).busy = true ∧ (b.rx 0).startAt + 20000 ≤ b.time ∧
    (List.range 32).find? (b.ringOn 2 32) = none ∧
    (List.range 32).find? ((((b.wr (DSTAT_STATE 2 1) 1).wr (DCFG_KIND 2 1) 1).wr (DSRC_SRC 2 1) 32).ringOn 2 32) = some 1 ∧
    State.mapOk ((List.range 24).map s.rxMapWritten) 0 = true ∧ State.mapOk ((List.range 24).map m.rxMapWritten) 2 = false ∧
    (let d := { s with time := 160000 - 1600 }
     (List.range 24).filter (fun r => ((d.trpAt (d.devTime + 1600)).rxMap r).1 == 2 && d.sweepDue (d.trpAt (d.devTime + 1600)) r 1600) ≠ [] ∧ d.fabricOff = false ∧ d.bit PWR_CLUST_LOST 2 = false ∧ d.rd (PWR_CST_STATE 2) < 2 ∧
       (d.wr (PWR_CST_STATE 2) 3).rd (PWR_CST_STATE 2) = 3) ∧
    (let v := (s.wr (PWR_CST_STATE 0) 3).modCore 0 fun c => { c with ps := 0x300, run := true }
     Accepts v (.core 0) TRP_FPOST 0x305 ∧ v.svMode (.core 0) = true ∧ TRP_FPOST_CLASS.of 0x305 = 3 ∧ TRP_FPOST_CH.of 0x305 ≤ 191 ∧
     Accepts v (.core 0) TRP_FPOST 5 ∧ TRP_FPOST_CLASS.of 5 = 0) := by
  refine ⟨?_, ?_, ?_, ?_, ?_, ?_, ?_, ?_, ?_, ?_, ?_, ?_, ?_, ?_, ⟨?_, ?_, ?_, ?_, ?_⟩, ?_, ?_, ?_, ⟨?_, ?_, ?_, ?_, ?_⟩, ?_⟩ <;> decide

/-! ### DescriptorTransfers -/

/-- DescriptorTransfers: descriptors idle and active, a MOVE of two words inside cluster memory, a RING on stream 40. -/
theorem test_dma : let s := (base.wr (PWR_CST_STATE 0) 3).modCore 0 fun c => { c with ps := 0x300, run := true }
    let m := (((s.wr (DSRC_SRC 0 0) 0x080000).wr (DDST_DST 0 0) 0x090000).wr (DLEN_LEN 0 0) 2).wr (DLIM_LIM 0 0) 0x0DFFFF
    let g := (((((s.wr (DCFG_KIND 0 0) 1).wr (DSRC_SRC 0 0) 40).wr (DDST_DST 0 0) 0x090000).wr (DLEN_LEN 0 0) 16).wr (DLIM_LIM 0 0) 0x080000)
    Accepts s (.core 0) (DCMD 0 0) 1 ∧ Permits s (.core 0) (DCMD 0 0) ∧ s.rd (DSTAT_STATE 0 0) ≠ 1 ∧ (s.wr (DSTAT_STATE 0 0) 1).rd (DSTAT_STATE 0 0) = 1 ∧
    s.dmaFieldsOk 0 0 = false ∧ m.dmaFieldsOk 0 0 = true ∧ g.dmaFieldsOk 0 0 = true ∧ m.rd (DCFG_KIND 0 0) = 0 ∧ g.rd (DCFG_KIND 0 0) = 1 ∧ m.dmaLen 0 0 = 2 ∧
    m.isBad (memKey 0 0x080000) = false ∧ region 0x080000 ≠ .flash ∧ m.memOff 0x080000 = false ∧ m.memOff 0x090000 = false ∧ memKey 0 0x080001 ≠ memKey 0 0x090000 ∧
    (g.wr (DSTAT_STATE 0 0) 1).ringOn 0 40 0 = true ∧ g.ringOn 0 40 0 = false ∧
    (let a := (g.wr (DSTAT_STATE 0 0) 1).wr (DSRC_SRC 0 0) 2
     let b := { (((g.wr (DSTAT_STATE 2 0) 1).wr (DCFG_KIND 2 0) 1).wr (DSRC_SRC 2 0) 8).modRx 0 (fun x => { x with busy := true }) with time := 2 }
     let f := { a with flight := [(2, [[1, 2]])] }
     f.ringOn 0 2 0 = true ∧ f.flight.get [] (64 * 0 + 2) = [1, 2] :: [] ∧ a.flight.get [] (64 * 0 + 2) = [] ∧ b.ringOn 2 8 0 = true ∧ (b.rx 0).busy = true ∧
       (b.rxMap 0).1 = 2 ∧ (b.rx 0).block < (b.time - (b.rx 0).startAt) * 25 / 32 ∧ (b.time - (b.rx 0).startAt) * 25 / 32 ≤ 15625) ∧
    Accepts g (.core 0) (DRIDX 0 0) 8 := by
  refine ⟨⟨?_, ?_, ?_, ?_, ?_⟩, ⟨?_, ?_⟩, ?_, ?_, ?_, ?_, ?_, ?_, ?_, ?_, ?_, ?_, ?_, ?_, ?_, ?_, ?_, ?_, ⟨?_, ?_, ?_, ?_, ?_⟩⟩ <;> decide

/-! ### ScalarAddSubtractLogic -/

/-- ScalarAddSubtractLogic: core 0 of a running cluster stands at an instruction in code flash. -/
theorem test_issue : let s := withCode (codeR 1 1 2 3 0)
    Issues s 0 2 ∧ Stands s (.add 0 1 2 3) := test_stands _ rfl

/-! ### DivisionsAndBitCounts -/

/-- DivisionsAndBitCounts: registers that are 0 and not 0, and both settings of DZT, with a free window. -/
theorem test_divide : let s := withCode (codeR 5 2 3 1 0)
    (Issues s 0 2 ∧ Stands s (.div 0 2 3 1)) ∧
    (let d := s.modCore 0 fun c => { (c.setR 1 5) with ps := 0x140 }
    (s.core 0).r 1 = 0 ∧ (d.core 0).r 1 ≠ 0 ∧ (s.core 0).psBit 6 = false ∧ (d.core 0).psBit 6 = true ∧ Room d 0) :=
  ⟨test_stands _ rfl, by decide⟩

/-! ### LoadsStoresAddressRegisters -/

/-- LoadsStoresAddressRegisters: addresses in cluster memory, at a register, in the mirror window, where nothing is, and with an error. -/
theorem test_access : let s := withCode (codeL 16 1 1 0)
    let a := fun (x : Nat) => s.modCore 0 fun c => c.setX 1 x
    (Issues s 0 2 ∧ Stands s (.ld 0 1 1 0)) ∧ s.coreMayRead 0 0x080000 = true ∧ s.coreBad 0 0x080000 = false ∧ s.memOff 0x080000 = false ∧ ({ s with wide := false } : State).memOff 0x100000 = true ∧ ({ s with wide := false } : State).coreMayRead 0 0x100000 = true ∧ ({ s with wide := false } : State).coreMayWrite 0 0x100000 = true ∧ region 0x080000 = .cluster ∧ s.coreMayRead 0 0xD20083 = true ∧ region 0xD20083 = .dev ∧
    s.coreMayRead 0 0x300000 = false ∧ s.coreMayWrite 0 0x400000 = false ∧ (s.spoil (State.coreKey 0 0x080000)).isBad (State.coreKey 0 0x080000) = true ∧ Room s 0 ∧
    ((a 0x080000).core 0).x 1 = 0x080000 ∧ wrap 24 (((a 0x080000).core 0).x 1 + (0#10).toInt) = 0x080000 ∧
    ((s.wr MIR_STAT_PSTATE 1).coreMayWrite 0 0xE00000 = true ∧ region 0xE00000 = .mirror ∧ (s.wr MIR_STAT_PSTATE 1).paired = true) ∧ Alone s 0 :=
  ⟨test_stands _ rfl, by decide, by decide, by decide, by decide, by decide, by decide, by decide, by decide, by decide, by decide, by decide, by decide, by decide, by decide, by decide, by decide, ⟨by decide, by decide⟩⟩
/-- LoadsStoresAddressRegisters: an extended instruction. -/
theorem test_issue4 : let s := withCode (codeE 56 1 3) 0x080000
    Issues s 0 4 ∧ Stands s (.lda 0 1 0x080000) := test_stands_long _ rfl

/-! ### TransfersLoopsWindows -/

/-- TransfersLoopsWindows: a core alone at an instruction, with each state of LC, windows and mode. -/
theorem test_control : let s := withCode (codeJR 34 1 0)
    let c := fun (f : Core → Core) => s.modCore 0 f
    (Issues s 0 2 ∧ Stands s (.jmpx 0 1)) ∧ Alone s 0 ∧ (s.core 0).x 1 % 2 = 0 ∧ ((c fun c => c.setX 1 5).core 0).x 1 % 2 = 1 ∧ Room s 0 ∧ (s.core 0).lc = 0 ∧ ((c fun c => { c with lc := 3 }).core 0).lc ≠ 0 ∧
    (s.core 0).live 1 = false ∧ (s.core 0).live 2 = false ∧ ((c fun c => { c with wv := 5 }).core 0).live 2 = true ∧ (s.core 0).live 7 = false ∧
    ((c fun c => { c with wv := 0x81 }).core 0).live 7 = true ∧ s.coreSv 0 = true ∧ (c fun c => { c with ps := 0 }).coreSv 0 = false ∧
    s.split 0 = false ∧ s.rd (PWR_ENGMAP_ROLE 0) ≠ 1 :=
  ⟨test_stands _ rfl, ⟨by decide, by decide⟩, by decide, by decide, by decide, by decide, by decide, by decide, by decide, by decide, by decide, by decide, by decide, by decide, by decide, by decide⟩

/-! ### SystemInstructionsAndTraps -/

/-- SystemInstructionsAndTraps: each condition of each clause. -/
theorem test_system : let s := withCode (codeY 39 5 0)
    let c := fun (f : Core → Core) => s.modCore 0 f
    let p := s.wr MIR_STAT_PSTATE 1
    (Issues s 0 2 ∧ Stands s (.svc 0 5)) ∧ (s.core 0).slot = none ∧ Room s 0 ∧ s.rd DBG_CFG_BKH = 0 ∧ (s.wr DBG_CFG_BKH 1).rd DBG_CFG_BKH = 1 ∧ s.split 0 = false ∧ { s with dev := .maint }.dev = .maint ∧
    s.linesUp 0 = 0 ∧ ((s.wr (PWR_IEN_LINES 0) 2).wr (PWR_IPEND_LINES 0) 2).linesUp 0 ≠ 0 ∧ s.coreSv 0 = true ∧ (c fun c => { c with ps := 0 }).coreSv 0 = false ∧
    s.paired = false ∧ p.paired = true ∧ p.dev ≠ .rejoin ∧ { p with dev := .rejoin }.dev = .rejoin ∧ ((c fun c => { c with mOut := 1 }).core 0).mOut ≠ 0 ∧ p.pair.solo = false ∧
    ((c fun c => { c with slot := some ⟨0x40000E, 0x400100, true⟩ }).core 0).slot.isSome = true ∧
    ((c fun c => { c with le := 0x400010, lc := 2 }).core 0).pc = 0x400010 ∧ illegalDetail 0 = some 1 ∧ illegalDetail 0x040000 = none ∧
    ((s.pokeFlash 0x400010 0).pokeFlash 0x400011 0).codeAt 0 = 0 ∧ ((s.pokeFlash 0x400010 0x40).pokeFlash 0x400011 0).codeAt 0 = 0x040000 :=
  ⟨test_stands _ rfl, by decide⟩
/-- SystemInstructionsAndTraps: a core that waits in WAIT or at a fence. -/
theorem test_waiting : let s := (atCode 0x400010).modCore 0 fun c => { c with waiting := true, tmrHit := true, fence := some 0, mOut := 2 }
    s.executes 0 = true ∧ CoreSized (s.core 0) ∧ (s.core 0).waiting = true ∧ (s.core 0).tmrHit = true ∧ (s.core 0).fence = some 0 ∧ (s.core 0).mOut ≤ 2 ∧ 1 < (s.core 0).mOut ∧
    s.time < 0 + 1600 ∧ 0 + 1600 ≤ { s with time := 1600 }.time ∧ (s.core 0).bpPass = false ∧ Room s 0 :=
  ⟨by decide, ⟨zero_words rfl, by decide, by decide, by decide⟩, by decide, by decide, by decide, by decide, by decide, by decide, by decide, by decide, by decide⟩

/-! ### SpecialRegistersAndInterrupts -/

/-- SpecialRegistersAndInterrupts: both modes, an interrupt that is due, a timer that has expired, a permitted requester. -/
theorem test_interrupts : let i := withCode (codeS 38 1 0 0)
    let s := ((i.wr (PWR_IEN_LINES 0) 6).wr (PWR_IPEND_LINES 0) 6).modCore 0 fun c => { c with ps := 0x300, tmrDue := true }
    (Issues i 0 2 ∧ Stands i (.mfs 0 1 0)) ∧ s.coreSv 0 = true ∧ (s.modCore 0 fun c => { c with ps := 0 }).coreSv 0 = false ∧ (s.linesUp 0).testBit 1 = true ∧ (s.linesUp 0).testBit 0 = false ∧ s.executes 0 = true ∧
    (s.core 0).halted = false ∧ (s.core 0).waiting = false ∧ (s.core 0).slot = none ∧ (s.core 0).shadow = false ∧ (s.core 0).psBit 9 = true ∧ Room s 0 ∧ (s.core 0).tmrDue = true ∧
    s.noCore 0 = false ∧ s.rd (PWR_CST_STATE 0) ≠ 1 ∧ Accepts s (.core 0) (PWR_ISET 0) 256 ∧ Accepts s (.core 0) (PWR_ISET 0) 0 ∧ Accepts s (.core 0) (PWR_IPEND 0) 2 := by
  refine ⟨test_stands _ rfl, ?_, ?_, ?_, ?_, ?_, ?_, ?_, ?_, ?_, ?_, ?_, ?_, ?_, ?_, ⟨?_, ?_, ?_, ?_, ?_⟩, ⟨?_, ?_, ?_, ?_, ?_⟩, ⟨?_, ?_, ?_, ?_, ?_⟩⟩ <;> decide

/-! ### VectorsAndAccumulators -/

/-- VectorsAndAccumulators: 32 words of cluster memory that may be read and written. -/
theorem test_lanes : let s := withCode (codeLV 22 1 0 1 0)
    (Issues s 0 2 ∧ Stands s (.vld 0 1 false 1 0)) ∧
    ∀ l, l < 32 → (region ((0x080000 + l) % 2 ^ 24) = .cluster) ∧ s.memOff ((0x080000 + l) % 2 ^ 24) = false ∧ s.isBad (State.coreKey 0 ((0x080000 + l) % 2 ^ 24)) = false :=
  ⟨test_stands _ rfl, by decide⟩

/-! ### MicroRoutines -/

/-- MicroRoutines: a count of two in R1, words that may be read and written, and an address where nothing is. -/
theorem test_routine : let i := withCode (codeU 46 0 1 0)
    let s := i.modCore 0 fun c => ((c.setR 1 2).setX 5 0x080000).setX 6 0x090000
    (Issues i 0 2 ∧ Stands i (.kcrc 0 0 1 0)) ∧ (s.core 0).slot = none ∧ (s.core 0).r 1 = 2 ∧ (s.core 0).r 2 = 0 ∧ (s.core 0).psBit 10 = false ∧ (s.core 0).mid = false ∧ region ((s.core 0).x 5) = .cluster ∧
    s.coreBad 0 0x080000 = false ∧ s.memOff 0x080000 = false ∧ s.programming 0x080000 = false ∧ s.memOff 0x090000 = false ∧ region ((s.core 0).x 6) = .cluster ∧ s.coreBad 0 0 = false ∧ s.coreMayRead 0 0x300000 = false ∧ Room s 0 :=
  ⟨test_stands _ rfl, by decide⟩

/-! ### LockstepStopsAndTakeovers -/

/-- LockstepStopsAndTakeovers: engine 0 is a HOST in a running cluster, engine 16 its spare in another, both free of twin pairs; a commit of each kind; a cluster of no HOST. -/
theorem test_takeover : let s := (((((base.wr (PWR_CST_STATE 0) 3).wr (PWR_CST_STATE 1) 3).wr (PWR_ENGMAP_ROLE 0) 1).wr (PWR_ENGMAP_ROLE 16) 2).wr (PWR_ENGMAP_SPARE 0) 16).wr (SN_TWCFG_EN 1) 0
    let t := (((s.modEng 16 fun g => { g with tkWait := true }).wr (PWR_ENGST_STATE 16) 3).wr DBG_STAT_UNLOCK 1).modCore 32 fun c => { c with ps := 0x300, run := true }
    let p := (s.wr (SN_TWCFG_EN 5) 1).wr (SN_TWCFG_ENGB 5) 33
    let h := ((s.wr (PWR_ENGST_BROKEN 0) 1).wr (PWR_ENGST_STATE 0) 4).modEng 0 fun g => { g with halt := some (s.time, 5) }
    let h := h.modCore 0 fun c => { c with halted := true }
    s.guarded 0 = true ∧ s.guarded 32 = false ∧ s.haltedNow 32 = false ∧ (h.guarded 0 = false ∧ h.haltedNow 0 = true ∧ h.rd (PWR_ENGST_STATE 0) = 4) ∧ s.rd (PWR_ENGMAP_ROLE 0) = 1 ∧ s.rd (PWR_ENGST_STATE 0) ≠ 6 ∧ (s.eng 0).noSpare = false ∧ s.engState (s.rd (PWR_ENGMAP_SPARE 0)) = 2 ∧
    s.cluRuns (s.rd (PWR_ENGMAP_SPARE 0) / 16) = true ∧ s.rd (PWR_ENGMAP_SPARE 0) ≠ 0 ∧ s.rd (PWR_ENGMAP_ROLE 1) ≠ 1 ∧ (t.eng 16).tkWait = true ∧ (s.eng 16).tkWait = false ∧
    t.cluRuns (16 / 16) = true ∧ t.rd (PWR_ENGST_STATE 16) = 3 ∧ s.rd (PWR_ENGST_STATE 16) ≠ 3 ∧ s.bit PWR_CLUST_LOST 1 = false ∧ 2 ≤ s.rd (PWR_CST_STATE 1) ∧ s.rd (PWR_CST_STATE 2) = 0 ∧
    (∀ i : Fin 16, s.rd (PWR_ENGMAP_ROLE (16 * 1 + i)) ≠ 1) ∧ (p.rd (SN_TWCFG_EN 5) = 1 ∧ p.rd (SN_TWCFG_ENGA 5) = 0 ∧ 16 / 16 ≠ p.rd (SN_TWCFG_ENGB 5) / 16 ∧ ∀ q : Fin 64, q ≠ 5 → p.rd (SN_TWCFG_EN q) = 0) ∧
    Accepts t (.core 32) (PWR_ENGST 16) (2 ^ (PWR_ENGST_DONE 16).lo) ∧ Accepts t (.core 32) (PWR_CKCMT 16) 5 ∧ t.coreSv 32 = true := by
  refine ⟨?_, ?_, ?_, ⟨?_, ?_, ?_⟩, ?_, ?_, ?_, ?_, ?_, ?_, ?_, ?_, ?_, ?_, ?_, ?_, ?_, ?_, ?_, ?_, ?_, ⟨?_, ?_, ?_, ?_, ?_⟩, ⟨?_, ?_, ?_, ?_, ?_⟩, ?_⟩ <;> decide

/-! ### TwinRounds -/

/-- TwinRounds: pair 1 of engines 0 and 1 with no round open, an open one, a due one, one that is not due, and a waiver that is over; pair 0 is off, function 2 is fed by pair 1 in `o`. -/
theorem test_twin : let s := (((base.wr (PWR_CST_STATE 0) 3).wr (SN_TWCFG_EN 1) 1).wr (SN_TWCFG_ENGB 1) 1).modCore 0 fun c => { c with ps := 0x100, run := true }
    let o := { (s.modTwin 1 (fun w => { w with openAt := some 0, seq := 1, postB := some 5, waive := some 0 })).wr (SN_FNCFG_TWIN 2) 1 with time := 100000 }
    Accepts s (.core 0) (SN_TWRA 1) 0x1005 ∧ s.rd (SN_TWCFG_EN 1) = 1 ∧ s.rd (SN_TWCFG_ENGA 1) = 0 ∧ s.coreSv 0 = true ∧ s.split 0 = false ∧ s.rd (PWR_ENGST_BROKEN 0) = 0 ∧
    (SN_TWRA_SEQ 1).of 0x1005 = (s.rd (SN_TWRA_SEQ 1) + 1) % 16 ∧ (s.twin 1).openAt = none ∧ (s.twin 1).postB = none ∧ (o.twin 1).openAt = some 0 ∧ (SN_TWRA_SEQ 1).of 0x1005 = (o.twin 1).seq ∧
    (o.twin 1).postA = none ∧ o.rd (SN_TWST_STATE 1) ≠ 3 ∧ o.rd (SN_TWST_MCNT 1) < 3 ∧ 0 + 160 * o.rd (SN_TWCFG_SKEW 1) ≤ o.time ∧ (o.twin 1).waive = some 0 ∧ 0 ≤ o.time ∧
    (∀ f, f < 24 → s.rd (SN_FNCFG_TWIN f) ≠ 1) ∧ o.rd (SN_FNCFG_TWIN 2) = 1 ∧ Accepts s (.core 0) (SN_TWRB 0) 5 ∧ s.rd (SN_TWCFG_EN 0) = 0 := by
  refine ⟨⟨?_, ?_, ?_, ?_, ?_⟩, ?_, ?_, ?_, ?_, ?_, ?_, ?_, ?_, ?_, ?_, ?_, ?_, ?_, ?_, ?_, ?_, ?_, ?_, ⟨?_, ?_, ?_, ?_, ?_⟩, ?_⟩ <;> decide

/-! ### SafetyInputs -/

/-- SafetyInputs: wired pair 0 of normally closed contacts with a discrepancy due, network pair 16 with and without a valid slot, pair 1 unused. -/
theorem test_inputs : let s := { (((base.wr (SN_IPCFG_TYPE 0) 1).wr (SN_IPCFG_TYPE 16) 1).modIpair 0 fun x => { x with mixedAt := some 0 }).modInp 0 (fun x => { x with lastU := true }) with time := 1600000000 }
    let v := s.wr (KSF_SLOT_VALID 0) 1
    s.netTimed = true ∧ s.rd (SN_IPCFG_TYPE 0) ≠ 0 ∧ s.rd (SN_IPCFG_TYPE 1) = 0 ∧ s.masked 0 = false ∧ s.masked 1 = false ∧
    (s.wr (SN_IPCFG_TPA 0) 0).masked 0 = true ∧ s.rd (KSF_SLOT_VALID 0) = 0 ∧ v.rd (KSF_SLOT_VALID (v.rd (SN_IPCFG_KSLOT 16))) = 1 ∧
    (∀ f, f < 24 → s.rd (SN_FNCFG_DAEN f) = 0) ∧ (s.ipair 0).disc = false ∧ s.degradedPair 0 = false ∧ (s.ipair 1).mixedAt = none ∧
    ((s.ipair 0).mixedAt.any fun t => decide (t + 16000 * s.rd (SN_IPCFG_DISC 0) < s.time)) = true ∧ s.sio.tpFails.get 0 0 = 0 ∧ (s.inp 0).lastU = true ∧ s.groups = [] ∧
    (let d := { s with time := 1600000000 + 4 }; d.tpPhase 0 < d.tpWidth ∧ (d.sio.tpAt.get none 0).all (fun a => decide (a + d.tpPhase 0 < d.devCount)) = true) ∧
    (let d := { s with time := 1600000000 + s.tpWidth - 400, devNext := 1600000000 }; d.dueOn d.tpPeriod (0 * d.tpPeriod / 8 + d.tpWidth - 400) = true ∧ d.marked SN_SIFLT_TPF = 0) := by
  refine ⟨?_, ?_, ?_, ?_, ?_, ?_, ?_, ?_, ?_, ?_, ?_, ?_, ?_, ?_, ?_, ?_, ?_, ?_⟩ <;> decide

/-! ### SafetyFunctions -/

/-- SafetyFunctions: function 0 of each type at rest, in its stop, waiting, degraded, in disagreement and stale; an accepted reset. -/
theorem test_functions : let s := (({ base with time := 100000000, dev := .run, runAt := 0 }).wr (SN_FNCFG_TYPE 0) 3 |>.wr (PWR_CST_STATE 0) 3).modCore 0 fun c => { c with ps := 0x100, run := true }
    let w := s.wr (SN_FNST_STATE 0) 5
    let p := (s.wr (SN_FNST_STATE 0) 4).modFn 0 fun x => { x with stopAt := some 0, xTime := 320000 }
    let d := s.wr (SN_FNST_DEG 0) 1
    let l := ((s.wr (SN_AGACT_VALID 0) 1).wr (SN_AGACT_ASP 0) 0).modGroup 0 fun x => { x with provenAt := some 0 }
    Accepts s (.core 0) SN_FNRST (0 + 32 * 0x5A) ∧ s.safetyWriter (.core 0) = true ∧ s.safetyWriter .debug = false ∧ (w.fn 0).waitAt + 8000000 < w.time ∧
    p.stopDue 0 = true ∧ 320000 ≤ (p.fn 0).xTime ∧ (d.fn 0).degLeft = 0 ∧ d.rd (SN_FNST_STATE 0) ≠ 7 ∧ (s.fn 0).stale = false ∧ s.runAt + 32000 ≤ s.time ∧
    (s.twin (s.rd (SN_FNCFG_TWIN 0))).closed = none ∧ s.noFault 0 = true ∧ s.rd (SN_FNCFG_DAEN 0) = 0 ∧ (s.group (s.demandGroup 0)).demandFn = [] ∧
    (∃ t0 ∈ (l.group (l.rd (SN_ASP_GROUP 0))).provenAt, t0 + 16000000 ≤ l.time) ∧ (s.wr (SN_FNCFG_TWEN 0) 1).rd (SN_FNCFG_TWEN 0) = 1 := by
  refine ⟨⟨?_, ?_, ?_, ?_, ?_⟩, ?_, ?_, ?_, ?_, ?_, ?_, ?_, ?_, ?_, ?_, ?_, ?_, ?_, ⟨0, ?_⟩, ?_⟩ <;> decide

/-! ### SafetyOutputsAndSwitches -/

/-- SafetyOutputsAndSwitches: an accepted request, an output that is on, one whose third high reading comes, torque permitted, discharge in SAFE. -/
theorem test_outputs : let s := ({ base with dev := .run, up := true }.wr (PWR_CST_STATE 0) 3).modCore 0 fun c => { c with ps := 0x100, run := true }
    let o := (s.wr SN_OUTREQ_SOREQ 1).wr SN_OUTREQ_STOREQ 1
    let m := { s with dev := .maint }
    Accepts s (.core 0) SN_OUTREQ 1 ∧ s.safetyWriter (.core 0) = true ∧ s.safetyWriter .debug = false ∧ o.soOn 0 = true ∧ s.soOn 0 = false ∧
    (o.modSio fun x => { x with rbHigh := [(1, 2)] }).sio.rbHigh.get 0 1 + 1 = 3 ∧ o.soOn 1 = false ∧ o.torqueA = true ∧ o.torqueB = true ∧ s.torqueA = false ∧ s.torqueB = false ∧ o.netTimed = true ∧ (o.sio.stoAt.all fun t0 => decide (t0 + 8000000 ≤ o.time)) = true ∧
    s.sio.adHeld = false ∧ s.pwr.gatesOff = false ∧ Accepts m (.core 0) SEAL_CMD 1 ∧ Accepts s (.core 0) SEAL_CMD 1 := by
  refine ⟨⟨?_, ?_, ?_, ?_, ?_⟩, ?_, ?_, ?_, ?_, ?_, ?_, ?_, ?_, ?_, ?_, ?_, ?_, ?_, ?_, ⟨?_, ?_, ?_, ?_, ?_⟩, ⟨?_, ?_, ?_, ?_, ?_⟩⟩ <;> decide

/-! ### EventsReachTheCollector -/

/-- EventsReachTheCollector: one event waits; with a token and an empty ring; with an empty bucket; at S0, S2 escalated on a channel, and S4. -/
theorem test_event : let e : Ev := ⟨1, 0, 49, 2, 1, 1, [], 0⟩
    let s := { base with coll := { queue := [e], opens := [⟨0, 0, 2, 0, none, 4096⟩] } }
    let b := { base with coll := { queue := [{ e with sev := 0 }], buckets := [(49, Bucket.mk 8 0)] } }
    s.coll.queue = [e] ∧ s.coll.dropped = [] ∧ s.coll.cycle = none ∧ e.time ≠ s.time ∧ s.coll.lined = [] ∧ (s.bucket 0 49).missing < s.rd (FC_TB_DEPTH 0) ∧ s.coll.ring.length = 0 ∧
    ¬(b.bucket 0 49).missing < b.rd (FC_TB_DEPTH 0) ∧ b.coll.storms = [] ∧ scopeOf 0 49 = .chan 3 ∧ s.latched 3 = false ∧ scopeOf 11 0 = .device ∧
    0 < b.rd FC_CFG_ERRSEV ∧ 0 < b.rd HIF_CTL_FSEV ∧ 0 < b.rd (FC_ROUTE_MINSEV 0) ∧ b.dev ≠ .safe := by
  refine ⟨rfl, rfl, rfl, ?_, rfl, ?_, ?_, ?_, rfl, ?_, ?_, ?_, ?_, ?_, ?_, ?_⟩ <;> decide

/-! ### CollectorWritesStormsAndHealth -/

/-- CollectorWritesStormsAndHealth: accepted writes of a core in SV mode and of the debug port; a bucket and storms that are due; an ERR_N pulse that is
over; a change instant; a missed kick. -/
theorem test_collector : let s := ((({ base with time := 16000000, dev := .run, coll := { storms := [⟨0, 1, 0, 5, 0, 0, 2, true⟩, ⟨0, 4096, 0, 5, 0, 0, 2, true⟩], buckets := [(1, Bucket.mk 2 0), (2, Bucket.mk 2 0)], errAt := some 0 } } : State).wr FC_ERRN_HWP 1).wr (PWR_CST_STATE 0) 3).modCore 0 fun c => { c with ps := 0x100, run := true }
    let d := s.wr DBG_STAT_UNLOCK 1
    let k := s.wr FC_CFG_SOKFW 1
    Accepts s (.core 0) FC_ACK (1 + 16 * true.toNat + 4096 * 5) ∧ s.fcWriter (.core 0) = true ∧ s.fcWriter .debug = false ∧ Accepts d .debug FC_ACK 1 ∧
    Accepts s (.core 0) FC_FCLR 1 ∧ AcceptsField s (.core 0) FC_ERRN FC_ERRN_FWLOW 1 ∧ Accepts s (.core 0) FC_SOK 1 ∧ Accepts s (.core 0) FC_RETRY (1 + 4096 * 5) ∧
    (s.bucket 0 1).missing ≠ 0 ∧ (s.bucket 0 1).since + 16000 * s.rd (FC_TB_REFILL 0) ≤ s.time ∧ (s.acc 0 1).isSome = true ∧ s.acc 0 2 = none ∧ (s.acc 0 4096).isSome = true ∧ s.acc 1 4096 = none ∧
    s.coll.ring.length = 0 ∧ s.rd FC_ERRN_HWP = 1 ∧ s.time % 8000 = 0 ∧ s.coll.sokAt = none ∧ s.rd FC_STAT_SELFOK = 1 ∧ s.coll.opens = [] ∧ s.rd FC_CFG_SOKFW = 0 ∧ k.rd FC_CFG_SOKFW = 1 ∧
    ¬k.time ≤ k.coll.kickAt + 1600000 ∧ k.coll.missFor = none ∧ s.groups = [] := by
  refine ⟨⟨?_, ?_, ?_, ?_, ?_⟩, ?_, ?_, ⟨?_, ?_, ?_, ?_, ?_⟩, ⟨?_, ?_, ?_, ?_, ?_⟩, ⟨?_, ?_, ?_, ?_, ?_⟩, ⟨?_, ?_, ?_, ?_, ?_⟩, ⟨?_, ?_, ?_, ?_, ?_⟩,
    ?_, ?_, ?_, ?_, ?_, ?_, ?_, ?_, ?_, ?_, ?_, ?_, ?_, ?_, ?_, ?_, ?_⟩ <;> decide

/-! ### FramesAreCheckedInOrder -/

set_option maxRecDepth 8000 in
/-- FramesAreCheckedInOrder: transport 4 hears; a frame with a good and one with a bad check value, of a known and of an unknown identity, on an OPEN
connection; a short one; a long payload; a TSYNC frame of a wrong length. -/
theorem test_frame : let s := ((((((((({ base with wide := true, entryIn := [0] }).wr KSF_CTL_ETHEN 1).wr (KSF_ETH_LINK 0) 1).wr (KSF_CONN_STATE 0) 2).wr (KSF_CONN_ID 0) 0x100001).wr (KSF_ALLOW_DIR 0) 1).wr (KSF_ALLOW_LEN 0) 4).wr (KSF_ALLOW_TEXP 0) 10).wr (KSF_CONN_RXSEQ 0) 5).modConn 0 fun x => { x with tr := 4 }
    let s := ((s.wr (KSF_ALLOW_TR 0) 4).wr (KSF_ALLOW_CLASS 0) 1).wr (KSF_ALLOW_BCAST 0) 1
    let v := s.rd KSF_UDPPORT_PORT + s.rd KSF_UDPPORT_PORT * 2 ^ 96
    let w := v % 2 ^ 96
    let f := fun (id seq texp kind : Nat) => (ksfFrame id seq texp [kind, 1, 2, 3]).map (BitVec.ofNat 12)
    let b := fun (id seq texp kind : Nat) => (packWords (ksfFrame id seq texp [kind, 1, 2, 3])).map (BitVec.ofNat 8)
    s.trHears 4 = true ∧ s.trTakes 4 v = true ∧ s.trHears 5 = false ∧ frameFormat 4 (b 0x100001 5 10 2) = true ∧ frameFormat 4 [] = false ∧ unpackWords (b 0x100001 5 10 2) = f 0x100001 5 10 2 ∧
    frameCheck (f 0x100001 5 10 2) = true ∧ frameCheck ((f 0x100001 5 10 2).set 7 9) = false ∧ s.connOf 4 w 0x100001 = some 0 ∧ s.connOf 4 w 7 = none ∧
    s.paramOk 0 (f 0x100001 5 10 2) = true ∧ s.paramOk 0 (f 0x100001 5 11 2) = false ∧ s.paramOk 0 (f 0x100001 5 10 1) = false ∧ s.rd (KSF_ALLOW_BCAST 0) = 1 ∧ tsyncLen (f 0x100001 5 10 1) = false ∧
    s.kindOk (some 0) 0 2 = true ∧ s.kindOk (some 0) 0 8 = false ∧ s.openConn 0 = true ∧ ({ s.conn 0 with fresh := false } : Conn).fresh = false ∧ frameSeq (f 0x100001 40 10 2) = 40 := by
  refine ⟨?_, ?_, ?_, ?_, ?_, ?_, ?_, ?_, ?_, ?_, ?_, ?_, ?_, ?_, ?_, ?_, ?_, ?_, ?_, ?_⟩ <;> decide

/-! ### AcceptedFramesTakeEffect -/

/-- AcceptedFramesTakeEffect: connection 0 is OPEN for entry 0 on transport 4; frames of every kind, also from a new partner. -/
def listening : State :=
  let s := (((({ base with dev := .run, wide := true, entryIn := [0] }).wr KSF_CTL_ETHEN 1).wr (KSF_ETH_LINK 0) 1).wr (KSF_CONN_STATE 0) 2).wr (KSF_CONN_ID 0) 0x100001
  let s := (((s.wr (KSF_ALLOW_DIR 0) 1).wr (KSF_ALLOW_LEN 0) 7).wr (KSF_ALLOW_TEXP 0) 10).wr (KSF_ALLOW_BCAST 0) 1
  let s := ((((s.wr (KSF_ALLOW_CLASS 0) 1).wr (KSF_ALLOW_TR 0) 4).wr (KSF_ALLOW_MAXC 0) 2).wr (KSF_ALLOW_STILL 0) 1).wr (KSF_ALLOW_INIT 0) 1
  (s.modConn 0 fun x => { x with tr := 4 })
def heard (id kind : Nat) : List Word := (ksfFrame id 1 10 [kind, 1, 0, 0, 0, 1, 0x12]).map (BitVec.ofNat 12)
def heardBytes (id kind : Nat) : List Byte := (packWords (ksfFrame id 1 10 [kind, 1, 0, 0, 0, 1, 0x12])).map (BitVec.ofNat 8)
set_option maxRecDepth 8000 in
theorem test_accepted : let s := listening
    let v := s.rd KSF_UDPPORT_PORT + s.rd KSF_UDPPORT_PORT * 2 ^ 96
    let w := v % 2 ^ 96
    s.trHears 4 = true ∧ s.trTakes 4 v = true ∧ unpackWords (heardBytes 0x100001 2) = heard 0x100001 2 ∧ frameFormat 4 (heardBytes 0x100001 2) = true ∧ frameCheck (heard 0x100001 2) = true ∧
    frameKind (heard 0x100001 2) = 2 ∧ s.connOf 4 w 0x100001 = some 0 ∧ s.paramOk 0 (heard 0x100001 2) = true ∧ s.paramOk 0 (heard 0x100001 1) = true ∧ s.kindOk (some 0) 0 2 = true ∧
    s.kindOk (some 0) 0 6 = true ∧ s.kindOk (some 0) 0 8 = true ∧ s.kindOk (some 0) 0 1 = true ∧ s.openConn 0 = true ∧ (1 + 65536 - s.rd (KSF_CONN_RXSEQ 0)) % 65536 = 1 ∧
    s.rd (KSF_ALLOW_ITEN 0) = 0 ∧ (s.wr (KSF_ALLOW_ITEN 0) 1).rd (KSF_ALLOW_ITEN 0) = 1 ∧ s.devTime ≤ 1 ∧ s.bcast.tagged = [] := by
  refine ⟨?_, ?_, ?_, ?_, ?_, ?_, ?_, ?_, ?_, ?_, ?_, ?_, ?_, ?_, ?_, ?_, ?_, ?_, rfl⟩ <;> decide
set_option maxRecDepth 8000 in
/-- AcceptedFramesTakeEffect: admission. -/
theorem test_admitted : let s := listening
    let v := s.rd KSF_UDPPORT_PORT + s.rd KSF_UDPPORT_PORT * 2 ^ 96 % 2 ^ 96
    let j := listening.wr (KSF_CONN_STATE 0) 1
    s.classEntry 4 v 0x100002 = some 0 ∧ s.paramOk 0 (heard 0x100002 3) = true ∧ s.rd (KSF_CONN_ID 0) ≠ 0x100002 ∧ s.rd (KSF_CONN_STATE 0) ≠ 1 ∧ s.freeConn 0x100002 = some 1 ∧ s.dev = .run ∧
    frameCheck (heard 0x100002 3) = true ∧ 1 < s.entryMax 0 ∧ j.rd (KSF_CONN_STATE 0) = 1 ∧ j.connOf 4 v 0x100002 = some 0 ∧ j.kindOk (some 0) 0 4 = true ∧ j.kindOk (some 0) 0 5 = true := by
  refine ⟨?_, ?_, ?_, ?_, ?_, ?_, ?_, ?_, ?_, ?_, ?_, ?_⟩ <;> decide

/-! ### ConnectionsAndTimeSources -/

/-- ConnectionsAndTimeSources: an OPEN connection of a producing and consuming entry, whose watchdog and sending are due; an entry of the device's own,
with and without a connection; accepted commands; transports that are up; a source in force. -/
theorem test_connections : let s := ((((((({ base with dev := .run, wide := true, entryIn := [0], time := 10000000 }).wr (KSF_CONN_STATE 0) 2).wr (KSF_ALLOW_DIR 0) 3).wr (KSF_ALLOW_MAXC 0) 1).wr (KSF_ALLOW_INIT 0) 1).wr (KSF_ALLOW_LEN 0) 8).wr (PWR_CST_STATE 0) 3).modCore 0 fun c => { c with ps := 0x100, run := true }
    let j := (s.wr (KSF_CONN_STATE 0) 1).wr (KSF_CONN_INIT 0) 1
    let n := s.wr (KSF_CONN_STATE 0) 0
    s.openConn 0 = true ∧ s.consumes 0 = true ∧ s.produces 0 = true ∧ (s.conn 0).heardAt + 16000 * s.rd (KSF_ALLOW_TEXP 0) ≤ s.time ∧ Accepts s (.core 0) (KSF_TXCMD 0) 1 ∧ Accepts s (.core 0) (KSF_TXCMD 0) 2 ∧
    Accepts s (.core 0) KSF_TSSEND (0 + 64) ∧ s.svMode (.core 0) = true ∧ s.rd KSF_TSM_M = 0 ∧ Accepts s (.core 0) KSF_CLOSE (0 + 64) ∧ Accepts j (.core 0) KSF_OPEN (0 + 32) ∧ j.entryOn 0 = true ∧ j.entryActive 0 = true ∧
    (List.range 64).find? (fun c => decide (j.rd (KSF_CONN_STATE c) ≠ 0) && decide (j.rd (KSF_CONN_INIT c) = 1) && decide (j.connEntry c = 0)) = some 0 ∧ j.openConn 0 = false ∧ (j.conn 0).joinAt = none ∧
    (List.range 64).find? (fun c => decide (n.rd (KSF_CONN_STATE c) ≠ 0) && decide (n.rd (KSF_CONN_INIT c) = 1) && decide (n.connEntry c = 0)) = none ∧ n.rd (KSF_CONN_STATE 0) = 0 ∧ s.entryOn 1 = false ∧
    (s.wr HIF_KLSTAT_STATE 3).rd HIF_KLSTAT_STATE = 3 ∧ (s.wr KSF_TCFG_SRC 1).rd KSF_TCFG_SRC = 1 ∧ s.partnerTime = false := by
  refine ⟨?_, ?_, ?_, ?_, ⟨?_, ?_, ?_, ?_, ?_⟩, ⟨?_, ?_, ?_, ?_, ?_⟩, ⟨?_, ?_, ?_, ?_, ?_⟩, ?_, ?_, ⟨?_, ?_, ?_, ?_, ?_⟩, ⟨?_, ?_, ?_, ?_, ?_⟩, ?_, ?_, ?_, ?_, ?_, ?_, ?_, ?_, ?_, ?_, ?_⟩ <;> decide

/-! ### HeartbeatsLossAndDoubling -/

/-- HeartbeatsLossAndDoubling: a paired member of role A in RUN with a split channel; a valid heartbeat of an equal and of a later epoch; a partner that is lost;
a doubled channel whose fault is over; differences that are due. -/
theorem test_pair : let s := { (((base.wr MIR_STAT_PSTATE 1).wr MIR_STAT_LINK 1).wr (MIR_SPLIT_EN 5) 1).wr (MIR_SPLIT_DBL 5) 1 with dev := .run, up := true, wide := true, time := 16000000 }
    let hb : Heartbeat := { ident := BitVec.ofNat 32 (s.rd KSF_OWNID_ID), time := 16000000, roleB := true, state := 2, epoch := 0, solo := false, aspects := [], tflt := [] }
    let d := { s with pair := { s.pair with byFault := [5], clearAt := [(5, some 0)], diffAt := [(1, some 0)], ofsAt := some 0 } }
    s.paired = true ∧ s.trPowered 7 = true ∧ s.dueOn 160 0 = true ∧ s.beatValid hb = true ∧ (hb.epoch.toNat + 4096 - s.rd MIR_EPOCH_EPOCH) % 4096 = 0 ∧
    ({ hb with epoch := 1 }.epoch.toNat + 4096 - s.rd MIR_EPOCH_EPOCH) % 4096 = 1 ∧ s.began = s.dev ∧ s.pair.heardAt = none ∧ s.pair.upAt + 160000 * (s.wr MIR_CFG_ABSENT 1).rd MIR_CFG_ABSENT ≤ s.time ∧
    s.rd (MIR_SPLIT_EN 5) = 1 ∧ s.rd (MIR_SPLIT_EN 6) = 0 ∧ d.rd (MIR_SPLIT_DBL 5) = 1 ∧ 5 ∈ d.pair.byFault ∧ ¬5 ∈ d.pair.byLoss ∧ d.pair.clearAt.get none 5 = some 0 ∧ 0 + 1600000 ≤ d.time ∧
    region 0xE80005 = .mirror ∧ s.rd SEAL_DEC_ROLEB = 0 ∧ d.pair.diffAt.get none 1 = some 0 ∧ d.pair.diffRep = [] ∧ d.pair.ofsAt = some 0 ∧ d.pair.ofsRep = false := by
  refine ⟨?_, ?_, ?_, ?_, ?_, ?_, ?_, ?_, ?_, ?_, ?_, ?_, ?_, ?_, ?_, ?_, ?_, ?_, ?_, ?_, ?_, ?_⟩ <;> decide

/-! ### MirrorTransferAndReentry -/

/-- MirrorTransferAndReentry: a paired member in REJOIN with the link up and a transfer under way; a transfer that failed; each answer to REENTER; a proposal,
agreed and not; and its SOLO partner. -/
theorem test_reentry : let s := { (((base.wr MIR_STAT_PSTATE 4).wr MIR_STAT_LINK 1).wr DBG_STAT_UNLOCK 1) with dev := .rejoin, up := true, wide := true, time := 16000000 }
    let s := { s with pair := { s.pair with out := some 0, failAt := some 0, instant := some 16000000, askedAt := 16000000, repeats := [(3, 3)] } }
    let m := { s with dev := .maint }
    let r := ((m.wr MIR_XSTAT_DONE 1).wr MIR_STAT_ALOCK 1).wr MIR_STAT_PSOLO 1
    let o := { s with dev := .run, pair := { s.pair with solo := true, agreed := true } }
    s.paired = true ∧ s.rd MIR_STAT_LINK = 1 ∧ s.pair.out.isSome = true ∧ s.pair.repeats.get 0 3 + 1 = 4 ∧ s.pair.repeats.get 0 4 + 1 < 4 ∧ s.pair.got.length < 2048 ∧ s.pair.failAt = some 0 ∧
    0 + 1600000 ≤ s.time ∧ Accepts s .debug MIR_CTL (2 ^ MIR_CTL_ABORT.lo) ∧ Accepts s .debug MIR_CTL (2 ^ MIR_CTL_REENTER.lo) ∧ s.rd MIR_XSTAT_DONE = 0 ∧
    (r.rd MIR_XSTAT_DONE = 1 ∧ r.rd MIR_STAT_ALOCK = 1 ∧ r.rd MIR_STAT_PSOLO = 1 ∧ r.splitChannels = []) ∧ s.began = .rejoin ∧ s.pair.instant = some 16000000 ∧ s.time ≤ s.pair.askedAt + 800 ∧
    s.pair.agreed = false ∧ o.paired = true ∧ o.pair.solo = true ∧ o.pair.agreed = true ∧ o.dev ≠ .rejoin := by
  refine ⟨?_, ?_, ?_, ?_, ?_, ?_, ?_, ?_, ⟨?_, ?_, ?_, ?_, ?_⟩, ⟨?_, ?_, ?_, ?_, ?_⟩, ?_, ⟨?_, ?_, ?_, ?_⟩, ?_, ?_, ?_, ?_, ?_, ?_, ?_, ?_⟩ <;> decide

/-! ### HandOverSleepAndWake -/

/-- HandOverSleepAndWake: a commitment that waits, a backup whose window is over, SLEEP armed with and without a condition against it, inputs and an alarm that wake. -/
theorem test_supplies : let s := { ((base.wr DBG_STAT_UNLOCK 1).wr PWR_CTL_SLPARM 1).wr PWR_WAKECFG_WEN 1 with dev := .watch, up := true, time := 16000000 }
    let h := { s with pwr := { s.pwr with handAt := some 0 } }
    let b := { s with dev := .sleep, pwr := { s.pwr with handAt := some 0, doneAt := some 0 } }
    let a := ({ s with dev := .sleep }).wr PWR_WAKECFG_ALEN 1
    s.pwr.handAt = none ∧ s.coll.queue = [] ∧ s.coll.dropped = [] ∧ h.pwr.handAt.isSome = true ∧ h.pwr.doneAt = none ∧ b.pwr.doneAt = some 0 ∧ 0 + 32000 ≤ b.time ∧
    AcceptsField s .debug PWR_CTL PWR_CTL_SLPARM 1 ∧ s.rd PWR_CTL_SLPARM = 1 ∧ s.began = .watch ∧ ({ s with devAt := some (16000000, .maint) } : State).began ≠ .watch ∧
    (s.wr (SN_AGACT_DEMAND 0) 1).rd (SN_AGACT_DEMAND 0) = 1 ∧ max s.pwr.armAt s.watchAt + 1600000 ≤ s.time ∧ s.bit PWR_WAKECFG_WEN 0 = true ∧ s.bit PWR_WAKECFG_WPOL 0 = false ∧
    a.rd PWR_WAKECFG_ALEN = 1 ∧ a.rd PWR_ALARM_TIME ≤ a.devTime ∧ (s.wr (PWR_WAKERT_CLU 4) 1).bit (PWR_WAKERT_CLU 4) 0 = true ∧ s.bit PWR_CLUST_LOST 0 = false ∧ s.fabricOff = false ∧
    s.rd (PWR_CST_STATE 0) < 2 ∧ s.recs.sub = none ∧ s.pending = [] := by
  refine ⟨?_, ?_, ?_, ?_, ?_, ?_, ?_, ⟨?_, ?_, ?_, ?_, ?_⟩, ?_, ?_, ?_, ?_, ?_, ?_, ?_, ?_, ?_, ?_, ?_, ?_, ?_, ?_, ?_⟩ <;> decide
/-- HandOverSleepAndWake: SLEEP is armed and nothing stands against it. -/
theorem test_sleep_ready : base.sleepFails 0xF = 0 := by decide +kernel

/-! ### TemperaturesDeratingAndCharging -/

/-- TemperaturesDeratingAndCharging: an input of a type with a reading in its format, one whose value stands and one that comes too fast; a channel on a sensor of its die; an
inhibition and its end that are due. -/
theorem test_temperature : let s := { ((base.wr (TMP_CFG_TYPE 3) 1).wr (TMP_PAR_NF 3) 1008).wr (TMP_CFG_RATE 3) 1 with time := 1000000000 }
    let x := TempRaw.diode 29000000 600
    let q := { s with heat := { s.heat with chg := true, tsbAt := some 0 } }
    s.allOff = false ∧ ([((3 : Fin 49), x)].filter fun y => y.1 = 3) = [(3, x)] ∧ (s.tin 3).renew = false ∧ s.ofType 3 x = true ∧ (s.tempOf 3 x).isSome = true ∧ (s.tempOf 3 x).any (fun v => decide (-2048 ≤ v) && decide (v ≤ 2047)) = true ∧ s.rd (TMP_CFG_NB0EN 3) = 0 ∧ s.rd (TMP_CFG_NB1EN 3) = 0 ∧ s.rd (TMP_ST_XFAIL 3) = 0 ∧
    (s.tin 3).last = none ∧ (s.wr (CH_DRT_TSEL 5) 1).selected 5 ≠ none ∧ q.heat.chg = true ∧ q.rd PWR_BSTAT_CHGINH = 0 ∧ q.rd (TMP_ST_VALID 48) = 0 ∧ q.heat.tsbAt = some 0 ∧
    0 + 160000000 ≤ q.time ∧ (q.wr PWR_BSTAT_CHGINH 1).rd PWR_BSTAT_CHGINH = 1 := by
  refine ⟨?_, ?_, ?_, ?_, ?_, ?_, ?_, ?_, ?_, ?_, ?_, ?_, ?_, ?_, ?_, ?_, ?_⟩ <;> decide

/-! ### ClustersStartAndIdle -/

/-- ClustersStartAndIdle: a cluster that is off, one that runs and one that starts; an accepted start and request to idle, with and without an armed lease; a start whose
proof fails for engine 1; a running cluster that may idle. -/
theorem test_clusters : let s := { (base.wr DBG_STAT_UNLOCK 1).modCore 0 (fun c => { c with ps := 0x100, run := true }) with dev := .run, time := 1000 }
    let r := s.wr (PWR_CST_STATE 0) 3
    let i := (r.modCore 0 fun c => { c with run := false }).modClu 0 fun c => { c with idleReq := true }
    let p := s.wr (PWR_CST_STATE 1) 2
    Accepts s .debug (PWR_CCMD 0) (2 ^ (PWR_CCMD_START 0).lo) ∧ s.fabricOff = false ∧ s.bit PWR_CLUST_LOST 0 = false ∧ s.rd (PWR_CST_STATE 0) < 2 ∧ s.began ≠ .watch ∧ r.rd (PWR_CST_STATE 0) = 3 ∧
    Accepts r (.core 0) (PWR_CCMD 0) (2 ^ (PWR_CCMD_IDLE 0).lo) ∧ r.svMode (.core 0) = true ∧ (r.wr (PWR_WAKERT_CLU 0) 0).bit (PWR_WAKERT_CLU 0) 0 = false ∧
    ((r.wr (CH_STAT_LARM 5) 1).wr (CH_OWNER_ENG 5) 3).rd (CH_STAT_LARM 5) = 1 ∧ p.rd (PWR_CST_STATE 1) = 2 ∧ (p.clu 1).kept = none ∧ (p.clu 1).proven = false ∧ p.rd (PWR_ENGST_STATE 17) ≠ 4 ∧ p.split 1 = false ∧
    (i.clu 0).idleReq = true ∧ (i.core 0).run = false ∧ (∀ c, c < 32 → i.dmaActive 0 c = false) ∧ i.rd (SN_TWCFG_EN 0) = 0 := by
  refine ⟨⟨?_, ?_, ?_, ?_, ?_⟩, ?_, ?_, ?_, ?_, ?_, ⟨?_, ?_, ?_, ?_, ?_⟩, ?_, ?_, ?_, ?_, ?_, ?_, ?_, ?_, ?_, ?_, ?_, ?_⟩ <;> decide

/-! ### RecordStoreAndLifeLedger -/

/-- RecordStoreAndLifeLedger: nothing waits, an item waits, a record waits, a submitted block waits; energy and temperature suffice, or not; a long deferral; a submission that
is accepted, one that is refused, one of no words; a second outside SLEEP, a full hour, a day; a sector that is due for refresh. -/
theorem test_records : let s := { (base.wr TMP_DSVAL_VALID 1).wr (TMP_DS_T 0) 200 with dev := .run, time := 20000000 }
    let i := { s with recs := { s.recs with items := [0] } }
    let c := { s with coll := { s.coll with ring := [0] } }
    let b := { s with recs := { s.recs with sub := some (0x100010, 0x870005, 3) } }
    let d := { s with recs := { s.recs with defAt := some 0, defT := true } }
    let u := (s.wr DBG_STAT_UNLOCK 1).wr REC_SUBSRC_SRC 0x100000
    let g := { s with sage := { s.sage with now := { s.sage.now with onS := 3600 }, weak := [7] } }
    s.recs.items = [] ∧ s.recs.sub = none ∧ s.coll.ring = [] ∧ (List.range 8).any s.dsValid = true ∧ s.recs.hot = false ∧ 600000 + 450000 * 16 ≤ s.rd PWR_HCAP_CAP * (5000 ^ 2 - 12960000) ∧
    ¬600000 + 450000 * 12 ≤ s.rd PWR_HCAP_CAP * (3600 ^ 2 - 12960000) ∧ i.recs.items.head? = some 0 ∧ c.coll.ring ≠ [] ∧ b.recs.sub = some (0x100010, 0x870005, 3) ∧ (∀ j, j < 3 → b.isBad (0x100010 + j) = false) ∧
    d.recs.defAt = some 0 ∧ d.recs.rep = false ∧ 0 + 16000000 ≤ d.time ∧ Accepts u .debug REC_SUBCMD (2 ^ REC_SUBCMD_GO.lo) ∧ u.recs.sub = none ∧ u.rd REC_SUBLEN_LEN = 0 ∧
    (u.wr REC_SUBLEN_LEN 4).rd REC_SUBLEN_LEN = 4 ∧ (u.wr REC_SUBLEN_LEN 300).rd REC_SUBLEN_LEN = 300 ∧ u.rd REC_SUBDST_DST = 0x870000 ∧ g.sage.now.onS % 3600 = 0 ∧ g.sage.now.onS ≠ g.sage.snap.onS ∧ 0 ∉ g.recs.items ∧
    g.sage.walkAt = none ∧ 7 ∈ g.sage.weak ∧ g.sage.noSpare = false ∧ 0 < g.rd SAGE_FSTAT_SPARES ∧ (∀ j, j < 8 → g.dsValid j = true → -320 ≤ g.dsTemp j ∧ g.dsTemp j ≤ 1000) := by
  refine ⟨?_, ?_, ?_, ?_, ?_, ?_, ?_, ?_, ?_, ?_, ?_, ?_, ?_, ?_, ⟨?_, ?_, ?_, ?_, ?_⟩, ?_, ?_, ?_, ?_, ?_, ?_, ?_, ?_, ?_, ?_, ?_, ?_, ?_⟩ <;> decide

/-! ### ResetsPowerCycleAndStartUp -/

/-- A firmware slot 0 with a header, a key for it, and no header in slot 1. -/
def firmware : State :=
  let h := fun i => if i = 0 then 0x1B0 else if i = 1 then 1 else if i = 2 then 0x200 else if i = 4 then 1 else if i < 8 ∨ 24 ≤ i then 0 else if i % 2 = 0 then 0x080 else 0x400
  { base with flash := (List.range 128).map (fun i => (0x400000 + i, h i)) ++ [(0x5F8000, 0)], otp := [(3, 7)] }
/-- ResetsPowerCycleAndStartUp: supplies before the release; a reset that takes effect, one while a hand-over is committed; an accepted and a refused key; a power cycle that is not
answered; a start-up with a firmware slot in use and without, with the SAFE hold and without it; OTP writes in MAINT and outside. -/
theorem test_boot : let s := (base.wr (PWR_CST_STATE 2) 3).modCore 64 fun c => { c with run := true }
    let v := (((s.wr PWR_SUPST_VCORE 1).wr PWR_SUPST_VAON 1).wr PWR_SUPST_VANA 1).wr PWR_SUPST_VIO 1
    let v := { v with pwr := { v.pwr with released := false } }
    let d := { s with pwr := { s.pwr with released := true }, time := 100 }
    let h := { d with pwr := { d.pwr with handAt := some 5 } }
    let p := { d with pwr := { d.pwr with pcycAt := some 0 }, time := 16000000 }
    let f := { firmware with pwr := { released := true } }
    let o := { s.wr DBG_STAT_UNLOCK 1 with dev := .maint }
    (v.pwr.released = false ∧ v.dev ≠ .sleep ∧ v.pwr.doneAt = none ∧ v.rd PWR_SUPST_VCORE ≠ 0 ∧ v.rd PWR_SUPST_VAON ≠ 0 ∧ v.rd PWR_SUPST_VANA ≠ 0 ∧ v.rd PWR_SUPST_VIO ≠ 0) ∧
    (d.pwr.released = true ∧ d.pwr.handAt = none ∧ d.coll.queue = [] ∧ d.coll.dropped = [] ∧ d.dev ≠ .sleep ∧ h.pwr.handAt.isSome = true) ∧ Permits d .host HIF_RST ∧ Permits d .host HIF_PCYC ∧ Permits d (.core 64) HIF_RST ∧
    (p.pwr.pcycAt = some 0 ∧ 0 + 16000000 ≤ p.time ∧ p.pwr.handAt = none ∧ p.coll.queue = [] ∧ p.coll.dropped = []) ∧
    (f.pwr.released = true ∧ f.up = false ∧ f.dev ≠ .sleep ∧ f.pwr.handAt = none ∧ f.pwr.pcycFlag = false ∧ f.pwr.safeHold = false ∧ f.dev ≠ .safe ∧ f.slotReason 0 true = 0 ∧ f.slotReason 0 false ≠ 0 ∧ f.slotReason 1 true ≠ 0 ∧
      f.slotEarly 1 ≠ 0 ∧ f.rd HIF_BOOT_FALLBK = 0 ∧ f.rd HIF_BOOT_NONE = 0 ∧ f.rd PWR_CLUST_LOST = 0 ∧ f.rd (PWR_CST_STATE 0) < 2 ∧ f.rd (PWR_CST_STATE 1) < 2 ∧ f.fabricOff = false) ∧
    switchValues 0xFFFF 31234 34301 0 = 31234 ∧ switchFaults 0xFFFF 31234 34301 0 = 0 ∧ Accepts o .debug DBG_OTPCMD (2 ^ DBG_OTPCMD_GO.lo) ∧ o.rd DBG_OTPA_ADDR < 0x300 ∧ 0x300 ≤ (o.wr DBG_OTPA_ADDR 0x300).rd DBG_OTPA_ADDR := by
  refine ⟨?_, ?_, ⟨?_, ?_⟩, ⟨?_, ?_⟩, ⟨?_, ?_⟩, ?_, ?_, ?_, ?_, ⟨?_, ?_, ?_, ?_, ?_⟩, ?_, ?_⟩ <;> decide +kernel

/-! ### HostPortMailboxesFlashAndChipsetLink -/

/-- HostPortMailboxesFlashAndChipsetLink: the fabric off and on; global memory in reach; an empty and a full mailbox; RAISE; a flash command that is accepted, one that is refused; a
flash command under way; the chipset link in each state, late and waiting. -/
theorem test_host : let s := { base.wr DBG_STAT_UNLOCK 1 with wide := true, dev := .maint }
    let k := s.wr KSF_CTL_KLEN 1
    let u := (k.wr HIF_KLSTAT_STATE 3).wr HIF_KLSTAT_LANES 3
    let b := { k with ports := { k.ports with klAt := some 0 }, time := 16000 }
    let f := { s with ports := { s.ports with flash := some (2, 0x400000, 0x100000, 4) } }
    (State.fabricOff { s with xtalLost := true } = true ∧ s.fabricOff = false ∧ (∀ i, i < 3 → region (0x100000 + i) = .global ∧ s.memOff (0x100000 + i) = false ∧ s.isBad (0x100000 + i) = false)) ∧
    (s.rd (HIF_HDB_FULL 2) = 0 ∧ s.rd (HIF_DDB_FULL 2) = 0 ∧ (s.wr (HIF_HDB_FULL 2) 1).rd (HIF_HDB_FULL 2) = 1 ∧ s.marked (HIF_HDB_FULL 2) = 0 ∧ (s.wr (PWR_WAKERT_CLU 3) 0).rd (PWR_WAKERT_CLU 3) = 0) ∧
    Accepts s .host (HIF_HDB 2) 5 ∧ Accepts s .debug (HIF_DDB 2) 5 ∧ Accepts s .host (HIF_HDB 2) (2 ^ (HIF_HDB_FULL 2).lo) ∧ Accepts s .debug HIF_BOOTCMD (2 ^ HIF_BOOTCMD_RAISE.lo + 2 ^ HIF_BOOTCMD_KEY.lo * 0x5B) ∧
    (∀ op : Fin 2, Accepts s .host HIF_FLCMD (op.val + 1 + 2 ^ HIF_FLCMD_KEY.lo * 0xF1)) ∧ (s.ports.flash = none ∧ region (s.rd HIF_FLADR_ADDR) = .flash ∧ s.rd HIF_FLADR_ADDR % 0x4000 = 0 ∧
      region (s.rd HIF_FLSRC_SRC) = .global ∧ region (s.rd HIF_FLSRC_SRC + 3) = .global ∧ s.flash = [] ∧ s.cores = [] ∧ f.ports.flash.isSome = true) ∧ Accepts k .host HIF_KLCTL (2 ^ HIF_KLCTL_RETRAIN.lo) ∧
    (k.rd KSF_CTL_KLEN = 1 ∧ k.rd HIF_KLSTAT_STATE = 0 ∧ (k.wr HIF_KLSTAT_STATE 1).rd HIF_KLSTAT_STATE = 1 ∧ u.rd HIF_KLSTAT_STATE = 3 ∧ (u.rd HIF_KLSTAT_LANES).testBit 1 = true ∧ (u.wr HIF_KLSTAT_LANES 2).rd HIF_KLSTAT_LANES = 2 ∧
      b.ports.klAt = some 0 ∧ 0 + 16000 ≤ b.time ∧ b.time < 0 + 160000) := by
  refine ⟨?_, ?_, ⟨?_, ?_, ?_, ?_, ?_⟩, ⟨?_, ?_, ?_, ?_, ?_⟩, ⟨?_, ?_, ?_, ?_, ?_⟩, ⟨?_, ?_, ?_, ?_, ?_⟩, fun op => ?_, ?_, ⟨?_, ?_, ?_, ?_, ?_⟩, ?_⟩
  case refine_23 => fin_cases op <;> exact ⟨by decide, by decide, by decide, by decide, by decide⟩
  all_goals decide

/-! ### TestPortDebugAccessAndHalt -/

/-- TestPortDebugAccessAndHalt: MAINT with every channel disabled, and with one enabled; unlocked and locked; a core that lives and is at a halt point, halted, or in a delay slot; a
lockstep engine and a split core; a halted core with each kind of register selected. -/
theorem test_debug : let m := { base.wr DBG_STAT_UNLOCK 1 with dev := .maint, wide := true }
    let l := m.modCore 0 fun c => { c with run := true }
    let d := l.modCore 0 fun c => { c with slot := some ⟨4, 8, true⟩ }
    let h := l.modCore 0 fun c => { c with halted := true }
    let w := fun n => (h.wr DBG_RSEL_SEL n).rd DBG_RSEL_SEL
    (m.dev = .maint ∧ (m.wr (CH_CFG_EN 5) 1).rd (CH_CFG_EN 5) ≠ 0 ∧ m.rd DBG_STAT_FAILS ≠ 3 ∧ (m.wr DBG_STAT_FAILS 3).rd DBG_STAT_FAILS = 3 ∧ State.fabricOff { m with xtalLost := true } = true ∧ m.fabricOff = false ∧
      m.rd DBG_STAT_UNLOCK = 1 ∧ base.rd DBG_STAT_UNLOCK ≠ 1 ∧ m.memOff 0x100000 = false ∧ m.isBad 0x100000 = false ∧ region 0x100000 = .global ∧ (m.wr (PWR_CST_STATE 0) 3).cluRuns 0 = true ∧ (m.wr (PWR_CST_STATE 0) 1).cluRuns 0 = false ∧ ({ m with wide := false } : State).memOff 0x100000 = true) ∧
    (l.debugCore = 0 ∧ l.noCore 0 = false ∧ (l.core 0).run = true ∧ (l.core 0).stopped = false ∧ l.rd (PWR_ENGST_STATE 0) ≠ 4 ∧ l.split 0 = false ∧ (l.core 0).halted = false ∧ l.haltPoint 0 = true ∧ d.haltPoint 0 = false ∧
      (l.wr PWR_SPLIT_MAP 1).split 2 = true ∧ (h.core 0).halted = true ∧ (w 3, w 0x21, w 0x28, w 0x40, w 0x105, w 0x305) = (3, 0x21, 0x28, 0x40, 0x105, 0x305)) ∧
    Accepts l .debug DBG_CMD (2 ^ DBG_CMD_HALT.lo) ∧ Accepts h .debug DBG_CMD (2 ^ DBG_CMD_RESUME.lo) ∧ Accepts h .debug DBG_CMD (2 ^ DBG_CMD_STEP.lo) ∧ Accepts h .debug DBG_RDATA 0xABCDEF123 := by
  refine ⟨?_, ?_, ⟨?_, ?_, ?_, ?_, ?_⟩, ⟨?_, ?_, ?_, ?_, ?_⟩, ⟨?_, ?_, ?_, ?_, ?_⟩, ⟨?_, ?_, ?_, ?_, ?_⟩⟩ <;> decide
/-- In MAINT after reset every channel is disabled, and none is frozen. -/
theorem test_debug_free : (∀ n, base.rd (CH_CFG_EN n) = 0) ∧ ∀ n, base.rd (CH_STAT_FROZEN n) = 0 := ⟨fun _ => rfl, fun _ => rfl⟩

/-! ### NegationsAndAbsoluteValues -/

/-- NegationsAndAbsoluteValues: core 0 of a running cluster stands at an instruction. -/
theorem test_issue_neg : let s := withCode (codeR 2 1 2 0 2)
    Issues s 0 2 ∧ Stands s (.neg 0 1 2) := test_stands _ rfl

/-! ### MultiplicationsFormTheExactProduct -/

/-- MultiplicationsFormTheExactProduct: core 0 of a running cluster stands at an instruction. -/
theorem test_issue_mul : let s := withCode (codeR 4 1 2 3 0)
    Issues s 0 2 ∧ Stands s (.mul 0 1 2 3) := test_stands _ rfl

/-! ### ShiftsAndRotations -/

/-- ShiftsAndRotations: core 0 of a running cluster stands at an instruction. -/
theorem test_issue_shift : let s := withCode (codeR 3 1 2 3 0)
    Issues s 0 2 ∧ Stands s (.sll 0 1 2 3) := test_stands _ rfl

/-! ### EveryStepKeepsTheCoreWidths -/

/-- EveryStepKeepsTheCoreWidths: a state whose cores are within their widths, and which steps. -/
theorem test_widths : let s := withCode (codeR 1 3 4 5 0)
    (∀ q, CoreSized (s.core q)) ∧ step { s with pending := [.add 0 3 4 5] } = exec (.add 0 3 4 5) s := by
  refine ⟨fun q => ?_, rfl⟩
  by_cases h : q = 0
  · subst h; exact (withCode_issues _ 0).1.sized
  · have : (withCode (codeR 1 3 4 5 0)).core q = {} := by
      have e : (withCode (codeR 1 3 4 5 0)).cores = SMap.set ({} : Core) [] 0 ((atCode 0x400010).core 0) := rfl
      rw [State.core, e, SMap.get_set_ne h]; rfl
    rw [this]
    exact ⟨zero_words rfl, by decide, by decide, by intro x h; cases h⟩

/-! ### RowsActWhereTheirCodeStands -/

/-- RowsActWhereTheirCodeStands: rows with a code, one with an immediate after it; a core at whose PC another code stands. -/
theorem test_codes : codeOf (.add 0 3 4 5) = some (0, codeR 1 3 4 5 0, 0, none) ∧ codeOf (.lxi 0 2 0x400000) = some (0, codeE 56 8 0, 0, some 0x400000) ∧
    srGroup 5 ≠ none ∧ srGroup 63 = none ∧ (withCode (codeR 1 3 4 6 0)).fetchFault 0 2 = none ∧ (withCode (codeE 56 8 0) 0x400002).fetchFault 0 4 = none ∧ codeR 1 3 4 6 0 ||| 0 ≠ codeR 1 3 4 5 0 ||| 0 :=
  ⟨rfl, rfl, by decide, by decide, (withCode_issues _ 0).1.fetch, (withCode_issues _ _).2.fetch, by decide⟩

end Sys2Proof.Tests
end

section
/-! Proofs of the statements on the whole step relation (R3, R4): each follows from what every operation keeps. -/
namespace Sys2Proof.Machine
open Sys2Proof.Safety

theorem Kept.safe {a t : State} (k : Kept a t) : SafeKept a t := fun hd hu => (k.2.2.2 hd hu).imp And.left id

/-- Settles O6: every operation is `Kept`, a tick as well as a command; the command's is taken of the state without it in its queue, whose
device state is the same. -/
theorem safeIsLeftOnlyByDeviceReset : Obligations.SafeIsLeftOnlyByDeviceReset := by
  unfold Obligations.SafeIsLeftOnlyByDeviceReset
  intro s t h
  unfold step at h
  split at h
  case h_1 =>
    cases h
    exact (State.tick_kept Kept.refl).safe
  case h_2 i rest _ =>
    obtain ⟨u, hu, k⟩ := exec_kept (i := i) (s := { s with pending := rest })
    cases hu.symm.trans h
    exact fun hd hu => k.safe hd hu

/-- Settles O7: `exec_kept` of each row of the dispatch. -/
theorem everyCommandCompletesAndLeavesTheQueue : Obligations.EveryCommandCompletesAndLeavesTheQueue := by
  unfold Obligations.EveryCommandCompletesAndLeavesTheQueue
  intro i s
  obtain ⟨t, ht, hqueue, -⟩ := exec_kept (i := i) (s := s)
  exact ⟨t, ht, hqueue⟩

end Sys2Proof.Machine
end

section
/-! Register words (R12, R13): staging, the whole write and capture, on the way of REGISTER_WRITE and MULTIWORD_READ_CAPTURE. -/
namespace Sys2Proof.Machine
open Sys2Proof.Safety
namespace State
variable {s : State} {r : Requester} {reg : Reg} {a w : Nat}

/-- R12, R38: a permitted write of a word that reaches its register. -/
theorem busWrite_permitted (hu : s.unreached a = false) (hs : s.silent r = false) (hr : regAt a = some reg) (hm : s.mayWrite r reg = true) :
    s.busWrite r a w = (s.writeWord r reg a w, true) := by
  simp [busWrite, hu, hs, hr, hm]
theorem busRead_permitted (hu : s.unreached a = false) (hs : s.silent r = false) (hr : regAt a = some reg) (hm : s.mayRead r reg = true) :
    s.busRead r a = ((s.readWord r reg a (s.regValue reg)).1, (s.readWord r reg a (s.regValue reg)).2, true) := by
  simp [busRead, hu, hs, hr, hm]
theorem writeWord_lower (h : a - reg.addr + 1 < reg.words) : s.writeWord r reg a w = s.setStaged r a (some w) := if_pos h
theorem writeWord_highest (h : reg.words ≤ a - reg.addr + 1) : s.writeWord r reg a w = s.writeWhole r reg a (s.wholeWords r reg w) :=
  if_neg (Nat.not_lt.2 h)

/-- A read of the lowest word captures every upper word. -/
theorem readWord_lowest_captures {v j : Nat} (hj : j + 1 < reg.words) :
    (s.readWord r reg reg.addr v).1.capture? r (reg.addr + j + 1) = some (bits v (12 * (j + 1)) 12) := by
  have all : ∀ k, j < k → ((List.range k).foldl (fun t j => State.setCapture t r (reg.addr + j + 1) (some (bits v (12 * (j + 1)) 12))) s).capture? r
      (reg.addr + j + 1) = some (bits v (12 * (j + 1)) 12) := by
    intro k
    induction k with
    | zero => intro h; omega
    | succ k ih =>
      intro h
      rw [List.range_succ, List.foldl_append]
      simp only [List.foldl_cons, List.foldl_nil, setCapture, capture?, SMap.get_set, reqKey]
      by_cases hk : j = k
      · simp [hk]
      · rw [if_neg (by omega)]
        exact ih (by omega)
  simp only [readWord, Nat.sub_self, ↓reduceIte]
  exact all _ (by omega)
theorem readWord_lowest_rest {v : Nat} : { (s.readWord r reg reg.addr v).1 with captured := s.captured } = s := by
  simp only [readWord, Nat.sub_self, ↓reduceIte]
  have h := foldl_same (s := s) (fs := List.range (reg.words - 1)) (fun t => { t with captured := s.captured })
    (op := fun t j => t.setCapture r (reg.addr + j + 1) (some (bits v (12 * (j + 1)) 12))) fun _ _ => rfl
  generalize (List.range (reg.words - 1)).foldl _ s = t at h ⊢
  exact h

/-- R14: a register none of whose fields is lockable takes the whole value as it is. -/
theorem lockFields_free {v : Nat} (h : ∀ f ∈ reg.fields, s.lockable f.acc = false) : s.lockFields reg a v = (s, v) := by
  unfold lockFields
  rw [if_pos]
  rw [List.filter_eq_nil_iff]
  intro f hf
  simp [h f hf]

end State

/-- R13: a word of a register all of whose bits belong to fields is written as it is, 12 bits of it. -/
theorem definedBits_full {reg : Reg} {i x : Nat} (h : ∀ b, b < 12 → reg.defined i b = true) : definedBits reg i x = x % 4096 := by
  have hd : definedBits reg i x = definedBits reg i (x % 4096) := by
    unfold definedBits
    refine foldl_congr_mem fun b hb c => ?_
    rw [show (4096 : Nat) = 2 ^ 12 from rfl, Nat.testBit_mod_two_pow, decide_eq_true (List.mem_range.1 hb), Bool.true_and]
  rw [hd]
  refine definedBits_eq (Nat.mod_lt _ (by decide)) ?_
  simp only [Reg.reservedSet, List.any_eq_false, List.mem_range]
  intro b hb
  simp [h b hb]
theorem reservedSet_full {reg : Reg} {i x : Nat} (h : ∀ b, b < 12 → reg.defined i b = true) : reg.reservedSet i x = false := by
  simp only [Reg.reservedSet, List.any_eq_false, List.mem_range]
  intro b hb
  simp [h b hb]

/-- Both words of HIF_FLADR consist of address bits. -/
theorem fladr_defined {i : Nat} (hi : i < 2) : ∀ b, b < 12 → HIF_FLADR.defined i b = true := by
  intro b hb
  simp [Reg.defined, HIF_FLADR, HIF_FLADR_ADDR]
  omega

namespace State
variable {s : State} {r : Requester} {reg : Reg} {a w : Nat}
theorem staged_setStaged {o : Option Nat} {k : Nat} : (s.setStaged r a o).staged.get none k = if k = reqKey r a then o else s.staged.get none k := by
  unfold setStaged
  exact SMap.get_set
theorem fladr_lt {o : Nat} (hw : w < 4096) : 4096 * w + o % 4096 < 2 ^ 24 := by omega
/-- R12: the words that a write of the upper word of HIF_FLADR carries. -/
theorem wholeWords_fladr : s.wholeWords r HIF_FLADR w = ((s.staged.get none (reqKey r 0xD90011)).map fun x => (0, x)).toList ++ [(1, w)] := by
  show ([0].filterMap fun j => (s.staged.get none (reqKey r (0xD90011 + j))).map fun x => (j, x)) ++ [(1, w)] = _
  cases h : s.staged.get none (reqKey r 0xD90011)
  · simp [h]
  · simp [h]
/-- R12: they give the whole value: the upper word above the lower one, staged or present. -/
theorem wholeValue_fladr (hw : w < 4096) : wholeValue HIF_FLADR (s.present HIF_FLADR) (s.wholeWords r HIF_FLADR w) =
    4096 * w + (s.staged.get none (reqKey r 0xD90011)).getD (s.rd HIF_FLADR_ADDR) % 4096 := by
  have hold : s.present HIF_FLADR = s.rd HIF_FLADR_ADDR := by simp [present, held, HIF_FLADR, HIF_FLADR_ADDR]
  have hword : ∀ i x, i < 2 → definedBits HIF_FLADR i x = x % 4096 := fun i x hi => definedBits_full (fladr_defined hi)
  rw [hold, wholeWords_fladr]
  cases s.staged.get none (reqKey r 0xD90011) with
  | none =>
    show 0 + bits (s.rd HIF_FLADR_ADDR) 0 12 * 4096 ^ 0 + definedBits HIF_FLADR 1 w * 4096 ^ 1 = _
    rw [hword 1 w (by decide), bits, Option.getD_none, Nat.pow_zero, Nat.div_one]
    omega
  | some x =>
    show 0 + definedBits HIF_FLADR 0 x * 4096 ^ 0 + definedBits HIF_FLADR 1 w * 4096 ^ 1 = _
    rw [hword 0 x (by decide), hword 1 w (by decide), Option.getD_some]
    omega
/-- R12, R13: a write of the upper word of HIF_FLADR stores the whole value and uses the staged word up. -/
theorem writeWord_fladr (hw : w < 4096) : s.writeWord r HIF_FLADR 0xD90012 w = (s.setStaged r 0xD90011 none).wr HIF_FLADR_ADDR
    (4096 * w + (s.staged.get none (reqKey r 0xD90011)).getD (s.rd HIF_FLADR_ADDR) % 4096) := by
  have hfind : (s.wholeWords r HIF_FLADR w).find? (fun x => HIF_FLADR.reservedSet x.1 x.2) = none := by
    rw [List.find?_eq_none]
    intro x hx
    have hi : x.1 < 2 := by
      rw [wholeWords_fladr] at hx
      simp only [List.mem_append, Option.mem_toList, Option.map_eq_some_iff, List.mem_singleton] at hx
      rcases hx with ⟨_, _, rfl⟩ | rfl
      · exact Nat.zero_lt_two
      · exact Nat.one_lt_two
    simp [reservedSet_full (x := x.2) (fladr_defined hi)]
  have hunstage : s.unstage r HIF_FLADR = s.setStaged r 0xD90011 none := rfl
  rw [writeWord_highest (by decide)]
  simp only [writeWhole, wholeValue_fladr hw, hfind, hunstage, acceptWrite]
  rw [lockFields_free (by simp [HIF_FLADR, HIF_FLADR_ADDR, lockable])]
  have hlt := fladr_lt (o := (s.staged.get none (reqKey r 0xD90011)).getD (s.rd HIF_FLADR_ADDR)) hw
  generalize 4096 * w + _ = v at hlt ⊢
  show (s.setStaged r 0xD90011 none).wr HIF_FLADR_ADDR (HIF_FLADR_ADDR.of v) = _
  rw [Fld.of, bits, HIF_FLADR_ADDR, Nat.pow_zero, Nat.div_one, Nat.mod_eq_of_lt hlt]
end State

theorem exec_registerWrite {s : State} {r : Requester} {a : Addr} {w : Word} : exec (.registerWrite r a w) s = execRegisterWrite r a w s := rfl
theorem exec_multiwordReadCapture {s : State} {r : Requester} {a : Addr} : exec (.multiwordReadCapture r a) s = execMultiwordReadCapture r a s := rfl

/-- Settles O9: a lower word is staged, the highest word makes the whole write (on HIF_FLADR), a read of the lowest captures. -/
theorem registerWordsAreStagedWrittenAndCaptured : Obligations.RegisterWordsAreStagedWrittenAndCaptured := by
  unfold Obligations.RegisterWordsAreStagedWrittenAndCaptured
  refine ⟨?_, ?_, ?_⟩
  · intro s r a w reg hu hs hr hm hlow
    refine ⟨s.setStaged r a.toNat (some w.toNat), ?_, ?_, ?_, rfl⟩
    · rw [exec_registerWrite, execRegisterWrite]
      simp only [State.busWrite_permitted hu hs hr hm, State.writeWord_lower hlow, ↓reduceIte]
    · rw [State.staged_setStaged, if_pos rfl]
    · intro k hk
      rw [State.staged_setStaged, if_neg hk]
  · intro s r w hp
    have hreg : regAt 0xD90012 = some HIF_FLADR := by decide
    have hwrite : s.busWrite r 0xD90012 w.toNat = _ := State.busWrite_permitted hp.reached.1 hp.reached.2 hreg hp.may
    rw [State.writeWord_fladr w.isLt] at hwrite
    have hlt := State.fladr_lt (o := (s.staged.get none (reqKey r 0xD90011)).getD (s.rd HIF_FLADR_ADDR)) w.isLt
    generalize hv : 4096 * w.toNat + _ = v at hwrite hlt
    refine ⟨(s.setStaged r 0xD90011 none).wr HIF_FLADR_ADDR v, ?_, ?_, ?_, ?_, ?_, rfl⟩
    · rw [exec_registerWrite, execRegisterWrite, show (0xD90012 : Addr).toNat = 0xD90012 from rfl]
      simp only [hwrite, ↓reduceIte]
    · rw [State.rd_wr_same, show HIF_FLADR_ADDR.width = 24 from rfl, Nat.mod_eq_of_lt hlt, ← hv]
      cases s.staged.get none (reqKey r 0xD90011)
      · rfl
      · rfl
    · rw [State.wr_staged, State.staged_setStaged, if_pos rfl]
    · intro k hk
      rw [State.wr_staged, State.staged_setStaged, if_neg hk]
    · exact .wr List.mem_cons_self fun _ _ => State.setStaged_rd
  · rintro s r a reg hu hs hr ha hm
    refine ⟨(s.readWord r reg reg.addr (s.regValue reg)).1, ?_, fun j hj => State.readWord_lowest_captures hj, State.readWord_lowest_rest⟩
    rw [exec_multiwordReadCapture, execMultiwordReadCapture]
    simp only [State.busRead_permitted hu hs hr hm, ↓reduceIte, ha]
end Sys2Proof.Machine
end

section
/-! PWR_HCAP under R14: the lock after seal, and the range before it. -/
namespace Sys2Proof.Machine
open Sys2Proof.Safety
namespace State
variable {s : State} {r : Requester} {a v : Nat}

theorem cap_of (hv : v < 4096) : PWR_HCAP_CAP.of v = v := by
  rw [Fld.of, bits, PWR_HCAP_CAP, Nat.pow_zero, Nat.div_one]
  exact Nat.mod_eq_of_lt hv
theorem cap_into {x : Nat} (hx : x < 4096) (hv : v < 4096) : PWR_HCAP_CAP.into x v = x := by
  rw [Fld.into, cap_of hv, PWR_HCAP_CAP, Nat.pow_zero, Nat.mul_one, Nat.mul_one, Nat.sub_self, Nat.zero_add]
  exact Nat.mod_eq_of_lt hx
theorem hcap_defined : ∀ b, b < 12 → PWR_HCAP.defined 0 b = true := by
  intro b hb
  simp [Reg.defined, PWR_HCAP, PWR_HCAP_CAP, hb]
/-- R14: the whole value of PWR_HCAP that reaches it: after seal its own. -/
theorem lockFields_hcap (hv : v < 4096) : s.lockFields PWR_HCAP a v =
    if s.sealed = true ∧ v ≠ s.rd PWR_HCAP_CAP then (s.flag a 1 1, s.rd PWR_HCAP_CAP) else (s, v) := by
  have hf : PWR_HCAP.fields.filter (fun f => s.sealed && s.lockable f.acc && f.of v != s.rd f) = if s.sealed = true ∧ v ≠ s.rd PWR_HCAP_CAP then [PWR_HCAP_CAP] else [] := by
    rw [show PWR_HCAP.fields = [PWR_HCAP_CAP] from rfl, List.filter_singleton, cap_of hv, show s.lockable PWR_HCAP_CAP.acc = true from rfl]
    by_cases h : s.sealed = true ∧ v ≠ s.rd PWR_HCAP_CAP
    · rw [if_pos h, Bool.and_true, show (s.sealed && v != s.rd PWR_HCAP_CAP) = true by simpa using h]
      rfl
    · rw [if_neg h, Bool.and_true, show (s.sealed && v != s.rd PWR_HCAP_CAP) = false by simpa using h]
      rfl
  unfold lockFields
  rw [hf]
  split
  · exact congrArg (Prod.mk _) (cap_into rd_lt hv)
  · rfl
/-- PWR_HCAP stores the nearest value from 10 to 4,095, and flags another. -/
theorem storeBounded_hcap (hv : v < 4096) : s.storeBounded PWR_HCAP a v = (if 10 ≤ v then s else s.flag a 0 2).wr PWR_HCAP_CAP (max 10 v) := by
  have hb : s.boundFields PWR_HCAP a v = (if 10 ≤ v then s else s.flag a 0 2, max 10 v) := by
    show (if decide (10 ≤ PWR_HCAP_CAP.of v) && decide (PWR_HCAP_CAP.of v ≤ 4095) then (s, v)
      else (s.flag a 0 2, PWR_HCAP_CAP.into ((some (max 10 (min 4095 (PWR_HCAP_CAP.of v)))).getD (s.rd PWR_HCAP_CAP)) v)) = _
    rw [cap_of hv, Option.getD_some, cap_into (by omega) hv]
    by_cases h : 10 ≤ v
    · simp [h, Nat.le_of_lt_succ hv]
    · simp [h]; omega
  unfold storeBounded
  rw [hb]
  show State.wr _ PWR_HCAP_CAP (PWR_HCAP_CAP.of (max 10 v)) = _
  rw [cap_of (by omega)]
/-- R12 to R14: what a permitted write of PWR_HCAP comes to. -/
theorem writeWord_hcap (hv : v < 4096) : s.writeWord r PWR_HCAP 0xD40043 v =
    (if s.sealed = true ∧ v ≠ s.rd PWR_HCAP_CAP then s.flag 0xD40043 1 1 else s).storeBounded PWR_HCAP 0xD40043
      (if s.sealed = true ∧ v ≠ s.rd PWR_HCAP_CAP then s.rd PWR_HCAP_CAP else v) := by
  have hword : definedBits PWR_HCAP 0 v = v := (definedBits_full hcap_defined).trans (Nat.mod_eq_of_lt hv)
  have hvalue : wholeValue PWR_HCAP (s.present PWR_HCAP) (s.wholeWords r PWR_HCAP v) = v := by
    show 0 + definedBits PWR_HCAP 0 v * 4096 ^ 0 = v
    omega
  have hfind : (s.wholeWords r PWR_HCAP v).find? (fun x => PWR_HCAP.reservedSet x.1 x.2) = none := by
    show [(0, v)].find? _ = none
    simp [reservedSet_full hcap_defined]
  rw [writeWord_highest (by decide)]
  simp only [writeWhole, hvalue, hfind, unstage_one (show PWR_HCAP.words = 1 from rfl), acceptWrite, lockFields_hcap hv]
  split
  · rfl
  · rfl

end State

/-- Settles O10: the write is R14's test of the field followed by the register's own range. -/
theorem sealedFieldKeepsItsValue : Obligations.SealedFieldKeepsItsValue := by
  unfold Obligations.SealedFieldKeepsItsValue
  intro s r w hp hcap
  have hv : w.toNat < 4096 := w.isLt
  have hrd : s.rd PWR_HCAP_CAP < 4096 := State.rd_lt
  have hwrite : s.busWrite r 0xD40043 w.toNat = _ := State.busWrite_permitted hp.reached.1 hp.reached.2 (show regAt 0xD40043 = some PWR_HCAP by decide) hp.may
  rw [State.writeWord_hcap hv] at hwrite
  have hexec : exec (.registerWrite r 0xD40043 w) s = _ := exec_registerWrite.trans
    (congrArg (fun p : State × Bool => Host.Outcome.next (if p.2 then p.1 else (s.refuseCommand r 0xD40043).ownRefusal 0xD40043)) hwrite)
  rw [hexec]
  by_cases hs : s.sealed = true
  · by_cases he : w.toNat = s.rd PWR_HCAP_CAP
    · refine ⟨s.wr PWR_HCAP_CAP (s.rd PWR_HCAP_CAP), ?_, .wr List.mem_cons_self .refl, rfl, ?_⟩
      · simp [hs, he, State.storeBounded_hcap hrd, hcap]
      · rw [if_pos hs, if_pos he, State.rd_wr_same]
        exact ⟨Nat.mod_eq_of_lt hrd, rfl⟩
    · refine ⟨(s.flag 0xD40043 1 1).wr PWR_HCAP_CAP (s.rd PWR_HCAP_CAP), ?_, .wr List.mem_cons_self (.flag .refl), rfl, ?_⟩
      · simp [hs, he, State.storeBounded_hcap hrd, hcap]
      · rw [if_pos hs, if_neg he, State.rd_wr_same]
        exact ⟨Nat.mod_eq_of_lt hrd, rfl⟩
  · have hcut : max 10 w.toNat % 4096 = max 10 w.toNat := Nat.mod_eq_of_lt (by omega)
    refine ⟨(if 10 ≤ w.toNat then s else s.flag 0xD40043 0 2).wr PWR_HCAP_CAP (max 10 w.toNat), ?_, .wr List.mem_cons_self (.ite .refl (.flag .refl)), ?_, ?_⟩
    · simp [hs, State.storeBounded_hcap hv]
    · split
      · rfl
      · rfl
    · rw [if_neg hs, State.rd_wr_same]
      refine ⟨hcut, ?_⟩
      split
      · rfl
      · rfl
end Sys2Proof.Machine
end

section
/-! Accepted writes of the channel control registers (R15, R55 to R78, R125). -/
namespace Sys2Proof.Machine
open Sys2Proof.Safety

theorem bits_low {v w : Nat} : bits v 0 w = v % 2 ^ w := by rw [bits, Nat.pow_zero, Nat.div_one]
theorem toNat_mod_two (b : Bool) : b.toNat % 2 = b.toNat := by cases b <;> rfl

namespace State
variable {s : State} {r : Requester} {reg : Reg} {n v : Nat}

/-- The state without its register fields and the marks of R15 on them: what an operation on fields alone keeps. -/
def regsAside (s : State) : State := { s with regs := [], hwNow := [] }
theorem rest_of_regsAside {t : State} (h : regsAside t = regsAside s) : { t with regs := s.regs, hwNow := s.hwNow } = s :=
  congrArg (fun x : State => { x with regs := s.regs, hwNow := s.hwNow }) h

/-- R12 to R14: an accepted write of a register of one word is the register's own effect. -/
theorem command_accepts_one (hw : reg.words = 1) (h : Accepts s r reg v) : s.command r reg v = s.writeReg r reg reg.addr v := by
  rw [command_accepts h, unstage_one hw, hw, Nat.add_sub_cancel]

theorem regsAside_raiseFlag {f : Fld} : regsAside (s.raiseFlag f) = regsAside s := rfl
theorem rd_raiseFlag_same {f : Fld} (h : 0 < f.width) : (s.raiseFlag f).rd f = 1 := rd_put_same (s := s) (b := true) h
theorem rd_raiseFlag_ne {f g : Fld} (h : g.key ≠ f.key) : (s.raiseFlag f).rd g = s.rd g := rd_put_ne (s := s) (b := true) h

/-! ### CHn_SENSE (R59, R60) -/

theorem range_of_into {x : Bool} : (CH_SENSE_RANGE n).of ((CH_SENSE_RANGE n).into x.toNat (s.held (CH_SENSE n))) = x.toNat := by
  have hh : s.held (CH_SENSE n) < 2 := by
    have : s.rd (CH_SENSE_RANGE n) < 2 := rd_lt
    simpa [held, CH_SENSE, CH_SENSE_RANGE] using this
  have := Bool.toNat_lt x
  simp only [Fld.of, Fld.into, CH_SENSE_RANGE, bits_low]
  omega
theorem writeSense_start (h : s.rd (CH_STAT_RHOLD n) = 0) (hne : (CH_SENSE_RANGE n).of v ≠ s.rd (CH_SENSE_RANGE n)) :
    s.writeSense n v = (((s.wr (CH_SENSE_RANGE n) ((CH_SENSE_RANGE n).of v)).modProt n fun p => { p with rholdVal := s.genValue n, holdAt := s.time }).put
      (CH_STAT_RHOLD n) true) := by
  simp [writeSense, on, h, hne]
theorem writeSense_restart (h : s.rd (CH_STAT_RHOLD n) = 1) :
    s.writeSense n v = (s.wr (CH_SENSE_RANGE n) ((CH_SENSE_RANGE n).of v)).modProt n fun p => { p with holdAt := s.time } := by
  simp [writeSense, on, h]

/-! ### CHn_CMD (R71) -/

theorem writeCmd_adjrun : s.writeCmd n 1 = if s.on (CH_ADJR_BUSY n) = true ∨ ¬(s.tripped n = true ∨ s.rd (CH_APPL_VALUE n) = 0) then s.flag (chAddr n + 1) 0 2 else s.startAdj n := by
  have hrun : (CH_CMD_ADJRUN n).of 1 = 1 := by simp [Fld.of, bits, CH_CMD_ADJRUN]
  have hrst : (CH_CMD_CRST n).of 1 = 0 := by simp [Fld.of, bits, CH_CMD_CRST]
  simp only [writeCmd, hrun, hrst, Nat.one_ne_zero, if_true, if_false]
theorem startAdj_runs (hb : s.rd (CH_ADJR_BUSY n) = 0) (hn : (s.nb0 n).isSome = true ∨ (s.nb1 n).isSome = true) :
    s.startAdj n = (s.put (CH_ADJR_BUSY n) true).disrupt n := by
  have hnone : ¬((s.nb0 n).isNone = true ∧ (s.nb1 n).isNone = true) := by
    rw [Option.isNone_iff_eq_none, Option.isNone_iff_eq_none]
    rintro ⟨h0, h1⟩
    simp [h0, h1] at hn
  rw [startAdj, if_neg (by simp [on, hb]), if_neg hnone]

/-! ### CHn_FLT (R15, R65, R88) -/

/-- R15: a one-bit W1C field after a write of `v` to it. -/
theorem rd_softClear_bit {f : Fld} (hw : f.width = 1) (hv : v < 2) :
    (s.softClear f v).rd f = if v = 1 ∧ (s.marked f).testBit 0 = false then 0 else s.rd f := by
  have hlt : s.rd f < 2 := by
    have : s.rd f < 2 ^ f.width := rd_lt
    rwa [hw] at this
  have hand : ∀ x m : Nat, x < 2 → x &&& m = if x = 1 ∧ m.testBit 0 = true then 1 else 0 := by
    intro x m hx
    rcases (by omega : x = 0 ∨ x = 1) with rfl | rfl
    · simp
    · rw [Nat.one_and_eq_mod_two]
      simp only [Nat.testBit_zero]
      rcases Nat.mod_two_eq_zero_or_one m with h | h <;> simp [h]
  unfold softClear
  rw [rd_wr_same, hw]
  rcases (by omega : v = 0 ∨ v = 1) with rfl | rfl
  · simp
    omega
  · have h1 : s.rd f &&& 1 = s.rd f := by rw [Nat.and_one_is_mod]; omega
    rw [h1, hand _ _ hlt]
    by_cases hm : (s.marked f).testBit 0 = true
    · simp only [hm, and_true, true_and, Bool.true_eq_false, if_false]
      split <;> omega
    · simp [hm]
theorem rd_softClear_ne {f g : Fld} (h : g.key ≠ f.key) : (s.softClear f v).rd g = s.rd g := rd_wr_ne h
/-- Fields of one list are cleared apart from each other. -/
theorem foldl_softClear_rd {fs : List Fld} {w : Fld → Nat} (hk : fs.Pairwise fun a b => a.key ≠ b.key) {f : Fld} (hf : f ∈ fs) :
    (fs.foldl (fun t g => t.softClear g (w g)) s).rd f = (s.softClear f (w f)).rd f := by
  induction fs generalizing s with
  | nil => cases hf
  | cons g l ih =>
    obtain ⟨hg, hl⟩ := List.pairwise_cons.1 hk
    rw [List.foldl_cons]
    rcases List.mem_cons.1 hf with rfl | hm
    · exact foldl_fields_ne (fun t f g h => rd_softClear_ne h) hg
    · rw [ih hl hm]
      unfold softClear
      rw [rd_wr_same, rd_wr_same, rd_wr_ne (Ne.symm (hg f hm))]
      rfl
theorem regsAside_foldl_softClear {fs : List Fld} {w : Fld → Nat} : regsAside (fs.foldl (fun t g => State.softClear t g (w g)) s) = regsAside s :=
  foldl_same regsAside fun _ _ => rfl
theorem foldl_softClear_fields {fs : List Fld} {w : Fld → Nat} : FieldsKept fs s (fs.foldl (fun t g => State.softClear t g (w g)) s) :=
  fun _ hg => foldl_fields_ne (fun _ _ _ h => rd_softClear_ne h) hg
theorem flt_keys : (CH_FLT n).fields.Pairwise fun a b => a.key ≠ b.key := by
  simp [CH_FLT, Fld.key, CH_FLT_DSAT, CH_FLT_RSHORT, CH_FLT_OC, CH_FLT_OT, CH_FLT_BSTUV, CH_FLT_LEASE, CH_FLT_KEY, CH_FLT_ADJ, CH_FLT_GBUD]
theorem flt_width {f : Fld} (hf : f ∈ (CH_FLT n).fields) : f.width = 1 := by
  simp only [CH_FLT, List.mem_cons, List.not_mem_nil, or_false] at hf
  rcases hf with rfl | rfl | rfl | rfl | rfl | rfl | rfl | rfl | rfl <;> rfl
theorem ot_mem : CH_FLT_OT n ∈ (CH_FLT n).fields := by simp [CH_FLT]
theorem writeFlt_rd {f : Fld} (hf : f ∈ (CH_FLT n).fields) : (s.writeFlt n v).rd f =
    if f = CH_FLT_OT n ∧ (s.prot n).otHold = true then 1 else if f.of v = 1 ∧ (s.marked f).testBit 0 = false then 0 else s.rd f := by
  have hof : f.of v < 2 := by
    rw [Fld.of, bits, flt_width hf]
    exact Nat.mod_lt _ (by decide)
  have hclear : ((CH_FLT n).fields.foldl (fun t f => t.softClear f (f.of v)) s).rd f = if f.of v = 1 ∧ (s.marked f).testBit 0 = false then 0 else s.rd f :=
    (foldl_softClear_rd flt_keys hf).trans (rd_softClear_bit (flt_width hf) hof)
  have hprot : (((CH_FLT n).fields.foldl (fun t f => t.softClear f (f.of v)) s).prot n).otHold = (s.prot n).otHold :=
    have h := congrArg (fun t : State => (t.prot n).otHold) (regsAside_foldl_softClear (s := s) (fs := (CH_FLT n).fields) (w := fun f => f.of v))
    h
  unfold writeFlt
  simp only [hprot]
  by_cases ho : (s.prot n).otHold = true
  · rw [if_pos ho]
    by_cases he : f = CH_FLT_OT n
    · subst he
      rw [if_pos ⟨rfl, ho⟩]
      exact rd_raiseFlag_same Nat.zero_lt_one
    · rw [if_neg fun h => he h.1, ← hclear]
      exact rd_raiseFlag_ne fun hkey => he (eq_of_key flt_keys hf ot_mem hkey)
  · rw [if_neg ho, if_neg fun h => ho h.2, hclear]
theorem writeFlt_fields : FieldsKept (CH_FLT n).fields s (s.writeFlt n v) := by
  unfold writeFlt
  exact .ite (.raiseFlag ot_mem foldl_softClear_fields) foldl_softClear_fields
theorem regsAside_writeFlt : regsAside (s.writeFlt n v) = regsAside s := by
  have hclear := regsAside_foldl_softClear (s := s) (fs := (CH_FLT n).fields) (w := fun f => f.of v)
  unfold writeFlt
  extract_lets t
  split
  · exact regsAside_raiseFlag.trans hclear
  · exact hclear

/-! ### CHn_KICK (R75, R76) -/

theorem writeKick_refresh {key : Nat} (ha : s.rd (CH_STAT_LARM n) = 1) (ho : s.isOwner r n = true)
    (hm : s.dev = .maint ∨ s.mayOwn n (s.rd (CH_OWNER_ENG n)) = true) (hx : (s.prot n).expAt ≠ some s.time) (hk : key = if (s.prot n).key then 0xA5A else 0x5A5) :
    s.writeKick r n key = (s.wr (CH_LREM_TICKS n) (16 * s.rd (CH_LEASE_LEN n))).modProt n fun p =>
      { p with key := !p.key, kickAt := some s.time, kickRem := if p.kickAt = some s.time then p.kickRem else s.rd (CH_LREM_TICKS n) } := by
  rw [writeKick, if_neg (by simp [on, ha]), if_pos ⟨ho, hm, hk⟩, if_neg hx]
theorem writeKick_fault {key : Nat} (ha : s.rd (CH_STAT_LARM n) = 1)
    (h : ¬(s.isOwner r n = true ∧ (s.dev = .maint ∨ s.mayOwn n (s.rd (CH_OWNER_ENG n)) = true) ∧ key = if (s.prot n).key then 0xA5A else 0x5A5)) :
    s.writeKick r n key = s.keyFault n := by
  rw [writeKick, if_neg (by simp [on, ha]), if_neg h]
/-- R74: the timer's register holds 16 times the length. -/
theorem lease_ticks : 16 * s.rd (CH_LEASE_LEN n) % 2 ^ (CH_LREM_TICKS n).width = 16 * s.rd (CH_LEASE_LEN n) := by
  have : s.rd (CH_LEASE_LEN n) < 2 ^ 7 := rd_lt
  exact Nat.mod_eq_of_lt (show 16 * s.rd (CH_LEASE_LEN n) < 2 ^ 12 by omega)
/-- R75, R77: what a write that is not accepted leaves. -/
theorem keyFault_rd : (s.keyFault n).rd (CH_FLT_KEY n) = 1 := (report_rd).trans (rd_raiseFlag_same Nat.zero_lt_one)
theorem keyFault_coll : (s.keyFault n).coll = (s.report clChan (16 * n + 6) 1 (n / 48)).coll :=
  report_congr (s := s.raiseFlag (CH_FLT_KEY n)) (t := s) rfl rfl rfl
theorem keyFault_fields : FieldsKept [CH_FLT_KEY n] s (s.keyFault n) := .report (.raiseFlag List.mem_cons_self .refl)

end State
end Sys2Proof.Machine
end

section
/-! What bringing an applied value up to date, and ending a freeze, leave of the generators and the protection of the channels (R59, R123,
R125, R145). -/
namespace Sys2Proof.Machine
open Sys2Proof.Safety

/-- What a channel's protection holds but whether a clamping interval is open: what no clamp changes. -/
def Prot.unclamped (p : Prot) : Prot := { p with clampOn := false }

namespace State
variable {s : State} {n m : Nat}

/-! ### Operations that leave generators, or protections, alone -/

theorem clampDouble_gens {x : Nat} : (s.clampDouble n x).gens = s.gens := by
  unfold clampDouble
  split
  · rfl
  · rfl
theorem clampDouble_prots {x : Nat} : (s.clampDouble n x).prots = s.prots := by
  unfold clampDouble
  split
  · rfl
  · rfl
theorem modeDisagree_gens : (s.modeDisagree n).gens = s.gens := rfl
theorem modeDisagree_prot : (s.modeDisagree n).prot m = s.prot m := rfl
theorem dropCloop_gens : (s.dropCloop n).gens = s.gens := by
  unfold dropCloop
  split
  · rfl
  · rfl
theorem dropCloop_prots : (s.dropCloop n).prots = s.prots := by
  unfold dropCloop
  split
  · rfl
  · rfl
theorem updExp_part {α : Type} (P : State → α) (hregs : ∀ (x : State) r, P { x with regs := r } = P x) (hprfs : ∀ (x : State) p, P { x with prfs := p } = P x)
    (hrxs : ∀ (x : State) r, P { x with rxs := r } = P x) (hopt : ∀ (x : State) o, P { x with optSince := o } = P x) : P (s.updExp n) = P s := by
  have hrestart : ∀ (x : State) e, P (x.restartProof n e) = P x := fun x e => by
    unfold restartProof
    exact (hregs _ _).trans ((hregs _ _).trans (hprfs _ _))
  unfold updExp
  extract_lets x y z
  have hy : P y = P s := hregs _ _
  have hz : P z = P s := (disrupt_part P hrxs).trans ((hrestart _ _).trans hy)
  split
  · exact hy
  · split
    · exact (hopt _ _).trans hz
    · exact hz
theorem updExp_gens : (s.updExp n).gens = s.gens := updExp_part (·.gens) (fun _ _ => rfl) (fun _ _ => rfl) (fun _ _ => rfl) fun _ _ => rfl
theorem updExp_prots : (s.updExp n).prots = s.prots := updExp_part (·.prots) (fun _ _ => rfl) (fun _ _ => rfl) (fun _ _ => rfl) fun _ _ => rfl
theorem seeRef_prots : (s.seeRef n).prots = s.prots := by
  unfold seeRef
  split
  · rfl
  · rfl
theorem seeRef_gen (h : m ≠ n) : (s.seeRef n).gen m = s.gen m := by
  unfold seeRef
  split
  · rw [gen_modGen, if_neg h]
  · rfl

/-! ### The applied value -/

theorem setAppl_gen {x : Nat} (h : m ≠ n) : (s.setAppl n x).gen m = s.gen m := by
  unfold setAppl
  extract_lets y0 y1 y y2
  have h0 : y0.gens = s.gens := clampDouble_gens
  clear_value y0
  have h2 : y2.gens = s.gens := by
    unfold y2
    split
    · rw [modProt_gens, h0]
    · split
      · exact h0
      · rw [modeDisagree_gens, raiseFlag_gens, modProt_gens, h0]
  clear_value y2
  have h3 : (((y2.wr (CH_APPL_VALUE n) y).seeRef n).updExp n).gen m = ((y2.wr (CH_APPL_VALUE n) y).seeRef n).gen m := by
    rw [gen, updExp_gens]
    rfl
  rw [h3, seeRef_gen h, wr_gen, gen, h2]
  rfl
/-- Of the protections, an applied value changes whether a clamping interval of its channel is open. -/
theorem setAppl_prot {x : Nat} : (∀ m, ((s.setAppl n x).prot m).unclamped = (s.prot m).unclamped) ∧ ∀ m, m ≠ n → (s.setAppl n x).prot m = s.prot m := by
  unfold setAppl
  extract_lets y0 y1 y y2
  have h0 : ∀ m, y0.prot m = s.prot m := fun m => by rw [prot, show y0.prots = s.prots from clampDouble_prots]; rfl
  clear_value y0
  have hclamp : ∀ b m, ((y0.modProt n fun p => { p with clampOn := b }).prot m).unclamped = (s.prot m).unclamped := fun b m => by
    rw [prot_modProt, h0, h0]
    split
    · next hm => rw [hm]; rfl
    · rfl
  have hother : ∀ b m, m ≠ n → (y0.modProt n fun p => { p with clampOn := b }).prot m = s.prot m := fun b m hm => by
    rw [prot_modProt, if_neg hm, h0]
  have h2 : (∀ m, (y2.prot m).unclamped = (s.prot m).unclamped) ∧ ∀ m, m ≠ n → y2.prot m = s.prot m := by
    unfold y2
    split
    · exact ⟨hclamp false, hother false⟩
    · split
      · exact ⟨fun m => congrArg Prot.unclamped (h0 m), fun m _ => h0 m⟩
      · simp only [modeDisagree_prot, raiseFlag_prot]
        exact ⟨hclamp true, hother true⟩
  clear_value y2
  have h3 : ∀ m, (((y2.wr (CH_APPL_VALUE n) y).seeRef n).updExp n).prot m = y2.prot m := fun m => by
    rw [prot, updExp_prots, seeRef_prots]
    rfl
  exact ⟨fun m => (congrArg Prot.unclamped (h3 m)).trans (h2.1 m), fun m hm => (h3 m).trans (h2.2 m hm)⟩
theorem dropCloop_gen : (s.dropCloop n).gen m = s.gen m := by rw [gen, dropCloop_gens]; rfl
theorem dropCloop_prot : (s.dropCloop n).prot m = s.prot m := by rw [prot, dropCloop_prots]; rfl
theorem updExp_gen : (s.updExp n).gen m = s.gen m := by rw [gen, updExp_gens]; rfl
theorem updExp_prot : (s.updExp n).prot m = s.prot m := by rw [prot, updExp_prots]; rfl
theorem reclamp_gen (h : m ≠ n) : (s.reclamp n).gen m = s.gen m := by
  unfold reclamp
  split
  · rw [updExp_gen, dropCloop_gen]
  · rw [refreshAppl, setAppl_gen h, dropCloop_gen]
theorem reclamp_prot : (∀ m, ((s.reclamp n).prot m).unclamped = (s.prot m).unclamped) ∧ ∀ m, m ≠ n → (s.reclamp n).prot m = s.prot m := by
  unfold reclamp
  split
  · have h : ∀ m, ((s.dropCloop n).updExp n).prot m = s.prot m := fun m => updExp_prot.trans dropCloop_prot
    exact ⟨fun m => congrArg Prot.unclamped (h m), fun m _ => h m⟩
  · have hd : ∀ m, (s.dropCloop n).prot m = s.prot m := fun m => dropCloop_prot
    exact ⟨fun m => (setAppl_prot.1 m).trans (congrArg Prot.unclamped (hd m)), fun m hm => (setAppl_prot.2 m hm).trans (hd m)⟩

/-! ### The end of a freeze -/

/-- The end of the freeze of one generator. -/
def thaw (s : State) (n : Nat) : State := (s.thawGen n).reclamp n
/-- The fields that it writes. -/
def thawFields (n : Nat) : List Fld := CH_STAT_FROZEN n :: applFields n
theorem unfreeze_eq : s.unfreeze n = (let u := if s.on (CH_STAT_FROZEN n) then s.thaw n else s
    if u.leads n ∧ u.on (CH_STAT_FROZEN (n + 1)) then u.thaw (n + 1) else u) := rfl
theorem thaw_fields : FieldsKept (thawFields n) s (s.thaw n) :=
  (FieldsKept.mono (fun g hg => by simp only [List.mem_singleton] at hg; simp [thawFields, hg]) thawGen_fields).trans
    (.mono (fun g hg => by simp [thawFields, hg]) reclamp_fields)
theorem thaw_gen (h : m ≠ n) : (s.thaw n).gen m = s.gen m := by
  rw [thaw, reclamp_gen h, thawGen, gen_modGen, if_neg h, put_gen]
theorem thaw_prot : (∀ m, ((s.thaw n).prot m).unclamped = (s.prot m).unclamped) ∧ ∀ m, m ≠ n → (s.thaw n).prot m = s.prot m :=
  reclamp_prot (s := s.thawGen n)
theorem frozen_not_appl : ∀ g ∈ applFields m, (CH_STAT_FROZEN n).key ≠ g.key := by
  intro g hg
  simp only [applFields, proofFields, List.mem_append, List.mem_cons, List.not_mem_nil, or_false] at hg
  rcases hg with (rfl | rfl | rfl | rfl) | rfl | rfl | rfl <;>
  · simp only [Fld.key, CH_STAT_FROZEN, CH_PVER_EXPLIT, CW_CVER_CVER, CH_PVER_STATE, CH_APPL_VALUE, CH_SHST_CLAMP, CH_SHST_DIS, CH_SHST_ACLOOP, chAddr, cwAddr, ne_eq]
    omega
theorem frozen_not_frozen (h : m ≠ n) : (CH_STAT_FROZEN n).key ≠ (CH_STAT_FROZEN m).key := by
  simp only [Fld.key, CH_STAT_FROZEN, chAddr, ne_eq]
  omega
theorem thaw_frozen : (s.thaw n).rd (CH_STAT_FROZEN n) = 0 := by
  rw [thaw, reclamp_fields _ frozen_not_appl, thawGen, modGen_rd]
  exact rd_put_same Nat.zero_lt_one
theorem thaw_frozen_ne (h : m ≠ n) : (s.thaw n).rd (CH_STAT_FROZEN m) = s.rd (CH_STAT_FROZEN m) :=
  thaw_fields _ fun g hg => by
    rcases List.mem_cons.1 hg with rfl | hg
    · exact frozen_not_frozen (Ne.symm h)
    · exact frozen_not_appl g hg
/-- No freeze, nothing to end. -/
theorem unfreeze_none (h : s.rd (CH_STAT_FROZEN n) = 0) (h1 : s.leads n = true → s.rd (CH_STAT_FROZEN (n + 1)) = 0) : s.unfreeze n = s := by
  have h0 : s.on (CH_STAT_FROZEN n) = false := by simp [on, h]
  have h2 : ¬(s.leads n = true ∧ s.on (CH_STAT_FROZEN (n + 1)) = true) := by
    rintro ⟨hl, hf⟩
    simp [on, h1 hl] at hf
  rw [unfreeze_eq, h0]
  exact if_neg h2
/-- The places in a channel's block of the fields that the end of a freeze writes: word and lowest bit. -/
def thawPlaces : List (Nat × Nat) := [(0x002, 8), (0x206, 0), (0x205, 2), (0x205, 3), (0x205, 6), (0x304, 8), (0x304, 0)]
/-- A field at another place of a channel's block is none of them. -/
theorem not_thawed {f : Fld} {k off lo : Nat} (hf : f.key = (chAddr k + off) * 256 + lo) (hplace : off < 0x400 ∧ lo < 256) (hne : (off, lo) ∉ thawPlaces) :
    ∀ g ∈ thawFields m, f.key ≠ g.key := by
  intro g hg
  simp only [thawPlaces, List.mem_cons, Prod.mk.injEq, List.not_mem_nil, or_false, not_or] at hne
  simp only [thawFields, applFields, proofFields, List.mem_append, List.mem_cons, List.not_mem_nil, or_false] at hg
  rw [hf]
  rcases hg with rfl | (rfl | rfl | rfl | rfl) | rfl | rfl | rfl <;>
  · simp only [Fld.key, CH_STAT_FROZEN, CH_PVER_EXPLIT, CW_CVER_CVER, CH_PVER_STATE, CH_APPL_VALUE, CH_SHST_CLAMP, CH_SHST_DIS, CH_SHST_ACLOOP, chAddr, cwAddr, ne_eq]
    omega
theorem thaw_cfg {f : Fld} {k lo : Nat} (hlo : lo < 8) (hf : f.key = (chAddr k + 0) * 256 + lo) : (s.thaw n).rd f = s.rd f :=
  thaw_fields f (not_thawed hf ⟨by decide, by omega⟩ (by simp [thawPlaces]))
theorem thaw_head : (s.thaw n).head m = s.head m := by
  have htopo : ∀ k, (s.thaw n).topo k = s.topo k := fun k => thaw_cfg (k := k) (lo := 0) (by decide) rfl
  have hpair : ∀ k, (s.thaw n).rd (CH_CFG_HBPAIR k) = s.rd (CH_CFG_HBPAIR k) := fun k => thaw_cfg (k := k) (lo := 2) (by decide) rfl
  unfold head
  rw [hpair, htopo, htopo]
theorem thaw_leads : (s.thaw n).leads m = s.leads m := by rw [leads, thaw_head, leads]

/-- What the end of a freeze of channel n, and of one that it leads, does. -/
theorem unfreeze_fields_thaw : FieldsKept (thawFields n ++ thawFields (n + 1)) s (s.unfreeze n) := by
  have h1 : FieldsKept (thawFields n ++ thawFields (n + 1)) s (if s.on (CH_STAT_FROZEN n) then s.thaw n else s) :=
    .ite (.mono (fun g hg => List.mem_append_left _ hg) thaw_fields) .refl
  rw [unfreeze_eq]
  extract_lets u
  exact .ite (h1.trans (.mono (fun g hg => List.mem_append_right _ hg) thaw_fields)) h1
/-- An operation on each of the two generators, where it is frozen. -/
theorem unfreeze_cases (P : State → Prop) (h0 : P s) (h1 : ∀ t, P t → P (t.thaw n)) (h2 : ∀ t, s.leads n = true → P t → P (t.thaw (n + 1))) :
    P (s.unfreeze n) := by
  rw [unfreeze_eq]
  extract_lets u
  have hu : P u ∧ u.leads n = s.leads n := by
    unfold u
    split
    · exact ⟨h1 s h0, thaw_leads⟩
    · exact ⟨h0, rfl⟩
  clear_value u
  split
  · next h => exact h2 u (hu.2 ▸ h.1) hu.1
  · exact hu.1
theorem unfreeze_frozen : (s.unfreeze n).rd (CH_STAT_FROZEN n) = 0 := by
  rw [unfreeze_eq]
  extract_lets u
  have hu : u.rd (CH_STAT_FROZEN n) = 0 := by
    unfold u
    split
    · exact thaw_frozen
    · next h => exact off_bit (by simpa using h)
  clear_value u
  split
  · rw [thaw_frozen_ne (Nat.ne_of_lt (Nat.lt_succ_self n)), hu]
  · exact hu
/-- It reaches no other channel. -/
theorem unfreeze_other (hm : m ≠ n) (hl : s.leads n = true → m ≠ n + 1) :
    (s.unfreeze n).gen m = s.gen m ∧ (s.unfreeze n).prot m = s.prot m ∧ (s.unfreeze n).rd (CH_STAT_FROZEN m) = s.rd (CH_STAT_FROZEN m) :=
  unfreeze_cases (fun t => t.gen m = s.gen m ∧ t.prot m = s.prot m ∧ t.rd (CH_STAT_FROZEN m) = s.rd (CH_STAT_FROZEN m)) ⟨rfl, rfl, rfl⟩
    (fun _ ⟨hg, hp, hf⟩ => ⟨(thaw_gen hm).trans hg, (thaw_prot.2 m hm).trans hp, (thaw_frozen_ne hm).trans hf⟩)
    (fun _ l ⟨hg, hp, hf⟩ => ⟨(thaw_gen (hl l)).trans hg, (thaw_prot.2 m (hl l)).trans hp, (thaw_frozen_ne (hl l)).trans hf⟩)
theorem unfreeze_prot : ((s.unfreeze n).prot m).unclamped = (s.prot m).unclamped :=
  unfreeze_cases (fun t => (t.prot m).unclamped = (s.prot m).unclamped) rfl (fun _ h => (thaw_prot.1 m).trans h) (fun _ _ h => (thaw_prot.1 m).trans h)

end State
end Sys2Proof.Machine
end

section
/-! Accepted writes of CHn_OWNER and CHn_LEASE, and the statement on the channel control registers (R71 to R78, R125). -/
namespace Sys2Proof.Machine
open Sys2Proof.Safety
namespace State
variable {s : State} {r : Requester} {n m v : Nat}

/-! ### The lease follows its condition (R73, R75) -/

theorem updLease_fields : FieldsKept [CH_STAT_LARM n, CH_LREM_TICKS n] s (s.updLease n) := by
  unfold updLease
  extract_lets a t
  refine .ite .refl (.ite (.modProt (.wr (by simp) (.put (by simp) .refl))) (.put (by simp) .refl))
theorem updLease_armed : (s.updLease n).rd (CH_STAT_LARM n) = (s.leaseArmed n).toNat := by
  have hput : (s.put (CH_STAT_LARM n) (s.leaseArmed n)).rd (CH_STAT_LARM n) = (s.leaseArmed n).toNat := rd_put_same Nat.zero_lt_one
  have hne : (CH_STAT_LARM n).key ≠ (CH_LREM_TICKS n).key := by
    simp only [Fld.key, CH_STAT_LARM, CH_LREM_TICKS, ne_eq]
    omega
  unfold updLease
  extract_lets a t
  split
  · next h =>
    unfold a at h
    rw [h]
    cases hl : s.on (CH_STAT_LARM n)
    · exact off_bit hl
    · exact rd_bit rfl hl
  · split
    · rw [modProt_rd, rd_wr_ne hne]
      exact hput
    · exact hput
theorem updLease_prot_ne (h : m ≠ n) : (s.updLease n).prot m = s.prot m := by
  unfold updLease
  extract_lets a t
  split
  · rfl
  · split
    · rw [prot_modProt, if_neg h]; rfl
    · rfl
/-- Arming resets the expected key, and changes nothing else of the protection. -/
theorem updLease_prot : (s.updLease n).prot n = s.prot n ∨ (s.updLease n).prot n = { s.prot n with key := false } := by
  unfold updLease
  extract_lets a t
  split
  · exact .inl rfl
  · split
    · rw [prot_modProt, if_pos rfl]
      exact .inr rfl
    · exact .inl rfl
/-- What the lease of a channel does not concern: everything but register fields and protections. -/
def leaseAside (s : State) : State := { s with regs := [], prots := [] }
theorem leaseAside_wr {f : Fld} {x : Nat} : leaseAside (s.wr f x) = leaseAside s := rfl
theorem leaseAside_modProt {g : Prot → Prot} : leaseAside (s.modProt n g) = leaseAside s := rfl
theorem leaseAside_updLease : leaseAside (s.updLease n) = leaseAside s := by
  unfold updLease
  extract_lets a t
  split
  · rfl
  · split
    · rw [leaseAside_modProt, leaseAside_wr]
      exact leaseAside_wr
    · exact leaseAside_wr
theorem lrem_keys : (CH_LREM_TICKS n).key ≠ (CH_STAT_LARM n).key := by
  simp only [Fld.key, CH_STAT_LARM, CH_LREM_TICKS, ne_eq]
  omega
theorem updLease_ticks (h : s.rd (CH_LREM_TICKS n) = 16 * s.rd (CH_LEASE_LEN n)) : (s.updLease n).rd (CH_LREM_TICKS n) = 16 * s.rd (CH_LEASE_LEN n) := by
  have hkeys : (CH_LEASE_LEN n).key ≠ (CH_STAT_LARM n).key := by
    simp only [Fld.key, CH_STAT_LARM, CH_LEASE_LEN, ne_eq]
    omega
  unfold updLease
  extract_lets a t
  have hlen : t.rd (CH_LEASE_LEN n) = s.rd (CH_LEASE_LEN n) := rd_put_ne hkeys
  have hticks : t.rd (CH_LREM_TICKS n) = s.rd (CH_LREM_TICKS n) := rd_put_ne lrem_keys
  clear_value t
  split
  · exact h
  · split
    · rw [modProt_rd, rd_wr_same, lease_ticks, hlen]
    · rw [hticks, h]

/-! ### CHn_OWNER (R77, R125, R188) -/

/-- R77: an accepted write names the owner, reloads the timer and resets the expected key; a new owner has not yet refreshed the lease. -/
def ownerTaken (s : State) (n v : Nat) : State :=
  ((((s.wr (CH_OWNER_ENG n) (v % 128)).wr (CH_OWNER_CORE n) (v / 128 % 2)).wr (CH_OWNER_VALID n) (v / 2048)).wr (CH_LREM_TICKS n) (16 * s.rd (CH_LEASE_LEN n))).modProt n
    fun p => { p with key := false, kickAt := if v % 128 = s.rd (CH_OWNER_ENG n) ∧ v / 128 % 2 = s.rd (CH_OWNER_CORE n) then p.kickAt else none }
theorem owner_of (hv : v < 4096) : (CH_OWNER_ENG n).of v = v % 128 ∧ (CH_OWNER_CORE n).of v = v / 128 % 2 ∧ (CH_OWNER_VALID n).of v = v / 2048 := by
  refine ⟨?_, ?_, ?_⟩
  · simp [Fld.of, CH_OWNER_ENG, bits]
  · simp [Fld.of, CH_OWNER_CORE, bits]
  · simp only [Fld.of, CH_OWNER_VALID, bits]
    omega
theorem softWrite_unmarked {f : Fld} {x : Nat} (h : s.marked f = 0) : s.softWrite f x = s.wr f x := if_pos h
theorem owner_keys : (CH_OWNER_ENG n).key ≠ (CH_OWNER_CORE n).key ∧ (CH_OWNER_ENG n).key ≠ (CH_OWNER_VALID n).key ∧ (CH_OWNER_CORE n).key ≠ (CH_OWNER_VALID n).key := by
  simp only [Fld.key, CH_OWNER_ENG, CH_OWNER_CORE, CH_OWNER_VALID, ne_eq]
  omega
/-- The fields of an accepted write of CHn_OWNER lie apart from each other. -/
theorem ownerTaken_rd (hv : v < 4096) : (s.ownerTaken n v).rd (CH_OWNER_ENG n) = v % 128 ∧ (s.ownerTaken n v).rd (CH_OWNER_CORE n) = v / 128 % 2 ∧
    (s.ownerTaken n v).rd (CH_OWNER_VALID n) = v / 2048 ∧ (s.ownerTaken n v).rd (CH_LREM_TICKS n) = 16 * s.rd (CH_LEASE_LEN n) := by
  have he : (CH_OWNER_ENG n).key ≠ (CH_LREM_TICKS n).key ∧ (CH_OWNER_CORE n).key ≠ (CH_LREM_TICKS n).key ∧ (CH_OWNER_VALID n).key ≠ (CH_LREM_TICKS n).key := by
    simp only [Fld.key, CH_OWNER_ENG, CH_OWNER_CORE, CH_OWNER_VALID, CH_LREM_TICKS, ne_eq]
    omega
  obtain ⟨hec, hev, hcv⟩ := owner_keys (n := n)
  obtain ⟨h1, h2, h3⟩ := he
  simp only [ownerTaken, modProt_rd]
  refine ⟨?_, ?_, ?_, ?_⟩
  · rw [rd_wr_ne h1, rd_wr_ne hev, rd_wr_ne hec, rd_wr_same]
    exact Nat.mod_eq_of_lt (Nat.mod_lt _ (by decide) : v % 128 < 2 ^ 7)
  · rw [rd_wr_ne h2, rd_wr_ne hcv, rd_wr_same]
    exact Nat.mod_eq_of_lt (Nat.mod_lt _ (by decide) : v / 128 % 2 < 2 ^ 1)
  · rw [rd_wr_ne h3, rd_wr_same]
    exact Nat.mod_eq_of_lt (show v / 2048 < 2 ^ 1 by omega)
  · rw [rd_wr_same, lease_ticks]
theorem writeOwner_accepted (hv : v < 4096) (hok : s.ownerOk r n (v % 128) = true) (hm : ∀ f ∈ (CH_OWNER n).fields, s.marked f = 0) :
    s.writeOwner r n v = ((s.ownerTaken n v).unfreeze n).updLease n := by
  obtain ⟨he, hc, hb⟩ := owner_of (n := n) hv
  obtain ⟨hec, hev, hcv⟩ := owner_keys (n := n)
  have heng := hm (CH_OWNER_ENG n) (by simp [CH_OWNER])
  have hcore : (s.wr (CH_OWNER_ENG n) (v % 128)).marked (CH_OWNER_CORE n) = 0 := hm (CH_OWNER_CORE n) (by simp [CH_OWNER])
  have hvalid : ((s.wr (CH_OWNER_ENG n) (v % 128)).wr (CH_OWNER_CORE n) (v / 128 % 2)).marked (CH_OWNER_VALID n) = 0 := hm (CH_OWNER_VALID n) (by simp [CH_OWNER])
  have hlen : ((((s.wr (CH_OWNER_ENG n) (v % 128)).wr (CH_OWNER_CORE n) (v / 128 % 2)).wr (CH_OWNER_VALID n) (v / 2048)).rd (CH_LEASE_LEN n)) = s.rd (CH_LEASE_LEN n) := by
    have hk : (CH_LEASE_LEN n).key ≠ (CH_OWNER_ENG n).key ∧ (CH_LEASE_LEN n).key ≠ (CH_OWNER_CORE n).key ∧ (CH_LEASE_LEN n).key ≠ (CH_OWNER_VALID n).key := by
      simp only [Fld.key, CH_OWNER_ENG, CH_OWNER_CORE, CH_OWNER_VALID, CH_LEASE_LEN, ne_eq]
      omega
    rw [rd_wr_ne hk.2.2, rd_wr_ne hk.2.1, rd_wr_ne hk.1]
  have hreng : (((s.wr (CH_OWNER_ENG n) (v % 128)).wr (CH_OWNER_CORE n) (v / 128 % 2)).wr (CH_OWNER_VALID n) (v / 2048)).rd (CH_OWNER_ENG n) = v % 128 := by
    rw [rd_wr_ne hev, rd_wr_ne hec, rd_wr_same]
    exact Nat.mod_eq_of_lt (Nat.mod_lt _ (by decide) : v % 128 < 2 ^ 7)
  have hrcore : (((s.wr (CH_OWNER_ENG n) (v % 128)).wr (CH_OWNER_CORE n) (v / 128 % 2)).wr (CH_OWNER_VALID n) (v / 2048)).rd (CH_OWNER_CORE n) = v / 128 % 2 := by
    rw [rd_wr_ne hcv, rd_wr_same]
    exact Nat.mod_eq_of_lt (Nat.mod_lt _ (by decide) : v / 128 % 2 < 2 ^ 1)
  unfold writeOwner
  simp only [he, hc, hb, hok, if_true, softWrite_unmarked heng, softWrite_unmarked hcore, softWrite_unmarked hvalid, hlen, hreng, hrcore]
  unfold ownerTaken
  congr 4
  funext p
  have hnew : (v % 128 != s.rd (CH_OWNER_ENG n) || v / 128 % 2 != s.rd (CH_OWNER_CORE n)) = !decide (v % 128 = s.rd (CH_OWNER_ENG n) ∧ v / 128 % 2 = s.rd (CH_OWNER_CORE n)) := by
    rw [Bool.decide_and, Bool.not_and]
    rfl
  rw [hnew]
  by_cases h : v % 128 = s.rd (CH_OWNER_ENG n) ∧ v / 128 % 2 = s.rd (CH_OWNER_CORE n) <;> simp [h]
theorem writeOwner_refused (hv : v < 4096) (h : s.ownerOk r n (v % 128) = false) : s.writeOwner r n v = s.keyFault n := by
  unfold writeOwner
  simp only [(owner_of (n := n) hv).1, h, Bool.false_eq_true, if_false]

/-! ### CHn_LEASE (R74, R78) -/

theorem writeLease_hold (hm : s.dev = .maint) (hl : 5 ≤ s.rd (CH_LEASE_LEN n)) (hu : s.rd (CH_LEASE_LEN n) ≤ 100) :
    s.writeLease n ((CH_LEASE_LHOLD n).into 1 (s.held (CH_LEASE n))) = (s.wr (CH_LEASE_LEN n) (s.rd (CH_LEASE_LEN n))).wr (CH_LEASE_LHOLD n) 1 := by
  have hheld : s.held (CH_LEASE n) = s.rd (CH_LEASE_LEN n) + s.rd (CH_LEASE_LHOLD n) * 128 := by simp [held, CH_LEASE, CH_LEASE_LEN, CH_LEASE_LHOLD]
  have hhold : s.rd (CH_LEASE_LHOLD n) < 2 := rd_lt
  have hlen : (CH_LEASE_LEN n).of ((CH_LEASE_LHOLD n).into 1 (s.held (CH_LEASE n))) = s.rd (CH_LEASE_LEN n) := by
    simp only [hheld, Fld.of, Fld.into, CH_LEASE_LHOLD, CH_LEASE_LEN, bits] at hl hu hhold ⊢
    omega
  have hone : (CH_LEASE_LHOLD n).of ((CH_LEASE_LHOLD n).into 1 (s.held (CH_LEASE n))) = 1 := by
    simp only [hheld, Fld.of, Fld.into, CH_LEASE_LHOLD, CH_LEASE_LEN, bits] at hl hu hhold ⊢
    omega
  have hbound : max 5 (min 100 (s.rd (CH_LEASE_LEN n))) = s.rd (CH_LEASE_LEN n) := by omega
  unfold writeLease
  simp only [hlen, hone, hbound, if_true, wr_dev, hm]

end State
end Sys2Proof.Machine
end

section
/-! The statement on the channel control registers (R55 to R78, R125). -/
namespace Sys2Proof.Machine
open Sys2Proof.Safety

/-! ### The commands -/

theorem exec_rangeChange {s : State} {r : Requester} {n : Fin 192} {range : Bool} :
    exec (.rangeChange r n range) s = .next (s.commandField r (CH_SENSE n) (CH_SENSE_RANGE n) range.toNat) := rfl
theorem exec_adjrun {s : State} {r : Requester} {n : Fin 192} : exec (.adjrun r n) s = .next (s.command r (CH_CMD n) 1) := rfl
theorem exec_fltClear {s : State} {r : Requester} {n : Fin 192} {w : Word} : exec (.fltClear r n w) s = .next (s.command r (CH_FLT n) w.toNat) := rfl
theorem exec_kick {s : State} {r : Requester} {n : Fin 192} {key : Word} : exec (.kick r n key) s = .next (s.command r (CH_KICK n) key.toNat) := rfl
theorem exec_ownerWrite {s : State} {r : Requester} {n : Fin 192} {w : Word} : exec (.ownerWrite r n w) s = .next (s.command r (CH_OWNER n) w.toNat) := rfl
theorem exec_lholdWrite {s : State} {r : Requester} {n : Fin 192} {v : Bool} :
    exec (.lholdWrite r n v) s = .next (s.commandField r (CH_LEASE n) (CH_LEASE_LHOLD n) v.toNat) := rfl

namespace State
variable {s : State} {r : Requester} {n m v x : Nat}

theorem command_sense (h : Accepts s r (CH_SENSE n) v) : s.command r (CH_SENSE n) v = s.writeSense n v := command_accepts_one rfl h
theorem command_cmd (h : Accepts s r (CH_CMD n) v) : s.command r (CH_CMD n) v = s.writeCmd n v := command_accepts_one rfl h
theorem command_flt (h : Accepts s r (CH_FLT n) v) : s.command r (CH_FLT n) v = s.writeFlt n v := command_accepts_one rfl h
theorem command_kick (h : Accepts s r (CH_KICK n) v) : s.command r (CH_KICK n) v = s.writeKick r n v := command_accepts_one rfl h
theorem command_owner (h : Accepts s r (CH_OWNER n) v) : s.command r (CH_OWNER n) v = s.writeOwner r n v := command_accepts_one rfl h
theorem command_lease (h : Accepts s r (CH_LEASE n) v) : s.command r (CH_LEASE n) v = s.writeLease n v := command_accepts_one rfl h

/-- The state without its register fields, the marks of R15 on them and the collector: what a reported flag keeps. -/
def flagAside (s : State) : State := { s with regs := [], hwNow := [], coll := {} }
theorem flagAside_report {c i sev p : Nat} {l : List Nat} : flagAside (s.report c i sev p l) = flagAside s := rfl
theorem flagAside_raiseFlag {f : Fld} : flagAside (s.raiseFlag f) = flagAside s := rfl
theorem rest_of_flagAside {t : State} (h : flagAside t = flagAside s) : { t with regs := s.regs, coll := s.coll, hwNow := s.hwNow } = s :=
  congrArg (fun x : State => { x with regs := s.regs, coll := s.coll, hwNow := s.hwNow }) h
theorem keyFault_rest : { s.keyFault n with regs := s.regs, coll := s.coll, hwNow := s.hwNow } = s :=
  rest_of_flagAside (flagAside_report.trans flagAside_raiseFlag)

/-! ### The state after an accepted write of CHn_OWNER -/

/-- R77, R125: the new owner, the freeze ended, the lease armed by its condition. -/
def ownerGiven (s : State) (n v : Nat) : State := ((s.ownerTaken n v).unfreeze n).updLease n
theorem ownerTaken_fields : FieldsKept [CH_OWNER_ENG n, CH_OWNER_CORE n, CH_OWNER_VALID n, CH_LREM_TICKS n] s (s.ownerTaken n v) :=
  .modProt (.wr (by simp) (.wr (by simp) (.wr (by simp) (.wr (by simp) .refl))))
/-- The end of a freeze writes none of the channel's other fields. -/
theorem rd_unfreeze_other {f : Fld} {k off lo : Nat} (hf : f.key = (chAddr k + off) * 256 + lo) (hplace : off < 0x400 ∧ lo < 256) (hne : (off, lo) ∉ thawPlaces) :
    (s.unfreeze n).rd f = s.rd f :=
  unfreeze_fields_thaw f fun g hg => (List.mem_append.1 hg).elim (not_thawed hf hplace hne g) (not_thawed hf hplace hne g)
theorem unfreeze_head : (s.unfreeze n).head m = s.head m :=
  unfreeze_cases (fun t => t.head m = s.head m) rfl (fun _ h => thaw_head.trans h) fun _ _ h => thaw_head.trans h
/-- An accepted write of the owner is apart from the fields at other places than its own four. -/
theorem ownerTaken_kept {f : Fld} {k off lo : Nat} (hf : f.key = (chAddr k + off) * 256 + lo) (hoff : off < 0x400) (hlo : lo < 256) (h : off ≠ 0x022 ∧ off ≠ 0x023) :
    (s.ownerTaken n v).rd f = s.rd f :=
  ownerTaken_fields f fun g hg => by
    simp only [List.mem_cons, List.not_mem_nil, or_false] at hg
    rw [hf]
    rcases hg with rfl | rfl | rfl | rfl <;>
    · simp only [Fld.key, CH_OWNER_ENG, CH_OWNER_CORE, CH_OWNER_VALID, CH_LREM_TICKS, chAddr, ne_eq]
      omega
theorem ownerTaken_head : (s.ownerTaken n v).head m = s.head m := by
  have htopo : ∀ k, (s.ownerTaken n v).topo k = s.topo k := fun k => ownerTaken_kept (k := k) (off := 0) (lo := 0) rfl (by omega) (by omega) (by omega)
  have hpair : ∀ k, (s.ownerTaken n v).rd (CH_CFG_HBPAIR k) = s.rd (CH_CFG_HBPAIR k) := fun k =>
    ownerTaken_kept (k := k) (off := 0) (lo := 2) rfl (by omega) (by omega) (by omega)
  unfold head
  rw [hpair, htopo, htopo]
theorem ownerTaken_leads : (s.ownerTaken n v).leads m = s.leads m := by rw [leads, ownerTaken_head, leads]
/-! What the lease does not concern, field by field. -/
theorem leaseAside_gen : (leaseAside s).gen m = s.gen m := rfl
theorem chanlessColl_leaseAside : chanlessColl (leaseAside s) = chanlessColl s := rfl
theorem rest_of_leaseAside {t : State} (h : leaseAside t = leaseAside s) : { t with regs := s.regs, prots := s.prots } = s :=
  congrArg (fun x : State => { x with regs := s.regs, prots := s.prots }) h
theorem leaseAside_ownerTaken : leaseAside (s.ownerTaken n v) = leaseAside s := by
  rw [ownerTaken, leaseAside_modProt, leaseAside_wr, leaseAside_wr, leaseAside_wr, leaseAside_wr]
theorem chanless_of_chanlessColl {t : State} (h : chanlessColl t = chanlessColl s) : chanless { t with coll := s.coll } = chanless s :=
  congrArg (fun x : State => { x with coll := s.coll }) h
theorem rd_updLease_other {f : Fld} (hl : f.key ≠ (CH_STAT_LARM n).key) (ht : f.key ≠ (CH_LREM_TICKS n).key) : (s.updLease n).rd f = s.rd f :=
  updLease_fields f fun g hg => by
    simp only [List.mem_cons, List.not_mem_nil, or_false] at hg
    rcases hg with rfl | rfl
    · exact hl
    · exact ht
theorem leaseLen_ownerTaken : ((s.ownerTaken n v).unfreeze n).rd (CH_LEASE_LEN n) = s.rd (CH_LEASE_LEN n) :=
  (rd_unfreeze_other (f := CH_LEASE_LEN n) (k := n) (off := 0x020) (lo := 0) rfl (by omega) (by simp [thawPlaces])).trans
    (ownerTaken_kept (f := CH_LEASE_LEN n) (k := n) (off := 0x020) (lo := 0) rfl (by omega) (by omega) (by omega))
/-- R77: the owner named, and the timer reloaded. -/
theorem ownerGiven_rd (hv : v < 4096) : (s.ownerGiven n v).rd (CH_OWNER_ENG n) = v % 128 ∧ (s.ownerGiven n v).rd (CH_OWNER_CORE n) = v / 128 % 2 ∧
    (s.ownerGiven n v).rd (CH_OWNER_VALID n) = v / 2048 ∧ (s.ownerGiven n v).rd (CH_LREM_TICKS n) = 16 * s.rd (CH_LEASE_LEN n) := by
  obtain ⟨he, hc, hb, ht⟩ := ownerTaken_rd (s := s) (n := n) hv
  have hkeys : ((CH_OWNER_ENG n).key ≠ (CH_STAT_LARM n).key ∧ (CH_OWNER_ENG n).key ≠ (CH_LREM_TICKS n).key) ∧
      ((CH_OWNER_CORE n).key ≠ (CH_STAT_LARM n).key ∧ (CH_OWNER_CORE n).key ≠ (CH_LREM_TICKS n).key) ∧
      ((CH_OWNER_VALID n).key ≠ (CH_STAT_LARM n).key ∧ (CH_OWNER_VALID n).key ≠ (CH_LREM_TICKS n).key) := by
    simp only [Fld.key, CH_OWNER_ENG, CH_OWNER_CORE, CH_OWNER_VALID, CH_STAT_LARM, CH_LREM_TICKS, ne_eq]
    omega
  obtain ⟨ke, kc, kb⟩ := hkeys
  refine ⟨?_, ?_, ?_, ?_⟩
  · rw [ownerGiven, rd_updLease_other ke.1 ke.2, rd_unfreeze_other (f := CH_OWNER_ENG n) (k := n) (off := 0x022) (lo := 0) rfl (by omega) (by simp [thawPlaces]), he]
  · rw [ownerGiven, rd_updLease_other kc.1 kc.2, rd_unfreeze_other (f := CH_OWNER_CORE n) (k := n) (off := 0x022) (lo := 7) rfl (by omega) (by simp [thawPlaces]), hc]
  · rw [ownerGiven, rd_updLease_other kb.1 kb.2, rd_unfreeze_other (f := CH_OWNER_VALID n) (k := n) (off := 0x022) (lo := 11) rfl (by omega) (by simp [thawPlaces]), hb]
  · rw [ownerGiven, updLease_ticks, leaseLen_ownerTaken]
    rw [rd_unfreeze_other (f := CH_LREM_TICKS n) (k := n) (off := 0x023) (lo := 0) rfl (by omega) (by simp [thawPlaces]), ht, leaseLen_ownerTaken]
theorem updLease_frozen : (s.updLease n).rd (CH_STAT_FROZEN m) = s.rd (CH_STAT_FROZEN m) :=
  rd_updLease_other (by simp only [Fld.key, CH_STAT_FROZEN, CH_STAT_LARM, chAddr, ne_eq]; omega)
    (by simp only [Fld.key, CH_STAT_FROZEN, CH_LREM_TICKS, chAddr, ne_eq]; omega)
theorem ownerGiven_frozen : (s.ownerGiven n v).rd (CH_STAT_FROZEN n) = 0 := updLease_frozen.trans unfreeze_frozen
/-- R75, R77: the key expected is the first one, and a new owner has not refreshed the lease. -/
theorem ownerGiven_prot : ((s.ownerGiven n v).prot n).key = false ∧ ((s.ownerGiven n v).prot n).kickAt =
    if v % 128 = s.rd (CH_OWNER_ENG n) ∧ v / 128 % 2 = s.rd (CH_OWNER_CORE n) then (s.prot n).kickAt else none := by
  have hthaw : (((s.ownerTaken n v).unfreeze n).prot n).unclamped = ((s.ownerTaken n v).prot n).unclamped := unfreeze_prot
  have htaken : (s.ownerTaken n v).prot n = { s.prot n with key := false, kickAt := if v % 128 = s.rd (CH_OWNER_ENG n) ∧ v / 128 % 2 = s.rd (CH_OWNER_CORE n) then (s.prot n).kickAt else none } := by
    simp only [ownerTaken, prot_modProt, wr_prot, if_true]
  have hkey : (((s.ownerTaken n v).unfreeze n).prot n).key = false := (congrArg Prot.key hthaw).trans (by rw [htaken]; rfl)
  have hkick := (congrArg Prot.kickAt hthaw).trans (congrArg (fun p => (Prot.unclamped p).kickAt) htaken)
  rcases updLease_prot (s := (s.ownerTaken n v).unfreeze n) (n := n) with h | h
  · rw [ownerGiven, h]
    exact ⟨hkey, hkick⟩
  · rw [ownerGiven, h]
    exact ⟨rfl, hkick⟩
/-- R73: the lease is armed where the channel is enabled, owned and under no aspect. -/
theorem ownerGiven_armed (hv : v < 4096) (hf : s.follows n = false) :
    (s.ownerGiven n v).rd (CH_STAT_LARM n) = (s.on (CH_CFG_EN n) && decide (2048 ≤ v) && !s.on (CH_SHST_ASRC n)).toNat := by
  have hen : ((s.ownerTaken n v).unfreeze n).on (CH_CFG_EN n) = s.on (CH_CFG_EN n) := by
    rw [on, rd_unfreeze_other (f := CH_CFG_EN n) (k := n) (off := 0) (lo := 4) rfl (by omega) (by simp [thawPlaces]),
      ownerTaken_kept (f := CH_CFG_EN n) (k := n) (off := 0) (lo := 4) rfl (by omega) (by omega) (by omega), on]
  have hsrc : ((s.ownerTaken n v).unfreeze n).on (CH_SHST_ASRC n) = s.on (CH_SHST_ASRC n) := by
    rw [on, rd_unfreeze_other (f := CH_SHST_ASRC n) (k := n) (off := 0x205) (lo := 5) rfl (by omega) (by simp [thawPlaces]),
      ownerTaken_kept (f := CH_SHST_ASRC n) (k := n) (off := 0x205) (lo := 5) rfl (by omega) (by omega) (by omega), on]
  have hvalid : ((s.ownerTaken n v).unfreeze n).on (CH_OWNER_VALID n) = decide (2048 ≤ v) := by
    rw [on, rd_unfreeze_other (f := CH_OWNER_VALID n) (k := n) (off := 0x022) (lo := 11) rfl (by omega) (by simp [thawPlaces]), (ownerTaken_rd hv).2.2.1]
    rcases Nat.lt_or_ge v 2048 with h | h
    · rw [Nat.div_eq_of_lt h, decide_eq_false (Nat.not_le.2 h)]
      rfl
    · rw [show v / 2048 = 1 by omega, decide_eq_true h]
      rfl
  have hfollows : ((s.ownerTaken n v).unfreeze n).follows n = false := by rw [follows, unfreeze_head, ownerTaken_head, ← follows, hf]
  rw [ownerGiven, updLease_armed, leaseArmed, hen, hsrc, hvalid, hfollows, Bool.not_false, Bool.and_true]
/-- Channels other than the one written, and than one that it leads, keep their generator, protection and freeze. -/
theorem ownerGiven_other (hm : m ≠ n) (hl : s.leads n = true → m ≠ n + 1) :
    (s.ownerGiven n v).gen m = s.gen m ∧ (s.ownerGiven n v).prot m = s.prot m ∧ (s.ownerGiven n v).rd (CH_STAT_FROZEN m) = s.rd (CH_STAT_FROZEN m) := by
  obtain ⟨hg, hp, hf⟩ := unfreeze_other (s := s.ownerTaken n v) hm (fun h => hl (ownerTaken_leads ▸ h))
  have hgen : (s.ownerGiven n v).gen m = ((s.ownerTaken n v).unfreeze n).gen m := by
    rw [ownerGiven, ← leaseAside_gen, leaseAside_updLease, leaseAside_gen]
  have htaken : (s.ownerTaken n v).gen m = s.gen m := by rw [← leaseAside_gen, leaseAside_ownerTaken, leaseAside_gen]
  refine ⟨hgen.trans (hg.trans htaken), (updLease_prot_ne hm).trans (hp.trans ?_), updLease_frozen.trans (hf.trans ?_)⟩
  · simp only [ownerTaken, prot_modProt, wr_prot, if_neg hm]
  · exact ownerTaken_kept (k := m) (off := 2) (lo := 8) rfl (by omega) (by omega) (by omega)
theorem ownerGiven_fields : FieldsKept ([CH_OWNER_ENG n, CH_OWNER_CORE n, CH_OWNER_VALID n, CH_LREM_TICKS n, CH_STAT_FROZEN n, CH_STAT_FROZEN (n + 1), CH_STAT_LARM n] ++
    applFields n ++ applFields (n + 1)) s (s.ownerGiven n v) := by
  refine (ownerTaken_fields.mono ?_).trans ((unfreeze_fields_thaw.mono ?_).trans (updLease_fields.mono ?_))
  · intro g hg
    exact List.mem_append_left _ (List.mem_append_left _ (List.mem_append_left [_, _, _] hg))
  · intro g hg
    simp only [thawFields, List.mem_append, List.mem_cons] at hg
    rcases hg with (rfl | h) | rfl | h
    · simp
    · exact List.mem_append_left _ (List.mem_append_right _ h)
    · simp
    · exact List.mem_append_right _ h
  · intro g hg
    simp only [List.mem_cons, List.not_mem_nil, or_false] at hg
    rcases hg with rfl | rfl
    · simp
    · simp
theorem chanless_ownerGiven : chanless { s.ownerGiven n v with coll := s.coll } = chanless s := by
  apply chanless_of_chanlessColl
  calc chanlessColl (s.ownerGiven n v) = chanlessColl ((s.ownerTaken n v).unfreeze n) := by
        rw [ownerGiven, ← chanlessColl_leaseAside, leaseAside_updLease, chanlessColl_leaseAside]
    _ = chanlessColl (s.ownerTaken n v) := chanlessColl_unfreeze
    _ = chanlessColl s := by rw [← chanlessColl_leaseAside, leaseAside_ownerTaken, chanlessColl_leaseAside]
/-- With no freeze to end, only the owner, the timer and the lease change. -/
theorem ownerGiven_unfrozen (h : s.rd (CH_STAT_FROZEN n) = 0) (h1 : s.leads n = true → s.rd (CH_STAT_FROZEN (n + 1)) = 0) :
    FieldsKept [CH_OWNER_ENG n, CH_OWNER_CORE n, CH_OWNER_VALID n, CH_LREM_TICKS n, CH_STAT_LARM n] s (s.ownerGiven n v) ∧
      { s.ownerGiven n v with regs := s.regs, prots := s.prots } = s := by
  have hfrozen : ∀ k, (s.ownerTaken n v).rd (CH_STAT_FROZEN k) = s.rd (CH_STAT_FROZEN k) := fun k =>
    ownerTaken_kept (k := k) (off := 2) (lo := 8) rfl (by omega) (by omega) (by omega)
  have hnone : (s.ownerTaken n v).unfreeze n = s.ownerTaken n v := unfreeze_none ((hfrozen n).trans h) fun hl => (hfrozen _).trans (h1 (ownerTaken_leads ▸ hl))
  rw [ownerGiven, hnone]
  constructor
  · refine (ownerTaken_fields.mono ?_).trans (updLease_fields.mono ?_)
    · intro g hg
      simp only [List.mem_cons, List.not_mem_nil, or_false] at hg ⊢
      tauto
    · intro g hg
      simp only [List.mem_cons, List.not_mem_nil, or_false] at hg ⊢
      tauto
  · exact rest_of_leaseAside (leaseAside_updLease.trans leaseAside_ownerTaken)

end State

/-- Settles O15: each register's own effect on an accepted write, in the order of the clauses. -/
theorem channelControlWrites : Obligations.ChannelControlWrites := by
  unfold Obligations.ChannelControlWrites
  intro s r n
  refine ⟨?_, ?_, ?_, ?_, ?_, ?_, ?_⟩
  · intro range hacc hhold hne
    refine ⟨_, exec_rangeChange.trans (congrArg Host.Outcome.next ((State.command_sense hacc).trans (State.writeSense_start hhold (State.range_of_into.symm ▸ hne)))), ?_, ?_, ?_, ?_, ?_, ?_⟩
    · have hkeys : (CH_SENSE_RANGE n).key ≠ (CH_STAT_RHOLD n).key := by
        simp only [Fld.key, CH_SENSE_RANGE, CH_STAT_RHOLD, ne_eq]
        omega
      rw [State.rd_put_ne hkeys, State.modProt_rd, State.rd_wr_same, State.range_of_into]
      exact toNat_mod_two range
    · exact State.rd_put_same Nat.zero_lt_one
    · rw [State.put_prot, State.prot_modProt, if_pos rfl]
      rfl
    · intro m hm
      rw [State.put_prot, State.prot_modProt, if_neg hm]
      rfl
    · exact .put (by simp) (.modProt (.wr (by simp) .refl))
    · rfl
  · intro range hacc hhold
    refine ⟨_, exec_rangeChange.trans (congrArg Host.Outcome.next ((State.command_sense hacc).trans (State.writeSense_restart hhold))), ?_, ?_, ?_, ?_, ?_⟩
    · rw [State.modProt_rd, State.rd_wr_same, State.range_of_into]
      exact toNat_mod_two range
    · rw [State.prot_modProt, if_pos rfl]
      rfl
    · intro m hm
      rw [State.prot_modProt, if_neg hm]
      rfl
    · exact .modProt (.wr (by simp) .refl)
    · rfl
  · intro hacc hbusy hdark hnb
    have hguard : ¬(s.on (CH_ADJR_BUSY n) = true ∨ ¬(s.tripped n = true ∨ s.rd (CH_APPL_VALUE n) = 0)) := by simp [State.on, hbusy, hdark]
    have hrun : s.command r (CH_CMD n) 1 = (s.put (CH_ADJR_BUSY n) true).disrupt n := by
      rw [State.command_cmd hacc, State.writeCmd_adjrun, if_neg hguard, State.startAdj_runs hbusy hnb]
    refine ⟨_, exec_adjrun.trans (congrArg _ hrun), ?_, ?_, ?_, ?_, ?_⟩
    · rw [State.disrupt_part (fun t => t.rd (CH_ADJR_BUSY n)) fun _ _ => rfl]
      exact State.rd_put_same Nat.zero_lt_one
    · exact .disrupt (.put (by simp) .refl)
    · rw [State.disrupt_rx]
      simp [State.dwelling]
    · intro m hm
      rw [State.disrupt_rx, if_neg fun h => hm h.1]
      rfl
    · exact congrArg (fun t : State => { t with regs := s.regs }) (State.disrupt_rest (s := s.put (CH_ADJR_BUSY n) true) (n := n))
  · intro w hacc
    exact ⟨_, exec_fltClear.trans (congrArg Host.Outcome.next (State.command_flt hacc)), fun f hf => State.writeFlt_rd hf, State.writeFlt_fields,
      State.rest_of_regsAside State.regsAside_writeFlt⟩
  · intro key hacc harm
    constructor
    · intro howner hmay hexp hkey
      refine ⟨_, exec_kick.trans (congrArg Host.Outcome.next ((State.command_kick hacc).trans (State.writeKick_refresh harm howner hmay hexp hkey))), ?_, ?_, ?_, ?_, rfl⟩
      · rw [State.modProt_rd, State.rd_wr_same, State.lease_ticks]
      · rw [State.prot_modProt, if_pos rfl]
        rfl
      · intro m hm
        rw [State.prot_modProt, if_neg hm]
        rfl
      · exact .modProt (.wr (by simp) .refl)
    · intro h
      exact ⟨_, exec_kick.trans (congrArg Host.Outcome.next ((State.command_kick hacc).trans (State.writeKick_fault harm h))), State.keyFault_rd, State.keyFault_coll,
        State.keyFault_fields, State.keyFault_rest⟩
  · intro w hacc
    have hw : w.toNat < 4096 := w.isLt
    constructor
    · intro hok hfollows hmarks
      obtain ⟨heng, hcore, hvalid, hticks⟩ := State.ownerGiven_rd (s := s) (n := n) hw
      obtain ⟨hkey, hkick⟩ := State.ownerGiven_prot (s := s) (n := n) (v := w.toNat)
      exact ⟨s.ownerGiven n w.toNat, exec_ownerWrite.trans (congrArg Host.Outcome.next ((State.command_owner hacc).trans (State.writeOwner_accepted hw hok hmarks))), heng, hcore, hvalid,
        hticks, State.ownerGiven_frozen, hkey, hkick, State.ownerGiven_armed hw hfollows, fun m hm hl => State.ownerGiven_other hm hl, State.ownerGiven_fields,
        State.chanless_ownerGiven, State.ownerGiven_unfrozen⟩
    · intro hok
      exact ⟨_, exec_ownerWrite.trans (congrArg Host.Outcome.next ((State.command_owner hacc).trans (State.writeOwner_refused hw hok))), State.keyFault_rd, State.keyFault_coll,
        State.keyFault_fields, State.keyFault_rest⟩
  · intro hacc hmaint hmin hmax
    have hkeys : (CH_LEASE_LEN n).key ≠ (CH_LEASE_LHOLD n).key := by
      simp only [Fld.key, CH_LEASE_LEN, CH_LEASE_LHOLD, ne_eq]
      omega
    refine ⟨_, exec_lholdWrite.trans (congrArg Host.Outcome.next ((State.command_lease hacc).trans (State.writeLease_hold hmaint hmin hmax))), State.rd_wr_same, ?_, ?_, rfl⟩
    · rw [State.rd_wr_ne hkeys, State.rd_wr_same]
      exact Nat.mod_eq_of_lt State.rd_lt
    · exact .wr (by simp) (.wr (by simp) .refl)
end Sys2Proof.Machine
end

section
/-! The refutation of the statement on broadcasts and aspect switches (R141, R142): a group number beyond 15 in the list taken. -/
namespace Sys2Proof.Machine

theorem exec_aspectSwitch {s : State} : exec .aspectSwitch s = execAspectSwitch s := rfl
/-- SN_AAPPLY has taken group 0, which has a request, together with the number 16: SN_AGREQ of a "group 16" is the word of SN_AGACT of group 0. -/
def strayGroup : State := ({ State.reset with bcast := { State.reset.bcast with aapply := [[0, 16]] } }).wr (SN_AGREQ_REQV 0) 1
/-- Group 0 switches, and the number after it in the list takes the VALID flag of group 0 for its own request and clears it. -/
theorem execAspectSwitch_strayGroup : ∃ t, execAspectSwitch strayGroup = .next t ∧ t.rd (SN_AGACT_VALID 0) = 0 := ⟨_, rfl, rfl⟩

/-- Refutes O23: the clause on ASPECT_SWITCH bounds the group whose switch it states, not the others of the list; with the list [0, 16] the request
of group 0 is taken, and SN_AGACT_VALID of group 0 reads 0. -/
theorem not_broadcastsAndAspectSwitches : ¬ Obligations.BroadcastsAndAspectSwitches := by
  unfold Obligations.BroadcastsAndAspectSwitches
  intro h
  obtain ⟨-, -, -, -, -, -, hswitch, -⟩ := h strayGroup .host
  obtain ⟨t, hexec, -, -, -, hgroups⟩ := hswitch [0, 16] [] rfl (by decide)
  obtain ⟨-, -, hvalid, -⟩ := hgroups 0 (by simp) (by decide) rfl rfl
  obtain ⟨u, hrun, hzero⟩ := execAspectSwitch_strayGroup
  obtain rfl : u = t := by
    rw [exec_aspectSwitch, hrun] at hexec
    exact Host.Outcome.next.inj hexec
  rw [hzero] at hvalid
  exact absurd hvalid (by decide)
end Sys2Proof.Machine
end

section
/-! The refutation of the statement on hand-over and SLEEP (R486, R504, R506): a cold start that also reports a unit's consumed life. -/
namespace Sys2Proof.Machine

theorem exec_coldStart {s : State} : exec .coldStart s = execColdStart s := rfl
/-- On backup, with a snapshot of the ledger in which the first unit has consumed 80 % of its rated life, so that R506's 33 reference hours pass that mark. -/
def agedLedger : State :=
  { State.reset with
    pwr := { State.reset.pwr with doneAt := some 0 }
    sage := { State.reset.sage with snap := { State.reset.sage.snap with life := [(0, 8 * State.ratedLife / 10)] } } }
/-- The cold start reports that mark (R504) before it reports itself. -/
theorem execColdStart_agedLedger : ∃ t, execColdStart agedLedger = .next t ∧ t.coll.queue.map Ev.src = [0xF00, 0xE09] := ⟨_, rfl, rfl⟩

/-- Refutes O49: the clause on COLD_START says that the event of the cold start is the only one, and the ledger's 33 hours can report another. -/
theorem not_handOverSleepAndWake : ¬ Obligations.HandOverSleepAndWake := by
  unfold Obligations.HandOverSleepAndWake
  intro h
  obtain ⟨-, -, -, -, -, hcold, -⟩ := h agedLedger
  obtain ⟨t, hexec, hrest⟩ := hcold rfl ⟨rfl, rfl⟩
  obtain ⟨-, -, -, -, -, -, -, -, -, -, -, -, -, -, e, hqueue, -⟩ := hrest
  obtain ⟨u, hrun, hevents⟩ := execColdStart_agedLedger
  obtain rfl : u = t := by
    rw [exec_coldStart, hrun] at hexec
    exact Host.Outcome.next.inj hexec
  rw [hqueue] at hevents
  simpa using congrArg List.length hevents
end Sys2Proof.Machine
end

section
/-! The refutation of the statement on resets and start-up (R371, R373, R523): a start into RUN with an output requested. -/
namespace Sys2Proof.Machine

/-- A firmware slot 0: 128 header words with one vector for every cluster; slot 1 has no header. -/
def slotHeader (i : Nat) : Nat :=
  if i = 0 then 0x1B0 else if i = 1 then 1 else if i = 2 then 0x200 else if i = 4 then 1 else if i < 8 ∨ 24 ≤ i then 0 else if i % 2 = 0 then 0x080 else 0x400
def slotFlash : List (Nat × Nat) := (List.range 128).map (fun i => (0x400000 + i, slotHeader i)) ++ [(0x5F8000, 0)]
/-- A configuration image of one record, PWR_HCAP = 100, with its check value as the trailer. -/
def imageCrc : Nat := 3368249547
def imageWords : List Nat :=
  [0x5EA, 1, 1, 0, 0, 0, 0, 0, 0, 0, 0, 0, 0, 0, 0, 0, 0x043, 0xD40, 100, imageCrc % 4096, imageCrc / 4096 % 4096, imageCrc / 4096 / 4096]
/-- The readings of the switches: RUN, the first degraded-mode duration, no pair, and the code of the image. -/
def switchWord : Nat := 2 + 128 * (imageCrc % 512)
/-- Before start-up: released, supplies good, a valid slot with its key, the image, and safety output 0 requested. -/
def outputRequested : State :=
  { ((((State.reset.wr PWR_SUPST_VCORE 1).wr PWR_SUPST_VAON 1).wr PWR_SUPST_VANA 1).wr PWR_SUPST_VIO 1).wr SN_OUTREQ_SOREQ 1 with
    pwr := { released := true }
    otp := [(3, 7)]
    flash := slotFlash ++ imageWords.zipIdx.map fun x => (cfgArea + x.2, x.1) }
/-- START_UP with the switches above, a crystal at its frequency, no failed self-test, and valid signatures. -/
def cleanStart (s : State) : Out := execStartUp 0xFFFF (.ofNat 16 switchWord) (.ofNat 16 (0xFFFF - switchWord)) 0 100 0 false false true true 0 [] s
theorem exec_startUp {s : State} {p0 p1 p2 p3 : BitVec 16} {crystal : Nat} {dieBad : BitVec 4} {fcBad snBad sig0 sig1 : Bool} {split : BitVec 8} {proof : List (Fin 128 × Fin 64)} :
    exec (.startUp p0 p1 p2 p3 crystal dieBad fcBad snBad sig0 sig1 split proof) s = execStartUp p0 p1 p2 p3 crystal dieBad fcBad snBad sig0 sig1 split proof s := rfl
/-- The device starts into RUN, where output 0 is energised; SN_OUTST still shows the outputs as they stood in WATCH. -/
theorem cleanStart_outputRequested : ∃ t, cleanStart outputRequested = .next t ∧ (t.dev, t.soOn 0, t.bit SN_OUTST_SOON 0) = (.run, true, false) := ⟨_, rfl, by decide +kernel⟩

/-- Refutes O53: the clause on START_UP says that the outputs are shown as they stand, and the last step enters RUN after they were shown. -/
theorem not_resetsPowerCycleAndStartUp : ¬ Obligations.ResetsPowerCycleAndStartUp := by
  unfold Obligations.ResetsPowerCycleAndStartUp
  intro h
  obtain ⟨-, -, -, -, -, hstart, -⟩ := h outputRequested
  obtain ⟨-, hruns⟩ := hstart (0xFFFF, .ofNat 16 switchWord, .ofNat 16 (0xFFFF - switchWord), 0) 100 0 false false true true 0 []
  obtain ⟨t, hexec, -, -, -, -, -, -, -, hshown, -⟩ := hruns (by decide)
  obtain ⟨u, hrun, hu⟩ := cleanStart_outputRequested
  obtain rfl : u = t := by
    rw [exec_startUp] at hexec
    exact Host.Outcome.next.inj (hrun.symm.trans hexec)
  simp only [Prod.mk.injEq] at hu
  obtain ⟨-, hon, hoff⟩ := hu
  have hshows : u.bit SN_OUTST_SOON 0 = u.soOn 0 := hshown.outputs 0 (by decide)
  rw [hon, hoff] at hshows
  exact Bool.noConfusion hshows
end Sys2Proof.Machine
end

section
/-! The canonical form of what the device stores (R29), from what every command and every tick keeps. -/
namespace Sys2Proof.Machine
open Sys2Proof.Safety

theorem Kept.stored {a t : State} (k : Kept a t) (h : Stored a) : Stored t :=
  have ⟨_, hform, _⟩ := k
  hform h

/-- Settles O4: a tick keeps the form of the state it takes; a command keeps that of the state without it in its queue, whose stored maps are the
same. -/
theorem everyStepKeepsStoredForm : Obligations.EveryStepKeepsStoredForm := by
  unfold Obligations.EveryStepKeepsStoredForm
  intro s t hs h
  unfold step at h
  split at h
  case h_1 =>
    cases h
    exact (State.tick_kept Kept.refl).stored hs
  case h_2 i rest _ =>
    obtain ⟨u, hu, k⟩ := exec_kept (i := i) (s := { s with pending := rest })
    cases hu.symm.trans h
    exact k.stored hs
end Sys2Proof.Machine
end

section
/-! Safe-state latches on channels that are neither frozen nor doubled (R81, R123, R454): no event but that of their cause. -/
namespace Sys2Proof.Machine
open Sys2Proof.Safety
namespace State
variable {s : State} {n m : Nat}

/-- Channel n is neither frozen (R123) nor doubled (R454). -/
def Calm (s : State) (n : Nat) : Prop := s.rd (CH_STAT_FROZEN n) = 0 ∧ s.rd (MIR_SPLIT_DBL n) = 0

theorem clampDouble_calm {x : Nat} (h : s.Calm n) : s.clampDouble n x = s := by
  have hoff : ¬s.on (MIR_SPLIT_DBL n) = true := by simp [on, h.2]
  unfold clampDouble
  exact if_neg fun hc => hoff hc.1
theorem clampSafe_calm (h : s.Calm n) : s.clampSafe n = s := by
  unfold clampSafe
  rw [clampDouble_calm h, ite_self]

/-- What an entry into the safe-state generator writes where there is no freeze to end. -/
def entryFields (n : Nat) : List Fld := CH_DRES_RESIDUE n :: applFields n
theorem entryFields_calm : (∀ g ∈ entryFields n, (CH_STAT_FROZEN m).key ≠ g.key) ∧ ∀ g ∈ entryFields n, (MIR_SPLIT_DBL m).key ≠ g.key := by
  constructor
  · intro g hg
    rcases List.mem_cons.1 hg with rfl | hg
    · simp only [Fld.key, CH_STAT_FROZEN, CH_DRES_RESIDUE, ne_eq]; omega
    · exact frozen_not_appl g hg
  · intro g hg
    simp only [entryFields, applFields, proofFields, List.mem_append, List.mem_cons, List.not_mem_nil, or_false] at hg
    rcases hg with rfl | (rfl | rfl | rfl | rfl) | rfl | rfl | rfl <;>
    · simp only [Fld.key, MIR_SPLIT_DBL, CH_DRES_RESIDUE, CH_PVER_EXPLIT, CW_CVER_CVER, CH_PVER_STATE, CH_APPL_VALUE, CH_SHST_CLAMP, CH_SHST_DIS, CH_SHST_ACLOOP, ne_eq]
      omega
theorem Calm.of_fields {t : State} (h : FieldsKept (entryFields n) s t) (hs : s.Calm m) : t.Calm m :=
  ⟨(h _ entryFields_calm.1).trans hs.1, (h _ entryFields_calm.2).trans hs.2⟩
theorem enterSafeGen_calm (h : s.Calm n) (h1 : n % 2 = 0 → s.Calm (n + 1)) :
    chanless (s.enterSafeGen n) = chanless s ∧ FieldsKept (entryFields n) s (s.enterSafeGen n) := by
  have hnone : s.unfreeze n = s := unfreeze_none h.1 fun hl => (h1 (leads_even hl)).1
  have hupd : ∀ t, FieldsKept (entryFields n) t (t.updExp n) := fun t => .mono (fun g hg => List.mem_cons_of_mem _ hg) updExp_appl
  unfold enterSafeGen
  rw [hnone]
  extract_lets u y0 y1
  have h0 : chanless y0 = chanless s ∧ FieldsKept (entryFields n) s y0 := by
    unfold y0
    split
    · exact ⟨rfl, .refl⟩
    · exact ⟨rfl, .modGen (.wr List.mem_cons_self .refl)⟩
  clear_value y0
  have hy1 : chanless y1 = chanless s ∧ FieldsKept (entryFields n) s y1 :=
    ⟨chanless_ite (chanless_restGates.trans h0.1) h0.1, .ite (h0.2.trans restGates_fields) h0.2⟩
  exact ⟨chanless_disrupt.trans (chanless_updExp.trans (chanless_seeRef.trans hy1.1)), .disrupt ((hy1.2.trans seeRef_fields).trans (hupd _))⟩

/-- R81: the latch of a calm channel sets without an event. -/
theorem setLatch_calm {cause : Nat} {ev : Option Nat} (h : s.Calm n) (h1 : n % 2 = 0 → s.Calm (n + 1)) :
    chanless (s.setLatch n cause ev) = chanless s ∧ ∀ m, s.Calm m → (s.setLatch n cause ev).Calm m := by
  unfold setLatch
  extract_lets h' h'' two y0 y1 y2 y3
  split
  · exact ⟨rfl, fun _ => id⟩
  have hkeys : (∀ m, (CH_STAT_FROZEN m).key ≠ (CH_SSTAT_LATCH n).key ∧ (CH_STAT_FROZEN m).key ≠ (CH_SSTAT_CAUSE n).key) ∧
      ∀ m, (MIR_SPLIT_DBL m).key ≠ (CH_SSTAT_LATCH n).key ∧ (MIR_SPLIT_DBL m).key ≠ (CH_SSTAT_CAUSE n).key := by
    simp only [Fld.key, CH_STAT_FROZEN, MIR_SPLIT_DBL, CH_SSTAT_LATCH, CH_SSTAT_CAUSE, ne_eq]
    exact ⟨fun m => by omega, fun m => by omega⟩
  have k1 : chanless y1 = chanless s ∧ ∀ f, y1.rd f = s.rd f := by
    unfold y1
    split
    · exact ⟨rfl, fun _ => rfl⟩
    · exact ⟨rfl, fun _ => rfl⟩
  clear_value y1
  have k2 : chanless y2 = chanless s ∧ ∀ m, s.Calm m → y2.Calm m := by
    refine ⟨k1.1, fun m hm => ⟨?_, ?_⟩⟩
    · rw [rd_put_ne (hkeys.1 m).1, rd_wr_ne (hkeys.1 m).2, k1.2, hm.1]
    · rw [rd_put_ne (hkeys.2 m).1, rd_wr_ne (hkeys.2 m).2, k1.2, hm.2]
  clear_value y2
  have k3 : chanless y3 = chanless s ∧ ∀ m, s.Calm m → y3.Calm m := by
    obtain ⟨hrest, hfields⟩ := enterSafeGen_calm (k2.2 n h) fun he => k2.2 _ (h1 he)
    unfold y3
    rw [clampSafe_calm (k2.2 n h)]
    exact ⟨hrest.trans k2.1, fun m hm => .of_fields hfields (k2.2 m hm)⟩
  clear_value y3
  split
  · next hl =>
    have he : n % 2 = 0 := leads_even hl
    have hc : y3.Calm (n + 1) := k3.2 _ (h1 he)
    obtain ⟨hrest, hfields⟩ := enterSafeGen_calm hc fun ho => by omega
    rw [clampSafe_calm hc]
    exact ⟨hrest.trans k3.1, fun m hm => .of_fields hfields (k3.2 m hm)⟩
  · exact k3
theorem setLatches_calm {l : List Nat} {cause : Nat} {ev : Option Nat} (h : ∀ n ∈ l, s.Calm n ∧ (n % 2 = 0 → s.Calm (n + 1))) :
    chanless (s.setLatches l cause ev) = chanless s := by
  induction l generalizing s with
  | nil => rfl
  | cons n r ih =>
    obtain ⟨hn, h1⟩ := h n List.mem_cons_self
    obtain ⟨hrest, hcalm⟩ := setLatch_calm (cause := cause) (ev := ev) hn h1
    refine (ih (s := s.setLatch n cause ev) fun m hm => ?_).trans hrest
    obtain ⟨hm0, hm1⟩ := h m (List.mem_cons_of_mem _ hm)
    exact ⟨hcalm _ hm0, fun he => hcalm _ (hm1 he)⟩
theorem coll_of_chanless {t : State} (h : chanless t = chanless s) : t.coll = s.coll := chanless_part h (·.coll) fun _ => rfl
/-- The latches of a die whose channels are calm set without an event. -/
theorem setLatches_die_coll {d : Fin 4} {cause : Nat} {ev : Option Nat} (h : ∀ n, n / 48 = d.val → s.Calm n) :
    (s.setLatches (dieChannels d) cause ev).coll = s.coll :=
  coll_of_chanless (setLatches_calm fun n hn => ⟨h n (mem_dieChannels.1 hn), fun _ => h _ (by have := mem_dieChannels.1 hn; omega)⟩)
theorem Calm.report {c e v p : Nat} {data : List Nat} (h : s.Calm n) : (s.report c e v p data).Calm n := ⟨report_rd.trans h.1, report_rd.trans h.2⟩

/-! ### The expiry of a lease (R76) -/

/-- The state of channel n as its lease expires, before the latch: the timer at zero, the fault bit, the event. -/
def leaseOut (s : State) (n : Nat) : State :=
  (((s.wr (CH_LREM_TICKS n) 0).modProt n fun p => { p with expAt := some s.time, key := if s.kickedNow n then !p.key else p.key }).raiseFlag
    (CH_FLT_LEASE n)).report clChan (16 * n + 5) 3 (n / 48)
theorem expireLease_eq : s.expireLease n = (s.leaseOut n).setLatch n 2 (some (s.leaseOut n).lastEv) := rfl
theorem leaseOut_fields : FieldsKept [CH_LREM_TICKS n, CH_FLT_LEASE n] s (s.leaseOut n) :=
  .report (.raiseFlag (by simp) (.modProt (.wr (by simp) .refl)))
theorem chanlessColl_leaseOut : chanlessColl (s.leaseOut n) = chanlessColl s := by
  rw [leaseOut, chanlessColl_report, chanlessColl_raiseFlag, chanlessColl_modProt]
  rfl
theorem leaseOut_coll : (s.leaseOut n).coll = (s.report clChan (16 * n + 5) 3 (n / 48)).coll := report_congr rfl rfl rfl
/-- The entry into the safe-state generator writes what the end of a freeze writes, and the residue. -/
theorem mem_safeGenFields {g : Fld} (hg : g ∈ safeGenFields n) : g = CH_DRES_RESIDUE n ∨ g ∈ thawFields n ∨ g ∈ thawFields (n + 1) := by
  have hg : (g = CH_STAT_FROZEN n ∨ g = CH_DRES_RESIDUE n ∨ g ∈ applFields n) ∨ n % 2 = 0 ∧ (g = CH_STAT_FROZEN (n + 1) ∨ g ∈ applFields (n + 1)) := by
    simpa [safeGenFields, or_assoc] using hg
  rcases hg with (rfl | rfl | hg) | ⟨_, rfl | hg⟩
  · exact .inr (.inl List.mem_cons_self)
  · exact .inl rfl
  · exact .inr (.inl (List.mem_cons_of_mem _ hg))
  · exact .inr (.inr List.mem_cons_self)
  · exact .inr (.inr (List.mem_cons_of_mem _ hg))
/-- The places in a channel's block of the fields that its safe-state latch writes, beside those of `thawPlaces`: word and lowest bit. -/
def latchPlaces : List (Nat × Nat) := [(0x024, 0), (0x024, 1), (0x118, 0)]
/-- A field at another place of a channel's block is none that a latch writes. -/
theorem not_latchField {f : Fld} {k off lo : Nat} (hf : f.key = (chAddr k + off) * 256 + lo) (hplace : off < 0x400 ∧ lo < 256)
    (hthaw : (off, lo) ∉ thawPlaces) (hlatch : (off, lo) ∉ latchPlaces) : ∀ g ∈ latchFields m, f.key ≠ g.key := by
  have hne : ∀ j o l, o < 0x400 → l < 256 → (o, l) ∈ latchPlaces → f.key ≠ (chAddr j + o) * 256 + l := by
    intro j o l ho hl hmem he
    have : o = off ∧ l = lo := by
      simp only [chAddr, hf] at he
      omega
    exact hlatch (this.1 ▸ this.2 ▸ hmem)
  have hgen : ∀ j, ∀ g ∈ safeGenFields j, f.key ≠ g.key := by
    intro j g hg
    rcases mem_safeGenFields hg with rfl | hg | hg
    · exact hne j 0x118 0 (by decide) (by decide) (by decide)
    · exact not_thawed hf hplace hthaw g hg
    · exact not_thawed hf hplace hthaw g hg
  intro g hg
  have hg : g = CH_SSTAT_LATCH m ∨ g = CH_SSTAT_CAUSE m ∨ g ∈ safeGenFields m ∨ m % 2 = 0 ∧ g ∈ safeGenFields (m + 1) := by
    simpa [latchFields, or_assoc] using hg
  rcases hg with rfl | rfl | hg | ⟨_, hg⟩
  · exact hne m 0x024 0 (by decide) (by decide) (by decide)
  · exact hne m 0x024 1 (by decide) (by decide) (by decide)
  · exact hgen m g hg
  · exact hgen (m + 1) g hg
theorem latchFields_lease : (∀ g ∈ latchFields m, (CH_LREM_TICKS n).key ≠ g.key) ∧ ∀ g ∈ latchFields m, (CH_FLT_LEASE n).key ≠ g.key :=
  ⟨not_latchField (k := n) (off := 0x023) (lo := 0) rfl (by decide) (by decide) (by decide),
    not_latchField (k := n) (off := 0x003) (lo := 5) rfl (by decide) (by decide) (by decide)⟩
theorem lease_keys : (CH_LREM_TICKS n).key ≠ (CH_FLT_LEASE n).key := by
  simp only [Fld.key, CH_LREM_TICKS, CH_FLT_LEASE, ne_eq]
  omega
/-- What the expiry says of the lease itself. -/
theorem expireLease_lease : (s.expireLease n).rd (CH_LREM_TICKS n) = 0 ∧ (s.expireLease n).rd (CH_FLT_LEASE n) = 1 := by
  rw [expireLease_eq, setLatch_fields _ latchFields_lease.1, setLatch_fields _ latchFields_lease.2]
  exact ⟨(rd_raiseFlag_ne lease_keys).trans (modProt_rd.trans rd_wr_same), rd_raiseFlag_same Nat.zero_lt_one⟩
theorem leaseOut_latch : (s.leaseOut n).on (CH_SSTAT_LATCH n) = s.on (CH_SSTAT_LATCH n) ∧ (s.leaseOut n).rd (CH_SSTAT_CAUSE n) = s.rd (CH_SSTAT_CAUSE n) := by
  have hkeys : ∀ g ∈ [CH_LREM_TICKS n, CH_FLT_LEASE n], (CH_SSTAT_LATCH n).key ≠ g.key ∧ (CH_SSTAT_CAUSE n).key ≠ g.key := by
    simp only [List.mem_cons, List.not_mem_nil, or_false, forall_eq_or_imp, forall_eq, Fld.key, CH_SSTAT_LATCH, CH_SSTAT_CAUSE, CH_LREM_TICKS, CH_FLT_LEASE, ne_eq]
    omega
  exact ⟨congrArg (· != 0) (leaseOut_fields _ fun g hg => (hkeys g hg).1), leaseOut_fields _ fun g hg => (hkeys g hg).2⟩
theorem leaseOut_calm (h : s.Calm m) : (s.leaseOut n).Calm m := by
  have hkeys : ∀ g ∈ [CH_LREM_TICKS n, CH_FLT_LEASE n], (CH_STAT_FROZEN m).key ≠ g.key ∧ (MIR_SPLIT_DBL m).key ≠ g.key := by
    simp only [List.mem_cons, List.not_mem_nil, or_false, forall_eq_or_imp, forall_eq, Fld.key, CH_STAT_FROZEN, MIR_SPLIT_DBL, CH_LREM_TICKS, CH_FLT_LEASE, ne_eq]
    omega
  exact ⟨(leaseOut_fields _ fun g hg => (hkeys g hg).1).trans h.1, (leaseOut_fields _ fun g hg => (hkeys g hg).2).trans h.2⟩

end State

/-! ### The commands -/

theorem exec_leaseExpiry {s : State} {n : Fin 192} : exec (.leaseExpiry n) s = execLeaseExpiry n s := rfl
theorem exec_rcWatchdogExpiry {s : State} {d : Fin 4} : exec (.rcWatchdogExpiry d) s =
    .next ((s.report clClk (0x004 + d) 3 13).setLatches (dieChannels d) 4 (some (s.report clClk (0x004 + d) 3 13).lastEv)) := rfl
/-- R21: the link of die d is down, and the event says so. -/
def State.linkDown (s : State) (d : Fin 4) : State := (s.modDie d fun x => { x with linkOk := false }).report clLink (0xC50 + d) 3 13
theorem exec_dieLinkFailure {s : State} {d : Fin 4} : exec (.dieLinkFailure d) s =
    .next ((s.linkDown d).setLatches (dieChannels d) 1 (some (s.linkDown d).lastEv)) := rfl
theorem State.linkDown_die {s : State} {d : Fin 4} {x : Nat} : (s.linkDown d).die x = if x = d then { s.die d with linkOk := false } else s.die x := by
  rw [linkDown, report_die, die_modDie]
theorem State.linkDown_rd {s : State} {d : Fin 4} {f : Fld} : (s.linkDown d).rd f = s.rd f := by rw [linkDown, report_rd, modDie_rd]
theorem State.Calm.linkDown {s : State} {d : Fin 4} {n : Nat} (h : s.Calm n) : (s.linkDown d).Calm n := ⟨linkDown_rd.trans h.1, linkDown_rd.trans h.2⟩
theorem State.die_of_chanlessColl {s t : State} {x : Nat} (h : State.chanlessColl t = State.chanlessColl s) : t.die x = s.die x := by
  have hdies := congrArg dies h
  have hdies : t.dies = s.dies := hdies
  rw [die, hdies, ← die]
theorem State.chanless_of_linkDown {s t : State} {d : Fin 4} (h : State.chanlessColl t = State.chanlessColl (s.linkDown d)) :
    chanless { t with coll := s.coll, dies := s.dies } = chanless s := by
  rw [linkDown, chanlessColl_report] at h
  exact congrArg (fun x : State => { x with coll := s.coll, dies := s.dies }) h

/-- Settles O13: the expiry of a lease, and the latches of a die, of which `setLatches_sets` says that each is set with its cause. -/
theorem safeStateLatchesSetWithTheirCause : Obligations.SafeStateLatchesSetWithTheirCause := by
  unfold Obligations.SafeStateLatchesSetWithTheirCause
  refine ⟨?_, ?_, ?_, ?_⟩
  · intro s n harm hhold hout
    have hexec : exec (.leaseExpiry n) s = .next (s.expireLease n) := by
      simp [exec_leaseExpiry, execLeaseExpiry, State.on, harm, hhold, hout]
    obtain ⟨hticks, hflag⟩ := State.expireLease_lease (s := s) (n := n)
    obtain ⟨hlatch, hcause⟩ := State.setLatches_sets (s := s.leaseOut n) (l := [n.val]) (n := n) (cause := 2) (ev := some (s.leaseOut n).lastEv)
      (List.nodup_singleton _) List.mem_cons_self (by decide)
    rw [State.leaseOut_latch.1, State.leaseOut_latch.2] at hcause
    refine ⟨_, hexec, hticks, hflag, hlatch, hcause, ?_, ?_, ?_⟩
    · intro hcalm
      have hn : s.Calm n := hcalm n rfl (.inr rfl)
      have hnext : n.val % 2 = 0 → s.Calm (n + 1) := fun he =>
        hcalm ⟨n.val + 1, by omega⟩ (Fin.ext (show (n.val + 1) / 2 = n.val / 2 by omega)) (.inl (Fin.ext (show (n.val + 1) % 2 = 1 by omega)))
      have hrest := (State.setLatch_calm (s := s.leaseOut n) (cause := 2) (ev := some (s.leaseOut n).lastEv) (State.leaseOut_calm hn) fun he => State.leaseOut_calm (hnext he)).1
      exact (State.coll_of_chanless hrest).trans State.leaseOut_coll
    · exact (State.leaseOut_fields.mono fun g hg => List.mem_append_left _ hg).trans (State.setLatch_fields.mono fun g hg => List.mem_append_right _ hg)
    · exact State.chanless_of_chanlessColl (State.chanlessColl_setLatch.trans State.chanlessColl_leaseOut)
  · intro s n h
    have hoff : ¬(s.on (CH_STAT_LARM n) = true ∧ (s.rd (CH_LREM_TICKS n) = 0 ∨ (s.kickedNow n = true ∧ (s.prot n).kickRem = 0)) ∧ ¬s.on (CH_LEASE_LHOLD n) = true) := by
      rintro ⟨-, hout, hhold⟩
      rcases h with h | ⟨hleft, hkick⟩
      · exact hhold (by simp [State.on, h])
      · rcases hout with hout | ⟨hkicked, -⟩
        · exact hleft hout
        · exact Bool.noConfusion (hkick.symm.trans hkicked)
    rw [exec_leaseExpiry, execLeaseExpiry, if_neg hoff]
  · intro s d
    have hrest := (State.chanlessColl_setLatches (s := s.report clClk (0x004 + d) 3 13) (l := dieChannels d) (cause := 4)
      (ev := some (s.report clClk (0x004 + d) 3 13).lastEv)).trans State.chanlessColl_report
    refine ⟨_, exec_rcWatchdogExpiry, fun hcalm => State.setLatches_die_coll fun n hn => State.Calm.report (hcalm n hn), ?_, (FieldsKept.report .refl).trans State.setLatches_fields,
      State.chanless_of_chanlessColl hrest⟩
    intro n hn
    have hsets := State.setLatches_sets (s := s.report clClk (0x004 + d) 3 13) (cause := 4) (ev := some (s.report clClk (0x004 + d) 3 13).lastEv)
      State.nodup_dieChannels (State.mem_dieChannels.2 hn) (by decide)
    rwa [State.on, State.report_rd, State.report_rd, ← State.on] at hsets
  · intro s d
    have hdies : ∀ m, ((s.linkDown d).setLatches (dieChannels d) 1 (some (s.linkDown d).lastEv)).die m = (s.linkDown d).die m := fun m =>
      State.die_of_chanlessColl State.chanlessColl_setLatches
    refine ⟨_, exec_dieLinkFailure, fun hcalm => (State.setLatches_die_coll fun n hn => State.Calm.linkDown (hcalm n hn)).trans (State.report_congr rfl rfl rfl), ?_, ?_, ?_,
      (FieldsKept.report (.modDie .refl)).trans State.setLatches_fields, ?_⟩
    · rw [hdies, State.linkDown_die, if_pos rfl]
    · intro m hm
      rw [hdies, State.linkDown_die, if_neg hm]
    · intro n hn
      have hsets := State.setLatches_sets (s := s.linkDown d) (cause := 1) (ev := some (s.linkDown d).lastEv) State.nodup_dieChannels
        (State.mem_dieChannels.2 hn) (by decide)
      rwa [State.on, State.linkDown_rd, State.linkDown_rd, ← State.on] at hsets
    · exact State.chanless_of_linkDown State.chanlessColl_setLatches
end Sys2Proof.Machine
end

section
/-! Exception entry (R281 to R283): what it leaves in the core, and that it touches no other part of the state. -/
namespace Sys2Proof.Machine
open Sys2Proof.Safety

/-- A number with one bit set or cleared, as `Core.setPs` and `Core.setLive` write it. -/
theorem testBit_withBit {x i j : Nat} {b : Bool} :
    (if x.testBit i = b then x else if b then x + 2 ^ i else x - 2 ^ i).testBit j = if j = i then b else x.testBit j := by
  split
  · next h =>
    split
    · next hj => rw [hj, h]
    · rfl
  · next h =>
    cases b
    · have hx : x.testBit i = true := by simpa using h
      have hy : (x ^^^ 2 ^ i).testBit i = false := by simp [hx]
      have hsum : (x ^^^ 2 ^ i) + 2 ^ i = x := by
        rw [← or_two_pow hy]
        apply Nat.eq_of_testBit_eq
        intro k
        rw [Nat.testBit_or, Nat.testBit_xor, Nat.testBit_two_pow]
        by_cases hk : i = k
        · subst hk; simp [hx]
        · simp [hk]
      have hsub : x - 2 ^ i = x ^^^ 2 ^ i := by omega
      rw [if_neg Bool.false_ne_true, hsub, Nat.testBit_xor, Nat.testBit_two_pow]
      by_cases hj : j = i
      · subst hj; simp [hx]
      · simp [hj, Ne.symm hj]
    · have hx : x.testBit i = false := by simpa using h
      rw [if_pos rfl, ← or_two_pow hx, Nat.testBit_or, Nat.testBit_two_pow]
      by_cases hj : j = i
      · subst hj; simp
      · simp [hj, Ne.symm hj]
theorem Core.psBit_setPs {c : Core} {i j : Nat} {b : Bool} : (c.setPs i b).psBit j = if j = i then b else c.psBit j := testBit_withBit
theorem Core.live_setLive {c : Core} {w x : Nat} {b : Bool} : (c.setLive w b).live x = if x % 8 = w % 8 then b else c.live x := testBit_withBit

/-- R281: the core that an entry leaves. -/
def Core.entered (c : Core) (cause detail epc pc : Nat) (ds : Bool) : Core :=
  { ((((c.setPs 8 true).setPs 9 false).setPs 10 false).setPs 7 false).setLive ((c.wp + 1) % 8) true with
    epc := epc, eps := c.ps + 2048 * ds.toNat, ecause := cause + 16 * detail, wp := (c.wp + 1) % 8, pc := pc,
    slot := none, shadow := false, mid := false, waiting := false, fence := none, loadAt := none }
theorem Core.entered_saved {c : Core} {cause detail epc pc : Nat} {ds : Bool} : let e := c.entered cause detail epc pc ds
    e.epc = epc ∧ e.eps = c.ps + 2048 * ds.toNat ∧ e.ecause = cause + 16 * detail ∧ e.pc = pc ∧ e.wp = (c.wp + 1) % 8 := ⟨rfl, rfl, rfl, rfl, rfl⟩
/-- What an entry does not write. -/
def Core.kept (c : Core) : Core :=
  { c with epc := 0, eps := 0, ecause := 0, wp := 0, pc := 0, slot := none, shadow := false, mid := false, waiting := false, fence := none, loadAt := none, ps := 0, wv := 0 }
theorem Core.kept_setPs {c : Core} {i : Nat} {b : Bool} : (c.setPs i b).kept = c.kept := rfl
theorem Core.kept_setLive {c : Core} {w : Nat} {b : Bool} : (c.setLive w b).kept = c.kept := rfl
theorem Core.kept_entered {c : Core} {cause detail epc pc : Nat} {ds : Bool} : (c.entered cause detail epc pc ds).kept = c.kept := by
  have h : ∀ d : Core, ({ d with epc := epc, eps := c.ps + 2048 * ds.toNat, ecause := cause + 16 * detail, wp := (c.wp + 1) % 8, pc := pc, slot := none, shadow := false, mid := false, waiting := false, fence := none, loadAt := none } : Core).kept = d.kept := fun _ => rfl
  rw [entered, h, kept_setLive, kept_setPs, kept_setPs, kept_setPs, kept_setPs]
theorem Core.entered_kept {c : Core} {cause detail epc pc : Nat} {ds : Bool} : let e := c.entered cause detail epc pc ds
    e.slot = none ∧ (e.shadow, e.mid, e.waiting) = (false, false, false) ∧ (∀ k, e.reg k = c.reg k) ∧
      (e.lc, e.lb, e.le, e.mask, e.tmr, e.run, e.stopped) = (c.lc, c.lb, c.le, c.mask, c.tmr, c.run, c.stopped) := by
  have h := kept_entered (c := c) (cause := cause) (detail := detail) (epc := epc) (pc := pc) (ds := ds)
  have hregs := fun k => congrArg (fun d : Core => d.reg k) h
  have hrest := congrArg (fun d : Core => (d.lc, d.lb, d.le, d.mask, d.tmr, d.run, d.stopped)) h
  exact ⟨rfl, rfl, hregs, hrest⟩
theorem State.enter_room {s : State} {q cause detail epc : Nat} {ds : Bool} (h : Room s q) :
    s.enter q cause detail epc ds = s.setCore q ((s.core q).entered cause detail epc (s.vector (q / 32) cause) ds) := by
  have hfree : ¬(s.core q).live ((s.core q).wp + 1) = true := by
    rw [h]
    exact Bool.false_ne_true
  unfold enter
  exact if_neg hfree
theorem Core.entered_live {c : Core} {cause detail epc pc w : Nat} {ds : Bool} (hw : w < 8) :
    (c.entered cause detail epc pc ds).live w = if w = (c.wp + 1) % 8 then true else c.live w := by
  have hmod : w % 8 = (c.wp + 1) % 8 % 8 ↔ w = (c.wp + 1) % 8 := by omega
  exact live_setLive.trans (if_congr hmod rfl rfl)
theorem Core.entered_psBit {c : Core} {cause detail epc pc i : Nat} {ds : Bool} :
    (c.entered cause detail epc pc ds).psBit i = if i = 7 then false else if i = 10 then false else if i = 9 then false else if i = 8 then true else c.psBit i := by
  show ((((c.setPs 8 true).setPs 9 false).setPs 10 false).setPs 7 false).psBit i = _
  rw [psBit_setPs, psBit_setPs, psBit_setPs, psBit_setPs]

namespace State
variable {s : State} {q cause detail epc : Nat} {ds : Bool}
/-- R281, R282: an entry with a free window. -/
theorem enter_enters (h : Room s q) : Enters s (s.enter q cause detail epc ds) (s.core q) q cause detail epc ds := by
  have hwp : ((s.core q).wp + 1) % 8 < 8 := Nat.mod_lt _ (by decide)
  rw [enter_room h]
  unfold Enters
  rw [core_setCore, if_pos rfl]
  obtain ⟨hepc, heps, hcause, hpc, hwindow⟩ := Core.entered_saved (c := s.core q) (cause := cause) (detail := detail) (epc := epc) (pc := s.vector (q / 32) cause) (ds := ds)
  obtain ⟨hslot, hflags, hregs, hrest⟩ := Core.entered_kept (c := s.core q) (cause := cause) (detail := detail) (epc := epc) (pc := s.vector (q / 32) cause) (ds := ds)
  refine ⟨hepc, heps, hcause, hpc, hwindow, ?_, ?_, ?_, ?_, ?_, ?_, ?_, hslot, hflags, hregs, hrest⟩
  · exact (Core.entered_live hwp).trans (if_pos rfl)
  · intro w hw hne
    exact (Core.entered_live hw).trans (if_neg hne)
  · exact Core.entered_psBit
  · exact Core.entered_psBit
  · exact Core.entered_psBit
  · exact Core.entered_psBit
  · intro i hi
    rw [Core.entered_psBit, if_neg (by omega), if_neg (by omega), if_neg (by omega), if_neg (by omega)]
theorem enter_rest (h : Room s q) : { s.enter q cause detail epc ds with cores := s.cores } = s := by
  rw [enter_room h]
  rfl
theorem enter_else (h : Room s q) : ElseSame (s.enter q cause detail epc ds).core s.core q := by
  intro m hm
  rw [enter_room h, core_setCore, if_neg hm]
/-- R283: a fault is an entry that returns to the instruction, or to the transfer that owns its delay slot. -/
theorem fault_eq : s.fault q cause detail = s.enter q cause detail ((s.core q).slot.elim (s.core q).pc (·.owner)) (s.core q).slot.isSome := by
  cases h : (s.core q).slot with
  | none => simp [fault, h]
  | some x => simp [fault, h]
theorem fault_faults (h : Room s q) : Faults s (s.fault q cause detail) q cause detail := by
  rw [fault_eq]
  exact enter_enters h

end State
end Sys2Proof.Machine
end

section
/-! Refused register accesses (R39, R297, R302, R314, R530): the record of the requester and that of the register. -/
namespace Sys2Proof.Machine
open Sys2Proof.Safety
namespace State
variable {s t : State} {r : Requester} {a w : Nat}

/-- A write that is denied: the address names no register, or the register is not the requester's to write and has no record that comes first. -/
abbrev Denied (s : State) (a : Nat) (r : Requester) : Prop := ∀ reg, regAt a = some reg → s.mayWrite r reg = false ∧
  reg.name ∉ [.FC_FCLR, .FC_ACK, .FC_ERRN, .FC_SOK, .FC_RETRY, .CH_EVER, .CH_OVER, .SN_TWRA, .SN_TWRB, .PWR_CKCMT, .HIF_RST, .HIF_PCYC, .CH_KICK, .CH_OWNER]
/-- R188, R369, R371: whether the register at an address records a refused write under the one source of the Safety Net. -/
def ownsRecord (a : Nat) : Bool := (regAt a).any fun reg => reg.name ∈ [.SN_OUTREQ, .SN_FNRST, .SN_LCLR, .SEAL_CMD]
/-- That record. -/
def ownRecord (s : State) (a : Nat) : State := if ownsRecord a then s.report clCfg 0xE21 1 12 else s

/-- R314: a write that does not leave its requester. -/
theorem busWrite_silent (hs : s.silent r = true) : s.busWrite r a w = (s, true) := by
  unfold busWrite
  exact if_pos (.inr hs)
theorem busWrite_denied (hu : s.unreached a = false) (hs : s.silent r = false) (h : s.Denied a r) : (s.busWrite r a w).2 = false := by
  unfold busWrite
  rw [if_neg (by simp [hu, hs])]
  split
  · rfl
  · next reg hreg =>
    rw [if_neg (by simp [(h reg hreg).1])]
/-- R39: what a denied write of a register word comes to. -/
theorem registerWrite_denied {a : Addr} {w : Word} (hu : s.unreached a.toNat = false) (hs : s.silent r = false) (h : s.Denied a.toNat r) :
    exec (.registerWrite r a w) s = .next ((s.refuseCommand r a.toNat).ownRefusal a.toNat) := by
  rw [exec_registerWrite, execRegisterWrite]
  simp only [busWrite_denied hu hs h, Bool.false_eq_true, if_false]
/-- Of the registers' own records only one kind is left. -/
theorem ownRefusal_denied (h : s.Denied a r) : t.ownRefusal a = t.ownRecord a := by
  unfold ownRefusal ownRecord ownsRecord
  cases hreg : regAt a with
  | none => rfl
  | some reg =>
    obtain ⟨-, hname⟩ := h reg hreg
    by_cases hown : reg.name ∈ [.SN_OUTREQ, .SN_FNRST, .SN_LCLR, .SEAL_CMD]
    · simp only [Option.any_some, hown, decide_true, if_true]
      simp only [List.mem_cons, List.not_mem_nil, or_false] at hown
      rcases hown with h | h | h | h
      · simp [refuseOwn, h]
      · simp [refuseOwn, h]
      · simp [refuseOwn, h]
      · simp [refuseOwn, h]
    · simp only [Option.any_some, hown, decide_false, Bool.false_eq_true, if_false]
      simp only [List.mem_cons, List.not_mem_nil, or_false, not_or] at hown hname
      unfold refuseOwn
      split
      case h_19 => rfl
      all_goals simp_all
/-- The record leaves everything but the collector, which it takes from the collector and the times alone. -/
theorem ownRecord_rest : { t.ownRecord a with coll := t.coll } = t := by
  unfold ownRecord
  split
  · rfl
  · rfl
theorem ownRecord_part {α : Type} (P : State → α) (hP : ∀ (x : State) c, P { x with coll := c } = P x) : P (t.ownRecord a) = P t := by
  have h := congrArg P (ownRecord_rest (t := t) (a := a))
  rwa [hP] at h
theorem ownRecord_congr {u : State} (hc : t.coll = u.coll) (ht : t.time = u.time) (hd : t.devOfs = u.devOfs) : (t.ownRecord a).coll = (u.ownRecord a).coll := by
  unfold ownRecord
  split
  · exact report_congr hc ht hd
  · exact hc

/-! ### A descriptor (R297, R302) -/

variable {k : Fin 8} {c : Fin 32}
theorem raise_fields {q l : Nat} : FieldsKept [PWR_IPEND_LINES q] s (s.raise q l) := by
  unfold raise
  exact .ite .refl (.raiseBit List.mem_cons_self .refl)
theorem flagAside_ite {p : Prop} [Decidable p] {t u v : State} (ht : flagAside t = flagAside v) (hu : flagAside u = flagAside v) :
    flagAside (if p then t else u) = flagAside v := by
  split
  · exact ht
  · exact hu
theorem flagAside_raise {q l : Nat} : flagAside (s.raise q l) = flagAside s := by
  unfold raise
  exact flagAside_ite rfl rfl
theorem flagAside_dmaIrq {k c : Nat} : flagAside (s.dmaIrq k c) = flagAside s := by
  unfold dmaIrq
  exact flagAside_ite flagAside_raise rfl
theorem coll_raise {q l : Nat} : (s.raise q l).coll = s.coll := by
  unfold raise
  split
  · rfl
  · rfl
theorem dmaIrq_fields {k c : Nat} : FieldsKept [PWR_IPEND_LINES (s.dmaCore k c)] s (s.dmaIrq k c) := by
  unfold dmaIrq
  exact .ite raise_fields .refl
theorem coll_dmaIrq {k c : Nat} : (s.dmaIrq k c).coll = s.coll := by
  unfold dmaIrq
  split
  · exact coll_raise
  · rfl

/-- What the end of a descriptor writes beside its interrupt line. -/
def endFields (s : State) (k c : Nat) : List Fld := [DSTAT_STATE k c, DSTAT_ERR k c] ++ if s.rd (DCFG_KIND k c) = 0 then [DLEN_LEN k c] else []
/-- The descriptor in ERROR, a MOVE with no word left, before its interrupt. -/
def dmaFailed (s : State) (k c : Nat) : State :=
  ((if s.rd (DCFG_KIND k c) = 0 then s.hwWrite (DLEN_LEN k c) 0 else s).wr (DSTAT_STATE k c) 3).wr (DSTAT_ERR k c) 1
theorem dmaFailed_fields {k c : Nat} : FieldsKept (s.endFields k c) s (s.dmaFailed k c) := by
  have h : FieldsKept (s.endFields k c) s (if s.rd (DCFG_KIND k c) = 0 then s.hwWrite (DLEN_LEN k c) 0 else s) := by
    split
    · next hk => exact .hwWrite (by simp [endFields, hk]) .refl
    · exact .refl
  exact .wr (by simp [endFields]) (.wr (by simp [endFields]) h)
theorem dmaFailed_core {k c : Nat} : (s.dmaFailed k c).dmaCore k c = s.dmaCore k c := by
  have hkey : ∀ g ∈ s.endFields k c, (DCFG_ITGT k c).key ≠ g.key ∧ PWR_SPLIT_MAP.key ≠ g.key := by
    intro g hg
    have hg : g = DSTAT_STATE k c ∨ g = DSTAT_ERR k c ∨ g = DLEN_LEN k c := by
      simp only [endFields, List.mem_append, List.mem_cons, List.not_mem_nil, or_false] at hg
      split at hg
      · simpa [or_assoc] using hg
      · simp only [List.not_mem_nil, or_false] at hg
        tauto
    rcases hg with rfl | rfl | rfl <;>
    · simp only [Fld.key, DCFG_ITGT, PWR_SPLIT_MAP, DSTAT_STATE, DSTAT_ERR, DLEN_LEN, dmaAddr, ne_eq]
      omega
  unfold dmaCore split
  rw [dmaFailed_fields _ fun g hg => (hkey g hg).1, dmaFailed_fields _ fun g hg => (hkey g hg).2]
theorem dmaFailed_rd {k c : Nat} : (s.dmaFailed k c).rd (DSTAT_STATE k c) = 3 ∧ (s.dmaFailed k c).rd (DSTAT_ERR k c) = 1 ∧
    (s.rd (DCFG_KIND k c) = 0 → (s.dmaFailed k c).rd (DLEN_LEN k c) = 0) := by
  have hkeys : (DSTAT_STATE k c).key ≠ (DSTAT_ERR k c).key ∧ (DLEN_LEN k c).key ≠ (DSTAT_STATE k c).key ∧ (DLEN_LEN k c).key ≠ (DSTAT_ERR k c).key := by
    simp only [Fld.key, DSTAT_STATE, DSTAT_ERR, DLEN_LEN, ne_eq]
    omega
  obtain ⟨hse, hls, hle⟩ := hkeys
  unfold dmaFailed
  refine ⟨?_, rd_wr_same, fun hk => ?_⟩
  · rw [rd_wr_ne hse, rd_wr_same]
    rfl
  · rw [rd_wr_ne hle, rd_wr_ne hls, if_pos hk, hwWrite, mark_rd, rd_wr_same]
    rfl
theorem flagAside_wr {f : Fld} {v : Nat} : flagAside (s.wr f v) = flagAside s := rfl
theorem flagAside_hwWrite {f : Fld} {v : Nat} : flagAside (s.hwWrite f v) = flagAside s := rfl
theorem flagAside_dmaFailed {k c : Nat} : flagAside (s.dmaFailed k c) = flagAside s := by
  rw [dmaFailed, flagAside_wr, flagAside_wr]
  exact flagAside_ite flagAside_hwWrite rfl
theorem coll_dmaFailed {k c : Nat} : (s.dmaFailed k c).coll = s.coll := by
  rw [dmaFailed, wr_coll, wr_coll]
  split
  · exact hwWrite_coll
  · rfl
theorem ended_fields {k c : Nat} : FieldsKept ([DSTAT_STATE k c, DSTAT_ERR k c, PWR_IPEND_LINES (s.dmaCore k c)] ++ (if s.rd (DCFG_KIND k c) = 0 then [DLEN_LEN k c] else []))
    s ((s.dmaFailed k c).dmaIrq k c) := by
  refine (dmaFailed_fields.mono ?_).trans (dmaIrq_fields.mono ?_)
  · intro g hg
    simp only [endFields, List.mem_append, List.mem_cons, List.not_mem_nil, or_false] at hg ⊢
    tauto
  · intro g hg
    rw [dmaFailed_core] at hg
    simp [List.mem_singleton.1 hg]
/-- The interrupt line of a descriptor's core lies elsewhere than the descriptor. -/
theorem ended_rd {k : Fin 8} {c : Fin 32} {f : Fld} (hf : f = DSTAT_STATE k c ∨ f = DSTAT_ERR k c ∨ f = DLEN_LEN k c) :
    ((s.dmaFailed k c).dmaIrq k c).rd f = (s.dmaFailed k c).rd f := by
  refine dmaIrq_fields _ fun g hg => ?_
  rw [List.mem_singleton.1 hg]
  have hk := k.isLt
  have hc := c.isLt
  rcases hf with rfl | rfl | rfl <;>
  · simp only [Fld.key, PWR_IPEND_LINES, DSTAT_STATE, DSTAT_ERR, DLEN_LEN, dmaAddr, ne_eq]
    omega

/-- The state of an active descriptor whose access is refused. -/
def dmaRefusal (s : State) (k : Fin 8) (c : Fin 32) : State := (((s.report clMem (0x200 + 32 * k + c) 1 (4 + k)).dmaFailed k c).dmaIrq k c)
theorem refuse_dma_active (h : s.rd (DSTAT_STATE k c) = 1) : s.refuse (.dma k c) a = s.dmaRefusal k c := by
  unfold refuse
  exact if_pos (by simp [dmaActive, h])
theorem dmaRefusal_coll : (s.dmaRefusal k c).coll = (s.report clMem (0x200 + 32 * k + c) 1 (4 + k)).coll := coll_dmaIrq.trans coll_dmaFailed
theorem flagAside_dmaRefusal : flagAside (s.dmaRefusal k c) = flagAside s := by
  rw [dmaRefusal, flagAside_dmaIrq, flagAside_dmaFailed, flagAside_report]
theorem dmaRefusal_rd : (s.dmaRefusal k c).rd (DSTAT_STATE k c) = 3 ∧ (s.dmaRefusal k c).rd (DSTAT_ERR k c) = 1 ∧
    (s.rd (DCFG_KIND k c) = 0 → (s.dmaRefusal k c).rd (DLEN_LEN k c) = 0) := by
  obtain ⟨hstate, herr, hlen⟩ := dmaFailed_rd (s := s.report clMem (0x200 + 32 * k + c) 1 (4 + k)) (k := k) (c := c)
  rw [report_rd] at hlen
  exact ⟨(ended_rd (.inl rfl)).trans hstate, (ended_rd (.inr (.inl rfl))).trans herr, fun hk => (ended_rd (.inr (.inr rfl))).trans (hlen hk)⟩
theorem dmaCore_report {k c cls src sev p : Nat} {l : List Nat} : (s.report cls src sev p l).dmaCore k c = s.dmaCore k c := by
  unfold dmaCore split
  rw [report_rd, report_rd]
theorem dmaRefusal_fields : FieldsKept ([DSTAT_STATE k c, DSTAT_ERR k c, PWR_IPEND_LINES (s.dmaCore k c)] ++ (if s.rd (DCFG_KIND k c) = 0 then [DLEN_LEN k c] else []))
    s (s.dmaRefusal k c) := by
  have h := ended_fields (s := s.report clMem (0x200 + 32 * k + c) 1 (4 + k)) (k := k) (c := c)
  rw [dmaCore_report, report_rd] at h
  exact (FieldsKept.report .refl).trans h
theorem refuse_dma_idle (h : s.rd (DSTAT_STATE k c) ≠ 1) : s.refuse (.dma k c) a = s.report clMem (0x200 + 32 * k + c) 1 (4 + k) := by
  unfold refuse
  exact if_neg (by simp [dmaActive, h])


/-! ### The host (R530) -/

theorem refuse_host_fields : FieldsKept [HIF_STAT_ERR, HIF_ERRADR_ADDR] s (s.refuse .host a) :=
  .report (.wr (by simp) (.raiseFlag (by simp) .refl))
theorem refuse_host_rd (ha : a < 2 ^ 24) : (s.refuse .host a).rd HIF_STAT_ERR = 1 ∧ (s.refuse .host a).rd HIF_ERRADR_ADDR = a := by
  have hkey : HIF_STAT_ERR.key ≠ HIF_ERRADR_ADDR.key := by decide
  unfold refuse
  simp only [report_rd]
  exact ⟨(rd_wr_ne hkey).trans (rd_raiseFlag_same Nat.zero_lt_one), rd_wr_same.trans (Nat.mod_eq_of_lt ha)⟩
theorem refuse_host_eq : s.refuse .host a = ((s.raiseFlag HIF_STAT_ERR).wr HIF_ERRADR_ADDR a).report clMem 0x130 1 13 := rfl
theorem refuse_host_rest : flagAside (s.refuse .host a) = flagAside s := by
  rw [refuse_host_eq, flagAside_report, flagAside_wr, flagAside_raiseFlag]
theorem refuse_host_coll : (s.refuse .host a).coll = (s.report clMem 0x130 1 13).coll := report_congr rfl rfl rfl

theorem collAside_ownRecord {cls src sev p : Nat} {l : List Nat} {c : Coll} :
    { (s.report cls src sev p l).ownRecord a with coll := c } = { s with coll := c } :=
  congrArg (fun x : State => { x with coll := c }) (ownRecord_rest (t := s.report cls src sev p l) (a := a))
theorem ownRecord_cores {l : SMap Core} : { t.ownRecord a with cores := l } = ({ t with cores := l }).ownRecord a := by
  unfold ownRecord
  split
  · rfl
  · rfl
theorem core_ownRecord {q : Nat} : (t.ownRecord a).core q = t.core q := ownRecord_part (·.core q) fun _ _ => rfl

/-! ### A core (R39, R283) -/

theorem executes_report {q cls src sev p : Nat} {l : List Nat} : (s.report cls src sev p l).executes q = s.executes q := by
  unfold executes noCore split cluRuns
  simp only [report_rd, report_core]
theorem refuseCommand_core {q : Fin 256} (h : s.executes q = true) :
    s.refuseCommand (.core q) a = (s.report clMem (0x180 + q / 2) 1 (4 + q / 32)).fault q cAccess 1 := by
  have hu : (s.report clMem (0x180 + q / 2) 1 (4 + q / 32)).executes q = true := executes_report.trans h
  exact if_pos hu
theorem faults_report {q cause detail cls src sev p : Nat} {l : List Nat} (h : Faults (s.report cls src sev p l) t q cause detail) :
    Faults s t q cause detail := by
  simpa only [Faults, Enters, report_core, report_rd] using h
theorem faults_ownRecord {q cause detail : Nat} (h : Faults s t q cause detail) : Faults s (t.ownRecord a) q cause detail := by
  simpa only [Faults, Enters, core_ownRecord] using h
theorem rd_ownRecord {f : Fld} : (t.ownRecord a).rd f = t.rd f := ownRecord_part (·.rd f) fun _ _ => rfl
theorem flagAside_ownRecord : flagAside (t.ownRecord a) = flagAside t := ownRecord_part flagAside fun _ _ => rfl
theorem ownRecord_fields {l : List Fld} : FieldsKept l t (t.ownRecord a) := fun _ _ => rd_ownRecord
end State

/-- Settles O8: a denied write is the requester's refusal, followed by the record of the register. -/
theorem refusedAccessChangesNoRegister : Obligations.RefusedAccessChangesNoRegister := by
  unfold Obligations.RefusedAccessChangesNoRegister
  intro s a w hu denied own
  have hown : ∀ u : State, own u = u.ownRecord a.toNat := fun _ => rfl
  refine ⟨?_, ?_, ?_, ?_⟩
  · intro k c hden
    have hexec : exec (.registerWrite (.dma k c) a w) s = .next ((s.refuse (.dma k c) a.toNat).ownRecord a.toNat) := by
      rw [State.registerWrite_denied hu rfl hden, State.ownRefusal_denied hden]
      rfl
    have hreq : own (s.report clMem (0x200 + 32 * k + c) 1 (4 + k)) = (s.report clMem (0x200 + 32 * k + c) 1 (4 + k)).ownRecord a.toNat := rfl
    by_cases hact : s.rd (DSTAT_STATE k c) = 1
    · obtain ⟨hstate, herr, hlen⟩ := State.dmaRefusal_rd (s := s) (k := k) (c := c)
      rw [State.refuse_dma_active hact] at hexec
      have hrest := State.flagAside_dmaRefusal (s := s) (k := k) (c := c)
      have htime := congrArg State.time hrest
      have hofs := congrArg State.devOfs hrest
      refine ⟨_, hexec, ?_, fun _ => ⟨State.rd_ownRecord.trans hstate, State.rd_ownRecord.trans herr, fun hk => State.rd_ownRecord.trans (hlen hk),
        State.dmaRefusal_fields.trans State.ownRecord_fields, State.rest_of_flagAside (State.flagAside_ownRecord.trans hrest)⟩, fun h => absurd hact h⟩
      rw [hreq]
      exact State.ownRecord_congr State.dmaRefusal_coll htime hofs
    · rw [State.refuse_dma_idle hact] at hexec
      exact ⟨_, hexec, rfl, fun h => absurd h hact, fun _ => State.collAside_ownRecord⟩
  · intro hden
    rw [State.registerWrite_denied hu rfl hden, State.ownRefusal_denied hden, hown]
    rfl
  · intro hden
    have hexec : exec (.registerWrite .host a w) s = .next ((s.refuse .host a.toNat).ownRecord a.toNat) := by
      rw [State.registerWrite_denied hu rfl hden, State.ownRefusal_denied hden]
      rfl
    obtain ⟨herr, haddr⟩ := State.refuse_host_rd (s := s) a.isLt
    refine ⟨_, hexec, State.rd_ownRecord.trans herr, State.rd_ownRecord.trans haddr, State.refuse_host_fields.trans State.ownRecord_fields, ?_,
      State.rest_of_flagAside (State.flagAside_ownRecord.trans State.refuse_host_rest)⟩
    rw [hown]
    exact State.ownRecord_congr State.refuse_host_coll rfl rfl
  · intro q
    constructor
    · intro hexe
      rw [exec_registerWrite, execRegisterWrite, State.busWrite_silent (by simp [State.silent, hexe])]
      rfl
    · intro hexe hden hroom
      have hexec : exec (.registerWrite (.core q) a w) s = .next (((s.report clMem (0x180 + q / 2) 1 (4 + q / 32)).fault q 4 1).ownRecord a.toNat) := by
        rw [State.registerWrite_denied hu (by simp [State.silent, hexe]) hden, State.ownRefusal_denied hden, State.refuseCommand_core hexe]
        rfl
      have hroom' : Room (s.report clMem (0x180 + q / 2) 1 (4 + q / 32)) q := hroom
      refine ⟨_, hexec, State.faults_ownRecord (State.faults_report (State.fault_faults hroom')), ?_, ?_⟩
      · intro m hm
        rw [State.core_ownRecord, State.fault_eq, State.enter_else hroom' m hm, State.report_core]
      · rw [hown, State.ownRecord_cores, State.fault_eq]
        exact congrArg (State.ownRecord · a.toNat) (State.enter_rest hroom')
end Sys2Proof.Machine
end

section
/-! The refutation of the statement on clusters that start and idle (R475, R471): a start discarded together with a request for SLEEP. -/
namespace Sys2Proof.Machine
open Sys2Proof.Safety

theorem exec_clusterStart {s : State} {r : Requester} {k : Fin 8} : exec (.clusterStart r k) s = execClusterStart r k s := rfl
/-- Back in WATCH in the very cycle that began in RUN, with a request for SLEEP of that cycle; the debug port is unlocked. -/
def sleepWaits : State :=
  { (State.reset.wr PWR_SUPST_VCORE 1).wr DBG_STAT_UNLOCK 1 with
    devAt := some (0, .run)
    pwr := { released := true, sleepDue := some 0 } }
/-- The start's own request for RUN first discards the request for SLEEP (R5), and is then discarded itself: two events. -/
theorem execClusterStart_sleepWaits : ∃ t, execClusterStart .debug 0 sleepWaits = .next t ∧ t.coll.queue.map Ev.src = [0x010, 0x010] :=
  ⟨_, rfl, by decide +kernel⟩

/-- Refutes O51: the clause on a start in a cycle back in WATCH says that the one report is its own, and the request for SLEEP that it discards with it is reported too. -/
theorem not_clustersStartAndIdle : ¬ Obligations.ClustersStartAndIdle := by
  unfold Obligations.ClustersStartAndIdle
  intro h
  obtain ⟨hcommands, -⟩ := h sleepWaits 0
  obtain ⟨-, -, hback, -⟩ := (hcommands .debug).1 ⟨by decide, by decide, by decide, by decide, by decide⟩
  obtain ⟨t, hexec, hcoll, -⟩ := hback (by decide) (by decide) (by decide) (by decide)
  obtain ⟨u, hrun, hevents⟩ := execClusterStart_sleepWaits
  obtain rfl : u = t := by
    rw [exec_clusterStart, hrun] at hexec
    exact Host.Outcome.next.inj hexec
  rw [hcoll] at hevents
  exact absurd hevents (by decide +kernel)
end Sys2Proof.Machine
end

section
/-! The refutation of the statement on die supply events (R36, R151): the stop of a die's sequencers that makes a channel lit and so brings RUN. -/
namespace Sys2Proof.Machine

/-- In WATCH, channel 0 follows track 0 of sequencer 0 of its die and is a LIT member of the active aspect 0 of group 0, with CMIN 0 and engine
evidence required; lit aspects are routed to cluster 0. -/
def litByTrack : State :=
  { ((((((((((State.reset.wr PWR_SUPST_VCORE 1).wr (PWR_WAKERT_CLU 0) 1).wr (CH_CARB_SEQ 0) 0).wr (CH_CARB_TRK 0) 0).wr (CH_SHST_ASRC 0) 1).wr (CH_AGRP_GEN 0) 1).wr (SN_AGACT_VALID 0) 1).wr
      (CH_SLOT_KIND 0 0) 2).wr (CH_PCFG_EREQ 0) 1).wr (CW_CMIN_CMIN 0) 0) with
    pwr := { released := true } }
theorem exec_vdrvFail {s : State} {d : Fin 4} : exec (.vdrvFail d) s = execVdrvFail d s := rfl
/-- The sequencers of die 0 stop, channel 0 takes its track anew and is judged lit, and cluster 0 starts (R36), which brings RUN. -/
theorem execVdrvFail_litByTrack : ∃ t, execVdrvFail 0 litByTrack = .next t ∧ t.dev = .run := ⟨_, rfl, by decide +kernel⟩

/-- Refutes O11: the clause on VDRV_FAIL keeps the device state whatever follows the tracks of the die, and a channel that becomes lit by its track starts a cluster. -/
theorem not_dieSupplyEventsHoldTheGates : ¬ Obligations.DieSupplyEventsHoldTheGates := by
  unfold Obligations.DieSupplyEventsHoldTheGates
  intro h
  obtain ⟨⟨t, hexec, -, -, -, -, -, hdev, -⟩, -⟩ := h litByTrack 0
  obtain ⟨u, hrun, hu⟩ := execVdrvFail_litByTrack
  obtain rfl : u = t := by
    rw [exec_vdrvFail, hrun] at hexec
    exact Host.Outcome.next.inj hexec
  rw [hu] at hdev
  exact absurd hdev (by decide)
end Sys2Proof.Machine
end

section
/-! The refutation of the statement on clock, fabric and supply events (R30, R401): the lost crystal also empties the fault handler's cluster. -/
namespace Sys2Proof.Machine
open Sys2Proof.Safety

/-- A filter by keys drops the entries of the keys that it does not pass. -/
theorem SMap.get_filter {α : Type} {d : α} {m : SMap α} {p : Nat → Bool} {k : Nat} :
    SMap.get d (List.filter (fun e => p e.1) m) k = if p k = true then SMap.get d m k else d := by
  induction m with
  | nil => simp [SMap.get]
  | cons e r ih =>
    obtain ⟨k', v⟩ := e
    by_cases hp : p k' = true
    · simp only [List.filter_cons, hp, if_true, SMap.get, ih]
      by_cases hk : k' = k
      · subst hk
        simp [hp]
      · simp [hk]
    · have hk : p k = true → k' ≠ k := fun h e => hp (e ▸ h)
      by_cases h : p k = true
      · simp [hp, h, hk h, SMap.get, ih]
      · simp [hp, h, ih]

namespace State
variable {s t : State}
/-- The memories, and which cluster is the fault handler's. -/
def handlerView (s : State) : SMap Nat × Nat := (s.mem, s.rd FC_CFG_FHCLU)
theorem handlerView_wr {f : Fld} {v : Nat} (h : f.addr ≠ 0xD00000) (hl : f.lo < 256) : (s.wr f v).handlerView = s.handlerView := by
  have hkey : FC_CFG_FHCLU.key ≠ f.key := by
    simp only [Fld.key, FC_CFG_FHCLU]
    omega
  rw [handlerView, rd_wr_ne hkey, wr_mem, handlerView]
theorem handlerView_put {f : Fld} {b : Bool} (h : f.addr ≠ 0xD00000) (hl : f.lo < 256) : (s.put f b).handlerView = s.handlerView := handlerView_wr h hl
theorem handlerView_ite {p : Prop} [Decidable p] {t u : State} {x : SMap Nat × Nat} (ht : t.handlerView = x) (hu : u.handlerView = x) :
    (if p then t else u).handlerView = x := by
  split
  · exact ht
  · exact hu
theorem handlerView_freezeGen {n : Nat} : (s.freezeGen n).handlerView = s.handlerView := by
  have h : (s.put (CH_STAT_FROZEN n) true).handlerView = s.handlerView :=
    handlerView_put (by simp only [CH_STAT_FROZEN, chAddr]; omega) (by simp [CH_STAT_FROZEN])
  exact handlerView_ite rfl h
theorem handlerView_freeze {n : Nat} (hn : n < 192) : (s.freeze n).handlerView = s.handlerView := by
  have h := handlerView_freezeGen (s := s) (n := n)
  have h' := (handlerView_freezeGen (s := s.freezeGen n) (n := n + 1)).trans h
  exact handlerView_ite (handlerView_ite h' h) rfl
theorem handlerView_freezeCluster {k : Nat} : (s.freezeCluster k).handlerView = s.handlerView :=
  each_same handlerView fun _ _ hn => handlerView_freeze (List.mem_range.1 (List.mem_filter.1 hn).1)
theorem handlerView_haltCores {e : Nat} : (s.haltCores e).handlerView = s.handlerView := each_same handlerView fun _ _ _ => rfl
/-- The end of a cluster empties its memories and leaves the handler's number. -/
theorem handlerView_stopCluster {k : Nat} : (s.stopCluster k).handlerView = (((s.wr (PWR_CST_STATE k) 0).dropCluster k).mem, s.rd FC_CFG_FHCLU) := by
  have hcst : (s.wr (PWR_CST_STATE k) 0).handlerView = s.handlerView :=
    handlerView_wr (by simp only [PWR_CST_STATE]; omega) (by simp [PWR_CST_STATE])
  have hview := congrArg Prod.snd hcst
  rw [stopCluster, handlerView_freezeCluster, each_same handlerView fun _ _ _ => handlerView_haltCores]
  exact Prod.ext rfl hview
theorem handlerView_modSio {f : Sio → Sio} : (s.modSio f).handlerView = s.handlerView := rfl
theorem handlerView_raiseBit {f : Fld} {i : Nat} (h : f.addr ≠ 0xD00000) (hl : f.lo < 256) : (s.raiseBit f i).handlerView = s.handlerView := by
  have hput : (s.putBit f i true).handlerView = s.handlerView := handlerView_wr h hl
  exact hput
theorem handlerView_updErrn : s.updErrn.handlerView = s.handlerView := handlerView_put (by decide) (by decide)
theorem handlerView_updAd : s.updAd.handlerView = s.handlerView := by
  rw [updAd, handlerView_modSio]
  exact handlerView_put (f := SN_OUTST_AD) (by decide) (by decide)
theorem handlerView_updOutputs : s.updOutputs.handlerView = s.handlerView := by
  have hfn : ∀ (t : State) (f : Nat), ((t.put (SN_FNST_PA f) (t.permitA f)).put (SN_FNST_PB f) (t.permitB f)).handlerView = t.handlerView := fun t f =>
    (handlerView_put (by simp only [SN_FNST_PB]; omega) (by simp [SN_FNST_PB])).trans (handlerView_put (by simp only [SN_FNST_PA]; omega) (by simp [SN_FNST_PA]))
  rw [updOutputs, handlerView_updAd, handlerView_put (f := SN_OUTST_TORQUE) (by decide) (by decide), handlerView_wr (f := SN_OUTST_SOON) (by decide) (by decide),
    each_same handlerView fun t f _ => hfn t f]

/-- The word at a key of the memory of cluster 0 reads 0. -/
def Cleared (s : State) : Prop := SMap.get 0 s.mem 0x1000000 = 0
theorem empty_of_view (h : t.handlerView = s.handlerView) (hs : s.Cleared) : t.Cleared := by
  have hmem : t.mem = s.mem := congrArg Prod.fst h
  rw [Cleared, hmem]
  exact hs
/-- The keys outside the memory of cluster k and the engine-local memories of its cores. -/
def spared (k key : Nat) : Bool := !(key / 0x1000000 == k + 1 || (decide (16 ≤ key / 0x1000000) && (key / 0x1000000 - 16) / 32 == k))
theorem dropCluster_mem {k : Nat} : (s.dropCluster k).mem = List.filter (fun e => spared k e.1) s.mem := rfl
theorem stopCluster_mem {k : Nat} : SMap.get 0 (s.stopCluster k).mem 0x1000000 = if k = 0 then 0 else SMap.get 0 s.mem 0x1000000 := by
  have h : (s.stopCluster k).mem = ((s.wr (PWR_CST_STATE k) 0).dropCluster k).mem := congrArg Prod.fst handlerView_stopCluster
  rw [h, dropCluster_mem, SMap.get_filter, wr_mem]
  by_cases hk : k = 0
  · simp [hk, spared]
  · simp [hk, spared]
theorem stopCluster_empty {k : Nat} (h : k = 0 ∨ s.Cleared) : (s.stopCluster k).Cleared := by
  rw [Cleared, stopCluster_mem]
  split
  · rfl
  · next hk => exact h.resolve_left hk
theorem stopCluster_handler {k : Nat} : (s.stopCluster k).rd FC_CFG_FHCLU = s.rd FC_CFG_FHCLU := congrArg Prod.snd handlerView_stopCluster
theorem stopClusters_empty {l : List Nat} (h : 0 ∈ l ∨ s.Cleared) : (s.each l stopCluster).Cleared := by
  induction l generalizing s with
  | nil => exact h.resolve_left (List.not_mem_nil)
  | cons k r ih =>
    rw [each_cons]
    refine ih ?_
    obtain hk | hs := h
    · obtain rfl | hr := List.mem_cons.1 hk
      · exact .inr (stopCluster_empty (.inl rfl))
      · exact .inl hr
    · exact .inr (stopCluster_empty (.inr hs))
/-- The entry into SAFE ends every cluster but the fault handler's. -/
def stopOthers (s : State) : State :=
  (((s.each ((List.range 8).filter fun k => k != s.rd FC_CFG_FHCLU) stopCluster).raiseBit HIF_IPEND_LINES 10).updErrn).updOutputs
theorem stopOthers_view : s.stopOthers.handlerView = (s.each ((List.range 8).filter fun k => k != s.rd FC_CFG_FHCLU) stopCluster).handlerView := by
  rw [stopOthers, handlerView_updOutputs, handlerView_updErrn, handlerView_raiseBit (by decide) (by decide)]
theorem stopOthers_empty : s.stopOthers.rd FC_CFG_FHCLU = 0 ∨ s.stopOthers.Cleared := by
  have hnum : s.stopOthers.rd FC_CFG_FHCLU = _ := congrArg Prod.snd stopOthers_view
  have hstop : (s.each ((List.range 8).filter fun k => k != s.rd FC_CFG_FHCLU) stopCluster).rd FC_CFG_FHCLU = s.rd FC_CFG_FHCLU :=
    each_same (fun t => t.rd FC_CFG_FHCLU) fun _ _ _ => stopCluster_handler
  by_cases hc : s.rd FC_CFG_FHCLU = 0
  · exact .inl (hnum.trans (hstop.trans hc))
  · refine .inr (empty_of_view stopOthers_view (stopClusters_empty (.inl ?_)))
    simp [Ne.symm hc]
theorem safeEntry_stops {ev : Nat} (h : s.dev ≠ .safe) : ∃ t : State, s.safeEntry ev = t.stopOthers := by
  unfold safeEntry
  rw [if_neg h]
  exact ⟨_, rfl⟩
theorem safeEntry_empty {ev : Nat} (h : s.dev ≠ .safe) : (s.safeEntry ev).rd FC_CFG_FHCLU = 0 ∨ (s.safeEntry ev).Cleared := by
  obtain ⟨t, ht⟩ := safeEntry_stops (ev := ev) h
  rw [ht]
  exact stopOthers_empty
end State

/-- Released, in WATCH, with one word in the memory of cluster 0, which is the fault handler's. -/
def handlerWord : State := { State.reset with mem := [(0x1000000, 5)], pwr := { released := true } }
theorem exec_crystalLost {s : State} {count : Nat} : exec (.crystalLost count) s = execCrystalLost count s := rfl
/-- With the crystal the fabric is lost, and the fault handler's cluster, which the entry into SAFE had spared, loses its memory too. -/
theorem execCrystalLost_handlerWord : ∃ t, execCrystalLost 0 handlerWord = .next t ∧ t.Cleared := by
  unfold execCrystalLost
  rw [if_neg (by decide)]
  refine ⟨_, rfl, State.stopCluster_empty ?_⟩
  exact State.safeEntry_empty (by decide)
/-- The word lies in no other cluster's memory. -/
theorem handlerWord_held {k : Nat} (hk : k ≠ 0) : ¬HeldBy k 0x1000000 := by
  simp only [HeldBy]
  omega

/-- Refutes O20: the clause on CRYSTAL_LOST keeps the words that only the fault handler's cluster holds, and the lost crystal ends that cluster as well. -/
theorem not_clockFabricAndSupplyEvents : ¬ Obligations.ClockFabricAndSupplyEvents := by
  unfold Obligations.ClockFabricAndSupplyEvents
  intro h
  obtain ⟨hclock, -⟩ := h handlerWord
  obtain ⟨-, hlost⟩ := hclock 0
  obtain ⟨⟨t, hexec, hsafe, -⟩, -⟩ := hlost (.inl (by decide)) (by decide) (by decide)
  obtain ⟨-, -, -, hkept⟩ := hsafe.memories
  have hword : t.peek 0x1000000 = handlerWord.peek 0x1000000 := hkept _ fun k _ hk => handlerWord_held hk
  obtain ⟨u, hrun, hu⟩ := execCrystalLost_handlerWord
  obtain rfl : u = t := by
    rw [exec_crystalLost, hrun] at hexec
    exact Host.Outcome.next.inj hexec
  rw [State.peek, if_neg (by decide), hu] at hword
  exact absurd hword (by decide)
end Sys2Proof.Machine
end

section
/-! The refutation of the statement on the Carousel sequencers (R36, R149, R471): a level that makes a channel lit while a request for SLEEP waits. -/
namespace Sys2Proof.Machine
open Sys2Proof.Safety

/-- Back in WATCH in the cycle that began in RUN, with a request for SLEEP of that cycle. Sequencer 0 of die 0 runs at a LVL of track 0, which channel 0 follows; the channel
is a LIT member of the active aspect 0 of group 0, with CMIN 0 and engine evidence required, and lit aspects are routed to cluster 0. -/
def litByLevel : State :=
  { (((((((((((State.reset.wr PWR_SUPST_VCORE 1).wr (PWR_WAKERT_CLU 0) 1).wr (CH_CARB_SEQ 0) 0).wr (CH_CARB_TRK 0) 0).wr (CH_SHST_ASRC 0) 1).wr (CH_AGRP_GEN 0) 1).wr (SN_AGACT_VALID 0) 1).wr
      (CH_SLOT_KIND 0 0) 2).wr (CH_PCFG_EREQ 0) 1).wr (CW_CMIN_CMIN 0) 0).wr (CAR_STAT_STATE 0 0) 1) with
    devAt := some (0, .run)
    pwr := { released := true, sleepDue := some 0 } }
theorem chanless_pwr {s : State} : (chanless s).pwr = s.pwr := rfl
theorem exec_lvl {s : State} {d : Fin 4} {z : Fin 3} : exec (.lvl d z) s = execLvl d z s := rfl
/-- Channel 0 becomes lit, cluster 0 is asked to start (R36), and that start's request for RUN discards the request for SLEEP. -/
theorem execLvl_litByLevel : ∃ t, execLvl 0 0 litByLevel = .next t ∧ t.pwr.sleepDue = none := ⟨_, rfl, by decide +kernel⟩

/-- Refutes O24: the clause on LVL says that in a cycle that did not begin in WATCH nothing beside the sequencer, its channels and the clusters changes, and a start asked for by
a channel that becomes lit withdraws a request for SLEEP. -/
theorem not_carouselSequencers : ¬ Obligations.CarouselSequencers := by
  unfold Obligations.CarouselSequencers
  intro h
  obtain ⟨-, -, -, hlvl, -⟩ := h litByLevel .host 0 0
  obtain ⟨t, hexec, -, -, -, -, hframe, -⟩ := hlvl ⟨by decide, by decide, by decide, by decide⟩ (by decide)
  obtain ⟨-, hrest⟩ := hframe (.inr (by decide))
  obtain ⟨u, hrun, hu⟩ := execLvl_litByLevel
  obtain rfl : u = t := by
    rw [exec_lvl, hrun] at hexec
    exact Host.Outcome.next.inj hexec
  have hpwr := congrArg State.pwr hrest
  rw [chanless_pwr, chanless_pwr] at hpwr
  have hsleep : u.pwr.sleepDue = litByLevel.pwr.sleepDue := congrArg Pwr.sleepDue hpwr
  rw [hu] at hsleep
  exact absurd hsleep (by decide)
end Sys2Proof.Machine
end

section
/-! The refutation of the statement on the test port and debug (R330, R339, R542): a halt that calls a spare into service and so brings RUN. -/
namespace Sys2Proof.Machine
open Sys2Proof.Safety

/-- In WATCH, unlocked for debug; core 0 of engine 0 lives. The engine is a HOST whose spare is engine 16, of a cluster that is off. -/
def hostWithSpare : State :=
  { (((((State.reset.wr PWR_SUPST_VCORE 1).wr DBG_STAT_UNLOCK 1).wr (PWR_ENGMAP_ROLE 0) 1).wr (PWR_ENGMAP_SPARE 0) 16).wr (PWR_ENGMAP_ROLE 16) 2).modCore 0 fun c => { c with run := true } with
    pwr := { released := true } }
theorem exec_debugHalt {s : State} : exec .debugHalt s = execDebugHalt s := rfl
/-- The halt breaks the lockstep and stops engine 0; its spare takes over, whose cluster starts, which brings RUN. -/
theorem execDebugHalt_hostWithSpare : ∃ t, execDebugHalt hostWithSpare = .next t ∧ t.dev = .run := ⟨_, rfl, by decide +kernel⟩

/-- Refutes O55: the clause on DEBUG_HALT keeps the device state, and outside MAINT the halt of a HOST starts the cluster of its spare. -/
theorem not_testPortDebugAccessAndHalt : ¬ Obligations.TestPortDebugAccessAndHalt := by
  unfold Obligations.TestPortDebugAccessAndHalt
  intro h
  obtain ⟨-, -, -, -, -, -, -, hhalt, -⟩ := h hostWithSpare
  obtain ⟨-, -, hstops⟩ := hhalt ⟨by decide, by decide, by decide, by decide, by decide⟩
  obtain ⟨t, hexec, -, -, hdev, -⟩ := hstops ⟨by decide, by decide, by decide, by decide⟩ (by decide) (by decide)
  obtain ⟨u, hrun, hu⟩ := execDebugHalt_hostWithSpare
  obtain rfl : u = t := by
    rw [exec_debugHalt, hrun] at hexec
    exact Host.Outcome.next.inj hexec
  rw [hu] at hdev
  exact absurd hdev (by decide)
end Sys2Proof.Machine
end

section
/-! Group errors: their reports, the reactions that latch or do nothing, and the end of the degraded duration (R185 to R187). -/
namespace Sys2Proof.Machine
open Sys2Proof.Safety

theorem exec_aspectErrorReport {s : State} {g : Fin 16} : exec (.aspectErrorReport g) s = execAspectErrorReport g s := rfl
theorem exec_aspectReaction {s : State} {g : Fin 16} : exec (.aspectReaction g) s = execAspectReaction g s := rfl

namespace State
variable {s : State} {g a src : Nat}

theorem report_lastEv {cls id sev path : Nat} {data : List Nat} : (s.report cls id sev path data).lastEv = s.coll.nextId := by
  simp only [lastEv, report]
  split
  · simp
  · simp
theorem on_eq {f : Fld} (hw : f.width = 1) : s.on f = decide (s.rd f = 1) := by
  have h : s.rd f < 2 ^ f.width := rd_lt
  rw [hw] at h
  have hcases : s.rd f = 0 ∨ s.rd f = 1 := by omega
  obtain h0 | h1 := hcases
  · simp [on, h0]
  · simp [on, h1]

/-! ### Reports of errors -/

/-- The report of an error of aspect a, and the reaction that then waits in its group. -/
theorem reportError_coll : (s.reportError g a src).coll = (s.report clProof (0x300 + a) (if s.rd (SN_ASP_SAFE a) = 1 then 3 else 1) 12 [src]).coll := by
  unfold reportError
  rw [on_eq rfl]
  simp
theorem reportError_group {x : Nat} : (s.reportError g a src).group x =
    if x = g then { s.group g with react := (s.group g).react ++ [(a, s.coll.nextId)] } else s.group x := by
  unfold reportError
  simp [report_lastEv]

/-! ### The reaction that sets latches -/

theorem mem_members {n : Nat} (hn : n < 192) : n ∈ s.members a ↔ s.member n a = true := by
  simp [members, channels, hn]
theorem members_nodup : (s.members a).Nodup := List.Nodup.filter _ List.nodup_range
theorem enterSafeGen_unclamped {n m : Nat} : ((s.enterSafeGen n).prot m).unclamped = (s.prot m).unclamped := by
  unfold enterSafeGen
  extract_lets y0 y1 y2
  have h0 : (y0.prot m).unclamped = (s.prot m).unclamped := unfreeze_prot
  have h1 : y1.prot m = y0.prot m := by
    unfold y1
    split
    · rfl
    · rfl
  clear_value y0 y1
  have h2 : y2.prot m = y1.prot m := by
    unfold y2 restGates
    split
    · split
      · rfl
      · rfl
    · rfl
  clear_value y2
  rw [disrupt_part (fun t => t.prot m) fun _ _ => rfl, updExp_prot, prot, seeRef_prots]
  exact (congrArg Prot.unclamped (h2.trans h1)).trans h0
theorem latchGen_unclamped {n m : Nat} : (((s.clampSafe n).enterSafeGen n).prot m).unclamped = (s.prot m).unclamped := by
  have hc : (s.clampSafe n).prot m = s.prot m := by
    unfold clampSafe
    split
    · rw [prot, clampDouble_prots, prot]
    · rfl
  rw [enterSafeGen_unclamped, hc]
theorem unclamped_latchEv {p : Prot} : p.unclamped.latchEv = p.latchEv := rfl
theorem latchGen_latchEv {n m : Nat} : (((s.clampSafe n).enterSafeGen n).prot m).latchEv = (s.prot m).latchEv := by
  rw [← unclamped_latchEv, latchGen_unclamped, unclamped_latchEv]
/-- R81: the event of an open latch is noted with it, and no other. -/
theorem setLatch_latchEv {n m cause : Nat} {ev : Option Nat} :
    ((s.setLatch n cause ev).prot m).latchEv = if m = n ∧ s.on (CH_SSTAT_LATCH n) = false then ev else (s.prot m).latchEv := by
  unfold setLatch
  by_cases hset : s.on (CH_SSTAT_LATCH n) = true
  · simp [hset]
  · rw [if_neg hset]
    extract_lets h h' two y0 y1 y2 y3
    have hev : (y0.prot m).latchEv = if m = n ∧ s.on (CH_SSTAT_LATCH n) = false then ev else (s.prot m).latchEv := by
      unfold y0
      rw [prot_modProt]
      simp [hset]
      split
      · rfl
      · rfl
    have h1 : (y1.prot m).latchEv = (y0.prot m).latchEv := by
      unfold y1
      split
      · rw [prot_modProt]
        split
        · next hm => rw [hm]
        · rfl
      · rfl
    clear_value y0 y1
    have h2 : y2.prot m = y1.prot m := rfl
    clear_value y2
    have h3 : (y3.prot m).latchEv = (y2.prot m).latchEv := latchGen_latchEv
    clear_value y3
    refine Eq.trans ?_ (h3.trans ((congrArg Prot.latchEv h2).trans (h1.trans hev)))
    clear_value two
    cases two
    · rw [if_neg Bool.false_ne_true]
    · rw [if_pos rfl, latchGen_latchEv]
/-- The latches of a list of channels note the event, each that was open. -/
theorem setLatches_latchEv {l : List Nat} {n cause : Nat} {ev : Option Nat} (hl : l.Nodup) (hn : n ∈ l) (hc : cause < 8) (h : s.on (CH_SSTAT_LATCH n) = false) :
    ((s.setLatches l cause ev).prot n).latchEv = ev := by
  have hpair := each_once (s := s) (n := n) (l := l) (op := fun t n => t.setLatch n cause ev)
    (fun t => ((t.prot n).latchEv, t.rd (CH_SSTAT_LATCH n))) (fun p => (if p.2 = 0 then ev else p.1, 1)) hl hn
    (fun t x _ hx => by
      rw [setLatch_fields _ (latchFields_other hx).1, setLatch_latchEv, if_neg fun h => hx h.1.symm])
    (fun t => by
      cases hon : t.on (CH_SSTAT_LATCH n)
      · rw [(setLatch_sets hon hc).1, setLatch_latchEv, off_bit hon]
        simp [hon]
      · rw [setLatch_set hon]
        simp [rd_bit rfl hon])
  have hfst := congrArg Prod.fst hpair
  exact hfst.trans (if_pos (off_bit h))
theorem setLatches_other {l : List Nat} {n cause : Nat} {ev : Option Nat} (hn : n ∉ l) :
    (s.setLatches l cause ev).rd (CH_SSTAT_LATCH n) = s.rd (CH_SSTAT_LATCH n) ∧ (s.setLatches l cause ev).rd (CH_SSTAT_CAUSE n) = s.rd (CH_SSTAT_CAUSE n) := by
  have hne : ∀ x ∈ l, x ≠ n := fun x hx h => hn (h ▸ hx)
  exact ⟨each_same (fun t => t.rd (CH_SSTAT_LATCH n)) fun t x hx => setLatch_fields _ (latchFields_other (hne x hx)).1,
    each_same (fun t => t.rd (CH_SSTAT_CAUSE n)) fun t x hx => setLatch_fields _ (latchFields_other (hne x hx)).2⟩
end State
end Sys2Proof.Machine
end

section
/-! What the start of routed clusters and the install of a shadow set leave as it was (R36, R130, R141, R158). -/
namespace Sys2Proof.Machine
open Sys2Proof.Safety

namespace State
variable {s t : State} {n m a k : Nat} {l : List Fld}

/-! ### The start of routed clusters -/

/-- The fields that a start of clusters writes, and those that the RUN which it brings does. -/
def startFields : List Fld := (List.range 8).flatMap (fun k => [PWR_CST_STATE k, PWR_CST_FREQA k, PWR_CST_CAUSE k]) ++ (List.range 24).map SN_FNST_WAITRUN
/-- The state without what such a start concerns: registers, collector, clusters, the device state, its times and the requests for another. -/
def startAside (s : State) : State :=
  { s with regs := [], hwNow := [], coll := {}, clus := [], dev := .watch, devAt := none, wide := false, runAt := 0, watchAt := 0, pwr := {} }
theorem startAside_ite {p : Prop} [Decidable p] {u v : State} (ht : startAside t = startAside v) (hu : startAside u = startAside v) :
    startAside (if p then t else u) = startAside v := by
  split
  · exact ht
  · exact hu
theorem startAside_wr {f : Fld} {v : Nat} : startAside (s.wr f v) = startAside s := rfl
theorem startAside_modClu {g : Clu → Clu} : startAside (s.modClu k g) = startAside s := rfl
theorem startAside_putBit {f : Fld} {i : Nat} {b : Bool} : startAside (s.putBit f i b) = startAside s := rfl
theorem waitRun_fields : FieldsKept startFields s (s.each (List.range 24) fun u f => u.put (SN_FNST_WAITRUN f) true) :=
  .each fun _ _ hx => .put (List.mem_append_right _ (List.mem_map_of_mem hx)) .refl
theorem enterState_fields {d : DevState} : FieldsKept startFields s (s.enterState d) := by
  unfold enterState
  extract_lets u
  have hu : FieldsKept startFields s u := .same rfl
  clear_value u
  exact .ite (FieldsKept.trans (hu.trans (.same rfl)) waitRun_fields) hu
theorem enterState_startAside {d : DevState} : startAside (s.enterState d) = startAside s := by
  unfold enterState
  extract_lets u
  have hu : startAside u = startAside s := rfl
  clear_value u
  refine startAside_ite ?_ hu
  exact (each_same startAside fun _ _ _ => startAside_wr).trans hu
theorem dropSleep_fields : FieldsKept l s s.dropSleep := .ite (.report (.same rfl)) .refl
theorem dropSleep_startAside : startAside s.dropSleep = startAside s := startAside_ite rfl rfl
theorem transition_fields {d : DevState} : FieldsKept startFields s (s.transition d) := by
  unfold transition
  extract_lets u
  have hu : FieldsKept startFields s u := dropSleep_fields
  clear_value u
  exact .ite (.ite hu (hu.trans enterState_fields)) (.ite ((FieldsKept.report hu).trans enterState_fields) (.report hu))
theorem transition_startAside {d : DevState} : startAside (s.transition d) = startAside s := by
  unfold transition
  extract_lets u
  have hu : startAside u = startAside s := dropSleep_startAside
  clear_value u
  exact startAside_ite (startAside_ite hu (enterState_startAside.trans hu)) (startAside_ite (enterState_startAside.trans hu) hu)
theorem requestRun_fields : FieldsKept startFields s s.requestRun := .ite transition_fields .refl
theorem requestRun_startAside : startAside s.requestRun = startAside s := startAside_ite transition_startAside rfl
theorem cst_mem (hk : k < 8) : PWR_CST_STATE k ∈ startFields ∧ PWR_CST_FREQA k ∈ startFields ∧ PWR_CST_CAUSE k ∈ startFields := by
  refine ⟨?_, ?_, ?_⟩ <;>
  · refine List.mem_append_left _ (List.mem_flatMap.2 ⟨k, List.mem_range.2 hk, ?_⟩)
    simp
theorem requestStart_fields {cause freq : Nat} (hk : k < 8) : FieldsKept startFields s (s.requestStart k cause freq) := by
  obtain ⟨hst, hfreq, hcause⟩ := cst_mem hk
  unfold requestStart
  refine .ite .refl (.ite requestRun_fields (.ite ?_ (.ite ?_ (.modClu .refl))))
  · exact (FieldsKept.modClu (.wr hcause (.wr hfreq (.wr hst .refl)))).trans requestRun_fields
  · exact .wr hfreq (.putBit hcause .refl)
theorem requestStart_startAside {cause freq : Nat} : startAside (s.requestStart k cause freq) = startAside s := by
  unfold requestStart
  refine startAside_ite rfl (startAside_ite requestRun_startAside (startAside_ite ?_ (startAside_ite ?_ rfl)))
  · rw [requestRun_startAside, startAside_modClu, startAside_wr, startAside_wr, startAside_wr]
  · rw [startAside_wr, startAside_putBit]
theorem startRouted_fields {src cause : Nat} : FieldsKept startFields s (s.startRouted src cause) :=
  .each fun _ _ hk => .ite (requestStart_fields (List.mem_range.1 hk)) .refl
theorem startRouted_startAside {src cause : Nat} : startAside (s.startRouted src cause) = startAside s :=
  each_same startAside fun _ _ _ => startAside_ite requestStart_startAside rfl
end State
end Sys2Proof.Machine
end

section
/-! The install of a slot at an aspect switch (R130, R141, R158): the values it brings, and what it leaves as it was. -/
namespace Sys2Proof.Machine
open Sys2Proof.Safety

namespace State
variable {s t : State} {n m a k : Nat} {l : List Fld} {d : Shadow}

/-- The state without what an aspect switch concerns: the channels, the start of clusters, the sequencers, the pair. -/
def switchAside (s : State) : State := chanless { startAside s with seqrs := [], pair := {} }
theorem switchAside_chanlessColl : switchAside (chanlessColl s) = switchAside s := rfl
theorem switchAside_leaseAside : switchAside (leaseAside s) = switchAside s := rfl
theorem switchAside_of_chanlessColl (h : chanlessColl t = chanlessColl s) : switchAside t = switchAside s := by
  rw [← switchAside_chanlessColl, h, switchAside_chanlessColl]
theorem switchAside_of_startAside (h : startAside t = startAside s) : switchAside t = switchAside s := congrArg (fun u : State => chanless { u with seqrs := [], pair := {} }) h
theorem switchAside_ite {p : Prop} [Decidable p] {u v : State} (ht : switchAside t = switchAside v) (hu : switchAside u = switchAside v) :
    switchAside (if p then t else u) = switchAside v := by
  split
  · exact ht
  · exact hu
theorem switchAside_wr {f : Fld} {v : Nat} : switchAside (s.wr f v) = switchAside s := rfl
theorem switchAside_put {f : Fld} {b : Bool} : switchAside (s.put f b) = switchAside s := rfl
theorem switchAside_modProt {g : Prot → Prot} : switchAside (s.modProt n g) = switchAside s := rfl
theorem switchAside_report {cls id sev path : Nat} {data : List Nat} : switchAside (s.report cls id sev path data) = switchAside s := rfl
theorem switchAside_flag {c e v : Nat} : switchAside (s.flag c e v) = switchAside s := rfl
theorem switchAside_modSeqr {g : Seqr → Seqr} : switchAside (s.modSeqr n g) = switchAside s := rfl
theorem switchAside_updExp : switchAside (s.updExp n) = switchAside s := switchAside_of_chanlessColl (chanlessColl_of chanless_updExp)
theorem switchAside_startRouted {src cause : Nat} : switchAside (s.startRouted src cause) = switchAside s := switchAside_of_startAside startRouted_startAside
theorem switchAside_updLease : switchAside (s.updLease n) = switchAside s := by
  rw [← switchAside_leaseAside, leaseAside_updLease, switchAside_leaseAside]
theorem switchAside_refreshAppl : switchAside (s.refreshAppl n) = switchAside s := switchAside_of_chanlessColl chanlessColl_setAppl
theorem switchAside_reclamp : switchAside (s.reclamp n) = switchAside s := switchAside_of_chanlessColl chanlessColl_reclamp

/-! ### The install -/

/-- The fields of channel n that the install of a set writes. -/
def setFields (n : Nat) : List Fld := [CH_SHST_ASRC n, CH_SHST_ACLOOP n, CH_SHST_HOACT n, CH_STAT_LARM n, CH_LREM_TICKS n] ++ applFields n
/-- Channel n has the set's source and values with no hand-over; what an aspect switch does not concern is as it was. -/
structure Installed (s t : State) (n : Nat) (d : Shadow) : Prop where
  fields : FieldsKept (setFields n ++ startFields) s t
  source : t.rd (CH_SHST_ASRC n) = d.src % 2
  noHand : t.rd (CH_SHST_HOACT n) = 0
  values : (t.prot n).appDuty = d.duty ∧ (t.prot n).appRef = d.ref
  others : ∀ m, m ≠ n → t.prot m = s.prot m
  rest   : switchAside t = switchAside s

/-- The source and the hand-over of a channel are no fields that a start of clusters, its applied value or its lease writes. -/
theorem source_hand_keys : ∀ f ∈ [CH_SHST_ASRC n, CH_SHST_HOACT n], (∀ g ∈ applFields m, f.key ≠ g.key) ∧ ∀ g ∈ [CH_STAT_LARM m, CH_LREM_TICKS m], f.key ≠ g.key := by
  intro f hf
  simp only [List.mem_cons, List.not_mem_nil, or_false] at hf
  refine ⟨fun g hg => ?_, fun g hg => ?_⟩
  · simp only [applFields, proofFields, List.mem_append, List.mem_cons, List.not_mem_nil, or_false] at hg
    rcases hf with rfl | rfl <;> rcases hg with (rfl | rfl | rfl | rfl) | rfl | rfl | rfl <;>
    · simp only [Fld.key, CH_SHST_ASRC, CH_SHST_HOACT, CH_PVER_EXPLIT, CW_CVER_CVER, CH_PVER_STATE, CH_APPL_VALUE, CH_SHST_CLAMP, CH_SHST_DIS, CH_SHST_ACLOOP, ne_eq]
      omega
  · simp only [List.mem_cons, List.not_mem_nil, or_false] at hg
    rcases hf with rfl | rfl <;> rcases hg with rfl | rfl <;>
    · simp only [Fld.key, CH_SHST_ASRC, CH_SHST_HOACT, CH_STAT_LARM, CH_LREM_TICKS, ne_eq]
      omega
/-- A field of a channel's block is none that a start of clusters writes. -/
theorem channel_not_start {f : Fld} (hlo : f.lo < 256) (h : f.addr < 0xD00000) : ∀ g ∈ startFields, f.key ≠ g.key := by
  intro g hg
  simp only [startFields, List.mem_append, List.mem_flatMap, List.mem_map, List.mem_range, List.mem_cons, List.not_mem_nil, or_false] at hg
  rcases hg with ⟨k, hk, rfl | rfl | rfl⟩ | ⟨k, hk, rfl⟩ <;>
  · simp only [Fld.key, PWR_CST_STATE, PWR_CST_FREQA, PWR_CST_CAUSE, SN_FNST_WAITRUN, ne_eq]
    omega
theorem source_hand_not_start (hn : n < 192) : ∀ f ∈ [CH_SHST_ASRC n, CH_SHST_HOACT n], ∀ g ∈ startFields, f.key ≠ g.key := by
  intro f hf
  simp only [List.mem_cons, List.not_mem_nil, or_false] at hf
  rcases hf with rfl | rfl
  · exact channel_not_start (by simp [CH_SHST_ASRC]) (by simp only [CH_SHST_ASRC, chAddr]; omega)
  · exact channel_not_start (by simp [CH_SHST_HOACT]) (by simp only [CH_SHST_HOACT, chAddr]; omega)
theorem values_of_unclamped {p q : Prot} (h : p.unclamped = q.unclamped) : p.appDuty = q.appDuty ∧ p.appRef = q.appRef := by
  have hd : p.unclamped.appDuty = q.unclamped.appDuty := by rw [h]
  have hr : p.unclamped.appRef = q.unclamped.appRef := by rw [h]
  exact ⟨hd, hr⟩
theorem Installed.of_unclamped {u : State} {w : List Fld} (h : Installed s t n d) (hw : ∀ g ∈ w, g ∈ setFields n ++ startFields) (hf : FieldsKept w t u)
    (hkeys : ∀ f ∈ [CH_SHST_ASRC n, CH_SHST_HOACT n], ∀ g ∈ w, f.key ≠ g.key)
    (hown : (u.prot n).appDuty = (t.prot n).appDuty ∧ (u.prot n).appRef = (t.prot n).appRef) (hother : ∀ m, m ≠ n → u.prot m = t.prot m) (hrest : switchAside u = switchAside t) :
    Installed s u n d where
  fields := h.fields.trans (hf.mono hw)
  source := (hf _ (hkeys _ (by simp))).trans h.source
  noHand := (hf _ (hkeys _ (by simp))).trans h.noHand
  values := ⟨hown.1.trans h.values.1, hown.2.trans h.values.2⟩
  others := fun m hm => (hother m hm).trans (h.others m hm)
  rest := hrest.trans h.rest
theorem Installed.refreshAppl (h : Installed s t n d) : Installed s (t.refreshAppl n) n d := by
  have hprot := setAppl_prot (s := t) (n := n) (x := if t.on (CH_SHST_HOACT n) then (t.prot n).hoY else t.ctrlValue n)
  have hown := hprot.1 n
  refine h.of_unclamped (w := applFields n) (fun g hg => by simp [setFields, hg]) setAppl_fields (fun f hf => (source_hand_keys f hf).1) ?_ hprot.2 switchAside_refreshAppl
  exact values_of_unclamped hown
theorem startAside_prots : (startAside s).prots = s.prots := rfl
theorem startRouted_prot {src cause : Nat} : (s.startRouted src cause).prot m = s.prot m := by
  rw [prot, ← startAside_prots, startRouted_startAside, startAside_prots, prot]
theorem Installed.startRouted (hn : n < 192) (h : Installed s t n d) : Installed s (t.startRouted 0 0) n d := by
  exact h.of_unclamped (fun g hg => List.mem_append_right _ hg) startRouted_fields (source_hand_not_start hn) (by simp [startRouted_prot]) (fun _ _ => startRouted_prot)
    switchAside_startRouted
theorem Installed.updLease (h : Installed s t n d) : Installed s (t.updLease n) n d := by
  refine h.of_unclamped (fun g hg => ?_) updLease_fields (fun f hf => (source_hand_keys f hf).2) ?_ (fun m hm => updLease_prot_ne hm) switchAside_updLease
  · simp only [List.mem_cons, List.not_mem_nil, or_false] at hg
    rcases hg with rfl | rfl
    · simp [setFields]
    · simp [setFields]
  · obtain hp | hp := updLease_prot (s := t) (n := n)
    · simp [hp]
    · simp [hp]
theorem installSet_installed (hn : n < 192) (hd : d.sw = true) : Installed s (s.installSet n d) n d := by
  unfold installSet
  extract_lets bad s1 s2 d2 ho loop y0 s3 s4 s5 s6 s7 s8
  have hho : ho = false := by
    have hsw : d2.sw = true := by
      unfold d2
      split
      · exact hd
      · exact hd
    simp [ho, hsw]
  have h1 : s1 = s := if_pos hd
  have h2 : FieldsKept [] s s2 ∧ s2.prots = s.prots ∧ switchAside s2 = switchAside s := by
    unfold s2
    rw [h1]
    split
    · exact ⟨.flag .refl, rfl, switchAside_flag⟩
    · exact ⟨.refl, rfl, rfl⟩
  obtain ⟨hf2, hp2, hr2⟩ := h2
  have hprot2 : ∀ m, s2.prot m = s.prot m := fun m => by rw [prot, hp2, prot]
  have hd2 : d2.duty = d.duty ∧ d2.ref = d.ref ∧ d2.src = d.src ∧ d2.sw = true := by
    unfold d2
    split
    · exact ⟨rfl, rfl, rfl, hd⟩
    · exact ⟨rfl, rfl, rfl, hd⟩
  obtain ⟨hduty, href, hsrc, hsw⟩ := hd2
  have h5 : s5 = s4.put (CH_SHST_HOACT n) false := if_pos hsw
  have h5i : Installed s s5 n d := by
    rw [h5]
    refine ⟨?_, ?_, rd_put_same Nat.zero_lt_one, ?_, fun m hm => ?_, ?_⟩
    · exact .put (by simp [setFields]) (.wr (by simp [setFields]) (.wr (by simp [setFields]) (.modProt (hf2.mono (by simp)))))
    · have hk1 : (CH_SHST_ASRC n).key ≠ (CH_SHST_HOACT n).key := by simp [Fld.key, CH_SHST_ASRC, CH_SHST_HOACT]
      have hk2 : (CH_SHST_ASRC n).key ≠ (CH_SHST_ACLOOP n).key := by simp [Fld.key, CH_SHST_ASRC, CH_SHST_ACLOOP]
      unfold s4
      rw [rd_put_ne hk1, rd_wr_ne hk2, rd_wr_same, hsrc]
      rfl
    · unfold s4 s3
      simp [hduty, href]
    · unfold s4 s3
      simp [hm, hprot2]
    · unfold s4 s3
      rw [switchAside_put, switchAside_wr, switchAside_wr, switchAside_modProt, hr2]
  clear_value s5
  have h6 : Installed s s6 n d := by
    unfold s6
    split
    · exact ⟨.report h5i.fields, h5i.source, h5i.noHand, h5i.values, h5i.others, switchAside_report.trans h5i.rest⟩
    · exact h5i
  clear_value s6
  have h7 : Installed s s7 n d := by
    unfold s7
    rw [hho, if_neg Bool.false_ne_true]
    exact h6.refreshAppl
  clear_value s7
  have h8 : Installed s s8 n d := by
    unfold s8
    split
    · exact h7.startRouted hn
    · exact h7
  exact h8.updLease
end State
end Sys2Proof.Machine
end

section
/-! The load of a channel's slot at an aspect switch (R141, R153). -/
namespace Sys2Proof.Machine
open Sys2Proof.Safety

namespace State
variable {s t : State} {n m a k : Nat} {l : List Fld} {d : Shadow}

/-- The fields of channel n's shadow set. -/
def shadowFields (n : Nat) : List Fld := [CH_SHST_OVR n, CH_SREF_REF n, CH_SDUTY_DUTY n, CH_SCTL_SRC n, CH_SCTL_CLOOP n, CH_SHST_PEND n]
/-- The fields of channel n that a load of its slot writes, or the refusal of a sequencer's start. -/
def loadFields (n : Nat) : List Fld := shadowFields n ++ setFields n ++ [CH_FLT_GBUD n]

/-- R141: the shadow set of channel n takes the slot of kind k and value v. -/
def shadowSlot (s : State) (n k v : Nat) : State :=
  match k with
  | 1 => ((if s.topo n = 2 then s.wr (CH_SREF_REF n) 0 else s.wr (CH_SDUTY_DUTY n) 0).wr (CH_SCTL_SRC n) 0).wr (CH_SCTL_CLOOP n) 0
  | 2 => (if s.topo n = 2 then s.wr (CH_SREF_REF n) v else s.wr (CH_SDUTY_DUTY n) v).wr (CH_SCTL_SRC n) 0
  | _ => (s.wr (CH_SCTL_SRC n) 1).wr (CH_SCTL_CLOOP n) 0
/-- The shadow set with the slot is no longer pending, and no hand-over runs. -/
def slotTaken (s : State) (n a : Nat) : State :=
  let u := if s.on (CH_SHST_PEND n) then s.raiseFlag (CH_SHST_OVR n) else s
  ((u.shadowSlot n (s.slotKind n a) (u.rd (CH_SLOT_VALUE n a))).put (CH_SHST_PEND n) false).put (CH_SHST_HOACT n) false
/-- The shadow set as an aspect switch applies it. -/
def switchSet (s : State) (n : Nat) : Shadow := ⟨s.rd (CH_SDUTY_DUTY n), s.rd (CH_SREF_REF n), s.rd (CH_SCTL_SRC n), s.rd (CH_SCTL_CLOOP n), true⟩
theorem loadSlot_eq : s.loadSlot n a = if s.slotKind n a = 0 then s.reclamp n else ((s.slotTaken n a).applyOrDefer n ((s.slotTaken n a).switchSet n)).updExp n := rfl

theorem shadowSlot_fields {v : Nat} : FieldsKept (loadFields n) s (s.shadowSlot n k v) := by
  unfold shadowSlot
  split
  · exact .wr (by simp [loadFields, shadowFields]) (.wr (by simp [loadFields, shadowFields]) (.ite (.wr (by simp [loadFields, shadowFields]) .refl) (.wr (by simp [loadFields, shadowFields]) .refl)))
  · exact .wr (by simp [loadFields, shadowFields]) (.ite (.wr (by simp [loadFields, shadowFields]) .refl) (.wr (by simp [loadFields, shadowFields]) .refl))
  · exact .wr (by simp [loadFields, shadowFields]) (.wr (by simp [loadFields, shadowFields]) .refl)
theorem slotTaken_fields : FieldsKept (loadFields n) s (s.slotTaken n a) := by
  unfold slotTaken
  extract_lets u
  have hu : FieldsKept (loadFields n) s u := .ite (.raiseFlag (by simp [loadFields, shadowFields]) .refl) .refl
  exact .put (by simp [loadFields, setFields]) (.put (by simp [loadFields, shadowFields]) (hu.trans shadowSlot_fields))
theorem regsAside_put {f : Fld} {b : Bool} : regsAside (s.put f b) = regsAside s := rfl
/-- The shadow set lies in registers. -/
theorem shadowSlot_regsAside {v : Nat} : regsAside (s.shadowSlot n k v) = regsAside s := by
  unfold shadowSlot
  split
  · split
    · rfl
    · rfl
  · split
    · rfl
    · rfl
  · rfl
theorem slotTaken_regsAside : regsAside (s.slotTaken n a) = regsAside s := by
  unfold slotTaken
  extract_lets u
  have hu : regsAside u = regsAside s := by
    unfold u
    split
    · rfl
    · rfl
  rw [regsAside_put, regsAside_put, shadowSlot_regsAside, hu]
theorem regsAside_prots : (regsAside s).prots = s.prots := rfl
theorem switchAside_regsAside : switchAside (regsAside s) = switchAside s := rfl
theorem slotTaken_prot : (s.slotTaken n a).prot m = s.prot m := by
  rw [prot, ← regsAside_prots, slotTaken_regsAside, regsAside_prots, prot]
theorem switchAside_slotTaken : switchAside (s.slotTaken n a) = switchAside s := by
  rw [← switchAside_regsAside, slotTaken_regsAside, switchAside_regsAside]

/-! ### What the shadow set becomes -/

theorem shadowSlot_source {v : Nat} (hk : k < 4) (h0 : k ≠ 0) : (s.shadowSlot n k v).rd (CH_SCTL_SRC n) = if k = 3 then 1 else 0 := by
  have hkey : (CH_SCTL_SRC n).key ≠ (CH_SCTL_CLOOP n).key := by simp [Fld.key, CH_SCTL_SRC, CH_SCTL_CLOOP]
  have hcases : k = 1 ∨ k = 2 ∨ k = 3 := by omega
  rcases hcases with rfl | rfl | rfl
  · exact (rd_wr_ne hkey).trans rd_wr_same
  · exact rd_wr_same
  · exact (rd_wr_ne hkey).trans rd_wr_same
theorem shadowSlot_value {v : Nat} (hk : k = 1 ∨ k = 2) (hv : v < 65536) :
    (s.topo n = 2 → (s.shadowSlot n k v).rd (CH_SREF_REF n) = if k = 1 then 0 else v % 4096) ∧
    (s.topo n ≠ 2 → (s.shadowSlot n k v).rd (CH_SDUTY_DUTY n) = if k = 1 then 0 else v) := by
  have hkeys : (CH_SREF_REF n).key ≠ (CH_SCTL_CLOOP n).key ∧ (CH_SREF_REF n).key ≠ (CH_SCTL_SRC n).key ∧ (CH_SDUTY_DUTY n).key ≠ (CH_SCTL_CLOOP n).key ∧ (CH_SDUTY_DUTY n).key ≠ (CH_SCTL_SRC n).key := by
    simp only [Fld.key, CH_SREF_REF, CH_SDUTY_DUTY, CH_SCTL_SRC, CH_SCTL_CLOOP]
    omega
  obtain ⟨hrc, hrs, hdc, hds⟩ := hkeys
  refine ⟨fun ht => ?_, fun ht => ?_⟩
  · rcases hk with rfl | rfl
    · rw [shadowSlot, if_pos ht, rd_wr_ne hrc, rd_wr_ne hrs, rd_wr_same]
      rfl
    · rw [shadowSlot, if_pos ht, rd_wr_ne hrs, rd_wr_same]
      rfl
  · rcases hk with rfl | rfl
    · rw [shadowSlot, if_neg ht, rd_wr_ne hdc, rd_wr_ne hds, rd_wr_same]
      rfl
    · rw [shadowSlot, if_neg ht, rd_wr_ne hds, rd_wr_same]
      exact Nat.mod_eq_of_lt hv

/-! ### The load -/

/-- The places in a channel's block of the fields that a load of its slot writes: word and lowest bit. -/
def loadPlaces : List (Nat × Nat) :=
  [(0x205, 0), (0x205, 1), (0x205, 2), (0x205, 3), (0x205, 4), (0x205, 5), (0x205, 6), (0x200, 0), (0x202, 0), (0x203, 2), (0x203, 3), (0x002, 7), (0x023, 0), (0x206, 0), (0x304, 0), (0x304, 8), (0x003, 8)]
/-- A field at a place of channel n's block. -/
def AtPlace (f : Fld) (n : Nat) (p : Nat × Nat) : Prop := f.key = (chAddr n + p.1) * 256 + p.2 ∧ p.1 < 0x400 ∧ p.2 < 256
theorem place_unique {f g : Fld} {p q : Nat × Nat} (hf : AtPlace f n p) (hg : AtPlace g m q) (h : f.key = g.key) : p = q := by
  obtain ⟨off, lo⟩ := p
  obtain ⟨off', lo'⟩ := q
  obtain ⟨hfk, hoff, hlo⟩ := hf
  obtain ⟨hgk, hoff', hlo'⟩ := hg
  rw [h, hgk] at hfk
  simp only [chAddr] at hfk hoff hlo hoff' hlo' ⊢
  ext
  · simp only
    omega
  · simp only
    omega
theorem load_places : ∀ g ∈ loadFields m, g = CW_CVER_CVER m ∨ ∃ p ∈ loadPlaces, AtPlace g m p := by
  intro g hg
  simp only [loadFields, shadowFields, setFields, applFields, proofFields, List.mem_append, List.mem_cons, List.not_mem_nil, or_false] at hg
  rcases hg with ((rfl | rfl | rfl | rfl | rfl | rfl) | (rfl | rfl | rfl | rfl | rfl) | (rfl | rfl | rfl | rfl) | rfl | rfl | rfl) | rfl
  case inl.inr.inr.inr.inr.inl => exact .inl rfl
  all_goals
    refine .inr ⟨(_, _), ?_, rfl, ?_, ?_⟩ <;>
    simp [loadPlaces, CH_SHST_OVR, CH_SREF_REF, CH_SDUTY_DUTY, CH_SCTL_SRC, CH_SCTL_CLOOP, CH_SHST_PEND, CH_SHST_ASRC, CH_SHST_ACLOOP, CH_SHST_HOACT, CH_STAT_LARM, CH_LREM_TICKS,
      CH_PVER_EXPLIT, CH_PVER_STATE, CH_APPL_VALUE, CH_SHST_CLAMP, CH_SHST_DIS, CH_FLT_GBUD]
theorem other_channel {f g : Fld} {p q : Nat × Nat} (hf : AtPlace f n p) (hg : AtPlace g m q) (hm : m ≠ n) : f.key ≠ g.key := by
  obtain ⟨off, lo⟩ := p
  obtain ⟨off', lo'⟩ := q
  obtain ⟨hfk, hoff, hlo⟩ := hf
  obtain ⟨hgk, hoff', hlo'⟩ := hg
  rw [hfk, hgk]
  simp only [chAddr] at hoff hlo hoff' hlo' ⊢
  omega
theorem place_not_window {f : Fld} {p : Nat × Nat} (hf : AtPlace f n p) : f.key ≠ (CW_CVER_CVER m).key := by
  obtain ⟨off, lo⟩ := p
  obtain ⟨hfk, hoff, hlo⟩ := hf
  rw [hfk]
  simp only [Fld.key, CW_CVER_CVER, chAddr, cwAddr] at hoff hlo ⊢
  omega
/-- A field at another place of a channel's block is none of them. -/
theorem not_loaded {f : Fld} {p : Nat × Nat} (hf : AtPlace f n p) (hne : p ∉ loadPlaces) : ∀ g ∈ loadFields m, f.key ≠ g.key := by
  intro g hg hkey
  obtain rfl | ⟨q, hq, hplace⟩ := load_places g hg
  · exact place_not_window hf hkey
  · exact hne (place_unique hf hplace hkey ▸ hq)
/-- Channel n has taken its slot for aspect a as it stands in `s`: nothing pending, no hand-over, the source and the value of the slot's kind. -/
structure Loaded (s t : State) (n a : Nat) : Prop where
  taken  : t.rd (CH_SHST_PEND n) = 0 ∧ t.rd (CH_SHST_HOACT n) = 0
  source : t.rd (CH_SHST_ASRC n) = if s.slotKind n a = 3 then 1 else 0
  value  : s.slotKind n a = 1 ∨ s.slotKind n a = 2 →
    (s.topo n = 2 → (t.prot n).appRef = if s.slotKind n a = 1 then 0 else s.rd (CH_SLOT_VALUE n a) % 4096) ∧
    (s.topo n ≠ 2 → (t.prot n).appDuty = if s.slotKind n a = 1 then 0 else s.rd (CH_SLOT_VALUE n a))
theorem pend_not_set (hn : n < 192) : ∀ g ∈ setFields n ++ startFields, (CH_SHST_PEND n).key ≠ g.key := by
  intro g hg
  rcases List.mem_append.1 hg with hg | hg
  · simp only [setFields, applFields, proofFields, List.mem_append, List.mem_cons, List.not_mem_nil, or_false] at hg
    rcases hg with (rfl | rfl | rfl | rfl | rfl) | (rfl | rfl | rfl | rfl) | rfl | rfl | rfl <;>
    · simp only [Fld.key, CH_SHST_PEND, CH_SHST_ASRC, CH_SHST_ACLOOP, CH_SHST_HOACT, CH_STAT_LARM, CH_LREM_TICKS, CH_PVER_EXPLIT, CW_CVER_CVER, CH_PVER_STATE, CH_APPL_VALUE, CH_SHST_CLAMP, CH_SHST_DIS,
        chAddr, cwAddr, ne_eq]
      omega
  · exact channel_not_start (by simp [CH_SHST_PEND]) (by simp only [CH_SHST_PEND, chAddr]; omega) g hg
theorem slotTaken_pend : (s.slotTaken n a).rd (CH_SHST_PEND n) = 0 := by
  have hkey : (CH_SHST_PEND n).key ≠ (CH_SHST_HOACT n).key := by simp [Fld.key, CH_SHST_PEND, CH_SHST_HOACT]
  exact (rd_put_ne hkey).trans (rd_put_same Nat.zero_lt_one)
theorem slotTaken_shadow : ∀ f ∈ [CH_SDUTY_DUTY n, CH_SREF_REF n, CH_SCTL_SRC n],
    (s.slotTaken n a).rd f = ((if s.on (CH_SHST_PEND n) then s.raiseFlag (CH_SHST_OVR n) else s).shadowSlot n (s.slotKind n a) (s.rd (CH_SLOT_VALUE n a))).rd f := by
  intro f hf
  have hkeys : f.key ≠ (CH_SHST_PEND n).key ∧ f.key ≠ (CH_SHST_HOACT n).key := by
    simp only [List.mem_cons, List.not_mem_nil, or_false] at hf
    rcases hf with rfl | rfl | rfl <;>
    · simp only [Fld.key, CH_SDUTY_DUTY, CH_SREF_REF, CH_SCTL_SRC, CH_SHST_PEND, CH_SHST_HOACT]
      omega
  have hvalue : (if s.on (CH_SHST_PEND n) then s.raiseFlag (CH_SHST_OVR n) else s).rd (CH_SLOT_VALUE n a) = s.rd (CH_SLOT_VALUE n a) := by
    split
    · refine rd_raiseFlag_ne ?_
      simp only [Fld.key, CH_SLOT_VALUE, CH_SHST_OVR, ne_eq]
      omega
    · rfl
  unfold slotTaken
  extract_lets u
  rw [rd_put_ne hkeys.2, rd_put_ne hkeys.1, hvalue]
theorem slotKind_lt : s.slotKind n a < 4 := by
  unfold slotKind
  split
  · exact rd_lt (f := CH_SLOT_KIND n a)
  · decide
theorem loadSlot_loaded (hn : n < 192) (hk : s.slotKind n a ≠ 0) (hr : s.rd (CH_STAT_RHOLD n) = 0) (hf : s.rd (CH_STAT_FROZEN n) = 0) : Loaded s (s.loadSlot n a) n a := by
  have hhold : (s.slotTaken n a).on (CH_STAT_RHOLD n) = false ∧ (s.slotTaken n a).on (CH_STAT_FROZEN n) = false := by
    simp only [on, slotTaken_fields _ (not_loaded (f := CH_STAT_RHOLD n) (p := (0x002, 3)) ⟨rfl, by decide, by decide⟩ (by decide)), hr,
      slotTaken_fields _ (not_loaded (f := CH_STAT_FROZEN n) (p := (0x002, 8)) ⟨rfl, by decide, by decide⟩ (by decide)), hf]
    decide
  have heq : s.loadSlot n a = ((s.slotTaken n a).installSet n ((s.slotTaken n a).switchSet n)).updExp n := by
    rw [loadSlot_eq, if_neg hk, applyOrDefer, if_neg (by simp [hhold])]
  have hi : Installed (s.slotTaken n a) ((s.slotTaken n a).installSet n ((s.slotTaken n a).switchSet n)) n ((s.slotTaken n a).switchSet n) := installSet_installed hn rfl
  rw [heq]
  generalize (s.slotTaken n a).installSet n ((s.slotTaken n a).switchSet n) = u at hi
  have hexp : ∀ f ∈ [CH_SHST_PEND n, CH_SHST_HOACT n, CH_SHST_ASRC n], (u.updExp n).rd f = u.rd f := by
    intro f hf
    refine updExp_fields _ fun g hg => ?_
    simp only [List.mem_cons, List.not_mem_nil, or_false] at hf
    simp only [proofFields, List.mem_cons, List.not_mem_nil, or_false] at hg
    rcases hf with rfl | rfl | rfl <;> rcases hg with rfl | rfl | rfl <;>
    · simp only [Fld.key, CH_SHST_PEND, CH_SHST_HOACT, CH_SHST_ASRC, CH_PVER_EXPLIT, CW_CVER_CVER, CH_PVER_STATE, chAddr, cwAddr, ne_eq]
      omega
  have hshadow := slotTaken_shadow (s := s) (n := n) (a := a)
  have hkl := slotKind_lt (s := s) (n := n) (a := a)
  have htopo : (if s.on (CH_SHST_PEND n) then s.raiseFlag (CH_SHST_OVR n) else s).topo n = s.topo n := by
    split
    · refine rd_raiseFlag_ne ?_
      simp only [Fld.key, CH_CFG_TOPO, CH_SHST_OVR, chAddr, ne_eq]
      omega
    · rfl
  generalize (if s.on (CH_SHST_PEND n) then s.raiseFlag (CH_SHST_OVR n) else s) = w at hshadow htopo
  refine ⟨⟨?_, ?_⟩, ?_, fun hkind => ?_⟩
  · rw [hexp _ (by simp), hi.fields _ (pend_not_set hn), slotTaken_pend]
  · rw [hexp _ (by simp), hi.noHand]
  · rw [hexp _ (by simp), hi.source]
    simp only [switchSet]
    rw [hshadow _ (by simp), shadowSlot_source hkl hk]
    split
    · rfl
    · rfl
  · obtain ⟨href, hduty⟩ := shadowSlot_value (s := w) (n := n) (v := s.rd (CH_SLOT_VALUE n a)) hkind (rd_lt (f := CH_SLOT_VALUE n a))
    rw [updExp_prot, hi.values.1, hi.values.2]
    simp only [switchSet]
    rw [hshadow _ (by simp), hshadow _ (by simp)]
    rw [htopo] at href hduty
    exact ⟨href, hduty⟩
end State
end Sys2Proof.Machine
end

section
/-! The switch of a group to an aspect (R141): what each of its steps leaves as it was, and the slots that the channels take. -/
namespace Sys2Proof.Machine
open Sys2Proof.Safety

namespace State
variable {s t u : State} {n m a g k d q : Nat} {l : List Fld}

/-! ### What an operation on each number of a list establishes -/

/-- What the operation of one number establishes, where the others keep it, holds at the end. -/
theorem each_establishes {w : List Nat} {op : State → Nat → State} {I Q : State → Prop} (hI : ∀ t x, x ∈ w → I t → I (op t x)) (hQ : ∀ t, I t → Q (op t n))
    (hkeep : ∀ t x, x ∈ w → x ≠ n → Q t → Q (op t x)) (hn : n ∈ w) (h : I s) : Q (s.each w op) := by
  have keeps : ∀ (r : List Nat) (t : State), (∀ x ∈ r, x ∈ w) → I t → Q t → Q (t.each r op) := by
    intro r
    induction r with
    | nil => exact fun t _ _ ht => ht
    | cons x r ih =>
      intro t hr hit ht
      rw [each_cons]
      refine ih _ (fun y hy => hr y (List.mem_cons_of_mem _ hy)) (hI t x (hr x List.mem_cons_self) hit) ?_
      by_cases hx : x = n
      · rw [hx]
        exact hQ t hit
      · exact hkeep t x (hr x List.mem_cons_self) hx ht
  have reach : ∀ (r : List Nat) (t : State), (∀ x ∈ r, x ∈ w) → n ∈ r → I t → Q (t.each r op) := by
    intro r
    induction r with
    | nil => exact fun t _ hn => absurd hn List.not_mem_nil
    | cons x r ih =>
      intro t hr hn hit
      rw [each_cons]
      have hi := hI t x (hr x List.mem_cons_self) hit
      have hrest : ∀ y ∈ r, y ∈ w := fun y hy => hr y (List.mem_cons_of_mem _ hy)
      rcases List.mem_cons.1 hn with rfl | hn
      · exact keeps r _ hrest hi (hQ t hit)
      · exact ih _ hrest hn hi
  exact reach w s (fun _ hx => hx) hn h

/-! ### The steps of a switch -/

/-- The fields of a sequencer that its start writes. -/
def carFields (d q : Nat) : List Fld := [CAR_STAT_STATE d q, CAR_STAT_ERR d q, CAR_STAT_DEPTH d q, CAR_PC_VALUE d q] ++ (List.range 8).map (CAR_TRK_VALUE d q)
/-- The fields that the steps of a switch write, but for SN_AGACT. -/
def switchFields : List Fld := channels.flatMap loadFields ++ startFields ++ (List.range 12).flatMap fun i => carFields (i / 3) (i % 3)

theorem load_switch (hn : n < 192) : ∀ f ∈ loadFields n ++ startFields, f ∈ switchFields := by
  intro f hf
  refine List.mem_append_left _ ?_
  rcases List.mem_append.1 hf with hf | hf
  · exact List.mem_append_left _ (List.mem_flatMap.2 ⟨n, List.mem_range.2 hn, hf⟩)
  · exact List.mem_append_right _ hf
theorem set_load : ∀ f ∈ setFields n, f ∈ loadFields n := fun f hf => by simp [loadFields, hf]
theorem appl_load : ∀ f ∈ applFields n, f ∈ loadFields n := fun f hf => set_load f (by simp [setFields, hf])
theorem start_switch : ∀ f ∈ startFields, f ∈ switchFields := fun _ hf => List.mem_append_left _ (List.mem_append_right _ hf)

theorem primeSeq_fields : FieldsKept (carFields d q) s (s.primeSeq d q) := by
  unfold primeSeq setPc setStack
  extract_lets u v
  have hv : FieldsKept (carFields d q) s v :=
    .wr (by simp [carFields]) (.modSeqr (.wr (by simp [carFields]) (.wr (by simp [carFields]) (.modSeqr .refl))))
  have ht : FieldsKept (carFields d q) v (v.each (List.range 8) fun t k => t.wr (CAR_TRK_VALUE d q k) 0) :=
    .each fun _ k hk => .wr (List.mem_append_right _ (List.mem_map_of_mem hk)) .refl
  exact .wr (by simp [carFields]) (.modSeqr (hv.trans ht))
theorem switchAside_primeSeq : switchAside (s.primeSeq d q) = switchAside s := by
  unfold primeSeq setPc setStack
  extract_lets u v
  have hv : switchAside v = switchAside s := by
    unfold v u
    rw [switchAside_wr, switchAside_modSeqr, switchAside_wr, switchAside_wr, switchAside_modSeqr]
  clear_value v
  rw [switchAside_wr, switchAside_modSeqr, each_same switchAside fun _ _ _ => switchAside_wr, hv]
theorem applyOrDefer_fields {v : Shadow} (hn : n < 192) (hv : v.sw = true) : FieldsKept (setFields n ++ startFields) s (s.applyOrDefer n v) :=
  .ite (.modProt .refl) (installSet_installed hn hv).fields
theorem applyOrDefer_others {v : Shadow} (hn : n < 192) (hv : v.sw = true) (hm : m ≠ n) : (s.applyOrDefer n v).prot m = s.prot m := by
  unfold applyOrDefer
  split
  · rw [prot_modProt, if_neg hm]
  · exact (installSet_installed hn hv).others m hm
theorem switchAside_applyOrDefer {v : Shadow} (hn : n < 192) (hv : v.sw = true) : switchAside (s.applyOrDefer n v) = switchAside s :=
  switchAside_ite switchAside_modProt (installSet_installed hn hv).rest
theorem loadSlot_fields (hn : n < 192) : FieldsKept (loadFields n ++ startFields) s (s.loadSlot n a) := by
  rw [loadSlot_eq]
  refine .ite (reclamp_fields.mono fun f hf => List.mem_append_left _ (appl_load f hf)) ?_
  have htaken : FieldsKept (loadFields n ++ startFields) s (s.slotTaken n a) := slotTaken_fields.mono fun f hf => List.mem_append_left _ hf
  have happly : FieldsKept (loadFields n ++ startFields) (s.slotTaken n a) ((s.slotTaken n a).applyOrDefer n ((s.slotTaken n a).switchSet n)) :=
    (applyOrDefer_fields hn rfl).mono fun f hf => (List.mem_append.1 hf).elim (fun h => List.mem_append_left _ (set_load f h)) (List.mem_append_right _)
  exact (htaken.trans happly).trans (updExp_appl.mono fun f hf => List.mem_append_left _ (appl_load f hf))
theorem loadSlot_others (hn : n < 192) (hm : m ≠ n) : (s.loadSlot n a).prot m = s.prot m := by
  rw [loadSlot_eq]
  split
  · exact reclamp_prot.2 m hm
  · rw [updExp_prot, applyOrDefer_others hn rfl hm, slotTaken_prot]
theorem switchAside_loadSlot (hn : n < 192) : switchAside (s.loadSlot n a) = switchAside s := by
  rw [loadSlot_eq]
  refine switchAside_ite switchAside_reclamp ?_
  rw [switchAside_updExp, switchAside_applyOrDefer hn rfl, switchAside_slotTaken]
theorem startLit_fields : FieldsKept startFields s (s.startLit u n) := .ite startRouted_fields .refl
theorem startLit_prot : (s.startLit u n).prot m = s.prot m := by
  unfold startLit
  split
  · exact startRouted_prot
  · rfl
theorem switchAside_startLit : switchAside (s.startLit u n) = switchAside s := switchAside_ite switchAside_startRouted rfl
/-- A channel follows its track. -/
theorem follow_fields : FieldsKept (applFields n ++ startFields) s ((s.reclamp n).startLit s n) :=
  (reclamp_fields.mono fun _ hf => List.mem_append_left _ hf).trans (startLit_fields.mono fun _ hf => List.mem_append_right _ hf)
theorem follow_values : (((s.reclamp n).startLit s n).prot m).appDuty = (s.prot m).appDuty ∧ (((s.reclamp n).startLit s n).prot m).appRef = (s.prot m).appRef := by
  rw [startLit_prot]
  exact values_of_unclamped (reclamp_prot.1 m)
theorem seqRefusal_cases (P : State → Prop) (h0 : P s) (h1 : ∀ n, n < 192 → P (s.budgetRefusal n)) (hd : d < 4) : P (s.seqRefusal d q) := by
  unfold seqRefusal
  split
  · next n hfind =>
    have hmem := List.mem_of_find?_eq_some hfind
    refine h1 n ?_
    simp only [dieChannels, List.mem_map, List.mem_range] at hmem
    omega
  · exact h0
theorem budgetRefusal_fields : FieldsKept (loadFields n) s (s.budgetRefusal n) := .report (.raiseFlag (by simp [loadFields]) .refl)
theorem switchAside_budgetRefusal : switchAside (s.budgetRefusal n) = switchAside s := rfl

/-! ### What a channel's slot brings stays as the switch goes on -/

/-- What the load of a slot gives channel n. -/
def slotView (s : State) (n : Nat) : Nat × Nat × Nat × Nat × Nat :=
  (s.rd (CH_SHST_PEND n), s.rd (CH_SHST_HOACT n), s.rd (CH_SHST_ASRC n), (s.prot n).appDuty, (s.prot n).appRef)
theorem slotView_eq (hf : ∀ f ∈ [CH_SHST_PEND n, CH_SHST_HOACT n, CH_SHST_ASRC n], t.rd f = s.rd f)
    (hp : (t.prot n).appDuty = (s.prot n).appDuty ∧ (t.prot n).appRef = (s.prot n).appRef) : t.slotView n = s.slotView n := by
  simp only [slotView, hf _ (List.mem_cons_self), hf (CH_SHST_HOACT n) (by simp), hf (CH_SHST_ASRC n) (by simp), hp.1, hp.2]
theorem Loaded.of_view (h : Loaded s t n a) (hv : u.slotView n = t.slotView n) : Loaded s u n a := by
  simp only [slotView, Prod.mk.injEq] at hv
  obtain ⟨hpend, hho, hsrc, hduty, href⟩ := hv
  exact ⟨⟨hpend.trans h.taken.1, hho.trans h.taken.2⟩, hsrc.trans h.source, fun hk => ⟨fun ht => href.trans ((h.value hk).1 ht), fun ht => hduty.trans ((h.value hk).2 ht)⟩⟩
theorem view_places : ∀ f ∈ [CH_SHST_PEND n, CH_SHST_HOACT n, CH_SHST_ASRC n], ∃ p ∈ loadPlaces, AtPlace f n p ∧ p ∈ [(0x205, 0), (0x205, 4), (0x205, 5)] := by
  intro f hf
  simp only [List.mem_cons, List.not_mem_nil, or_false] at hf
  rcases hf with rfl | rfl | rfl
  · exact ⟨(0x205, 0), by decide, ⟨rfl, by decide, by decide⟩, by decide⟩
  · exact ⟨(0x205, 4), by decide, ⟨rfl, by decide, by decide⟩, by decide⟩
  · exact ⟨(0x205, 5), by decide, ⟨rfl, by decide, by decide⟩, by decide⟩
theorem place_not_start {f : Fld} {p : Nat × Nat} (hn : n < 192) (hf : AtPlace f n p) : ∀ g ∈ startFields, f.key ≠ g.key := by
  intro g hg
  simp only [startFields, List.mem_append, List.mem_flatMap, List.mem_map, List.mem_range, List.mem_cons, List.not_mem_nil, or_false] at hg
  obtain ⟨off, lo⟩ := p
  obtain ⟨hfk, hoff, hlo⟩ := hf
  rw [hfk]
  simp only [chAddr] at hoff hlo ⊢
  rcases hg with ⟨k, hk, rfl | rfl | rfl⟩ | ⟨k, hk, rfl⟩ <;>
  · simp only [Fld.key, PWR_CST_STATE, PWR_CST_FREQA, PWR_CST_CAUSE, SN_FNST_WAITRUN, ne_eq]
    omega
theorem slotView_loadSlot (hn : n < 192) (hm : m < 192) (hne : m ≠ n) : (s.loadSlot m a).slotView n = s.slotView n := by
  refine slotView_eq (fun f hf => loadSlot_fields hm f fun g hg hkey => ?_) (by rw [loadSlot_others hm hne.symm]; exact ⟨rfl, rfl⟩)
  obtain ⟨p, -, hp, -⟩ := view_places f hf
  rcases List.mem_append.1 hg with hg | hg
  · obtain rfl | ⟨p', -, hp'⟩ := load_places g hg
    · exact place_not_window hp hkey
    · exact other_channel hp hp' hne hkey
  · exact place_not_start hn hp g hg hkey
/-- The places that an applied value writes. -/
theorem appl_places : ∀ g ∈ applFields m, g = CW_CVER_CVER m ∨ ∃ p, AtPlace g m p ∧ p ∉ [(0x205, 0), (0x205, 4), (0x205, 5)] := by
  intro g hg
  simp only [applFields, proofFields, List.mem_append, List.mem_cons, List.not_mem_nil, or_false] at hg
  rcases hg with (rfl | rfl | rfl | rfl) | rfl | rfl | rfl
  case inr.inr.inl => exact .inl rfl
  all_goals
    refine .inr ⟨(_, _), ⟨rfl, ?_, ?_⟩, ?_⟩ <;>
    simp [CH_PVER_EXPLIT, CH_PVER_STATE, CH_APPL_VALUE, CH_SHST_CLAMP, CH_SHST_DIS, CH_SHST_ACLOOP]
theorem slotView_follow (hn : n < 192) : ((s.reclamp m).startLit s m).slotView n = s.slotView n := by
  refine slotView_eq (fun f hf => follow_fields f fun g hg hkey => ?_) follow_values
  obtain ⟨p, -, hp, hlist⟩ := view_places f hf
  rcases List.mem_append.1 hg with hg | hg
  · obtain rfl | ⟨p', hp', hout⟩ := appl_places g hg
    · exact place_not_window hp hkey
    · exact hout (place_unique hp hp' hkey ▸ hlist)
  · exact place_not_start hn hp g hg hkey
theorem slotView_startRouted {src cause : Nat} (hn : n < 192) : (s.startRouted src cause).slotView n = s.slotView n := by
  refine slotView_eq (fun f hf => startRouted_fields f fun g hg => ?_) (by rw [startRouted_prot]; exact ⟨rfl, rfl⟩)
  obtain ⟨p, -, hp, -⟩ := view_places f hf
  exact place_not_start hn hp g hg
theorem slotView_budgetRefusal : (s.budgetRefusal m).slotView n = s.slotView n := by
  refine slotView_eq (fun f hf => ?_) ⟨rfl, rfl⟩
  obtain ⟨p, -, hp, hlist⟩ := view_places f hf
  have hkept : FieldsKept [CH_FLT_GBUD m] s (s.budgetRefusal m) := .report (.raiseFlag (by simp) .refl)
  refine hkept f fun g hg hkey => ?_
  obtain rfl := List.mem_singleton.1 hg
  have hp' : AtPlace (CH_FLT_GBUD m) m (0x003, 8) := ⟨rfl, by decide, by decide⟩
  exact absurd (place_unique hp hp' hkey ▸ hlist) (by decide)
end State
end Sys2Proof.Machine
end

section
/-! The switch of a group to an aspect (R141), as a whole. -/
namespace Sys2Proof.Machine
open Sys2Proof.Safety

namespace State
variable {s t u : State} {n m a g k d q : Nat} {l : List Nat}

/-! ### What a switch does not write -/

theorem car_addr {i : Nat} : ∀ f ∈ carFields (i / 3) (i % 3), f.lo < 256 ∧ ∃ j, j < 16 ∧ f.addr = 0xC00000 + i / 3 * 0x40000 + 0x10000 + i % 3 * 0x100 + j := by
  intro f hf
  simp only [carFields, List.mem_append, List.mem_cons, List.not_mem_nil, or_false, List.mem_map, List.mem_range] at hf
  rcases hf with (rfl | rfl | rfl | rfl) | ⟨j, hj, rfl⟩
  · exact ⟨by simp [CAR_STAT_STATE], 0x02, by decide, rfl⟩
  · exact ⟨by simp [CAR_STAT_ERR], 0x02, by decide, rfl⟩
  · exact ⟨by simp [CAR_STAT_DEPTH], 0x02, by decide, rfl⟩
  · exact ⟨by simp [CAR_PC_VALUE], 0x03, by decide, rfl⟩
  · exact ⟨by simp [CAR_TRK_VALUE], 0x08 + j, by omega, by simp only [CAR_TRK_VALUE, carAddr]; omega⟩
/-- A field at another place of a channel's block than those of a load is kept by every step of a switch. -/
theorem place_not_switch {f : Fld} {p : Nat × Nat} (hn : n < 192) (hf : AtPlace f n p) (hp : p ∉ loadPlaces) : ∀ g ∈ switchFields, f.key ≠ g.key := by
  intro g hg
  rcases List.mem_append.1 hg with hg | hg
  · rcases List.mem_append.1 hg with hg | hg
    · obtain ⟨m, -, hg⟩ := List.mem_flatMap.1 hg
      exact not_loaded hf hp g hg
    · exact place_not_start hn hf g hg
  · obtain ⟨i, hi, hg⟩ := List.mem_flatMap.1 hg
    obtain ⟨hlo, j, hj, haddr⟩ := car_addr g hg
    obtain ⟨off, lo⟩ := p
    obtain ⟨hfk, hoff, hlo'⟩ := hf
    rw [hfk, Fld.key, haddr]
    simp only [chAddr] at hoff hlo' ⊢
    omega
/-- So is a field of the Safety Net's groups and aspects. -/
theorem net_not_switch {f : Fld} (hlo : f.lo < 256) (haddr : 0xD10000 ≤ f.addr ∧ f.addr < 0xD129C0) : ∀ g ∈ switchFields, f.key ≠ g.key := by
  intro g hg
  rcases List.mem_append.1 hg with hg | hg
  · rcases List.mem_append.1 hg with hg | hg
    · obtain ⟨m, hm, hg⟩ := List.mem_flatMap.1 hg
      have hm := List.mem_range.1 hm
      rw [Fld.key]
      obtain rfl | ⟨p, -, hk, hoff, hlo'⟩ := load_places g hg
      · simp only [Fld.key, CW_CVER_CVER, cwAddr]
        omega
      · rw [hk]
        simp only [chAddr]
        omega
    · simp only [startFields, List.mem_append, List.mem_flatMap, List.mem_map, List.mem_range, List.mem_cons, List.not_mem_nil, or_false] at hg
      rcases hg with ⟨k, hk, rfl | rfl | rfl⟩ | ⟨k, hk, rfl⟩ <;>
      · simp only [Fld.key, PWR_CST_STATE, PWR_CST_FREQA, PWR_CST_CAUSE, SN_FNST_WAITRUN, ne_eq]
        omega
  · obtain ⟨i, hi, hg⟩ := List.mem_flatMap.1 hg
    have hi := List.mem_range.1 hi
    obtain ⟨hlo', j, hj, hga⟩ := car_addr g hg
    rw [Fld.key, Fld.key, hga]
    omega

/-- What a load of the slot of channel n for aspect a reads. -/
def slotGiven (s : State) (n a : Nat) : Nat × Nat × Nat × Nat × Nat :=
  (s.slotKind n a, s.topo n, s.rd (CH_SLOT_VALUE n a), s.rd (CH_STAT_RHOLD n), s.rd (CH_STAT_FROZEN n))
theorem slotGiven_kept {w : List Fld} (h : FieldsKept w s t) (hp : ∀ f p, AtPlace f n p → p ∉ loadPlaces → ∀ g ∈ w, f.key ≠ g.key) (ha : a < 64)
    (hgrp : ∀ g ∈ w, (SN_ASP_GROUP a).key ≠ g.key) : t.slotGiven n a = s.slotGiven n a := by
  have at' : ∀ f p, AtPlace f n p → p ∉ loadPlaces → t.rd f = s.rd f := fun f p hf hpl => h f (hp f p hf hpl)
  have hslot : ∀ lo, (0x280 + 2 * a, lo) ∉ loadPlaces := fun lo => by
    simp only [loadPlaces, List.mem_cons, Prod.mk.injEq, List.not_mem_nil, or_false]
    omega
  have hgen : t.rd (CH_AGRP_GEN n) = s.rd (CH_AGRP_GEN n) := at' _ (0x208, 4) ⟨rfl, by decide, by decide⟩ (by decide)
  have hnum : t.rd (CH_AGRP_GRP n) = s.rd (CH_AGRP_GRP n) := at' _ (0x208, 0) ⟨rfl, by decide, by decide⟩ (by decide)
  have htopo : t.topo n = s.topo n := at' _ (0x000, 0) ⟨rfl, by decide, by decide⟩ (by decide)
  have hval : t.rd (CH_SLOT_VALUE n a) = s.rd (CH_SLOT_VALUE n a) := at' _ (0x280 + 2 * a, 0) ⟨by simp only [Fld.key, CH_SLOT_VALUE]; omega, by simp only; omega, by simp⟩ (hslot 0)
  have hkind : t.rd (CH_SLOT_KIND n a) = s.rd (CH_SLOT_KIND n a) := at' _ (0x280 + 2 * a, 16) ⟨by simp only [Fld.key, CH_SLOT_KIND]; omega, by simp only; omega, by simp⟩ (hslot 16)
  have hrh : t.rd (CH_STAT_RHOLD n) = s.rd (CH_STAT_RHOLD n) := at' _ (0x002, 3) ⟨rfl, by decide, by decide⟩ (by decide)
  have hfz : t.rd (CH_STAT_FROZEN n) = s.rd (CH_STAT_FROZEN n) := at' _ (0x002, 8) ⟨rfl, by decide, by decide⟩ (by decide)
  have hasp := h _ hgrp
  have hslotKind : t.slotKind n a = s.slotKind n a := if_congr (by rw [on, on, hgen, hnum, hasp]) hkind rfl
  simp only [slotGiven, hslotKind, htopo, hval, hrh, hfz]
theorem slotGiven_switch (h : FieldsKept switchFields s t) (hn : n < 192) (ha : a < 64) : t.slotGiven n a = s.slotGiven n a :=
  slotGiven_kept h (fun _ _ hf hp => place_not_switch hn hf hp) ha (net_not_switch (by simp [SN_ASP_GROUP]) (by simp only [SN_ASP_GROUP]; omega))
theorem Loaded.of_given (h : Loaded u t n a) (hg : u.slotGiven n a = s.slotGiven n a) : Loaded s t n a := by
  simp only [slotGiven, Prod.mk.injEq] at hg
  obtain ⟨hkind, htopo, hval, -, -⟩ := hg
  obtain ⟨htaken, hsrc, hvalue⟩ := h
  rw [hkind] at hsrc hvalue
  rw [htopo, hval] at hvalue
  exact ⟨htaken, hsrc, hvalue⟩

/-! ### The channels load their slots -/

theorem mem_groupChannels : n ∈ s.groupChannels g ↔ n < 192 ∧ s.on (CH_AGRP_GEN n) = true ∧ s.rd (CH_AGRP_GRP n) = g := by
  simp [groupChannels, channels]
theorem primed_fields (hl : ∀ i ∈ l, i < 12) : FieldsKept switchFields s (s.each l fun t i => t.primeSeq (i / 3) (i % 3)) :=
  .each fun _ i hi => primeSeq_fields.mono fun _ hf => List.mem_append_right _ (List.mem_flatMap.2 ⟨i, List.mem_range.2 (hl i hi), hf⟩)
theorem loads_fields : FieldsKept switchFields t (t.each (s.groupChannels g) fun t n => t.loadSlot n a) :=
  .each fun _ _ hn => (loadSlot_fields (mem_groupChannels.1 hn).1).mono (load_switch (mem_groupChannels.1 hn).1)
theorem startAndLoad_fields (hl : ∀ i ∈ l, i < 12) : FieldsKept switchFields s (s.startAndLoad g a l) := (primed_fields hl).trans loads_fields
theorem switchAside_startAndLoad : switchAside (s.startAndLoad g a l) = switchAside s := by
  unfold startAndLoad
  rw [each_same switchAside fun _ _ hn => switchAside_loadSlot (mem_groupChannels.1 hn).1, each_same switchAside fun _ _ _ => switchAside_primeSeq]
theorem startAndLoad_loaded (hl : ∀ i ∈ l, i < 12) (ha : a < 64) (hn : n ∈ s.groupChannels g) (hk : s.slotKind n a ≠ 0) (hr : s.rd (CH_STAT_RHOLD n) = 0)
    (hf : s.rd (CH_STAT_FROZEN n) = 0) : Loaded s (s.startAndLoad g a l) n a := by
  have hlt := (mem_groupChannels.1 hn).1
  refine each_establishes (w := s.groupChannels g) (n := n) (I := fun t => t.slotGiven n a = s.slotGiven n a) (Q := fun t => Loaded s t n a) ?_ ?_ ?_ hn ?_
  · intro t x hx ht
    exact (slotGiven_switch ((loadSlot_fields (mem_groupChannels.1 hx).1).mono (load_switch (mem_groupChannels.1 hx).1)) hlt ha).trans ht
  · intro t ht
    have hgiven := ht
    simp only [slotGiven, Prod.mk.injEq] at hgiven
    obtain ⟨hkind, -, -, hrh, hfz⟩ := hgiven
    exact (loadSlot_loaded hlt (hkind ▸ hk) (hrh.trans hr) (hfz.trans hf)).of_given ht
  · intro t x hx hne ht
    exact ht.of_view (slotView_loadSlot hlt (mem_groupChannels.1 hx).1 hne)
  · exact slotGiven_switch (primed_fields hl) hlt ha
theorem carStarts_lt : (∀ i ∈ (s.carStarts g a).1, i < 12) ∧ ∀ i ∈ (s.carStarts g a).2, i < 12 := by
  unfold carStarts
  extract_lets w v ok
  have hw : ∀ i ∈ w, i < 12 := fun i hi => List.mem_range.1 (List.mem_filter.1 hi).1
  split
  · exact ⟨fun i hi => absurd hi List.not_mem_nil, fun i hi => absurd hi List.not_mem_nil⟩
  · exact ⟨fun i hi => hw i (List.mem_filter.1 hi).1, fun i hi => hw i (List.mem_filter.1 hi).1⟩

/-! ### The switch -/

theorem trackChanged_fields (hd : d < 4) : FieldsKept switchFields s (s.trackChanged d q k) := by
  refine .each fun t n hn => follow_fields.mono fun f hf => load_switch (n := n) ?_ f ?_
  · have hmem := (List.mem_filter.1 hn).1
    simp only [dieChannels, List.mem_map, List.mem_range] at hmem
    omega
  · exact (List.mem_append.1 hf).elim (fun h => List.mem_append_left _ (appl_load f h)) (List.mem_append_right _)
theorem tracksChanged_fields (hd : d < 4) : FieldsKept switchFields s (s.tracksChanged d q) := .each fun _ _ _ => trackChanged_fields hd
theorem switchAside_tracksChanged : switchAside (s.tracksChanged d q) = switchAside s :=
  each_same switchAside fun _ _ _ => each_same switchAside fun _ _ _ => switchAside_startLit.trans switchAside_reclamp
theorem slotView_tracksChanged (hn : n < 192) : (s.tracksChanged d q).slotView n = s.slotView n :=
  each_same (fun t => t.slotView n) fun _ _ _ => each_same (fun t => t.slotView n) fun _ _ _ => slotView_follow hn
theorem seqRefusal_fields (hd : d < 4) : FieldsKept switchFields s (s.seqRefusal d q) :=
  seqRefusal_cases (FieldsKept switchFields s) .refl (fun _ hn => budgetRefusal_fields.mono fun f hf => load_switch hn f (List.mem_append_left _ hf)) hd
theorem switchAside_seqRefusal (hd : d < 4) : switchAside (s.seqRefusal d q) = switchAside s :=
  seqRefusal_cases (fun t => switchAside t = switchAside s) rfl (fun _ _ => switchAside_budgetRefusal) hd
theorem slotView_seqRefusal (hd : d < 4) : (s.seqRefusal d q).slotView n = s.slotView n :=
  seqRefusal_cases (fun t => t.slotView n = s.slotView n) rfl (fun _ _ => slotView_budgetRefusal) hd

/-- Group g shows aspect a and has forgotten the errors of the one before. -/
def showAspect (s : State) (g a : Nat) : State :=
  (((s.wr (SN_AGACT_ASP g) a).put (SN_AGACT_VALID g) true).wr (SN_AGACT_SAFE g) (s.rd (SN_ASP_SAFE a))).modGroup g fun x =>
    { x with erred := false, degOver := false, provenAt := none }
/-- The sequencers and the channels of group g follow aspect a. -/
def bringAspect (s : State) (g a : Nat) : State :=
  let c := s.carStarts g a
  ((((s.startAndLoad g a c.1).each c.2 fun t i => t.seqRefusal (i / 3) (i % 3))).each c.1 fun t i => t.tracksChanged (i / 3) (i % 3)).wakeForAspect a
theorem bringAspect_fields : FieldsKept switchFields s (s.bringAspect g a) := by
  obtain ⟨hstart, hrefuse⟩ := carStarts_lt (s := s) (g := g) (a := a)
  unfold bringAspect wakeForAspect
  extract_lets c
  have h1 : FieldsKept switchFields s (s.startAndLoad g a c.1) := startAndLoad_fields hstart
  have h2 := h1.trans (FieldsKept.each (o := c.2) (op := fun t i => t.seqRefusal (i / 3) (i % 3)) fun t i hi => seqRefusal_fields (s := t) (by have := hrefuse i hi; omega))
  have h3 := h2.trans (FieldsKept.each (o := c.1) (op := fun t i => t.tracksChanged (i / 3) (i % 3)) fun t i hi => tracksChanged_fields (s := t) (by have := hstart i hi; omega))
  exact .ite (h3.trans (startRouted_fields.mono start_switch)) h3
theorem switchAside_bringAspect : switchAside (s.bringAspect g a) = switchAside s := by
  obtain ⟨hstart, hrefuse⟩ := carStarts_lt (s := s) (g := g) (a := a)
  unfold bringAspect wakeForAspect
  extract_lets c
  have h1 : switchAside (s.startAndLoad g a c.1) = switchAside s := switchAside_startAndLoad
  have h2 := (each_same (s := s.startAndLoad g a c.1) (l := c.2) (op := fun t i => t.seqRefusal (i / 3) (i % 3)) switchAside fun t i hi => switchAside_seqRefusal (by have := hrefuse i hi; omega)).trans h1
  have h3 := (each_same (l := c.1) (op := fun t i => t.tracksChanged (i / 3) (i % 3)) switchAside fun t i _ => switchAside_tracksChanged).trans h2
  exact switchAside_ite (switchAside_startRouted.trans h3) h3
theorem bringAspect_loaded (ha : a < 64) (hn : n ∈ s.groupChannels g) (hk : s.slotKind n a ≠ 0) (hr : s.rd (CH_STAT_RHOLD n) = 0) (hf : s.rd (CH_STAT_FROZEN n) = 0) :
    Loaded s (s.bringAspect g a) n a := by
  have hlt := (mem_groupChannels.1 hn).1
  obtain ⟨hstart, hrefuse⟩ := carStarts_lt (s := s) (g := g) (a := a)
  unfold bringAspect wakeForAspect
  extract_lets c
  have h1 : Loaded s (s.startAndLoad g a c.1) n a := startAndLoad_loaded hstart ha hn hk hr hf
  have h2 := h1.of_view (each_same (l := c.2) (op := fun t i => t.seqRefusal (i / 3) (i % 3)) (fun t => t.slotView n) fun t i hi => slotView_seqRefusal (by have := hrefuse i hi; omega))
  have h3 := h2.of_view (each_same (l := c.1) (op := fun t i => t.tracksChanged (i / 3) (i % 3)) (fun t => t.slotView n) fun t i _ => slotView_tracksChanged hlt)
  split
  · exact h3.of_view (slotView_startRouted hlt)
  · exact h3
end State
end Sys2Proof.Machine
end

section
/-! A demand that installs an aspect in its group (R146, R462), and the reaction by substitution (R186). -/
namespace Sys2Proof.Machine
open Sys2Proof.Safety

namespace State
variable {s t u : State} {n m a g k d q : Nat}

/-- Below the registers of the groups' requests every field is as it was. -/
def LowKept (s t : State) : Prop := ∀ f : Fld, f.addr < 0xD12100 → f.lo < 256 → t.rd f = s.rd f
theorem LowKept.refl : LowKept s s := fun _ _ _ => rfl
theorem LowKept.trans (h : LowKept s t) (h' : LowKept t u) : LowKept s u := fun f ha hl => (h' f ha hl).trans (h f ha hl)
theorem LowKept.wr {f : Fld} {v : Nat} (hf : 0xD12100 ≤ f.addr) (h : LowKept s t) : LowKept s (t.wr f v) := fun g ha hl => by
  refine (rd_wr_ne ?_).trans (h g ha hl)
  simp only [Fld.key, ne_eq]
  omega
theorem LowKept.put {f : Fld} {b : Bool} (hf : 0xD12100 ≤ f.addr) (h : LowKept s t) : LowKept s (t.put f b) := h.wr hf
theorem LowKept.hwWrite {f : Fld} {v : Nat} (hf : 0xD12100 ≤ f.addr) (h : LowKept s t) : LowKept s (t.hwWrite f v) := h.wr hf
theorem LowKept.slotGiven (h : LowKept s t) (hn : n < 192) (ha : a < 64) : t.slotGiven n a = s.slotGiven n a := by
  have hc : ∀ off, off < 0x400 → chAddr n + off < 0xD12100 := fun off ho => by
    simp only [chAddr]
    omega
  have hgen : t.rd (CH_AGRP_GEN n) = s.rd (CH_AGRP_GEN n) := h _ (hc _ (by decide)) (by simp [CH_AGRP_GEN])
  have hnum : t.rd (CH_AGRP_GRP n) = s.rd (CH_AGRP_GRP n) := h _ (hc _ (by decide)) (by simp [CH_AGRP_GRP])
  have htopo : t.topo n = s.topo n := h _ (hc _ (by decide)) (by simp [CH_CFG_TOPO])
  have hval : t.rd (CH_SLOT_VALUE n a) = s.rd (CH_SLOT_VALUE n a) := h _ (by simp only [CH_SLOT_VALUE, chAddr]; omega) (by simp [CH_SLOT_VALUE])
  have hkind : t.rd (CH_SLOT_KIND n a) = s.rd (CH_SLOT_KIND n a) := h _ (by simp only [CH_SLOT_KIND, chAddr]; omega) (by simp [CH_SLOT_KIND])
  have hrh : t.rd (CH_STAT_RHOLD n) = s.rd (CH_STAT_RHOLD n) := h _ (hc _ (by decide)) (by simp [CH_STAT_RHOLD])
  have hfz : t.rd (CH_STAT_FROZEN n) = s.rd (CH_STAT_FROZEN n) := h _ (hc _ (by decide)) (by simp [CH_STAT_FROZEN])
  have hasp : t.rd (SN_ASP_GROUP a) = s.rd (SN_ASP_GROUP a) := h _ (by simp only [SN_ASP_GROUP]; omega) (by simp [SN_ASP_GROUP])
  have hslotKind : t.slotKind n a = s.slotKind n a := if_congr (by rw [on, on, hgen, hnum, hasp]) hkind rfl
  simp only [State.slotGiven, hslotKind, htopo, hval, hrh, hfz]
theorem LowKept.group (h : LowKept s t) (hn : n ∈ s.groupChannels g) : n ∈ t.groupChannels g := by
  obtain ⟨hlt, hgen, hgrp⟩ := mem_groupChannels.1 hn
  have hc : ∀ off, off < 0x400 → chAddr n + off < 0xD12100 := fun off ho => by
    simp only [chAddr]
    omega
  refine mem_groupChannels.2 ⟨hlt, ?_, ?_⟩
  · rw [on, h _ (hc _ (by decide)) (by simp [CH_AGRP_GEN])]
    exact hgen
  · rw [h _ (hc _ (by decide)) (by simp [CH_AGRP_GRP]), hgrp]

/-! ### A re-entry that a demand aborts -/

theorem raise_low {l : Nat} : LowKept s (s.raise q l) := fun f ha hl => raise_fields f fun g hg => by
  obtain rfl := List.mem_singleton.1 hg
  simp only [Fld.key, PWR_IPEND_LINES, ne_eq]
  omega
theorem switchAside_raiseBit {f : Fld} {i : Nat} : switchAside (s.raiseBit f i) = switchAside s := rfl
theorem switchAside_hwWrite {f : Fld} {v : Nat} : switchAside (s.hwWrite f v) = switchAside s := rfl
theorem raise_aside {l : Nat} : switchAside (s.raise q l) = switchAside s := switchAside_ite rfl switchAside_raiseBit
theorem raisePair_low : LowKept s s.raisePair := by
  unfold raisePair
  split
  · split
    · exact raise_low
    · exact .refl
  · exact .refl
theorem raisePair_aside : switchAside s.raisePair = switchAside s := by
  unfold raisePair
  split
  · exact switchAside_ite raise_aside rfl
  · rfl
theorem abortReentry_low : LowKept s s.abortReentry := by
  unfold abortReentry
  refine LowKept.trans ?_ raisePair_low
  intro f ha hl
  rw [report_rd, rd_wr_ne]
  · rfl
  · simp only [Fld.key, MIR_XSTAT_REF, ne_eq]
    omega
theorem abortReentry_aside : switchAside s.abortReentry = switchAside s := by
  unfold abortReentry
  rw [raisePair_aside, switchAside_report, switchAside_wr]
  rfl

/-! ### The demand -/

/-- Group g is under demand, and its pending request is cleared (R146). -/
def underDemand (s : State) (g : Nat) : State :=
  ((if s.pair.instant.isSome ∧ s.splitGroup g then s.abortReentry else s).put (SN_AGACT_DEMAND g) true).hwWrite (SN_AGREQ_REQV g) 0
theorem demandAspect_eq : s.demandAspect a = ((s.underDemand (s.rd (SN_ASP_GROUP a))).showAspect (s.rd (SN_ASP_GROUP a)) a).bringAspect (s.rd (SN_ASP_GROUP a)) a := rfl
theorem underDemand_low : LowKept s (s.underDemand g) := by
  unfold underDemand
  refine .hwWrite (by simp [SN_AGREQ_REQV]) (.put (by simp only [SN_AGACT_DEMAND]; omega) ?_)
  split
  · exact abortReentry_low
  · exact .refl
theorem underDemand_aside : switchAside (s.underDemand g) = switchAside s := by
  unfold underDemand
  have h : switchAside (if s.pair.instant.isSome ∧ s.splitGroup g then s.abortReentry else s) = switchAside s := switchAside_ite abortReentry_aside rfl
  rw [switchAside_hwWrite, switchAside_put, h]
theorem showAspect_low : LowKept s (s.showAspect g a) :=
  .wr (by simp only [SN_AGACT_SAFE]; omega) (.put (by simp only [SN_AGACT_VALID]; omega) (.wr (by simp only [SN_AGACT_ASP]; omega) .refl))
theorem showAspect_regs (ha : a < 64) : (s.showAspect g a).rd (SN_AGACT_ASP g) = a ∧ (s.showAspect g a).rd (SN_AGACT_VALID g) = 1 ∧ (s.showAspect g a).rd (SN_AGACT_SAFE g) = s.rd (SN_ASP_SAFE a) ∧
    (s.showAspect g a).rd (SN_AGACT_DEMAND g) = s.rd (SN_AGACT_DEMAND g) ∧ (s.showAspect g a).rd (SN_AGREQ_REQV g) = s.rd (SN_AGREQ_REQV g) := by
  have hav : (SN_AGACT_ASP g).key ≠ (SN_AGACT_VALID g).key ∧ (SN_AGACT_ASP g).key ≠ (SN_AGACT_SAFE g).key ∧ (SN_AGACT_VALID g).key ≠ (SN_AGACT_SAFE g).key := by
    simp only [Fld.key, SN_AGACT_ASP, SN_AGACT_VALID, SN_AGACT_SAFE]
    omega
  obtain ⟨hkv, hks, hvs⟩ := hav
  have hother : ∀ f : Fld, f.key ≠ (SN_AGACT_ASP g).key → f.key ≠ (SN_AGACT_VALID g).key → f.key ≠ (SN_AGACT_SAFE g).key → (s.showAspect g a).rd f = s.rd f := fun f h1 h2 h3 => by
    rw [showAspect, modGroup_rd, rd_wr_ne h3, rd_put_ne h2, rd_wr_ne h1]
  refine ⟨?_, ?_, ?_, hother _ ?_ ?_ ?_, hother _ ?_ ?_ ?_⟩
  · rw [showAspect, modGroup_rd, rd_wr_ne hks, rd_put_ne hkv, rd_wr_same]
    exact Nat.mod_eq_of_lt ha
  · rw [showAspect, modGroup_rd, rd_wr_ne hvs, rd_put_same Nat.zero_lt_one]
    rfl
  · rw [showAspect, modGroup_rd, rd_wr_same]
    exact Nat.mod_eq_of_lt (rd_lt (f := SN_ASP_SAFE a))
  all_goals
    simp only [Fld.key, SN_AGACT_DEMAND, SN_AGREQ_REQV, SN_AGACT_ASP, SN_AGACT_VALID, SN_AGACT_SAFE, ne_eq]
    omega
theorem underDemand_regs : (s.underDemand g).rd (SN_AGACT_DEMAND g) = 1 ∧ (s.underDemand g).rd (SN_AGREQ_REQV g) = 0 := by
  have hkey : (SN_AGACT_DEMAND g).key ≠ (SN_AGREQ_REQV g).key := by
    simp only [Fld.key, SN_AGACT_DEMAND, SN_AGREQ_REQV, ne_eq]
    omega
  constructor
  · rw [underDemand, hwWrite, mark_rd, rd_wr_ne hkey, rd_put_same Nat.zero_lt_one]
    rfl
  · rw [underDemand, hwWrite, mark_rd, rd_wr_same]
    rfl
/-- R146: the group of aspect a is under demand, has switched to it, and has no request pending. -/
theorem demandAspect_switched (ha : a < 64) (hg : s.rd (SN_ASP_GROUP a) = g) (hlt : g < 16) :
    Switched s (s.demandAspect a) g a ∧ (s.demandAspect a).rd (SN_AGACT_DEMAND g) = 1 ∧ (s.demandAspect a).rd (SN_AGREQ_REQV g) = 0 := by
  rw [demandAspect_eq, hg]
  have hlow := (underDemand_low (s := s) (g := g)).trans (showAspect_low (g := g) (a := a))
  obtain ⟨hasp, hvalid, hsafe, hdemand, hreq⟩ := showAspect_regs (s := s.underDemand g) (g := g) ha
  obtain ⟨hd, hr⟩ := underDemand_regs (s := s) (g := g)
  have hsafe' : (s.underDemand g).rd (SN_ASP_SAFE a) = s.rd (SN_ASP_SAFE a) := underDemand_low _ (by simp only [SN_ASP_SAFE]; omega) (by simp [SN_ASP_SAFE])
  generalize (s.underDemand g).showAspect g a = u at hlow hasp hvalid hsafe hdemand hreq
  have hnet : ∀ f : Fld, f.lo < 256 → 0xD10000 ≤ f.addr ∧ f.addr < 0xD129C0 → (u.bringAspect g a).rd f = u.rd f := fun f hlo haddr => bringAspect_fields f (net_not_switch hlo haddr)
  refine ⟨⟨?_, ?_, ?_, fun n hn hgen hgrp hag hrh hfz => ?_⟩, ?_, ?_⟩
  · rw [hnet _ (by simp [SN_AGACT_ASP]) (by simp only [SN_AGACT_ASP]; omega), hasp]
  · rw [hnet _ (by simp [SN_AGACT_VALID]) (by simp only [SN_AGACT_VALID]; omega), hvalid]
  · rw [hnet _ (by simp [SN_AGACT_SAFE]) (by simp only [SN_AGACT_SAFE]; omega), hsafe, hsafe']
  · have hmem : n ∈ u.groupChannels g := hlow.group (mem_groupChannels.2 ⟨hn, by simp [on, hgen], hgrp⟩)
    have hgiven := hlow.slotGiven hn ha
    have hkind : s.slotKind n a = s.rd (CH_SLOT_KIND n a) := if_pos ⟨by simp [on, hgen], by rw [hag, hgrp]⟩
    have hload : s.rd (CH_SLOT_KIND n a) ≠ 0 → Loaded s (u.bringAspect g a) n a := fun hk => by
      have hg' := hgiven
      simp only [slotGiven, Prod.mk.injEq] at hg'
      obtain ⟨hk', -, -, hrh', hfz'⟩ := hg'
      exact (bringAspect_loaded ha hmem (by rw [hk', hkind]; exact hk) (hrh'.trans hrh) (hfz'.trans hfz)).of_given hgiven
    refine ⟨fun hk => (hload hk).taken, fun hk => ?_, fun hk => ?_, fun hk => ?_⟩
    · have h := hload (by rw [hk]; decide)
      obtain ⟨href, hduty⟩ := h.value (.inl (hkind.trans hk))
      refine ⟨by rw [h.source, hkind, hk]; rfl, ?_⟩
      split
      · next ht => rw [href ht, hkind, if_pos hk]
      · next ht => rw [hduty ht, hkind, if_pos hk]
    · have h := hload (by rw [hk]; decide)
      obtain ⟨href, hduty⟩ := h.value (.inr (hkind.trans hk))
      refine ⟨by rw [h.source, hkind, hk]; rfl, ?_⟩
      split
      · next ht => rw [href ht, hkind, if_neg (by rw [hk]; decide)]
      · next ht => rw [hduty ht, hkind, if_neg (by rw [hk]; decide)]
    · rw [(hload (by rw [hk]; decide)).source, hkind, if_pos hk]
  · rw [hnet _ (by simp [SN_AGACT_DEMAND]) (by simp only [SN_AGACT_DEMAND]; omega), hdemand, hd]
  · rw [hnet _ (by simp [SN_AGREQ_REQV]) (by simp only [SN_AGREQ_REQV]; omega), hreq, hr]
theorem switchAside_modGroup {f : Group → Group} : switchAside (s.modGroup g f) = (switchAside s).modGroup g f := rfl
/-- The group forgets the errors of the aspect before (R186). -/
def newAspect (x : Group) : Group := { x with erred := false, degOver := false, provenAt := none }
theorem switchAside_showAspect : switchAside (s.showAspect g a) = (switchAside s).modGroup g newAspect := by
  rw [showAspect, switchAside_modGroup, switchAside_wr, switchAside_put, switchAside_wr]
  rfl
/-- A demand keeps what an aspect switch does not concern, but for the memory of the group's errors. -/
theorem demandAspect_aside : switchAside (s.demandAspect a) = switchAside (s.modGroup (s.rd (SN_ASP_GROUP a)) newAspect) := by
  rw [demandAspect_eq, switchAside_bringAspect, switchAside_showAspect, underDemand_aside, switchAside_modGroup]
end State
end Sys2Proof.Machine
end

section
/-! The reaction of a group to an error of its aspect (R186), and the end of the degraded duration (R187). -/
namespace Sys2Proof.Machine
open Sys2Proof.Safety

namespace State
variable {s t u : State} {n m a ev b : Nat} {g : Fin 16} {rest : List (Nat × Nat)}

/-- Substitution: the group is under demand of the event, and takes the substitute. -/
def substitute (s : State) (g ev b : Nat) : State := (s.modGroup g fun x => { x with demandSub := some ev }).demandAspect b
/-- The aspect is noted as failed. -/
def noteFailed (s : State) (a : Nat) : State := s.modSio fun x => { x with lampFail := if x.lampFail.contains a then x.lampFail else a :: x.lampFail }
/-- The oldest reaction of the group is taken. -/
def reactTaken (s : State) (g : Nat) (rest : List (Nat × Nat)) : State := s.modGroup g fun x => { x with react := rest }

theorem aspectReaction_none (h : (s.group g).react = []) : execAspectReaction g s = .next s := by
  rw [execAspectReaction, h]
theorem aspectReaction_eq (h : (s.group g).react = (a, ev) :: rest) : execAspectReaction g s = .next (
    match s.rd (SN_APRF_REACT a) with
    | 1 => if s.rd (SN_ASP_GROUP (s.rd (SN_APRF_SUBST a))) = g.val then (s.reactTaken g rest).substitute g ev (s.rd (SN_APRF_SUBST a)) else s.reactTaken g rest
    | 2 => (s.reactTaken g rest).setLatches ((s.reactTaken g rest).members a) 1 (some ev)
    | 3 => if s.rd (SN_ASP_GROUP (s.rd (SN_APRF_SUBST a))) = g.val then ((s.reactTaken g rest).noteFailed a).substitute g ev (s.rd (SN_APRF_SUBST a)) else (s.reactTaken g rest).noteFailed a
    | _ => s.reactTaken g rest) := by
  rw [execAspectReaction, h]
  rfl
theorem reactTaken_group {x : Nat} : (s.reactTaken g rest).group x = if x = g.val then { s.group g with react := rest } else s.group x := by
  rw [reactTaken, group_modGroup]
theorem reactTaken_rest : { s.reactTaken g rest with groups := s.groups } = s := rfl

/-- What a substitution gives, in a state with the registers of `s`. -/
theorem substitute_switched (hb : b < 64) (hreg : ∀ f, u.rd f = s.rd f) (hg : s.rd (SN_ASP_GROUP b) = g) :
    Switched s (u.substitute g ev b) g b ∧ (u.substitute g ev b).rd (SN_AGACT_DEMAND g) = 1 ∧ (u.substitute g ev b).rd (SN_AGREQ_REQV g) = 0 := by
  have h := demandAspect_switched (s := u.modGroup g fun x => { x with demandSub := some ev }) (g := g) hb ((hreg _).trans hg) g.isLt
  obtain ⟨⟨hasp, hvalid, hsafe, hch⟩, hd, hr⟩ := h
  simp only [modGroup_rd, hreg] at hsafe hch
  exact ⟨⟨hasp, hvalid, hsafe, hch⟩, hd, hr⟩
theorem switchAside_group : (switchAside s).group n = s.group n := rfl
theorem group_of_aside (h : switchAside t = switchAside s) : t.group n = s.group n := by
  rw [← switchAside_group, h, switchAside_group]
theorem aside_part {α : Type} (P : State → α) (hP : ∀ x : State, P (switchAside x) = P x) (h : switchAside t = switchAside s) : P t = P s := by
  rw [← hP t, h, hP]
theorem kept_of_aside (h : switchAside t = switchAside s) : MemoriesKept s t ∧ t.sio = s.sio ∧ t.cores = s.cores :=
  ⟨⟨aside_part State.mem (fun _ => rfl) h, aside_part State.flash (fun _ => rfl) h, aside_part State.otp (fun _ => rfl) h⟩, aside_part State.sio (fun _ => rfl) h,
    aside_part State.cores (fun _ => rfl) h⟩
theorem substitute_rest (hg : u.rd (SN_ASP_GROUP b) = g) :
    ((u.substitute g ev b).group g).demandSub = some ev ∧ ((u.substitute g ev b).group g).react = (u.group g).react ∧ MemoriesKept u (u.substitute g ev b) ∧ (u.substitute g ev b).sio = u.sio ∧
      (u.substitute g ev b).cores = u.cores := by
  have h := demandAspect_aside (s := u.modGroup g fun x => { x with demandSub := some ev }) (a := b)
  have hgroup := group_of_aside (n := g) h
  obtain ⟨hmem, hsio, hcores⟩ := kept_of_aside h
  rw [modGroup_rd, hg, group_modGroup, if_pos rfl, group_modGroup, if_pos rfl] at hgroup
  refine ⟨?_, ?_, hmem, hsio, hcores⟩
  · rw [substitute, hgroup]
    rfl
  · rw [substitute, hgroup]
    rfl

/-! ### The reaction that latches -/

theorem chanless_groups {w : SMap Group} {c : Coll} : chanless { t with groups := w, coll := c } = { chanlessColl t with groups := w, coll := c } := rfl
theorem reactTaken_chanless : ({ chanlessColl (s.reactTaken g rest) with groups := s.groups, coll := s.coll } : State) = chanless s := rfl
theorem latchReaction_rest {l : List Nat} {cause : Nat} {e : Option Nat} :
    chanless { (s.reactTaken g rest).setLatches l cause e with groups := s.groups, coll := s.coll } = chanless s := by
  rw [chanless_groups, chanlessColl_setLatches, reactTaken_chanless]
theorem chanlessColl_kept (h : chanlessColl t = chanlessColl s) : MemoriesKept s t ∧ t.groups = s.groups := by
  have part : ∀ {α : Type} (P : State → α), (∀ x : State, P (chanlessColl x) = P x) → P t = P s := fun P hP => by rw [← hP t, h, hP]
  exact ⟨⟨part State.mem fun _ => rfl, part State.flash fun _ => rfl, part State.otp fun _ => rfl⟩, part State.groups fun _ => rfl⟩

/-! ### The degraded duration (R187) -/

theorem degradedOver_due {t0 : Nat} (hdeg : s.rd SPT_DEG_OPTDEG = 1) (hreq : s.rd (SN_APRF_OPTREQ (s.rd (SN_AGACT_ASP g))) = 1) (hvalid : s.rd (SN_AGACT_VALID g) = 1)
    (hstate : s.rd (SN_AGVER_STATE g) = 2) (hsince : (s.group g).degSince = some t0) (hover : t0 + n < s.time) :
    s.degradedOver g n = (((s.wr (SN_AGVER_STATE g) 3).modGroup g fun x => { x with degOver := true, erred := true }).fresh).reportError g (s.rd (SN_AGACT_ASP g)) (Config.freeValue s.free).toNat := by
  rw [degradedOver, if_pos]
  simp [on, hdeg, hreq, hvalid, hstate, hsince, hover]
end State
end Sys2Proof.Machine
end

section
/-! Optical degradation and the optical inputs (R158, R173, R174, R183). -/
namespace Sys2Proof.Machine
open Sys2Proof.Safety

theorem exec_opticalDegraded {s : State} {b : BitVec 32} : exec (.opticalDegraded b) s = execOpticalDegraded b s := rfl

namespace State
variable {s t u : State} {n m a i : Nat} {op : State → Nat → State} {l : List Nat}

theorem each_invariant {I : State → Prop} (hI : ∀ t x, x ∈ l → I t → I (op t x)) (h : I s) : I (s.each l op) := by
  induction l generalizing s with
  | nil => exact h
  | cons x r ih =>
    rw [each_cons]
    exact ih (fun t y hy => hI t y (List.mem_cons_of_mem _ hy)) (hI s x List.mem_cons_self h)
theorem each_id (h : ∀ x, x ∈ l → op s x = s) : s.each l op = s :=
  each_invariant (I := fun t => t = s) (fun t x hx ht => by rw [ht]; exact h x hx) rfl

/-! ### A hand-over (R154, R155) -/

/-- The fields that an applied value writes: those of `applFields` without the colour loop. -/
def valueFields (n : Nat) : List Fld := [CH_APPL_VALUE n, CH_SHST_CLAMP n, CH_SHST_DIS n] ++ proofFields n
theorem value_appl : ∀ f ∈ valueFields n, f ∈ applFields n := fun f hf => by
  simp only [valueFields, applFields, List.mem_append, List.mem_cons, List.not_mem_nil, or_false] at hf ⊢
  tauto
theorem setAppl_value {x : Nat} : FieldsKept (valueFields n) s (s.setAppl n x) := by
  unfold setAppl
  extract_lets y0 y1 y y2
  have h0 : FieldsKept (valueFields n) s y0 := clampDouble_fields.mono fun g hg => by simp [List.mem_singleton.1 hg, valueFields]
  have h2 : FieldsKept (valueFields n) s y2 :=
    .ite h0.modProt (.ite h0 ((FieldsKept.raiseFlag (by simp [valueFields]) h0.modProt).trans (modeDisagree_fields.mono fun g hg => by simp [List.mem_singleton.1 hg, valueFields])))
  clear_value y2
  exact ((h2.wr (by simp [valueFields])).trans seeRef_fields).trans (updExp_fields.mono fun g hg => List.mem_append_right _ hg)
theorem startHandOver_fields {y0 : Nat} : FieldsKept (CH_SHST_HOACT n :: valueFields n) s (s.startHandOver n y0) := by
  unfold startHandOver
  extract_lets tgt w d v
  have hv : FieldsKept (CH_SHST_HOACT n :: valueFields n) s v := .ite (modeDisagree_fields.mono fun g hg => by simp [List.mem_singleton.1 hg, valueFields]) .refl
  clear_value v
  exact (FieldsKept.put List.mem_cons_self (.modProt hv)).trans (setAppl_value.mono fun g hg => List.mem_cons_of_mem _ hg)
theorem hand_not_value : (∀ g ∈ valueFields m, (CH_SHST_HOACT n).key ≠ g.key) ∧ ∀ g ∈ CH_SHST_HOACT m :: valueFields m, (CH_SHST_ACLOOP n).key ≠ g.key := by
  constructor
  all_goals
    intro g hg
    simp only [valueFields, proofFields, List.mem_append, List.mem_cons, List.not_mem_nil, or_false] at hg
  · rcases hg with (rfl | rfl | rfl) | rfl | rfl | rfl <;>
    · simp only [Fld.key, CH_SHST_HOACT, CH_PVER_EXPLIT, CW_CVER_CVER, CH_PVER_STATE, CH_APPL_VALUE, CH_SHST_CLAMP, CH_SHST_DIS, ne_eq]
      omega
  · rcases hg with rfl | (rfl | rfl | rfl) | rfl | rfl | rfl <;>
    · simp only [Fld.key, CH_SHST_HOACT, CH_SHST_ACLOOP, CH_PVER_EXPLIT, CW_CVER_CVER, CH_PVER_STATE, CH_APPL_VALUE, CH_SHST_CLAMP, CH_SHST_DIS, ne_eq]
      omega
theorem startHandOver_hand {y0 : Nat} : (s.startHandOver n y0).rd (CH_SHST_HOACT n) = 1 := by
  unfold startHandOver
  extract_lets tgt w d v
  rw [setAppl_value _ hand_not_value.1, rd_put_same Nat.zero_lt_one]
  rfl
theorem startHandOver_prot {y0 : Nat} (hm : m ≠ n) : (s.startHandOver n y0).prot m = s.prot m := by
  unfold startHandOver
  extract_lets tgt w d v
  have hv : v.prot m = s.prot m := by
    unfold v
    split
    · exact modeDisagree_prot
    · rfl
  clear_value v
  rw [setAppl_prot.2 m hm, put_prot, prot_modProt, if_neg hm, hv]
theorem chanlessColl_startHandOver {y0 : Nat} : chanlessColl (s.startHandOver n y0) = chanlessColl s := by
  unfold startHandOver
  extract_lets tgt w d v
  have hv : chanlessColl v = chanlessColl s := chanlessColl_ite chanlessColl_modeDisagree rfl
  clear_value v
  rw [chanlessColl_setAppl]
  exact hv

/-! ### The declaration of optical degradation (R158, R183) -/

/-- The colour loop of channel n opens, by a hand-over to the slot's value; `k` is the topology that says where its value stands. -/
def openLoop (t : State) (k n : Nat) : State :=
  let v := match t.activeAspect n with | some a => t.rd (CH_SLOT_VALUE n a) | none => t.rd (CH_APPL_VALUE n)
  ((t.wr (CH_SHST_ACLOOP n) 0).modProt n fun p => if k = 2 then { p with appRef := v } else { p with appDuty := v }).startHandOver n (t.emitted n)
theorem declareOptDeg_eq (h : s.rd SPT_DEG_OPTDEG = 0) : s.declareOptDeg =
    ((s.put SPT_DEG_OPTDEG true).report clProof 0x380 2 12).each channels fun t n => if t.on (CH_SHST_ACLOOP n) then t.openLoop (((s.put SPT_DEG_OPTDEG true).report clProof 0x380 2 12).topo n) n else t := by
  unfold declareOptDeg
  rw [if_neg (by simp [on, h])]
  rfl
theorem declareOptDeg_declared (h : s.rd SPT_DEG_OPTDEG = 1) : s.declareOptDeg = s := if_pos (by simp [on, h])
theorem openLoop_fields {k : Nat} : FieldsKept (CH_SHST_ACLOOP n :: CH_SHST_HOACT n :: valueFields n) s (s.openLoop k n) := by
  unfold openLoop
  extract_lets v
  exact (FieldsKept.modProt (.wr List.mem_cons_self .refl)).trans (startHandOver_fields.mono fun _ hg => List.mem_cons_of_mem _ hg)
theorem openLoop_opens {k : Nat} : (s.openLoop k n).rd (CH_SHST_ACLOOP n) = 0 ∧ (s.openLoop k n).rd (CH_SHST_HOACT n) = 1 := by
  unfold openLoop
  extract_lets v
  refine ⟨?_, startHandOver_hand⟩
  rw [startHandOver_fields _ hand_not_value.2, modProt_rd, rd_wr_same]
  rfl
theorem openLoop_prot {k : Nat} (hm : m ≠ n) : (s.openLoop k n).prot m = s.prot m := by
  rw [openLoop, startHandOver_prot hm, prot_modProt, if_neg hm, wr_prot]
theorem chanlessColl_openLoop {k : Nat} : chanlessColl (s.openLoop k n) = chanlessColl s := by
  rw [openLoop, chanlessColl_startHandOver]
  rfl
theorem openLoop_other {k : Nat} (hm : n ≠ m) : (s.openLoop k n).rd (CH_SHST_ACLOOP m) = s.rd (CH_SHST_ACLOOP m) ∧ (s.openLoop k n).rd (CH_SHST_HOACT m) = s.rd (CH_SHST_HOACT m) := by
  have hne : ∀ f p, AtPlace f m p → ∀ g ∈ CH_SHST_ACLOOP n :: CH_SHST_HOACT n :: valueFields n, f.key ≠ g.key := by
    intro f p hf g hg hkey
    have hload : g ∈ loadFields n := by
      simp only [List.mem_cons] at hg
      rcases hg with rfl | rfl | hg
      · simp [loadFields, setFields]
      · simp [loadFields, setFields]
      · exact appl_load g (value_appl g hg)
    obtain rfl | ⟨q, -, hq⟩ := load_places g hload
    · exact place_not_window hf hkey
    · exact other_channel hf hq hm hkey
  exact ⟨openLoop_fields _ (hne _ (0x205, 6) ⟨rfl, by decide, by decide⟩), openLoop_fields _ (hne _ (0x205, 4) ⟨rfl, by decide, by decide⟩)⟩
end State
end Sys2Proof.Machine
end

section
/-! OPTICAL_DEGRADED (R183), and the optical inputs (R173, R174). -/
namespace Sys2Proof.Machine
open Sys2Proof.Safety
namespace State
variable {s t u : State} {n m i : Nat}

/-! ### OPTICAL_DEGRADED -/

/-- The inputs that failed their self-test are marked. -/
def markFaults (s : State) (b : BitVec 32) : State := s.each ((List.range 32).filter fun i => b.getLsbD i) fun t i => t.put (SPT_STAT_FAULT i) true
theorem markFaults_zero : s.markFaults 0 = s := by simp [markFaults, each]
theorem markFaults_fields {b : BitVec 32} : FieldsKept ((List.range 32).map SPT_STAT_FAULT) s (s.markFaults b) :=
  .each fun _ _ hi => .put (List.mem_map_of_mem (List.mem_filter.1 hi).1) .refl
theorem markFaults_rest {b : BitVec 32} : { s.markFaults b with regs := s.regs } = s :=
  each_same (fun t : State => ({ t with regs := s.regs } : State)) fun _ _ _ => rfl
theorem markFaults_rd {b : BitVec 32} (i : Fin 32) : (s.markFaults b).rd (SPT_STAT_FAULT i) = if b.getLsbD i then 1 else s.rd (SPT_STAT_FAULT i) := by
  have hkey : ∀ x, x ≠ i.val → (SPT_STAT_FAULT i).key ≠ (SPT_STAT_FAULT x).key := fun x hx => by
    simp only [Fld.key, SPT_STAT_FAULT, ne_eq]
    omega
  split
  · next hb =>
    exact each_establishes (n := i) (I := fun _ => True) (Q := fun t => t.rd (SPT_STAT_FAULT i) = 1) (fun _ _ _ _ => trivial) (fun _ _ => rd_put_same Nat.zero_lt_one)
      (fun _ x _ hx ht => (rd_put_ne (hkey x hx)).trans ht) (List.mem_filter.2 ⟨List.mem_range.2 i.isLt, hb⟩) trivial
  · next hb =>
    refine each_same (fun t => t.rd (SPT_STAT_FAULT i)) fun t x hx => rd_put_ne (hkey x fun h => hb ?_)
    rw [← h]
    exact (List.mem_filter.1 hx).2
theorem execOpticalDegraded_eq {b : BitVec 32} : ∃ late : Prop, ∃ _ : Decidable late, execOpticalDegraded b s =
    .next (if b ≠ 0 ∨ (s.oreqChannels ≠ [] ∧ ¬(s.markFaults b).on SPT_CTL_RUN) ∨ (s.optChannels ≠ [] ∧ late) then (s.markFaults b).declareOptDeg else s.markFaults b) :=
  ⟨_, _, rfl⟩
theorem markFaults_other {b : BitVec 32} {f : Fld} (h : ∀ i, i < 32 → f.key ≠ (SPT_STAT_FAULT i).key) : (s.markFaults b).rd f = s.rd f :=
  markFaults_fields f fun g hg => by
    obtain ⟨i, hi, rfl⟩ := List.mem_map.1 hg
    exact h i (List.mem_range.1 hi)
/-- What marking the inputs does not concern. -/
theorem markFaults_part {α : Type} {b : BitVec 32} (P : State → α) (hP : ∀ x : State, P { x with regs := s.regs } = P x) : P (s.markFaults b) = P s := by
  rw [← hP (s.markFaults b), markFaults_rest]
/-- The colour loops that are applied open. -/
def openLoops (s : State) (k : Nat → Nat) : State := s.each channels fun t n => if t.on (CH_SHST_ACLOOP n) then t.openLoop (k n) n else t
section
variable {k : Nat → Nat}
theorem openLoops_out {f : Fld} (hlo : f.lo < 256) (ha : 0xD20000 ≤ f.addr) : (s.openLoops k).rd f = s.rd f := by
  refine each_same (fun t => t.rd f) fun t n hn => ?_
  have hlt := List.mem_range.1 hn
  have hload : ∀ g ∈ loadFields n, f.key ≠ g.key := fun g hg hkey => by
    rw [Fld.key] at hkey
    obtain rfl | ⟨q, -, hk, hoff, hlo'⟩ := load_places g hg
    · simp only [Fld.key, CW_CVER_CVER, cwAddr] at hkey
      omega
    · rw [hk] at hkey
      simp only [chAddr] at hkey
      omega
  split
  · refine openLoop_fields f fun g hg => hload g ?_
    simp only [List.mem_cons] at hg
    rcases hg with rfl | rfl | hg
    · simp [loadFields, setFields]
    · simp [loadFields, setFields]
    · exact appl_load g (value_appl g hg)
  · rfl
theorem openLoops_none (h : ∀ n : Fin 192, s.rd (CH_SHST_ACLOOP n) = 0) : s.openLoops k = s :=
  each_id fun n hn => if_neg (by simp [on, h ⟨n, List.mem_range.1 hn⟩])
theorem chanlessColl_openLoops : chanlessColl (s.openLoops k) = chanlessColl s := each_same chanlessColl fun _ _ _ => chanlessColl_ite chanlessColl_openLoop rfl
theorem openLoops_closed (h : s.rd (CH_SHST_ACLOOP n) = 0) : (s.openLoops k).rd (CH_SHST_ACLOOP n) = 0 ∧ (s.openLoops k).prot n = s.prot n := by
  refine each_invariant (I := fun t => t.rd (CH_SHST_ACLOOP n) = 0 ∧ t.prot n = s.prot n) (fun t x _ ⟨hl, hp⟩ => ?_) ⟨h, rfl⟩
  split
  · next hon =>
    have hx : x ≠ n := by
      rintro rfl
      simp [on, hl] at hon
    exact ⟨(openLoop_other hx).1.trans hl, (openLoop_prot hx.symm).trans hp⟩
  · exact ⟨hl, hp⟩
theorem openLoops_open (hn : n < 192) (h : s.rd (CH_SHST_ACLOOP n) = 1) : (s.openLoops k).rd (CH_SHST_ACLOOP n) = 0 ∧ (s.openLoops k).rd (CH_SHST_HOACT n) = 1 := by
  have other : ∀ (t : State) x, x ≠ n → (if t.on (CH_SHST_ACLOOP x) then t.openLoop (k x) x else t).rd (CH_SHST_ACLOOP n) = t.rd (CH_SHST_ACLOOP n) ∧
      (if t.on (CH_SHST_ACLOOP x) then t.openLoop (k x) x else t).rd (CH_SHST_HOACT n) = t.rd (CH_SHST_HOACT n) := fun t x hx => by
    split
    · exact openLoop_other hx
    · exact ⟨rfl, rfl⟩
  have own : ∀ t : State, (t.rd (CH_SHST_ACLOOP n) = 1 ∨ t.rd (CH_SHST_ACLOOP n) = 0 ∧ t.rd (CH_SHST_HOACT n) = 1) →
      (if t.on (CH_SHST_ACLOOP n) then t.openLoop (k n) n else t).rd (CH_SHST_ACLOOP n) = 0 ∧ (if t.on (CH_SHST_ACLOOP n) then t.openLoop (k n) n else t).rd (CH_SHST_HOACT n) = 1 := by
    rintro t (h1 | ⟨h0, h1⟩)
    · rw [if_pos (by simp [on, h1])]
      exact openLoop_opens
    · rw [if_neg (by simp [on, h0])]
      exact ⟨h0, h1⟩
  refine each_establishes (n := n) (I := fun t => t.rd (CH_SHST_ACLOOP n) = 1 ∨ t.rd (CH_SHST_ACLOOP n) = 0 ∧ t.rd (CH_SHST_HOACT n) = 1)
    (Q := fun t => t.rd (CH_SHST_ACLOOP n) = 0 ∧ t.rd (CH_SHST_HOACT n) = 1) (fun t x _ ht => ?_) own (fun t x _ hx ht => ?_) (List.mem_range.2 hn) (.inl h)
  · by_cases hx : x = n
    · rw [hx]
      exact .inr (own t ht)
    · obtain ⟨hl, hh⟩ := other t x hx
      rw [hl, hh]
      exact ht
  · obtain ⟨hl, hh⟩ := other t x hx
    rw [hl, hh]
    exact ht
end
/-- What the declaration of optical degradation does (R158, R183). -/
theorem declareOptDeg_does (h : s.rd SPT_DEG_OPTDEG = 0) : s.declareOptDeg.rd SPT_DEG_OPTDEG = 1 ∧ (∀ i, s.declareOptDeg.rd (SPT_STAT_FAULT i) = s.rd (SPT_STAT_FAULT i)) ∧
    ((∀ n : Fin 192, s.rd (CH_SHST_ACLOOP n) = 0) → s.declareOptDeg.coll = (s.report clProof 0x380 2 12).coll) ∧ chanlessColl s.declareOptDeg = chanlessColl s ∧
    ∀ n : Fin 192, s.declareOptDeg.rd (CH_SHST_ACLOOP n) = 0 ∧ (s.rd (CH_SHST_ACLOOP n) = 1 → s.declareOptDeg.rd (CH_SHST_HOACT n) = 1) ∧
      (s.rd (CH_SHST_ACLOOP n) = 0 → s.declareOptDeg.prot n = s.prot n) := by
  have heq : s.declareOptDeg = ((s.put SPT_DEG_OPTDEG true).report clProof 0x380 2 12).openLoops ((s.put SPT_DEG_OPTDEG true).report clProof 0x380 2 12).topo := declareOptDeg_eq h
  have hreg : ∀ f : Fld, f.key ≠ SPT_DEG_OPTDEG.key → ((s.put SPT_DEG_OPTDEG true).report clProof 0x380 2 12).rd f = s.rd f := fun f hf => by rw [report_rd, rd_put_ne hf]
  have hloop : ∀ n : Fin 192, ((s.put SPT_DEG_OPTDEG true).report clProof 0x380 2 12).rd (CH_SHST_ACLOOP n) = s.rd (CH_SHST_ACLOOP n) := fun n => hreg _ (by
    simp only [Fld.key, CH_SHST_ACLOOP, SPT_DEG_OPTDEG, ne_eq]
    omega)
  rw [heq]
  refine ⟨?_, fun i => ?_, fun hnone => ?_, chanlessColl_openLoops, fun n => ?_⟩
  · rw [openLoops_out (by decide) (by decide), report_rd, rd_put_same Nat.zero_lt_one]
    rfl
  · rw [openLoops_out (by simp [SPT_STAT_FAULT]) (by simp only [SPT_STAT_FAULT]; omega)]
    refine hreg _ ?_
    simp only [Fld.key, SPT_STAT_FAULT, SPT_DEG_OPTDEG, ne_eq]
    omega
  · rw [openLoops_none fun n => (hloop n).trans (hnone n)]
    exact report_congr rfl rfl rfl
  · have hbit : s.rd (CH_SHST_ACLOOP n) = 0 ∨ s.rd (CH_SHST_ACLOOP n) = 1 := by
      have hlt : s.rd (CH_SHST_ACLOOP n) < 2 := rd_lt (f := CH_SHST_ACLOOP n)
      omega
    obtain h0 | h1 := hbit
    · obtain ⟨hl, hp⟩ := openLoops_closed (k := ((s.put SPT_DEG_OPTDEG true).report clProof 0x380 2 12).topo) ((hloop n).trans h0)
      exact ⟨hl, fun h => absurd (h0.symm.trans h) (by decide), fun _ => hp⟩
    · obtain ⟨hl, hh⟩ := openLoops_open (k := ((s.put SPT_DEG_OPTDEG true).report clProof 0x380 2 12).topo) n.isLt ((hloop n).trans h1)
      exact ⟨hl, fun _ => hh, fun h => absurd (h1.symm.trans h) (by decide)⟩
end State
end Sys2Proof.Machine
end

section
/-! The optical inputs: their configuration, saturation, the ranges and the samples (R173, R174). -/
namespace Sys2Proof.Machine
open Sys2Proof.Safety

theorem exec_inputRangeWrite {s : State} {r : Requester} {i : Fin 32} {w : Word} : exec (.inputRangeWrite r i w) s = .next (s.command r (SPT_INCFG i) w.toNat) := rfl
theorem exec_spotlightSaturation {s : State} {i : Fin 32} : exec (.spotlightSaturation i) s = execSpotlightSaturation i s := rfl
theorem exec_rangeStepDown {s : State} {i : Fin 32} : exec (.rangeStepDown i) s = execRangeStepDown i s := rfl

namespace State
variable {s t u : State} {n m i v fs : Nat} {r : Requester}

theorem command_incfg (h : Accepts s r (SPT_INCFG i) v) : s.command r (SPT_INCFG i) v = s.writeIncfg i v := command_accepts_one rfl h
theorem of_lt {f : Fld} : f.of v < 2 ^ f.width := Nat.mod_lt _ (Nat.two_pow_pos _)

/-! ### The configuration of an input -/

/-- The fields of an input's configuration with the value written. -/
def storeIncfg (s : State) (i v : Nat) : State :=
  (((s.wr (SPT_INCFG_FS i) ((SPT_INCFG_FS i).of v)).wr (SPT_INCFG_EN i) ((SPT_INCFG_EN i).of v)).wr (SPT_INCFG_AUTOR i) ((SPT_INCFG_AUTOR i).of v)).wr (SPT_INCFG_FILT i) ((SPT_INCFG_FILT i).of v)
/-- A full scale comes into force, under a range hold. -/
def takeScale (s : State) (i fs : Nat) : State :=
  ((s.wr (SPT_STAT_FSA i) fs).put (SPT_STAT_RHOLD i) true).modOptic i fun o => { o with holdAt := s.time, high := 0, sat := false }
theorem writeIncfg_eq : s.writeIncfg i v = if (SPT_INCFG_FS i).of v = s.rd (SPT_INCFG_FS i) then s.storeIncfg i v else (s.storeIncfg i v).takeScale i ((SPT_INCFG_FS i).of v) := by
  unfold writeIncfg
  extract_lets fs chg u
  by_cases h : fs = s.rd (SPT_INCFG_FS i)
  · rw [if_pos h, if_neg (by simp [chg, h])]
    rfl
  · rw [if_neg h, if_pos (by simp [chg, h])]
    rfl
theorem storeIncfg_rd : ∀ f ∈ (SPT_INCFG i).fields, (s.storeIncfg i v).rd f = f.of v := by
  have hkeys : (SPT_INCFG_FS i).key ≠ (SPT_INCFG_EN i).key ∧ (SPT_INCFG_FS i).key ≠ (SPT_INCFG_AUTOR i).key ∧ (SPT_INCFG_FS i).key ≠ (SPT_INCFG_FILT i).key ∧ (SPT_INCFG_EN i).key ≠ (SPT_INCFG_AUTOR i).key ∧
      (SPT_INCFG_EN i).key ≠ (SPT_INCFG_FILT i).key ∧ (SPT_INCFG_AUTOR i).key ≠ (SPT_INCFG_FILT i).key := by
    simp only [Fld.key, SPT_INCFG_FS, SPT_INCFG_EN, SPT_INCFG_AUTOR, SPT_INCFG_FILT]
    omega
  obtain ⟨h1, h2, h3, h4, h5, h6⟩ := hkeys
  intro f hf
  simp only [SPT_INCFG, List.mem_cons, List.not_mem_nil, or_false] at hf
  rcases hf with rfl | rfl | rfl | rfl
  · rw [storeIncfg, rd_wr_ne h3, rd_wr_ne h2, rd_wr_ne h1, rd_wr_same, Nat.mod_eq_of_lt of_lt]
  · rw [storeIncfg, rd_wr_ne h5, rd_wr_ne h4, rd_wr_same, Nat.mod_eq_of_lt of_lt]
  · rw [storeIncfg, rd_wr_ne h6, rd_wr_same, Nat.mod_eq_of_lt of_lt]
  · rw [storeIncfg, rd_wr_same, Nat.mod_eq_of_lt of_lt]
theorem storeIncfg_fields : FieldsKept (SPT_INCFG i).fields s (s.storeIncfg i v) := by
  unfold storeIncfg
  exact .wr (by simp [SPT_INCFG]) (.wr (by simp [SPT_INCFG]) (.wr (by simp [SPT_INCFG]) (.wr (by simp [SPT_INCFG]) .refl)))
/-- The state without its registers. -/
def bare (s : State) : State := { s with regs := [] }
theorem bare_wr {f : Fld} {x : Nat} : bare (s.wr f x) = bare s := rfl
theorem rest_of_bare (h : bare t = bare s) : { t with regs := s.regs } = s := congrArg (fun x : State => { x with regs := s.regs }) h
theorem bare_storeIncfg : bare (s.storeIncfg i v) = bare s := by rw [storeIncfg, bare_wr, bare_wr, bare_wr, bare_wr]
theorem storeIncfg_optic : (s.storeIncfg i v).optic n = s.optic n := by rw [storeIncfg, wr_optic, wr_optic, wr_optic, wr_optic]
theorem takeScale_fields : FieldsKept [SPT_STAT_FSA i, SPT_STAT_RHOLD i] s (s.takeScale i fs) := by
  unfold takeScale
  exact .modOptic (.put (by simp) (.wr (by simp) .refl))
theorem scale_hold_keys : (SPT_STAT_FSA i).key ≠ (SPT_STAT_RHOLD i).key := by simp [Fld.key, SPT_STAT_FSA, SPT_STAT_RHOLD]
theorem takeScale_rd (h : fs < 4) : (s.takeScale i fs).rd (SPT_STAT_FSA i) = fs ∧ (s.takeScale i fs).rd (SPT_STAT_RHOLD i) = 1 := by
  constructor
  · rw [takeScale, modOptic_rd, rd_put_ne scale_hold_keys, rd_wr_same]
    exact Nat.mod_eq_of_lt h
  · rw [takeScale, modOptic_rd, rd_put_same Nat.zero_lt_one]
    rfl
theorem takeScale_optic : (s.takeScale i fs).optic n = if n = i then { s.optic i with holdAt := s.time, high := 0, sat := false } else s.optic n := by
  rw [takeScale, optic_modOptic]
  rfl

/-! ### Saturation, and the range below -/

/-- R174: the input is saturated. -/
def saturate (s : State) (i : Nat) : State := ((s.raiseFlag (SPT_STAT_SAT i)).report clProof (0x340 + 2 * i) 1 13).modOptic i fun o => { o with sat := true, lowSince := none }
theorem saturation_none {i : Fin 32} (h : (s.optic i).high < 4 ∨ (s.optic i).sat = true) : execSpotlightSaturation i s = .next s := by
  rw [execSpotlightSaturation, if_neg]
  rcases h with h | h
  · omega
  · simp [h]
theorem saturation_eq {i : Fin 32} (hh : 4 ≤ (s.optic i).high) (hs : (s.optic i).sat = false) : execSpotlightSaturation i s =
    .next (if s.rd (SPT_INCFG_AUTOR i) = 1 ∧ s.rd (SPT_STAT_FSA i) < 3 then (s.saturate i).takeScale i (s.rd (SPT_STAT_FSA i) + 1) else s.saturate i) := by
  have hkeep : ∀ f : Fld, f.key ≠ (SPT_STAT_SAT i).key → (s.saturate i).rd f = s.rd f := fun f hf => rd_raiseFlag_ne hf
  have hauto : (s.saturate i).rd (SPT_INCFG_AUTOR i) = s.rd (SPT_INCFG_AUTOR i) := hkeep _ (by simp only [Fld.key, SPT_INCFG_AUTOR, SPT_STAT_SAT, ne_eq]; omega)
  have hfsa : (s.saturate i).rd (SPT_STAT_FSA i) = s.rd (SPT_STAT_FSA i) := hkeep _ (by simp only [Fld.key, SPT_STAT_FSA, SPT_STAT_SAT, ne_eq]; omega)
  have h : execSpotlightSaturation i s = .next (if (s.saturate i).on (SPT_INCFG_AUTOR i) = true ∧ (s.saturate i).rd (SPT_STAT_FSA i) < 3 then
      (s.saturate i).takeScale i ((s.saturate i).rd (SPT_STAT_FSA i) + 1) else s.saturate i) := by
    rw [execSpotlightSaturation, if_pos (by simp [hh, hs])]
    rfl
  rw [h, on_eq rfl, hauto, hfsa]
  simp only [decide_eq_true_eq]
theorem stepDown_none {i : Fin 32} (h : (s.optic i).lowSince = none) : execRangeStepDown i s = .next s := by
  rw [execRangeStepDown, h, if_neg]
  simp
theorem stepDown_eq {i : Fin 32} {t0 : Nat} (hl : (s.optic i).lowSince = some t0) (ht : t0 + 16000000 ≤ s.time) (ha : s.rd (SPT_INCFG_AUTOR i) = 1) (hf : s.rd (SPT_INCFG_FS i) < s.rd (SPT_STAT_FSA i)) :
    execRangeStepDown i s = .next (((s.wr (SPT_STAT_FSA i) (s.rd (SPT_STAT_FSA i) - 1)).put (SPT_STAT_RHOLD i) true).modOptic i fun o => { o with lowSince := none, holdAt := s.time, high := 0, sat := false }) := by
  have hdue : ((some t0).any fun t => decide (t + 16000000 ≤ s.time)) = true := by
    rw [Option.any_some, decide_eq_true_eq]
    exact ht
  have hauto : s.on (SPT_INCFG_AUTOR i) = true := by rw [on_eq rfl, ha, decide_eq_true rfl]
  rw [execRangeStepDown, hl, if_pos ⟨hauto, hf, hdue⟩]

end State
end Sys2Proof.Machine
end

section
/-! The samples of the optical inputs (R173, R193, R299). -/
namespace Sys2Proof.Machine
open Sys2Proof.Safety

theorem exec_spotlightSample {s : State} {i : Fin 32} {x : BitVec 16} {test : Bool} : exec (.spotlightSample i x test) s = execSpotlightSample i x test s := rfl

namespace State
variable {s t u : State} {n m i x k fs : Nat} {hold test low : Bool} {f : Fld} {g : Optic → Optic} {l : List Nat}

/-! ### The frame of an input's samples -/

/-- An input beside the samples of the frame under way. -/
def unframed (o : Optic) : Optic := { o with frame := [] }
theorem frame_of_unframed {o p : Optic} (h : unframed o = unframed p) : { o with frame := p.frame } = p := congrArg (fun x : Optic => { x with frame := p.frame }) h
/-- The state beside its registers, the inputs and the frames on their way. -/
def sampleAside (s : State) : State := { s with regs := [], optics := [], flight := [] }
theorem rest_of_sampleAside (h : sampleAside t = sampleAside s) : { t with regs := s.regs, optics := s.optics, flight := s.flight } = s :=
  congrArg (fun x : State => { x with regs := s.regs, optics := s.optics, flight := s.flight }) h
theorem sampleAside_wr {v : Nat} : sampleAside (s.wr f v) = sampleAside s := rfl
theorem sampleAside_put {b : Bool} : sampleAside (s.put f b) = sampleAside s := rfl
theorem sampleAside_modOptic : sampleAside (s.modOptic n g) = sampleAside s := rfl
/-- A record of a stream is on its way, where a RING takes it. -/
theorem sendStream_part {α : Type} (P : State → α) (hP : ∀ (x : State) w, P { x with flight := w } = P x) {st : Nat} : P (s.sendStream st l) = P s := by
  refine each_same P fun t x _ => ?_
  split
  · exact hP _ _
  · rfl
theorem frameSpot_part {α : Type} (P : State → α) (hP : ∀ (x : State) w, P { x with flight := w } = P x) (hO : ∀ (x : State) n, P (x.modOptic n fun o => { o with frame := [] }) = P x) : P s.frameSpot = P s := by
  unfold frameSpot
  extract_lets en
  split
  · exact (each_same P fun t n _ => hO t n).trans (sendStream_part P hP)
  · rfl
theorem frameSpot_rd : s.frameSpot.rd f = s.rd f := frameSpot_part (fun t => t.rd f) (fun _ _ => rfl) fun _ _ => modOptic_rd
theorem frameSpot_sampleAside : sampleAside s.frameSpot = sampleAside s := frameSpot_part sampleAside (fun _ _ => rfl) fun _ _ => sampleAside_modOptic
theorem frameSpot_optic : unframed (s.frameSpot.optic n) = unframed (s.optic n) := by
  refine frameSpot_part (fun t => unframed (t.optic n)) (fun _ _ => rfl) fun t x => ?_
  rw [optic_modOptic]
  split
  · next h =>
    rw [h]
    rfl
  · rfl

/-! ### A conversion -/

/-- The range hold of an input lasts. -/
def holding (s : State) (i : Nat) : Bool := s.on (SPT_STAT_RHOLD i) && decide (s.time < (s.optic i).holdAt + 128)
/-- The sample that is stored: the invalid code in a hold or a self-test. -/
def sampleOf (hold test : Bool) (x : Nat) : Nat := if hold ∨ test then 0xFFFF else min x 0xFFFE
/-- The valid samples of the last 1 ms, in picoamperes. -/
def recentOf (l : List Nat) (y fs : Nat) : List Nat :=
  let r := if y = 0xFFFF then l else l ++ [y * fullScale fs]
  r.drop (r.length - 4000)
/-- Their mean. -/
def ambOf (l : List Nat) : Nat := if l = [] then 0 else l.foldl (· + ·) 0 / (65536 * l.length)
/-- The ambient mean is below one eighth of the next smaller full scale. -/
def isLow (fs amb : Nat) : Bool := decide (0 < fs) && decide (8 * amb < fullScale (fs - 1))
/-- An input with the sample y stored. -/
def takeSample (time y : Nat) (r : List Nat) (low : Bool) (o : Optic) : Optic :=
  { o with frame := (o.frame ++ [y]).drop (o.frame.length - 2), high := if y ≠ 0xFFFF ∧ 0xFC00 ≤ y then o.high + 1 else 0,
           sat := o.sat && decide (0xFC00 ≤ y), last := y, recent := r, lowSince := if low then some (o.lowSince.getD time) else none }
/-- The hold of an input ends, where it does not last. -/
def endHold (s : State) (i : Nat) (hold : Bool) : State := if hold then s else s.put (SPT_STAT_RHOLD i) false
/-- The sample and the ambient mean are stored. -/
def storeSample (s : State) (i y : Nat) (r : List Nat) (low : Bool) : State := (s.modOptic i (takeSample s.time y r low)).wr (SPT_AMB_AMB i) (ambOf r)
theorem opticSample_eq {y : Nat} {r : List Nat} (hy : y = sampleOf (s.holding i) test x) (hr : r = recentOf (s.optic i).recent y (s.rd (SPT_STAT_FSA i))) :
    s.opticSample i x test = (s.endHold i (s.holding i)).storeSample i y r (isLow (s.rd (SPT_STAT_FSA i)) (ambOf r)) := by
  rw [hr, hy]
  rfl
theorem endHold_optic : (s.endHold i hold).optic n = s.optic n := by
  unfold endHold
  split
  · rfl
  · rfl
theorem endHold_sampleAside : sampleAside (s.endHold i hold) = sampleAside s := by
  unfold endHold
  split
  · rfl
  · exact sampleAside_put
theorem endHold_fields : FieldsKept [SPT_STAT_RHOLD i] s (s.endHold i hold) := by
  unfold endHold
  split
  · exact .refl
  · exact .put List.mem_cons_self .refl
theorem endHold_ended : (s.endHold i false).rd (SPT_STAT_RHOLD i) = 0 := rd_put_same (b := false) Nat.zero_lt_one
theorem storeSample_optic {y : Nat} : (s.storeSample i y l low).optic n = if n = i then takeSample s.time y l low (s.optic i) else s.optic n := by
  rw [storeSample, wr_optic, optic_modOptic]
theorem storeSample_sampleAside {y : Nat} : sampleAside (s.storeSample i y l low) = sampleAside s := by
  rw [storeSample, sampleAside_wr, sampleAside_modOptic]
theorem storeSample_fields {y : Nat} : FieldsKept [SPT_AMB_AMB i] s (s.storeSample i y l low) := .wr List.mem_cons_self (.modOptic .refl)
theorem storeSample_amb {y : Nat} : (s.storeSample i y l low).rd (SPT_AMB_AMB i) = ambOf l % 2 ^ 24 := by
  rw [storeSample, rd_wr_same]
  rfl

/-- What a conversion stores of input i (R173). -/
theorem sample_does {y : Nat} {r : List Nat} (hy : y = sampleOf (s.holding i) test x) (hr : r = recentOf (s.optic i).recent y (s.rd (SPT_STAT_FSA i))) : let t := (s.opticSample i x test).frameSpot
    (∃ low, unframed (t.optic i) = unframed (takeSample (s.endHold i (s.holding i)).time y r low (s.optic i))) ∧ t.rd (SPT_AMB_AMB i) = ambOf r % 2 ^ 24 ∧ (s.holding i = false → t.rd (SPT_STAT_RHOLD i) = 0) ∧
      (∀ j, j ≠ i → unframed (t.optic j) = unframed (s.optic j)) ∧ FieldsKept [SPT_AMB_AMB i, SPT_STAT_RHOLD i] s t ∧ sampleAside t = sampleAside s := by
  rw [opticSample_eq hy hr]
  refine ⟨⟨isLow (s.rd (SPT_STAT_FSA i)) (ambOf r), ?_⟩, ?_, fun hh => ?_, fun j hj => ?_, ?_, ?_⟩
  · rw [frameSpot_optic, storeSample_optic, if_pos rfl, endHold_optic]
  · rw [frameSpot_rd, storeSample_amb]
  · rw [frameSpot_rd, storeSample_fields, hh, endHold_ended]
    simp only [List.mem_cons, List.not_mem_nil, or_false, forall_eq, Fld.key, SPT_STAT_RHOLD, SPT_AMB_AMB, ne_eq]
    omega
  · rw [frameSpot_optic, storeSample_optic, if_neg hj, endHold_optic]
  · have hstore : FieldsKept [SPT_AMB_AMB i, SPT_STAT_RHOLD i] s ((s.endHold i (s.holding i)).storeSample i y r (isLow (s.rd (SPT_STAT_FSA i)) (ambOf r))) :=
      (endHold_fields.mono fun g hg => by simp [List.mem_singleton.1 hg]).trans (storeSample_fields.mono fun g hg => by simp [List.mem_singleton.1 hg])
    exact fun f hf => frameSpot_rd.trans (hstore f hf)
  · rw [frameSpot_sampleAside, storeSample_sampleAside, endHold_sampleAside]
end State
end Sys2Proof.Machine
end

section
/-! What each command of the errors of groups and of the optical inputs does (R158, R173, R174, R183 to R187). -/
namespace Sys2Proof.Machine
open Sys2Proof.Safety

namespace State
variable {s : State} {g : Fin 16} {i : Fin 32} {a src ev t0 : Nat} {rest : List (Nat × Nat)}

/-! ### Reports and reactions -/

/-- The state beside its groups and the collector. -/
def errorAside (s : State) : State := { s with groups := [], coll := {} }
theorem errorAside_modGroup {n : Nat} {f : Group → Group} : errorAside (s.modGroup n f) = errorAside s := rfl
theorem errorAside_report {cls id sev path : Nat} {data : List Nat} : errorAside (s.report cls id sev path data) = errorAside s := rfl
theorem errorAside_reportError {n : Nat} : errorAside (s.reportError n a src) = errorAside s := by rw [reportError, errorAside_modGroup, errorAside_report]
theorem rest_of_errorAside {t : State} (h : errorAside t = errorAside s) : { t with coll := s.coll, groups := s.groups } = s :=
  congrArg (fun x : State => { x with coll := s.coll, groups := s.groups }) h
/-- The state beside those, its registers and the count of free values. -/
def overdueAside (s : State) : State := { errorAside s with regs := [], free := 0 }
theorem overdueAside_of {t : State} (h : errorAside t = errorAside s) : overdueAside t = overdueAside s := by rw [overdueAside, h, overdueAside]
theorem overdueAside_wr {f : Fld} {v : Nat} : overdueAside (s.wr f v) = overdueAside s := rfl
theorem overdueAside_fresh : overdueAside s.fresh = overdueAside s := rfl
theorem rest_of_overdueAside {t : State} (h : overdueAside t = overdueAside s) : { t with regs := s.regs, coll := s.coll, groups := s.groups, free := s.free } = s :=
  congrArg (fun x : State => { x with regs := s.regs, coll := s.coll, groups := s.groups, free := s.free }) h

/-- The oldest error of the group is taken. -/
def errorTaken (s : State) (g : Nat) (rest : List (Nat × Nat)) : State := s.modGroup g fun y => { y with errNew := rest }
theorem errorReport_does (h : (s.group g).errNew = (a, src) :: rest) : ∃ t, exec (.aspectErrorReport g) s = .next t ∧
    t.coll = (s.report clProof (0x300 + a) (if s.rd (SN_ASP_SAFE a) = 1 then 3 else 1) 12 [src]).coll ∧
    t.group g = { s.group g with errNew := rest, react := (s.group g).react ++ [(a, s.coll.nextId)] } ∧ ElseSame t.group s.group g ∧ { t with coll := s.coll, groups := s.groups } = s := by
  have hexec : exec (.aspectErrorReport g) s = .next ((s.errorTaken g rest).reportError g a src) := by
    rw [exec_aspectErrorReport, execAspectErrorReport, h]
    rfl
  refine ⟨_, hexec, reportError_coll, ?_, fun m hm => ?_, rest_of_errorAside ?_⟩
  · rw [reportError_group, if_pos rfl, errorTaken, group_modGroup, if_pos rfl]
    rfl
  · rw [reportError_group, if_neg hm, errorTaken, group_modGroup, if_neg hm]
  · rw [errorAside_reportError, errorTaken, errorAside_modGroup]
theorem reactTaken_own : (s.reactTaken g rest).group g = { s.group g with react := rest } := by rw [reactTaken_group, if_pos rfl]
theorem reactTaken_else : ElseSame (s.reactTaken g rest).group s.group g := fun _ hm => by rw [reactTaken_group, if_neg hm]
theorem reactNothing_does (h : (s.group g).react = (a, ev) :: rest) (hr : s.rd (SN_APRF_REACT a) = 0) : exec (.aspectReaction g) s = .next (s.reactTaken g rest) := by
  rw [exec_aspectReaction, aspectReaction_eq h, hr]
  rfl
theorem latchReaction_does (h : (s.group g).react = (a, ev) :: rest) (hr : s.rd (SN_APRF_REACT a) = 2) : ∃ t, exec (.aspectReaction g) s = .next t ∧ MemoriesKept s t ∧ (t.group g).react = rest ∧
    (∀ n : Fin 192, s.member n a = true → t.rd (CH_SSTAT_LATCH n) = 1 ∧ (s.latched n = false → t.rd (CH_SSTAT_CAUSE n) = 1 ∧ (t.prot n).latchEv = some ev)) ∧
    (∀ n : Fin 192, s.member n a = false → t.rd (CH_SSTAT_LATCH n) = s.rd (CH_SSTAT_LATCH n) ∧ t.rd (CH_SSTAT_CAUSE n) = s.rd (CH_SSTAT_CAUSE n)) ∧
    FieldsKept ((s.members a).flatMap latchFields) s t ∧ chanless { t with groups := s.groups, coll := s.coll } = chanless s := by
  have hexec : exec (.aspectReaction g) s = .next ((s.reactTaken g rest).setLatches (s.members a) 1 (some ev)) := by
    rw [exec_aspectReaction, aspectReaction_eq h, hr]
    rfl
  obtain ⟨hmem, hgroups⟩ := chanlessColl_kept (chanlessColl_setLatches (s := s.reactTaken g rest) (l := s.members a) (cause := 1) (ev := some ev))
  refine ⟨_, hexec, hmem, ?_, fun n hn => ?_, fun n hn => ?_, setLatches_fields (s := s.reactTaken g rest), latchReaction_rest⟩
  · rw [group, hgroups, ← group, reactTaken_own]
  · have hin := (mem_members n.isLt).2 hn
    obtain ⟨hlatch, hcause⟩ := setLatches_sets (s := s.reactTaken g rest) (cause := 1) (ev := some ev) members_nodup hin (by decide)
    refine ⟨hlatch, fun hopen => ?_⟩
    have hoff : (s.reactTaken g rest).on (CH_SSTAT_LATCH n) = false := (Bool.or_eq_false_iff.1 hopen).1
    exact ⟨by rw [hcause, hoff]; rfl, setLatches_latchEv members_nodup hin (by decide) hoff⟩
  · exact setLatches_other (s := s.reactTaken g rest) fun hin => Bool.false_ne_true (hn.symm.trans ((mem_members n.isLt).1 hin))
theorem mem_noteFailed : a ∈ (s.noteFailed a).sio.lampFail := by
  have h : (s.noteFailed a).sio.lampFail = if s.sio.lampFail.contains a then s.sio.lampFail else a :: s.sio.lampFail := rfl
  rw [h]
  split
  · next hc => exact List.contains_iff_mem.1 hc
  · exact List.mem_cons_self
/-- R186: what a reaction by substitution does, where SUBST is of the group. -/
theorem substituteReaction_does (h : (s.group g).react = (a, ev) :: rest) (hr : s.rd (SN_APRF_REACT a) = 1 ∨ s.rd (SN_APRF_REACT a) = 3) (hg : s.rd (SN_ASP_GROUP (s.rd (SN_APRF_SUBST a))) = g) :
    ∃ t, exec (.aspectReaction g) s = .next t ∧ MemoriesKept s t ∧
      Switched s t g (s.rd (SN_APRF_SUBST a)) ∧ t.rd (SN_AGACT_DEMAND g) = 1 ∧ t.rd (SN_AGREQ_REQV g) = 0 ∧ (t.group g).demandSub = some ev ∧ (t.group g).react = rest ∧
      (s.rd (SN_APRF_REACT a) = 3 → a ∈ t.sio.lampFail) ∧ (s.rd (SN_APRF_REACT a) = 1 → t.sio = s.sio) ∧ t.cores = s.cores := by
  have hb : s.rd (SN_APRF_SUBST a) < 64 := rd_lt (f := SN_APRF_SUBST a)
  rcases hr with hr | hr
  · have hexec : exec (.aspectReaction g) s = .next ((s.reactTaken g rest).substitute g ev (s.rd (SN_APRF_SUBST a))) := by
      rw [exec_aspectReaction, aspectReaction_eq h, hr]
      exact congrArg Host.Outcome.next (if_pos hg)
    obtain ⟨hsw, hd, hq⟩ := substitute_switched (u := s.reactTaken g rest) (ev := ev) hb (fun _ => modGroup_rd) hg
    obtain ⟨hsub, hreact, hmem, hsio, hcores⟩ := substitute_rest (u := s.reactTaken g rest) (ev := ev) hg
    refine ⟨_, hexec, hmem, hsw, hd, hq, hsub, ?_, fun h3 => absurd (hr.symm.trans h3) (by decide), fun _ => hsio, hcores⟩
    rw [hreact, reactTaken_own]
  · have hexec : exec (.aspectReaction g) s = .next (((s.reactTaken g rest).noteFailed a).substitute g ev (s.rd (SN_APRF_SUBST a))) := by
      rw [exec_aspectReaction, aspectReaction_eq h, hr]
      exact congrArg Host.Outcome.next (if_pos hg)
    obtain ⟨hsw, hd, hq⟩ := substitute_switched (u := (s.reactTaken g rest).noteFailed a) (ev := ev) hb (fun _ => rfl) hg
    obtain ⟨hsub, hreact, hmem, hsio, hcores⟩ := substitute_rest (u := (s.reactTaken g rest).noteFailed a) (ev := ev) hg
    refine ⟨_, hexec, hmem, hsw, hd, hq, hsub, ?_, fun _ => ?_, fun h1 => absurd (hr.symm.trans h1) (by decide), hcores⟩
    · rw [hreact]
      exact congrArg Group.react reactTaken_own
    · rw [hsio]
      exact mem_noteFailed
/-- The state beside its groups and what the failed aspects are. -/
def reactAside (s : State) : State := { s with groups := [], sio := {} }
theorem reactAside_reactTaken : reactAside (s.reactTaken g rest) = reactAside s := rfl
theorem reactAside_noteFailed : reactAside (s.noteFailed a) = reactAside s := rfl
theorem rest_of_reactAside {t : State} (h : reactAside t = reactAside s) : { t with groups := s.groups, sio := s.sio } = s := congrArg (fun x : State => { x with groups := s.groups, sio := s.sio }) h
theorem noSubstitute_does (h : (s.group g).react = (a, ev) :: rest) (hr : s.rd (SN_APRF_REACT a) = 1 ∨ s.rd (SN_APRF_REACT a) = 3) (hg : s.rd (SN_ASP_GROUP (s.rd (SN_APRF_SUBST a))) ≠ g) :
    ∃ t, exec (.aspectReaction g) s = .next t ∧ t.group g = { s.group g with react := rest } ∧ ElseSame t.group s.group g ∧ { t with groups := s.groups, sio := s.sio } = s := by
  rw [exec_aspectReaction, aspectReaction_eq h]
  rcases hr with hr | hr
  · rw [hr]
    exact ⟨_, congrArg Host.Outcome.next (if_neg hg), reactTaken_own, reactTaken_else, rest_of_reactAside reactAside_reactTaken⟩
  · rw [hr]
    refine ⟨_, congrArg Host.Outcome.next (if_neg hg), reactTaken_own (s := s), reactTaken_else (s := s), rest_of_reactAside ?_⟩
    rw [reactAside_noteFailed, reactAside_reactTaken]
theorem reportError_rd {n : Nat} {f : Fld} : (s.reportError n a src).rd f = s.rd f := by rw [reportError, modGroup_rd, report_rd]
/-- The group has been DEGRADED for too long: it stands in ERROR. -/
def overdue (s : State) (g : Nat) : State := ((s.wr (SN_AGVER_STATE g) 3).modGroup g fun x => { x with degOver := true, erred := true }).fresh
theorem degradedTimeout_does (hdeg : s.rd SPT_DEG_OPTDEG = 1) (hreq : s.rd (SN_APRF_OPTREQ (s.rd (SN_AGACT_ASP g))) = 1) (hvalid : s.rd (SN_AGACT_VALID g) = 1) (hstate : s.rd (SN_AGVER_STATE g) = 2)
    (hsince : (s.group g).degSince = some t0) (hover : t0 + s.degDuration < s.time) : let a := s.rd (SN_AGACT_ASP g)
    ∃ t, exec (.groupDegradedTimeout g) s = .next t ∧ t.rd (SN_AGVER_STATE g) = 3 ∧ (t.group g).degOver = true ∧ (t.group g).react = (s.group g).react ++ [(a, s.coll.nextId)] ∧
      t.coll = (s.report clProof (0x300 + a) (if s.rd (SN_ASP_SAFE a) = 1 then 3 else 1) 12 [(Config.freeValue s.free).toNat]).coll ∧
      FieldsKept [SN_AGVER_STATE g] s t ∧ ElseSame t.group s.group g ∧ { t with regs := s.regs, coll := s.coll, groups := s.groups, free := s.free } = s := by
  intro a
  have hexec : exec (.groupDegradedTimeout g) s = .next ((s.overdue g).reportError g a (Config.freeValue s.free).toNat) :=
    congrArg Host.Outcome.next (degradedOver_due hdeg hreq hvalid hstate hsince hover)
  have hrd : ∀ f : Fld, (s.overdue g).rd f = (s.wr (SN_AGVER_STATE g) 3).rd f := fun f => by rw [overdue, fresh_rd, modGroup_rd]
  have hsafe : (s.overdue g).rd (SN_ASP_SAFE a) = s.rd (SN_ASP_SAFE a) := (hrd _).trans (rd_wr_ne (by simp only [Fld.key, SN_ASP_SAFE, SN_AGVER_STATE, ne_eq]; omega))
  have hgroup : ∀ x, (s.overdue g).group x = if x = g then { s.group g with degOver := true, erred := true } else s.group x := fun x => by
    rw [overdue, fresh_group, group_modGroup, wr_group, wr_group]
  refine ⟨_, hexec, ?_, ?_, ?_, ?_, ?_, fun m hm => ?_, rest_of_overdueAside ?_⟩
  · rw [reportError_rd, hrd, rd_wr_same]
    rfl
  · rw [reportError_group, if_pos rfl, hgroup, if_pos rfl]
  · rw [reportError_group, if_pos rfl, hgroup, if_pos rfl]
    rfl
  · rw [reportError_coll, hsafe]
    exact report_congr rfl rfl rfl
  · exact fun f hf => by rw [reportError_rd, hrd, rd_wr_ne (hf _ List.mem_cons_self)]
  · rw [reportError_group, if_neg hm, hgroup, if_neg hm]
  · rw [overdueAside_of errorAside_reportError, overdue, overdueAside_fresh, overdueAside_of errorAside_modGroup, overdueAside_wr]

/-! ### Optical degradation -/

theorem opticalDegraded_marks (h : s.rd SPT_DEG_OPTDEG = 1) (b : BitVec 32) : exec (.opticalDegraded b) s = .next (s.markFaults b) := by
  have hkept : (s.markFaults b).rd SPT_DEG_OPTDEG = 1 := (markFaults_other fun i _ => by simp [Fld.key, SPT_DEG_OPTDEG, SPT_STAT_FAULT]; omega).trans h
  obtain ⟨late, _, heq⟩ := execOpticalDegraded_eq (s := s) (b := b)
  rw [exec_opticalDegraded, heq, declareOptDeg_declared hkept, ite_self]
theorem opticalDegraded_none (hc : s.oreqChannels = []) (ha : s.optChannels = []) : exec (.opticalDegraded 0) s = .next s := by
  obtain ⟨late, _, heq⟩ := execOpticalDegraded_eq (s := s) (b := 0)
  rw [exec_opticalDegraded, heq, if_neg (by simp [hc, ha]), markFaults_zero]
theorem opticalDegraded_does (h : s.rd SPT_DEG_OPTDEG = 0) {b : BitVec 32} (hb : b ≠ 0 ∨ (s.rd SPT_CTL_RUN = 0 ∧ s.oreqChannels ≠ [])) :
    ∃ t, exec (.opticalDegraded b) s = .next t ∧ t.rd SPT_DEG_OPTDEG = 1 ∧ (∀ i : Fin 32, t.rd (SPT_STAT_FAULT i) = if b.getLsbD i then 1 else s.rd (SPT_STAT_FAULT i)) ∧
      ((∀ n : Fin 192, s.rd (CH_SHST_ACLOOP n) = 0) → t.coll = (s.report clProof 0x380 2 12).coll) ∧ t.cores = s.cores ∧ MemoriesKept s t ∧
      ∀ n : Fin 192, t.rd (CH_SHST_ACLOOP n) = 0 ∧ (s.rd (CH_SHST_ACLOOP n) = 1 → t.rd (CH_SHST_HOACT n) = 1) ∧ (s.rd (CH_SHST_ACLOOP n) = 0 → t.prot n = s.prot n) := by
  have hother : ∀ f : Fld, (∀ i, i < 32 → f.key ≠ (SPT_STAT_FAULT i).key) → (s.markFaults b).rd f = s.rd f := fun f hf => markFaults_other hf
  have hdeg : (s.markFaults b).rd SPT_DEG_OPTDEG = 0 := (hother _ fun i _ => by simp [Fld.key, SPT_DEG_OPTDEG, SPT_STAT_FAULT]; omega).trans h
  have hrun : (s.markFaults b).rd SPT_CTL_RUN = s.rd SPT_CTL_RUN := hother _ fun i _ => by simp [Fld.key, SPT_CTL_RUN, SPT_STAT_FAULT]; omega
  have hloop : ∀ n : Fin 192, (s.markFaults b).rd (CH_SHST_ACLOOP n) = s.rd (CH_SHST_ACLOOP n) := fun n => hother _ fun i _ => by
    simp only [Fld.key, CH_SHST_ACLOOP, SPT_STAT_FAULT, ne_eq]
    omega
  obtain ⟨late, _, heq⟩ := execOpticalDegraded_eq (s := s) (b := b)
  have hexec : exec (.opticalDegraded b) s = .next (s.markFaults b).declareOptDeg := by
    rw [exec_opticalDegraded, heq, if_pos]
    rcases hb with hb | ⟨h0, hne⟩
    · exact .inl hb
    · exact .inr (.inl ⟨hne, by simp [on, hrun, h0]⟩)
  obtain ⟨hset, hfault, hcoll, hrest, hchan⟩ := declareOptDeg_does hdeg
  have part : ∀ {α : Type} (P : State → α), (∀ x : State, P (chanlessColl x) = P x) → (∀ x : State, P { x with regs := s.regs } = P x) → P (s.markFaults b).declareOptDeg = P s := fun P hP hR => by
    rw [← hP, hrest, hP, markFaults_part P hR]
  refine ⟨_, hexec, hset, fun i => ?_, fun hnone => ?_, part State.cores (fun _ => rfl) fun _ => rfl, ⟨part State.mem (fun _ => rfl) fun _ => rfl, part State.flash (fun _ => rfl) fun _ => rfl, part State.otp (fun _ => rfl) fun _ => rfl⟩, fun n => ?_⟩
  · rw [hfault, markFaults_rd]
  · rw [hcoll fun n => (hloop n).trans (hnone n)]
    exact report_congr (markFaults_part State.coll fun _ => rfl) (markFaults_part State.time fun _ => rfl) (markFaults_part State.devOfs fun _ => rfl)
  · obtain ⟨hl, hh, hp⟩ := hchan n
    rw [hloop] at hh hp
    exact ⟨hl, hh, fun h0 => (hp h0).trans (markFaults_part (fun t => t.prot n) fun _ => rfl)⟩
end State
end Sys2Proof.Machine
end

section
/-! The commands of the optical inputs (R173, R174), and the statement of group errors and optical degradation. -/
namespace Sys2Proof.Machine
open Sys2Proof.Safety

namespace State
variable {s : State} {i : Fin 32} {r : Requester} {w : Word} {t0 : Nat}

/-- The state beside its registers and the inputs. -/
def inputAside (s : State) : State := { s with regs := [], optics := [] }
theorem inputAside_wr {f : Fld} {v : Nat} : inputAside (s.wr f v) = inputAside s := rfl
theorem inputAside_put {f : Fld} {b : Bool} : inputAside (s.put f b) = inputAside s := rfl
theorem inputAside_modOptic {n : Nat} {g : Optic → Optic} : inputAside (s.modOptic n g) = inputAside s := rfl
theorem inputAside_takeScale {n fs : Nat} : inputAside (s.takeScale n fs) = inputAside s := by rw [takeScale, inputAside_modOptic, inputAside_put, inputAside_wr]
theorem inputAside_of {t : State} (h : bare t = bare s) : inputAside t = inputAside s := congrArg (fun x : State => { x with optics := [] }) h
theorem rest_of_inputAside {t : State} (h : inputAside t = inputAside s) : { t with regs := s.regs, optics := s.optics } = s := congrArg (fun x : State => { x with regs := s.regs, optics := s.optics }) h
theorem bare_time : (bare s).time = s.time := rfl
theorem time_of_bare {t : State} (h : bare t = bare s) : t.time = s.time := by rw [← bare_time, h, bare_time]
theorem incfg_at : ∀ f ∈ (SPT_INCFG i).fields, f.addr = 0xD20000 + i ∧ f.lo < 8 := by
  intro f hf
  simp only [SPT_INCFG, List.mem_cons, List.not_mem_nil, or_false] at hf
  rcases hf with rfl | rfl | rfl | rfl <;> simp [SPT_INCFG_FS, SPT_INCFG_EN, SPT_INCFG_AUTOR, SPT_INCFG_FILT]
theorem incfg_not_stat : ∀ f ∈ (SPT_INCFG i).fields, ∀ g ∈ [SPT_STAT_FSA i, SPT_STAT_RHOLD i], f.key ≠ g.key := by
  intro f hf g hg
  obtain ⟨haddr, hlo⟩ := incfg_at f hf
  have hstat : g.addr = 0xD20020 + i ∧ g.lo < 8 := by
    simp only [List.mem_cons, List.not_mem_nil, or_false] at hg
    rcases hg with rfl | rfl <;> simp [SPT_STAT_FSA, SPT_STAT_RHOLD]
  obtain ⟨hgaddr, hglo⟩ := hstat
  rw [Fld.key, Fld.key, haddr, hgaddr]
  omega
theorem inputRangeWrite_does (h : Accepts s r (SPT_INCFG i) w.toNat) : let fs := (SPT_INCFG_FS i).of w.toNat
    ∃ t, exec (.inputRangeWrite r i w) s = .next t ∧ (∀ f ∈ (SPT_INCFG i).fields, t.rd f = f.of w.toNat) ∧
      (fs = s.rd (SPT_INCFG_FS i) → FieldsKept (SPT_INCFG i).fields s t ∧ { t with regs := s.regs } = s) ∧
      (fs ≠ s.rd (SPT_INCFG_FS i) → t.rd (SPT_STAT_FSA i) = fs ∧ t.rd (SPT_STAT_RHOLD i) = 1 ∧ t.optic i = { s.optic i with holdAt := s.time, high := 0, sat := false } ∧
        ElseSame t.optic s.optic i ∧ FieldsKept (SPT_STAT_FSA i :: SPT_STAT_RHOLD i :: (SPT_INCFG i).fields) s t ∧
        { t with regs := s.regs, optics := s.optics } = s) := by
  intro fs
  by_cases hfs : fs = s.rd (SPT_INCFG_FS i)
  · have hexec : exec (.inputRangeWrite r i w) s = .next (s.storeIncfg i w.toNat) := by
      rw [exec_inputRangeWrite, command_incfg h, writeIncfg_eq, if_pos hfs]
    exact ⟨_, hexec, storeIncfg_rd, fun _ => ⟨storeIncfg_fields, rest_of_bare bare_storeIncfg⟩, fun hne => absurd hfs hne⟩
  · have hexec : exec (.inputRangeWrite r i w) s = .next ((s.storeIncfg i w.toNat).takeScale i fs) := by
      rw [exec_inputRangeWrite, command_incfg h, writeIncfg_eq, if_neg hfs]
    obtain ⟨hfsa, hhold⟩ := takeScale_rd (s := s.storeIncfg i w.toNat) (i := i) (fs := fs) of_lt
    refine ⟨_, hexec, fun f hf => ?_, fun he => absurd he hfs, fun _ => ⟨hfsa, hhold, ?_, fun m hm => ?_, ?_, ?_⟩⟩
    · rw [takeScale_fields f (incfg_not_stat f hf), storeIncfg_rd f hf]
    · rw [takeScale_optic, if_pos rfl, storeIncfg_optic, time_of_bare bare_storeIncfg]
    · rw [takeScale_optic, if_neg hm, storeIncfg_optic]
    · exact (storeIncfg_fields.mono fun g hg => List.mem_cons_of_mem _ (List.mem_cons_of_mem _ hg)).trans (takeScale_fields.mono fun g hg => by
        rcases List.mem_cons.1 hg with rfl | hg
        · exact List.mem_cons_self
        · rw [List.mem_singleton.1 hg]
          exact List.mem_cons_of_mem _ List.mem_cons_self)
    · exact rest_of_inputAside (inputAside_takeScale.trans (inputAside_of bare_storeIncfg))

/-! ### Saturation, and the range below -/

/-- The state beside those, the collector and the marks of R15. -/
def saturationAside (s : State) : State := { inputAside s with coll := {}, hwNow := [] }
theorem saturationAside_of {t : State} (h : inputAside t = inputAside s) : saturationAside t = saturationAside s := by rw [saturationAside, h, saturationAside]
theorem saturationAside_raiseFlag {f : Fld} : saturationAside (s.raiseFlag f) = saturationAside s := rfl
theorem saturationAside_report {cls id sev path : Nat} {data : List Nat} : saturationAside (s.report cls id sev path data) = saturationAside s := rfl
theorem saturationAside_saturate {n : Nat} : saturationAside (s.saturate n) = saturationAside s := by
  rw [saturate, saturationAside_of inputAside_modOptic, saturationAside_report, saturationAside_raiseFlag]
theorem rest_of_saturationAside {t : State} (h : saturationAside t = saturationAside s) : { t with regs := s.regs, coll := s.coll, optics := s.optics, hwNow := s.hwNow } = s :=
  congrArg (fun x : State => { x with regs := s.regs, coll := s.coll, optics := s.optics, hwNow := s.hwNow }) h
theorem saturate_rd {n : Nat} {f : Fld} : (s.saturate n).rd f = (s.raiseFlag (SPT_STAT_SAT n)).rd f := by rw [saturate, modOptic_rd, report_rd]
theorem saturate_sat {n : Nat} : (s.saturate n).rd (SPT_STAT_SAT n) = 1 := by
  rw [saturate_rd, raiseFlag, mark_rd, rd_put_same Nat.zero_lt_one]
  rfl
theorem saturate_coll {n : Nat} : (s.saturate n).coll = (s.report clProof (0x340 + 2 * n) 1 13).coll := by
  rw [saturate, modOptic_coll]
  exact report_congr rfl rfl rfl
theorem saturate_optic {n m : Nat} : (s.saturate n).optic m = if m = n then { s.optic n with sat := true, lowSince := none } else s.optic m := by
  rw [saturate, optic_modOptic]
  rfl
theorem saturate_fields {n : Nat} : FieldsKept [SPT_STAT_SAT n] s (s.saturate n) := .modOptic (.report (.raiseFlag List.mem_cons_self .refl))
theorem saturate_time {n : Nat} : (s.saturate n).time = s.time := by rw [saturate, modOptic_time, report_time, raiseFlag_time]
theorem takeScale_coll {n fs : Nat} : (s.takeScale n fs).coll = s.coll := rfl
theorem sat_other {n : Nat} : (SPT_STAT_SAT n).key ≠ (SPT_STAT_FSA n).key ∧ (SPT_STAT_SAT n).key ≠ (SPT_STAT_RHOLD n).key := by
  simp [Fld.key, SPT_STAT_SAT, SPT_STAT_FSA, SPT_STAT_RHOLD]
theorem saturation_does (hh : 4 ≤ (s.optic i).high) (hs : (s.optic i).sat = false) : let o := s.optic i
    let up := decide (s.rd (SPT_INCFG_AUTOR i) = 1) && decide (s.rd (SPT_STAT_FSA i) < 3)
    ∃ t, exec (.spotlightSaturation i) s = .next t ∧ t.rd (SPT_STAT_SAT i) = 1 ∧ t.coll = (s.report clProof (0x340 + 2 * i) 1 13).coll ∧
      t.rd (SPT_STAT_FSA i) = s.rd (SPT_STAT_FSA i) + up.toNat ∧ t.rd (SPT_STAT_RHOLD i) = (if up then 1 else s.rd (SPT_STAT_RHOLD i)) ∧
      t.optic i = { o with high := if up then 0 else o.high, sat := !up, lowSince := none, holdAt := if up then s.time else o.holdAt } ∧ ElseSame t.optic s.optic i ∧
      FieldsKept [SPT_STAT_SAT i, SPT_STAT_FSA i, SPT_STAT_RHOLD i] s t ∧ { t with regs := s.regs, coll := s.coll, optics := s.optics, hwNow := s.hwNow } = s := by
  intro o up
  have hfsa : (s.saturate i).rd (SPT_STAT_FSA i) = s.rd (SPT_STAT_FSA i) := saturate_fields _ fun g hg => List.mem_singleton.1 hg ▸ sat_other.1.symm
  have hhold : (s.saturate i).rd (SPT_STAT_RHOLD i) = s.rd (SPT_STAT_RHOLD i) := saturate_fields _ fun g hg => List.mem_singleton.1 hg ▸ sat_other.2.symm
  have hsat : FieldsKept [SPT_STAT_SAT i, SPT_STAT_FSA i, SPT_STAT_RHOLD i] s (s.saturate i) := saturate_fields.mono fun g hg => List.mem_singleton.1 hg ▸ List.mem_cons_self
  by_cases hup : s.rd (SPT_INCFG_AUTOR i) = 1 ∧ s.rd (SPT_STAT_FSA i) < 3
  · have hup' : up = true := by simp [up, hup]
    have hexec : exec (.spotlightSaturation i) s = .next ((s.saturate i).takeScale i (s.rd (SPT_STAT_FSA i) + 1)) := by
      rw [exec_spotlightSaturation, saturation_eq hh hs, if_pos hup]
    obtain ⟨hscale, hheld⟩ := takeScale_rd (s := s.saturate i) (i := i) (fs := s.rd (SPT_STAT_FSA i) + 1) (by omega)
    rw [hup']
    refine ⟨_, hexec, ?_, ?_, hscale, hheld, ?_, fun m hm => ?_, hsat.trans (takeScale_fields.mono fun g hg => List.mem_cons_of_mem _ hg), rest_of_saturationAside ?_⟩
    · refine (takeScale_fields _ fun g hg => ?_).trans saturate_sat
      simp only [List.mem_cons, List.not_mem_nil, or_false] at hg
      rcases hg with rfl | rfl
      · exact sat_other.1
      · exact sat_other.2
    · rw [takeScale_coll, saturate_coll]
    · rw [takeScale_optic, if_pos rfl, saturate_optic, if_pos rfl, saturate_time]
      rfl
    · rw [takeScale_optic, if_neg hm, saturate_optic, if_neg hm]
    · rw [saturationAside_of inputAside_takeScale, saturationAside_saturate]
  · have hup' : up = false := by
      rw [← Bool.not_eq_true, Bool.and_eq_true, decide_eq_true_eq, decide_eq_true_eq]
      exact hup
    have hexec : exec (.spotlightSaturation i) s = .next (s.saturate i) := by rw [exec_spotlightSaturation, saturation_eq hh hs, if_neg hup]
    rw [hup']
    refine ⟨_, hexec, saturate_sat, saturate_coll, hfsa, hhold, ?_, fun m hm => ?_, hsat, rest_of_saturationAside saturationAside_saturate⟩
    · rw [saturate_optic, if_pos rfl]
      rfl
    · rw [saturate_optic, if_neg hm]
/-- R174: the next smaller full scale comes into force. -/
def stepScale (s : State) (n : Nat) : State :=
  ((s.wr (SPT_STAT_FSA n) (s.rd (SPT_STAT_FSA n) - 1)).put (SPT_STAT_RHOLD n) true).modOptic n fun o => { o with lowSince := none, holdAt := s.time, high := 0, sat := false }
theorem stepDown_does (hl : (s.optic i).lowSince = some t0) (ht : t0 + 16000000 ≤ s.time) (ha : s.rd (SPT_INCFG_AUTOR i) = 1) (hf : s.rd (SPT_INCFG_FS i) < s.rd (SPT_STAT_FSA i)) :
    ∃ t, exec (.rangeStepDown i) s = .next t ∧ t.rd (SPT_STAT_FSA i) = s.rd (SPT_STAT_FSA i) - 1 ∧ t.rd (SPT_STAT_RHOLD i) = 1 ∧
      t.optic i = { s.optic i with lowSince := none, holdAt := s.time, high := 0, sat := false } ∧ ElseSame t.optic s.optic i ∧
      FieldsKept [SPT_STAT_FSA i, SPT_STAT_RHOLD i] s t ∧ { t with regs := s.regs, optics := s.optics } = s := by
  have hexec : exec (.rangeStepDown i) s = .next (s.stepScale i) := by rw [exec_rangeStepDown, stepDown_eq hl ht ha hf, stepScale]
  have hlt : s.rd (SPT_STAT_FSA i) < 4 := rd_lt (f := SPT_STAT_FSA i)
  have hoptic : ∀ m, (s.stepScale i).optic m = if m = i then { s.optic i with lowSince := none, holdAt := s.time, high := 0, sat := false } else s.optic m := fun m => by
    rw [stepScale, optic_modOptic, put_optic, wr_optic, put_optic, wr_optic]
  refine ⟨_, hexec, ?_, ?_, ?_, fun m hm => ?_, FieldsKept.modOptic (.put (by simp) (.wr (by simp) .refl)), rest_of_inputAside ?_⟩
  · rw [stepScale, modOptic_rd, rd_put_ne scale_hold_keys, rd_wr_same]
    exact Nat.mod_eq_of_lt (show s.rd (SPT_STAT_FSA i) - 1 < 4 by omega)
  · rw [stepScale, modOptic_rd, rd_put_same Nat.zero_lt_one]
    rfl
  · rw [hoptic, if_pos rfl]
  · rw [hoptic, if_neg hm]
  · rw [stepScale, inputAside_modOptic, inputAside_put, inputAside_wr]

/-! ### Samples -/

theorem spotlightSample_none (h : s.spotlightOn = false ∨ s.rd SPT_CTL_RUN = 0 ∨ s.rd (SPT_INCFG_EN i) = 0) {x : BitVec 16} {test : Bool} : exec (.spotlightSample i x test) s = .next s := by
  rw [exec_spotlightSample, execSpotlightSample, if_neg]
  rintro ⟨hon, hrun, hen⟩
  rw [on_eq rfl, decide_eq_true_eq] at hrun hen
  rcases h with h | h | h
  · exact Bool.false_ne_true (h.symm.trans hon)
  · exact absurd (h.symm.trans hrun) (by decide)
  · exact absurd (h.symm.trans hen) (by decide)
theorem takeSample_high {time y : Nat} {l : List Nat} {low : Bool} {o : Optic} : (takeSample time y l low o).high = if 0xFC00 ≤ y ∧ y ≠ 0xFFFF then o.high + 1 else 0 := if_congr and_comm rfl rfl
theorem spotlightSample_does (hon : s.spotlightOn = true) (hrun : s.rd SPT_CTL_RUN = 1) (hen : s.rd (SPT_INCFG_EN i) = 1) (x : BitVec 16) (test : Bool) : let o := s.optic i
    let hold := decide (s.rd (SPT_STAT_RHOLD i) = 1) && decide (s.time < o.holdAt + 128)
    let y := if hold || test then 0xFFFF else min x.toNat 0xFFFE
    let l := if y = 0xFFFF then o.recent else o.recent ++ [y * 250000 * 4 ^ s.rd (SPT_STAT_FSA i)]
    let m := l.drop (l.length - 4000)
    ∃ t, exec (.spotlightSample i x test) s = .next t ∧ (t.optic i).last = y ∧ (t.optic i).recent = m ∧
      (t.optic i).high = (if 0xFC00 ≤ y ∧ y ≠ 0xFFFF then o.high + 1 else 0) ∧
      t.rd (SPT_AMB_AMB i) = (if m = [] then 0 else m.foldl (· + ·) 0 / (65536 * m.length)) % 2 ^ 24 ∧
      (t.optic i).sat = (o.sat && decide (0xFC00 ≤ y)) ∧ (hold = false → t.rd (SPT_STAT_RHOLD i) = 0) ∧
      (∀ j : Fin 32, j ≠ i → { t.optic j with frame := (s.optic j).frame } = s.optic j) ∧
      FieldsKept [SPT_AMB_AMB i, SPT_STAT_RHOLD i] s t ∧ { t with regs := s.regs, optics := s.optics, flight := s.flight } = s := by
  intro o hold y l m
  have hexec : exec (.spotlightSample i x test) s = .next (s.opticSample i x.toNat test).frameSpot := by
    rw [exec_spotlightSample, execSpotlightSample, if_pos ⟨hon, by rw [on_eq rfl, hrun, decide_eq_true rfl], by rw [on_eq rfl, hen, decide_eq_true rfl]⟩]
  have hhold : s.holding i = hold := by rw [holding, on_eq rfl]
  have hy : y = sampleOf (s.holding i) test x.toNat := by
    rw [hhold, sampleOf]
    simp only [y, Bool.or_eq_true]
  have hm : m = recentOf (s.optic i).recent y (s.rd (SPT_STAT_FSA i)) := by
    simp only [m, l, recentOf, fullScale, Nat.mul_assoc, o]
  obtain ⟨⟨low, hown⟩, hamb, hended, hothers, hfields, hrest⟩ := sample_does (x := x.toNat) hy hm
  rw [hhold] at hended
  have part : ∀ {α : Type} (P : Optic → α), (∀ p, P (unframed p) = P p) → P ((s.opticSample i x.toNat test).frameSpot.optic i) = P (takeSample (s.endHold i (s.holding i)).time y m low o) :=
    fun P hP => by rw [← hP, hown, hP]
  clear_value m l y
  refine ⟨_, hexec, part Optic.last fun _ => rfl, part Optic.recent fun _ => rfl, (part Optic.high fun _ => rfl).trans takeSample_high, hamb, part Optic.sat fun _ => rfl, hended,
    fun j hj => frame_of_unframed (hothers j (Fin.val_ne_of_ne hj)), hfields, rest_of_sampleAside hrest⟩
end State

/-- Settles O26: each clause is what one command does; the switch of a substitution is `demandAspect_switched`, the latches of a reaction `setLatches_sets`, the hand-overs of optical
degradation `declareOptDeg_does`, a conversion `sample_does`. -/
theorem groupErrorsAndOpticalDegradation : Obligations.GroupErrorsAndOpticalDegradation := by
  unfold Obligations.GroupErrorsAndOpticalDegradation
  intro s
  refine ⟨fun g => ⟨fun h => ?_, fun _ _ _ h => State.errorReport_does h, fun h => ?_, fun a ev rest h => ?_, ?_⟩, fun h b => ?_, State.opticalDegraded_none, fun h b hb => State.opticalDegraded_does h hb,
    fun i r w h => State.inputRangeWrite_does h, fun i => ⟨State.saturation_none, State.saturation_does, State.stepDown_none, fun t0 => State.stepDown_does, fun h x test => State.spotlightSample_none h,
      State.spotlightSample_does⟩⟩
  · rw [exec_aspectErrorReport, execAspectErrorReport, h]
  · rw [exec_aspectReaction, State.aspectReaction_none h]
  · exact ⟨fun hr => ⟨_, State.reactNothing_does h hr, State.reactTaken_own, State.reactTaken_else, State.reactTaken_rest⟩, State.latchReaction_does h, State.substituteReaction_does h, State.noSubstitute_does h⟩
  · exact fun hdeg hreq hvalid hstate t0 hsince hover => State.degradedTimeout_does hdeg hreq hvalid hstate hsince hover
  · exact ⟨_, State.opticalDegraded_marks h b, State.markFaults_rd, State.markFaults_fields, State.markFaults_rest⟩
end Sys2Proof.Machine
end

section
/-! The verdict posts, the code balance and the request for a latch's release (R169, R172, R175, R188). -/
namespace Sys2Proof.Machine
open Sys2Proof.Safety

theorem exec_electricalVerdictPost {s : State} {r : Requester} {n : Fin 192} {w : Word} : exec (.electricalVerdictPost r n w) s = .next (s.command r (CH_EVER n) w.toNat) := rfl
theorem exec_opticalVerdictPost {s : State} {r : Requester} {n : Fin 192} {w : Word} : exec (.opticalVerdictPost r n w) s = .next (s.command r (CH_OVER n) w.toNat) := rfl
theorem exec_codeBalanceQuery {s : State} {r : Requester} {w : Word} : exec (.codeBalanceQuery r w) s = .next (s.command r SPT_CBIDX w.toNat) := rfl
theorem exec_latchReleaseRequest {s : State} {r : Requester} {ch : BitVec 8} {key : Word} :
    exec (.latchReleaseRequest r ch key) s = .next (s.command r SN_LCLR (ch.toNat * 2 ^ SN_LCLR_CH.lo + key.toNat * 2 ^ SN_LCLR_KEY.lo)) := rfl

/-- What a channel's proof holds but whether its NO_DECISION is reported. -/
def Prf.unreported (p : Prf) : Prf := { p with noDecRep := false }

namespace State
variable {s t : State} {r : Requester} {n m v q : Nat} {sv : Bool} {f : Fld}

theorem command_ever (h : Accepts s r (CH_EVER n) v) : s.command r (CH_EVER n) v = s.postEver r (s.svMode r) n v := command_accepts_one rfl h
theorem command_over (h : Accepts s r (CH_OVER n) v) : s.command r (CH_OVER n) v = s.postOver r (s.svMode r) n v := command_accepts_one rfl h
theorem command_cbidx (h : Accepts s r SPT_CBIDX v) : s.command r SPT_CBIDX v = s.writeCbidx v := command_accepts_one rfl h
/-- The state beside its registers and what the proofs of the channels hold. -/
def proofAside (s : State) : State := { s with regs := [], prfs := [] }
theorem proofAside_wr : proofAside (s.wr f v) = proofAside s := rfl
theorem proofAside_modPrf {g : Prf → Prf} : proofAside (s.modPrf n g) = proofAside s := rfl
theorem proofAside_setPrf {p : Prf} : proofAside (s.setPrf n p) = proofAside s := rfl
theorem rest_of_proofAside (h : proofAside t = proofAside s) : { t with regs := s.regs, prfs := s.prfs } = s := congrArg (fun x : State => { x with regs := s.regs, prfs := s.prfs }) h

/-! ### Electrical verdicts (R169) -/

theorem postEver_refused (h : s.postRequester r sv = false) : s.postEver r sv n v = s.postRefusal n (CH_EVER n) := if_pos (by rw [h]; exact Bool.false_ne_true)
theorem postEver_out (h : s.postRequester r sv = true) (he : (s.prf n).eFree = false) (hq : (CH_EVER_SEQ n).of v ≠ (s.rd (CH_EVER_SEQ n) + 1) % 16) : s.postEver r sv n v = s := by
  rw [postEver, if_neg (not_not_intro h)]
  exact if_pos ⟨by rw [he]; exact Bool.false_ne_true, hq⟩
/-- The fields of a verdict of three fields take the value posted. -/
def storePost (s : State) (verd seq cause : Fld) (v : Nat) : State := ((s.wr verd (verd.of v)).wr seq (seq.of v)).wr cause (cause.of v)
/-- The verdict is new evidence. -/
def takeEver (p : Prf) : Prf := { p with eNew := true, eAny := true, eFree := false }
theorem postEver_taken (h : s.postRequester r sv = true) (he : (s.prf n).eFree = true ∨ (CH_EVER_SEQ n).of v = (s.rd (CH_EVER_SEQ n) + 1) % 16) :
    s.postEver r sv n v = (s.storePost (CH_EVER_VERD n) (CH_EVER_SEQ n) (CH_EVER_CAUSE n) v).modPrf n takeEver := by
  have hnot : ¬(¬(s.prf n).eFree = true ∧ (CH_EVER_SEQ n).of v ≠ (s.rd (CH_EVER_SEQ n) + 1) % 16) := by
    rintro ⟨h1, h2⟩
    rcases he with he | he
    · exact h1 he
    · exact h2 he
  rw [postEver, if_neg (not_not_intro h)]
  exact if_neg hnot
theorem storePost_rd {verd seq cause : Fld} (h1 : verd.key ≠ seq.key) (h2 : verd.key ≠ cause.key) (h3 : seq.key ≠ cause.key) :
    ∀ f ∈ [verd, seq, cause], (s.storePost verd seq cause v).rd f = f.of v := by
  intro f hf
  simp only [List.mem_cons, List.not_mem_nil, or_false] at hf
  rcases hf with rfl | rfl | rfl
  · rw [storePost, rd_wr_ne h2, rd_wr_ne h1, rd_wr_same, Nat.mod_eq_of_lt of_lt]
  · rw [storePost, rd_wr_ne h3, rd_wr_same, Nat.mod_eq_of_lt of_lt]
  · rw [storePost, rd_wr_same, Nat.mod_eq_of_lt of_lt]
theorem storePost_fields {verd seq cause : Fld} : FieldsKept [verd, seq, cause] s (s.storePost verd seq cause v) := by
  unfold storePost
  exact .wr (by simp) (.wr (by simp) (.wr (by simp) .refl))
theorem storePost_proofAside {verd seq cause : Fld} : proofAside (s.storePost verd seq cause v) = proofAside s := by rw [storePost, proofAside_wr, proofAside_wr, proofAside_wr]
theorem storePost_prf {verd seq cause : Fld} : (s.storePost verd seq cause v).prf m = s.prf m := by rw [storePost, wr_prf, wr_prf, wr_prf]
theorem ever_keys : (CH_EVER_VERD n).key ≠ (CH_EVER_SEQ n).key ∧ (CH_EVER_VERD n).key ≠ (CH_EVER_CAUSE n).key ∧ (CH_EVER_SEQ n).key ≠ (CH_EVER_CAUSE n).key := by
  simp [Fld.key, CH_EVER_VERD, CH_EVER_SEQ, CH_EVER_CAUSE]
theorem electricalPost_does {n : Fin 192} {w : Word} (ha : Accepts s r (CH_EVER n) w.toNat) :
    (s.postRequester r (s.svMode r) = true → (s.prf n).eFree = true ∨ (CH_EVER_SEQ n).of w.toNat = (s.rd (CH_EVER_SEQ n) + 1) % 16 →
      ∃ t, exec (.electricalVerdictPost r n w) s = .next t ∧ (∀ f ∈ (CH_EVER n).fields, t.rd f = f.of w.toNat) ∧
        t.prf n = { s.prf n with eNew := true, eAny := true, eFree := false } ∧ ElseSame t.prf s.prf n ∧
        FieldsKept (CH_EVER n).fields s t ∧ { t with regs := s.regs, prfs := s.prfs } = s) ∧
    (s.postRequester r (s.svMode r) = true → (s.prf n).eFree = false → (CH_EVER_SEQ n).of w.toNat ≠ (s.rd (CH_EVER_SEQ n) + 1) % 16 →
      exec (.electricalVerdictPost r n w) s = .next s) ∧
    (s.postRequester r (s.svMode r) = false → ∃ t, exec (.electricalVerdictPost r n w) s = .next t ∧
      t.coll = (s.report clCfg (16 * n + 10) 1 (n / 48) (addrData (CH_EVER n).last)).coll ∧ { t with coll := s.coll } = s) := by
  rw [exec_electricalVerdictPost, command_ever ha]
  refine ⟨fun h he => ?_, fun h he hq => congrArg _ (postEver_out h he hq), fun h => ?_⟩
  · rw [postEver_taken h he]
    obtain ⟨h1, h2, h3⟩ := ever_keys (n := n)
    refine ⟨_, rfl, fun f hf => (modPrf_rd).trans (storePost_rd h1 h2 h3 f hf), ?_, fun m hm => ?_, .modPrf storePost_fields, rest_of_proofAside ?_⟩
    · rw [prf_modPrf, if_pos rfl, storePost_prf]
      rfl
    · rw [prf_modPrf, if_neg hm, storePost_prf]
    · rw [proofAside_modPrf, storePost_proofAside]
  · rw [postEver_refused h]
    exact ⟨_, rfl, rfl, rfl⟩

/-! ### Optical verdicts (R175, R176) -/

theorem postOver_out (h : s.postRequester r sv = true) (he : (s.prf n).oFree = false) (hq : (CH_OVER_SEQ n).of v ≠ (s.rd (CH_OVER_SEQ n) + 1) % 16) : s.postOver r sv n v = s := by
  rw [postOver, if_neg (not_not_intro h)]
  exact if_pos ⟨by rw [he]; exact Bool.false_ne_true, hq⟩
/-- The verdict is the channel's optical evidence. -/
def takeOver (time verd : Nat) (p : Prf) : Prf :=
  { p with oAny := true, oFree := false, oAt := some time, oLast := some time, noDecAt := if verd = 0 then some (p.noDecAt.getD time) else none, noDecRep := p.noDecRep && verd == 0 }
/-- The verdict posted is stored. -/
def storeOver (s : State) (n v : Nat) : State :=
  ((s.judgeNoDec n).storePost (CH_OVER_VERD n) (CH_OVER_SEQ n) (CH_OVER_CAUSE n) v).modPrf n (takeOver ((s.judgeNoDec n).storePost (CH_OVER_VERD n) (CH_OVER_SEQ n) (CH_OVER_CAUSE n) v).time ((CH_OVER_VERD n).of v))
/-- R193: input i is marked for interference. -/
def markInterference (s : State) (i : Nat) : State := (s.raiseFlag (SPT_STAT_INTERF i)).report clProof (0x341 + 2 * i) 1 13
theorem postOver_taken (h : s.postRequester r sv = true) (he : (s.prf n).oFree = true ∨ (CH_OVER_SEQ n).of v = (s.rd (CH_OVER_SEQ n) + 1) % 16) :
    s.postOver r sv n v = if (CH_OVER_CAUSE n).of v = 3 ∧ ((CH_OVER_VERD n).of v = 0 ∨ (CH_OVER_VERD n).of v = 3) then (s.storeOver n v).markInterference ((s.storeOver n v).rd (CH_PCFG_INP n)) else s.storeOver n v := by
  have hnot : ¬(¬(s.prf n).oFree = true ∧ (CH_OVER_SEQ n).of v ≠ (s.rd (CH_OVER_SEQ n) + 1) % 16) := by
    rintro ⟨h1, h2⟩
    rcases he with he | he
    · exact h1 he
    · exact h2 he
  rw [postOver, if_neg (not_not_intro h)]
  exact if_neg hnot
/-- The state beside what an optical post concerns: registers, proofs, the collector and the marks of R15. -/
def overAside (s : State) : State := { proofAside s with coll := {}, hwNow := [] }
theorem overAside_of (h : proofAside t = proofAside s) : overAside t = overAside s := by rw [overAside, h, overAside]
theorem overAside_report {cls id sev path : Nat} {data : List Nat} : overAside (s.report cls id sev path data) = overAside s := rfl
theorem overAside_raiseFlag : overAside (s.raiseFlag f) = overAside s := rfl
theorem rest_of_overAside (h : overAside t = overAside s) : { t with regs := s.regs, prfs := s.prfs, coll := s.coll, hwNow := s.hwNow } = s :=
  congrArg (fun x : State => { x with regs := s.regs, prfs := s.prfs, coll := s.coll, hwNow := s.hwNow }) h
theorem judgeNoDec_rd : (s.judgeNoDec n).rd f = s.rd f := by
  unfold judgeNoDec
  split
  · rw [report_rd, modPrf_rd]
  · rfl
theorem judgeNoDec_time : (s.judgeNoDec n).time = s.time := by
  unfold judgeNoDec
  split
  · rw [report_time, modPrf_time]
  · rfl
theorem judgeNoDec_overAside : overAside (s.judgeNoDec n) = overAside s := by
  unfold judgeNoDec
  split
  · rw [overAside_report, overAside_of proofAside_modPrf]
  · rfl
theorem judgeNoDec_prf : ((s.judgeNoDec n).prf m).unreported = (s.prf m).unreported := by
  unfold judgeNoDec
  split
  · rw [report_prf, prf_modPrf]
    split
    · next h =>
      rw [h]
      rfl
    · rfl
  · rfl
theorem judgeNoDec_else (h : m ≠ n) : (s.judgeNoDec n).prf m = s.prf m := by
  unfold judgeNoDec
  split
  · rw [report_prf, prf_modPrf, if_neg h]
  · rfl
theorem storeOver_prf : (s.storeOver n v).prf m = if m = n then takeOver s.time ((CH_OVER_VERD n).of v) ((s.judgeNoDec n).prf n) else (s.judgeNoDec n).prf m := by
  have htime : ((s.judgeNoDec n).storePost (CH_OVER_VERD n) (CH_OVER_SEQ n) (CH_OVER_CAUSE n) v).time = s.time := by rw [storePost, wr_time, wr_time, wr_time, judgeNoDec_time]
  rw [storeOver, prf_modPrf, htime, storePost_prf, storePost_prf]
theorem storeOver_fields : FieldsKept (CH_OVER n).fields s (s.storeOver n v) := by
  have h : FieldsKept (CH_OVER n).fields s (s.judgeNoDec n) := fun _ _ => judgeNoDec_rd
  exact (h.trans storePost_fields).modPrf
theorem over_keys : (CH_OVER_VERD n).key ≠ (CH_OVER_SEQ n).key ∧ (CH_OVER_VERD n).key ≠ (CH_OVER_CAUSE n).key ∧ (CH_OVER_SEQ n).key ≠ (CH_OVER_CAUSE n).key := by
  simp [Fld.key, CH_OVER_VERD, CH_OVER_SEQ, CH_OVER_CAUSE]
theorem storeOver_rd : ∀ f ∈ (CH_OVER n).fields, (s.storeOver n v).rd f = f.of v := by
  obtain ⟨h1, h2, h3⟩ := over_keys (n := n)
  intro f hf
  rw [storeOver, modPrf_rd]
  exact storePost_rd h1 h2 h3 f hf
theorem storeOver_overAside : overAside (s.storeOver n v) = overAside s := by
  rw [storeOver, overAside_of proofAside_modPrf, overAside_of storePost_proofAside, judgeNoDec_overAside]
theorem over_at : ∀ f ∈ (CH_OVER n).fields, f.addr = chAddr n + 0x303 ∧ f.lo < 256 := by
  intro f hf
  simp only [CH_OVER, List.mem_cons, List.not_mem_nil, or_false] at hf
  rcases hf with rfl | rfl | rfl <;> simp [CH_OVER_VERD, CH_OVER_SEQ, CH_OVER_CAUSE]
theorem over_not_interference {i : Nat} (hn : n < 192) : ∀ f ∈ (CH_OVER n).fields, f.key ≠ (SPT_STAT_INTERF i).key := by
  intro f hf
  obtain ⟨haddr, hlo⟩ := over_at f hf
  simp only [Fld.key, haddr, SPT_STAT_INTERF, chAddr, ne_eq]
  omega
theorem storeOver_input : (s.storeOver n v).rd (CH_PCFG_INP n) = s.rd (CH_PCFG_INP n) := storeOver_fields _ fun g hg => by
  obtain ⟨haddr, hlo⟩ := over_at g hg
  simp only [Fld.key, haddr, CH_PCFG_INP, ne_eq]
  omega
theorem opticalPost_does {n : Fin 192} {w : Word} (ha : Accepts s r (CH_OVER n) w.toNat) :
    (s.postRequester r (s.svMode r) = true → (s.prf n).oFree = true ∨ (CH_OVER_SEQ n).of w.toNat = (s.rd (CH_OVER_SEQ n) + 1) % 16 →
      ∃ t, exec (.opticalVerdictPost r n w) s = .next t ∧ (∀ f ∈ (CH_OVER n).fields, t.rd f = f.of w.toNat) ∧
        (t.prf n).oAny = true ∧ (t.prf n).oFree = false ∧ (t.prf n).oAt = some s.time ∧ ElseSame t.prf s.prf n ∧
        FieldsKept (SPT_STAT_INTERF (s.rd (CH_PCFG_INP n)) :: (CH_OVER n).fields) s t ∧ { t with regs := s.regs, prfs := s.prfs, coll := s.coll, hwNow := s.hwNow } = s) ∧
    (s.postRequester r (s.svMode r) = true → (s.prf n).oFree = false → (CH_OVER_SEQ n).of w.toNat ≠ (s.rd (CH_OVER_SEQ n) + 1) % 16 →
      exec (.opticalVerdictPost r n w) s = .next s) := by
  rw [exec_opticalVerdictPost, command_over ha]
  refine ⟨fun h he => ?_, fun h he hq => congrArg _ (postOver_out h he hq)⟩
  rw [postOver_taken h he, storeOver_input]
  have hown : ∀ u : State, (∀ m, u.prf m = (s.storeOver n w.toNat).prf m) → (u.prf n).oAny = true ∧ (u.prf n).oFree = false ∧ (u.prf n).oAt = some s.time ∧ ElseSame u.prf s.prf n := fun u hu => by
    have hn : u.prf n = takeOver s.time ((CH_OVER_VERD n).of w.toNat) ((s.judgeNoDec n).prf n) := by rw [hu, storeOver_prf, if_pos rfl]
    exact ⟨congrArg Prf.oAny hn, congrArg Prf.oFree hn, congrArg Prf.oAt hn, fun m hm => by rw [hu, storeOver_prf, if_neg hm, judgeNoDec_else hm]⟩
  have hkept : FieldsKept (SPT_STAT_INTERF (s.rd (CH_PCFG_INP n)) :: (CH_OVER n).fields) s (s.storeOver n w.toNat) := storeOver_fields.mono fun g hg => List.mem_cons_of_mem _ hg
  split
  · obtain ⟨h1, h2, h3, h4⟩ := hown ((s.storeOver n w.toNat).markInterference (s.rd (CH_PCFG_INP n))) fun m => by rw [markInterference, report_prf, raiseFlag_prf]
    refine ⟨_, rfl, fun f hf => ?_, h1, h2, h3, h4, .report (.raiseFlag List.mem_cons_self hkept), rest_of_overAside ?_⟩
    · rw [markInterference, report_rd, rd_raiseFlag_ne (over_not_interference n.isLt f hf), storeOver_rd f hf]
    · rw [markInterference, overAside_report, overAside_raiseFlag, storeOver_overAside]
  · obtain ⟨h1, h2, h3, h4⟩ := hown (s.storeOver n w.toNat) fun _ => rfl
    exact ⟨_, rfl, storeOver_rd, h1, h2, h3, h4, hkept, rest_of_overAside storeOver_overAside⟩

/-! ### The balance of a code (R172) -/

theorem wrap_lt {width : Nat} {x : Int} : wrap width x < 2 ^ width := by
  have hpos : (0 : Int) < 2 ^ width := Int.pow_pos (by decide)
  have hmod := Int.emod_lt_of_pos x hpos
  have hnonneg := Int.emod_nonneg x hpos.ne'
  rw [wrap]
  zify
  rwa [Int.toNat_of_nonneg hnonneg]
theorem codeBalance_eq {k : Nat} : codeBalance k = (List.range 1023).foldl (fun a j => a + if chip k j then 1 else -1) (0 : Int) := rfl
theorem codeBalance_does {w : Word} (ha : Accepts s r SPT_CBIDX w.toNat) (hw : w.toNat ≤ 1024) : ∃ t, exec (.codeBalanceQuery r w) s = .next t ∧ t.rd SPT_CBIDX_IDX = w.toNat ∧
    t.rd SPT_CBAL_BAL = wrap 12 ((List.range 1023).foldl (fun a j => a + if chip w.toNat j then 1 else -1) (0 : Int)) ∧ FieldsKept [SPT_CBIDX_IDX, SPT_CBAL_BAL] s t ∧ { t with regs := s.regs } = s := by
  have hof : SPT_CBIDX_IDX.of w.toNat = w.toNat := by
    simp only [Fld.of, bits, SPT_CBIDX_IDX]
    omega
  have hexec : exec (.codeBalanceQuery r w) s = .next ((s.wr SPT_CBIDX_IDX w.toNat).wr SPT_CBAL_BAL (wrap 12 (codeBalance w.toNat))) := by
    rw [exec_codeBalanceQuery, command_cbidx ha, writeCbidx, hof, if_neg (by omega)]
  refine ⟨_, hexec, ?_, ?_, .wr (by simp) (.wr (by simp) .refl), rest_of_bare (by rw [bare_wr, bare_wr])⟩
  · rw [rd_wr_ne (by decide), rd_wr_same]
    exact Nat.mod_eq_of_lt (show w.toNat < 2048 by omega)
  · rw [rd_wr_same, codeBalance_eq]
    exact Nat.mod_eq_of_lt wrap_lt

/-! ### The request for a latch's release (R188) -/

theorem command_lclr (h : Accepts s r SN_LCLR v) : s.command r SN_LCLR v = (s.unstage r SN_LCLR).writeLclr r (s.svMode r) v := command_accepts h
/-- The requester and the key of a release are right. -/
def mayRelease (r : Requester) (sv : Bool) (v : Nat) : Bool :=
  (match r with | .core q => decide (q.val < 64) && sv | _ => false) && SN_LCLR_KEY.of v == 0x3C3 && decide (SN_LCLR_CH.of v ≤ 191)
/-- The release of the latch of channel n waits. -/
def holdRelease (s : State) (n : Nat) : State := ((s.wr SN_LCLR_CH n).wr SN_LCLRST_REF 0).put SN_LCLRST_PEND true
theorem writeLclr_eq : s.writeLclr r sv v = if mayRelease r sv v = false then s.report clCfg 0xE21 1 12 else if s.on (CH_SSTAT_LATCH (SN_LCLR_CH.of v)) = false then s else s.holdRelease (SN_LCLR_CH.of v) := by
  simp only [writeLclr, ← Bool.not_eq_true]
  rfl
theorem lclr_parts {ch : BitVec 8} {key : Word} : SN_LCLR_CH.of (ch.toNat * 2 ^ SN_LCLR_CH.lo + key.toNat * 2 ^ SN_LCLR_KEY.lo) = ch.toNat ∧ SN_LCLR_KEY.of (ch.toNat * 2 ^ SN_LCLR_CH.lo + key.toNat * 2 ^ SN_LCLR_KEY.lo) = key.toNat := by
  have hch := ch.isLt
  have hkey := key.isLt
  simp only [Fld.of, bits, SN_LCLR_CH, SN_LCLR_KEY]
  omega
theorem holdRelease_does (hn : n < 256) : (s.holdRelease n).rd SN_LCLRST_PEND = 1 ∧ (s.holdRelease n).rd SN_LCLRST_REF = 0 ∧ (s.holdRelease n).rd SN_LCLR_CH = n := by
  refine ⟨?_, ?_, ?_⟩
  · rw [holdRelease, rd_put_same (by decide)]
    rfl
  · rw [holdRelease, rd_put_ne (by decide), rd_wr_same]
    rfl
  · rw [holdRelease, rd_put_ne (by decide), rd_wr_ne (by decide), rd_wr_same]
    exact Nat.mod_eq_of_lt hn
/-- The state beside its registers and the words staged. -/
def requestAside (s : State) : State := { s with regs := [], staged := [] }
theorem requestAside_wr : requestAside (s.wr f v) = requestAside s := rfl
theorem requestAside_put {b : Bool} : requestAside (s.put f b) = requestAside s := rfl
theorem rest_of_requestAside (h : requestAside t = requestAside s) : { t with regs := s.regs, staged := s.staged } = s := congrArg (fun x : State => { x with regs := s.regs, staged := s.staged }) h
/-- The state beside the collector and the words staged. -/
def refusedAside (s : State) : State := { s with coll := {}, staged := [] }
theorem refusedAside_report {cls id sev path : Nat} {data : List Nat} : refusedAside (s.report cls id sev path data) = refusedAside s := rfl
theorem rest_of_refusedAside (h : refusedAside t = refusedAside s) : { t with coll := s.coll, staged := s.staged } = s := congrArg (fun x : State => { x with coll := s.coll, staged := s.staged }) h
theorem unstage_part {α : Type} (P : State → α) (h : ∀ u a, P (u.setStaged r a none) = P u) {reg : Reg} : P (s.unstage r reg) = P s := unstage_same (fun u => P u = P s) (fun u a hu => (h u a).trans hu) rfl
theorem releaseRequest_does {q : Fin 256} {ch : BitVec 8} {key : Word} (ha : Accepts s (Requester.core q) SN_LCLR (ch.toNat * 2 ^ SN_LCLR_CH.lo + key.toNat * 2 ^ SN_LCLR_KEY.lo)) :
    let r := Requester.core q
    let ok := decide (q.val < 64) && s.coreSv q && key.toNat == 0x3C3 && decide (ch.toNat ≤ 191)
    (ok = true → s.rd (CH_SSTAT_LATCH ch.toNat) = 1 → ∃ t, exec (.latchReleaseRequest r ch key) s = .next t ∧ t.rd SN_LCLRST_PEND = 1 ∧
      t.rd SN_LCLRST_REF = 0 ∧ t.rd SN_LCLR_CH = ch.toNat ∧ FieldsKept [SN_LCLRST_PEND, SN_LCLRST_REF, SN_LCLR_CH] s t ∧
      { t with regs := s.regs, staged := s.staged } = s) ∧
    (ok = false → ∃ t, exec (.latchReleaseRequest r ch key) s = .next t ∧ t.coll = (s.report clCfg 0xE21 1 12).coll ∧
      { t with coll := s.coll, staged := s.staged } = s) := by
  intro r ok
  obtain ⟨hch, hkey⟩ := lclr_parts (ch := ch) (key := key)
  have hok : mayRelease r (s.svMode r) (ch.toNat * 2 ^ SN_LCLR_CH.lo + key.toNat * 2 ^ SN_LCLR_KEY.lo) = ok := by
    rw [mayRelease, hch, hkey]
    rfl
  rw [exec_latchReleaseRequest, command_lclr ha, writeLclr_eq, hok, hch]
  have hrd : ∀ f, (s.unstage r SN_LCLR).rd f = s.rd f := fun f => unstage_part (fun t => t.rd f) fun _ _ => rfl
  have hrequest : requestAside (s.unstage r SN_LCLR) = requestAside s := unstage_part requestAside fun _ _ => rfl
  have hrefused : refusedAside (s.unstage r SN_LCLR) = refusedAside s := unstage_part refusedAside fun _ _ => rfl
  have hcoll : (s.unstage r SN_LCLR).coll = s.coll := unstage_part State.coll fun _ _ => rfl
  have htime : (s.unstage r SN_LCLR).time = s.time := unstage_part State.time fun _ _ => rfl
  have hofs : (s.unstage r SN_LCLR).devOfs = s.devOfs := unstage_part State.devOfs fun _ _ => rfl
  clear_value ok
  generalize s.unstage r SN_LCLR = u at *
  refine ⟨fun h hl => ?_, fun h => ?_⟩
  · have hon : ¬u.on (CH_SSTAT_LATCH ch.toNat) = false := by simp [on, hrd, hl]
    rw [h, if_neg (by decide), if_neg hon]
    obtain ⟨hp, hr, hc⟩ := holdRelease_does (s := u) ch.isLt
    refine ⟨_, rfl, hp, hr, hc, ?_, ?_⟩
    · exact FieldsKept.trans (fun f _ => hrd f) (.put (by simp) (.wr (by simp) (.wr (by simp) .refl)))
    · refine rest_of_requestAside ?_
      rw [holdRelease, requestAside_put, requestAside_wr, requestAside_wr, hrequest]
  · rw [h, if_pos rfl]
    refine ⟨_, rfl, report_congr hcoll htime hofs, rest_of_refusedAside ?_⟩
    rw [refusedAside_report, hrefused]
end State
end Sys2Proof.Machine
end

section
/-! What the proofs of the channels do not touch: the expectations (R162), the code periods (R175) and the members of an aspect. -/
namespace Sys2Proof.Machine
open Sys2Proof.Safety

namespace State
variable {s t u : State} {n m a g v : Nat} {f : Fld}

/-- An address of a channel's coarse verdict, of CHn_PVER or CHn_PFCNT, or of a group's verdict. -/
def ProofAddr (a : Nat) : Prop :=
  (0xC00000 ≤ a ∧ a < 0xD00000 ∧ ((a % 0x40000 < 0x30000 ∧ (a % 0x400 = 0x304 ∨ a % 0x400 = 0x30B)) ∨ (0x30000 ≤ a % 0x40000 ∧ a % 64 = 8))) ∨ (0xD12240 ≤ a ∧ a < 0xD12260)
/-- The state beside its registers, the proofs, the dwells, the groups and the collector. -/
def verdictAside (s : State) : State := { s with regs := [], prfs := [], rxs := [], optSince := none, groups := [], coll := {} }
/-- The states differ in what the proofs hold, in nothing else that a proof reads. -/
def Beside (s t : State) : Prop := (∀ f : Fld, ¬ProofAddr (f.key / 256) → t.rd f = s.rd f) ∧ verdictAside t = verdictAside s
theorem Beside.refl : Beside s s := ⟨fun _ _ => rfl, rfl⟩
theorem Beside.trans (h : Beside s t) (h' : Beside t u) : Beside s u := ⟨fun f hf => (h'.1 f hf).trans (h.1 f hf), h'.2.trans h.2⟩
/-- What writes fields of the proofs only. -/
theorem Beside.of_fields {l : List Fld} (hl : ∀ g ∈ l, ProofAddr (g.key / 256)) (h : FieldsKept l s t) (h' : verdictAside t = verdictAside s) : Beside s t :=
  ⟨fun f hf => h f fun g hg hkey => hf (by rw [hkey]; exact hl g hg), h'⟩
theorem Beside.part {α : Type} (h : Beside s t) (P : State → α) (hP : ∀ x : State, P (verdictAside x) = P x) : P t = P s := by rw [← hP t, h.2, hP]
theorem Beside.at {p : Nat × Nat} (h : Beside s t) (hf : AtPlace f n p) (hp : p.1 ≠ 0x304 ∧ p.1 ≠ 0x30B) (_ : n < 192) : t.rd f = s.rd f := by
  obtain ⟨hkey, hoff, hlo⟩ := hf
  refine h.1 f ?_
  rw [hkey]
  simp only [ProofAddr, chAddr]
  omega
theorem proof_addr (hn : n < 192) : ProofAddr ((CW_CVER_CVER n).key / 256) ∧ ProofAddr ((CH_PFCNT_VALUE n).key / 256) ∧ ∀ g ∈ (CH_PVER n).fields, ProofAddr (g.key / 256) := by
  have hpver : ∀ g ∈ (CH_PVER n).fields, g.addr = chAddr n + 0x304 ∧ g.lo < 256 := by
    intro g hg
    simp only [CH_PVER, List.mem_cons, List.not_mem_nil, or_false] at hg
    rcases hg with rfl | rfl | rfl | rfl | rfl | rfl | rfl <;> simp [CH_PVER_STATE, CH_PVER_CFAIL, CH_PVER_EFAIL, CH_PVER_OFAIL, CH_PVER_ESTALE, CH_PVER_OSTALE, CH_PVER_EXPLIT]
  refine ⟨?_, ?_, fun g hg => ?_⟩
  · simp only [ProofAddr, Fld.key, CW_CVER_CVER, cwAddr]
    omega
  · simp only [ProofAddr, Fld.key, CH_PFCNT_VALUE, chAddr]
    omega
  · obtain ⟨haddr, hlo⟩ := hpver g hg
    simp only [ProofAddr, Fld.key, haddr, chAddr]
    omega

section
variable (h : Beside s t) (hn : n < 192)
include h hn

/-! ### The configuration of a channel -/

theorem Beside.topo : t.topo n = s.topo n := h.at (p := (0x000, 0)) ⟨rfl, by decide, by decide⟩ (by decide) hn
theorem Beside.full : t.full n = s.full n := by
  have hgen : t.gen n = s.gen n := h.part (fun x => x.gen n) fun _ => rfl
  rw [State.full, h.topo hn, dimN, hgen]
  rfl
theorem Beside.head : t.head n = s.head n := by
  have hbelow : n - 1 < 192 := by omega
  have hpair : t.rd (CH_CFG_HBPAIR (n - 1)) = s.rd (CH_CFG_HBPAIR (n - 1)) := h.at (p := (0x000, 2)) ⟨rfl, by decide, by decide⟩ (by decide) hbelow
  rw [State.head, hpair, h.topo hn, h.topo hbelow]
  rfl
theorem Beside.latch : t.on (CH_SSTAT_LATCH n) = s.on (CH_SSTAT_LATCH n) := by
  rw [on, h.at (f := CH_SSTAT_LATCH n) (p := (0x024, 0)) ⟨rfl, by decide, by decide⟩ (by decide) hn, on]
omit h in
theorem head_lt_channels : s.head n < 192 := by
  unfold State.head
  split
  · omega
  · exact hn
theorem Beside.latched : t.latched n = s.latched n := by rw [State.latched, h.latch hn, h.head hn, h.latch (head_lt_channels hn), State.latched]
omit hn in
theorem Beside.generator : t.gen n = s.gen n := h.part (fun x => x.gen n) fun _ => rfl

/-! ### Its safe state -/

omit hn in
theorem Beside.above (hf : 0xD12260 * 256 ≤ f.key ∨ 0xD00000 * 256 ≤ f.key ∧ f.key < 0xD12240 * 256) : t.rd f = s.rd f := h.1 f (by simp only [ProofAddr]; omega)
omit hn in
theorem Beside.flashOn : t.flashOn = s.flashOn := h.part (fun x => x.flashOn) fun _ => rfl
theorem Beside.safeState : t.safeState n = s.safeState n := by
  rw [State.safeState, h.head hn, h.above (by simp only [Fld.key, SEAL_SS_STATE]; omega), State.safeState]
theorem Beside.doubled : t.doubled n v = s.doubled n v := by
  rw [State.doubled, on, h.above (by simp only [Fld.key, MIR_SPLIT_DBL]; omega), h.full hn, State.doubled, on]
theorem Beside.safeValue : t.safeValue n = s.safeValue n := by
  have hval : t.rd (SEAL_SS_VALUE (t.head n)) = s.rd (SEAL_SS_VALUE (s.head n)) := by rw [h.head hn, h.above (by simp only [Fld.key, SEAL_SS_VALUE]; omega)]
  have hdbl : t.on (MIR_SPLIT_DBL n) = s.on (MIR_SPLIT_DBL n) := by rw [on, h.above (by simp only [Fld.key, MIR_SPLIT_DBL]; omega), on]
  have hprot : t.prot n = s.prot n := h.part (fun x => x.prot n) fun _ => rfl
  simp only [State.safeValue, h.safeState hn, h.doubled hn, hval, hdbl, hprot, h.flashOn]
theorem Beside.derate : t.derate n v = s.derate n v := by
  rw [State.derate, ceiling, h.full hn, h.at (f := CH_DFAC_DFAC n) (p := (0x02C, 0)) ⟨rfl, by decide, by decide⟩ (by decide) hn, State.derate, ceiling]
theorem Beside.rejoining : t.rejoining n = s.rejoining n := by
  have hdev : t.dev = s.dev := h.part State.dev fun _ => rfl
  rw [State.rejoining, hdev, on, h.above (by simp only [Fld.key, MIR_SPLIT_EN]; omega), State.rejoining, on]

/-! ### Its aspect, and its expectation -/

theorem Beside.group_fields : t.rd (CH_AGRP_GRP n) = s.rd (CH_AGRP_GRP n) ∧ t.on (CH_AGRP_GEN n) = s.on (CH_AGRP_GEN n) :=
  ⟨h.at (p := (0x208, 0)) ⟨rfl, by decide, by decide⟩ (by decide) hn, by rw [on, h.at (f := CH_AGRP_GEN n) (p := (0x208, 4)) ⟨rfl, by decide, by decide⟩ (by decide) hn, on]⟩
omit hn in
theorem Beside.aspect_shown (hg : g < 16) : t.on (SN_AGACT_VALID g) = s.on (SN_AGACT_VALID g) ∧ t.rd (SN_AGACT_ASP g) = s.rd (SN_AGACT_ASP g) :=
  ⟨by rw [on, h.above (by simp only [Fld.key, SN_AGACT_VALID]; omega), on], h.above (by simp only [Fld.key, SN_AGACT_ASP]; omega)⟩
theorem Beside.activeAspect : t.activeAspect n = s.activeAspect n := by
  obtain ⟨hgrp, hgen⟩ := h.group_fields hn
  have hlt : s.rd (CH_AGRP_GRP n) < 16 := rd_lt (f := CH_AGRP_GRP n)
  obtain ⟨hvalid, hasp⟩ := h.aspect_shown hlt
  simp only [State.activeAspect, hgrp, hgen, hvalid, hasp]
theorem Beside.slotKind (ha : a < 64) : t.slotKind n a = s.slotKind n a := by
  obtain ⟨hgrp, hgen⟩ := h.group_fields hn
  have hasp : t.rd (SN_ASP_GROUP a) = s.rd (SN_ASP_GROUP a) := h.above (by simp only [Fld.key, SN_ASP_GROUP]; omega)
  have hkind : t.rd (CH_SLOT_KIND n a) = s.rd (CH_SLOT_KIND n a) := h.at (p := (0x280 + 2 * a, 16)) ⟨by simp only [Fld.key, CH_SLOT_KIND]; omega, by simp only; omega, by simp⟩ (by simp only; omega) hn
  simp only [State.slotKind, hgrp, hgen, hasp, hkind]
theorem Beside.member (ha : a < 64) : t.member n a = s.member n a := by rw [State.member, h.slotKind hn ha, State.member]
omit h hn in
theorem activeAspect_lt (ha : s.activeAspect n = some a) : a < 64 := by
  unfold State.activeAspect at ha
  extract_lets g at ha
  split at ha
  · rw [← Option.some.inj ha]
    exact rd_lt (f := SN_AGACT_ASP g)
  · cases ha
theorem Beside.activeKind : t.activeKind n = s.activeKind n := by
  rw [State.activeKind, h.activeAspect hn, State.activeKind]
  cases ha : s.activeAspect n with
  | none => rfl
  | some a => exact h.slotKind hn (activeAspect_lt ha)
theorem Beside.judgedLit : t.judgedLit n v = s.judgedLit n v := by
  have hmin : t.rd (CW_CMIN_CMIN n) = s.rd (CW_CMIN_CMIN n) := h.1 _ (by simp only [ProofAddr, Fld.key, CW_CMIN_CMIN, cwAddr]; omega)
  rw [State.judgedLit, hmin, h.full hn, State.judgedLit]
theorem Beside.expectation : t.expectation n = s.expectation n := by
  have happl : t.rd (CH_APPL_VALUE n) = s.rd (CH_APPL_VALUE n) := h.at (p := (0x206, 0)) ⟨rfl, by decide, by decide⟩ (by decide) hn
  simp only [State.expectation, h.activeKind hn, h.rejoining hn, h.latched hn, h.safeState hn, h.derate hn, h.safeValue hn, h.flashOn, h.judgedLit hn, happl]
theorem Beside.expectedMean : t.expectedMean n = s.expectedMean n := by
  have hinom : t.rd (CW_INOM_INOM n) = s.rd (CW_INOM_INOM n) := h.1 _ (by simp only [ProofAddr, Fld.key, CW_INOM_INOM, cwAddr]; omega)
  simp only [State.expectedMean, h.expectation hn, h.topo hn, hinom, h.full hn]

/-! ### Its code period -/

theorem Beside.perF : t.perF n = s.perF n := by
  rw [State.perF, sealedPer, h.latched hn, h.safeState hn, h.head hn, h.above (by simp only [Fld.key, SEAL_SS_PER]; omega), h.generator, State.perF, sealedPer]
theorem Beside.codePeriod : t.codePeriod n = s.codePeriod n := by
  have hchip : t.rd (CH_CODE_CHIPR n) = s.rd (CH_CODE_CHIPR n) := h.at (p := (0x10C, 1)) ⟨rfl, by decide, by decide⟩ (by decide) hn
  simp only [State.codePeriod, h.topo hn, hchip, h.perF hn]
theorem Beside.optical : t.on (CH_PCFG_OREQ n) = s.on (CH_PCFG_OREQ n) := by
  rw [on, h.at (f := CH_PCFG_OREQ n) (p := (0x300, 0)) ⟨rfl, by decide, by decide⟩ (by decide) hn, on]
theorem Beside.electrical : t.on (CH_PCFG_EREQ n) = s.on (CH_PCFG_EREQ n) := by
  rw [on, h.at (f := CH_PCFG_EREQ n) (p := (0x300, 1)) ⟨rfl, by decide, by decide⟩ (by decide) hn, on]
theorem Beside.deadline : t.deadline n = s.deadline n := by rw [State.deadline, h.optical hn, h.codePeriod hn, State.deadline]
end
end State
end Sys2Proof.Machine
end

section
/-! Conversions (R56, R164, R167, R299) and the coarse lit window (R165). -/
namespace Sys2Proof.Machine
open Sys2Proof.Safety

theorem exec_converterSample {s : State} {n : Fin 192} {i v : Word} : exec (.converterSample n i v) s = execConverterSample n i v s := rfl
theorem exec_coarseLitEvaluation {s : State} : exec .coarseLitEvaluation s = execCoarseLitEvaluation s := rfl

namespace State
variable {s t u : State} {n m i v d st : Nat} {valid : Bool} {x : Int} {l : List Nat} {ms : List Int}

/-! ### The dark test (R167) -/

/-- The dark test looks at a sample. -/
def darkTested (s : State) (n : Nat) (valid : Bool) : Bool := s.on (CW_CFG_DEN n) && (s.prf n).expt == .dark && decide ((s.prf n).exptAt + 160 * s.rd (CW_DSET_DSET n) ≤ s.time) && valid
/-- A sample is outside the dark window. -/
def outside (s : State) (n : Nat) (x : Int) (v : Nat) : Bool := decide (2 * s.rd (CW_IDARK_IDARK n) < x.natAbs) || decide (s.rd (CW_VDARK_VDARK n) < v)
/-- The run of samples outside the dark window. -/
def setRun (s : State) (n k : Nat) : State := s.setPrf n { s.prf n with darkRun := k }
theorem setRun_prf {k : Nat} : (s.setRun n k).prf m = if m = n then { s.prf n with darkRun := k } else s.prf m := prf_setPrf
theorem setRun_proofAside {k : Nat} : proofAside (s.setRun n k) = proofAside s := proofAside_setPrf
theorem setRun_rd {k : Nat} {f : Fld} : (s.setRun n k).rd f = s.rd f := setPrf_rd
/-- One more sample in a row is outside the dark window. -/
def darker (s : State) (n : Nat) : State :=
  if 8 ≤ (s.prf n).darkRun + 1 then ((s.setRun n ((s.prf n).darkRun + 1)).wr (CW_CVER_CVER n) 4).modPrf n fun p => { p with cNew := true } else s.setRun n ((s.prf n).darkRun + 1)
/-- A sample is inside the dark window. -/
def inside (s : State) (n : Nat) : State := if (s.prf n).cNew then s.setRun n 0 else (s.setRun n 0).wr (CW_CVER_CVER n) 1
theorem darkTest_eq : s.darkTest n valid x v = if s.darkTested n valid then (if s.outside n x v then s.darker n else s.inside n) else s := by
  unfold darkTest
  extract_lets p
  by_cases h : s.darkTested n valid = true
  · have hnot : ¬(¬s.on (CW_CFG_DEN n) ∨ p.expt ≠ .dark ∨ s.time < p.exptAt + 160 * s.rd (CW_DSET_DSET n) ∨ ¬valid) := by
      simp only [darkTested, Bool.and_eq_true, beq_iff_eq, decide_eq_true_eq] at h
      obtain ⟨⟨⟨hden, hexpt⟩, htime⟩, hvalid⟩ := h
      rintro (h1 | h1 | h1 | h1)
      · exact h1 hden
      · exact h1 hexpt
      · exact absurd h1 (Nat.not_lt.2 htime)
      · exact h1 hvalid
    rw [if_neg hnot, if_pos h]
    refine if_congr ?_ rfl rfl
    rw [outside, Bool.or_eq_true, decide_eq_true_eq, decide_eq_true_eq]
  · have hor : ¬s.on (CW_CFG_DEN n) ∨ p.expt ≠ .dark ∨ s.time < p.exptAt + 160 * s.rd (CW_DSET_DSET n) ∨ ¬valid := by
      by_contra hnone
      simp only [not_or, not_not, ne_eq, Nat.not_lt] at hnone
      obtain ⟨hden, hexpt, htime, hvalid⟩ := hnone
      refine h ?_
      simp only [darkTested, Bool.and_eq_true, beq_iff_eq, decide_eq_true_eq]
      exact ⟨⟨⟨hden, hexpt⟩, htime⟩, hvalid⟩
    rw [if_pos hor, if_neg h]
theorem darker_does : ((s.darker n).prf n).darkRun = (s.prf n).darkRun + 1 ∧ (s.darker n).rd (CW_CVER_CVER n) = (if 7 ≤ (s.prf n).darkRun then 4 else s.rd (CW_CVER_CVER n)) ∧
    ((s.darker n).prf n).samples = (s.prf n).samples ∧ ElseSame (s.darker n).prf s.prf n ∧ FieldsKept [CW_CVER_CVER n] s (s.darker n) ∧ proofAside (s.darker n) = proofAside s := by
  have hown : (s.setRun n ((s.prf n).darkRun + 1)).prf n = { s.prf n with darkRun := (s.prf n).darkRun + 1 } := by rw [setRun_prf, if_pos rfl]
  have hother : ElseSame (s.setRun n ((s.prf n).darkRun + 1)).prf s.prf n := fun m hm => by rw [setRun_prf, if_neg hm]
  unfold darker
  by_cases h : 8 ≤ (s.prf n).darkRun + 1
  · rw [if_pos h, if_pos (show 7 ≤ (s.prf n).darkRun by omega)]
    refine ⟨?_, ?_, ?_, fun m hm => ?_, .modPrf (.wr List.mem_cons_self fun _ _ => setRun_rd), ?_⟩
    · rw [prf_modPrf, if_pos rfl, wr_prf, hown]
    · rw [modPrf_rd, rd_wr_same]
      rfl
    · rw [prf_modPrf, if_pos rfl, wr_prf, hown]
    · rw [prf_modPrf, if_neg hm, wr_prf, hother m hm]
    · rw [proofAside_modPrf, proofAside_wr, setRun_proofAside]
  · rw [if_neg h, if_neg (show ¬7 ≤ (s.prf n).darkRun by omega), hown]
    exact ⟨rfl, setRun_rd, rfl, hother, fun _ _ => setRun_rd, setRun_proofAside⟩
theorem inside_does : ((s.inside n).prf n).darkRun = 0 ∧ (s.inside n).rd (CW_CVER_CVER n) = (if (s.prf n).cNew then s.rd (CW_CVER_CVER n) else 1) ∧
    ((s.inside n).prf n).samples = (s.prf n).samples ∧ ElseSame (s.inside n).prf s.prf n ∧ FieldsKept [CW_CVER_CVER n] s (s.inside n) ∧ proofAside (s.inside n) = proofAside s := by
  have hown : (s.setRun n 0).prf n = { s.prf n with darkRun := 0 } := by rw [setRun_prf, if_pos rfl]
  have hother : ElseSame (s.setRun n 0).prf s.prf n := fun m hm => by rw [setRun_prf, if_neg hm]
  unfold inside
  split
  · rw [hown]
    exact ⟨rfl, setRun_rd, rfl, hother, fun _ _ => setRun_rd, setRun_proofAside⟩
  · refine ⟨?_, ?_, ?_, fun m hm => ?_, .wr List.mem_cons_self fun _ _ => setRun_rd, ?_⟩
    · rw [wr_prf, hown]
    · rw [rd_wr_same]
      rfl
    · rw [wr_prf, hown]
    · rw [wr_prf, hother m hm]
    · rw [proofAside_wr, setRun_proofAside]
/-- What the dark test does. -/
theorem darkTest_does : let t := s.darkTest n valid x v
    (s.darkTested n valid = false → t.rd (CW_CVER_CVER n) = s.rd (CW_CVER_CVER n) ∧ (t.prf n).darkRun = (s.prf n).darkRun) ∧
    (s.darkTested n valid = true → s.outside n x v = true → (t.prf n).darkRun = (s.prf n).darkRun + 1 ∧ t.rd (CW_CVER_CVER n) = if 7 ≤ (s.prf n).darkRun then 4 else s.rd (CW_CVER_CVER n)) ∧
    (s.darkTested n valid = true → s.outside n x v = false → (t.prf n).darkRun = 0 ∧ t.rd (CW_CVER_CVER n) = if (s.prf n).cNew then s.rd (CW_CVER_CVER n) else 1) ∧
    (t.prf n).samples = (s.prf n).samples ∧ ElseSame t.prf s.prf n ∧ FieldsKept [CW_CVER_CVER n] s t ∧ proofAside t = proofAside s := by
  intro t
  have ht : t = if s.darkTested n valid then (if s.outside n x v then s.darker n else s.inside n) else s := darkTest_eq
  clear_value t
  cases htest : s.darkTested n valid
  · rw [htest, if_neg Bool.false_ne_true] at ht
    rw [ht]
    exact ⟨fun _ => ⟨rfl, rfl⟩, fun h => absurd h (by decide), fun h => absurd h (by decide), rfl, fun _ _ => rfl, .refl, rfl⟩
  · rw [htest, if_pos rfl] at ht
    cases hout : s.outside n x v
    · rw [hout, if_neg Bool.false_ne_true] at ht
      obtain ⟨h1, h2, h3⟩ := inside_does (s := s) (n := n)
      rw [ht]
      exact ⟨fun h => absurd h (by decide), fun _ h => absurd h (by decide), fun _ _ => ⟨h1, h2⟩, h3⟩
    · rw [hout, if_pos rfl] at ht
      obtain ⟨h1, h2, h3⟩ := darker_does (s := s) (n := n)
      rw [ht]
      exact ⟨fun h => absurd h (by decide), fun _ _ => ⟨h1, h2⟩, fun _ h => absurd h (by decide), h3⟩

/-! ### A conversion (R56, R57, R59, R164) -/

/-- The results of a conversion are stored, with the mean of the samples `ms`. -/
def storeResults (s : State) (n i v : Nat) (ms : List Int) (x : Int) : State :=
  (((s.wr (CH_IRES_RESULT n) i).wr (CH_VRES_RESULT n) v).modPrf n fun p => { p with samples := ms, lastValid := x }).wr (CW_MEAN_MEAN n) (wrap 24 (meanOf ms))
/-- The current result as it is stored: the invalid code in a range hold. -/
def resultOf (s : State) (n i : Nat) : Nat := if s.rd (CH_STAT_RHOLD n) = 1 then 0x800 else i
/-- The sample of a result. -/
def sampleOfResult (s : State) (n i : Nat) : Int := if i = 0x800 then (s.prf n).lastValid else s.sampleUnits n i
/-- The last 250 samples, with a new one. -/
def recentSamples (s : State) (n : Nat) (x : Int) : List Int :=
  let l := (s.prf n).samples ++ [if s.topo n = 3 then (x.natAbs : Int) else x]
  l.drop (l.length - 250)
theorem result_keys : (CH_IRES_RESULT n).key ≠ (CH_VRES_RESULT n).key ∧ (CH_IRES_RESULT n).key ≠ (CW_MEAN_MEAN n).key ∧ (CH_VRES_RESULT n).key ≠ (CW_MEAN_MEAN n).key := by
  simp only [Fld.key, CH_IRES_RESULT, CH_VRES_RESULT, CW_MEAN_MEAN, chAddr, cwAddr, ne_eq]
  omega
theorem storeResults_rd : (s.storeResults n i v ms x).rd (CH_IRES_RESULT n) = i % 4096 ∧ (s.storeResults n i v ms x).rd (CH_VRES_RESULT n) = v % 4096 ∧
    (s.storeResults n i v ms x).rd (CW_MEAN_MEAN n) = wrap 24 (meanOf ms) := by
  obtain ⟨h1, h2, h3⟩ := result_keys (n := n)
  refine ⟨?_, ?_, ?_⟩
  · rw [storeResults, rd_wr_ne h2, modPrf_rd, rd_wr_ne h1, rd_wr_same]
    rfl
  · rw [storeResults, rd_wr_ne h3, modPrf_rd, rd_wr_same]
    rfl
  · rw [storeResults, rd_wr_same]
    exact Nat.mod_eq_of_lt wrap_lt
theorem storeResults_fields : FieldsKept [CH_IRES_RESULT n, CH_VRES_RESULT n, CW_MEAN_MEAN n] s (s.storeResults n i v ms x) := by
  unfold storeResults
  exact .wr (by simp) (.modPrf (.wr (by simp) (.wr (by simp) .refl)))
theorem storeResults_prf : (s.storeResults n i v ms x).prf m = if m = n then { s.prf n with samples := ms, lastValid := x } else s.prf m := by
  rw [storeResults, wr_prf, prf_modPrf, wr_prf, wr_prf, wr_prf, wr_prf]
theorem storeResults_proofAside : proofAside (s.storeResults n i v ms x) = proofAside s := by
  rw [storeResults, proofAside_wr, proofAside_modPrf, proofAside_wr, proofAside_wr]
theorem storeResults_time : (s.storeResults n i v ms x).time = s.time := rfl
theorem results_other {f : Fld} (h1 : f.key ≠ (CH_IRES_RESULT n).key) (h2 : f.key ≠ (CH_VRES_RESULT n).key) (h3 : f.key ≠ (CW_MEAN_MEAN n).key) : (s.storeResults n i v ms x).rd f = s.rd f :=
  storeResults_fields f fun g hg => by
    simp only [List.mem_cons, List.not_mem_nil, or_false] at hg
    rcases hg with rfl | rfl | rfl
    · exact h1
    · exact h2
    · exact h3
theorem convert_eq {k : Nat} (hk : k = s.resultOf n i) (hx : x = s.sampleOfResult n k) (hm : ms = s.recentSamples n x) :
    s.convert n i v = (s.storeResults n k v ms x).darkTest n (k != 0x800) x v := by
  have hrange : ((s.wr (CH_IRES_RESULT n) k).wr (CH_VRES_RESULT n) v).rd (CH_SENSE_RANGE n) = s.rd (CH_SENSE_RANGE n) := by
    rw [rd_wr_ne (by simp only [Fld.key, CH_SENSE_RANGE, CH_VRES_RESULT, ne_eq]; omega), rd_wr_ne (by simp only [Fld.key, CH_SENSE_RANGE, CH_IRES_RESULT, ne_eq]; omega)]
  have htopo : ((s.wr (CH_IRES_RESULT n) k).wr (CH_VRES_RESULT n) v).topo n = s.topo n := by
    rw [topo, rd_wr_ne (by simp only [Fld.key, CH_CFG_TOPO, CH_VRES_RESULT, ne_eq]; omega), rd_wr_ne (by simp only [Fld.key, CH_CFG_TOPO, CH_IRES_RESULT, ne_eq]; omega), topo]
  have hunits : ((s.wr (CH_IRES_RESULT n) k).wr (CH_VRES_RESULT n) v).sampleUnits n k = s.sampleUnits n k := by rw [sampleUnits, on, hrange, sampleUnits, on]
  have hhold : (if s.on (CH_STAT_RHOLD n) then 0x800 else i) = k := by
    rw [hk, resultOf, on_eq rfl]
    simp only [decide_eq_true_eq]
  unfold convert
  rw [hhold]
  extract_lets k' valid u x' m' l0 l1 w
  have hx' : x' = x := by
    rw [hx, sampleOfResult]
    simp only [x', valid, u, k', hunits, bne_iff_ne, ite_not, wr_prf]
  have hl : l1 = ms := by
    rw [hm, recentSamples]
    simp only [l1, l0, m', hx', u, k', htopo, wr_prf]
  rw [hx', hl]
  simp only [w, hx', hl, storeResults, u, valid, k']

/-! ### The converter frame of a die (R56, R299) -/

theorem frameConverted_part {α : Type} (P : State → α) (hP : ∀ (y : State) w, P { y with flight := w } = P y) (hD : ∀ (y : State) k f, P (y.modDie k f) = P y) : P (s.frameConverted n) = P s := by
  unfold frameConverted
  extract_lets d l
  split
  · exact hD _ _ _
  · exact (sendStream_part P hP).trans (hD _ _ _)
/-- The channels of the die converted in this frame. -/
def convNow (s : State) (n : Nat) : List Nat := if (s.die (n / 48)).conv.contains (n % 48) then (s.die (n / 48)).conv else n % 48 :: (s.die (n / 48)).conv
theorem frameConverted_more (h : (s.convNow n).length < 48) : s.frameConverted n = s.modDie (n / 48) fun y => { y with conv := s.convNow n } := if_pos h
theorem frameConverted_last (h : 48 ≤ (s.convNow n).length) : s.frameConverted n = (s.modDie (n / 48) fun y => { y with conv := [] }).sendStream (n / 48) (s.converterFrame (n / 48)) := if_neg (Nat.not_lt.2 h)
theorem sendStream_die : (s.sendStream st l).die m = s.die m := sendStream_part (fun t => t.die m) fun _ _ => rfl
/-- The state beside the dies and the frames on their way. -/
def frameAside (s : State) : State := { s with dies := [], flight := [] }
theorem frameConverted_frameAside : frameAside (s.frameConverted n) = frameAside s := frameConverted_part frameAside (fun _ _ => rfl) fun _ _ _ => rfl
/-- A record of a stream is on its way to cluster j, where a RING takes it. -/
def sendStep (s : State) (st : Nat) (l : List Nat) (j : Nat) : State :=
  if (List.range 32).any (s.ringOn j st) then { s with flight := s.flight.set [] (64 * j + st) (s.flight.get [] (64 * j + st) ++ [l]) } else s
theorem sendStream_steps : s.sendStream st l = (s.sendStep st l 0).sendStep st l 1 := rfl
theorem sendStep_ringOn {j k : Nat} : (s.sendStep st l j).ringOn k st = s.ringOn k st := by
  unfold sendStep
  split
  · rfl
  · rfl
theorem sendStep_flight {j k : Nat} : (s.sendStep st l j).flight.get [] (64 * k + st) =
    if k = j ∧ (List.range 32).any (s.ringOn j st) = true then s.flight.get [] (64 * k + st) ++ [l] else s.flight.get [] (64 * k + st) := by
  unfold sendStep
  by_cases hring : (List.range 32).any (s.ringOn j st) = true
  · rw [if_pos hring, SMap.get_set]
    by_cases hkj : k = j
    · rw [if_pos (by rw [hkj]), if_pos ⟨hkj, hring⟩, hkj]
    · rw [if_neg (by omega), if_neg fun h => hkj h.1]
  · rw [if_neg hring, if_neg fun h => hring h.2]
/-- A record of a stream is on its way to the cluster that is one of the two, where a RING takes it. -/
theorem sendStream_flight {k : Nat} (hk : k < 2) : (s.sendStream st l).flight.get [] (64 * k + st) =
    if (List.range 32).any (s.ringOn k st) then s.flight.get [] (64 * k + st) ++ [l] else s.flight.get [] (64 * k + st) := by
  obtain rfl | rfl : k = 0 ∨ k = 1 := by omega
  · rw [sendStream_steps, sendStep_flight, if_neg (by omega), sendStep_flight]
    simp
  · rw [sendStream_steps, sendStep_flight, sendStep_flight, if_neg (by omega : ¬(1 = 0 ∧ _)), sendStep_ringOn]
    simp
end State
end Sys2Proof.Machine
end

section
/-! What CONVERTER_SAMPLE and COARSE_LIT_EVALUATION do (R56, R164, R165, R167, R299). -/
namespace Sys2Proof.Machine
open Sys2Proof.Safety
namespace State
variable {s t u : State} {n m d : Nat} {f : Fld}

/-! ### CONVERTER_SAMPLE -/

/-- The fields that a conversion writes. -/
def resultFields (n : Nat) : List Fld := [CH_IRES_RESULT n, CH_VRES_RESULT n, CW_MEAN_MEAN n, CW_CVER_CVER n]
theorem not_result (hn : n < 192) (hf : 0xD00000 * 256 ≤ f.key ∨ ∃ k, (k = cwAddr n + 0 ∨ k = cwAddr n + 4 ∨ k = cwAddr n + 5 ∨ k = cwAddr n + 7) ∧ f.key / 256 = k) : ∀ g ∈ resultFields n, f.key ≠ g.key := by
  intro g hg
  have haddr : g.key / 256 < 0xD00000 ∧ g.key / 256 ≠ cwAddr n ∧ g.key / 256 ≠ cwAddr n + 4 ∧ g.key / 256 ≠ cwAddr n + 5 ∧ g.key / 256 ≠ cwAddr n + 7 := by
    simp only [resultFields, List.mem_cons, List.not_mem_nil, or_false] at hg
    rcases hg with rfl | rfl | rfl | rfl
    all_goals
      simp only [Fld.key, CH_IRES_RESULT, CH_VRES_RESULT, CW_MEAN_MEAN, CW_CVER_CVER, chAddr, cwAddr]
      omega
  rintro hkey
  rw [← hkey] at haddr
  rcases hf with hf | ⟨k, hk, hf⟩
  · omega
  · omega
theorem ringOn_congr {k st : Nat} (h : ∀ f : Fld, 0xD00000 * 256 ≤ f.key → t.rd f = s.rd f) : t.ringOn k st = s.ringOn k st := by
  funext c
  have hstate : t.rd (DSTAT_STATE k c) = s.rd (DSTAT_STATE k c) := h _ (by simp only [Fld.key, DSTAT_STATE, dmaAddr]; omega)
  have hkind : t.rd (DCFG_KIND k c) = s.rd (DCFG_KIND k c) := h _ (by simp only [Fld.key, DCFG_KIND, dmaAddr]; omega)
  have hsrc : t.rd (DSRC_SRC k c) = s.rd (DSRC_SRC k c) := h _ (by simp only [Fld.key, DSRC_SRC, dmaAddr]; omega)
  rw [ringOn, dmaActive, dmaStream, hstate, hkind, hsrc, ringOn, dmaActive, dmaStream]
theorem proofAside_die : (proofAside s).die d = s.die d := rfl
theorem proofAside_flight : (proofAside s).flight = s.flight := rfl
/-- What the frame of the die takes of a conversion. -/
theorem frameConverted_does (hdie : ∀ d, s.die d = u.die d) (hflight : s.flight = u.flight) (hring : ∀ k st, s.ringOn k st = u.ringOn k st) : let t := s.frameConverted n
    (∀ f, t.rd f = s.rd f) ∧ (∀ m, t.prf m = s.prf m) ∧ ElseSame t.die u.die (n / 48) ∧
    ((u.convNow n).length < 48 → t.die (n / 48) = { u.die (n / 48) with conv := u.convNow n } ∧ t.flight = u.flight) ∧
    (48 ≤ (u.convNow n).length → t.die (n / 48) = { u.die (n / 48) with conv := [] } ∧ ∀ k, k < 2 → t.flight.get [] (64 * k + n / 48) =
      if (List.range 32).any (u.ringOn k (n / 48)) then u.flight.get [] (64 * k + n / 48) ++ [t.converterFrame (n / 48)] else u.flight.get [] (64 * k + n / 48)) := by
  intro t
  have hconv : s.convNow n = u.convNow n := by rw [convNow, hdie, convNow]
  refine ⟨fun f => frameConverted_part (fun y => y.rd f) (fun _ _ => rfl) fun _ _ _ => rfl, fun m => frameConverted_part (fun y => y.prf m) (fun _ _ => rfl) fun _ _ _ => rfl, fun m hm => ?_, fun h => ?_, fun h => ?_⟩
  · have helse : t.die m = s.die m := by
      unfold t frameConverted
      extract_lets d l
      split
      · rw [die_modDie, if_neg hm]
      · rw [sendStream_die, die_modDie, if_neg hm]
    rw [helse, hdie]
  · have ht : t = s.modDie (n / 48) fun y => { y with conv := s.convNow n } := frameConverted_more (by rw [hconv]; exact h)
    rw [ht, die_modDie, if_pos rfl, hdie, hconv]
    exact ⟨rfl, by rw [modDie_flight, hflight]⟩
  · have ht : t = (s.modDie (n / 48) fun y => { y with conv := [] }).sendStream (n / 48) (s.converterFrame (n / 48)) := frameConverted_last (by rw [hconv]; exact h)
    have hframe : t.converterFrame (n / 48) = s.converterFrame (n / 48) := frameConverted_part (fun y => y.converterFrame (n / 48)) (fun _ _ => rfl) fun _ _ _ => rfl
    have hring' : ∀ k, (s.modDie (n / 48) fun y => { y with conv := [] }).ringOn k (n / 48) = u.ringOn k (n / 48) := fun k => (ringOn_congr fun _ _ => modDie_rd).trans (hring _ _)
    refine ⟨?_, fun k hk => ?_⟩
    · rw [ht, sendStream_die, die_modDie, if_pos rfl, hdie]
    · rw [hframe, ht, sendStream_flight hk, hring', modDie_flight, hflight]
theorem proof_frame : proofAside (frameAside s) = frameAside (proofAside s) := rfl
theorem rest_of_converted (h : frameAside t = frameAside u) (h' : proofAside u = proofAside s) : { t with regs := s.regs, prfs := s.prfs, dies := s.dies, flight := s.flight } = s := by
  have hall : frameAside (proofAside t) = frameAside (proofAside s) := by rw [← proof_frame, h, proof_frame, h']
  exact congrArg (fun x : State => { x with regs := s.regs, prfs := s.prfs, dies := s.dies, flight := s.flight }) hall
theorem converterSample_does {n : Fin 192} {i v : Word} (hoff : s.allOff = false) :
    let iv := if s.rd (CH_STAT_RHOLD n) = 1 then 0x800 else i.toNat
    let x := if iv = 0x800 then (s.prf n).lastValid else s.sampleUnits n iv
    let m : Int := if s.topo n = 3 then x.natAbs else x
    let l := ((s.prf n).samples ++ [m]).drop (((s.prf n).samples ++ [m]).length - 250)
    let tested := s.on (CW_CFG_DEN n) && (s.prf n).expt == .dark && decide ((s.prf n).exptAt + 160 * s.rd (CW_DSET_DSET n) ≤ s.time) && iv != 0x800
    let out := decide (2 * s.rd (CW_IDARK_IDARK n) < x.natAbs) || decide (s.rd (CW_VDARK_VDARK n) < v.toNat)
    ∃ t, exec (.converterSample n i v) s = .next t ∧ t.rd (CH_IRES_RESULT n) = iv ∧ t.rd (CH_VRES_RESULT n) = v.toNat ∧ (t.prf n).samples = l ∧
      t.rd (CW_MEAN_MEAN n) = wrap 24 (l.foldl (· + ·) 0 / 500) ∧
      (tested = false → t.rd (CW_CVER_CVER n) = s.rd (CW_CVER_CVER n) ∧ (t.prf n).darkRun = (s.prf n).darkRun) ∧
      (tested = true → out = true → (t.prf n).darkRun = (s.prf n).darkRun + 1 ∧
        t.rd (CW_CVER_CVER n) = if 7 ≤ (s.prf n).darkRun then 4 else s.rd (CW_CVER_CVER n)) ∧
      (tested = true → out = false → (t.prf n).darkRun = 0 ∧ t.rd (CW_CVER_CVER n) = if (s.prf n).cNew then s.rd (CW_CVER_CVER n) else 1) ∧
      (let cv := if (s.die (n / 48)).conv.contains (n % 48) then (s.die (n / 48)).conv else n % 48 :: (s.die (n / 48)).conv
       (cv.length < 48 → t.die (n / 48) = { s.die (n / 48) with conv := cv } ∧ t.flight = s.flight) ∧
       (48 ≤ cv.length → t.die (n / 48) = { s.die (n / 48) with conv := [] } ∧ ∀ k, k < 2 → t.flight.get [] (64 * k + n / 48) =
         if (List.range 32).any (s.ringOn k (n / 48)) then s.flight.get [] (64 * k + n / 48) ++ [t.converterFrame (n / 48)]
         else s.flight.get [] (64 * k + n / 48))) ∧
      FieldsKept [CH_IRES_RESULT n, CH_VRES_RESULT n, CW_MEAN_MEAN n, CW_CVER_CVER n] s t ∧ ElseSame t.prf s.prf n ∧ ElseSame t.die s.die (n / 48) ∧
      { t with regs := s.regs, prfs := s.prfs, dies := s.dies, flight := s.flight } = s := by
  intro iv x m l tested out
  have hiv : iv < 4096 := by
    unfold iv
    split
    · decide
    · exact i.isLt
  have hexec : exec (.converterSample n i v) s = .next (((s.storeResults n iv v.toNat l x).darkTest n (iv != 0x800) x v.toNat).frameConverted n) := by
    rw [exec_converterSample, execConverterSample, hoff, if_neg Bool.false_ne_true, convert_eq (k := iv) (x := x) (ms := l) rfl rfl rfl]
  clear_value l x iv
  obtain ⟨hires, hvres, hmean⟩ := storeResults_rd (s := s) (n := n) (i := iv) (v := v.toNat) (ms := l) (x := x)
  have hown : (s.storeResults n iv v.toNat l x).prf n = { s.prf n with samples := l, lastValid := x } := by rw [storeResults_prf, if_pos rfl]
  have hstored : FieldsKept (resultFields n) s (s.storeResults n iv v.toNat l x) := storeResults_fields.mono fun g hg => by
    simp only [resultFields, List.mem_cons, List.not_mem_nil, or_false] at hg ⊢
    tauto
  have hfield : ∀ f : Fld, (∃ k, (k = cwAddr n + 0 ∨ k = cwAddr n + 4 ∨ k = cwAddr n + 5 ∨ k = cwAddr n + 7) ∧ f.key / 256 = k) → (s.storeResults n iv v.toNat l x).rd f = s.rd f := fun f hf => hstored f (not_result n.isLt (.inr hf))
  have hden : (s.storeResults n iv v.toNat l x).rd (CW_CFG_DEN n) = s.rd (CW_CFG_DEN n) := hfield _ ⟨_, .inl rfl, by simp only [Fld.key, CW_CFG_DEN]; omega⟩
  have hidark : (s.storeResults n iv v.toNat l x).rd (CW_IDARK_IDARK n) = s.rd (CW_IDARK_IDARK n) := hfield _ ⟨_, .inr (.inl rfl), by simp only [Fld.key, CW_IDARK_IDARK]; omega⟩
  have hvdark : (s.storeResults n iv v.toNat l x).rd (CW_VDARK_VDARK n) = s.rd (CW_VDARK_VDARK n) := hfield _ ⟨_, .inr (.inr (.inl rfl)), by simp only [Fld.key, CW_VDARK_VDARK]; omega⟩
  have hdset : (s.storeResults n iv v.toNat l x).rd (CW_DSET_DSET n) = s.rd (CW_DSET_DSET n) := hfield _ ⟨_, .inr (.inr (.inr rfl)), by simp only [Fld.key, CW_DSET_DSET]; omega⟩
  have hcver : (s.storeResults n iv v.toNat l x).rd (CW_CVER_CVER n) = s.rd (CW_CVER_CVER n) := results_other
    (by simp only [Fld.key, CW_CVER_CVER, CH_IRES_RESULT, chAddr, cwAddr, ne_eq]; omega) (by simp only [Fld.key, CW_CVER_CVER, CH_VRES_RESULT, chAddr, cwAddr, ne_eq]; omega)
    (by simp only [Fld.key, CW_CVER_CVER, CW_MEAN_MEAN, ne_eq]; omega)
  have htested : (s.storeResults n iv v.toNat l x).darkTested n (iv != 0x800) = tested := by rw [darkTested, on, hden, hown, hdset, storeResults_time]; rfl
  have hout : (s.storeResults n iv v.toNat l x).outside n x v.toNat = out := by rw [outside, hidark, hvdark]
  obtain ⟨hnone, hdark, hin, hsamples, helse, hkept, haside⟩ := darkTest_does (s := s.storeResults n iv v.toNat l x) (n := n) (valid := iv != 0x800) (x := x) (v := v.toNat)
  rw [htested, hcver, hown] at hnone
  rw [htested, hout, hcver, hown] at hdark hin
  rw [hown] at hsamples
  rw [storeResults_proofAside] at haside
  have hdiff : ∀ f : Fld, f.key ≠ (CW_CVER_CVER n).key → ((s.storeResults n iv v.toNat l x).darkTest n (iv != 0x800) x v.toNat).rd f = (s.storeResults n iv v.toNat l x).rd f := fun f hf => hkept f fun g hg => List.mem_singleton.1 hg ▸ hf
  rw [← hdiff _ (by simp only [Fld.key, CW_CVER_CVER, CH_IRES_RESULT, chAddr, cwAddr, ne_eq]; omega)] at hires
  rw [← hdiff _ (by simp only [Fld.key, CW_CVER_CVER, CH_VRES_RESULT, chAddr, cwAddr, ne_eq]; omega)] at hvres
  rw [← hdiff _ (by simp only [Fld.key, CW_CVER_CVER, CW_MEAN_MEAN, ne_eq]; omega)] at hmean
  have hall : FieldsKept (resultFields n) s ((s.storeResults n iv v.toNat l x).darkTest n (iv != 0x800) x v.toNat) := hstored.trans (hkept.mono fun g hg => by simp [List.mem_singleton.1 hg, resultFields])
  have hprf : ElseSame ((s.storeResults n iv v.toNat l x).darkTest n (iv != 0x800) x v.toNat).prf s.prf n := fun m hm => by rw [helse m hm, storeResults_prf, if_neg hm]
  clear_value tested out
  generalize (s.storeResults n iv v.toNat l x).darkTest n (iv != 0x800) x v.toNat = c at *
  obtain ⟨hrd, hprf', hdies, hmore, hlast⟩ := frameConverted_does (s := c) (u := s) (n := n) (fun d => by rw [← proofAside_die, haside, proofAside_die]) (by rw [← proofAside_flight, haside, proofAside_flight])
    fun k st => ringOn_congr fun f hf => hall f (not_result n.isLt (.inl hf))
  have hframe := frameConverted_frameAside (s := c) (n := n)
  generalize c.frameConverted n = t at *
  refine ⟨t, hexec, ?_, ?_, ?_, ?_, fun h => ?_, fun h ho => ?_, fun h ho => ?_, ⟨hmore, hlast⟩, ?_, ?_, hdies, ?_⟩
  · rw [hrd, hires, Nat.mod_eq_of_lt hiv]
  · rw [hrd, hvres, Nat.mod_eq_of_lt v.isLt]
  · rw [hprf', hsamples]
  · rw [hrd, hmean]
    rfl
  · rw [hrd, hprf']
    exact hnone h
  · rw [hrd, hprf']
    exact hdark h ho
  · rw [hrd, hprf']
    exact hin h ho
  · exact fun f hf => (hrd f).trans (hall f hf)
  · exact fun m hm => (hprf' m).trans (hprf m hm)
  · exact rest_of_converted hframe haside

/-! ### COARSE_LIT_EVALUATION -/

/-- The lit window looks at the channel. -/
def litJudged (s : State) (n : Nat) : Bool := s.on (CW_CFG_CEN n) && (s.prf n).expt == .lit && decide ((s.prf n).exptAt + 16000 ≤ s.time)
/-- The verdict of the lit window on a mean. -/
def litVerdict (s : State) (n : Nat) : Nat :=
  let p := s.prf n
  let sum := p.samples.foldl (· + ·) 0
  let low : Int := 500 * (s.expectedMean n * s.rd (CW_LITLO_LITLO n) / 256 : Nat)
  let high : Int := 500 * (s.expectedMean n * s.rd (CW_LITHI_LITHI n) / 256 : Nat)
  let blank := (s.gen n).inrush || ((p.dblAt).any fun t => decide (s.time < t + 16000))
  if s.litJudged n = false then s.rd (CW_CVER_CVER n) else if sum < low then 2 else if high < sum ∧ blank = false then 3 else if p.cNew then s.rd (CW_CVER_CVER n) else 1
/-- The mean is outside the window. -/
def litFail (s : State) (n v : Nat) : State := (s.wr (CW_CVER_CVER n) v).modPrf n fun p => { p with cNew := true }
theorem litWindow_cases : (s.litWindow n = s ∧ s.litVerdict n = s.rd (CW_CVER_CVER n)) ∨ (∃ v, v < 8 ∧ s.litWindow n = s.litFail n v ∧ s.litVerdict n = v) ∨ (s.litWindow n = s.wr (CW_CVER_CVER n) 1 ∧ s.litVerdict n = 1) := by
  unfold litWindow litVerdict
  extract_lets p sum e low high blank
  by_cases hj : s.litJudged n = true
  · have hnot : ¬(¬s.on (CW_CFG_CEN n) ∨ p.expt ≠ .lit ∨ s.time < p.exptAt + 16000) := by
      simp only [litJudged, Bool.and_eq_true, beq_iff_eq, decide_eq_true_eq] at hj
      obtain ⟨⟨hcen, hexpt⟩, htime⟩ := hj
      rintro (h1 | h1 | h1)
      · exact h1 hcen
      · exact h1 hexpt
      · exact absurd h1 (Nat.not_lt.2 htime)
    have hfalse : ¬s.litJudged n = false := by rw [hj]; decide
    rw [if_neg hnot, if_neg hfalse]
    by_cases hlow : sum < low
    · rw [if_pos hlow, if_pos hlow]
      exact .inr (.inl ⟨2, by decide, rfl, rfl⟩)
    · rw [if_neg hlow, if_neg hlow]
      by_cases hhigh : high < sum ∧ blank = false
      · have hhigh' : high < sum ∧ ¬blank := by rw [Bool.not_eq_true]; exact hhigh
        rw [if_pos hhigh', if_pos hhigh]
        exact .inr (.inl ⟨3, by decide, rfl, rfl⟩)
      · have hhigh' : ¬(high < sum ∧ ¬blank) := by rw [Bool.not_eq_true]; exact hhigh
        rw [if_neg hhigh', if_neg hhigh]
        split
        · exact .inl ⟨rfl, rfl⟩
        · exact .inr (.inr ⟨rfl, rfl⟩)
  · have hor : ¬s.on (CW_CFG_CEN n) ∨ p.expt ≠ .lit ∨ s.time < p.exptAt + 16000 := by
      by_contra hnone
      simp only [not_or, not_not, ne_eq, Nat.not_lt] at hnone
      obtain ⟨hcen, hexpt, htime⟩ := hnone
      refine hj ?_
      simp only [litJudged, Bool.and_eq_true, beq_iff_eq, decide_eq_true_eq]
      exact ⟨⟨hcen, hexpt⟩, htime⟩
    have hfalse : s.litJudged n = false := Bool.not_eq_true _ ▸ hj
    rw [if_pos hor, if_pos hfalse]
    exact .inl ⟨rfl, rfl⟩
/-- What the lit window does to one channel. -/
theorem litWindow_does : (s.litWindow n).rd (CW_CVER_CVER n) = s.litVerdict n ∧ ElseSame (s.litWindow n).prf s.prf n ∧ FieldsKept [CW_CVER_CVER n] s (s.litWindow n) ∧ proofAside (s.litWindow n) = proofAside s := by
  obtain ⟨h, hv⟩ | ⟨v, hlt, h, hv⟩ | ⟨h, hv⟩ := litWindow_cases (s := s) (n := n)
  · rw [h, hv]
    exact ⟨rfl, fun _ _ => rfl, .refl, rfl⟩
  · rw [h, hv]
    refine ⟨?_, fun m hm => ?_, .modPrf (.wr List.mem_cons_self .refl), ?_⟩
    · rw [litFail, modPrf_rd, rd_wr_same]
      exact Nat.mod_eq_of_lt hlt
    · rw [litFail, prf_modPrf, if_neg hm, wr_prf]
    · rw [litFail, proofAside_modPrf, proofAside_wr]
  · rw [h, hv]
    refine ⟨?_, fun m _ => wr_prf, .wr List.mem_cons_self .refl, proofAside_wr⟩
    rw [rd_wr_same]
    rfl
theorem verdict_of_proof (h : proofAside t = proofAside s) : verdictAside t = verdictAside s := congrArg (fun x : State => { x with rxs := [], optSince := none, groups := [], coll := {} }) h
theorem litWindow_beside (hn : n < 192) : Beside s (s.litWindow n) := by
  obtain ⟨-, -, hkept, haside⟩ := litWindow_does (s := s) (n := n)
  exact .of_fields (fun g hg => List.mem_singleton.1 hg ▸ (proof_addr hn).1) hkept (verdict_of_proof haside)
/-- The lit window of a channel looks at the channel's own proof. -/
theorem litVerdict_congr (h : Beside s t) (hn : n < 192) (hprf : t.prf n = s.prf n) (hcver : t.rd (CW_CVER_CVER n) = s.rd (CW_CVER_CVER n)) : t.litVerdict n = s.litVerdict n := by
  have hcw : ∀ f : Fld, (f.key / 256 = cwAddr n + 0 ∨ f.key / 256 = cwAddr n + 2 ∨ f.key / 256 = cwAddr n + 3) → t.rd f = s.rd f := fun f hf => h.1 f (by
    simp only [cwAddr] at hf
    simp only [ProofAddr]
    omega)
  have hcen : t.rd (CW_CFG_CEN n) = s.rd (CW_CFG_CEN n) := hcw _ (.inl (by simp only [Fld.key, CW_CFG_CEN]; omega))
  have hlo : t.rd (CW_LITLO_LITLO n) = s.rd (CW_LITLO_LITLO n) := hcw _ (.inr (.inl (by simp only [Fld.key, CW_LITLO_LITLO]; omega)))
  have hhi : t.rd (CW_LITHI_LITHI n) = s.rd (CW_LITHI_LITHI n) := hcw _ (.inr (.inr (by simp only [Fld.key, CW_LITHI_LITHI]; omega)))
  have htime : t.time = s.time := h.part State.time fun _ => rfl
  have hjudged : t.litJudged n = s.litJudged n := by rw [litJudged, on, hcen, htime, hprf, litJudged, on]
  rw [litVerdict, hjudged, hlo, hhi, htime, hprf, hcver, h.expectedMean hn, h.generator, litVerdict]

/-! ### An operation on the channels, at one of them -/

/-- Of a list without repetitions: what comes before a number, the number, what comes after it. -/
theorem each_split {op : State → Nat → State} {l : List Nat} (hl : l.Nodup) (hn : n ∈ l) :
    ∃ a b, (∀ x ∈ a, x ∈ l ∧ x ≠ n) ∧ (∀ x ∈ b, x ∈ l ∧ x ≠ n) ∧ s.each l op = (op (s.each a op) n).each b op := by
  obtain ⟨a, b, rfl⟩ := List.append_of_mem hn
  obtain ⟨-, hcons, hdisj⟩ := List.nodup_append.1 hl
  refine ⟨a, b, fun x hx => ⟨List.mem_append_left _ hx, hdisj x hx n List.mem_cons_self⟩, fun x hx => ⟨List.mem_append_right _ (List.mem_cons_of_mem _ hx), ?_⟩, ?_⟩
  · rintro rfl
    exact (List.nodup_cons.1 hcons).1 hx
  · rw [each, each, each, List.foldl_append, List.foldl_cons]
theorem channels_nodup : channels.Nodup := List.nodup_range
theorem cver_other (h : m ≠ n) : (CW_CVER_CVER n).key ≠ (CW_CVER_CVER m).key := by
  simp only [Fld.key, CW_CVER_CVER, cwAddr, ne_eq]
  omega
/-- The lit window of every channel. -/
def litWindows (s : State) : State := s.each channels fun t n => t.litWindow n
theorem litWindows_cver (hn : n < 192) : s.litWindows.rd (CW_CVER_CVER n) = s.litVerdict n := by
  have hother : ∀ (t : State) x, x ≠ n → (t.litWindow x).rd (CW_CVER_CVER n) = t.rd (CW_CVER_CVER n) ∧ (t.litWindow x).prf n = t.prf n := fun t x hx => by
    obtain ⟨-, helse, hkept, -⟩ := litWindow_does (s := t) (n := x)
    exact ⟨hkept _ fun g hg => by rw [List.mem_singleton.1 hg]; exact cver_other hx, helse n hx.symm⟩
  obtain ⟨a, b, ha, hb, heach⟩ := each_split (s := s) (op := fun t n => t.litWindow n) channels_nodup (List.mem_range.2 hn)
  have hbefore : Beside s (s.each a fun t n => t.litWindow n) ∧ (s.each a fun t n => t.litWindow n).prf n = s.prf n ∧ (s.each a fun t n => t.litWindow n).rd (CW_CVER_CVER n) = s.rd (CW_CVER_CVER n) :=
    each_invariant (I := fun t => Beside s t ∧ t.prf n = s.prf n ∧ t.rd (CW_CVER_CVER n) = s.rd (CW_CVER_CVER n)) (fun t x hx ⟨h1, h2, h3⟩ => by
      obtain ⟨hmem, hne⟩ := ha x hx
      obtain ⟨hcver, hprf⟩ := hother t x hne
      exact ⟨h1.trans (litWindow_beside (List.mem_range.1 hmem)), hprf.trans h2, hcver.trans h3⟩) ⟨.refl, rfl, rfl⟩
  obtain ⟨hbeside, hprf, hcver⟩ := hbefore
  rw [litWindows, heach, each_same (fun t => t.rd (CW_CVER_CVER n)) fun t x hx => (hother t x (hb x hx).2).1, litWindow_does.1, litVerdict_congr hbeside hn hprf hcver]
theorem litWindows_fields : FieldsKept (channels.map CW_CVER_CVER) s s.litWindows :=
  .each fun t x hx => by
    obtain ⟨-, -, hkept, -⟩ := litWindow_does (s := t) (n := x)
    exact hkept.mono fun g hg => List.mem_singleton.1 hg ▸ List.mem_map_of_mem hx
theorem litWindows_proofAside : proofAside s.litWindows = proofAside s := each_same proofAside fun t x _ => by
  obtain ⟨-, -, -, haside⟩ := litWindow_does (s := t) (n := x)
  exact haside
theorem coarseLit_none (h : s.dueOn 4000 0 = false) : exec .coarseLitEvaluation s = .next s := by
  rw [exec_coarseLitEvaluation, execCoarseLitEvaluation, h, if_neg Bool.false_ne_true]
theorem coarseLit_due (h : s.dueOn 4000 0 = true) : exec .coarseLitEvaluation s = .next s.litWindows := by
  rw [exec_coarseLitEvaluation, execCoarseLitEvaluation, h, if_pos rfl, litWindows]
end State
end Sys2Proof.Machine
end

section
/-! The verdict of one channel at a fusion tick (R170, R176, R180 to R182), and the expectations derived again (R162). -/
namespace Sys2Proof.Machine
open Sys2Proof.Safety
namespace State
variable {s t u : State} {n m x : Nat} {f : Fld}

theorem verdictAside_wr {v : Nat} : verdictAside (s.wr f v) = verdictAside s := rfl
theorem verdictAside_put {b : Bool} : verdictAside (s.put f b) = verdictAside s := rfl
theorem verdictAside_setPrf {p : Prf} : verdictAside (s.setPrf n p) = verdictAside s := rfl
theorem verdictAside_report {cls id sev path : Nat} {data : List Nat} : verdictAside (s.report cls id sev path data) = verdictAside s := rfl
theorem verdictAside_updOpt : verdictAside s.updOpt = verdictAside s := rfl

/-! ### The expectation derived again -/

theorem updExp_verdictAside : verdictAside (s.updExp n) = verdictAside s := updExp_part verdictAside (fun _ _ => rfl) (fun _ _ => rfl) (fun _ _ => rfl) fun _ _ => rfl
theorem updExp_coll : (s.updExp n).coll = s.coll := updExp_part State.coll (fun _ _ => rfl) (fun _ _ => rfl) (fun _ _ => rfl) fun _ _ => rfl
theorem proofFields_addr (hn : n < 192) : ∀ g ∈ proofFields n, ProofAddr (g.key / 256) := by
  obtain ⟨hcver, -, hpver⟩ := proof_addr hn
  intro g hg
  simp only [proofFields, List.mem_cons, List.not_mem_nil, or_false] at hg
  rcases hg with rfl | rfl | rfl
  · exact hpver _ (by simp [CH_PVER])
  · exact hcver
  · exact hpver _ (by simp [CH_PVER])
theorem updExp_beside (hn : n < 192) : Beside s (s.updExp n) := .of_fields (proofFields_addr hn) updExp_fields updExp_verdictAside
/-- An expectation that is as it was restarts nothing. -/
theorem updExp_same (h : (s.expectation n).1 = (s.prf n).expt) : s.updExp n = s.put (CH_PVER_EXPLIT n) ((s.expectation n).1 == .lit) := if_pos h
theorem restartProof_prf {e : Expect} : (m ≠ n → (s.restartProof n e).prf m = s.prf m) ∧ ((s.restartProof n e).prf n).noDecAt = none := by
  constructor
  · intro h
    rw [restartProof, wr_prf, wr_prf, prf_modPrf, if_neg h]
  · rw [restartProof, wr_prf, wr_prf, prf_modPrf, if_pos rfl]
theorem updExp_prf : (m ≠ n → (s.updExp n).prf m = s.prf m) ∧ ((s.updExp n).prf m = s.prf m ∨ ((s.updExp n).prf m).noDecAt = none) := by
  have hput : ∀ m, (s.put (CH_PVER_EXPLIT n) ((s.expectation n).1 == .lit)).prf m = s.prf m := fun _ => put_prf
  unfold updExp
  extract_lets e y z
  have hz : ∀ m, z.prf m = (y.restartProof n e).prf m := fun m => disrupt_part (fun t => t.prf m) fun _ _ => rfl
  have hopt : ∀ m, z.updOpt.prf m = z.prf m := fun _ => rfl
  split
  · exact ⟨fun _ => hput m, .inl (hput m)⟩
  · have hfin : ∀ w : State, (∀ m, w.prf m = (y.restartProof n e).prf m) → (m ≠ n → w.prf m = s.prf m) ∧ (w.prf m = s.prf m ∨ (w.prf m).noDecAt = none) := fun w hw => by
      obtain ⟨helse, hown⟩ := restartProof_prf (s := y) (n := n) (m := m) (e := e)
      refine ⟨fun hm => (hw m).trans ((helse hm).trans (hput m)), ?_⟩
      by_cases hm : m = n
      · rw [hw, hm]
        exact .inr hown
      · rw [hw, helse hm, hput]
        exact .inl rfl
    split
    · exact hfin _ fun m => (hopt m).trans (hz m)
    · exact hfin _ hz

/-! ### What a fusion tick finds of a channel -/

/-- The ticks without electrical evidence, where it is required. -/
def staleRun (s : State) (n : Nat) : Nat := if (!(s.prf n).eNew) && s.on (CH_PCFG_EREQ n) then (s.prf n).eStale + 1 else 0
def coarseFails (s : State) (n : Nat) : Bool := decide (2 ≤ s.rd (CW_CVER_CVER n))
def electricalFails (s : State) (n : Nat) : Bool :=
  ((s.prf n).eNew && s.rd (CH_EVER_VERD n) != 0 && !agrees (s.prf n).expt (s.rd (CH_EVER_VERD n))) || decide (2 ≤ s.staleRun n)
def opticalFails (s : State) (n : Nat) : Bool := s.on (CH_PCFG_OREQ n) && s.opticFresh n && s.rd (CH_OVER_VERD n) != 0 && !agrees (s.prf n).expt (s.rd (CH_OVER_VERD n))
/-- The coarse window is assessed for the present expectation. -/
def assessed (s : State) (n : Nat) : Bool := if (s.prf n).expt = .lit then s.on (CW_CFG_CEN n) else s.on (CW_CFG_DEN n)
/-- R181: the basis of a proof: electrical evidence that agrees, or where none is required the coarse window. -/
def proofBase (s : State) (n : Nat) : Bool :=
  let p := s.prf n
  let ereq := s.on (CH_PCFG_EREQ n)
  ((p.eNew && agrees p.expt (s.rd (CH_EVER_VERD n))) && (ereq || s.assessed n)) || (!ereq && (s.assessed n && s.rd (CW_CVER_CVER n) == 1))
/-- R182: the deadline has not passed, and evidence is still to come. -/
def stillOpen (s : State) (n : Nat) : Bool :=
  let p := s.prf n
  let ereq := s.on (CH_PCFG_EREQ n)
  decide (s.time < p.restartAt + s.deadline n) &&
    !((!ereq || (p.eAny && s.rd (CH_EVER_VERD n) != 0)) && (!s.on (CH_PCFG_OREQ n) || p.oAny) && (ereq || !s.assessed n || s.rd (CW_CVER_CVER n) != 0))
/-- The state that a fusion tick finds. -/
def fusedState (s : State) (n : Nat) : Nat :=
  if s.coarseFails n || s.electricalFails n || s.opticalFails n then 4
  else if s.stillOpen n then 1
  else if s.proofBase n && ((s.opticFresh n && agrees (s.prf n).expt (s.rd (CH_OVER_VERD n))) || !s.on (CH_PCFG_OREQ n)) then 2
  else if s.proofBase n && (!s.opticFresh n || s.rd (CH_OVER_VERD n) == 0) && s.on SPT_DEG_OPTDEG then 3
  else 4
/-- A FAIL counts. -/
def countFail (s : State) (n st : Nat) : State := if st = 4 then s.bump (CH_PFCNT_VALUE n) else s
/-- What a fusion tick leaves of the NO_DECISION of a channel. -/
def SameNoDec (p q : Prf) : Prop := q.noDecAt = p.noDecAt ∧ q.noDecRep = p.noDecRep
theorem fuseChannel_none (h : (s.prf n).expt = .none) : ∃ p ef es os, s.fuseChannel n = (s.showProof n 0 false ef false es os).setPrf n p ∧ SameNoDec (s.prf n) p := by
  unfold fuseChannel
  rw [if_pos h]
  exact ⟨_, _, _, _, rfl, rfl, rfl⟩
theorem fuseChannel_some (h : (s.prf n).expt ≠ .none) : ∃ p es os b,
    s.fuseChannel n = (((s.setPrf n p).showProof n (s.fusedState n) (s.coarseFails n) (s.electricalFails n) (s.opticalFails n) es os).put (CH_PVER_EXPLIT n) b).countFail n (s.fusedState n) ∧ SameNoDec (s.prf n) p := by
  unfold fuseChannel
  rw [if_neg h]
  exact ⟨_, _, _, _, rfl, rfl, rfl⟩

/-! ### What it shows -/

section
variable {st : Nat} {cf ef of es os b : Bool} {p : Prf}
theorem showProof_fields : FieldsKept (CH_PVER n).fields s (s.showProof n st cf ef of es os) := by
  unfold showProof
  exact .put (by simp [CH_PVER]) (.put (by simp [CH_PVER]) (.put (by simp [CH_PVER]) (.put (by simp [CH_PVER]) (.put (by simp [CH_PVER]) (.wr (by simp [CH_PVER]) .refl)))))
theorem pver_keys : ∀ f ∈ [CH_PVER_CFAIL n, CH_PVER_EFAIL n, CH_PVER_OFAIL n, CH_PVER_ESTALE n, CH_PVER_OSTALE n, CH_PVER_EXPLIT n], (CH_PVER_STATE n).key ≠ f.key := by
  simp [Fld.key, CH_PVER_STATE, CH_PVER_CFAIL, CH_PVER_EFAIL, CH_PVER_OFAIL, CH_PVER_ESTALE, CH_PVER_OSTALE, CH_PVER_EXPLIT]
theorem showProof_rd (hst : st < 8) : (s.showProof n st cf ef of es os).rd (CH_PVER_STATE n) = st ∧ (s.showProof n st cf ef of es os).rd (CH_PVER_CFAIL n) = cf.toNat ∧
    (s.showProof n st cf ef of es os).rd (CH_PVER_EFAIL n) = ef.toNat := by
  have hcf : ∀ f ∈ [CH_PVER_EFAIL n, CH_PVER_OFAIL n, CH_PVER_ESTALE n, CH_PVER_OSTALE n], (CH_PVER_CFAIL n).key ≠ f.key := by
    simp [Fld.key, CH_PVER_CFAIL, CH_PVER_EFAIL, CH_PVER_OFAIL, CH_PVER_ESTALE, CH_PVER_OSTALE]
  have hef : ∀ f ∈ [CH_PVER_OFAIL n, CH_PVER_ESTALE n, CH_PVER_OSTALE n], (CH_PVER_EFAIL n).key ≠ f.key := by
    simp [Fld.key, CH_PVER_EFAIL, CH_PVER_OFAIL, CH_PVER_ESTALE, CH_PVER_OSTALE]
  have hbit : ∀ b : Bool, b.toNat % 2 ^ 1 = b.toNat := fun b => Nat.mod_eq_of_lt (Bool.toNat_lt b)
  refine ⟨?_, ?_, ?_⟩
  · rw [showProof, rd_put_ne (pver_keys _ (by simp)), rd_put_ne (pver_keys _ (by simp)), rd_put_ne (pver_keys _ (by simp)), rd_put_ne (pver_keys _ (by simp)), rd_put_ne (pver_keys _ (by simp)), rd_wr_same]
    exact Nat.mod_eq_of_lt hst
  · rw [showProof, rd_put_ne (hcf _ (by simp)), rd_put_ne (hcf _ (by simp)), rd_put_ne (hcf _ (by simp)), rd_put_ne (hcf _ (by simp)), rd_put_same Nat.zero_lt_one]
  · rw [showProof, rd_put_ne (hef _ (by simp)), rd_put_ne (hef _ (by simp)), rd_put_ne (hef _ (by simp)), rd_put_same Nat.zero_lt_one]
theorem showProof_prf : (s.showProof n st cf ef of es os).prf m = s.prf m := by rw [showProof, put_prf, put_prf, put_prf, put_prf, put_prf, wr_prf]
theorem showProof_coll : (s.showProof n st cf ef of es os).coll = s.coll := by rw [showProof, put_coll, put_coll, put_coll, put_coll, put_coll, wr_coll]
theorem showProof_verdictAside : verdictAside (s.showProof n st cf ef of es os) = verdictAside s := by
  rw [showProof, verdictAside_put, verdictAside_put, verdictAside_put, verdictAside_put, verdictAside_put, verdictAside_wr]
theorem countFail_fields : FieldsKept [CH_PFCNT_VALUE n] s (s.countFail n st) := by
  unfold countFail
  exact .ite (.bump List.mem_cons_self .refl) .refl
theorem countFail_rd : (s.countFail n st).rd (CH_PFCNT_VALUE n) = if st = 4 then min 4095 (s.rd (CH_PFCNT_VALUE n) + 1) else s.rd (CH_PFCNT_VALUE n) := by
  unfold countFail
  split
  · rw [rd_bump_same]
    rfl
  · rfl
theorem countFail_part {α : Type} (P : State → α) (hP : ∀ (x : State) f, P (x.bump f) = P x) : P (s.countFail n st) = P s := by
  unfold countFail
  split
  · exact hP _ _
  · rfl
end
theorem pver_not_count : ∀ f ∈ (CH_PVER n).fields, f.key ≠ (CH_PFCNT_VALUE n).key := by
  simp only [CH_PVER, List.forall_mem_cons, Fld.key, CH_PVER_STATE, CH_PVER_CFAIL, CH_PVER_EFAIL, CH_PVER_OFAIL, CH_PVER_ESTALE, CH_PVER_OSTALE, CH_PVER_EXPLIT, CH_PFCNT_VALUE]
  simp only [List.not_mem_nil, false_implies, implies_true, and_true, ne_eq]
  omega
/-- The fields that the verdict of a channel writes. -/
def verdictFields (n : Nat) : List Fld := CH_PFCNT_VALUE n :: (CH_PVER n).fields
theorem fusedState_lt : s.fusedState n < 8 := by
  unfold fusedState
  split
  · decide
  · split
    · decide
    · split
      · decide
      · split
        · decide
        · decide
/-- What a fusion tick leaves of the states of the channels. -/
theorem fuseChannel_keeps : FieldsKept (verdictFields n) s (s.fuseChannel n) ∧ verdictAside (s.fuseChannel n) = verdictAside s ∧ (s.fuseChannel n).coll = s.coll ∧ (∀ m, m ≠ n → (s.fuseChannel n).prf m = s.prf m) ∧
    ∀ m, SameNoDec (s.prf m) ((s.fuseChannel n).prf m) := by
  have hprf : ∀ {w : State} {p : Prf}, SameNoDec (s.prf n) p → (∀ m, w.prf m = if m = n then p else s.prf m) → (∀ m, m ≠ n → w.prf m = s.prf m) ∧ ∀ m, SameNoDec (s.prf m) (w.prf m) := fun hp hw => by
    refine ⟨fun m hm => by rw [hw, if_neg hm], fun m => ?_⟩
    rw [hw]
    split
    · next h =>
      rw [h]
      exact hp
    · exact ⟨rfl, rfl⟩
  by_cases h : (s.prf n).expt = .none
  · obtain ⟨p, ef, es, os, heq, hp⟩ := fuseChannel_none h
    rw [heq]
    refine ⟨fun f hf => ?_, ?_, ?_, hprf hp fun m => ?_⟩
    · rw [setPrf_rd]
      exact showProof_fields f fun g hg => hf g (List.mem_cons_of_mem _ hg)
    · rw [verdictAside_setPrf, showProof_verdictAside]
    · rw [setPrf_coll, showProof_coll]
    · rw [prf_setPrf, showProof_prf]
  · obtain ⟨p, es, os, b, heq, hp⟩ := fuseChannel_some h
    rw [heq]
    refine ⟨fun f hf => ?_, ?_, ?_, hprf hp fun m => ?_⟩
    · rw [countFail_fields f fun g hg => hf g (List.mem_singleton.1 hg ▸ List.mem_cons_self), rd_put_ne (hf _ (by simp [verdictFields, CH_PVER])), showProof_fields f fun g hg => hf g (List.mem_cons_of_mem _ hg), setPrf_rd]
    · rw [countFail_part verdictAside fun _ _ => rfl, verdictAside_put, showProof_verdictAside, verdictAside_setPrf]
    · rw [countFail_part State.coll fun _ _ => rfl, put_coll, showProof_coll, setPrf_coll]
    · rw [countFail_part (fun t => t.prf m) fun _ _ => rfl, put_prf, showProof_prf, prf_setPrf]
/-- What a fusion tick shows of a channel without an expectation, and of one that has one. -/
theorem fuseChannel_shows : let t := s.fuseChannel n
    ((s.prf n).expt = .none → t.rd (CH_PVER_STATE n) = 0 ∧ t.rd (CH_PFCNT_VALUE n) = s.rd (CH_PFCNT_VALUE n)) ∧
    ((s.prf n).expt ≠ .none → t.rd (CH_PVER_STATE n) = s.fusedState n ∧ t.rd (CH_PVER_CFAIL n) = (s.coarseFails n).toNat ∧ t.rd (CH_PVER_EFAIL n) = (s.electricalFails n).toNat ∧
      t.rd (CH_PFCNT_VALUE n) = if s.fusedState n = 4 then min 4095 (s.rd (CH_PFCNT_VALUE n) + 1) else s.rd (CH_PFCNT_VALUE n)) := by
  refine ⟨fun h => ?_, fun h => ?_⟩
  · obtain ⟨p, ef, es, os, heq, -⟩ := fuseChannel_none h
    obtain ⟨hstate, -, -⟩ := showProof_rd (s := s) (n := n) (st := 0) (cf := false) (ef := ef) (of := false) (es := es) (os := os) (by decide)
    rw [heq, setPrf_rd, setPrf_rd, hstate]
    exact ⟨rfl, showProof_fields _ fun g hg => (pver_not_count g hg).symm⟩
  · obtain ⟨p, es, os, b, heq, -⟩ := fuseChannel_some h
    obtain ⟨hstate, hcf, hef⟩ := showProof_rd (s := s.setPrf n p) (n := n) (cf := s.coarseFails n) (ef := s.electricalFails n) (of := s.opticalFails n) (es := es) (os := os) (fusedState_lt (s := s) (n := n))
    have hshown : ∀ f ∈ [CH_PVER_STATE n, CH_PVER_CFAIL n, CH_PVER_EFAIL n], f.key ≠ (CH_PFCNT_VALUE n).key ∧ f.key ≠ (CH_PVER_EXPLIT n).key := by
      simp only [List.forall_mem_cons, List.not_mem_nil, false_implies, implies_true, and_true, Fld.key, CH_PVER_STATE, CH_PVER_CFAIL, CH_PVER_EFAIL, CH_PFCNT_VALUE, CH_PVER_EXPLIT, ne_eq]
      omega
    have hput : ∀ f ∈ [CH_PVER_STATE n, CH_PVER_CFAIL n, CH_PVER_EFAIL n], (s.fuseChannel n).rd f = ((s.setPrf n p).showProof n (s.fusedState n) (s.coarseFails n) (s.electricalFails n) (s.opticalFails n) es os).rd f := fun f hf => by
      obtain ⟨h1, h2⟩ := hshown f hf
      rw [heq, countFail_fields f fun g hg => List.mem_singleton.1 hg ▸ h1, rd_put_ne h2]
    refine ⟨?_, ?_, ?_, ?_⟩
    · rw [hput _ (by simp), hstate]
    · rw [hput _ (by simp), hcf]
    · rw [hput _ (by simp), hef]
    · have hcount : ((((s.setPrf n p).showProof n (s.fusedState n) (s.coarseFails n) (s.electricalFails n) (s.opticalFails n) es os).put (CH_PVER_EXPLIT n) b)).rd (CH_PFCNT_VALUE n) = s.rd (CH_PFCNT_VALUE n) := by
        rw [rd_put_ne (pver_not_count _ (by simp [CH_PVER])).symm, showProof_fields _ fun g hg => (pver_not_count g hg).symm, setPrf_rd]
      rw [heq, countFail_rd, hcount]

/-! ### Which state it finds -/

theorem fused_coarse (h : 2 ≤ s.rd (CW_CVER_CVER n)) : s.fusedState n = 4 ∧ s.coarseFails n = true := by
  have hc : s.coarseFails n = true := decide_eq_true h
  exact ⟨by rw [fusedState, hc, Bool.true_or, Bool.true_or, if_pos rfl], hc⟩
theorem fused_electrical (hnew : (s.prf n).eNew = true) (hverd : s.rd (CH_EVER_VERD n) ≠ 0) (hno : agrees (s.prf n).expt (s.rd (CH_EVER_VERD n)) = false) :
    s.fusedState n = 4 ∧ s.electricalFails n = true := by
  have he : s.electricalFails n = true := by simp [electricalFails, hnew, hverd, hno]
  exact ⟨by rw [fusedState, he, Bool.or_true, Bool.true_or, if_pos rfl], he⟩
theorem fused_proven (hcver : s.rd (CW_CVER_CVER n) < 2) (hnew : (s.prf n).eNew = true) (hyes : agrees (s.prf n).expt (s.rd (CH_EVER_VERD n)) = true) (hereq : s.on (CH_PCFG_EREQ n) = true)
    (horeq : s.on (CH_PCFG_OREQ n) = false) (hpast : (s.prf n).restartAt + s.deadline n ≤ s.time) : s.fusedState n = 2 := by
  have hc : s.coarseFails n = false := decide_eq_false (Nat.not_le.2 hcver)
  have he : s.electricalFails n = false := by simp [electricalFails, staleRun, hnew, hyes]
  have ho : s.opticalFails n = false := by simp [opticalFails, horeq]
  have hopen : s.stillOpen n = false := by simp [stillOpen, Nat.not_lt.2 hpast]
  have hbase : s.proofBase n = true := by simp [proofBase, hnew, hyes, hereq]
  simp [fusedState, hc, he, ho, hopen, hbase, horeq]
end State
end Sys2Proof.Machine
end

section
/-! A fusion tick over all channels, and over the groups (R162, R176, R180 to R184). -/
namespace Sys2Proof.Machine
open Sys2Proof.Safety
namespace State
variable {s t u : State} {n m x g : Nat} {f : Fld}

/-- The verdict of one channel, a NO_DECISION that lasts recorded before. -/
def judgeChannel (s : State) (n : Nat) : State := (s.judgeNoDec n).fuseChannel n
/-- The expectations of all channels. -/
def expectAll (s : State) : State := s.each channels fun t n => t.updExp n
/-- The verdicts of all channels. -/
def judgeAll (s : State) : State := s.each channels fun t n => t.judgeChannel n
/-- The verdicts of all groups. -/
def judgeGroups (s : State) : State := s.each (List.range 16) fun t g => t.fuseGroup g
/-- A fusion tick up to the release that is pending. -/
def fuseAll (s : State) : State := s.expectAll.judgeAll.updOpt.judgeGroups

/-! ### The step of a channel -/

theorem judgeNoDec_verdictAside : verdictAside (s.judgeNoDec n) = verdictAside s := by
  unfold judgeNoDec
  split
  · rw [verdictAside_report]
    exact verdictAside_setPrf
  · rfl
theorem judgeNoDec_beside : Beside s (s.judgeNoDec n) := ⟨fun _ _ => judgeNoDec_rd, judgeNoDec_verdictAside⟩
theorem verdictFields_addr (hn : n < 192) : ∀ g ∈ verdictFields n, ProofAddr (g.key / 256) := by
  obtain ⟨-, hcount, hpver⟩ := proof_addr hn
  intro g hg
  rcases List.mem_cons.1 hg with rfl | hg
  · exact hcount
  · exact hpver g hg
theorem fuseChannel_beside (hn : n < 192) : Beside s (s.fuseChannel n) := by
  obtain ⟨hfields, haside, -⟩ := fuseChannel_keeps (s := s) (n := n)
  exact .of_fields (verdictFields_addr hn) hfields haside
theorem judgeChannel_beside (hn : n < 192) : Beside s (s.judgeChannel n) := judgeNoDec_beside.trans (fuseChannel_beside hn)
theorem judgeChannel_fields : FieldsKept (verdictFields n) s (s.judgeChannel n) := fun f hf => by
  rw [judgeChannel, fuseChannel_keeps.1 f hf, judgeNoDec_rd]
theorem judgeChannel_else (h : m ≠ n) : (s.judgeChannel n).prf m = s.prf m := by
  obtain ⟨-, -, -, helse, -⟩ := fuseChannel_keeps (s := s.judgeNoDec n) (n := n)
  rw [judgeChannel, helse m h, judgeNoDec_else h]
/-- The evidence of channel n is that of `s`. -/
def SameEvidence (s t : State) (n : Nat) : Prop :=
  Beside s t ∧ (t.prf n).unreported = (s.prf n).unreported ∧ t.rd (CW_CVER_CVER n) = s.rd (CW_CVER_CVER n) ∧ t.rd (CH_PFCNT_VALUE n) = s.rd (CH_PFCNT_VALUE n)
theorem SameEvidence.refl : SameEvidence s s n := ⟨.refl, rfl, rfl, rfl⟩
theorem SameEvidence.trans (h : SameEvidence s t n) (h' : SameEvidence t u n) : SameEvidence s u n := by
  obtain ⟨h1, h2, h3, h4⟩ := h
  obtain ⟨k1, k2, k3, k4⟩ := h'
  exact ⟨h1.trans k1, k2.trans h2, k3.trans h3, k4.trans h4⟩
/-- The fields of a channel's proof, by their place. -/
theorem verdict_at : ∀ f ∈ CW_CVER_CVER n :: CH_PVER_EXPLIT n :: verdictFields n, f.key / 256 = cwAddr n + 8 ∨ f.key / 256 = chAddr n + 0x304 ∨ f.key / 256 = chAddr n + 0x30B := by
  intro f hf
  simp only [verdictFields, CH_PVER, List.mem_cons, List.not_mem_nil, or_false] at hf
  rcases hf with rfl | rfl | rfl | rfl | rfl | rfl | rfl | rfl | rfl | rfl
  all_goals
    simp only [Fld.key, CW_CVER_CVER, CH_PVER_EXPLIT, CH_PFCNT_VALUE, CH_PVER_STATE, CH_PVER_CFAIL, CH_PVER_EFAIL, CH_PVER_OFAIL, CH_PVER_ESTALE, CH_PVER_OSTALE]
    omega
theorem verdict_other (hn : n < 192) (hx : x < 192) (h : x ≠ n) (hf : f ∈ CW_CVER_CVER n :: CH_PVER_EXPLIT n :: verdictFields n) :
    ∀ g ∈ CW_CVER_CVER x :: CH_PVER_EXPLIT x :: verdictFields x, f.key ≠ g.key := by
  intro g hg hkey
  have h1 := verdict_at f hf
  have h2 := verdict_at g hg
  rw [hkey] at h1
  simp only [chAddr, cwAddr] at h1 h2
  omega
theorem proof_verdict : ∀ g ∈ proofFields x, g ∈ CW_CVER_CVER x :: CH_PVER_EXPLIT x :: verdictFields x := by
  intro g hg
  simp only [proofFields, List.mem_cons, List.not_mem_nil, or_false] at hg
  rcases hg with rfl | rfl | rfl
  · simp
  · simp
  · simp [verdictFields, CH_PVER]
theorem verdict_verdict : ∀ g ∈ verdictFields x, g ∈ CW_CVER_CVER x :: CH_PVER_EXPLIT x :: verdictFields x := fun _ hg => List.mem_cons_of_mem _ (List.mem_cons_of_mem _ hg)
theorem cver_not_verdict : ∀ g ∈ verdictFields x, (CW_CVER_CVER n).key ≠ g.key := by
  intro g hg hkey
  have h2 := verdict_at g (verdict_verdict g hg)
  rw [← hkey] at h2
  have hne : g.key / 256 ≠ cwAddr x + 8 := by
    simp only [verdictFields, CH_PVER, List.mem_cons, List.not_mem_nil, or_false] at hg
    rcases hg with rfl | rfl | rfl | rfl | rfl | rfl | rfl | rfl
    all_goals
      simp only [Fld.key, CH_PFCNT_VALUE, CH_PVER_EXPLIT, CH_PVER_STATE, CH_PVER_CFAIL, CH_PVER_EFAIL, CH_PVER_OFAIL, CH_PVER_ESTALE, CH_PVER_OSTALE, chAddr, cwAddr]
      omega
  rw [← hkey] at hne
  simp only [Fld.key, CW_CVER_CVER, chAddr, cwAddr] at h2 hne
  omega

/-! ### The expectations -/

theorem updExp_other (hn : n < 192) (hx : x < 192) (h : x ≠ n) : SameEvidence s (s.updExp x) n := by
  have hkept : ∀ f ∈ CW_CVER_CVER n :: CH_PVER_EXPLIT n :: verdictFields n, (s.updExp x).rd f = s.rd f := fun f hf => updExp_fields f fun g hg => verdict_other hn hx h hf g (proof_verdict g hg)
  exact ⟨updExp_beside hx, congrArg Prf.unreported (updExp_prf.1 h.symm), hkept _ (by simp), hkept _ (by simp [verdictFields])⟩
theorem explit_other : (CW_CVER_CVER n).key ≠ (CH_PVER_EXPLIT n).key ∧ (CH_PFCNT_VALUE n).key ≠ (CH_PVER_EXPLIT n).key := by
  simp only [Fld.key, CW_CVER_CVER, CH_PVER_EXPLIT, CH_PFCNT_VALUE, chAddr, cwAddr, ne_eq]
  omega
theorem updExp_own (hn : n < 192) (h : (s.expectation n).1 = (s.prf n).expt) : SameEvidence s (s.updExp n) n := by
  refine ⟨updExp_beside hn, ?_, ?_, ?_⟩
  · rw [updExp_same h, put_prf]
  · rw [updExp_same h, rd_put_ne explit_other.1]
  · rw [updExp_same h, rd_put_ne explit_other.2]
theorem unreported_expt {p q : Prf} (h : p.unreported = q.unreported) : p.expt = q.expt := by
  have hu : ∀ r : Prf, r.unreported.expt = r.expt := fun _ => rfl
  rw [← hu p, h, hu]
/-- The evidence of a channel whose expectation is as it was stands. -/
theorem expectAll_evidence (hn : n < 192) (h : (s.expectation n).1 = (s.prf n).expt) : SameEvidence s s.expectAll n :=
  each_invariant (I := fun t => SameEvidence s t n) (fun t x hx ht => by
    by_cases hxn : x = n
    · rw [hxn]
      refine ht.trans (updExp_own hn ?_)
      obtain ⟨hbeside, hprf, -⟩ := ht
      rw [hbeside.expectation hn, h, unreported_expt hprf]
    · exact ht.trans (updExp_other hn (List.mem_range.1 hx) hxn)) .refl
theorem expectAll_beside : Beside s s.expectAll := each_invariant (I := fun t => Beside s t) (fun _ _ hx ht => ht.trans (updExp_beside (List.mem_range.1 hx))) .refl
/-- No NO_DECISION is to be recorded, and nothing has been reported. -/
def Quiet (s t : State) : Prop := t.coll = s.coll ∧ ∀ n, n < 192 → (t.prf n).noDecAt = none ∨ (t.prf n).noDecRep = true
theorem expectAll_quiet (h : ∀ n, n < 192 → (s.prf n).noDecAt = none ∨ (s.prf n).noDecRep = true) : Quiet s s.expectAll :=
  each_invariant (I := fun t => Quiet s t) (fun t x _ ⟨hcoll, hdec⟩ => ⟨updExp_coll.trans hcoll, fun n hn => by
    obtain ⟨-, hsame | hnone⟩ := updExp_prf (s := t) (n := x) (m := n)
    · rw [hsame]
      exact hdec n hn
    · exact .inl hnone⟩) ⟨rfl, h⟩

/-! ### The verdicts -/

theorem judgeChannel_other (hn : n < 192) (hx : x < 192) (h : x ≠ n) : SameEvidence s (s.judgeChannel x) n := by
  refine ⟨judgeChannel_beside hx, congrArg Prf.unreported (judgeChannel_else h.symm), judgeChannel_fields _ cver_not_verdict, judgeChannel_fields _ fun g hg => ?_⟩
  exact verdict_other hn hx h (by simp [verdictFields]) g (verdict_verdict g hg)
theorem judgeChannel_shown (hn : n < 192) (hx : x < 192) (h : x ≠ n) (hf : f ∈ verdictFields n) : (s.judgeChannel x).rd f = s.rd f :=
  judgeChannel_fields f fun g hg => verdict_other hn hx h (verdict_verdict f hf) g (verdict_verdict g hg)
theorem judgeNoDec_quiet (h : (s.prf n).noDecAt = none ∨ (s.prf n).noDecRep = true) : s.judgeNoDec n = s := by
  refine if_neg ?_
  rintro ⟨h1, h2⟩
  rcases h with h | h
  · rw [h] at h1
    exact Bool.false_ne_true h1
  · exact h2 h
theorem judgeAll_quiet (h : Quiet s t) : Quiet s t.judgeAll :=
  each_invariant (I := fun t => Quiet s t) (fun t x hx ⟨hcoll, hdec⟩ => by
    obtain ⟨-, -, hcoll', -, hsame⟩ := fuseChannel_keeps (s := t) (n := x)
    rw [judgeChannel, judgeNoDec_quiet (hdec x (List.mem_range.1 hx))]
    refine ⟨hcoll'.trans hcoll, fun n hn => ?_⟩
    obtain ⟨h1, h2⟩ := hsame n
    rw [h1, h2]
    exact hdec n hn) h
theorem judgeAll_beside : Beside s s.judgeAll := each_invariant (I := fun t => Beside s t) (fun _ _ hx ht => ht.trans (judgeChannel_beside (List.mem_range.1 hx))) .refl
/-- The verdict of channel n is found on its own evidence. -/
theorem judgeAll_at (hn : n < 192) : ∃ u, SameEvidence s u n ∧ ∀ f ∈ verdictFields n, s.judgeAll.rd f = (u.fuseChannel n).rd f := by
  obtain ⟨a, b, ha, hb, heach⟩ := each_split (s := s) (op := fun t n => t.judgeChannel n) channels_nodup (List.mem_range.2 hn)
  have hbefore : SameEvidence s (s.each a fun t n => t.judgeChannel n) n :=
    each_invariant (I := fun t => SameEvidence s t n) (fun t x hx ht => ht.trans (judgeChannel_other hn (List.mem_range.1 (ha x hx).1) (ha x hx).2)) .refl
  refine ⟨(s.each a fun t n => t.judgeChannel n).judgeNoDec n, hbefore.trans ⟨judgeNoDec_beside, judgeNoDec_prf, judgeNoDec_rd, judgeNoDec_rd⟩, fun f hf => ?_⟩
  rw [judgeAll, heach, each_same (fun t => t.rd f) fun t x hx => judgeChannel_shown hn (List.mem_range.1 (hb x hx).1) (hb x hx).2 hf]
  rfl
/-- R181, R182: what a fusion tick shows of channel n whose expectation is as it was; `w` is the state after the verdicts. -/
def Judged (s w : State) (n : Nat) : Prop :=
  let p := s.prf n
  (p.expt = .none → w.rd (CH_PVER_STATE n) = 0) ∧
  (p.expt ≠ .none → 2 ≤ s.rd (CW_CVER_CVER n) → w.rd (CH_PVER_STATE n) = 4 ∧ w.rd (CH_PVER_CFAIL n) = 1) ∧
  (p.expt ≠ .none → p.eNew = true → s.rd (CH_EVER_VERD n) ≠ 0 → State.agrees p.expt (s.rd (CH_EVER_VERD n)) = false → w.rd (CH_PVER_STATE n) = 4 ∧ w.rd (CH_PVER_EFAIL n) = 1) ∧
  (p.expt ≠ .none → s.rd (CW_CVER_CVER n) < 2 → p.eNew = true → State.agrees p.expt (s.rd (CH_EVER_VERD n)) = true → s.rd (CH_PCFG_EREQ n) = 1 → s.rd (CH_PCFG_OREQ n) = 0 →
    p.restartAt + s.deadline n ≤ s.time → w.rd (CH_PVER_STATE n) = 2) ∧
  (w.rd (CH_PVER_STATE n) = 4 → w.rd (CH_PFCNT_VALUE n) = min 4095 (s.rd (CH_PFCNT_VALUE n) + 1)) ∧
  (w.rd (CH_PVER_STATE n) ≠ 4 → w.rd (CH_PFCNT_VALUE n) = s.rd (CH_PFCNT_VALUE n))
theorem Judged.congr (hw : ∀ f ∈ verdictFields n, t.rd f = u.rd f) (h : Judged s u n) : Judged s t n := by
  rw [Judged, hw (CH_PVER_STATE n) (by simp [verdictFields, CH_PVER]), hw (CH_PVER_CFAIL n) (by simp [verdictFields, CH_PVER]), hw (CH_PVER_EFAIL n) (by simp [verdictFields, CH_PVER]),
    hw (CH_PFCNT_VALUE n) (by simp [verdictFields])]
  exact h
theorem fuseChannel_judged (hn : n < 192) (h : SameEvidence s u n) : Judged s (u.fuseChannel n) n := by
  obtain ⟨hbeside, hprf, hcver, hcount⟩ := h
  obtain ⟨hnone, hsome⟩ := fuseChannel_shows (s := u) (n := n)
  have part : ∀ {α : Type} (P : Prf → α), (∀ r, P r.unreported = P r) → P (u.prf n) = P (s.prf n) := fun P hP => by rw [← hP, hprf, hP]
  have hexpt := part Prf.expt fun _ => rfl
  have hnew := part Prf.eNew fun _ => rfl
  have hrestart := part Prf.restartAt fun _ => rfl
  have hverd : u.rd (CH_EVER_VERD n) = s.rd (CH_EVER_VERD n) := hbeside.at (p := (0x302, 0)) ⟨rfl, by decide, by decide⟩ (by decide) hn
  have htime : u.time = s.time := hbeside.part State.time fun _ => rfl
  rw [hcount] at hnone hsome
  rw [hexpt] at hnone hsome
  refine ⟨fun h => (hnone h).1, fun h hc => ?_, fun h he hv ha => ?_, fun h hc he ha hereq horeq hpast => ?_, fun h4 => ?_, fun h4 => ?_⟩
  · obtain ⟨hstate, hcf, -, -⟩ := hsome h
    obtain ⟨h4, hfail⟩ := fused_coarse (s := u) (n := n) (by rw [hcver]; exact hc)
    rw [hstate, h4, hcf, hfail]
    exact ⟨rfl, rfl⟩
  · obtain ⟨hstate, -, hef, -⟩ := hsome h
    obtain ⟨h4, hfail⟩ := fused_electrical (s := u) (n := n) (by rw [hnew]; exact he) (by rw [hverd]; exact hv) (by rw [hexpt, hverd]; exact ha)
    rw [hstate, h4, hef, hfail]
    exact ⟨rfl, rfl⟩
  · obtain ⟨hstate, -⟩ := hsome h
    rw [hstate]
    exact fused_proven (by rw [hcver]; exact hc) (by rw [hnew]; exact he) (by rw [hexpt, hverd]; exact ha) (by rw [hbeside.electrical hn, on_eq rfl, hereq, decide_eq_true rfl])
      (by rw [hbeside.optical hn, on, horeq]; rfl) (by rw [hrestart, hbeside.deadline hn, htime]; exact hpast)
  · by_cases h : (s.prf n).expt = .none
    · rw [(hnone h).1] at h4
      exact absurd h4 (by decide)
    · obtain ⟨hstate, -, -, hpf⟩ := hsome h
      rw [hpf, if_pos (hstate.symm.trans h4)]
  · by_cases h : (s.prf n).expt = .none
    · exact (hnone h).2
    · obtain ⟨hstate, -, -, hpf⟩ := hsome h
      rw [hpf, if_neg fun h => h4 (hstate.trans h)]
theorem judged_all (hn : n < 192) (h : (s.expectation n).1 = (s.prf n).expt) : Judged s s.expectAll.judgeAll n := by
  obtain ⟨u, hu, hshown⟩ := judgeAll_at (s := s.expectAll) hn
  exact (fuseChannel_judged hn ((expectAll_evidence hn h).trans hu)).congr hshown
end State
end Sys2Proof.Machine
end

section
/-! The verdicts of the groups at a fusion tick (R184), and the release that is pending (R188). -/
namespace Sys2Proof.Machine
open Sys2Proof.Safety
namespace State
variable {s t u : State} {n m x g : Nat} {f : Fld}

/-! ### The verdict of one group -/

theorem agver_at : ∀ f ∈ (SN_AGVER g).fields, f.key / 256 = 0xD12240 + 2 * g := by
  intro f hf
  simp only [SN_AGVER, List.mem_cons, List.not_mem_nil, or_false] at hf
  rcases hf with rfl | rfl | rfl
  all_goals
    simp only [Fld.key, SN_AGVER_STATE, SN_AGVER_NFAIL, SN_AGVER_FIRST]
    omega
theorem agver_keys : (SN_AGVER_STATE g).key ≠ (SN_AGVER_NFAIL g).key ∧ (SN_AGVER_STATE g).key ≠ (SN_AGVER_FIRST g).key ∧ (SN_AGVER_NFAIL g).key ≠ (SN_AGVER_FIRST g).key := by
  simp [Fld.key, SN_AGVER_STATE, SN_AGVER_NFAIL, SN_AGVER_FIRST]
/-- The verdict of a group is shown. -/
def showGroup (s : State) (g v k first : Nat) : State := ((s.wr (SN_AGVER_STATE g) v).wr (SN_AGVER_NFAIL g) k).wr (SN_AGVER_FIRST g) first
theorem showGroup_fields {v k first : Nat} : FieldsKept (SN_AGVER g).fields s (s.showGroup g v k first) := by
  unfold showGroup
  exact .wr (by simp [SN_AGVER]) (.wr (by simp [SN_AGVER]) (.wr (by simp [SN_AGVER]) .refl))
theorem showGroup_rd {v k first : Nat} (hv : v < 4) (hk : k < 64) : (s.showGroup g v k first).rd (SN_AGVER_STATE g) = v ∧ (s.showGroup g v k first).rd (SN_AGVER_NFAIL g) = k := by
  obtain ⟨h1, h2, h3⟩ := agver_keys (g := g)
  constructor
  · rw [showGroup, rd_wr_ne h2, rd_wr_ne h1, rd_wr_same]
    exact Nat.mod_eq_of_lt hv
  · rw [showGroup, rd_wr_ne h3, rd_wr_same]
    exact Nat.mod_eq_of_lt hk
theorem showGroup_part {α : Type} (P : State → α) (hP : ∀ (y : State) f v, P (y.wr f v) = P y) {v k first : Nat} : P (s.showGroup g v k first) = P s := by rw [showGroup, hP, hP, hP]
/-- The failing members of the active aspect of group g. -/
def failing (s : State) (g : Nat) : List Nat := ((s.members (s.rd (SN_AGACT_ASP g))).filter fun n => s.rd (CH_AGRP_GRP n) == g).filter fun n => s.rd (CH_PVER_STATE n) == 4
theorem fuseGroup_cases : (s.on (SN_AGACT_VALID g) = false ∧ s.fuseGroup g = s.showGroup g 0 0 0) ∨
    (s.on (SN_AGACT_VALID g) = true ∧ ∃ v first k, v < 4 ∧ (s.failing g ≠ [] → v = 3) ∧ s.fuseGroup g = (s.showGroup g v (min 63 (s.failing g).length) first).modGroup g k) := by
  unfold fuseGroup
  by_cases h : s.on (SN_AGACT_VALID g) = true
  · rw [if_neg (not_not_intro h)]
    extract_lets ms st fails v0 v first
    have hv0 : v0 < 4 ∧ (fails ≠ [] → v0 = 3) := by
      unfold v0
      split
      · exact ⟨by decide, fun _ => rfl⟩
      · next hnil =>
        refine ⟨?_, fun hne => absurd hne hnil⟩
        split
        · decide
        · split
          · decide
          · decide
    have hv : v < 4 ∧ (fails ≠ [] → v = 3) := by
      unfold v
      split
      · exact ⟨by decide, fun _ => rfl⟩
      · exact hv0
    exact .inr ⟨h, v, first, _, hv.1, hv.2, rfl⟩
  · exact .inl ⟨Bool.not_eq_true _ ▸ h, if_pos h⟩
theorem verdictAside_modGroup {k : Group → Group} : verdictAside (s.modGroup g k) = verdictAside s := rfl
theorem fuseGroup_keeps : FieldsKept (SN_AGVER g).fields s (s.fuseGroup g) ∧ verdictAside (s.fuseGroup g) = verdictAside s ∧ (s.fuseGroup g).coll = s.coll := by
  obtain ⟨-, heq⟩ | ⟨-, v, first, k, -, -, heq⟩ := fuseGroup_cases (s := s) (g := g)
  · rw [heq]
    exact ⟨showGroup_fields, showGroup_part verdictAside fun _ _ _ => rfl, showGroup_part State.coll fun _ _ _ => rfl⟩
  · rw [heq]
    refine ⟨.modGroup showGroup_fields, ?_, ?_⟩
    · rw [verdictAside_modGroup]
      exact showGroup_part verdictAside fun _ _ _ => rfl
    · rw [modGroup_coll]
      exact showGroup_part State.coll fun _ _ _ => rfl
/-- R184: a group without an active aspect shows 0, one with a failing member ERROR. -/
theorem fuseGroup_shows : (s.on (SN_AGACT_VALID g) = false → (s.fuseGroup g).rd (SN_AGVER_STATE g) = 0 ∧ (s.fuseGroup g).rd (SN_AGVER_NFAIL g) = 0) ∧
    (s.on (SN_AGACT_VALID g) = true → s.failing g ≠ [] → (s.fuseGroup g).rd (SN_AGVER_STATE g) = 3) := by
  obtain ⟨hoff, heq⟩ | ⟨hon, v, first, k, hlt, hv, heq⟩ := fuseGroup_cases (s := s) (g := g)
  · refine ⟨fun _ => ?_, fun hon => absurd (hoff.symm.trans hon) Bool.false_ne_true⟩
    rw [heq]
    exact showGroup_rd (by decide) (by decide)
  · refine ⟨fun hoff => absurd (hoff.symm.trans hon) Bool.false_ne_true, fun _ hne => ?_⟩
    obtain ⟨hstate, -⟩ := showGroup_rd (s := s) (g := g) (k := min 63 (s.failing g).length) (first := first) hlt (by omega)
    rw [heq, modGroup_rd, hstate, hv hne]
theorem fuseGroup_beside (hg : g < 16) : Beside s (s.fuseGroup g) := by
  obtain ⟨hfields, haside, -⟩ := fuseGroup_keeps (s := s) (g := g)
  refine .of_fields (fun f hf => ?_) hfields haside
  rw [agver_at f hf]
  simp only [ProofAddr]
  omega

/-! ### The verdicts of all groups -/

theorem agver_other (hx : x ≠ g) (hf : f ∈ (SN_AGVER g).fields) : (s.fuseGroup x).rd f = s.rd f :=
  fuseGroup_keeps.1 f fun k hk hkey => by
    have h1 := agver_at f hf
    rw [hkey, agver_at k hk] at h1
    omega
theorem verdict_not_group (hn : n < 192) (hf : f ∈ CW_CVER_CVER n :: CH_PVER_EXPLIT n :: verdictFields n) : (s.fuseGroup x).rd f = s.rd f :=
  fuseGroup_keeps.1 f fun k hk hkey => by
    have h1 := verdict_at f hf
    rw [hkey, agver_at k hk] at h1
    simp only [chAddr, cwAddr] at h1
    omega
theorem judgeGroups_beside : Beside s s.judgeGroups := each_invariant (I := fun t => Beside s t) (fun _ _ hx ht => ht.trans (fuseGroup_beside (List.mem_range.1 hx))) .refl
theorem judgeGroups_verdict (hn : n < 192) (hf : f ∈ CW_CVER_CVER n :: CH_PVER_EXPLIT n :: verdictFields n) : s.judgeGroups.rd f = s.rd f := each_same (fun t => t.rd f) fun _ _ _ => verdict_not_group hn hf
theorem judgeGroups_coll : s.judgeGroups.coll = s.coll := each_same State.coll fun t x _ => by
  obtain ⟨-, -, hcoll⟩ := fuseGroup_keeps (s := t) (g := x)
  exact hcoll
theorem judgeGroups_at (hg : g < 16) : ∃ u, Beside s u ∧ (∀ n, n < 192 → u.rd (CH_PVER_STATE n) = s.rd (CH_PVER_STATE n)) ∧ ∀ f ∈ (SN_AGVER g).fields, s.judgeGroups.rd f = (u.fuseGroup g).rd f := by
  obtain ⟨a, b, ha, hb, heach⟩ := each_split (s := s) (op := fun t g => t.fuseGroup g) List.nodup_range (List.mem_range.2 hg)
  have hbeside : Beside s (s.each a fun t g => t.fuseGroup g) := each_invariant (I := fun t => Beside s t) (fun t x hx ht => ht.trans (fuseGroup_beside (List.mem_range.1 (ha x hx).1))) .refl
  refine ⟨s.each a fun t g => t.fuseGroup g, hbeside, fun n hn => each_same (fun t => t.rd (CH_PVER_STATE n)) fun _ _ _ => verdict_not_group hn (by simp [verdictFields, CH_PVER]), fun f hf => ?_⟩
  rw [judgeGroups, heach, each_same (fun t => t.rd f) fun t x hx => agver_other (hb x hx).2 hf]
/-- R184: the verdict of group g after the verdicts of the channels in `s`. -/
theorem judgeGroups_does (hg : g < 16) : (s.on (SN_AGACT_VALID g) = false → s.judgeGroups.rd (SN_AGVER_STATE g) = 0 ∧ s.judgeGroups.rd (SN_AGVER_NFAIL g) = 0) ∧
    (s.on (SN_AGACT_VALID g) = true → ∀ n, n < 192 → s.rd (CH_AGRP_GRP n) = g → s.member n (s.rd (SN_AGACT_ASP g)) = true → s.rd (CH_PVER_STATE n) = 4 → s.judgeGroups.rd (SN_AGVER_STATE g) = 3) := by
  obtain ⟨u, hbeside, hstate, hshown⟩ := judgeGroups_at (s := s) hg
  obtain ⟨hnone, hfail⟩ := fuseGroup_shows (s := u) (g := g)
  obtain ⟨hvalid, hasp⟩ := hbeside.aspect_shown hg
  rw [hvalid] at hnone hfail
  rw [hshown _ (by simp [SN_AGVER]), hshown _ (by simp [SN_AGVER])]
  refine ⟨hnone, fun hon n hn hgrp hmember h4 => hfail hon (List.ne_nil_of_mem (a := n) ?_)⟩
  have hlt : s.rd (SN_AGACT_ASP g) < 64 := rd_lt (f := SN_AGACT_ASP g)
  obtain ⟨hgroup, -⟩ := hbeside.group_fields hn
  refine List.mem_filter.2 ⟨List.mem_filter.2 ⟨(mem_members hn).2 ?_, ?_⟩, ?_⟩
  · rw [hasp, hbeside.member hn hlt, hmember]
  · rw [hgroup, hgrp, beq_self_eq_true]
  · rw [hstate n hn, h4, beq_self_eq_true]

/-! ### The tick up to the release -/

theorem updOpt_beside : Beside s s.updOpt := ⟨fun _ _ => rfl, verdictAside_updOpt⟩
theorem fuseAll_beside : Beside s s.fuseAll := ((expectAll_beside.trans judgeAll_beside).trans updOpt_beside).trans judgeGroups_beside
theorem updOpt_coll : s.updOpt.coll = s.coll := rfl
theorem fuseAll_quiet (h : ∀ n, n < 192 → (s.prf n).noDecAt = none ∨ (s.prf n).noDecRep = true) : s.fuseAll.coll = s.coll := by
  obtain ⟨hcoll, -⟩ := judgeAll_quiet (expectAll_quiet h)
  rw [fuseAll, judgeGroups_coll, updOpt_coll, hcoll]
theorem updOpt_rd : s.updOpt.rd f = s.rd f := rfl
theorem fuseAll_judged (hn : n < 192) (h : (s.expectation n).1 = (s.prf n).expt) : Judged s s.fuseAll n :=
  (judged_all hn h).congr fun f hf => by rw [fuseAll, judgeGroups_verdict hn (verdict_verdict f hf), updOpt_rd]
theorem fuseAll_group (hg : g < 16) : (s.rd (SN_AGACT_VALID g) = 0 → s.fuseAll.rd (SN_AGVER_STATE g) = 0 ∧ s.fuseAll.rd (SN_AGVER_NFAIL g) = 0) ∧
    (s.rd (SN_AGACT_VALID g) = 1 → ∀ n : Fin 192, s.rd (CH_AGRP_GRP n) = g → s.member n (s.rd (SN_AGACT_ASP g)) = true → s.fuseAll.rd (CH_PVER_STATE n) = 4 → s.fuseAll.rd (SN_AGVER_STATE g) = 3) := by
  have hbeside : Beside s s.expectAll.judgeAll.updOpt := (expectAll_beside.trans judgeAll_beside).trans updOpt_beside
  obtain ⟨hnone, hfail⟩ := judgeGroups_does (s := s.expectAll.judgeAll.updOpt) hg
  obtain ⟨hvalid, hasp⟩ := hbeside.aspect_shown hg
  have hlt : s.rd (SN_AGACT_ASP g) < 64 := rd_lt (f := SN_AGACT_ASP g)
  rw [hvalid] at hnone hfail
  refine ⟨fun h => hnone (by rw [on, h]; rfl), fun h n hgrp hmember h4 => hfail (by rw [on_eq rfl, h, decide_eq_true rfl]) n n.isLt ?_ ?_ ?_⟩
  · rw [(hbeside.group_fields n.isLt).1, hgrp]
  · rw [hasp, hbeside.member n.isLt hlt, hmember]
  · rw [fuseAll, judgeGroups_verdict n.isLt (by simp [verdictFields, CH_PVER])] at h4
    exact h4
/-- The fields that a fusion tick writes, up to the release. -/
def tickFields : List Fld := channels.flatMap (fun n => (CH_PVER n).fields ++ [CW_CVER_CVER n, CH_PFCNT_VALUE n]) ++ (List.range 16).flatMap fun g => (SN_AGVER g).fields
theorem verdict_tick (hn : n ∈ channels) : ∀ f ∈ CW_CVER_CVER n :: CH_PVER_EXPLIT n :: verdictFields n, f ∈ tickFields := by
  intro f hf
  refine List.mem_append_left _ (List.mem_flatMap.2 ⟨n, hn, ?_⟩)
  simp only [verdictFields, CH_PVER, List.mem_append, List.mem_cons, List.not_mem_nil, or_false] at hf ⊢
  tauto
theorem fuseAll_fields : FieldsKept tickFields s s.fuseAll := by
  have hexpect : FieldsKept tickFields s s.expectAll := .each fun _ _ hx => updExp_fields.mono fun g hg => verdict_tick hx g (proof_verdict g hg)
  have hjudge : FieldsKept tickFields s.expectAll s.expectAll.judgeAll := .each fun _ _ hx => judgeChannel_fields.mono fun g hg => verdict_tick hx g (verdict_verdict g hg)
  have hgroups : FieldsKept tickFields s.expectAll.judgeAll.updOpt s.fuseAll := .each fun t x hx => (fuseGroup_keeps (s := t) (g := x)).1.mono fun g hg =>
    List.mem_append_right _ (List.mem_flatMap.2 ⟨x, hx, hg⟩)
  exact ((hexpect.trans hjudge).updOpt).trans hgroups
end State
end Sys2Proof.Machine
end

section
/-! The release that is pending at a fusion tick (R188), and the fusion tick. -/
namespace Sys2Proof.Machine
open Sys2Proof.Safety

theorem exec_fusionTick {s : State} : exec .fusionTick s = execFusionTick s := rfl

namespace State
variable {s t u : State} {n m per y0 : Nat} {f : Fld}

/-! ### The release of a latch (R188, R189) -/

/-- The latch is open. -/
def openLatch (s : State) (n : Nat) : State := ((s.put (CH_SSTAT_LATCH n) false).wr (CH_SSTAT_CAUSE n) 0).modProt n fun p => { p with latchEv := none }
/-- The period in force stays until the next boundary (R189). -/
def keepPeriod (s : State) (m per : Nat) : State :=
  let t := s.modGen m fun g => { g with perF := per }
  if per = t.rd (CH_PER_PER m) ∨ ¬t.powered m then t else t.put (CH_ESTAT_PEND m) true
/-- The period of the bridge stays. -/
def keepPeriods (s : State) (n per : Nat) : State := if (s.keepPeriod n per).leads n then (s.keepPeriod n per).keepPeriod (n + 1) per else s.keepPeriod n per
/-- The channel goes on from y0, its proof restarted. -/
def goOn (s : State) (n y0 : Nat) : State := ((s.startHandOver n y0).restartProof n ((s.startHandOver n y0).expectation n).1).updLease n
theorem clearLatch_eq : s.clearLatch n = ((s.openLatch n).keepPeriods n (s.perF n)).goOn n (s.emitted n) := rfl
/-- The fields that a release writes but for the latch's own. -/
def releaseFields (n : Nat) : List Fld := [CH_ESTAT_PEND n, CH_ESTAT_PEND (n + 1), CH_STAT_LARM n, CH_LREM_TICKS n, CH_SHST_HOACT n] ++ valueFields n
theorem keepPeriod_fields : FieldsKept [CH_ESTAT_PEND m] s (s.keepPeriod m per) := by
  unfold keepPeriod
  extract_lets t
  exact .ite (.modGen .refl) (.put List.mem_cons_self (.modGen .refl))
theorem keepPeriods_fields : FieldsKept (releaseFields n) s (s.keepPeriods n per) := by
  have hone : ∀ t : State, FieldsKept (releaseFields n) t (t.keepPeriod n per) := fun t => keepPeriod_fields.mono fun g hg => by simp [List.mem_singleton.1 hg, releaseFields]
  unfold keepPeriods
  split
  · exact (hone s).trans (keepPeriod_fields.mono fun g hg => by simp [List.mem_singleton.1 hg, releaseFields])
  · exact hone s
theorem goOn_fields : FieldsKept (releaseFields n) s (s.goOn n y0) := by
  have hhand : FieldsKept (releaseFields n) s (s.startHandOver n y0) := startHandOver_fields.mono fun g hg => by
    simp only [releaseFields, List.mem_append, List.mem_cons, List.not_mem_nil, or_false] at hg ⊢
    tauto
  have hproof : FieldsKept (releaseFields n) (s.startHandOver n y0) ((s.startHandOver n y0).restartProof n ((s.startHandOver n y0).expectation n).1) := restartProof_fields.mono fun g hg => by simp [releaseFields, valueFields, hg]
  exact (hhand.trans hproof).trans (updLease_fields.mono fun g hg => by
    simp only [releaseFields, List.mem_append, List.mem_cons, List.not_mem_nil, or_false] at hg ⊢
    tauto)
theorem openLatch_fields : FieldsKept [CH_SSTAT_LATCH n, CH_SSTAT_CAUSE n] s (s.openLatch n) := by
  unfold openLatch
  exact .modProt (.wr (by simp) (.put (by simp) .refl))
theorem latch_not_cause : (CH_SSTAT_LATCH n).key ≠ (CH_SSTAT_CAUSE n).key := by simp [Fld.key, CH_SSTAT_LATCH, CH_SSTAT_CAUSE]
theorem openLatch_open : (s.openLatch n).rd (CH_SSTAT_LATCH n) = 0 := by
  rw [openLatch, modProt_rd, rd_wr_ne latch_not_cause, rd_put_same Nat.zero_lt_one]
  rfl
theorem latch_not_release : ∀ g ∈ releaseFields n, (CH_SSTAT_LATCH n).key ≠ g.key := by
  intro g hg
  simp only [releaseFields, valueFields, proofFields, List.mem_append, List.mem_cons, List.not_mem_nil, or_false] at hg
  rcases hg with (rfl | rfl | rfl | rfl | rfl) | (rfl | rfl | rfl) | rfl | rfl | rfl
  all_goals
    simp only [Fld.key, CH_SSTAT_LATCH, CH_ESTAT_PEND, CH_STAT_LARM, CH_LREM_TICKS, CH_SHST_HOACT, CH_PVER_EXPLIT, CW_CVER_CVER, CH_PVER_STATE, CH_APPL_VALUE, CH_SHST_CLAMP, CH_SHST_DIS, chAddr, cwAddr, ne_eq]
    omega
theorem release_below (hn : n < 192) : ∀ g ∈ releaseFields n ++ [CH_SSTAT_LATCH n, CH_SSTAT_CAUSE n], g.key < 0xD10000 * 256 := by
  intro g hg
  simp only [releaseFields, valueFields, proofFields, List.mem_append, List.mem_cons, List.not_mem_nil, or_false] at hg
  rcases hg with ((rfl | rfl | rfl | rfl | rfl) | (rfl | rfl | rfl) | rfl | rfl | rfl) | rfl | rfl
  all_goals
    simp only [Fld.key, CH_SSTAT_LATCH, CH_SSTAT_CAUSE, CH_ESTAT_PEND, CH_STAT_LARM, CH_LREM_TICKS, CH_SHST_HOACT, CH_PVER_EXPLIT, CW_CVER_CVER, CH_PVER_STATE, CH_APPL_VALUE, CH_SHST_CLAMP, CH_SHST_DIS, chAddr, cwAddr]
    omega
theorem clearLatch_fields : FieldsKept (releaseFields n ++ [CH_SSTAT_LATCH n, CH_SSTAT_CAUSE n]) s (s.clearLatch n) := by
  rw [clearLatch_eq]
  exact ((openLatch_fields.mono fun g hg => List.mem_append_right _ hg).trans (keepPeriods_fields.mono fun g hg => List.mem_append_left _ hg)).trans (goOn_fields.mono fun g hg => List.mem_append_left _ hg)
theorem clearLatch_open : (s.clearLatch n).rd (CH_SSTAT_LATCH n) = 0 := by
  rw [clearLatch_eq, goOn_fields _ latch_not_release, keepPeriods_fields _ latch_not_release, openLatch_open]
theorem chanlessColl_keepPeriod : chanlessColl (s.keepPeriod m per) = chanlessColl s := by
  unfold keepPeriod
  extract_lets t
  exact chanlessColl_ite (chanlessColl_of chanless_modGen) (chanlessColl_of (chanless_put.trans chanless_modGen))
theorem chanlessColl_keepPeriods : chanlessColl (s.keepPeriods n per) = chanlessColl s := by
  unfold keepPeriods
  exact chanlessColl_ite (chanlessColl_keepPeriod.trans chanlessColl_keepPeriod) chanlessColl_keepPeriod
theorem chanlessColl_wr {v : Nat} : chanlessColl (s.wr f v) = chanlessColl s := rfl
theorem chanlessColl_put {b : Bool} : chanlessColl (s.put f b) = chanlessColl s := rfl
theorem chanlessColl_updLease : chanlessColl (s.updLease n) = chanlessColl s := by
  unfold updLease
  extract_lets a u
  have hu : chanlessColl u = chanlessColl s := chanlessColl_put
  clear_value u
  refine chanlessColl_ite rfl (chanlessColl_ite ?_ hu)
  rw [chanlessColl_modProt, chanlessColl_wr, hu]
theorem chanlessColl_goOn : chanlessColl (s.goOn n y0) = chanlessColl s := by
  rw [goOn, chanlessColl_updLease, chanlessColl_of chanless_restartProof, chanlessColl_startHandOver]
theorem chanlessColl_clearLatch : chanlessColl (s.clearLatch n) = chanlessColl s := by
  rw [clearLatch_eq, chanlessColl_goOn, chanlessColl_keepPeriods, openLatch, chanlessColl_modProt, chanlessColl_wr, chanlessColl_put]

/-! ### The pending release -/

theorem releaseFails_lt : s.releaseFails n < 8 := by
  unfold releaseFails
  extract_lets p st lit
  repeat' split
  all_goals decide
theorem releaseFails_watchdog (h : s.rd (CH_SSTAT_CAUSE n) = 4) : s.releaseFails n = 7 := if_pos h
theorem judgeRelease_none (h : s.rd SN_LCLRST_PEND = 0) : s.judgeRelease = s := if_pos (by simp [on, h])
/-- The request for a release is answered by k. -/
def releaseTaken (s : State) (k : Nat) : State := (s.put SN_LCLRST_PEND false).wr SN_LCLRST_REF k
/-- The release of channel n is judged: `k` is the condition that fails, 0 where none does. -/
def releaseJudged (s : State) (k n : Nat) : State := if k = 0 then (s.releaseTaken k).clearLatch n else (s.releaseTaken k).report clCfg (16 * n + 11) 1 12 (addrData SN_LCLR.last)
theorem judgeRelease_eq (hp : s.rd SN_LCLRST_PEND = 1) (hl : s.rd (CH_SSTAT_LATCH (s.rd SN_LCLR_CH)) = 1) :
    s.judgeRelease = s.releaseJudged ((s.put SN_LCLRST_PEND false).releaseFails (s.rd SN_LCLR_CH)) (s.rd SN_LCLR_CH) := by
  have hlatch : (s.put SN_LCLRST_PEND false).rd (CH_SSTAT_LATCH (s.rd SN_LCLR_CH)) = 1 := by
    have hlt : s.rd SN_LCLR_CH < 256 := rd_lt (f := SN_LCLR_CH)
    rw [rd_put_ne, hl]
    simp only [Fld.key, CH_SSTAT_LATCH, SN_LCLRST_PEND, chAddr, ne_eq]
    omega
  unfold judgeRelease
  rw [if_neg (by simp [on, hp])]
  extract_lets n u k v
  rw [if_neg (by simp [on, u, n, hlatch])]
  rfl
theorem request_keys : SN_LCLRST_PEND.key ≠ SN_LCLRST_REF.key ∧ 0xD10000 * 256 ≤ SN_LCLRST_PEND.key ∧ 0xD10000 * 256 ≤ SN_LCLRST_REF.key := by decide
theorem latch_not_request : (CH_SSTAT_LATCH n).key ≠ SN_LCLRST_REF.key ∧ (CH_SSTAT_LATCH n).key ≠ SN_LCLRST_PEND.key := by
  simp only [Fld.key, CH_SSTAT_LATCH, SN_LCLRST_REF, SN_LCLRST_PEND, chAddr, ne_eq]
  omega
/-- What judging a pending release shows. -/
theorem releaseJudged_does {k : Nat} (hk : k < 8) (hn : n < 192) (hl : s.rd (CH_SSTAT_LATCH n) = 1) : let t := s.releaseJudged k n
    t.rd SN_LCLRST_PEND = 0 ∧ t.rd SN_LCLRST_REF = k ∧ t.rd (CH_SSTAT_LATCH n) = (if k = 0 then 0 else 1) ∧ MemoriesKept s t ∧ (k ≠ 0 → t.coll = (s.report clCfg (16 * n + 11) 1 12 (addrData SN_LCLR.last)).coll) := by
  intro t
  obtain ⟨hpr, hpk, hrk⟩ := request_keys
  obtain ⟨hlr, hlp⟩ := latch_not_request (n := n)
  have hpend : (s.releaseTaken k).rd SN_LCLRST_PEND = 0 := by
    rw [releaseTaken, rd_wr_ne hpr, rd_put_same Nat.zero_lt_one]
    rfl
  have href : (s.releaseTaken k).rd SN_LCLRST_REF = k := by
    rw [releaseTaken, rd_wr_same]
    exact Nat.mod_eq_of_lt (show k < 16 by omega)
  have hlatch : (s.releaseTaken k).rd (CH_SSTAT_LATCH n) = 1 := by rw [releaseTaken, rd_wr_ne hlr, rd_put_ne hlp, hl]
  have ht : t = if k = 0 then (s.releaseTaken k).clearLatch n else (s.releaseTaken k).report clCfg (16 * n + 11) 1 12 (addrData SN_LCLR.last) := rfl
  clear_value t
  by_cases h0 : k = 0
  · rw [if_pos h0] at ht
    have hkept : ∀ f : Fld, 0xD10000 * 256 ≤ f.key → t.rd f = (s.releaseTaken k).rd f := fun f hf => by
      rw [ht]
      refine clearLatch_fields f fun g hg hkey => ?_
      have hbelow := release_below hn g hg
      omega
    obtain ⟨⟨hmem, hflash, hotp⟩, -⟩ := chanlessColl_kept (chanlessColl_clearLatch (s := s.releaseTaken k) (n := n))
    rw [← ht] at hmem hflash hotp
    refine ⟨(hkept _ hpk).trans hpend, (hkept _ hrk).trans href, ?_, ⟨hmem, hflash, hotp⟩, fun h => absurd h0 h⟩
    rw [ht, clearLatch_open, if_pos h0]
  · rw [if_neg h0] at ht
    rw [ht, if_neg h0, report_rd, report_rd, report_rd]
    exact ⟨hpend, href, hlatch, ⟨rfl, rfl, rfl⟩, fun _ => report_congr rfl rfl rfl⟩

/-! ### Recovery from optical degradation, and the tick -/

theorem recoverOpt_fields : FieldsKept [SPT_DEG_OPTDEG] s s.recoverOpt := by
  unfold recoverOpt
  exact .ite (.put List.mem_cons_self .refl) .refl
theorem recoverOpt_bare : bare s.recoverOpt = bare s := by
  unfold recoverOpt
  split
  · rfl
  · rfl
theorem recoverOpt_part {α : Type} (P : State → α) (hP : ∀ x : State, P (bare x) = P x) : P s.recoverOpt = P s := by rw [← hP, recoverOpt_bare, hP]
theorem fusionTick_none (h : s.dueOn 16000 0 = false) : exec .fusionTick s = .next s := by
  rw [exec_fusionTick, execFusionTick, h, if_pos Bool.false_ne_true]
theorem fusionTick_due (h : s.dueOn 16000 0 = true) : exec .fusionTick s = .next s.fuseAll.judgeRelease.recoverOpt := by
  rw [exec_fusionTick, execFusionTick, h, if_neg (not_not_intro rfl)]
  rfl
end State
end Sys2Proof.Machine
end

section
/-! FUSION_TICK (R180 to R184, R188), and the statement of evidence, verdicts and releases. -/
namespace Sys2Proof.Machine
open Sys2Proof.Safety
namespace State
variable {s t : State} {n : Nat} {f : Fld}

theorem deg_key : SPT_DEG_OPTDEG.key = 0xD20085 * 256 := rfl
theorem recoverOpt_verdict (hf : f ∈ verdictFields n) : s.recoverOpt.rd f = s.rd f :=
  recoverOpt_fields f fun g hg hkey => by
    have h := verdict_at f (verdict_verdict f hf)
    rw [hkey, List.mem_singleton.1 hg, deg_key] at h
    simp only [chAddr, cwAddr] at h
    omega
theorem recoverOpt_group {g : Nat} (hg : g < 16) (hf : f ∈ (SN_AGVER g).fields) : s.recoverOpt.rd f = s.rd f :=
  recoverOpt_fields f fun k hk hkey => by
    have h := agver_at f hf
    rw [hkey, List.mem_singleton.1 hk, deg_key] at h
    omega
theorem recoverOpt_rd (hf : f.key ≠ SPT_DEG_OPTDEG.key) : s.recoverOpt.rd f = s.rd f := recoverOpt_fields f fun g hg => by
  rw [List.mem_singleton.1 hg]
  exact hf
theorem bare_coll : (bare s).coll = s.coll := rfl
theorem bare_verdictAside : verdictAside (bare s) = verdictAside s := rfl
theorem recoverOpt_coll : s.recoverOpt.coll = s.coll := recoverOpt_part State.coll fun _ => bare_coll
theorem recoverOpt_verdictAside : verdictAside s.recoverOpt = verdictAside s := recoverOpt_part verdictAside fun _ => bare_verdictAside
theorem chanless_verdictAside {w : SMap Group} {c : Coll} : chanless { verdictAside t with groups := w, coll := c } = chanless { t with groups := w, coll := c } := rfl
theorem chanless_of_verdictAside (h : verdictAside t = verdictAside s) : chanless { t with groups := s.groups, coll := s.coll } = chanless s := by
  rw [← chanless_verdictAside, h, chanless_verdictAside]
theorem memories_of_verdictAside (h : verdictAside t = verdictAside s) : MemoriesKept s t ∧ t.cores = s.cores := by
  have part : ∀ {α : Type} (P : State → α), (∀ x : State, P (verdictAside x) = P x) → P t = P s := fun P hP => by rw [← hP t, h, hP]
  exact ⟨⟨part State.mem fun _ => rfl, part State.flash fun _ => rfl, part State.otp fun _ => rfl⟩, part State.cores fun _ => rfl⟩
theorem fuseAll_request : s.fuseAll.rd SN_LCLRST_PEND = s.rd SN_LCLRST_PEND ∧ s.fuseAll.rd SN_LCLR_CH = s.rd SN_LCLR_CH :=
  ⟨fuseAll_beside.above (.inl (by decide)), fuseAll_beside.above (.inl (by decide))⟩

/-- What a fusion tick does while no release is pending. -/
theorem fusionTick_does (hdue : s.dueOn 16000 0 = true) (hpend : s.rd SN_LCLRST_PEND = 0) :
    ∃ t, exec .fusionTick s = .next t ∧ MemoriesKept s t ∧ ((∀ n, n < 192 → (s.prf n).noDecAt = none ∨ (s.prf n).noDecRep = true) → t.coll = s.coll) ∧ t.cores = s.cores ∧
      (∀ n : Fin 192, (s.expectation n).1 = (s.prf n).expt → Judged s t n) ∧
      (∀ g : Fin 16, (s.rd (SN_AGACT_VALID g) = 0 → t.rd (SN_AGVER_STATE g) = 0 ∧ t.rd (SN_AGVER_NFAIL g) = 0) ∧
        (s.rd (SN_AGACT_VALID g) = 1 → ∀ n : Fin 192, s.rd (CH_AGRP_GRP n) = g → s.member n (s.rd (SN_AGACT_ASP g)) = true →
          t.rd (CH_PVER_STATE n) = 4 → t.rd (SN_AGVER_STATE g) = 3)) ∧
      FieldsKept (tickFields ++ [SPT_DEG_OPTDEG]) s t ∧ chanless { t with groups := s.groups, coll := s.coll } = chanless s := by
  have hexec : exec .fusionTick s = .next s.fuseAll.recoverOpt := by
    rw [fusionTick_due hdue, judgeRelease_none (fuseAll_request.1.trans hpend)]
  have haside : verdictAside s.fuseAll.recoverOpt = verdictAside s := recoverOpt_verdictAside.trans fuseAll_beside.2
  obtain ⟨hmem, hcores⟩ := memories_of_verdictAside haside
  refine ⟨_, hexec, hmem, fun h => ?_, hcores, fun n h => ?_, fun g => ?_, ?_, chanless_of_verdictAside haside⟩
  · rw [recoverOpt_coll, fuseAll_quiet h]
  · exact (fuseAll_judged n.isLt h).congr fun f hf => recoverOpt_verdict hf
  · obtain ⟨hnone, hfail⟩ := fuseAll_group (s := s) g.isLt
    rw [recoverOpt_group g.isLt (by simp [SN_AGVER]), recoverOpt_group g.isLt (by simp [SN_AGVER])]
    refine ⟨hnone, fun hv n hgrp hmember h4 => hfail hv n hgrp hmember ?_⟩
    rwa [recoverOpt_verdict (n := n) (by simp [verdictFields, CH_PVER])] at h4
  · exact (fuseAll_fields.mono fun g hg => List.mem_append_left _ hg).trans (recoverOpt_fields.mono fun g hg => List.mem_append_right _ hg)
/-- What a fusion tick does of a release that is pending (R188). -/
theorem fusionTick_releases (hdue : s.dueOn 16000 0 = true) (hpend : s.rd SN_LCLRST_PEND = 1) (hn : s.rd SN_LCLR_CH < 192) (hl : s.rd (CH_SSTAT_LATCH (s.rd SN_LCLR_CH)) = 1) :
    ∃ t, exec .fusionTick s = .next t ∧ t.rd SN_LCLRST_PEND = 0 ∧ MemoriesKept s t ∧
      (s.rd (CH_SSTAT_CAUSE (s.rd SN_LCLR_CH)) = 4 → t.rd SN_LCLRST_REF = 7 ∧ t.rd (CH_SSTAT_LATCH (s.rd SN_LCLR_CH)) = 1) ∧
      (t.rd SN_LCLRST_REF = 0 ↔ t.rd (CH_SSTAT_LATCH (s.rd SN_LCLR_CH)) = 0) ∧
      ((∀ n, n < 192 → (s.prf n).noDecAt = none ∨ (s.prf n).noDecRep = true) → t.rd SN_LCLRST_REF ≠ 0 → t.coll = (s.report clCfg (16 * s.rd SN_LCLR_CH + 11) 1 12 (addrData SN_LCLR.last)).coll) := by
  have hbeside := fuseAll_beside (s := s)
  obtain ⟨hp, hch⟩ := fuseAll_request (s := s)
  have hlatch : s.fuseAll.rd (CH_SSTAT_LATCH (s.rd SN_LCLR_CH)) = 1 := (hbeside.at (f := CH_SSTAT_LATCH (s.rd SN_LCLR_CH)) (p := (0x024, 0)) ⟨rfl, by decide, by decide⟩ (by decide) hn).trans hl
  have hcause : s.fuseAll.rd (CH_SSTAT_CAUSE (s.rd SN_LCLR_CH)) = s.rd (CH_SSTAT_CAUSE (s.rd SN_LCLR_CH)) := hbeside.at (p := (0x024, 1)) ⟨rfl, by decide, by decide⟩ (by decide) hn
  have hcauseput : (s.fuseAll.put SN_LCLRST_PEND false).rd (CH_SSTAT_CAUSE (s.rd SN_LCLR_CH)) = s.fuseAll.rd (CH_SSTAT_CAUSE (s.rd SN_LCLR_CH)) :=
    rd_put_ne (by simp only [Fld.key, CH_SSTAT_CAUSE, SN_LCLRST_PEND, chAddr, ne_eq]; omega)
  have hjudge := judgeRelease_eq (s := s.fuseAll) (hp.trans hpend) (by rw [hch]; exact hlatch)
  rw [hch] at hjudge
  have hk := releaseFails_lt (s := s.fuseAll.put SN_LCLRST_PEND false) (n := s.rd SN_LCLR_CH)
  have hk7 := releaseFails_watchdog (s := s.fuseAll.put SN_LCLRST_PEND false) (n := s.rd SN_LCLR_CH)
  rw [hcauseput, hcause] at hk7
  generalize (s.fuseAll.put SN_LCLRST_PEND false).releaseFails (s.rd SN_LCLR_CH) = k at *
  obtain ⟨hpend', href, hlatch', hmem, hcoll⟩ := releaseJudged_does (s := s.fuseAll) hk hn hlatch
  rw [← hjudge] at hpend' href hlatch' hmem hcoll
  obtain ⟨⟨m1, m2, m3⟩, -⟩ := memories_of_verdictAside hbeside.2
  obtain ⟨k1, k2, k3⟩ := hmem
  have hr : s.fuseAll.judgeRelease.recoverOpt.rd SN_LCLRST_REF = k := (recoverOpt_rd (by decide)).trans href
  have hl' : s.fuseAll.judgeRelease.recoverOpt.rd (CH_SSTAT_LATCH (s.rd SN_LCLR_CH)) = if k = 0 then 0 else 1 :=
    (recoverOpt_rd (by simp only [Fld.key, CH_SSTAT_LATCH, SPT_DEG_OPTDEG, chAddr, ne_eq]; omega)).trans hlatch'
  refine ⟨_, fusionTick_due hdue, (recoverOpt_rd (by decide)).trans hpend', ⟨?_, ?_, ?_⟩, fun h4 => ?_, ?_, fun hquiet hne => ?_⟩
  · rw [recoverOpt_part State.mem fun _ => rfl, k1, m1]
  · rw [recoverOpt_part State.flash fun _ => rfl, k2, m2]
  · rw [recoverOpt_part State.otp fun _ => rfl, k3, m3]
  · rw [hr, hl', hk7 h4]
    exact ⟨rfl, rfl⟩
  · rw [hr, hl']
    by_cases h0 : k = 0
    · rw [if_pos h0]
      exact ⟨fun _ => rfl, fun _ => h0⟩
    · rw [if_neg h0]
      exact ⟨fun h => absurd h h0, fun h => absurd h (by decide)⟩
  · rw [hr] at hne
    rw [recoverOpt_coll, hcoll hne]
    exact report_congr (fuseAll_quiet hquiet) (hbeside.part State.time fun _ => rfl) (hbeside.part State.devOfs fun _ => rfl)
end State

/-- Settles O25: each clause is what one command does; a fusion tick keeps what the proofs do not hold (`Beside`), so that each channel is judged on its own evidence, each group on the verdicts of
its members, and the pending release on the conditions of R188. -/
theorem proofEvidenceAndVerdicts : Obligations.ProofEvidenceAndVerdicts := by
  unfold Obligations.ProofEvidenceAndVerdicts
  intro s
  refine ⟨fun n i v hoff => State.converterSample_does hoff, State.coarseLit_none, fun h => ⟨_, State.coarseLit_due h, fun n => State.litWindows_cver n.isLt, State.litWindows_fields,
    State.rest_of_proofAside State.litWindows_proofAside⟩, fun r n w ha => State.electricalPost_does ha, fun r n w ha => State.opticalPost_does ha, fun r w ha hw => State.codeBalance_does ha hw,
    fun q ch key ha => State.releaseRequest_does ha, State.fusionTick_none, State.fusionTick_does, State.fusionTick_releases⟩
end Sys2Proof.Machine
end
section
/-! The refutation of the statement on holds, windows and limits of a channel (R59, R147): an applied duty that does not fit CHn_APPL. -/
namespace Sys2Proof.Machine

/-- Channel 0 is 8 µs into a range hold, with no pair, track, view or hand-over, and with an applied duty of 2^16. -/
def wideDuty : State := { (State.reset.wr (CH_STAT_RHOLD 0) 1).setProt 0 { appDuty := 65536 } with time := 128 }
/-- The controller's value is that duty, and no view clamps it. -/
theorem wideDuty_value : State.clampTo (wideDuty.full 0) (wideDuty.view 0) (wideDuty.ctrlValue 0) = 65536 := by decide

/-- Refutes O12: the clause on RANGE_HOLD_END equates CHn_APPL, of 16 bits, with a value that the statement does not bound. -/
theorem not_channelHoldAndLimitEvents : ¬ Obligations.ChannelHoldAndLimitEvents := by
  unfold Obligations.ChannelHoldAndLimitEvents
  intro h
  obtain ⟨-, -, hend, -⟩ := h wideDuty 0
  obtain ⟨t, -, -, -, -, hvalue, -⟩ := hend (by decide) (by decide) (.inr (by decide))
  have hwide : t.rd (CH_APPL_VALUE 0) = State.clampTo (wideDuty.full 0) (wideDuty.view 0) (wideDuty.ctrlValue 0) :=
    hvalue (by decide) (by decide) (by decide) (by decide)
  have hfits : t.rd (CH_APPL_VALUE 0) < 2 ^ 16 := State.rd_lt
  rw [hwide, wideDuty_value] at hfits
  exact absurd hfits (by decide)
end Sys2Proof.Machine
end
section
/-! Protection trips (R63 to R71, R201): what a trip leaves, and the adjacency test that a short verdict starts. -/
namespace Sys2Proof.Machine
open Sys2Proof.Safety

namespace State
variable {s t : State} {n m d : Nat} {f : Fld}

/-- R65: the verdict bits of channel n. -/
def verdicts (n : Nat) : List Fld := [CH_FLT_DSAT n, CH_FLT_RSHORT n, CH_FLT_OC n]
/-- What the start of an adjacency test of channel n reads (R70 to R72). -/
def adjInputs (n : Nat) : List Fld := [CH_CFG_ADJEN n, CH_ADJR_BUSY n, CH_ADJ0_NB n, CH_ADJ0_NBEN n, CH_ADJ1_NB n, CH_ADJ1_NBEN n]
/-- The results of the adjacency test of channel n. -/
def adjFields (n : Nat) : List Fld := [CH_ADJR_BUSY n, CH_ADJR_RES n, CH_ADJR_BOTH n]

theorem verdict_keys (hf : f ∈ verdicts n) : 0 < f.width ∧ f.key ≠ (CH_TCNT_COUNT n).key ∧ (∀ g ∈ adjFields n, f.key ≠ g.key) ∧
    ∀ g ∈ adjInputs n, g.key ≠ f.key ∧ g.key ≠ (CH_TCNT_COUNT n).key := by
  simp only [verdicts, List.mem_cons, List.not_mem_nil, or_false] at hf
  simp only [adjFields, adjInputs, List.forall_mem_cons, List.not_mem_nil, false_implies, implies_true, and_true]
  rcases hf with rfl | rfl | rfl <;>
  · simp only [Fld.key, CH_FLT_DSAT, CH_FLT_RSHORT, CH_FLT_OC, CH_TCNT_COUNT, CH_ADJR_BUSY, CH_ADJR_RES, CH_ADJR_BOTH, CH_CFG_ADJEN, CH_ADJ0_NB, CH_ADJ0_NBEN, CH_ADJ1_NB,
      CH_ADJ1_NBEN]
    omega
theorem count_keys : ∀ g ∈ adjFields n, (CH_TCNT_COUNT n).key ≠ g.key := by
  simp only [adjFields, List.forall_mem_cons, List.not_mem_nil, false_implies, implies_true, and_true, Fld.key, CH_TCNT_COUNT, CH_ADJR_BUSY, CH_ADJR_RES, CH_ADJR_BOTH]
  omega

/-- R65, R66, R201: `t` is `s` after a trip of channel n with verdict bit f and event d: the bit and the count, the gates, the dwell and the event; nothing
else but what the channels hold. -/
structure Trips (s t : State) (n : Nat) (f : Fld) (d : Nat) : Prop where
  flag   : t.rd f = 1
  count  : t.rd (CH_TCNT_COUNT n) = min 0xFFF (s.rd (CH_TCNT_COUNT n) + 1)
  gates  : t.gen n = s.seenGates n { s.gen n with hg := false, lg := false, phase := if (s.gen n).phase = .idle then .idle else .wait }
  others : ElseSame t.gen s.gen n
  dwell  : t.rx (n / 8) = (s.disrupt n).rx (n / 8)
  event  : t.coll = (s.report clChan (16 * n + d) 2 (n / 48)).coll
  rest   : chanless { t with coll := s.coll } = chanless s

/-- The receiver's slot is disrupted where its dwell runs on channel n. -/
theorem disrupt_dwell : (s.disrupt n).rx (n / 8) = if (s.rx (n / 8)).busy = true ∧ (s.rx (n / 8)).slot = n % 8 then
    { s.rx (n / 8) with disrupt := true, stopAt := some ((s.rx (n / 8)).stopAt.getD s.time) } else s.rx (n / 8) := by
  rw [disrupt_rx]
  simp [dwelling]

theorem trip_fields : FieldsKept [f, CH_TCNT_COUNT n] s (s.trip n f d) := by
  rw [trip_eq]
  exact .disrupt (.report (.bump (by simp) (.gatesOff (.raiseFlag (by simp) .refl))))
theorem trip_trips (hf : f ∈ verdicts n) : Trips s (s.trip n f d) n f d := by
  obtain ⟨hwidth, hcount, -, -⟩ := verdict_keys hf
  refine ⟨?_, ?_, ?_, fun m hm => ?_, ?_, trip_coll, chanless_trip⟩
  · rw [trip_rd, rd_bump_ne hcount, rd_put_same hwidth]
    rfl
  · rw [trip_rd, rd_bump_same, rd_put_ne (Ne.symm hcount)]
    rfl
  · rw [trip_gen, if_pos rfl]
  · rw [trip_gen, if_neg hm]
  · rw [trip_rx, disrupt_rx]

/-! ### The adjacency test starts (R71) -/

theorem trip_inputs (hf : f ∈ verdicts n) : ∀ g ∈ adjInputs n, (s.trip n f d).rd g = s.rd g := by
  obtain ⟨-, -, -, hinputs⟩ := verdict_keys hf
  intro g hg
  obtain ⟨hne, hcount⟩ := hinputs g hg
  rw [trip_rd, rd_bump_ne hcount, rd_put_ne hne]
theorem startAdj_busy (h : s.rd (CH_ADJR_BUSY n) = 0) :
    (s.startAdj n).rd (CH_ADJR_BUSY n) = if (s.nb0 n).isSome = true ∨ (s.nb1 n).isSome = true then 1 else 0 := by
  split
  · next hn =>
    rw [startAdj_runs h hn, disrupt_part (fun u => u.rd (CH_ADJR_BUSY n)) fun _ _ => rfl]
    exact rd_put_same Nat.zero_lt_one
  · next hn =>
    have hkeys : (CH_ADJR_BUSY n).key ≠ (CH_ADJR_RES n).key ∧ (CH_ADJR_BUSY n).key ≠ (CH_ADJR_BOTH n).key := by
      simp only [Fld.key, CH_ADJR_BUSY, CH_ADJR_RES, CH_ADJR_BOTH]
      omega
    have hnone : (s.nb0 n).isNone = true ∧ (s.nb1 n).isNone = true := by
      rw [Option.isNone_iff_eq_none, Option.isNone_iff_eq_none]
      simpa [not_or] using hn
    rw [startAdj, if_neg (by simp [on, h]), if_pos hnone, rd_put_ne hkeys.2, rd_wr_ne hkeys.1, h]
/-- The start of a test disrupts the dwell that a trip has disrupted already. -/
theorem startAdj_dwell (h : t.rx (n / 8) = (s.disrupt n).rx (n / 8)) (ht : t.time = s.time) : (t.startAdj n).rx (n / 8) = (s.disrupt n).rx (n / 8) := by
  have hagain (u : State) (hu : u.rx (n / 8) = (s.disrupt n).rx (n / 8)) (hut : u.time = s.time) : (u.disrupt n).rx (n / 8) = (s.disrupt n).rx (n / 8) := by
    rw [disrupt_dwell, hu, hut, disrupt_dwell]
    by_cases hd : (s.rx (n / 8)).busy = true ∧ (s.rx (n / 8)).slot = n % 8
    · simp [hd]
    · simp only [if_neg hd]
  unfold startAdj
  split
  · exact h
  · split
    · exact h
    · exact hagain _ h ht
theorem Trips.startAdj (hf : f ∈ verdicts n) (h : Trips s t n f d) : Trips s (t.startAdj n) n f d := by
  obtain ⟨-, -, hadj, -⟩ := verdict_keys hf
  have htime : t.time = s.time := chanless_part h.rest (·.time) fun _ => rfl
  refine ⟨(startAdj_fields _ hadj).trans h.flag, (startAdj_fields _ count_keys).trans h.count, ?_, fun m hm => ?_, startAdj_dwell h.dwell htime, ?_, ?_⟩
  · exact (startAdj_part (·.gen n) fun _ _ _ => rfl).trans h.gates
  · exact (startAdj_part (·.gen m) fun _ _ _ => rfl).trans (h.others m hm)
  · exact (startAdj_part (·.coll) fun _ _ _ => rfl).trans h.event
  · exact (startAdj_part (fun u => chanless { u with coll := s.coll }) fun _ _ _ => rfl).trans h.rest

/-- R71: a short verdict is a trip, which starts the test where ADJEN is 1. -/
theorem shortTrip_trips (hf : f ∈ verdicts n) : Trips s (s.shortTrip n f d) n f d := by
  unfold shortTrip
  extract_lets t
  have ht : Trips s t n f d := trip_trips hf
  clear_value t
  split
  · exact ht.startAdj hf
  · exact ht
theorem shortTrip_fields : FieldsKept (f :: CH_TCNT_COUNT n :: adjFields n) s (s.shortTrip n f d) := by
  have ht : FieldsKept (f :: CH_TCNT_COUNT n :: adjFields n) s (s.trip n f d) := trip_fields.mono fun g hg => List.mem_append_left (adjFields n) hg
  exact .ite (ht.trans (startAdj_fields.mono fun g hg => List.mem_append_right [f, CH_TCNT_COUNT n] hg)) ht
theorem shortTrip_busy (hf : f ∈ verdicts n) (hb : s.rd (CH_ADJR_BUSY n) = 0) : (s.shortTrip n f d).rd (CH_ADJR_BUSY n) =
    if s.on (CH_CFG_ADJEN n) = true ∧ ((s.nb0 n).isSome = true ∨ (s.nb1 n).isSome = true) then 1 else 0 := by
  have hin := trip_inputs (s := s) (d := d) hf
  have hbusy : (s.trip n f d).rd (CH_ADJR_BUSY n) = 0 := (hin _ (by simp [adjInputs])).trans hb
  have hen : (s.trip n f d).on (CH_CFG_ADJEN n) = s.on (CH_CFG_ADJEN n) := congrArg (· != 0) (hin _ (by simp [adjInputs]))
  have hnb : (s.trip n f d).nb0 n = s.nb0 n ∧ (s.trip n f d).nb1 n = s.nb1 n := by
    simp only [nb0, nb1, hin (CH_ADJ0_NB n) (by simp [adjInputs]), hin (CH_ADJ0_NBEN n) (by simp [adjInputs]), hin (CH_ADJ1_NB n) (by simp [adjInputs]),
      hin (CH_ADJ1_NBEN n) (by simp [adjInputs]), and_self]
  unfold shortTrip
  extract_lets t
  rw [show t.on (CH_CFG_ADJEN n) = s.on (CH_CFG_ADJEN n) from hen]
  by_cases he : s.on (CH_CFG_ADJEN n) = true
  · rw [if_pos he, startAdj_busy hbusy, hnb.1, hnb.2]
    simp [he]
  · rw [if_neg he, if_neg fun h => he h.1]
    exact hbusy
end State

/-! ### The commands -/

theorem exec_overCurrent {s : State} {n : Fin 192} (hn : s.rd (CH_OCN_N n) ≠ 0) (hc : s.rd (CH_OCN_N n) ≤ (s.gen n).limCount + ((s.gen n).limThis && !(s.gen n).limSkip).toNat)
    (hi : (s.gen n).inrush = false) (ht : s.tripped n = false) : exec (.overCurrent n) s = .next (s.trip n (CH_FLT_OC n) 2) :=
  congrArg Host.Outcome.next (if_pos ⟨hn, hc, by simp [hi], by simp [ht]⟩)
theorem exec_desaturation {s : State} {n : Fin 192} {vds since : Nat} (hg : (s.gen n).hg = true ∨ (s.gen n).lg = true) (hs : 100 * (s.rd (CH_DSAT_BLANK n) + 1) ≤ since)
    (hv : 500 + 250 * s.rd (CH_DSAT_VTH n) < vds) (hf : s.rd (CH_FLT_DSAT n) = 0) : exec (.desaturation n vds since) s = .next (s.shortTrip n (CH_FLT_DSAT n) 0) :=
  congrArg Host.Outcome.next (if_pos ⟨hg, hs, hv, by simp [State.on, hf]⟩)
theorem exec_rampShort {s : State} {n : Fin 192} {mv2 rate : Nat} (hg : (s.gen n).hg = true)
    (hr : 2 * s.limit n < mv2 ∨ (s.limit n < 2 * mv2 ∧ s.rd (CH_RSHORT_DIDT n) ≠ 0 ∧ s.rd (CH_RSHORT_DIDT n) < rate)) (hf : s.rd (CH_FLT_RSHORT n) = 0) :
    exec (.rampShort n mv2 rate) s = .next (s.shortTrip n (CH_FLT_RSHORT n) 1) :=
  congrArg Host.Outcome.next (if_pos ⟨hg, hr, by simp [State.on, hf]⟩)
end Sys2Proof.Machine
end

section
/-! The end of an adjacency test (R72): its result, and what a short with a neighbour brings. -/
namespace Sys2Proof.Machine
open Sys2Proof.Safety

namespace State
variable {s t : State} {n m : Nat} {m0 m1 : Option Nat} {l : List Nat}

/-- The test of channel n is over, and its result stands: the neighbours that it found short. -/
def adjResult (s : State) (n : Nat) (m0 m1 : Option Nat) : State :=
  ((s.put (CH_ADJR_BUSY n) false).wr (CH_ADJR_RES n) (if m0.isSome then 2 else if m1.isSome then 3 else 1)).put (CH_ADJR_BOTH n) (m0.isSome && m1.isSome)
/-- The ADJ bits of channel n and of the channels of a list are set, and the event is reported. -/
def adjMarked (s : State) (n : Nat) (l : List Nat) : State :=
  ((s.raiseFlag (CH_FLT_ADJ n)).each l fun t m => t.raiseFlag (CH_FLT_ADJ m)).report clChan (16 * n + 7) 3 (n / 48)
/-- What the end of a test does: its result, and where it found a short the bits, the event and the latches. -/
def adjEnded (s : State) (n : Nat) (m0 m1 : Option Nat) : State :=
  let u := s.adjResult n m0 m1
  let l := m0.toList ++ m1.toList
  if l = [] then u else (u.adjMarked n l).setLatches (n :: l) 3 (some (u.adjMarked n l).lastEv)

theorem adjResult_fields : FieldsKept (adjFields n) s (s.adjResult n m0 m1) :=
  .put (by simp [adjFields]) (.wr (by simp [adjFields]) (.put (by simp [adjFields]) .refl))
theorem adjResult_rd : (s.adjResult n m0 m1).rd (CH_ADJR_BUSY n) = 0 ∧ (s.adjResult n m0 m1).rd (CH_ADJR_RES n) = (if m0.isSome then 2 else if m1.isSome then 3 else 1) ∧
    (s.adjResult n m0 m1).rd (CH_ADJR_BOTH n) = (m0.isSome && m1.isSome).toNat := by
  have hkeys : (CH_ADJR_BUSY n).key ≠ (CH_ADJR_RES n).key ∧ (CH_ADJR_BUSY n).key ≠ (CH_ADJR_BOTH n).key ∧ (CH_ADJR_RES n).key ≠ (CH_ADJR_BOTH n).key := by
    simp only [Fld.key, CH_ADJR_BUSY, CH_ADJR_RES, CH_ADJR_BOTH]
    omega
  obtain ⟨hbr, hbb, hrb⟩ := hkeys
  refine ⟨?_, ?_, rd_put_same Nat.zero_lt_one⟩
  · rw [adjResult, rd_put_ne hbb, rd_wr_ne hbr, rd_put_same Nat.zero_lt_one]
    rfl
  · rw [adjResult, rd_put_ne hrb, rd_wr_same]
    cases m0 <;> cases m1 <;> rfl

/-! ### The bits and the event -/

theorem adj_place : AtPlace (CH_FLT_ADJ n) n (0x003, 7) := ⟨rfl, by decide, by decide⟩
theorem adjMarked_fields : FieldsKept (CH_FLT_ADJ n :: l.map CH_FLT_ADJ) s (s.adjMarked n l) :=
  .report ((FieldsKept.raiseFlag List.mem_cons_self .refl).trans (.each fun _ _ hx => .raiseFlag (List.mem_cons_of_mem _ (List.mem_map_of_mem hx)) .refl))
/-- A field at another place of a channel's block keeps its value. -/
theorem adjMarked_place {f : Fld} {p : Nat × Nat} (hf : AtPlace f m p) (hp : p ≠ (0x003, 7)) : (s.adjMarked n l).rd f = s.rd f := by
  refine adjMarked_fields f fun g hg hkey => ?_
  rcases List.mem_cons.1 hg with rfl | hg
  · exact hp (place_unique hf adj_place hkey)
  · obtain ⟨x, -, rfl⟩ := List.mem_map.1 hg
    exact hp (place_unique hf adj_place hkey)
theorem adjMarked_chanlessColl : chanlessColl (s.adjMarked n l) = chanlessColl s := by
  rw [adjMarked, chanlessColl_report, each_same chanlessColl fun _ _ _ => chanlessColl_raiseFlag, chanlessColl_raiseFlag]
theorem adjMarked_coll : (s.adjMarked n l).coll = (s.report clChan (16 * n + 7) 3 (n / 48)).coll :=
  report_congr (each_same (·.coll) fun _ _ _ => rfl) (each_same (·.time) fun _ _ _ => rfl) (each_same (·.devOfs) fun _ _ _ => rfl)
theorem adjMarked_sets (h : m = n ∨ m ∈ l) : (s.adjMarked n l).rd (CH_FLT_ADJ m) = 1 := by
  have keeps : ∀ (t : State) x, t.rd (CH_FLT_ADJ m) = 1 → (t.raiseFlag (CH_FLT_ADJ x)).rd (CH_FLT_ADJ m) = 1 := by
    intro t x ht
    by_cases hx : x = m
    · subst hx
      exact rd_raiseFlag_same Nat.zero_lt_one
    · rw [rd_raiseFlag_ne (other_channel adj_place adj_place hx), ht]
  rw [adjMarked, report_rd]
  rcases h with rfl | h
  · exact each_invariant (I := fun t => t.rd (CH_FLT_ADJ m) = 1) (fun t x _ => keeps t x) (rd_raiseFlag_same Nat.zero_lt_one)
  · exact each_establishes (n := m) (I := fun _ => True) (Q := fun t => t.rd (CH_FLT_ADJ m) = 1) (fun _ _ _ _ => trivial) (fun _ _ => rd_raiseFlag_same Nat.zero_lt_one)
      (fun t x _ _ => keeps t x) h trivial

/-! ### The latches -/

theorem latch_not_adj {f : Fld} {p : Nat × Nat} (hf : AtPlace f m p) (hthaw : p ∉ thawPlaces) (hlatch : p ∉ latchPlaces) : ∀ g ∈ l.flatMap latchFields, f.key ≠ g.key := by
  obtain ⟨hkey, hplace⟩ := hf
  intro g hg
  obtain ⟨x, -, hg⟩ := List.mem_flatMap.1 hg
  exact not_latchField hkey hplace hthaw hlatch g hg
theorem adjEnded_clear (h0 : m0 = none) (h1 : m1 = none) : s.adjEnded n m0 m1 = s.adjResult n m0 m1 := by
  rw [h0, h1]
  rfl
theorem adjEnded_found (h : m0.isSome = true ∨ m1.isSome = true) : s.adjEnded n m0 m1 =
    ((s.adjResult n m0 m1).adjMarked n (m0.toList ++ m1.toList)).setLatches (n :: (m0.toList ++ m1.toList)) 3
      (some ((s.adjResult n m0 m1).adjMarked n (m0.toList ++ m1.toList)).lastEv) := by
  refine if_neg fun hl => ?_
  obtain ⟨hl0, hl1⟩ := List.append_eq_nil_iff.1 hl
  rw [Option.toList_eq_nil_iff] at hl0 hl1
  simp [hl0, hl1] at h
/-- The result stands, whether a short was found or not. -/
theorem adjEnded_result {f : Fld} (hf : f ∈ adjFields n) : (s.adjEnded n m0 m1).rd f = (s.adjResult n m0 m1).rd f := by
  have hplace : ∃ p, AtPlace f n p ∧ p ≠ (0x003, 7) ∧ p ∉ thawPlaces ∧ p ∉ latchPlaces := by
    simp only [adjFields, List.mem_cons, List.not_mem_nil, or_false] at hf
    rcases hf with rfl | rfl | rfl
    · exact ⟨(0x01A, 3), ⟨rfl, by decide, by decide⟩, by decide, by decide, by decide⟩
    · exact ⟨(0x01A, 0), ⟨rfl, by decide, by decide⟩, by decide, by decide, by decide⟩
    · exact ⟨(0x01A, 2), ⟨rfl, by decide, by decide⟩, by decide, by decide, by decide⟩
  obtain ⟨p, hp, hadj, hthaw, hlatch⟩ := hplace
  unfold adjEnded
  extract_lets u l
  split
  · rfl
  · rw [setLatches_fields _ (latch_not_adj hp hthaw hlatch), adjMarked_place hp hadj]
theorem adjEnded_sets (h : m0.isSome = true ∨ m1.isSome = true) (hm : m = n ∨ m0 = some m ∨ m1 = some m) :
    (s.adjEnded n m0 m1).rd (CH_FLT_ADJ m) = 1 ∧ (s.adjEnded n m0 m1).rd (CH_SSTAT_LATCH m) = 1 := by
  have hlist : m = n ∨ m ∈ m0.toList ++ m1.toList := by simpa using hm
  rw [adjEnded_found h]
  refine ⟨?_, setLatches_mem (by decide) (List.mem_cons.2 hlist)⟩
  rw [setLatches_fields _ (latch_not_adj adj_place (by decide) (by decide))]
  exact adjMarked_sets hlist
theorem adjEnded_chanlessColl : chanlessColl (s.adjEnded n m0 m1) = chanlessColl s := by
  have hresult : chanlessColl (s.adjResult n m0 m1) = chanlessColl s := rfl
  exact chanlessColl_ite hresult (chanlessColl_setLatches.trans (adjMarked_chanlessColl.trans hresult))
theorem adjMarked_calm (h : s.Calm m) : (s.adjMarked n l).Calm m := by
  have hsplit : (s.adjMarked n l).rd (MIR_SPLIT_DBL m) = s.rd (MIR_SPLIT_DBL m) := by
    refine adjMarked_fields _ fun g hg => ?_
    obtain ⟨x, rfl⟩ : ∃ x, g = CH_FLT_ADJ x := by
      rcases List.mem_cons.1 hg with rfl | hg
      · exact ⟨n, rfl⟩
      · obtain ⟨x, -, rfl⟩ := List.mem_map.1 hg
        exact ⟨x, rfl⟩
    simp only [Fld.key, MIR_SPLIT_DBL, CH_FLT_ADJ, ne_eq]
    omega
  exact ⟨(adjMarked_place (f := CH_STAT_FROZEN m) (m := m) (p := (0x002, 8)) ⟨rfl, by decide, by decide⟩ (by decide)).trans h.1, hsplit.trans h.2⟩
theorem adjResult_calm (h : s.Calm m) : (s.adjResult n m0 m1).Calm m := by
  have hkeys : ∀ g ∈ adjFields n, (CH_STAT_FROZEN m).key ≠ g.key ∧ (MIR_SPLIT_DBL m).key ≠ g.key := by
    simp only [adjFields, List.forall_mem_cons, List.not_mem_nil, false_implies, implies_true, and_true, Fld.key, CH_STAT_FROZEN, MIR_SPLIT_DBL, CH_ADJR_BUSY, CH_ADJR_RES,
      CH_ADJR_BOTH, chAddr]
    omega
  exact ⟨(adjResult_fields _ fun g hg => (hkeys g hg).1).trans h.1, (adjResult_fields _ fun g hg => (hkeys g hg).2).trans h.2⟩
/-- Where no channel is frozen or doubled the event of the short is the only one. -/
theorem adjEnded_coll (h : m0.isSome = true ∨ m1.isSome = true) (hn : ∀ m, m = n ∨ m0 = some m ∨ m1 = some m → m < 192) (hcalm : ∀ m, m < 193 → s.Calm m) :
    (s.adjEnded n m0 m1).coll = (s.report clChan (16 * n + 7) 3 (n / 48)).coll := by
  have hrest := setLatches_calm (s := (s.adjResult n m0 m1).adjMarked n (m0.toList ++ m1.toList)) (l := n :: (m0.toList ++ m1.toList)) (cause := 3)
    (ev := some ((s.adjResult n m0 m1).adjMarked n (m0.toList ++ m1.toList)).lastEv) fun m hm => by
      have hlt : m < 192 := hn m (by simpa using hm)
      exact ⟨adjMarked_calm (adjResult_calm (hcalm m (by omega))), fun _ => adjMarked_calm (adjResult_calm (hcalm _ (by omega)))⟩
  rw [adjEnded_found h, coll_of_chanless hrest, adjMarked_coll]
  exact report_congr rfl rfl rfl
/-- R70: a neighbour is a channel of the same die. -/
theorem neighbour_lt {nb en : Nat} (hn : n < 192) (h : neighbour n nb en = some m) : m < 192 := by
  unfold neighbour at h
  split at h
  · next hc =>
    have hm := Option.some.inj h
    omega
  · exact absurd h (Option.some_ne_none m).symm
end State

theorem exec_adjacencyTestEnd {s : State} {n : Fin 192} {an a0 a1 dn d0 d1 : Nat} (h : s.rd (CH_ADJR_BUSY n) = 1) : exec (.adjacencyTestEnd n an a0 a1 dn d0 d1) s =
    .next (s.adjEnded n (if shortNm an a0 dn d0 then s.nb0 n else none) (if shortNm an a1 dn d1 then s.nb1 n else none)) := by
  have hbusy : ¬¬s.on (CH_ADJR_BUSY n) = true := by simp [State.on, h]
  show execAdjacencyTestEnd n an a0 a1 dn d0 d1 s = _
  rw [execAdjacencyTestEnd, if_neg hbusy, State.adjEnded]
  extract_lets m0 m1 u v l w x
  split
  · rfl
  · rfl

/-- Settles O14: the three verdicts are trips, of which `Trips` says what they leave, the two short ones with the start of a test; the end of a test by what it
found. -/
theorem channelProtectionTrips : Obligations.ChannelProtectionTrips := by
  unfold Obligations.ChannelProtectionTrips
  intro s n
  refine ⟨?_, ?_, ?_, ?_⟩
  · intro hn hc hi htr
    have h : State.Trips s (s.trip n (CH_FLT_OC n) 2) n (CH_FLT_OC n) 2 := State.trip_trips (by simp [State.verdicts])
    exact ⟨_, exec_overCurrent hn hc hi htr, h.flag, h.count, h.gates, h.others, h.dwell.trans State.disrupt_dwell, h.event, State.trip_fields, h.rest⟩
  · intro vds since hg hs hv hf hb
    have hmem : CH_FLT_DSAT n ∈ State.verdicts n := by simp [State.verdicts]
    have h := State.shortTrip_trips (s := s) (d := 0) hmem
    exact ⟨_, exec_desaturation hg hs hv hf, h.flag, h.count, h.gates, h.others, h.dwell.trans State.disrupt_dwell, h.event, State.shortTrip_busy hmem hb, State.shortTrip_fields, h.rest⟩
  · intro mv2 rate hg hr hf hb
    have hmem : CH_FLT_RSHORT n ∈ State.verdicts n := by simp [State.verdicts]
    have h := State.shortTrip_trips (s := s) (d := 1) hmem
    exact ⟨_, exec_rampShort hg hr hf, h.flag, h.count, h.gates, h.others, h.event, State.shortTrip_busy hmem hb, State.shortTrip_fields, h.rest⟩
  · intro an a0 a1 dn d0 d1 hb m0 m1
    have hlt : ∀ m, m = n.val ∨ m0 = some m ∨ m1 = some m → m < 192 := by
      rintro m (rfl | hm | hm)
      · exact n.isLt
      · exact State.neighbour_lt n.isLt (Option.ite_none_right_eq_some.1 hm).2
      · exact State.neighbour_lt n.isLt (Option.ite_none_right_eq_some.1 hm).2
    obtain ⟨hbusy, hres, hboth⟩ := State.adjResult_rd (s := s) (n := n) (m0 := m0) (m1 := m1)
    refine ⟨s.adjEnded n m0 m1, exec_adjacencyTestEnd hb, ?_, ?_, ?_, fun h0 h1 => ?_, fun h => ⟨fun hcalm => State.adjEnded_coll h hlt hcalm, ?_, fun m hm => State.adjEnded_sets h hm⟩⟩
    · rw [State.adjEnded_result (by simp [State.adjFields]), hbusy]
    · rw [State.adjEnded_result (by simp [State.adjFields]), hres]
    · rw [State.adjEnded_result (by simp [State.adjFields]), hboth]
    · rw [State.adjEnded_clear h0 h1]
      exact ⟨State.adjResult_fields, rfl⟩
    · exact State.chanless_of_chanlessColl State.adjEnded_chanlessColl
end Sys2Proof.Machine
end
section
/-! The refutation of the statement on the instants of a period (R114, R115): a chip position that does not fit CHn_CPOS. -/
namespace Sys2Proof.Machine

theorem exec_periodBoundary {s : State} {n : Fin 192} : exec (.periodBoundary n) s = execPeriodBoundary n s := rfl
/-- Channel 0, an enabled HS channel with its code on, at chip 5, with 1,024 as the position of the coming chip; CHn_CEPOCH holds 7. -/
def wideChip : State :=
  ((((State.reset.wr (CH_CFG_TOPO 0) 1).wr (CH_CFG_EN 0) 1).wr (CH_CODE_EN 0) 1).wr (CH_CPOS_CPOS 0) 5).wr (CH_CEPOCH_EPOCH 0) 7 |>.setGen 0 { chipNext := 1024 }
/-- The boundary stores the low 10 bits of that position, 0, and takes no device time, as the position is not 0. -/
theorem execPeriodBoundary_wideChip : ∃ t, execPeriodBoundary 0 wideChip = .next t ∧ (t.rd (CH_CPOS_CPOS 0), t.rd (CH_CEPOCH_EPOCH 0)) = (0, 7) := ⟨_, rfl, by decide +kernel⟩

/-- Refutes O16: the clause on PERIOD_BOUNDARY says that a chip position that comes to read 0 takes the device time, and the statement does not bound the position that waits to
the 10 bits of CHn_CPOS. -/
theorem not_edgeEventsOfAChannel : ¬ Obligations.EdgeEventsOfAChannel := by
  unfold Obligations.EdgeEventsOfAChannel
  rintro ⟨-, h⟩
  obtain ⟨-, hboundary, -⟩ := h wideChip 0 (by decide)
  obtain ⟨t, hexec, -, -, hepoch, -⟩ := hboundary (by decide) (by decide)
  obtain ⟨u, hrun, hu⟩ := execPeriodBoundary_wideChip
  obtain rfl : u = t := by
    rw [exec_periodBoundary, hrun] at hexec
    exact Host.Outcome.next.inj hexec
  obtain ⟨hpos, hkept⟩ := Prod.mk.inj hu
  have hmoves : wideChip.rd (CH_CPOS_CPOS 0) ≠ u.rd (CH_CPOS_CPOS 0) := fun e => absurd (e.trans hpos) (by decide)
  have htime : u.rd (CH_CEPOCH_EPOCH 0) = wideChip.devTime := hepoch hmoves hpos
  rw [hkept] at htime
  exact absurd htime (by decide +kernel)
end Sys2Proof.Machine
end
section
/-! The refutation of the statement on enable, topology and reset (R90, R108): a reset that ends a pair puts a waiting source in force. -/
namespace Sys2Proof.Machine
open Sys2Proof.Safety
theorem exec_channelReset {s : State} {r : Requester} {n : Fin 192} : exec (.channelReset r n) s = execChannelReset r n s := rfl
/-- Channel 1 of an H-bridge, whose pair channel 0 leads, is the one channel of an aspect with a LIT slot; a set that closes its colour loop waits. -/
def pairedLoop : State :=
  { (((((((((State.reset.wr PWR_SUPST_VCORE 1).wr DBG_STAT_UNLOCK 1).wr (PWR_WAKERT_CLU 0) 1).wr (CH_CFG_TOPO 0) 3).wr (CH_CFG_TOPO 1) 3).wr (CH_CFG_HBPAIR 0) 1).wr
      (CH_CFG_EN 0) 1).wr (CH_AGRP_GEN 1) 1).wr (SN_AGACT_VALID 0) 1).wr (CH_SLOT_KIND 1 0) 2 |>.setProt 1 { deferred := some { cloop := 1 } } with
    pwr := { released := true } }
/-- The reset of channel 0 ends the pair, so that the set of channel 1 is installed and its colour loop starts cluster 0. -/
theorem execChannelReset_pairedLoop : ∃ t, execChannelReset .debug 0 pairedLoop = .next t ∧ t.rd (PWR_CST_STATE 0) = 2 := ⟨_, rfl, by decide +kernel⟩

/-- Refutes O19: the clause on CHANNEL_RESET keeps CSTn_STATE, also where the set of the other channel of a pair closes a colour loop, which starts the cluster of its engine. -/
theorem not_channelEnableTopologyAndReset : ¬ Obligations.ChannelEnableTopologyAndReset := by
  unfold Obligations.ChannelEnableTopologyAndReset
  intro h
  obtain ⟨-, -, -, -, hreset, -⟩ := h pairedLoop .debug 0
  obtain ⟨t, hexec, -, -, -, -, -, -, -, -, -, -, hfields, -⟩ := hreset ⟨by decide, by decide, by decide, by decide, by decide⟩
  obtain ⟨u, hrun, hu⟩ := execChannelReset_pairedLoop
  obtain rfl : u = t := by
    rw [exec_channelReset, hrun] at hexec
    exact Host.Outcome.next.inj hexec
  have hstate : u.rd (PWR_CST_STATE 0) = pairedLoop.rd (PWR_CST_STATE 0) := hfields _ (by decide)
  rw [hu] at hstate
  exact absurd hstate (by decide)
end Sys2Proof.Machine
end
section
/-! The refutation of the statement on shadow sets (R123, R128, R158): an APPLY that closes a colour loop. -/
namespace Sys2Proof.Machine
open Sys2Proof.Safety
theorem exec_apply {s : State} {r : Requester} {n : Fin 192} : exec (.apply r n) s = execApply r n s := rfl
/-- Channel 0 is the one channel of an aspect with a LIT slot; its pending set closes its colour loop. The device is in WATCH. -/
def loopPending : State :=
  { ((((((((State.reset.wr PWR_SUPST_VCORE 1).wr DBG_STAT_UNLOCK 1).wr (PWR_WAKERT_CLU 0) 1).wr (CH_AGRP_GEN 0) 1).wr (SN_AGACT_VALID 0) 1).wr (CH_SLOT_KIND 0 0) 2).wr
      (CH_SHST_PEND 0) 1).wr (CH_SCTL_CLOOP 0) 1) with
    pwr := { released := true } }
/-- The loop starts cluster 0, and the device leaves WATCH. -/
theorem execApply_loopPending : ∃ t, execApply .debug 0 loopPending = .next t ∧ t.dev = .run := ⟨_, rfl, by decide +kernel⟩

/-- Refutes O22: the clause on an APPLY with no hold keeps all but the channels, their proof and the event queue, also where the set closes a colour loop, which starts the cluster of
its engine. -/
theorem not_shadowSetsAndHandOver : ¬ Obligations.ShadowSetsAndHandOver := by
  unfold Obligations.ShadowSetsAndHandOver
  intro h
  obtain ⟨-, -, -, happly, -⟩ := h loopPending .debug 0
  obtain ⟨-, hpending⟩ := happly ⟨by decide, by decide, by decide, by decide, by decide⟩
  obtain ⟨htakes, -⟩ := hpending (by decide) (by decide)
  obtain ⟨t, hexec, -, -, -, -, -, -, -, -, hrest⟩ := htakes (by decide) (by decide)
  obtain ⟨u, hrun, hu⟩ := execApply_loopPending
  obtain rfl : u = t := by
    rw [exec_apply, hrun] at hexec
    exact Host.Outcome.next.inj hexec
  have hdev : u.dev = loopPending.dev := State.chanless_part hrest (·.dev) fun _ => rfl
  rw [hu] at hdev
  exact absurd hdev (by decide)
end Sys2Proof.Machine
end
section
/-! The refutation of the statement on temperatures (R34, R401, R494): a control-die sensor at 160 °C enters SAFE, which ends clusters with their memories. -/
namespace Sys2Proof.Machine
open Sys2Proof.Safety

namespace State
variable {s t : State} {n i j d : Nat}

/-! ### The entry into SAFE empties a cluster's memory -/

/-- No word lies in the memories of cluster 0, or none in those of cluster 1. -/
def Pruned (s : State) : Prop := ∃ k, k < 2 ∧ ∀ e ∈ s.mem, spared k e.1 = true
theorem Pruned.of_mem (h : t.mem = s.mem) (hs : s.Pruned) : t.Pruned := by
  rw [Pruned, h]
  exact hs
theorem mem_stopCluster {k : Nat} {e : Nat × Nat} : e ∈ (s.stopCluster k).mem ↔ e ∈ s.mem ∧ spared k e.1 = true := by
  have h : (s.stopCluster k).mem = ((s.wr (PWR_CST_STATE k) 0).dropCluster k).mem := congrArg Prod.fst handlerView_stopCluster
  rw [h, dropCluster_mem, List.mem_filter, wr_mem]
theorem mem_stopClusters {l : List Nat} {e : Nat × Nat} (h : e ∈ (s.each l stopCluster).mem) : ∀ k ∈ l, spared k e.1 = true := by
  have hkeep : ∀ (r : List Nat) (t : State), e ∈ (t.each r stopCluster).mem → e ∈ t.mem := by
    intro r
    induction r with
    | nil => exact fun _ => id
    | cons k r ih => exact fun t ht => (mem_stopCluster.1 (ih _ ht)).1
  induction l generalizing s with
  | nil => exact fun _ hk => absurd hk List.not_mem_nil
  | cons k r ih =>
    rw [each_cons] at h
    intro k' hk'
    rcases List.mem_cons.1 hk' with rfl | hk'
    · exact (mem_stopCluster.1 (hkeep r _ h)).2
    · exact ih h k' hk'
/-- Of clusters 0 and 1 at least one is not the fault handler's. -/
theorem stopOthers_pruned : s.stopOthers.Pruned := by
  have hmem : s.stopOthers.mem = (s.each ((List.range 8).filter fun k => k != s.rd FC_CFG_FHCLU) stopCluster).mem := by
    have hview := stopOthers_view (s := s)
    simp only [handlerView, Prod.mk.injEq] at hview
    exact hview.1
  obtain ⟨k, hk, hother⟩ : ∃ k, k < 2 ∧ k ≠ s.rd FC_CFG_FHCLU := by
    by_cases h : s.rd FC_CFG_FHCLU = 0
    · exact ⟨1, by decide, by omega⟩
    · exact ⟨0, by decide, Ne.symm h⟩
  refine ⟨k, hk, fun e he => ?_⟩
  rw [hmem] at he
  exact mem_stopClusters he k (List.mem_filter.2 ⟨List.mem_range.2 (by omega), by simpa using hother⟩)
theorem safeEntry_prunes {ev : Nat} (h : s.dev ≠ .safe) : (s.safeEntry ev).Pruned := by
  obtain ⟨t, ht⟩ := safeEntry_stops (ev := ev) h
  rw [ht]
  exact stopOthers_pruned
theorem Pruned.safeEntry {ev : Nat} (h : s.Pruned) : (s.safeEntry ev).Pruned := by
  by_cases hd : s.dev = .safe
  · rw [State.safeEntry, if_pos hd]
    exact h
  · exact safeEntry_prunes hd

/-! ### The steps of a conversion -/

/-- R494: a warning is reported, and 160 °C is the event of severity 4. -/
theorem hotDs_cases {old : Option Int} {P : State → Prop} (hreport : ∀ (t : State) c e v, P t → P (t.report c e v 13)) (hsafe : ∀ (t : State) ev, P t → P (t.safeEntry ev))
    (h : P s) : P (s.hotDs j old) := by
  unfold hotDs
  extract_lets x warn past u
  have hu : P u := by
    unfold u
    split
    · exact hreport s _ _ _ h
    · exact h
  clear_value u
  split
  · exact hsafe _ _ (hreport u _ _ _ hu)
  · exact hu
theorem Pruned.hotDs {old : Option Int} (h : s.Pruned) : (s.hotDs j old).Pruned :=
  hotDs_cases (fun _ _ _ _ h => .of_mem rfl h) (fun _ _ h => h.safeEntry) h
/-- A valid sensor that had not shown a value prunes at 160 °C. -/
theorem hotDs_prunes (hdev : s.dev ≠ .safe) (hvalid : s.dsValid j = true) (hhot : 1280 ≤ s.dsTemp j) : (s.hotDs j none).Pruned := by
  unfold hotDs
  extract_lets x warn past u
  have hu : u.dev ≠ .safe := by
    unfold u
    split
    · exact hdev
    · exact hdev
  clear_value u
  rw [if_pos (by simp [past, x, hvalid, hhot])]
  exact safeEntry_prunes hu
/-- The readings are stored and judged (R493). -/
def judgedDs (s : State) (l : List Word) : State :=
  ((s.each (List.range 16) fun t j => match l[j]? with | some w => t.wr (TMP_DS_T j) w.toNat | none => t).judgeControl).each (List.range 4) judgeDie
/-- The extremes are shown. -/
def shownDs (s : State) : State :=
  let enc : Option Int → Nat := fun x => match x with | some v => wrap 12 v | none => 0x800
  ((s.wr TMP_CDIE_T (enc (s.highest controlDs))).wr TMP_CDMIN_T (enc (s.lowest controlDs))).each (List.range 4) fun t d => t.wr (TMP_DIE_T d) (enc (t.highest (dieDs d)))
theorem takeDs_eq {l : List Word} : s.takeDs l = ((s.judgedDs l).each controlDs fun t j =>
    t.hotDs j ((controlDs.map fun j => if s.dsValid j then some (s.dsTemp j) else none).getD j none)).shownDs := rfl
theorem mem_shownDs : s.shownDs.mem = s.mem := by
  unfold shownDs
  extract_lets enc
  rw [each_same State.mem fun _ _ _ => wr_mem, wr_mem, wr_mem]
theorem mem_renewTemp : (s.renewTemp i).mem = s.mem := by
  unfold renewTemp clear
  rw [foldl_same State.mem fun _ _ => wr_mem, setTin_mem]
theorem mem_rateCheck {v : Int} : (s.rateCheck i v).mem = s.mem := by
  unfold rateCheck
  extract_lets a late u
  split
  · split
    · rfl
    · rfl
  · rfl
theorem mem_convertTemp {x : TempRaw} : (s.convertTemp i x).mem = s.mem := by
  unfold convertTemp
  extract_lets a o h u
  split
  · rfl
  · split
    · exact mem_rateCheck
    · exact mem_rateCheck
theorem mem_crossTemp : (s.crossTemp i).mem = s.mem := rfl
theorem mem_judgeTemp : (s.judgeTemp i).mem = s.mem := by
  unfold judgeTemp
  extract_lets cond a u v w
  have hw : w.mem = s.mem := by
    unfold w
    split
    · split
      · rfl
      · rfl
    · split
      · rfl
      · rfl
  clear_value w
  split
  · split
    · exact hw
    · exact hw
  · exact hw
theorem mem_gatesOff : (s.gatesOff n).mem = s.mem := rfl
theorem mem_overTemp : (s.overTemp n).mem = s.mem := by
  unfold overTemp
  split
  · extract_lets trip u
    split
    · split
      · rfl
      · rfl
    · split
      · rw [disrupt_part State.mem fun _ _ => rfl, report_mem, raiseFlag_mem, mem_gatesOff, modProt_mem]
      · rfl
  · rfl
theorem mem_dieOverTemp : (s.dieOverTemp d).mem = s.mem := by
  unfold dieOverTemp
  split
  · split
    · split
      · rfl
      · rfl
    · split
      · rw [report_mem, each_same State.mem fun _ _ _ => mem_gatesOff, modDie_mem]
      · rfl
  · rfl
theorem mem_trackTop : s.trackTop.mem = s.mem := by
  refine each_same State.mem fun t u _ => ?_
  split
  · rfl
  · rfl
end State

/-- What a conversion does with the readings of the inputs once those of the on-die sensors are taken. -/
def State.inputsRead (s : State) (raw : List (Fin 49 × TempRaw)) : State :=
  let s := s.each ((List.range 49).filter fun i => (s.tin i).renew) State.renewTemp
  let s := raw.foldl (fun (t : State) (x : Fin 49 × TempRaw) => t.convertTemp x.1.val x.2) s
  let en := (List.range 49).filter fun i => s.tempType i != 0 && (raw.map fun x => x.1.val).contains i
  let s := (s.each (en.filter (· < 48)) State.crossTemp).each en State.judgeTemp
  let s := (s.each channels State.overTemp).each (List.range 4) State.dieOverTemp
  (s.trackTsb.trackTop).trackHot
theorem State.mem_inputsRead {s : State} {raw : List (Fin 49 × TempRaw)} : (s.inputsRead raw).mem = s.mem := by
  unfold inputsRead
  extract_lets u v en w x
  calc ((x.trackTsb.trackTop).trackHot).mem = x.mem := mem_trackTop
    _ = w.mem := (each_same State.mem fun _ _ _ => mem_dieOverTemp).trans (each_same State.mem fun _ _ _ => mem_overTemp)
    _ = v.mem := (each_same State.mem fun _ _ _ => mem_judgeTemp).trans (each_same State.mem fun _ _ _ => mem_crossTemp)
    _ = u.mem := foldl_same State.mem fun _ _ => mem_convertTemp
    _ = s.mem := each_same State.mem fun _ _ _ => mem_renewTemp
theorem exec_temperatureConversion {s : State} {raw : List (Fin 49 × TempRaw)} {ds : List Word} (h : s.allOff = false) :
    exec (.temperatureConversion raw ds) s = .next ((s.takeDs ds).inputsRead raw) := by
  show execTemperatureConversion raw ds s = _
  rw [execTemperatureConversion, if_neg (by simp [h])]
  rfl

/-- Released, in WATCH, with one word in the memory of cluster 0 and one in that of cluster 1. -/
def twoWords : State := { State.reset with mem := [(0x1000000, 5), (0x2000000, 5)], pwr := { released := true } }
/-- Every on-die sensor reads 160 °C. -/
def hotReadings : List Word := List.replicate 16 1280
theorem twoWords_judged : ((twoWords.judgedDs hotReadings).dev, (twoWords.judgedDs hotReadings).dsValid 0, (twoWords.judgedDs hotReadings).dsTemp 0) = (.watch, true, 1280) := by
  decide +kernel
/-- The first control-die sensor enters SAFE; no later step brings a word back. -/
theorem twoWords_pruned : (twoWords.takeDs hotReadings).Pruned := by
  have hjudged := twoWords_judged
  rw [State.takeDs_eq]
  generalize twoWords.judgedDs hotReadings = u at hjudged ⊢
  simp only [Prod.mk.injEq] at hjudged
  obtain ⟨hdev, hvalid, hhot⟩ := hjudged
  refine .of_mem State.mem_shownDs ?_
  have hlist : State.controlDs = 0 :: [1, 2, 3, 4, 5, 6, 7] := rfl
  rw [hlist, State.each_cons]
  refine State.each_invariant (I := State.Pruned) (fun _ _ _ h => h.hotDs) ?_
  exact State.hotDs_prunes (by rw [hdev]; decide) hvalid (by rw [hhot])

/-- Refutes O50: the clause on TEMPERATURE_CONVERSION keeps the memories also where a control-die sensor enters SAFE, which ends every cluster but the fault handler's. -/
theorem not_temperaturesDeratingAndCharging : ¬ Obligations.TemperaturesDeratingAndCharging := by
  unfold Obligations.TemperaturesDeratingAndCharging
  intro h
  obtain ⟨-, hconv, -⟩ := h twoWords
  obtain ⟨t, hexec, -, -, -, -, -, -, hkept, -⟩ := hconv [] hotReadings (by decide)
  obtain ⟨hmem, -⟩ := hkept
  rw [exec_temperatureConversion (by decide)] at hexec
  obtain rfl := Host.Outcome.next.inj hexec
  rw [State.mem_inputsRead] at hmem
  obtain ⟨k, hk, hspared⟩ := twoWords_pruned
  rw [hmem] at hspared
  have hwords : ∀ k, k < 2 → ∃ e ∈ twoWords.mem, State.spared k e.1 = false := by decide
  obtain ⟨e, he, hlost⟩ := hwords k hk
  rw [hspared e he] at hlost
  exact Bool.noConfusion hlost
end Sys2Proof.Machine
end

section
/-! The on-time of a period (R106, R107): what the minimum pulse and the minimum off-gap make of the demanded on-time, and the bounds of the residue. -/
namespace Sys2Proof.Machine

/-! ### The minimum pulse and the minimum off-gap (R106) -/

/-- R106: the correction that a mode makes: 1 DROP, 2 STRETCH, 3 DITHER. -/
def correctionKind (mpm : Nat) : Nat := if mpm = 0 then 1 else if mpm = 1 then 2 else 3
/-- R106: the on-time emitted for a demanded on-time `t`, and the correction made of it. -/
def emittedOn (mpm P minh minl t : Nat) : Nat × Nat :=
  if 0 < t ∧ t < minh then (if mpm = 1 then minh else 0, correctionKind mpm)
  else if 0 < t ∧ t < P ∧ P - t < minl then (if mpm = 1 then P - minl else P, correctionKind mpm)
  else (t, 0)
/-- R107: the residue of a period: what was asked for, `want`, less what was emitted, within the bounds of the mode. -/
def residueOf (mpm N minh minl t on : Nat) (want : Int) : Int :=
  if mpm = 2 ∨ mpm = 3 then min (max (want - (on * N : Nat)) (-((minl * N : Nat) : Int))) ((minh * N : Nat) : Int)
  else min (max (want - (t * N : Nat)) 0) ((N : Int) - 1)

variable {mpm D N P tmax minh minl t on : Nat} {r want : Int}

theorem emittedOn_short (h0 : 0 < t) (h : t < minh) : emittedOn mpm P minh minl t = (if mpm = 1 then minh else 0, correctionKind mpm) :=
  if_pos ⟨h0, h⟩
theorem emittedOn_gap (h0 : 0 < t) (h : minh ≤ t) (hP : t < P) (hgap : P - t < minl) :
    emittedOn mpm P minh minl t = (if mpm = 1 then P - minl else P, correctionKind mpm) := by
  rw [emittedOn, if_neg (by omega), if_pos ⟨h0, hP, hgap⟩]
theorem emittedOn_plain (h : t = 0 ∨ (minh ≤ t ∧ (P ≤ t ∨ minl ≤ P - t))) : emittedOn mpm P minh minl t = (t, 0) := by
  rw [emittedOn, if_neg (by omega), if_neg (by omega)]

/-! ### The residue (R107) -/

theorem residueOf_bounds_whole (hm : mpm = 0 ∨ mpm = 1) (hN : 0 < N) :
    0 ≤ residueOf mpm N minh minl t on want ∧ residueOf mpm N minh minl t on want ≤ (N : Int) - 1 := by
  rw [residueOf, if_neg (by omega)]
  omega
theorem residueOf_bounds_dither (hm : mpm = 2 ∨ mpm = 3) :
    -((minl * N : Nat) : Int) ≤ residueOf mpm N minh minl t on want ∧ residueOf mpm N minh minl t on want ≤ ((minh * N : Nat) : Int) := by
  rw [residueOf, if_pos hm]
  omega
theorem residueOf_dither (hm : mpm = 2 ∨ mpm = 3) (hl : -((minl * N : Nat) : Int) ≤ want - (on * N : Nat)) (hh : want - (on * N : Nat) ≤ ((minh * N : Nat) : Int)) :
    residueOf mpm N minh minl t on want = want - (on * N : Nat) := by
  rw [residueOf, if_pos hm, max_eq_left hl, min_eq_left hh]

/-! ### The on-time -/

theorem onTime_zero : onTime mpm 0 N P tmax minh minl r = (0, 0, 0) := if_pos rfl
theorem onTime_full (hN : 0 < N) : onTime mpm N N P P minh minl r = (P, 0, 0) := by
  rw [onTime, if_neg (by omega), if_pos ⟨rfl, rfl⟩]
/-- R107: between the two ends the demanded on-time is corrected by its mode, and the rest is the residue. -/
theorem onTime_between (hD : 0 < D) (hfull : ¬(D = N ∧ tmax = P)) : onTime mpm D N P tmax minh minl r =
    (let want : Int := (D * P : Nat) + r
     let t := min (want / (N : Int)).toNat tmax
     let o := emittedOn mpm P minh minl t
     (o.1, residueOf mpm N minh minl t o.1 want, o.2)) := by
  rw [onTime, if_neg (by omega), if_neg hfull]
  extract_lets want t g short gap stretch on res o
  have hshort : short = true ↔ 0 < t ∧ t < minh := by simp [short]
  have hgap : gap = true ↔ ¬short = true ∧ 0 < t ∧ t < P ∧ P - t < minl := by
    simp only [gap, g, Bool.and_eq_true, Bool.not_eq_true', Bool.not_eq_true, decide_eq_true_eq, Nat.sub_pos_iff_lt]
    tauto
  have hemit : o = (on, if short || gap then correctionKind mpm else 0) := by
    simp only [o, emittedOn, on, stretch, beq_iff_eq, ← hshort]
    by_cases hs : short = true
    · simp [hs]
    · by_cases hg : gap = true
      · rw [if_neg hs, if_neg hs, if_pos hg, if_pos (hgap.1 hg).2, hg, Bool.or_true, if_pos rfl]
      · rw [if_neg hs, if_neg hs, if_neg hg, if_neg fun h => hg (hgap.2 ⟨hs, h⟩)]
        simp [hs, hg]
  rw [hemit]
  simp only [correctionKind, stretch, beq_iff_eq]
  rfl

/-- Settles O17: the two ends by `onTime_zero` and `onTime_full`; between them `onTime_between` gives the on-time and the residue apart. -/
theorem onTimeArithmetic : Obligations.OnTimeArithmetic := by
  unfold Obligations.OnTimeArithmetic
  refine fun mpm D N P tmax minh minl r => ⟨onTime_zero, onTime_full, fun hD hfull => ?_⟩
  rw [onTime_between hD hfull]
  extract_lets want t e o
  have hon : o = (e.1, residueOf mpm N minh minl t e.1 want, e.2) := rfl
  rw [hon]
  refine ⟨fun h0 h => ?_, fun h0 h hP hgap => ?_, fun h => ?_, residueOf_bounds_whole, fun hm => ⟨(residueOf_bounds_dither hm).1, (residueOf_bounds_dither hm).2, residueOf_dither hm⟩⟩
  · have he : e = _ := emittedOn_short h0 h
    rw [he]
    exact ⟨rfl, rfl⟩
  · have he : e = _ := emittedOn_gap h0 h hP hgap
    rw [he]
    exact ⟨rfl, rfl⟩
  · have he : e = _ := emittedOn_plain h
    rw [he]
    exact ⟨rfl, rfl⟩

end Sys2Proof.Machine
end

section
/-! The SYNC chain at its input (R117, R118, R120, R122): what each command does, and the watch for frame marks. -/
namespace Sys2Proof.Machine
open Sys2Proof.Safety

theorem exec_synciPulse {s : State} {rise width : Nat} : exec (.synciPulse rise width) s = execSynciPulse rise width s := rfl

namespace State
variable {s t : State} {rise width src w : Nat}

/-! ### What the SYNC chain leaves as it was -/

/-- The state with register fields, a collector and broadcast logic of another: what the SYNC chain writes. -/
def aside (s : State) (regs : SMap Nat) (coll : Coll) (bcast : Bcast) : State := { s with regs := regs, coll := coll, bcast := bcast }
section
variable {regs : SMap Nat} {coll : Coll} {bcast : Bcast}
@[simp] theorem aside_wr {f : Fld} {v : Nat} : (s.wr f v).aside regs coll bcast = s.aside regs coll bcast := rfl
@[simp] theorem aside_put {f : Fld} {b : Bool} : (s.put f b).aside regs coll bcast = s.aside regs coll bcast := rfl
@[simp] theorem aside_bump {f : Fld} : (s.bump f).aside regs coll bcast = s.aside regs coll bcast := rfl
@[simp] theorem aside_report {cls id sev path : Nat} {data : List Nat} : (s.report cls id sev path data).aside regs coll bcast = s.aside regs coll bcast := rfl
@[simp] theorem aside_modBcast {g : Bcast → Bcast} : (s.modBcast g).aside regs coll bcast = s.aside regs coll bcast := rfl
@[simp] theorem aside_self : s.aside s.regs s.coll s.bcast = s := rfl
theorem rest_of_aside (h : t.aside s.regs t.coll s.bcast = s) : { t with regs := s.regs, bcast := s.bcast } = s := h
end

/-! ### The watch for frame marks (R122) -/

/-- R122: the watch goes on from where it began while its condition holds. -/
theorem updWatch_eq : s.updWatch = s.modBcast fun b => { b with watchAt := if s.watching then some (b.watchAt.getD s.time) else none } := by
  have hsame : ∀ o, s.bcast.watchAt = o → s = s.modBcast fun b => { b with watchAt := o } := by
    rintro o rfl
    rfl
  unfold updWatch
  cases hw : s.watching <;> cases ha : s.bcast.watchAt
  · exact hsame none ha
  · rfl
  · simp [modBcast, ha]
  · next x => simpa [modBcast, ha] using hsame (some x) ha
/-- R122: the condition of the watch is one of the frame length and of the fields of the channels that enable marks. -/
theorem watching_congr (hframe : t.bcast.frame = s.bcast.frame)
    (hf : ∀ n, n < 192 → t.rd (CH_CFG_EN n) = s.rd (CH_CFG_EN n) ∧ t.rd (CH_ALN_ALIGN n) = s.rd (CH_ALN_ALIGN n)) : t.watching = s.watching := by
  have hany : (channels.any fun n => t.on (CH_CFG_EN n) && t.on (CH_ALN_ALIGN n)) = channels.any fun n => s.on (CH_CFG_EN n) && s.on (CH_ALN_ALIGN n) := by
    rw [Bool.eq_iff_iff, List.any_eq_true, List.any_eq_true]
    refine exists_congr fun n => and_congr_right fun hn => ?_
    obtain ⟨hen, hal⟩ := hf n (mem_channels.1 hn)
    rw [on, on, on, on, hen, hal]
  rw [watching, watching, hframe, hany]

/-! ### A rejected pulse (R117) -/

theorem rejectPulse_last : (s.rejectPulse src).rd PWR_SYNCSTAT_LAST = 3 := report_rd.trans rd_wr_same
theorem rejectPulse_count : (s.rejectPulse src).rd PWR_SYNCREJ_COUNT = min 4095 (s.rd PWR_SYNCREJ_COUNT + 1) :=
  report_rd.trans ((rd_wr_ne (by decide)).trans rd_bump_same)
theorem rejectPulse_coll : (s.rejectPulse src).coll = (s.report clLink src 0 13).coll :=
  report_congr (s := (s.bump PWR_SYNCREJ_COUNT).wr PWR_SYNCSTAT_LAST 3) rfl rfl rfl
theorem rejectPulse_fields : FieldsKept [PWR_SYNCSTAT_LAST, PWR_SYNCREJ_COUNT] s (s.rejectPulse src) :=
  .report (.wr (by simp) (.bump (by simp) .refl))
theorem aside_rejectPulse : (s.rejectPulse src).aside s.regs s.coll s.bcast = s := by simp [rejectPulse]
theorem rejectPulse_rest : { s.rejectPulse src with regs := s.regs, coll := s.coll } = s := by
  show (s.rejectPulse src).aside s.regs s.coll (s.rejectPulse src).bcast = s
  simp [rejectPulse]

/-! ### The pulses at SYNCI (R117, R118) -/

/-- R117: the latest accepted pulse rose at least 160 coarse ticks before. -/
theorem spaced_iff : (s.bcast.lastRise.any fun x => decide (rise < x + 160)) = false ↔ ∀ x, s.bcast.lastRise = some x → x + 160 ≤ rise := by
  cases s.bcast.lastRise <;> simp
theorem synciPulse_master (hm : s.bcast.master = true) : exec (.synciPulse rise width) s = .next (s.rejectPulse 0xC45) := by
  rw [exec_synciPulse, execSynciPulse, if_pos hm]
theorem synciPulse_early (hm : s.bcast.master = false) (hnear : ∀ x, s.bcast.lastRise = some x → rise < x + 160) (hsome : s.bcast.lastRise ≠ none) :
    exec (.synciPulse rise width) s = .next (s.rejectPulse 0xC41) := by
  obtain ⟨x, hx⟩ := Option.ne_none_iff_exists'.1 hsome
  rw [exec_synciPulse, execSynciPulse, if_neg (by simp [hm]), if_pos (by simpa [hx] using hnear x hx)]

theorem emitPulse_rd {f : Fld} : (s.emitPulse rise w).rd f = s.rd f := modBcast_rd
theorem emitPulse_coll : (s.emitPulse rise w).coll = s.coll := rfl
/-- R118: a pulse is accepted, and forwarded where the device forwards. -/
def pulseTaken (rise w : Nat) (b : Bcast) : Bcast :=
  { b with lastRise := some rise, synco := if b.fwd then (rise + 32, w) :: b.synco else b.synco }
/-- R118, R122: a frame mark is accepted: its action instant is due, and the marks are running. -/
def markTaken (now rise : Nat) (b : Bcast) : Bcast :=
  { pulseTaken rise 20 b with lastMark := some now, markDue := b.markDue ++ [rise + 129 + b.comp] }
/-- R118, R138: a SYNC broadcast is accepted, of which the scheduled tagged broadcasts know. -/
def syncTaken (rise : Nat) (b : Bcast) : Bcast :=
  { pulseTaken rise 80 b with tagged := b.tagged.map (fun x => { x with after := (rise + 129 + b.comp) :: x.after }), syncDue := b.syncDue ++ [rise + 129 + b.comp] }
theorem synciPulse_mark (hm : s.bcast.master = false) (hfar : ∀ x, s.bcast.lastRise = some x → x + 160 ≤ rise) (h16 : 16 ≤ width) (h24 : width ≤ 24) :
    exec (.synciPulse rise width) s = .next (((s.modBcast (markTaken s.time rise)).wr PWR_SYNCSTAT_LAST 1).put PWR_SYNCSTAT_MLOST false) := by
  have hmark : (decide (16 ≤ width) && decide (width ≤ 24)) = true := by simp [h16, h24]
  rw [exec_synciPulse, execSynciPulse, if_neg (by simp [hm]), if_neg (by simp [spaced_iff.2 hfar])]
  simp only [hmark, true_or, if_true]
  cases hf : s.bcast.fwd <;> simp [markTaken, pulseTaken, modBcast, emitPulse, markAccepted, hf] <;> rfl
theorem synciPulse_sync (hm : s.bcast.master = false) (hfar : ∀ x, s.bcast.lastRise = some x → x + 160 ≤ rise) (h64 : 64 ≤ width) (h96 : width ≤ 96) :
    exec (.synciPulse rise width) s = .next ((s.modBcast (syncTaken rise)).wr PWR_SYNCSTAT_LAST 2) := by
  have hmark : (decide (16 ≤ width) && decide (width ≤ 24)) = false := by simp; omega
  have hsync : (decide (64 ≤ width) && decide (width ≤ 96)) = true := by simp [h64, h96]
  rw [exec_synciPulse, execSynciPulse, if_neg (by simp [hm]), if_neg (by simp [spaced_iff.2 hfar])]
  simp only [hmark, hsync, or_true, if_true, if_false, Bool.false_eq_true]
  cases hf : s.bcast.fwd <;> simp [syncTaken, pulseTaken, modBcast, emitPulse, schedSync, dueSync, hf] <;> rfl
/-- R117, R118: a pulse of another width is rejected; a forwarding device may send on what it cannot tell apart. -/
theorem synciPulse_other (hm : s.bcast.master = false) (hfar : ∀ x, s.bcast.lastRise = some x → x + 160 ≤ rise)
    (hw : width < 16 ∨ (24 < width ∧ width < 64) ∨ 96 < width) : exec (.synciPulse rise width) s =
      .next (if s.bcast.fwd ∧ 32 ≤ width then (s.rejectPulse 0xC41).emitPulse (rise + 32) (if min width 97 - 32 < 40 then 40 else 112) else s.rejectPulse 0xC41) := by
  have hmark : (decide (16 ≤ width) && decide (width ≤ 24)) = false := by simp; omega
  have hsync : (decide (64 ≤ width) && decide (width ≤ 96)) = false := by simp; omega
  rw [exec_synciPulse, execSynciPulse, if_neg (by simp [hm]), if_neg (by simp [spaced_iff.2 hfar])]
  simp only [hmark, hsync, or_self, if_false, Bool.false_eq_true]

end State
end Sys2Proof.Machine
end

section
/-! Frame marks: sent, taken by the channels, and missed (R118 to R122, R127). -/
namespace Sys2Proof.Machine
open Sys2Proof.Safety

theorem exec_frameMarkEmit {s : State} : exec .frameMarkEmit s = execFrameMarkEmit s := rfl
theorem exec_frameMark {s : State} : exec .frameMark s = execFrameMark s := rfl
theorem exec_marksLost {s : State} : exec .marksLost s = execMarksLost s := rfl

theorem key_ne_of_addr {f g : Fld} (h : f.addr ≠ g.addr) (hf : f.lo < 256) (hg : g.lo < 256) : f.key ≠ g.key := by
  simp only [Fld.key]
  omega

namespace State
variable {s t : State} {n m k w : Nat} {e : Int}

/-! ### A mark is sent (R118, R120, R127) -/

/-- R127: the written configuration is in force. -/
def installed (s : State) (b : Bcast) : Bcast :=
  { b with master := s.on PWR_SYNCCFG_MASTER, fwd := s.on PWR_SYNCCFG_FWD, frame := s.rd PWR_FRAME_VALUE, comp := s.rd PWR_SYNCCOMP_VALUE }
/-- R118, R120: a master sends a mark now, which is due at itself. -/
def markSent (now : Nat) (b : Bcast) : Bcast :=
  { b with synco := (25 * now, 20) :: b.synco, lastMark := some now, markOut := some (25 * now), markDue := b.markDue ++ [25 * now + 97 + b.comp] }
theorem frameMarkEmit_sends (hm : s.bcast.master = true) (hf : s.bcast.frame ≠ 0) (hdue : s.dueOn (s.bcast.frame * 160) 0 = true)
    (hstay : s.rd PWR_SYNCCFG_MASTER = 1) (hlen : s.rd PWR_FRAME_VALUE ≠ 0) :
    exec .frameMarkEmit s = .next ((s.installSync.updWatch.modBcast (markSent s.time)).put PWR_SYNCSTAT_MLOST false) := by
  rw [exec_frameMarkEmit, execFrameMarkEmit, if_pos ⟨hm, hf, hdue⟩]
  have hgo : s.installSync.updWatch.bcast.master = true ∧ s.installSync.updWatch.bcast.frame ≠ 0 := by
    rw [updWatch_eq]
    exact ⟨by simp [modBcast, installSync, on, hstay], hlen⟩
  have htime : s.installSync.updWatch.time = s.time := by
    rw [updWatch_eq]
    rfl
  rw [← htime]
  generalize s.installSync.updWatch = u at hgo ⊢
  simp only [if_pos hgo]
  rfl

/-! ### The grid of a channel (R121) -/

/-- Fields at another place than CHn_ESTAT. -/
abbrev offStat (f : Fld) : Prop := f.addr % 0x400 ≠ 0x121 ∧ f.lo < 256
theorem key_ne_lock {f : Fld} (h : offStat f) : f.key ≠ (CH_ESTAT_LOCK n).key := by
  obtain ⟨ha, hl⟩ := h
  refine key_ne_of_addr (fun he => ha ?_) hl (by simp [CH_ESTAT_LOCK])
  rw [he]
  simp only [CH_ESTAT_LOCK, chAddr]
  omega
theorem lock_ne (h : m ≠ n) : (CH_ESTAT_LOCK m).key ≠ (CH_ESTAT_LOCK n).key := by
  simp only [Fld.key, CH_ESTAT_LOCK, chAddr, ne_eq]
  omega
theorem offStat_channel {off : Nat} (ho : off < 0x400) (h : off ≠ 0x121) : (chAddr n + off) % 0x400 ≠ 0x121 := by
  simp only [chAddr]
  omega
/-- R121, R571: whether marks act on a channel, and its period, hang on fields at other places, the frame length and the period in force. -/
theorem markActs_congr (hf : ∀ f, offStat f → t.rd f = s.rd f) (hframe : t.bcast.frame = s.bcast.frame) (hper : (t.gen n).perF = (s.gen n).perF) :
    t.markActs n = s.markActs n ∧ t.perF n = s.perF n := by
  have htopo : ∀ k, t.topo k = s.topo k := fun k => hf _ ⟨offStat_channel (by omega) (by omega), by simp [CH_CFG_TOPO]⟩
  have hpair : ∀ k, t.rd (CH_CFG_HBPAIR k) = s.rd (CH_CFG_HBPAIR k) := fun k => hf _ ⟨offStat_channel (by omega) (by omega), by simp [CH_CFG_HBPAIR]⟩
  have hen : t.rd (CH_CFG_EN n) = s.rd (CH_CFG_EN n) := hf _ ⟨offStat_channel (by omega) (by omega), by simp [CH_CFG_EN]⟩
  have hlatch : ∀ k, t.rd (CH_SSTAT_LATCH k) = s.rd (CH_SSTAT_LATCH k) := fun k => hf _ ⟨offStat_channel (by omega) (by omega), by simp [CH_SSTAT_LATCH]⟩
  have halign : t.rd (CH_ALN_ALIGN n) = s.rd (CH_ALN_ALIGN n) := hf _ ⟨offStat_channel (by omega) (by omega), by simp [CH_ALN_ALIGN]⟩
  have hfrozen : t.rd (CH_STAT_FROZEN n) = s.rd (CH_STAT_FROZEN n) := hf _ ⟨offStat_channel (by omega) (by omega), by simp [CH_STAT_FROZEN]⟩
  have hsafe : ∀ k, t.rd (SEAL_SS_STATE k) = s.rd (SEAL_SS_STATE k) ∧ t.rd (SEAL_SS_PER k) = s.rd (SEAL_SS_PER k) := fun k =>
    ⟨hf _ ⟨by simp only [SEAL_SS_STATE]; omega, by simp [SEAL_SS_STATE]⟩, hf _ ⟨by simp only [SEAL_SS_PER]; omega, by simp [SEAL_SS_PER]⟩⟩
  have hhead : t.head n = s.head n := by
    rw [head, hpair, htopo, htopo]
    rfl
  have hsealed : t.sealedPer n = s.sealedPer n := by
    simp only [sealedPer, latched, safeState, on, hhead, hlatch, (hsafe _).1]
  have hperiod : t.perF n = s.perF n := by
    simp only [perF, hsealed, hhead, (hsafe _).2, hper]
  refine ⟨?_, hperiod⟩
  simp only [markActs, on, hsealed, hperiod, halign, hfrozen, hframe, hen]
/-- R200: of a change that leaves the gates and the phase of a generator as they were, a dwell sees nothing. -/
theorem gen_modGen_gatesKept {g : Gen → Gen} (hh : (g (s.gen n)).hg = (s.gen n).hg) (hl : (g (s.gen n)).lg = (s.gen n).lg)
    (hp : (g (s.gen n)).phase = (s.gen n).phase) : (s.modGen n g).gen n = g (s.gen n) := by
  rw [gen_modGen, if_pos rfl, seenGates, noteGates]
  simp [deadTime, hh, hl, hp]

/-! ### A mark acts (R121) -/

theorem markChannel_fields : FieldsKept [CH_ESTAT_LOCK n] s (s.markChannel n e) := by
  unfold markChannel
  exact .ite .refl (.ite (.put (by simp) .refl) (.put (by simp) (.modGen .refl)))
theorem put_aside_gens {f : Fld} {b : Bool} {regs : SMap Nat} {gens : SMap Gen} :
    { s.put f b with regs := regs, gens := gens } = { s with regs := regs, gens := gens } := rfl
theorem modGen_aside_gens {g : Gen → Gen} {regs : SMap Nat} {gens : SMap Gen} :
    { s.modGen n g with regs := regs, gens := gens } = { s with regs := regs, gens := gens } := rfl
theorem markChannel_rest : { s.markChannel n e with regs := s.regs, gens := s.gens } = s := by
  unfold markChannel
  split
  · rfl
  · split
    · rfl
    · exact put_aside_gens.trans modGen_aside_gens
theorem markChannel_gen_ne (h : m ≠ n) : (s.markChannel n e).gen m = s.gen m := by
  unfold markChannel
  split
  · rfl
  · split
    · rfl
    · rw [put_gen, gen_modGen, if_neg h]
theorem markChannel_bcast : (s.markChannel n e).bcast = s.bcast := by
  have h := congrArg State.bcast (markChannel_rest (s := s) (n := n) (e := e))
  exact h
theorem markChannel_offStat {f : Fld} (h : offStat f) : (s.markChannel m e).rd f = s.rd f :=
  markChannel_fields f fun g hg => by
    rw [List.mem_singleton.1 hg]
    exact key_ne_lock h
/-- R121: the alignment error for a mark at coarse tick `e`, of a generator with the period given. -/
def markError (e : Int) (g : Gen) (per : Nat) : Int :=
  let d := (e - g.refA) % (per : Int)
  if (per : Int) < 2 * d then d - per else d
/-- R121: what a mark at coarse tick `e` makes of a generator and its LOCK, where it acts or not, at a period. -/
def afterMark (e : Int) (p : (Gen × Nat) × Bool × Nat) : (Gen × Nat) × Bool × Nat :=
  match p with
  | (x, false, per) => (x, false, per)
  | ((g, _), true, per) =>
    (if g.changing then (g, 0) else ({ g with alignErr := markError e g per }, if -1 ≤ markError e g per ∧ markError e g per ≤ 1 then 1 else 0), true, per)
/-- What a mark finds of channel n. -/
def markView (s : State) (n : Nat) : (Gen × Nat) × Bool × Nat := ((s.gen n, s.rd (CH_ESTAT_LOCK n)), s.markActs n, s.perF n)
theorem markChannel_perF : ((s.markChannel n e).gen m).perF = (s.gen m).perF := by
  by_cases h : m = n
  · subst h
    unfold markChannel
    split
    · rfl
    · split
      · rfl
      · simp
  · rw [markChannel_gen_ne h]
theorem markChannel_other (h : n ≠ m) : (s.markChannel m e).markView n = s.markView n := by
  obtain ⟨hacts, hper⟩ := markActs_congr (n := n) (fun f hf => markChannel_offStat (s := s) (m := m) (e := e) hf) (congrArg Bcast.frame markChannel_bcast) markChannel_perF
  rw [markView, markChannel_gen_ne h, hacts, hper, markChannel_fields _ fun g hg => by rw [List.mem_singleton.1 hg]; exact lock_ne h]
  rfl
theorem markChannel_corrects (ha : s.markActs n = true) (hc : (s.gen n).changing = false) : s.markChannel n e =
    (s.modGen n fun g => { g with alignErr := s.alignDiff n e }).put (CH_ESTAT_LOCK n) (decide (-1 ≤ s.alignDiff n e) && decide (s.alignDiff n e ≤ 1)) := by
  rw [markChannel, if_neg (by simp [ha]), if_neg (by simp [hc])]
theorem toNat_within {x : Int} : (decide (-1 ≤ x) && decide (x ≤ 1)).toNat = if -1 ≤ x ∧ x ≤ 1 then 1 else 0 := by
  rw [← Bool.decide_and]
  split
  · next h => simp [h]
  · next h => simp [h]
theorem markChannel_self : (s.markChannel n e).markView n = afterMark e (s.markView n) := by
  obtain ⟨hacts, hper⟩ := markActs_congr (n := n) (fun f hf => markChannel_offStat (s := s) (m := n) (e := e) hf) (congrArg Bcast.frame markChannel_bcast) markChannel_perF
  rw [markView, markView, hacts, hper]
  cases ha : s.markActs n
  · simp [markChannel, ha, afterMark]
  · cases hc : (s.gen n).changing
    · rw [markChannel_corrects ha hc, put_gen, gen_modGen_gatesKept rfl rfl rfl, rd_put_same Nat.zero_lt_one, toNat_within]
      simp only [afterMark, hc, Bool.false_eq_true, if_false]
      rfl
    · simp [markChannel, ha, hc, afterMark, rd_put_same (f := CH_ESTAT_LOCK n) Nat.zero_lt_one]
/-- R121: a mark acts on every channel. -/
def markAll (s : State) (e : Int) : State := s.each channels fun t n => t.markChannel n e
theorem markAll_view (hn : n < 192) : (s.markAll e).markView n = afterMark e (s.markView n) :=
  each_once (markView · n) (afterMark e) nodup_channels (mem_channels.2 hn) (fun _ _ _ h => markChannel_other (Ne.symm h)) fun _ => markChannel_self
theorem markAll_fields : FieldsKept (channels.map CH_ESTAT_LOCK) s (s.markAll e) :=
  .each fun _ _ hx => .mono (fun g hg => by rw [List.mem_singleton.1 hg]; exact List.mem_map_of_mem hx) markChannel_fields
theorem markAll_rest : { s.markAll e with regs := s.regs, gens := s.gens } = s := by
  have h := each_same (s := s) (l := channels) (op := fun t n => t.markChannel n e) (fun t => { t with regs := s.regs, gens := s.gens }) fun t x _ =>
    congrArg (fun u : State => { u with regs := s.regs, gens := s.gens }) markChannel_rest
  exact h
/-- What a mark that acts leaves of all but the fields and the generators. -/
theorem markAll_part {α : Type} (P : State → α) (hP : ∀ (x : State) r g, P { x with regs := r, gens := g } = P x) : P (s.markAll e) = P s :=
  (hP _ _ _).symm.trans (congrArg P markAll_rest)
/-- R127: the state in which a mark acts: at a slave the written configuration is in force first. -/
def markBase (s : State) : State := if s.bcast.master then s else s.installSync.updWatch
theorem frameMark_acts {rest : List Nat} (h : s.bcast.markDue = k :: rest) :
    exec .frameMark s = .next ((s.markBase.modBcast fun b => { b with markDue := rest }).markAll k) := by
  rw [exec_frameMark, execFrameMark, h, markBase]
  cases hm : s.bcast.master
  · simp only [modBcast, hm, Bool.false_eq_true, if_false]
    rw [updWatch_eq, updWatch_eq]
    rfl
  · simp only [modBcast, hm, if_true]
    rfl

/-! ### Marks are missed (R122, R127) -/

/-- R122: LOCK of every channel that is aligned clears. -/
def unlock (t : State) (n : Nat) : State := if t.on (CH_ALN_ALIGN n) then t.put (CH_ESTAT_LOCK n) false else t
def unlockAll (s : State) : State := s.each channels unlock
theorem unlock_fields : FieldsKept [CH_ESTAT_LOCK n] s (s.unlock n) := .ite (.put (by simp) .refl) .refl
theorem align_offStat : offStat (CH_ALN_ALIGN n) := ⟨offStat_channel (by omega) (by omega), by simp [CH_ALN_ALIGN]⟩
theorem unlock_align : (s.unlock m).on (CH_ALN_ALIGN n) = s.on (CH_ALN_ALIGN n) := by
  rw [on, unlock_fields _ fun g hg => by rw [List.mem_singleton.1 hg]; exact key_ne_lock align_offStat]
  rfl
theorem unlockAll_fields : FieldsKept (channels.map CH_ESTAT_LOCK) s s.unlockAll :=
  .each fun _ _ hx => .mono (fun g hg => by rw [List.mem_singleton.1 hg]; exact List.mem_map_of_mem hx) unlock_fields
theorem unlockAll_rest : { s.unlockAll with regs := s.regs } = s := by
  refine each_same (s := s) (l := channels) (op := unlock) (fun t => { t with regs := s.regs }) fun t x _ => ?_
  unfold unlock
  split
  · rfl
  · rfl
theorem unlockAll_lock (hn : n < 192) : s.unlockAll.rd (CH_ESTAT_LOCK n) = if s.on (CH_ALN_ALIGN n) then 0 else s.rd (CH_ESTAT_LOCK n) := by
  have h := each_once (s := s) (l := channels) (op := unlock) (n := n) (fun t => (t.rd (CH_ESTAT_LOCK n), t.on (CH_ALN_ALIGN n)))
    (fun p => (if p.2 then 0 else p.1, p.2)) nodup_channels (mem_channels.2 hn)
    (fun t x _ hx => by rw [unlock_align, unlock_fields _ fun g hg => by rw [List.mem_singleton.1 hg]; exact lock_ne (Ne.symm hx)])
    (fun t => by
      rw [unlock_align, unlock]
      cases t.on (CH_ALN_ALIGN n)
      · rfl
      · rw [if_pos rfl, rd_put_same Nat.zero_lt_one]
        rfl)
  have hlock := congrArg Prod.fst h
  exact hlock
theorem unlockAll_offStat {f : Fld} (h : offStat f) : s.unlockAll.rd f = s.rd f :=
  unlockAll_fields f fun g hg => by
    obtain ⟨x, -, rfl⟩ := List.mem_map.1 hg
    exact key_ne_lock h
/-- R122: the declaration of lost marks from the instant `w` on, after the LOCK bits. -/
def lostDeclared (s : State) (w : Nat) : State :=
  (((s.modBcast fun b => { b with lostFor := some w }).put PWR_SYNCSTAT_MLOST true).bump PWR_SYNCMISS_COUNT).report clClk 0xC40 1 13
/-- R127: with the configuration that waits in force. -/
def lostFrom (s : State) (w : Nat) : State := (s.lostDeclared w).installSync.updWatch
theorem marksLost_declares (hw : s.bcast.watchAt = some w) (hlong : max (s.bcast.lastMark.getD 0) w + 320 * s.bcast.frame ≤ s.time)
    (hnew : s.bcast.lostFor ≠ some (max (s.bcast.lastMark.getD 0) w)) :
    exec .marksLost s = .next (s.unlockAll.lostFrom (max (s.bcast.lastMark.getD 0) w)) := by
  have hlate : ¬(s.time < max (s.bcast.lastMark.getD 0) w + 2 * s.bcast.frame * 160 ∨ s.bcast.lostFor = some (max (s.bcast.lastMark.getD 0) w)) := by
    rintro (h | h)
    · omega
    · exact hnew h
  rw [exec_marksLost, execMarksLost, hw]
  cases hl : s.bcast.lastMark with
  | none =>
    simp only [hl, Option.getD_none, Nat.zero_max] at hlate ⊢
    rw [if_neg hlate]
    rfl
  | some x =>
    simp only [hl, Option.getD_some] at hlate ⊢
    rw [if_neg hlate]
    rfl

end State
end Sys2Proof.Machine
end

section
/-! The statement on the SYNC chain (R117 to R122, R127, R138). -/
namespace Sys2Proof.Machine
open Sys2Proof.Safety
namespace State
variable {s t : State} {n w : Nat}

/-! ### A mark that a master sends -/

/-- R118, R120, R127: what the emission of a mark leaves. -/
def markEmitted (s : State) : State := (s.installSync.updWatch.modBcast (markSent s.time)).put PWR_SYNCSTAT_MLOST false
theorem updWatch_watching : s.updWatch.watching = s.watching := by
  rw [updWatch_eq]
  rfl
theorem markEmitted_watching : s.markEmitted.watching = s.installSync.watching := by
  refine (watching_congr (s := s.installSync.updWatch) (t := s.markEmitted) rfl fun n _ => ⟨rd_put_ne ?_, rd_put_ne ?_⟩).trans updWatch_watching
  · exact key_ne_of_addr (by simp only [CH_CFG_EN, chAddr, PWR_SYNCSTAT_MLOST]; omega) (by simp [CH_CFG_EN]) (by decide)
  · exact key_ne_of_addr (by simp only [CH_ALN_ALIGN, chAddr, PWR_SYNCSTAT_MLOST]; omega) (by simp [CH_ALN_ALIGN]) (by decide)
theorem markEmitted_bcast : s.markEmitted.bcast = { s.bcast with
    master := s.on PWR_SYNCCFG_MASTER, fwd := s.on PWR_SYNCCFG_FWD, frame := s.rd PWR_FRAME_VALUE, comp := s.rd PWR_SYNCCOMP_VALUE,
    watchAt := if s.markEmitted.watching then some (s.bcast.watchAt.getD s.time) else none,
    synco := (25 * s.time, 20) :: s.bcast.synco, lastMark := some s.time, markOut := some (25 * s.time),
    markDue := s.bcast.markDue ++ [25 * s.time + 97 + s.rd PWR_SYNCCOMP_VALUE] } := by
  rw [markEmitted_watching, markEmitted, put_bcast, updWatch_eq]
  rfl
theorem markEmitted_rest : { s.markEmitted with regs := s.regs, bcast := s.bcast } = s := by
  apply rest_of_aside
  rw [markEmitted, updWatch_eq]
  simp [installSync]
theorem markEmitted_fields : FieldsKept [PWR_SYNCSTAT_MLOST] s s.markEmitted := by
  rw [markEmitted, updWatch_eq]
  exact .put (by simp) (.modBcast (.modBcast (.modBcast .refl)))

/-! ### Lost marks -/

theorem lostDeclared_rd {f : Fld} : (s.lostDeclared w).rd f = ((s.put PWR_SYNCSTAT_MLOST true).bump PWR_SYNCMISS_COUNT).rd f := report_rd
theorem lostDeclared_kept {f : Fld} (hc : f.key ≠ PWR_SYNCMISS_COUNT.key) (hm : f.key ≠ PWR_SYNCSTAT_MLOST.key) : (s.lostDeclared w).rd f = s.rd f :=
  lostDeclared_rd.trans ((rd_bump_ne hc).trans (rd_put_ne hm))
theorem lostDeclared_installed {b : Bcast} : installed (s.lostDeclared w) b = installed s b := by
  simp only [installed, on, lostDeclared_kept (f := PWR_SYNCCFG_MASTER) (by decide) (by decide), lostDeclared_kept (f := PWR_SYNCCFG_FWD) (by decide) (by decide),
    lostDeclared_kept (f := PWR_FRAME_VALUE) (by decide) (by decide), lostDeclared_kept (f := PWR_SYNCCOMP_VALUE) (by decide) (by decide)]
/-- What does not hang on the broadcast logic stands as a configuration comes into force. -/
theorem lostFrom_part {α : Type} (P : State → α) (hP : ∀ (x : State) b, P { x with bcast := b } = P x) : P (s.lostFrom w) = P (s.lostDeclared w) := by
  rw [lostFrom, updWatch_eq]
  exact (hP _ _).trans (hP _ _)
theorem lostFrom_rd {f : Fld} : (s.lostFrom w).rd f = ((s.put PWR_SYNCSTAT_MLOST true).bump PWR_SYNCMISS_COUNT).rd f :=
  (lostFrom_part (·.rd f) fun _ _ => rfl).trans lostDeclared_rd
theorem lostFrom_fields : FieldsKept [PWR_SYNCSTAT_MLOST, PWR_SYNCMISS_COUNT] s (s.lostFrom w) :=
  fun f hf => lostFrom_rd.trans ((rd_bump_ne (hf _ (by simp))).trans (rd_put_ne (hf _ (by simp))))
theorem lostFrom_coll : (s.lostFrom w).coll = (s.report clClk 0xC40 1 13).coll :=
  (lostFrom_part (·.coll) fun _ _ => rfl).trans (report_congr (by simp) (by simp) (by simp))
theorem lostFrom_watchAt : (s.lostFrom w).bcast.watchAt = if (s.lostFrom w).watching then some (s.bcast.watchAt.getD s.time) else none := by
  have htime : (s.lostDeclared w).time = s.time := by simp [lostDeclared]
  rw [lostFrom, updWatch_watching, updWatch_eq, ← htime]
  rfl
theorem lostFrom_bcast : (s.lostFrom w).bcast = { installed s s.bcast with lostFor := some w, watchAt := (s.lostFrom w).bcast.watchAt } := by
  rw [← lostDeclared_installed (s := s) (w := w), lostFrom, updWatch_eq]
  rfl
theorem aside_lostFrom {regs : SMap Nat} {coll : Coll} {bcast : Bcast} : (s.lostFrom w).aside regs coll bcast = s.aside regs coll bcast :=
  (lostFrom_part (aside · regs coll bcast) fun _ _ => rfl).trans (by simp [lostDeclared])
/-- What the LOCK bits do not concern. -/
theorem unlockAll_part {α : Type} (P : State → α) (hP : ∀ (x : State) r, P { x with regs := r } = P x) : P s.unlockAll = P s :=
  (hP _ _).symm.trans (congrArg P unlockAll_rest)
theorem unlockAll_bcast : s.unlockAll.bcast = s.bcast := unlockAll_part (·.bcast) fun _ _ => rfl
theorem unlockAll_installed {b : Bcast} : installed s.unlockAll b = installed s b := by
  simp only [installed, on, unlockAll_offStat (f := PWR_SYNCCFG_MASTER) (by decide), unlockAll_offStat (f := PWR_SYNCCFG_FWD) (by decide),
    unlockAll_offStat (f := PWR_FRAME_VALUE) (by decide), unlockAll_offStat (f := PWR_SYNCCOMP_VALUE) (by decide)]
theorem lostFrom_lock : (s.lostFrom w).rd (CH_ESTAT_LOCK n) = s.rd (CH_ESTAT_LOCK n) :=
  lostFrom_fields _ fun g hg => by
    simp only [List.mem_cons, List.not_mem_nil, or_false] at hg
    rcases hg with rfl | rfl
    · exact (key_ne_lock (by decide)).symm
    · exact (key_ne_lock (by decide)).symm

/-! ### A mark that acts -/

/-- What hangs on the broadcast logic in nothing is as it was before a configuration comes into force. -/
theorem markBase_part {α : Type} (P : State → α) (hP : ∀ (x : State) b, P { x with bcast := b } = P x) : P s.markBase = P s := by
  unfold markBase
  split
  · rfl
  · rw [updWatch_eq]
    exact (hP _ _).trans (hP _ _)
theorem markBase_view {g : Bcast → Bcast} (hg : ∀ b, (g b).frame = b.frame) :
    (s.markBase.modBcast g).markView n = ((s.gen n, s.rd (CH_ESTAT_LOCK n)), s.markBase.markActs n, s.perF n) := by
  have hacts : (s.markBase.modBcast g).markActs n = s.markBase.markActs n := (markActs_congr (fun _ _ => modBcast_rd) (hg s.markBase.bcast) rfl).1
  have hgen : (s.markBase.modBcast g).gen n = s.gen n := markBase_part (·.gen n) fun _ _ => rfl
  have hrd : (s.markBase.modBcast g).rd (CH_ESTAT_LOCK n) = s.rd (CH_ESTAT_LOCK n) := markBase_part (·.rd (CH_ESTAT_LOCK n)) fun _ _ => rfl
  have hper : (s.markBase.modBcast g).perF n = s.perF n := markBase_part (·.perF n) fun _ _ => rfl
  rw [markView, hacts, hgen, hrd, hper]
theorem markView_cases {g : Gen} {l per : Nat} {a : Bool} {e : Int} (h : s.markView n = afterMark e ((g, l), a, per)) :
    (a = false → s.gen n = g ∧ s.rd (CH_ESTAT_LOCK n) = l) ∧
    (a = true → g.changing = true → s.gen n = g ∧ s.rd (CH_ESTAT_LOCK n) = 0) ∧
    (a = true → g.changing = false → s.gen n = { g with alignErr := markError e g per } ∧
      s.rd (CH_ESTAT_LOCK n) = if -1 ≤ markError e g per ∧ markError e g per ≤ 1 then 1 else 0) := by
  refine ⟨?_, ?_, ?_⟩
  · rintro rfl
    simp only [markView, afterMark, Prod.mk.injEq] at h
    exact h.1
  · rintro rfl hc
    simp only [markView, afterMark, hc, if_true, Prod.mk.injEq] at h
    exact h.1
  · rintro rfl hc
    rw [markView, afterMark, if_neg (by simp [hc])] at h
    exact ⟨congrArg (·.1.1) h, congrArg (·.1.2) h⟩
end State

/-- Settles O21: each clause is what one command does; a mark acts on each channel apart from the others (`markAll_view`). -/
theorem syncChainEvents : Obligations.SyncChainEvents := by
  unfold Obligations.SyncChainEvents
  refine fun s => ⟨fun rise width => ⟨fun hm => ?_, fun hm hnear hsome => ?_, fun hm hfar => ⟨fun h16 h24 => ?_, fun h64 h96 => ?_, fun hw => ?_⟩⟩,
    fun hm hf hdue hstay hlen => ?_, fun m rest n hdue hn => ?_, fun w hw hlong hnew => ?_⟩
  · exact ⟨_, State.synciPulse_master hm, State.rejectPulse_last, State.rejectPulse_count, State.rejectPulse_coll, State.rejectPulse_fields, State.rejectPulse_rest⟩
  · exact ⟨_, State.synciPulse_early hm hnear hsome, State.rejectPulse_last, State.rejectPulse_count, State.rejectPulse_coll, State.rejectPulse_fields, State.rejectPulse_rest⟩
  · refine ⟨_, State.synciPulse_mark hm hfar h16 h24, ?_, State.rd_put_same Nat.zero_lt_one, ?_, .put (by simp) (.wr (by simp) (.modBcast .refl)), ?_⟩
    · exact (State.rd_put_ne (by decide)).trans State.rd_wr_same
    · rw [State.put_bcast, State.wr_bcast]
      rfl
    · exact State.rest_of_aside (by simp)
  · refine ⟨_, State.synciPulse_sync hm hfar h64 h96, State.rd_wr_same, ?_, .wr (by simp) (.modBcast .refl), State.rest_of_aside (by simp)⟩
    rw [State.wr_bcast]
    rfl
  · refine ⟨_, State.synciPulse_other hm hfar hw, ?_⟩
    split
    · next hf =>
      exact ⟨State.emitPulse_rd.trans State.rejectPulse_last, State.emitPulse_rd.trans State.rejectPulse_count, State.emitPulse_coll.trans State.rejectPulse_coll,
        fun h => absurd hf.1 (by simp [h]), .modBcast State.rejectPulse_fields,
        (State.aside_modBcast (regs := s.regs) (coll := s.coll) (bcast := s.bcast)).trans State.aside_rejectPulse⟩
    · exact ⟨State.rejectPulse_last, State.rejectPulse_count, State.rejectPulse_coll, fun _ => rfl, State.rejectPulse_fields, State.aside_rejectPulse⟩
  · refine ⟨s.markEmitted, State.frameMarkEmit_sends hm hf hdue hstay hlen, State.rd_put_same Nat.zero_lt_one, ?_, ?_, State.markEmitted_fields, State.markEmitted_rest⟩
    · rw [State.markEmitted_bcast]
      have hmaster : s.on PWR_SYNCCFG_MASTER = s.bcast.master := by simp [State.on, hstay, hm]
      rw [hmaster]
    · rw [State.markEmitted_bcast]
  · intro u per d e
    have hkept : ∀ {α : Type} (P : State → α), (∀ (x : State) b, P { x with bcast := b } = P x) → P (s.markBase.modBcast fun b => { b with markDue := rest }) = P s :=
      fun P hP => (hP _ _).trans (State.markBase_part P hP)
    have hview := (State.markAll_view hn).trans (congrArg (State.afterMark m) (State.markBase_view (s := s) (n := n) (g := fun b => { b with markDue := rest }) fun _ => rfl))
    obtain ⟨hoff, hchange, hcorrect⟩ := State.markView_cases hview
    refine ⟨_, State.frameMark_acts hdue, ?_, hoff, hchange, hcorrect, ?_, ?_⟩
    · exact State.markAll_part (·.bcast) fun _ _ _ => rfl
    · exact (FieldsKept.same (hkept (·.regs) fun _ _ => rfl)).trans State.markAll_fields
    · exact (State.markAll_part (fun x : State => { x with regs := s.regs, gens := s.gens, bcast := s.bcast }) fun _ _ _ => rfl).trans
        (hkept (fun x : State => { x with regs := s.regs, gens := s.gens, bcast := s.bcast }) fun _ _ => rfl)
  · refine ⟨_, State.marksLost_declares hw hlong hnew, ?_, ?_, fun n hn => ?_, ?_, ?_, ?_, ?_, ?_⟩
    · rw [State.lostFrom_rd, State.rd_bump_ne (by decide), State.rd_put_same Nat.zero_lt_one]
      rfl
    · rw [State.lostFrom_rd, State.rd_bump_same, State.rd_put_ne (by decide), State.unlockAll_offStat (by decide)]
      rfl
    · rw [State.lostFrom_lock, State.unlockAll_lock hn]
    · exact State.lostFrom_coll.trans (State.report_congr (State.unlockAll_part (·.coll) fun _ _ => rfl) (State.unlockAll_part (·.time) fun _ _ => rfl)
        (State.unlockAll_part (·.devOfs) fun _ _ => rfl))
    · refine State.lostFrom_bcast.trans ?_
      rw [State.unlockAll_bcast, State.unlockAll_installed]
      rfl
    · rw [State.lostFrom_watchAt, State.unlockAll_bcast, hw, Option.getD_some]
    · exact .trans (.mono (fun g hg => by simp [hg]) State.unlockAll_fields) (.mono (fun g hg => by
        simp only [List.mem_cons, List.not_mem_nil, or_false] at hg
        rcases hg with rfl | rfl <;> simp) State.lostFrom_fields)
    · exact State.aside_lostFrom.trans (State.unlockAll_part (State.aside · s.regs s.coll s.bcast) fun _ _ => rfl)
end Sys2Proof.Machine
end

section
/-! Accepted writes of the edge-timing registers of a channel (R90, R96, R99, R100, R106, R108, R111, R115, R116, R121): what each leaves. -/
namespace Sys2Proof.Machine
open Sys2Proof.Safety

namespace State
variable {s t : State} {r : Requester} {reg : Reg} {f : Fld} {n m d v x : Nat}

/-! ### The gate-power budget (R89, R90) -/

/-- R89, R90: the die sum hangs on the fields, on what the application and protection stages hold, and on the resolutions in force. -/
theorem dieSum_congr (hrd : ∀ f, t.rd f = s.rd f) (hprot : ∀ m, t.prot m = s.prot m) (hres : ∀ m, (t.gen m).resF = (s.gen m).resF) : t.dieSum d = s.dieSum d := by
  have hhead : ∀ m, t.head m = s.head m := fun m => by simp only [head, topo, hrd] <;> rfl
  have hswitches : ∀ m v, t.switches m v = s.switches m v := fun m v => by
    simp only [switches, dutySwitches, dimN, setN, on, topo, hrd, hres, hhead, follows] <;> rfl
  have hever : ∀ m, t.everSwitches m = s.everSwitches m := fun m => by
    simp only [everSwitches, hswitches, hrd, hprot, hhead, seqDrives, slotKind, on, topo] <;> rfl
  have hmax : ∀ m, t.pMax m = s.pMax m := fun m => by
    simp only [pMax, hever, hswitches, hrd, hhead, gatePower, on, topo] <;> rfl
  simp only [dieSum, hmax]
theorem budgetOk_congr {s' t' : State} (hs : s'.dieSum d = s.dieSum d) (ht : t'.dieSum d = t.dieSum d) : s'.budgetOk t' d = s.budgetOk t d := by
  simp only [budgetOk, withinBudget, hs, ht]
/-- R12: words that are staged take no part in it. -/
theorem dieSum_staged {l : SMap (Option Nat)} : ({ s with staged := l } : State).dieSum d = s.dieSum d :=
  dieSum_congr (fun _ => rfl) (fun _ => rfl) fun _ => rfl
theorem budgetRefusal_gbud : (s.budgetRefusal n).rd (CH_FLT_GBUD n) = 1 := report_rd.trans (rd_raiseFlag_same Nat.zero_lt_one)
theorem budgetRefusal_coll : (s.budgetRefusal n).coll = (s.report clCfg (16 * n + 8) 1 (n / 48)).coll :=
  report_congr (s := s.raiseFlag (CH_FLT_GBUD n)) (t := s) rfl rfl rfl

/-! ### Timing that waits, and timing in force (R99, R108, R115) -/

/-- The configuration of the channels stands after a write at another place. -/
theorem powered_wr (h : f.addr % 0x400 ≠ 0) (hl : f.lo < 256) : (s.wr f v).powered n = s.powered n := by
  have hcfg : ∀ k lo width acc reset, lo < 256 → (s.wr f v).rd ⟨chAddr k + 0x000, lo, width, acc, reset⟩ = s.rd ⟨chAddr k + 0x000, lo, width, acc, reset⟩ :=
    fun k lo width acc reset hlo => rd_wr_ne (key_ne_of_addr (by simp only [chAddr]; omega) hlo hl)
  have htopo : ∀ k, (s.wr f v).topo k = s.topo k := fun k => hcfg k _ _ _ _ (by omega)
  have hpair : ∀ k, (s.wr f v).rd (CH_CFG_HBPAIR k) = s.rd (CH_CFG_HBPAIR k) := fun k => hcfg k _ _ _ _ (by omega)
  have hen : ∀ k, (s.wr f v).rd (CH_CFG_EN k) = s.rd (CH_CFG_EN k) := fun k => hcfg k _ _ _ _ (by omega)
  have hhead : (s.wr f v).head n = s.head n := by
    rw [head, hpair, htopo, htopo]
    rfl
  simp only [powered, follows, on, htopo, hhead, hen, wr_prot]
theorem timingPending_on (h : s.powered n = true) : s.timingPending n = s.put (CH_ESTAT_PEND n) true := by
  rw [timingPending, if_pos h]
/-- R108: a change of the period or of the resolution clears the residue. -/
def residueCleared (s : State) (n : Nat) : State :=
  if s.rd (CH_PER_PER n) != (s.gen n).perF || s.rd (CH_DIM_RES n) != (s.gen n).resF then s.wr (CH_DRES_RESIDUE n) 0 else s
/-- R99, R115: what a channel that is off puts in force at once, before its applied value follows. -/
def timingForced (s : State) (n : Nat) : State :=
  (s.residueCleared n).modGen n fun g =>
    { g with perF := (s.residueCleared n).rd (CH_PER_PER n), phaseF := (s.residueCleared n).rd (CH_PHASE_PHASE n), resF := (s.residueCleared n).rd (CH_DIM_RES n),
             chipRestart := g.chipRestart || s.rd (CH_PER_PER n) != (s.gen n).perF }
theorem timingPending_off (h : s.powered n = false) : s.timingPending n = (s.timingForced n).reclamp n := by
  rw [timingPending, if_neg (by simp [h])]
  rfl
theorem residueCleared_fields : FieldsKept [CH_DRES_RESIDUE n] s (s.residueCleared n) := .ite (.wr (by simp) .refl) .refl
theorem residueCleared_gen : (s.residueCleared n).gen m = s.gen m := by
  unfold residueCleared
  split
  · rfl
  · rfl
/-- The fields that timing put in force at once writes. -/
def forcedFields (n : Nat) : List Fld := CH_DRES_RESIDUE n :: applFields n
theorem timingPending_off_fields (h : s.powered n = false) : FieldsKept (forcedFields n) s (s.timingPending n) := by
  rw [timingPending_off h]
  exact (FieldsKept.mono (fun g hg => by simp [forcedFields, List.mem_singleton.1 hg]) (.modGen residueCleared_fields)).trans
    (.mono (fun g hg => by simp [forcedFields, hg]) reclamp_fields)
theorem timingPending_off_gen (h : s.powered n = false) (hm : m ≠ n) : (s.timingPending n).gen m = s.gen m := by
  rw [timingPending_off h, reclamp_gen hm, timingForced, gen_modGen, if_neg hm, residueCleared_gen]
/-- R62: to note a reference of 0 leaves the period in force. -/
theorem seeRef_perF : ((s.seeRef n).gen n).perF = (s.gen n).perF := by
  unfold seeRef
  split
  · simp
  · rfl
theorem setAppl_perF {x : Nat} : ((s.setAppl n x).gen n).perF = (s.gen n).perF := by
  unfold setAppl
  extract_lets y0 y1 y y2
  have h0 : y0.gens = s.gens := clampDouble_gens
  clear_value y0
  have h2 : y2.gens = s.gens := by
    unfold y2
    split
    · rw [modProt_gens, h0]
    · split
      · exact h0
      · rw [modeDisagree_gens, raiseFlag_gens, modProt_gens, h0]
  clear_value y2
  rw [updExp_gen, seeRef_perF, wr_gen, gen, h2]
  rfl
theorem reclamp_perF : ((s.reclamp n).gen n).perF = (s.gen n).perF := by
  unfold reclamp
  split
  · rw [updExp_gen, dropCloop_gen]
  · rw [refreshAppl, setAppl_perF, dropCloop_gen]
theorem timingPending_off_perF (h : s.powered n = false) : ((s.timingPending n).gen n).perF = s.rd (CH_PER_PER n) := by
  have hper : (s.residueCleared n).rd (CH_PER_PER n) = s.rd (CH_PER_PER n) :=
    residueCleared_fields _ fun g hg => by
      rw [List.mem_singleton.1 hg]
      exact key_ne_of_addr (by simp [CH_PER_PER, CH_DRES_RESIDUE]) (by simp [CH_PER_PER]) (by simp [CH_DRES_RESIDUE])
  rw [timingPending_off h, reclamp_perF, timingForced, gen_modGen, if_pos rfl, seenGates_perF, hper]
theorem timingPending_off_memories (h : s.powered n = false) : MemoriesKept s (s.timingPending n) := by
  have hrest : chanlessColl (s.timingPending n) = chanlessColl s := by
    rw [timingPending_off h, chanlessColl_reclamp]
    unfold timingForced residueCleared
    split
    · rfl
    · rfl
  exact (chanlessColl_kept hrest).1

/-! ### CHn_PER (R90, R96) and CHn_PHASE (R116) -/

theorem of_low {w : Nat} (hl : f.lo = 0) (hw : f.width = w) (hv : v < 2 ^ w) : f.of v = v := by
  rw [Fld.of, hl, hw, bits_low, Nat.mod_eq_of_lt hv]
/-- R96, R99, R100, R116: the timing rules for a period. -/
def perAllowed (s : State) (n v : Nat) : Bool :=
  perOk (s.topo n) v && decide ((s.gen n).phaseF < v) && decide (s.rd (CH_PHASE_PHASE n) < v) &&
    quarterOk v (s.rd (CH_MINH_VALUE n)) (s.rd (CH_DTF_VALUE n)) (s.rd (CH_MINL_VALUE n)) (s.rd (CH_DTR_VALUE n))
theorem writePer_eq (hv : v < 2 ^ 24) : s.writePer n v = if s.perAllowed n v then
    (if s.budgetOk (s.wr (CH_PER_PER n) v) (n / 48) then (s.wr (CH_PER_PER n) v).timingPending n else s.budgetRefusal n) else s.timingRefusal n 0x100 := by
  simp only [writePer, perAllowed, of_low (f := CH_PER_PER n) rfl rfl hv, Bool.and_eq_true, decide_eq_true_eq, and_assoc]
/-- R12: an accepted write of a register of two words uses the staged word up. -/
theorem unstage_staged : ∃ l, s.unstage r reg = { s with staged := l } :=
  ⟨(s.unstage r reg).staged, (congrArg (fun t : State => { t with staged := (s.unstage r reg).staged }) (unstage_rest (s := s) (r := r) (reg := reg)))⟩
theorem command_per (h : Accepts s r (CH_PER n) v) : ∃ l, s.command r (CH_PER n) v = ({ s with staged := l } : State).writePer n v := by
  obtain ⟨l, hl⟩ := unstage_staged (s := s) (r := r) (reg := CH_PER n)
  exact ⟨l, by rw [command_accepts h, hl]; rfl⟩
theorem command_phase (h : Accepts s r (CH_PHASE n) v) : ∃ l, s.command r (CH_PHASE n) v = ({ s with staged := l } : State).writePhase n v := by
  obtain ⟨l, hl⟩ := unstage_staged (s := s) (r := r) (reg := CH_PHASE n)
  exact ⟨l, by rw [command_accepts h, hl]; rfl⟩
end State
end Sys2Proof.Machine
end

section
/-! The statement on the edge-timing registers (R90 to R121). -/
namespace Sys2Proof.Machine
open Sys2Proof.Safety

/-! ### The commands -/

theorem exec_perWrite {s : State} {r : Requester} {n : Fin 192} {v : BitVec 24} : exec (.perWrite r n v) s = .next (s.command r (CH_PER n) v.toNat) := rfl
theorem exec_dimWrite {s : State} {r : Requester} {n : Fin 192} {w : Word} : exec (.dimWrite r n w) s = .next (s.command r (CH_DIM n) w.toNat) := rfl
theorem exec_phaseWrite {s : State} {r : Requester} {n : Fin 192} {v : BitVec 24} : exec (.phaseWrite r n v) s = .next (s.command r (CH_PHASE n) v.toNat) := rfl
theorem exec_edgeTimingWrite {s : State} {r : Requester} {n : Fin 192} {i : Fin 4} {w : Word} :
    exec (.edgeTimingWrite r n i w) s = .next (s.command r ([CH_DTR n, CH_DTF n, CH_MINH n, CH_MINL n][i]) w.toNat) := by
  fin_cases i <;> rfl
theorem exec_alignWrite {s : State} {r : Requester} {n : Fin 192} {align : Bool} :
    exec (.alignWrite r n align) s = .next (s.commandField r (CH_ALN n) (CH_ALN_ALIGN n) align.toNat) := rfl
theorem exec_codeWrite {s : State} {r : Requester} {n : Fin 192} {w : Word} : exec (.codeWrite r n w) s = .next (s.command r (CH_CODE n) w.toNat) := rfl
theorem exec_cidxWrite {s : State} {r : Requester} {n : Fin 192} {w : Word} : exec (.cidxWrite r n w) s = .next (s.command r (CH_CIDX n) w.toNat) := rfl
theorem exec_cclr {s : State} {r : Requester} {n : Fin 192} : exec (.cclr r n) s = .next (s.command r (CH_ECMD n) 1) := rfl
theorem exec_rclr {s : State} {r : Requester} {n : Fin 192} : exec (.rclr r n) s = .next (s.command r (CH_ECMD n) 2) := rfl

namespace State
variable {s : State} {r : Requester} {f : Fld} {n m v : Nat}

theorem command_dim (h : Accepts s r (CH_DIM n) v) : s.command r (CH_DIM n) v = s.writeDim n v := command_accepts_one rfl h
theorem command_aln (h : Accepts s r (CH_ALN n) v) : s.command r (CH_ALN n) v = s.writeAln n v := command_accepts_one rfl h
theorem command_code (h : Accepts s r (CH_CODE n) v) : s.command r (CH_CODE n) v = s.writeCode n v := command_accepts_one rfl h
theorem command_cidx (h : Accepts s r (CH_CIDX n) v) : s.command r (CH_CIDX n) v = s.writeCidx n v := command_accepts_one rfl h
theorem command_ecmd (h : Accepts s r (CH_ECMD n) v) : s.command r (CH_ECMD n) v = s.writeEcmd n v := command_accepts_one rfl h

/-! ### CHn_PER (R90, R96) -/

theorem budgetOk_staged {l : SMap (Option Nat)} : ({ s with staged := l } : State).budgetOk (({ s with staged := l } : State).wr f v) m = s.budgetOk (s.wr f v) m :=
  budgetOk_congr dieSum_staged (dieSum_staged (s := s.wr f v))
theorem command_per_eq (h : Accepts s r (CH_PER n) v) (hv : v < 2 ^ 24) : ∃ l, s.command r (CH_PER n) v =
    if s.perAllowed n v then
      (if s.budgetOk (s.wr (CH_PER_PER n) v) (n / 48) then (({ s with staged := l } : State).wr (CH_PER_PER n) v).timingPending n
       else ({ s with staged := l } : State).budgetRefusal n)
    else ({ s with staged := l } : State).timingRefusal n 0x100 := by
  obtain ⟨l, hl⟩ := command_per h
  have hallowed : ({ s with staged := l } : State).perAllowed n v = s.perAllowed n v := rfl
  exact ⟨l, by rw [hl, writePer_eq hv, hallowed, budgetOk_staged]⟩
/-- R96, R100, R116, R121: what a refusal under the timing rules reports. -/
theorem timingRefusal_coll {off : Nat} {l : SMap (Option Nat)} : (({ s with staged := l } : State).timingRefusal n off).coll = (s.timingRefusal n off).coll :=
  report_congr rfl rfl rfl

/-! ### CHn_DIM (R99, R106) -/

theorem rd_wr_of : (s.wr f (f.of v)).rd f = f.of v := rd_wr_same.trans (Nat.mod_mod _ _)
/-- The fields of CHn_DIM after a write. -/
def dimStored (s : State) (n v : Nat) : State :=
  if (CH_DIM_RES n).of v = s.rd (CH_DIM_RES n) then s.wr (CH_DIM_MPM n) ((CH_DIM_MPM n).of v)
  else ((s.wr (CH_DIM_MPM n) ((CH_DIM_MPM n).of v)).wr (CH_DIM_RES n) ((CH_DIM_RES n).of v)).put (CH_ESTAT_PEND n) true
theorem dim_keys : (CH_DIM_RES n).key ≠ (CH_DIM_MPM n).key ∧ (CH_DIM_RES n).key ≠ (CH_ESTAT_PEND n).key ∧ (CH_DIM_MPM n).key ≠ (CH_ESTAT_PEND n).key := by
  simp only [Fld.key, CH_DIM_RES, CH_DIM_MPM, CH_ESTAT_PEND]
  omega
theorem dimStored_rd : (s.dimStored n v).rd (CH_DIM_RES n) = (CH_DIM_RES n).of v ∧ (s.dimStored n v).rd (CH_DIM_MPM n) = (CH_DIM_MPM n).of v ∧
    (s.dimStored n v).rd (CH_ESTAT_PEND n) = if (CH_DIM_RES n).of v = s.rd (CH_DIM_RES n) then s.rd (CH_ESTAT_PEND n) else 1 := by
  obtain ⟨hrm, hrp, hmp⟩ := dim_keys (n := n)
  unfold dimStored
  split
  · next heq => exact ⟨(rd_wr_ne hrm).trans heq.symm, rd_wr_of, rd_wr_ne hmp.symm⟩
  · exact ⟨(rd_put_ne hrp).trans rd_wr_of, (rd_put_ne hmp).trans ((rd_wr_ne hrm.symm).trans rd_wr_of), rd_put_same Nat.zero_lt_one⟩
theorem dimStored_fields : FieldsKept [CH_DIM_RES n, CH_DIM_MPM n, CH_ESTAT_PEND n] s (s.dimStored n v) :=
  .ite (.wr (by simp) .refl) (.put (by simp) (.wr (by simp) (.wr (by simp) .refl)))
theorem dimStored_rest : { s.dimStored n v with regs := s.regs } = s := by
  unfold dimStored
  split
  · simp
  · simp
theorem writeDim_accepted (hres : (CH_DIM_RES n).of v ≤ 8) (hmpm : (CH_DIM_MPM n).of v ≠ 3) (hp : s.powered n = true)
    (hb : (s.wr (CH_DIM_MPM n) ((CH_DIM_MPM n).of v)).budgetOk ((s.wr (CH_DIM_MPM n) ((CH_DIM_MPM n).of v)).wr (CH_DIM_RES n) ((CH_DIM_RES n).of v)) (n / 48) = true) :
    s.writeDim n v = s.dimStored n v := by
  have hsame : (s.wr (CH_DIM_MPM n) ((CH_DIM_MPM n).of v)).rd (CH_DIM_RES n) = s.rd (CH_DIM_RES n) :=
    rd_wr_ne (by simp [Fld.key, CH_DIM_RES, CH_DIM_MPM])
  have hpow : ((s.wr (CH_DIM_MPM n) ((CH_DIM_MPM n).of v)).wr (CH_DIM_RES n) ((CH_DIM_RES n).of v)).powered n = true := by
    rw [powered_wr (by simp only [CH_DIM_RES, chAddr]; omega) (by simp [CH_DIM_RES]), powered_wr (by simp only [CH_DIM_MPM, chAddr]; omega) (by simp [CH_DIM_MPM]), hp]
  simp only [writeDim, hmpm, if_false, hsame, if_neg (by omega : ¬8 < (CH_DIM_RES n).of v), hb, if_true, timingPending_on hpow]
  rfl

/-! ### CHn_CODE and CHn_CIDX (R111, R115) -/

/-- The fields of CHn_CODE after a write. -/
def codeStored (s : State) (n v : Nat) : State :=
  ((s.wr (CH_CODE_EN n) ((CH_CODE_EN n).of v)).wr (CH_CODE_CHIPR n) ((CH_CODE_CHIPR n).of v)).wr (CH_CODE_DEPTH n) ((CH_CODE_DEPTH n).of v)
/-- R115: a write that starts the code, or changes its chip rate, restarts it. -/
def codeRestarts (s : State) (n v : Nat) : Bool :=
  ((CH_CODE_EN n).of v == 1 && !s.on (CH_CODE_EN n)) || (CH_CODE_CHIPR n).of v != s.rd (CH_CODE_CHIPR n)
theorem code_keys : (CH_CODE n).fields.Pairwise fun a b => a.key ≠ b.key := by
  simp [CH_CODE, Fld.key, CH_CODE_EN, CH_CODE_CHIPR, CH_CODE_DEPTH]
theorem codeStored_rd (hf : f ∈ (CH_CODE n).fields) : (s.codeStored n v).rd f = f.of v :=
  foldl_fields (s := s) (op := fun t g => t.wr g (g.of v)) (G := fun _ => f.of v) (fun _ _ _ h => rd_wr_ne h) code_keys hf fun _ => rd_wr_of
theorem codeStored_fields : FieldsKept (CH_CODE n).fields s (s.codeStored n v) :=
  .wr (by simp [CH_CODE]) (.wr (by simp [CH_CODE]) (.wr (by simp [CH_CODE]) .refl))
/-- R115: chip 0 comes anew at the next capture point. -/
def chipsRestarted (s : State) (n : Nat) : State := s.modGen n fun g => { g with chipRestart := true }
theorem chipsRestarted_gen : ((s.chipsRestarted n).gen n).chipRestart = true ∧ ElseSame (s.chipsRestarted n).gen s.gen n := by
  refine ⟨?_, fun m hm => ?_⟩
  · rw [chipsRestarted, gen_modGen, if_pos rfl, seenGates_chipRestart]
  · rw [chipsRestarted, gen_modGen, if_neg hm]
theorem chipsRestarted_rest : { (s.wr f v).chipsRestarted n with regs := s.regs, gens := s.gens } = s := by simp [chipsRestarted]
/-- CHn_CODE and the restart that its write asks for. -/
def codeWritten (s : State) (n v : Nat) : State := if s.codeRestarts n v then (s.codeStored n v).chipsRestarted n else s.codeStored n v
theorem codeWritten_rd : (s.codeWritten n v).rd f = (s.codeStored n v).rd f := by
  unfold codeWritten
  split
  · rfl
  · rfl
theorem codeWritten_chipRestart : ((s.codeWritten n v).gen n).chipRestart = ((s.gen n).chipRestart || s.codeRestarts n v) := by
  unfold codeWritten
  cases s.codeRestarts n v
  case true =>
    rw [if_pos rfl, Bool.or_true]
    exact chipsRestarted_gen.1
  case false =>
    rw [if_neg (by decide), Bool.or_false]
    rfl
theorem codeWritten_gen : ElseSame (s.codeWritten n v).gen s.gen n := by
  unfold codeWritten
  split
  · exact chipsRestarted_gen.2
  · exact fun _ _ => rfl
theorem codeWritten_rest : { s.codeWritten n v with regs := s.regs, gens := s.gens } = s := by
  unfold codeWritten chipsRestarted codeStored
  split
  · simp
  · simp
theorem writeCode_accepted (hr : (CH_CODE_CHIPR n).of v ≠ 3) (hb : s.budgetOk (s.codeStored n v) (n / 48) = true) :
    s.writeCode n v = s.codeWritten n v := by
  have hb' : s.budgetOk (s.codeWritten n v) (n / 48) = true := by
    refine (budgetOk_congr rfl ?_).trans hb
    unfold codeWritten
    split
    · refine dieSum_congr (fun _ => rfl) (fun _ => rfl) fun m => ?_
      rw [chipsRestarted, gen_modGen]
      split
      · next hm => rw [hm, seenGates_resF]
      · rfl
    · rfl
  unfold writeCode
  extract_lets en rate restart t0 t1 t2
  have ht : t2 = s.codeWritten n v := if_neg hr
  rw [ht]
  exact if_pos hb'

/-- R111: CHn_CIDX has 11 bits. -/
theorem cidx_lt (h : Accepts s r (CH_CIDX n) v) : v < 2 ^ 11 := by
  have hdef : (CH_CIDX n).defined 0 11 = false := by simp [Reg.defined, CH_CIDX, CH_CIDX_IDX]
  have hset := h.defined 0 Nat.zero_lt_one
  have hfits : v < 4096 := h.fits
  simp only [Reg.reservedSet, List.any_eq_false, List.mem_range] at hset
  have hbit := hset 11 (by omega)
  rw [hdef, bits_low, Nat.mod_eq_of_lt (show v < 2 ^ 12 from hfits), Nat.testBit_eq_decide_div_mod_eq] at hbit
  simp only [Bool.not_false, Bool.and_true, decide_eq_true_eq] at hbit
  omega
theorem writeCidx_stored (h : v ≤ 1024) : s.writeCidx n v = (s.wr (CH_CIDX_IDX n) v).chipsRestarted n := by
  rw [writeCidx, of_low (w := 11) rfl rfl (by omega), if_neg (by omega)]
  rfl
theorem writeCidx_refused (hv : v < 2 ^ 11) (h : 1024 < v) : s.writeCidx n v = s.flag (chAddr n + 0x10D) 1 2 := by
  rw [writeCidx, of_low (w := 11) rfl rfl hv, if_pos h]

/-! ### CHn_ECMD (R108, R110) -/

/-- R110: the four correction counts. -/
def counts (n : Nat) : List Fld := [CH_SUPC_COUNT n, CH_STRC_COUNT n, CH_DITC_COUNT n, CH_BLKC_COUNT n]
theorem writeEcmd_cclr : s.writeEcmd n 1 = s.clear (counts n) := by
  have hc : (CH_ECMD_CCLR n).of 1 = 1 := by simp [Fld.of, bits, CH_ECMD_CCLR]
  have hr : (CH_ECMD_RCLR n).of 1 = 0 := by simp [Fld.of, bits, CH_ECMD_RCLR]
  simp only [writeEcmd, hc, hr, if_true, if_neg Nat.zero_ne_one]
  rfl
theorem writeEcmd_rclr : s.writeEcmd n 2 = s.modGen n fun g => { g with rclr := true } := by
  have hc : (CH_ECMD_CCLR n).of 2 = 0 := by simp [Fld.of, bits, CH_ECMD_CCLR]
  have hr : (CH_ECMD_RCLR n).of 2 = 1 := by simp [Fld.of, bits, CH_ECMD_RCLR]
  simp only [writeEcmd, hc, hr, if_true, if_neg Nat.zero_ne_one]
theorem counts_keys : (counts n).Pairwise fun a b => a.key ≠ b.key := by
  simp [counts, Fld.key, CH_SUPC_COUNT, CH_STRC_COUNT, CH_DITC_COUNT, CH_BLKC_COUNT]
theorem clear_counts_rd (hf : f ∈ counts n) : (s.clear (counts n)).rd f = 0 := by
  refine (foldl_fields (s := s) (op := fun t g => t.wr g g.reset) (G := fun _ => f.reset % 2 ^ f.width) (fun _ _ _ h => rd_wr_ne h) counts_keys hf fun _ => rd_wr_same).trans ?_
  simp only [counts, List.mem_cons, List.not_mem_nil, or_false] at hf
  rcases hf with rfl | rfl | rfl | rfl <;> rfl
theorem clear_fields {fs : List Fld} : FieldsKept fs s (s.clear fs) := fun _ hg => foldl_fields_ne (fun _ _ _ h => rd_wr_ne h) hg
theorem clear_rest {fs : List Fld} : { s.clear fs with regs := s.regs } = s :=
  foldl_same (s := s) (fs := fs) (op := fun t f => t.wr f f.reset) (fun t : State => { t with regs := s.regs }) fun _ _ => rfl

/-! ### CHn_ALN (R121, R122) -/

theorem align_of_into {x : Bool} : (CH_ALN_ALIGN n).of ((CH_ALN_ALIGN n).into x.toNat (s.held (CH_ALN n))) = x.toNat := by
  have hh : s.held (CH_ALN n) < 2 := by
    have : s.rd (CH_ALN_ALIGN n) < 2 := rd_lt
    simpa [held, CH_ALN, CH_ALN_ALIGN] using this
  have := Bool.toNat_lt x
  simp only [Fld.of, Fld.into, CH_ALN_ALIGN, bits_low]
  omega
theorem command_aln_stored {x : Bool} (h : AcceptsField s r (CH_ALN n) (CH_ALN_ALIGN n) x.toNat) (hx : x = false ∨ s.rd PWR_FRAME_VALUE * 4000 % s.rd (CH_PER_PER n) = 0) :
    s.commandField r (CH_ALN n) (CH_ALN_ALIGN n) x.toNat = (s.wr (CH_ALN_ALIGN n) x.toNat).updWatch := by
  rw [commandField, command_aln h, writeAln, align_of_into, if_neg]
  rintro ⟨hone, hmul⟩
  rcases hx with rfl | hx
  · exact absurd hone Nat.zero_ne_one
  · exact hmul hx
theorem command_aln_refused (h : AcceptsField s r (CH_ALN n) (CH_ALN_ALIGN n) true.toNat) (hmul : s.rd PWR_FRAME_VALUE * 4000 % s.rd (CH_PER_PER n) ≠ 0) :
    s.commandField r (CH_ALN n) (CH_ALN_ALIGN n) true.toNat = s.timingRefusal n 0x10A := by
  rw [commandField, command_aln h, writeAln, align_of_into, if_pos ⟨rfl, hmul⟩]
/-- What the watch for marks does not concern stands. -/
theorem updWatch_part {α : Type} (P : State → α) (hP : ∀ (x : State) b, P { x with bcast := b } = P x) : P s.updWatch = P s := by
  rw [updWatch_eq]
  exact hP _ _
theorem updWatch_bcast : s.updWatch.bcast = { s.bcast with watchAt := if s.updWatch.watching then some (s.bcast.watchAt.getD s.time) else none } := by
  rw [updWatch_watching, updWatch_eq]
  rfl

/-! ### The four edge times (R100) -/

/-- R100: the registers of the edge times, by their number in EDGE_TIMING_WRITE. -/
def edgeReg (n : Nat) (i : Fin 4) : Reg := [CH_DTR n, CH_DTF n, CH_MINH n, CH_MINL n][i]
/-- R100: the value each of them holds. -/
def edgeFld (n : Nat) (i : Fin 4) : Fld := [CH_DTR_VALUE n, CH_DTF_VALUE n, CH_MINH_VALUE n, CH_MINL_VALUE n][i]
theorem edgeFld_shape {i : Fin 4} : (edgeFld n i).addr = chAddr n + 0x103 + i ∧ (edgeFld n i).lo = 0 ∧ (edgeFld n i).width = 12 := by
  fin_cases i <;> exact ⟨rfl, rfl, rfl⟩
theorem command_edge {i : Fin 4} (h : Accepts s r (edgeReg n i) v) : s.command r (edgeReg n i) v = s.writeEdge n (edgeFld n i) v := by
  fin_cases i <;> exact command_accepts_one rfl h
/-- R100: the quarter-period rule for the edge times held. -/
def quarterHeld (s u : State) (n : Nat) : Bool :=
  quarterOk (s.rd (CH_PER_PER n)) (u.rd (CH_MINH_VALUE n)) (u.rd (CH_DTF_VALUE n)) (u.rd (CH_MINL_VALUE n)) (u.rd (CH_DTR_VALUE n))
theorem edgeFld_of {i : Fin 4} (hv : v < 2 ^ 12) : (edgeFld n i).of v = v := by
  obtain ⟨-, hlo, hwidth⟩ := edgeFld_shape (n := n) (i := i)
  exact of_low hlo hwidth hv
theorem writeEdge_eq {i : Fin 4} (hv : v < 2 ^ 12) : s.writeEdge n (edgeFld n i) v =
    if s.quarterHeld (s.wr (edgeFld n i) v) n then s.wr (edgeFld n i) v else s.timingRefusal n ((edgeFld n i).addr - chAddr n) := by
  obtain ⟨haddr, hlo, -⟩ := edgeFld_shape (n := n) (i := i)
  have hper : (s.wr (edgeFld n i) v).rd (CH_PER_PER n) = s.rd (CH_PER_PER n) :=
    rd_wr_ne (key_ne_of_addr (by rw [haddr]; simp only [CH_PER_PER]; omega) (by simp [CH_PER_PER]) (by rw [hlo]; decide))
  simp only [writeEdge, edgeFld_of hv, hper]
  rfl
theorem rd_wr_edge {i : Fin 4} (hv : v < 2 ^ 12) : (s.wr (edgeFld n i) v).rd (edgeFld n i) = v := by
  obtain ⟨-, -, hwidth⟩ := edgeFld_shape (n := n) (i := i)
  rw [rd_wr_same, hwidth, Nat.mod_eq_of_lt hv]

/-! ### CHn_PHASE (R116) -/

theorem command_phase_eq (h : Accepts s r (CH_PHASE n) v) (hv : v < 2 ^ 24) : ∃ l, s.command r (CH_PHASE n) v =
    if v < s.rd (CH_PER_PER n) then (({ s with staged := l } : State).wr (CH_PHASE_PHASE n) v).timingPending n
    else ({ s with staged := l } : State).timingRefusal n 0x108 := by
  obtain ⟨l, hl⟩ := command_phase h
  have hper : ({ s with staged := l } : State).rd (CH_PER_PER n) = s.rd (CH_PER_PER n) := rfl
  exact ⟨l, by rw [hl, writePhase, of_low rfl rfl hv, hper]⟩

/-! ### A write that waits, a write in force at once, a refusal -/

/-- R99, R115: on an enabled channel the value is stored and waits for the capture point. -/
theorem stored_waits {l : SMap (Option Nat)} (hp : s.powered n = true) (haddr : f.addr % 0x400 ≠ 0) (hlo : f.lo < 256) :
    (({ s with staged := l } : State).wr f v).timingPending n = (({ s with staged := l } : State).wr f v).put (CH_ESTAT_PEND n) true :=
  timingPending_on ((powered_wr haddr hlo).trans hp)
section
variable {l : SMap (Option Nat)} {w : Nat} {b : Bool} {off : Nat}
theorem stored_waits_rd (hne : f.key ≠ (CH_ESTAT_PEND n).key) (hw : f.width = w) (hv : v < 2 ^ w) :
    ((({ s with staged := l } : State).wr f v).put (CH_ESTAT_PEND n) true).rd f = v := by
  rw [rd_put_ne hne, rd_wr_same, hw, Nat.mod_eq_of_lt hv]
theorem stored_waits_fields : FieldsKept [f, CH_ESTAT_PEND n] s ((({ s with staged := l } : State).wr f v).put (CH_ESTAT_PEND n) true) :=
  .put (by simp) (.wr (by simp) fun _ _ => rfl)
theorem stored_waits_rest : { (({ s with staged := l } : State).wr f v).put (CH_ESTAT_PEND n) true with regs := s.regs, staged := s.staged } = s := by simp
theorem staged_refusal_rest : { ({ s with staged := l } : State).timingRefusal n off with coll := s.coll, staged := s.staged } = s := by simp [timingRefusal]
theorem budgetRefusal_rest : { ({ s with staged := l } : State).budgetRefusal n with regs := s.regs, coll := s.coll, staged := s.staged, hwNow := s.hwNow } = s := by
  simp [budgetRefusal, raiseFlag]
theorem budgetRefusal_staged_fields : FieldsKept [CH_FLT_GBUD n] s (({ s with staged := l } : State).budgetRefusal n) :=
  .report fun f hf => rd_raiseFlag_ne (hf _ (by simp))
theorem timingRefusal_rest : { s.timingRefusal n off with coll := s.coll } = s := by simp [timingRefusal]
end
theorem forcedFields_apart : ∀ g ∈ forcedFields n, (CH_PER_PER n).key ≠ g.key ∧ (CH_ESTAT_PEND n).key ≠ g.key := by
  intro g hg
  simp only [forcedFields, applFields, proofFields, List.mem_append, List.mem_cons, List.not_mem_nil, or_false] at hg
  rcases hg with rfl | (rfl | rfl | rfl | rfl) | rfl | rfl | rfl <;>
  · simp only [Fld.key, CH_PER_PER, CH_ESTAT_PEND, CH_DRES_RESIDUE, CH_PVER_EXPLIT, CW_CVER_CVER, CH_PVER_STATE, CH_APPL_VALUE, CH_SHST_CLAMP, CH_SHST_DIS, CH_SHST_ACLOOP, chAddr, cwAddr]
    omega
section
variable {l : SMap (Option Nat)}
theorem stored_off_powered (hp : s.powered n = false) : (({ s with staged := l } : State).wr (CH_PER_PER n) v).powered n = false :=
  (powered_wr (by simp only [CH_PER_PER, chAddr]; omega) (by simp [CH_PER_PER])).trans hp
theorem stored_off_rd (hp : s.powered n = false) (hv : v < 2 ^ 24) : ((({ s with staged := l } : State).wr (CH_PER_PER n) v).timingPending n).rd (CH_PER_PER n) = v :=
  (timingPending_off_fields (stored_off_powered hp) _ fun g hg => (forcedFields_apart g hg).1).trans (rd_wr_same.trans (Nat.mod_eq_of_lt hv))
theorem stored_off_pend (hp : s.powered n = false) :
    ((({ s with staged := l } : State).wr (CH_PER_PER n) v).timingPending n).rd (CH_ESTAT_PEND n) = s.rd (CH_ESTAT_PEND n) :=
  (timingPending_off_fields (stored_off_powered hp) _ fun g hg => (forcedFields_apart g hg).2).trans
    (rd_wr_ne (key_ne_of_addr (by simp [CH_PER_PER, CH_ESTAT_PEND]) (by simp [CH_ESTAT_PEND]) (by simp [CH_PER_PER])))
theorem stored_off_perF (hp : s.powered n = false) (hv : v < 2 ^ 24) : (((({ s with staged := l } : State).wr (CH_PER_PER n) v).timingPending n).gen n).perF = v :=
  (timingPending_off_perF (stored_off_powered hp)).trans (rd_wr_same.trans (Nat.mod_eq_of_lt hv))
end

theorem modGen_rest {g : Gen → Gen} : { s.modGen n g with gens := s.gens } = s := by simp
theorem flag_rest {cls a b : Nat} : { s.flag cls a b with coll := s.coll } = s := by simp [flag]
end State

/-- Settles O18: what each write leaves is said by the register (`command_per_eq`, `timingPending_on`, `timingPending_off`, `writeEdge_eq`). -/
theorem edgeTimingRegisterWrites : Obligations.EdgeTimingRegisterWrites := by
  unfold Obligations.EdgeTimingRegisterWrites
  refine fun s r n => ⟨fun v h => ?_, fun w h hres hmpm hp hb => ?_, fun v h => ?_, fun i w => ?_, fun x h => ⟨fun hx => ?_, ?_⟩, fun w h hr hb => ?_,
    fun w h => ⟨fun hw => ?_, fun hw => ?_⟩, fun h => ?_, fun h => ?_⟩
  · obtain ⟨l, hl⟩ := State.command_per_eq h v.isLt
    refine ⟨fun (hok : s.perAllowed n v.toNat = true) hb hp => ?_, fun (hok : s.perAllowed n v.toNat = true) hb hp => ?_,
      fun (hok : s.perAllowed n v.toNat = true) hb => ?_, fun (hok : s.perAllowed n v.toNat = false) => ?_⟩
    · rw [if_pos hok, if_pos hb, State.stored_waits hp (by simp only [CH_PER_PER, chAddr]; omega) (by simp [CH_PER_PER])] at hl
      refine ⟨_, exec_perWrite.trans (congrArg _ hl), State.stored_waits_rd ?_ rfl v.isLt, State.rd_put_same Nat.zero_lt_one, State.stored_waits_fields, State.stored_waits_rest⟩
      exact key_ne_of_addr (by simp [CH_PER_PER, CH_ESTAT_PEND]) (by simp [CH_PER_PER]) (by simp [CH_ESTAT_PEND])
    · rw [if_pos hok, if_pos hb] at hl
      exact ⟨_, exec_perWrite.trans (congrArg _ hl), State.stored_off_rd hp v.isLt, State.stored_off_pend hp, State.stored_off_perF hp v.isLt,
        fun m hm => State.timingPending_off_gen (State.stored_off_powered hp) hm, State.timingPending_off_memories (State.stored_off_powered hp)⟩
    · rw [if_pos hok, if_neg (by simp [hb])] at hl
      exact ⟨_, exec_perWrite.trans (congrArg _ hl), State.budgetRefusal_gbud, State.budgetRefusal_coll, State.budgetRefusal_staged_fields, State.budgetRefusal_rest⟩
    · rw [if_neg (by simp [hok])] at hl
      exact ⟨_, exec_perWrite.trans (congrArg _ hl), State.timingRefusal_coll, State.staged_refusal_rest⟩
  · obtain ⟨hresolution, hmode, hpend⟩ := State.dimStored_rd (s := s) (n := n) (v := w.toNat)
    exact ⟨_, exec_dimWrite.trans (congrArg _ ((State.command_dim h).trans (State.writeDim_accepted hres hmpm hp hb))), hresolution, hmode, hpend,
      State.dimStored_fields, State.dimStored_rest⟩
  · obtain ⟨l, hl⟩ := State.command_phase_eq h v.isLt
    refine ⟨fun hlt hp => ?_, fun hge => ?_⟩
    · rw [if_pos hlt, State.stored_waits hp (by simp only [CH_PHASE_PHASE, chAddr]; omega) (by simp [CH_PHASE_PHASE])] at hl
      refine ⟨_, exec_phaseWrite.trans (congrArg _ hl), State.stored_waits_rd ?_ rfl v.isLt, State.rd_put_same Nat.zero_lt_one, State.stored_waits_fields, State.stored_waits_rest⟩
      exact key_ne_of_addr (by simp [CH_PHASE_PHASE, CH_ESTAT_PEND]) (by simp [CH_PHASE_PHASE]) (by simp [CH_ESTAT_PEND])
    · rw [if_neg (Nat.not_lt.2 hge)] at hl
      exact ⟨_, exec_phaseWrite.trans (congrArg _ hl), State.timingRefusal_coll, State.staged_refusal_rest⟩
  · intro reg f u h
    have hv : w.toNat < 2 ^ 12 := w.isLt
    have hw := (State.command_edge h).trans (State.writeEdge_eq hv)
    refine ⟨fun (hok : s.quarterHeld (s.wr (State.edgeFld n i) w.toNat) n = true) => ?_, fun (hok : s.quarterHeld (s.wr (State.edgeFld n i) w.toNat) n = false) => ?_⟩
    · rw [if_pos hok] at hw
      exact ⟨_, exec_edgeTimingWrite.trans (congrArg _ hw), State.rd_wr_edge hv, .wr (List.mem_singleton_self _) .refl, rfl⟩
    · rw [if_neg (by simp [hok])] at hw
      exact ⟨_, exec_edgeTimingWrite.trans (congrArg _ hw), rfl, State.timingRefusal_rest⟩
  · refine ⟨_, exec_alignWrite.trans (congrArg _ (State.command_aln_stored h hx)), ?_, ?_, State.updWatch_bcast, ?_⟩
    · rw [State.updWatch_part (·.rd _) fun _ _ => rfl, State.rd_wr_same]
      exact Nat.mod_eq_of_lt (Bool.toNat_lt x)
    · exact fun f hf => (State.updWatch_part (·.rd f) fun _ _ => rfl).trans (State.rd_wr_ne (hf _ (by simp)))
    · exact State.updWatch_part (fun t : State => { t with regs := s.regs, bcast := s.bcast }) fun _ _ => rfl
  · rintro rfl hmul
    exact ⟨_, exec_alignWrite.trans (congrArg _ (State.command_aln_refused h hmul)), rfl, State.timingRefusal_rest⟩
  · exact ⟨_, exec_codeWrite.trans (congrArg _ ((State.command_code h).trans (State.writeCode_accepted hr hb))), fun f hf => State.codeWritten_rd.trans (State.codeStored_rd hf),
      State.codeWritten_chipRestart.trans (Bool.or_assoc _ _ _).symm, fun f hf => State.codeWritten_rd.trans (State.codeStored_fields f hf), State.codeWritten_gen, State.codeWritten_rest⟩
  · have hwidth : w.toNat < 2 ^ 11 := State.cidx_lt h
    exact ⟨_, exec_cidxWrite.trans (congrArg _ ((State.command_cidx h).trans (State.writeCidx_stored hw))), State.rd_wr_same.trans (Nat.mod_eq_of_lt hwidth),
      State.chipsRestarted_gen.1, .modGen (.wr (by simp) .refl), State.chipsRestarted_gen.2, State.chipsRestarted_rest⟩
  · exact ⟨_, exec_cidxWrite.trans (congrArg _ ((State.command_cidx h).trans (State.writeCidx_refused (State.cidx_lt h) hw))), rfl, State.flag_rest⟩
  · exact ⟨_, exec_cclr.trans (congrArg _ ((State.command_ecmd h).trans State.writeEcmd_cclr)), fun _ hf => State.clear_counts_rd hf, State.clear_fields, State.clear_rest⟩
  · exact ⟨_, exec_rclr.trans (congrArg _ ((State.command_ecmd h).trans State.writeEcmd_rclr)), State.gen_modGen_gatesKept rfl rfl rfl,
      fun m hm => by rw [State.gen_modGen, if_neg hm], State.modGen_rest⟩
end Sys2Proof.Machine
end

section
/-! What the mirror link and the safety functions leave of the links: KSF's registers and connections, the partner's SOLO state and the lines
that are set (R288, R435, R458). -/
namespace Sys2Proof.Machine
open Sys2Proof.Safety

/-- The keys that the links hold: MIR_STAT.PSOLO, and the registers of KSF and above. -/
def LinkKey (k : Nat) : Prop := k = 0xD7000205 ∨ 0xD8000000 ≤ k
/-- Those, and the keys of the states of the functions. -/
def DemandKey (k : Nat) : Prop := LinkKey k ∨ (0xD129C000 ≤ k ∧ k < 0xD129D800 ∧ k % 256 = 0)
/-- A field with no such key that is no PWR_IPEND either. -/
def Away (K : Nat → Prop) (f : Fld) : Prop := ¬K f.key ∧ (f.key < 0xD4210000 ∨ 0xD4220000 ≤ f.key)
/-- The fields of the keys given and the connections are as they were, and no line is cleared. -/
structure KeptOn (K : Nat → Prop) (s t : State) : Prop where
  fields : ∀ f : Fld, K f.key → t.rd f = s.rd f
  lines  : ∀ q l, q < 256 → s.bit (PWR_IPEND_LINES q) l = true → t.bit (PWR_IPEND_LINES q) l = true
  conns  : t.conns = s.conns

variable {K : Nat → Prop} {s t u : State} {f : Fld} {w : List Fld}

theorem Away.of_low (h : f.key < 0xD1000000) : Away DemandKey f := by
  simp only [Away, DemandKey, LinkKey]
  omega
theorem Away.link (h : Away DemandKey f) : Away LinkKey f := ⟨fun hk => h.1 (.inl hk), h.2⟩

namespace KeptOn
theorem refl : KeptOn K s s := ⟨fun _ _ => rfl, fun _ _ _ h => h, rfl⟩
theorem trans (h : KeptOn K s t) (h' : KeptOn K t u) : KeptOn K s u :=
  ⟨fun f hf => (h'.fields f hf).trans (h.fields f hf), fun q l hq hl => h'.lines q l hq (h.lines q l hq hl), h'.conns.trans h.conns⟩
theorem link (h : KeptOn DemandKey s t) : KeptOn LinkKey s t := ⟨fun f hf => h.fields f (.inl hf), h.lines, h.conns⟩
/-- An operation whose fields are all away from the keys. -/
theorem of_fields (hw : ∀ g ∈ w, Away K g) (hf : FieldsKept w s t) (hc : t.conns = s.conns) : KeptOn K s t where
  fields f hk := hf f fun g hg e => (hw g hg).1 (e ▸ hk)
  lines q l hq hl := by
    rw [State.bit, hf _ fun g hg e => ?_]
    · exact hl
    · have := (hw g hg).2
      simp only [Fld.key, PWR_IPEND_LINES] at e this
      omega
  conns := hc
/-- An operation that leaves the registers and the connections alone. -/
theorem same (hr : t.regs = s.regs) (hc : t.conns = s.conns) : KeptOn K s t := of_fields (w := []) (fun _ h => absurd h List.not_mem_nil) (.same hr) hc
theorem wr {v : Nat} (hf : Away K f) (h : KeptOn K s t) : KeptOn K s (t.wr f v) :=
  h.trans (of_fields (w := [f]) (fun _ hg => List.mem_singleton.1 hg ▸ hf) (.wr (List.mem_singleton_self f) .refl) rfl)
theorem put {b : Bool} (hf : Away K f) (h : KeptOn K s t) : KeptOn K s (t.put f b) := h.wr hf
theorem hwWrite {v : Nat} (hf : Away K f) (h : KeptOn K s t) : KeptOn K s (t.hwWrite f v) := (h.wr hf).trans (same rfl rfl)
theorem report {c e v p : Nat} {d : List Nat} (h : KeptOn K s t) : KeptOn K s (t.report c e v p d) := h.trans (same rfl rfl)
theorem modGroup {n : Nat} {g : Group → Group} (h : KeptOn K s t) : KeptOn K s (t.modGroup n g) := h.trans (same rfl rfl)
theorem modFn {n : Nat} {g : Fn → Fn} (h : KeptOn K s t) : KeptOn K s (t.modFn n g) := h.trans (same rfl rfl)
theorem modTwin {n : Nat} {g : Twin → Twin} (h : KeptOn K s t) : KeptOn K s (t.modTwin n g) := h.trans (same rfl rfl)
theorem modEng {n : Nat} {g : Eng → Eng} (h : KeptOn K s t) : KeptOn K s (t.modEng n g) := h.trans (same rfl rfl)
theorem modCore {n : Nat} {g : Core → Core} (h : KeptOn K s t) : KeptOn K s (t.modCore n g) := h.trans (same rfl rfl)
theorem modPair {g : Pair → Pair} (h : KeptOn K s t) : KeptOn K s (t.modPair g) := h.trans (same rfl rfl)
theorem ite {c : Prop} [Decidable c] (h : KeptOn K s t) (h' : KeptOn K s u) : KeptOn K s (if c then t else u) := by
  split
  · exact h
  · exact h'
theorem foldl {α : Type} {o : List α} {op : State → α → State} (h : ∀ t x, x ∈ o → KeptOn K t (op t x)) : KeptOn K s (o.foldl op s) := by
  induction o generalizing s with
  | nil => exact refl
  | cons x r ih => exact (h s x List.mem_cons_self).trans (ih fun t y hy => h t y (List.mem_cons_of_mem _ hy))
theorem each {o : List Nat} {op : State → Nat → State} (h : ∀ t x, x ∈ o → KeptOn K t (op t x)) : KeptOn K s (s.each o op) := foldl h
end KeptOn

namespace State
variable {n m a g k d q e x : Nat}

/-! ### Interrupt lines -/

theorem bit_raise {l i : Nat} (hl : l < 9) (h : s.bit (PWR_IPEND_LINES k) i = true) : (s.raise q l).bit (PWR_IPEND_LINES k) i = true := by
  unfold raise
  split
  · exact h
  · change (s.putBit (PWR_IPEND_LINES q) l true).bit (PWR_IPEND_LINES k) i = true
    by_cases hk : k = q
    · subst hk
      rw [bit_putBit hl, h, ite_self]
    · rw [bit_putBit_ne, h]
      simp only [Fld.key, PWR_IPEND_LINES, ne_eq]
      omega
theorem raise_keptOn {l : Nat} (hq : q < 256) (hl : l < 9) : KeptOn DemandKey s (s.raise q l) where
  fields f hf := raise_fields f fun g hg => by
    obtain rfl := List.mem_singleton.1 hg
    simp only [DemandKey, LinkKey] at hf
    simp only [Fld.key, PWR_IPEND_LINES, ne_eq] at hf ⊢
    omega
  lines _ _ _ h := bit_raise hl h
  conns := by
    unfold raise
    split <;> rfl
theorem coreOf_lt (hd : d ≤ 1) (hg : g < 128) : s.coreOf g d < 256 := by
  unfold coreOf
  split
  · omega
  · omega
/-- The core that an entry routes its frames to. -/
theorem routed_lt : s.coreOf (s.rd (KSF_ALLOW_ITENG e)) (s.rd (KSF_ALLOW_ITCORE e)) < 256 :=
  coreOf_lt (Nat.le_of_lt_succ (rd_lt (f := KSF_ALLOW_ITCORE e))) (rd_lt (f := KSF_ALLOW_ITENG e))
theorem raisePair_keptOn : KeptOn DemandKey s s.raisePair := by
  unfold raisePair
  split
  · exact .ite (raise_keptOn routed_lt (by decide)) .refl
  · exact .refl

/-! ### The switch of an aspect, and the start of clusters -/

theorem start_away : ∀ f ∈ startFields, Away DemandKey f := by
  intro f hf
  simp only [startFields, List.mem_append, List.mem_flatMap, List.mem_map, List.mem_range, List.mem_cons, List.not_mem_nil, or_false] at hf
  rcases hf with ⟨k, hk, rfl | rfl | rfl⟩ | ⟨k, hk, rfl⟩ <;>
  · simp only [Away, DemandKey, LinkKey, Fld.key, PWR_CST_STATE, PWR_CST_FREQA, PWR_CST_CAUSE, SN_FNST_WAITRUN]
    omega
theorem load_away (hn : n < 192) : ∀ f ∈ loadFields n, Away DemandKey f := by
  intro f hf
  refine .of_low ?_
  obtain rfl | ⟨p, -, hk, hoff, hlo⟩ := load_places f hf
  · simp only [Fld.key, CW_CVER_CVER, cwAddr]
    omega
  · rw [hk]
    simp only [chAddr]
    omega
theorem switch_away : ∀ f ∈ switchFields, Away DemandKey f := by
  intro f hf
  simp only [switchFields, List.mem_append, List.mem_flatMap, List.mem_range] at hf
  rcases hf with (⟨n, hn, hf⟩ | hf) | ⟨i, hi, hf⟩
  · exact load_away (mem_channels.1 hn) f hf
  · exact start_away f hf
  · refine .of_low ?_
    obtain ⟨hlo, j, hj, haddr⟩ := car_addr f hf
    rw [Fld.key, haddr]
    omega
theorem conns_of_startAside (h : startAside t = startAside s) : t.conns = s.conns := by
  have hc := congrArg State.conns h
  exact hc
theorem conns_of_switchAside (h : switchAside t = switchAside s) : t.conns = s.conns := by
  have hc := congrArg State.conns h
  exact hc
theorem conns_of_chanlessColl (h : chanlessColl t = chanlessColl s) : t.conns = s.conns := by
  have hc := congrArg State.conns h
  exact hc
theorem transition_keptOn {d : DevState} : KeptOn DemandKey s (s.transition d) := .of_fields start_away transition_fields (conns_of_startAside transition_startAside)
theorem requestStart_keptOn {cause freq : Nat} (hk : k < 8) : KeptOn DemandKey s (s.requestStart k cause freq) :=
  .of_fields start_away (requestStart_fields hk) (conns_of_startAside requestStart_startAside)
theorem startRouted_keptOn {src cause : Nat} : KeptOn DemandKey s (s.startRouted src cause) := .of_fields start_away startRouted_fields (conns_of_startAside startRouted_startAside)
theorem bringAspect_keptOn : KeptOn DemandKey s (s.bringAspect g a) := .of_fields switch_away bringAspect_fields (conns_of_switchAside switchAside_bringAspect)

/-! ### The demand of a function (R146, R377, R462) -/

theorem abortReentry_keptOn : KeptOn DemandKey s s.abortReentry := by
  unfold abortReentry
  refine KeptOn.trans ?_ raisePair_keptOn
  refine .report (.wr ?_ (.same rfl rfl))
  simp only [Away, DemandKey, LinkKey, Fld.key, MIR_XSTAT_REF]
  omega
/-- The fields of a group's request and of its active aspect are away. -/
theorem group_away (hg : g < 16) : ∀ f ∈ [SN_AGREQ_REQV g, SN_AGACT_ASP g, SN_AGACT_VALID g, SN_AGACT_DEMAND g, SN_AGACT_SAFE g], Away DemandKey f := by
  intro f hf
  simp only [List.mem_cons, List.not_mem_nil, or_false] at hf
  rcases hf with rfl | rfl | rfl | rfl | rfl <;>
  · simp only [Away, DemandKey, LinkKey, Fld.key, SN_AGREQ_REQV, SN_AGACT_ASP, SN_AGACT_VALID, SN_AGACT_DEMAND, SN_AGACT_SAFE]
    omega
theorem underDemand_keptOn (hg : g < 16) : KeptOn DemandKey s (s.underDemand g) := by
  unfold underDemand
  exact .hwWrite (group_away hg _ (by simp)) (.put (group_away hg _ (by simp)) (.ite abortReentry_keptOn .refl))
theorem showAspect_keptOn (hg : g < 16) : KeptOn DemandKey s (s.showAspect g a) :=
  .modGroup (.wr (group_away hg _ (by simp)) (.put (group_away hg _ (by simp)) (.wr (group_away hg _ (by simp)) .refl)))
theorem demandAspect_keptOn : KeptOn DemandKey s (s.demandAspect a) := by
  have hg : s.rd (SN_ASP_GROUP a) < 16 := rd_lt (f := SN_ASP_GROUP a)
  rw [demandAspect_eq]
  exact ((underDemand_keptOn hg).trans (showAspect_keptOn hg)).trans bringAspect_keptOn
theorem chooseDemand_keptOn (hg : g < 16) : KeptOn DemandKey s (s.chooseDemand g) := by
  unfold chooseDemand
  split
  · exact .ite (.put (group_away hg _ (by simp)) .refl) .refl
  · exact .ite .refl demandAspect_keptOn
theorem demandGroup_lt : s.demandGroup n < 16 := rd_lt (f := SN_ASP_GROUP _)
theorem demandBegin_keptOn : KeptOn DemandKey s (s.demandBegin n) := by
  unfold demandBegin
  exact .ite .refl ((KeptOn.modGroup .refl).trans (chooseDemand_keptOn demandGroup_lt))
theorem demandEnd_keptOn : KeptOn DemandKey s (s.demandEnd n) := by
  unfold demandEnd
  exact .ite ((KeptOn.modGroup .refl).trans (chooseDemand_keptOn demandGroup_lt)) .refl
end State
end Sys2Proof.Machine
end

section
/-! What an entry into REJOIN leaves of the links (R282, R307, R330, R380, R458, R459): the hand-overs, the fences that fail, and the engines that a
fence without a free window stops. -/
namespace Sys2Proof.Machine
open Sys2Proof.Safety

namespace State
variable {s t : State} {n f e q x st : Nat}

/-! ### The outputs (R371 to R375) -/

theorem updAd_fields : FieldsKept outFields s s.updAd := .modSio (.put (by simp [outFields]) .refl)
/-- The permits of every function are shown. -/
@[irreducible] def showPermits (s : State) : State := s.each (List.range 24) fun t f => (t.put (SN_FNST_PA f) (t.permitA f)).put (SN_FNST_PB f) (t.permitB f)
/-- The outputs that are energised, as a mask. -/
def energised (s : State) : Nat := (List.range 8).foldl (fun a k => if s.soOn k then a + 2 ^ k else a) 0
theorem updOutputs_eq : s.updOutputs = ((s.showPermits.wr SN_OUTST_SOON s.showPermits.energised).put SN_OUTST_TORQUE (s.showPermits.torqueA && s.showPermits.torqueB)).updAd := by
  unfold showPermits
  rfl
theorem permit_out (hf : f < 24) : SN_FNST_PA f ∈ outFields ∧ SN_FNST_PB f ∈ outFields := by
  constructor <;>
  · refine List.mem_append_left _ (List.mem_flatMap.2 ⟨f, List.mem_range.2 hf, ?_⟩)
    simp
theorem showPermits_fields : FieldsKept outFields s s.showPermits := by
  unfold showPermits
  exact .each fun _ _ hf => .put (permit_out (List.mem_range.1 hf)).2 (.put (permit_out (List.mem_range.1 hf)).1 .refl)
theorem showPermits_rest : { s.showPermits with regs := s.regs } = s := by
  have h := each_same (s := s) (l := List.range 24) (op := fun t f => (t.put (SN_FNST_PA f) (t.permitA f)).put (SN_FNST_PB f) (t.permitB f))
    (fun t : State => { t with regs := s.regs }) fun _ _ _ => rfl
  unfold showPermits
  generalize s.each (List.range 24) _ = u at h ⊢
  exact h
theorem updOutputs_fields : FieldsKept outFields s s.updOutputs := by
  rw [updOutputs_eq]
  exact (FieldsKept.put (by simp [outFields]) (.wr (by simp [outFields]) showPermits_fields)).trans updAd_fields
theorem updOutputs_rest : { s.updOutputs with regs := s.regs, sio := s.sio } = s := by
  have h := congrArg (fun t : State => { t with sio := s.sio }) (showPermits_rest (s := s))
  rw [updOutputs_eq]
  generalize s.showPermits = u at h ⊢
  generalize u.energised = o
  exact h
theorem out_away : ∀ f ∈ outFields, Away DemandKey f := by
  intro f hf
  simp only [outFields, List.mem_append, List.mem_flatMap, List.mem_range, List.mem_cons, List.not_mem_nil, or_false] at hf
  rcases hf with ⟨k, hk, rfl | rfl⟩ | rfl | rfl | rfl <;>
  · simp only [Away, DemandKey, LinkKey, Fld.key, SN_FNST_PA, SN_FNST_PB, SN_OUTST_SOON, SN_OUTST_TORQUE, SN_OUTST_AD]
    omega
theorem updOutputs_keptOn : KeptOn DemandKey s s.updOutputs := by
  refine .of_fields out_away updOutputs_fields ?_
  have h := congrArg State.conns (updOutputs_rest (s := s))
  generalize s.updOutputs = u at h ⊢
  exact h

/-! ### Faults of a function (R380, R382) -/

/-- The fields of a function's state are away from the links. -/
theorem fn_away (hf : f < 24) : ∀ g ∈ [SN_FNST_STATE f, SN_FNST_DEG f, SN_FNST_FCAUSE f, SN_DGREM_TIME f], Away LinkKey g := by
  intro g hg
  simp only [List.mem_cons, List.not_mem_nil, or_false] at hg
  rcases hg with rfl | rfl | rfl | rfl <;>
  · simp only [Away, LinkKey, Fld.key, SN_FNST_STATE, SN_FNST_DEG, SN_FNST_FCAUSE, SN_DGREM_TIME]
    omega
/-- A function that enters a state but STOPPING sends nothing. -/
theorem enterFn_keptOn (hf : f < 24) (hst : st ≠ 4) : KeptOn LinkKey s (s.enterFn f st) := by
  unfold enterFn
  extract_lets old y0 y1 y2
  have h0 : KeptOn LinkKey s y0 := .wr (fn_away hf _ (by simp)) .refl
  have h1 : KeptOn LinkKey s y1 := .ite h0.report h0
  have h2 : KeptOn LinkKey s y2 := by
    unfold y2
    rw [if_neg hst]
    exact h1
  clear_value y2
  exact .ite (h2.trans demandBegin_keptOn.link) (.ite (h2.trans demandEnd_keptOn.link) h2)
theorem faultFn_keptOn (hf : f < 24) : KeptOn LinkKey s (s.faultFn f n) :=
  .trans (.report (.wr (fn_away hf _ (by simp)) .refl)) (enterFn_keptOn hf (by decide))
theorem showDeg_keptOn (hf : f < 24) : KeptOn LinkKey s (s.showDeg f) := .wr (fn_away hf _ (by simp)) .refl
theorem enterDegraded_keptOn (hf : f < 24) : KeptOn LinkKey s (s.enterDegraded f n) := by
  unfold enterDegraded
  exact .ite (faultFn_keptOn hf) (.trans (.modFn (.report (.wr (fn_away hf _ (by simp)) .refl))) (showDeg_keptOn hf))
theorem leaveDegraded_keptOn (hf : f < 24) : KeptOn LinkKey s (s.leaveDegraded f) :=
  .trans (.modFn (.wr (fn_away hf _ (by simp)) .refl)) (showDeg_keptOn hf)
theorem fnFaults_keptOn (hf : f < 24) : KeptOn LinkKey s (s.fnFaults f).1 := by
  unfold fnFaults
  extract_lets deg ifs ef disc faults
  clear_value disc faults
  split
  · split
    · exact faultFn_keptOn hf
    · split
      · exact .refl
      · split
        · exact faultFn_keptOn hf
        · exact enterDegraded_keptOn hf
      · exact faultFn_keptOn hf
  · split
    · exact faultFn_keptOn hf
    · split
      · exact faultFn_keptOn hf
      · split
        · exact .ite .refl (leaveDegraded_keptOn hf)
        · split
          · exact .refl
          · exact faultFn_keptOn hf
theorem feedFns_keptOn : KeptOn LinkKey s (s.feedFns n) :=
  .trans (.each fun _ _ hf => .ite .refl (fnFaults_keptOn (List.mem_range.1 hf))) updOutputs_keptOn.link

/-! ### A takeover, and the stop of an engine (R282, R314, R330, R338) -/

theorem twin_away (hn : n < 64) : ∀ g ∈ [SN_TWCFG_ENGA n, SN_TWCFG_ENGB n, SN_TWST_WAIVE n, SN_TWST_COLOC n], Away LinkKey g := by
  intro g hg
  simp only [List.mem_cons, List.not_mem_nil, or_false] at hg
  rcases hg with rfl | rfl | rfl | rfl <;>
  · simp only [Away, LinkKey, Fld.key, SN_TWCFG_ENGA, SN_TWCFG_ENGB, SN_TWST_WAIVE, SN_TWST_COLOC]
    omega
theorem replaceTwin_keptOn : KeptOn LinkKey s (s.replaceTwin e x) := by
  refine .each fun t n hn => ?_
  have hn := List.mem_range.1 hn
  refine .ite .refl ?_
  extract_lets a b y0 y1 y2
  refine .ite .refl ?_
  have h0 : KeptOn LinkKey t y0 := .ite (.modTwin (.wr (twin_away hn _ (by simp)) .refl)) .refl
  have h1 : KeptOn LinkKey t y1 := .ite (.modTwin (.wr (twin_away hn _ (by simp)) h0)) h0
  have h2 : KeptOn LinkKey t y2 := .modTwin (.put (twin_away hn _ (by simp)) h1)
  clear_value y2
  exact .ite (.trans (.report (.put (twin_away hn _ (by simp)) h2)) feedFns_keptOn) h2
theorem engine_away (he : e < 128) : ∀ g ∈ [PWR_ENGST_STATE e, PWR_ENGST_CAUSE e, PWR_ENGST_FROM e, PWR_ENGST_FROMV e], Away LinkKey g := by
  intro g hg
  simp only [List.mem_cons, List.not_mem_nil, or_false] at hg
  rcases hg with rfl | rfl | rfl | rfl <;>
  · simp only [Away, LinkKey, Fld.key, PWR_ENGST_STATE, PWR_ENGST_CAUSE, PWR_ENGST_FROM, PWR_ENGST_FROMV]
    omega
theorem takeover_keptOn : KeptOn LinkKey s (s.takeover e n) := by
  unfold takeover
  extract_lets x y0 y1
  have hx : x < 128 := rd_lt (f := PWR_ENGMAP_SPARE e)
  refine .ite ?_ (.report .refl)
  have h0 : KeptOn LinkKey s y0 := .put (engine_away hx _ (by simp)) (.wr (engine_away hx _ (by simp)) (.wr (engine_away hx _ (by simp)) .refl))
  have h1 : KeptOn LinkKey s y1 := .trans h0.modEng replaceTwin_keptOn
  clear_value y1
  exact .ite h1 (h1.trans (requestStart_keptOn (by omega)).link)
theorem haltCores_keptOn {K : Nat → Prop} : KeptOn K s (s.haltCores e) := .each fun _ _ _ => .modCore .refl
theorem stopEngine_keptOn (he : e < 128) : KeptOn LinkKey s (s.stopEngine e n) :=
  .trans (.modEng (.wr (engine_away he _ (by simp)) (.wr (engine_away he _ (by simp)) haltCores_keptOn))) takeover_keptOn
theorem stopCore_keptOn (hq : q < 256) : KeptOn LinkKey s (s.stopCore q n) := by
  have he : q / 2 < 128 := by omega
  unfold stopCore
  refine .ite (stopEngine_keptOn he) ?_
  extract_lets y
  have h : KeptOn LinkKey s y := .wr (engine_away he _ (by simp)) (.modCore .refl)
  clear_value y
  exact .ite (.wr (engine_away he _ (by simp)) h) h
theorem engineFatal_keptOn (hq : q < 256) : KeptOn LinkKey s (s.engineFatal q) := .trans (.report .refl) (stopCore_keptOn hq)

/-! ### The fences that fail (R281, R307) -/

theorem enter_keptOn {c d pc : Nat} {ds : Bool} (hq : q < 256) : KeptOn LinkKey s (s.enter q c d pc ds) := by
  unfold enter
  exact .ite (engineFatal_keptOn hq) (.same rfl rfl)
theorem endFence_keptOn {d : Nat} (hq : q < 256) : KeptOn LinkKey s (s.endFence q (some d)) := by
  unfold endFence
  exact .ite .refl (.trans (.modCore .refl) (enter_keptOn hq))
theorem failFences_keptOn : KeptOn LinkKey s (s.failFences n) := .each fun _ _ hq => endFence_keptOn (List.mem_range.1 hq)

/-! ### The entry into REJOIN (R458 to R460) -/

theorem value_away (hn : n < 192) : ∀ g ∈ CH_SHST_HOACT n :: valueFields n, Away DemandKey g := by
  intro g hg
  rcases List.mem_cons.1 hg with rfl | hg
  · exact load_away hn _ (by simp [loadFields, setFields])
  · exact load_away hn _ (appl_load g (value_appl g hg))
theorem startHandOver_keptOn (hn : n < 192) : KeptOn DemandKey s (s.startHandOver n x) :=
  .of_fields (value_away hn) startHandOver_fields (conns_of_chanlessColl chanlessColl_startHandOver)
theorem setAppl_keptOn (hn : n < 192) : KeptOn DemandKey s (s.setAppl n x) :=
  .of_fields (fun g hg => value_away hn g (List.mem_cons_of_mem _ hg)) setAppl_value (conns_of_chanlessColl chanlessColl_setAppl)
theorem transfer_away : ∀ g ∈ [MIR_XSTAT_BLOCKS, MIR_XSTAT_RETRY, MIR_XSTAT_DONE, MIR_XSTAT_FAIL, MIR_EPOCH_PEPOCH], Away DemandKey g := by
  intro g hg
  simp only [List.mem_cons, List.not_mem_nil, or_false] at hg
  rcases hg with rfl | rfl | rfl | rfl | rfl <;>
  · simp only [Away, DemandKey, LinkKey, Fld.key, MIR_XSTAT_BLOCKS, MIR_XSTAT_RETRY, MIR_XSTAT_DONE, MIR_XSTAT_FAIL, MIR_EPOCH_PEPOCH]
    omega
theorem startTransfer_keptOn : KeptOn DemandKey s s.startTransfer := by
  unfold startTransfer clear
  refine .modPair (.foldl fun t g hg => .wr (transfer_away g ?_) .refl)
  simp only [List.mem_cons, List.not_mem_nil, or_false] at hg ⊢
  tauto
theorem enterRejoin_keptOn : KeptOn LinkKey s s.enterRejoin := by
  unfold enterRejoin
  refine .ite .refl ?_
  extract_lets vals y0 y1 y2
  have h0 : KeptOn LinkKey s y0 := transition_keptOn.link
  clear_value y0
  refine .ite h0 ?_
  have h1 : KeptOn LinkKey s y1 := h0.report.modPair
  have h2 : KeptOn LinkKey s y2 := by
    refine h1.trans (.foldl fun t v hv => ?_)
    have hn : v.1 < 192 := by
      obtain ⟨n, hn, rfl⟩ := List.mem_map.1 hv
      exact mem_channels.1 (List.mem_filter.1 hn).1
    exact .ite (startHandOver_keptOn hn).link (.trans (.put (value_away hn _ (by simp)).link .refl) (setAppl_keptOn hn).link)
  clear_value y2
  exact (((h2.trans startTransfer_keptOn.link).trans failFences_keptOn).trans updOutputs_keptOn.link).trans raisePair_keptOn.link
theorem compareEpoch_keptOn : KeptOn LinkKey s (s.compareEpoch e) := by
  unfold compareEpoch
  extract_lets y
  have h : KeptOn LinkKey s y := .wr (transfer_away _ (by simp)).link .refl
  clear_value y
  exact .ite (h.trans enterRejoin_keptOn) h
end State
end Sys2Proof.Machine
end

section
/-! The permits and outputs as they are shown (R355, R359, R371, R373): showing them changes nothing that they follow from. -/
namespace Sys2Proof.Machine
open Sys2Proof.Safety

/-- A mask of the first `n` numbers with a property. -/
theorem mask_bits (p : Nat → Bool) (n : Nat) : (List.range n).foldl (fun a k => if p k then a + 2 ^ k else a) 0 < 2 ^ n ∧
    ∀ k, k < n → ((List.range n).foldl (fun a k => if p k then a + 2 ^ k else a) 0).testBit k = p k := by
  induction n with
  | zero => simp
  | succ n ih =>
    obtain ⟨hlt, hbit⟩ := ih
    rw [List.range_succ, List.foldl_append]
    generalize (List.range n).foldl _ 0 = x at hlt hbit ⊢
    have hpow : 2 ^ (n + 1) = 2 ^ n + 2 ^ n := by rw [Nat.pow_succ]; omega
    simp only [List.foldl_cons, List.foldl_nil]
    have htop : (x + 2 ^ n).testBit n = true := by rw [Nat.add_comm, Nat.testBit_two_pow_add_eq, Nat.testBit_lt_two_pow hlt]; rfl
    have hlow : ∀ k, k < n → (x + 2 ^ n).testBit k = x.testBit k := fun k hk => by rw [Nat.add_comm, Nat.testBit_two_pow_add_gt hk]
    refine ⟨by split <;> omega, fun k hk => ?_⟩
    rcases Nat.lt_succ_iff_lt_or_eq.1 hk with hk | rfl
    · split
      · rw [hlow k hk, hbit k hk]
      · exact hbit k hk
    · split
      · next hp => rw [htop, hp]
      · next hp => rw [Nat.testBit_lt_two_pow hlt, Bool.eq_false_iff.2 hp]

/-- The permits and outputs may be shown anew; what they follow from is as it was. -/
structure OutputsKept (s t : State) : Prop where
  fields : FieldsKept outFields s t
  rest   : { t with regs := s.regs, sio := s.sio } = s
  held   : t.sio.soHeld = s.sio.soHeld ∧ t.sio.stoHeld = s.sio.stoHeld

variable {s t u : State} {f k n : Nat}

/-- A place that no permit and no output has. -/
theorem not_out {g : Fld} (h : g.key ≠ 0xD1288400 ∧ g.key ≠ 0xD1288408 ∧ g.key ≠ 0xD1288409) (hf : g.key % 256 ≠ 3 ∧ g.key % 256 ≠ 4) : ∀ o ∈ outFields, g.key ≠ o.key := by
  intro o ho
  simp only [outFields, List.mem_append, List.mem_flatMap, List.mem_range, List.mem_cons, List.not_mem_nil, or_false] at ho
  rcases ho with ⟨k, hk, rfl | rfl⟩ | rfl | rfl | rfl
  · simp only [Fld.key, SN_FNST_PA, ne_eq] at h hf ⊢
    omega
  · simp only [Fld.key, SN_FNST_PB, ne_eq] at h hf ⊢
    omega
  · exact h.1
  · exact h.2.1
  · exact h.2.2
/-- What the permits and outputs follow from: requests, configuration and state of a function. -/
theorem given_not_out : ∀ g ∈ [SN_FNCFG_TYPE f, SN_FNST_STATE f, SN_FNCFG_TWEN f, SN_FNCFG_TWIN f, SN_FNST_WAITRUN f, SN_FNCFG_SOMASK f, SN_FNCFG_STO f, SN_OUTREQ_SOREQ, SN_OUTREQ_STOREQ,
    SN_OUTCFG_WATCHEN], ∀ o ∈ outFields, g.key ≠ o.key := by
  intro g hg
  simp only [List.mem_cons, List.not_mem_nil, or_false] at hg
  rcases hg with rfl | rfl | rfl | rfl | rfl | rfl | rfl | rfl | rfl | rfl <;>
  · refine not_out ?_ ?_ <;>
    · simp only [Fld.key, SN_FNCFG_TYPE, SN_FNST_STATE, SN_FNCFG_TWEN, SN_FNCFG_TWIN, SN_FNST_WAITRUN, SN_FNCFG_SOMASK, SN_FNCFG_STO, SN_OUTREQ_SOREQ, SN_OUTREQ_STOREQ, SN_OUTCFG_WATCHEN]
      omega
/-- The state and the values of a twin pair. -/
theorem twin_not_out (hn : n < 64) : ∀ g ∈ [SN_TWST_STATE n, SN_TWST_COLOC n, SN_TWTOL_SAFEV n, SN_TWVAL_VALUE n], ∀ o ∈ outFields, g.key ≠ o.key := by
  intro g hg o ho
  simp only [List.mem_cons, List.not_mem_nil, or_false] at hg
  simp only [outFields, List.mem_append, List.mem_flatMap, List.mem_range, List.mem_cons, List.not_mem_nil, or_false] at ho
  rcases hg with rfl | rfl | rfl | rfl <;> rcases ho with ⟨k, hk, rfl | rfl⟩ | rfl | rfl | rfl <;>
  · simp only [Fld.key, SN_TWST_STATE, SN_TWST_COLOC, SN_TWTOL_SAFEV, SN_TWVAL_VALUE, SN_FNST_PA, SN_FNST_PB, SN_OUTST_SOON, SN_OUTST_TORQUE, SN_OUTST_AD, ne_eq]
    omega

namespace OutputsKept
theorem refl : OutputsKept s s := ⟨.refl, rfl, rfl, rfl⟩
theorem part {α : Type} (P : State → α) (hP : ∀ (x : State) r o, P { x with regs := r, sio := o } = P x) (h : OutputsKept s t) : P t = P s := by
  rw [← hP t s.regs s.sio, h.rest]
theorem trans (h : OutputsKept s t) (h' : OutputsKept t u) : OutputsKept s u :=
  ⟨h.fields.trans h'.fields, (congrArg (fun x : State => { x with regs := s.regs, sio := s.sio }) h'.rest).trans h.rest, h'.held.1.trans h.held.1, h'.held.2.trans h.held.2⟩
theorem wr {g : Fld} {v : Nat} (hg : g ∈ outFields) (h : OutputsKept s t) : OutputsKept s (t.wr g v) := ⟨.wr hg h.fields, h.rest, h.held⟩
theorem updAd (h : OutputsKept s t) : OutputsKept s t.updAd := ⟨h.fields.trans State.updAd_fields, h.rest, h.held⟩
theorem given (h : OutputsKept s t) : ∀ g ∈ [SN_FNCFG_TYPE f, SN_FNST_STATE f, SN_FNCFG_TWEN f, SN_FNCFG_TWIN f, SN_FNST_WAITRUN f, SN_FNCFG_SOMASK f, SN_FNCFG_STO f, SN_OUTREQ_SOREQ,
    SN_OUTREQ_STOREQ, SN_OUTCFG_WATCHEN], t.rd g = s.rd g := fun g hg => h.fields g (given_not_out g hg)
theorem permitA (h : OutputsKept s t) : t.permitA f = s.permitA f := by
  have hg := h.given (f := f)
  simp only [List.forall_mem_cons] at hg
  simp only [State.permitA, hg]
theorem lampAlone (h : OutputsKept s t) : t.lampAlone f = s.lampAlone f := by
  have hg := h.given (f := f)
  simp only [List.forall_mem_cons] at hg
  simp only [State.lampAlone, State.on, hg]
theorem dev (h : OutputsKept s t) : t.dev = s.dev := h.part State.dev fun _ _ _ => rfl
theorem twin (h : OutputsKept s t) : t.twin n = s.twin n := h.part (fun x => x.twin n) fun _ _ _ => rfl
theorem fn (h : OutputsKept s t) : t.fn n = s.fn n := h.part (fun x => x.fn n) fun _ _ _ => rfl
theorem gatesOff (h : OutputsKept s t) : t.pwr.gatesOff = s.pwr.gatesOff := h.part (fun x => x.pwr.gatesOff) fun _ _ _ => rfl
theorem evalFault (h : OutputsKept s t) : t.evalFault f = s.evalFault f := by
  have hg := h.given (f := f)
  have ht := fun g hg => h.fields g (twin_not_out (n := s.rd (SN_FNCFG_TWIN f)) State.rd_lt g hg)
  simp only [List.forall_mem_cons] at hg ht
  simp only [State.evalFault, State.on, hg, ht, h.fn]
theorem twinValue (hn : n < 64) (h : OutputsKept s t) : t.twinValue n = s.twinValue n := by
  have ht := fun g hg => h.fields g (twin_not_out hn g hg)
  simp only [List.forall_mem_cons] at ht
  simp only [State.twinValue, ht, h.twin]
theorem permitB (h : OutputsKept s t) : t.permitB f = s.permitB f := by
  have hg := h.given (f := f)
  have hv := h.twinValue (n := s.rd (SN_FNCFG_TWIN f)) State.rd_lt
  simp only [List.forall_mem_cons] at hg
  simp only [State.permitB, State.on, h.lampAlone, h.permitA, hg, hv, h.dev]
theorem gateB (h : OutputsKept s t) : t.gateB f = s.gateB f := by
  have hg := h.given (f := f)
  simp only [List.forall_mem_cons] at hg
  simp only [State.gateB, h.dev, h.evalFault, h.lampAlone, h.permitA, h.permitB, hg]
theorem soOn (h : OutputsKept s t) : t.soOn k = s.soOn k := by
  have hm : ∀ f, t.rd (SN_FNCFG_SOMASK f) = s.rd (SN_FNCFG_SOMASK f) := fun f => h.given (f := f) _ (by simp)
  have hg := h.given (f := 0)
  simp only [List.forall_mem_cons] at hg
  simp only [State.soOn, State.soReady, State.bit, hm, hg, h.dev, h.gatesOff, h.held, h.permitA, h.gateB]
theorem torqueOn {p : Nat → Bool} (h : OutputsKept s t) : t.torqueOn p = s.torqueOn p := by
  have hm : ∀ f, t.rd (SN_FNCFG_STO f) = s.rd (SN_FNCFG_STO f) := fun f => h.given (f := f) _ (by simp)
  have hg := h.given (f := 0)
  simp only [List.forall_mem_cons] at hg
  simp only [State.torqueOn, State.on, hm, hg, h.dev, h.gatesOff, h.held]
end OutputsKept

namespace State

theorem showPermits_outputsKept : OutputsKept s s.showPermits where
  fields := showPermits_fields
  rest := congrArg (fun x : State => { x with sio := s.sio }) showPermits_rest
  held := by
    have h := congrArg State.sio (showPermits_rest (s := s))
    generalize s.showPermits = u at h ⊢
    have h : u.sio = s.sio := h
    rw [h]
    exact ⟨rfl, rfl⟩
theorem updOutputs_outputsKept : OutputsKept s s.updOutputs := by
  rw [updOutputs_eq]
  exact .updAd (.wr (by simp [outFields]) (.wr (by simp [outFields]) showPermits_outputsKept))
/-- Each function's permits are shown as they stand. -/
theorem showPermits_permits (hf : f < 24) : s.showPermits.rd (SN_FNST_PA f) = (s.permitA f).toNat ∧ s.showPermits.rd (SN_FNST_PB f) = (s.permitB f).toNat := by
  have hab : (SN_FNST_PA f).key ≠ (SN_FNST_PB f).key := by simp [Fld.key, SN_FNST_PA, SN_FNST_PB]
  have h : ((s.showPermits.rd (SN_FNST_PA f), s.showPermits.rd (SN_FNST_PB f)), s.showPermits.permitA f, s.showPermits.permitB f) =
      (((s.permitA f).toNat, (s.permitB f).toNat), s.permitA f, s.permitB f) := by
    unfold showPermits
    refine each_once (fun t => ((t.rd (SN_FNST_PA f), t.rd (SN_FNST_PB f)), t.permitA f, t.permitB f)) (fun p => ((p.2.1.toNat, p.2.2.toNat), p.2)) List.nodup_range (List.mem_range.2 hf) ?_ ?_
    · intro t x hx hne
      have hx := List.mem_range.1 hx
      have hk : OutputsKept t ((t.put (SN_FNST_PA x) (t.permitA x)).put (SN_FNST_PB x) (t.permitB x)) := .wr (permit_out hx).2 (.wr (permit_out hx).1 .refl)
      have hne' : ∀ g ∈ [SN_FNST_PA f, SN_FNST_PB f], g.key ≠ (SN_FNST_PA x).key ∧ g.key ≠ (SN_FNST_PB x).key := by
        intro g hg
        simp only [List.mem_cons, List.not_mem_nil, or_false] at hg
        rcases hg with rfl | rfl <;>
        · simp only [Fld.key, SN_FNST_PA, SN_FNST_PB, ne_eq]
          omega
      have hrd : ∀ g ∈ [SN_FNST_PA f, SN_FNST_PB f], ((t.put (SN_FNST_PA x) (t.permitA x)).put (SN_FNST_PB x) (t.permitB x)).rd g = t.rd g := fun g hg => by
        rw [rd_put_ne (hne' g hg).2, rd_put_ne (hne' g hg).1]
      rw [hk.permitA, hk.permitB, hrd _ (by simp), hrd _ (by simp)]
    · intro t
      have hk : OutputsKept t ((t.put (SN_FNST_PA f) (t.permitA f)).put (SN_FNST_PB f) (t.permitB f)) := .wr (permit_out hf).2 (.wr (permit_out hf).1 .refl)
      rw [hk.permitA, hk.permitB, rd_put_ne hab, rd_put_same Nat.zero_lt_one, rd_put_same Nat.zero_lt_one]
  have hp := congrArg Prod.fst h
  exact ⟨congrArg Prod.fst hp, congrArg Prod.snd hp⟩
/-- The two torque lines together (R373). -/
theorem torque_both : (s.torqueA && s.torqueB) = (s.on SN_OUTREQ_STOREQ && s.dev == .run && !s.sio.stoHeld && !s.pwr.gatesOff &&
    (List.range 24).all fun f => !s.on (SN_FNCFG_STO f) || (s.permitA f && s.gateB f)) := by
  rw [torqueA, torqueB, torqueOn, torqueOn, Bool.eq_iff_iff]
  simp only [Bool.and_eq_true, Bool.or_eq_true, List.all_eq_true]
  constructor
  · rintro ⟨⟨h, ha⟩, -, hb⟩
    exact ⟨h, fun f hf => (ha f hf).elim .inl fun hA => (hb f hf).imp_right fun hB => ⟨hA, hB⟩⟩
  · rintro ⟨h, hab⟩
    exact ⟨⟨h, fun f hf => (hab f hf).imp_right And.left⟩, h, fun f hf => (hab f hf).imp_right And.right⟩
/-- R355, R371, R373: the permits and outputs are shown as they stand. -/
theorem updOutputs_shown : OutputsShown s.updOutputs := by
  have hk := updOutputs_outputsKept (s := s)
  have hp := showPermits_outputsKept (s := s)
  have hkeys : ∀ f, (SN_FNST_PA f).key ≠ SN_OUTST_AD.key ∧ (SN_FNST_PA f).key ≠ SN_OUTST_TORQUE.key ∧ (SN_FNST_PA f).key ≠ SN_OUTST_SOON.key ∧
      (SN_FNST_PB f).key ≠ SN_OUTST_AD.key ∧ (SN_FNST_PB f).key ≠ SN_OUTST_TORQUE.key ∧ (SN_FNST_PB f).key ≠ SN_OUTST_SOON.key := by
    intro f
    simp only [Fld.key, SN_FNST_PA, SN_FNST_PB, SN_OUTST_SOON, SN_OUTST_TORQUE, SN_OUTST_AD, ne_eq]
    omega
  have had : ∀ (v : State) (g : Fld), g.key ≠ SN_OUTST_AD.key → v.updAd.rd g = v.rd g := fun v g hg => rd_put_ne hg
  refine ⟨fun f hf => ?_, fun k hk' => ?_, ?_⟩
  · obtain ⟨hA, hB⟩ := showPermits_permits (s := s) hf
    obtain ⟨ha1, ha2, ha3, hb1, hb2, hb3⟩ := hkeys f
    rw [hk.permitA, hk.permitB, on, on, updOutputs_eq, had _ _ ha1, had _ _ hb1, rd_put_ne ha2, rd_put_ne hb2, rd_wr_ne ha3, rd_wr_ne hb3, hA, hB]
    exact ⟨by cases s.permitA f <;> rfl, by cases s.permitB f <;> rfl⟩
  · obtain ⟨hlt, hbit⟩ := mask_bits s.showPermits.soOn 8
    have hshown : s.updOutputs.bit SN_OUTST_SOON k = s.showPermits.soOn k := by
      rw [bit, updOutputs_eq, had _ _ (by decide), rd_put_ne (by decide), rd_wr_same]
      refine Eq.trans ?_ (hbit k hk')
      exact congrArg (Nat.testBit · k) (Nat.mod_eq_of_lt hlt)
    have hsame : s.updOutputs.soOn k = s.showPermits.soOn k := hk.soOn.trans hp.soOn.symm
    rw [hshown, ← hsame]
    rfl
  · have hshown : s.updOutputs.on SN_OUTST_TORQUE = (s.showPermits.torqueA && s.showPermits.torqueB) := by
      rw [on, updOutputs_eq, had _ _ (by decide), rd_put_same Nat.zero_lt_one]
      cases (s.showPermits.torqueA && s.showPermits.torqueB) <;> rfl
    have hA : s.showPermits.torqueA = s.updOutputs.torqueA := by
      rw [torqueA, torqueA, show s.showPermits.permitA = s.updOutputs.permitA from funext fun f => hp.permitA.trans hk.permitA.symm]
      exact hp.torqueOn.trans hk.torqueOn.symm
    have hB : s.showPermits.torqueB = s.updOutputs.torqueB := by
      rw [torqueB, torqueB, show s.showPermits.gateB = s.updOutputs.gateB from funext fun f => hp.gateB.trans hk.gateB.symm]
      exact hp.torqueOn.trans hk.torqueOn.symm
    rw [hshown, hA, hB, torque_both]
end State
end Sys2Proof.Machine
end

section
/-! The words of a received frame, and its way through the checks to its effect (R424, R433 to R435). -/
namespace Sys2Proof.Machine
open Sys2Proof.Safety

variable {s t u : State} {l : List Word} {b : List Byte} {p : List Word} {tr via c e k i id q : Nat}

/-! ### Words -/

theorem frameWord_lt : frameWord l i < 4096 := (l.getD i 0).isLt
theorem frameId_lt : frameId l < 2 ^ 32 := by
  have h0 := frameWord_lt (l := l) (i := 0)
  have h1 := frameWord_lt (l := l) (i := 1)
  unfold frameId
  omega
theorem frameSeq_lt : frameSeq l < 65536 := by
  have h2 := frameWord_lt (l := l) (i := 2)
  have h3 := frameWord_lt (l := l) (i := 3)
  unfold frameSeq
  omega
theorem unpackWords_length : (unpackWords b).length = 2 * (b.length / 3) + b.length % 3 / 2 := by
  induction b using unpackWords.induct with
  | case1 x y z r ih =>
    simp only [unpackWords, List.length_cons, ih]
    omega
  | case2 x y => simp [unpackWords]
  | case3 r h3 h2 =>
    match r, h3, h2 with
    | [], _, _ => rfl
    | [_], _, _ => simp [unpackWords]
    | [x, y], _, h2 => exact absurd rfl (h2 x y)
    | x :: y :: z :: w, h3, _ => exact absurd rfl (h3 x y z w)
/-- R433 check 2: the payload has LEN words, of which there are 1 to 40. -/
theorem payload_length (h : frameFormat tr b = true) : (framePayload (unpackWords b)).length = frameLen (unpackWords b) ∧ 1 ≤ frameLen (unpackWords b) ∧ frameLen (unpackWords b) ≤ 40 := by
  simp only [frameFormat, Bool.and_eq_true, decide_eq_true_eq] at h
  obtain ⟨⟨⟨⟨⟨⟨⟨-, hpos⟩, hmax⟩, -⟩, hsize⟩, -⟩, -⟩, -⟩ := h
  have hlen := unpackWords_length (b := b)
  simp only [frameBytes] at hsize
  have hmax : frameLen (unpackWords b) ≤ 40 := hmax.trans (by split <;> decide)
  refine ⟨?_, hpos, hmax⟩
  rw [framePayload, List.length_take, List.length_drop]
  omega
theorem payload_word (hi : i < frameLen (unpackWords b)) : frameWord (framePayload (unpackWords b)) i = frameWord (unpackWords b) (i + 6) := by
  simp [frameWord, framePayload, List.getD_eq_getElem?_getD, hi, Nat.add_comm]
/-- The first n words of a payload, filled up with 0. -/
theorem padTo_word {n : Nat} (hi : i < n) : (padTo n (p.map BitVec.toNat)).getD i 0 = frameWord p i := by
  simp only [padTo, frameWord, List.getD_eq_getElem?_getD, List.getElem?_take, hi, if_true, List.getElem?_append, List.length_map, List.getElem?_map, List.getElem?_replicate]
  split
  · next h => simp [List.getElem?_eq_getElem h]
  · next h => simp [List.getElem?_eq_none (Nat.le_of_not_lt h), show i - p.length < n by omega]
theorem padTo_length {n : Nat} {ws : List Nat} : (padTo n ws).length = n := by simp [padTo]

/-! ### The checks (R433) -/

/-- A frame of kind k comes on a transport and passes the checks that concern no entry. -/
structure Passes (s : State) (tr v : Nat) (b : List Byte) (k : Nat) : Prop where
  heard  : s.trHears tr = true ∧ s.trTakes tr v = true
  format : frameFormat tr b = true
  named  : frameId (unpackWords b) ≠ 0 ∧ frameId (unpackWords b) ≠ 0xFFFFFFFF
  check  : frameCheck (unpackWords b) = true
  kind   : frameKind (unpackWords b) = k

namespace State

theorem receiveAs_passes {v : Nat} (h : Passes s tr v b k) (he : (if k = 3 then s.classEntry tr (v % 2 ^ 96) (frameId (unpackWords b))
      else (s.connOf tr (v % 2 ^ 96) (frameId (unpackWords b))).map s.connEntry) = some e) :
    s.receiveAs k tr v b true = s.acceptOn tr (v % 2 ^ 96) (s.connOf tr (v % 2 ^ 96) (frameId (unpackWords b))) e (unpackWords b) := by
  obtain ⟨⟨hhears, htakes⟩, hformat, ⟨hid0, hid1⟩, hcheck, hkind⟩ := h
  simp only [receiveAs, hkind, ne_eq, not_true_eq_false, false_and, and_false, if_false, receive, hhears, htakes, or_self, hformat, hid0, hid1, he, hcheck]
theorem receiveAs_conn {v : Nat} (h : Passes s tr v b k) (hk : k ≠ 3) (hc : s.connOf tr (v % 2 ^ 96) (frameId (unpackWords b)) = some c) :
    s.receiveAs k tr v b true = s.acceptOn tr (v % 2 ^ 96) (some c) (s.connEntry c) (unpackWords b) := by
  rw [receiveAs_passes (e := s.connEntry c) h (by rw [if_neg hk, hc]; rfl), hc]
theorem connOf_lt (h : s.connOf tr via id = some c) : c < 64 := by
  unfold connOf at h
  rcases (Option.orElse_eq_some _ _ _).1 h with h | ⟨-, h⟩
  · exact List.mem_range.1 (List.mem_of_find?_eq_some h)
  · exact List.mem_range.1 (List.mem_of_find?_eq_some h)
theorem classEntry_spec (h : s.classEntry tr via id = some e) : e < 32 ∧ s.rd (KSF_ALLOW_TR e) = tr := by
  have hp := List.find?_some h
  simp only [entryHears, Bool.and_eq_true, beq_iff_eq] at hp
  exact ⟨List.mem_range.1 (List.mem_of_find?_eq_some h), hp.1.2.1⟩
theorem connEntry_lt : s.connEntry c < 32 := rd_lt (f := KSF_CONN_ENTRY c)

/-! ### The sequence number (R434) -/

/-- RXSEQ moves on, and the frames missed are counted. -/
def seqMoved (s : State) (c q : Nat) : State :=
  if (s.conn c).fresh then (s.wr (KSF_CONN_RXSEQ c) q).modConn c fun x => { x with fresh := false }
  else (s.wr (KSF_CONN_RXSEQ c) q).wr (KSF_CONN_LOSTF c) (min 4095 (s.rd (KSF_CONN_LOSTF c) + (q + 65536 - s.rd (KSF_CONN_RXSEQ c)) % 65536 - 1))
/-- The sequence number of a frame is new. -/
def SeqNext (s : State) (c q : Nat) : Prop :=
  (s.conn c).fresh = true ∨ (1 ≤ (q + 65536 - s.rd (KSF_CONN_RXSEQ c)) % 65536 ∧ (q + 65536 - s.rd (KSF_CONN_RXSEQ c)) % 65536 ≤ 16)
theorem sequence_next (h : s.SeqNext c q) : s.sequence c q = (s.seqMoved c q, none) := by
  unfold sequence seqMoved
  cases hf : (s.conn c).fresh
  · have h := h.resolve_left (by simp [hf])
    simp only [Bool.false_eq_true, if_false]
    rw [if_neg (by omega), if_neg (by omega)]
  · rfl
theorem seqMoved_fields : FieldsKept [KSF_CONN_RXSEQ c, KSF_CONN_LOSTF c] s (s.seqMoved c q) := by
  unfold seqMoved
  exact .ite (.modConn (.wr (by simp) .refl)) (.wr (by simp) (.wr (by simp) .refl))
theorem seqMoved_rest : { s.seqMoved c q with regs := s.regs, conns := s.conns } = s := by
  unfold seqMoved
  split <;> rfl
theorem seqMoved_conn : ((s.seqMoved c q).conn c).fresh = false ∧ ElseSame (s.seqMoved c q).conn s.conn c := by
  unfold seqMoved
  split
  · refine ⟨?_, fun m hm => ?_⟩
    · rw [conn_modConn, if_pos rfl]
    · rw [conn_modConn, if_neg hm, wr_conn]
  · next h => exact ⟨by simpa using h, fun _ _ => rfl⟩
theorem seqMoved_rxseq (hq : q < 65536) : (s.seqMoved c q).rd (KSF_CONN_RXSEQ c) = q := by
  unfold seqMoved
  split
  · exact rd_wr_same.trans (Nat.mod_eq_of_lt hq)
  · rw [rd_wr_ne (by simp [Fld.key, KSF_CONN_RXSEQ, KSF_CONN_LOSTF]), rd_wr_same]
    exact Nat.mod_eq_of_lt hq
theorem seqMoved_lost : (s.seqMoved c q).rd (KSF_CONN_LOSTF c) = if (s.conn c).fresh = true then s.rd (KSF_CONN_LOSTF c)
    else min 4095 (s.rd (KSF_CONN_LOSTF c) + (q + 65536 - s.rd (KSF_CONN_RXSEQ c)) % 65536 - 1) := by
  unfold seqMoved
  split
  · exact rd_wr_ne (by simp [Fld.key, KSF_CONN_RXSEQ, KSF_CONN_LOSTF])
  · exact rd_wr_same.trans (Nat.mod_eq_of_lt (Nat.lt_succ_of_le (Nat.min_le_left _ _)))

/-! ### The receive registers (R435) -/

/-- Words go to the receive registers from number i on. -/
def storeWords (s : State) (c : Nat) (ws : List Nat) (i : Nat) : State := (ws.zipIdx i).foldl (fun (t : State) w => t.wr (KSF_RX_P c w.2) w.1) s
theorem storeWords_cons {x : Nat} {ws : List Nat} : s.storeWords c (x :: ws) i = (s.wr (KSF_RX_P c i) x).storeWords c ws (i + 1) := rfl
theorem rx_key {j : Nat} (h : i ≠ j) : (KSF_RX_P c i).key ≠ (KSF_RX_P c j).key := by
  simp only [Fld.key, KSF_RX_P, ne_eq]
  omega
theorem storeWords_rd {ws : List Nat} : ∀ {s : State} {j : Nat}, (s.storeWords c ws j).rd (KSF_RX_P c i) = if j ≤ i ∧ i < j + ws.length then ws.getD (i - j) 0 % 4096 else s.rd (KSF_RX_P c i) := by
  induction ws with
  | nil =>
    intro s j
    rw [if_neg (by simp only [List.length_nil]; omega)]
    rfl
  | cons x ws ih =>
    intro s j
    rw [storeWords_cons, ih, List.length_cons]
    by_cases hi : i = j
    · subst hi
      rw [if_neg (by omega), if_pos (by omega), rd_wr_same, Nat.sub_self]
      rfl
    · rw [rd_wr_ne (rx_key hi)]
      by_cases hj : j + 1 ≤ i ∧ i < j + 1 + ws.length
      · rw [if_pos hj, if_pos (by omega), show i - j = i - (j + 1) + 1 by omega]
        rfl
      · rw [if_neg hj, if_neg (by omega)]
theorem storeWords_rest {ws : List Nat} : { s.storeWords c ws i with regs := s.regs } = s := by
  have h := foldl_same (s := s) (fs := ws.zipIdx i) (op := fun t w => t.wr (KSF_RX_P c w.2) w.1) (fun t => { t with regs := s.regs }) fun _ _ => rfl
  unfold storeWords
  generalize List.foldl _ _ _ = u at h ⊢
  exact h
theorem storeWords_fields {ws : List Nat} (h : i + ws.length ≤ 40) : FieldsKept ((List.range 40).map (KSF_RX_P c)) s (s.storeWords c ws i) := by
  induction ws generalizing s i with
  | nil => exact .refl
  | cons x ws ih =>
    rw [List.length_cons] at h
    rw [storeWords_cons]
    exact .trans (.wr (List.mem_map_of_mem (List.mem_range.2 (by omega))) .refl) (ih (by omega))

/-- The receive registers of connection c. -/
def storedFields (c : Nat) : List Fld := [KSF_RXTIME_TIME c, KSF_RXCNT_COUNT c] ++ (List.range 40).map (KSF_RX_P c)
/-- The fields that an accepted frame writes on connection c. -/
def rxFields (c : Nat) : List Fld := [KSF_CONN_RXSEQ c, KSF_CONN_LOSTF c, KSF_RXTIME_TIME c, KSF_RXCNT_COUNT c] ++ (List.range 40).map (KSF_RX_P c)
/-- The watchdog restarts, and the payload stands in the receive registers. -/
def frameStored (s : State) (c : Nat) (p : List Word) : State :=
  let u := (s.modConn c fun x => { x with heardAt := s.time }).storeWords c (padTo 40 (p.map BitVec.toNat)) 0
  (u.wr (KSF_RXTIME_TIME c) u.devTime).wr (KSF_RXCNT_COUNT c) (u.rd (KSF_RXCNT_COUNT c) + 1)
theorem acceptFrame_eq : s.acceptFrame c p = if (s.frameStored c p).on (KSF_ALLOW_ITEN (s.connEntry c)) then
    ((s.frameStored c p).raise ((s.frameStored c p).coreOf ((s.frameStored c p).rd (KSF_ALLOW_ITENG (s.connEntry c))) ((s.frameStored c p).rd (KSF_ALLOW_ITCORE (s.connEntry c)))) 6).startRouted 2 3
    else s.frameStored c p := rfl
theorem rx_mem (hi : i < 40) : KSF_RX_P c i ∈ rxFields c := List.mem_append_right _ (List.mem_map_of_mem (List.mem_range.2 hi))
theorem frameStored_stored : FieldsKept (storedFields c) s (s.frameStored c p) := by
  unfold frameStored
  extract_lets u
  have hu : FieldsKept (storedFields c) s u :=
    .trans (.modConn .refl) ((storeWords_fields (by rw [padTo_length])).mono fun _ hg => List.mem_append_right _ hg)
  exact .wr (by simp [storedFields]) (.wr (by simp [storedFields]) hu)
theorem frameStored_fields : FieldsKept (rxFields c) s (s.frameStored c p) := frameStored_stored.mono fun g hg => by
  simp only [storedFields, rxFields, List.mem_append, List.mem_cons, List.not_mem_nil, or_false] at hg ⊢
  tauto
theorem frameStored_seq : ∀ g ∈ [KSF_CONN_RXSEQ c, KSF_CONN_LOSTF c], (s.frameStored c p).rd g = s.rd g := fun g hg => frameStored_stored g fun f hf => by
  simp only [storedFields, List.mem_append, List.mem_map, List.mem_range, List.mem_cons, List.not_mem_nil, or_false] at hf hg
  rcases hf with (rfl | rfl) | ⟨i, hi, rfl⟩ <;> rcases hg with rfl | rfl <;>
  · simp only [Fld.key, KSF_CONN_RXSEQ, KSF_CONN_LOSTF, KSF_RXTIME_TIME, KSF_RXCNT_COUNT, KSF_RX_P]
    omega
theorem frameStored_rest : { s.frameStored c p with regs := s.regs, conns := s.conns } = s := by
  have h := congrArg (fun t : State => { t with regs := s.regs, conns := s.conns })
    (storeWords_rest (s := s.modConn c fun x => { x with heardAt := s.time }) (c := c) (ws := padTo 40 (p.map BitVec.toNat)) (i := 0))
  unfold frameStored
  generalize (s.modConn c fun x => { x with heardAt := s.time }).storeWords c _ 0 = u at h ⊢
  exact h
theorem frameStored_conn : (s.frameStored c p).conn i = if i = c then { s.conn c with heardAt := s.time } else s.conn i := by
  have h := congrArg State.conns (storeWords_rest (s := s.modConn c fun x => { x with heardAt := s.time }) (c := c) (ws := padTo 40 (p.map BitVec.toNat)) (i := 0))
  unfold frameStored
  generalize (s.modConn c fun x => { x with heardAt := s.time }).storeWords c _ 0 = u at h ⊢
  have h : u.conns = (s.modConn c fun x => { x with heardAt := s.time }).conns := h
  rw [wr_conn, wr_conn, conn, h, ← conn, conn_modConn]
theorem frameStored_rx : (∀ j, j < 40 → (s.frameStored c p).rd (KSF_RX_P c j) = frameWord p j) ∧ (s.frameStored c p).rd (KSF_RXTIME_TIME c) = s.devTime % 2 ^ 48 ∧
    (s.frameStored c p).rd (KSF_RXCNT_COUNT c) = (s.rd (KSF_RXCNT_COUNT c) + 1) % 4096 := by
  have hkeys : (KSF_RXTIME_TIME c).key ≠ (KSF_RXCNT_COUNT c).key ∧ ∀ j, j < 40 → (KSF_RX_P c j).key ≠ (KSF_RXTIME_TIME c).key ∧ (KSF_RX_P c j).key ≠ (KSF_RXCNT_COUNT c).key := by
    refine ⟨?_, fun j hj => ⟨?_, ?_⟩⟩ <;> (simp only [Fld.key, KSF_RX_P, KSF_RXTIME_TIME, KSF_RXCNT_COUNT, ne_eq]; omega)
  have hwords := fun j => storeWords_rd (s := s.modConn c fun x => { x with heardAt := s.time }) (c := c) (ws := padTo 40 (p.map BitVec.toNat)) (i := j) (j := 0)
  have hrest := storeWords_rest (s := s.modConn c fun x => { x with heardAt := s.time }) (c := c) (ws := padTo 40 (p.map BitVec.toNat)) (i := 0)
  have hfields := storeWords_fields (s := s.modConn c fun x => { x with heardAt := s.time }) (c := c) (ws := padTo 40 (p.map BitVec.toNat)) (i := 0) (by rw [padTo_length])
  unfold frameStored
  generalize (s.modConn c fun x => { x with heardAt := s.time }).storeWords c _ 0 = u at hwords hrest hfields ⊢
  obtain ⟨htc, hrx⟩ := hkeys
  refine ⟨fun j hj => ?_, ?_, ?_⟩
  · obtain ⟨ht, hc⟩ := hrx j hj
    rw [rd_wr_ne hc, rd_wr_ne ht, hwords j, if_pos ⟨Nat.zero_le j, by rw [padTo_length]; omega⟩, Nat.sub_zero, padTo_word hj, Nat.mod_eq_of_lt frameWord_lt]
  · have hd := congrArg State.devTime hrest
    have hd : u.devTime = s.devTime := hd
    rw [rd_wr_ne htc, rd_wr_same, hd]
    rfl
  · have hc : u.rd (KSF_RXCNT_COUNT c) = s.rd (KSF_RXCNT_COUNT c) := hfields _ fun g hg => by
      obtain ⟨j, hj, rfl⟩ := List.mem_map.1 hg
      exact ((hrx j (List.mem_range.1 hj)).2).symm
    rw [rd_wr_same, hc]
    rfl
end State
end Sys2Proof.Machine
end

section
/-! A frame that stands in the receive registers (R434, R435), and how a frame on an OPEN connection comes to its effect. -/
namespace Sys2Proof.Machine
open Sys2Proof.Safety

variable {s t u : State} {l : List Word} {b : List Byte} {p : List Word} {tr via c e k q v : Nat} {g : Fld} {w : List Fld}

/-- The key of g is not one of the receive registers, nor of RXSEQ or LOSTF of a connection. -/
def NotRx (g : Fld) : Prop := g.key < 0xD8040000 ∨ 0xD8280000 ≤ g.key ∨ (g.key < 0xD8180000 ∧ g.key % 256 ≠ 44 ∧ g.key % 256 ≠ 76)
theorem NotRx.ne (h : NotRx g) (hc : c < 64) : ∀ f ∈ State.rxFields c, g.key ≠ f.key := by
  intro f hf
  simp only [State.rxFields, List.mem_append, List.mem_map, List.mem_range, List.mem_cons, List.not_mem_nil, or_false] at hf
  unfold NotRx at h
  rcases hf with (rfl | rfl | rfl | rfl) | ⟨i, hi, rfl⟩ <;>
  · simp only [Fld.key, KSF_CONN_RXSEQ, KSF_CONN_LOSTF, KSF_RXTIME_TIME, KSF_RXCNT_COUNT, KSF_RX_P] at h ⊢
    omega
theorem NotRx.entry (hc : c < 64) : NotRx (KSF_CONN_ENTRY c) := by
  simp only [NotRx, Fld.key, KSF_CONN_ENTRY]
  omega
theorem NotRx.allow (he : e < 32) (hg : g.addr = 0xD80100 + 16 * e) (hl : g.lo < 256) : NotRx g := by
  simp only [NotRx, Fld.key, hg]
  omega
theorem NotRx.kept (h : NotRx g) (hc : c < 64) (hf : FieldsKept (State.rxFields c) s t) : t.rd g = s.rd g := hf g (h.ne hc)
theorem rx_link : ∀ f ∈ State.rxFields c, LinkKey f.key := by
  intro f hf
  simp only [State.rxFields, List.mem_append, List.mem_map, List.mem_range, List.mem_cons, List.not_mem_nil, or_false] at hf
  rcases hf with (rfl | rfl | rfl | rfl) | ⟨i, hi, rfl⟩ <;>
  · simp only [LinkKey, Fld.key, KSF_CONN_RXSEQ, KSF_CONN_LOSTF, KSF_RXTIME_TIME, KSF_RXCNT_COUNT, KSF_RX_P]
    omega

/-- R434, R435: a frame stands in the receive registers of connection c: its sequence number, its payload, the time and the count of the frames;
the watchdog restarted. -/
def FrameStands (s t : State) (c q : Nat) (p : List Word) : Prop :=
  t.rd (KSF_CONN_RXSEQ c) = q ∧ (∀ i, i < 40 → t.rd (KSF_RX_P c i) = frameWord p i) ∧ t.rd (KSF_RXTIME_TIME c) = s.devTime % 2 ^ 48 ∧
    t.rd (KSF_RXCNT_COUNT c) = (s.rd (KSF_RXCNT_COUNT c) + 1) % 4096 ∧ (t.conn c).heardAt = s.time ∧ (t.conn c).fresh = false ∧ ElseSame t.conn s.conn c

namespace FrameStands
theorem of_same (h : FrameStands s t c q p) (hf : ∀ f ∈ State.rxFields c, u.rd f = t.rd f) (hc : u.conns = t.conns) : FrameStands s u c q p := by
  obtain ⟨hseq, hp, htime, hcnt, hheard, hfresh, helse⟩ := h
  have hconn : u.conn = t.conn := by
    unfold State.conn
    rw [hc]
  refine ⟨(hf _ (by simp [State.rxFields])).trans hseq, fun i hi => (hf _ (State.rx_mem hi)).trans (hp i hi), (hf _ (by simp [State.rxFields])).trans htime,
    (hf _ (by simp [State.rxFields])).trans hcnt, ?_, ?_, ?_⟩
  · rw [hconn, hheard]
  · rw [hconn, hfresh]
  · rw [hconn]
    exact helse
theorem keptOn (h : FrameStands s t c q p) (hk : KeptOn LinkKey t u) : FrameStands s u c q p := h.of_same (fun f hf => hk.fields f (rx_link f hf)) hk.conns
theorem fields (h : FrameStands s t c q p) (hc : c < 64) (hf : FieldsKept w t u) (hw : ∀ g ∈ w, NotRx g) (hconns : u.conns = t.conns) : FrameStands s u c q p :=
  h.of_same (fun f hm => hf f fun g hg => ((hw g hg).ne hc f hm).symm) hconns
end FrameStands

namespace State

theorem frameStored_stands (hseq : u.rd (KSF_CONN_RXSEQ c) = q) (hcnt : u.rd (KSF_RXCNT_COUNT c) = s.rd (KSF_RXCNT_COUNT c)) (htime : u.time = s.time) (hdev : u.devTime = s.devTime)
    (hfresh : (u.conn c).fresh = false) (helse : ElseSame u.conn s.conn c) : FrameStands s (u.frameStored c p) c q p := by
  obtain ⟨hwords, hat, hcount⟩ := frameStored_rx (s := u) (c := c) (p := p)
  refine ⟨(frameStored_seq _ (by simp)).trans hseq, hwords, hat.trans (by rw [hdev]), hcount.trans (by rw [hcnt]), ?_, ?_, fun m hm => ?_⟩
  · rw [frameStored_conn, if_pos rfl]
    exact htime
  · rw [frameStored_conn, if_pos rfl]
    exact hfresh
  · rw [frameStored_conn, if_neg hm]
    exact helse m hm

/-! ### A frame on an OPEN connection -/

/-- The frame l is taken on connection c. -/
def frameTaken (s : State) (c : Nat) (l : List Word) : State := (s.seqMoved c (frameSeq l)).frameStored c (framePayload l)
theorem seqMoved_rx : FieldsKept (rxFields c) s (s.seqMoved c q) := seqMoved_fields.mono fun g hg => by
  simp only [rxFields, List.mem_append, List.mem_cons, List.not_mem_nil, or_false] at hg ⊢
  tauto
theorem frameTaken_fields : FieldsKept (rxFields c) s (s.frameTaken c l) := seqMoved_rx.trans frameStored_fields
theorem frameTaken_rest : { s.frameTaken c l with regs := s.regs, conns := s.conns } = s := by
  have h0 := frameStored_rest (s := s.seqMoved c (frameSeq l)) (c := c) (p := framePayload l)
  have h1 := congrArg (fun t : State => { t with regs := s.regs, conns := s.conns }) h0
  have h2 := seqMoved_rest (s := s) (c := c) (q := frameSeq l)
  exact Eq.trans h1 h2
theorem frameTaken_lost : (s.frameTaken c l).rd (KSF_CONN_LOSTF c) = if (s.conn c).fresh = true then s.rd (KSF_CONN_LOSTF c)
    else min 4095 (s.rd (KSF_CONN_LOSTF c) + (frameSeq l + 65536 - s.rd (KSF_CONN_RXSEQ c)) % 65536 - 1) := (frameStored_seq _ (by simp)).trans seqMoved_lost
theorem frameTaken_stands : FrameStands s (s.frameTaken c l) c (frameSeq l) (framePayload l) := by
  have hrest := seqMoved_rest (s := s) (c := c) (q := frameSeq l)
  have htime := congrArg State.time hrest
  have hdev := congrArg State.devTime hrest
  obtain ⟨hfresh, helse⟩ := seqMoved_conn (s := s) (c := c) (q := frameSeq l)
  refine frameStored_stands (seqMoved_rxseq frameSeq_lt) (seqMoved_fields _ ?_) htime hdev hfresh helse
  intro g hg
  simp only [List.mem_cons, List.not_mem_nil, or_false] at hg
  rcases hg with rfl | rfl <;>
  · simp only [Fld.key, KSF_CONN_RXSEQ, KSF_CONN_LOSTF, KSF_RXCNT_COUNT]
    omega
theorem frameTaken_kept (hc : c < 64) (h : NotRx g) : (s.frameTaken c l).rd g = s.rd g := h.kept hc frameTaken_fields
theorem frameTaken_entry (hc : c < 64) : (s.frameTaken c l).connEntry c = s.connEntry c := frameTaken_kept hc (.entry hc)
theorem frameTaken_allow (hc : c < 64) (hg : g.addr = 0xD80100 + 16 * s.connEntry c) (hl : g.lo < 256) : (s.frameTaken c l).rd g = s.rd g :=
  frameTaken_kept hc (.allow connEntry_lt hg hl)

/-- A frame of kind k comes on connection c, passes checks 1 to 6, and finds the connection OPEN and its sequence number new. -/
structure Comes (s : State) (tr v : Nat) (b : List Byte) (c k : Nat) : Prop where
  passes : Passes s tr v b k
  conn   : s.connOf tr (v % 2 ^ 96) (frameId (unpackWords b)) = some c
  param  : s.paramOk (s.connEntry c) (unpackWords b) = true
  kind   : s.kindOk (some c) (s.connEntry c) k = true
theorem Comes.lt (h : Comes s tr v b c k) : c < 64 := connOf_lt h.conn
/-- R433 to R435, R466: a frame on an OPEN connection is taken, its FRAME line raised where its entry routes it, and has its effect. -/
theorem receiveAs_open (h : Comes s tr v b c k) (h3 : k ≠ 3) (ho : s.openConn c = true) (hn : s.SeqNext c (frameSeq (unpackWords b))) :
    s.receiveAs k tr v b true = ((s.seqMoved c (frameSeq (unpackWords b))).acceptFrame c (framePayload (unpackWords b))).frameEffect c k (framePayload (unpackWords b)) := by
  rw [receiveAs_conn h.passes h3 h.conn]
  unfold acceptOn
  simp only [h.param, h.passes.kind, h.kind, h3, ho, sequence_next hn, not_true_eq_false, if_true, if_false]
theorem acceptFrame_unrouted (hc : c < 64) (hit : s.rd (KSF_ALLOW_ITEN (s.connEntry c)) = 0) :
    (s.seqMoved c (frameSeq l)).acceptFrame c (framePayload l) = s.frameTaken c l := by
  have he : (s.seqMoved c (frameSeq l)).connEntry c = s.connEntry c := (NotRx.entry hc).kept hc seqMoved_rx
  rw [acceptFrame_eq, he, ← frameTaken, on, frameTaken_allow hc rfl (by simp [KSF_ALLOW_ITEN]), hit, if_neg (by decide)]
theorem receiveAs_unrouted (h : Comes s tr v b c k) (h3 : k ≠ 3) (ho : s.openConn c = true) (hn : s.SeqNext c (frameSeq (unpackWords b))) (hit : s.rd (KSF_ALLOW_ITEN (s.connEntry c)) = 0) :
    s.receiveAs k tr v b true = (s.frameTaken c (unpackWords b)).frameEffect c k (framePayload (unpackWords b)) := by
  rw [receiveAs_open h h3 ho hn, acceptFrame_unrouted h.lt hit]
/-- The core that a connection's entry routes its frames to. -/
def frameCore (s : State) (c : Nat) : Nat := s.coreOf (s.rd (KSF_ALLOW_ITENG (s.connEntry c))) (s.rd (KSF_ALLOW_ITCORE (s.connEntry c)))
theorem frameTaken_split {n : Nat} (hc : c < 64) : (s.frameTaken c l).split n = s.split n := by
  rw [split, frameTaken_kept hc (by simp [NotRx, Fld.key, PWR_SPLIT_MAP])]
  rfl
theorem frameTaken_core (hc : c < 64) : (s.frameTaken c l).frameCore c = s.frameCore c := by
  simp only [frameCore, coreOf, frameTaken_split hc, frameTaken_entry hc, frameTaken_allow (g := KSF_ALLOW_ITENG _) hc rfl (by simp [KSF_ALLOW_ITENG]),
    frameTaken_allow (g := KSF_ALLOW_ITCORE _) hc rfl (by simp [KSF_ALLOW_ITCORE])]
theorem raise_line {n i : Nat} (hi : i < 9) (hn : s.noCore n = false) : (s.raise n i).bit (PWR_IPEND_LINES n) i = true := by
  rw [raise, hn, if_neg (by decide)]
  exact (bit_putBit (f := PWR_IPEND_LINES n) (b := true) hi).trans (if_pos rfl)
/-- R435, R466: a routed frame stands, and the FRAME line of its core is set. -/
theorem acceptFrame_routed (hc : c < 64) (hit : s.rd (KSF_ALLOW_ITEN (s.connEntry c)) = 1) :
    FrameStands s ((s.seqMoved c (frameSeq l)).acceptFrame c (framePayload l)) c (frameSeq l) (framePayload l) ∧
      (s.noCore (s.frameCore c) = false → ((s.seqMoved c (frameSeq l)).acceptFrame c (framePayload l)).bit (PWR_IPEND_LINES (s.frameCore c)) 6 = true) := by
  have he : (s.seqMoved c (frameSeq l)).connEntry c = s.connEntry c := (NotRx.entry hc).kept hc seqMoved_rx
  have hu : (s.seqMoved c (frameSeq l)).acceptFrame c (framePayload l) = ((s.frameTaken c l).raise (s.frameCore c) 6).startRouted 2 3 := by
    rw [acceptFrame_eq, he, ← frameTaken, on, frameTaken_allow hc rfl (by simp [KSF_ALLOW_ITEN]), hit, if_pos (by decide), ← frameTaken_core (l := l) hc, frameCore, frameTaken_entry hc]
  have hlt : s.frameCore c < 256 := routed_lt
  rw [hu]
  refine ⟨frameTaken_stands.keptOn ((raise_keptOn hlt (by decide)).trans startRouted_keptOn).link, fun hn => startRouted_keptOn.lines _ _ hlt (raise_line (by decide) ?_)⟩
  rw [noCore, frameTaken_split hc]
  exact hn
end State
end Sys2Proof.Machine
end

section
/-! A connection that closes or opens (R432, R438, R442, R443, R449), and the frames LEAVE, ACCEPT and REFUSE. -/
namespace Sys2Proof.Machine
open Sys2Proof.Safety

variable {s t u : State} {l : List Word} {b : List Byte} {p : List Word} {tr via c e k q v id tx : Nat} {g : Fld} {w : List Fld} {init : Bool}

namespace State

/-! ### The end of a connection -/

theorem dropSlots_rest : { s.dropSlots c with regs := s.regs } = s := by
  have h := each_same (s := s) (l := List.range 64) (op := fun t k => if t.rd (KSF_SLOT_CONN k) = c then t.put (KSF_SLOT_VALID k) false else t)
    (fun t : State => { t with regs := s.regs }) fun t x _ => by
      split
      · rfl
      · rfl
  unfold dropSlots
  generalize s.each (List.range 64) _ = u at h ⊢
  exact h
theorem dropSlots_fields : FieldsKept ((List.range 64).map KSF_SLOT_VALID) s (s.dropSlots c) :=
  .each fun _ _ hk => .ite (.put (List.mem_map_of_mem hk) .refl) .refl
/-- R438: the slots that connection c set last are invalid. -/
theorem dropSlots_valid (hk : k < 64) : (s.dropSlots c).rd (KSF_SLOT_VALID k) = if s.rd (KSF_SLOT_CONN k) = c then 0 else s.rd (KSF_SLOT_VALID k) := by
  have h := each_once (s := s) (op := fun t k => if t.rd (KSF_SLOT_CONN k) = c then t.put (KSF_SLOT_VALID k) false else t)
    (fun t : State => (t.rd (KSF_SLOT_VALID k), t.rd (KSF_SLOT_CONN k))) (fun x => (if x.2 = c then 0 else x.1, x.2)) List.nodup_range (List.mem_range.2 hk)
    (fun t x _ hx => by
      split
      · rw [rd_put_ne, rd_put_ne] <;>
        · simp only [Fld.key, KSF_SLOT_VALID, KSF_SLOT_CONN, ne_eq]
          omega
      · rfl)
    (fun t => by
      dsimp only
      split
      · rw [rd_put_same (f := KSF_SLOT_VALID k) Nat.one_pos, rd_put_ne (by simp [Fld.key, KSF_SLOT_VALID, KSF_SLOT_CONN])]
        rfl
      · rfl)
  unfold dropSlots
  generalize s.each (List.range 64) _ = u at h ⊢
  exact congrArg Prod.fst h
theorem endConn_fields {st : Nat} : FieldsKept ([KSF_CONN_STATE c, KSF_STAT_NOPEN] ++ (List.range 64).map KSF_SLOT_VALID) s (s.endConn c st) := by
  unfold endConn showOpenConns
  exact .wr (List.mem_append_left _ (by simp)) (.trans (.wr (List.mem_append_left _ (by simp)) .refl) (dropSlots_fields.mono fun _ hg => List.mem_append_right _ hg))
theorem endConn_rest {st : Nat} : { s.endConn c st with regs := s.regs } = s :=
  congrArg (fun t : State => { t with regs := s.regs }) (dropSlots_rest (s := s.wr (KSF_CONN_STATE c) st) (c := c))
theorem endConn_ends {st : Nat} (hc : c < 64) (hst : st < 4) : (s.endConn c st).rd (KSF_CONN_STATE c) = st ∧
    ∀ k, k < 64 → (s.endConn c st).rd (KSF_SLOT_VALID k) = if s.rd (KSF_SLOT_CONN k) = c then 0 else s.rd (KSF_SLOT_VALID k) := by
  unfold endConn showOpenConns
  refine ⟨?_, fun k hk => ?_⟩
  · rw [rd_wr_ne, dropSlots_fields, rd_wr_same]
    · exact Nat.mod_eq_of_lt hst
    · intro g hg
      obtain ⟨k, hk, rfl⟩ := List.mem_map.1 hg
      simp only [Fld.key, KSF_CONN_STATE, KSF_SLOT_VALID, ne_eq]
      omega
    · simp only [Fld.key, KSF_CONN_STATE, KSF_STAT_NOPEN, ne_eq]
      omega
  · rw [rd_wr_ne, dropSlots_valid hk, rd_wr_ne, rd_wr_ne] <;>
    · simp only [Fld.key, KSF_CONN_STATE, KSF_STAT_NOPEN, KSF_SLOT_VALID, KSF_SLOT_CONN, ne_eq]
      omega
theorem end_notRx (hc : c < 64) : ∀ g ∈ [KSF_CONN_STATE c, KSF_STAT_NOPEN] ++ (List.range 64).map KSF_SLOT_VALID, NotRx g := by
  intro g hg
  simp only [List.mem_append, List.mem_map, List.mem_range, List.mem_cons, List.not_mem_nil, or_false] at hg
  rcases hg with (rfl | rfl) | ⟨k, hk, rfl⟩ <;>
  · simp only [NotRx, Fld.key, KSF_CONN_STATE, KSF_STAT_NOPEN, KSF_SLOT_VALID]
    omega
theorem slot_notRx (hk : k < 64) : ∀ g ∈ [KSF_SLOT_VAL k, KSF_SLOT_VALID k, KSF_SLOT_CONN k], NotRx g := by
  intro g hg
  simp only [List.mem_cons, List.not_mem_nil, or_false] at hg
  rcases hg with rfl | rfl | rfl <;>
  · simp only [NotRx, Fld.key, KSF_SLOT_VAL, KSF_SLOT_VALID, KSF_SLOT_CONN]
    omega
/-- R443: LEAVE stands in the receive registers, closes the connection and drops its slots. -/
theorem leave_effect (hc : c < 64) : let t := (s.frameTaken c l).endConn c 0
    FrameStands s t c (frameSeq l) (framePayload l) ∧
      (t.rd (KSF_CONN_STATE c) = 0 ∧ ∀ k, k < 64 → t.rd (KSF_SLOT_VALID k) = if s.rd (KSF_SLOT_CONN k) = c then 0 else s.rd (KSF_SLOT_VALID k)) ∧
      FieldsKept ([KSF_CONN_STATE c, KSF_STAT_NOPEN] ++ rxFields c ++ (List.range 64).map KSF_SLOT_VALID) s t ∧ { t with regs := s.regs, conns := s.conns } = s := by
  intro t
  have hrest : { t with regs := (s.frameTaken c l).regs } = s.frameTaken c l := endConn_rest
  have hends : t.rd (KSF_CONN_STATE c) = 0 ∧ ∀ k, k < 64 → t.rd (KSF_SLOT_VALID k) = _ := endConn_ends hc (by decide)
  have hfields : FieldsKept _ (s.frameTaken c l) t := endConn_fields
  clear_value t
  have hconns := congrArg State.conns hrest
  obtain ⟨hstate, hvalid⟩ := hends
  refine ⟨frameTaken_stands.fields hc hfields (end_notRx hc) hconns, ⟨hstate, fun k hk => ?_⟩, ?_, ?_⟩
  · rw [hvalid k hk, frameTaken_kept hc (slot_notRx hk _ (by simp)), frameTaken_kept hc (slot_notRx hk _ (by simp))]
  · refine (frameTaken_fields.mono fun g hg => ?_).trans (hfields.mono fun g hg => ?_)
    · simp only [List.mem_append, hg, true_or, or_true]
    · simp only [List.mem_append] at hg ⊢
      tauto
  · exact (congrArg (fun x : State => { x with regs := s.regs, conns := s.conns }) hrest).trans frameTaken_rest

/-! ### The start of a connection -/

/-- The fields that the start of connection c writes. -/
def connFields (c : Nat) : List Fld :=
  [KSF_CONN_STATE c, KSF_CONN_ENTRY c, KSF_CONN_INIT c, KSF_CONN_ID c, KSF_CONN_TXSEQ c, KSF_CONN_LOSTF c, KSF_CONN_SEQD c, KSF_CONN_CHKD c, KSF_STAT_NOPEN]
/-- R432, R442, R449: connection c is OPEN on entry e with an identity and a link address, and its counters are 0. -/
def ConnOpened (s t : State) (c e via id init tx : Nat) : Prop :=
  t.rd (KSF_CONN_STATE c) = 2 ∧ t.rd (KSF_CONN_ENTRY c) = e ∧ t.rd (KSF_CONN_INIT c) = init ∧ t.rd (KSF_CONN_ID c) = id ∧
    t.rd (KSF_CONN_TXSEQ c) = tx ∧ t.rd (KSF_CONN_LOSTF c) = 0 ∧ t.rd (KSF_CONN_SEQD c) = 0 ∧ t.rd (KSF_CONN_CHKD c) = 0 ∧ (t.conn c).heardAt = s.time ∧ (t.conn c).tr = s.rd (KSF_ALLOW_TR e) ∧
    (t.conn c).peer = some via ∧ t.pair = if s.rd (KSF_ALLOW_PARTNER e) = 1 then { s.pair with ident := some (min (s.rd KSF_OWNID_ID) id) } else s.pair
/-- The registers of connection c, and their values as it starts. -/
def connValues (c e id : Nat) (init : Bool) (tx : Nat) : List (Fld × Nat) :=
  [(KSF_CONN_STATE c, 2), (KSF_CONN_ENTRY c, e), (KSF_CONN_INIT c, init.toNat), (KSF_CONN_ID c, id), (KSF_CONN_TXSEQ c, tx), (KSF_CONN_LOSTF c, 0), (KSF_CONN_SEQD c, 0), (KSF_CONN_CHKD c, 0)]
theorem foldl_wr_rd {ws : List (Fld × Nat)} {x : Fld × Nat} (hk : ws.Pairwise fun a b => a.1.key ≠ b.1.key) (hx : x ∈ ws) :
    (ws.foldl (fun (t : State) x => t.wr x.1 x.2) s).rd x.1 = x.2 % 2 ^ x.1.width := by
  have other : ∀ (r : List (Fld × Nat)) (t : State), (∀ y ∈ r, x.1.key ≠ y.1.key) → (r.foldl (fun (t : State) x => t.wr x.1 x.2) t).rd x.1 = t.rd x.1 := by
    intro r
    induction r with
    | nil => exact fun _ _ => rfl
    | cons y r ih => exact fun t h => (ih _ fun z hz => h z (List.mem_cons_of_mem _ hz)).trans (rd_wr_ne (h y List.mem_cons_self))
  induction ws generalizing s with
  | nil => cases hx
  | cons y r ih =>
    obtain ⟨hy, hr⟩ := List.pairwise_cons.1 hk
    rcases List.mem_cons.1 hx with rfl | hx
    · rw [List.foldl_cons, other r _ hy, rd_wr_same]
    · exact ih hr hx
theorem conn_keys : (connValues c e id init tx).Pairwise fun a b => a.1.key ≠ b.1.key := by
  simp [connValues, Fld.key, KSF_CONN_STATE, KSF_CONN_ENTRY, KSF_CONN_INIT, KSF_CONN_ID, KSF_CONN_TXSEQ, KSF_CONN_LOSTF, KSF_CONN_SEQD, KSF_CONN_CHKD]
/-- The registers of connection c are written as it starts. -/
@[irreducible] def connRegs (s : State) (c e id : Nat) (init : Bool) (tx : Nat) : State :=
  (connValues c e id init tx).foldl (fun t x => t.wr x.1 x.2) s
/-- What the device holds of connection c as it starts. -/
def connHeld (s : State) (e via : Nat) (x : Conn) : Conn :=
  { x with tr := s.rd (KSF_ALLOW_TR e), peer := some via, heardAt := s.time, fresh := true, checks := [], sentAt := s.time }
theorem startConn_eq : s.startConn c e via id init tx =
    (((s.connRegs c e id init tx).modConn c ((s.connRegs c e id init tx).connHeld e via)).knowPartner e id).showOpenConns := by
  unfold connRegs
  rfl
theorem connRegs_fields : FieldsKept (connFields c) s (s.connRegs c e id init tx) := by
  unfold connRegs connValues
  exact .wr (by simp [connFields]) (.wr (by simp [connFields]) (.wr (by simp [connFields]) (.wr (by simp [connFields]) (.wr (by simp [connFields])
    (.wr (by simp [connFields]) (.wr (by simp [connFields]) (.wr (by simp [connFields]) .refl)))))))
theorem connRegs_reads : let t := s.connRegs c e id init tx
    t.rd (KSF_CONN_STATE c) = 2 ∧ t.rd (KSF_CONN_ENTRY c) = e % 32 ∧ t.rd (KSF_CONN_INIT c) = init.toNat ∧ t.rd (KSF_CONN_ID c) = id % 2 ^ 32 ∧ t.rd (KSF_CONN_TXSEQ c) = tx % 65536 ∧
      t.rd (KSF_CONN_LOSTF c) = 0 ∧ t.rd (KSF_CONN_SEQD c) = 0 ∧ t.rd (KSF_CONN_CHKD c) = 0 := by
  have h : ∀ x ∈ connValues c e id init tx, (s.connRegs c e id init tx).rd x.1 = x.2 % 2 ^ x.1.width := fun _ hx => by
    unfold connRegs
    exact foldl_wr_rd conn_keys hx
  simp only [connValues, List.forall_mem_cons] at h
  obtain ⟨hstate, hentry, hinit, hid, htx, hlost, hseqd, hchkd, -⟩ := h
  exact ⟨hstate, hentry, hinit.trans (Nat.mod_eq_of_lt (Bool.toNat_lt init)), hid, htx, hlost, hseqd, hchkd⟩
/-- The key of f is not one of those of a connection's registers, nor of the count of the OPEN ones. -/
def NotConn (f : Fld) : Prop := f.key < 0xD8040000 ∧ f.key ≠ 0xD8000100 ∨ 0xD8080000 ≤ f.key
theorem connFields_ne {f : Fld} (hf : NotConn f) (hc : c < 64) : ∀ g ∈ connFields c, f.key ≠ g.key := by
  intro g hg
  unfold NotConn at hf
  simp only [connFields, List.mem_cons, List.not_mem_nil, or_false] at hg
  rcases hg with rfl | rfl | rfl | rfl | rfl | rfl | rfl | rfl | rfl <;>
  · simp only [Fld.key, KSF_CONN_STATE, KSF_CONN_ENTRY, KSF_CONN_INIT, KSF_CONN_ID, KSF_CONN_TXSEQ, KSF_CONN_LOSTF, KSF_CONN_SEQD, KSF_CONN_CHKD, KSF_STAT_NOPEN] at hf ⊢
    omega
theorem connRegs_rest : { s.connRegs c e id init tx with regs := s.regs } = s := by
  have h := foldl_same (s := s) (fs := connValues c e id init tx) (op := fun t x => t.wr x.1 x.2) (fun t : State => { t with regs := s.regs }) fun _ _ => rfl
  unfold connRegs
  generalize List.foldl _ _ _ = u at h ⊢
  exact h
theorem connRegs_kept : (s.connRegs c e id init tx).conn = s.conn ∧ (s.connRegs c e id init tx).time = s.time ∧ (s.connRegs c e id init tx).pair = s.pair := by
  have h := connRegs_rest (s := s) (c := c) (e := e) (id := id) (init := init) (tx := tx)
  generalize s.connRegs c e id init tx = u at h ⊢
  have hconn := congrArg State.conn h
  have htime := congrArg State.time h
  have hpair := congrArg State.pair h
  exact ⟨hconn, htime, hpair⟩
theorem connRegs_low {f : Fld} (hc : c < 64) (hf : NotConn f) : (s.connRegs c e id init tx).rd f = s.rd f :=
  connRegs_fields f (connFields_ne hf hc)
theorem allow_notConn (he : e < 32) (hg : g.addr = 0xD80100 + 16 * e) (hl : g.lo < 256) : NotConn g := by
  simp only [NotConn, Fld.key, hg]
  omega
theorem knowPartner_regs : (s.knowPartner e id).regs = s.regs := by
  unfold knowPartner
  split <;> rfl
theorem knowPartner_conn : (s.knowPartner e id).conn = s.conn := by
  unfold knowPartner
  split <;> rfl
theorem knowPartner_pair : (s.knowPartner e id).pair = if s.rd (KSF_ALLOW_PARTNER e) = 1 then { s.pair with ident := some (min (s.rd KSF_OWNID_ID) id) } else s.pair := by
  have hbit : s.rd (KSF_ALLOW_PARTNER e) < 2 := rd_lt
  unfold knowPartner on
  by_cases h : s.rd (KSF_ALLOW_PARTNER e) = 1
  · rw [if_pos (by simp [h]), if_pos h]
  · rw [if_neg (by simp; omega), if_neg h]
theorem startConn_fields : FieldsKept (connFields c) s (s.startConn c e via id init tx) := by
  rw [startConn_eq]
  exact .wr (by simp [connFields]) ((connRegs_fields.modConn).trans (.same knowPartner_regs))
theorem startConn_rest : { s.startConn c e via id init tx with regs := s.regs, conns := s.conns, pair := s.pair } = s := by
  have h := congrArg (fun t : State => { t with conns := s.conns, pair := s.pair }) (connRegs_rest (s := s) (c := c) (e := e) (id := id) (init := init) (tx := tx))
  rw [startConn_eq]
  generalize s.connRegs c e id init tx = u at h ⊢
  unfold knowPartner
  split <;> exact h
theorem startConn_conn {m : Nat} : (s.startConn c e via id init tx).conn m = if m = c then (s.connRegs c e id init tx).connHeld e via (s.conn c) else s.conn m := by
  rw [startConn_eq, showOpenConns, wr_conn, knowPartner_conn, conn_modConn, connRegs_kept.1]
theorem startConn_low {f : Fld} (hc : c < 64) (hf : NotConn f) : (s.startConn c e via id init tx).rd f = s.rd f :=
  startConn_fields f (connFields_ne hf hc)
/-- R432, R442, R449: a connection that starts is OPEN, and its counters are 0. -/
theorem startConn_opened (hc : c < 64) (he : e < 32) (hid : id < 2 ^ 32) (htx : tx < 65536) : ConnOpened s (s.startConn c e via id init tx) c e via id init.toNat tx ∧
    ElseSame (s.startConn c e via id init tx).conn s.conn c := by
  obtain ⟨hstate, hentry, hinit, hident, hseq, hlost, hseqd, hchkd⟩ := connRegs_reads (s := s) (c := c) (e := e) (id := id) (init := init) (tx := tx)
  have hread : ∀ f : Fld, f.key ≠ KSF_STAT_NOPEN.key → (s.startConn c e via id init tx).rd f = (s.connRegs c e id init tx).rd f := fun f hf => by
    rw [startConn_eq, showOpenConns, rd_wr_ne hf, rd, knowPartner_regs, ← rd, modConn_rd]
  have hkey : ∀ f ∈ [KSF_CONN_STATE c, KSF_CONN_ENTRY c, KSF_CONN_INIT c, KSF_CONN_ID c, KSF_CONN_TXSEQ c, KSF_CONN_LOSTF c, KSF_CONN_SEQD c, KSF_CONN_CHKD c], f.key ≠ KSF_STAT_NOPEN.key := by
    simp only [List.forall_mem_cons, Fld.key, KSF_CONN_STATE, KSF_CONN_ENTRY, KSF_CONN_INIT, KSF_CONN_ID, KSF_CONN_TXSEQ, KSF_CONN_LOSTF, KSF_CONN_SEQD, KSF_CONN_CHKD, KSF_STAT_NOPEN, ne_eq,
      List.not_mem_nil, false_implies, implies_true, and_true]
    omega
  simp only [List.forall_mem_cons, List.not_mem_nil, false_implies, implies_true, and_true] at hkey
  obtain ⟨k1, k2, k3, k4, k5, k6, k7, k8⟩ := hkey
  have htr : (s.connRegs c e id init tx).rd (KSF_ALLOW_TR e) = s.rd (KSF_ALLOW_TR e) := connRegs_low hc (allow_notConn he rfl (by simp [KSF_ALLOW_TR]))
  refine ⟨⟨(hread _ k1).trans hstate, (hread _ k2).trans (hentry.trans (Nat.mod_eq_of_lt he)), (hread _ k3).trans hinit, (hread _ k4).trans (hident.trans (Nat.mod_eq_of_lt hid)),
    (hread _ k5).trans (hseq.trans (Nat.mod_eq_of_lt htx)), (hread _ k6).trans hlost, (hread _ k7).trans hseqd, (hread _ k8).trans hchkd, ?_, ?_, ?_, ?_⟩, fun m hm => ?_⟩
  · rw [startConn_conn, if_pos rfl]
    exact connRegs_kept.2.1
  · rw [startConn_conn, if_pos rfl]
    exact htr
  · rw [startConn_conn, if_pos rfl]
    rfl
  · have hpartner : (s.connRegs c e id init tx).rd (KSF_ALLOW_PARTNER e) = s.rd (KSF_ALLOW_PARTNER e) := connRegs_low hc (allow_notConn he rfl (by simp [KSF_ALLOW_PARTNER]))
    have hown : (s.connRegs c e id init tx).rd KSF_OWNID_ID = s.rd KSF_OWNID_ID := connRegs_low hc (by simp [NotConn, Fld.key, KSF_OWNID_ID])
    rw [startConn_eq, showOpenConns, wr_pair, knowPartner_pair, modConn_rd, modConn_rd, hpartner, hown, modConn_pair, connRegs_kept.2.2]
  · rw [startConn_conn, if_neg hm]

/-! ### The answers to an own JOIN (R442) -/

theorem ConnOpened.of_same {init : Nat} (h : ConnOpened s t c e via id init tx) (hf : ∀ g ∈ [KSF_CONN_STATE c, KSF_CONN_ENTRY c, KSF_CONN_INIT c, KSF_CONN_ID c, KSF_CONN_TXSEQ c, KSF_CONN_LOSTF c,
    KSF_CONN_SEQD c, KSF_CONN_CHKD c], u.rd g = t.rd g) (hheard : (u.conn c).heardAt = (t.conn c).heardAt) (htr : (u.conn c).tr = (t.conn c).tr) (hpeer : (u.conn c).peer = (t.conn c).peer)
    (hpair : u.pair = t.pair) : ConnOpened s u c e via id init tx := by
  obtain ⟨h1, h2, h3, h4, h5, h6, h7, h8, h9, h10, h11, h12⟩ := h
  simp only [List.forall_mem_cons, List.not_mem_nil, false_implies, implies_true, and_true] at hf
  obtain ⟨f1, f2, f3, f4, f5, f6, f7, f8⟩ := hf
  exact ⟨f1.trans h1, f2.trans h2, f3.trans h3, f4.trans h4, f5.trans h5, f6.trans h6, f7.trans h7, f8.trans h8, hheard.trans h9, htr.trans h10, hpeer.trans h11, hpair.trans h12⟩
/-- A frame with sequence number q is the first on connection c. -/
def seqFirst (s : State) (c q : Nat) : State := (s.wr (KSF_CONN_RXSEQ c) q).modConn c fun x => { x with fresh := false }
theorem seqFirst_conn {m : Nat} : (s.seqFirst c q).conn m = if m = c then { s.conn c with fresh := false } else s.conn m := by
  unfold seqFirst
  rw [conn_modConn, wr_conn, wr_conn]
theorem seqFirst_ne (h : g.key ≠ (KSF_CONN_RXSEQ c).key) : (s.seqFirst c q).rd g = s.rd g := rd_wr_ne h
theorem seqFirst_opened {init : Nat} (h : ConnOpened s t c e via id init tx) : ConnOpened s (t.seqFirst c q) c e via id init tx := by
  refine h.of_same (fun g hg => seqFirst_ne ?_) ?_ ?_ ?_ rfl
  · simp only [List.mem_cons, List.not_mem_nil, or_false] at hg
    rcases hg with rfl | rfl | rfl | rfl | rfl | rfl | rfl | rfl <;>
    · simp only [Fld.key, KSF_CONN_STATE, KSF_CONN_ENTRY, KSF_CONN_INIT, KSF_CONN_ID, KSF_CONN_TXSEQ, KSF_CONN_LOSTF, KSF_CONN_SEQD, KSF_CONN_CHKD, KSF_CONN_RXSEQ]
      omega
  · rw [seqFirst_conn, if_pos rfl]
  · rw [seqFirst_conn, if_pos rfl]
  · rw [seqFirst_conn, if_pos rfl]
theorem frameStored_opened {init : Nat} (hc : c < 64) (h : ConnOpened s t c e via id init tx) (htime : t.time = s.time) : ConnOpened s (t.frameStored c p) c e via id init tx := by
  have hpair := congrArg State.pair (frameStored_rest (s := t) (c := c) (p := p))
  have ⟨_, _, _, _, _, _, _, _, hheard, _⟩ := h
  have hother : ∀ g ∈ [KSF_CONN_STATE c, KSF_CONN_ENTRY c, KSF_CONN_INIT c, KSF_CONN_ID c, KSF_CONN_TXSEQ c, KSF_CONN_SEQD c, KSF_CONN_CHKD c], (t.frameStored c p).rd g = t.rd g := by
    refine fun g hg => NotRx.kept ?_ hc frameStored_fields
    simp only [List.mem_cons, List.not_mem_nil, or_false] at hg
    rcases hg with rfl | rfl | rfl | rfl | rfl | rfl | rfl <;>
    · simp only [NotRx, Fld.key, KSF_CONN_STATE, KSF_CONN_ENTRY, KSF_CONN_INIT, KSF_CONN_ID, KSF_CONN_TXSEQ, KSF_CONN_SEQD, KSF_CONN_CHKD]
      omega
  have hlost : (t.frameStored c p).rd (KSF_CONN_LOSTF c) = t.rd (KSF_CONN_LOSTF c) := frameStored_seq _ (by simp)
  refine h.of_same (fun g hg => ?_) ?_ ?_ ?_ hpair
  · simp only [List.forall_mem_cons, List.not_mem_nil, false_implies, implies_true, and_true] at hother
    simp only [List.mem_cons, List.not_mem_nil, or_false] at hg
    obtain ⟨hstate, hentry, hinit, hid, htx, hseqd, hchkd⟩ := hother
    rcases hg with rfl | rfl | rfl | rfl | rfl | rfl | rfl | rfl
    exacts [hstate, hentry, hinit, hid, htx, hlost, hseqd, hchkd]
  · rw [frameStored_conn, if_pos rfl, hheard]
    exact htime
  · rw [frameStored_conn, if_pos rfl]
  · rw [frameStored_conn, if_pos rfl]
/-- R442: an ACCEPT opens its connection, and stands in the receive registers. -/
theorem accept_effect (hc : c < 64) (he : e < 32) (hid : id < 2 ^ 32) (hq : q < 65536) (hit : s.rd (KSF_ALLOW_ITEN e) = 0) :
    ∃ t, ((s.startConn c e via id true 1).seqFirst c q).acceptFrame c p = t ∧ ConnOpened s t c e via id 1 1 ∧ FrameStands s t c q p ∧
      FieldsKept (connFields c ++ rxFields c) s t ∧ { t with regs := s.regs, conns := s.conns, pair := s.pair } = s := by
  obtain ⟨hopen, helse⟩ := startConn_opened (s := s) (via := via) (init := true) (tx := 1) hc he hid (by decide)
  have hrest := startConn_rest (s := s) (c := c) (e := e) (via := via) (id := id) (init := true) (tx := 1)
  have hfields := startConn_fields (s := s) (c := c) (e := e) (via := via) (id := id) (init := true) (tx := 1)
  generalize s.startConn c e via id true 1 = v at *
  have htime := congrArg State.time hrest
  have hdev := congrArg State.devTime hrest
  have hopen := seqFirst_opened (q := q) hopen
  have hrest : { v.seqFirst c q with regs := s.regs, conns := s.conns, pair := s.pair } = s := hrest
  have hcnt : (v.seqFirst c q).rd (KSF_RXCNT_COUNT c) = s.rd (KSF_RXCNT_COUNT c) := by
    rw [seqFirst_ne, hfields _ (connFields_ne _ hc)] <;>
    · simp only [NotConn, Fld.key, KSF_RXCNT_COUNT, KSF_CONN_RXSEQ, ne_eq]
      omega
  have hfields : FieldsKept (connFields c ++ rxFields c) s (v.seqFirst c q) := .modConn (.wr (by simp [rxFields]) (hfields.mono fun _ hg => List.mem_append_left _ hg))
  have hseq : (v.seqFirst c q).rd (KSF_CONN_RXSEQ c) = q := rd_wr_same.trans (Nat.mod_eq_of_lt hq)
  have hfresh : ((v.seqFirst c q).conn c).fresh = false := by rw [seqFirst_conn, if_pos rfl]
  have helse : ElseSame (v.seqFirst c q).conn s.conn c := fun m hm => by
    rw [seqFirst_conn, if_neg hm]
    exact helse m hm
  have htime : (v.seqFirst c q).time = s.time := htime
  have hdev : (v.seqFirst c q).devTime = s.devTime := hdev
  generalize v.seqFirst c q = u at *
  have ⟨_, hentry, _⟩ := hopen
  have hentry : u.connEntry c = e := hentry
  refine ⟨u.frameStored c p, ?_, frameStored_opened hc hopen htime, frameStored_stands hseq hcnt htime hdev hfresh helse,
    hfields.trans (frameStored_fields.mono fun _ hg => List.mem_append_right _ hg), ?_⟩
  · have hallow : NotRx (KSF_ALLOW_ITEN e) := .allow he rfl (by simp [KSF_ALLOW_ITEN])
    have hiten : u.rd (KSF_ALLOW_ITEN e) = s.rd (KSF_ALLOW_ITEN e) := hfields _ fun f hf =>
      (List.mem_append.1 hf).elim (connFields_ne (allow_notConn he rfl (by simp [KSF_ALLOW_ITEN])) hc f) (hallow.ne hc f)
    rw [acceptFrame_eq, hentry, on, hallow.kept hc frameStored_fields, hiten, hit, if_neg (by decide)]
  · exact (congrArg (fun x : State => { x with regs := s.regs, conns := s.conns, pair := s.pair }) frameStored_rest).trans hrest
theorem joining_not_open (h : s.rd (KSF_CONN_STATE c) = 1) : s.openConn c = false := by simp [openConn, h]
theorem receiveAs_accept (h : Comes s tr v b c 4) (hs : s.rd (KSF_CONN_STATE c) = 1) : s.receiveAs 4 tr v b true =
    ((s.startConn c (s.connEntry c) (v % 2 ^ 96) (frameId (unpackWords b)) true 1).seqFirst c (frameSeq (unpackWords b))).acceptFrame c (framePayload (unpackWords b)) := by
  rw [receiveAs_conn h.passes (by decide) h.conn]
  unfold acceptOn
  simp only [h.param, h.passes.kind, h.kind, joining_not_open hs, not_true_eq_false, if_true, if_false, Bool.false_eq_true, show ¬(4 = 3) by decide]
  rfl
/-- R442: a REFUSE notes its time. -/
theorem receiveAs_refuse (h : Comes s tr v b c 5) (hs : s.rd (KSF_CONN_STATE c) = 1) : s.receiveAs 5 tr v b true = s.modConn c fun x => { x with joinAt := some s.time } := by
  rw [receiveAs_conn h.passes (by decide) h.conn]
  unfold acceptOn
  simp only [h.param, h.passes.kind, h.kind, joining_not_open hs, not_true_eq_false, if_true, if_false, Bool.false_eq_true, show ¬(5 = 3) by decide, show ¬(5 = 4) by decide]
end State
end Sys2Proof.Machine
end

section
/-! A frame that leaves (R424, R427 to R430), and the admission of a JOIN (R441, R442). -/
namespace Sys2Proof.Machine
open Sys2Proof.Safety

variable {s t u : State} {l : List Word} {b : List Byte} {p words : List Nat} {tr via c e k q v id tx : Nat} {g : Fld} {peer : Option Nat}

namespace State

/-! ### A frame that leaves -/

/-- A frame of entry e leaves on its transport, where that is up, or the checkers' disagreement is noted. -/
structure FrameLeaves (s t : State) (e : Nat) (peer : Option Nat) (words : List Nat) : Prop where
  sent   : t.sent = (if s.trUp (s.rd (KSF_ALLOW_TR e)) = true ∧ s.checkersAgree words = true then [s.sentFrame e peer words] else []) ++ s.sent
  shown  : t.rd KSF_STAT_CHKDIS = if s.trUp (s.rd (KSF_ALLOW_TR e)) = true ∧ s.checkersAgree words = false then 1 else s.rd KSF_STAT_CHKDIS
  noted  : t.coll = (if s.trUp (s.rd (KSF_ALLOW_TR e)) = true ∧ s.checkersAgree words = false then s.report clLink 0x0E2 2 13 else s).coll
theorem transmit_leaves : FrameLeaves s (s.transmit e peer words) e peer words := by
  unfold transmit
  cases hup : s.trUp (s.rd (KSF_ALLOW_TR e))
  · refine ⟨?_, ?_, ?_⟩ <;> simp [hup]
  · cases hagree : s.checkersAgree words
    · simp only [not_true_eq_false, Bool.false_eq_true, if_false]
      refine ⟨?_, ?_, ?_⟩
      · simp [hup, hagree]
        rfl
      · rw [if_pos ⟨hup, hagree⟩]
        exact rd_put_same (f := KSF_STAT_CHKDIS) (b := true) (by decide)
      · rw [if_pos ⟨hup, hagree⟩]
        exact report_congr rfl rfl rfl
    · simp only [not_true_eq_false, if_false, if_true]
      refine ⟨?_, ?_, ?_⟩
      · simp [hup, hagree]
      · simp [hagree]
        rfl
      · simp [hagree]
theorem transmit_fields : FieldsKept [KSF_STAT_CHKDIS] s (s.transmit e peer words) := by
  unfold transmit
  exact .ite .refl (.ite (.same rfl) (.report (.raiseFlag (by simp) .refl)))
theorem transmit_rest : { s.transmit e peer words with regs := s.regs, hwNow := s.hwNow, sent := s.sent, coll := s.coll } = s := by
  unfold transmit
  split
  · rfl
  · split <;> rfl

/-- Of the registers, only those of connections may differ, and what tells whether the fabric and the transports have power does not. -/
structure SendAlike (s u : State) : Prop where
  low   : ∀ f, NotConn f → u.rd f = s.rd f
  dev   : u.dev = s.dev
  pwr   : u.pwr = s.pwr
  xtal  : u.xtalLost = s.xtalLost
  wide  : u.wide = s.wide
  time  : u.time = s.time
namespace SendAlike
theorem allow (h : SendAlike s u) (he : e < 32) (hg : g.addr = 0xD80100 + 16 * e) (hl : g.lo < 256) : u.rd g = s.rd g := h.low g (allow_notConn he hg hl)
theorem fabricOff (h : SendAlike s u) : u.fabricOff = s.fabricOff := by
  rw [State.fabricOff, State.allOff, on, h.dev, h.pwr, h.xtal, h.low _ (by simp [NotConn, Fld.key, PWR_SUPST_VCORE])]
  rfl
theorem trPowered (h : SendAlike s u) : u.trPowered tr = s.trPowered tr := by
  have hany : ((List.range 32).any fun e => u.on (KSF_ALLOW_WKEEP e) && u.rd (KSF_ALLOW_TR e) == tr) = (List.range 32).any fun e => s.on (KSF_ALLOW_WKEEP e) && s.rd (KSF_ALLOW_TR e) == tr :=
    Bool.eq_iff_iff.2 <| by
      simp only [List.any_eq_true]
      refine exists_congr fun e => and_congr_right fun he => ?_
      rw [on, h.allow (List.mem_range.1 he) rfl (by simp [KSF_ALLOW_WKEEP]), h.allow (List.mem_range.1 he) rfl (by simp [KSF_ALLOW_TR])]
      rfl
  rw [State.trPowered, h.fabricOff, h.wide, hany]
  rfl
theorem transport (h : SendAlike s u) (ht : tr < 8) : ∀ f ∈ [KSF_CTL_CANEN, KSF_CTL_ETHEN, KSF_CTL_KLEN, HIF_KLSTAT_STATE, MIR_STAT_LINK, KSF_UDPPORT_PORT, KSF_OWNID_ID, KSF_CAN_EN tr, KSF_CAN_BOFF tr, KSF_CAN_LOM tr,
    KSF_ETH_LINK (tr - 4), KSF_ETH_VEN (tr - 4), KSF_ETH_PCP (tr - 4), KSF_ETH_VID (tr - 4)], u.rd f = s.rd f := by
  intro f hf
  refine h.low f ?_
  simp only [List.mem_cons, List.not_mem_nil, or_false] at hf
  rcases hf with rfl | rfl | rfl | rfl | rfl | rfl | rfl | rfl | rfl | rfl | rfl | rfl | rfl | rfl <;>
  · simp only [NotConn, Fld.key, KSF_CTL_CANEN, KSF_CTL_ETHEN, KSF_CTL_KLEN, HIF_KLSTAT_STATE, MIR_STAT_LINK, KSF_UDPPORT_PORT, KSF_OWNID_ID, KSF_CAN_EN, KSF_CAN_BOFF, KSF_CAN_LOM, KSF_ETH_LINK,
      KSF_ETH_VEN, KSF_ETH_PCP, KSF_ETH_VID]
    omega
theorem trUp (h : SendAlike s u) (ht : tr < 8) : u.trUp tr = s.trUp tr := by
  have hf := h.transport ht
  simp only [List.forall_mem_cons, List.not_mem_nil, false_implies, implies_true, and_true] at hf
  obtain ⟨hcanen, hethen, hklen, hkl, hmir, -, -, hen, hboff, hlom, hlink, -⟩ := hf
  simp only [State.trUp, h.trPowered, bit, on, hcanen, hethen, hklen, hkl, hmir, hen, hboff, hlom, hlink]
theorem checkersAgree (h : SendAlike s u) : u.checkersAgree words = s.checkersAgree words := by
  rw [State.checkersAgree, State.checkersAgree, h.time]
theorem sentFrame (h : SendAlike s u) (he : e < 32) : u.sentFrame e peer words = s.sentFrame e peer words := by
  have hf := h.transport (tr := s.rd (KSF_ALLOW_TR e)) (rd_lt (f := KSF_ALLOW_TR e))
  simp only [List.forall_mem_cons, List.not_mem_nil, false_implies, implies_true, and_true] at hf
  obtain ⟨-, -, -, -, -, hport, -, -, -, -, -, hven, hpcp, hvid⟩ := hf
  have htr : u.rd (KSF_ALLOW_TR e) = s.rd (KSF_ALLOW_TR e) := h.allow he rfl (by simp [KSF_ALLOW_TR])
  have hcan : u.rd (KSF_ALLOW_CANID e) = s.rd (KSF_ALLOW_CANID e) := h.allow he rfl (by simp [KSF_ALLOW_CANID])
  simp only [State.sentFrame, State.linkAddr, on, htr, hcan, hport, hven, hpcp, hvid]
  rfl
theorem leaves (h : SendAlike s u) (he : e < 32) (hsent : u.sent = s.sent) (hcoll : u.coll = s.coll) (hofs : u.devOfs = s.devOfs) (hl : FrameLeaves u t e peer words) : FrameLeaves s t e peer words := by
  have htr : u.rd (KSF_ALLOW_TR e) = s.rd (KSF_ALLOW_TR e) := h.allow he rfl (by simp [KSF_ALLOW_TR])
  have hdis : u.rd KSF_STAT_CHKDIS = s.rd KSF_STAT_CHKDIS := h.low _ (by simp [NotConn, Fld.key, KSF_STAT_CHKDIS])
  have hrep : (u.report clLink 0x0E2 2 13).coll = (s.report clLink 0x0E2 2 13).coll := report_congr hcoll h.time hofs
  obtain ⟨hs, hd, hn⟩ := hl
  rw [htr, h.trUp rd_lt, h.checkersAgree] at hs hd hn
  refine ⟨?_, ?_, ?_⟩
  · rw [hs, h.sentFrame he, hsent]
  · rw [hd, hdis]
  · rw [hn]
    split
    · exact hrep
    · exact hcoll
end SendAlike

/-! ### The answer to a JOIN -/

/-- The words of a frame with a payload that belongs to no connection of entry e. -/
def answerWords (s : State) (e : Nat) (p : List Nat) : List Nat := ksfFrame (s.rd KSF_OWNID_ID) 0 (s.rd (KSF_ALLOW_TEXP e)) (padTo (s.rd (KSF_ALLOW_LEN e)) p)
theorem SendAlike.answerWords (h : SendAlike s u) (he : e < 32) : u.answerWords e p = s.answerWords e p := by
  have hown : u.rd KSF_OWNID_ID = s.rd KSF_OWNID_ID := h.low _ (by simp [NotConn, Fld.key, KSF_OWNID_ID])
  rw [State.answerWords, hown, h.allow (g := KSF_ALLOW_TEXP e) he rfl (by simp [KSF_ALLOW_TEXP]), h.allow (g := KSF_ALLOW_LEN e) he rfl (by simp [KSF_ALLOW_LEN])]
  rfl
theorem sendEntry_leaves : FrameLeaves s (s.sendEntry e peer p) e peer (s.answerWords e p) := transmit_leaves
theorem startConn_alike {init : Bool} (hc : c < 64) : SendAlike s (s.startConn c e via id init tx) := by
  have hrest := startConn_rest (s := s) (c := c) (e := e) (via := via) (id := id) (init := init) (tx := tx)
  have hlow : ∀ f, NotConn f → (s.startConn c e via id init tx).rd f = s.rd f := fun f hf => startConn_low hc hf
  generalize s.startConn c e via id init tx = u at *
  have hdev := congrArg State.dev hrest
  have hpwr := congrArg State.pwr hrest
  have hxtal := congrArg State.xtalLost hrest
  have hwide := congrArg State.wide hrest
  have htime := congrArg State.time hrest
  exact ⟨hlow, hdev, hpwr, hxtal, hwide, htime⟩
/-- R441: an admitted JOIN opens a connection, and ACCEPT leaves. -/
theorem admit_effect (hc : c < 64) (he : e < 32) (hid : id < 2 ^ 32) : ∃ t, (s.startConn c e via id false 1).sendEntry e (some via) [4] = t ∧ ConnOpened s t c e via id 0 1 ∧
    FrameLeaves s t e (some via) (s.answerWords e [4]) ∧ ElseSame t.conn s.conn c ∧ FieldsKept (KSF_STAT_CHKDIS :: connFields c) s t ∧
    { t with regs := s.regs, hwNow := s.hwNow, conns := s.conns, sent := s.sent, pair := s.pair, coll := s.coll } = s := by
  obtain ⟨hopen, helse⟩ := startConn_opened (s := s) (via := via) (init := false) (tx := 1) hc he hid (by decide)
  have hrest := startConn_rest (s := s) (c := c) (e := e) (via := via) (id := id) (init := false) (tx := 1)
  have hfields := startConn_fields (s := s) (c := c) (e := e) (via := via) (id := id) (init := false) (tx := 1)
  have halike := startConn_alike (s := s) (e := e) (via := via) (id := id) (init := false) (tx := 1) hc
  generalize s.startConn c e via id false 1 = u at *
  have hcoll := congrArg State.coll hrest
  have hsent := congrArg State.sent hrest
  have hofs := congrArg State.devOfs hrest
  have hleaves : FrameLeaves s _ e (some via) _ := halike.leaves he hsent hcoll hofs (sendEntry_leaves (s := u) (peer := some via) (p := [4]))
  have hkept : FieldsKept [KSF_STAT_CHKDIS] u (u.sendEntry e (some via) [4]) := transmit_fields
  have hframe : { u.sendEntry e (some via) [4] with regs := u.regs, hwNow := u.hwNow, sent := u.sent, coll := u.coll } = u := transmit_rest
  rw [halike.answerWords he] at hleaves
  generalize u.sendEntry e (some via) [4] = t at *
  have hconns := congrArg State.conn hframe
  have hpair := congrArg State.pair hframe
  have hconn : t.conn = u.conn := hconns
  refine ⟨t, rfl, hopen.of_same (fun g hg => hkept g ?_) ?_ ?_ ?_ hpair, hleaves, fun m hm => ?_, ?_, ?_⟩
  · simp only [List.mem_cons, List.not_mem_nil, or_false, forall_eq] at hg ⊢
    rcases hg with rfl | rfl | rfl | rfl | rfl | rfl | rfl | rfl <;>
    · simp only [Fld.key, KSF_CONN_STATE, KSF_CONN_ENTRY, KSF_CONN_INIT, KSF_CONN_ID, KSF_CONN_TXSEQ, KSF_CONN_LOSTF, KSF_CONN_SEQD, KSF_CONN_CHKD, KSF_STAT_CHKDIS]
      omega
  · rw [hconn]
  · rw [hconn]
  · rw [hconn]
  · rw [hconn]
    exact helse m hm
  · exact (hfields.mono fun _ hg => List.mem_cons_of_mem _ hg).trans (hkept.mono fun _ hg => List.mem_singleton.1 hg ▸ List.mem_cons_self)
  · exact (congrArg (fun x : State => { x with regs := s.regs, hwNow := s.hwNow, conns := s.conns, sent := s.sent, pair := s.pair, coll := s.coll }) hframe).trans
      (congrArg (fun x : State => { x with hwNow := s.hwNow, sent := s.sent, coll := s.coll }) hrest)
/-- R441, R442: a JOIN that is not admitted is answered with REFUSE and reported. -/
def refuseJoin (s : State) (e via code used : Nat) : State :=
  let t := (s.sendEntry e (some via) [5, code]).report clLink (0x0C0 + e) 1 13
  if code = 2 ∧ 64 ≤ used then t.report clLink 0x0E1 1 13 else t
theorem refuseJoin_effect {code used : Nat} : ∃ t, s.refuseJoin e via code used = t ∧
    t.sent = (if s.trUp (s.rd (KSF_ALLOW_TR e)) = true ∧ s.checkersAgree (s.answerWords e [5, code]) = true then [s.sentFrame e (some via) (s.answerWords e [5, code])] else []) ++ s.sent ∧
    t.rd KSF_STAT_CHKDIS = (if s.trUp (s.rd (KSF_ALLOW_TR e)) = true ∧ s.checkersAgree (s.answerWords e [5, code]) = false then 1 else s.rd KSF_STAT_CHKDIS) ∧
    FieldsKept [KSF_STAT_CHKDIS] s t ∧ { t with regs := s.regs, hwNow := s.hwNow, sent := s.sent, coll := s.coll } = s ∧
    t.coll = (let w := (if s.trUp (s.rd (KSF_ALLOW_TR e)) = true ∧ s.checkersAgree (s.answerWords e [5, code]) = false then s.report clLink 0x0E2 2 13 else s).report clLink (0x0C0 + e) 1 13
      if code = 2 ∧ 64 ≤ used then w.report clLink 0x0E1 1 13 else w).coll := by
  obtain ⟨hsent, hshown, hnoted⟩ := sendEntry_leaves (s := s) (e := e) (peer := some via) (p := [5, code])
  have hkept : FieldsKept [KSF_STAT_CHKDIS] s (s.sendEntry e (some via) [5, code]) := transmit_fields
  have hframe : { s.sendEntry e (some via) [5, code] with regs := s.regs, hwNow := s.hwNow, sent := s.sent, coll := s.coll } = s := transmit_rest
  unfold refuseJoin
  generalize s.sendEntry e (some via) [5, code] = x at *
  generalize hn : (if s.trUp (s.rd (KSF_ALLOW_TR e)) = true ∧ s.checkersAgree (s.answerWords e [5, code]) = false then s.report clLink 0x0E2 2 13 else s) = n at *
  have htime : x.time = n.time := (congrArg State.time hframe).trans <| by rw [← hn]; split <;> rfl
  have hofs : x.devOfs = n.devOfs := (congrArg State.devOfs hframe).trans <| by rw [← hn]; split <;> rfl
  have hcoll : (x.report clLink (0x0C0 + e) 1 13).coll = (n.report clLink (0x0C0 + e) 1 13).coll := report_congr hnoted htime hofs
  extract_lets y w
  by_cases hused : code = 2 ∧ 64 ≤ used
  · rw [if_pos hused, if_pos hused]
    exact ⟨_, rfl, hsent, hshown, hkept, hframe, report_congr hcoll htime hofs⟩
  · rw [if_neg hused, if_neg hused]
    exact ⟨_, rfl, hsent, hshown, hkept, hframe, hcoll⟩

/-! ### The conditions of R441 -/

/-- The JOIN of an identity on a transport finds neither a connection of it on that transport nor an own JOIN for the entry. -/
def JoinAlone (s : State) (e tr id : Nat) : Prop :=
  ∀ c, c < 64 → (s.openConn c = true → s.rd (KSF_CONN_ID c) ≠ id ∨ (s.conn c).tr ≠ tr) ∧ (s.rd (KSF_CONN_STATE c) = 1 → s.rd (KSF_CONN_INIT c) = 0 ∨ s.connEntry c ≠ e)
/-- The connections in use. -/
def usedConns (s : State) : Nat := (List.range 64).countP fun c => s.openConn c || decide (s.rd (KSF_CONN_STATE c) = 1)
/-- R441 condition 1: entry e admits in the device's state. -/
def Admits (s : State) (e : Nat) : Prop := s.dev = .run ∨ s.dev = .maint ∨ s.dev = .safe ∨ (s.dev = .watch ∧ s.rd (KSF_ALLOW_WKEEP e) = 1)
/-- R441 condition 2: the entry and the device have room for one more connection. -/
def Room (s : State) (e : Nat) : Prop := (List.range 64).countP (fun c => s.openConn c && decide (s.connEntry c = e)) < s.entryMax e ∧ s.usedConns < 64
/-- R441 condition 3 fails: the identity stands on another transport. -/
def Elsewhere (s : State) (tr id : Nat) : Prop := ∃ c, c < 64 ∧ s.openConn c = true ∧ s.rd (KSF_CONN_ID c) = id ∧ (s.conn c).tr ≠ tr
theorem usedConns_eq : (conns64.filter fun c => s.rd (KSF_CONN_STATE c) == 1 || s.openConn c).length = s.usedConns := by
  rw [usedConns, List.countP_eq_length_filter]
  refine congrArg List.length (List.filter_congr fun c _ => ?_)
  rw [Bool.or_comm, beq_eq_decide]
theorem entryActive_iff : s.entryActive e = true ↔ s.Admits e := by
  have hbit : s.rd (KSF_ALLOW_WKEEP e) < 2 := rd_lt
  have hkeep : s.on (KSF_ALLOW_WKEEP e) = true ↔ s.rd (KSF_ALLOW_WKEEP e) = 1 := by
    simp only [on, bne_iff_ne]
    omega
  simp only [entryActive, Admits, Bool.or_eq_true, Bool.and_eq_true, beq_iff_eq, hkeep, or_assoc]
theorem elsewhere_iff : (conns64.any fun c => s.openConn c && s.rd (KSF_CONN_ID c) == id && (s.conn c).tr != tr) = true ↔ s.Elsewhere tr id := by
  simp only [Elsewhere, List.any_eq_true, conns64, List.mem_range, Bool.and_eq_true, beq_iff_eq, bne_iff_ne, and_assoc]
theorem room_iff : (s.entryMax e ≤ (conns64.filter fun c => s.openConn c && s.connEntry c == e).length ∨ 64 ≤ s.usedConns) ↔ ¬s.Room e := by
  have hmine : (conns64.filter fun c => s.openConn c && s.connEntry c == e).length = (List.range 64).countP fun c => s.openConn c && decide (s.connEntry c = e) := by
    rw [List.countP_eq_length_filter]
    rfl
  rw [hmine, Room, not_and_or, Nat.not_lt, Nat.not_lt]
/-- R441: the first condition that fails. -/
theorem joinFails_eq [Decidable (s.Admits e)] [Decidable (s.Room e)] [Decidable (s.Elsewhere tr id)] :
    s.joinFails e tr id = if ¬s.Admits e then 1 else if ¬s.Room e then 2 else if s.Elsewhere tr id then 3 else 0 := by
  unfold joinFails
  simp only [usedConns_eq, entryActive_iff, room_iff, elsewhere_iff]
theorem JoinAlone.finds (h : s.JoinAlone e tr id) : (conns64.find? fun c => s.openConn c && s.rd (KSF_CONN_ID c) == id && (s.conn c).tr == tr) = none ∧
    (conns64.find? fun c => s.rd (KSF_CONN_STATE c) == 1 && s.on (KSF_CONN_INIT c) && s.connEntry c == e) = none := by
  refine ⟨List.find?_eq_none.2 fun c hc => ?_, List.find?_eq_none.2 fun c hc => ?_⟩
  · have ⟨hopen, _⟩ := h c (List.mem_range.1 hc)
    simp only [Bool.and_eq_true, beq_iff_eq, not_and]
    exact fun ⟨ho, hi⟩ => (hopen ho).resolve_left (not_not.2 hi)
  · have ⟨_, hjoin⟩ := h c (List.mem_range.1 hc)
    simp only [Bool.and_eq_true, beq_iff_eq, not_and, on, bne_iff_ne]
    exact fun ⟨hj, hi⟩ => (hjoin hj).resolve_left hi
theorem letIn_refused (h : s.JoinAlone e tr id) (hcode : s.joinFails e tr id = k + 1) : s.letIn e tr via id = s.refuseJoin e via (k + 1) s.usedConns := by
  obtain ⟨hold, hown⟩ := h.finds
  unfold letIn
  simp only [hold, hown, usedConns_eq, Option.isSome_none, Bool.false_eq_true, false_and, if_false, hcode]
  cases s.freeConn id <;> rfl
theorem letIn_admitted (h : s.JoinAlone e tr id) (hcode : s.joinFails e tr id = 0) (hc : s.freeConn id = some c) : s.letIn e tr via id = (s.startConn c e via id false 1).sendEntry e (some via) [4] := by
  obtain ⟨hold, hown⟩ := h.finds
  unfold letIn
  simp only [hold, hown, Option.isSome_none, Bool.false_eq_true, false_and, if_false, hcode, hc]
theorem freeConn_spec (h : s.freeConn id = some c) : c < 64 ∧ s.openConn c = false := by
  have closed : ∀ P : Nat → Bool, (∀ n, P n = true → s.openConn n = false) → conns64.find? P = some c → c < 64 ∧ s.openConn c = false := fun P hP hf =>
    ⟨List.mem_range.1 (List.mem_of_find?_eq_some hf), hP c (List.find?_some hf)⟩
  unfold freeConn at h
  rcases (Option.orElse_eq_some _ _ _).1 h with h | ⟨-, h⟩
  · rcases (Option.orElse_eq_some _ _ _).1 h with h | ⟨-, h⟩
    · refine closed _ (fun n hn => ?_) h
      simp only [Bool.and_eq_true, beq_iff_eq] at hn
      simp [openConn, hn.1]
    · refine closed _ (fun n hn => ?_) h
      simp [openConn, beq_iff_eq.1 hn]
  · refine closed _ (fun n hn => ?_) h
    simp [openConn, beq_iff_eq.1 hn]
theorem receiveAs_join (h : Passes s tr v b 3) (he : s.classEntry tr (v % 2 ^ 96) (frameId (unpackWords b)) = some e) (hp : s.paramOk e (unpackWords b) = true) :
    s.receiveAs 3 tr v b true = s.letIn e tr (v % 2 ^ 96) (frameId (unpackWords b)) := by
  rw [receiveAs_passes (e := e) h (by rw [if_pos rfl, he])]
  unfold acceptOn
  simp only [hp, h.kind, kindOk, not_true_eq_false, if_true, if_false]
end State
end Sys2Proof.Machine
end

section
/-! The frames TSYNC (R136 to R138) and STILL (R376), and the frame DATA of the partner (R458). -/
namespace Sys2Proof.Machine
open Sys2Proof.Safety

variable {s t u : State} {l : List Word} {b : List Byte} {p : List Word} {tr via c e k q v id tx m : Nat} {g : Fld}

/-! ### The payload of a TSYNC frame -/

/-- The tag of a TSYNC frame, and its group requests. -/
def tsyncTag (p : List Word) : Nat := frameWord p 1 + 4096 * (frameWord p 2 + 4096 * (frameWord p 3 + 4096 * frameWord p 4))
def tsyncList (p : List Word) : List (Nat × Nat) := (p.drop 6).map fun x => (x.toNat % 16, x.toNat / 16)
/-- R136: the words of a TSYNC frame are right. -/
def TsyncValid (p : List Word) : Prop := frameWord p 5 ≤ 16 ∧ ∀ x ∈ p.drop 6, x.toNat < 1024
theorem drop_words (h : p.length = 6 + m) : p.drop 6 = (List.range m).map fun j => p.getD (6 + j) 0 := by
  refine List.ext_getElem (by simp [h]) fun i h1 h2 => ?_
  rw [List.length_drop] at h1
  rw [List.getElem_drop, List.getElem_map, List.getElem_range, List.getD_eq_getElem?_getD, List.getElem?_eq_getElem (by omega)]
  rfl
theorem tsyncReqs_valid (hkind : frameWord p 0 = 1) (hlen : p.length = 6 + frameWord p 5 % 32) (h : TsyncValid p) : tsyncReqs p = some (tsyncList p) := by
  obtain ⟨hm, hwords⟩ := h
  have hlen : p.length = 6 + frameWord p 5 := by omega
  rw [drop_words hlen, List.forall_mem_map] at hwords
  rw [tsyncList, drop_words hlen, List.map_map]
  refine if_pos ⟨hkind, hm, hlen, ?_⟩
  rw [List.all_eq_true]
  exact fun j hj => decide_eq_true (hwords j hj)
theorem tsyncReqs_invalid (h : ¬TsyncValid p) : tsyncReqs p = none := by
  refine if_neg fun ⟨_, hm, hlen, hall⟩ => h ⟨hm, ?_⟩
  rw [drop_words hlen, List.forall_mem_map]
  rw [List.all_eq_true] at hall
  exact fun j hj => of_decide_eq_true (hall j hj)
/-- R136: the first word and the length of a TSYNC frame that passes the checks. -/
theorem tsync_payload (hf : frameFormat tr b = true) (hkind : frameKind (unpackWords b) = 1) (hp : s.paramOk e (unpackWords b) = true) :
    frameWord (framePayload (unpackWords b)) 0 = 1 ∧ (framePayload (unpackWords b)).length = 6 + frameWord (framePayload (unpackWords b)) 5 % 32 := by
  obtain ⟨hlen, hpos, -⟩ := payload_length hf
  simp only [State.paramOk, hkind, if_true, Bool.and_eq_true, tsyncLen, beq_iff_eq] at hp
  obtain ⟨-, -, hsize⟩ := hp
  refine ⟨(payload_word (by omega)).trans hkind, ?_⟩
  rw [payload_word (by omega), hlen, hsize]

namespace State

theorem tsyncPayload_valid (h : tsyncReqs p = some (tsyncList p)) : s.tsyncPayload p = s.tagArrive { tag := tsyncTag p, reqs := tsyncList p } := by
  rw [tsyncPayload, h]
  rfl
theorem tsyncPayload_invalid (h : tsyncReqs p = none) : s.tsyncPayload p = s.report clLink 0xC43 1 13 := by rw [tsyncPayload, h]

/-! ### The action of a tagged broadcast -/

theorem request_away {g : Nat} (hg : g < 16) : ∀ f ∈ [SN_AGREQ_ASP g, SN_AGREQ_TRIG g, SN_AGREQ_REQV g], Away DemandKey f := by
  intro f hf
  simp only [List.mem_cons, List.not_mem_nil, or_false] at hf
  rcases hf with rfl | rfl | rfl <;>
  · simp only [Away, DemandKey, LinkKey, Fld.key, SN_AGREQ_ASP, SN_AGREQ_TRIG, SN_AGREQ_REQV]
    omega
theorem requestAspect_keptOn {g a : Nat} (hg : g < 16) : KeptOn DemandKey s (s.requestAspect g a 1) := by
  unfold requestAspect
  refine .ite (.report (.put (request_away hg _ (by simp)) (.wr (request_away hg _ (by simp)) (.wr (request_away hg _ (by simp)) .refl)))) ?_
  exact .put (request_away hg _ (by simp)) (.wr (request_away hg _ (by simp)) (.wr (request_away hg _ (by simp)) (.ite (.report .refl) .refl)))
theorem requestAspect_bcast {g a : Nat} : (s.requestAspect g a 1).bcast = s.bcast ∧ (s.requestAspect g a 1).time = s.time := by
  unfold requestAspect
  split
  · exact ⟨rfl, rfl⟩
  · extract_lets x
    have hx : x.bcast = s.bcast ∧ x.time = s.time := by
      unfold x
      split <;> exact ⟨rfl, rfl⟩
    exact hx
/-- One group request of a tagged broadcast that acts. -/
def tagRequest (s : State) (t : Tagged) (later : List Tagged) (r : Nat × Nat) : State :=
  if s.outranked t later r.1 then s.reqRecord r.1 0
  else ((s.requestAspect r.1 r.2 1).mark (SN_AGREQ_REQV r.1) 1).modGroup r.1 fun x => { x with byFrame := true }
theorem tagAct_eq {x : Tagged} {later : List Tagged} : s.tagAct x later = (x.reqs.foldl (fun u r => u.tagRequest x later r) s).dueSync (25 * (x.reqs.foldl (fun u r => u.tagRequest x later r) s).time + 1) := rfl
theorem tagRequest_keptOn {x : Tagged} {later : List Tagged} {r : Nat × Nat} (hr : r.1 < 16) : KeptOn DemandKey s (s.tagRequest x later r) :=
  .ite (.report .refl) (.modGroup ((requestAspect_keptOn hr).trans (.same rfl rfl)))
theorem tagRequest_bcast {x : Tagged} {later : List Tagged} {r : Nat × Nat} : (s.tagRequest x later r).bcast = s.bcast ∧ (s.tagRequest x later r).time = s.time := by
  unfold tagRequest
  split
  · exact ⟨rfl, rfl⟩
  · exact requestAspect_bcast
theorem tagAct_keptOn {x : Tagged} {later : List Tagged} (hr : ∀ r ∈ x.reqs, r.1 < 16) : KeptOn DemandKey s (s.tagAct x later) :=
  .trans (.foldl fun _ _ h => tagRequest_keptOn (hr _ h)) (.same rfl rfl)
theorem tagAct_bcast {x : Tagged} {later : List Tagged} : (s.tagAct x later).bcast.tagged = s.bcast.tagged ∧ (s.tagAct x later).bcast.syncDue = s.bcast.syncDue ++ [25 * s.time + 1] := by
  have h := foldl_same (s := s) (fs := x.reqs) (op := fun u r => u.tagRequest x later r) (fun t : State => (t.bcast, t.time)) fun t r =>
    Prod.ext tagRequest_bcast.1 tagRequest_bcast.2
  rw [tagAct_eq]
  generalize x.reqs.foldl (fun u r => u.tagRequest x later r) s = u at h ⊢
  obtain ⟨hb, ht⟩ := Prod.mk.inj h
  have htagged := congrArg Bcast.tagged hb
  exact ⟨htagged, by rw [← hb, ← ht]; rfl⟩

/-! ### TSYNC -/

theorem frameTaken_same : (s.frameTaken c l).bcast = s.bcast ∧ (s.frameTaken c l).devTime = s.devTime ∧ (s.frameTaken c l).time = s.time ∧ (s.frameTaken c l).coll = s.coll ∧ (s.frameTaken c l).devOfs = s.devOfs := by
  have hrest := frameTaken_rest (s := s) (c := c) (l := l)
  generalize s.frameTaken c l = u at *
  have hb := congrArg State.bcast hrest
  have hd := congrArg State.devTime hrest
  have ht := congrArg State.time hrest
  have hc := congrArg State.coll hrest
  have ho := congrArg State.devOfs hrest
  exact ⟨hb, hd, ht, hc, ho⟩
theorem frameTaken_report {code sev path : Nat} : ((s.frameTaken c l).report clLink code sev path).coll = (s.report clLink code sev path).coll := by
  obtain ⟨-, -, ht, hc, ho⟩ := frameTaken_same (s := s) (c := c) (l := l)
  exact report_congr hc ht ho
/-- R137: a TSYNC frame whose tag lies within 1 s is scheduled, while fewer than eight wait. -/
theorem tsync_scheduled {x : Tagged} (hc : c < 64) (hlo : s.devTime ≤ x.tag) (hhi : x.tag ≤ s.devTime + 16000000) (hroom : s.bcast.tagged.length < 8) :
    ∃ t, (s.frameTaken c l).tagArrive x = t ∧ FrameStands s t c (frameSeq l) (framePayload l) ∧ t.bcast = { s.bcast with tagged := s.bcast.tagged ++ [x] } ∧
      t.rd SN_TSPEND_COUNT = s.bcast.tagged.length + 1 ∧ FieldsKept (SN_TSPEND_COUNT :: rxFields c) s t ∧ { t with regs := s.regs, conns := s.conns, bcast := s.bcast } = s := by
  obtain ⟨hb, hd, -⟩ := frameTaken_same (s := s) (c := c) (l := l)
  have hrest := frameTaken_rest (s := s) (c := c) (l := l)
  have hstands := frameTaken_stands (s := s) (c := c) (l := l)
  have hfields := frameTaken_fields (s := s) (c := c) (l := l)
  generalize s.frameTaken c l = u at *
  unfold tagArrive
  rw [hd, hb, if_pos hlo, if_pos ⟨hhi, hroom⟩]
  have hkept : FieldsKept [SN_TSPEND_COUNT] u (u.setTagged (s.bcast.tagged ++ [x])) := .wr (by simp) .refl
  refine ⟨_, rfl, hstands.fields hc hkept ?_ rfl, ?_, ?_, (hfields.mono fun _ hg => List.mem_cons_of_mem _ hg).trans (hkept.mono fun _ hg => List.mem_singleton.1 hg ▸ List.mem_cons_self), ?_⟩
  · intro g hg
    obtain rfl := List.mem_singleton.1 hg
    simp [NotRx, Fld.key, SN_TSPEND_COUNT]
  · rw [← hb]
    rfl
  · rw [setTagged, rd_wr_same, List.length_append, List.length_singleton]
    exact Nat.mod_eq_of_lt (Nat.lt_of_le_of_lt hroom (by decide))
  · exact (congrArg (fun y : State => { y with bcast := s.bcast }) hrest)
/-- R136, R137: a TSYNC frame that is not scheduled and does not act is reported. -/
theorem tsync_reported : ∃ t, (s.frameTaken c l).report clLink 0xC43 1 13 = t ∧ FrameStands s t c (frameSeq l) (framePayload l) ∧ t.coll = (s.report clLink 0xC43 1 13).coll ∧
    FieldsKept (rxFields c) s t ∧ { t with regs := s.regs, conns := s.conns, coll := s.coll } = s :=
  ⟨_, rfl, frameTaken_stands.of_same (fun _ _ => rfl) rfl, frameTaken_report, .report frameTaken_fields, congrArg (fun y : State => { y with coll := s.coll }) frameTaken_rest⟩
/-- R137: a tagged broadcast is not scheduled where its tag lies outside or eight wait, and does not act where it is more than 1 ms late. -/
theorem tagArrive_reports {x : Tagged} (h : x.tag + 16000 < s.devTime ∨ s.devTime + 16000000 < x.tag ∨ (s.devTime ≤ x.tag ∧ 8 ≤ s.bcast.tagged.length)) : s.tagArrive x = s.report clLink 0xC43 1 13 := by
  unfold tagArrive
  split
  · rw [if_neg (by omega)]
  · rw [if_neg (by omega)]
/-- R137: up to 1 ms late, a tagged broadcast acts at once. -/
theorem tsync_acts {x : Tagged} (hr : ∀ r ∈ x.reqs, r.1 < 16) (hlo : x.tag < s.devTime) (hhi : s.devTime ≤ x.tag + 16000) :
    ∃ t, (s.frameTaken c l).tagArrive x = t ∧ FrameStands s t c (frameSeq l) (framePayload l) ∧ (x.reqs = [] → t.coll = (s.report clLink 0xC42 1 13).coll ∧ FieldsKept (rxFields c) s t) ∧
      t.bcast.tagged = s.bcast.tagged ∧ t.bcast.syncDue = s.bcast.syncDue ++ [25 * s.time + 1] := by
  obtain ⟨hb, hd, ht, -⟩ := frameTaken_same (s := s) (c := c) (l := l)
  have hfields := frameTaken_fields (s := s) (c := c) (l := l)
  have hstands := frameTaken_stands (s := s) (c := c) (l := l)
  have hreport : ((s.frameTaken c l).report clLink 0xC42 1 13).coll = (s.report clLink 0xC42 1 13).coll := frameTaken_report
  generalize s.frameTaken c l = u at *
  unfold tagArrive
  rw [hd, if_neg (by omega), if_pos hhi]
  obtain ⟨htagged, hdue⟩ := tagAct_bcast (s := u.report clLink 0xC42 1 13) (x := x) (later := [])
  refine ⟨_, rfl, hstands.keptOn ((KeptOn.report .refl).trans (tagAct_keptOn hr).link), fun hnone => ?_, htagged.trans (congrArg Bcast.tagged hb), hdue.trans ?_⟩
  · rw [tagAct_eq, hnone]
    exact ⟨hreport, hfields⟩
  · change u.bcast.syncDue ++ [25 * u.time + 1] = _
    rw [hb, ht]
theorem tsyncList_groups : ∀ r ∈ tsyncList p, r.1 < 16 := by
  intro r hr
  obtain ⟨x, -, rfl⟩ := List.mem_map.1 hr
  exact Nat.mod_lt _ (by decide)

/-! ### STILL (R376) -/

/-- The state of a function has one of the keys that a demand leaves. -/
theorem state_demandKey {f : Nat} (hf : f < 24) : DemandKey (SN_FNST_STATE f).key := by
  simp only [DemandKey, LinkKey, Fld.key, SN_FNST_STATE]
  omega
/-- What a function does when it enters STOPPED, after its state is written. -/
theorem enterStopped_keptOn {n : Nat} : KeptOn DemandKey (s.wr (SN_FNST_STATE n) 1) (s.enterFn n 1) := by
  unfold enterFn
  extract_lets old y0 y1 y2
  have h1 : KeptOn DemandKey y0 y1 := .ite (.report .refl) .refl
  have h2 : KeptOn DemandKey y0 y2 := by
    unfold y2
    rw [if_neg (by decide)]
    exact h1
  clear_value y2
  exact .ite (h2.trans demandBegin_keptOn) (.ite (h2.trans demandEnd_keptOn) h2)
theorem enterStopped_state {n f : Nat} (hf : f < 24) : (s.enterFn n 1).rd (SN_FNST_STATE f) = if f = n then 1 else s.rd (SN_FNST_STATE f) := by
  rw [enterStopped_keptOn.fields _ (state_demandKey hf)]
  split
  · next h =>
    subst h
    exact rd_wr_same
  · next h =>
    refine rd_wr_ne ?_
    simp only [Fld.key, SN_FNST_STATE]
    omega
theorem endStop_keptOn {n : Nat} (hn : n < 24) : KeptOn LinkKey s (s.endStop n) := .ite (enterFn_keptOn hn (by decide)) .refl
theorem endStop_state {n f : Nat} (hf : f < 24) : (s.endStop n).rd (SN_FNST_STATE f) = if f = n ∧ s.rd (SN_FNST_STATE n) = 4 then 1 else s.rd (SN_FNST_STATE f) := by
  unfold endStop
  by_cases h : s.rd (SN_FNST_STATE n) = 4
  · simp only [h, if_true, and_true, enterStopped_state hf]
  · simp only [h, if_false, and_false]
/-- Every category 1 stop ends. -/
@[irreducible] def endStops (s : State) : State := s.each (List.range 24) fun t f => t.endStop f
theorem standstill_eq : s.standstill = s.endStops.updOutputs := by
  unfold endStops
  rfl
theorem endStops_keptOn : KeptOn LinkKey s s.endStops := by
  unfold endStops
  exact .each fun _ _ hn => endStop_keptOn (List.mem_range.1 hn)
theorem endStops_state {f : Nat} (hf : f < 24) : s.endStops.rd (SN_FNST_STATE f) = if s.rd (SN_FNST_STATE f) = 4 then 1 else s.rd (SN_FNST_STATE f) := by
  unfold endStops
  refine each_once (fun t : State => t.rd (SN_FNST_STATE f)) (fun x => if x = 4 then 1 else x) List.nodup_range (List.mem_range.2 hf) (fun t x _ hx => ?_) fun t => ?_
  · exact (endStop_state hf).trans (if_neg fun h => hx h.1.symm)
  · exact (endStop_state hf).trans (by simp only [true_and])
/-- A function that demands no aspect ends its stop in its state alone. -/
theorem endStop_silent {n : Nat} (h : s.rd (SN_FNST_STATE n) = 4 → s.rd (SN_FNCFG_DAEN n) = 0) : s.endStop n = s ∨ (s.rd (SN_FNST_STATE n) = 4 ∧ s.endStop n = s.wr (SN_FNST_STATE n) 1) := by
  unfold endStop
  split
  · next h4 =>
    refine .inr ⟨h4, ?_⟩
    have hdaen : (s.wr (SN_FNST_STATE n) 1).on (SN_FNCFG_DAEN n) = false := by
      rw [on, rd_wr_ne, h h4]
      · rfl
      · simp only [Fld.key, SN_FNCFG_DAEN, SN_FNST_STATE, ne_eq]
        omega
    have hbegin : (s.wr (SN_FNST_STATE n) 1).demandBegin n = s.wr (SN_FNST_STATE n) 1 := if_pos (by simp [hdaen])
    simp only [enterFn, h4, demands]
    exact hbegin
  · exact .inl rfl
/-- What the end of the stops that demand no aspect leaves as it was. -/
def StopsSilent (s t : State) : Prop := FieldsKept ((List.range 24).map SN_FNST_STATE) s t ∧ { t with regs := s.regs } = s ∧
  ∀ f, f < 24 → t.rd (SN_FNST_STATE f) = 4 → s.rd (SN_FNST_STATE f) = 4
theorem endStops_silent (h : ∀ f, f < 24 → s.rd (SN_FNST_STATE f) = 4 → s.rd (SN_FNCFG_DAEN f) = 0) : StopsSilent s s.endStops := by
  unfold endStops
  refine each_invariant (I := StopsSilent s) (fun t n hn ht => ?_) ⟨.refl, rfl, fun _ _ h => h⟩
  have hn := List.mem_range.1 hn
  obtain ⟨hfields, hrest, hstop⟩ := ht
  have hdaen : t.rd (SN_FNCFG_DAEN n) = s.rd (SN_FNCFG_DAEN n) := hfields _ fun g hg => by
    obtain ⟨f, hf, rfl⟩ := List.mem_map.1 hg
    rw [List.mem_range] at hf
    simp only [Fld.key, SN_FNCFG_DAEN, SN_FNST_STATE]
    omega
  obtain hid | ⟨h4, hwr⟩ := endStop_silent (s := t) (n := n) fun h4 => hdaen.trans (h n hn (hstop n hn h4))
  · rw [hid]
    exact ⟨hfields, hrest, hstop⟩
  · refine ⟨?_, ?_, fun f hf h4' => hstop f hf ?_⟩
    · rw [hwr]
      exact .wr (List.mem_map_of_mem (List.mem_range.2 hn)) hfields
    · rw [hwr]
      exact hrest
    · rw [endStop_state hf] at h4'
      split at h4'
      · exact absurd h4' (by decide)
      · exact h4'
/-- R376: a standstill report ends every category 1 stop, and the outputs follow. -/
theorem still_effect (hc : c < 64) : ∃ t, (s.frameTaken c l).standstill = t ∧ FrameStands s t c (frameSeq l) (framePayload l) ∧
    (∀ f : Fin 24, t.rd (SN_FNST_STATE f) = if s.rd (SN_FNST_STATE f) = 4 then 1 else s.rd (SN_FNST_STATE f)) ∧ OutputsShown t ∧
    ((∀ f : Fin 24, s.rd (SN_FNST_STATE f) = 4 → s.rd (SN_FNCFG_DAEN f) = 0) →
      FieldsKept (rxFields c ++ (List.range 24).map SN_FNST_STATE ++ outFields) s t ∧ { t with regs := s.regs, conns := s.conns, sio := s.sio } = s) := by
  have hstate : ∀ f, f < 24 → (s.frameTaken c l).rd (SN_FNST_STATE f) = s.rd (SN_FNST_STATE f) := fun f hf => frameTaken_kept hc <| .inl <| by
    simp only [Fld.key, SN_FNST_STATE]
    omega
  have hdaen : ∀ f, f < 24 → (s.frameTaken c l).rd (SN_FNCFG_DAEN f) = s.rd (SN_FNCFG_DAEN f) := fun f hf => frameTaken_kept hc <| .inl <| by
    simp only [Fld.key, SN_FNCFG_DAEN]
    omega
  have hfields := frameTaken_fields (s := s) (c := c) (l := l)
  have hrest := frameTaken_rest (s := s) (c := c) (l := l)
  have hstands := frameTaken_stands (s := s) (c := c) (l := l)
  generalize s.frameTaken c l = u at *
  rw [standstill_eq]
  refine ⟨_, rfl, hstands.keptOn (endStops_keptOn.trans updOutputs_keptOn.link), fun f => ?_, updOutputs_shown, fun hsilent => ?_⟩
  · rw [updOutputs_keptOn.fields _ (state_demandKey f.isLt), endStops_state f.isLt, hstate f f.isLt]
  · obtain ⟨hstops, hkept, -⟩ := endStops_silent (s := u) fun f hf h4 => (hdaen f hf).trans (hsilent ⟨f, hf⟩ ((hstate f hf).symm.trans h4))
    have houts := updOutputs_rest (s := u.endStops)
    refine ⟨((hfields.mono fun _ hg => ?_).trans (hstops.mono fun _ hg => ?_)).trans (updOutputs_fields.mono fun _ hg => ?_), ?_⟩
    · simp only [List.mem_append, hg, true_or]
    · simp only [List.mem_append, hg, true_or, or_true]
    · simp only [List.mem_append, hg, or_true]
    · generalize u.endStops = v at *
      generalize v.updOutputs = t at *
      have h1 := congrArg (fun y : State => { y with regs := s.regs, conns := s.conns, sio := s.sio }) houts
      have h2 := congrArg (fun y : State => { y with regs := s.regs, conns := s.conns, sio := s.sio }) hkept
      have h3 := congrArg (fun y : State => { y with sio := s.sio }) hrest
      exact Eq.trans h1 (Eq.trans h2 h3)
end State
end Sys2Proof.Machine
end

section
/-! The frame DATA (R353, R438, R458): the slots of its entry, the network pairs that read them, and the partner's SOLO state. -/
namespace Sys2Proof.Machine
open Sys2Proof.Safety

variable {s t u : State} {l : List Word} {b : List Byte} {p w : List Word} {tr via c e k q v i j n m : Nat} {g : Fld} {x : Inp} {level : Bool}

namespace State

/-! ### A value passes the filter of a network channel (R348, R353) -/

/-- The filter of channel i with one more value. -/
def filtered (s : State) (i : Nat) (level : Bool) (x : Inp) : Inp :=
  if s.closedAs i level = x.closed then { x with run := 0 }
  else if s.filtLen i x.closed ≤ x.run + 1 then { x with run := 0, closed := s.closedAs i level }
  else { x with run := x.run + 1 }
theorem filter_eq : s.filter n level = s.modInp n (s.filtered n level) := by
  unfold filter modInp filtered
  extract_lets x now
  split
  · rfl
  · split <;> rfl
/-- The state without its input channels: what their filters read. -/
def inpless (s : State) : State := { s with inps := [] }
theorem filter_inp : (s.filter n level).inp i = if i = n then s.filtered n level (s.inp n) else s.inp i := by rw [filter_eq, inp_modInp]
theorem filter_inpless : (s.filter n level).inpless = s.inpless := by
  rw [filter_eq]
  rfl
theorem bit_inpless : s.inpless.bit g n = s.bit g n := rfl
/-- Channel a, then channel b of network pair n counts the value of slot k, where the pair reads it. -/
def pairArrives (s : State) (k n : Nat) : State :=
  if s.rd (SN_IPCFG_TYPE n) = 0 ∨ s.rd (SN_IPCFG_KSLOT n) ≠ k then s
  else (s.filter (2 * n) (s.bit (KSF_SLOT_VAL k) 0)).filter (2 * n + 1) ((s.filter (2 * n) (s.bit (KSF_SLOT_VAL k) 0)).bit (KSF_SLOT_VAL k) 1)
theorem slotArrives_eq : s.slotArrives k = s.each ((List.range 32).drop 16) fun t n => t.pairArrives k n := rfl
theorem pairArrives_inpless : (s.pairArrives k n).inpless = s.inpless := by
  unfold pairArrives
  split
  · rfl
  · rw [filter_inpless, filter_inpless]
/-- Channel i of a network pair counts the value of slot k, where its pair reads it. -/
def counted (s : State) (k i : Nat) (x : Inp) : Inp :=
  if s.rd (SN_IPCFG_TYPE (i / 2)) = 0 ∨ s.rd (SN_IPCFG_KSLOT (i / 2)) ≠ k then x else s.filtered i (s.bit (KSF_SLOT_VAL k) (i % 2)) x
theorem pairArrives_inp : (s.pairArrives k n).inp i = if i / 2 = n then s.counted k i (s.inp i) else s.inp i := by
  by_cases hi : i / 2 = n
  · subst hi
    rw [if_pos rfl, counted, pairArrives]
    split
    · rfl
    · have hbit : ∀ m, (s.filter (2 * (i / 2)) m).bit (KSF_SLOT_VAL k) 1 = s.bit (KSF_SLOT_VAL k) 1 := fun m => by
        rw [← bit_inpless, filter_inpless, bit_inpless]
      have hsame : ∀ m, (s.filter (2 * (i / 2)) m).filtered = s.filtered := fun m => by
        have h := congrArg filtered (filter_inpless (s := s) (n := 2 * (i / 2)) (level := m))
        exact h
      rw [filter_inp, filter_inp, filter_inp, hbit, hsame]
      rcases Nat.mod_two_eq_zero_or_one i with h | h
      · rw [if_neg (by omega), if_pos (by omega), h, show 2 * (i / 2) = i by omega]
      · rw [if_pos (by omega), if_neg (by omega), h, show 2 * (i / 2) + 1 = i by omega]
  · rw [if_neg hi, pairArrives]
    split
    · rfl
    · rw [filter_inp, if_neg (by omega), filter_inp, if_neg (by omega)]
theorem slotArrives_inpless : (s.slotArrives k).inpless = s.inpless := by
  rw [slotArrives_eq]
  exact each_same inpless fun _ _ _ => pairArrives_inpless
/-- R353: a value that arrives in a slot is counted by the network pairs that read it. -/
theorem slotArrives_inp (hi : i < 64) : (s.slotArrives k).inp i = if 32 ≤ i then s.counted k i (s.inp i) else s.inp i := by
  have hmem : i / 2 ∈ (List.range 32).drop 16 ↔ 32 ≤ i := by
    rw [show (List.range 32).drop 16 = (List.range 16).map (16 + ·) from rfl, List.mem_map]
    simp only [List.mem_range]
    exact ⟨fun ⟨a, ha, h⟩ => by omega, fun h => ⟨i / 2 - 16, by omega, by omega⟩⟩
  rw [slotArrives_eq]
  split
  · next h32 =>
    have h := each_once (s := s) (op := fun t n => t.pairArrives k n) (fun t : State => (t.inpless, t.inp i)) (fun y => (y.1, y.1.counted k i y.2)) (List.Nodup.sublist (List.drop_sublist 16 _) List.nodup_range) (hmem.2 h32)
      (fun t n _ hn => by rw [pairArrives_inpless, pairArrives_inp, if_neg (Ne.symm hn)])
      (fun t => by
        rw [pairArrives_inpless, pairArrives_inp, if_pos rfl]
        rfl)
    exact (Prod.mk.inj h).2
  · next h32 =>
    refine each_same (fun t : State => t.inp i) fun t n hn => ?_
    rw [pairArrives_inp, if_neg]
    rintro rfl
    exact h32 (hmem.1 hn)

/-! ### The slots of a DATA frame (R438) -/

/-- What one operation of a list without repetitions establishes from what the others keep. -/
theorem each_at {o : List Nat} {op : State → Nat → State} {I Q : State → Prop} (hd : o.Nodup) (hn : n ∈ o) (hI : ∀ t x, x ∈ o → x ≠ n → I t → I (op t x)) (hat : ∀ t, I t → Q (op t n))
    (hQ : ∀ t x, x ∈ o → x ≠ n → Q t → Q (op t x)) (h : I s) : Q (s.each o op) := by
  induction o generalizing s with
  | nil => cases hn
  | cons y r ih =>
    obtain ⟨hy, hr⟩ := List.nodup_cons.1 hd
    rw [each_cons]
    by_cases hyn : y = n
    · subst hyn
      exact each_invariant (fun t x hx => hQ t x (List.mem_cons_of_mem _ hx) fun e => hy (e ▸ hx)) (hat s h)
    · exact ih hr (List.mem_of_ne_of_mem (Ne.symm hyn) hn) (fun t x hx => hI t x (List.mem_cons_of_mem _ hx)) (fun t x hx => hQ t x (List.mem_cons_of_mem _ hx)) (hI s y List.mem_cons_self hyn h)
/-- The fields of a slot; those of m slots from a base on. -/
def slotFields (k : Nat) : List Fld := [KSF_SLOT_VAL k, KSF_SLOT_VALID k, KSF_SLOT_CONN k]
def slotsFields (k m : Nat) : List Fld := (List.range m).flatMap fun i => slotFields (k + i)
/-- Slot k takes a value from connection c, and the value arrives. -/
def slotTakes (s : State) (c k v : Nat) : State := (((s.wr (KSF_SLOT_VAL k) v).put (KSF_SLOT_VALID k) true).wr (KSF_SLOT_CONN k) c).slotArrives k
theorem regs_of_inpless (h : t.inpless = s.inpless) : t.regs = s.regs := by
  have hr := congrArg State.regs h
  exact hr
theorem slotTakes_fields {v : Nat} : FieldsKept (slotFields k) s (s.slotTakes c k v) :=
  .trans (.wr (by simp [slotFields]) (.put (by simp [slotFields]) (.wr (by simp [slotFields]) .refl))) (.same (regs_of_inpless slotArrives_inpless))
theorem rest_of_inpless (h : t.inpless = u.inpless) (hu : { u with regs := s.regs, inps := s.inps } = s) : { t with regs := s.regs, inps := s.inps } = s :=
  (congrArg (fun y : State => { y with regs := s.regs, inps := s.inps }) h).trans hu
theorem slotTakes_rest {v : Nat} : { s.slotTakes c k v with regs := s.regs, inps := s.inps } = s :=
  rest_of_inpless slotArrives_inpless rfl
theorem slotTakes_reads {v : Nat} (hc : c < 64) : (s.slotTakes c k v).rd (KSF_SLOT_VAL k) = v % 4 ∧ (s.slotTakes c k v).rd (KSF_SLOT_VALID k) = 1 ∧ (s.slotTakes c k v).rd (KSF_SLOT_CONN k) = c := by
  have hkeys : (KSF_SLOT_VAL k).key ≠ (KSF_SLOT_VALID k).key ∧ (KSF_SLOT_VAL k).key ≠ (KSF_SLOT_CONN k).key ∧ (KSF_SLOT_VALID k).key ≠ (KSF_SLOT_CONN k).key := by
    simp [Fld.key, KSF_SLOT_VAL, KSF_SLOT_VALID, KSF_SLOT_CONN]
  obtain ⟨h1, h2, h3⟩ := hkeys
  have hrd : ∀ f, (s.slotTakes c k v).rd f = (((s.wr (KSF_SLOT_VAL k) v).put (KSF_SLOT_VALID k) true).wr (KSF_SLOT_CONN k) c).rd f := fun f => by
    unfold slotTakes
    rw [rd, regs_of_inpless slotArrives_inpless, ← rd]
  refine ⟨?_, ?_, ?_⟩
  · rw [hrd, rd_wr_ne h2, rd_put_ne h1, rd_wr_same]
    rfl
  · rw [hrd, rd_wr_ne h3, rd_put_same (f := KSF_SLOT_VALID k) Nat.one_pos]
    rfl
  · rw [hrd, rd_wr_same]
    exact Nat.mod_eq_of_lt hc
/-- Fields below those of the slots. -/
theorem slot_ne (h : g.key < 0xD8280000) : ∀ f ∈ slotFields k, g.key ≠ f.key := by
  intro f hf
  simp only [slotFields, List.mem_cons, List.not_mem_nil, or_false] at hf
  rcases hf with rfl | rfl | rfl <;>
  · simp only [Fld.key, KSF_SLOT_VAL, KSF_SLOT_VALID, KSF_SLOT_CONN] at h ⊢
    omega
theorem slots_ne (h : g.key < 0xD8280000) : ∀ f ∈ slotsFields k m, g.key ≠ f.key := by
  intro f hf
  obtain ⟨j, -, hj⟩ := List.mem_flatMap.1 hf
  exact slot_ne h f hj
theorem slots_notRx : ∀ g ∈ slotsFields k m, NotRx g := by
  intro g hg
  obtain ⟨j, -, hj⟩ := List.mem_flatMap.1 hg
  simp only [slotFields, List.mem_cons, List.not_mem_nil, or_false] at hj
  refine .inr (.inl ?_)
  rcases hj with rfl | rfl | rfl <;>
  · simp only [Fld.key, KSF_SLOT_VAL, KSF_SLOT_VALID, KSF_SLOT_CONN]
    omega
theorem slot_apart (h : k ≠ q) : ∀ g ∈ slotFields k, ∀ f ∈ slotFields q, g.key ≠ f.key := by
  intro g hg f hf
  simp only [slotFields, List.mem_cons, List.not_mem_nil, or_false] at hg hf
  rcases hg with rfl | rfl | rfl <;> rcases hf with rfl | rfl | rfl <;>
  · simp only [Fld.key, KSF_SLOT_VAL, KSF_SLOT_VALID, KSF_SLOT_CONN]
    omega
/-- The fields that say what channel i of a network pair reads, and how it filters. -/
theorem config_low (hi : i < 64) : ∀ g ∈ [SN_IPCFG_TYPE (i / 2), SN_IPCFG_KSLOT (i / 2), SN_IPCFG_FILT (i / 2), SN_IPCFG_TPTOL (i / 2)], g.key < 0xD8000000 := by
  intro g hg
  simp only [List.mem_cons, List.not_mem_nil, or_false] at hg
  rcases hg with rfl | rfl | rfl | rfl <;>
  · simp only [Fld.key, SN_IPCFG_TYPE, SN_IPCFG_KSLOT, SN_IPCFG_FILT, SN_IPCFG_TPTOL]
    omega
theorem filtered_congr (h : ∀ g ∈ [SN_IPCFG_TYPE (i / 2), SN_IPCFG_KSLOT (i / 2), SN_IPCFG_FILT (i / 2), SN_IPCFG_TPTOL (i / 2)], t.rd g = s.rd g) : t.filtered i level x = s.filtered i level x := by
  simp only [List.forall_mem_cons, List.not_mem_nil, false_implies, implies_true, and_true] at h
  obtain ⟨htype, -, hfilt, htol⟩ := h
  have hclosed : t.closedAs i level = s.closedAs i level := by
    rw [closedAs, htype]
    rfl
  have hlen : t.filtLen i x.closed = s.filtLen i x.closed := by
    rw [filtLen, htype, hfilt, htol]
    rfl
  rw [filtered, hclosed, hlen]
  rfl
/-- R353: a network channel counts the value that a slot takes, where its pair reads the slot. -/
theorem slotTakes_inp {v : Nat} (hi : i < 64) : (s.slotTakes c k v).inp i =
    if 32 ≤ i ∧ s.rd (SN_IPCFG_TYPE (i / 2)) ≠ 0 ∧ s.rd (SN_IPCFG_KSLOT (i / 2)) = k then s.filtered i ((v % 4).testBit (i % 2)) (s.inp i) else s.inp i := by
  have hval : (((s.wr (KSF_SLOT_VAL k) v).put (KSF_SLOT_VALID k) true).wr (KSF_SLOT_CONN k) c).rd (KSF_SLOT_VAL k) = v % 4 := by
    rw [rd_wr_ne (by simp [Fld.key, KSF_SLOT_VAL, KSF_SLOT_CONN]), rd_put_ne (by simp [Fld.key, KSF_SLOT_VAL, KSF_SLOT_VALID]), rd_wr_same]
    rfl
  have hkept : FieldsKept (slotFields k) s (((s.wr (KSF_SLOT_VAL k) v).put (KSF_SLOT_VALID k) true).wr (KSF_SLOT_CONN k) c) :=
    .wr (by simp [slotFields]) (.put (by simp [slotFields]) (.wr (by simp [slotFields]) .refl))
  have hinp : (((s.wr (KSF_SLOT_VAL k) v).put (KSF_SLOT_VALID k) true).wr (KSF_SLOT_CONN k) c).inp i = s.inp i := rfl
  unfold slotTakes
  generalize ((s.wr (KSF_SLOT_VAL k) v).put (KSF_SLOT_VALID k) true).wr (KSF_SLOT_CONN k) c = t at *
  have hcfg : ∀ g ∈ [SN_IPCFG_TYPE (i / 2), SN_IPCFG_KSLOT (i / 2), SN_IPCFG_FILT (i / 2), SN_IPCFG_TPTOL (i / 2)], t.rd g = s.rd g := fun g hg =>
    hkept g (slot_ne ((config_low hi g hg).trans (by decide)))
  rw [slotArrives_inp hi, counted, bit, hval, hinp, hcfg _ (by simp), hcfg _ (by simp), filtered_congr hcfg]
  by_cases h32 : 32 ≤ i
  · by_cases hreads : s.rd (SN_IPCFG_TYPE (i / 2)) ≠ 0 ∧ s.rd (SN_IPCFG_KSLOT (i / 2)) = k
    · rw [if_pos h32, if_neg (by omega), if_pos ⟨h32, hreads⟩]
    · rw [if_pos h32, if_pos (by omega), if_neg fun h => hreads h.2]
  · rw [if_neg h32, if_neg fun h => h32 h.1]

/-- Of the slots' fields and the input channels only, something may differ. -/
def SlotsOnly (s t : State) (k m : Nat) : Prop := FieldsKept (slotsFields k m) s t ∧ { t with regs := s.regs, inps := s.inps } = s
theorem SlotsOnly.refl : SlotsOnly s s k m := ⟨.refl, rfl⟩
theorem SlotsOnly.low (h : SlotsOnly s t k m) (hg : g.key < 0xD8280000) : t.rd g = s.rd g := h.1 g (slots_ne hg)
theorem SlotsOnly.takes {v : Nat} (h : SlotsOnly s t k m) (hj : j < m) : SlotsOnly s (t.slotTakes c (k + j) v) k m := by
  obtain ⟨hfields, hrest⟩ := h
  have hkept : FieldsKept (slotsFields k m) t (t.slotTakes c (k + j) v) := slotTakes_fields.mono fun g hg => List.mem_flatMap.2 ⟨j, List.mem_range.2 hj, hg⟩
  have hsame := slotTakes_rest (s := t) (c := c) (k := k + j) (v := v)
  generalize t.slotTakes c (k + j) v = u at *
  exact ⟨hfields.trans hkept, (congrArg (fun y : State => { y with regs := s.regs, inps := s.inps }) hsame).trans hrest⟩

section
variable (s c)
/-- The first slot and the number of slots of the entry of connection c. -/
def frameBase : Nat := s.rd (KSF_ALLOW_SLOTBASE (s.connEntry c))
def frameCount : Nat := s.rd (KSF_ALLOW_NSLOT (s.connEntry c))
/-- One slot of the entry takes its bits of the word of a DATA frame. -/
def frameSlot (v : Nat) (t : State) (j : Nat) : State := if 64 ≤ s.frameBase c + j then t else t.slotTakes c (s.frameBase c + j) (bits v (2 * j) 2)
end
theorem base_low : (KSF_ALLOW_SLOTBASE (s.connEntry c)).key < 0xD8280000 := by
  have := connEntry_lt (s := s) (c := c)
  simp only [Fld.key, KSF_ALLOW_SLOTBASE]
  omega
theorem SlotsOnly.frameSlot (h : SlotsOnly s t (s.frameBase c) (s.frameCount c)) (hj : j < s.frameCount c) : SlotsOnly s (s.frameSlot c v t j) (s.frameBase c) (s.frameCount c) := by
  unfold State.frameSlot
  split
  · exact h
  · exact h.takes hj
theorem setSlots_each : s.setSlots c v = s.each (List.range (s.frameCount c)) (s.frameSlot c v) := by
  have heq : ∀ (r : List Nat) (t : State), (∀ j ∈ r, j < s.frameCount c) → SlotsOnly s t (s.frameBase c) (s.frameCount c) →
      (t.each r fun t j => if 64 ≤ t.rd (KSF_ALLOW_SLOTBASE (s.connEntry c)) + j then t else t.slotTakes c (t.rd (KSF_ALLOW_SLOTBASE (s.connEntry c)) + j) (bits v (2 * j) 2)) = t.each r (s.frameSlot c v) := by
    intro r
    induction r with
    | nil => exact fun _ _ _ => rfl
    | cons j r ih =>
      intro t hr ht
      rw [each_cons, each_cons, ht.low base_low]
      exact ih _ (fun i hi => hr i (List.mem_cons_of_mem _ hi)) (ht.frameSlot (hr j List.mem_cons_self))
  exact heq _ _ (fun j hj => List.mem_range.1 hj) .refl
theorem setSlots_only : SlotsOnly s (s.setSlots c v) (s.frameBase c) (s.frameCount c) := by
  rw [setSlots_each]
  exact each_invariant (I := fun t => SlotsOnly s t (s.frameBase c) (s.frameCount c)) (fun t j hj ht => ht.frameSlot (List.mem_range.1 hj)) .refl
/-- R438: a DATA frame sets the slots of its entry. -/
theorem setSlots_reads (hc : c < 64) (hj : j < s.frameCount c) (hk : s.frameBase c + j < 64) : (s.setSlots c v).rd (KSF_SLOT_VAL (s.frameBase c + j)) = bits v (2 * j) 2 ∧
    (s.setSlots c v).rd (KSF_SLOT_VALID (s.frameBase c + j)) = 1 ∧ (s.setSlots c v).rd (KSF_SLOT_CONN (s.frameBase c + j)) = c := by
  rw [setSlots_each]
  refine each_at (I := fun _ => True) (Q := fun t => t.rd (KSF_SLOT_VAL (s.frameBase c + j)) = bits v (2 * j) 2 ∧ t.rd (KSF_SLOT_VALID (s.frameBase c + j)) = 1 ∧ t.rd (KSF_SLOT_CONN (s.frameBase c + j)) = c)
    List.nodup_range (List.mem_range.2 hj) (fun _ _ _ _ _ => trivial) (fun t _ => ?_) (fun t n _ hn ht => ?_) trivial
  · rw [frameSlot, if_neg (by omega)]
    obtain ⟨hval, hvalid, hconn⟩ := slotTakes_reads (s := t) (k := s.frameBase c + j) (v := bits v (2 * j) 2) hc
    exact ⟨hval.trans (Nat.mod_mod _ _), hvalid, hconn⟩
  · unfold frameSlot
    split
    · exact ht
    · have hsame : ∀ g ∈ slotFields (s.frameBase c + j), (t.slotTakes c (s.frameBase c + n) (bits v (2 * n) 2)).rd g = t.rd g := fun g hg => slotTakes_fields g (slot_apart (by omega) g hg)
      rw [hsame _ (by simp [slotFields]), hsame _ (by simp [slotFields]), hsame _ (by simp [slotFields])]
      exact ht
/-- R353, R438: a network channel counts its value of the slot that its pair reads, where that is one of the entry's. -/
theorem setSlots_inp (hi : i < 64) : let k := s.rd (SN_IPCFG_KSLOT (i / 2))
    (s.setSlots c v).inp i = if 32 ≤ i ∧ s.rd (SN_IPCFG_TYPE (i / 2)) ≠ 0 ∧ s.frameBase c ≤ k ∧ k < s.frameBase c + s.frameCount c then
      s.filtered i ((bits v (2 * (k - s.frameBase c)) 2).testBit (i % 2)) (s.inp i) else s.inp i := by
  intro k
  have hk : k < 64 := rd_lt (f := SN_IPCFG_KSLOT (i / 2))
  have hcfg : ∀ t, SlotsOnly s t (s.frameBase c) (s.frameCount c) → ∀ g ∈ [SN_IPCFG_TYPE (i / 2), SN_IPCFG_KSLOT (i / 2), SN_IPCFG_FILT (i / 2), SN_IPCFG_TPTOL (i / 2)], t.rd g = s.rd g := fun t ht g hg =>
    ht.low ((config_low hi g hg).trans (by decide))
  have hother : ∀ (y : Inp) t j, j < s.frameCount c → ¬(32 ≤ i ∧ s.rd (SN_IPCFG_TYPE (i / 2)) ≠ 0 ∧ k = s.frameBase c + j) → SlotsOnly s t (s.frameBase c) (s.frameCount c) ∧ t.inp i = y →
      SlotsOnly s (s.frameSlot c v t j) (s.frameBase c) (s.frameCount c) ∧ (s.frameSlot c v t j).inp i = y := by
    intro y t j hj hn ⟨ht, hy⟩
    refine ⟨ht.frameSlot hj, ?_⟩
    unfold frameSlot
    split
    · exact hy
    · rw [slotTakes_inp hi, hcfg t ht _ (by simp), hcfg t ht _ (by simp), if_neg hn]
      exact hy
  rw [setSlots_each]
  split
  · next h =>
    obtain ⟨h32, htype, hlo, hhi⟩ := h
    refine (each_at (I := fun t => SlotsOnly s t (s.frameBase c) (s.frameCount c) ∧ t.inp i = s.inp i)
      (Q := fun t => SlotsOnly s t (s.frameBase c) (s.frameCount c) ∧ t.inp i = s.filtered i ((bits v (2 * (k - s.frameBase c)) 2).testBit (i % 2)) (s.inp i)) (n := k - s.frameBase c)
      List.nodup_range (List.mem_range.2 (by omega)) (fun t j hj hn => hother _ t j (List.mem_range.1 hj) (by omega)) (fun t ⟨ht, hy⟩ => ⟨ht.frameSlot (by omega), ?_⟩)
      (fun t j hj hn => hother _ t j (List.mem_range.1 hj) (by omega)) ⟨.refl, rfl⟩).2
    rw [frameSlot, if_neg (by omega), slotTakes_inp hi, hcfg t ht _ (by simp), hcfg t ht _ (by simp), if_pos ⟨h32, htype, by omega⟩, filtered_congr (hcfg t ht), hy, bits, show 2 ^ 2 = 4 from rfl, Nat.mod_mod]
  · next h =>
    exact (each_invariant (I := fun t => SlotsOnly s t (s.frameBase c) (s.frameCount c) ∧ t.inp i = s.inp i)
      (fun t j hj => hother _ t j (List.mem_range.1 hj) fun ⟨h32, htype, hk⟩ => h ⟨h32, htype, by have := List.mem_range.1 hj; omega⟩) ⟨.refl, rfl⟩).2

/-! ### The partner's DATA (R458) -/

/-- The slots are set; where the entry is the PARTNER's, the pair takes the rest. -/
theorem frameEffect_data : s.frameEffect c 2 w = if (s.setSlots c (frameWord w 1)).on (KSF_ALLOW_PARTNER ((s.setSlots c (frameWord w 1)).connEntry c)) then
    (s.setSlots c (frameWord w 1)).partnerData ((frameWord w 1).testBit 0) (frameWord w 2) else s.setSlots c (frameWord w 1) := rfl
theorem setSlots_conns : (s.setSlots c v).conns = s.conns := by
  obtain ⟨-, hrest⟩ := setSlots_only (s := s) (c := c) (v := v)
  have hconns := congrArg State.conns hrest
  exact hconns
theorem setSlots_stands {p : List Word} (hc : c < 64) (h : FrameStands s t c q p) : FrameStands s (t.setSlots c v) c q p :=
  h.fields hc setSlots_only.1 slots_notRx setSlots_conns
theorem setSlots_line (hq : q < 256) : (t.setSlots c v).bit (PWR_IPEND_LINES q) n = t.bit (PWR_IPEND_LINES q) n := by
  rw [bit, setSlots_only.low]
  · rfl
  · simp only [Fld.key, PWR_IPEND_LINES]
    omega
theorem psolo_ne : ∀ q, q < 256 → (PWR_IPEND_LINES q).key ≠ MIR_STAT_PSOLO.key := by
  intro q hq
  simp only [Fld.key, PWR_IPEND_LINES, MIR_STAT_PSOLO]
  omega
theorem partnerData_stands {p : List Word} {solo : Bool} (hc : c < 64) (h : FrameStands s t c q p) : FrameStands s (t.partnerData solo e) c q p := by
  unfold partnerData
  split
  · refine FrameStands.keptOn (h.fields (w := [MIR_STAT_PSOLO]) hc (.put (by simp) .refl) ?_ rfl) compareEpoch_keptOn
    exact fun g hg => .inl (List.mem_singleton.1 hg ▸ by decide)
  · exact h
theorem partnerData_line {solo : Bool} (hq : q < 256) (h : t.bit (PWR_IPEND_LINES q) n = true) : (t.partnerData solo e).bit (PWR_IPEND_LINES q) n = true := by
  unfold partnerData
  split
  · refine compareEpoch_keptOn.lines _ _ hq ?_
    rw [bit, rd_put_ne (psolo_ne q hq)]
    exact h
  · exact h
/-- R458: while the mirror link is down and the device SOLO, the partner's SOLO state is shown. -/
theorem partnerData_shows {solo : Bool} (hpaired : t.paired = true) (hlink : t.rd MIR_STAT_LINK = 0) (hsolo : t.pair.solo = true) : (t.partnerData solo e).rd MIR_STAT_PSOLO = solo.toNat := by
  unfold partnerData
  rw [if_pos ⟨hpaired, by simp [on, hlink], hsolo⟩, compareEpoch_keptOn.fields _ (.inl rfl)]
  exact rd_put_same (by decide)
theorem partnerData_idle {solo : Bool} (h : t.paired = false ∨ t.rd MIR_STAT_LINK = 1 ∨ t.pair.solo = false) : t.partnerData solo e = t := by
  unfold partnerData
  refine if_neg fun ⟨hpaired, hlink, hsolo⟩ => ?_
  rcases h with h | h | h
  · simp [h] at hpaired
  · simp [on, h] at hlink
  · simp [h] at hsolo
theorem data_stands {p : List Word} (hc : c < 64) (h : FrameStands s t c q p) : FrameStands s (t.frameEffect c 2 w) c q p := by
  rw [frameEffect_data]
  split
  · exact partnerData_stands hc (setSlots_stands hc h)
  · exact setSlots_stands hc h
theorem data_line (hq : q < 256) (h : t.bit (PWR_IPEND_LINES q) n = true) : (t.frameEffect c 2 w).bit (PWR_IPEND_LINES q) n = true := by
  rw [frameEffect_data]
  have hset : (t.setSlots c (frameWord w 1)).bit (PWR_IPEND_LINES q) n = true := (setSlots_line hq).trans h
  split
  · exact partnerData_line hq hset
  · exact hset
/-- What the pair's part of a DATA frame reads is as it was before the frame. -/
theorem pairPart_same (hc : c < 64) : let t := (s.frameTaken c l).setSlots c v
    t.connEntry c = s.connEntry c ∧ t.rd (KSF_ALLOW_PARTNER (s.connEntry c)) = s.rd (KSF_ALLOW_PARTNER (s.connEntry c)) ∧ t.paired = s.paired ∧ t.rd MIR_STAT_LINK = s.rd MIR_STAT_LINK ∧ t.pair = s.pair := by
  have hrd : ∀ g : Fld, NotRx g → g.key < 0xD8280000 → ((s.frameTaken c l).setSlots c v).rd g = s.rd g := fun g hg hl => (setSlots_only.low hl).trans (frameTaken_kept hc hg)
  obtain ⟨-, hrest⟩ := setSlots_only (s := s.frameTaken c l) (c := c) (v := v)
  have hset := congrArg State.pair hrest
  have htaken := congrArg State.pair (frameTaken_rest (s := s) (c := c) (l := l))
  intro t
  refine ⟨hrd _ (.entry hc) ?_, hrd _ (.allow connEntry_lt rfl (by simp [KSF_ALLOW_PARTNER])) ?_, ?_, hrd _ (.inl (by decide)) (by decide), Eq.trans hset htaken⟩
  · simp only [Fld.key, KSF_CONN_ENTRY]
    omega
  · have := connEntry_lt (s := s) (c := c)
    simp only [Fld.key, KSF_ALLOW_PARTNER]
    omega
  · rw [paired, hrd _ (.inl (by decide)) (by decide)]
    rfl
/-- R458: DATA of the partner on a frame that is not routed. -/
theorem data_partner (hc : c < 64) (hpartner : s.rd (KSF_ALLOW_PARTNER (s.connEntry c)) = 1) (hpaired : s.paired = true) (hlink : s.rd MIR_STAT_LINK = 0) (hsolo : s.pair.solo = true) :
    ∃ t, (s.frameTaken c l).frameEffect c 2 (framePayload l) = t ∧ FrameStands s t c (frameSeq l) (framePayload l) ∧ t.rd MIR_STAT_PSOLO = frameWord (framePayload l) 1 % 2 := by
  obtain ⟨he, hp, hpd, hlk, hpair⟩ := pairPart_same (s := s) (l := l) (v := frameWord (framePayload l) 1) hc
  refine ⟨_, rfl, data_stands hc frameTaken_stands, ?_⟩
  rw [frameEffect_data, he, on, hp, hpartner, if_pos (by decide), partnerData_shows (hpd.trans hpaired) (hlk.trans hlink) ((congrArg Pair.solo hpair).trans hsolo), Nat.testBit_zero]
  rcases Nat.mod_two_eq_zero_or_one (frameWord (framePayload l) 1) with h | h <;> simp [h]
/-- Without a part of the pair, DATA sets the slots alone. -/
theorem data_slots (hc : c < 64) (h : s.rd (KSF_ALLOW_PARTNER (s.connEntry c)) = 0 ∨ s.paired = false ∨ s.rd MIR_STAT_LINK = 1 ∨ s.pair.solo = false) :
    (s.frameTaken c l).frameEffect c 2 (framePayload l) = (s.frameTaken c l).setSlots c (frameWord (framePayload l) 1) := by
  obtain ⟨he, hp, hpd, hlk, hpair⟩ := pairPart_same (s := s) (l := l) (v := frameWord (framePayload l) 1) hc
  rw [frameEffect_data, he, on, hp]
  rcases h with h | h
  · rw [h, if_neg (by decide)]
  · rw [partnerData_idle (h.imp (hpd.trans ·) (Or.imp (hlk.trans ·) ((congrArg Pair.solo hpair).trans ·))), ite_self]
/-- R438, R353: what the slots of a frame that is not routed are, what the network pairs count, and what stands. -/
theorem data_effect (hc : c < 64) : let k := s.rd (KSF_ALLOW_SLOTBASE (s.connEntry c))
    let m := s.rd (KSF_ALLOW_NSLOT (s.connEntry c))
    let t := (s.frameTaken c l).setSlots c v
    (∀ j, j < m → k + j < 64 → t.rd (KSF_SLOT_VAL (k + j)) = v / 4 ^ j % 4 ∧ t.rd (KSF_SLOT_VALID (k + j)) = 1 ∧ t.rd (KSF_SLOT_CONN (k + j)) = c) ∧
      (∀ i, i < 64 → let n := s.rd (SN_IPCFG_KSLOT (i / 2))
        t.inp i = if 32 ≤ i ∧ s.rd (SN_IPCFG_TYPE (i / 2)) ≠ 0 ∧ k ≤ n ∧ n < k + m then s.filtered i ((v / 4 ^ (n - k)).testBit (i % 2)) (s.inp i) else s.inp i) ∧
      t.rd (KSF_CONN_LOSTF c) = (s.frameTaken c l).rd (KSF_CONN_LOSTF c) ∧
      FieldsKept (rxFields c ++ slotsFields k m) s t ∧ { t with regs := s.regs, conns := s.conns, inps := s.inps } = s := by
  have hrest := frameTaken_rest (s := s) (c := c) (l := l)
  have hfields := frameTaken_fields (s := s) (c := c) (l := l)
  have hbase : (s.frameTaken c l).frameBase c = s.rd (KSF_ALLOW_SLOTBASE (s.connEntry c)) := by
    rw [frameBase, frameTaken_entry hc, frameTaken_allow hc rfl (by simp [KSF_ALLOW_SLOTBASE])]
  have hcount : (s.frameTaken c l).frameCount c = s.rd (KSF_ALLOW_NSLOT (s.connEntry c)) := by
    rw [frameCount, frameTaken_entry hc, frameTaken_allow hc rfl (by simp [KSF_ALLOW_NSLOT])]
  have hcfg : ∀ i, i < 64 → ∀ g ∈ [SN_IPCFG_TYPE (i / 2), SN_IPCFG_KSLOT (i / 2), SN_IPCFG_FILT (i / 2), SN_IPCFG_TPTOL (i / 2)], (s.frameTaken c l).rd g = s.rd g := fun i hi g hg =>
    frameTaken_kept hc (.inl ((config_low hi g hg).trans (by decide)))
  have hpow : ∀ j, v / 2 ^ (2 * j) = v / 4 ^ j := fun j => by rw [Nat.pow_mul]
  generalize s.frameTaken c l = u at *
  rw [← hbase, ← hcount]
  obtain ⟨hkept, hsame⟩ := setSlots_only (s := u) (c := c) (v := v)
  refine ⟨fun j hj hk => ?_, fun i hi => ?_, setSlots_only.low ?_, (hfields.mono fun _ hg => List.mem_append_left _ hg).trans (hkept.mono fun _ hg => List.mem_append_right _ hg), ?_⟩
  · rw [← hpow]
    exact setSlots_reads hc hj hk
  · have hinp := congrArg (fun y : State => y.inp i) hrest
    have hinp : u.inp i = s.inp i := hinp
    have hbit : ∀ x, (x % 2 ^ 2).testBit (i % 2) = x.testBit (i % 2) := fun x => by
      rw [Nat.testBit_mod_two_pow, decide_eq_true (by omega), Bool.true_and]
    rw [setSlots_inp hi, hcfg i hi _ (by simp), hcfg i hi _ (by simp), filtered_congr (hcfg i hi), hinp, bits, hbit, hpow]
  · simp only [Fld.key, KSF_CONN_LOSTF]
    omega
  · generalize u.setSlots c v = t at *
    exact (congrArg (fun y : State => { y with regs := s.regs, conns := s.conns, inps := s.inps }) hsame).trans (congrArg (fun y : State => { y with inps := s.inps }) hrest)
end State
end Sys2Proof.Machine
end

section
/-! The rows of accepted frames (R434 to R443), and the obligation. -/
namespace Sys2Proof.Machine
open Sys2Proof.Safety

variable {s t : State} {tr : Fin 8} {v : BitVec 128} {b : List Byte} {p : List Nat} {via c e k id n : Nat} {peer : Option Nat} {words : List Nat}

namespace State

/-! ### Admission -/

theorem sentFrame_eq (htr : s.rd (KSF_ALLOW_TR e) = tr) : s.sentFrame e peer words = ⟨tr, s.linkAddr e peer, if 4 ≤ tr.val ∧ tr.val < 6 then some (s.rd KSF_UDPPORT_PORT) else none,
    if (4 ≤ tr.val ∧ tr.val < 6) ∧ s.rd (KSF_ETH_VEN (tr - 4)) = 1 then some (s.rd (KSF_ETH_PCP (tr - 4)), s.rd (KSF_ETH_VID (tr - 4))) else none,
    if tr.val < 4 then padField (packWords words) else packWords words⟩ := by
  have hven : s.rd (KSF_ETH_VEN (tr - 4)) < 2 := rd_lt
  have hon : s.on (KSF_ETH_VEN (tr - 4)) = true ↔ s.rd (KSF_ETH_VEN (tr - 4)) = 1 := by
    simp only [on, bne_iff_ne]
    omega
  simp only [sentFrame, htr, Bool.and_eq_true, decide_eq_true_eq, hon]
end State

/-! ### The rows -/

theorem Passes.of_fine (h : s.trHears tr = true ∧ s.trTakes tr v.toNat = true ∧ frameFormat tr b = true ∧ frameId (unpackWords b) ≠ 0 ∧ frameId (unpackWords b) ≠ 0xFFFFFFFF ∧
    frameCheck (unpackWords b) = true ∧ frameKind (unpackWords b) = k) : Passes s tr v.toNat b k := by
  obtain ⟨hhears, htakes, hformat, h0, h1, hcheck, hkind⟩ := h
  exact ⟨⟨hhears, htakes⟩, hformat, ⟨h0, h1⟩, hcheck, hkind⟩

/-- A frame of kind k comes on connection c as `Comes` says, and its entry routes it to no engine. -/
def ComesUnrouted (s : State) (tr v : Nat) (b : List Byte) (c k : Nat) : Prop := State.Comes s tr v b c k ∧ s.rd (KSF_ALLOW_ITEN (s.connEntry c)) = 0

section
variable (ho : s.openConn c = true) (hn : s.SeqNext c (frameSeq (unpackWords b)))
include ho hn

theorem exec_data_partner (h : ComesUnrouted s tr v.toNat b c 2) (hpartner : s.rd (KSF_ALLOW_PARTNER (s.connEntry c)) = 1) (hpaired : s.paired = true) (hlink : s.rd MIR_STAT_LINK = 0) (hsolo : s.pair.solo = true) :
    ∃ t, exec (.data tr v b true) s = .next t ∧ FrameStands s t c (frameSeq (unpackWords b)) (framePayload (unpackWords b)) ∧ t.rd MIR_STAT_PSOLO = frameWord (framePayload (unpackWords b)) 1 % 2 := by
  obtain ⟨t, ht, hstands, hsolo⟩ := State.data_partner (l := unpackWords b) h.1.lt hpartner hpaired hlink hsolo
  exact ⟨t, congrArg Host.Outcome.next ((State.receiveAs_unrouted h.1 (by decide) ho hn h.2).trans ht), hstands, hsolo⟩
theorem exec_data_slots (h : ComesUnrouted s tr v.toNat b c 2) (hpair : s.rd (KSF_ALLOW_PARTNER (s.connEntry c)) = 0 ∨ s.paired = false ∨ s.rd MIR_STAT_LINK = 1 ∨ s.pair.solo = false) :
    exec (.data tr v b true) s = .next ((s.frameTaken c (unpackWords b)).setSlots c (frameWord (framePayload (unpackWords b)) 1)) :=
  congrArg Host.Outcome.next ((State.receiveAs_unrouted h.1 (by decide) ho hn h.2).trans (State.data_slots h.1.lt hpair))
theorem exec_leave (h : ComesUnrouted s tr v.toNat b c 6) : exec (.leave tr v b true) s = .next ((s.frameTaken c (unpackWords b)).endConn c 0) :=
  congrArg Host.Outcome.next (State.receiveAs_unrouted h.1 (by decide) ho hn h.2)
theorem exec_still (h : ComesUnrouted s tr v.toNat b c 8) : exec (.still tr v b true) s = .next (if frameWord (framePayload (unpackWords b)) 1 % 2 = 1 then (s.frameTaken c (unpackWords b)).standstill
    else s.frameTaken c (unpackWords b)) := congrArg Host.Outcome.next (State.receiveAs_unrouted h.1 (by decide) ho hn h.2)
theorem exec_tsync (h : ComesUnrouted s tr v.toNat b c 1) : exec (.tsync tr v b true) s = .next ((s.frameTaken c (unpackWords b)).tsyncPayload (framePayload (unpackWords b))) :=
  congrArg Host.Outcome.next (State.receiveAs_unrouted h.1 (by decide) ho hn h.2)
theorem exec_still_stands (h : ComesUnrouted s tr v.toNat b c 8) : ∃ t, exec (.still tr v b true) s = .next t ∧ FrameStands s t c (frameSeq (unpackWords b)) (framePayload (unpackWords b)) ∧
    (frameWord (framePayload (unpackWords b)) 1 % 2 = 1 → (∀ f : Fin 24, t.rd (SN_FNST_STATE f) = if s.rd (SN_FNST_STATE f) = 4 then 1 else s.rd (SN_FNST_STATE f)) ∧ OutputsShown t ∧
      ((∀ f : Fin 24, s.rd (SN_FNST_STATE f) = 4 → s.rd (SN_FNCFG_DAEN f) = 0) → FieldsKept (State.rxFields c ++ (List.range 24).map SN_FNST_STATE ++ outFields) s t ∧
        { t with regs := s.regs, conns := s.conns, sio := s.sio } = s)) ∧
    (frameWord (framePayload (unpackWords b)) 1 % 2 = 0 → FieldsKept (State.rxFields c) s t ∧ { t with regs := s.regs, conns := s.conns } = s) := by
  rw [exec_still ho hn h]
  split
  · next hbit =>
    obtain ⟨t, ht, hstands, hstop, hshown, hkept⟩ := State.still_effect (s := s) (l := unpackWords b) h.1.lt
    exact ⟨t, congrArg Host.Outcome.next ht, hstands, fun _ => ⟨hstop, hshown, hkept⟩, fun h0 => by omega⟩
  · next hbit => exact ⟨_, rfl, State.frameTaken_stands, fun h1 => absurd h1 hbit, fun _ => ⟨State.frameTaken_fields, State.frameTaken_rest⟩⟩

/-- R136, R137: what becomes of a TSYNC frame. -/
theorem exec_tsync_arrives (h : ComesUnrouted s tr v.toNat b c 1) (hvalid : TsyncValid (framePayload (unpackWords b))) : exec (.tsync tr v b true) s =
    .next ((s.frameTaken c (unpackWords b)).tagArrive { tag := tsyncTag (framePayload (unpackWords b)), reqs := tsyncList (framePayload (unpackWords b)) }) := by
  obtain ⟨hkind, hlen⟩ := tsync_payload h.1.passes.format h.1.passes.kind h.1.param
  rw [exec_tsync ho hn h, State.tsyncPayload_valid (tsyncReqs_valid hkind hlen hvalid)]
theorem exec_tsync_reports (h : ComesUnrouted s tr v.toNat b c 1) (hout : ¬TsyncValid (framePayload (unpackWords b)) ∨ tsyncTag (framePayload (unpackWords b)) + 16000 < s.devTime ∨
    s.devTime + 16000000 < tsyncTag (framePayload (unpackWords b)) ∨ (s.devTime ≤ tsyncTag (framePayload (unpackWords b)) ∧ 8 ≤ s.bcast.tagged.length)) :
    exec (.tsync tr v b true) s = .next ((s.frameTaken c (unpackWords b)).report clLink 0xC43 1 13) := by
  obtain ⟨hb, hd, -⟩ := State.frameTaken_same (s := s) (c := c) (l := unpackWords b)
  by_cases hvalid : TsyncValid (framePayload (unpackWords b))
  · rw [exec_tsync_arrives ho hn h hvalid, State.tagArrive_reports]
    rw [hd, hb]
    exact hout.resolve_left (not_not.2 hvalid)
  · rw [exec_tsync ho hn h, State.tsyncPayload_invalid (tsyncReqs_invalid hvalid)]
/-- R435, R466: DATA on a routed entry. -/
theorem exec_data_routed (h : State.Comes s tr v.toNat b c 2) (hit : s.rd (KSF_ALLOW_ITEN (s.connEntry c)) = 1) : ∃ t, exec (.data tr v b true) s = .next t ∧
    FrameStands s t c (frameSeq (unpackWords b)) (framePayload (unpackWords b)) ∧ (s.noCore (s.frameCore c) = false → t.bit (PWR_IPEND_LINES (s.frameCore c)) 6 = true) := by
  obtain ⟨hstands, hline⟩ := State.acceptFrame_routed (s := s) (l := unpackWords b) h.lt hit
  exact ⟨_, congrArg Host.Outcome.next (State.receiveAs_open h (by decide) ho hn), State.data_stands h.lt hstands, fun hcore => State.data_line State.routed_lt (hline hcore)⟩
end

/-- R442: the answers to an own JOIN. -/
theorem exec_accept (h : ComesUnrouted s tr v.toNat b c 4) (hs : s.rd (KSF_CONN_STATE c) = 1) : ∃ t, exec (.accept tr v b true) s = .next t ∧
    State.ConnOpened s t c (s.connEntry c) (v.toNat % 2 ^ 96) (frameId (unpackWords b)) 1 1 ∧ FrameStands s t c (frameSeq (unpackWords b)) (framePayload (unpackWords b)) ∧
    FieldsKept (State.connFields c ++ State.rxFields c) s t ∧ { t with regs := s.regs, conns := s.conns, pair := s.pair } = s := by
  obtain ⟨t, ht, hrest⟩ := State.accept_effect (p := framePayload (unpackWords b)) (via := v.toNat % 2 ^ 96) h.1.lt State.connEntry_lt frameId_lt (frameSeq_lt (l := unpackWords b)) h.2
  exact ⟨t, congrArg Host.Outcome.next ((State.receiveAs_accept h.1 hs).trans ht), hrest⟩
theorem exec_refuse (h : State.Comes s tr v.toNat b c 5) (hs : s.rd (KSF_CONN_STATE c) = 1) : exec (.refuse tr v b true) s = .next (s.modConn c fun x => { x with joinAt := some s.time }) :=
  congrArg Host.Outcome.next (State.receiveAs_refuse h hs)

/-- R441: what becomes of a JOIN. -/
theorem exec_join (h : Passes s tr v.toNat b 3) (he : s.classEntry tr (v.toNat % 2 ^ 96) (frameId (unpackWords b)) = some e) (hp : s.paramOk e (unpackWords b) = true) :
    exec (.join tr v b true) s = .next (s.letIn e tr (v.toNat % 2 ^ 96) (frameId (unpackWords b))) := congrArg Host.Outcome.next (State.receiveAs_join h he hp)
/-- R441: a JOIN that meets the conditions is admitted. -/
theorem State.letIn_admits (hn : s.JoinAlone e tr id) (he : e < 32) (hid : id < 2 ^ 32) (hcode : s.joinFails e tr id = 0) : ∃ t, s.letIn e tr via id = t ∧ ∀ c, s.freeConn id = some c →
    s.openConn c = false ∧ State.ConnOpened s t c e via id 0 1 ∧ State.FrameLeaves s t e (some via) (s.answerWords e [4]) ∧ ElseSame t.conn s.conn c ∧
    FieldsKept (KSF_STAT_CHKDIS :: State.connFields c) s t ∧
    { t with regs := s.regs, hwNow := s.hwNow, conns := s.conns, sent := s.sent, pair := s.pair, coll := s.coll } = s := by
  refine ⟨_, rfl, fun c hfree => ?_⟩
  obtain ⟨hc, hclosed⟩ := State.freeConn_spec hfree
  obtain ⟨t, ht, hrest⟩ := State.admit_effect (s := s) (via := via) hc he hid
  rw [State.letIn_admitted hn hcode hfree, ht]
  exact ⟨hclosed, hrest⟩
theorem State.joinFails_none (ha : s.Admits e) (hr : s.Room e) (ho : ¬s.Elsewhere tr id) : s.joinFails e tr id = 0 := by
  classical
  rw [State.joinFails_eq, if_neg (not_not.2 ha), if_neg (not_not.2 hr), if_neg ho]
/-- R441: the code of REFUSE is that of the first condition that fails. -/
theorem State.letIn_refuses {code : Nat} (hn : s.JoinAlone e tr id) (h : ¬s.Admits e ∨ ¬s.Room e ∨ s.Elsewhere tr id) (h1 : ¬s.Admits e → code = 1) (h2 : s.Admits e → ¬s.Room e → code = 2)
    (h3 : s.Admits e → s.Room e → code = 3) : s.letIn e tr via id = s.refuseJoin e via code s.usedConns := by
  classical
  by_cases ha : s.Admits e
  · by_cases hr : s.Room e
    · obtain rfl := h3 ha hr
      refine State.letIn_refused hn ?_
      rw [State.joinFails_eq, if_neg (not_not.2 ha), if_neg (not_not.2 hr), if_pos ((h.resolve_left (not_not.2 ha)).resolve_left (not_not.2 hr))]
    · obtain rfl := h2 ha hr
      refine State.letIn_refused hn ?_
      rw [State.joinFails_eq, if_neg (not_not.2 ha), if_pos hr]
  · obtain rfl := h1 ha
    refine State.letIn_refused hn ?_
    rw [State.joinFails_eq, if_pos ha]
end Sys2Proof.Machine
end

section
/-! The effect of an accepted frame (R434 to R443): each clause is the effect of one row. -/
namespace Sys2Proof.Machine
open Sys2Proof.Safety

/-- Settles O45: each kind of frame goes by its row to `frameTaken` and its effect, or by `letIn` to the admission of a connection. -/
theorem acceptedFramesTakeEffect : Obligations.AcceptedFramesTakeEffect := by
  unfold Obligations.AcceptedFramesTakeEffect
  intro s tr v b via l id p q w fine rx stands dropped opened connFields
  refine ⟨fun c hconn => ?_, fun e he hfine hparam halone => ?_⟩
  · intro e d next lost comes
    have hc : c < 64 := State.connOf_lt hconn
    have unrouted : ∀ k, comes k → ComesUnrouted s tr v.toNat b c k := fun k ⟨hf, hp, hk, hit⟩ => ⟨⟨.of_fine hf, hconn, hp, hk⟩, hit⟩
    refine ⟨fun ho hn => ⟨fun h hpartner hpaired hlink hsolo => ?_, fun h hpair => ?_, fun h => ?_, fun h => ?_, fun h => ?_⟩, fun hs => ⟨fun h => ?_, fun h => ?_⟩,
      fun ho hn hf hp hk hit => ?_⟩
    · exact exec_data_partner ho hn (unrouted 2 h) hpartner hpaired hlink hsolo
    · obtain ⟨hslots, hinp, hlost, hfields, hrest⟩ := State.data_effect (s := s) (l := l) (v := w 1) hc
      exact ⟨_, exec_data_slots ho hn (unrouted 2 h) hpair, State.setSlots_stands hc State.frameTaken_stands, hlost.trans State.frameTaken_lost, hslots, fun i => hinp i i.isLt, hfields, hrest⟩
    · exact ⟨_, exec_leave ho hn (unrouted 6 h), State.leave_effect hc⟩
    · exact exec_still_stands ho hn (unrouted 8 h)
    · intro tag reqs valid
      refine ⟨fun hv hlo hhi hroom => ?_, fun hout => ?_, fun hv hlo hhi => ?_⟩
      · rw [exec_tsync_arrives ho hn (unrouted 1 h) hv]
        obtain ⟨t, ht, hrest⟩ := State.tsync_scheduled (l := l) (x := { tag := tag, reqs := reqs }) hc hlo hhi hroom
        exact ⟨t, congrArg Host.Outcome.next ht, hrest⟩
      · rw [exec_tsync_reports ho hn (unrouted 1 h) hout]
        obtain ⟨t, ht, hrest⟩ := State.tsync_reported (s := s) (c := c) (l := l)
        exact ⟨t, congrArg Host.Outcome.next ht, hrest⟩
      · rw [exec_tsync_arrives ho hn (unrouted 1 h) hv]
        obtain ⟨t, ht, hrest⟩ := State.tsync_acts (c := c) (l := l) (x := { tag := tag, reqs := reqs }) State.tsyncList_groups hlo hhi
        exact ⟨t, congrArg Host.Outcome.next ht, hrest⟩
    · exact exec_accept (unrouted 4 h) hs
    · exact ⟨_, exec_refuse (unrouted 5 h).1 hs, (State.conn_modConn).trans (if_pos rfl), fun m hm => (State.conn_modConn).trans (if_neg hm), rfl⟩
    · obtain ⟨t, ht, hstands, hline⟩ := exec_data_routed ho hn ⟨.of_fine hf, hconn, hp, hk⟩ hit
      exact ⟨t, ht, hstands, hline⟩
  · intro active mine used room other words answer withheld noted shown code
    obtain ⟨he32, htr⟩ := State.classEntry_spec he
    have hleaf : ∀ (t : State) (pl : List Nat), State.FrameLeaves s t e (some via) (s.answerWords e pl) → answer t pl ∧ shown t pl ∧ t.coll = (noted pl).coll := by
      intro t pl h
      obtain ⟨hsent, hshown, hnoted⟩ := h
      rw [htr] at hsent hshown hnoted
      rw [State.sentFrame_eq htr] at hsent
      exact ⟨hsent, hshown, hnoted⟩
    rw [exec_join (.of_fine hfine) he hparam]
    refine ⟨fun hactive hroom hother => ?_, fun hfails => ?_⟩
    · obtain ⟨t, ht, hadmits⟩ := State.letIn_admits (via := via) halone he32 frameId_lt (State.joinFails_none hactive hroom hother)
      refine ⟨t, congrArg Host.Outcome.next ht, fun c hfree => ?_⟩
      obtain ⟨hclosed, hopened, hleaves, helse, hfields, hrest⟩ := hadmits c hfree
      obtain ⟨hanswer, hshown, hnoted⟩ := hleaf t [4] hleaves
      exact ⟨hclosed, hopened, hanswer, hshown, hnoted, helse, hfields, hrest⟩
    · have hletin := State.letIn_refuses (via := via) (code := code) halone hfails (fun h => if_pos h) (fun ha h => (if_neg (not_not.2 ha)).trans (if_pos h))
        fun ha h => (if_neg (not_not.2 ha)).trans (if_neg (not_not.2 h))
      obtain ⟨t, ht, hsent, hshown, hfields, hrest, hcoll⟩ := State.refuseJoin_effect (s := s) (e := e) (via := via) (code := code) (used := used)
      rw [htr] at hsent hshown hcoll
      rw [State.sentFrame_eq htr] at hsent
      exact ⟨t, congrArg Host.Outcome.next (hletin.trans ht), hsent, hshown, hfields, hrest, hcoll⟩
end Sys2Proof.Machine
end
